-- ==== Sys2Proof/Word.lean ====
section
/-! DEFINITION. The word types of the model. Register and object values travel as natural numbers below their width (the dictionary
holds objects of one to 4,096 bytes, R532); the types here are for the values whose wrap the manual names. -/
namespace Sys2Proof

/-- One byte. -/
abbrev Byte := BitVec 8
/-- A 16-bit field, such as LINE or FRACTION of a Sprocket position (R17). -/
abbrev Word16 := BitVec 16
/-- A 32-bit field, such as FRAME of a Sprocket position (R17). -/
abbrev Word32 := BitVec 32
/-- A 64-bit field, such as device time (R30). -/
abbrev Word64 := BitVec 64

end Sys2Proof
end

