-- ==== Sys2Proof/Syntax.lean ====
section
/-! DEFINITION. The commands of the Ixand (spec/opcode_table.json): one constructor a row, with the operands the row's rule gives it and,
for an event that happens to the part, the measurements the event brings. What a command does is in the machine alone. -/
namespace Sys2Proof

/-- Who makes a dictionary request (R534): the two management processors, the manager, an instance, or a field session in a slot. -/
inductive Requester where
  | bittern | gaffer | manager
  | guest (i : Fin 64)
  | field (s : Fin 8)
  deriving DecidableEq, Repr

/-- Who owns a surface, a queue, a slot (owner codes of R66 and R630). -/
inductive Owner where
  | guest (i : Fin 64)
  | manager | gaffer | bittern
  deriving DecidableEq, Repr

/-- A host window of BAR 2 (R305): an instance's, or the manager's. -/
inductive Window where
  | guest (i : Fin 64)
  | manager
  deriving DecidableEq, Repr

/-- What a register write names: a dictionary object (index × 256 + subindex, with the request's type code and value length, R530 to
R533), a register of a host window (R305, R326, R566), of a mailbox block (R410) or of the boot-visible status block (R614), by a 64-bit
(wide) or a 32-bit access. -/
inductive WriteTarget where
  | object (addr : Fin 16777216) (type : Fin 256) (length : Nat)
  | window (w : Window) (offset : Fin 65536) (wide : Bool)
  | mailbox (m : Fin 16) (offset : Fin 65536) (wide : Bool)
  | boot (port : Fin 4) (offset : Fin 4096) (wide : Bool)
  deriving DecidableEq, Repr

/-- What a DisplayPort or eDP sink reports at an attach (R227, R229, R232, R237, R239, R241, R243). `modes` are timing entries of R180
as 256-bit values, the preferred one first and the rest in report order. -/
structure SinkReport where
  modes : List Nat := []
  maxLanes : Nat := 0
  maxRate : Nat := 0
  adaptiveSync : Bool := false
  dscDecoder : Bool := false
  dscMaxBpp : Nat := 0
  dscSlices : List Nat := []
  dscMaxSliceWidth : Nat := 0
  panelReplay : Bool := false
  psr2 : Bool := false
  hdrMetadata : Bool := false
  deriving DecidableEq, Repr

/-- How a DMA transfer ended (R311, R370, R382): all bytes moved; a host-side error at a byte offset; a poisoned line; the wrong key slot. -/
inductive TransferResult where
  | done
  | hostFault (offset : Nat)
  | poisoned (offset : Nat)
  | ownerMismatch
  deriving DecidableEq, Repr

/-- What a Fen cluster's work item has done when it ends (R255, R260, R271, R276, R286): for each attachment stored or resolved its tile's
bytes inside the render area, row by row, as stored and as resolved; shader writes (surface, offset, bytes); feedback bits (surface, byte offset,
bit); cluster time; and what an access met. -/
structure WorkResult where
  tiles : List (Nat × List (BitVec 8) × List (BitVec 8)) := []
  writes : List (Nat × Nat × List (BitVec 8)) := []
  feedback : List (Nat × Nat × Nat) := []
  timeNs : Nat := 0
  robust : Bool := false
  poisoned : Bool := false
  /-- An access that presented a wrong key slot: device DRAM address and slot (R382). -/
  wrongSlot : Option (Nat × Nat) := none
  deriving DecidableEq, Repr

/-- How the translation of one stage that missed the cache ended (R289, R292): its translation's bytes, or why it failed. -/
inductive StageResult where
  | translated (bytes : Nat)
  | invalid
  | unsupported
  deriving DecidableEq, Repr


/-- Who read the line of an uncorrectable DRAM error (R369, R374): a job or transfer by its item, a Matte fetch by engine and layer slot, the scan-out
of a DRAM-fed output, a processor core, Grip's copy of a surface, or the controller's copy to the spare. -/
inductive DramReader where
  | item (id : Nat)
  | layer (e : Fin 12) (slot : Fin 16)
  | scan (k : Fin 12)
  | core
  | migration (sf : Fin 16384)
  | spareCopy
  deriving DecidableEq, Repr

/-- What a shadow-sampler sweep has found (R364, R365); a stale one saw too few reads. -/
structure SweepResult where
  left : Nat := 0
  right : Nat := 0
  worstLeft : Nat := 0
  worstRight : Nat := 0
  disagree : Nat := 0
  stale : Bool := false
  deriving DecidableEq, Repr

/-- A boot slot's image as the ROM reads it (R402, R403): whether the header is valid and the flash reads, the SHA-384 of PUBLIC_KEY, whether
SIGNATURE verifies, SECURITY_VERSION, the manifest's digest, for each entry KIND, LENGTH, DIGEST and whether its bytes match it, whether GAFFER_FW
carries Swelek's signature, and the 1,024 bytes of ASSIGNMENT. -/
structure BootImage where
  header : Bool := true
  readable : Bool := true
  keyHash : Nat := 0
  signed : Bool := true
  version : Nat := 0
  digest : Nat := 0
  entries : List (Nat × Nat × Nat × Bool) := []
  gafferSigned : Bool := true
  assignment : Nat := 0
  deriving DecidableEq, Repr


/-- What a block boundary brings for an input stream: HOST_POS as the host has written it, or the IO address of a translation or completion error
on the ring or the status area; and the block's 32 frames, interleaved, as they lie in the ring or in the slots, or after the decimation filter. -/
structure AudioIn where
  stream : Fin 60
  host : Nat ⊕ Nat := .inl 0
  samples : List Nat := []
  deriving DecidableEq, Repr

/-- What a block boundary finds at a bus's capture ring: HOST_POS, or the IO address of an error. -/
structure AudioOut where
  bus : Fin 16
  host : Nat ⊕ Nat := .inl 0
  deriving DecidableEq, Repr

/-- What the display drives during a scan window (R453, R456): the window's lines and how many of them are active lines, the driven rows of each of its
four quarters, and the whole previous (or, in GLASS_HOLD, the last) frame; a row is its pixels' R, G and B widened to 10 bits. -/
structure ScanPixels where
  lines : Nat := 0
  active : Nat := 0
  quarters : List (List (List (Nat × Nat × Nat))) := []
  frame : List (List (Nat × Nat × Nat)) := []
  deriving DecidableEq, Repr

/-- A channel of LDP: a session slot, or a dictionary window (R534, R566). -/
inductive LdpChannel where
  | session (n : Fin 8)
  | window (w : Window)
  deriving DecidableEq, Repr

/-- What Gaffer finds on a channel at start-up (R363, R648): whether the PHY loopback passes, the read and write delays that bring-up training gives
where it runs, and the write margins LEFT and RIGHT of each lane, as entries rank × 4 + lane. -/
structure ChannelTraining where
  loopback : Bool
  rd : Nat
  wr : Nat
  margins : List (Nat × Nat)
  deriving DecidableEq, Repr

/-- The commands, in the order of spec/opcode_table.json. -/
inductive Instr where
  /-- REGISTER_WRITE (R536): A write to a dictionary object or register that has no row of its own is checked in order and, if accepted, changes the value in force. -/
  | registerWrite (rq : Requester) (target : WriteTarget) (v : Nat)
  /-- SPK_LEAD_OUTPUT_WRITE (R14): A write of SPK_LEAD_OUTPUT is checked for fitness and, if accepted, starts coasting on the new lead until re-lock. -/
  | spkLeadOutputWrite (rq : Requester) (v : Fin 256)
  /-- LEAD_LINE_START (R20): A real line start of the lead raster advances LINE and resets FRACTION while Sprocket is locked. -/
  | leadLineStart (periodPs : Nat) (frameStart : Bool)
  /-- COAST_LINE_TICK (R22): While coasting, each nominal line period advances Sprocket by one line and ends coast frames at the nominal vertical total. -/
  | coastLineTick
  /-- RELOCK (R23): At the first lead frame start after coasting conditions end, Sprocket ends the current frame, re-locks and logs the lines of the last coast frame. -/
  | relock
  /-- DTIME_SYNC_MESSAGE (R32): An 802.1AS message on the sync port disciplines device time by slewing, or by a forward step beyond the threshold. -/
  | dtimeSyncMessage (port : Fin 2) (offset : Int) (ratePpm : Int)
  /-- DTIME_SYNC_LOSS (R33): Loss of 802.1AS synchronisation puts device time into HOLDOVER at its last disciplined rate. -/
  | dtimeSyncLoss
  /-- SLOT_ARM (R48): Setting SLOT_CONTROL.ARM checks action, argument and position and arms the slot, refuses it, or fires it at once when past. -/
  | slotArm (rq : Requester) (n : Fin 256) (fireIfPast : Bool) (repeats : Bool)
  /-- SLOT_DISARM (R49): Clearing SLOT_CONTROL.ARM disarms the slot and sets SLOT_STATE IDLE. -/
  | slotDisarm (rq : Requester) (n : Fin 256)
  /-- LATCH_OUTPUT (R44): A slot firing with LATCH_OUTPUT makes the named output take its extended-blank decision at the slot's position. -/
  | latchOutput (n : Fin 256) (line : Nat) (progress : List (Bool × Nat))
  /-- PREEMPT_RASTER (R293): A slot firing with PREEMPT_RASTER stops binning and new waves of the instance and begins saving its context at wave boundaries. -/
  | preemptRaster (n : Fin 256)
  /-- REFRESH_ALL_BANK (R358): A slot firing with REFRESH_ALL_BANK issues an all-bank refresh on the channel, waiting while the debt is at its floor. -/
  | refreshAllBank (n : Fin 256)
  /-- TOUCH_SCAN (R446): A slot firing with TOUCH_SCAN starts one scan window of a front end or the key bank, or has no effect if a window is running. -/
  | touchScan (n : Fin 256)
  /-- HAPTIC_START (R493): A slot firing with HAPTIC_START triggers the effect on the channel as a normal or critical trigger. -/
  | hapticStart (n : Fin 256)
  /-- DAILIES_SLICE (R642): A slot firing with DAILIES_SLICE starts the slice if its unit is idle, saving disturbed state, or declines it. -/
  | dailiesSlice (n : Fin 256)
  /-- RAISE_DOORBELL (R414): A slot firing with RAISE_DOORBELL sets the doorbell bit as a ring, or completes with NO_EFFECT when the receiver cannot take it. -/
  | raiseDoorbell (n : Fin 256)
  /-- NONE (R44): A slot firing with action NONE completes with NO_EFFECT and is still recorded and counted. -/
  | noneAction (n : Fin 256)
  /-- SURFACE_INTENT (R56): A surface intent declaring a new surface is checked, placed by Grip, and completes with its surface number. -/
  | surfaceIntent (o : Owner) (q : Fin 16)
  /-- SURFACE_REVISION (R60): A surface intent naming an existing surface without RELEASE revises readers, engines, rates and criticality for the next placement decision. -/
  | surfaceRevision (o : Owner) (q : Fin 16)
  /-- SURFACE_RELEASE (R59): A surface intent with RELEASE marks the surface releasing, refusing new users, until no binding or resident job refers to it. -/
  | surfaceRelease (o : Owner) (q : Fin 16)
  /-- SURFACE_RELEASE_COMPLETE (R59): Once the last binding or job referring to a releasing surface ends, the surface is freed and the release intent completes. -/
  | surfaceReleaseComplete (sf : Fin 16384)
  /-- OUTPUT_INTENT (R72): An output intent is checked and its Reel buffers are allocated, evicting surfaces or moving outputs to DRAM-fed scan-out as needed. -/
  | outputIntent (o : Owner) (q : Fin 16)
  /-- EPOCH_END (R79): At the end of each 256-tick epoch Grip samples service times, judges unit health, credits instance balances and triggers load balancing. -/
  | epochEnd (samples : List (Fin 92 × Nat)) (rates : List (Fin 16384 × Nat)) (utilisation : List (Fin 8 × Nat)) (durationNs : Nat)
  /-- MIGRATION_COPY_DONE (R89): A migration copy reaches the end of the surface, leaving the migration waiting for cut-over and starting the next copy. -/
  | migrationCopyDone (sf : Fin 16384)
  /-- MIGRATION_OLD_FREED (R89): When no user started before cut-over refers to the old placement, Grip frees it and sets STATE PLACED. -/
  | migrationOldFreed (sf : Fin 16384)
  /-- CRIT_RECTS_WRITE (R107): A write of an output's critical rectangles is checked and takes effect at the output's next latch point. -/
  | critRectsWrite (rq : Requester) (k : Fin 12) (v : Nat)
  /-- SUBST_TABLE_WRITE (R126): A write of SUBST_TABLE is checked whole and replaces every descriptor at once or is refused. -/
  | substTableWrite (rq : Requester) (v : Nat)
  /-- REEL_SCAN_MODE_WRITE (R122): A write of REEL_SCAN_MODE sets MODE_PENDING and changes the output's scan mode at its next latch point. -/
  | reelScanModeWrite (rq : Requester) (k : Fin 12) (v : Fin 256)
  /-- LINE_FETCH (R116): At the start of line y minus 2 the output channel fetches active line y from its buffer. -/
  | lineFetch (k : Fin 12) (y : Nat) (linesDone : List Nat) (firstMissing : Option Nat) (badWord : Option (Fin 3072))
  /-- LAYER_DESCRIPTOR (R145): A layer descriptor is checked and written into the shadow of its output position. -/
  | layerDescriptor (o : Owner) (q : Fin 16) (substOk : Bool)
  /-- COLOUR_SHADOW_WRITE (R171): A write of a shadowed colour object goes to the shadow and applies at the latch point of the next commit. -/
  | colourShadowWrite (rq : Requester) (addr : Fin 16777216) (v : Nat)
  /-- OUT_LUT3D_SWAP (R166): A write of 1 to OUT_LUT3D_SWAP requests a 3D LUT bank swap at the latch of the next commit, locking the block objects meanwhile. -/
  | outLut3dSwap (rq : Requester) (k : Fin 12) (v : Fin 256)
  /-- COMMIT (R194): A commit descriptor is checked and sets COMMIT for the output, waking it if it is in GLASS_HOLD. -/
  | commit (o : Owner) (q : Fin 16)
  /-- OUTPUT_LATCH_POINT (R189): At the start of line V_ACTIVE the output completes shown commits and, at this latch opportunity, latches pending commits into a free buffer. -/
  | outputLatchPoint (k : Fin 12)
  /-- DECISION_POINT (R192): At a decision point the output latches pending commits if allowed, then goes, repeats or extends its blanking. -/
  | decisionPoint (k : Fin 12) (line : Nat) (progress : List (Bool × Nat))
  /-- HOLD_ENTER (R211): After the entry frame's last active line the channel, binding and PHY stop and the output is in GLASS_HOLD. -/
  | holdEnter (k : Fin 12)
  /-- FRAME_START (R113): At an output's frame start the buffers exchange roles, the frame counter advances and the flip record is written when a composition is shown. -/
  | frameStart (k : Fin 12)
  /-- COMPOSITION_COMPLETE (R113): A Matte engine finishes writing a composition, making it ready and closing any guard window it satisfies. -/
  | compositionComplete (e : Fin 12) (durationNs : Nat)
  /-- ENGINE_FAULT (R142): An engine reports an internal fault; it becomes FAILED and the commit is bound again and recomposed. -/
  | engineFault (e : Fin 12)
  /-- OUT_LATCH_MODE_WRITE (R201): A write of OUT_LATCH_MODE is checked against the writer and current holds and changes the mode at the next latch point. -/
  | outLatchModeWrite (rq : Requester) (k : Fin 12) (v : Fin 256)
  /-- OUT_PAIR_LOCK_WRITE (R206): A write of OUT_PAIR_LOCK is checked and locks or unlocks output pairs. -/
  | outPairLockWrite (rq : Requester) (v : BitVec 32)
  /-- OUT_ENABLE_WRITE (R217): A write of OUT_ENABLE stops the output to OFF or starts it when its port is attached. -/
  | outEnableWrite (rq : Requester) (k : Fin 12) (v : Fin 256)
  /-- OUT_PORT_WRITE (R224): A write of OUT_PORT routes an output to a port, handling an already present port as a debounced plug. -/
  | outPortWrite (rq : Requester) (k : Fin 12) (v : Fin 256)
  /-- ATTACH_EDGE (R214): A change of a port's attach level starts or ends debounce timing. -/
  | attachEdge (p : Fin 14) (level : Bool)
  /-- SINK_IRQ (R230): A low HPD pulse shorter than 2 ms is IRQ_HPD; the port reads the sink's vector and link status and logs it. -/
  | sinkIrq (p : Fin 14) (vector : Fin 256) (lossOfLock : Bool) (selfRefreshError : Bool)
  /-- UNPLUG_DEBOUNCE (R214): An attach level low for 2 ms puts the output into UNPLUG_DEBOUNCE. -/
  | unplugDebounce (p : Fin 14)
  /-- HOTPLUG_OUT (R215): An unplug debounced for 100 ms stops the output, fails its commits, frees its buffers and waits for a plug. -/
  | hotplugOut (p : Fin 14)
  /-- HOTPLUG_IN (R216): A plug debounced for 100 ms fills sink modes and starts an enabled output: buffers allocated and link training begun. -/
  | hotplugIn (p : Fin 14) (sink : SinkReport)
  /-- TRAIN_FAIL (R233): A training attempt fails or reaches PORT_ATTEMPT_LIMIT and the next candidate is tried. -/
  | trainFail (p : Fin 14) (phase : Fin 7)
  /-- LINK_UP (R233): A training attempt or DSI-2 start succeeds, the link is up and the output's raster starts at line V_ACTIVE. -/
  | linkUp (p : Fin 14)
  /-- TRAIN_RETRY (R234): After PORT_RETRY_INTERVAL an exhausted port runs its candidate list again. -/
  | trainRetry (p : Fin 14)
  /-- LINK_LOST (R236): A trained link is lost while its output is ACTIVE; the port retrains while the output runs on. -/
  | linkLost (p : Fin 14)
  /-- PORT_RETRAIN (R236): A write of 1 to PORT_RETRAIN retrains the port from the top of the candidate list. -/
  | portRetrain (rq : Requester) (p : Fin 14) (v : Fin 256)
  /-- QUEUE_DOORBELL (R315): A write of Qq.DOORBELL offers descriptors up to a new tail, or is refused with a recorded reason. -/
  | queueDoorbell (w : Window) (q : Fin 16) (t : BitVec 32)
  /-- QUEUE_ENABLE (R317): A write of 1 to Qq.CONTROL.ENABLE resumes fetching from Qq.HEAD. -/
  | queueEnable (w : Window) (q : Fin 16) (sizeLog2 : Fin 16)
  /-- QUEUE_DISABLE (R317): A write of 0 to Qq.CONTROL.ENABLE stops fetching while fetched descriptors run on. -/
  | queueDisable (w : Window) (q : Fin 16) (sizeLog2 : Fin 16)
  /-- QUEUE_FETCH (R312): The Ixand fetches the next offered descriptor when the completion ring can take its record, failing malformed headers. -/
  | queueFetch (o : Owner) (q : Fin 16) (d : BitVec 512)
  /-- NOP (R308): A NOP descriptor completes with OK. -/
  | nop (o : Owner) (q : Fin 16)
  /-- FENCE (R310): A FENCE descriptor holds its queue until every earlier descriptor and its writes complete. -/
  | fence (o : Owner) (q : Fin 16)
  /-- FENCE_COMPLETE (R310): When all earlier work of its queue is complete, a FENCE rings its doorbell if enabled and completes. -/
  | fenceComplete (o : Owner) (q : Fin 16)
  /-- DMA_COPY (R311): A DMA_COPY descriptor is checked and its transfer between host memory and a surface begins when released. -/
  | dmaCopy (o : Owner) (q : Fin 16)
  /-- DMA_COMPLETE (R311): A DMA transfer finishes or faults and its completion record is written. -/
  | dmaComplete (j : Nat) (result : TransferResult) (data : List (BitVec 8)) (engineNs : Nat)
  /-- SLOT_REQUEST (R325): A SLOT_REQUEST asks Gaffer to arm a RAISE_DOORBELL slot for the instance and completes with the slot number. -/
  | slotRequest (o : Owner) (q : Fin 16)
  /-- SLOT_REQUEST_CANCEL (R325): A SLOT_REQUEST with CANCEL disarms the instance's named slot and completes at once. -/
  | slotRequestCancel (o : Owner) (q : Fin 16)
  /-- INST_CREATE (R301): The manager's INST_CREATE creates an instance with a fresh key slot, context area and window. -/
  | instCreate (o : Owner) (q : Fin 16)
  /-- INST_CONTROL_OP_RESET (R330): An INST_CONTROL descriptor with OP RESET starts the drain of an instance or the manager. -/
  | instControlOpReset (o : Owner) (q : Fin 16)
  /-- INST_CONTROL_OP_REMOVE (R330): An INST_CONTROL descriptor with OP REMOVE starts the drain and removal of an instance. -/
  | instControlOpRemove (o : Owner) (q : Fin 16)
  /-- INST_CONTROL_RESET (R329): A write of 1 to INST_CONTROL.RESET in an instance window starts a reset of that instance. -/
  | instControlReset (w : Window)
  /-- DRAIN_END (R330): When the drain time expires or nothing is in flight, unstarted items are squashed, resident jobs stopped and withdrawal from the glass begins. -/
  | drainEnd (w : Window)
  /-- RESET_DONE (R330): When withdrawal and transactions are done, the key is retired, resources freed and the instance re-keyed or removed. -/
  | resetDone (w : Window)
  /-- FUNCTION_LEVEL_RESET (R332): A Function Level Reset of a host port removes every instance bound there with no drain time. -/
  | functionLevelReset (hp : Fin 4) (busMaster : Bool)
  /-- INST_LAYER_GRANTS_WRITE (R324): A write of INST_LAYER_GRANTS grants or revokes layer positions, turning revoked positions OFF and committing. -/
  | instLayerGrantsWrite (rq : Requester) (i : Fin 64) (v : Nat)
  /-- DIRTY_SWAP (R328): A write of 1 to DIRTY_CONTROL.SWAP requests a buffer cut-over at the next timestamp tick. -/
  | dirtySwap (i : Fin 64)
  /-- DIRTY_CUTOVER (R328): At the tick after a swap request, SWAP_DONE clears, the cut-over is stamped and ACTIVE_BUF toggles. -/
  | dirtyCutover (i : Fin 64)
  /-- DIRTY_SWAP_DONE (R328): Once every bit of the old buffer has reached host memory, SWAP_DONE is set. -/
  | dirtySwapDone (i : Fin 64)
  /-- JOB_RELEASE (R320): When a resident place is free the scheduler releases the next waiting job by balance and round-robin, making it resident. -/
  | jobRelease
  /-- RENDER_JOB (R262): A RENDER_JOB descriptor is checked and waits for release by the instance scheduler. -/
  | renderJob (o : Owner) (q : Fin 16)
  /-- COMPUTE_JOB (R267): A COMPUTE_JOB descriptor is checked and waits for release by the instance scheduler. -/
  | computeJob (o : Owner) (q : Fin 16)
  /-- PIPELINE_CREATE (R289): A PIPELINE descriptor with OP CREATE validates its modules and starts translation. -/
  | pipelineCreate (o : Owner) (q : Fin 16)
  /-- TRANSLATION_DONE (R292): Gaffer finishes translating a pipeline's stages and the CREATE completes with a handle or a failure. -/
  | translationDone (o : Owner) (q : Fin 16) (results : List StageResult) (shared : Nat)
  /-- PIPELINE_DESTROY (R287): A PIPELINE descriptor with OP DESTROY frees the handle once no resident job names it. -/
  | pipelineDestroy (o : Owner) (q : Fin 16)
  /-- PB_GRANT (R279): A PB_GRANT adds pages of an untyped surface to the submitter's parameter buffer pool. -/
  | pbGrant (o : Owner) (q : Fin 16)
  /-- PB_REVOKE (R279): A PB_GRANT with REVOKE removes pages from the pool, completing once none holds lists. -/
  | pbRevoke (o : Owner) (q : Fin 16)
  /-- SIG_INVALIDATE (R278): A SIG_INVALIDATE fills tile signatures with 0xFF after earlier jobs of its queue complete. -/
  | sigInvalidate (o : Owner) (q : Fin 16)
  /-- TILE_BIND (R283): A TILE_BIND binds DRAM to sparse surface tiles after earlier jobs of its queue complete. -/
  | tileBind (o : Owner) (q : Fin 16)
  /-- TILE_UNBIND (R283): A TILE_BIND with UNBIND releases tiles of a sparse surface. -/
  | tileUnbind (o : Owner) (q : Fin 16)
  /-- BIN_DRAW_RECORD (R273): Binning reaches a draw record, checks it and appends its primitives to tile lists. -/
  | binDrawRecord (j : Nat) (prims : List (Nat × List Nat))
  /-- PARTIAL_PASS_END (R281): After a partial pass's last tile its pages return to their pools and binning resumes. -/
  | partialPassEnd (j : Nat)
  /-- BINNING_END (R255): Binning for a pass ends and all the pass's tiles enter the shared queue. -/
  | binningEnd (j : Nat)
  /-- WORK_ITEM_START (R255): A free Fen cluster takes the first queued work item its tile memory can hold. -/
  | workItemStart (c : Fin 24)
  /-- WORK_ITEM_DONE (R255): A cluster finishes a tile or compute item, storing or comparing signatures. -/
  | workItemDone (c : Fin 24) (r : WorkResult)
  /-- JOB_COMPLETE (R258): A job's last item ends; its report and completion record are written. -/
  | jobComplete (j : Nat)
  /-- CLUSTER_FAULT (R260): A cluster reports an internal fault; it becomes FAILED, its tile reruns elsewhere or its compute job fails. -/
  | clusterFault (c : Fin 24)
  /-- JOB_TIMEOUT (R260): A job resident longer than RAS_JOB_TIMEOUT of running time fails and its pages are freed. -/
  | jobTimeout (j : Nat)
  /-- PREEMPT_SAVE_DONE (R293): The context save of a pre-empted instance completes and its clusters take other work. -/
  | preemptSaveDone (i : Fin 64) (ns : Nat)
  /-- INSTANCE_RESUME (R295): A suspended instance is released and its context is restored to continue its waves. -/
  | instanceResume (i : Fin 64)
  /-- GUARD_EXPIRED (R338): A guard window open for OUT_GUARD_MAX closes and its victims may resume. -/
  | guardExpired (k : Fin 12)
  /-- REFI_TICK (R356): Each tREFI of device time raises a channel's refresh debt and issues refreshes under the window rules. -/
  | refiTick (m : Fin 8)
  /-- HORIZONTAL_BLANKING_START (R357): At a DRAM-fed output's horizontal or vertical blanking its channel issues refreshes that fit. -/
  | horizontalBlankingStart (k : Fin 12) (vertical : Bool) (roomNs : Nat)
  /-- PER_BANK_REFRESH (R359): In COMPATIBILITY mode each interval issues a per-bank refresh to the next bank pair. -/
  | perBankRefresh (m : Fin 8)
  /-- MR4_POLL (R360): Every MEM_MR4_POLL the controller reads mode registers, adjusting refresh rate and detecting command errors. -/
  | mr4Poll (m : Fin 8) (mr4 : List Nat) (differs : List Bool) (copied : Nat)
  /-- MARGIN_SWEEP (R364): Every MEM_SWEEP_PERIOD a channel starts a shadow-sampler sweep of its next lane and rank. -/
  | marginSweep (m : Fin 8)
  /-- SWEEP_DONE (R366): A sweep ends, its report is written, and Gaffer may re-centre the read delays. -/
  | sweepDone (m : Fin 8) (result : SweepResult)
  /-- CORRECTED_ERROR (R368): A corrected DRAM error is counted and may retire the rank beyond the limit. -/
  | correctedError (r : Fin 16) (genuine : Bool)
  /-- CE_SUMMARY (R368): Once per minute each rank with corrected errors in that minute is summarised. -/
  | ceSummary
  /-- UNCORRECTABLE_ERROR (R369): A read finds an uncorrectable error: the line is poisoned, the reader fails and the rank is degraded. -/
  | uncorrectableError (m : Fin 8) (addr : Nat) (reader : DramReader) (genuine : Bool) (copied : Nat)
  /-- SPARE_DONE (R374): The copy pointer reaches the end of the rank; the failed rank is RETIRED and the spare takes its place. -/
  | spareDone
  /-- LOCKSTEP_MISMATCH (R390): Bittern's two cores differ and Bittern restarts alone. -/
  | lockstepMismatch (genuine : Bool) (queued : List (Nat × Nat))
  /-- BIT_SRAM_UE (R392): An uncorrectable error in Bittern's private SRAM outside the key store restarts Bittern. -/
  | bitSramUe (genuine : Bool) (queued : List (Nat × Nat))
  /-- BIT_WATCHDOG_EXPIRY (R406): Bittern's watchdog expires and Bittern restarts alone. -/
  | bitWatchdogExpiry (genuine : Bool) (queued : List (Nat × Nat))
  /-- BIT_RESTART_REQ (R406): A write of 1 to BIT_RESTART_REQ restarts Bittern with a cause set by the writer. -/
  | bitRestartReq (rq : Requester) (v : Fin 256) (queued : List (Nat × Nat))
  /-- BIT_ROM_START (R407): Ten microseconds after a restart trigger Bittern's ROM starts measuring the image slot. -/
  | bitRomStart
  /-- MEASUREMENT_DONE (R403): The ROM finishes measuring a slot: on a pass it loads images and locks, on a failure it tries the other slot or halts. -/
  | measurementDone (image : BootImage)
  /-- BIT_READY (R407): Bittern's firmware writes BIT_READY, BIT_STATE becomes RUNNING and mailboxes serve Bittern again. -/
  | bitReady (rq : Requester) (v : Fin 256)
  /-- PUSH (R411): A write to PUSH appends a word to a mailbox, or replaces the newest when full, or feeds a guarding BUS unit. -/
  | mbPush (rq : Requester) (m : Fin 16) (word : BitVec 32) (stagingUe : Bool)
  /-- RELEASE (R413): A write to RELEASE drops the oldest words of a mailbox. -/
  | mbRelease (rq : Requester) (m : Fin 16) (n : Nat)
  /-- RING (R414): A write to RING sets doorbell bits with release semantics and notifies the receiver, waking or refusing a powered-down one. -/
  | mbRing (rq : Requester) (m : Fin 16) (bits : BitVec 32)
  /-- DOORBELL_WRITE (R414): A write of a mailbox DOORBELL register changes MASK or clears PENDING, notifying on unmasking a pending bit. -/
  | doorbellWrite (rq : Requester) (m : Fin 16) (v : BitVec 64)
  /-- CU_ENABLE (R439): A write of 1 to CU_CONTROL.ENABLE checks the configuration and enters SYNC. -/
  | cuEnable (rq : Requester) (u : Fin 32) (v : BitVec 32)
  /-- CU_DISABLE (R438): A write of 0 to CU_CONTROL.ENABLE turns the unit OFF and ends any override. -/
  | cuDisable (rq : Requester) (u : Fin 32) (v : BitVec 32)
  /-- CU_RESTORE (R432): A write of 1 to CU_CONTROL.RESTORE ends TRIPPED; the override ends at the next latch. -/
  | cuRestore (rq : Requester) (u : Fin 32) (v : BitVec 32)
  /-- CU_INJECT (R440): A write of CU_INJECT arms a fault to be judged in the unit's next item. -/
  | cuInject (rq : Requester) (u : Fin 32) (v : Fin 256)
  /-- CU_STREAM_JUDGE (R429): At the end of a region's last line a STREAM unit judges the frame's check value and alive counter. -/
  | cuStreamJudge (u : Fin 32) (pixels : Option (List (Nat × Nat × Nat))) (refUe : Bool) (corrected : Bool)
  /-- CU_LAYER_JUDGE (R429): When a layer's crop fetch completes a LAYER unit judges the composition. -/
  | cuLayerJudge (u : Fin 32) (refUe : Bool) (corrected : Bool)
  /-- CU_WORD_GAP_TIMEOUT (R435): More than 1 ms between two words of a bus message makes it malformed. -/
  | cuWordGapTimeout (u : Fin 32)
  /-- CU_MSG_TIMEOUT (R437): CU_MSG_TIMEOUT elapses without a message appended and the result is FROZEN. -/
  | cuMsgTimeout (u : Fin 32)
  /-- RF_ENABLE (R460): A write of 1 to RF_CONTROL.ENABLE is checked and the front end enters BASELINING. -/
  | rfEnable (rq : Requester) (p : Fin 2) (v : BitVec 32)
  /-- RF_DISABLE (R478): A write of 0 to RF_CONTROL.ENABLE ends the front end after its current window with UPs for standing contacts. -/
  | rfDisable (rq : Requester) (p : Fin 2) (v : BitVec 32)
  /-- KB_ENABLE (R474): A write of KB_ENABLE turns the key bank on into BASELINING, or off after its current scan. -/
  | kbEnable (rq : Requester) (v : Fin 256)
  /-- SELF_STARTED_WINDOW (R448): In extended blanking the front end starts a window by itself after floor(V/n) lines. -/
  | selfStartedWindow (p : Fin 2)
  /-- SCAN_COMPLETE (R470): A scan window ends; cancellation, baselines, fit, blobs and contacts are computed, a report written and triggers handed to Quag. -/
  | scanComplete (p : Fin 2) (counts : List Nat) (selfCounts : List Nat) (pixels : ScanPixels)
  /-- SUSPECT_ACCEPTED (R462): Nodes still SUSPECT RF_SUSPECT_ACCEPT seconds after RUNNING are cleared with baselines unchanged. -/
  | suspectAccepted (u : Fin 3)
  /-- LISTEN_SAMPLE (R451): Once per frame the front end takes a listen-only sample of one band; after each sweep window 0 may move. -/
  | listenSample (p : Fin 2) (sample : Int)
  /-- KEY_SCAN_COMPLETE (R475): A key scan ends; baselines, candidates, presses and releases are judged and a report written. -/
  | keyScanComplete (counts : List Nat)
  /-- WAKE_SCAN (R477): In S4, every 50 ms an enabled front end runs a wake scan that may raise a touch wake. -/
  | wakeScan (p : Fin 2) (groups : List Int)
  /-- HAP_ENABLE (R485): A write of HAP_CONTROL.ENABLE is checked and enables the channel, calibrating when required, or disables it aborting effects. -/
  | hapEnable (rq : Requester) (c : Fin 8) (v : Fin 256)
  /-- CALIBRATE (R486): A write of 1 to HAP_CONTROL.CALIBRATE starts a resonance sweep. -/
  | calibrate (rq : Requester) (c : Fin 8) (v : Fin 256)
  /-- CAL_DONE (R486): A resonance sweep completes and sets HAP_RES_HZ, or fails keeping the previous value. -/
  | calDone (c : Fin 8) (coarse : Nat) (best : Nat) (peakMv : Nat)
  /-- HAP_PLAY (R493): A write of HAP_PLAY issues a normal trigger or STOP on the channel under the meeting rules. -/
  | hapPlay (rq : Requester) (c : Fin 8) (v : Fin 256)
  /-- HAP_CRIT_PLAY (R496): Bittern's write of HAP_CRIT_PLAY issues a critical trigger that aborts whatever plays and starts at once. -/
  | hapCritPlay (rq : Requester) (c : Fin 8) (v : Fin 256)
  /-- HALF_CYCLE_END (R490): A drive half-cycle ends with its sense gap, advancing the effect through overdrive, sustain and braking. -/
  | halfCycleEnd (c : Fin 8) (peakMv : Nat) (crossing : Option Int)
  /-- PULSE_GAP_END (R490): An effect's GAP between pulses elapses and the next pulse starts. -/
  | pulseGapEnd (c : Fin 8)
  /-- BLOCK_BOUNDARY (R505): At each block boundary a Foley domain takes and delivers 32-sample blocks, mixes buses and applies pending writes and ramps. -/
  | blockBoundary (d : Fin 11) (rateHz : Nat) (ins : List AudioIn) (outs : List AudioOut)
  /-- TDM_CLOCK_LOST (R503): No frame sync for 4 frame periods puts a slave port's streams and buses into CLOCK_LOST. -/
  | tdmClockLost (p : Fin 8)
  /-- TDM_CLOCK_BACK (R503): Frame syncs return for 16 frames and the port's streams and buses resume. -/
  | tdmClockBack (p : Fin 8) (blocks : Nat)
  /-- AUD_STREAM_CFG_WRITE (R507): A write of AUD_STREAM_CFG is checked and turns a stream on or off or changes it at the next block boundary. -/
  | audStreamCfgWrite (rq : Requester) (u : Fin 64) (v : BitVec 32)
  /-- AUD_ROUTE_TABLE_WRITE (R511): A write of the route table is checked whole, allocating or freeing bridges. -/
  | audRouteTableWrite (rq : Requester) (v : Nat)
  /-- CHIME_PLAY (R522): A write of CHIME_PLAY requests a chime on a generator chosen by priority, or refuses it. -/
  | chimePlay (rq : Requester) (v : Fin 256)
  /-- CHIME_STOP (R522): A write of CHIME_STOP ends the named chime or every chime at the next block boundary. -/
  | chimeStop (rq : Requester) (v : Fin 256)
  /-- CHIME_END (R522): A chime finishes its repeats, ends DONE and ducking release begins. -/
  | chimeEnd (g : Fin 4)
  /-- READ (R544): An LDP READ returns the value of one object or a range of it. -/
  | ldpRead (ch : LdpChannel)
  /-- WRITE (R544): An LDP WRITE writes one object, or stages one part of an OCTETS object. -/
  | ldpWrite (ch : LdpChannel)
  /-- READ_BLOCK (R545): An LDP READ_BLOCK reads a range of subindexes with a status per record. -/
  | ldpReadBlock (ch : LdpChannel)
  /-- WRITE_BLOCK (R545): An LDP WRITE_BLOCK checks every record then writes them all in order, or none. -/
  | ldpWriteBlock (ch : LdpChannel)
  /-- SUBSCRIBE (R553): An LDP SUBSCRIBE creates an ON_CHANGE or PERIODIC subscription. -/
  | ldpSubscribe (ch : LdpChannel)
  /-- UNSUBSCRIBE (R553): An LDP UNSUBSCRIBE ends a subscription. -/
  | ldpUnsubscribe (ch : LdpChannel)
  /-- NOTIFY (R554): A subscription's interval or change sends a NOTIFY with the coalesced value. -/
  | ldpNotify (sub : Nat) (lost : Nat)
  /-- COMMIT_REQUEST (R541): An LDP COMMIT snapshots every STORED object and starts writing the image through Bittern's flash service. -/
  | commitRequest (ch : LdpChannel)
  /-- COMMIT_DONE (R541): The image write completes with its CHECK read back, or fails leaving the previous image. -/
  | commitDone (verified : Bool)
  /-- RESTORE_DEFAULTS (R546): An LDP RESTORE_DEFAULTS writes defaults over an index range with the requester's rights. -/
  | restoreDefaults (ch : LdpChannel)
  /-- OPEN (R558): An LDP OPEN allocates a session awaiting CONFIRM and returns nonce_d. -/
  | ldpOpen (nonceD : BitVec 128)
  /-- CONFIRM (R558): An LDP CONFIRM with a valid MAC opens the session, or frees it and counts an authentication failure. -/
  | ldpConfirm (n : Fin 8)
  /-- CLOSE (R563): An LDP CLOSE closes the session, withholding responses of started transactions. -/
  | ldpClose (ch : LdpChannel)
  /-- PING (R563): An LDP PING completes with OK and keeps the session open. -/
  | ldpPing (ch : LdpChannel)
  /-- CONFIRM_TIMEOUT (R559): A session awaiting CONFIRM for more than 5 s is freed. -/
  | confirmTimeout (n : Fin 8)
  /-- AUTH_LOCKOUT_END (R560): A credential's 60-second lockout expires. -/
  | authLockoutEnd (cred : Fin 8)
  /-- SESSION_IDLE (R563): LDP_SESSION_IDLE elapses without an accepted request and the session closes. -/
  | sessionIdle (n : Fin 8)
  /-- STAGING_TIMEOUT (R550): A staging buffer without a part for 5 s is emptied. -/
  | stagingTimeout (ch : LdpChannel)
  /-- UDP_DATAGRAM (R564): A UDP datagram on the LDP port carries one LDP message into its session. -/
  | udpDatagram (mac : Fin 2) (ip : BitVec 32) (udpPort : BitVec 16) (fragment : Bool) (bytes : List (BitVec 8))
  /-- ARP_ICMP (R564): An ARP request or ICMP echo on an LDP address is answered. -/
  | arpIcmp (mac : Fin 2) (echo : Bool) (ip : BitVec 32)
  /-- CAN_FRAME (R565): A CAN FD frame on the request identifier is reassembled into an LDP message. -/
  | canFrame (ctl : Fin 4) (identifier : BitVec 32) (bytes : List (BitVec 8))
  /-- CAN_SEGMENT_LOST (R565): A segmented message whose next frame does not arrive in 100 ms is discarded. -/
  | canSegmentLost
  /-- DICT_GO (R567): A write of DICT_GO starts the request in a dictionary window, or is refused while busy or resetting. -/
  | dictGo (w : Window) (v : BitVec 32) (bytes : List (BitVec 8))
  /-- CRED_SECRET_WRITE (R556): A provisioning blob written to CRED_SECRET is unwrapped by Bittern and rewrapped under the device key. -/
  | credSecretWrite (rq : Requester) (cred : Fin 8) (blob : Nat)
  /-- XO_DELAY_EXPIRY (R574): The strap-selected crystal start-up delay expires and the ROM starts counting the crystal. -/
  | xoDelayExpiry
  /-- XO_COUNT_DONE (R575): After 1 ms of counting the ROM accepts the crystal and starts the PLLs, or halts with XO_FAIL. -/
  | xoCountDone (khz : Nat)
  /-- PLL_LOCKED (R577): An enabled PLL locks within 100 µs. -/
  | pllLocked (pll : Fin 10) (khz : Nat)
  /-- PLL_ENABLE (R580): A write of PLL_ENABLE starts a PLL or stops it unless a child is active. -/
  | pllEnable (rq : Requester) (pll : Fin 10) (v : Fin 256)
  /-- CLKMON_WINDOW (R581): Each 10 µs window a clock monitor counts its clock and changes state, with PLL holdover on crystal loss. -/
  | clkmonWindow (m : Fin 11) (khz : Nat)
  /-- CLKMON_INJECT (R582): A write of CLKMON_INJECT arms a monitor fault for the next window. -/
  | clkmonInject (rq : Requester) (m : Fin 11) (v : Fin 256)
  /-- MUX_SEL (R584): A write of MUX_SEL starts a glitch-free switch of a multiplexer, or is refused. -/
  | muxSel (rq : Requester) (x : Fin 19) (v : Fin 256)
  /-- MUX_SWITCH_DONE (R584): A multiplexer passes the new clock, becomes STABLE and the write completes. -/
  | muxSwitchDone (x : Fin 19)
  /-- SWITCH_STUCK (R585): A switch still pending after 10 µs is logged. -/
  | switchStuck (x : Fin 19)
  /-- FORCE_SEL (R586): A write of 1 to MUX_FORCE connects the new input without handshake, resetting below or escalating to a restart or cold reset. -/
  | forceSel (rq : Requester) (x : Fin 19) (v : Fin 256) (straps : BitVec 16) (queued : List (Nat × Nat))
  /-- GATE_OPEN (R589): A write opening a gate is checked and opens it and its closed ancestors. -/
  | gateOpen (rq : Requester) (g : Fin 128)
  /-- GATE_CLOSE (R590): A write closing a gate is checked and asks each clocked block for its idle handshake. -/
  | gateClose (rq : Requester) (g : Fin 128)
  /-- GATE_CLOSE_COMPLETE (R590): Every block raises idle and the gate closes. -/
  | gateCloseComplete (g : Fin 128)
  /-- BUSY_REFUSED (R590): A block is not idle within 1,024 cycles and the close is refused with the gate left open. -/
  | busyRefused (g : Fin 128) (block : Nat)
  /-- DOMAIN_ON (R592): A write of DOM_CTRL ON powers a domain up. -/
  | domainOn (rq : Requester) (d : Fin 17)
  /-- DOMAIN_ON_COMPLETE (R624): A powered-up domain runs and Gaffer restores its blocks' objects. -/
  | domainOnComplete (d : Fin 17)
  /-- DOMAIN_OFF (R592): A write of DOM_CTRL OFF powers a domain down unless a gate is open. -/
  | domainOff (rq : Requester) (d : Fin 17)
  /-- DOMAIN_RESET (R592): A write of DOM_CTRL RESET holds a domain's blocks in reset. -/
  | domainReset (rq : Requester) (d : Fin 17)
  /-- DOMAIN_RESET_RELEASE (R592): After 1 µs the domain's blocks leave reset. -/
  | domainResetRelease (d : Fin 17)
  /-- STATE_ENTER (R596): When the smallest tolerance has allowed a deeper state for its dwell, Sluice enters it. -/
  | stateEnter (target : Fin 5)
  /-- WAKE_EVENT (R597): A wake event or a fall of the smallest tolerance starts an exit from a power state. -/
  | wakeEvent (cause : Fin 8)
  /-- STATE_EXIT (R598): Every domain of the new state runs and the exit is logged with its latency. -/
  | stateExit
  /-- POWER_MEASUREMENT (R599): Every 1 ms Sluice measures drawn power and lowers or raises clock ceilings against the limit. -/
  | powerMeasurement (mw : Nat)
  /-- THERMAL_THROTTLE (R601): The hottest sensor crosses the throttle or release point and the RAS ceiling moves. -/
  | thermalThrottle (celsius : Int)
  /-- THERMAL_TRIP (R601): The sensor reaches the trip point; the device holds itself in reset until it cools, then cold-starts. -/
  | thermalTrip (celsius : Int)
  /-- SAG_START (R604): A rail crossing its warning level cuts RAS and Matte clocks, paces DRAM writes and pauses migrations. -/
  | sagStart (rail : Fin 12) (mv : Nat)
  /-- RAIL_RECOVERED (R604): Every rail has left its warning level and the 1 ms return timer starts. -/
  | railRecovered (rail : Fin 12) (mv : Nat)
  /-- SAG (R604): One millisecond after recovery full speed returns and the SAG is logged. -/
  | sag
  /-- SUP_INJECT (R606): A write of SUP_INJECT raises an injected SAG of 100 µs. -/
  | supInject (rq : Requester) (rail : Fin 12) (v : Fin 256)
  /-- AVS_SETTLE (R603): Two hundred microseconds after a voltage raise the clock may rise and levels move to the new target. -/
  | avsSettle (rail : Fin 2)
  /-- AVS_FAULT (R603): A PMBus transfer is not acknowledged and the targets are held. -/
  | avsFault (rail : Fin 2)
  /-- BROWN_OUT (R605): A rail crossing its reset level causes a power-on reset naming the rail. -/
  | brownOut (rail : Fin 12) (straps : BitVec 16)
  /-- POWER_ON_RESET (R615): Power-on reset is released; straps are sampled and start-up begins on the RC oscillator. -/
  | powerOnReset (straps : BitVec 16)
  /-- RESET_PIN (R609): RESET_N held low causes a cold reset and start-up from the straps. -/
  | resetPin (straps : BitVec 16)
  /-- COLD_REQUEST (R609): A write of 1 to RST_COLD_REQ causes a cold reset. -/
  | coldRequest (rq : Requester) (v : Fin 256) (straps : BitVec 16)
  /-- WARM_REQUEST (R618): A write of 1 to RST_WARM_REQ resets every domain except AON and runs start-up from measurement. -/
  | warmRequest (rq : Requester) (v : Fin 256)
  /-- IMAGE_LOADED (R540): Gaffer loads the newer valid stored image copy, skipping invalid entries. -/
  | imageLoaded
  /-- READY (R615): Memory training ends, the manager is created, STAGE becomes READY and boot output intents are submitted. -/
  | ready (training : List ChannelTraining)
  /-- RECOVERY_GO (R613): A write of RECOVERY_GO on HP0 starts measurement of the delivered recovery image. -/
  | recoveryGo (hp : Fin 4) (length : BitVec 26)
  /-- TFTP_WRITE (R613): A TFTP write of ixand-slot.bin over EM0 delivers a recovery image for measurement. -/
  | tftpWrite (length : Nat)
  /-- GAFFER_WATCHDOG_EXPIRY (R619): Gaffer's watchdog expires and Gaffer restarts alone, or escalates to a warm reset. -/
  | gafferWatchdogExpiry (genuine : Bool)
  /-- RST_GAF_RESTART_REQ (R619): A write of 1 to RST_GAF_RESTART_REQ restarts Gaffer alone. -/
  | rstGafRestartReq (rq : Requester) (v : Fin 256)
  /-- GAFFER_SRAM_UE (R619): An uncorrectable ECC error in Gaffer SRAM outside its object store restarts Gaffer. -/
  | gafferSramUe (genuine : Bool)
  /-- GAFFER_RESTART_DONE (R619): Gaffer runs again, STAGE becomes READY and in-flight firmware items complete with GAFFER_RESTARTED. -/
  | gafferRestartDone (storeOk : Bool) (copied : Bool)
  /-- LOG_MOVE (R633): Gaffer moves records from the event FIFO into the Script Log ring and rings the log doorbell for severe ones. -/
  | logMove
  /-- INJ_ARM (R637): A write of INJ_ARM arms a generic injection point ONCE or REPEAT, or is refused while injection is disabled. -/
  | injArm (rq : Requester) (point : Fin 31) (v : Fin 256) (queued : List (Nat × Nat))
  /-- DAILIES_RESERVE (R642): The owner reserves a unit DAILIES_RESERVE_LINES before a slice's slot so that it takes no new work. -/
  | dailiesReserve (slice : Nat)
  /-- SLICE_COMPLETE (R646): A slice finishes its test, restores state and ends PASS, FAIL_ONCE or FAILED. -/
  | sliceComplete (slice : Nat) (pass : Bool) (word : Nat)
  /-- DAILIES_OVERRUN (R645): A slice not restored within DAILIES_BUDGET is abandoned and its state restored. -/
  | dailiesOverrun (slice : Nat)
  /-- DAILIES_ROUND (R641): Gaffer completes a round of the slice catalogue and logs it. -/
  | dailiesRound
  /-- TALLY_WRAP (R649): A Tally counter wraps from its maximum, sets its overflow bit and is logged. -/
  | tallyWrap (g : Fin 40) (counter : Fin 64)
  /-- TALLY_OVF_CLEAR (R652): A write of 1 to TALLY_OVF_CLEAR clears every overflow bit of the group. -/
  | tallyOvfClear (rq : Requester) (g : Fin 40) (v : Fin 256)
  /-- HOST_LINK_UP (R615): A host port's PCIe link training ends and the port starts answering configuration requests so the host can enumerate it. -/
  | hostLinkUp (hp : Fin 4)
  /-- THERMAL_TRIP_RELEASE (R601): The hottest sensor reads 20 °C below the trip point and the device, held in reset since the trip, starts as after a cold reset with cause THERMAL_TRIP. -/
  | thermalTripRelease (celsius : Int) (straps : BitVec 16)
  /-- FORCE_SEL_RESET_RELEASE (R586): Sixty-four cycles of the new clock after a FORCE_SEL on RAS_SEL, AUD_SEL or PIXk_SEL, the blocks below the multiplexer's gate leave reset. -/
  | forceSelResetRelease (x : Fin 19)
  deriving DecidableEq, Repr

end Sys2Proof
end

