-- ==== Sys2Proof/Config.lean ====
section
/-! DEFINITION. What the manual leaves open: free values and functions an implementation fixes. Each is an opaque constant, so nothing
can be proved about its value and every claim holds for all of them (notes/assumptions). -/
namespace Sys2Proof.Config

/-- A fresh undefined value: the n-th value the hardware produces where the manual fixes none (log entry 1). -/
opaque freeValue : Nat → Nat
/-- A byte of DRAM or SRAM at a place nothing has written since its contents were lost (R622: unpredictable). -/
opaque freeByte : Nat → Nat
/-- HMAC-SHA-256 of a message under a key (R557): the standard's function, not restated here. -/
opaque hmacSha256 : Nat → List Nat → Nat
/-- The number by which the record of an event gives a case of a list that the manual names and does not number: the event's code, and the case's place in
the manual's list (log entry 38). -/
opaque caseCode : Nat → Nat → Fin 256
/-- Where Grip would put data: the channels, the bytes on each and the ends of what lies there, as a channel address (R69: not given; log entry 13). -/
opaque placeAt : List Nat → Nat → List Nat → Nat
/-- The surface that load balancing moves, as a place in the list of those it may move (R86: not given; log entry 18). -/
opaque balanceChoice : List Nat → Nat
/-- The median of an even number of values, from the middle two (R80: not given; log entry 16). -/
opaque evenMedian : Nat → Nat → Nat
/-- SHA-384 of a byte string (R403). -/
opaque sha384 : List Nat → Nat
/-- Is a blob's EPHEMERAL a valid P-384 point, and does its unwrap pass (R556)? The unwrapped secret when it does. -/
opaque unwrapSecret : Nat → Nat → Option Nat
/-- The 40-byte device-wrapped form of a secret (R555). -/
opaque wrapSecret : Nat → Nat → Nat
/-- Has the part the suffix -S (R2): 64 key slots and a spare rank? -/
opaque suffixS : Bool
/-- SHA-256 of a byte string (R292). -/
opaque sha256 : List Nat → Nat
/-- A component after the polyphase scaler: FILTER, horizontal and vertical step, the two phases, and the taps row by row (R153, R154: the coefficients
of SMOOTH and SHARP, and how weighted taps round, are not given; log entry 79). -/
opaque filtered : Nat → Nat → Nat → Nat → Nat → List Nat → Nat
/-- A component of the 3D LUT between nodes: the component at the eight corners of the cube and the three 11-bit remainders (R165: how the tetrahedral
interpolation rounds is not given; log entry 79). -/
opaque tetrahedral : List Nat → Nat → Nat → Nat → Nat
/-- The PQ and HLG curves of R162 and R167 (within 2 codes of the exact curve): curve (0 PQ EOTF, 1 HLG inverse
OETF, 2 PQ inverse EOTF, 3 HLG OETF) and working value. -/
opaque colourCurve : Nat → Nat → Nat
/-- A Y, Cb, Cr to R, G, B conversion of BT.601, BT.709 or BT.2020 (R151): matrix, range, component, and the three codes. -/
opaque yuvToRgb : Nat → Bool → Nat → Nat → Nat → Nat → Nat
/-- A sample with a gain: the level in 2⁻¹⁶ of 1/16 dB, then the sample (R514, R515: gains are applied as linear factors derived from their dB values,
whose rounding the manual does not give; log entry 45). -/
opaque linearGain : Int → Int → Int
/-- The level of a magnitude below full scale 2³¹, in 1/16 dBFS (R518, R527; log entry 45). -/
opaque dbfs : Nat → Int
/-- The level of the AUTOSCALE scale of n routes, 1/n or 1/√n, in 2⁻¹⁶ of 1/16 dB (R518; log entry 45). -/
opaque scaleLevel : Bool → Nat → Int
/-- The second-order Butterworth high-pass filter (R508): HPF, rate in Hz, the sample and the two before it, and the two outputs before it. -/
opaque highPass : Nat → Nat → Int → Int → Int → Int → Int → Int
/-- An F32 sample that has no exact S32 value: a fraction of a step, or not a number (R508). -/
opaque floatSample : Nat → Int
/-- A bridge's sample (R506): rate in, rate out, the block's samples, and the sample asked for. -/
opaque bridged : Nat → Nat → List Int → Nat → Int
/-- A limiter's output sample (R517): ceiling and block peak as magnitudes, release in ms, the sample, and its place in the block. -/
opaque limited : Nat → Nat → Nat → Int → Nat → Int
/-- A chime tone's sample (R521): frequency, level, edge in ms, duration in ms, rate in Hz, and the sample's place in the tone. -/
opaque toneSample : Nat → Nat → Nat → Nat → Nat → Nat → Int
/-- The event that counter c of Tally group g counts, the entry of TALLY_EVENT_CODES (R649: fixed in the part, not given; log entry 8). -/
opaque tallyKind : Nat → Nat → Nat
/-- The counter of a group that counts an event kind, and that counter's class (R649; log entry 8). -/
opaque tallyCounter : Nat → Nat → Nat
opaque tallyClass : Nat → Nat → Nat
/-- The unit byte of a requester identifier, by owner code (R631: the numbering of units is not given; log entry 9). -/
opaque requesterUnit : Nat → Nat

/-- The refresh rate that a value of mode register 4 asks for, in thousandths of the 1× rate of 3,906 ns (R359: the register's coding is that of
JESD209-5C, which the manual does not restate; log entry 29). -/
opaque mr4Rate : Nat → Nat

/-- The centroid index of nine signals whose sum is not positive, along one axis, in 1/8 pixel (R464 states none). -/
opaque centroid : List Int → Nat
/-- The self-capacitance baseline of an electrode at a gain that no scan has used, in 1/256 count (R459, R468: not stated; log entry 48). -/
opaque selfBaseline : Nat → Nat → Int

/-- The fields of a substitute's layer on an output whose position 15 has no descriptor in force (R431 names none; log entry 49). -/
opaque overrideBase : Nat → BitVec 512

/-- The resource index of each interrupt line's source: BIT_INT_SOURCE_MAP (R393: fixed in the part, its values not given; log entry 35). -/
opaque intSource : Nat → Nat
/-- Does slot B's manifest header read with the higher SECURITY_VERSION, so that a dual-image boot measures it first (R612)? -/
opaque slotBNewer : Bool
/-- The grade's rated maximum junction temperature, in °C (R601). -/
opaque ratedTj : Int
/-- The display PLL (0 to 2) that Gaffer chooses for an output, by output and pixel clock in kHz, and the PLL's frequency in kHz (R579: Gaffer's choice
is not stated; log entry 63). -/
opaque pixelPll : Nat → Nat → Nat
opaque pixelPllKhz : Nat → Nat

/-- Objects that the firmware counts in its dictionary (R570: DEV_OBJECT_COUNT, whose default is the firmware's). -/
opaque objectCount : Nat
/-- DRAM transactions in flight on a channel at a read of MC_INFLIGHT: timing, which the model does not hold (R351; log entry 70). -/
opaque inflight : Nat → Nat → Nat

/-- The secret that a device-wrapped form holds for a credential (R555: wrapped under the fused device key). -/
opaque openSecret : Nat → Nat → Nat

end Sys2Proof.Config
end

