-- ==== Sys2Proof/Machine/Bits.lean ====
section
/-! DEFINITION. Bit fields, little-endian byte strings held as one number (R5), two's complement and rounding: the plain arithmetic
that the meanings share. -/
namespace Sys2Proof.Machine

/-- The field [hi:lo] of a value (conventions of the manual: bit ranges are [msb:lsb]). -/
def field (v hi lo : Nat) : Nat := (v >>> lo) % 2 ^ (hi + 1 - lo)

/-- One bit of a value. -/
def bit (v i : Nat) : Bool := v.testBit i

/-- A Bool as a bit. -/
def ofBool (b : Bool) : Nat := cond b 1 0

/-- The value with field [hi:lo] replaced. -/
def setField (v hi lo x : Nat) : Nat :=
  let w := 2 ^ (hi + 1 - lo)
  (v / 2 ^ (hi + 1)) * 2 ^ (hi + 1) + (x % w) * 2 ^ lo + v % 2 ^ lo

/-- The value with one bit replaced. -/
def setBit (v i : Nat) (b : Bool) : Nat := setField v i i (ofBool b)

/-- Byte `i` of a little-endian string (R5). -/
def byteAt (v i : Nat) : Nat := (v >>> (8 * i)) % 256

/-- `n` bytes of a little-endian string from byte `i` (R5). -/
def bytesAt (v i n : Nat) : Nat := (v >>> (8 * i)) % 2 ^ (8 * n)

/-- A little-endian string with `n` bytes from byte `i` replaced (R5). -/
def setBytes (v i n x : Nat) : Nat :=
  (v / 2 ^ (8 * (i + n))) * 2 ^ (8 * (i + n)) + (x % 2 ^ (8 * n)) * 2 ^ (8 * i) + v % 2 ^ (8 * i)

/-- A list of items of `n` bytes each as one little-endian string, first item lowest (R5). -/
def packItems (n : Nat) : List Nat → Nat
  | [] => 0
  | x :: xs => x % 2 ^ (8 * n) + packItems n xs * 2 ^ (8 * n)

/-- `k` items of `n` bytes each of a little-endian string, from item 0 (R5). -/
def unpackItems (n : Nat) : Nat → Nat → List Nat
  | 0, _ => []
  | k + 1, v => v % 2 ^ (8 * n) :: unpackItems n k (v >>> (8 * n))

/-- Two's complement reading of a value of `w` bits. -/
def toSigned (w v : Nat) : Int :=
  if v % 2 ^ w < 2 ^ (w - 1) then Int.ofNat (v % 2 ^ w) else Int.ofNat (v % 2 ^ w) - Int.ofNat (2 ^ w)

/-- Two's complement coding of an integer in `w` bits. -/
def ofSigned (w : Nat) (i : Int) : Nat := (i % Int.ofNat (2 ^ w)).toNat

/-- Division rounding up; a division by zero gives 0. -/
def divUp (a b : Nat) : Nat := (a + b - 1) / b

/-- A counter of `w` bits one further, wrapping. -/
def wrapAdd (w v n : Nat) : Nat := (v + n) % 2 ^ w

/-- A counter of `w` bits that holds at its highest value. -/
def satAdd (w v n : Nat) : Nat := Nat.min (v + n) (2 ^ w - 1)

/-- An integer kept within two bounds. -/
def clampInt (lo hi x : Int) : Int := if x < lo then lo else if hi < x then hi else x

/-- A natural number kept within two bounds. -/
def clampNat (lo hi x : Nat) : Nat := Nat.min hi (Nat.max lo x)

/-- The element of a list that a key makes least, the earlier of equals. -/
def leastBy {α : Type} (key : α → Nat) : List α → Option α
  | [] => none
  | x :: xs =>
    match leastBy key xs with
    | none => some x
    | some y => if key y < key x then some y else some x

/-- The list with the element at an index replaced. -/
def setAt {α : Type} : List α → Nat → α → List α
  | [], _, _ => []
  | _ :: xs, 0, y => y :: xs
  | x :: xs, n + 1, y => x :: setAt xs n y

/-- The list with the element at an index changed. -/
def modifyAt {α : Type} : List α → Nat → (α → α) → List α
  | [], _, _ => []
  | x :: xs, 0, f => f x :: xs
  | x :: xs, n + 1, f => x :: modifyAt xs n f

/-- The sum of a list. -/
def sumNat : List Nat → Nat
  | [] => 0
  | x :: xs => x + sumNat xs

/-- The sum of a list of integers. -/
def sumInt : List Int → Int
  | [] => 0
  | x :: xs => x + sumInt xs

/-- The greatest element of a list, 0 for an empty one. -/
def maxNat : List Nat → Nat
  | [] => 0
  | x :: xs => Nat.max x (maxNat xs)

end Sys2Proof.Machine
end

