-- ==== Sys2Proof/Machine/Objects.lean ====
section
/-! DEFINITION. Addresses of the dictionary objects, under the manual's names: index × 256 + subindex (R530, and the object table
of each chapter). A family that stands once per unit is a function of the unit's number. -/
namespace Sys2Proof.Machine

namespace Obj

/-- SPK_LEAD_OUTPUT (R52). -/
def SPK_LEAD_OUTPUT : Nat := 0x210001
/-- SPK_POSITION (R52). -/
def SPK_POSITION : Nat := 0x210002
/-- SPK_STATUS (R52). -/
def SPK_STATUS : Nat := 0x210003
/-- SPK_NOM_LINE_PERIOD (R52). -/
def SPK_NOM_LINE_PERIOD : Nat := 0x210004
/-- SPK_NOM_FRAME_LINES (R52). -/
def SPK_NOM_FRAME_LINES : Nat := 0x210005
/-- SPK_FRAME_EPOCH (R52). -/
def SPK_FRAME_EPOCH : Nat := 0x210006
/-- SPK_RELOCK_COUNT (R52). -/
def SPK_RELOCK_COUNT : Nat := 0x210007
/-- SPK_LAST_RELOCK (R52). -/
def SPK_LAST_RELOCK : Nat := 0x210008
/-- SPK_COAST_FRAMES (R52). -/
def SPK_COAST_FRAMES : Nat := 0x210009
/-- DTIME_NOW (R52). -/
def DTIME_NOW : Nat := 0x210101
/-- DTIME_SYNC_PORT (R52). -/
def DTIME_SYNC_PORT : Nat := 0x210102
/-- DTIME_SYNC_STATE (R52). -/
def DTIME_SYNC_STATE : Nat := 0x210103
/-- DTIME_OFFSET (R52). -/
def DTIME_OFFSET : Nat := 0x210104
/-- DTIME_SLEW_LIMIT (R52). -/
def DTIME_SLEW_LIMIT : Nat := 0x210105
/-- DTIME_STEP_THRESHOLD (R52). -/
def DTIME_STEP_THRESHOLD : Nat := 0x210106
/-- SLOT_POSITION (R54). -/
def SLOT_POSITION (n : Nat) : Nat := 0x220001 + 256 * n
/-- SLOT_ACTION (R54). -/
def SLOT_ACTION (n : Nat) : Nat := 0x220002 + 256 * n
/-- SLOT_ARG (R54). -/
def SLOT_ARG (n : Nat) : Nat := 0x220003 + 256 * n
/-- SLOT_OWNER (R54). -/
def SLOT_OWNER (n : Nat) : Nat := 0x220004 + 256 * n
/-- SLOT_CONTROL (R54). -/
def SLOT_CONTROL (n : Nat) : Nat := 0x220005 + 256 * n
/-- SLOT_STATE (R54). -/
def SLOT_STATE (n : Nat) : Nat := 0x220006 + 256 * n
/-- SLOT_LAST_FIRE (R54). -/
def SLOT_LAST_FIRE (n : Nat) : Nat := 0x220007 + 256 * n
/-- GRIP_SURFACES_USED (R93). -/
def GRIP_SURFACES_USED : Nat := 0x4C0001
/-- GRIP_REEL_POOL_SLICES (R93). -/
def GRIP_REEL_POOL_SLICES : Nat := 0x4C0002
/-- GRIP_REEL_FREE_SLICES (R93). -/
def GRIP_REEL_FREE_SLICES : Nat := 0x4C0003
/-- GRIP_DRAM_FED_MASK (R93). -/
def GRIP_DRAM_FED_MASK : Nat := 0x4C0004
/-- GRIP_EXCLUDED_CHANNELS (R93). -/
def GRIP_EXCLUDED_CHANNELS : Nat := 0x4C0005
/-- GRIP_MIGRATIONS_ACTIVE (R93). -/
def GRIP_MIGRATIONS_ACTIVE : Nat := 0x4C0006
/-- GRIP_MIGRATED_BYTES (R93). -/
def GRIP_MIGRATED_BYTES : Nat := 0x4C0007
/-- GRIP_LAYER_TABLE (R93). -/
def GRIP_LAYER_TABLE : Nat := 0x4C0101
/-- GRIP_HEALTH_TABLE (R93). -/
def GRIP_HEALTH_TABLE : Nat := 0x4C0201
/-- GRIP_HEALTH_SINCE (R93). -/
def GRIP_HEALTH_SINCE : Nat := 0x4C0202
/-- GRIP_SURF_TABLE_nn (R93). -/
def GRIP_SURF_TABLE (n : Nat) : Nat := 0x4C1001 + 256 * n
/-- GRIP_AGGRESSIVENESS (R93). -/
def GRIP_AGGRESSIVENESS : Nat := 0xB00701
/-- REEL_TOTAL_SLICES (R134). -/
def REEL_TOTAL_SLICES : Nat := 0x2A0001
/-- REEL_BITTERN_SLICES (R134). -/
def REEL_BITTERN_SLICES : Nat := 0x2A0002
/-- REEL_DAILIES_SLICES (R134). -/
def REEL_DAILIES_SLICES : Nat := 0x2A0003
/-- REEL_CRIT_RECT_SLICES (R134). -/
def REEL_CRIT_RECT_SLICES : Nat := 0x2A0004
/-- REEL_READ_LOAD (R134). -/
def REEL_READ_LOAD : Nat := 0x2A0005
/-- REEL_CORRECTED (R134). -/
def REEL_CORRECTED : Nat := 0x2A0006
/-- REEL_UNCORRECTED (R134). -/
def REEL_UNCORRECTED : Nat := 0x2A0007
/-- REEL_OUT_FORMAT (R134). -/
def REEL_OUT_FORMAT (n : Nat) : Nat := 0x2A1001 + 256 * n
/-- REEL_OUT_SLICES (R134). -/
def REEL_OUT_SLICES (n : Nat) : Nat := 0x2A1002 + 256 * n
/-- REEL_OUT_STATUS (R134). -/
def REEL_OUT_STATUS (n : Nat) : Nat := 0x2A1003 + 256 * n
/-- REEL_OUT_RACE_LEAD (R134). -/
def REEL_OUT_RACE_LEAD (n : Nat) : Nat := 0x2A1004 + 256 * n
/-- REEL_OUT_MIN_LEAD (R134). -/
def REEL_OUT_MIN_LEAD (n : Nat) : Nat := 0x2A1005 + 256 * n
/-- REEL_OUT_SLIP_COUNT (R134). -/
def REEL_OUT_SLIP_COUNT (n : Nat) : Nat := 0x2A1006 + 256 * n
/-- REEL_OUT_LAST_SLIP (R134). -/
def REEL_OUT_LAST_SLIP (n : Nat) : Nat := 0x2A1007 + 256 * n
/-- REEL_OUT_BLANK_COLOUR (R134). -/
def REEL_OUT_BLANK_COLOUR (n : Nat) : Nat := 0x2A1008 + 256 * n
/-- SUBST_TABLE (R134). -/
def SUBST_TABLE : Nat := 0x8A0001
/-- CRIT_RECTS (R134). -/
def CRIT_RECTS (n : Nat) : Nat := 0x8A1001 + 256 * n
/-- REEL_SCAN_MODE (R134). -/
def REEL_SCAN_MODE (j : Nat) : Nat := 0xB00101 + j
/-- MATTE_ENGINES (R175). -/
def MATTE_ENGINES : Nat := 0x2C0001
/-- MATTE_CLOCK_MAX (R175). -/
def MATTE_CLOCK_MAX : Nat := 0x2C0002
/-- MATTE_CLOCK_NOW (R175). -/
def MATTE_CLOCK_NOW : Nat := 0x2C0003
/-- MATTE_SPLIT_THRESHOLD (R175). -/
def MATTE_SPLIT_THRESHOLD : Nat := 0x2C0004
/-- MATTE_STALE_COUNT (R175). -/
def MATTE_STALE_COUNT : Nat := 0x2C0005
/-- MATTE_REJECT_COUNT (R175). -/
def MATTE_REJECT_COUNT : Nat := 0x2C0006
/-- ME_STATE (R175). -/
def ME_STATE (n : Nat) : Nat := 0x2C1001 + 256 * n
/-- ME_TARGET (R175). -/
def ME_TARGET (n : Nat) : Nat := 0x2C1002 + 256 * n
/-- ME_LAST_TIME (R175). -/
def ME_LAST_TIME (n : Nat) : Nat := 0x2C1003 + 256 * n
/-- ME_LAST_ESTIMATE (R175). -/
def ME_LAST_ESTIMATE (n : Nat) : Nat := 0x2C1004 + 256 * n
/-- LAYER_DEGAMMA_LO (R175). -/
def LAYER_DEGAMMA_LO (n : Nat) : Nat := 0x2D0001 + 256 * n
/-- LAYER_DEGAMMA_HI (R175). -/
def LAYER_DEGAMMA_HI (n : Nat) : Nat := 0x2D0002 + 256 * n
/-- LAYER_MATRIX (R175). -/
def LAYER_MATRIX (n : Nat) : Nat := 0x2D0003 + 256 * n
/-- LAYER_PALETTE (R175). -/
def LAYER_PALETTE (n : Nat) : Nat := 0x2D0004 + 256 * n
/-- OUT_BACKGROUND (R175). -/
def OUT_BACKGROUND (n : Nat) : Nat := 0x2E0001 + 256 * n
/-- OUT_LUT3D_EN (R175). -/
def OUT_LUT3D_EN (n : Nat) : Nat := 0x2E0002 + 256 * n
/-- OUT_LUT3D_ACTIVE (R175). -/
def OUT_LUT3D_ACTIVE (n : Nat) : Nat := 0x2E0003 + 256 * n
/-- OUT_LUT3D_SWAP (R175). -/
def OUT_LUT3D_SWAP (n : Nat) : Nat := 0x2E0004 + 256 * n
/-- OUT_REGAMMA_MODE (R175). -/
def OUT_REGAMMA_MODE (n : Nat) : Nat := 0x2E0005 + 256 * n
/-- OUT_REGAMMA_LO (R175). -/
def OUT_REGAMMA_LO (n : Nat) : Nat := 0x2E0006 + 256 * n
/-- OUT_REGAMMA_HI (R175). -/
def OUT_REGAMMA_HI (n : Nat) : Nat := 0x2E0007 + 256 * n
/-- OUT_DITHER (R175). -/
def OUT_DITHER (n : Nat) : Nat := 0x2E0008 + 256 * n
/-- OUT_COLOUR_SPACE (R175). -/
def OUT_COLOUR_SPACE (n : Nat) : Nat := 0x2E0009 + 256 * n
/-- OUT_COLOUR_STATUS (R175). -/
def OUT_COLOUR_STATUS (n : Nat) : Nat := 0x2E000A + 256 * n
/-- OUT_LUT3D_BLOCK (R175). -/
def OUT_LUT3D_BLOCK (n : Nat) (j : Nat) : Nat := 0x2F0001 + 256 * n + j
/-- OUT_CHANNELS (R219). -/
def OUT_CHANNELS : Nat := 0x240001
/-- OUT_PAIR_LOCK (R219). -/
def OUT_PAIR_LOCK : Nat := 0x240002
/-- OUT_PIXEL_LOAD (R219). -/
def OUT_PIXEL_LOAD : Nat := 0x240003
/-- OUT_TIMING (R219). -/
def OUT_TIMING (n : Nat) : Nat := 0x241001 + 256 * n
/-- OUT_ENABLE (R219). -/
def OUT_ENABLE (n : Nat) : Nat := 0x241002 + 256 * n
/-- OUT_LATCH_MODE (R219). -/
def OUT_LATCH_MODE (n : Nat) : Nat := 0x241003 + 256 * n
/-- OUT_STATE (R219). -/
def OUT_STATE (n : Nat) : Nat := 0x241004 + 256 * n
/-- OUT_VT_MIN (R219). -/
def OUT_VT_MIN (n : Nat) : Nat := 0x241005 + 256 * n
/-- OUT_VT_MAX (R219). -/
def OUT_VT_MAX (n : Nat) : Nat := 0x241006 + 256 * n
/-- OUT_DECISION_LINES (R219). -/
def OUT_DECISION_LINES (n : Nat) : Nat := 0x241007 + 256 * n
/-- OUT_HOLD_FRAMES (R219). -/
def OUT_HOLD_FRAMES (n : Nat) : Nat := 0x241008 + 256 * n
/-- OUT_FRAME_COUNT (R219). -/
def OUT_FRAME_COUNT (n : Nat) : Nat := 0x241009 + 256 * n
/-- OUT_FLIP_RECORD (R219). -/
def OUT_FLIP_RECORD (n : Nat) : Nat := 0x24100A + 256 * n
/-- OUT_REPEAT_COUNT (R219). -/
def OUT_REPEAT_COUNT (n : Nat) : Nat := 0x24100B + 256 * n
/-- OUT_LATE_COUNT (R219). -/
def OUT_LATE_COUNT (n : Nat) : Nat := 0x24100C + 256 * n
/-- OUT_PANEL_MODES (R219). -/
def OUT_PANEL_MODES (n : Nat) : Nat := 0x242001 + 256 * n
/-- OUT_SINK_MODES (R219). -/
def OUT_SINK_MODES (n : Nat) : Nat := 0x242002 + 256 * n
/-- OUT_PORT (R246). -/
def OUT_PORT (j : Nat) : Nat := 0x250001 + j
/-- PORT_KIND (R246). -/
def PORT_KIND (n : Nat) : Nat := 0x251001 + 256 * n
/-- PORT_CONFIG (R246). -/
def PORT_CONFIG (n : Nat) : Nat := 0x251002 + 256 * n
/-- PORT_MAX_LANES (R246). -/
def PORT_MAX_LANES (n : Nat) : Nat := 0x251003 + 256 * n
/-- PORT_MAX_RATE (R246). -/
def PORT_MAX_RATE (n : Nat) : Nat := 0x251004 + 256 * n
/-- PORT_LANE_MAP (R246). -/
def PORT_LANE_MAP (n : Nat) : Nat := 0x251005 + 256 * n
/-- PORT_DSC_MODE (R246). -/
def PORT_DSC_MODE (n : Nat) : Nat := 0x251006 + 256 * n
/-- PORT_DSC_MAX_BPP (R246). -/
def PORT_DSC_MAX_BPP (n : Nat) : Nat := 0x251007 + 256 * n
/-- PORT_DSC_SLICES (R246). -/
def PORT_DSC_SLICES (n : Nat) : Nat := 0x251008 + 256 * n
/-- PORT_STATUS (R246). -/
def PORT_STATUS (n : Nat) : Nat := 0x251009 + 256 * n
/-- PORT_LINK_NOW (R246). -/
def PORT_LINK_NOW (n : Nat) : Nat := 0x25100A + 256 * n
/-- PORT_TRAIN_FAILS (R246). -/
def PORT_TRAIN_FAILS (n : Nat) : Nat := 0x25100C + 256 * n
/-- PORT_RETRAIN (R246). -/
def PORT_RETRAIN (n : Nat) : Nat := 0x25100D + 256 * n
/-- PORT_RETRY_INTERVAL (R246). -/
def PORT_RETRY_INTERVAL (n : Nat) : Nat := 0x25100E + 256 * n
/-- PORT_ATTEMPT_LIMIT (R246). -/
def PORT_ATTEMPT_LIMIT (n : Nat) : Nat := 0x25100F + 256 * n
/-- PORT_DSI_INIT_SEQ (R246). -/
def PORT_DSI_INIT_SEQ (n : Nat) : Nat := 0x251010 + 256 * n
/-- PORT_DSI_HOLD_ENTER_SEQ (R246). -/
def PORT_DSI_HOLD_ENTER_SEQ (n : Nat) : Nat := 0x251011 + 256 * n
/-- PORT_DSI_HOLD_EXIT_SEQ (R246). -/
def PORT_DSI_HOLD_EXIT_SEQ (n : Nat) : Nat := 0x251012 + 256 * n
/-- PORT_DSI_FLAGS (R246). -/
def PORT_DSI_FLAGS (n : Nat) : Nat := 0x251013 + 256 * n
/-- PORT_HDR_METADATA (R246). -/
def PORT_HDR_METADATA (n : Nat) : Nat := 0x251014 + 256 * n
/-- RAS_CLUSTERS (R297). -/
def RAS_CLUSTERS : Nat := 0x300001
/-- RAS_CLOCK_NOW (R297). -/
def RAS_CLOCK_NOW : Nat := 0x300002
/-- RAS_PB_RESERVE_PAGES (R297). -/
def RAS_PB_RESERVE_PAGES : Nat := 0x300003
/-- RAS_PB_RESERVE_FREE (R297). -/
def RAS_PB_RESERVE_FREE : Nat := 0x300004
/-- RAS_PB_RESERVE_PER_JOB (R297). -/
def RAS_PB_RESERVE_PER_JOB : Nat := 0x300005
/-- RAS_PB_PARTIAL_COUNT (R297). -/
def RAS_PB_PARTIAL_COUNT : Nat := 0x300006
/-- RAS_PB_EXHAUSTED_COUNT (R297). -/
def RAS_PB_EXHAUSTED_COUNT : Nat := 0x300007
/-- RAS_JOB_TIMEOUT (R297). -/
def RAS_JOB_TIMEOUT : Nat := 0x300008
/-- RAS_CONTEXT_BYTES (R297). -/
def RAS_CONTEXT_BYTES : Nat := 0x300009
/-- RAS_PREEMPT_MAX (R297). -/
def RAS_PREEMPT_MAX : Nat := 0x30000A
/-- RAS_XLATE_CACHE_BYTES (R297). -/
def RAS_XLATE_CACHE_BYTES : Nat := 0x30000B
/-- RAS_XLATE_HITS (R297). -/
def RAS_XLATE_HITS : Nat := 0x30000C
/-- RAS_XLATE_MISSES (R297). -/
def RAS_XLATE_MISSES : Nat := 0x30000D
/-- RAS_PB_POOL_PAGES (R297). -/
def RAS_PB_POOL_PAGES (n : Nat) : Nat := 0x310001 + 256 * n
/-- RAS_PB_POOL_FREE (R297). -/
def RAS_PB_POOL_FREE (n : Nat) : Nat := 0x310002 + 256 * n
/-- RASTER_CLOCK_CEILING (R297). -/
def RASTER_CLOCK_CEILING : Nat := 0xB00801
/-- INST_MGR_PORT (R339). -/
def INST_MGR_PORT : Nat := 0x120001
/-- INST_LIVE (R339). -/
def INST_LIVE : Nat := 0x120002
/-- INST_RESIDENT_JOBS (R339). -/
def INST_RESIDENT_JOBS : Nat := 0x120003
/-- PORT_INST_QUOTA (R339). -/
def PORT_INST_QUOTA (j : Nat) : Nat := 0x120101 + j
/-- INST_STATE (R339). -/
def INST_STATE (n : Nat) : Nat := 0x130001 + 256 * n
/-- INST_BINDING (R339). -/
def INST_BINDING (n : Nat) : Nat := 0x130002 + 256 * n
/-- INST_SHARE (R339). -/
def INST_SHARE (n : Nat) : Nat := 0x130003 + 256 * n
/-- INST_REEL_QUOTA (R339). -/
def INST_REEL_QUOTA (n : Nat) : Nat := 0x130004 + 256 * n
/-- INST_LAYER_QUOTA (R339). -/
def INST_LAYER_QUOTA (n : Nat) : Nat := 0x130005 + 256 * n
/-- INST_MAX_RESIDENT (R339). -/
def INST_MAX_RESIDENT (n : Nat) : Nat := 0x130006 + 256 * n
/-- INST_GUARD_CLASS (R339). -/
def INST_GUARD_CLASS (n : Nat) : Nat := 0x130007 + 256 * n
/-- INST_DEADLINE_OK (R339). -/
def INST_DEADLINE_OK (n : Nat) : Nat := 0x130008 + 256 * n
/-- INST_DRAIN_TIME (R339). -/
def INST_DRAIN_TIME (n : Nat) : Nat := 0x130009 + 256 * n
/-- INST_LAYER_GRANTS (R339). -/
def INST_LAYER_GRANTS (n : Nat) : Nat := 0x13000A + 256 * n
/-- INST_DB_GRANT (R339). -/
def INST_DB_GRANT (n : Nat) : Nat := 0x13000B + 256 * n
/-- INST_BALANCE (R339). -/
def INST_BALANCE (n : Nat) : Nat := 0x13000C + 256 * n
/-- INST_SUSPENDS (R339). -/
def INST_SUSPENDS (n : Nat) : Nat := 0x13000D + 256 * n
/-- INST_SQUASHED (R339). -/
def INST_SQUASHED (n : Nat) : Nat := 0x13000E + 256 * n
/-- OUT_GUARD_EN (R339). -/
def OUT_GUARD_EN (n : Nat) : Nat := 0x243001 + 256 * n
/-- OUT_GUARD_MARGIN (R339). -/
def OUT_GUARD_MARGIN (n : Nat) : Nat := 0x243002 + 256 * n
/-- OUT_GUARD_MAX (R339). -/
def OUT_GUARD_MAX (n : Nat) : Nat := 0x243003 + 256 * n
/-- OUT_GUARD_LAST (R339). -/
def OUT_GUARD_LAST (n : Nat) : Nat := 0x243004 + 256 * n
/-- MEM_CHANNELS_ENABLED (R386). -/
def MEM_CHANNELS_ENABLED : Nat := 0x400001
/-- MEM_DATA_RATE (R386). -/
def MEM_DATA_RATE : Nat := 0x400002
/-- MEM_TCASE_RATED (R386). -/
def MEM_TCASE_RATED : Nat := 0x400003
/-- MEM_REFI_NOW (R386). -/
def MEM_REFI_NOW : Nat := 0x400004
/-- MEM_CE_COUNT (R386). -/
def MEM_CE_COUNT : Nat := 0x400005
/-- MEM_UE_COUNT (R386). -/
def MEM_UE_COUNT : Nat := 0x400006
/-- MEM_POISONED_LINES (R386). -/
def MEM_POISONED_LINES : Nat := 0x400007
/-- MEM_CE_RETIRE_LIMIT (R386). -/
def MEM_CE_RETIRE_LIMIT : Nat := 0x400008
/-- MEM_MR4_POLL (R386). -/
def MEM_MR4_POLL : Nat := 0x400009
/-- MEM_RECENTRE_EN (R386). -/
def MEM_RECENTRE_EN : Nat := 0x40000A
/-- MEM_RECENTRE_THRESHOLD (R386). -/
def MEM_RECENTRE_THRESHOLD : Nat := 0x40000B
/-- MEM_SWEEP_PERIOD (R386). -/
def MEM_SWEEP_PERIOD : Nat := 0x40000C
/-- MEM_FORCED_REFRESH (R386). -/
def MEM_FORCED_REFRESH : Nat := 0x40000D
/-- MEM_MARGIN_ERR_LIMIT (R386). -/
def MEM_MARGIN_ERR_LIMIT : Nat := 0x40000F
/-- MEM_MARGIN_LOW (R386). -/
def MEM_MARGIN_LOW : Nat := 0x400010
/-- MC_STATE (R386). -/
def MC_STATE (n : Nat) : Nat := 0x401001 + 256 * n
/-- MC_INFLIGHT (R386). -/
def MC_INFLIGHT (n : Nat) : Nat := 0x401002 + 256 * n
/-- MC_REFI_NOW (R386). -/
def MC_REFI_NOW (n : Nat) : Nat := 0x401003 + 256 * n
/-- MC_REFRESH_DEBT (R386). -/
def MC_REFRESH_DEBT (n : Nat) : Nat := 0x401004 + 256 * n
/-- RANK_SIZE (R386). -/
def RANK_SIZE (n : Nat) : Nat := 0x402001 + 256 * n
/-- RANK_STATE (R386). -/
def RANK_STATE (n : Nat) : Nat := 0x402002 + 256 * n
/-- RANK_USABLE_MIB (R386). -/
def RANK_USABLE_MIB (n : Nat) : Nat := 0x402003 + 256 * n
/-- RANK_CE_24H (R386). -/
def RANK_CE_24H (n : Nat) : Nat := 0x402004 + 256 * n
/-- TRAIN_RD (R386). -/
def TRAIN_RD (n : Nat) : Nat := 0x403001 + 256 * n
/-- TRAIN_WR (R386). -/
def TRAIN_WR (n : Nat) : Nat := 0x403002 + 256 * n
/-- MARGIN_REPORT (R386). -/
def MARGIN_REPORT (n : Nat) : Nat := 0x403003 + 256 * n
/-- TRAIN_RECENTRES (R386). -/
def TRAIN_RECENTRES (n : Nat) : Nat := 0x403004 + 256 * n
/-- MEM_RETIRED_RANKS (R386). -/
def MEM_RETIRED_RANKS : Nat := 0x404001
/-- MEM_SPARE_STATE (R386). -/
def MEM_SPARE_STATE : Nat := 0x404002
/-- MEM_SPARE_COPY_PTR (R386). -/
def MEM_SPARE_COPY_PTR : Nat := 0x404003
/-- MEM_SPARE_SOURCE (R386). -/
def MEM_SPARE_SOURCE : Nat := 0x404004
/-- MEM_SPARE_RATE (R386). -/
def MEM_SPARE_RATE : Nat := 0x404005
/-- MEM_POISON_LIST (R386). -/
def MEM_POISON_LIST : Nat := 0x404101
/-- MEM_OWNER_TABLE_nn (R386). -/
def MEM_OWNER_TABLE (n : Nat) : Nat := 0x408001 + 256 * n
/-- KEY_SLOTS (R386). -/
def KEY_SLOTS : Nat := 0x8C0001
/-- KEY_SLOT_TABLE (R386). -/
def KEY_SLOT_TABLE : Nat := 0x8C0002
/-- MEM_WATERMARK (R386). -/
def MEM_WATERMARK : Nat := 0x8C0101
/-- MEM_REFRESH_MODE (R386). -/
def MEM_REFRESH_MODE : Nat := 0xB00201
/-- MEM_INLINE_ECC (R386). -/
def MEM_INLINE_ECC : Nat := 0xB00301
/-- MEM_SPARE_RANK (R386). -/
def MEM_SPARE_RANK : Nat := 0xB00401
/-- BIT_STATE (R418). -/
def BIT_STATE : Nat := 0x800001
/-- BIT_BOOT_RESULT (R418). -/
def BIT_BOOT_RESULT : Nat := 0x800002
/-- BIT_RESTART_COUNT (R418). -/
def BIT_RESTART_COUNT : Nat := 0x800003
/-- BIT_RESTART_REQ (R418). -/
def BIT_RESTART_REQ : Nat := 0x800004
/-- BIT_WDT_PERIOD (R418). -/
def BIT_WDT_PERIOD : Nat := 0x800005
/-- BIT_LAST_RESTART (R418). -/
def BIT_LAST_RESTART : Nat := 0x800006
/-- BIT_LAST_DURATION (R418). -/
def BIT_LAST_DURATION : Nat := 0x800007
/-- BIT_LAST_CAUSE (R418). -/
def BIT_LAST_CAUSE : Nat := 0x800008
/-- BIT_SECURITY_VERSION (R418). -/
def BIT_SECURITY_VERSION : Nat := 0x800009
/-- BIT_READY (R418). -/
def BIT_READY : Nat := 0x80000A
/-- BIT_ROOT_KEY_HASH (R418). -/
def BIT_ROOT_KEY_HASH : Nat := 0x800101
/-- BIT_MANIFEST_DIGEST (R418). -/
def BIT_MANIFEST_DIGEST : Nat := 0x800102
/-- BIT_MEASUREMENTS (R418). -/
def BIT_MEASUREMENTS : Nat := 0x800103
/-- BIT_IMAGE_SLOT (R418). -/
def BIT_IMAGE_SLOT : Nat := 0x800104
/-- BIT_PROVISION_KEY (R418). -/
def BIT_PROVISION_KEY : Nat := 0x800105
/-- BIT_ASSIGN_TABLE (R418). -/
def BIT_ASSIGN_TABLE : Nat := 0x810001
/-- BIT_ASSIGN_LOCK (R418). -/
def BIT_ASSIGN_LOCK : Nat := 0x810002
/-- BIT_INT_SOURCE_MAP (R418). -/
def BIT_INT_SOURCE_MAP : Nat := 0x810003
/-- CU_UNITS (R441). -/
def CU_UNITS : Nat := 0x820001
/-- CU_REF_CORRECTED (R441). -/
def CU_REF_CORRECTED : Nat := 0x820002
/-- CU_CONFIG (R441). -/
def CU_CONFIG (n : Nat) : Nat := 0x821001 + 256 * n
/-- CU_REGION (R441). -/
def CU_REGION (n : Nat) : Nat := 0x821002 + 256 * n
/-- CU_ALIVE_POS (R441). -/
def CU_ALIVE_POS (n : Nat) : Nat := 0x821003 + 256 * n
/-- CU_HOLD_FRAMES (R441). -/
def CU_HOLD_FRAMES (n : Nat) : Nat := 0x821004 + 256 * n
/-- CU_FAIL_LIMIT (R441). -/
def CU_FAIL_LIMIT (n : Nat) : Nat := 0x821005 + 256 * n
/-- CU_SUBST (R441). -/
def CU_SUBST (n : Nat) : Nat := 0x821006 + 256 * n
/-- CU_CHIME (R441). -/
def CU_CHIME (n : Nat) : Nat := 0x821007 + 256 * n
/-- CU_DOORBELL (R441). -/
def CU_DOORBELL (n : Nat) : Nat := 0x821008 + 256 * n
/-- CU_MSG_TIMEOUT (R441). -/
def CU_MSG_TIMEOUT (n : Nat) : Nat := 0x821009 + 256 * n
/-- CU_CONTROL (R441). -/
def CU_CONTROL (n : Nat) : Nat := 0x82100A + 256 * n
/-- CU_STATE (R441). -/
def CU_STATE (n : Nat) : Nat := 0x82100B + 256 * n
/-- CU_STATUS (R441). -/
def CU_STATUS (n : Nat) : Nat := 0x82100C + 256 * n
/-- CU_LAST_RESULT (R441). -/
def CU_LAST_RESULT (n : Nat) : Nat := 0x82100D + 256 * n
/-- CU_LAST_VALUE (R441). -/
def CU_LAST_VALUE (n : Nat) : Nat := 0x82100E + 256 * n
/-- CU_FAIL_RUN (R441). -/
def CU_FAIL_RUN (n : Nat) : Nat := 0x82100F + 256 * n
/-- CU_PASS_COUNT (R441). -/
def CU_PASS_COUNT (n : Nat) : Nat := 0x821010 + 256 * n
/-- CU_FAIL_COUNT (R441). -/
def CU_FAIL_COUNT (n : Nat) : Nat := 0x821011 + 256 * n
/-- CU_INJECT (R441). -/
def CU_INJECT (n : Nat) : Nat := 0x821012 + 256 * n
/-- CU_REF (R441). -/
def CU_REF (n : Nat) : Nat := 0x823001 + 256 * n
/-- CU_SUBST_REF (R441). -/
def CU_SUBST_REF (n : Nat) : Nat := 0x823002 + 256 * n
/-- TOUCH_FRONT_ENDS (R479). -/
def TOUCH_FRONT_ENDS : Nat := 0x500001
/-- TOUCH_WAKE_EN (R479). -/
def TOUCH_WAKE_EN : Nat := 0x500002
/-- TOUCH_WAKE_THRESHOLD (R479). -/
def TOUCH_WAKE_THRESHOLD : Nat := 0x500003
/-- RF_CONTROL (R479). -/
def RF_CONTROL (n : Nat) : Nat := 0x510001 + 256 * n
/-- RF_STATE (R479). -/
def RF_STATE (n : Nat) : Nat := 0x510002 + 256 * n
/-- RF_GEOMETRY (R479). -/
def RF_GEOMETRY (n : Nat) : Nat := 0x510003 + 256 * n
/-- RF_PANEL_OUTPUT (R479). -/
def RF_PANEL_OUTPUT (n : Nat) : Nat := 0x510004 + 256 * n
/-- RF_SCANS_PER_FRAME (R479). -/
def RF_SCANS_PER_FRAME (n : Nat) : Nat := 0x510005 + 256 * n
/-- RF_SCAN_TIME (R479). -/
def RF_SCAN_TIME (n : Nat) : Nat := 0x510006 + 256 * n
/-- RF_TOUCH_THRESHOLD (R479). -/
def RF_TOUCH_THRESHOLD (n : Nat) : Nat := 0x510007 + 256 * n
/-- RF_GLOVE_MUTUAL (R479). -/
def RF_GLOVE_MUTUAL (n : Nat) : Nat := 0x510008 + 256 * n
/-- RF_GLOVE_SELF (R479). -/
def RF_GLOVE_SELF (n : Nat) : Nat := 0x510009 + 256 * n
/-- RF_HOVER_SELF (R479). -/
def RF_HOVER_SELF (n : Nat) : Nat := 0x51000A + 256 * n
/-- RF_PALM_NODES (R479). -/
def RF_PALM_NODES (n : Nat) : Nat := 0x51000B + 256 * n
/-- RF_BASELINE_TAU (R479). -/
def RF_BASELINE_TAU (n : Nat) : Nat := 0x51000C + 256 * n
/-- RF_RECAL_LEVEL (R479). -/
def RF_RECAL_LEVEL (n : Nat) : Nat := 0x51000D + 256 * n
/-- RF_RECAL_SCANS (R479). -/
def RF_RECAL_SCANS (n : Nat) : Nat := 0x51000E + 256 * n
/-- RF_SUSPECT_PERCENT (R479). -/
def RF_SUSPECT_PERCENT (n : Nat) : Nat := 0x51000F + 256 * n
/-- RF_SUSPECT_ACCEPT (R479). -/
def RF_SUSPECT_ACCEPT (n : Nat) : Nat := 0x510010 + 256 * n
/-- RF_LONG_HOLD (R479). -/
def RF_LONG_HOLD (n : Nat) : Nat := 0x510011 + 256 * n
/-- RF_FIT_SHIFT (R479). -/
def RF_FIT_SHIFT (n : Nat) : Nat := 0x510012 + 256 * n
/-- RF_READER (R479). -/
def RF_READER (n : Nat) : Nat := 0x510014 + 256 * n
/-- RF_DOORBELL (R479). -/
def RF_DOORBELL (n : Nat) : Nat := 0x510015 + 256 * n
/-- RF_QUIET_HYST (R479). -/
def RF_QUIET_HYST (n : Nat) : Nat := 0x510016 + 256 * n
/-- RF_STATUS (R479). -/
def RF_STATUS (n : Nat) : Nat := 0x510017 + 256 * n
/-- RF_FACTORY_REF (R479). -/
def RF_FACTORY_REF (n : Nat) : Nat := 0x512001 + 256 * n
/-- RF_COUPLING (R479). -/
def RF_COUPLING (n : Nat) : Nat := 0x514001 + 256 * n
/-- RF_BASELINE (R479). -/
def RF_BASELINE (n : Nat) : Nat := 0x515001 + 256 * n
/-- RF_NOISE (R479). -/
def RF_NOISE (n : Nat) : Nat := 0x515002 + 256 * n
/-- RF_REPORT (R479). -/
def RF_REPORT (n : Nat) : Nat := 0x516001 + 256 * n
/-- RF_HISTORY (R479). -/
def RF_HISTORY (n : Nat) : Nat := 0x516002 + 256 * n
/-- KB_ENABLE (R479). -/
def KB_ENABLE : Nat := 0x518001
/-- KB_STATE (R479). -/
def KB_STATE : Nat := 0x518002
/-- KB_SCAN_RATE (R479). -/
def KB_SCAN_RATE : Nat := 0x518003
/-- KB_SCAN_TIME (R479). -/
def KB_SCAN_TIME : Nat := 0x518004
/-- KB_DEBOUNCE (R479). -/
def KB_DEBOUNCE : Nat := 0x518005
/-- KB_SWITCH_MARGIN (R479). -/
def KB_SWITCH_MARGIN : Nat := 0x518006
/-- KB_SHIELD (R479). -/
def KB_SHIELD : Nat := 0x518007
/-- KB_READER (R479). -/
def KB_READER : Nat := 0x518008
/-- KB_DOORBELL (R479). -/
def KB_DOORBELL : Nat := 0x518009
/-- KB_LONG_HOLD (R479). -/
def KB_LONG_HOLD : Nat := 0x51800A
/-- KB_BASELINE_TAU (R479). -/
def KB_BASELINE_TAU : Nat := 0x51800B
/-- KB_RECAL_LEVEL (R479). -/
def KB_RECAL_LEVEL : Nat := 0x51800C
/-- KB_RECAL_SCANS (R479). -/
def KB_RECAL_SCANS : Nat := 0x51800D
/-- KB_SUSPECT_PERCENT (R479). -/
def KB_SUSPECT_PERCENT : Nat := 0x51800E
/-- KB_SUSPECT_ACCEPT (R479). -/
def KB_SUSPECT_ACCEPT : Nat := 0x51800F
/-- KB_THRESHOLDS (R479). -/
def KB_THRESHOLDS : Nat := 0x518101
/-- KB_GROUPS (R479). -/
def KB_GROUPS : Nat := 0x518102
/-- KB_FACTORY_REF (R479). -/
def KB_FACTORY_REF : Nat := 0x518103
/-- KB_BASELINE (R479). -/
def KB_BASELINE : Nat := 0x518104
/-- KB_REPORT (R479). -/
def KB_REPORT : Nat := 0x518201
/-- TOUCH_MODE_FORCE (R479). -/
def TOUCH_MODE_FORCE (j : Nat) : Nat := 0xB00601 + j
/-- HAP_CHANNELS (R499). -/
def HAP_CHANNELS : Nat := 0x520001
/-- HAP_PWM_KHZ (R499). -/
def HAP_PWM_KHZ : Nat := 0x520002
/-- HAP_SUPPLY_MV (R499). -/
def HAP_SUPPLY_MV : Nat := 0x520003
/-- HAP_CAL_AT_START (R499). -/
def HAP_CAL_AT_START : Nat := 0x520004
/-- HAP_BRAKE_THRESH_MV (R499). -/
def HAP_BRAKE_THRESH_MV : Nat := 0x520005
/-- HAP_CAL_MIN_MV (R499). -/
def HAP_CAL_MIN_MV : Nat := 0x520006
/-- HAP_CONTROL (R499). -/
def HAP_CONTROL (n : Nat) : Nat := 0x521001 + 256 * n
/-- HAP_STATE (R499). -/
def HAP_STATE (n : Nat) : Nat := 0x521002 + 256 * n
/-- HAP_RATED_MV (R499). -/
def HAP_RATED_MV (n : Nat) : Nat := 0x521003 + 256 * n
/-- HAP_RES_HZ (R499). -/
def HAP_RES_HZ (n : Nat) : Nat := 0x521004 + 256 * n
/-- HAP_RES_BEMF_MV (R499). -/
def HAP_RES_BEMF_MV (n : Nat) : Nat := 0x521005 + 256 * n
/-- HAP_PLAY (R499). -/
def HAP_PLAY (n : Nat) : Nat := 0x521006 + 256 * n
/-- HAP_CRIT_PLAY (R499). -/
def HAP_CRIT_PLAY (n : Nat) : Nat := 0x521007 + 256 * n
/-- HAP_INST_GRANT (R499). -/
def HAP_INST_GRANT (n : Nat) : Nat := 0x521008 + 256 * n
/-- HAP_STATUS (R499). -/
def HAP_STATUS (n : Nat) : Nat := 0x521009 + 256 * n
/-- HAP_NOW (R499). -/
def HAP_NOW (n : Nat) : Nat := 0x52100A + 256 * n
/-- HAP_DRIVE_MODE (R499). -/
def HAP_DRIVE_MODE (n : Nat) : Nat := 0x52100B + 256 * n
/-- HAP_EFFECTS_DONE (R499). -/
def HAP_EFFECTS_DONE (n : Nat) : Nat := 0x52100C + 256 * n
/-- HAP_EFFECTS_CUT (R499). -/
def HAP_EFFECTS_CUT (n : Nat) : Nat := 0x52100D + 256 * n
/-- HAP_RAM_EFFECTS (R499). -/
def HAP_RAM_EFFECTS : Nat := 0x523001
/-- HAP_TRIGGER_TABLE (R499). -/
def HAP_TRIGGER_TABLE : Nat := 0x523101
/-- AUD_STREAMS (R527). -/
def AUD_STREAMS : Nat := 0x600001
/-- AUD_D48_RATE (R527). -/
def AUD_D48_RATE : Nat := 0x600002
/-- AUD_D44_RATE (R527). -/
def AUD_D44_RATE : Nat := 0x600003
/-- AUD_D48_REF (R527). -/
def AUD_D48_REF : Nat := 0x600004
/-- AUD_BRIDGES_FREE (R527). -/
def AUD_BRIDGES_FREE : Nat := 0x600005
/-- AUD_ACTIVE_DBFS (R527). -/
def AUD_ACTIVE_DBFS : Nat := 0x600006
/-- AUD_LIM_CEILING (R527). -/
def AUD_LIM_CEILING : Nat := 0x600007
/-- AUD_LIM_RELEASE_MS (R527). -/
def AUD_LIM_RELEASE_MS : Nat := 0x600008
/-- TDM_CONFIG (R527). -/
def TDM_CONFIG (n : Nat) : Nat := 0x601001 + 256 * n
/-- TDM_STATE (R527). -/
def TDM_STATE (n : Nat) : Nat := 0x601002 + 256 * n
/-- PDM_CONFIG (R527). -/
def PDM_CONFIG (n : Nat) : Nat := 0x602001 + 256 * n
/-- AUD_STREAM_CFG (R527). -/
def AUD_STREAM_CFG (n : Nat) : Nat := 0x610001 + 256 * n
/-- AUD_STREAM_RING (R527). -/
def AUD_STREAM_RING (n : Nat) : Nat := 0x610002 + 256 * n
/-- AUD_STREAM_RING_BYTES (R527). -/
def AUD_STREAM_RING_BYTES (n : Nat) : Nat := 0x610003 + 256 * n
/-- AUD_STREAM_STATUS_ADDR (R527). -/
def AUD_STREAM_STATUS_ADDR (n : Nat) : Nat := 0x610004 + 256 * n
/-- AUD_STREAM_OWNER (R527). -/
def AUD_STREAM_OWNER (n : Nat) : Nat := 0x610005 + 256 * n
/-- AUD_STREAM_STATE (R527). -/
def AUD_STREAM_STATE (n : Nat) : Nat := 0x610006 + 256 * n
/-- AUD_STREAM_UNDERRUNS (R527). -/
def AUD_STREAM_UNDERRUNS (n : Nat) : Nat := 0x610007 + 256 * n
/-- AUD_STREAM_DOORBELL (R527). -/
def AUD_STREAM_DOORBELL (n : Nat) : Nat := 0x610008 + 256 * n
/-- AUD_STREAM_GAIN (R527). -/
def AUD_STREAM_GAIN (n : Nat) : Nat := 0x610009 + 256 * n
/-- AUD_STREAM_RAMP_MS (R527). -/
def AUD_STREAM_RAMP_MS (n : Nat) : Nat := 0x61000A + 256 * n
/-- AUD_STREAM_PEAK (R527). -/
def AUD_STREAM_PEAK (n : Nat) : Nat := 0x61000B + 256 * n
/-- AUD_BUS_CFG (R527). -/
def AUD_BUS_CFG (n : Nat) : Nat := 0x620001 + 256 * n
/-- AUD_BUS_DEST (R527). -/
def AUD_BUS_DEST (n : Nat) : Nat := 0x620002 + 256 * n
/-- AUD_BUS_GAIN (R527). -/
def AUD_BUS_GAIN (n : Nat) : Nat := 0x620003 + 256 * n
/-- AUD_BUS_RAMP_MS (R527). -/
def AUD_BUS_RAMP_MS (n : Nat) : Nat := 0x620004 + 256 * n
/-- AUD_BUS_STATE (R527). -/
def AUD_BUS_STATE (n : Nat) : Nat := 0x620005 + 256 * n
/-- AUD_BUS_LIMITED (R527). -/
def AUD_BUS_LIMITED (n : Nat) : Nat := 0x620006 + 256 * n
/-- AUD_BUS_PEAK (R527). -/
def AUD_BUS_PEAK (n : Nat) : Nat := 0x620007 + 256 * n
/-- AUD_BUS_RING (R527). -/
def AUD_BUS_RING (n : Nat) : Nat := 0x620008 + 256 * n
/-- AUD_BUS_RING_BYTES (R527). -/
def AUD_BUS_RING_BYTES (n : Nat) : Nat := 0x620009 + 256 * n
/-- AUD_BUS_STATUS_ADDR (R527). -/
def AUD_BUS_STATUS_ADDR (n : Nat) : Nat := 0x62000A + 256 * n
/-- AUD_BUS_READER (R527). -/
def AUD_BUS_READER (n : Nat) : Nat := 0x62000B + 256 * n
/-- AUD_BUS_DOORBELL (R527). -/
def AUD_BUS_DOORBELL (n : Nat) : Nat := 0x62000C + 256 * n
/-- AUD_BUS_FORMAT (R527). -/
def AUD_BUS_FORMAT (n : Nat) : Nat := 0x62000D + 256 * n
/-- AUD_ROUTE_TABLE (R527). -/
def AUD_ROUTE_TABLE : Nat := 0x630001
/-- CHIME_TABLE (R527). -/
def CHIME_TABLE : Nat := 0x8E0001
/-- CHIME_PLAY (R527). -/
def CHIME_PLAY : Nat := 0x8E0002
/-- CHIME_STOP (R527). -/
def CHIME_STOP : Nat := 0x8E0003
/-- DUCK_DB (R527). -/
def DUCK_DB : Nat := 0x8E0004
/-- DUCK_RELEASE_MS (R527). -/
def DUCK_RELEASE_MS : Nat := 0x8E0005
/-- CHIME_NOW (R527). -/
def CHIME_NOW : Nat := 0x8E0006
/-- AUD_CLIP_MODE (R527). -/
def AUD_CLIP_MODE (j : Nat) : Nat := 0xB00501 + j
/-- DEV_ORDERING_CODE (R570). -/
def DEV_ORDERING_CODE : Nat := 0x100001
/-- DEV_STEPPING (R570). -/
def DEV_STEPPING : Nat := 0x100002
/-- DEV_SERIAL (R570). -/
def DEV_SERIAL : Nat := 0x100003
/-- DEV_FW_VERSION (R570). -/
def DEV_FW_VERSION : Nat := 0x100004
/-- DEV_DICT_GENERATION (R570). -/
def DEV_DICT_GENERATION : Nat := 0x100005
/-- DEV_OBJECT_COUNT (R570). -/
def DEV_OBJECT_COUNT : Nat := 0x100006
/-- LDP_UDP_ENABLE (R570). -/
def LDP_UDP_ENABLE : Nat := 0x101001
/-- LDP_IPV4_ADDR (R570). -/
def LDP_IPV4_ADDR (j : Nat) : Nat := 0x101002 + j
/-- LDP_IPV4_MASK (R570). -/
def LDP_IPV4_MASK (j : Nat) : Nat := 0x101004 + j
/-- LDP_IPV4_GATEWAY (R570). -/
def LDP_IPV4_GATEWAY (j : Nat) : Nat := 0x101006 + j
/-- LDP_VLAN (R570). -/
def LDP_VLAN : Nat := 0x101008
/-- LDP_PRIORITY (R570). -/
def LDP_PRIORITY : Nat := 0x101009
/-- LDP_CAN_CONTROLLER (R570). -/
def LDP_CAN_CONTROLLER : Nat := 0x101101
/-- LDP_CAN_REQ_ID (R570). -/
def LDP_CAN_REQ_ID : Nat := 0x101102
/-- LDP_CAN_RSP_ID (R570). -/
def LDP_CAN_RSP_ID : Nat := 0x101103
/-- LDP_CAN_NOMINAL (R570). -/
def LDP_CAN_NOMINAL : Nat := 0x101104
/-- LDP_CAN_DATA (R570). -/
def LDP_CAN_DATA : Nat := 0x101105
/-- LDP_SESSION_IDLE (R570). -/
def LDP_SESSION_IDLE : Nat := 0x101201
/-- LDP_SESSIONS_OPEN (R570). -/
def LDP_SESSIONS_OPEN : Nat := 0x101202
/-- LDP_SUBS_OPEN (R570). -/
def LDP_SUBS_OPEN : Nat := 0x101203
/-- LDP_AUTH_FAILS (R570). -/
def LDP_AUTH_FAILS : Nat := 0x101204
/-- SESS_STATE (R570). -/
def SESS_STATE (n : Nat) : Nat := 0x102001 + 256 * n
/-- SESS_SOURCE (R570). -/
def SESS_SOURCE (n : Nat) : Nat := 0x102002 + 256 * n
/-- SESS_CRED (R570). -/
def SESS_CRED (n : Nat) : Nat := 0x102003 + 256 * n
/-- SESS_OPENED (R570). -/
def SESS_OPENED (n : Nat) : Nat := 0x102004 + 256 * n
/-- SESS_OUTSTANDING (R570). -/
def SESS_OUTSTANDING (n : Nat) : Nat := 0x102005 + 256 * n
/-- CRED_ROLE (R570). -/
def CRED_ROLE (n : Nat) : Nat := 0x8D0001 + 256 * n
/-- CRED_SECRET (R570). -/
def CRED_SECRET (n : Nat) : Nat := 0x8D0002 + 256 * n
/-- MODE_PENDING (R570). -/
def MODE_PENDING : Nat := 0xB00001
/-- DAILIES_BUDGET (R570). -/
def DAILIES_BUDGET : Nat := 0xB00901
/-- PROD_ROOT_KEY_HASH (R570). -/
def PROD_ROOT_KEY_HASH : Nat := 0xF00001
/-- PROD_SECURITY_VERSION (R570). -/
def PROD_SECURITY_VERSION : Nat := 0xF00002
/-- PROD_LOCKED (R570). -/
def PROD_LOCKED : Nat := 0xF00003
/-- CLK_SOURCE (R606). -/
def CLK_SOURCE : Nat := 0x700001
/-- XO_FREQ_KHZ (R606). -/
def XO_FREQ_KHZ : Nat := 0x700002
/-- XO_DELAY_MS (R606). -/
def XO_DELAY_MS : Nat := 0x700003
/-- RC_TRIM (R606). -/
def RC_TRIM : Nat := 0x700004
/-- PLL_STATE (R606). -/
def PLL_STATE (n : Nat) : Nat := 0x701001 + 256 * n
/-- PLL_FREQ_KHZ (R606). -/
def PLL_FREQ_KHZ (n : Nat) : Nat := 0x701002 + 256 * n
/-- PLL_ENABLE (R606). -/
def PLL_ENABLE (n : Nat) : Nat := 0x701003 + 256 * n
/-- PIX_KHZ (R606). -/
def PIX_KHZ (n : Nat) : Nat := 0x702001 + 256 * n
/-- PIX_PLL (R606). -/
def PIX_PLL (n : Nat) : Nat := 0x702002 + 256 * n
/-- CLKMON_STATE (R606). -/
def CLKMON_STATE (n : Nat) : Nat := 0x703001 + 256 * n
/-- CLKMON_KHZ (R606). -/
def CLKMON_KHZ (n : Nat) : Nat := 0x703002 + 256 * n
/-- CLKMON_INJECT (R606). -/
def CLKMON_INJECT (n : Nat) : Nat := 0x703003 + 256 * n
/-- GATE_CTRL (R606). -/
def GATE_CTRL (n : Nat) : Nat := 0x710001 + 256 * n
/-- GATE_STATE (R606). -/
def GATE_STATE (n : Nat) : Nat := 0x710002 + 256 * n
/-- DOM_CTRL (R606). -/
def DOM_CTRL (n : Nat) : Nat := 0x718001 + 256 * n
/-- DOM_STATE (R606). -/
def DOM_STATE (n : Nat) : Nat := 0x718002 + 256 * n
/-- MUX_SEL (R606). -/
def MUX_SEL (n : Nat) : Nat := 0x71A001 + 256 * n
/-- MUX_STATUS (R606). -/
def MUX_STATUS (n : Nat) : Nat := 0x71A002 + 256 * n
/-- MUX_FORCE (R606). -/
def MUX_FORCE (n : Nat) : Nat := 0x71A003 + 256 * n
/-- PWR_LIMIT_W (R606). -/
def PWR_LIMIT_W : Nat := 0x720001
/-- PWR_STATE (R606). -/
def PWR_STATE : Nat := 0x720002
/-- PWR_MIN_TOL (R606). -/
def PWR_MIN_TOL : Nat := 0x720003
/-- PWR_MIN_TOL_SOURCE (R606). -/
def PWR_MIN_TOL_SOURCE : Nat := 0x720004
/-- PWR_DRAWN_MW (R606). -/
def PWR_DRAWN_MW : Nat := 0x720005
/-- PWR_STATUS (R606). -/
def PWR_STATUS : Nat := 0x720006
/-- PWR_SENSE (R606). -/
def PWR_SENSE : Nat := 0x720007
/-- PWR_AVS_I2C (R606). -/
def PWR_AVS_I2C : Nat := 0x720008
/-- RAS_POWER_CEILING (R606). -/
def RAS_POWER_CEILING : Nat := 0x720009
/-- GAF_CLOCK_NOW (R606). -/
def GAF_CLOCK_NOW : Nat := 0x72000A
/-- PWR_LAST_BROWNOUT (R606). -/
def PWR_LAST_BROWNOUT : Nat := 0x72000B
/-- PWR_TJ_C (R606). -/
def PWR_TJ_C : Nat := 0x72000C
/-- PWR_PORT_TOL (R606). -/
def PWR_PORT_TOL (j : Nat) : Nat := 0x722001 + j
/-- PWR_INST_TOL (R606). -/
def PWR_INST_TOL (n : Nat) : Nat := 0x730001 + 256 * n
/-- PWR_MGR_TOL (R606). -/
def PWR_MGR_TOL : Nat := 0x734001
/-- PWR_GAF_TOL (R606). -/
def PWR_GAF_TOL : Nat := 0x734002
/-- PWR_BIT_TOL (R606). -/
def PWR_BIT_TOL : Nat := 0x734003
/-- SUP_TARGET_MV (R606). -/
def SUP_TARGET_MV (n : Nat) : Nat := 0x740001 + 256 * n
/-- SUP_MEASURED_MV (R606). -/
def SUP_MEASURED_MV (n : Nat) : Nat := 0x740002 + 256 * n
/-- SUP_STATE (R606). -/
def SUP_STATE (n : Nat) : Nat := 0x740003 + 256 * n
/-- SUP_SAG_COUNT (R606). -/
def SUP_SAG_COUNT (n : Nat) : Nat := 0x740004 + 256 * n
/-- SUP_LAST_SAG (R606). -/
def SUP_LAST_SAG (n : Nat) : Nat := 0x740005 + 256 * n
/-- SUP_INJECT (R606). -/
def SUP_INJECT (n : Nat) : Nat := 0x740006 + 256 * n
/-- PWR_SAG_RAS_MHZ (R606). -/
def PWR_SAG_RAS_MHZ : Nat := 0x750001
/-- PWR_SAG_MAT_MHZ (R606). -/
def PWR_SAG_MAT_MHZ : Nat := 0x750002
/-- PWR_SAG_WRITE_PCT (R606). -/
def PWR_SAG_WRITE_PCT : Nat := 0x750003
/-- RST_LAST_KIND (R625). -/
def RST_LAST_KIND : Nat := 0x780001
/-- RST_LAST_CAUSE (R625). -/
def RST_LAST_CAUSE : Nat := 0x780002
/-- RST_WARM_REQ (R625). -/
def RST_WARM_REQ : Nat := 0x780003
/-- RST_COLD_REQ (R625). -/
def RST_COLD_REQ : Nat := 0x780004
/-- RST_WARM_COUNT (R625). -/
def RST_WARM_COUNT : Nat := 0x780005
/-- RST_GAF_RESTARTS (R625). -/
def RST_GAF_RESTARTS : Nat := 0x780006
/-- RST_GAF_WDT (R625). -/
def RST_GAF_WDT : Nat := 0x780007
/-- RST_GAF_RESTART_REQ (R625). -/
def RST_GAF_RESTART_REQ : Nat := 0x780008
/-- RST_STRAPS (R625). -/
def RST_STRAPS : Nat := 0x780009
/-- RST_READY_TIME (R625). -/
def RST_READY_TIME : Nat := 0x78000A
/-- RST_BOOT_INTENTS (R625). -/
def RST_BOOT_INTENTS : Nat := 0x780101
/-- LOG_HEAD (R654). -/
def LOG_HEAD : Nat := 0x900002
/-- LOG_OVERWRITTEN (R654). -/
def LOG_OVERWRITTEN : Nat := 0x900003
/-- LOG_LOST (R654). -/
def LOG_LOST : Nat := 0x900004
/-- LOG_NOTIFY_SEVERITY (R654). -/
def LOG_NOTIFY_SEVERITY : Nat := 0x900005
/-- LOG_DOORBELL (R654). -/
def LOG_DOORBELL : Nat := 0x900006
/-- LOG_LAST (R654). -/
def LOG_LAST : Nat := 0x900101
/-- LOG_EVENT_TABLE (R654). -/
def LOG_EVENT_TABLE : Nat := 0x900301
/-- LOG_RING_nn (R654). -/
def LOG_RING (n : Nat) : Nat := 0x904001 + 256 * n
/-- LOG_MIRROR (R654). -/
def LOG_MIRROR : Nat := 0x906001
/-- INJ_ENABLE (R654). -/
def INJ_ENABLE : Nat := 0x910001
/-- INJ_TOTAL (R654). -/
def INJ_TOTAL : Nat := 0x910002
/-- INJ_ARM (R654). -/
def INJ_ARM (n : Nat) : Nat := 0x911001 + 256 * n
/-- INJ_TARGET (R654). -/
def INJ_TARGET (n : Nat) : Nat := 0x911002 + 256 * n
/-- INJ_PARAM (R654). -/
def INJ_PARAM (n : Nat) : Nat := 0x911003 + 256 * n
/-- INJ_ESCALATE (R654). -/
def INJ_ESCALATE (n : Nat) : Nat := 0x911004 + 256 * n
/-- INJ_FIRED (R654). -/
def INJ_FIRED (n : Nat) : Nat := 0x911005 + 256 * n
/-- DAILIES_ENABLE (R654). -/
def DAILIES_ENABLE : Nat := 0x920001
/-- DAILIES_ROUND_PERIOD (R654). -/
def DAILIES_ROUND_PERIOD : Nat := 0x920002
/-- DAILIES_SCRATCH_BYTES (R654). -/
def DAILIES_SCRATCH_BYTES : Nat := 0x920003
/-- DAILIES_RESERVE_LINES (R654). -/
def DAILIES_RESERVE_LINES : Nat := 0x920004
/-- DAILIES_ROUNDS (R654). -/
def DAILIES_ROUNDS : Nat := 0x920005
/-- DAILIES_FAILS (R654). -/
def DAILIES_FAILS : Nat := 0x920006
/-- DAILIES_DECLINED (R654). -/
def DAILIES_DECLINED : Nat := 0x920007
/-- DAILIES_RESULTS (R654). -/
def DAILIES_RESULTS : Nat := 0x921001
/-- TALLY_COUNTERS (R654). -/
def TALLY_COUNTERS : Nat := 0xA00001
/-- TALLY_BITTERN_VISIBLE (R654). -/
def TALLY_BITTERN_VISIBLE : Nat := 0xA00002
/-- TALLY_GROUP (R654). -/
def TALLY_GROUP (n : Nat) : Nat := 0xA01001 + 256 * n
/-- TALLY_FILTER (R654). -/
def TALLY_FILTER (n : Nat) : Nat := 0xA01002 + 256 * n
/-- TALLY_OVF_CLEAR (R654). -/
def TALLY_OVF_CLEAR (n : Nat) : Nat := 0xA01003 + 256 * n
/-- TALLY_EVENT_CODES (R654). -/
def TALLY_EVENT_CODES (n : Nat) : Nat := 0xA01004 + 256 * n
/-- TALLY_GRANT (R654). -/
def TALLY_GRANT (n : Nat) : Nat := 0xA10001 + 256 * n

end Obj
end Sys2Proof.Machine
end

