-- ==== Sys2Proof/Machine/Catalogue.lean ====
section
/-! DEFINITION. The catalogue of the dictionary (R530 to R534, R538): every object of the object tables of the chapters, one row
a table line, with its type, length, rights, default, persistence class and stated range. -/
namespace Sys2Proof.Machine

/-- The object types of R532. -/
inductive ObjType where
  | bool | u8 | u16 | u32 | u64 | s8 | s16 | s32 | s64 | f32 | enum8 | bits32 | str | octets | spos | dtime
  deriving DecidableEq, Repr

/-- The type codes of R532. -/
def ObjType.code : ObjType → Nat
  | .bool => 0x01 | .u8 => 0x02 | .u16 => 0x03 | .u32 => 0x04 | .u64 => 0x05
  | .s8 => 0x06 | .s16 => 0x07 | .s32 => 0x08 | .s64 => 0x09 | .f32 => 0x0A | .enum8 => 0x0B
  | .bits32 => 0x0C | .str => 0x0D | .octets => 0x0E | .spos => 0x0F | .dtime => 0x10

/-- One right of one owner class (R534). -/
inductive Right where
  | ro | rw | wo | rws
  deriving DecidableEq, Repr

/-- The rights of BITTERN, GAFFER, MANAGER, INSTANCE and FIELD, in the order of the Access column (R534). -/
structure Rights where
  bittern : Right
  gaffer : Right
  manager : Right
  guest : Right
  field : Right
  deriving DecidableEq, Repr

/-- The persistence classes of R538. -/
inductive Persistence where
  | volatile | retained | latched | stored
  deriving DecidableEq, Repr

/-- The values an object accepts, as its Meaning column states them: any value of the type; an unsigned range; a signed range; a
list; or, for BITS32, the bits software writes and the bits a 1 clears (reserved bits read as zero and ignore writes, R6). -/
inductive Accepts where
  | any
  | range (lo hi : Nat)
  | srange (lo hi : Int)
  | oneOf (vs : List Nat)
  | bits (rw rw1c : Nat)
  deriving DecidableEq, Repr

/-- One line of an object table: `count` indexes from `index`, `subCount` subindexes from `sub`. -/
structure ObjRow where
  name : String
  index : Nat
  count : Nat
  sub : Nat
  subCount : Nat
  ty : ObjType
  len : Nat
  rights : Rights
  default : Nat
  pers : Persistence
  accepts : Accepts
  deriving DecidableEq, Repr

/-- Objects of indexes 0x1000 to 0x1FFF, part 1. -/
def rows1a : List ObjRow :=
  [⟨"INST_MGR_PORT", 0x1200, 1, 0x01, 1, .u8, 1, ⟨.ro, .rw, .ro, .ro, .rw⟩, 0, .stored, (.range 0 3)⟩,
   ⟨"INST_LIVE", 0x1200, 1, 0x02, 1, .u8, 1, ⟨.ro, .ro, .ro, .ro, .ro⟩, 0, .volatile, .any⟩,
   ⟨"INST_RESIDENT_JOBS", 0x1200, 1, 0x03, 1, .u16, 2, ⟨.ro, .ro, .ro, .ro, .ro⟩, 0, .volatile, .any⟩,
   ⟨"PORT_INST_QUOTA", 0x1201, 1, 0x01, 4, .u8, 1, ⟨.ro, .rw, .ro, .ro, .rw⟩, 64, .stored, (.range 0 64)⟩,
   ⟨"INST_STATE", 0x1300, 64, 0x01, 1, .enum8, 1, ⟨.ro, .ro, .ro, .ro, .ro⟩, 0, .volatile, .any⟩,
   ⟨"INST_BINDING", 0x1300, 64, 0x02, 1, .u32, 4, ⟨.ro, .ro, .ro, .ro, .ro⟩, 0, .volatile, .any⟩,
   ⟨"INST_SHARE", 0x1300, 64, 0x03, 1, .u16, 2, ⟨.ro, .rw, .rw, .ro, .ro⟩, 0, .volatile, (.range 1 1000)⟩,
   ⟨"INST_REEL_QUOTA", 0x1300, 64, 0x04, 1, .u16, 2, ⟨.ro, .rw, .rw, .ro, .ro⟩, 0, .volatile, .any⟩,
   ⟨"INST_LAYER_QUOTA", 0x1300, 64, 0x05, 1, .u8, 1, ⟨.ro, .rw, .rw, .ro, .ro⟩, 0, .volatile, (.range 0 180)⟩,
   ⟨"INST_MAX_RESIDENT", 0x1300, 64, 0x06, 1, .u16, 2, ⟨.ro, .rw, .rw, .ro, .ro⟩, 64, .volatile, (.range 1 472)⟩,
   ⟨"INST_GUARD_CLASS", 0x1300, 64, 0x07, 1, .enum8, 1, ⟨.ro, .rw, .rw, .ro, .ro⟩, 1, .volatile, (.oneOf [0, 1, 2])⟩,
   ⟨"INST_DEADLINE_OK", 0x1300, 64, 0x08, 1, .bool, 1, ⟨.ro, .rw, .rw, .ro, .ro⟩, 0, .volatile, .any⟩,
   ⟨"INST_DRAIN_TIME", 0x1300, 64, 0x09, 1, .u16, 2, ⟨.ro, .rw, .rw, .ro, .ro⟩, 10, .volatile, (.range 0 1000)⟩,
   ⟨"INST_LAYER_GRANTS", 0x1300, 64, 0x0A, 1, .octets, 24, ⟨.ro, .rw, .rw, .ro, .ro⟩, 0, .volatile, .any⟩,
   ⟨"INST_DB_GRANT", 0x1300, 64, 0x0B, 1, .bits32, 4, ⟨.ro, .rw, .rw, .ro, .ro⟩, 0, .volatile, (.bits 0x0000FFFF 0x00000000)⟩,
   ⟨"INST_BALANCE", 0x1300, 64, 0x0C, 1, .s32, 4, ⟨.ro, .ro, .ro, .ro, .ro⟩, 0, .volatile, .any⟩,
   ⟨"INST_SUSPENDS", 0x1300, 64, 0x0D, 1, .u32, 4, ⟨.ro, .ro, .ro, .ro, .ro⟩, 0, .volatile, .any⟩,
   ⟨"INST_SQUASHED", 0x1300, 64, 0x0E, 1, .u32, 4, ⟨.ro, .ro, .ro, .ro, .ro⟩, 0, .volatile, .any⟩,
   ⟨"DEV_ORDERING_CODE", 0x1000, 1, 0x01, 1, .str, 64, ⟨.ro, .ro, .ro, .ro, .ro⟩, 0, .volatile, .any⟩,
   ⟨"DEV_STEPPING", 0x1000, 1, 0x02, 1, .str, 2, ⟨.ro, .ro, .ro, .ro, .ro⟩, 0x3141, .volatile, .any⟩,
   ⟨"DEV_SERIAL", 0x1000, 1, 0x03, 1, .octets, 16, ⟨.ro, .ro, .ro, .ro, .ro⟩, 0, .volatile, .any⟩,
   ⟨"DEV_FW_VERSION", 0x1000, 1, 0x04, 1, .u32, 4, ⟨.ro, .ro, .ro, .ro, .ro⟩, 0, .volatile, .any⟩,
   ⟨"DEV_DICT_GENERATION", 0x1000, 1, 0x05, 1, .u32, 4, ⟨.ro, .ro, .ro, .ro, .ro⟩, 0, .volatile, .any⟩,
   ⟨"DEV_OBJECT_COUNT", 0x1000, 1, 0x06, 1, .u16, 2, ⟨.ro, .ro, .ro, .ro, .ro⟩, 0, .volatile, .any⟩]
/-- Objects of indexes 0x1000 to 0x1FFF, part 2. -/
def rows1b : List ObjRow :=
  [⟨"LDP_UDP_ENABLE", 0x1010, 1, 0x01, 1, .bits32, 4, ⟨.ro, .rw, .rw, .ro, .rw⟩, 0, .stored, (.bits 0x00000003 0x00000000)⟩,
   ⟨"LDP_IPV4_ADDR", 0x1010, 1, 0x02, 2, .u32, 4, ⟨.ro, .rw, .rw, .ro, .rw⟩, 0, .stored, .any⟩,
   ⟨"LDP_IPV4_MASK", 0x1010, 1, 0x04, 2, .u32, 4, ⟨.ro, .rw, .rw, .ro, .rw⟩, 0, .stored, .any⟩,
   ⟨"LDP_IPV4_GATEWAY", 0x1010, 1, 0x06, 2, .u32, 4, ⟨.ro, .rw, .rw, .ro, .rw⟩, 0, .stored, .any⟩,
   ⟨"LDP_VLAN", 0x1010, 1, 0x08, 1, .u16, 2, ⟨.ro, .rw, .rw, .ro, .rw⟩, 0, .stored, (.range 0 4094)⟩,
   ⟨"LDP_PRIORITY", 0x1010, 1, 0x09, 1, .u8, 1, ⟨.ro, .rw, .rw, .ro, .rw⟩, 5, .stored, (.range 0 7)⟩,
   ⟨"LDP_CAN_CONTROLLER", 0x1011, 1, 0x01, 1, .u8, 1, ⟨.ro, .rw, .rw, .ro, .rw⟩, 255, .stored, (.oneOf [0, 1, 2, 3, 0xff])⟩,
   ⟨"LDP_CAN_REQ_ID", 0x1011, 1, 0x02, 1, .u32, 4, ⟨.ro, .rw, .rw, .ro, .rw⟩, 0x6a0, .stored, .any⟩,
   ⟨"LDP_CAN_RSP_ID", 0x1011, 1, 0x03, 1, .u32, 4, ⟨.ro, .rw, .rw, .ro, .rw⟩, 0x6a8, .stored, .any⟩,
   ⟨"LDP_CAN_NOMINAL", 0x1011, 1, 0x04, 1, .enum8, 1, ⟨.ro, .rws, .rws, .ro, .rws⟩, 2, .stored, (.oneOf [0, 1, 2, 3])⟩,
   ⟨"LDP_CAN_DATA", 0x1011, 1, 0x05, 1, .enum8, 1, ⟨.ro, .rws, .rws, .ro, .rws⟩, 2, .stored, (.oneOf [0, 1, 2, 3])⟩,
   ⟨"LDP_SESSION_IDLE", 0x1012, 1, 0x01, 1, .u16, 2, ⟨.ro, .rw, .rw, .ro, .rw⟩, 30, .stored, (.range 5 3600)⟩,
   ⟨"LDP_SESSIONS_OPEN", 0x1012, 1, 0x02, 1, .u8, 1, ⟨.ro, .ro, .ro, .ro, .ro⟩, 0, .volatile, .any⟩,
   ⟨"LDP_SUBS_OPEN", 0x1012, 1, 0x03, 1, .u16, 2, ⟨.ro, .ro, .ro, .ro, .ro⟩, 0, .volatile, .any⟩,
   ⟨"LDP_AUTH_FAILS", 0x1012, 1, 0x04, 1, .u32, 4, ⟨.ro, .ro, .ro, .ro, .ro⟩, 0, .volatile, .any⟩,
   ⟨"SESS_STATE", 0x1020, 8, 0x01, 1, .enum8, 1, ⟨.ro, .ro, .ro, .ro, .ro⟩, 0, .volatile, .any⟩,
   ⟨"SESS_SOURCE", 0x1020, 8, 0x02, 1, .octets, 8, ⟨.ro, .ro, .ro, .ro, .ro⟩, 0, .volatile, .any⟩,
   ⟨"SESS_CRED", 0x1020, 8, 0x03, 1, .u8, 1, ⟨.ro, .ro, .ro, .ro, .ro⟩, 255, .volatile, .any⟩,
   ⟨"SESS_OPENED", 0x1020, 8, 0x04, 1, .spos, 8, ⟨.ro, .ro, .ro, .ro, .ro⟩, 0, .volatile, .any⟩,
   ⟨"SESS_OUTSTANDING", 0x1020, 8, 0x05, 1, .u8, 1, ⟨.ro, .ro, .ro, .ro, .ro⟩, 0, .volatile, .any⟩]
/-- The objects of indexes 0x1000 to 0x1FFF. -/
def rows1 : List ObjRow := rows1a ++ rows1b

/-- Objects of indexes 0x2000 to 0x2FFF, part 1. -/
def rows2a : List ObjRow :=
  [⟨"SPK_LEAD_OUTPUT", 0x2100, 1, 0x01, 1, .u8, 1, ⟨.ro, .rw, .rw, .ro, .rw⟩, 255, .stored, (.oneOf [0, 1, 2, 3, 4, 5, 6, 7, 8, 9, 0xa, 0xb, 0xff])⟩,
   ⟨"SPK_POSITION", 0x2100, 1, 0x02, 1, .spos, 8, ⟨.ro, .ro, .ro, .ro, .ro⟩, 0, .volatile, .any⟩,
   ⟨"SPK_STATUS", 0x2100, 1, 0x03, 1, .bits32, 4, ⟨.ro, .rw, .ro, .ro, .ro⟩, 2, .volatile, (.bits 0x00000000 0x00000014)⟩,
   ⟨"SPK_NOM_LINE_PERIOD", 0x2100, 1, 0x04, 1, .u32, 4, ⟨.ro, .ro, .ro, .ro, .ro⟩, 0, .volatile, .any⟩,
   ⟨"SPK_NOM_FRAME_LINES", 0x2100, 1, 0x05, 1, .u16, 2, ⟨.ro, .ro, .ro, .ro, .ro⟩, 0, .volatile, .any⟩,
   ⟨"SPK_FRAME_EPOCH", 0x2100, 1, 0x06, 1, .u32, 4, ⟨.ro, .ro, .ro, .ro, .ro⟩, 0, .retained, .any⟩,
   ⟨"SPK_RELOCK_COUNT", 0x2100, 1, 0x07, 1, .u32, 4, ⟨.ro, .ro, .ro, .ro, .ro⟩, 0, .retained, .any⟩,
   ⟨"SPK_LAST_RELOCK", 0x2100, 1, 0x08, 1, .spos, 8, ⟨.ro, .ro, .ro, .ro, .ro⟩, 0, .retained, .any⟩,
   ⟨"SPK_COAST_FRAMES", 0x2100, 1, 0x09, 1, .u32, 4, ⟨.ro, .ro, .ro, .ro, .ro⟩, 0, .retained, .any⟩,
   ⟨"DTIME_NOW", 0x2101, 1, 0x01, 1, .dtime, 8, ⟨.ro, .ro, .ro, .ro, .ro⟩, 0, .volatile, .any⟩,
   ⟨"DTIME_SYNC_PORT", 0x2101, 1, 0x02, 1, .enum8, 1, ⟨.ro, .rw, .ro, .ro, .rw⟩, 0, .stored, (.oneOf [0, 1, 2])⟩,
   ⟨"DTIME_SYNC_STATE", 0x2101, 1, 0x03, 1, .enum8, 1, ⟨.ro, .ro, .ro, .ro, .ro⟩, 0, .volatile, .any⟩,
   ⟨"DTIME_OFFSET", 0x2101, 1, 0x04, 1, .s64, 8, ⟨.ro, .ro, .ro, .ro, .ro⟩, 0, .volatile, .any⟩,
   ⟨"DTIME_SLEW_LIMIT", 0x2101, 1, 0x05, 1, .u16, 2, ⟨.ro, .rw, .ro, .ro, .rw⟩, 0x1f4, .stored, (.range 1 1000)⟩,
   ⟨"DTIME_STEP_THRESHOLD", 0x2101, 1, 0x06, 1, .u32, 4, ⟨.ro, .rw, .ro, .ro, .rw⟩, 0xf4240, .stored, .any⟩,
   ⟨"SLOT_POSITION", 0x2200, 256, 0x01, 1, .spos, 8, ⟨.ro, .rw, .ro, .ro, .ro⟩, 0, .volatile, .any⟩,
   ⟨"SLOT_ACTION", 0x2200, 256, 0x02, 1, .enum8, 1, ⟨.ro, .rw, .ro, .ro, .ro⟩, 0, .volatile, (.oneOf [0, 1, 2, 3, 4, 5, 6, 7])⟩,
   ⟨"SLOT_ARG", 0x2200, 256, 0x03, 1, .u16, 2, ⟨.ro, .rw, .ro, .ro, .ro⟩, 0, .volatile, .any⟩,
   ⟨"SLOT_OWNER", 0x2200, 256, 0x04, 1, .u8, 1, ⟨.ro, .rw, .ro, .ro, .ro⟩, 192, .volatile, (.oneOf [0, 1, 2, 3, 4, 5, 6, 7, 8, 9, 0xa, 0xb, 0xc, 0xd, 0xe, 0xf, 0x10, 0x11, 0x12, 0x13, 0x14, 0x15, 0x16, 0x17, 0x18, 0x19, 0x1a, 0x1b, 0x1c, 0x1d, 0x1e, 0x1f, 0x20, 0x21, 0x22, 0x23, 0x24, 0x25, 0x26, 0x27, 0x28, 0x29, 0x2a, 0x2b, 0x2c, 0x2d, 0x2e, 0x2f, 0x30, 0x31, 0x32, 0x33, 0x34, 0x35, 0x36, 0x37, 0x38, 0x39, 0x3a, 0x3b, 0x3c, 0x3d, 0x3e, 0x3f, 0x40, 0xc0, 0xc1])⟩,
   ⟨"SLOT_CONTROL", 0x2200, 256, 0x05, 1, .bits32, 4, ⟨.ro, .rw, .ro, .ro, .ro⟩, 0, .volatile, (.bits 0x00000007 0x00000018)⟩,
   ⟨"SLOT_STATE", 0x2200, 256, 0x06, 1, .enum8, 1, ⟨.ro, .ro, .ro, .ro, .ro⟩, 0, .volatile, .any⟩,
   ⟨"SLOT_LAST_FIRE", 0x2200, 256, 0x07, 1, .spos, 8, ⟨.ro, .ro, .ro, .ro, .ro⟩, 0, .volatile, .any⟩,
   ⟨"REEL_TOTAL_SLICES", 0x2A00, 1, 0x01, 1, .u16, 2, ⟨.ro, .ro, .ro, .ro, .ro⟩, 0xc00, .volatile, .any⟩,
   ⟨"REEL_BITTERN_SLICES", 0x2A00, 1, 0x02, 1, .u16, 2, ⟨.rw, .ro, .ro, .ro, .ro⟩, 64, .latched, .any⟩]
/-- Objects of indexes 0x2000 to 0x2FFF, part 2. -/
def rows2b : List ObjRow :=
  [⟨"REEL_DAILIES_SLICES", 0x2A00, 1, 0x03, 1, .u16, 2, ⟨.ro, .ro, .ro, .ro, .ro⟩, 32, .volatile, .any⟩,
   ⟨"REEL_CRIT_RECT_SLICES", 0x2A00, 1, 0x04, 1, .u8, 1, ⟨.ro, .rw, .rw, .ro, .rw⟩, 6, .stored, (.range 1 64)⟩,
   ⟨"REEL_READ_LOAD", 0x2A00, 1, 0x05, 1, .u32, 4, ⟨.ro, .ro, .ro, .ro, .ro⟩, 0, .volatile, .any⟩,
   ⟨"REEL_CORRECTED", 0x2A00, 1, 0x06, 1, .u32, 4, ⟨.ro, .ro, .ro, .ro, .ro⟩, 0, .volatile, .any⟩,
   ⟨"REEL_UNCORRECTED", 0x2A00, 1, 0x07, 1, .u32, 4, ⟨.ro, .ro, .ro, .ro, .ro⟩, 0, .volatile, .any⟩,
   ⟨"REEL_OUT_FORMAT", 0x2A10, 12, 0x01, 1, .enum8, 1, ⟨.ro, .ro, .ro, .ro, .ro⟩, 0, .volatile, .any⟩,
   ⟨"REEL_OUT_SLICES", 0x2A10, 12, 0x02, 1, .u16, 2, ⟨.ro, .ro, .ro, .ro, .ro⟩, 0, .volatile, .any⟩,
   ⟨"REEL_OUT_STATUS", 0x2A10, 12, 0x03, 1, .bits32, 4, ⟨.ro, .rw, .ro, .ro, .ro⟩, 1, .volatile, (.bits 0x00000000 0x00000038)⟩,
   ⟨"REEL_OUT_RACE_LEAD", 0x2A10, 12, 0x04, 1, .u16, 2, ⟨.ro, .rw, .rw, .ro, .rw⟩, 64, .stored, (.range 64 1024)⟩,
   ⟨"REEL_OUT_MIN_LEAD", 0x2A10, 12, 0x05, 1, .u16, 2, ⟨.ro, .ro, .ro, .ro, .ro⟩, 0, .volatile, .any⟩,
   ⟨"REEL_OUT_SLIP_COUNT", 0x2A10, 12, 0x06, 1, .u32, 4, ⟨.ro, .ro, .ro, .ro, .ro⟩, 0, .volatile, .any⟩,
   ⟨"REEL_OUT_LAST_SLIP", 0x2A10, 12, 0x07, 1, .spos, 8, ⟨.ro, .ro, .ro, .ro, .ro⟩, 0, .volatile, .any⟩,
   ⟨"REEL_OUT_BLANK_COLOUR", 0x2A10, 12, 0x08, 1, .u32, 4, ⟨.ro, .rw, .rw, .ro, .rw⟩, 0, .stored, .any⟩,
   ⟨"MATTE_ENGINES", 0x2C00, 1, 0x01, 1, .u8, 1, ⟨.ro, .ro, .ro, .ro, .ro⟩, 12, .volatile, .any⟩,
   ⟨"MATTE_CLOCK_MAX", 0x2C00, 1, 0x02, 1, .u16, 2, ⟨.ro, .rw, .rw, .ro, .rw⟩, 0x3e8, .stored, (.range 250 1000)⟩,
   ⟨"MATTE_CLOCK_NOW", 0x2C00, 1, 0x03, 1, .u16, 2, ⟨.ro, .ro, .ro, .ro, .ro⟩, 0, .volatile, .any⟩,
   ⟨"MATTE_SPLIT_THRESHOLD", 0x2C00, 1, 0x04, 1, .u8, 1, ⟨.ro, .rw, .rw, .ro, .rw⟩, 75, .stored, (.range 50 95)⟩,
   ⟨"MATTE_STALE_COUNT", 0x2C00, 1, 0x05, 1, .u32, 4, ⟨.ro, .ro, .ro, .ro, .ro⟩, 0, .volatile, .any⟩,
   ⟨"MATTE_REJECT_COUNT", 0x2C00, 1, 0x06, 1, .u32, 4, ⟨.ro, .ro, .ro, .ro, .ro⟩, 0, .volatile, .any⟩,
   ⟨"ME_STATE", 0x2C10, 12, 0x01, 1, .enum8, 1, ⟨.ro, .ro, .ro, .ro, .ro⟩, 0, .volatile, .any⟩,
   ⟨"ME_TARGET", 0x2C10, 12, 0x02, 1, .u8, 1, ⟨.ro, .ro, .ro, .ro, .ro⟩, 255, .volatile, .any⟩,
   ⟨"ME_LAST_TIME", 0x2C10, 12, 0x03, 1, .u32, 4, ⟨.ro, .ro, .ro, .ro, .ro⟩, 0, .volatile, .any⟩,
   ⟨"ME_LAST_ESTIMATE", 0x2C10, 12, 0x04, 1, .u32, 4, ⟨.ro, .ro, .ro, .ro, .ro⟩, 0, .volatile, .any⟩,
   ⟨"LAYER_DEGAMMA_LO", 0x2D00, 192, 0x01, 1, .octets, 4096, ⟨.rw, .rw, .rw, .rw, .rw⟩, 0, .stored, .any⟩]
/-- Objects of indexes 0x2000 to 0x2FFF, part 3. -/
def rows2c : List ObjRow :=
  [⟨"LAYER_DEGAMMA_HI", 0x2D00, 192, 0x02, 1, .octets, 4096, ⟨.rw, .rw, .rw, .rw, .rw⟩, 0, .stored, .any⟩,
   ⟨"LAYER_MATRIX", 0x2D00, 192, 0x03, 1, .octets, 48, ⟨.rw, .rw, .rw, .rw, .rw⟩, 0, .stored, .any⟩,
   ⟨"LAYER_PALETTE", 0x2D00, 192, 0x04, 1, .octets, 1024, ⟨.rw, .rw, .rw, .rw, .rw⟩, 0, .volatile, .any⟩,
   ⟨"OUT_BACKGROUND", 0x2E00, 12, 0x01, 1, .u32, 4, ⟨.ro, .rw, .rw, .ro, .rw⟩, 0, .stored, .any⟩,
   ⟨"OUT_LUT3D_EN", 0x2E00, 12, 0x02, 1, .bool, 1, ⟨.ro, .rw, .rw, .ro, .rw⟩, 0, .stored, .any⟩,
   ⟨"OUT_LUT3D_ACTIVE", 0x2E00, 12, 0x03, 1, .u8, 1, ⟨.ro, .ro, .ro, .ro, .ro⟩, 0, .volatile, .any⟩,
   ⟨"OUT_LUT3D_SWAP", 0x2E00, 12, 0x04, 1, .bool, 1, ⟨.wo, .wo, .wo, .ro, .wo⟩, 0, .volatile, .any⟩,
   ⟨"OUT_REGAMMA_MODE", 0x2E00, 12, 0x05, 1, .enum8, 1, ⟨.ro, .rw, .rw, .ro, .rw⟩, 0, .stored, (.oneOf [0, 1, 2, 3])⟩,
   ⟨"OUT_REGAMMA_LO", 0x2E00, 12, 0x06, 1, .octets, 4096, ⟨.ro, .rw, .rw, .ro, .rw⟩, 0, .stored, .any⟩,
   ⟨"OUT_REGAMMA_HI", 0x2E00, 12, 0x07, 1, .octets, 4096, ⟨.ro, .rw, .rw, .ro, .rw⟩, 0, .stored, .any⟩,
   ⟨"OUT_DITHER", 0x2E00, 12, 0x08, 1, .enum8, 1, ⟨.ro, .rw, .rw, .ro, .rw⟩, 2, .stored, (.oneOf [0, 1, 2])⟩,
   ⟨"OUT_COLOUR_SPACE", 0x2E00, 12, 0x09, 1, .enum8, 1, ⟨.ro, .rw, .rw, .ro, .rw⟩, 0, .stored, (.oneOf [0, 1])⟩,
   ⟨"OUT_COLOUR_STATUS", 0x2E00, 12, 0x0A, 1, .bits32, 4, ⟨.ro, .ro, .ro, .ro, .ro⟩, 0, .volatile, (.bits 0 0)⟩,
   ⟨"OUT_LUT3D_BLOCK", 0x2F00, 12, 0x01, 71, .octets, 4096, ⟨.ro, .rw, .rw, .ro, .rw⟩, 0, .stored, .any⟩,
   ⟨"OUT_CHANNELS", 0x2400, 1, 0x01, 1, .u8, 1, ⟨.ro, .ro, .ro, .ro, .ro⟩, 12, .volatile, .any⟩,
   ⟨"OUT_PAIR_LOCK", 0x2400, 1, 0x02, 1, .bits32, 4, ⟨.ro, .rws, .rws, .ro, .rws⟩, 0, .stored, (.bits 0x0000003F 0x00000000)⟩,
   ⟨"OUT_PIXEL_LOAD", 0x2400, 1, 0x03, 1, .u32, 4, ⟨.ro, .ro, .ro, .ro, .ro⟩, 0, .volatile, .any⟩,
   ⟨"OUT_TIMING", 0x2410, 12, 0x01, 1, .octets, 32, ⟨.ro, .ro, .ro, .ro, .ro⟩, 0, .volatile, .any⟩,
   ⟨"OUT_ENABLE", 0x2410, 12, 0x02, 1, .bool, 1, ⟨.ro, .rw, .rw, .ro, .rw⟩, 1, .stored, .any⟩,
   ⟨"OUT_LATCH_MODE", 0x2410, 12, 0x03, 1, .enum8, 1, ⟨.ro, .rw, .rw, .ro, .rw⟩, 1, .volatile, (.oneOf [0, 1])⟩,
   ⟨"OUT_STATE", 0x2410, 12, 0x04, 1, .enum8, 1, ⟨.ro, .ro, .ro, .ro, .ro⟩, 0, .volatile, .any⟩,
   ⟨"OUT_VT_MIN", 0x2410, 12, 0x05, 1, .u16, 2, ⟨.ro, .ro, .ro, .ro, .ro⟩, 0, .volatile, .any⟩,
   ⟨"OUT_VT_MAX", 0x2410, 12, 0x06, 1, .u16, 2, ⟨.ro, .ro, .ro, .ro, .ro⟩, 0, .volatile, .any⟩,
   ⟨"OUT_DECISION_LINES", 0x2410, 12, 0x07, 1, .u8, 1, ⟨.ro, .rw, .rw, .ro, .rw⟩, 4, .stored, (.range 1 64)⟩]
/-- Objects of indexes 0x2000 to 0x2FFF, part 4. -/
def rows2d : List ObjRow :=
  [⟨"OUT_HOLD_FRAMES", 0x2410, 12, 0x08, 1, .u16, 2, ⟨.ro, .rw, .rw, .ro, .rw⟩, 120, .stored, .any⟩,
   ⟨"OUT_FRAME_COUNT", 0x2410, 12, 0x09, 1, .u32, 4, ⟨.ro, .ro, .ro, .ro, .ro⟩, 0, .volatile, .any⟩,
   ⟨"OUT_FLIP_RECORD", 0x2410, 12, 0x0A, 1, .octets, 32, ⟨.ro, .ro, .ro, .ro, .ro⟩, 0, .volatile, .any⟩,
   ⟨"OUT_REPEAT_COUNT", 0x2410, 12, 0x0B, 1, .u32, 4, ⟨.ro, .ro, .ro, .ro, .ro⟩, 0, .volatile, .any⟩,
   ⟨"OUT_LATE_COUNT", 0x2410, 12, 0x0C, 1, .u32, 4, ⟨.ro, .ro, .ro, .ro, .ro⟩, 0, .volatile, .any⟩,
   ⟨"OUT_PANEL_MODES", 0x2420, 12, 0x01, 1, .octets, 512, ⟨.ro, .rw, .rw, .ro, .rw⟩, 0, .stored, .any⟩,
   ⟨"OUT_SINK_MODES", 0x2420, 12, 0x02, 1, .octets, 1024, ⟨.ro, .ro, .ro, .ro, .ro⟩, 0, .volatile, .any⟩,
   ⟨"OUT_PORT", 0x2500, 1, 0x01, 12, .u8, 1, ⟨.ro, .rw, .rw, .ro, .rw⟩, 0, .stored, .any⟩,
   ⟨"PORT_KIND", 0x2510, 14, 0x01, 1, .enum8, 1, ⟨.ro, .ro, .ro, .ro, .ro⟩, 0, .volatile, .any⟩,
   ⟨"PORT_CONFIG", 0x2510, 14, 0x02, 1, .enum8, 1, ⟨.ro, .rw, .rw, .ro, .rw⟩, 0, .stored, (.oneOf [0, 1])⟩,
   ⟨"PORT_MAX_LANES", 0x2510, 14, 0x03, 1, .u8, 1, ⟨.ro, .rw, .rw, .ro, .rw⟩, 4, .stored, .any⟩,
   ⟨"PORT_MAX_RATE", 0x2510, 14, 0x04, 1, .u16, 2, ⟨.ro, .rw, .rw, .ro, .rw⟩, 6, .stored, .any⟩,
   ⟨"PORT_LANE_MAP", 0x2510, 14, 0x05, 1, .bits32, 4, ⟨.ro, .rw, .rw, .ro, .rw⟩, 228, .stored, (.bits 0x01FF1FFF 0x00000000)⟩,
   ⟨"PORT_DSC_MODE", 0x2510, 14, 0x06, 1, .enum8, 1, ⟨.ro, .rw, .rw, .ro, .rw⟩, 1, .stored, (.oneOf [0, 1, 2])⟩,
   ⟨"PORT_DSC_MAX_BPP", 0x2510, 14, 0x07, 1, .u16, 2, ⟨.ro, .rw, .rw, .ro, .rw⟩, 0x100, .stored, (.range 128 256)⟩,
   ⟨"PORT_DSC_SLICES", 0x2510, 14, 0x08, 1, .u8, 1, ⟨.ro, .rw, .rw, .ro, .rw⟩, 0, .stored, (.oneOf [0, 1, 2, 4, 8])⟩,
   ⟨"PORT_STATUS", 0x2510, 14, 0x09, 1, .bits32, 4, ⟨.ro, .rw, .ro, .ro, .ro⟩, 0, .volatile, (.bits 0x00000000 0x00000300)⟩,
   ⟨"PORT_LINK_NOW", 0x2510, 14, 0x0A, 1, .u32, 4, ⟨.ro, .ro, .ro, .ro, .ro⟩, 0, .volatile, .any⟩,
   ⟨"PORT_TRAIN_FAILS", 0x2510, 14, 0x0C, 1, .u32, 4, ⟨.ro, .ro, .ro, .ro, .ro⟩, 0, .volatile, .any⟩,
   ⟨"PORT_RETRAIN", 0x2510, 14, 0x0D, 1, .bool, 1, ⟨.wo, .wo, .wo, .ro, .wo⟩, 0, .volatile, .any⟩,
   ⟨"PORT_RETRY_INTERVAL", 0x2510, 14, 0x0E, 1, .u16, 2, ⟨.ro, .rw, .rw, .ro, .rw⟩, 0x3e8, .stored, (.range 100 60000)⟩,
   ⟨"PORT_ATTEMPT_LIMIT", 0x2510, 14, 0x0F, 1, .u16, 2, ⟨.ro, .rw, .rw, .ro, .rw⟩, 0x1f4, .stored, (.range 50 2000)⟩,
   ⟨"PORT_DSI_INIT_SEQ", 0x2510, 14, 0x10, 1, .octets, 256, ⟨.ro, .rw, .rw, .ro, .rw⟩, 0, .stored, .any⟩,
   ⟨"PORT_DSI_HOLD_ENTER_SEQ", 0x2510, 14, 0x11, 1, .octets, 256, ⟨.ro, .rw, .rw, .ro, .rw⟩, 0, .stored, .any⟩]
/-- Objects of indexes 0x2000 to 0x2FFF, part 5. -/
def rows2e : List ObjRow :=
  [⟨"PORT_DSI_HOLD_EXIT_SEQ", 0x2510, 14, 0x12, 1, .octets, 256, ⟨.ro, .rw, .rw, .ro, .rw⟩, 0, .stored, .any⟩,
   ⟨"PORT_DSI_FLAGS", 0x2510, 14, 0x13, 1, .bits32, 4, ⟨.ro, .rw, .rw, .ro, .rw⟩, 0, .stored, (.bits 0x0000001F 0x00000000)⟩,
   ⟨"PORT_HDR_METADATA", 0x2510, 14, 0x14, 1, .octets, 26, ⟨.ro, .rw, .rw, .ro, .rw⟩, 0, .stored, .any⟩,
   ⟨"OUT_GUARD_EN", 0x2430, 12, 0x01, 1, .bool, 1, ⟨.ro, .rw, .rw, .ro, .rw⟩, 0, .stored, .any⟩,
   ⟨"OUT_GUARD_MARGIN", 0x2430, 12, 0x02, 1, .u16, 2, ⟨.ro, .rw, .rw, .ro, .rw⟩, 200, .stored, (.range 0 5000)⟩,
   ⟨"OUT_GUARD_MAX", 0x2430, 12, 0x03, 1, .u16, 2, ⟨.ro, .rw, .rw, .ro, .rw⟩, 0x1f40, .stored, (.range 1000 50000)⟩,
   ⟨"OUT_GUARD_LAST", 0x2430, 12, 0x04, 1, .spos, 8, ⟨.ro, .ro, .ro, .ro, .ro⟩, 0, .volatile, .any⟩]
/-- The objects of indexes 0x2000 to 0x2FFF. -/
def rows2 : List ObjRow := rows2a ++ rows2b ++ rows2c ++ rows2d ++ rows2e

/-- The objects of indexes 0x3000 to 0x3FFF. -/
def rows3 : List ObjRow :=
  [⟨"RAS_CLUSTERS", 0x3000, 1, 0x01, 1, .u8, 1, ⟨.ro, .ro, .ro, .ro, .ro⟩, 24, .volatile, .any⟩,
   ⟨"RAS_CLOCK_NOW", 0x3000, 1, 0x02, 1, .u16, 2, ⟨.ro, .ro, .ro, .ro, .ro⟩, 0, .volatile, .any⟩,
   ⟨"RAS_PB_RESERVE_PAGES", 0x3000, 1, 0x03, 1, .u16, 2, ⟨.ro, .rws, .rws, .ro, .rws⟩, 128, .stored, (.range 16 1024)⟩,
   ⟨"RAS_PB_RESERVE_FREE", 0x3000, 1, 0x04, 1, .u16, 2, ⟨.ro, .ro, .ro, .ro, .ro⟩, 128, .volatile, .any⟩,
   ⟨"RAS_PB_RESERVE_PER_JOB", 0x3000, 1, 0x05, 1, .u16, 2, ⟨.ro, .rw, .rw, .ro, .rw⟩, 64, .stored, (.range 1 1024)⟩,
   ⟨"RAS_PB_PARTIAL_COUNT", 0x3000, 1, 0x06, 1, .u32, 4, ⟨.ro, .ro, .ro, .ro, .ro⟩, 0, .volatile, .any⟩,
   ⟨"RAS_PB_EXHAUSTED_COUNT", 0x3000, 1, 0x07, 1, .u32, 4, ⟨.ro, .ro, .ro, .ro, .ro⟩, 0, .volatile, .any⟩,
   ⟨"RAS_JOB_TIMEOUT", 0x3000, 1, 0x08, 1, .u32, 4, ⟨.ro, .rw, .rw, .ro, .rw⟩, 0x7d0, .stored, (.range 10 60000)⟩,
   ⟨"RAS_CONTEXT_BYTES", 0x3000, 1, 0x09, 1, .u32, 4, ⟨.ro, .ro, .ro, .ro, .ro⟩, 0xc10000, .volatile, .any⟩,
   ⟨"RAS_PREEMPT_MAX", 0x3000, 1, 0x0A, 1, .u32, 4, ⟨.ro, .ro, .ro, .ro, .ro⟩, 0, .volatile, .any⟩,
   ⟨"RAS_XLATE_CACHE_BYTES", 0x3000, 1, 0x0B, 1, .u32, 4, ⟨.ro, .rws, .rws, .ro, .rws⟩, 0x4000000, .stored, (.range 16777216 536870912)⟩,
   ⟨"RAS_XLATE_HITS", 0x3000, 1, 0x0C, 1, .u32, 4, ⟨.ro, .ro, .ro, .ro, .ro⟩, 0, .volatile, .any⟩,
   ⟨"RAS_XLATE_MISSES", 0x3000, 1, 0x0D, 1, .u32, 4, ⟨.ro, .ro, .ro, .ro, .ro⟩, 0, .volatile, .any⟩,
   ⟨"RAS_PB_POOL_PAGES", 0x3100, 64, 0x01, 1, .u16, 2, ⟨.ro, .ro, .ro, .ro, .ro⟩, 0, .volatile, .any⟩,
   ⟨"RAS_PB_POOL_FREE", 0x3100, 64, 0x02, 1, .u16, 2, ⟨.ro, .ro, .ro, .ro, .ro⟩, 0, .volatile, .any⟩]

/-- Objects of indexes 0x4000 to 0x4FFF, part 1. -/
def rows4a : List ObjRow :=
  [⟨"GRIP_SURFACES_USED", 0x4C00, 1, 0x01, 1, .u16, 2, ⟨.ro, .ro, .ro, .ro, .ro⟩, 0, .volatile, .any⟩,
   ⟨"GRIP_REEL_POOL_SLICES", 0x4C00, 1, 0x02, 1, .u16, 2, ⟨.ro, .ro, .ro, .ro, .ro⟩, 0, .volatile, .any⟩,
   ⟨"GRIP_REEL_FREE_SLICES", 0x4C00, 1, 0x03, 1, .u16, 2, ⟨.ro, .ro, .ro, .ro, .ro⟩, 0, .volatile, .any⟩,
   ⟨"GRIP_DRAM_FED_MASK", 0x4C00, 1, 0x04, 1, .bits32, 4, ⟨.ro, .ro, .ro, .ro, .ro⟩, 0, .volatile, (.bits 0 0)⟩,
   ⟨"GRIP_EXCLUDED_CHANNELS", 0x4C00, 1, 0x05, 1, .bits32, 4, ⟨.ro, .ro, .ro, .ro, .ro⟩, 0, .volatile, (.bits 0 0)⟩,
   ⟨"GRIP_MIGRATIONS_ACTIVE", 0x4C00, 1, 0x06, 1, .u8, 1, ⟨.ro, .ro, .ro, .ro, .ro⟩, 0, .volatile, .any⟩,
   ⟨"GRIP_MIGRATED_BYTES", 0x4C00, 1, 0x07, 1, .u64, 8, ⟨.ro, .ro, .ro, .ro, .ro⟩, 0, .volatile, .any⟩,
   ⟨"GRIP_LAYER_TABLE", 0x4C01, 1, 0x01, 1, .octets, 3072, ⟨.ro, .ro, .ro, .ro, .ro⟩, 0, .volatile, .any⟩,
   ⟨"GRIP_HEALTH_TABLE", 0x4C02, 1, 0x01, 1, .octets, 736, ⟨.ro, .ro, .ro, .ro, .ro⟩, 0, .volatile, .any⟩,
   ⟨"GRIP_HEALTH_SINCE", 0x4C02, 1, 0x02, 1, .octets, 736, ⟨.ro, .ro, .ro, .ro, .ro⟩, 0, .volatile, .any⟩,
   ⟨"GRIP_SURF_TABLE", 0x4C10, 64, 0x01, 1, .octets, 4096, ⟨.ro, .ro, .ro, .ro, .ro⟩, 0, .volatile, .any⟩,
   ⟨"MEM_CHANNELS_ENABLED", 0x4000, 1, 0x01, 1, .bits32, 4, ⟨.ro, .rws, .ro, .ro, .rws⟩, 255, .stored, (.bits 0x000000FF 0x00000000)⟩,
   ⟨"MEM_DATA_RATE", 0x4000, 1, 0x02, 1, .u16, 2, ⟨.ro, .rws, .ro, .ro, .rws⟩, 0x2155, .stored, .any⟩,
   ⟨"MEM_TCASE_RATED", 0x4000, 1, 0x03, 1, .enum8, 1, ⟨.ro, .rws, .ro, .ro, .rws⟩, 2, .stored, (.oneOf [0, 1, 2])⟩,
   ⟨"MEM_REFI_NOW", 0x4000, 1, 0x04, 1, .u16, 2, ⟨.ro, .ro, .ro, .ro, .ro⟩, 0x3d1, .volatile, .any⟩,
   ⟨"MEM_CE_COUNT", 0x4000, 1, 0x05, 1, .u32, 4, ⟨.ro, .ro, .ro, .ro, .ro⟩, 0, .volatile, .any⟩,
   ⟨"MEM_UE_COUNT", 0x4000, 1, 0x06, 1, .u32, 4, ⟨.ro, .ro, .ro, .ro, .ro⟩, 0, .volatile, .any⟩,
   ⟨"MEM_POISONED_LINES", 0x4000, 1, 0x07, 1, .u32, 4, ⟨.ro, .ro, .ro, .ro, .ro⟩, 0, .volatile, .any⟩,
   ⟨"MEM_CE_RETIRE_LIMIT", 0x4000, 1, 0x08, 1, .u32, 4, ⟨.ro, .rw, .ro, .ro, .rw⟩, 0x2710, .stored, .any⟩,
   ⟨"MEM_MR4_POLL", 0x4000, 1, 0x09, 1, .u16, 2, ⟨.ro, .rw, .ro, .ro, .rw⟩, 16, .stored, (.range 4 256)⟩,
   ⟨"MEM_RECENTRE_EN", 0x4000, 1, 0x0A, 1, .bool, 1, ⟨.ro, .rw, .ro, .ro, .rw⟩, 1, .stored, .any⟩,
   ⟨"MEM_RECENTRE_THRESHOLD", 0x4000, 1, 0x0B, 1, .u8, 1, ⟨.ro, .rw, .ro, .ro, .rw⟩, 4, .stored, (.range 2 32)⟩,
   ⟨"MEM_SWEEP_PERIOD", 0x4000, 1, 0x0C, 1, .u16, 2, ⟨.ro, .rw, .ro, .ro, .rw⟩, 100, .stored, (.range 10 10000)⟩,
   ⟨"MEM_FORCED_REFRESH", 0x4000, 1, 0x0D, 1, .u32, 4, ⟨.ro, .ro, .ro, .ro, .ro⟩, 0, .volatile, .any⟩]
/-- Objects of indexes 0x4000 to 0x4FFF, part 2. -/
def rows4b : List ObjRow :=
  [⟨"MEM_MARGIN_ERR_LIMIT", 0x4000, 1, 0x0F, 1, .u16, 2, ⟨.ro, .rw, .ro, .ro, .rw⟩, 0, .stored, .any⟩,
   ⟨"MEM_MARGIN_LOW", 0x4000, 1, 0x10, 1, .u8, 1, ⟨.ro, .rw, .ro, .ro, .rw⟩, 8, .stored, .any⟩,
   ⟨"MC_STATE", 0x4010, 8, 0x01, 1, .enum8, 1, ⟨.ro, .ro, .ro, .ro, .ro⟩, 0, .volatile, .any⟩,
   ⟨"MC_INFLIGHT", 0x4010, 8, 0x02, 1, .u8, 1, ⟨.ro, .ro, .ro, .ro, .ro⟩, 0, .volatile, .any⟩,
   ⟨"MC_REFI_NOW", 0x4010, 8, 0x03, 1, .u16, 2, ⟨.ro, .ro, .ro, .ro, .ro⟩, 0, .volatile, .any⟩,
   ⟨"MC_REFRESH_DEBT", 0x4010, 8, 0x04, 1, .s8, 1, ⟨.ro, .ro, .ro, .ro, .ro⟩, 0, .volatile, .any⟩,
   ⟨"RANK_SIZE", 0x4020, 16, 0x01, 1, .enum8, 1, ⟨.ro, .rws, .ro, .ro, .rws⟩, 3, .stored, (.oneOf [0, 1, 2, 3, 4])⟩,
   ⟨"RANK_STATE", 0x4020, 16, 0x02, 1, .enum8, 1, ⟨.ro, .ro, .ro, .ro, .ro⟩, 0, .volatile, .any⟩,
   ⟨"RANK_USABLE_MIB", 0x4020, 16, 0x03, 1, .u16, 2, ⟨.ro, .ro, .ro, .ro, .ro⟩, 0, .volatile, .any⟩,
   ⟨"RANK_CE_24H", 0x4020, 16, 0x04, 1, .u32, 4, ⟨.ro, .ro, .ro, .ro, .ro⟩, 0, .volatile, .any⟩,
   ⟨"TRAIN_RD", 0x4030, 8, 0x01, 1, .octets, 72, ⟨.ro, .rw, .ro, .ro, .rw⟩, 0, .stored, .any⟩,
   ⟨"TRAIN_WR", 0x4030, 8, 0x02, 1, .octets, 72, ⟨.ro, .rw, .ro, .ro, .rw⟩, 0, .stored, .any⟩,
   ⟨"MARGIN_REPORT", 0x4030, 8, 0x03, 1, .octets, 64, ⟨.ro, .ro, .ro, .ro, .ro⟩, 0, .volatile, .any⟩,
   ⟨"TRAIN_RECENTRES", 0x4030, 8, 0x04, 1, .u32, 4, ⟨.ro, .ro, .ro, .ro, .ro⟩, 0, .volatile, .any⟩,
   ⟨"MEM_RETIRED_RANKS", 0x4040, 1, 0x01, 1, .bits32, 4, ⟨.ro, .rw, .ro, .ro, .rw⟩, 0, .stored, (.bits 0x0000FFFF 0x00000000)⟩,
   ⟨"MEM_SPARE_STATE", 0x4040, 1, 0x02, 1, .enum8, 1, ⟨.ro, .ro, .ro, .ro, .ro⟩, 0, .volatile, .any⟩,
   ⟨"MEM_SPARE_COPY_PTR", 0x4040, 1, 0x03, 1, .u64, 8, ⟨.ro, .ro, .ro, .ro, .ro⟩, 0, .volatile, .any⟩,
   ⟨"MEM_SPARE_SOURCE", 0x4040, 1, 0x04, 1, .u8, 1, ⟨.ro, .ro, .ro, .ro, .ro⟩, 255, .volatile, .any⟩,
   ⟨"MEM_SPARE_RATE", 0x4040, 1, 0x05, 1, .u16, 2, ⟨.ro, .rw, .ro, .ro, .rw⟩, 0x1f40, .stored, (.range 500 8000)⟩,
   ⟨"MEM_POISON_LIST", 0x4041, 1, 0x01, 1, .octets, 4096, ⟨.ro, .ro, .ro, .ro, .ro⟩, 0, .volatile, .any⟩,
   ⟨"MEM_OWNER_TABLE", 0x4080, 32, 0x01, 1, .octets, 4096, ⟨.ro, .ro, .ro, .ro, .ro⟩, 0, .volatile, .any⟩]
/-- The objects of indexes 0x4000 to 0x4FFF. -/
def rows4 : List ObjRow := rows4a ++ rows4b

/-- Objects of indexes 0x5000 to 0x5FFF, part 1. -/
def rows5a : List ObjRow :=
  [⟨"TOUCH_FRONT_ENDS", 0x5000, 1, 0x01, 1, .u8, 1, ⟨.ro, .ro, .ro, .ro, .ro⟩, 2, .volatile, .any⟩,
   ⟨"TOUCH_WAKE_EN", 0x5000, 1, 0x02, 1, .bool, 1, ⟨.ro, .rw, .rw, .ro, .rw⟩, 1, .stored, .any⟩,
   ⟨"TOUCH_WAKE_THRESHOLD", 0x5000, 1, 0x03, 1, .u16, 2, ⟨.ro, .rw, .rw, .ro, .rw⟩, 40, .stored, .any⟩,
   ⟨"RF_CONTROL", 0x5100, 2, 0x01, 1, .bits32, 4, ⟨.ro, .rw, .rw, .ro, .rw⟩, 0, .stored, (.bits 0x00000001 0x00000000)⟩,
   ⟨"RF_STATE", 0x5100, 2, 0x02, 1, .enum8, 1, ⟨.ro, .ro, .ro, .ro, .ro⟩, 0, .volatile, .any⟩,
   ⟨"RF_GEOMETRY", 0x5100, 2, 0x03, 1, .u64, 8, ⟨.ro, .rws, .rws, .ro, .rws⟩, 0, .stored, .any⟩,
   ⟨"RF_PANEL_OUTPUT", 0x5100, 2, 0x04, 1, .u8, 1, ⟨.ro, .rws, .rws, .ro, .rws⟩, 255, .stored, .any⟩,
   ⟨"RF_SCANS_PER_FRAME", 0x5100, 2, 0x05, 1, .u8, 1, ⟨.ro, .rws, .rws, .ro, .rws⟩, 2, .stored, (.range 1 4)⟩,
   ⟨"RF_SCAN_TIME", 0x5100, 2, 0x06, 1, .u16, 2, ⟨.ro, .rws, .rws, .ro, .rws⟩, 0x1f4, .stored, (.range 200 1000)⟩,
   ⟨"RF_TOUCH_THRESHOLD", 0x5100, 2, 0x07, 1, .u16, 2, ⟨.ro, .rw, .rw, .ro, .rw⟩, 60, .stored, .any⟩,
   ⟨"RF_GLOVE_MUTUAL", 0x5100, 2, 0x08, 1, .u16, 2, ⟨.ro, .rw, .rw, .ro, .rw⟩, 15, .stored, .any⟩,
   ⟨"RF_GLOVE_SELF", 0x5100, 2, 0x09, 1, .u16, 2, ⟨.ro, .rw, .rw, .ro, .rw⟩, 40, .stored, .any⟩,
   ⟨"RF_HOVER_SELF", 0x5100, 2, 0x0A, 1, .u16, 2, ⟨.ro, .rw, .rw, .ro, .rw⟩, 12, .stored, .any⟩,
   ⟨"RF_PALM_NODES", 0x5100, 2, 0x0B, 1, .u8, 1, ⟨.ro, .rw, .rw, .ro, .rw⟩, 20, .stored, (.range 4 255)⟩,
   ⟨"RF_BASELINE_TAU", 0x5100, 2, 0x0C, 1, .u16, 2, ⟨.ro, .rw, .rw, .ro, .rw⟩, 0x1f40, .stored, (.range 1000 60000)⟩,
   ⟨"RF_RECAL_LEVEL", 0x5100, 2, 0x0D, 1, .u16, 2, ⟨.ro, .rw, .rw, .ro, .rw⟩, 12, .stored, .any⟩,
   ⟨"RF_RECAL_SCANS", 0x5100, 2, 0x0E, 1, .u8, 1, ⟨.ro, .rw, .rw, .ro, .rw⟩, 4, .stored, (.range 1 32)⟩,
   ⟨"RF_SUSPECT_PERCENT", 0x5100, 2, 0x0F, 1, .u8, 1, ⟨.ro, .rw, .rw, .ro, .rw⟩, 25, .stored, (.range 5 90)⟩,
   ⟨"RF_SUSPECT_ACCEPT", 0x5100, 2, 0x10, 1, .u16, 2, ⟨.ro, .rw, .rw, .ro, .rw⟩, 30, .stored, (.range 1 3600)⟩,
   ⟨"RF_LONG_HOLD", 0x5100, 2, 0x11, 1, .u16, 2, ⟨.ro, .rw, .rw, .ro, .rw⟩, 0x258, .stored, (.range 1 65535)⟩,
   ⟨"RF_FIT_SHIFT", 0x5100, 2, 0x12, 1, .u8, 1, ⟨.ro, .rw, .rw, .ro, .rw⟩, 8, .stored, (.range 4 16)⟩,
   ⟨"RF_READER", 0x5100, 2, 0x14, 1, .u8, 1, ⟨.ro, .rw, .rw, .ro, .ro⟩, 255, .stored, (.oneOf [0, 1, 2, 3, 4, 5, 6, 7, 8, 9, 0xa, 0xb, 0xc, 0xd, 0xe, 0xf, 0x10, 0x11, 0x12, 0x13, 0x14, 0x15, 0x16, 0x17, 0x18, 0x19, 0x1a, 0x1b, 0x1c, 0x1d, 0x1e, 0x1f, 0x20, 0x21, 0x22, 0x23, 0x24, 0x25, 0x26, 0x27, 0x28, 0x29, 0x2a, 0x2b, 0x2c, 0x2d, 0x2e, 0x2f, 0x30, 0x31, 0x32, 0x33, 0x34, 0x35, 0x36, 0x37, 0x38, 0x39, 0x3a, 0x3b, 0x3c, 0x3d, 0x3e, 0x3f, 0xff])⟩,
   ⟨"RF_DOORBELL", 0x5100, 2, 0x15, 1, .u16, 2, ⟨.ro, .rw, .rw, .ro, .rw⟩, 0, .stored, .any⟩,
   ⟨"RF_QUIET_HYST", 0x5100, 2, 0x16, 1, .u8, 1, ⟨.ro, .rw, .rw, .ro, .rw⟩, 30, .stored, (.range 0 90)⟩]
/-- Objects of indexes 0x5000 to 0x5FFF, part 2. -/
def rows5b : List ObjRow :=
  [⟨"RF_STATUS", 0x5100, 2, 0x17, 1, .bits32, 4, ⟨.ro, .rw, .ro, .ro, .ro⟩, 0, .volatile, (.bits 0x00000000 0x0000000C)⟩,
   ⟨"RF_FACTORY_REF", 0x5120, 2, 0x01, 1, .octets, 3584, ⟨.ro, .rws, .ro, .ro, .rws⟩, 0, .stored, .any⟩,
   ⟨"RF_COUPLING", 0x5140, 2, 0x01, 1, .octets, 1792, ⟨.ro, .rws, .rws, .ro, .rws⟩, 0, .stored, .any⟩,
   ⟨"RF_BASELINE", 0x5150, 2, 0x01, 1, .octets, 3584, ⟨.ro, .ro, .ro, .ro, .ro⟩, 0, .volatile, .any⟩,
   ⟨"RF_NOISE", 0x5150, 2, 0x02, 1, .octets, 64, ⟨.ro, .ro, .ro, .ro, .ro⟩, 0, .volatile, .any⟩,
   ⟨"RF_REPORT", 0x5160, 2, 0x01, 1, .octets, 184, ⟨.ro, .ro, .ro, .ro, .ro⟩, 0, .volatile, .any⟩,
   ⟨"RF_HISTORY", 0x5160, 2, 0x02, 1, .octets, 2944, ⟨.ro, .ro, .ro, .ro, .ro⟩, 0, .volatile, .any⟩,
   ⟨"KB_ENABLE", 0x5180, 1, 0x01, 1, .bool, 1, ⟨.ro, .rw, .rw, .ro, .rw⟩, 0, .stored, .any⟩,
   ⟨"KB_STATE", 0x5180, 1, 0x02, 1, .enum8, 1, ⟨.ro, .ro, .ro, .ro, .ro⟩, 0, .volatile, .any⟩,
   ⟨"KB_SCAN_RATE", 0x5180, 1, 0x03, 1, .u16, 2, ⟨.ro, .rws, .rws, .ro, .rws⟩, 120, .stored, (.range 30 240)⟩,
   ⟨"KB_SCAN_TIME", 0x5180, 1, 0x04, 1, .u16, 2, ⟨.ro, .rws, .rws, .ro, .rws⟩, 200, .stored, (.range 100 500)⟩,
   ⟨"KB_DEBOUNCE", 0x5180, 1, 0x05, 1, .u8, 1, ⟨.ro, .rw, .rw, .ro, .rw⟩, 2, .stored, (.range 1 8)⟩,
   ⟨"KB_SWITCH_MARGIN", 0x5180, 1, 0x06, 1, .u8, 1, ⟨.ro, .rw, .rw, .ro, .rw⟩, 25, .stored, (.range 0 200)⟩,
   ⟨"KB_SHIELD", 0x5180, 1, 0x07, 1, .bits32, 4, ⟨.ro, .rws, .rws, .ro, .rws⟩, 3, .stored, (.bits 0x00000003 0x00000000)⟩,
   ⟨"KB_READER", 0x5180, 1, 0x08, 1, .u8, 1, ⟨.ro, .rw, .rw, .ro, .ro⟩, 255, .stored, (.oneOf [0, 1, 2, 3, 4, 5, 6, 7, 8, 9, 0xa, 0xb, 0xc, 0xd, 0xe, 0xf, 0x10, 0x11, 0x12, 0x13, 0x14, 0x15, 0x16, 0x17, 0x18, 0x19, 0x1a, 0x1b, 0x1c, 0x1d, 0x1e, 0x1f, 0x20, 0x21, 0x22, 0x23, 0x24, 0x25, 0x26, 0x27, 0x28, 0x29, 0x2a, 0x2b, 0x2c, 0x2d, 0x2e, 0x2f, 0x30, 0x31, 0x32, 0x33, 0x34, 0x35, 0x36, 0x37, 0x38, 0x39, 0x3a, 0x3b, 0x3c, 0x3d, 0x3e, 0x3f, 0xff])⟩,
   ⟨"KB_DOORBELL", 0x5180, 1, 0x09, 1, .u16, 2, ⟨.ro, .rw, .rw, .ro, .rw⟩, 0, .stored, .any⟩,
   ⟨"KB_LONG_HOLD", 0x5180, 1, 0x0A, 1, .u16, 2, ⟨.ro, .rw, .rw, .ro, .rw⟩, 0x258, .stored, (.range 1 65535)⟩,
   ⟨"KB_BASELINE_TAU", 0x5180, 1, 0x0B, 1, .u16, 2, ⟨.ro, .rw, .rw, .ro, .rw⟩, 0x1f40, .stored, (.range 1000 60000)⟩,
   ⟨"KB_RECAL_LEVEL", 0x5180, 1, 0x0C, 1, .u16, 2, ⟨.ro, .rw, .rw, .ro, .rw⟩, 12, .stored, .any⟩,
   ⟨"KB_RECAL_SCANS", 0x5180, 1, 0x0D, 1, .u8, 1, ⟨.ro, .rw, .rw, .ro, .rw⟩, 4, .stored, (.range 1 32)⟩,
   ⟨"KB_SUSPECT_PERCENT", 0x5180, 1, 0x0E, 1, .u8, 1, ⟨.ro, .rw, .rw, .ro, .rw⟩, 25, .stored, (.range 5 90)⟩,
   ⟨"KB_SUSPECT_ACCEPT", 0x5180, 1, 0x0F, 1, .u16, 2, ⟨.ro, .rw, .rw, .ro, .rw⟩, 30, .stored, (.range 1 3600)⟩,
   ⟨"KB_THRESHOLDS", 0x5181, 1, 0x01, 1, .octets, 48, ⟨.ro, .rw, .rw, .ro, .rw⟩, 0x2800280028002800280028002800280028002800280028002800280028002800280028002800280028002800280028, .stored, .any⟩,
   ⟨"KB_GROUPS", 0x5181, 1, 0x02, 1, .octets, 24, ⟨.ro, .rws, .rws, .ro, .rws⟩, 0xffffffffffffffffffffffffffffffffffffffffffffffff, .stored, .any⟩]
/-- Objects of indexes 0x5000 to 0x5FFF, part 3. -/
def rows5c : List ObjRow :=
  [⟨"KB_FACTORY_REF", 0x5181, 1, 0x03, 1, .octets, 48, ⟨.ro, .rws, .ro, .ro, .rws⟩, 0, .stored, .any⟩,
   ⟨"KB_BASELINE", 0x5181, 1, 0x04, 1, .octets, 48, ⟨.ro, .ro, .ro, .ro, .ro⟩, 0, .volatile, .any⟩,
   ⟨"KB_REPORT", 0x5182, 1, 0x01, 1, .octets, 40, ⟨.ro, .ro, .ro, .ro, .ro⟩, 0, .volatile, .any⟩,
   ⟨"HAP_CHANNELS", 0x5200, 1, 0x01, 1, .u8, 1, ⟨.ro, .ro, .ro, .ro, .ro⟩, 8, .volatile, .any⟩,
   ⟨"HAP_PWM_KHZ", 0x5200, 1, 0x02, 1, .u16, 2, ⟨.ro, .rws, .rws, .ro, .rws⟩, 48, .stored, (.range 24 96)⟩,
   ⟨"HAP_SUPPLY_MV", 0x5200, 1, 0x03, 1, .u16, 2, ⟨.ro, .rws, .rws, .ro, .rws⟩, 0x1388, .stored, (.range 1800 24000)⟩,
   ⟨"HAP_CAL_AT_START", 0x5200, 1, 0x04, 1, .bool, 1, ⟨.ro, .rw, .rw, .ro, .rw⟩, 1, .stored, .any⟩,
   ⟨"HAP_BRAKE_THRESH_MV", 0x5200, 1, 0x05, 1, .u16, 2, ⟨.ro, .rw, .rw, .ro, .rw⟩, 20, .stored, (.range 5 500)⟩,
   ⟨"HAP_CAL_MIN_MV", 0x5200, 1, 0x06, 1, .u16, 2, ⟨.ro, .rw, .rw, .ro, .rw⟩, 30, .stored, (.range 5 1000)⟩,
   ⟨"HAP_CONTROL", 0x5210, 8, 0x01, 1, .bits32, 4, ⟨.ro, .rw, .rw, .ro, .rw⟩, 0, .stored, (.bits 0x00000003 0x00000000)⟩,
   ⟨"HAP_STATE", 0x5210, 8, 0x02, 1, .enum8, 1, ⟨.ro, .ro, .ro, .ro, .ro⟩, 0, .volatile, .any⟩,
   ⟨"HAP_RATED_MV", 0x5210, 8, 0x03, 1, .u16, 2, ⟨.ro, .rws, .rws, .ro, .rws⟩, 0, .stored, .any⟩,
   ⟨"HAP_RES_HZ", 0x5210, 8, 0x04, 1, .u16, 2, ⟨.ro, .rws, .rws, .ro, .rws⟩, 0, .stored, .any⟩,
   ⟨"HAP_RES_BEMF_MV", 0x5210, 8, 0x05, 1, .u16, 2, ⟨.ro, .ro, .ro, .ro, .ro⟩, 0, .stored, .any⟩,
   ⟨"HAP_PLAY", 0x5210, 8, 0x06, 1, .u8, 1, ⟨.ro, .wo, .wo, .wo, .wo⟩, 0, .volatile, (.range 0 192)⟩,
   ⟨"HAP_CRIT_PLAY", 0x5210, 8, 0x07, 1, .u8, 1, ⟨.wo, .ro, .ro, .ro, .ro⟩, 0, .volatile, (.range 0 192)⟩,
   ⟨"HAP_INST_GRANT", 0x5210, 8, 0x08, 1, .u8, 1, ⟨.ro, .rw, .rw, .ro, .ro⟩, 255, .stored, (.oneOf [0, 1, 2, 3, 4, 5, 6, 7, 8, 9, 0xa, 0xb, 0xc, 0xd, 0xe, 0xf, 0x10, 0x11, 0x12, 0x13, 0x14, 0x15, 0x16, 0x17, 0x18, 0x19, 0x1a, 0x1b, 0x1c, 0x1d, 0x1e, 0x1f, 0x20, 0x21, 0x22, 0x23, 0x24, 0x25, 0x26, 0x27, 0x28, 0x29, 0x2a, 0x2b, 0x2c, 0x2d, 0x2e, 0x2f, 0x30, 0x31, 0x32, 0x33, 0x34, 0x35, 0x36, 0x37, 0x38, 0x39, 0x3a, 0x3b, 0x3c, 0x3d, 0x3e, 0x3f, 0xff])⟩,
   ⟨"HAP_STATUS", 0x5210, 8, 0x09, 1, .bits32, 4, ⟨.ro, .rw, .ro, .ro, .ro⟩, 0, .volatile, (.bits 0x00000000 0x00000007)⟩,
   ⟨"HAP_NOW", 0x5210, 8, 0x0A, 1, .u16, 2, ⟨.ro, .ro, .ro, .ro, .ro⟩, 0, .volatile, .any⟩,
   ⟨"HAP_DRIVE_MODE", 0x5210, 8, 0x0B, 1, .enum8, 1, ⟨.ro, .rws, .rws, .ro, .rws⟩, 0, .stored, (.oneOf [0, 1])⟩,
   ⟨"HAP_EFFECTS_DONE", 0x5210, 8, 0x0C, 1, .u32, 4, ⟨.ro, .ro, .ro, .ro, .ro⟩, 0, .volatile, .any⟩,
   ⟨"HAP_EFFECTS_CUT", 0x5210, 8, 0x0D, 1, .u32, 4, ⟨.ro, .ro, .ro, .ro, .ro⟩, 0, .volatile, .any⟩,
   ⟨"HAP_RAM_EFFECTS", 0x5230, 1, 0x01, 1, .octets, 256, ⟨.ro, .rw, .rw, .ro, .rw⟩, 0, .stored, .any⟩,
   ⟨"HAP_TRIGGER_TABLE", 0x5231, 1, 0x01, 1, .octets, 1024, ⟨.ro, .rw, .rw, .ro, .rw⟩, 0, .stored, .any⟩]
/-- The objects of indexes 0x5000 to 0x5FFF. -/
def rows5 : List ObjRow := rows5a ++ rows5b ++ rows5c

/-- Objects of indexes 0x6000 to 0x6FFF, part 1. -/
def rows6a : List ObjRow :=
  [⟨"AUD_STREAMS", 0x6000, 1, 0x01, 1, .u8, 1, ⟨.ro, .ro, .ro, .ro, .ro⟩, 64, .volatile, .any⟩,
   ⟨"AUD_D48_RATE", 0x6000, 1, 0x02, 1, .enum8, 1, ⟨.ro, .rws, .rws, .ro, .rws⟩, 0, .stored, (.oneOf [0, 1])⟩,
   ⟨"AUD_D44_RATE", 0x6000, 1, 0x03, 1, .enum8, 1, ⟨.ro, .rws, .rws, .ro, .rws⟩, 0, .stored, (.oneOf [0, 1])⟩,
   ⟨"AUD_D48_REF", 0x6000, 1, 0x04, 1, .enum8, 1, ⟨.ro, .rws, .rws, .ro, .rws⟩, 0, .stored, (.oneOf [0, 1, 2, 3, 4, 5, 6, 7, 8, 9])⟩,
   ⟨"AUD_BRIDGES_FREE", 0x6000, 1, 0x05, 1, .u8, 1, ⟨.ro, .ro, .ro, .ro, .ro⟩, 16, .volatile, .any⟩,
   ⟨"AUD_ACTIVE_DBFS", 0x6000, 1, 0x06, 1, .s8, 1, ⟨.ro, .rw, .rw, .ro, .rw⟩, 176, .stored, (.srange (-120) (-20))⟩,
   ⟨"AUD_LIM_CEILING", 0x6000, 1, 0x07, 1, .s16, 2, ⟨.ro, .rw, .rw, .ro, .rw⟩, 0xfffb, .stored, (.srange (-384) (0))⟩,
   ⟨"AUD_LIM_RELEASE_MS", 0x6000, 1, 0x08, 1, .u16, 2, ⟨.ro, .rw, .rw, .ro, .rw⟩, 50, .stored, (.range 5 1000)⟩,
   ⟨"TDM_CONFIG", 0x6010, 8, 0x01, 1, .bits32, 4, ⟨.ro, .rws, .rws, .ro, .rws⟩, 0x100, .stored, (.bits 0x00007FFF 0x00000000)⟩,
   ⟨"TDM_STATE", 0x6010, 8, 0x02, 1, .enum8, 1, ⟨.ro, .ro, .ro, .ro, .ro⟩, 0, .volatile, .any⟩,
   ⟨"PDM_CONFIG", 0x6020, 8, 0x01, 1, .bits32, 4, ⟨.ro, .rws, .rws, .ro, .rws⟩, 0, .stored, (.bits 0x0000000F 0x00000000)⟩,
   ⟨"AUD_STREAM_CFG", 0x6100, 64, 0x01, 1, .bits32, 4, ⟨.ro, .rw, .rw, .rw, .rw⟩, 0x8000, .stored, (.bits 0x0007FFFF 0x00000000)⟩,
   ⟨"AUD_STREAM_RING", 0x6100, 64, 0x02, 1, .u64, 8, ⟨.ro, .rws, .rws, .rws, .ro⟩, 0, .volatile, .any⟩,
   ⟨"AUD_STREAM_RING_BYTES", 0x6100, 64, 0x03, 1, .u32, 4, ⟨.ro, .rws, .rws, .rws, .ro⟩, 0, .volatile, .any⟩,
   ⟨"AUD_STREAM_STATUS_ADDR", 0x6100, 64, 0x04, 1, .u64, 8, ⟨.ro, .rws, .rws, .rws, .ro⟩, 0, .volatile, .any⟩,
   ⟨"AUD_STREAM_OWNER", 0x6100, 64, 0x05, 1, .u8, 1, ⟨.ro, .rw, .rw, .ro, .ro⟩, 192, .volatile, (.oneOf [0, 1, 2, 3, 4, 5, 6, 7, 8, 9, 0xa, 0xb, 0xc, 0xd, 0xe, 0xf, 0x10, 0x11, 0x12, 0x13, 0x14, 0x15, 0x16, 0x17, 0x18, 0x19, 0x1a, 0x1b, 0x1c, 0x1d, 0x1e, 0x1f, 0x20, 0x21, 0x22, 0x23, 0x24, 0x25, 0x26, 0x27, 0x28, 0x29, 0x2a, 0x2b, 0x2c, 0x2d, 0x2e, 0x2f, 0x30, 0x31, 0x32, 0x33, 0x34, 0x35, 0x36, 0x37, 0x38, 0x39, 0x3a, 0x3b, 0x3c, 0x3d, 0x3e, 0x3f, 0x40, 0xc0])⟩,
   ⟨"AUD_STREAM_STATE", 0x6100, 64, 0x06, 1, .enum8, 1, ⟨.ro, .ro, .ro, .ro, .ro⟩, 0, .volatile, .any⟩,
   ⟨"AUD_STREAM_UNDERRUNS", 0x6100, 64, 0x07, 1, .u32, 4, ⟨.ro, .ro, .ro, .ro, .ro⟩, 0, .volatile, .any⟩,
   ⟨"AUD_STREAM_DOORBELL", 0x6100, 64, 0x08, 1, .u32, 4, ⟨.ro, .rw, .rw, .rw, .ro⟩, 0, .volatile, .any⟩,
   ⟨"AUD_STREAM_GAIN", 0x6100, 64, 0x09, 1, .s16, 2, ⟨.ro, .rw, .rw, .rw, .rw⟩, 0, .volatile, .any⟩,
   ⟨"AUD_STREAM_RAMP_MS", 0x6100, 64, 0x0A, 1, .u16, 2, ⟨.ro, .rw, .rw, .rw, .rw⟩, 20, .volatile, (.range 1 500)⟩,
   ⟨"AUD_STREAM_PEAK", 0x6100, 64, 0x0B, 1, .s16, 2, ⟨.ro, .ro, .ro, .ro, .ro⟩, 0xf880, .volatile, .any⟩,
   ⟨"AUD_BUS_CFG", 0x6200, 16, 0x01, 1, .bits32, 4, ⟨.ro, .rw, .rw, .ro, .rw⟩, 2, .stored, (.bits 0x0000003F 0x00000000)⟩,
   ⟨"AUD_BUS_DEST", 0x6200, 16, 0x02, 1, .bits32, 4, ⟨.ro, .rw, .rw, .ro, .rw⟩, 0, .stored, (.bits 0x000001FF 0x00000000)⟩]
/-- Objects of indexes 0x6000 to 0x6FFF, part 2. -/
def rows6b : List ObjRow :=
  [⟨"AUD_BUS_GAIN", 0x6200, 16, 0x03, 1, .s16, 2, ⟨.ro, .rw, .rw, .ro, .rw⟩, 0, .stored, .any⟩,
   ⟨"AUD_BUS_RAMP_MS", 0x6200, 16, 0x04, 1, .u16, 2, ⟨.ro, .rw, .rw, .ro, .rw⟩, 20, .stored, (.range 1 500)⟩,
   ⟨"AUD_BUS_STATE", 0x6200, 16, 0x05, 1, .enum8, 1, ⟨.ro, .ro, .ro, .ro, .ro⟩, 0, .volatile, .any⟩,
   ⟨"AUD_BUS_LIMITED", 0x6200, 16, 0x06, 1, .u32, 4, ⟨.ro, .ro, .ro, .ro, .ro⟩, 0, .volatile, .any⟩,
   ⟨"AUD_BUS_PEAK", 0x6200, 16, 0x07, 1, .s16, 2, ⟨.ro, .ro, .ro, .ro, .ro⟩, 0xf880, .volatile, .any⟩,
   ⟨"AUD_BUS_RING", 0x6200, 16, 0x08, 1, .u64, 8, ⟨.ro, .rws, .rws, .rws, .ro⟩, 0, .volatile, .any⟩,
   ⟨"AUD_BUS_RING_BYTES", 0x6200, 16, 0x09, 1, .u32, 4, ⟨.ro, .rws, .rws, .rws, .ro⟩, 0, .volatile, .any⟩,
   ⟨"AUD_BUS_STATUS_ADDR", 0x6200, 16, 0x0A, 1, .u64, 8, ⟨.ro, .rws, .rws, .rws, .ro⟩, 0, .volatile, .any⟩,
   ⟨"AUD_BUS_READER", 0x6200, 16, 0x0B, 1, .u8, 1, ⟨.ro, .rw, .rw, .ro, .ro⟩, 255, .volatile, (.oneOf [0, 1, 2, 3, 4, 5, 6, 7, 8, 9, 0xa, 0xb, 0xc, 0xd, 0xe, 0xf, 0x10, 0x11, 0x12, 0x13, 0x14, 0x15, 0x16, 0x17, 0x18, 0x19, 0x1a, 0x1b, 0x1c, 0x1d, 0x1e, 0x1f, 0x20, 0x21, 0x22, 0x23, 0x24, 0x25, 0x26, 0x27, 0x28, 0x29, 0x2a, 0x2b, 0x2c, 0x2d, 0x2e, 0x2f, 0x30, 0x31, 0x32, 0x33, 0x34, 0x35, 0x36, 0x37, 0x38, 0x39, 0x3a, 0x3b, 0x3c, 0x3d, 0x3e, 0x3f, 0x40, 0xff])⟩,
   ⟨"AUD_BUS_DOORBELL", 0x6200, 16, 0x0C, 1, .u32, 4, ⟨.ro, .rw, .rw, .rw, .ro⟩, 0, .volatile, .any⟩,
   ⟨"AUD_BUS_FORMAT", 0x6200, 16, 0x0D, 1, .enum8, 1, ⟨.ro, .rws, .rws, .rws, .ro⟩, 0, .volatile, (.oneOf [0, 1, 2, 3])⟩,
   ⟨"AUD_ROUTE_TABLE", 0x6300, 1, 0x01, 1, .octets, 4096, ⟨.ro, .rw, .rw, .ro, .rw⟩, 0, .stored, .any⟩]
/-- The objects of indexes 0x6000 to 0x6FFF. -/
def rows6 : List ObjRow := rows6a ++ rows6b

/-- Objects of indexes 0x7000 to 0x7FFF, part 1. -/
def rows7a : List ObjRow :=
  [⟨"CLK_SOURCE", 0x7000, 1, 0x01, 1, .enum8, 1, ⟨.ro, .ro, .ro, .ro, .ro⟩, 0, .volatile, .any⟩,
   ⟨"XO_FREQ_KHZ", 0x7000, 1, 0x02, 1, .u32, 4, ⟨.ro, .ro, .ro, .ro, .ro⟩, 0, .volatile, .any⟩,
   ⟨"XO_DELAY_MS", 0x7000, 1, 0x03, 1, .u8, 1, ⟨.ro, .ro, .ro, .ro, .ro⟩, 0, .volatile, .any⟩,
   ⟨"RC_TRIM", 0x7000, 1, 0x04, 1, .u8, 1, ⟨.ro, .ro, .ro, .ro, .ro⟩, 0, .volatile, .any⟩,
   ⟨"PLL_STATE", 0x7010, 10, 0x01, 1, .enum8, 1, ⟨.ro, .ro, .ro, .ro, .ro⟩, 0, .volatile, .any⟩,
   ⟨"PLL_FREQ_KHZ", 0x7010, 10, 0x02, 1, .u32, 4, ⟨.ro, .ro, .ro, .ro, .ro⟩, 0, .volatile, .any⟩,
   ⟨"PLL_ENABLE", 0x7010, 10, 0x03, 1, .bool, 1, ⟨.ro, .rw, .ro, .ro, .ro⟩, 0, .volatile, .any⟩,
   ⟨"PIX_KHZ", 0x7020, 12, 0x01, 1, .u32, 4, ⟨.ro, .ro, .ro, .ro, .ro⟩, 0, .volatile, .any⟩,
   ⟨"PIX_PLL", 0x7020, 12, 0x02, 1, .enum8, 1, ⟨.ro, .ro, .ro, .ro, .ro⟩, 0, .volatile, .any⟩,
   ⟨"CLKMON_STATE", 0x7030, 11, 0x01, 1, .enum8, 1, ⟨.ro, .ro, .ro, .ro, .ro⟩, 0, .volatile, .any⟩,
   ⟨"CLKMON_KHZ", 0x7030, 11, 0x02, 1, .u32, 4, ⟨.ro, .ro, .ro, .ro, .ro⟩, 0, .volatile, .any⟩,
   ⟨"CLKMON_INJECT", 0x7030, 11, 0x03, 1, .enum8, 1, ⟨.wo, .wo, .ro, .ro, .wo⟩, 0, .volatile, (.oneOf [0, 1, 2])⟩,
   ⟨"GATE_CTRL", 0x7100, 128, 0x01, 1, .bool, 1, ⟨.ro, .rw, .ro, .ro, .ro⟩, 1, .volatile, .any⟩,
   ⟨"GATE_STATE", 0x7100, 128, 0x02, 1, .enum8, 1, ⟨.ro, .ro, .ro, .ro, .ro⟩, 1, .volatile, .any⟩,
   ⟨"DOM_CTRL", 0x7180, 17, 0x01, 1, .enum8, 1, ⟨.ro, .rw, .ro, .ro, .ro⟩, 1, .volatile, (.oneOf [0, 1, 2])⟩,
   ⟨"DOM_STATE", 0x7180, 17, 0x02, 1, .enum8, 1, ⟨.ro, .ro, .ro, .ro, .ro⟩, 1, .volatile, .any⟩,
   ⟨"MUX_SEL", 0x71A0, 19, 0x01, 1, .u8, 1, ⟨.ro, .rw, .ro, .ro, .ro⟩, 0, .volatile, .any⟩,
   ⟨"MUX_STATUS", 0x71A0, 19, 0x02, 1, .enum8, 1, ⟨.ro, .ro, .ro, .ro, .ro⟩, 0, .volatile, .any⟩,
   ⟨"MUX_FORCE", 0x71A0, 19, 0x03, 1, .bool, 1, ⟨.ro, .wo, .ro, .ro, .ro⟩, 0, .volatile, .any⟩,
   ⟨"PWR_LIMIT_W", 0x7200, 1, 0x01, 1, .u8, 1, ⟨.ro, .rw, .rw, .ro, .rw⟩, 80, .stored, (.range 25 80)⟩,
   ⟨"PWR_STATE", 0x7200, 1, 0x02, 1, .enum8, 1, ⟨.ro, .ro, .ro, .ro, .ro⟩, 0, .volatile, .any⟩,
   ⟨"PWR_MIN_TOL", 0x7200, 1, 0x03, 1, .u32, 4, ⟨.ro, .ro, .ro, .ro, .ro⟩, 0, .volatile, .any⟩,
   ⟨"PWR_MIN_TOL_SOURCE", 0x7200, 1, 0x04, 1, .u8, 1, ⟨.ro, .ro, .ro, .ro, .ro⟩, 255, .volatile, .any⟩,
   ⟨"PWR_DRAWN_MW", 0x7200, 1, 0x05, 1, .u32, 4, ⟨.ro, .ro, .ro, .ro, .ro⟩, 0, .volatile, .any⟩]
/-- Objects of indexes 0x7000 to 0x7FFF, part 2. -/
def rows7b : List ObjRow :=
  [⟨"PWR_STATUS", 0x7200, 1, 0x06, 1, .bits32, 4, ⟨.ro, .ro, .ro, .ro, .ro⟩, 0, .volatile, (.bits 0 0)⟩,
   ⟨"PWR_SENSE", 0x7200, 1, 0x07, 1, .enum8, 1, ⟨.ro, .rws, .rws, .ro, .rws⟩, 0, .stored, (.oneOf [0, 1])⟩,
   ⟨"PWR_AVS_I2C", 0x7200, 1, 0x08, 1, .u8, 1, ⟨.ro, .rws, .rws, .ro, .rws⟩, 255, .stored, (.oneOf [0, 1, 2, 3, 4, 5, 6, 7, 8, 9, 0xff])⟩,
   ⟨"RAS_POWER_CEILING", 0x7200, 1, 0x09, 1, .u16, 2, ⟨.ro, .ro, .ro, .ro, .ro⟩, 0x708, .volatile, .any⟩,
   ⟨"GAF_CLOCK_NOW", 0x7200, 1, 0x0A, 1, .u16, 2, ⟨.ro, .ro, .ro, .ro, .ro⟩, 0, .volatile, .any⟩,
   ⟨"PWR_LAST_BROWNOUT", 0x7200, 1, 0x0B, 1, .u8, 1, ⟨.ro, .ro, .ro, .ro, .ro⟩, 255, .volatile, .any⟩,
   ⟨"PWR_TJ_C", 0x7200, 1, 0x0C, 1, .s16, 2, ⟨.ro, .ro, .ro, .ro, .ro⟩, 0, .volatile, .any⟩,
   ⟨"PWR_PORT_TOL", 0x7220, 1, 0x01, 4, .u32, 4, ⟨.ro, .rw, .rw, .ro, .ro⟩, 10, .volatile, .any⟩,
   ⟨"PWR_INST_TOL", 0x7300, 64, 0x01, 1, .u32, 4, ⟨.ro, .rw, .rw, .rw, .ro⟩, 0xffffffff, .volatile, .any⟩,
   ⟨"PWR_MGR_TOL", 0x7340, 1, 0x01, 1, .u32, 4, ⟨.ro, .rw, .rw, .ro, .ro⟩, 0xffffffff, .volatile, .any⟩,
   ⟨"PWR_GAF_TOL", 0x7340, 1, 0x02, 1, .u32, 4, ⟨.ro, .rw, .ro, .ro, .ro⟩, 0xffffffff, .volatile, .any⟩,
   ⟨"PWR_BIT_TOL", 0x7340, 1, 0x03, 1, .u32, 4, ⟨.rw, .ro, .ro, .ro, .ro⟩, 0xffffffff, .volatile, .any⟩,
   ⟨"SUP_TARGET_MV", 0x7400, 12, 0x01, 1, .u16, 2, ⟨.ro, .ro, .ro, .ro, .ro⟩, 0, .volatile, .any⟩,
   ⟨"SUP_MEASURED_MV", 0x7400, 12, 0x02, 1, .u16, 2, ⟨.ro, .ro, .ro, .ro, .ro⟩, 0, .volatile, .any⟩,
   ⟨"SUP_STATE", 0x7400, 12, 0x03, 1, .enum8, 1, ⟨.ro, .ro, .ro, .ro, .ro⟩, 0, .volatile, .any⟩,
   ⟨"SUP_SAG_COUNT", 0x7400, 12, 0x04, 1, .u32, 4, ⟨.ro, .ro, .ro, .ro, .ro⟩, 0, .volatile, .any⟩,
   ⟨"SUP_LAST_SAG", 0x7400, 12, 0x05, 1, .octets, 24, ⟨.ro, .ro, .ro, .ro, .ro⟩, 0, .volatile, .any⟩,
   ⟨"SUP_INJECT", 0x7400, 12, 0x06, 1, .bool, 1, ⟨.wo, .wo, .ro, .ro, .wo⟩, 0, .volatile, .any⟩,
   ⟨"PWR_SAG_RAS_MHZ", 0x7500, 1, 0x01, 1, .u16, 2, ⟨.ro, .rw, .rw, .ro, .rw⟩, 0x190, .stored, (.range 200 900)⟩,
   ⟨"PWR_SAG_MAT_MHZ", 0x7500, 1, 0x02, 1, .u16, 2, ⟨.ro, .rw, .rw, .ro, .rw⟩, 250, .stored, (.range 250 500)⟩,
   ⟨"PWR_SAG_WRITE_PCT", 0x7500, 1, 0x03, 1, .u8, 1, ⟨.ro, .rw, .rw, .ro, .rw⟩, 25, .stored, (.range 5 100)⟩,
   ⟨"RST_LAST_KIND", 0x7800, 1, 0x01, 1, .enum8, 1, ⟨.ro, .ro, .ro, .ro, .ro⟩, 0, .volatile, .any⟩,
   ⟨"RST_LAST_CAUSE", 0x7800, 1, 0x02, 1, .enum8, 1, ⟨.ro, .ro, .ro, .ro, .ro⟩, 0, .volatile, .any⟩,
   ⟨"RST_WARM_REQ", 0x7800, 1, 0x03, 1, .bool, 1, ⟨.wo, .wo, .wo, .ro, .wo⟩, 0, .volatile, .any⟩]
/-- Objects of indexes 0x7000 to 0x7FFF, part 3. -/
def rows7c : List ObjRow :=
  [⟨"RST_COLD_REQ", 0x7800, 1, 0x04, 1, .bool, 1, ⟨.wo, .ro, .ro, .ro, .wo⟩, 0, .volatile, .any⟩,
   ⟨"RST_WARM_COUNT", 0x7800, 1, 0x05, 1, .u32, 4, ⟨.ro, .ro, .ro, .ro, .ro⟩, 0, .retained, .any⟩,
   ⟨"RST_GAF_RESTARTS", 0x7800, 1, 0x06, 1, .u32, 4, ⟨.ro, .ro, .ro, .ro, .ro⟩, 0, .volatile, .any⟩,
   ⟨"RST_GAF_WDT", 0x7800, 1, 0x07, 1, .u16, 2, ⟨.rw, .rw, .ro, .ro, .ro⟩, 100, .stored, (.range 10 1000)⟩,
   ⟨"RST_GAF_RESTART_REQ", 0x7800, 1, 0x08, 1, .bool, 1, ⟨.wo, .wo, .ro, .ro, .wo⟩, 0, .volatile, .any⟩,
   ⟨"RST_STRAPS", 0x7800, 1, 0x09, 1, .u16, 2, ⟨.ro, .ro, .ro, .ro, .ro⟩, 0, .volatile, .any⟩,
   ⟨"RST_READY_TIME", 0x7800, 1, 0x0A, 1, .u32, 4, ⟨.ro, .ro, .ro, .ro, .ro⟩, 0, .volatile, .any⟩,
   ⟨"RST_BOOT_INTENTS", 0x7801, 1, 0x01, 1, .octets, 384, ⟨.ro, .rw, .rw, .ro, .rw⟩, 0xffffffffffffffffffffffffffffffffffffffffffffffffffffffffffffffffffffffffffffffffffffffffffffffffffffffffffffffffffffffffffffffffffffffffffffffffffffffffffffffffffffffffffffffffffffffffffffffffffffffffffffffffffffffffffffffffffffffffffffffffffffffffffffffffffffffffffffffffffffffffffffffffffffffffffffffffffffffffffffffffffffffffffffffffffffffffffffffffffffffffffffffffffffffffffffffffffffffffffffffffffffffffffffffffffffffffffffffffffffffffffffffffffffffffffffffffffffffffffffffffffffffffffffffffffffffffffffffffffffffffffffffffffffffffffffffffffffffffffffffffffffffffffffffffffffffffffffffffffffffffffffffffffffffffffffffffffffffffffffffffffffffffffffffffffffffffffffffffffffffffffffffffffffffffffffffffffffffffffffffffffffffffffffffffffffffffffffffffffffffffffffffff, .stored, .any⟩]
/-- The objects of indexes 0x7000 to 0x7FFF. -/
def rows7 : List ObjRow := rows7a ++ rows7b ++ rows7c

/-- Objects of indexes 0x8000 to 0x8FFF, part 1. -/
def rows8a : List ObjRow :=
  [⟨"SUBST_TABLE", 0x8A00, 1, 0x01, 1, .octets, 1024, ⟨.rw, .ro, .ro, .ro, .ro⟩, 0, .volatile, .any⟩,
   ⟨"CRIT_RECTS", 0x8A10, 12, 0x01, 1, .octets, 64, ⟨.rw, .ro, .ro, .ro, .ro⟩, 0, .volatile, .any⟩,
   ⟨"KEY_SLOTS", 0x8C00, 1, 0x01, 1, .u8, 1, ⟨.ro, .ro, .ro, .ro, .ro⟩, 16, .volatile, .any⟩,
   ⟨"KEY_SLOT_TABLE", 0x8C00, 1, 0x02, 1, .octets, 256, ⟨.ro, .ro, .ro, .ro, .ro⟩, 0, .volatile, .any⟩,
   ⟨"MEM_WATERMARK", 0x8C01, 1, 0x01, 1, .u16, 2, ⟨.rw, .ro, .ro, .ro, .ro⟩, 0, .latched, .any⟩,
   ⟨"BIT_STATE", 0x8000, 1, 0x01, 1, .enum8, 1, ⟨.ro, .ro, .ro, .ro, .ro⟩, 0, .volatile, .any⟩,
   ⟨"BIT_BOOT_RESULT", 0x8000, 1, 0x02, 1, .u16, 2, ⟨.ro, .ro, .ro, .ro, .ro⟩, 0, .volatile, .any⟩,
   ⟨"BIT_RESTART_COUNT", 0x8000, 1, 0x03, 1, .u32, 4, ⟨.ro, .ro, .ro, .ro, .ro⟩, 0, .volatile, .any⟩,
   ⟨"BIT_RESTART_REQ", 0x8000, 1, 0x04, 1, .bool, 1, ⟨.wo, .wo, .ro, .ro, .wo⟩, 0, .volatile, .any⟩,
   ⟨"BIT_WDT_PERIOD", 0x8000, 1, 0x05, 1, .u16, 2, ⟨.rw, .ro, .ro, .ro, .ro⟩, 100, .volatile, (.range 10 1000)⟩,
   ⟨"BIT_LAST_RESTART", 0x8000, 1, 0x06, 1, .spos, 8, ⟨.ro, .ro, .ro, .ro, .ro⟩, 0, .volatile, .any⟩,
   ⟨"BIT_LAST_DURATION", 0x8000, 1, 0x07, 1, .u32, 4, ⟨.ro, .ro, .ro, .ro, .ro⟩, 0, .volatile, .any⟩,
   ⟨"BIT_LAST_CAUSE", 0x8000, 1, 0x08, 1, .enum8, 1, ⟨.ro, .ro, .ro, .ro, .ro⟩, 0, .volatile, .any⟩,
   ⟨"BIT_SECURITY_VERSION", 0x8000, 1, 0x09, 1, .u8, 1, ⟨.ro, .ro, .ro, .ro, .ro⟩, 0, .volatile, .any⟩,
   ⟨"BIT_READY", 0x8000, 1, 0x0A, 1, .bool, 1, ⟨.wo, .ro, .ro, .ro, .ro⟩, 0, .volatile, .any⟩,
   ⟨"BIT_ROOT_KEY_HASH", 0x8001, 1, 0x01, 1, .octets, 48, ⟨.ro, .ro, .ro, .ro, .ro⟩, 0, .volatile, .any⟩,
   ⟨"BIT_MANIFEST_DIGEST", 0x8001, 1, 0x02, 1, .octets, 48, ⟨.ro, .ro, .ro, .ro, .ro⟩, 0, .volatile, .any⟩,
   ⟨"BIT_MEASUREMENTS", 0x8001, 1, 0x03, 1, .octets, 208, ⟨.ro, .ro, .ro, .ro, .ro⟩, 0, .volatile, .any⟩,
   ⟨"BIT_IMAGE_SLOT", 0x8001, 1, 0x04, 1, .enum8, 1, ⟨.ro, .ro, .ro, .ro, .ro⟩, 0, .volatile, .any⟩,
   ⟨"BIT_PROVISION_KEY", 0x8001, 1, 0x05, 1, .octets, 97, ⟨.ro, .ro, .ro, .ro, .ro⟩, 0, .volatile, .any⟩,
   ⟨"BIT_ASSIGN_TABLE", 0x8100, 1, 0x01, 1, .octets, 1024, ⟨.ro, .ro, .ro, .ro, .ro⟩, 0, .latched, .any⟩,
   ⟨"BIT_ASSIGN_LOCK", 0x8100, 1, 0x02, 1, .bool, 1, ⟨.ro, .ro, .ro, .ro, .ro⟩, 0, .latched, .any⟩,
   ⟨"BIT_INT_SOURCE_MAP", 0x8100, 1, 0x03, 1, .octets, 512, ⟨.ro, .ro, .ro, .ro, .ro⟩, 0, .volatile, .any⟩,
   ⟨"CU_UNITS", 0x8200, 1, 0x01, 1, .u8, 1, ⟨.ro, .ro, .ro, .ro, .ro⟩, 32, .volatile, .any⟩]
/-- Objects of indexes 0x8000 to 0x8FFF, part 2. -/
def rows8b : List ObjRow :=
  [⟨"CU_REF_CORRECTED", 0x8200, 1, 0x02, 1, .u32, 4, ⟨.ro, .ro, .ro, .ro, .ro⟩, 0, .volatile, .any⟩,
   ⟨"CU_CONFIG", 0x8210, 32, 0x01, 1, .bits32, 4, ⟨.rws, .ro, .ro, .ro, .ro⟩, 0, .volatile, (.bits 0x070FFF3F 0x00000000)⟩,
   ⟨"CU_REGION", 0x8210, 32, 0x02, 1, .u64, 8, ⟨.rws, .ro, .ro, .ro, .ro⟩, 0, .volatile, .any⟩,
   ⟨"CU_ALIVE_POS", 0x8210, 32, 0x03, 1, .u32, 4, ⟨.rws, .ro, .ro, .ro, .ro⟩, 0, .volatile, .any⟩,
   ⟨"CU_HOLD_FRAMES", 0x8210, 32, 0x04, 1, .u8, 1, ⟨.rws, .ro, .ro, .ro, .ro⟩, 30, .volatile, (.range 1 255)⟩,
   ⟨"CU_FAIL_LIMIT", 0x8210, 32, 0x05, 1, .u8, 1, ⟨.rws, .ro, .ro, .ro, .ro⟩, 2, .volatile, (.range 1 255)⟩,
   ⟨"CU_SUBST", 0x8210, 32, 0x06, 1, .u8, 1, ⟨.rws, .ro, .ro, .ro, .ro⟩, 0, .volatile, (.range 0 63)⟩,
   ⟨"CU_CHIME", 0x8210, 32, 0x07, 1, .u8, 1, ⟨.rws, .ro, .ro, .ro, .ro⟩, 0, .volatile, .any⟩,
   ⟨"CU_DOORBELL", 0x8210, 32, 0x08, 1, .u16, 2, ⟨.rws, .ro, .ro, .ro, .ro⟩, 0, .volatile, .any⟩,
   ⟨"CU_MSG_TIMEOUT", 0x8210, 32, 0x09, 1, .u16, 2, ⟨.rws, .ro, .ro, .ro, .ro⟩, 0, .volatile, (.range 0 10000)⟩,
   ⟨"CU_CONTROL", 0x8210, 32, 0x0A, 1, .bits32, 4, ⟨.rw, .ro, .ro, .ro, .ro⟩, 0, .volatile, (.bits 0x00000003 0x00000000)⟩,
   ⟨"CU_STATE", 0x8210, 32, 0x0B, 1, .enum8, 1, ⟨.ro, .ro, .ro, .ro, .ro⟩, 0, .volatile, .any⟩,
   ⟨"CU_STATUS", 0x8210, 32, 0x0C, 1, .bits32, 4, ⟨.rw, .ro, .ro, .ro, .ro⟩, 0, .volatile, (.bits 0x00000000 0x0000019F)⟩,
   ⟨"CU_LAST_RESULT", 0x8210, 32, 0x0D, 1, .enum8, 1, ⟨.ro, .ro, .ro, .ro, .ro⟩, 0, .volatile, .any⟩,
   ⟨"CU_LAST_VALUE", 0x8210, 32, 0x0E, 1, .u64, 8, ⟨.ro, .ro, .ro, .ro, .ro⟩, 0, .volatile, .any⟩,
   ⟨"CU_FAIL_RUN", 0x8210, 32, 0x0F, 1, .u8, 1, ⟨.ro, .ro, .ro, .ro, .ro⟩, 0, .volatile, .any⟩,
   ⟨"CU_PASS_COUNT", 0x8210, 32, 0x10, 1, .u32, 4, ⟨.ro, .ro, .ro, .ro, .ro⟩, 0, .volatile, .any⟩,
   ⟨"CU_FAIL_COUNT", 0x8210, 32, 0x11, 1, .u32, 4, ⟨.ro, .ro, .ro, .ro, .ro⟩, 0, .volatile, .any⟩,
   ⟨"CU_INJECT", 0x8210, 32, 0x12, 1, .enum8, 1, ⟨.wo, .ro, .ro, .ro, .ro⟩, 0, .volatile, (.oneOf [1, 2, 3, 4])⟩,
   ⟨"CU_REF", 0x8230, 32, 0x01, 1, .u64, 8, ⟨.rw, .ro, .ro, .ro, .ro⟩, 0, .volatile, .any⟩,
   ⟨"CU_SUBST_REF", 0x8230, 32, 0x02, 1, .u64, 8, ⟨.rw, .ro, .ro, .ro, .ro⟩, 0, .volatile, .any⟩,
   ⟨"CHIME_TABLE", 0x8E00, 1, 0x01, 1, .octets, 1024, ⟨.rw, .ro, .ro, .ro, .ro⟩, 0, .volatile, .any⟩,
   ⟨"CHIME_PLAY", 0x8E00, 1, 0x02, 1, .u8, 1, ⟨.wo, .ro, .ro, .ro, .ro⟩, 0, .volatile, .any⟩,
   ⟨"CHIME_STOP", 0x8E00, 1, 0x03, 1, .u8, 1, ⟨.wo, .ro, .ro, .ro, .ro⟩, 0, .volatile, .any⟩]
/-- Objects of indexes 0x8000 to 0x8FFF, part 3. -/
def rows8c : List ObjRow :=
  [⟨"DUCK_DB", 0x8E00, 1, 0x04, 1, .u8, 1, ⟨.rw, .ro, .ro, .ro, .ro⟩, 12, .volatile, (.range 0 60)⟩,
   ⟨"DUCK_RELEASE_MS", 0x8E00, 1, 0x05, 1, .u16, 2, ⟨.rw, .ro, .ro, .ro, .ro⟩, 0x1f4, .volatile, (.range 10 5000)⟩,
   ⟨"CHIME_NOW", 0x8E00, 1, 0x06, 1, .u32, 4, ⟨.ro, .ro, .ro, .ro, .ro⟩, 0, .volatile, .any⟩,
   ⟨"CRED_ROLE", 0x8D00, 8, 0x01, 1, .enum8, 1, ⟨.rw, .ro, .rw, .ro, .rw⟩, 0, .stored, (.oneOf [0, 1, 2, 3])⟩,
   ⟨"CRED_SECRET", 0x8D00, 8, 0x02, 1, .octets, 137, ⟨.wo, .ro, .wo, .ro, .wo⟩, 0, .stored, .any⟩]
/-- The objects of indexes 0x8000 to 0x8FFF. -/
def rows8 : List ObjRow := rows8a ++ rows8b ++ rows8c

/-- The objects of indexes 0x9000 to 0x9FFF. -/
def rows9 : List ObjRow :=
  [⟨"LOG_HEAD", 0x9000, 1, 0x02, 1, .u32, 4, ⟨.ro, .ro, .ro, .ro, .ro⟩, 0, .volatile, .any⟩,
   ⟨"LOG_OVERWRITTEN", 0x9000, 1, 0x03, 1, .u32, 4, ⟨.ro, .ro, .ro, .ro, .ro⟩, 0, .volatile, .any⟩,
   ⟨"LOG_LOST", 0x9000, 1, 0x04, 1, .u32, 4, ⟨.ro, .ro, .ro, .ro, .ro⟩, 0, .volatile, .any⟩,
   ⟨"LOG_NOTIFY_SEVERITY", 0x9000, 1, 0x05, 1, .enum8, 1, ⟨.ro, .rw, .rw, .ro, .rw⟩, 3, .stored, (.oneOf [0, 1, 2, 3, 4])⟩,
   ⟨"LOG_DOORBELL", 0x9000, 1, 0x06, 1, .u16, 2, ⟨.ro, .rw, .rw, .ro, .rw⟩, 0, .stored, .any⟩,
   ⟨"LOG_LAST", 0x9001, 1, 0x01, 1, .octets, 32, ⟨.ro, .ro, .ro, .ro, .ro⟩, 0, .volatile, .any⟩,
   ⟨"LOG_EVENT_TABLE", 0x9003, 1, 0x01, 1, .octets, 4096, ⟨.ro, .ro, .ro, .ro, .ro⟩, 0, .volatile, .any⟩,
   ⟨"LOG_RING", 0x9040, 32, 0x01, 1, .octets, 4096, ⟨.ro, .ro, .ro, .ro, .ro⟩, 0, .volatile, .any⟩,
   ⟨"LOG_MIRROR", 0x9060, 1, 0x01, 1, .octets, 2048, ⟨.ro, .ro, .ro, .ro, .ro⟩, 0, .latched, .any⟩,
   ⟨"INJ_ENABLE", 0x9100, 1, 0x01, 1, .bool, 1, ⟨.rw, .rw, .ro, .ro, .rw⟩, 0, .volatile, .any⟩,
   ⟨"INJ_TOTAL", 0x9100, 1, 0x02, 1, .u32, 4, ⟨.ro, .ro, .ro, .ro, .ro⟩, 0, .volatile, .any⟩,
   ⟨"INJ_ARM", 0x9110, 31, 0x01, 1, .enum8, 1, ⟨.ro, .rw, .ro, .ro, .rw⟩, 0, .volatile, (.oneOf [0, 1, 2])⟩,
   ⟨"INJ_TARGET", 0x9110, 31, 0x02, 1, .u32, 4, ⟨.ro, .rw, .ro, .ro, .rw⟩, 0, .volatile, .any⟩,
   ⟨"INJ_PARAM", 0x9110, 31, 0x03, 1, .u32, 4, ⟨.ro, .rw, .ro, .ro, .rw⟩, 0, .volatile, .any⟩,
   ⟨"INJ_ESCALATE", 0x9110, 31, 0x04, 1, .bool, 1, ⟨.ro, .rw, .ro, .ro, .rw⟩, 0, .volatile, .any⟩,
   ⟨"INJ_FIRED", 0x9110, 31, 0x05, 1, .u32, 4, ⟨.ro, .ro, .ro, .ro, .ro⟩, 0, .volatile, .any⟩,
   ⟨"DAILIES_ENABLE", 0x9200, 1, 0x01, 1, .bool, 1, ⟨.ro, .rw, .rw, .ro, .rw⟩, 1, .stored, .any⟩,
   ⟨"DAILIES_ROUND_PERIOD", 0x9200, 1, 0x02, 1, .u32, 4, ⟨.ro, .rw, .rw, .ro, .rw⟩, 0x258, .stored, (.range 10 86400)⟩,
   ⟨"DAILIES_SCRATCH_BYTES", 0x9200, 1, 0x03, 1, .u32, 4, ⟨.ro, .ro, .ro, .ro, .ro⟩, 0x1000000, .volatile, .any⟩,
   ⟨"DAILIES_RESERVE_LINES", 0x9200, 1, 0x04, 1, .u16, 2, ⟨.ro, .rw, .rw, .ro, .rw⟩, 32, .stored, (.range 8 1024)⟩,
   ⟨"DAILIES_ROUNDS", 0x9200, 1, 0x05, 1, .u32, 4, ⟨.ro, .ro, .ro, .ro, .ro⟩, 0, .volatile, .any⟩,
   ⟨"DAILIES_FAILS", 0x9200, 1, 0x06, 1, .u32, 4, ⟨.ro, .ro, .ro, .ro, .ro⟩, 0, .volatile, .any⟩,
   ⟨"DAILIES_DECLINED", 0x9200, 1, 0x07, 1, .u32, 4, ⟨.ro, .ro, .ro, .ro, .ro⟩, 0, .volatile, .any⟩,
   ⟨"DAILIES_RESULTS", 0x9210, 1, 0x01, 1, .octets, 4096, ⟨.ro, .ro, .ro, .ro, .ro⟩, 0, .volatile, .any⟩]

/-- The objects of indexes 0xA000 to 0xAFFF. -/
def rowsA : List ObjRow :=
  [⟨"TALLY_COUNTERS", 0xA000, 1, 0x01, 1, .u16, 2, ⟨.ro, .ro, .ro, .ro, .ro⟩, 0x4ba, .volatile, .any⟩,
   ⟨"TALLY_BITTERN_VISIBLE", 0xA000, 1, 0x02, 1, .bool, 1, ⟨.rw, .ro, .ro, .ro, .ro⟩, 0, .volatile, .any⟩,
   ⟨"TALLY_GROUP", 0xA010, 40, 0x01, 1, .octets, 528, ⟨.ro, .ro, .ro, .ro, .ro⟩, 0, .volatile, .any⟩,
   ⟨"TALLY_FILTER", 0xA010, 40, 0x02, 1, .octets, 32, ⟨.rw, .rw, .rw, .ro, .rw⟩, 0xfffff00, .volatile, .any⟩,
   ⟨"TALLY_OVF_CLEAR", 0xA010, 40, 0x03, 1, .bool, 1, ⟨.wo, .wo, .wo, .ro, .wo⟩, 0, .volatile, .any⟩,
   ⟨"TALLY_EVENT_CODES", 0xA010, 40, 0x04, 1, .octets, 128, ⟨.ro, .ro, .ro, .ro, .ro⟩, 0, .volatile, .any⟩,
   ⟨"TALLY_GRANT", 0xA100, 64, 0x01, 1, .u64, 8, ⟨.ro, .rw, .rw, .ro, .ro⟩, 0, .volatile, .any⟩]

/-- The objects of indexes 0xB000 to 0xBFFF. -/
def rowsB : List ObjRow :=
  [⟨"GRIP_AGGRESSIVENESS", 0xB007, 1, 0x01, 1, .enum8, 1, ⟨.ro, .rw, .rw, .ro, .rw⟩, 1, .stored, (.oneOf [0, 1, 2])⟩,
   ⟨"REEL_SCAN_MODE", 0xB001, 1, 0x01, 12, .enum8, 1, ⟨.ro, .rw, .rw, .ro, .rw⟩, 0, .stored, (.oneOf [0, 1])⟩,
   ⟨"RASTER_CLOCK_CEILING", 0xB008, 1, 0x01, 1, .u16, 2, ⟨.ro, .rw, .rw, .ro, .rw⟩, 0x708, .stored, (.range 400 1800)⟩,
   ⟨"MEM_REFRESH_MODE", 0xB002, 1, 0x01, 1, .enum8, 1, ⟨.ro, .rws, .rws, .ro, .rws⟩, 0, .stored, (.oneOf [0, 1])⟩,
   ⟨"MEM_INLINE_ECC", 0xB003, 1, 0x01, 1, .bits32, 4, ⟨.ro, .rws, .rws, .ro, .rws⟩, 0xffff, .stored, (.bits 0x0000FFFF 0x00000000)⟩,
   ⟨"MEM_SPARE_RANK", 0xB004, 1, 0x01, 1, .u8, 1, ⟨.ro, .rws, .rws, .ro, .rws⟩, 255, .stored, .any⟩,
   ⟨"TOUCH_MODE_FORCE", 0xB006, 1, 0x01, 2, .enum8, 1, ⟨.ro, .rw, .rw, .ro, .rw⟩, 0, .stored, (.oneOf [0, 1, 2, 3])⟩,
   ⟨"AUD_CLIP_MODE", 0xB005, 1, 0x01, 16, .enum8, 1, ⟨.ro, .rw, .rw, .ro, .rw⟩, 0, .stored, (.oneOf [0, 1, 2])⟩,
   ⟨"MODE_PENDING", 0xB000, 1, 0x01, 1, .bits32, 4, ⟨.ro, .ro, .ro, .ro, .ro⟩, 0, .volatile, (.bits 0 0)⟩,
   ⟨"DAILIES_BUDGET", 0xB009, 1, 0x01, 1, .u16, 2, ⟨.ro, .rw, .rw, .ro, .rw⟩, 0x1f4, .stored, (.range 100 4000)⟩]

/-- The objects of indexes 0xF000 to 0xFFFF. -/
def rowsF : List ObjRow :=
  [⟨"PROD_ROOT_KEY_HASH", 0xF000, 1, 0x01, 1, .octets, 48, ⟨.ro, .ro, .ro, .ro, .wo⟩, 0, .volatile, .any⟩,
   ⟨"PROD_SECURITY_VERSION", 0xF000, 1, 0x02, 1, .u8, 1, ⟨.ro, .ro, .ro, .ro, .wo⟩, 0, .volatile, .any⟩,
   ⟨"PROD_LOCKED", 0xF000, 1, 0x03, 1, .bool, 1, ⟨.ro, .ro, .ro, .ro, .rw⟩, 0, .volatile, .any⟩]

/-- The rows that can hold an index, by its first hexadecimal digit. -/
def rowsOf (index : Nat) : List ObjRow :=
  match index / 0x1000 with
  | 0x1 => rows1
  | 0x2 => rows2
  | 0x3 => rows3
  | 0x4 => rows4
  | 0x5 => rows5
  | 0x6 => rows6
  | 0x7 => rows7
  | 0x8 => rows8
  | 0x9 => rows9
  | 0xA => rowsA
  | 0xB => rowsB
  | 0xF => rowsF
  | _ => []

/-- Every row of the catalogue. -/
def catalogue : List ObjRow :=
  rows1 ++ rows2 ++ rows3 ++ rows4 ++ rows5 ++ rows6 ++ rows7 ++ rows8 ++ rows9 ++ rowsA ++ rowsB ++ rowsF

/-- Does a row hold an address? -/
def ObjRow.holds (r : ObjRow) (addr : Nat) : Bool :=
  Nat.ble r.index (addr / 256) && Nat.blt (addr / 256) (r.index + r.count)
    && Nat.ble r.sub (addr % 256) && Nat.blt (addr % 256) (r.sub + r.subCount)

/-- The row that holds an address, if the dictionary has an object there (R530). -/
def rowAt (addr : Nat) : Option ObjRow :=
  (rowsOf (addr / 256)).find? (fun r => r.holds addr)

end Sys2Proof.Machine
end

