-- ==== Sys2Proof/Machine/Codes.lean ====
section
/-! DEFINITION. Status codes (R8, and each chapter where the name is first used) and Script Log event codes with
their severities (R677), under the manual's own names. -/
namespace Sys2Proof.Machine

/-! ## Status codes (R8) -/
namespace Status

/-- OK -/
def ok : Nat := 0x0000
/-- OK_WITH_NOTE -/
def okWithNote : Nat := 0x0001
/-- POISONED_READ -/
def poisonedRead : Nat := 0x0101
/-- SPARE_NOT_LICENSED -/
def spareNotLicensed : Nat := 0x0103
/-- SPARE_INVALID -/
def spareInvalid : Nat := 0x0104
/-- WATERMARK_LOCKED -/
def watermarkLocked : Nat := 0x0105
/-- MEM_CONFIG_INVALID -/
def memConfigInvalid : Nat := 0x0106
/-- DRAM_OWNER_MISMATCH -/
def dramOwnerMismatch : Nat := 0x0107
/-- PLACE_NO_SPACE -/
def placeNoSpace : Nat := 0x0110
/-- PLACE_NO_ECC -/
def placeNoEcc : Nat := 0x0111
/-- SURFACE_TABLE_FULL -/
def surfaceTableFull : Nat := 0x0112
/-- INTENT_INVALID -/
def intentInvalid : Nat := 0x0113
/-- SURFACE_RELEASING -/
def surfaceReleasing : Nat := 0x0115
/-- SLOT_PAST -/
def slotPast : Nat := 0x0210
/-- SLOT_RANGE -/
def slotRange : Nat := 0x0211
/-- SLOT_BUSY -/
def slotBusy : Nat := 0x0212
/-- LEAD_UNFIT -/
def leadUnfit : Nat := 0x0213
/-- SLOT_INVALID -/
def slotInvalid : Nat := 0x0214
/-- DRAM_FED -/
def dramFed : Nat := 0x0220
/-- OUTPUT_NO_BACKING -/
def outputNoBacking : Nat := 0x0221
/-- CRIT_RECT_INVALID -/
def critRectInvalid : Nat := 0x0231
/-- SUBST_INVALID -/
def substInvalid : Nat := 0x0232
/-- REEL_LAYOUT_LOCKED -/
def reelLayoutLocked : Nat := 0x0233
/-- LAYER_SCALE -/
def layerScale : Nat := 0x0240
/-- LAYER_INVALID -/
def layerInvalid : Nat := 0x0241
/-- LAYER_SOURCE -/
def layerSource : Nat := 0x0242
/-- LUT_BUSY -/
def lutBusy : Nat := 0x0243
/-- LAYER_NOT_GRANTED -/
def layerNotGranted : Nat := 0x0244
/-- COLOUR_VALUE -/
def colourValue : Nat := 0x0245
/-- COMMIT_LATE -/
def commitLate : Nat := 0x0250
/-- STALE_LAYER -/
def staleLayer : Nat := 0x0251
/-- RACE_SLIP -/
def raceSlip : Nat := 0x0252
/-- FRAME_ABANDONED -/
def frameAbandoned : Nat := 0x0253
/-- OUTPUT_STOPPED -/
def outputStopped : Nat := 0x0254
/-- TIMING_INVALID -/
def timingInvalid : Nat := 0x0255
/-- PIXEL_BUDGET -/
def pixelBudget : Nat := 0x0256
/-- PAIR_INVALID -/
def pairInvalid : Nat := 0x0257
/-- STRICT_HELD -/
def strictHeld : Nat := 0x0258
/-- PORT_BUSY -/
def portBusy : Nat := 0x0260
/-- ROUTE_CONFLICT -/
def routeConflict : Nat := 0x0261
/-- PORT_CONFIG_INVALID -/
def portConfigInvalid : Nat := 0x0262
/-- PB_EXHAUSTED -/
def pbExhausted : Nat := 0x0301
/-- SHADER_INVALID -/
def shaderInvalid : Nat := 0x0302
/-- SHADER_UNSUPPORTED -/
def shaderUnsupported : Nat := 0x0303
/-- PIPELINE_LIMIT -/
def pipelineLimit : Nat := 0x0304
/-- JOB_INVALID -/
def jobInvalid : Nat := 0x0305
/-- JOB_TIMEOUT -/
def jobTimeout : Nat := 0x0306
/-- CLUSTER_FAULT -/
def clusterFault : Nat := 0x0307
/-- PIPELINE_UNKNOWN -/
def pipelineUnknown : Nat := 0x0308
/-- PB_GRANT_INVALID -/
def pbGrantInvalid : Nat := 0x0309
/-- PB_PARTIAL -/
def pbPartial : Nat := 0x0310
/-- DEADLINE_MISSED -/
def deadlineMissed : Nat := 0x0311
/-- ROBUST_ACCESS -/
def robustAccess : Nat := 0x0312
/-- SQUASHED -/
def squashed : Nat := 0x0401
/-- DRAINED_LATE -/
def drainedLate : Nat := 0x0402
/-- DESC_INVALID -/
def descInvalid : Nat := 0x0403
/-- NOT_MANAGER -/
def notManager : Nat := 0x0404
/-- INSTANCE_LIMIT -/
def instanceLimit : Nat := 0x0405
/-- PASID_IN_USE -/
def pasidInUse : Nat := 0x0406
/-- QUOTA_EXCEEDED -/
def quotaExceeded : Nat := 0x0407
/-- SLOT_QUOTA -/
def slotQuota : Nat := 0x0408
/-- NOT_GRANTED -/
def notGranted : Nat := 0x0409
/-- DMA_FAULT -/
def dmaFault : Nat := 0x040A
/-- INSTANCE_BUSY -/
def instanceBusy : Nat := 0x040B
/-- GAFFER_RESTARTED -/
def gafferRestarted : Nat := 0x040C
/-- TALLY_GRANT_CONFLICT -/
def tallyGrantConflict : Nat := 0x0410
/-- LDP_NO_OBJECT -/
def ldpNoObject : Nat := 0x0420
/-- LDP_TYPE -/
def ldpType : Nat := 0x0421
/-- LDP_LENGTH -/
def ldpLength : Nat := 0x0422
/-- LDP_RANGE -/
def ldpRange : Nat := 0x0423
/-- LDP_STOPPED_ONLY -/
def ldpStoppedOnly : Nat := 0x0425
/-- LDP_TOO_LARGE -/
def ldpTooLarge : Nat := 0x0426
/-- LDP_MALFORMED -/
def ldpMalformed : Nat := 0x0427
/-- LDP_TID_IN_USE -/
def ldpTidInUse : Nat := 0x0428
/-- LDP_TOO_MANY -/
def ldpTooMany : Nat := 0x0429
/-- LDP_PART_ORDER -/
def ldpPartOrder : Nat := 0x042A
/-- LDP_SUB_LIMIT -/
def ldpSubLimit : Nat := 0x042B
/-- LDP_COMMIT_BUSY -/
def ldpCommitBusy : Nat := 0x042C
/-- LDP_STORE_FAILED -/
def ldpStoreFailed : Nat := 0x042D
/-- LDP_ABORTED -/
def ldpAborted : Nat := 0x0430
/-- OWNER_LOCKED -/
def ownerLocked : Nat := 0x0501
/-- BITTERN_DOWN -/
def bitternDown : Nat := 0x0502
/-- ASSIGN_LOCKED -/
def assignLocked : Nat := 0x0503
/-- RECEIVER_DOWN -/
def receiverDown : Nat := 0x0504
/-- CU_CONFIG_INVALID -/
def cuConfigInvalid : Nat := 0x0510
/-- CU_BUSY -/
def cuBusy : Nat := 0x0511
/-- ACCESS_DENIED -/
def accessDenied : Nat := 0x0520
/-- AUTH_FAILED -/
def authFailed : Nat := 0x0521
/-- SESSION_UNKNOWN -/
def sessionUnknown : Nat := 0x0522
/-- REPLAY -/
def replay : Nat := 0x0523
/-- SESSION_LIMIT -/
def sessionLimit : Nat := 0x0524
/-- CRED_UNWRAP_FAILED -/
def credUnwrapFailed : Nat := 0x0525
/-- TOUCH_CONFIG_INVALID -/
def touchConfigInvalid : Nat := 0x0601
/-- TOUCH_BUSY -/
def touchBusy : Nat := 0x0602
/-- SCAN_BUDGET -/
def scanBudget : Nat := 0x0603
/-- HAP_EFFECT_INVALID -/
def hapEffectInvalid : Nat := 0x0610
/-- HAP_UNCALIBRATED -/
def hapUncalibrated : Nat := 0x0611
/-- HAP_CALIBRATING -/
def hapCalibrating : Nat := 0x0612
/-- HAP_CHANNEL_OFF -/
def hapChannelOff : Nat := 0x0613
/-- HAP_NOT_CRITICAL -/
def hapNotCritical : Nat := 0x0614
/-- HAP_CONFIG_INVALID -/
def hapConfigInvalid : Nat := 0x0615
/-- AUD_CONFIG_INVALID -/
def audConfigInvalid : Nat := 0x0701
/-- BRIDGE_EXHAUSTED -/
def bridgeExhausted : Nat := 0x0702
/-- SLOT_CONFLICT -/
def slotConflict : Nat := 0x0703
/-- CHIME_BUSY -/
def chimeBusy : Nat := 0x0704
/-- AUD_BUSY -/
def audBusy : Nat := 0x0706
/-- CHILD_ACTIVE -/
def childActive : Nat := 0x0801
/-- BUSY_REFUSED -/
def busyRefused : Nat := 0x0802
/-- MUX_BUSY -/
def muxBusy : Nat := 0x0803
/-- SOURCE_STOPPED -/
def sourceStopped : Nat := 0x0804
/-- NOT_CONTROLLABLE -/
def notControllable : Nat := 0x0805
/-- CLOCK_FORCED -/
def clockForced : Nat := 0x0806
/-- FORCE_NOT_PENDING -/
def forceNotPending : Nat := 0x0807

end Status

/-! ## Script Log event codes (the event tables of the chapters; R631) -/
namespace Ev

/-- SESSION_OPEN: Session, transport, credential -/
def sessionOpen : Nat := 0x1001
/-- SESSION_CLOSE: Session, reason, transactions not started, responses withheld -/
def sessionClose : Nat := 0x1002
/-- AUTH_FAIL: Transport, source, credential, status -/
def authFail : Nat := 0x1003
/-- COMMIT_DONE: Generation, entries, requester class -/
def commitDone : Nat := 0x1004
/-- COMMIT_FAILED: Status -/
def commitFailed : Nat := 0x1005
/-- STORE_ENTRY_SKIPPED: Index, subindex, reason -/
def storeEntrySkipped : Nat := 0x1006
/-- IMAGE_LOADED: Copy, generation -/
def imageLoaded : Nat := 0x1007
/-- CAN_SEGMENT_LOST: Controller, bytes received -/
def canSegmentLost : Nat := 0x1008
/-- RESTORE_DONE: First and last index, written, skipped -/
def restoreDone : Nat := 0x1009
/-- INSTANCE_CREATED: Instance, port, PASID -/
def instanceCreated : Nat := 0x1201
/-- RESET_DONE: Instance, REMOVE flag, squashed count -/
def resetDone : Nat := 0x1202
/-- FLR_SQUASH: Instance, queue, first and last SEQUENCE -/
def flrSquash : Nat := 0x1203
/-- GUARD_EXPIRED: Output, victim mask low word -/
def guardExpired : Nat := 0x1204
/-- GUARD_SKIPPED: Output, frame -/
def guardSkipped : Nat := 0x1205
/-- COMMIT_HELD_STALE: Output, SEQ, positions composed stale -/
def commitHeldStale : Nat := 0x1206
/-- COAST_START: Cause: 0 LEAD_STOPPED, 1 GLASS_HOLD, 2 UNPLUGGED, 3 LEAD_CHANGE, 4 RESET, 5 S4_EXIT -/
def coastStart : Nat := 0x2101
/-- RELOCK: Lead output, lines the last coast frame ran, SHORT_COAST flag -/
def relock : Nat := 0x2102
/-- DTIME_STEP: Size of the forward step of R32, ns -/
def dtimeStep : Nat := 0x2103
/-- SLOT_DECLINED: Slot, slice number -/
def slotDeclined : Nat := 0x2201
/-- SLOT_JUMPED: Slot, action -/
def slotJumped : Nat := 0x2202
/-- SLOT_LATE: Slot, action -/
def slotLate : Nat := 0x2203
/-- OUTPUT_STARTED: Output, MODE_ID -/
def outputStarted : Nat := 0x2401
/-- OUTPUT_STOPPED: Output, cause: UNPLUG, DISABLE, MODE_CHANGE, PAIR -/
def outputStopped : Nat := 0x2402
/-- HOTPLUG_IN: Output, port -/
def hotplugIn : Nat := 0x2403
/-- HOTPLUG_OUT: Output, port -/
def hotplugOut : Nat := 0x2404
/-- MODE_MISSING: Output, MODE_ID -/
def modeMissing : Nat := 0x2405
/-- STRICT_ENTER: Output mask, cause -/
def strictEnter : Nat := 0x2406
/-- STRICT_LEAVE: Output -/
def strictLeave : Nat := 0x2407
/-- COMMIT_LATE: Output, SEQ -/
def commitLate : Nat := 0x2408
/-- HOLD_ENTER: Output, frame counter -/
def holdEnter : Nat := 0x2409
/-- HOLD_EXIT: Output, wake latency in µs -/
def holdExit : Nat := 0x240A
/-- WAKE_SLOW: Output, wake latency in µs -/
def wakeSlow : Nat := 0x240B
/-- PAIR_CHANGED: New OUT_PAIR_LOCK -/
def pairChanged : Nat := 0x240C
/-- LINK_UP: Port, rate code, lanes, DSC rate -/
def linkUp : Nat := 0x2501
/-- TRAIN_FAIL: Port, rate code, lanes, failing phase of R679 -/
def trainFail : Nat := 0x2502
/-- LINK_NO_FIT: Port, output, MODE_ID -/
def linkNoFit : Nat := 0x2503
/-- LINK_LOST: Port, rate code, lanes -/
def linkLost : Nat := 0x2504
/-- SINK_IRQ: Port, service interrupt vector -/
def sinkIrq : Nat := 0x2505
/-- PAIR_KIND_MISMATCH: Pair n -/
def pairKindMismatch : Nat := 0x2506
/-- REEL_ALLOC: Output or surface, slices -/
def reelAlloc : Nat := 0x2A01
/-- REEL_FREE: Output or surface, slices -/
def reelFree : Nat := 0x2A02
/-- RACE_SLIP: Output, frame counter, line -/
def raceSlip : Nat := 0x2A03
/-- FRAME_ABANDONED: Output, frame counter, lines complete -/
def frameAbandoned : Nat := 0x2A04
/-- SCAN_UNDERRUN: Output, frame counter, line -/
def scanUnderrun : Nat := 0x2A05
/-- REEL_UE: Slice, owner, position -/
def reelUe : Nat := 0x2A06
/-- SCAN_MODE_CHANGED: Output, new mode -/
def scanModeChanged : Nat := 0x2A07
/-- SUBST_CHECK_FAIL: Image number -/
def substCheckFail : Nat := 0x2A08
/-- LAYER_REJECTED: Output, position, status -/
def layerRejected : Nat := 0x2C01
/-- STALE_LAYER: Output, position, frame counter -/
def staleLayer : Nat := 0x2C02
/-- SPLIT_START: Output, both engines -/
def splitStart : Nat := 0x2C03
/-- SPLIT_END: Output, released engine -/
def splitEnd : Nat := 0x2C04
/-- ENGINE_FAULT: Engine, output, frame counter -/
def engineFault : Nat := 0x2C05
/-- SUBST_UNAVAILABLE: Output, image number -/
def substUnavailable : Nat := 0x2C06
/-- SPLIT_DENIED: Output, estimate in µs -/
def splitDenied : Nat := 0x2C07
/-- LUT_SWAPPED: Output, new active bank -/
def lutSwapped : Nat := 0x2C08
/-- JOB_FAILED: Owner, header sequence, status -/
def jobFailed : Nat := 0x3001
/-- CLUSTER_FAULT: Cluster, owner, work item -/
def clusterFault : Nat := 0x3002
/-- PB_EXHAUSTED: Owner, header sequence, draw index -/
def pbExhausted : Nat := 0x3003
/-- PREEMPT_SLOW: Instance, save time in µs -/
def preemptSlow : Nat := 0x3004
/-- XLATE_EVICT: Owner, entries evicted -/
def xlateEvict : Nat := 0x3005
/-- CE_SUMMARY: Rank, count in the minute -/
def ceSummary : Nat := 0x4001
/-- RANK_UE: Rank, kind (data or command), channel address -/
def rankUe : Nat := 0x4002
/-- LINE_POISONED: Channel, channel address, owner -/
def linePoisoned : Nat := 0x4003
/-- SPARE_START: Failed rank, spare -/
def spareStart : Nat := 0x4004
/-- SPARE_DONE: Failed rank, spare, lines poisoned during the copy -/
def spareDone : Nat := 0x4005
/-- SPARE_ABANDONED: Failed rank, spare, pointer -/
def spareAbandoned : Nat := 0x4006
/-- RANK_FENCED: Rank -/
def rankFenced : Nat := 0x4007
/-- REFRESH_FORCED: Channel -/
def refreshForced : Nat := 0x4008
/-- DRAM_OVERTEMP: Channel, rank, mode register 4 value -/
def dramOvertemp : Nat := 0x4009
/-- RECENTRE: Channel, rank, lane, shift -/
def recentre : Nat := 0x400A
/-- MARGIN_LOW: Channel, rank, lane, LEFT, RIGHT -/
def marginLow : Nat := 0x400B
/-- OWNER_MISMATCH: Requester, device DRAM address, presented slot -/
def ownerMismatch : Nat := 0x400C
/-- TRAINED_FROM_SCRATCH: Channel -/
def trainedFromScratch : Nat := 0x400E
/-- PLACED: Surface, channel set, granule -/
def placed : Nat := 0x4C01
/-- UNIT_SLOW: Unit, ratio -/
def unitSlow : Nat := 0x4C02
/-- UNIT_EXCLUDED: Unit, ratio -/
def unitExcluded : Nat := 0x4C03
/-- UNIT_CLEARED: Unit, ratio -/
def unitCleared : Nat := 0x4C04
/-- MIGRATION_START: Surface, old and new channel sets -/
def migrationStart : Nat := 0x4C05
/-- MIGRATION_CUTOVER: Surface, new channel set -/
def migrationCutover : Nat := 0x4C06
/-- DRAM_FED_ENTER: Output, channel -/
def dramFedEnter : Nat := 0x4C07
/-- DRAM_FED_LEAVE: Output -/
def dramFedLeave : Nat := 0x4C08
/-- REEL_EVICT: Surface -/
def reelEvict : Nat := 0x4C09
/-- NO_SPARE_ENGINE: Output, engine -/
def noSpareEngine : Nat := 0x4C0A
/-- ENGINE_MOVED: Output, old and new engine -/
def engineMoved : Nat := 0x4C0B
/-- SUSPECT_PRESENT: Unit, node count -/
def suspectPresent : Nat := 0x5002
/-- SUSPECT_CLEARED: Unit -/
def suspectCleared : Nat := 0x5003
/-- SUSPECT_ACCEPTED: Unit, node count -/
def suspectAccepted : Nat := 0x5004
/-- FAST_RECAL: Unit, node count -/
def fastRecal : Nat := 0x5005
/-- LONG_HOLD: Unit, ID or key, position -/
def longHold : Nat := 0x5006
/-- WINDOW_MOVED: Unit, new B -/
def windowMoved : Nat := 0x5007
/-- CONTACT_OVERFLOW: Unit, blob count -/
def contactOverflow : Nat := 0x5008
/-- TOUCH_WAKE: Unit, group -/
def touchWake : Nat := 0x5009
/-- SCAN_RATE_CUT: Unit, scans per frame in force -/
def scanRateCut : Nat := 0x500B
/-- CAL_DONE: Channel, frequency in 0.1 Hz, peak in mV -/
def calDone : Nat := 0x5201
/-- CAL_FAILED: Channel, reason LOW or EDGE -/
def calFailed : Nat := 0x5202
/-- CAL_ABORTED: Channel -/
def calAborted : Nat := 0x5203
/-- EFFECT_CUT: Channel, effect, source, result -/
def effectCut : Nat := 0x5204
/-- NO_MOTION: Channel, effect -/
def noMotion : Nat := 0x5205
/-- DRIVE_CLIPPED: Channel, effect -/
def driveClipped : Nat := 0x5206
/-- PLAY_UNDERRUN: Stream, first BLOCK_SEQ, blocks -/
def playUnderrun : Nat := 0x6001
/-- CAPTURE_OVERRUN: Bus, first BLOCK_SEQ, blocks -/
def captureOverrun : Nat := 0x6002
/-- AUD_DMA_FAULT: Stream or bus, IO address -/
def audDmaFault : Nat := 0x6003
/-- TDM_CLOCK_LOST: Port -/
def tdmClockLost : Nat := 0x6004
/-- TDM_CLOCK_BACK: Port, blocks lost -/
def tdmClockBack : Nat := 0x6005
/-- LIMITER_ENGAGED: Bus, largest reduction in 1/16 dB -/
def limiterEngaged : Nat := 0x6006
/-- XO_SELECTED: Frequency -/
def xoSelected : Nat := 0x7001
/-- CLK_STOPPED: Monitor -/
def clkStopped : Nat := 0x7002
/-- CLK_OFF_FREQ: Monitor, measured frequency -/
def clkOffFreq : Nat := 0x7003
/-- CLK_RECOVERED: Monitor -/
def clkRecovered : Nat := 0x7004
/-- SWITCH_STUCK: Multiplexer, old and new input -/
def switchStuck : Nat := 0x7005
/-- FORCE_SEL: Multiplexer, items failed -/
def forceSel : Nat := 0x7006
/-- BUSY_REFUSED: Gate, block -/
def busyRefused : Nat := 0x7007
/-- STATE_ENTER: State, smallest tolerance, its source -/
def stateEnter : Nat := 0x7010
/-- STATE_EXIT: State, cause, latency in µs -/
def stateExit : Nat := 0x7011
/-- EXIT_LATE: State, latency in µs -/
def exitLate : Nat := 0x7012
/-- POWER_LIMITING: Mean power, limit -/
def powerLimiting : Nat := 0x7020
/-- POWER_LIMIT_CLEAR: Mean power -/
def powerLimitClear : Nat := 0x7021
/-- LIMIT_UNMET: Mean power -/
def limitUnmet : Nat := 0x7022
/-- THERMAL_THROTTLE: Temperature -/
def thermalThrottle : Nat := 0x7023
/-- SAG: Rail, lowest mV, duration in µs, position -/
def sag : Nat := 0x7030
/-- AVS_FAULT: I2C port, rail -/
def avsFault : Nat := 0x7032
/-- RESET_CAUSE: Kind, cause, straps -/
def resetCause : Nat := 0x7801
/-- GAFFER_RESTART_START: Cause -/
def gafferRestartStart : Nat := 0x7802
/-- GAFFER_RESTART_DONE: Duration in µs, firmware copied again -/
def gafferRestartDone : Nat := 0x7803
/-- BOOT_INTENT_SKIPPED: Output, status -/
def bootIntentSkipped : Nat := 0x7804
/-- READY: RST_READY_TIME -/
def ready : Nat := 0x7805
/-- ASSIGN_LOCKED: First 12 bytes of the table digest -/
def assignLocked : Nat := 0x8001
/-- OWNER_REFUSED: Requester, resource, request kind, repeats -/
def ownerRefused : Nat := 0x8002
/-- BIT_RESTART_START: Cause -/
def bitRestartStart : Nat := 0x8003
/-- BIT_RESTART_DONE: Duration in µs, slot -/
def bitRestartDone : Nat := 0x8004
/-- MEASURE_FAIL: Slot, result, entry kind -/
def measureFail : Nat := 0x8005
/-- BIT_HALTED: Result -/
def bitHalted : Nat := 0x8006
/-- MB_COLLISION: Mailbox, number of the replaced word -/
def mbCollision : Nat := 0x8007
/-- MB_DISCARDED: Mailbox, first and last word numbers -/
def mbDiscarded : Nat := 0x8008
/-- MB_BELL_LOST: Slot, mailbox, bit -/
def mbBellLost : Nat := 0x8009
/-- BIT_ITEM_DISCARD: Peripheral, buffer -/
def bitItemDiscard : Nat := 0x800A
/-- DATA_MISMATCH: Unit, output frame counter or first word number, computed value low 32 bits -/
def dataMismatch : Nat := 0x8201
/-- REFERENCE_FAULT: Unit, output frame counter or first word number -/
def referenceFault : Nat := 0x8202
/-- ALIVE_SKIP: Unit, predecessor, value -/
def aliveSkip : Nat := 0x8203
/-- FROZEN: Unit, repeat count or timeout -/
def frozen : Nat := 0x8204
/-- ACTION_RUN: Unit, actions run -/
def actionRun : Nat := 0x8205
/-- MSG_DISCARDED: Unit, mailbox, first and last word numbers, result -/
def msgDiscarded : Nat := 0x8206
/-- SUBST_RESTORED: Unit, output -/
def substRestored : Nat := 0x8207
/-- ALIVE_INVALID: Unit, frame counter or first word number -/
def aliveInvalid : Nat := 0x8208
/-- CHIME_WITHHELD: Unit, chime -/
def chimeWithheld : Nat := 0x8209
/-- CHIME_START: Chime, generator, source -/
def chimeStart : Nat := 0x8E01
/-- CHIME_END: Chime, generator, result -/
def chimeEnd : Nat := 0x8E02
/-- CHIME_REFUSED: Chime, source -/
def chimeRefused : Nat := 0x8E03
/-- LOG_LOST: Records lost -/
def logLost : Nat := 0x9001
/-- INJ_FIRED: Point, target, parameter -/
def injFired : Nat := 0x9002
/-- DAILIES_FAIL: Slice, first mismatching signature word -/
def dailiesFail : Nat := 0x9010
/-- DAILIES_TRANSIENT: Slice -/
def dailiesTransient : Nat := 0x9011
/-- DAILIES_OVERRUN: Slice, time in µs -/
def dailiesOverrun : Nat := 0x9012
/-- DAILIES_ABANDONED: Slice, cause -/
def dailiesAbandoned : Nat := 0x9013
/-- DAILIES_ROUND: Round, duration in s, slices failed -/
def dailiesRound : Nat := 0x9014
/-- WR_DELAY_CHECK: Channel, rank, lane, LEFT, RIGHT, shift -/
def wrDelayCheck : Nat := 0x9015
/-- TALLY_WRAP: Group, counter -/
def tallyWrap : Nat := 0xA001

/-- Every event code, ascending (R632). -/
def all : List Nat :=
  [0x1001, 0x1002, 0x1003, 0x1004, 0x1005, 0x1006, 0x1007, 0x1008, 0x1009, 0x1201, 0x1202, 0x1203, 0x1204, 0x1205, 0x1206, 0x2101,
   0x2102, 0x2103, 0x2201, 0x2202, 0x2203, 0x2401, 0x2402, 0x2403, 0x2404, 0x2405, 0x2406, 0x2407, 0x2408, 0x2409, 0x240A, 0x240B,
   0x240C, 0x2501, 0x2502, 0x2503, 0x2504, 0x2505, 0x2506, 0x2A01, 0x2A02, 0x2A03, 0x2A04, 0x2A05, 0x2A06, 0x2A07, 0x2A08, 0x2C01,
   0x2C02, 0x2C03, 0x2C04, 0x2C05, 0x2C06, 0x2C07, 0x2C08, 0x3001, 0x3002, 0x3003, 0x3004, 0x3005, 0x4001, 0x4002, 0x4003, 0x4004,
   0x4005, 0x4006, 0x4007, 0x4008, 0x4009, 0x400A, 0x400B, 0x400C, 0x400E, 0x4C01, 0x4C02, 0x4C03, 0x4C04, 0x4C05, 0x4C06, 0x4C07,
   0x4C08, 0x4C09, 0x4C0A, 0x4C0B, 0x5002, 0x5003, 0x5004, 0x5005, 0x5006, 0x5007, 0x5008, 0x5009, 0x500B, 0x5201, 0x5202, 0x5203,
   0x5204, 0x5205, 0x5206, 0x6001, 0x6002, 0x6003, 0x6004, 0x6005, 0x6006, 0x7001, 0x7002, 0x7003, 0x7004, 0x7005, 0x7006, 0x7007,
   0x7010, 0x7011, 0x7012, 0x7020, 0x7021, 0x7022, 0x7023, 0x7030, 0x7032, 0x7801, 0x7802, 0x7803, 0x7804, 0x7805, 0x8001, 0x8002,
   0x8003, 0x8004, 0x8005, 0x8006, 0x8007, 0x8008, 0x8009, 0x800A, 0x8201, 0x8202, 0x8203, 0x8204, 0x8205, 0x8206, 0x8207, 0x8208,
   0x8209, 0x8E01, 0x8E02, 0x8E03, 0x9001, 0x9002, 0x9010, 0x9011, 0x9012, 0x9013, 0x9014, 0x9015, 0xA001]

end Ev

/-! ## Severity (R632, R677) -/

/-- Event codes of severity CRITICAL (R677). -/
def severityCriticalCodes : List Nat :=
  [0x2A08, 0x2C06, 0x4002, 0x4006, 0x7002, 0x8006, 0x8204, 0x8205, 0x8209]
/-- Event codes of severity ERROR (R677). -/
def severityErrorCodes : List Nat :=
  [0x1005, 0x2503, 0x2504, 0x2506, 0x2A05, 0x2A06, 0x2C05, 0x3002, 0x4003, 0x4007, 0x400C, 0x4C0A, 
   0x6003, 0x6004, 0x7003, 0x7005, 0x7006, 0x7032, 0x7802, 0x8003, 0x8005, 0x8201, 0x8202, 0x8203, 
   0x8206, 0x8208, 0x8E03, 0x9010]
/-- Event codes of severity WARNING (R677). -/
def severityWarningCodes : List Nat :=
  [0x1003, 0x1006, 0x1203, 0x1204, 0x1205, 0x2405, 0x240B, 0x2502, 0x2A03, 0x2A04, 0x2C01, 0x2C07, 
   0x3001, 0x3003, 0x3004, 0x4004, 0x4008, 0x4009, 0x400B, 0x4C02, 0x4C03, 0x4C07, 0x5002, 0x5004, 
   0x500B, 0x5202, 0x5205, 0x5206, 0x7012, 0x7022, 0x7023, 0x7030, 0x7804, 0x8002, 0x8007, 0x8008, 
   0x8009, 0x800A, 0x9001, 0x9011, 0x9012]
/-- Event codes of severity NOTICE (R677). -/
def severityNoticeCodes : List Nat :=
  [0x1008, 0x1202, 0x1206, 0x2101, 0x2102, 0x2103, 0x2202, 0x2203, 0x2402, 0x2404, 0x2406, 0x2408, 
   0x2C02, 0x4001, 0x4005, 0x400E, 0x4C04, 0x4C08, 0x4C0B, 0x5003, 0x5006, 0x5008, 0x5203, 0x6001, 
   0x6002, 0x6005, 0x7004, 0x7007, 0x7020, 0x7801, 0x7803, 0x8004, 0x8207, 0x9002, 0x9013]
/-- Severity of an event code (R677): 4 CRITICAL, 3 ERROR, 2 WARNING, 1 NOTICE, 0 INFO for every other code. -/
def severityOf (code : Nat) : Nat :=
  if severityCriticalCodes.contains code then 4
  else if severityErrorCodes.contains code then 3
  else if severityWarningCodes.contains code then 2
  else if severityNoticeCodes.contains code then 1
  else 0

end Sys2Proof.Machine
end

