-- ==== Sys2Proof/Machine/State.lean ====
section
/-! DEFINITION. The state of the Ixand as plain data: every register, table, queue, counter, mode and pin level the manual gives it,
and the queue of commands that wait. Dictionary objects that the manual gives no other home live in one object store (`objs`, R530);
what the manual describes as tables, queues, rasters or protocols has a typed home, and the objects that report it are read from there. -/
namespace Sys2Proof.Machine

/-! ## Faults and refusals -/

/-- No command stops the block: the manual gives every command an effect, a status or no effect (log entry 2). -/
inductive Fault where
  /-- Raised by nothing. Safe: no run ends in it. -/
  | none
  deriving DecidableEq, Repr

/-- A command the model gives no meaning. -/
inductive Refusal where
  /-- Raised by an arm of `exec` that has no meaning yet. Safe: the run stops. -/
  | notModelled (mnemonic : String)
  deriving DecidableEq, Repr

/-! ## Keyed tables -/

/-- A table keyed by a number; a key that is not listed reads as the table's default (given at the read). -/
abbrev Tab (α : Type) := List (Nat × α)

/-! ## Positions, owners and records -/

/-- A Sprocket position (R17). -/
structure Spos where
  frame : BitVec 32 := 0
  line : BitVec 16 := 0
  frac : BitVec 16 := 0
  deriving DecidableEq, Repr

/-- A Script Log record (R630); `detail` is the 12 bytes of DETAIL, little-endian, packed under R631. -/
structure LogRecord where
  code : Nat
  severity : Nat
  injected : Bool
  source : Nat
  spos : Spos
  dtime : Nat
  detail : Nat
  deriving DecidableEq, Repr

/-- A completion record (R314). `owner` is the owner code whose ring takes it. -/
structure Completion where
  owner : Nat
  queue : Nat
  tag : Nat
  status : Nat
  detail : Nat
  spos : Spos
  dtime : Nat
  phase : Bool
  deriving DecidableEq, Repr

/-- What leaves the block: answers, records, interrupts, messages and pulses, newest first in `State.io` (log entry 3). -/
inductive IoEvent where
  /-- The status that answers a write or a request (R8, R536). -/
  | status (who : Requester) (code : Nat)
  /-- The value that answers a read. -/
  | value (who : Requester) (code : Nat) (v : Nat)
  /-- A completion record written to its ring (R313). -/
  | completion (c : Completion)
  /-- An MSI-X vector raised on a window (R313, R567). -/
  | msix (owner : Nat) (vector : Nat)
  /-- A doorbell wake or interrupt of a mailbox register (R410, R414). -/
  | doorbell (mailbox : Nat) (bit : Nat)
  /-- A message of LDP sent on a channel (R543, R554): session slot, 8 + window, or 0x100 + transport where no session stands behind it. -/
  | ldp (channel : Nat) (message : List (BitVec 8))
  /-- A link command on a display port (R230, R233, R241): port and kind of command. -/
  | port (p : Nat) (what : Nat)
  /-- A PCIe error or completion with an error answer on a host port (R416, R510). -/
  | hostError (port : Nat) (code : Nat)
  /-- A block of a bus, its channels one after the other, to its TDM slots (R512) or its capture ring (R514). -/
  | audio (bus : Nat) (capture : Bool) (samples : List Int)
  /-- The bytes of a DMA transfer to host memory: owner, IO address, how many, and the bytes, little-endian (R311). -/
  | hostWrite (owner addr n v : Nat)
  /-- The status area of a stream, or of bus b as 64 + b: DEVICE_POS, BLOCK_SEQ, LOST, SPOS and DTIME (R509). -/
  | audioStatus (unit : Nat) (devicePos blockSeq lost : Nat) (pos : Spos) (time : Nat)
  /-- An interrupt line of a resource is raised, to Bittern's controller or the normal one (R431, R581). -/
  | irq (resource : Nat) (bittern : Bool)
  /-- An ARP, ICMP or discarded frame answer of a MAC (R564). -/
  | ethernet (mac : Nat) (what : Nat)
  deriving DecidableEq, Repr

/-! ## Clocks (R15 to R34) -/

/-- Sprocket and device time. `dtime` is the 64-bit count of R30; `lineStartPs` and `linePs` are the start and length of the line in
progress, in ps; `slew` is the rate of R32 in force in ppm and `slewRest` what it has not yet moved, in 10⁻⁶ ns. -/
structure Clock where
  pos : Spos := {}
  dtime : Nat := 0
  lineStartPs : Nat := 0
  linePs : Nat := 14814815
  everLocked : Bool := false
  coastFrame : Bool := true
  stopped : Bool := false
  slew : Int := 0
  slewRest : Int := 0
  /-- Tick of the last slot firing (R45). -/
  lastFire : Option Nat := none
  /-- Ticks elapsed since cold reset across frame boundaries, for the epochs of R79. -/
  ticks : Nat := 0
  deriving DecidableEq, Repr

/-- A slot that is due (R45, R47, R48): its number, the tick at which it became due, and whether the position passed it or it was armed late. -/
structure DueSlot where
  slot : Nat
  tick : Nat
  jumped : Bool := false
  late : Bool := false
  deriving DecidableEq, Repr

/-! ## Script Log (R630 to R635) -/

/-- The event FIFO (oldest first), the AON mirror and the ring (newest first), and the counts of R633. -/
structure Log where
  fifo : List LogRecord := []
  mirror : List LogRecord := []
  ring : List LogRecord := []
  lostPending : Nat := 0
  causePending : Bool := true
  deriving DecidableEq, Repr

/-- An OWNER_LOCKED refusal whose record later ones of 1 ms share (R401): requester identifier, resource, kind, time and repeats. -/
structure Refused where
  requester : Nat
  resource : Nat
  kind : Nat
  time : Nat
  repeats : Nat
  deriving DecidableEq, Repr

/-! ## Queues, items and instances (R300 to R338) -/

/-- A fetched descriptor that has not completed (R307 to R313). `id` is its fetch order. -/
structure Item where
  id : Nat
  owner : Nat
  queue : Nat
  desc : BitVec 512
  started : Bool := false
  injected : Bool := false
  deriving DecidableEq, Repr

/-- One queue of an instance window (R305, R315). -/
structure Queue where
  base : Nat := 0
  enable : Bool := false
  sizeLog2 : Nat := 0
  head : Nat := 0
  tail : Nat := 0
  /-- RING_FULL, BAD_TAIL, RESETTING, DISABLED of Qq.DB_RESPONSE, as bits 0 to 3. -/
  sticky : Nat := 0
  deriving DecidableEq, Repr

/-- INST_STATUS.STATE (R306). -/
inductive InstState where
  | free | active | draining | teardown
  deriving DecidableEq, Repr

/-- A dirty log (R326 to R328): registers, and the pages marked in each buffer in host memory. -/
structure DirtyLog where
  enable : Bool := false
  swapDone : Bool := true
  activeBuf : Bool := false
  overflow : Bool := false
  swapAsked : Bool := false
  base : Nat := 0
  pages : Nat := 0
  buf0 : Nat := 0
  buf1 : Nat := 0
  cutover : Spos := {}
  cutoverTime : Nat := 0
  marked0 : List Nat := []
  marked1 : List Nat := []
  deriving DecidableEq, Repr

/-- An LDP dictionary window (R566, R567). -/
structure DictWindow where
  busy : Bool := false
  done : Bool := false
  goRefused : Bool := false
  rspLength : Nat := 0
  irq : Bool := false
  /-- The request and the response buffer: their bytes up to the last written. -/
  request : List (BitVec 8) := []
  response : List (BitVec 8) := []
  notifyBase : Nat := 0
  notifyConfig : Nat := 0
  notifyHead : Nat := 0
  notifyTail : Nat := 0
  deriving DecidableEq, Repr

/-- The state of an instance, or of the manager (number 64), beyond its dictionary objects (R305, R306, R319, R330). -/
structure Inst where
  state : InstState := .free
  port : Nat := 0
  pasid : Nat := 0
  shareNow : Nat := 0
  balance : Int := 0
  dmaBalance : Int := 0
  suspended : Bool := false
  resetDone : Bool := false
  configIgnored : Bool := false
  crBase : Nat := 0
  crConfig : Nat := 0
  crHead : Nat := 0
  crTail : Nat := 0
  queues : List (Nat × Queue) := []
  /-- Reset in progress: it removes, the item that asked, the squashed count, outputs whose withdrawal flip is awaited, surfaces kept until the end. -/
  removing : Bool := false
  asker : Option Nat := none
  squashed : Nat := 0
  awaitFlip : List Nat := []
  lastQueue : Nat := 0
  dirty : DirtyLog := {}
  window : DictWindow := {}
  /-- Bus mastering is off after a Function Level Reset: records are not written, only the first and last SEQUENCE of each queue kept (R332). -/
  busOff : Bool := false
  flrSquashed : List (Nat × Nat × Nat) := []
  /-- Device time at which the drain ends (R330). -/
  drainUntil : Nat := 0
  deriving DecidableEq, Repr

/-- A guard of an output (R336 to R338): the slots armed for its victims, and whose windows are open. -/
structure Guard where
  output : Nat
  victim : Nat
  slot : Nat
  fired : Option Nat := none
  firedAtComp : Nat := 0
  deriving DecidableEq, Repr

/-! ## Output channels and compositions (R178 to R220) -/

/-- OUT_STATE (R218). -/
inductive OutState where
  | off | waitPlug | starting | active | holdEntry | glassHold | waking | unplugDebounce
  deriving DecidableEq, Repr

/-- Where an output's raster is: stopped; in the active lines; in blanking before its decision; decided, with what the next frame shows. -/
inductive RasterPhase where
  | stopped
  | activeLines
  | blanking
  | going (shows : Bool)
  deriving DecidableEq, Repr

/-- An accepted output intent (R61). -/
structure OutIntent where
  priority : Nat
  latency : Nat
  storeFormat : Nat
  modeId : Nat
  rateMin : Nat
  rateMax : Nat
  critRects : Nat
  deriving DecidableEq, Repr

/-- A commit that has been accepted and has not ended (R193 to R197). `order` is its place among acceptances and colour writes. -/
structure Commit where
  item : Nat
  owner : Nat
  seq : Nat
  order : Nat
  acceptedAt : Nat
  missed : Bool := false
  note : Nat := 0
  deriving DecidableEq, Repr

/-- One engine's part of a composition (R137 to R142). `engine` is absent while the part waits for one. -/
structure Part where
  engine : Option Nat
  half : Nat
  estimateNs : Nat
  startedAt : Nat
  done : Bool := false
  deriving DecidableEq, Repr

/-- A composition (R188 to R197): the commits it shows, its buffer, its engines' parts and the layers it composes. -/
structure Composition where
  /-- Its place among all compositions. -/
  id : Nat
  /-- SEQ of the last of its commits accepted (R195). -/
  seq : Nat
  commits : List Commit
  buffer : Nat
  parts : List Part
  complete : Bool := false
  critWritten : Bool := false
  late : Bool := false
  stale : Bool := false
  slip : Bool := false
  abandoned : Bool := false
  newFormat : Bool := false
  /-- A frame has begun to scan it, in RACING mode before it is complete. -/
  shown : Bool := false
  /-- Position, descriptor and submitter of each layer composed. -/
  layers : List (Nat × BitVec 512 × Nat) := []
  /-- Positions composed with an earlier descriptor (R148). -/
  stalePositions : List Nat := []
  /-- Its complete lines, in RACING mode (R117). -/
  linesDone : Nat := 0
  /-- The references of Continuity units that govern the frames that scan it (R424), by unit. -/
  refs : List (Nat × Nat) := []
  /-- The unit whose override position 15 takes (R431). -/
  overridden : Option Nat := none
  /-- It is composed in the Reel although the output is DRAM-fed: its latch point returns the output (R76). -/
  toReel : Bool := false
  deriving DecidableEq, Repr

/-- The state of an output channel beyond its dictionary objects. -/
structure Output where
  state : OutState := .off
  /-- The state an unplug debounce left (R214). -/
  before : OutState := .off
  intent : Option OutIntent := none
  /-- Rates, priority and latency class accepted and waiting for the latch point (R183). -/
  nextIntent : Option OutIntent := none
  /-- The item of an intent that waits for a fall-back (R74), and the note it ends with. -/
  waitingIntent : Option (Nat × Nat) := none
  /-- The outputs whose switch to DRAM it still waits for (R72, R74). -/
  moving : List Nat := []
  phase : RasterPhase := .stopped
  frameLines : Nat := 0
  pending : List Commit := []
  comps : List Composition := []
  /-- The composition first scanned in the frame in progress (R197). -/
  showing : Option Composition := none
  /-- The buffer scanned, and the buffer that holds the last good frame in RACING mode. -/
  front : Nat := 0
  lastGood : Nat := 0
  /-- Strict commit mode in force at this output (R199: a change takes effect at the latch point). -/
  strict : Bool := true
  racing : Bool := false
  consecutiveRepeats : Nat := 0
  /-- A wake in progress: device time of the acceptance, or of the end of step 3 (R212, R213). -/
  wakeFrom : Option Nat := none
  slipLine : Option Nat := none
  /-- The smallest lead found in the frame in progress (R121). -/
  raceLeadMin : Option Nat := none
  /-- The SEQ of an abandoned frame's commit that is composed again (R198). -/
  recompose : Option Nat := none
  lastEngine : List Nat := []
  layersShown : List (Nat × BitVec 512 × Nat) := []
  critRectsNow : Nat := 0
  critRectsPending : Bool := false
  startedFrames : Nat := 0
  /-- Colour writes that wait for their latch point: address, value, order (R171). -/
  shadowWrites : List (Nat × Nat × Nat) := []
  /-- Order of a 3D LUT swap request that waits (R166). -/
  swapAsked : Option Nat := none
  /-- Real time of the guard of the frame in progress, in ps, and of its stale latch line (R335, R336). -/
  guardTime : Option Nat := none
  staleTime : Nat := 0
  /-- A Continuity unit's override of the critical layer: unit and image (R431), and whether it waits for its latch. -/
  critOverride : Option (Nat × Nat) := none
  overrideAsked : Bool := false
  splitNow : Bool := false
  /-- A split that ends when the right engine has completed its half (R78). -/
  splitEnding : Bool := false
  lastEstimateNs : Nat := 0
  deriving DecidableEq, Repr

/-! ## Grip and the Reel (R56 to R136) -/

/-- Surface STATE (R66). -/
inductive SurfState where
  | free | placed | migrating | reel | lossy | releasing
  deriving DecidableEq, Repr

/-- Where a surface's bytes lie: channel set, granule and base (R66). -/
structure Placement where
  channels : Nat
  granule : Nat
  base : Nat
  deriving DecidableEq, Repr

/-- A migration of a surface (R89): its new placement, the copy pointer, whether it is copied, paused or past its cut-over. -/
structure Migration where
  target : Placement
  copied : Nat := 0
  copyDone : Bool := false
  cutover : Bool := false
  /-- Items in flight at the cut-over that still use the old placement. -/
  users : List Nat := []
  /-- Serial numbers of the layer bindings in force at the cut-over. -/
  bindings : List Nat := []
  deriving DecidableEq, Repr

/-- A surface (R56, R66). -/
structure Surface where
  state : SurfState := .free
  owner : Nat := 0
  width : Nat := 0
  height : Nat := 0
  format : Nat := 0
  crit : Nat := 0
  place : Placement := ⟨0, 0, 0⟩
  sizePages : Nat := 0
  outReaders : Nat := 0
  engines : Nat := 0
  reelOk : Bool := false
  sparse : Bool := false
  readRate : Nat := 0
  writeRate : Nat := 0
  /-- READ_RATE measured, per epoch, newest first, at most 64 (R66). -/
  measured : List Nat := []
  reelSlices : List Nat := []
  /-- A SPARSE surface's bound tiles: tile, channel, start in 64 KiB units (R69, R297). -/
  tiles : List (Nat × Nat × Nat) := []
  lossy : Bool := false
  migration : Option Migration := none
  /-- The item of a release that waits (R59). -/
  releaseItem : Option Nat := none
  /-- A revision that waits for a migration's cut-over (R60): readers, engines, rates and criticality. -/
  revision : Option (Nat × Nat × Nat × Nat × Nat) := none
  deriving DecidableEq, Repr

/-- The Reel slices of an output (R72, R106, R110): two frame buffers and the front and back copies of each critical rectangle; the same
again for a format that waits for its first flip (R112). -/
structure ReelHold where
  format : Nat := 0
  buffers : List (List Nat) := []
  rects : List (List Nat) := []
  deriving DecidableEq, Repr

/-- DRAM buffers of an output: channel, start in 64 KiB units, and 64 KiB units of each of the two (R73). -/
structure DramHold where
  channel : Nat
  base : Nat
  units : Nat
  deriving DecidableEq, Repr

/-- The buffers of an output. -/
structure Backing where
  now : ReelHold := {}
  next : Option ReelHold := none
  /-- DRAM-fed scan-out (R73), and its buffers on another channel that a move waits for (R88). -/
  dram : Option DramHold := none
  dramNext : Option DramHold := none
  /-- A switch to DRAM that waits for the latch point (R74). -/
  toDram : Option DramHold := none
  /-- Reel buffers for a return that waits for a composition there (R76). -/
  toReel : Option ReelHold := none
  deriving DecidableEq, Repr

/-- A layer binding (R77), with a serial number of its own. -/
structure Binding where
  output : Nat
  half : Nat
  critical : Bool
  stale : Bool
  source : Nat
  surface : Nat
  owner : Nat
  seq : Nat
  frame : Nat
  serial : Nat
  deriving DecidableEq, Repr

/-- DRAM held outside surfaces and outputs: an owner's context save area or scratch (R294, R643). -/
structure Area where
  owner : Nat
  place : Placement
  bytes : Nat
  deriving DecidableEq, Repr

/-- Health STATE (R81). -/
inductive Health where
  | ok | slow | excluded | failed | offline | unjudged
  deriving DecidableEq, Repr

/-- A unit of the health table (R79 to R84): its state, samples (newest first, at most 64), run of clear epochs, ratio and times. -/
structure Unit where
  health : Health := .unjudged
  samples : List Nat := []
  clearRun : Nat := 0
  service : Nat := 0
  peer : Nat := 0
  ratio : Nat := 0
  since : Spos := {}
  /-- Held EXCLUDED by a first Dailies failure (R646). -/
  held : Bool := false
  deriving DecidableEq, Repr

/-- Grip: surfaces, backing, health, and the 2 MiB blocks of the ownership table. -/
structure Grip where
  surfaces : List (Nat × Surface) := []
  backing : List (Nat × Backing) := []
  units : List (Nat × Unit) := []
  /-- The layer binding table, by 16 × engine + slot (R77). -/
  layers : List (Nat × Binding) := []
  areas : List Area := []
  aggressiveness : Nat := 1
  deriving DecidableEq, Repr

/-! ## Display ports (R221 to R249) -/

/-- A link configuration that is tried or in force: lanes, rate code, DSC rate in 1/16 bit per pixel (0 uncompressed). -/
structure LinkConfig where
  lanes : Nat
  rate : Nat
  dsc : Nat
  deriving DecidableEq, Repr

/-- The state of a port beyond its dictionary objects. -/
structure Port where
  /-- Attach signal, and the debounce that runs towards a level. -/
  level : Bool := false
  debouncing : Bool := false
  sink : SinkReport := {}
  /-- The candidates not yet tried in this run, and the list a rerun starts with (R234). -/
  candidates : List LinkConfig := []
  rerun : List LinkConfig := []
  link : Option LinkConfig := none
  /-- A DSC change that waits for a frame start (R236). -/
  dscPending : Option LinkConfig := none
  pulse : Bool := false
  deriving DecidableEq, Repr

/-! ## Mailboxes (R410) -/

/-- A mailbox: the words held, oldest first, and its registers. `held` are wake bits that wait for the receiver's domain (R415). -/
structure Mailbox where
  words : List Nat := []
  pushed : Nat := 0
  collision : Bool := false
  mask : Nat := 0xFFFFFFFF
  pend : Nat := 0
  wakeEn : Nat := 0
  vector : Nat := 0
  held : Nat := 0
  deriving DecidableEq, Repr

/-! ## Start-up, resets and restarts (R406, R614, R619) -/

/-- Start-up and restarts: STAGE, the recovery window, times of the restarts of the last minute, a restart in progress. -/
structure Boot where
  /-- STAGE (R614): XO_WAIT at the release of reset (R615). -/
  stage : Nat := 1
  recoveryPage : Nat := 0
  recoveryLength : Nat := 0
  /-- Device time of the release of reset. -/
  since : Nat := 0
  /-- Device times of Bittern's and Gaffer's restarts (R406, R619). -/
  bitRestarts : List Nat := []
  gafRestarts : List Nat := []
  /-- Start of the Bittern restart in progress; the slot being measured, and whether the other one has been. -/
  bitT0 : Option Nat := none
  measuring : Nat := 0
  otherMeasured : Bool := false
  /-- LENGTH of BITTERN_IMAGE as measured. -/
  imageLength : Nat := 0
  /-- Start of the Gaffer restart in progress, and whether it waits for Bittern. -/
  gafT0 : Option Nat := none
  gafWaits : Bool := false
  /-- The next item number at that start: earlier firmware descriptors end with GAFFER_RESTARTED. -/
  gafMark : Nat := 0
  /-- Outputs whose guards the restart has left unarmed (R620). -/
  guardSkips : List Nat := []
  /-- Strict commit mode causes in force (R200): bits 0 RESET, 1 BITTERN_RESTART, 2 DAILIES. -/
  strictHolds : Nat := 1
  /-- Held in reset by a thermal trip (R601). -/
  tripped : Bool := false
  /-- Port links up (R615). -/
  links : List Nat := []
  /-- The manager's port, from INST_MGR_PORT at the last power-on or cold reset (R300). -/
  mgrPort : Nat := 0
  deriving DecidableEq, Repr

/-- A SAG in progress (R604): rail, lowest voltage, where and when it was crossed, whether it is injected, and when every rail had left its warning
level. -/
structure Sag where
  rail : Nat
  lowest : Nat
  pos : Spos
  start : Nat
  injected : Bool := false
  recovered : Option Nat := none
  deriving DecidableEq, Repr

/-- Sluice (R594 to R605): the exit in progress, its cause and start; measured power of the last 10 ms and the ms it has been 5 % below the limit; the
ceilings of power and temperature; a SAG; the targets that the levels of VDD_CORE and VDD_RAS follow; whether AVS targets are held, and a RAS ceiling
that waits for its voltage; until when an injected temperature holds. -/
structure Power where
  exitCause : Option Nat := none
  exitFrom : Nat := 0
  target : Nat := 0
  samples : List Nat := []
  calm : Nat := 0
  rasCeiling : Nat := 1800
  gafCeiling : Nat := 2000
  hotCeiling : Nat := 1800
  sag : Option Sag := none
  levels : Tab Nat := []
  avsHeld : Bool := false
  avsWaits : Option Nat := none
  hotUntil : Nat := 0
  /-- RASTER_CLOCK_CEILING in force (R568). -/
  modeCeiling : Nat := 1800
  deriving DecidableEq, Repr
/-! ## Jobs of the Raster Array (R254 to R261, R273 to R295) -/

/-- A job: its item, owner and queue, whether it is resident, the surfaces it names and those it writes, its intent, and how far it has come. -/
structure Job where
  item : Nat
  owner : Nat
  queue : Nat
  resident : Bool := false
  uses : List Nat := []
  writes : List Nat := []
  crit : Nat := 0
  deadline : Option Spos := none
  /-- Place in the order of releases (R64). -/
  released : Nat := 0
  start : Spos := {}
  /-- Pipeline handles that its draw records or descriptor name. -/
  handles : List Nat := []
  /-- The draw record that binning reaches next, and whether binning has ended. -/
  nextDraw : Nat := 0
  binned : Bool := false
  /-- A partial pass renders (R281), and how many there have been. -/
  inPass : Bool := false
  passes : Nat := 0
  /-- Bytes of the parameter buffer used, entries of each tile's list, and reserve pages held now and at most. -/
  used : Nat := 0
  lists : Tab Nat := []
  reserve : Nat := 0
  peak : Nat := 0
  /-- Work items not yet done of the pass, or of a compute job. -/
  left : Nat := 0
  rendered : Nat := 0
  skipped : Nat := 0
  primitives : Nat := 0
  preemptions : Nat := 0
  robust : Bool := false
  miss : Bool := false
  deriving DecidableEq, Repr

/-- A work item (R255): a tile of a pass, or consecutive workgroups of a compute job; `bytes` its tile memory. -/
structure WorkItem where
  job : Nat
  index : Nat
  bytes : Nat
  deriving DecidableEq, Repr

/-- A granted page of a parameter buffer pool: surface, page of it, and the job whose lists it holds (R279). -/
structure PbPage where
  surface : Nat
  page : Nat
  job : Option Nat := none
  deriving DecidableEq, Repr

/-- A pipeline (R287): its stages' cache keys, and the DESTROYs that wait for it. -/
structure Pipeline where
  graphics : Bool
  stages : List Nat
  /-- Shared memory of its workgroups, in bytes (R291). -/
  shared : Nat
  dying : List Nat := []
  deriving DecidableEq, Repr

/-- A cached translation: owner, key, bytes and the shared memory of its workgroups (R292). The least recently used comes first. -/
structure Translation where
  owner : Nat
  key : Nat
  bytes : Nat
  shared : Nat := 0
  deriving DecidableEq, Repr

/-- A CREATE whose stages are being translated: its item and the keys and sizes of its stages. -/
structure Creating where
  item : Nat
  owner : Nat
  graphics : Bool
  keys : List Nat
  missing : List Nat
  deriving DecidableEq, Repr

/-- The Raster Array: pools by owner, pipelines by 1,024 × owner + handle, the translation cache, the shared queue, what each cluster holds, and
the work items of saved contexts by instance. -/
structure Raster where
  pools : Tab (List PbPage) := []
  pipelines : Tab Pipeline := []
  cache : List Translation := []
  creating : List Creating := []
  work : List WorkItem := []
  clusters : Tab (List WorkItem) := []
  saved : Tab (List WorkItem) := []
  releases : Nat := 0
  /-- C of the epoch in progress, in ns of cluster time (R319); 0 before the first one that has been measured. -/
  epochCap : Nat := 0
  deriving DecidableEq, Repr

/-! ## Device DRAM and keys (R342 to R389) -/

/-- The memory configuration read at cold reset and at power-on reset (R345): channels, data rate, temperature, sizes and ECC bits of the
ranks, the spare and the refresh mode. -/
structure MemConf where
  channels : Nat := 0
  rate : Nat := 0
  tcase : Nat := 2
  sizes : List Nat := []
  ecc : Nat := 0
  spare : Nat := 0xFF
  mode : Nat := 0
  /-- MEM_RETIRED_RANKS as read then, and ranks retired since (R376). -/
  retired : Nat := 0
  deriving DecidableEq, Repr

/-- A channel beyond its objects: a halved interval and the calm reads seen since (R359, R360), delay shifts that wait for an all-bank refresh
stall (R366), the next bank pair, refreshes of slots that wait (R358), and the sweep in progress and the next (R364). -/
structure MemChan where
  halved : Bool := false
  calmReads : Nat := 0
  recentre : List (Nat × Nat × Int) := []
  pairNext : Nat := 0
  /-- The next so many per-bank refreshes are replaced by one all-bank refresh (R366). -/
  replaced : Nat := 0
  slotWaits : Nat := 0
  sweep : Option (Nat × Nat) := none
  sweepNext : Nat := 0
  deriving DecidableEq, Repr

/-- Corrected errors of a rank: device times within 24 hours, and the count of the minute in progress (R368). -/
structure RankErrors where
  times : List Nat := []
  minute : Nat := 0
  deriving DecidableEq, Repr

/-- An entry of the poison list (R387): device DRAM address of the line, rank, owner, and when it was found. -/
structure PoisonEntry where
  line : Nat
  rank : Nat
  owner : Nat
  pos : Spos
  time : Nat
  deriving DecidableEq, Repr

/-- Device DRAM beyond its bytes: the channels, the ranks' corrected errors, the lines poisoned now (device DRAM address ÷ 64), the entries of
the poison list, newest first, and lines poisoned during the spare's copy. -/
structure Dram where
  channels : Tab MemChan := []
  ranks : Tab RankErrors := []
  poisoned : List Nat := []
  found : List PoisonEntry := []
  copyPoisoned : Nat := 0
  deriving DecidableEq, Repr

/-- A key slot (R381): owner code, state 0 EMPTY, 1 LIVE, 2 RETIRING, and GENERATION. -/
structure KeySlot where
  owner : Nat := 0
  state : Nat := 0
  generation : Nat := 0
  deriving DecidableEq, Repr


/-! ## The stored image (R539 to R542) -/

/-- An entry of a stored image: address, type code, length and value. -/
structure ImageEntry where
  addr : Nat
  type : Nat
  length : Nat
  value : Nat
  deriving DecidableEq, Repr

/-- A valid copy of the stored image: GENERATION and entries. A copy without a valid MAGIC, FORMAT and CHECK is not listed. -/
structure StoredImage where
  generation : Nat
  entries : List ImageEntry
  deriving DecidableEq, Repr

/-- A COMMIT that runs: its requester's owner code, the channel and transaction that its answer goes to (channel 0xFF: none), the snapshot, and
whether it was injected. -/
structure CommitRun where
  requester : Nat
  channel : Nat
  tid : Nat
  snapshot : List ImageEntry
  deriving DecidableEq, Repr

/-- The flash's stored image: the two copies, the one loaded or last written, its GENERATION, the COMMIT in progress, and one of Gaffer's own that
waits for it. -/
structure Flash where
  copies : Tab StoredImage := []
  last : Option Nat := none
  generation : Nat := 0
  commit : Option CommitRun := none
  again : Bool := false
  deriving DecidableEq, Repr

/-! ## Dailies (R641 to R648) -/

/-- A slice that runs: its number, the device time of its firing, and its budget in µs (R568, R569). -/
structure SliceRun where
  slice : Nat
  start : Nat
  budget : Nat
  deriving DecidableEq, Repr

/-- Dailies: slices whose units are reserved, slices that run, results other than NOT_RUN and NOT_APPLICABLE (R647), the round in
progress: its start and its failures, and slices whose first failure waits for its repeat. -/
structure Dailies where
  reserved : List Nat := []
  running : List SliceRun := []
  results : Tab Nat := []
  roundStart : Nat := 0
  roundFails : Nat := 0
  once : List Nat := []
  /-- DAILIES_BUDGET as the last slice took it (R568). -/
  budget : Nat := 500
  deriving DecidableEq, Repr

/-! ## Quag (R482 to R498) -/

/-- Phases of an effect (R490): HAP_STATE 3 to 6. -/
inductive HapPhase where
  | overdrive | sustain | braking | gap
  deriving DecidableEq, Repr

/-- An effect in play: its number, the descriptor copied at its start, its source, whether it is critical, and how far it has come. -/
structure HapPlay where
  effect : Nat
  desc : Nat
  source : Nat
  critical : Bool
  phase : HapPhase := .overdrive
  /-- Half-cycles done in the phase, and pulses done. -/
  half : Nat := 0
  pulse : Nat := 0
  cut : Bool := false
  clipped : Bool := false
  /-- Sustain half-cycles of the pulse at 50 % or more of rated; a sense-gap peak above the threshold seen; an injection holds for the pulse. -/
  strong : Nat := 0
  moved : Bool := false
  injected : Bool := false
  /-- It plays in FIXED mode at 170.0 Hz (R488). -/
  untuned : Bool := false
  periodNs : Nat := 0
  deriving DecidableEq, Repr

/-- A queued effect: number, descriptor, source and kind. -/
structure HapQueued where
  effect : Nat
  desc : Nat
  source : Nat
  critical : Bool
  deriving DecidableEq, Repr

/-- A haptic channel: a sweep in progress, whether it has been enabled since its domain powered up (R486), the effect in play and the queued one. -/
structure Hap where
  calibrating : Bool := false
  calDone : Bool := false
  play : Option HapPlay := none
  queued : Option HapQueued := none
  deriving DecidableEq, Repr

/-! ## Foley (R501 to R526) -/

/-- A gain that ramps (R515): level at the ramp's start and target, in 2⁻¹⁶ of 1/16 dB; samples done of its length; whether the target is a mute. -/
structure Ramp where
  start : Int := 0
  target : Int := 0
  done : Nat := 0
  length : Nat := 0
  mute : Bool := false
  deriving DecidableEq, Repr

/-- An input stream (R507 to R510): the configuration in force, its position and counts since its start, the run of blocks not delivered (BLOCK_SEQ of
the first, and blocks), whether it is in FAULT or has lost its clock, whether it is to stop at its next block boundary, its gain, the high-pass memory
(x₁, x₂, y₁, y₂ of each channel), its last block after the stream gain, the peak of each channel in that block, and its peaks of the last 100 ms. -/
structure AudStream where
  cfg : Nat := 0x8000
  running : Bool := false
  stopping : Bool := false
  devicePos : Nat := 0
  blockSeq : Nat := 0
  lost : Nat := 0
  missed : Option (Nat × Nat) := none
  fault : Bool := false
  clockLost : Bool := false
  gain : Ramp := {}
  memory : List (Int × Int × Int × Int) := []
  block : List (List Int) := []
  chPeaks : List Nat := []
  peaks : List (Nat × Nat) := []
  deriving DecidableEq, Repr

/-- A route in force (R511): table entry, stream, stream channel, bus channel and gain. -/
structure RouteRun where
  index : Nat
  stream : Nat
  ch : Nat
  busCh : Nat
  gain : Ramp
  deriving DecidableEq, Repr

/-- An output bus (R512 to R518, R523): configuration, destination and clip mode in force, its capture position and counts, gains, routes, AUTOSCALE
scales by channel with the n they follow, the duck, when its limiter last reduced, and its peaks of the last 100 ms. -/
structure AudBus where
  cfg : Nat := 2
  dest : Nat := 0
  mode : Nat := 0
  running : Bool := false
  devicePos : Nat := 0
  blockSeq : Nat := 0
  lost : Nat := 0
  missed : Option (Nat × Nat) := none
  fault : Bool := false
  clockLost : Bool := false
  gain : Ramp := {}
  duck : Ramp := {}
  routes : List RouteRun := []
  scales : List (Nat × Ramp) := []
  limited : Option Nat := none
  peaks : List (Nat × Nat) := []
  deriving DecidableEq, Repr

/-- A chime on a generator (R521, R522): its number, its table entry as it was at its request, its source (0 CHIME_PLAY, 1 a Continuity unit), its place
in the order of starts, and the samples played. -/
structure ChimeRun where
  chime : Nat
  desc : Nat
  source : Nat
  order : Nat := 0
  played : Nat := 0
  deriving DecidableEq, Repr

/-- A chime generator: the chime it plays, the one that starts at the next block boundary, and whether the one it plays stops there. -/
structure Generator where
  now : Option ChimeRun := none
  next : Option ChimeRun := none
  stopping : Bool := false
  deriving DecidableEq, Repr

/-- Foley. -/
structure Foley where
  streams : Tab AudStream := []
  buses : Tab AudBus := []
  gens : Tab Generator := []
  deriving DecidableEq, Repr

/-! ## Reed and the key bank (R443 to R478) -/

/-- A scan window that runs: its start, and the mode and gain it took at its start. -/
structure ScanRun where
  pos : Spos
  time : Nat
  mode : Nat := 0
  raised : Bool := false
  deriving DecidableEq, Repr

/-- A contact (R463 to R467, R471): ID, TYPE, its peak's TX and RX index, position in 1/8 pixel, peak signal in 1/256 count, blob nodes, device time
of its DOWN, whether it has passed the long hold, and the nodes of its blob. -/
structure Contact where
  id : Nat
  type : Nat
  tx : Nat
  rx : Nat
  x : Nat
  y : Nat
  z : Int
  area : Nat
  downAt : Nat
  long : Bool := false
  blob : List Nat := []
  deriving DecidableEq, Repr

/-- Self-capacitance electrodes at one gain: baselines in 1/256 count, TX electrodes first, and runs of negative signal. No baseline before the first
scan at the gain. -/
structure SelfBase where
  base : List Int := []
  neg : List Nat := []
  deriving DecidableEq, Repr

/-- A front end beyond its objects. Nodes are numbered t × RX_USED + r; baselines are in 1/256 count. -/
structure FrontEnd where
  window : Option ScanRun := none
  ending : Bool := false
  scans : Nat := 0
  base : List Int := []
  neg : List Nat := []
  suspect : List Bool := []
  /-- Sums of the four scans of BASELINING. -/
  sum : List Int := []
  selfSum : List Int := []
  selfNormal : SelfBase := {}
  selfRaised : SelfBase := {}
  contacts : List Contact := []
  overflowRun : Bool := false
  runningAt : Nat := 0
  /-- Listen samples of each band, newest first, at most four; the band of the next one; whether a sweep is complete (R451, R452). -/
  listen : List (List Int) := []
  band : Nat := 0
  /-- Start line of window 0, and one that waits for the next frame start (R447, R452). -/
  windowB : Option Nat := none
  nextB : Option Nat := none
  /-- Scans per frame in force, when they were cut (R450). -/
  cut : Option Nat := none
  /-- TOUCH_MODE_FORCE as the last window took it (R568). -/
  force : Nat := 0
  /-- Runs of wake scans over the threshold, by group (R477). -/
  wakeRuns : List Nat := []
  deriving DecidableEq, Repr

/-- A key: baseline in 1/256 count, runs of negative signal, SUSPECT, whether it is pressed and since when, whether it has passed the long hold, and its
runs of scans as the group's strongest candidate, as no candidate, and above the pressed key by the margin (R474, R475). -/
structure Key where
  base : Int := 0
  neg : Nat := 0
  suspect : Bool := false
  sum : Int := 0
  pressed : Bool := false
  pressedAt : Nat := 0
  long : Bool := false
  strongest : Nat := 0
  absent : Nat := 0
  above : Nat := 0
  deriving DecidableEq, Repr

/-- The key bank beyond its objects. -/
structure KeyBank where
  window : Option ScanRun := none
  ending : Bool := false
  scans : Nat := 0
  runningAt : Nat := 0
  keys : List Key := List.replicate 24 {}
  deriving DecidableEq, Repr

/-! ## Continuity units (R421 to R440) -/

/-- A Continuity unit beyond its objects: the predecessor of its alive value and the repeat count (R428); the frame count or composition order before
which it does not start (R438); whether its output had stopped (R433); a staged message: its words, the number of the first and the time of the last
(R434, R435); the time of its last appended message (R437); an armed fault (R440); and whether its override is to end at the next latch (R432). -/
structure CuUnit where
  pred : Option Nat := none
  repeats : Nat := 0
  after : Option Nat := none
  idle : Bool := false
  staging : List Nat := []
  firstWord : Nat := 0
  lastWord : Nat := 0
  lastAppend : Nat := 0
  inject : Nat := 0
  restoring : Bool := false
  deriving DecidableEq, Repr


/-! ## LDP (R543 to R567) -/

/-- A transaction accepted and not answered (R547): OP, TID, SEQ, MORE and body of its request, the whole message of a CONFIRM, and, once it has started
and does not complete at once, the object whose write it waits for (0 for a COMMIT). -/
structure LdpTxn where
  op : Nat
  tid : Nat
  seq : Nat
  more : Bool
  body : List (BitVec 8)
  raw : List (BitVec 8) := []
  waits : Option Nat := none
  deriving DecidableEq, Repr

/-- A staging buffer (R550): the object, the type named, the bytes staged and the time of the last part. -/
structure Staging where
  addr : Nat
  type : Nat
  bytes : List (BitVec 8)
  lastAt : Nat
  deriving DecidableEq, Repr

/-- A subscription (R553): its identifier, channel, object, MODE, INTERVAL_MS, and the time and value of its last notification. -/
structure Subscription where
  id : Nat
  channel : Nat
  addr : Nat
  mode : Nat
  interval : Nat
  last : Nat
  value : Nat
  deriving DecidableEq, Repr

/-- A session slot in use (R557 to R562): its SESSION, transport (0 UDP, 1 CAN FD), MAC or controller, IP address and port, credential, nonces, key, the
time of its last accepted request, the highest client SEQ accepted and those accepted below it, its next SEQ, its last 96 responses (SEQ, OP and TID
of the request, and the message), and when its last AUTH_FAIL record was written. -/
structure Session where
  number : Nat
  transport : Nat
  unit : Nat
  ip : Nat
  udpPort : Nat
  cred : Nat
  nonceC : List (BitVec 8)
  nonceD : List (BitVec 8)
  key : Nat
  since : Nat
  high : Nat := 0
  seen : List Nat := []
  nextSeq : Nat := 1
  sent : List (Nat × Nat × Nat × List (BitVec 8)) := []
  failAt : Option Nat := none
  deriving DecidableEq, Repr

/-- An OPEN that has arrived and is not answered (R558): its transport and source, TID and body. -/
structure OpenAsk where
  transport : Nat
  unit : Nat
  ip : Nat
  udpPort : Nat
  tid : Nat
  body : List (BitVec 8)
  deriving DecidableEq, Repr

/-- A segmented message that arrives over CAN FD (R565): total length, bytes so far, counter expected, and time of the last frame. -/
structure CanRx where
  total : Nat
  bytes : List (BitVec 8)
  next : Nat
  lastAt : Nat
  deriving DecidableEq, Repr

/-- LDP: session slots, transactions by channel in the order of arrival (channel: session slot, or 8 + window), staging buffers by channel,
subscriptions, authentication failures of the last 60 s and lockouts by credential, a segmented message, and OPENs that wait, oldest first. -/
structure Ldp where
  sessions : Tab Session := []
  lastNumber : Nat := 0
  txns : List (Nat × LdpTxn) := []
  staging : Tab Staging := []
  subs : List Subscription := []
  lastSub : Nat := 0
  fails : Tab (List Nat) := []
  locked : Tab Nat := []
  can : Option CanRx := none
  opens : List OpenAsk := []
  /-- Secrets that Bittern holds, by credential (R555). -/
  secrets : Tab Nat := []
  /-- Blobs that wait for Bittern, oldest first: requester, credential and value (R409, R556). -/
  blobs : List (Requester × Nat × Nat) := []
  deriving DecidableEq, Repr

/-! ## Clocks and gates (R573 to R592) -/

/-- A switch of a multiplexer in progress (R584): old and new input, when it began, whether SWITCH_STUCK has been written, and who wrote it. -/
structure MuxSwitch where
  old : Nat
  new : Nat
  since : Nat
  stuck : Bool := false
  who : Requester
  deriving DecidableEq, Repr

/-- The clock tree beyond its objects: whether the ROM counts the crystal; switches; multiplexers whose blocks a FORCE_SEL holds in reset; consecutive
windows of each monitor outside ±5 % and below 1 %; writers of closes and of domain requests in progress. -/
structure ClockState where
  counting : Bool := false
  switches : Tab MuxSwitch := []
  held : List Nat := []
  runs : Tab (Nat × Nat) := []
  closing : List (Nat × Requester) := []
  domains : List (Nat × Requester) := []
  deriving DecidableEq, Repr


/-! ## The whole state -/

/-- The state of the Ixand. -/
structure State where
  /-- The dictionary objects that do not hold their default, by address, rising (R530, R538). -/
  objs : List (Nat × Nat) := []
  clock : Clock := {}
  dueSlots : List DueSlot := []
  log : Log := {}
  io : List IoEvent := []
  /-- How many free values have been drawn (log entry 1). -/
  freeDrawn : Nat := 0
  /-- The order of acceptances and colour writes (R171, R187). -/
  order : Nat := 0
  items : List Item := []
  nextItem : Nat := 0
  insts : Tab Inst := []
  guards : List Guard := []
  outs : Tab Output := []
  /-- The layer shadows: position 16 × k + z, the descriptor and the submitter's owner code (R143). -/
  shadow : Tab (BitVec 512 × Nat) := []
  /-- The active copies of shadowed colour objects that differ from their default, by address (R171). -/
  colourActive : List (Nat × Nat) := []
  /-- The 3D LUT banks: 1,024 × output + 512 × bank + block (R166). -/
  lutBanks : Tab Nat := []
  /-- Dailies has tested Bittern-region slices since Bittern last checked its substitute images (R128). -/
  substUnchecked : Bool := false
  grip : Grip := {}
  jobs : List Job := []
  /-- Bytes written in device DRAM (by device DRAM address, R350) and in the Reel (from 2³⁷, by slice), by address, rising. -/
  mem : List Host.Cell := []
  memConf : MemConf := {}
  dram : Dram := {}
  /-- Key slots, by number (R380, R381). -/
  keys : Tab KeySlot := []
  raster : Raster := {}
  ports : Tab Port := []
  /-- Tally counts by group × 4,096 + kind of event (log entry 8), and the overflow bits set, by group × 64 + counter (R649). -/
  tally : Tab Nat := []
  tallyOvf : List Nat := []
  /-- Refusals with OWNER_LOCKED of the last millisecond (R401). -/
  refusals : List Refused := []
  mailboxes : Tab Mailbox := []
  boot : Boot := {}
  flash : Flash := {}
  power : Power := {}
  dailies : Dailies := {}
  haps : Tab Hap := []
  foley : Foley := {}
  fronts : Tab FrontEnd := []
  keyBank : KeyBank := {}
  cus : Tab CuUnit := []
  ldp : Ldp := {}
  clocks : ClockState := {}
  /-- The commands that wait, first in, first out. -/
  pending : List Instr := []
  deriving DecidableEq, Repr

/-- The record of strict commit mode that a power-on reset begins with (R200): every output, cause RESET (log entry 38). -/
def resetStrict : LogRecord := ⟨0x2406, 1, false, 0xC2, {}, 0, 0xFFF + 2 ^ 32 * (Config.caseCode 0x2406 0).val⟩

/-- The machine right after power-on reset, with straps of zeros (R28, R538, R609, R615 step 1): every object at its default, nothing listed in
memory, no item, no session, the position and device time at zero, Sprocket coasting (R617), Bittern in its ROM; RST_LAST_CAUSE is POWER_ON, and the
entry to strict commit mode stands in the log (R200). -/
def State.reset : State :=
  { objs := [(0x780002, 1)], log := { fifo := [resetStrict], mirror := [resetStrict] }, tally := [(30726, 1)] }

end Sys2Proof.Machine
end

