-- ==== Sys2Proof/Machine/Ops.lean ====
section
/-! DEFINITION. The named operations over the state that every meaning uses: tables, dictionary objects, the Script Log, output events,
free values, positions and device time. -/
namespace Sys2Proof.Machine

/-! ## Keyed tables -/

/-- The entry of a key, or the default. -/
def Tab.get {α : Type} (d : α) : Tab α → Nat → α
  | [], _ => d
  | (k', v) :: t, k => if k = k' then v else Tab.get d t k

/-- The table with a key set; keys stay rising when they were. -/
def Tab.set {α : Type} : Tab α → Nat → α → Tab α
  | [], k, v => [(k, v)]
  | (k', v') :: t, k, v =>
    if k < k' then (k, v) :: (k', v') :: t
    else if k = k' then (k, v) :: t
    else (k', v') :: Tab.set t k v

/-- The table without a key. -/
def Tab.drop {α : Type} (t : Tab α) (k : Nat) : Tab α := t.filter (fun e => !decide (e.1 = k))

/-- Are the keys of a table strictly rising? -/
def Tab.rising {α : Type} : Tab α → Bool
  | [] => true
  | [_] => true
  | (k, _) :: (k', v') :: t => decide (k < k') && Tab.rising ((k', v') :: t)

/-! ## Dictionary objects (R530, R538) -/

/-- The identity degamma and regamma tables: entry i is i × 16 + (i >> 8); `first` is the first entry of the half (after R175). -/
def identityTable (first : Nat) : Nat :=
  packItems 2 ((List.range 2048).map (fun i => (first + i) * 16 + ((first + i) >>> 8)))

/-- The identity layer matrix: 1.0 in 16.16 fixed point on the diagonal, zero offsets (R163, R175). -/
def identityMatrix : Nat := packItems 4 [65536, 0, 0, 0, 65536, 0, 0, 0, 65536, 0, 0, 0]

/-- Node n of one axis of the identity 3D LUT (after R175). -/
def identityNode (n : Nat) : Nat := if n = 32 then 16383 else 512 * n

/-- One 64-bit entry of the identity 3D LUT (R165). -/
def identityLutEntry (i : Nat) : Nat :=
  identityNode (i % 33) + identityNode (i / 33 % 33) * 2 ^ 16 + identityNode (i / 1089) * 2 ^ 32

/-- Block j (from 1) of the identity 3D LUT: entries 512 × (j − 1) onwards, 35,937 in all (R165, R175). -/
def identityLutBlock (j : Nat) : Nat :=
  packItems 8 ((List.range 512).map (fun i => if 512 * (j - 1) + i < 35937 then identityLutEntry (512 * (j - 1) + i) else 0))

/-- Rail nominal target of SUP_TARGET_MV, by rail (R602, R603: VDD_RAS starts at 0.90 V, log entry 36). -/
def nominalMv (rail : Nat) : Nat := [750, 900, 800, 750, 800, 1050, 900, 500, 850, 1200, 1800, 3300].getD rail 0

/-- The assignment table before the ROM writes it: the fixed owners with their FIXED bits, and MB0 and MB1 (R393 to R395). -/
def fixedTable : Nat :=
  let at_ := fun (i e : Nat) => e * 2 ^ (8 * i)
  ([0x2B, 0x2C, 0x90, 0x91, 0x100, 0x101] ++ (List.range 14).map (fun i => 0x60 + i)).foldl (fun (t : Nat) i => t + at_ i 3)
    (at_ 0x92 2 + at_ 0x78 0x09 + at_ 0x79 0x06)

/-- The Default column of an address's row. -/
def rowDefault (addr : Nat) : Nat :=
  match rowAt addr with
  | some r => r.default
  | none => 0

/-- The default of an address: the Default column of its row, and where that column names a rule, the value of the rule. -/
def defaultOf (addr : Nat) : Nat :=
  let index := addr / 256
  let sub := addr % 256
  if index / 256 = 0x2D ∧ sub = 1 then identityTable 0
  else if index / 256 = 0x2D ∧ sub = 2 then identityTable 2048
  else if index / 256 = 0x2D ∧ sub = 3 then identityMatrix
  else if index / 16 = 0x2E0 ∧ sub = 6 then identityTable 0
  else if index / 16 = 0x2E0 ∧ sub = 7 then identityTable 2048
  else if index / 16 = 0x2F0 then identityLutBlock sub
  else if index = 0x2500 then sub - 1
  else if addr = 0x810001 then fixedTable
  else if 0x2516 ≤ index ∧ index < 0x251A then (match sub with | 1 => 2 | 4 => 4500 | _ => rowDefault addr)
  else if 0x251A ≤ index ∧ index < 0x251E then (match sub with | 1 => 4 | 3 => 1 | 4 => 5 | _ => rowDefault addr)
  else if index / 16 = 0x740 ∧ sub = 1 then nominalMv (index - 0x7400)
  else rowDefault addr

/-- The value of an address in a list of values that differ from their default. -/
def Objs.get : List (Nat × Nat) → Nat → Nat
  | [], a => defaultOf a
  | (a', v) :: l, a => if a = a' then v else Objs.get l a

/-- The list with an address set; a value equal to the default is not listed, so that equal contents are equal lists. -/
def Objs.set (l : List (Nat × Nat)) (a v : Nat) : List (Nat × Nat) :=
  if v = defaultOf a then Tab.drop l a else Tab.set l a v

/-- The canonical form of a list of objects: rising addresses, and no entry equal to its default. -/
def Objs.wf (l : List (Nat × Nat)) : Bool := Tab.rising l && l.all (fun e => !decide (e.2 = defaultOf e.1))

/-- The value in force of a dictionary object. -/
def State.rd (s : State) (a : Nat) : Nat := Objs.get s.objs a

/-- The state with a dictionary object set. -/
def State.wr (s : State) (a v : Nat) : State := { s with objs := Objs.set s.objs a v }

/-- The state with one bit of an object set. -/
def State.wrBit (s : State) (a i : Nat) (b : Bool) : State := s.wr a (setBit (s.rd a) i b)

/-- A 32-bit counter object one further, wrapping. -/
def State.count (s : State) (a : Nat) : State := s.wr a (wrapAdd 32 (s.rd a) 1)

/-! ## Output events and free values -/

/-- The state with an event sent out. -/
def State.emit (s : State) (e : IoEvent) : State := { s with io := e :: s.io }

/-- The state with a status answered. -/
def State.answer (s : State) (who : Requester) (code : Nat) : State := s.emit (.status who code)

/-- A fresh free value (log entry 1) and the state that has drawn it. -/
def State.fresh (s : State) : Nat × State := (Config.freeValue s.freeDrawn, { s with freeDrawn := s.freeDrawn + 1 })

/-- The next place in the order of acceptances (R171, R187). -/
def State.nextOrder (s : State) : Nat × State := (s.order, { s with order := s.order + 1 })

/-! ## Positions and time (R17, R18, R30) -/

/-- The 64-bit form of a position (R17). -/
def Spos.pack (p : Spos) : Nat := p.frame.toNat * 2 ^ 32 + p.line.toNat * 2 ^ 16 + p.frac.toNat

/-- The position of a 64-bit form (R17). -/
def Spos.ofNat (v : Nat) : Spos :=
  ⟨BitVec.ofNat 32 (v / 2 ^ 32), BitVec.ofNat 16 (v / 2 ^ 16), BitVec.ofNat 16 v⟩

/-- Is a earlier than b (R18)? -/
def Spos.earlier (a b : Spos) : Bool :=
  if a.frame = b.frame then
    decide (a.line.toNat < b.line.toNat) || (decide (a.line = b.line) && decide (a.frac.toNat < b.frac.toNat))
  else
    let d := (b.frame - a.frame).toNat
    decide (1 ≤ d) && decide (d ≤ 2 ^ 31 - 1)

/-- Is the position 2³¹ frames or more ahead of another (R48)? -/
def Spos.farAhead (p now : Spos) : Bool := !p.earlier now && decide (2 ^ 31 ≤ (p.frame - now.frame).toNat)

/-- The current Sprocket position. -/
def State.now (s : State) : Spos := s.clock.pos

/-- The current device time (R30: a 64-bit count). -/
def State.dtime (s : State) : Nat := s.clock.dtime

/-! ## Owner codes (R66, R630) -/

end Sys2Proof.Machine

namespace Sys2Proof

/-- The owner code of an owner. -/
def Owner.code : Owner → Nat
  | .guest i => i.val
  | .manager => 0x40
  | .gaffer => 0xC0
  | .bittern => 0xC1

/-- The owner code of a requester; a field session concerns no owner. -/
def Requester.code : Requester → Nat
  | .guest i => i.val
  | .manager => 0x40
  | .gaffer => 0xC0
  | .bittern => 0xC1
  | .field _ => 0xC2

/-- The owner code of a window. -/
def Window.code : Window → Nat
  | .guest i => i.val
  | .manager => 0x40

end Sys2Proof

namespace Sys2Proof.Machine

/-- The owner code of records that concern no owner (R630). -/
def noOwner : Nat := 0xC2

/-! ## The Script Log (R629 to R633) -/

/-- One item of a DETAIL column (R631): its width in bytes and its value. -/
structure Detail where
  bytes : Nat
  value : Nat
  deriving DecidableEq, Repr

/-- A U8 item (R631). -/
def d8 (v : Nat) : Detail := ⟨1, v⟩
/-- A U16 item (R631). -/
def d16 (v : Nat) : Detail := ⟨2, v⟩
/-- A U32 item (R631). -/
def d32 (v : Nat) : Detail := ⟨4, v⟩
/-- A U64 item (R631). -/
def d64 (v : Nat) : Detail := ⟨8, v⟩
/-- A flag item (R631: U8). -/
def dFlag (b : Bool) : Detail := ⟨1, ofBool b⟩

/-- A case of a list that the manual names and does not number, in the record of an event (log entry 38). -/
def dCase (event place : Nat) : Detail := d8 (Config.caseCode event place).val

/-- DETAIL: the items in order, packed from byte 0; items that do not fit in 12 bytes are left out (R631). -/
def packDetail : Nat → List Detail → Nat
  | _, [] => 0
  | at_, d :: ds =>
    if at_ + d.bytes ≤ 12 then
      (d.value % 2 ^ (8 * d.bytes)) * 2 ^ (8 * at_) + packDetail (at_ + d.bytes) ds
    else packDetail at_ ds

/-- A record enters the FIFO, and with that the mirror, or is lost when the FIFO holds 256 (R633, steps 1, 2 and 5). -/
def Log.enter (l : Log) (r : LogRecord) : Log × Bool :=
  if l.fifo.length < 256 then
    ({ l with fifo := l.fifo ++ [r], mirror := (r :: l.mirror).take 64 }, true)
  else ({ l with lostPending := l.lostPending + 1 }, false)

/-- The state with a record of given stamps entered in the log; a lost record raises LOG_LOST (R633). -/
def State.logRaw (s : State) (code source : Nat) (injected : Bool) (pos : Spos) (time : Nat) (ds : List Detail) : State :=
  let r : LogRecord := ⟨code, severityOf code, injected, source, pos, time, packDetail 0 ds⟩
  match s.log.enter r with
  | (l, true) => { s with log := l }
  | (l, false) => { s with log := l }.count Obj.LOG_LOST

/-! ## Tally (R649 to R651) -/

/-- Does an event of an owner pass a group's filter (R651)? The unit and window criteria apply to no event here (log entry 8). -/
def State.tallyPasses (s : State) (g kind owner : Nat) : Bool :=
  let f := s.rd (Obj.TALLY_FILTER g)
  let world := field f 1 0
  let inst := field f 23 16
  let mask := field f 27 24
  let bittern := decide (owner = 0xC1)
  (if world = 1 then !bittern
   else if world = 2 then bittern
   else !bittern || decide (s.rd Obj.TALLY_BITTERN_VISIBLE = 1))
    && (decide (inst = 0xFF) || decide (owner = noOwner) || decide (inst = owner))
    && (decide (mask = 0xF) || bit mask (Config.tallyClass g kind % 4))

/-- The counter of a kind wraps: zero, its overflow bit, and the record (R649). -/
def State.tallyWrap (s : State) (g kind c : Nat) : State :=
  let s := { s with tally := Tab.set s.tally (4096 * g + kind) 0, tallyOvf := (64 * g + c) :: s.tallyOvf.filter (fun x => !decide (x = 64 * g + c)) }
  s.logRaw Ev.tallyWrap noOwner false s.now s.dtime [d8 g, d8 c]

/-- Tally counts an event of a group (R649, R650). -/
def State.tallyCount (s : State) (g kind owner : Nat) : State :=
  if s.tallyPasses g kind owner then
    let v := Tab.get 0 s.tally (4096 * g + kind) + 1
    if v = 2 ^ 48 then s.tallyWrap g kind (Config.tallyCounter g kind)
    else { s with tally := Tab.set s.tally (4096 * g + kind) v }
  else s

/-- The Tally group that counts the events of a block that has a record for them, by the high byte of the code (R631, R650; log entry 8). -/
def tallyGroupOf (code : Nat) : Option Nat :=
  match code / 256 with
  | 0x10 => some 0
  | 0x4C => some 1
  | 0x2A => some 3
  | 0x2C => some 4
  | 0x24 => some 7
  | 0x25 => some 9
  | 0x30 => some 16
  | 0x12 => some 17
  | 0x40 => some 26
  | 0x20 => some 27
  | 0x21 => some 28
  | 0x82 => some 29
  | 0x50 => some 30
  | 0x52 => some 31
  | 0x60 => some 32
  | 0x8E => some 33
  | 0x70 => some 34
  | 0x90 => some 35
  | 0x78 => some 36
  | 0x80 => some 37
  | 0x22 => some 39
  | _ => none

/-- An event that a record reports is counted: kind 0x800 + the low byte of its code (log entry 8). -/
def State.tallyRecord (s : State) (code source : Nat) : State :=
  match tallyGroupOf code with
  | some g => s.tallyCount g (0x800 + code % 256) source
  | none => s

/-- The state with a record of given stamps entered in the log, and the event counted. -/
def State.logAt (s : State) (code source : Nat) (injected : Bool) (pos : Spos) (time : Nat) (ds : List Detail) : State :=
  (s.logRaw code source injected pos time ds).tallyRecord code source

/-- The state with a record of this moment entered in the log (R35: both stamps of one tick). -/
def State.logEvent (s : State) (code source : Nat) (ds : List Detail) : State :=
  s.logAt code source false s.now s.dtime ds

/-- As `logEvent`, with the INJECTED mark (R638). -/
def State.logInjected (s : State) (code source : Nat) (injected : Bool) (ds : List Detail) : State :=
  s.logAt code source injected s.now s.dtime ds

/-! ## Injection (R636 to R638) -/

/-- An armed injection point d fires for a unit: its parameter, and the state with the point counted, logged and, for ONCE, off. -/
def State.inject (s : State) (d target : Nat) : Option Nat × State :=
  let arm := s.rd (Obj.INJ_ARM d)
  if s.rd Obj.INJ_ENABLE = 1 ∧ arm ≠ 0 ∧ s.rd (Obj.INJ_TARGET d) = target then
    let p := s.rd (Obj.INJ_PARAM d)
    let s := (s.count (Obj.INJ_FIRED d)).count Obj.INJ_TOTAL
    let s := if arm = 1 then s.wr (Obj.INJ_ARM d) 0 else s
    (some p, s.logInjected Ev.injFired noOwner true [d8 d, d32 target, d32 p])
  else (none, s)

/-- Does an injection of a point escalate (R638)? -/
def State.escalates (s : State) (d : Nat) : Bool := decide (s.rd (Obj.INJ_ESCALATE d) = 1)

/-! ## Answers -/

/-- The next state as the outcome of a command. -/
abbrev Out := Host.Outcome State Fault Refusal

/-- A loop over a list that threads the state. -/
def State.each {α : Type} (s : State) : List α → (State → α → State) → State
  | [], _ => s
  | x :: xs, f => State.each (f s x) xs f

/-- The state changed when a condition holds. -/
def State.whenB (s : State) (b : Bool) (f : State → State) : State := if b then f s else s

end Sys2Proof.Machine
end

