-- ==== Sys2Proof/Machine/ClockTree.lean ====
section
/-! DEFINITION. The clock tree and the power domains of gates (R577, R583, R588, R592), and the PROTECTED bits that follow from them (R394, R397). -/
namespace Sys2Proof.Machine

/-- What feeds a gate or a multiplexer: the RC oscillator, a PLL, a multiplexer or a gate. -/
inductive ClockSource where
  | rc
  | pll (n : Nat)
  | mux (x : Nat)
  | gate (g : Nat)
  deriving DecidableEq, Repr

/-- The parent of a gate (R588). -/
def gateParent (g : Nat) : ClockSource :=
  if g = 0 then .mux 2
  else if g = 1 then .gate 0
  else if g = 2 then .rc
  else if g = 3 then .mux 1
  else if g = 4 then .mux 0
  else if g = 5 then .gate 4
  else if g = 6 then .pll 9
  else if g = 7 then .mux 3
  else if g ≤ 13 then .gate 7
  else if g ≤ 37 then .gate (8 + (g - 14) / 4)
  else if g = 38 then .gate 4
  else if g ≤ 50 then .gate 38
  else if g ≤ 53 then .pll (5 + (g - 51))
  else if g ≤ 65 then .mux (7 + (g - 54))
  else if g = 66 then .gate 4
  else if g ≤ 68 then .mux (4 + (g - 67))
  else if g ≤ 76 then .gate (67 + (g - 69) / 4)
  else if g ≤ 85 then .gate 4
  else if g = 86 then .mux 6
  else if g ≤ 103 then .gate 86
  else if g ≤ 111 then .gate 4
  else if g ≤ 119 then .gate 1
  else .rc

/-- The power domain of a gate (R588), numbered as in R393. -/
def gateDomain (g : Nat) : Nat :=
  if g ≤ 1 then 1
  else if g = 2 then 0
  else if g ≤ 6 then 2
  else if g = 7 then 3
  else if g ≤ 13 then 3 + (g - 8)
  else if g ≤ 37 then 3 + (g - 14) / 4
  else if g ≤ 50 then 9
  else if g ≤ 65 then 10
  else if g = 66 then 11
  else if g ≤ 76 then 12
  else if g ≤ 82 then 13
  else if g ≤ 85 then 14
  else if g ≤ 103 then 15
  else if g ≤ 111 then 16
  else 1

/-- Gates that exist: 120 to 127 are reserved. -/
def gates : List Nat := List.range 120

/-- The gate that a multiplexer feeds (R583). -/
def muxGate (x : Nat) : Nat :=
  match x with
  | 0 => 4
  | 1 => 3
  | 2 => 0
  | 3 => 7
  | 4 => 67
  | 5 => 68
  | 6 => 86
  | _ => 54 + (x - 7)

/-- Input i of a multiplexer (R583), if it has one. -/
def muxInput (x i : Nat) : Option ClockSource :=
  if 7 ≤ x then (if i < 3 then some (.pll (5 + i)) else none)
  else if i = 0 then some .rc
  else if i = 1 then some (.pll (match x with | 0 => 0 | 1 => 1 | 2 => 0 | 3 => 2 | 4 => 3 | 5 => 4 | _ => 8))
  else none

/-- The gates above a gate, the nearest first (R588); four are the most there are. -/
def gateAncestors (g : Nat) : Nat → List Nat
  | 0 => []
  | n + 1 => match gateParent g with
    | .gate p => p :: gateAncestors p n
    | _ => []

/-- A gate with every gate below it. -/
def gateBelow (g : Nat) : List Nat := gates.filter (fun x => decide (x = g) || (gateAncestors x 4).contains g)

/-- The resources of the assignment table that a gate clocks, where R588 names them (log entry 34). -/
def gateResources (g : Nat) : List Nat :=
  if 81 ≤ g ∧ g ≤ 82 then [0x16 + (g - 81)]
  else if 83 ≤ g ∧ g ≤ 85 then [0x28 + (g - 83)]
  else if 87 ≤ g ∧ g ≤ 94 then [0x18 + (g - 87)]
  else if 95 ≤ g ∧ g ≤ 102 then [0x20 + (g - 95)]
  else if 104 ≤ g ∧ g ≤ 111 then [0x70 + (g - 104)]
  else if 112 ≤ g ∧ g ≤ 115 then [g - 112]
  else if g = 116 then [4, 5, 6, 7, 8]
  else if g = 117 then [9, 10, 11, 12, 13]
  else if g = 118 then [0x0E, 0x0F, 0x10, 0x11]
  else if g = 119 then [0x12, 0x13, 0x14, 0x15]
  else []

/-- Is an entry's OWNER BITTERN? -/
def ownedIn (table i : Nat) : Bool := bit (byteAt table i) 0

/-- Does a gate lie above a BITTERN gate or clock a BITTERN resource (R394)? -/
def gateProtects (table g : Nat) : Bool := (gateBelow g).any (fun x => ownedIn table (0x100 + x) || (gateResources x).any (ownedIn table))

/-- Does a domain hold a BITTERN gate or resource (R394)? -/
def domainProtects (table d : Nat) : Bool :=
  gates.any (fun g => decide (gateDomain g = d) && (ownedIn table (0x100 + g) || (gateResources g).any (ownedIn table)))

/-- Entries that hold an owner: all but mailboxes, the watermark and REEL_BITTERN_SLICES (R394). -/
def ownerEntries : List Nat :=
  List.range 0x2D ++ (List.range 0x20).map (fun i => 0x40 + i) ++ (List.range 0x18).map (fun i => 0x60 + i)
    ++ (List.range 17).map (fun i => 0x90 + i) ++ (List.range 120).map (fun i => 0x100 + i) ++ (List.range 256).map (fun i => 0x200 + i)

/-- The table with every PROTECTED bit computed (R397). -/
def withProtected (table : Nat) : Nat :=
  ownerEntries.foldl (fun (t : Nat) i =>
    let p := ownedIn table i
      || (Nat.ble 0x100 i && Nat.blt i 0x178 && gateProtects table (i - 0x100))
      || (Nat.ble 0x90 i && Nat.ble i 0xA0 && domainProtects table (i - 0x90))
    if p then setBytes t i 1 (byteAt t i ||| 4) else t) table

/-- The gates below a multiplexer. -/
def muxBelow (x : Nat) : List Nat := gateBelow (muxGate x)

/-- The multiplexers that a PLL can feed (R583). -/
def pllMuxes (n : Nat) : List Nat := (List.range 19).filter (fun x => [0, 1, 2].any (fun i => decide (muxInput x i = some (.pll n))))

/-- The gates below a PLL. -/
def pllBelow (n : Nat) : List Nat :=
  (pllMuxes n).flatMap muxBelow ++ (gates.filter (fun g => decide (gateParent g = .pll n))).flatMap gateBelow

end Sys2Proof.Machine
end

