-- ==== Sys2Proof/Machine/Operands.lean ====
section
/-! DEFINITION. Requests and their operands: who asks, what the requester may do, how a value is coded, and the order in which a request is
checked (R41, R393 to R401, R530 to R537, and the access paragraphs before each chapter's object table). -/
namespace Sys2Proof.Machine

/-! ## The assignment table (R393, R394) -/

/-- Is a resource of the assignment table owned by Bittern? -/
def State.bitternRes (s : State) (i : Nat) : Bool := bit (byteAt (s.rd Obj.BIT_ASSIGN_TABLE) i) 0

/-- Is it Bittern's, or an ancestor of a resource that is (PROTECTED)? -/
def State.protectedRes (s : State) (i : Nat) : Bool :=
  s.bitternRes i || bit (byteAt (s.rd Obj.BIT_ASSIGN_TABLE) i) 2

/-- A mailbox entry (R395). -/
def State.mbEntry (s : State) (m : Nat) : Nat := byteAt (s.rd Obj.BIT_ASSIGN_TABLE) (0x78 + m)

/-- Is a mailbox Bittern-owned: BITTERN at either end (R395)? -/
def State.mbBittern (s : State) (m : Nat) : Bool :=
  decide (field (s.mbEntry m) 1 0 = 2) || decide (field (s.mbEntry m) 3 2 = 2)

/-! ## Requesters (R534, R535) -/

/-- Is a requester of the normal world (R399)? -/
def requesterNormal : Sys2Proof.Requester → Bool
  | .bittern => false
  | _ => true

/-- The ROLE of a field session's credential (R535); other requesters have none. -/
def State.roleOf (s : State) : Sys2Proof.Requester → Nat
  | .field n => s.rd (Obj.CRED_ROLE (s.rd (Obj.SESS_CRED n.val)))
  | _ => 0

/-- The right a row gives a class. -/
def Rights.of (r : Rights) : Sys2Proof.Requester → Right
  | .bittern => r.bittern
  | .gaffer => r.gaffer
  | .manager => r.manager
  | .guest _ => r.guest
  | .field _ => r.field

/-- Every class reads and none writes. -/
def Rights.allRo : Rights := ⟨.ro, .ro, .ro, .ro, .ro⟩

/-- The rights of a Bittern-owned unit: BITTERN holds the GAFFER rights, every other class reads. -/
def Rights.toBittern (r : Rights) : Rights := ⟨r.gaffer, .ro, .ro, .ro, .ro⟩

/-- Injection points of resources fixed to Bittern: its SRAM, key store, lockstep and watchdog (R637, R640; log entry 10). -/
def bitternPoint (d : Nat) : Bool := Nat.ble 9 d && Nat.ble d 12

/-- The assignment-table index of the resource an object belongs to, where the table lists it (R393). -/
def resourceOf (addr : Nat) : Option Nat :=
  let x := addr / 256
  if 0x8210 ≤ x ∧ x < 0x8230 then some (0x40 + (x - 0x8210))
  else if 0x8230 ≤ x ∧ x < 0x8250 then some (0x40 + (x - 0x8230))
  else if 0x2D00 ≤ x ∧ x < 0x2DC0 ∧ x % 16 = 15 then some (0x60 + (x - 0x2D00) / 16)
  else if 0x5100 ≤ x ∧ x < 0x5170 ∧ x % 16 < 2 then some (0x28 + x % 16)
  else if 0x5180 ≤ x ∧ x ≤ 0x5182 then some 0x2A
  else if 0x6010 ≤ x ∧ x < 0x6018 then some (0x18 + (x - 0x6010))
  else if 0x6020 ≤ x ∧ x < 0x6028 then some (0x20 + (x - 0x6020))
  else if x = 0x620E ∨ addr = 0xB0050F then some 0x6C
  else if x = 0x620F ∨ addr = 0xB00510 then some 0x6D
  else if 0x7100 ≤ x ∧ x < 0x7180 then some (0x100 + (x - 0x7100))
  else if 0x7180 ≤ x ∧ x < 0x7191 then some (0x90 + (x - 0x7180))
  else none

/-- Is a PLL or multiplexer an ancestor of a BITTERN or PROTECTED gate, and so refused to the normal world (R588)? -/
def State.clockBittern (s : State) (addr : Nat) : Bool :=
  let x := addr / 256
  let held := fun g => s.protectedRes (0x100 + g)
  if 0x71A0 ≤ x ∧ x < 0x71B3 then (muxBelow (x - 0x71A0)).any held
  else if 0x7010 ≤ x ∧ x < 0x701A then (pllBelow (x - 0x7010)).any held
  else false

/-- Is a gate, domain or multiplexer itself Bittern's, so that Bittern holds Gaffer's rights at it (R606)? -/
def State.clockOwned (s : State) (addr : Nat) : Bool :=
  let x := addr / 256
  if 0x7100 ≤ x ∧ x < 0x7180 then s.bitternRes (0x100 + (x - 0x7100))
  else if 0x7180 ≤ x ∧ x < 0x7191 then s.bitternRes (0x90 + (x - 0x7180))
  else if 0x71A0 ≤ x ∧ x < 0x71B3 then s.bitternRes (0x100 + muxGate (x - 0x71A0))
  else false

/-- Does an object belong to a Bittern-owned or PROTECTED resource (R41, R393, R399, R588, R637)? -/
def State.bitternOwns (s : State) (addr : Nat) : Bool :=
  let x := addr / 256
  if 0x22E0 ≤ x ∧ x < 0x2300 then true
  else if 0x613C ≤ x ∧ x < 0x6140 then true
  else if 0x9110 ≤ x ∧ x < 0x912F then bitternPoint (x - 0x9110)
  else if s.clockBittern addr then true
  else match resourceOf addr with
    | some i => s.protectedRes i
    | none => false

/-- The rights at an object as its chapter's access paragraph states them for the unit's owner. -/
def State.rightsAt (s : State) (r : ObjRow) (addr : Nat) : Rights :=
  let x := addr / 256
  if 0x8210 ≤ x ∧ x < 0x8250 then
    if s.bitternOwns addr then r.rights else { r.rights with gaffer := r.rights.bittern, bittern := .ro }
  else if 0x613C ≤ x ∧ x < 0x6140 then Rights.allRo
  else if 0x2D00 ≤ x ∧ x < 0x2DC0 ∧ x % 16 = 15 then ⟨.rw, .ro, .ro, .ro, .ro⟩
  else if 0x7000 ≤ x ∧ x < 0x71C0 then (if s.clockOwned addr then r.rights.toBittern else r.rights)
  else if s.bitternOwns addr then r.rights.toBittern
  else r.rights

/-- A right a chapter narrows to the requester's own entries or to a role: an instance's tolerance, streams and buses; field writes of
credentials and fuses with PRODUCTION only; READ_ONLY sessions (R527, R535, R570, R606). -/
def State.narrow (s : State) (rq : Sys2Proof.Requester) (addr : Nat) (r : Right) : Right :=
  let x := addr / 256
  match rq with
  | .guest i =>
    if 0x7300 ≤ x ∧ x < 0x7340 then (if x = 0x7300 + i.val then r else .ro)
    else if 0x6100 ≤ x ∧ x < 0x6140 then (if s.rd (Obj.AUD_STREAM_OWNER (x - 0x6100)) = i.val then r else .ro)
    else if 0x6200 ≤ x ∧ x < 0x6210 then (if s.rd (Obj.AUD_BUS_READER (x - 0x6200)) = i.val then r else .ro)
    else r
  | .field n =>
    let role := s.roleOf (.field n)
    if role = 1 then .ro
    else if (0x8D00 ≤ x ∧ x < 0x8D08) ∨ x = 0xF000 then
      (if role = 3 then (if x = 0xF000 ∧ r = .ro then .ro else r) else .ro)
    else r
  | _ => r

/-! ## The order of checks (R536) -/

/-- Does any object lie at an index (R530)? -/
def indexUsed (x : Nat) : Bool := (rowsOf x).any (fun r => Nat.ble r.index x && Nat.blt x (r.index + r.count))

/-- The highest subindex in use at an index (R530). -/
def highestSub (x : Nat) : Nat :=
  maxNat ((rowsOf x).filterMap
    (fun r => if r.index ≤ x ∧ x < r.index + r.count then some (r.sub + r.subCount - 1) else none))

/-- The length in bytes of an object: of its row, and 776 for the last 3D LUT block (R165). -/
def objLength (r : ObjRow) (addr : Nat) : Nat :=
  if r.index = 0x2F00 ∧ r.sub = 1 ∧ addr % 256 = 0x47 then 776 else r.len

/-- Does a value pass the stated range of an object (R532)? -/
def Accepts.holds (ty : ObjType) (a : Accepts) (v : Nat) : Bool :=
  match a with
  | .any => true
  | .range lo hi => Nat.ble lo v && Nat.ble v hi
  | .srange lo hi =>
    let w := match ty with
      | .s8 => 8
      | .s16 => 16
      | .s32 => 32
      | _ => 64
    decide (lo ≤ toSigned w v) && decide (toSigned w v ≤ hi)
  | .oneOf vs => vs.contains v
  | .bits _ _ => true

/-- Step 7's encoding check: BOOL, ENUM8 (R532). -/
def encodingOk (r : ObjRow) (v : Nat) : Bool :=
  match r.ty with
  | .bool => Nat.blt v 2
  | .enum8 => r.accepts.holds r.ty v
  | _ => true

/-- Steps 4 to 7 of R536 for a write; `Status.ok` when all pass. -/
def State.writeStatus (s : State) (rq : Sys2Proof.Requester) (addr type len v : Nat) : Nat :=
  match rowAt addr with
  | none => if addr % 256 = 0 ∧ indexUsed (addr / 256) then Status.accessDenied else Status.ldpNoObject
  | some r =>
    if requesterNormal rq ∧ s.bitternOwns addr then Status.ownerLocked
    else
      let right := s.narrow rq addr ((s.rightsAt r addr).of rq)
      if right = .ro then Status.accessDenied
      else if type ≠ r.ty.code then Status.ldpType
      else if r.ty = .str ∧ ¬(1 ≤ len ∧ len ≤ 64) then Status.ldpLength
      else if r.ty ≠ .str ∧ len ≠ objLength r addr then Status.ldpLength
      else if !encodingOk r v then Status.ldpRange
      else Status.ok

/-- Steps 4 and 5 of R536 for a read. -/
def State.readStatus (s : State) (rq : Sys2Proof.Requester) (addr : Nat) : Nat :=
  match rowAt addr with
  | none => if addr % 256 = 0 ∧ indexUsed (addr / 256) then Status.ok else Status.ldpNoObject
  | some r => if s.narrow rq addr ((s.rightsAt r addr).of rq) = .wo then Status.accessDenied else Status.ok

/-- Is the right at an object RWS for a requester (step 8 of R536)? -/
def State.rws (s : State) (rq : Sys2Proof.Requester) (addr : Nat) : Bool :=
  match rowAt addr with
  | some r => decide ((s.rightsAt r addr).of rq = .rws)
  | none => false

/-- The last check of step 8 where a chapter names no status: the stated range (R536). -/
def rangeStatus (addr v : Nat) : Nat :=
  match rowAt addr with
  | some r => if r.accepts.holds r.ty v then Status.ok else Status.ldpRange
  | none => Status.ldpNoObject

/-- What a write leaves in an object: BITS32 ignores its reserved and read-only bits and clears the bits written 1 that clear so (R6, R532). -/
def mergeWrite (r : ObjRow) (old v : Nat) : Nat :=
  match r.accepts with
  | .bits rw rw1c =>
    (old &&& (2 ^ 32 - 1 - (rw ||| rw1c))) ||| (v &&& rw) ||| (old &&& rw1c &&& (2 ^ 32 - 1 - v))
  | _ => v

/-- The value an object holds after a write of `v` (R6). -/
def State.merged (s : State) (addr v : Nat) : Nat :=
  match rowAt addr with
  | some r => mergeWrite r (s.rd addr) v
  | none => v

/-- A plain write: the stated range, then the value in force (R536, R537). -/
def State.plainWrite (s : State) (addr v : Nat) : Nat × State :=
  if rangeStatus addr v = Status.ok then (Status.ok, s.wr addr (s.merged addr v)) else (rangeStatus addr v, s)

/-! ## Refusals with OWNER_LOCKED (R401) -/

/-- The requester identifier of a record: unit and owner code (R631; log entry 9). -/
def requesterId (code : Nat) : Nat := Config.requesterUnit code % 256 * 256 + code

/-- Kinds of request in OWNER_REFUSED, which have no number of the manual (log entry 38): 0 write, 1 read, 2 gate or domain, 3 clock, 4 memory, 5 mailbox. -/
def refusedDetail (r : Refused) : List Detail := [d16 r.requester, d32 r.resource, dCase Ev.ownerRefused r.kind, d32 r.repeats]

/-- A record of the log changed wherever it stands. -/
def Log.amend (l : Log) (p : LogRecord → Bool) (d : Nat) : Log :=
  let f := fun (r : LogRecord) => if p r then { r with detail := d } else r
  { l with fifo := l.fifo.map f, mirror := l.mirror.map f, ring := l.ring.map f }

/-- An OWNER_LOCKED refusal is logged; refusals of one source on one resource within 1 ms share one record (R401). -/
def State.ownerRefused (s : State) (source resource kind : Nat) : State :=
  let me := requesterId source
  let live := s.refusals.filter (fun r => decide (s.dtime < r.time + 1000000))
  match live.find? (fun r => decide (r.requester = me) && decide (r.resource = resource) && decide (r.kind = kind)) with
  | some r =>
    let r' := { r with repeats := r.repeats + 1 }
    { s with
      refusals := live.map (fun x => if x = r then r' else x)
      log := s.log.amend (fun x => decide (x.code = Ev.ownerRefused) && decide (x.source = source) && decide (x.dtime = r.time)
          && decide (x.detail = packDetail 0 (refusedDetail r))) (packDetail 0 (refusedDetail r')) }
  | none =>
    let r : Refused := ⟨me, resource, kind, s.dtime, 0⟩
    { s.logEvent Ev.ownerRefused source (refusedDetail r) with refusals := r :: live }

/-- The resource of a refused object write: its assignment-table index, else the address (R401). -/
def refusedResource (addr : Nat) : Nat := (resourceOf addr).getD addr

/-- A write request that names an object of the right type and length by itself: R536's checks, then the object's own checks and effect,
then the answer. -/
def State.request (s : State) (rq : Sys2Proof.Requester) (addr type len v : Nat) (own : State → Nat × State) : State :=
  let st := s.writeStatus rq addr type len v
  if st = Status.ok then
    let r := own s
    if r.1 = Status.ownerLocked then (r.2.ownerRefused (rq.code) (refusedResource addr) 0).answer rq r.1
    else r.2.answer rq r.1
  else if st = Status.ownerLocked then (s.ownerRefused (rq.code) (refusedResource addr) 0).answer rq st
  else s.answer rq st

/-- A write command of an object with a row of its own: it carries the object's type and length (R533). -/
def State.ownRequest (s : State) (rq : Sys2Proof.Requester) (addr v : Nat) (own : State → Nat × State) : State :=
  match rowAt addr with
  | some r => s.request rq addr r.ty.code (objLength r addr) v own
  | none => s.answer rq Status.ldpNoObject

/-- As `request`, for a write that may complete later: no status is answered now where the object gives none. -/
def State.requestLater (s : State) (rq : Sys2Proof.Requester) (addr v : Nat) (own : State → Option Nat × State) : State :=
  match rowAt addr with
  | none => s.answer rq Status.ldpNoObject
  | some r =>
    let st := s.writeStatus rq addr r.ty.code (objLength r addr) v
    if st = Status.ok then
      let x := own s
      match x.1 with
      | none => x.2
      | some c => if c = Status.ownerLocked then (x.2.ownerRefused (rq.code) (refusedResource addr) 0).answer rq c else x.2.answer rq c
    else if st = Status.ownerLocked then (s.ownerRefused (rq.code) (refusedResource addr) 0).answer rq st
    else s.answer rq st

end Sys2Proof.Machine
end

