-- ==== Sys2Proof/Machine/Flags.lean ====
section
/-! DEFINITION. Status and flag fields: the bits of status objects that more than one command sets or clears, each with one setter. -/
namespace Sys2Proof.Machine

/-! ## SPK_STATUS (R53) -/

/-- LOCKED. -/
def spkLocked : Nat := 0
/-- COASTING. -/
def spkCoasting : Nat := 1
/-- SHORT_COAST, sticky. -/
def spkShortCoast : Nat := 2
/-- LEAD_CHANGE_PENDING. -/
def spkLeadPending : Nat := 3
/-- S4_RESUMED, sticky. -/
def spkS4Resumed : Nat := 4

/-- A bit of SPK_STATUS. -/
def State.spk (s : State) (b : Nat) : Bool := bit (s.rd Obj.SPK_STATUS) b

/-- Does Sprocket coast (R53)? -/
def State.coasting (s : State) : Bool := s.spk spkCoasting

/-- SPK_STATUS with LOCKED and COASTING as they are while Sprocket coasts, or follows the lead raster (R22, R25). -/
def State.setCoasting (s : State) (on : Bool) : State :=
  (s.wrBit Obj.SPK_STATUS spkCoasting on).wrBit Obj.SPK_STATUS spkLocked (!on)

/-! ## SLOT_CONTROL (R54) -/

/-- Is a slot armed? -/
def State.armed (s : State) (n : Nat) : Bool := bit (s.rd (Obj.SLOT_CONTROL n)) 0
/-- FIRE_IF_PAST of a control value. -/
def ctlFireIfPast (v : Nat) : Bool := bit v 1
/-- REPEAT of a control value. -/
def ctlRepeat (v : Nat) : Bool := bit v 2
/-- The position of a slot. -/
def State.slotPos (s : State) (n : Nat) : Spos := Spos.ofNat (s.rd (Obj.SLOT_POSITION n))

/-- SLOT_STATE values (R54). -/
def slotIdle : Nat := 0
/-- ARMED. -/
def slotArmed : Nat := 1
/-- FIRED. -/
def slotFired : Nat := 2
/-- NO_EFFECT. -/
def slotNoEffect : Nat := 3
/-- DECLINED. -/
def slotDeclined : Nat := 4

/-! ## Dailies slices (R647) -/

/-- The time a slice needs, in µs; absent for a number the catalogue does not list (NOT_APPLICABLE). -/
def sliceNeed (n : Nat) : Option Nat :=
  if n ≤ 3 then some 300
  else if 0x010 ≤ n ∧ n ≤ 0x03F then some 380
  else if 0x040 ≤ n ∧ n ≤ 0x057 then some 350
  else if 0x058 ≤ n ∧ n ≤ 0x063 then some 300
  else if 0x064 ≤ n ∧ n ≤ 0x066 then some 200
  else if n = 0x067 then some 300
  else if 0x068 ≤ n ∧ n ≤ 0x06F then some 150
  else if 0x070 ≤ n ∧ n ≤ 0x07F then some 250
  else if n = 0x080 ∨ n = 0x081 then some 250
  else if 0x088 ≤ n ∧ n ≤ 0x08F then some 200
  else if 0x100 ≤ n ∧ n ≤ 0x1BF then some 300
  else if 0x1C0 ≤ n ∧ n ≤ 0x1FF then some 200
  else if 0x200 ≤ n ∧ n ≤ 0x217 then some 250
  else if 0x218 ≤ n ∧ n ≤ 0x223 then some 150
  else if 0x224 ≤ n ∧ n ≤ 0x22F then some 200
  else if 0x230 ≤ n ∧ n ≤ 0x24F then some 200
  else if 0x300 ≤ n ∧ n ≤ 0x30D then some 400
  else if n = 0x310 ∨ n = 0x311 then some 100
  else if 0x320 ≤ n ∧ n ≤ 0x322 then some 150
  else if 0x328 ≤ n ∧ n ≤ 0x32F then some 100
  else if 0x330 ≤ n ∧ n ≤ 0x337 then some 400
  else none

end Sys2Proof.Machine
end

