-- ==== Sys2Proof/Machine/Sprocket.lean ====
section
/-! DEFINITION. Sprocket, device time and the trigger scheduler (R11 to R55): the shared operations of the clocks and slots, and the
commands on them. -/
namespace Sys2Proof.Machine
open Sys2Proof

/-! ## The lead output (R11, R12) -/

/-- The lead output: SPK_LEAD_OUTPUT, or what STRAP_LEAD selects (R11, R12). -/
def State.strapLead (s : State) : Nat :=
  let l := field (s.rd Obj.RST_STRAPS) 11 8
  if l < 12 then l else 0

/-- The output that a value of SPK_LEAD_OUTPUT names (R12). -/
def State.leadNamed (s : State) (v : Nat) : Nat := if v = 0xFF then s.strapLead else v

/-- The lead output (R11, R12). -/
def State.leadOutput (s : State) : Nat := s.leadNamed (s.rd Obj.SPK_LEAD_OUTPUT)

/-- Has an output a timing object: an entry with VALID set (R13, R180)? -/
def timingValid (t : Nat) : Bool := bit t 192
/-- PCLK_KHZ of a timing entry (R180). -/
def timPclk (t : Nat) : Nat := field t 31 0
/-- H_ACTIVE. -/
def timHActive (t : Nat) : Nat := field t 47 32
/-- H_TOTAL. -/
def timHTotal (t : Nat) : Nat := field t 63 48
/-- H_FP. -/
def timHFp (t : Nat) : Nat := field t 79 64
/-- H_SYNC. -/
def timHSync (t : Nat) : Nat := field t 95 80
/-- V_ACTIVE. -/
def timVActive (t : Nat) : Nat := field t 111 96
/-- V_FP_MIN. -/
def timVFp (t : Nat) : Nat := field t 127 112
/-- V_SYNC. -/
def timVSync (t : Nat) : Nat := field t 143 128
/-- V_BP. -/
def timVBp (t : Nat) : Nat := field t 159 144
/-- V_TOTAL_MAX. -/
def timVMax (t : Nat) : Nat := field t 175 160
/-- LINK_DEPTH. -/
def timDepth (t : Nat) : Nat := field t 191 184
/-- V_TOTAL_MIN (R180). -/
def timVMin (t : Nat) : Nat := timVActive t + timVFp t + timVSync t + timVBp t

/-- The nominal line period of a timing entry in ps, to the nearest (R22, R52). -/
def timLinePs (t : Nat) : Nat := (2 * timHTotal t * 1000000000 + timPclk t) / (2 * timPclk t)

/-- Is the named output unfit to lead: no timing object, or a maximum vertical total above 65,535 (R13)? -/
def State.leadUnfit (s : State) (k : Nat) : Bool :=
  !timingValid (s.rd (Obj.OUT_TIMING k)) || Nat.blt 65535 (timVMax (s.rd (Obj.OUT_TIMING k)))
    || Nat.blt 65535 (s.rd (Obj.OUT_VT_MAX k))

/-- Line period of a coast, in ps: R617's until Sprocket first locks after a reset, then the lead timing object's (R22). -/
def State.coastLinePs (s : State) : Nat :=
  let t := s.rd (Obj.OUT_TIMING s.leadOutput)
  if s.clock.everLocked && timingValid t then timLinePs t else 14814815

/-- Lines of a coast frame: R617's until the first lock, then the lead's nominal vertical total (R22, R182). -/
def State.coastLines (s : State) : Nat :=
  let t := s.rd (Obj.OUT_TIMING s.leadOutput)
  if s.clock.everLocked && timingValid t then s.rd (Obj.OUT_VT_MIN s.leadOutput) else 1125

/-! ## Time passes (R30, R32) -/

/-- Real time of the present timestamp tick, in ns: two a tick (R30). -/
def Clock.realNs (c : Clock) : Nat := 2 * c.ticks

/-- The clock after `n` timestamp ticks: device time advances by 2 at each, and by what the rate change of R32 adds or takes. -/
def Clock.pass (c : Clock) (n : Nat) : Clock :=
  let r := c.slewRest + c.slew * Int.ofNat (2 * n)
  { c with
    ticks := c.ticks + n
    slewRest := r % 1000000
    dtime := c.dtime + (Int.ofNat (2 * n) + r / 1000000).toNat }

/-- The FRACTION of the line in progress at the present tick, holding at 0xFFFF (R20). -/
def Clock.fraction (c : Clock) : Nat :=
  if c.linePs = 0 then 0xFFFF
  else Nat.min 0xFFFF ((c.realNs * 1000 - c.lineStartPs) * 65536 / c.linePs)

/-- Actions in the order of R43's priority column. -/
def actionPriority (a : Nat) : Nat :=
  match a with
  | 5 => 1
  | 1 => 2
  | 2 => 3
  | 3 => 4
  | 6 => 5
  | 4 => 6
  | 7 => 7
  | _ => 8

/-- The tick at which a position of the line in progress is reached, no later than now. -/
def Clock.tickOf (c : Clock) (frac : Nat) : Nat :=
  Nat.min c.ticks (divUp (c.lineStartPs + frac * c.linePs / 65536) 2000)

/-- Slots armed at a position that a clock has reached within its frame become due (R45). `c` is the clock at the new position. -/
def State.markReached (s : State) (c : Clock) : State :=
  let new := (List.range 256).filterMap (fun n =>
    if s.armed n && !(s.dueSlots.any (fun d => decide (d.slot = n))) && !(c.pos.earlier (s.slotPos n)) then
      some (DueSlot.mk n (if (s.slotPos n).line = c.pos.line then c.tickOf (s.slotPos n).frac.toNat else c.ticks) false false)
    else none)
  { s with dueSlots := s.dueSlots ++ new }

/-- Slots armed in a frame that ended at `last` without their position having been reached are due at the next tick, as JUMPED (R47). -/
def State.markJumped (s : State) (last : Spos) (tick : Nat) : State :=
  let new := (List.range 256).filterMap (fun n =>
    if s.armed n && !(s.dueSlots.any (fun d => decide (d.slot = n)))
        && last.earlier (s.slotPos n) && decide ((s.slotPos n).frame = last.frame) then
      some (DueSlot.mk n (tick + 1) true false)
    else none)
  { s with dueSlots := s.dueSlots ++ new }

/-- The clock one timestamp tick further; nothing of Sprocket moves in S4 (R20, R27, R30). -/
def State.tick (s : State) : State :=
  let c := s.clock.pass 1
  if c.stopped then { s with clock := c }
  else
    let c := { c with pos := { c.pos with frac := BitVec.ofNat 16 (Nat.max c.pos.frac.toNat c.fraction) } }
    { (s.markReached c) with clock := c }

/-- A line of `ps` picoseconds ends: the clock at the start of the next one, with its position still to be set. -/
def Clock.endLine (c : Clock) (ps : Nat) : Clock :=
  let start := c.lineStartPs + ps
  let n := divUp start 2000 - c.ticks
  { c.pass n with lineStartPs := start, linePs := ps }

/-- The next line of the same frame begins. -/
def State.nextLine (s : State) (ps : Nat) : State :=
  let full := { s.clock.endLine ps with pos := { s.clock.pos with frac := 0xFFFF } }
  let s := s.markReached { full with lineStartPs := s.clock.lineStartPs }
  let c := { full with pos := { full.pos with line := full.pos.line + 1, frac := 0 } }
  { (s.markReached c) with clock := c }

/-- A coast frame that ends is counted (R22). -/
def State.endFrameCount (s : State) : State :=
  if s.clock.coastFrame then s.count Obj.SPK_COAST_FRAMES else s

/-- A new frame begins at line 0, fraction 0, from a clock whose line has ended; the frame ran to `last` (R16, R19, R47). -/
def State.newFrame (s : State) (c : Clock) (last : Spos) : State :=
  let s := s.endFrameCount
  let s := if last.frame = 0xFFFFFFFF then s.count Obj.SPK_FRAME_EPOCH else s
  let c := { c with pos := ⟨last.frame + 1, 0, 0⟩, coastFrame := s.coasting }
  let s := s.markJumped last c.ticks
  { (s.markReached c) with clock := c }

/-- The last line of the frame ends and the next frame begins. -/
def State.nextFrame (s : State) (ps : Nat) : State :=
  let full := { s.clock.endLine ps with pos := { s.clock.pos with frac := 0xFFFF } }
  let s := s.markReached { full with lineStartPs := s.clock.lineStartPs }
  s.newFrame full full.pos

/-- Sprocket begins coasting for a cause; the frame in progress becomes a coast frame (R22, R55). -/
def State.coastStart (s : State) (cause : Nat) : State :=
  let c := { s.clock with coastFrame := true, linePs := s.coastLinePs }
  if s.coasting then { s with clock := c }
  else ({ s with clock := c }.setCoasting true).logEvent Ev.coastStart noOwner [d8 cause]

/-- Sprocket coasts if the named output leads, for a cause of R22. -/
def State.coastIfLead (s : State) (k cause : Nat) : State := if s.leadOutput = k then s.coastStart cause else s

/-! ## Commands on the clocks -/

/-- SPK_LEAD_OUTPUT after step 7 of R536 (R12, R13, R14). -/
def State.writeLead (s : State) (v : Nat) : Nat × State :=
  if rangeStatus Obj.SPK_LEAD_OUTPUT v ≠ Status.ok then (rangeStatus Obj.SPK_LEAD_OUTPUT v, s)
  else if s.leadUnfit (s.leadNamed v) then (Status.leadUnfit, s)
  else
    let changes := decide (s.leadNamed v ≠ s.leadOutput)
    let s := s.wr Obj.SPK_LEAD_OUTPUT v
    (Status.ok, if changes then (s.wrBit Obj.SPK_STATUS spkLeadPending true).coastStart 3 else s)

/-- SPK_LEAD_OUTPUT_WRITE (R12 to R14). -/
def execSpkLeadOutputWrite (rq : Requester) (v : Fin 256) (s : State) : Out :=
  .next (s.ownRequest rq Obj.SPK_LEAD_OUTPUT v.val (fun s => s.writeLead v.val))

/-- LEAD_LINE_START (R20): the lead raster's next real line begins, a measured period after the last; the line after the last of a frame
begins the next. While Sprocket coasts, or is stopped, it does not follow the raster. -/
def execLeadLineStart (periodPs : Nat) (frameStart : Bool) (s : State) : Out :=
  if s.coasting || s.clock.stopped then .next s
  else if frameStart || decide (s.clock.pos.line = 0xFFFF) then .next (s.nextFrame periodPs)
  else .next (s.nextLine periodPs)

/-- COAST_LINE_TICK (R22): while Sprocket coasts, one nominal line period has passed. -/
def execCoastLineTick (s : State) : Out :=
  if !s.coasting || s.clock.stopped then .next s
  else if s.coastLines ≤ s.clock.pos.line.toNat + 1 then .next (s.nextFrame s.coastLinePs)
  else .next (s.nextLine s.coastLinePs)

/-- Is an output's raster one Sprocket can lock to: none of R22's conditions but a change of lead holds? -/
def State.leadRuns (s : State) : Bool :=
  match (Tab.get {} s.outs s.leadOutput).state with
  | .active | .holdEntry => true
  | .waking => (Tab.get {} s.outs s.leadOutput).phase ≠ .stopped
  | _ => false

/-- The lines a frame ran up to a position (R23). -/
def linesRun (p : Spos) : Nat := if p.frac = 0 then p.line.toNat else p.line.toNat + 1

/-- The re-lock: frame F ends, F + 1 begins, the flags and counters of R23 and R25, and the record of R55. -/
def State.relock (s : State) : State :=
  let last := s.clock.pos
  let lines := linesRun last
  let short := s.clock.coastFrame && Nat.blt lines s.coastLines
  let tim := s.rd (Obj.OUT_TIMING s.leadOutput)
  let c := { s.clock with
    lineStartPs := s.clock.realNs * 1000
    linePs := if timingValid tim then timLinePs tim else s.clock.linePs
    everLocked := true }
  let s := s.setCoasting false
  let s := s.wrBit Obj.SPK_STATUS spkLeadPending false
  let s := if short then s.wrBit Obj.SPK_STATUS spkShortCoast true else s
  let s := s.newFrame c last
  let s := (s.count Obj.SPK_RELOCK_COUNT).wr Obj.SPK_LAST_RELOCK s.now.pack
  s.logEvent Ev.relock noOwner [d8 s.leadOutput, d16 lines, dFlag short]

/-- Sprocket stops at its position for S4 (R27). -/
def State.s4Stop (s : State) : State := { s with clock := { s.clock with stopped := true } }

/-- Exit from S4: the frame ends as a shortened coast frame, and the next starts coasting (R27, R53). -/
def State.s4Resume (s : State) : State :=
  if !s.clock.stopped then s
  else
    let s := { s with clock := { s.clock with stopped := false, coastFrame := true } }
    let s := ((s.setCoasting true).wrBit Obj.SPK_STATUS spkShortCoast true).wrBit Obj.SPK_STATUS spkS4Resumed true
    let c := { s.clock with lineStartPs := s.clock.realNs * 1000, linePs := s.coastLinePs }
    let s := s.newFrame c s.clock.pos
    s.logEvent Ev.coastStart noOwner [d8 5]

/-- After a warm reset the AON logic coasts on from the position it holds, under R617, until Sprocket locks again (R28, R29, R617). -/
def State.warmCoast (s : State) : State :=
  let c := { s.clock with everLocked := false, coastFrame := true, linePs := 14814815, lastFire := none }
  ({ s with clock := c, dueSlots := [] }.setCoasting true).logEvent Ev.coastStart noOwner [d8 4]

/-- DTIME_SYNC_MESSAGE (R31, R32): an 802.1AS message measures an offset (positive: device time is behind) and a rate. -/
def execDtimeSyncMessage (port : Fin 2) (offset ratePpm : Int) (s : State) : Out :=
  if s.rd Obj.DTIME_SYNC_PORT ≠ port.val + 1 then .next s
  else
    let s := s.wr Obj.DTIME_OFFSET (ofSigned 64 offset)
    let s := s.wr Obj.DTIME_SYNC_STATE (if s.rd Obj.DTIME_SYNC_STATE = 0 then 1 else 2)
    let lim := Int.ofNat (s.rd Obj.DTIME_SLEW_LIMIT)
    if Int.ofNat (s.rd Obj.DTIME_STEP_THRESHOLD) < offset then
      let s := { s with clock := { s.clock with dtime := s.clock.dtime + offset.toNat, slew := clampInt (-lim) lim ratePpm } }
      .next (s.logEvent Ev.dtimeStep noOwner [d64 offset.toNat])
    else .next { s with clock := { s.clock with slew := clampInt (-lim) lim ratePpm } }

/-- Synchronisation is lost: HOLDOVER at the last disciplined rate (R33). -/
def State.syncLost (s : State) : State :=
  if s.rd Obj.DTIME_SYNC_STATE = 1 ∨ s.rd Obj.DTIME_SYNC_STATE = 2 then s.wr Obj.DTIME_SYNC_STATE 3 else s

/-- DTIME_SYNC_LOSS (R33). -/
def execDtimeSyncLoss (s : State) : Out := .next s.syncLost

/-! ## Arming and disarming (R48, R49) -/

/-- Is a slot's action, argument or owner invalid to arm (R42, R48, R647)? -/
def State.slotInvalid (s : State) (n : Nat) : Bool :=
  let a := s.rd (Obj.SLOT_ACTION n)
  let arg := s.rd (Obj.SLOT_ARG n)
  let o := s.rd (Obj.SLOT_OWNER n)
  Nat.blt 7 a
    || (decide (a = 5) && Nat.ble 12 (field arg 3 0))
    || (decide (a = 3) && decide (field arg 1 0 = 3))
    || (decide (a = 6) && Nat.blt 192 (field arg 15 8))
    || (decide (a = 4) && (match sliceNeed (field arg 11 0) with
        | none => true
        | some need => Nat.blt (s.rd Obj.DAILIES_BUDGET) need))
    || (Nat.ble o 0x40 && decide (a ≠ 7))

/-- Slots armed for an instance (R42). -/
def State.slotsArmedFor (s : State) (o : Nat) : Nat :=
  ((List.range 256).filter (fun n => s.armed n && decide (s.rd (Obj.SLOT_OWNER n) = o))).length

/-- The checks of an arm, in order (R42, R48). -/
def State.armStatus (s : State) (n : Nat) (fireIfPast : Bool) : Nat :=
  let p := s.slotPos n
  if s.slotInvalid n then Status.slotInvalid
  else if s.rd (Obj.SLOT_OWNER n) < 64 ∧ 4 ≤ s.slotsArmedFor (s.rd (Obj.SLOT_OWNER n)) then Status.slotQuota
  else if p.earlier s.now ∧ !fireIfPast then Status.slotPast
  else if p.farAhead s.now then Status.slotRange
  else Status.ok

/-- A write of SLOT_CONTROL: arming, disarming, or a change of REPEAT and FIRE_IF_PAST, and the sticky bits (R48 to R50). -/
def State.writeSlotControl (s : State) (n v : Nat) : Nat × State :=
  let m := s.merged (Obj.SLOT_CONTROL n) v
  if bit v 0 && !s.armed n then
    let st := s.armStatus n (ctlFireIfPast v)
    if st ≠ Status.ok then (st, s)
    else
      let s := (s.wr (Obj.SLOT_CONTROL n) m).wr (Obj.SLOT_STATE n) slotArmed
      if (s.slotPos n).earlier s.now then
        (Status.ok, { s with dueSlots := s.dueSlots ++ [⟨n, s.clock.ticks, false, true⟩] })
      else (Status.ok, s.markReached s.clock)
  else if !(bit v 0) && s.armed n then
    let s := (s.wr (Obj.SLOT_CONTROL n) m).wr (Obj.SLOT_STATE n) slotIdle
    (Status.ok, { s with dueSlots := s.dueSlots.filter (fun d => !decide (d.slot = n)) })
  else (Status.ok, s.wr (Obj.SLOT_CONTROL n) m)

/-- A write of SLOT_POSITION, SLOT_ACTION, SLOT_ARG or SLOT_OWNER: refused while the slot is armed (R49). -/
def State.writeSlotField (s : State) (n addr v : Nat) : Nat × State :=
  if s.armed n then (Status.slotBusy, s) else s.plainWrite addr v

/-- SLOT_ARM (R48): a write of SLOT_CONTROL with ARM set. -/
def execSlotArm (rq : Requester) (n : Fin 256) (fireIfPast repeats : Bool) (s : State) : Out :=
  let v := 1 + 2 * ofBool fireIfPast + 4 * ofBool repeats
  .next (s.ownRequest rq (Obj.SLOT_CONTROL n.val) v (fun s => s.writeSlotControl n.val v))

/-- SLOT_DISARM (R49): a write of SLOT_CONTROL with ARM clear. -/
def execSlotDisarm (rq : Requester) (n : Fin 256) (s : State) : Out :=
  .next (s.ownRequest rq (Obj.SLOT_CONTROL n.val) 0 (fun s => s.writeSlotControl n.val 0))

/-! ## Firing (R43 to R51) -/

/-- The order in which due slots fire: the tick at which they became due, priority, number (R45, R47). -/
def State.fireKey (s : State) (d : DueSlot) : Nat :=
  d.tick * 4096 + actionPriority (s.rd (Obj.SLOT_ACTION d.slot)) * 256 + d.slot

/-- The slot that fires next. -/
def State.nextDue (s : State) : Option DueSlot :=
  leastBy s.fireKey (s.dueSlots.filter (fun d => Nat.ble d.tick (s.clock.ticks + 1)))

/-- A slot after its firing: control, state, position and last firing (R46 to R50). -/
def State.slotFiredWith (s : State) (d : DueSlot) (outcome : Nat) : State :=
  let n := d.slot
  let ctl := s.rd (Obj.SLOT_CONTROL n)
  let p := s.slotPos n
  let ctl := if d.jumped then setBit ctl 3 true else ctl
  let ctl := if d.late then setBit ctl 4 true else ctl
  let s := (s.wr (Obj.SLOT_STATE n) outcome).wr (Obj.SLOT_LAST_FIRE n) s.now.pack
  if ctlRepeat ctl then
    let f := if d.jumped || d.late then s.now.frame + 1 else p.frame + 1
    (s.wr (Obj.SLOT_CONTROL n) ctl).wr (Obj.SLOT_POSITION n) (Spos.pack { p with frame := f })
  else s.wr (Obj.SLOT_CONTROL n) (setBit ctl 0 false)

/-- Tally's kinds of group 0 (R51): 8 × kind + action, kinds firing, NO_EFFECT, DECLINED, JUMPED, LATE. -/
def State.slotTally (s : State) (d : DueSlot) (a outcome owner : Nat) : State :=
  let s := s.tallyCount 0 a owner
  let s := if outcome = slotNoEffect then s.tallyCount 0 (8 + a) owner else s
  let s := if outcome = slotDeclined then s.tallyCount 0 (16 + a) owner else s
  let s := if d.jumped then s.tallyCount 0 (24 + a) owner else s
  if d.late then s.tallyCount 0 (32 + a) owner else s

/-- A slot fires: it must be the next one due and hold the action of the command's row; at most one fires a tick. `act` performs the action
on its argument and tells the SLOT_STATE that results. -/
def State.fire (s : State) (n : Nat) (action : Nat) (act : State → Nat → State × Nat) : State :=
  match s.nextDue with
  | none => s
  | some d =>
    if d.slot ≠ n ∨ s.rd (Obj.SLOT_ACTION n) ≠ action then s
    else
      let s := if s.clock.lastFire = some s.clock.ticks ∨ s.clock.ticks < d.tick then s.tick else s
      let s := { s with
        clock := { s.clock with lastFire := some s.clock.ticks }
        dueSlots := s.dueSlots.filter (fun x => !decide (x.slot = n)) }
      let owner := s.rd (Obj.SLOT_OWNER n)
      let r := act s (s.rd (Obj.SLOT_ARG n))
      let s := r.1.slotFiredWith d r.2
      let s := s.slotTally d action r.2 owner
      let s := if d.jumped then s.logEvent Ev.slotJumped owner [d8 n, d8 action] else s
      if d.late then s.logEvent Ev.slotLate owner [d8 n, d8 action] else s

/-- NONE (R44): the slot completes with NO_EFFECT; its firing is recorded and counted. -/
def execNoneAction (n : Fin 256) (s : State) : Out :=
  .next (s.fire n.val 0 (fun s _ => (s, slotNoEffect)))

end Sys2Proof.Machine
end

