-- ==== Sys2Proof/Machine/Mailboxes.lean ====
section
/-! DEFINITION. Mailboxes and doorbells (R395, R409 to R417): who stands at each end, rings, and the register accesses. -/
namespace Sys2Proof.Machine
open Sys2Proof

/-! ## Ends (R395) -/

/-- The ends of a mailbox entry: NONE, GAFFER, BITTERN, or HOST with its port. -/
inductive MbEnd where
  | unused
  | gaffer
  | bittern
  | host (port : Nat)
  deriving DecidableEq, Repr

/-- An end from its code and port fields. -/
def MbEnd.ofCode (c port : Nat) : MbEnd :=
  match c with
  | 1 => .gaffer
  | 2 => .bittern
  | 3 => .host port
  | _ => .unused

/-- The sender of a mailbox. -/
def State.mbSender (s : State) (m : Nat) : MbEnd := MbEnd.ofCode (field (s.mbEntry m) 1 0) (field (s.mbEntry m) 5 4)
/-- The receiver of a mailbox. -/
def State.mbReceiver (s : State) (m : Nat) : MbEnd := MbEnd.ofCode (field (s.mbEntry m) 3 2) (field (s.mbEntry m) 7 6)

/-- A mailbox with NONE at either end is unused (R395). -/
def State.mbUnused (s : State) (m : Nat) : Bool :=
  decide (s.mbSender m = .unused) || decide (s.mbReceiver m = .unused)

/-- Is a requester an end of a mailbox? The manager and an instance reach it as hosts of the port they are bound to. -/
def State.isEnd (s : State) (rq : Requester) (e : MbEnd) : Bool :=
  match e, rq with
  | .gaffer, .gaffer => true
  | .bittern, .bittern => true
  | .host p, .manager => decide ((Tab.get {} s.insts 64).port = p)
  | .host p, .guest i => decide ((Tab.get {} s.insts i.val).port = p)
  | _, _ => false

/-! ## Is a receiver there (R409, R415, R416)? -/

/-- Bittern serves its mailboxes only while BIT_STATE is RUNNING (R409, R416). -/
def State.bitternDown (s : State) : Bool := decide (s.rd Obj.BIT_STATE ≠ 3)

/-- The receiving domain of a mailbox is powered (R415, R593): BIT always, GAF and HOST in S0 to S2. -/
def State.receiverUp (s : State) (m : Nat) : Bool :=
  match s.mbReceiver m with
  | .bittern => true
  | .gaffer => Nat.blt (s.rd Obj.PWR_STATE) 3
  | .host _ => Nat.blt (s.rd Obj.PWR_STATE) 3 && decide (s.rd (Obj.DOM_STATE 13) = 1)
  | .unused => false

/-- A mailbox. -/
def State.mailbox (s : State) (m : Nat) : Mailbox := Tab.get {} s.mailboxes m
/-- The state with a mailbox set. -/
def State.setMailbox (s : State) (m : Nat) (b : Mailbox) : State := { s with mailboxes := Tab.set s.mailboxes m b }

/-- The owner code under which MSI-X vectors of a host port are told: 0x100 + port. -/
def portVector (p : Nat) : Nat := 0x100 + p

/-- The receiver is notified of unmasked bits (R414). -/
def State.notifyMb (s : State) (m bits : Nat) : State :=
  if bits = 0 then s
  else match s.mbReceiver m with
    | .host p => s.emit (.msix (portVector p) (s.mailbox m).vector)
    | _ => s.emit (.doorbell m bits)

/-- Doorbell bits set, and the receiver notified of those unmasked that were not pending (R414). -/
def State.setPend (s : State) (m bits : Nat) : State :=
  let b := s.mailbox m
  let s := s.setMailbox m { b with pend := b.pend ||| bits }
  s.notifyMb m (bits &&& (2 ^ 32 - 1 - b.pend) &&& (2 ^ 32 - 1 - b.mask))

/-- A wake event's cause is recorded and an exit to S0 begins, or one to a deeper state goes on to S0 (R596, R597). During a SAG no state changes; the
SAG's clearing is a wake event itself (R597, R604). -/
def State.wake (s : State) (cause : Nat) : State :=
  if s.rd Obj.PWR_STATE = 0 ∨ s.power.sag.isSome then s
  else match s.power.exitCause with
    | none => { s with power := { s.power with exitCause := some cause, exitFrom := s.dtime, target := 0 } }
    | some _ => if s.power.target = 0 then s else { s with power := { s.power with exitCause := some cause, target := 0 } }

/-- The cause of a wake by a doorbell, in the order of R597's list. -/
def wakeDoorbell : Nat := 0

/-- A ring of bits: `Status.ok` when they are set or held until the receiver's domain runs, else why not (R409, R414, R415). -/
def State.ring (s : State) (m bits : Nat) : Nat × State :=
  if s.mbUnused m then (Status.receiverDown, s)
  else if s.mbReceiver m = .bittern ∧ s.bitternDown then (Status.bitternDown, s)
  else if s.receiverUp m then (Status.ok, s.setPend m bits)
  else
    let b := s.mailbox m
    if bits &&& (2 ^ 32 - 1 - b.wakeEn) = 0 then
      (Status.ok, (s.setMailbox m { b with held := b.held ||| bits }).wake wakeDoorbell)
    else (Status.receiverDown, s)

/-- A ring by the Ixand itself through a doorbell object: bit, mailbox and ENABLE as R654 gives LOG_DOORBELL. -/
def State.ringObject (s : State) (v : Nat) : State := if bit v 15 then (s.ring (field v 11 8) (2 ^ field v 4 0)).2 else s

/-- Held wake bits are set once the receiving domains run again (R415). -/
def State.releaseHeld (s : State) : State :=
  s.each (List.range 16) (fun s m =>
    let b := s.mailbox m
    if b.held = 0 || !s.receiverUp m then s
    else (s.setMailbox m { b with held := 0 }).setPend m b.held)

/-! ## Accesses (R410 to R413, R416) -/

/-- Errors that an access gets: a slave error for Gaffer and Bittern, an Unsupported Request on a host port (R416). -/
def State.mbError (s : State) (rq : Requester) (e : MbEnd) : State :=
  match e with
  | .host p => s.emit (.hostError p 1)
  | _ => s.emit (.hostError 0x10 (rq.code))

/-- Does an access find its mailbox served: in use, its receiving domain powered, Bittern running where it is an end (R416)? -/
def State.mbServed (s : State) (m : Nat) : Bool :=
  !s.mbUnused m && s.receiverUp m && !(s.mbBittern m && s.bitternDown)

/-- Does a requester reach mailboxes through a host port? -/
def isHost : Requester → Bool
  | .manager => true
  | .guest _ => true
  | _ => false

/-- Are the instance windows and the mailbox blocks of BAR 2 served: from READY on (R614, R615)? -/
def State.barServed (s : State) : Bool := decide (s.boot.stage = 6) || decide (s.boot.stage = 8)

/-- A write of one end: from the wrong end it is refused with OWNER_LOCKED at a Bittern-owned mailbox, else with an error response (R410);
a host on another port than the entry's writes nothing. -/
def State.mbWrite (s : State) (rq : Requester) (m : Nat) (e : MbEnd) (served : Bool) (f : State → State) : State :=
  if isHost rq ∧ ¬s.barServed then s
  else if s.isEnd rq e then (if served then f s else s.mbError rq e)
  else if s.mbBittern m && requesterNormal rq then
    (s.ownerRefused (rq.code) (0x78 + m) 5).answer rq Status.ownerLocked
  else s.mbError rq e

/-- PUSH of a word (R411, R412). -/
def State.pushWord (s : State) (m word : Nat) : State :=
  let b := s.mailbox m
  let n := wrapAdd 16 b.pushed 1
  let s := s.tallyCount 28 m noOwner
  if b.words.length < 16 then s.setMailbox m { b with words := b.words ++ [word], pushed := n }
  else
    let s := s.setMailbox m { b with words := b.words.dropLast ++ [word], pushed := n, collision := true }
    s.logEvent Ev.mbCollision noOwner [d8 m, d16 b.pushed]

/-- RELEASE drops the oldest words (R413). -/
def State.releaseWords (s : State) (m n : Nat) : State :=
  let b := s.mailbox m
  s.setMailbox m { b with words := b.words.drop (Nat.min n b.words.length) }

/-- A DOORBELL write: MASK is set, PENDING bits written 1 clear, and an unmasked pending bit notifies (R410, R414). -/
def State.doorbellWrite (s : State) (m v : Nat) : State :=
  let b := s.mailbox m
  let mask := field v 31 0
  let pend := b.pend &&& (2 ^ 32 - 1 - field v 63 32)
  let s := s.setMailbox m { b with mask := mask, pend := pend }
  s.notifyMb m (pend &&& b.mask &&& (2 ^ 32 - 1 - mask))

/-- Every Bittern-owned mailbox is emptied at a Bittern restart, its doorbells and WAKE_EN cleared (R407, R417). -/
def State.discardBittern (s : State) : State :=
  s.each (List.range 16) (fun s m =>
    if !s.mbBittern m then s
    else
      let b := s.mailbox m
      let n := b.words.length
      let s := s.setMailbox m { b with words := [], mask := 0xFFFFFFFF, pend := 0, wakeEn := 0, held := 0 }
      if n = 0 then s
      else s.logEvent Ev.mbDiscarded noOwner
        [d8 m, d16 ((b.pushed + 65536 - (n - 1)) % 65536), d16 b.pushed])

/-! ## Commands -/

/-- RELEASE (R413). -/
def execMbRelease (rq : Requester) (m : Fin 16) (n : Nat) (s : State) : Out :=
  .next (s.mbWrite rq m.val (s.mbReceiver m.val) (s.mbServed m.val) (fun s => s.releaseWords m.val (n % 32)))

/-- RING (R414, R415): a ring is taken or refused by the receiver's state. -/
def execMbRing (rq : Requester) (m : Fin 16) (bits : BitVec 32) (s : State) : Out :=
  .next (s.mbWrite rq m.val (s.mbSender m.val)
    (!s.mbUnused m.val && !(s.mbBittern m.val && s.bitternDown))
    (fun s =>
      let r := s.ring m.val bits.toNat
      if r.1 = Status.ok then r.2.tallyCount 28 (16 + m.val) (rq.code)
      else r.2.answer rq r.1))

/-- DOORBELL_WRITE (R414). -/
def execDoorbellWrite (rq : Requester) (m : Fin 16) (v : BitVec 64) (s : State) : Out :=
  .next (s.mbWrite rq m.val (s.mbReceiver m.val) (s.mbServed m.val) (fun s => s.doorbellWrite m.val v.toNat))

/-- RAISE_DOORBELL (R414, R415, R409): the slot sets the bit as a ring, or completes with NO_EFFECT. -/
def execRaiseDoorbell (n : Fin 256) (s : State) : Out :=
  .next (s.fire n.val 7 (fun s arg =>
    let m := field arg 11 8
    let b := field arg 4 0
    let r := s.ring m (2 ^ b)
    if r.1 = Status.ok then (r.2, slotFired)
    else if r.1 = Status.bitternDown then
      (r.2.logEvent Ev.mbBellLost (s.rd (Obj.SLOT_OWNER n.val)) [d8 n.val, d8 m, d8 b], slotNoEffect)
    else (r.2, slotNoEffect)))

end Sys2Proof.Machine
end

