-- ==== Sys2Proof/Machine/Queues.lean ====
section
/-! DEFINITION. Instances' windows, queues, descriptors and completions (R304 to R317, R326 to R328): fetched items, the order in which they
start, the records that end them, and the commands on rings and dirty logs. -/
namespace Sys2Proof.Machine
open Sys2Proof

/-! ## Windows -/

/-- An instance, or the manager at 0x40. -/
def State.inst (s : State) (o : Nat) : Inst := Tab.get {} s.insts o
/-- The state with an instance set. -/
def State.setInst (s : State) (o : Nat) (x : Inst) : State := { s with insts := Tab.set s.insts o x }
/-- The state with an instance changed. -/
def State.modInst (s : State) (o : Nat) (f : Inst → Inst) : State := s.setInst o (f (s.inst o))

/-- Has an owner code a window and a completion ring? -/
def hasWindow (o : Nat) : Bool := Nat.ble o 0x40

/-- A queue of an instance. -/
def Inst.queue (x : Inst) (q : Nat) : Queue := Tab.get {} x.queues q
/-- The instance with a queue set. -/
def Inst.setQueue (x : Inst) (q : Nat) (v : Queue) : Inst := { x with queues := Tab.set x.queues q v }

/-! ## Descriptor fields (R307) -/

/-- A field of a descriptor. -/
def dfield (d : BitVec 512) (hi lo : Nat) : Nat := field d.toNat hi lo
/-- A bit of a descriptor. -/
def dbit (d : BitVec 512) (i : Nat) : Bool := d.getLsbD i
/-- TYPE. -/
def dType (d : BitVec 512) : Nat := dfield d 7 0
/-- LENGTH. -/
def dLength (d : BitVec 512) : Nat := dfield d 15 8
/-- BARRIER; a FENCE has it whatever its header says (R310). -/
def dBarrier (d : BitVec 512) : Bool := dbit d 16 || decide (dType d = 0x02)
/-- IRQ. -/
def dIrq (d : BitVec 512) : Bool := dbit d 17
/-- SEQUENCE. -/
def dSeq (d : BitVec 512) : Nat := dfield d 63 32

/-- The LENGTH each TYPE has (R254, R308). -/
def typeLength (t : Nat) : Option Nat :=
  match t with
  | 0x01 => some 1
  | 0x02 => some 2
  | 0x03 => some 3
  | 0x08 => some 4
  | 0x10 => some 2
  | 0x11 => some 2
  | 0x20 => some 8
  | 0x21 => some 4
  | 0x30 => some 8
  | 0x31 => some 2
  | 0x40 => some 8
  | 0x41 => some 8
  | 0x42 => some 4
  | 0x43 => some 4
  | 0x44 => some 4
  | 0x45 => some 4
  | _ => none

/-- A malformed header: unknown TYPE, a LENGTH other than the one listed, or a reserved bit (R308). -/
def headerInvalid (d : BitVec 512) : Bool :=
  !decide (typeLength (dType d) = some (dLength d)) || !decide (dfield d 31 18 = 0)

/-! ## Items -/

/-- The item of a number. -/
def State.item? (s : State) (id : Nat) : Option Item := s.items.find? (fun i => decide (i.id = id))
/-- Items of an owner. -/
def State.itemsOf (s : State) (o : Nat) : List Item := s.items.filter (fun i => decide (i.owner = o))
/-- The state with an item changed. -/
def State.modItem (s : State) (id : Nat) (f : Item → Item) : State :=
  { s with items := s.items.map (fun i => if i.id = id then f i else i) }

/-- May an item start: BARRIER and earlier FENCEs of its queue let it (R307, R309, R310)? -/
def State.mayStart (s : State) (it : Item) : Bool :=
  !(s.items.any (fun e => decide (e.owner = it.owner) && decide (e.queue = it.queue) && Nat.blt e.id it.id
      && (dBarrier it.desc || decide (dType e.desc = 0x02))))

/-- Does a descriptor run in Gaffer's firmware (R620)? -/
def firmwareType (t : Nat) : Bool :=
  [0x03, 0x10, 0x20, 0x21, 0x42].contains t

/-- Is Gaffer restarting, so that firmware work waits (R619, R620)? -/
def State.gafferDown (s : State) : Bool := decide (s.boot.stage = 8)

/-- The item a descriptor command runs on: the oldest item of the queue that has not started, of the command's TYPE, which may start. An
instance in TEARDOWN starts none (R330). -/
def State.nextItemOf (s : State) (o q type : Nat) : Option Item :=
  match (s.items.filter (fun i => decide (i.owner = o) && decide (i.queue = q) && !i.started)).head? with
  | none => none
  | some it =>
    if dType it.desc = type ∧ s.mayStart it ∧ !(hasWindow o && decide ((s.inst o).state = .teardown))
        ∧ !(firmwareType type && s.gafferDown) then some it
    else none

/-- The item has started. -/
def State.startItem (s : State) (id : Nat) : State := s.modItem id (fun i => { i with started := true })

/-! ## Dirty logs (R327) -/

/-- The log after a write of `n` bytes at an IO address. -/
def DirtyLog.mark (l : DirtyLog) (addr n : Nat) : DirtyLog :=
  if !l.enable || n = 0 then l
  else
    let pages := (List.range (divUp (addr % 4096 + n) 4096)).map (fun i => addr / 4096 + i)
    let base := l.base / 4096
    let inside := pages.filter (fun p => Nat.ble base p && Nat.blt p (base + l.pages))
    let add := fun (m : List Nat) => inside.foldl (fun m p => if m.contains (p - base) then m else (p - base) :: m) m
    let l := if inside.length < pages.length then { l with overflow := true } else l
    if l.activeBuf then { l with marked1 := add l.marked1 } else { l with marked0 := add l.marked0 }

/-- A write the Ixand issues into an instance's IO address space (R327). -/
def State.ioWrite (s : State) (o addr n : Nat) : State :=
  if o < 64 then s.modInst o (fun x => { x with dirty := x.dirty.mark addr n }) else s

/-! ## Completions (R9, R313, R314) -/

/-- The status and detail of a record: an injected fault's are those of R9. -/
def recordStatus (injected : Bool) (status detail : Nat) : Nat × Nat :=
  if injected && !(decide (status = Status.ok)) && !(decide (status = Status.okWithNote)) then (0x0F00 + status % 256, status)
  else (status, detail)

/-- The record of an item goes to its ring: entry, tail, phase, interrupt (R313, R314). With bus mastering off only the queue's first and last
SEQUENCE are kept (R332). Bittern's and Gaffer's own queues have no ring of a window: the record is told alone. -/
def State.writeRecord (s : State) (it : Item) (status detail : Nat) (pos : Spos) (time : Nat) : State :=
  let c := recordStatus it.injected status detail
  if hasWindow it.owner then
    let x := s.inst it.owner
    if x.busOff then
      let seq := dSeq it.desc
      s.setInst it.owner { x with flrSquashed := (match x.flrSquashed.find? (fun e => decide (e.1 = it.queue)) with
        | some (_, a, _) => Tab.set x.flrSquashed it.queue (a, seq)
        | none => Tab.set x.flrSquashed it.queue (seq, seq)) }
    else
      let log2 := field x.crConfig 4 0
      let phase := !(bit x.crTail log2)
      let r : Completion := ⟨it.owner, it.queue, dSeq it.desc, c.1, c.2, pos, time, phase⟩
      let at_ := x.crBase + 32 * (x.crTail % 2 ^ log2)
      let s := s.setInst it.owner { x with crTail := wrapAdd 32 x.crTail 1 }
      let s := (s.emit (.completion r)).ioWrite it.owner at_ 32
      if dIrq it.desc then s.emit (.msix it.owner (field x.crConfig 26 16)) else s
  else s.emit (.completion ⟨it.owner, it.queue, dSeq it.desc, c.1, c.2, pos, time, true⟩)

/-- An item completes with a record stamped with a given moment, exactly once: it is an item no longer (R313, R331). -/
def State.completeAt (s : State) (id status detail : Nat) (pos : Spos) (time : Nat) : State :=
  match s.item? id with
  | none => s
  | some it =>
    let s := { s with items := s.items.filter (fun i => !decide (i.id = id)) }
    let s := s.writeRecord it status detail pos time
    let s := s.tallyCount 17 1 it.owner
    if (status = Status.squashed ∨ status = Status.drainedLate) ∧ it.owner < 64 then
      (s.count (Obj.INST_SQUASHED it.owner)).tallyCount 17 3 it.owner
    else s

/-- An item completes now. -/
def State.complete (s : State) (id status detail : Nat) : State := s.completeAt id status detail s.now s.dtime

/-- An item completes now with a status and a detail of 0. -/
def State.finish (s : State) (id status : Nat) : State := s.complete id status 0

/-- A descriptor command: the item it runs on, if there is one, is started and given to `f`. -/
def State.onItem (s : State) (o q type : Nat) (f : State → Item → State) : State :=
  match s.nextItemOf o q type with
  | none => s
  | some it => f (s.startItem it.id) it

/-- As `onItem`, for a command that takes only some descriptors of its TYPE. -/
def State.onItemIf (s : State) (o q type : Nat) (p : BitVec 512 → Bool) (f : State → Item → State) : State :=
  match s.nextItemOf o q type with
  | none => s
  | some it => if p it.desc then f (s.startItem it.id) it else s

/-! ## Rings (R305, R306, R312, R315 to R317) -/

/-- Records written and not yet consumed, and items fetched and not yet completed (R312). -/
def State.ringUse (s : State) (o : Nat) : Nat :=
  let x := s.inst o
  wrapAdd 32 x.crTail (2 ^ 32 - x.crHead % 2 ^ 32) + (s.itemsOf o).length

/-- Is fetching held because the completion ring could not take the record (CR_STALL, R312)? -/
def State.crStall (s : State) (o : Nat) : Bool := Nat.ble (2 ^ field (s.inst o).crConfig 4 0) (s.ringUse o)

/-- Is a window there: the manager's, or an existing instance's (R305)? -/
def State.windowLive (s : State) (o : Nat) : Bool := hasWindow o && !decide ((s.inst o).state = .free)

/-- Is a reset in progress, from step 1 of R330 on? -/
def State.resetting (s : State) (o : Nat) : Bool :=
  decide ((s.inst o).state = .draining) || decide ((s.inst o).state = .teardown)

/-- Set a sticky bit of Qq.DB_RESPONSE (R315): 0 RING_FULL, 1 BAD_TAIL, 2 RESETTING, 3 DISABLED. -/
def Queue.stick (v : Queue) (b : Nat) : Queue := { v with sticky := v.sticky ||| 2 ^ b }

/-- A doorbell write of an existing window (R315). -/
def doorbellQueue (v : Queue) (resetting : Bool) (t : Nat) : Queue :=
  let size := 2 ^ v.sizeLog2
  if resetting then v.stick 2
  else if !v.enable then v.stick 3
  else if 2 ^ 31 ≤ wrapAdd 32 t (2 ^ 32 - v.tail) then v.stick 1
  else if size < wrapAdd 32 t (2 ^ 32 - v.head) ∨ size < wrapAdd 32 t (2 ^ 32 - v.tail) then v.stick 0
  else { v with tail := t }

/-- QUEUE_DOORBELL (R315, R316). -/
def execQueueDoorbell (w : Window) (q : Fin 16) (t : BitVec 32) (s : State) : Out :=
  let o := w.code
  if s.windowLive o then
    .next (s.modInst o (fun x => x.setQueue q.val (doorbellQueue (x.queue q.val) (s.resetting o) t.toNat)))
  else .next s

/-- A write of Qq.CONTROL: SIZE_LOG2 only while ENABLE is 0, else CONFIG_IGNORED (R306, R317). -/
def Inst.writeControl (x : Inst) (q : Nat) (enable : Bool) (log2 : Nat) : Inst :=
  let v := x.queue q
  if v.enable && !decide (v.sizeLog2 = log2) then
    { x.setQueue q { v with enable := enable } with configIgnored := true }
  else x.setQueue q { v with enable := enable, sizeLog2 := log2 }

/-- QUEUE_ENABLE (R317). -/
def execQueueEnable (w : Window) (q : Fin 16) (sizeLog2 : Fin 16) (s : State) : Out :=
  if s.windowLive w.code then .next (s.modInst w.code (fun x => x.writeControl q.val true sizeLog2.val)) else .next s

/-- QUEUE_DISABLE (R317): what has been fetched runs on. -/
def execQueueDisable (w : Window) (q : Fin 16) (sizeLog2 : Fin 16) (s : State) : Out :=
  if s.windowLive w.code then .next (s.modInst w.code (fun x => x.writeControl q.val false sizeLog2.val)) else .next s

/-- May a queue's next offered descriptor be fetched (R305, R312, R317, R330)? Bittern's and Gaffer's own queues have no ring. -/
def State.mayFetch (s : State) (o q : Nat) : Bool :=
  if hasWindow o then
    let x := s.inst o
    let v := x.queue q
    decide (x.state = .active) && v.enable && !decide (v.head = v.tail) && !s.crStall o
  else true

/-- QUEUE_FETCH (R307, R308, R312): the next descriptor of a queue becomes an item; a malformed header fails it at once. -/
def execQueueFetch (o : Owner) (q : Fin 16) (d : BitVec 512) (s : State) : Out :=
  let c := o.code
  if !s.mayFetch c q.val then .next s
  else
    let it : Item := { id := s.nextItem, owner := c, queue := q.val, desc := d }
    let s := { s with items := s.items ++ [it], nextItem := s.nextItem + 1 }
    let s := if hasWindow c then
        s.modInst c (fun x => x.setQueue q.val { x.queue q.val with head := wrapAdd 32 (x.queue q.val).head 1 })
      else s
    let s := s.tallyCount 17 0 c
    .next (if headerInvalid d then s.finish it.id Status.descInvalid else s)

/-- NOP (R308): completes with OK. -/
def execNop (o : Owner) (q : Fin 16) (s : State) : Out :=
  .next (s.onItem o.code q.val 0x01 (fun s it => s.finish it.id Status.ok))

/-- FENCE (R310): its doorbell must be granted; it then stands until FENCE_COMPLETE. Gaffer, Bittern and the manager need no grant. -/
def execFence (o : Owner) (q : Fin 16) (s : State) : Out :=
  .next (s.onItem o.code q.val 0x02 (fun s it =>
    if dbit it.desc 64 ∧ o.code < 64 ∧ !(bit (s.rd (Obj.INST_DB_GRANT o.code)) (dfield it.desc 71 68)) then
      s.finish it.id Status.notGranted
    else s))

/-- FENCE_COMPLETE (R310, R409, R415): the oldest fence of a queue that has started and has nothing before it rings and completes. -/
def execFenceComplete (o : Owner) (q : Fin 16) (s : State) : Out :=
  match (s.items.filter (fun i => decide (i.owner = o.code) && decide (i.queue = q.val))).head? with
  | none => .next s
  | some it =>
    if !it.started || !decide (dType it.desc = 0x02) then .next s
    else if dbit it.desc 64 then
      let r := s.ring (dfield it.desc 71 68) (2 ^ dfield it.desc 76 72)
      .next (r.2.finish it.id r.1)
    else .next (s.finish it.id Status.ok)

/-! ## Trigger slots for instances (R325) -/

/-- The lowest slot of Gaffer's range that is not armed. -/
def State.freeSlot (s : State) : Option Nat := (List.range 224).find? (fun n => !s.armed n)

/-- A slot set up for an owner and armed, if R48 lets it; the status of R48 otherwise, with nothing changed. -/
def State.armFor (s : State) (n owner action arg pos ctl : Nat) : Nat × State :=
  let s1 := (((s.wr (Obj.SLOT_POSITION n) pos).wr (Obj.SLOT_ACTION n) action).wr (Obj.SLOT_ARG n) arg).wr (Obj.SLOT_OWNER n) owner
  let r := s1.writeSlotControl n ctl
  if r.1 = Status.ok then r else (r.1, s)

/-- SLOT_REQUEST (R42, R48, R325): Gaffer arms a RAISE_DOORBELL slot and the detail holds its number. With no slot free the request is
refused with SLOT_BUSY (log entry 11). -/
def execSlotRequest (o : Owner) (q : Fin 16) (s : State) : Out :=
  .next (s.onItemIf o.code q.val 0x03 (fun d => !dbit d 146) (fun s it =>
    let d := it.desc
    let c := o.code
    if c < 64 ∧ 4 ≤ s.slotsArmedFor c then s.finish it.id Status.slotQuota
    else if c < 64 ∧ !(bit (s.rd (Obj.INST_DB_GRANT c)) (dfield d 131 128)) then s.finish it.id Status.notGranted
    else match s.freeSlot with
      | none => s.finish it.id Status.slotBusy
      | some n =>
        let ctl := 1 + 2 * ofBool (dbit d 145) + 4 * ofBool (dbit d 144)
        let r := s.armFor n c 7 (dfield d 140 136 + 256 * dfield d 131 128) (dfield d 127 64) ctl
        if r.1 = Status.ok then r.2.complete it.id Status.ok n else s.finish it.id r.1))

/-- SLOT_REQUEST_CANCEL (R49, R325). -/
def execSlotRequestCancel (o : Owner) (q : Fin 16) (s : State) : Out :=
  .next (s.onItemIf o.code q.val 0x03 (fun d => dbit d 146) (fun s it =>
    let n := dfield it.desc 159 152
    if s.rd (Obj.SLOT_OWNER n) ≠ o.code then s.finish it.id Status.notGranted
    else (s.writeSlotControl n 0).2.finish it.id Status.ok))

/-! ## Dirty-log commands (R326, R328) -/

/-- DIRTY_SWAP: a write of 1 to SWAP, ignored while SWAP_DONE is 0 (R328). -/
def execDirtySwap (i : Fin 64) (s : State) : Out :=
  .next (s.modInst i.val (fun x =>
    if x.dirty.swapDone && !decide (x.state = .free) then { x with dirty := { x.dirty with swapAsked := true } } else x))

/-- DIRTY_CUTOVER: the tick after a swap was asked (R328). -/
def execDirtyCutover (i : Fin 64) (s : State) : Out :=
  .next (s.modInst i.val (fun x =>
    if x.dirty.swapAsked then
      { x with dirty := { x.dirty with swapAsked := false, swapDone := false, activeBuf := !x.dirty.activeBuf,
                                        cutover := s.now, cutoverTime := s.dtime } }
    else x))

/-- DIRTY_SWAP_DONE: every bit of the old buffer is in host memory (R328). The manager zeroes it before it is used again, so its marks go. -/
def execDirtySwapDone (i : Fin 64) (s : State) : Out :=
  .next (s.modInst i.val (fun x =>
    if x.dirty.swapDone then x
    else if x.dirty.activeBuf then { x with dirty := { x.dirty with swapDone := true, marked0 := [] } }
    else { x with dirty := { x.dirty with swapDone := true, marked1 := [] } }))

/-- A write of DIRTYi's registers but for SWAP (R326): ignored for the base, pages and buffers while ENABLE is 1. -/
def DirtyLog.write (l : DirtyLog) (off v : Nat) : DirtyLog :=
  match off with
  | 0x00 => { l with enable := bit v 0, overflow := l.overflow && !bit v 4, swapAsked := l.swapAsked || (bit v 1 && l.swapDone) }
  | 0x08 => if l.enable then l else { l with base := v / 4096 * 4096 }
  | 0x10 => if l.enable then l else { l with pages := field v 25 0 }
  | 0x18 => if l.enable then l else { l with buf0 := v / 64 * 64 }
  | 0x20 => if l.enable then l else { l with buf1 := v / 64 * 64 }
  | _ => l

end Sys2Proof.Machine
end

