-- ==== Sys2Proof/Machine/Formats.lean ====
section
/-! DEFINITION. Pixel formats and sizes (R102 to R104, R149, R272, R678) and the mapping of surface offsets to channels, ranks, banks and
rows (R342 to R350): arithmetic on declared values only. -/
namespace Sys2Proof.Machine

/-! ## Pixel formats -/

/-- How a format is stored: one plane of so many bits a pixel; two planes of YUV (bytes a luma sample, whether chroma is halved
vertically); blocks of so many pixels and bytes. -/
inductive FormatKind where
  | plain (bits : Nat)
  | twoPlane (lumaBytes : Nat) (halfHeight : Bool)
  | blocks (w h bytes : Nat)
  deriving DecidableEq, Repr

/-- ASTC block sizes of codes 0x40 to 0x4D, and 0x50 to 0x5D (R272). -/
def astcBlock (i : Nat) : Option (Nat × Nat) :=
  [(4, 4), (5, 4), (5, 5), (6, 5), (6, 6), (8, 5), (8, 6), (8, 8), (10, 5), (10, 6), (10, 8), (10, 10), (12, 10), (12, 12)][i]?

/-- The format of a code of R149 or R272; absent for a reserved code. -/
def formatKind (c : Nat) : Option FormatKind :=
  match c with
  | 0x01 => some (.plain 24)
  | 0x02 => some (.plain 32)
  | 0x03 => some (.plain 32)
  | 0x04 => some (.plain 32)
  | 0x05 => some (.plain 32)
  | 0x06 => some (.plain 48)
  | 0x07 => some (.plain 64)
  | 0x08 => some (.plain 64)
  | 0x09 => some (.plain 32)
  | 0x0A => some (.plain 32)
  | 0x0B => some (.plain 8)
  | 0x0C => some (.plain 16)
  | 0x0D => some (.plain 16)
  | 0x0E => some (.plain 32)
  | 0x0F => some (.plain 32)
  | 0x10 => some (.twoPlane 1 true)
  | 0x11 => some (.twoPlane 2 true)
  | 0x12 => some (.twoPlane 1 false)
  | 0x13 => some (.twoPlane 2 false)
  | 0x14 => some (.plain 16)
  | 0x18 => some (.plain 64)
  | 0x19 => some (.plain 128)
  | 0x1A => some (.plain 32)
  | 0x1C => some (.plain 32)
  | 0x20 => some (.plain 8)
  | 0x28 => some (.plain 16)
  | 0x29 => some (.plain 32)
  | 0x2A => some (.plain 32)
  | 0x2B => some (.plain 64)
  | 0x30 => some (.blocks 4 4 8)
  | 0x31 => some (.blocks 4 4 16)
  | 0x32 => some (.blocks 4 4 8)
  | 0x33 => some (.blocks 4 4 16)
  | c =>
    if 0x40 ≤ c ∧ c ≤ 0x4D then (astcBlock (c - 0x40)).map (fun b => .blocks b.1 b.2 16)
    else if 0x50 ≤ c ∧ c ≤ 0x5D then (astcBlock (c - 0x50)).map (fun b => .blocks b.1 b.2 16)
    else none

/-- Does a Matte layer take a format (R149)? -/
def layerFormat (c : Nat) : Bool := (Nat.ble 1 c && Nat.ble c 8) || (Nat.ble 0x10 c && Nat.ble c 0x14) || decide (c = 0x20)

/-- Is a layer format a YUV one (R149)? -/
def isYuv (c : Nat) : Bool := Nat.ble 0x10 c && Nat.ble c 0x14

/-- A colour attachment's formats (R272). -/
def colourAttachment (c : Nat) : Bool := (Nat.ble 1 c && Nat.ble c 0x0F) || [0x18, 0x19, 0x1A, 0x1C].contains c

/-- A storage image's formats (R272). -/
def storageImage (c : Nat) : Bool := [0x02, 0x05, 0x07, 0x08, 0x0B, 0x0D, 0x0E, 0x0F, 0x18, 0x19, 0x1A].contains c

/-- Round up to a multiple. -/
def roundUp (v n : Nat) : Nat := divUp v n * n

/-- Bits per pixel a Matte layer reads (R149). -/
def bitsPerPixel (c : Nat) : Nat :=
  match formatKind c with
  | some (.plain b) => b
  | some (.twoPlane l half) => if half then 12 * l else 16 * l
  | some (.blocks w h n) => 8 * n / (w * h)
  | none => 0

/-- Size in bytes of one level of one layer (R678), before rounding to pages. -/
def surfaceBytes (w h c : Nat) : Nat :=
  match formatKind c with
  | some (.plain b) => roundUp (divUp (w * b) 8) 64 * h
  | some (.twoPlane l half) => roundUp (w * l) 64 * (h + if half then divUp h 2 else h)
  | some (.blocks bw bh n) => roundUp (divUp w bw * n) 64 * divUp h bh
  | none => 0

/-- Size in 4 KiB pages, whole 64 KiB tiles for a SPARSE surface (R678). -/
def surfacePages (w h c : Nat) (sparse : Bool) : Nat :=
  if sparse then divUp (surfaceBytes w h c) 65536 * 16 else divUp (surfaceBytes w h c) 4096

/-! ## Reel buffers (R102 to R104) -/

/-- DSC slices across a line: the smallest of 1, 2, 4, 8 that keeps a slice at most 2,560 pixels wide (R103). -/
def codedSlices (w : Nat) : Nat :=
  if w ≤ 2560 then 1 else if w ≤ 5120 then 2 else if w ≤ 10240 then 4 else 8

/-- Size in bytes of a buffer in a STORE_FORMAT (R102, R103). -/
def storeBytes (format w h : Nat) : Nat :=
  match format with
  | 0 => roundUp (3 * w) 64 * h
  | 1 => roundUp (divUp (30 * w) 8) 64 * h
  | f =>
    let n := codedSlices w
    let sw := roundUp (divUp w n) 2
    h * n * roundUp (divUp (sw * (if f = 2 then 12 else 8)) 8) 64

/-- Slices of a buffer (R104). -/
def storeSlices (format w h : Nat) : Nat := divUp (storeBytes format w h) 65536

/-- Bytes a pixel is read at in scan-out, times 8: bits per pixel of a STORE_FORMAT (R101). -/
def storeBits (format : Nat) : Nat :=
  match format with
  | 0 => 24
  | 1 => 30
  | 2 => 12
  | _ => 8

/-- RAW size of a critical rectangle, RAW30 where the output stores RAW30, else RAW24 (R102, R106). -/
def rectBytes (format w h : Nat) : Nat := storeBytes (if format = 1 then 1 else 0) w h

/-! ## Device DRAM (R342 to R350) -/

/-- Raw size of RANK_SIZE in MiB (R343). -/
def rankRawMib (code : Nat) : Nat :=
  match code with
  | 1 => 1024
  | 2 => 2048
  | 3 => 4096
  | 4 => 8192
  | _ => 0

/-- tRFCab of a RANK_SIZE in ns (R343). -/
def tRfcAb (code : Nat) : Nat :=
  match code with
  | 1 => 130
  | 2 => 210
  | 3 => 280
  | 4 => 380
  | _ => 0

/-- Usable size in MiB: 15/16 of the raw size on a rank with inline ECC (R346). -/
def rankUsableMib (code : Nat) (ecc : Bool) : Nat := if ecc then rankRawMib code * 15 / 16 else rankRawMib code

/-- GRANULE codes in bytes (R66). -/
def granuleBytes (g : Nat) : Nat :=
  match g with
  | 0 => 256
  | 1 => 2048
  | _ => 65536

/-- Channels of a set in ascending order. -/
def setChannels (set : Nat) : List Nat := (List.range 8).filter (fun m => bit set m)

/-- The channel and channel address of an offset of a surface (R349). -/
def mapOffset (set granule base o : Nat) : Nat × Nat :=
  let chans := setChannels set
  let n := chans.length
  let g := granuleBytes granule
  let x := base * 65536 + o
  let q := x / g
  (chans.getD (q % n) 0, q / n * g + x % g)

/-- The device DRAM address of a channel address (R350). -/
def deviceAddr (m a : Nat) : Nat := m * 2 ^ 34 + a

/-- The ownership block of a device DRAM address (R350). -/
def ownershipBlock (d : Nat) : Nat := d / (2 * 2 ^ 20)

/-- Subchannel, column burst, bank and row of a rank-local address (R347). -/
structure LinePlace where
  sub : Nat
  burst : Nat
  bank : Nat
  row : Nat
  deriving DecidableEq, Repr

/-- Where a rank-local address lies (R347). -/
def linePlace (ecc : Bool) (a : Nat) : LinePlace :=
  let line := a / 64
  let g := if ecc then line / 60 else line / 64
  let r := if ecc then line % 60 else line % 64
  ⟨r % 2, r / 2, (g % 16) ^^^ (g / 16 % 16) ^^^ (g / 256 % 16), g / 16⟩

/-- The check word of a line's burst: burst 30 + c / 16, word c mod 16 (R347). -/
def checkWordPlace (c : Nat) : Nat × Nat := (30 + c / 16, c % 16)

end Sys2Proof.Machine
end

