-- ==== Sys2Proof/Machine/Memory.lean ====
section
/-! DEFINITION. Bytes held in device DRAM and in the Reel: the list of written bytes, and reads and writes of surfaces through their
placements (R66, R89, R349, R350). A byte nothing has written has no value of its own: a read draws the free value of its address
(log entry 12). -/
namespace Sys2Proof.Machine
open Sys2Proof

/-- The byte of an address, where one was written. -/
def Memory.get : List Host.Cell → Nat → Option (BitVec 8)
  | [], _ => none
  | (a', v) :: m, a => if a = a' then some v else Memory.get m a

/-- The bytes with one written. -/
def Memory.set : List Host.Cell → Nat → BitVec 8 → List Host.Cell
  | [], a, v => [(a, v)]
  | (a', v') :: m, a, v =>
    if a < a' then (a, v) :: (a', v') :: m
    else if a = a' then (a, v) :: m
    else (a', v') :: Memory.set m a v

/-- The canonical form: addresses strictly rising. An unlisted address has no value, so no entry can equal it. -/
def Memory.wf : List Host.Cell → Bool
  | [] => true
  | [_] => true
  | (a, _) :: (a', v') :: m => decide (a < a') && Memory.wf ((a', v') :: m)

/-- The bytes without those of some addresses. -/
def Memory.drop (m : List Host.Cell) (p : Nat → Bool) : List Host.Cell := m.filter (fun c => !p c.1)

/-- The byte read at an address (R383, R622: contents that nothing has written are unpredictable). -/
def State.byte (s : State) (a : Nat) : Nat :=
  match Memory.get s.mem a with
  | some v => v.toNat
  | none => Config.freeByte a % 256

/-- The state with a byte written. -/
def State.setByte (s : State) (a : Nat) (v : BitVec 8) : State := { s with mem := Memory.set s.mem a v }

/-- The first address of the Reel among those of `State.mem`: above every device DRAM address (2³⁷). -/
def reelBase : Nat := 0x2000000000

/-- Where byte `o` of a Reel slice lies among the addresses of `State.mem`. -/
def reelAddr (slice o : Nat) : Nat := reelBase + slice * 65536 + o

/-- Is an address one of a Reel slice of a list? -/
def inSlices (slices : List Nat) (a : Nat) : Bool := Nat.ble (reelBase) a && slices.contains ((a - reelBase) / 65536)

/-- A surface. -/
def State.surf (s : State) (n : Nat) : Surface := Tab.get {} s.grip.surfaces n
/-- The state with a surface set. -/
def State.setSurf (s : State) (n : Nat) (x : Surface) : State :=
  { s with grip := { s.grip with surfaces := Tab.set s.grip.surfaces n x } }
/-- The state with a surface changed. -/
def State.modSurf (s : State) (n : Nat) (f : Surface → Surface) : State := s.setSurf n (f (s.surf n))

/-- Bytes of a surface. -/
def Surface.bytes (x : Surface) : Nat := x.sizePages * 4096

/-- The device DRAM address of an offset in a placement (R349, R350). -/
def Placement.addr (p : Placement) (o : Nat) : Nat :=
  let c := mapOffset p.channels p.granule p.base o
  deviceAddr c.1 c.2

/-- Where an offset of a surface lies for a new reader: in the Reel, in a bound tile, at its placement, or at its new placement after a
cut-over (R71, R89, R297). An unbound tile has no place. -/
def Surface.addrOf (x : Surface) (o : Nat) : Option Nat :=
  if x.state = .reel then (x.reelSlices[o / 65536]?).map (fun sl => reelAddr sl (o % 65536))
  else if x.sparse then
    (x.tiles.find? (fun t => decide (t.1 = o / 65536))).map (fun t => deviceAddr t.2.1 (t.2.2 * 65536 + o % 65536))
  else match x.migration with
    | some g => some (if g.cutover then g.target.addr o else x.place.addr o)
    | none => some (x.place.addr o)

/-- Every place that a write of an offset reaches: both placements from the copy pointer's passage on (R89). -/
def Surface.writeAddrs (x : Surface) (o : Nat) : List Nat :=
  match x.addrOf o, x.migration with
  | none, _ => []
  | some a, none => [a]
  | some a, some g => if g.copyDone || Nat.blt o g.copied then [x.place.addr o, g.target.addr o] else [a]

/-- A byte of a surface; an offset without a place reads zero (R260, R297). -/
def State.surfByte (s : State) (n o : Nat) : Nat :=
  match (s.surf n).addrOf o with
  | some a => s.byte a
  | none => 0

/-- `k` bytes of a surface from an offset, little-endian. -/
def State.surfBytes (s : State) (n o : Nat) : Nat → Nat
  | 0 => 0
  | k + 1 => s.surfByte n o + 256 * s.surfBytes n (o + 1) k

/-- The state with a byte of a surface written. -/
def State.surfWrite (s : State) (n o : Nat) (v : BitVec 8) : State := s.each ((s.surf n).writeAddrs o) (fun s a => s.setByte a v)

/-- The state with a string of bytes written to a surface. -/
def State.surfWriteList (s : State) (n o : Nat) : List (BitVec 8) → State
  | [] => s
  | v :: vs => (s.surfWrite n o v).surfWriteList n (o + 1) vs

/-! ## Poisoned lines (R369, R370) -/

/-- Is the line at an offset of a surface poisoned? -/
def State.linePoisoned (s : State) (n o : Nat) : Bool :=
  match (s.surf n).addrOf o with
  | some a => s.dram.poisoned.contains (a / 64)
  | none => false

/-- Does a range of a surface hold a poisoned line? -/
def State.rangePoisoned (s : State) (n o k : Nat) : Bool :=
  !s.dram.poisoned.isEmpty && (List.range (divUp (o % 64 + k) 64)).any (fun i => s.linePoisoned n (o / 64 * 64 + 64 * i))

/-- One line's part of a write to a surface: a full write clears poison, a part of a poisoned line is discarded and the writer fails. -/
def State.storeLine (s : State) (n o : Nat) (bytes : List (BitVec 8)) : State × Bool :=
  if s.linePoisoned n o then
    if o % 64 = 0 ∧ bytes.length = 64 then
      match (s.surf n).addrOf o with
      | some a => ({ s with dram := { s.dram with poisoned := s.dram.poisoned.filter (fun l => !decide (l = a / 64)) } }.surfWriteList n o bytes, true)
      | none => (s, true)
    else (s, false)
  else (s.surfWriteList n o bytes, true)

/-- A write to a surface line by line, in at most `fuel` lines: the state, and whether no part was discarded. -/
def State.storeLines (s : State) (n : Nat) : Nat → Nat → List (BitVec 8) → State × Bool
  | 0, _, _ => (s, true)
  | fuel + 1, o, bytes =>
    match bytes with
    | [] => (s, true)
    | _ =>
      let k := 64 - o % 64
      let r := s.storeLine n o (bytes.take k)
      let r' := r.1.storeLines n fuel (o + k) (bytes.drop k)
      (r'.1, r.2 && r'.2)

/-- A string of bytes written to a surface under the rules of poisoned lines: the state, and whether no part was discarded. -/
def State.store (s : State) (n o : Nat) (bytes : List (BitVec 8)) : State × Bool :=
  s.storeLines n (bytes.length / 64 + 2) o bytes

/-- The offset of a surface that a device DRAM address holds, in a placement of so many bytes (the inverse of R349). -/
def Placement.offsetOf (p : Placement) (bytes a : Nat) : Option Nat :=
  let m := a / 2 ^ 34
  let c := a % 2 ^ 34
  let chans := setChannels p.channels
  let g := granuleBytes p.granule
  match chans.findIdx? (fun x => decide (x = m)) with
  | none => none
  | some i =>
    let x := (c / g * chans.length + i) * g + c % g
    if p.base * 65536 ≤ x ∧ x < p.base * 65536 + bytes then some (x - p.base * 65536) else none

/-- Is a device DRAM address part of a placement? -/
def Placement.covers (p : Placement) (bytes a : Nat) : Bool := (p.offsetOf bytes a).isSome && Nat.blt a (reelBase)

/-- The bytes after a copy from one placement of a surface to another: what the old one holds stands at the new one, and nothing else does. -/
def Memory.copy (m : List Host.Cell) (src dst : Placement) (bytes : Nat) : List Host.Cell :=
  m.foldl (fun acc c =>
    match src.offsetOf bytes c.1 with
    | some o => if c.1 < reelBase then Memory.set acc (dst.addr o) c.2 else acc
    | none => acc) (Memory.drop m (fun a => dst.covers bytes a))

/-- The bytes after a surface moved from its Reel slices to a placement. -/
def Memory.unreel (m : List Host.Cell) (slices : List Nat) (dst : Placement) (bytes : Nat) : List Host.Cell :=
  m.foldl (fun acc c =>
    if inSlices slices c.1 then
      match slices.findIdx? (fun x => decide (x = (c.1 - reelBase) / 65536)) with
      | some i => Memory.set acc (dst.addr (i * 65536 + c.1 % 65536)) c.2
      | none => acc
    else acc) (Memory.drop m (fun a => dst.covers bytes a || inSlices slices a))

/-- The poisoned lines after a copy from one placement of a surface to another: what the old one holds poisoned is poisoned at the new one (R377). -/
def poisonCopy (lines : List Nat) (src dst : Placement) (bytes : Nat) : List Nat :=
  lines.foldl (fun acc l =>
    match src.offsetOf bytes (64 * l) with
    | some o => (dst.addr o / 64) :: acc
    | none => acc) (lines.filter (fun l => !dst.covers bytes (64 * l)))

/-- The bytes of a surface whose offset a predicate takes are no longer known: what stands there is unpredictable (R259, R383). -/
def State.forgetBytes (s : State) (n : Nat) (p : Nat → Bool) : State :=
  let x := s.surf n
  { s with mem := Memory.drop s.mem (fun a =>
      match x.place.offsetOf x.bytes a with
      | some o => Nat.blt a reelBase && p o
      | none => false) }

end Sys2Proof.Machine
end

