-- ==== Sys2Proof/Machine/Place.lean ====
section
/-! DEFINITION. Where Grip may put data (R66 to R71, R95 to R104, R178 to R182, R384): rates and loads, what lies where in device DRAM, the
choice of a channel set and a base, and the free slices of the Reel. -/
namespace Sys2Proof.Machine
open Sys2Proof

/-! ## Outputs' sizes and rates (R101, R178 to R182) -/

/-- An output channel. -/
def State.out (s : State) (k : Nat) : Output := Tab.get {} s.outs k
/-- The state with an output channel set. -/
def State.setOut (s : State) (k : Nat) (x : Output) : State := { s with outs := Tab.set s.outs k x }
/-- The state with an output channel changed. -/
def State.modOut (s : State) (k : Nat) (f : Output → Output) : State := s.setOut k (f (s.out k))

/-- Is a pair locked (R206)? `k` is either member. -/
def State.paired (s : State) (k : Nat) : Bool := bit (s.rd Obj.OUT_PAIR_LOCK) (k / 2)
/-- Is an output the odd member of a locked pair, which follows the even one (R206, R207)? -/
def State.pairOdd (s : State) (k : Nat) : Bool := s.paired k && decide (k % 2 = 1)
/-- The outputs that one commit on `k` covers (R208). -/
def State.members (s : State) (k : Nat) : List Nat := if s.paired k then [k / 2 * 2, k / 2 * 2 + 1] else [k]
/-- The output whose intent, commits and shadow govern `k` (R206 to R208). -/
def State.governor (s : State) (k : Nat) : Nat := if s.paired k then k / 2 * 2 else k

/-- The timing entry in force of an output (R181). -/
def State.timing (s : State) (k : Nat) : Nat := s.rd (Obj.OUT_TIMING k)

/-- VT_MIN of a timing entry at a highest rate in 0.01 Hz (R182). -/
def vtMin (t rateMax : Nat) : Nat :=
  if rateMax = 0 then timVMin t else Nat.max (timVMin t) (divUp (timPclk t * 100000) (timHTotal t * rateMax))

/-- VT_MAX of a timing entry between two rates (R182). -/
def vtMax (t rateMin rateMax : Nat) : Nat :=
  if rateMin = 0 then vtMin t rateMax
  else Nat.max (vtMin t rateMax) (Nat.min (timVMax t) (timPclk t * 100000 / (timHTotal t * rateMin)))

/-- The active pixel load of a timing entry as a fraction, in pixels a second (R179). -/
def pixelLoad (t vt : Nat) : Nat × Nat := (timHActive t * timVActive t * timPclk t * 1000, timHTotal t * vt)

/-- A sum of fractions. -/
def fracSum : List (Nat × Nat) → Nat × Nat
  | [] => (0, 1)
  | (a, b) :: l => let r := fracSum l; if b = 0 then r else (a * r.2 + r.1 * b, b * r.2)

/-- Does an output count in the sum of R179: an accepted intent, its own or its pair's, and OUT_ENABLE 1? -/
def State.loads (s : State) (k : Nat) : Bool :=
  decide ((s.out (s.governor k)).intent ≠ none) && decide (s.rd (Obj.OUT_ENABLE k) = 1)

/-- The loads of R179, output by output, but for the outputs that `skip` names. -/
def State.loadSum (s : State) (skip : Nat → Bool) : Nat × Nat :=
  fracSum ((List.range 12).filterMap (fun k =>
    if s.loads k && !skip k then some (pixelLoad (s.timing k) (s.rd (Obj.OUT_VT_MIN k))) else none))

/-- Is a load above 6.0 Gpx/s (R179)? -/
def overBudget (f : Nat × Nat) : Bool := Nat.blt (6000000000 * f.2) f.1

/-- OUT_PIXEL_LOAD: the sum in Mpx/s, rounded up (R179, R219). -/
def State.pixelLoadNow (s : State) : Nat := let f := s.loadSum (fun _ => false); divUp f.1 (f.2 * 1000000)

/-- Scan-out read rate of an output in bytes a second (R69, R98). -/
def State.scanRate (s : State) (k : Nat) : Nat :=
  match (s.out (s.governor k)).intent with
  | some i =>
    let f := pixelLoad (s.timing k) (s.rd (Obj.OUT_VT_MIN k))
    f.1 * storeBits i.storeFormat / (8 * f.2)
  | none => 0

/-- The backing of an output. -/
def State.backing (s : State) (k : Nat) : Backing := Tab.get {} s.grip.backing k
/-- The state with the backing of an output set. -/
def State.setBacking (s : State) (k : Nat) (b : Backing) : State :=
  { s with grip := { s.grip with backing := Tab.set s.grip.backing k b } }
/-- Is an output DRAM-fed (R73)? -/
def State.dramFed (s : State) (k : Nat) : Bool := (s.backing k).dram.isSome

/-! ## Health of channels and banks (R81 to R84) -/

/-- A unit of the health table. -/
def State.unit (s : State) (n : Nat) : Unit := Tab.get {} s.grip.units n
/-- The state with a unit of the health table set. -/
def State.setUnit (s : State) (n : Nat) (u : Unit) : State := { s with grip := { s.grip with units := Tab.set s.grip.units n u } }

/-- The entry of a memory channel. -/
def unitMc (m : Nat) : Nat := m
/-- The entry of a Matte engine. -/
def unitMe (e : Nat) : Nat := 8 + e
/-- The entry of a Fen cluster. -/
def unitFc (c : Nat) : Nat := 20 + c
/-- The entry of a Reel bank. -/
def unitBank (b : Nat) : Nat := 44 + b
/-- The first entry and the number of entries of a unit's type. -/
def unitType (n : Nat) : Nat × Nat := if n < 8 then (0, 8) else if n < 20 then (8, 12) else if n < 44 then (20, 24) else (44, 48)

/-- Is a unit excluded: EXCLUDED or FAILED, which Grip treats alike (R84)? -/
def Health.leftOut : Health → Bool
  | .excluded | .failed => true
  | _ => false

/-- Health STATE as R81 codes it. -/
def Health.code : Health → Nat
  | .ok => 0
  | .slow => 1
  | .excluded => 2
  | .failed => 3
  | .offline => 4
  | .unjudged => 5

/-- May a channel take new placements: neither excluded nor OFFLINE, and enabled (R69, R344)? -/
def State.chanOpen (s : State) (m : Nat) : Bool :=
  bit s.memConf.channels m && !(s.unit (unitMc m)).health.leftOut && !decide ((s.unit (unitMc m)).health = .offline)

/-- Does a bank take slices (R98)? -/
def State.bankOpen (s : State) (b : Nat) : Bool :=
  match (s.unit (unitBank b)).health with
  | .ok | .unjudged => true
  | _ => false

/-! ## Room in device DRAM (R68 to R70, R342 to R350, R384) -/

/-- Usable bytes that a rank adds to its channel's address space: none for the spare (R346, R347, R373). -/
def State.rankBytes (s : State) (r : Nat) : Nat :=
  if s.memConf.spare = r then 0
  else rankUsableMib (s.memConf.sizes.getD r 0) (bit s.memConf.ecc r) * 2 ^ 20

/-- The rank that holds the data of a rank's addresses: the spare once it has taken its place (R374, R376). -/
def State.carrier (s : State) (r : Nat) : Nat :=
  if s.rd Obj.MEM_SPARE_STATE = 3 ∧ s.rd Obj.MEM_SPARE_SOURCE = r then s.memConf.spare else r

/-- May Grip place new data in a rank: the rank that holds its data is ACTIVE; for CRIT 3 with inline ECC (R70, R372, R374)? -/
def State.rankOpen (s : State) (r : Nat) (crit3 : Bool) : Bool :=
  decide (s.rd (Obj.RANK_STATE (s.carrier r)) = 1) && (!crit3 || bit s.memConf.ecc r)

/-- Enabled channels. -/
def State.enabledChannels (s : State) : Nat := ((List.range 8).filter (fun m => bit s.memConf.channels m)).length

/-- The end of the secure region on each enabled channel (R384). -/
def State.secureTop (s : State) : Nat :=
  if s.enabledChannels = 0 then 0
  else divUp (s.rd Obj.MEM_WATERMARK * 0x10000000) (s.enabledChannels * 0x200000) * 0x200000

/-- The channel address ranges of a channel in which Grip may place data, in whole ownership blocks (R350, R385). -/
def State.chanRanges (s : State) (m : Nat) (crit3 : Bool) : List (Nat × Nat) :=
  let u0 := s.rankBytes (2 * m)
  let u1 := s.rankBytes (2 * m + 1)
  let lo := s.secureTop
  let whole := fun (a b : Nat) => (Nat.max lo (roundUp a 0x200000), b / 0x200000 * 0x200000)
  match s.rankOpen (2 * m) crit3, s.rankOpen (2 * m + 1) crit3 with
  | true, true => [whole 0 (u0 + u1)]
  | true, false => [whole 0 u0]
  | false, true => [whole u0 (u0 + u1)]
  | false, false => []

/-- Bytes of an owner on a channel. -/
structure Extent where
  owner : Nat
  chan : Nat
  lo : Nat
  hi : Nat
  deriving DecidableEq, Repr

/-- The extents of a placement (R349: the same range of channel addresses on every channel of the set). -/
def Placement.extents (p : Placement) (owner bytes : Nat) : List Extent :=
  let chans := setChannels p.channels
  let n := chans.length
  if n = 0 || bytes = 0 then []
  else
    let g := granuleBytes p.granule
    let lo := p.base * 65536 / n
    chans.map (fun m => ⟨owner, m, lo, lo + divUp bytes (n * g) * g⟩)

/-- The extents of a surface: its placement, the one it migrates to, and its bound tiles. -/
def Surface.extents (x : Surface) : List Extent :=
  if x.state = .free then []
  else if x.sparse then x.tiles.map (fun t => ⟨x.owner, t.2.1, t.2.2 * 65536, (t.2.2 + 1) * 65536⟩)
  else
    (if x.state = .reel then [] else x.place.extents x.owner x.bytes)
      ++ (match x.migration with | some g => g.target.extents x.owner x.bytes | none => [])

/-- The extents of an output's DRAM buffers, which are Gaffer's (R73, R129). -/
def DramHold.extents (d : DramHold) : List Extent := [⟨0xC0, d.channel, d.base * 65536, (d.base + 2 * d.units) * 65536⟩]

/-- The DRAM buffers that an output holds or is about to. -/
def Backing.drams (b : Backing) : List DramHold := b.dram.toList ++ b.dramNext.toList ++ b.toDram.toList

/-- Everything Grip holds in device DRAM. -/
def State.extents (s : State) : List Extent :=
  s.grip.surfaces.flatMap (fun e => e.2.extents)
    ++ s.grip.backing.flatMap (fun e => e.2.drams.flatMap DramHold.extents)
    ++ s.grip.areas.flatMap (fun a => a.place.extents a.owner a.bytes)

/-- Does a range of channel addresses lie free for an owner: inside a permitted range, clear of every extent, and in blocks that no other
owner has (R68)? -/
def rangeFree (ranges : List (Nat × Nat)) (xs : List Extent) (owner chan lo hi : Nat) : Bool :=
  ranges.any (fun r => Nat.ble r.1 lo && Nat.ble hi r.2)
    && xs.all (fun x =>
      !decide (x.chan = chan)
        || (if x.owner = owner then Nat.ble hi x.lo || Nat.ble x.hi lo
            else Nat.ble (roundUp hi 0x200000) (x.lo / 0x200000 * 0x200000) || Nat.ble (roundUp x.hi 0x200000) (lo / 0x200000 * 0x200000)))

/-- A channel address at which `bytes` of an owner fit on every channel of a list, in units of `u`: Grip's own choice where that fits, else the lowest
(R69 and R349 do not say which; log entry 13). -/
def State.findFit (s : State) (xs : List Extent) (owner : Nat) (crit3 : Bool) (chans : List Nat) (bytes u : Nat) : Option Nat :=
  let starts := (chans.flatMap (fun m => (s.chanRanges m crit3).map Prod.fst))
    ++ xs.flatMap (fun x => if chans.contains x.chan then [x.hi, roundUp x.hi 0x200000] else [])
  let starts := starts.map (fun a => roundUp a u)
  let fits := fun (lo : Nat) => chans.all (fun m => rangeFree (s.chanRanges m crit3) xs owner m lo (lo + bytes))
  let asked := roundUp (Config.placeAt chans bytes starts) u
  (leastBy id (starts.filter fits)).map (fun lo => if fits asked then asked else lo)

/-- Sublists of a length, in the order of their places in the list. -/
def choose {α : Type} : Nat → List α → List (List α)
  | 0, _ => [[]]
  | _ + 1, [] => []
  | n + 1, x :: xs => (choose n xs).map (fun l => x :: l) ++ choose (n + 1) xs

/-- A list in the order of a key, equal keys in their order. -/
def sortBy {α : Type} (key : α → Nat) : List α → List α
  | [] => []
  | x :: xs => ins x (sortBy key xs)
where
  /-- The list with an element put before the first that has a greater key or the same. -/
  ins (x : α) : List α → List α
    | [] => [x]
    | y :: ys => if key x ≤ key y then x :: y :: ys else y :: ins x ys

/-- The load of a channel: declared traffic of every surface on it divided by the channels of its set, in eighths of a byte a second (R69). -/
def State.chanLoad (s : State) (m : Nat) : Nat :=
  sumNat (s.grip.surfaces.map (fun e =>
      let x := e.2
      if x.state = .free ∨ x.state = .reel then 0
      else if bit x.place.channels m then (x.readRate + x.writeRate) * 8000000 / (setChannels x.place.channels).length
      else 0))
    + sumNat (s.grip.backing.map (fun e => if e.2.drams.any (fun d => decide (d.channel = m)) then 8 * s.scanRate e.1 else 0))

/-- Channels that hold, or are about to hold, the buffers of a DRAM-fed output (R70, R73). -/
def State.dramFedChannel (s : State) (m : Nat) : Bool :=
  s.grip.backing.any (fun e => e.2.drams.any (fun d => decide (d.channel = m)))

/-- The open channels for a placement, least loaded first, lower number first among equals (R69, R70). -/
def State.eligible (s : State) (crit3 : Bool) : List Nat :=
  sortBy s.chanLoad ((List.range 8).filter (fun m => s.chanOpen m && !(crit3 && s.dramFedChannel m)))

/-- A set of channels as its mask. -/
def maskOf (l : List Nat) : Nat := l.foldl (fun a m => a ||| 2 ^ m) 0

/-- Channels of a set that a placement wants: halved until so many are there (log entry 13). -/
def setSize (want have_ : Nat) : Nat :=
  if want ≤ have_ then want else if want / 2 ≤ have_ ∧ want ≠ 1 then want / 2 else if want / 4 ≤ have_ ∧ 4 ≤ want then want / 4 else 1

/-- A placement of `bytes` for an owner in a granule and so many channels, if there is room (R69, R349). -/
def State.findPlace (s : State) (owner bytes granule want : Nat) (crit3 : Bool) (open_ : List Nat) : Option Placement :=
  let n := setSize want open_.length
  let g := granuleBytes granule
  let u := Nat.max g (65536 / n)
  let xs := s.extents
  (choose n open_).findSome? (fun chans =>
    (s.findFit xs owner crit3 chans (divUp bytes (n * g) * g) u).map (fun lo => ⟨maskOf chans, granule, lo * n / 65536⟩))

/-- Granule and channels of a surface (R69). -/
def Surface.wants (x : Surface) : Nat × Nat :=
  if x.crit = 3 then (1, 2)
  else if x.sparse then (2, 8)
  else if x.outReaders ≠ 0 then (if x.bytes ≤ 16 * 2 ^ 20 then (1, 2) else (1, 4))
  else if bit x.engines 1 || bit x.engines 2 then (if 4000 < x.readRate then (0, 8) else (0, 4))
  else (2, 1)

/-- A placement for a surface, which is not on a DRAM-fed channel or outside ECC when CRIT 3 (R69, R70). A SPARSE set takes no DRAM until
tiles are bound. -/
def State.placeSurface (s : State) (x : Surface) : Option Placement :=
  let open_ := s.eligible (decide (x.crit = 3))
  if x.sparse then (if open_ = [] then none else some ⟨maskOf open_, 2, 0⟩)
  else s.findPlace x.owner x.bytes x.wants.1 x.wants.2 (decide (x.crit = 3)) open_

/-! ## The Reel (R95 to R104) -/

/-- GRIP_REEL_POOL_SLICES (R100). -/
def State.reelPool (s : State) : Nat := 3040 - s.rd Obj.REEL_BITTERN_SLICES

/-- The slices of a hold. -/
def ReelHold.slices (h : ReelHold) : List Nat := h.buffers.flatten ++ h.rects.flatten

/-- The slices that an output holds. -/
def Backing.slices (b : Backing) : List Nat :=
  b.now.slices ++ (match b.next with | some h => h.slices | none => []) ++ (match b.toReel with | some h => h.slices | none => [])

/-- Slices in use, in the pool. -/
def State.reelUsed (s : State) : List Nat :=
  s.grip.backing.flatMap (fun e => e.2.slices) ++ s.grip.surfaces.flatMap (fun e => e.2.reelSlices)

/-- Is a slice free and in a bank that takes slices? -/
def State.sliceOpen (s : State) (used : List Nat) (sl : Nat) : Bool :=
  Nat.blt sl s.reelPool && !used.contains sl && s.bankOpen (sl / 64)

/-- Free slices of the pool, whatever their bank (GRIP_REEL_FREE_SLICES). -/
def State.reelFree (s : State) : Nat :=
  let used := s.reelUsed
  ((List.range s.reelPool).filter (fun sl => !used.contains sl)).length

/-- Free slices of each open bank, lowest first. -/
def State.freeBanks (s : State) : List (List Nat) :=
  let used := s.reelUsed
  (List.range 48).map (fun b => (List.range 64).filterMap (fun i => if s.sliceOpen used (64 * b + i) then some (64 * b + i) else none))

/-- One slice from each bank in turn, until so many are taken (R98). -/
def takeRound : List (List Nat) → Nat → List Nat × List (List Nat)
  | [], _ => ([], [])
  | b :: bs, 0 => ([], b :: bs)
  | [] :: bs, n + 1 => let r := takeRound bs (n + 1); (r.1, [] :: r.2)
  | (x :: b) :: bs, n + 1 => let r := takeRound bs n; (x :: r.1, b :: r.2)

/-- `n` slices from successive banks, wrapping (R98), in at most `fuel` rounds; banks are taken from bank 0 up (log entry 14). -/
def takeSlices : Nat → List (List Nat) → Nat → Option (List Nat × List (List Nat))
  | _, banks, 0 => some ([], banks)
  | 0, _, _ + 1 => none
  | fuel + 1, banks, n + 1 =>
    let r := takeRound banks (n + 1)
    if r.1 = [] then none
    else match takeSlices fuel r.2 (n + 1 - r.1.length) with
      | some (l, b) => some (r.1 ++ l, b)
      | none => none

/-- Slices for a list of buffers, each from successive banks. -/
def takeBuffers (banks : List (List Nat)) : List Nat → Option (List (List Nat) × List (List Nat))
  | [] => some ([], banks)
  | n :: ns =>
    match takeSlices 64 banks n with
    | none => none
    | some (b, banks) =>
      match takeBuffers banks ns with
      | some (bs, r) => some (b :: bs, r)
      | none => none

/-- The sum of all scan-out read rates from the Reel and of the READ_RATE of every surface held there, in MB/s (R98). -/
def State.reelLoad (s : State) : Nat :=
  divUp (sumNat ((List.range 12).map (fun k => if s.loads k && !s.dramFed k then s.scanRate k else 0))) 1000000
    + sumNat (s.grip.surfaces.map (fun e => if e.2.state = .reel then e.2.readRate else 0))

end Sys2Proof.Machine
end

