-- ==== Sys2Proof/Machine/Backing.lean ====
section
/-! DEFINITION. What backs an output (R72 to R76, R110 to R112): Reel slices for its buffers and critical rectangles, DRAM buffers in a
fall-back, evictions, switches and returns. -/
namespace Sys2Proof.Machine
open Sys2Proof

/-! ## Demands -/

/-- What an output needs in the Reel: slices of each of its two buffers, rectangle copies, and slices of each copy (R72, R104, R106). -/
structure Need where
  output : Nat
  buffer : Nat
  copies : Nat
  copySlices : Nat
  deriving DecidableEq, Repr

/-- The need of one member of a declared output. -/
def State.needOf (s : State) (o timing format rects : Nat) : Need :=
  ⟨o, storeSlices format (timHActive timing) (timVActive timing), 2 * rects, s.rd Obj.REEL_CRIT_RECT_SLICES⟩

/-- Slices of a need; a DRAM-fed output needs only its rectangle copies. -/
def Need.total (n : Need) (dram : Bool) : Nat := (if dram then 0 else 2 * n.buffer) + n.copies * n.copySlices

/-- Is an output's critical layer enabled: position 15 of its shadow other than OFF (R72, R143)? -/
def State.criticalOn (s : State) (k : Nat) : Bool :=
  decide (dfield (Tab.get (0, 0) s.shadow (16 * s.governor k + 15)).1 73 72 ≠ 0)

/-- The place of an output in the order of R72, least first to move. -/
def State.moveKey (s : State) (k priority latency : Nat) : Nat :=
  ofBool (s.criticalOn k) * 1000 + priority * 100 + latency * 20 + (11 - k)

/-- The order of an output with an accepted intent. -/
def State.moveKeyOf (s : State) (k : Nat) : Nat :=
  match (s.out (s.governor k)).intent with
  | some i => s.moveKey k i.priority i.latency
  | none => 0

/-- Free slices of open banks. -/
def State.openSlices (s : State) : Nat := sumNat (s.freeBanks.map List.length)

/-! ## Evictions (R72, step 1) -/

/-- A surface held in the Reel moves to DRAM, if there is room; its slices are free at once. -/
def State.evict (s : State) (n : Nat) : State :=
  let x := s.surf n
  match s.placeSurface { x with state := .placed } with
  | none => s
  | some p =>
    let s := { s.setSurf n { x with state := .placed, place := p, reelSlices := [] } with
      mem := Memory.unreel s.mem x.reelSlices p x.bytes }
    (s.logEvent Ev.reelEvict x.owner [d16 n]).logEvent Ev.reelFree x.owner [d16 n, d32 x.reelSlices.length]

/-- Surfaces held in the Reel, lowest CRIT first and within a CRIT lowest READ_RATE first. -/
def State.evictOrder (s : State) : List Nat :=
  (sortBy (fun e => e.2.crit * 2 ^ 40 + e.2.readRate) (s.grip.surfaces.filter (fun e => decide (e.2.state = .reel)))).map Prod.fst

/-- Surfaces are evicted in order until so many slices are free. -/
def State.evictUntil (s : State) (want : Nat) : List Nat → State
  | [] => s
  | n :: ns => if want ≤ s.openSlices then s else (s.evict n).evictUntil want ns

/-! ## DRAM buffers (R73) -/

/-- Two DRAM buffers of so many 64 KiB units on the least-loaded eligible channel that holds no other output's. -/
def State.findDram (s : State) (units : Nat) : Option DramHold :=
  let open_ := s.eligible true
  open_.findSome? (fun m =>
    (s.findFit s.extents 0xC0 false [m] (2 * units * 65536) 65536).map (fun lo => ⟨m, lo / 65536, units⟩))

/-- Outputs that are DRAM-fed or about to be. -/
def State.dramOutputs (s : State) : Nat :=
  (s.grip.backing.filter (fun e => e.2.dram.isSome || e.2.toDram.isSome)).length

/-- The slices of an output's buffers that a move to DRAM frees, once it is made. -/
def Backing.leaving (b : Backing) : List Nat := if b.toDram.isSome then b.now.buffers.flatten else []

/-- Slices in use once every move that waits is made. -/
def State.usedAfterMoves (s : State) : List Nat :=
  let leaving := s.grip.backing.flatMap (fun e => e.2.leaving)
  s.reelUsed.filter (fun sl => !leaving.contains sl)

/-- Free slices by open bank, once every move that waits is made. -/
def State.banksAfterMoves (s : State) : List (List Nat) :=
  let used := s.usedAfterMoves
  (List.range 48).map (fun b => (List.range 64).filterMap (fun i => if s.sliceOpen used (64 * b + i) then some (64 * b + i) else none))

/-! ## Moving outputs (R72, step 2) -/

/-- One candidate of R72's second step: an output that runs from the Reel, or the declared one. -/
structure Mover where
  output : Nat
  declared : Bool
  key : Nat
  deriving DecidableEq, Repr

/-- The outcome of the second step: the state with moves under way, the outputs moved in order, and those declared that fall back. -/
structure Moves where
  s : State
  moved : List Nat
  own : List Nat

/-- Candidates move in order until the declared needs fit; absent when they never do (R72, R75). -/
def Moves.run (m : Moves) (needs : List Need) : List Mover → Option Moves
  | [] => if sumNat (needs.map (fun n => n.total (m.own.contains n.output))) ≤ sumNat (m.s.banksAfterMoves.map List.length) then some m else none
  | c :: cs =>
    if sumNat (needs.map (fun n => n.total (m.own.contains n.output))) ≤ sumNat (m.s.banksAfterMoves.map List.length) then some m
    else
      let units := if c.declared then
          (match needs.find? (fun n => decide (n.output = c.output)) with | some n => n.buffer | none => 0)
        else match (m.s.backing c.output).now.buffers.head? with | some b => b.length | none => 0
      if 8 ≤ m.s.dramOutputs then none
      else match m.s.findDram units with
        | none => none
        | some d =>
          let s := m.s.setBacking c.output { m.s.backing c.output with toDram := some d }
          Moves.run ⟨s, m.moved ++ [c.output], if c.declared then m.own ++ [c.output] else m.own⟩ needs cs

/-- The candidates, in the order of R72: outputs scanned from the Reel, and the declared members at their own place. -/
def State.movers (s : State) (needs : List Need) (priority latency : Nat) : List Mover :=
  let own := needs.map (fun n => Mover.mk n.output true (s.moveKey n.output priority latency))
  let others := (List.range 12).filterMap (fun k =>
    let b := s.backing k
    if (needs.any (fun n => decide (n.output = k))) || b.dram.isSome || b.toDram.isSome || decide (b.now.buffers = []) then none
    else some (Mover.mk k false (s.moveKeyOf k)))
  sortBy Mover.key (own ++ others)

/-- Slices for the needs: buffers, unless DRAM-fed, and rectangle copies. -/
def allocNeeds (format : Nat) (own : List Nat) (banks : List (List Nat)) : List Need → Option (List (Nat × ReelHold))
  | [] => some []
  | n :: ns =>
    let bufs := if own.contains n.output then [] else [n.buffer, n.buffer]
    match takeBuffers banks (bufs ++ List.replicate n.copies n.copySlices) with
    | none => none
    | some (l, banks) =>
      match allocNeeds format own banks ns with
      | some r => some ((n.output, ⟨format, l.take bufs.length, l.drop bufs.length⟩) :: r)
      | none => none

/-- Slices an output reports (REEL_OUT_SLICES). -/
def State.outSlices (s : State) (k : Nat) : Nat := (s.backing k).slices.length

/-- The buffers of the declared members are allocated and the moves they need begun (R72, R73, R75, R112): `next` when a change of format
waits for its first flip. Absent when the output cannot be backed. The first list names the outputs moved, in order; the second the declared
members that fall back themselves. -/
def State.backOutput (s : State) (needs : List Need) (format priority latency : Nat) (next : Bool) :
    Option (State × List Nat × List Nat) :=
  let s := s.evictUntil (sumNat (needs.map (fun n => n.total false))) s.evictOrder
  match Moves.run ⟨s, [], []⟩ needs (s.movers needs priority latency) with
  | none => none
  | some m =>
    match allocNeeds format m.own m.s.banksAfterMoves needs with
    | none => none
    | some holds =>
      let s := m.s.each holds (fun s h =>
        let b := s.backing h.1
        let s := s.setBacking h.1 (if next then { b with next := some h.2 } else { b with now := h.2 })
        if h.2.slices = [] then s else s.logEvent Ev.reelAlloc noOwner [d16 h.1, d32 h.2.slices.length])
      some (s, m.moved, m.own)

/-! ## Switches (R74) -/

/-- The state with an output's DRAM_FED flags as they are (R74, R135). -/
def State.markDramFed (s : State) (k : Nat) (b : Bool) : State :=
  (s.wrBit Obj.GRIP_DRAM_FED_MASK k b).wrBit (Obj.REEL_OUT_STATUS k) 2 b

/-- Scan-out of an output switches to the DRAM buffers that wait, its Reel buffers are freed, and every intent that waits for it is told
(R74, steps 2 to 4). -/
def State.switchDram (s : State) (k : Nat) : State :=
  let b := s.backing k
  match b.toDram with
  | none => s
  | some d =>
    let gone := b.now.buffers.flatten.length
    let s := s.setBacking k { b with dram := some d, toDram := none, now := { b.now with buffers := [] } }
    let s := (s.markDramFed k true).logEvent Ev.dramFedEnter noOwner [d8 k, d8 d.channel]
    let s := if gone = 0 then s else s.logEvent Ev.reelFree noOwner [d16 k, d32 gone]
    { s with outs := s.outs.map (fun e => (e.1, { e.2 with moving := e.2.moving.filter (fun x => !decide (x = k)) })) }

/-! ## Returns (R76) -/

/-- DRAM-fed outputs in the reverse of the order of R72. -/
def State.returnOrder (s : State) : List Nat :=
  ((sortBy s.moveKeyOf ((List.range 12).filter (fun k => s.dramFed k && (s.backing k).toReel.isNone))).reverse)

/-- Reel buffers are taken for the outputs that are to return, in order, while they fit; each returns once a frame is composed there. -/
def State.returnEach (s : State) : List Nat → State
  | [] => s
  | k :: ks =>
    let b := s.backing k
    match b.dram, (s.out (s.governor k)).intent with
    | some d, some i =>
      match takeBuffers s.freeBanks [d.units, d.units] with
      | some (l, _) =>
        let s := s.setBacking k { b with toReel := some ⟨i.storeFormat, l, []⟩ }
        (s.logEvent Ev.reelAlloc noOwner [d16 k, d32 l.flatten.length]).returnEach ks
      | none => s
    | _, _ => s.returnEach ks

/-- After slices were freed, Grip returns what it can to the Reel. -/
def State.reelReturn (s : State) : State := s.returnEach s.returnOrder

/-- At the latch point of an output whose Reel buffers hold a composed frame, scan-out returns to the Reel (R76). -/
def State.leaveDram (s : State) (k : Nat) : State :=
  let b := s.backing k
  match b.toReel with
  | none => s
  | some h =>
    let s := s.setBacking k { b with dram := none, dramNext := none, toReel := none, now := { b.now with format := h.format, buffers := h.buffers } }
    (s.markDramFed k false).logEvent Ev.dramFedLeave noOwner [d8 k]

/-! ## Freeing (R112, R215) -/

/-- Everything that backs an output is freed: its slices, or its DRAM buffers (R215, step 4). -/
def State.freeBacking (s : State) (k : Nat) : State :=
  let b := s.backing k
  let n := b.slices.length
  let s := { s with grip := { s.grip with backing := Tab.drop s.grip.backing k } }
  let s := s.markDramFed k false
  let s := { s with outs := s.outs.map (fun e => (e.1, { e.2 with moving := e.2.moving.filter (fun x => !decide (x = k)) })) }
  if n = 0 then s else s.logEvent Ev.reelFree noOwner [d16 k, d32 n]

/-- At the first flip of a new format scan-out uses the new slices, and the old ones are freed (R112). -/
def State.takeNextHold (s : State) (k : Nat) : State :=
  let b := s.backing k
  match b.next with
  | none => s
  | some h =>
    let n := b.now.slices.length
    let s := s.setBacking k { b with now := h, next := none }
    (if n = 0 then s else s.logEvent Ev.reelFree noOwner [d16 k, d32 n]).reelReturn

/-! ## Slow and failed banks (R87, R131) -/

/-- A list of slices with those in banks that take none replaced from other banks, where there is room. -/
def State.moveSlices (s : State) : List Nat → List (List Nat) → List Nat
  | [], _ => []
  | sl :: l, banks =>
    if s.bankOpen (sl / 64) then sl :: s.moveSlices l banks
    else match takeSlices 1 banks 1 with
      | some ([x], banks) => x :: s.moveSlices l banks
      | _ => sl :: s.moveSlices l banks

/-- The slices of a buffer of an output are reassigned to other banks; a composed buffer is rewritten whole, so nothing is copied (R87). -/
def State.reassignBuffer (s : State) (k i : Nat) : State :=
  let b := s.backing k
  match b.now.buffers[i]? with
  | some sl => s.setBacking k { b with now := { b.now with buffers := setAt b.now.buffers i (s.moveSlices sl s.freeBanks) } }
  | none => s

end Sys2Proof.Machine
end

