-- ==== Sys2Proof/Machine/Grip.lean ====
section
/-! DEFINITION. Grip (R56 to R94): surface intents, releases, unit health, migrations and load balancing, and the commands that bring
them about. -/
namespace Sys2Proof.Machine
open Sys2Proof

/-! ## References (R59, R89) -/

/-- Does a valid layer binding or a resident job refer to a surface (R59)? -/
def State.referred (s : State) (n : Nat) : Bool :=
  s.grip.layers.any (fun e => decide (e.2.source = 1) && decide (e.2.surface = n))
    || s.jobs.any (fun j => j.resident && j.uses.contains n)

/-! ## Checks of a surface intent (R56, R58, R60, R65) -/

/-- Is inline ECC off: fewer than two channels with an ECC rank (R346)? -/
def State.eccOff (s : State) : Bool :=
  Nat.blt ((List.range 8).filter (fun m => decide (field s.memConf.ecc (2 * m + 1) (2 * m) ≠ 0))).length 2

/-- Does CRIT and OUT_READERS break their range or R58, for an owner? A CRIT 3 surface is Bittern's and names one output, the even member of
a locked pair. -/
def State.critInvalid (s : State) (owner crit readers : Nat) : Bool :=
  Nat.blt 3 crit
    || (decide (crit = 3) && (!decide (owner = 0xC1)
      || !((List.range 12).any (fun k => decide (readers = 2 ^ k) && !s.pairOdd k))))

/-- Is a new surface intent invalid (R56, R58, R678)? -/
def State.newSurfaceInvalid (s : State) (d : BitVec 512) (owner : Nat) : Bool :=
  let w := dfield d 79 64
  let h := dfield d 95 80
  let f := dfield d 103 96
  !(Nat.ble 1 w && Nat.ble w 16384) || !(Nat.ble 1 h && Nat.ble h 16384)
    || !(decide (f = 0xFF) || (formatKind f).isSome)
    || (decide (f = 0xFF) && decide (dfield d 159 128 = 0))
    || s.critInvalid owner (dfield d 111 104) (dfield d 171 160)

/-- The surface that a new intent declares, not yet placed. -/
def intentSurface (d : BitVec 512) (owner : Nat) : Surface :=
  let sp := dbit d 185
  let size := dfield d 159 128
  { state := .placed, owner := owner, width := dfield d 79 64, height := dfield d 95 80, format := dfield d 103 96
    crit := dfield d 111 104, outReaders := dfield d 171 160, engines := dfield d 179 176, reelOk := dbit d 184, sparse := sp
    readRate := dfield d 223 192, writeRate := dfield d 255 224
    sizePages := if size = 0 then surfacePages (dfield d 79 64) (dfield d 95 80) (dfield d 103 96) sp else size }

/-- The lowest number not among the keys of a rising table (log entry 15). -/
def lowestFree {α : Type} : Tab α → Nat → Nat
  | [], n => n
  | (k, _) :: t, n => if k = n then lowestFree t (n + 1) else n

/-- Slices of a surface's share of the Reel, when R71 lets Grip hold it there: REEL_OK, size, rate, quota, free slices and read load. -/
def State.reelPlace (s : State) (x : Surface) : Option (List Nat) :=
  let n := divUp x.bytes 65536
  let mine := sumNat (s.grip.surfaces.map (fun e => if e.2.owner = x.owner then e.2.reelSlices.length else 0))
  if x.reelOk && !x.sparse && Nat.ble x.bytes (4 * 2 ^ 20) && Nat.blt 1000 x.readRate
      && (Nat.ble 64 x.owner || Nat.ble (mine + n) (s.rd (Obj.INST_REEL_QUOTA x.owner)))
      && Nat.ble (s.reelLoad + x.readRate) 72000 then
    (takeSlices 64 s.freeBanks n).map Prod.fst
  else none

/-- A surface is placed, in the Reel where R71 lets it, else in DRAM, and the placement is logged; absent when there is no room. -/
def State.placeNew (s : State) (n : Nat) (x : Surface) : Option State :=
  match s.reelPlace x with
  | some l =>
    some ((s.setSurf n { x with state := .reel, reelSlices := l }).logEvent Ev.reelAlloc x.owner [d16 n, d32 l.length])
  | none =>
    match s.placeSurface x with
    | some p => some ((s.setSurf n { x with state := .placed, place := p }).logEvent Ev.placed x.owner [d16 n, d8 p.channels, d8 p.granule])
    | none => none

/-- SURFACE_INTENT (R56 to R58, R65 to R71): checks in the order INTENT_INVALID, PLACE_NO_ECC, SURFACE_TABLE_FULL, PLACE_NO_SPACE (log
entry 15). -/
def execSurfaceIntent (o : Owner) (q : Fin 16) (s : State) : Out :=
  .next (s.onItemIf o.code q.val 0x20 (fun d => decide (dfield d 127 112 = 0xFFFF) && !dbit d 186) (fun s it =>
    let c := o.code
    let x := intentSurface it.desc c
    if s.newSurfaceInvalid it.desc c then s.finish it.id Status.intentInvalid
    else if x.crit = 3 ∧ s.eccOff then s.finish it.id Status.placeNoEcc
    else if 16384 ≤ s.grip.surfaces.length then s.finish it.id Status.surfaceTableFull
    else
      let n := lowestFree s.grip.surfaces 0
      match s.placeNew n x with
      | some s => s.complete it.id Status.ok n
      | none => s.finish it.id Status.placeNoSpace))

/-! ## Revisions and releases (R59, R60, R92) -/

/-- Is the surface an existing one of the submitter's? -/
def State.ownsSurface (s : State) (owner n : Nat) : Bool :=
  Nat.blt n 16384 && !decide ((s.surf n).state = .free) && decide ((s.surf n).owner = owner)

/-- Is a surface's release pending? -/
def State.releasing (s : State) (n : Nat) : Bool := decide ((s.surf n).state = .releasing)

/-- The surface with revised readers, engines, rates and criticality. -/
def Surface.revise (x : Surface) (r : Nat × Nat × Nat × Nat × Nat) : Surface :=
  { x with outReaders := r.1, engines := r.2.1, readRate := r.2.2.1, writeRate := r.2.2.2.1, crit := r.2.2.2.2, revision := none }

/-- Is a migration of the surface before its cut-over (R60)? -/
def Surface.beforeCutover (x : Surface) : Bool :=
  match x.migration with
  | some g => !g.cutover
  | none => false

/-- SURFACE_REVISION (R60, R65). -/
def execSurfaceRevision (o : Owner) (q : Fin 16) (s : State) : Out :=
  .next (s.onItemIf o.code q.val 0x20 (fun d => !decide (dfield d 127 112 = 0xFFFF) && !dbit d 186) (fun s it =>
    let d := it.desc
    let n := dfield d 127 112
    let crit := dfield d 111 104
    let readers := dfield d 171 160
    if !s.ownsSurface o.code n || s.critInvalid o.code crit readers then s.finish it.id Status.intentInvalid
    else if crit = 3 ∧ s.eccOff then s.finish it.id Status.placeNoEcc
    else if s.releasing n then s.finish it.id Status.surfaceReleasing
    else
      let r := (readers, dfield d 179 176, dfield d 223 192, dfield d 255 224, crit)
      let s := s.modSurf n (fun x => if x.beforeCutover then { x with revision := some r } else x.revise r)
      s.finish it.id Status.ok))

/-- The bytes of a surface, which nothing reads again as they were (R130, R383). -/
def State.forgetSurface (s : State) (x : Surface) : State :=
  { s with mem := Memory.drop s.mem (fun a =>
      inSlices x.reelSlices a
        || x.tiles.any (fun t => Nat.ble (deviceAddr t.2.1 (t.2.2 * 65536)) a && Nat.blt a (deviceAddr t.2.1 ((t.2.2 + 1) * 65536)))
        || (!x.sparse && !decide (x.state = .reel) && x.place.covers x.bytes a)
        || (match x.migration with | some g => g.target.covers x.bytes a | none => false)) }

/-- A surface is freed: its entry, its placements and its slices. -/
def State.freeSurface (s : State) (n : Nat) : State :=
  let x := s.surf n
  let s := s.forgetSurface x
  let s := { s with grip := { s.grip with surfaces := Tab.drop s.grip.surfaces n } }
  if x.reelSlices = [] then s
  else (s.logEvent Ev.reelFree x.owner [d16 n, d32 x.reelSlices.length]).reelReturn

/-- A releasing surface to which nothing refers is freed, and its release completes (R59). -/
def State.releaseIfFree (s : State) (n : Nat) : State :=
  let x := s.surf n
  if x.state ≠ .releasing ∨ s.referred n then s
  else
    let s := s.freeSurface n
    match x.releaseItem with
    | some id => s.finish id Status.ok
    | none => s

/-- A surface's release begins: new users are refused, a migration stops (R59, R92), and with no reference left it is freed at once. -/
def State.release (s : State) (n : Nat) (item : Option Nat) : State :=
  (s.modSurf n (fun x => { x with state := .releasing, releaseItem := item })).releaseIfFree n

/-- SURFACE_RELEASE (R59, R60, R65). -/
def execSurfaceRelease (o : Owner) (q : Fin 16) (s : State) : Out :=
  .next (s.onItemIf o.code q.val 0x20 (fun d => dbit d 186) (fun s it =>
    let n := dfield it.desc 127 112
    if !s.ownsSurface o.code n then s.finish it.id Status.intentInvalid
    else if s.releasing n then s.finish it.id Status.surfaceReleasing
    else s.release n (some it.id)))

/-- SURFACE_RELEASE_COMPLETE (R59). -/
def execSurfaceReleaseComplete (sf : Fin 16384) (s : State) : Out := .next (s.releaseIfFree sf.val)

/-! ## Unit health (R79 to R86) -/

/-- The median of a list: the middle value, of an even number a value of the middle two that the manual leaves open (log entry 16). -/
def median (l : List Nat) : Nat :=
  let l := sortBy id l
  let n := l.length
  if n = 0 then 0
  else if n % 2 = 1 then l.getD (n / 2) 0
  else Config.evenMedian (l.getD (n / 2 - 1) 0) (l.getD (n / 2) 0)

/-- SLOW ratio and clear ratio in per cent, fewest sampled epochs, load-balance trigger in per cent (none: never) of a mode (R86). -/
structure Thresholds where
  slow : Nat
  clear : Nat
  epochs : Nat
  trigger : Option Nat

/-- The thresholds of a mode (R86). -/
def thresholds (mode : Nat) : Thresholds :=
  match mode with
  | 0 => ⟨200, 125, 32, none⟩
  | 1 => ⟨150, 120, 16, some 25⟩
  | _ => ⟨125, 110, 8, some 10⟩

/-- Units of a type in service, of a list of entries: neither excluded nor OFFLINE. -/
def State.inService (s : State) (ty : Nat × Nat) : Nat :=
  ((List.range ty.2).filter (fun i =>
    let h := (s.unit (ty.1 + i)).health
    !h.leftOut && !decide (h = .offline))).length

/-- The unit with a new STATE (R81: SINCE is its last change). -/
def State.setHealth (s : State) (n : Nat) (h : Health) : State :=
  s.setUnit n { s.unit n with health := h, since := s.now, clearRun := 0 }

/-- A detector or a slice reports a unit broken: FAILED (R84). -/
def State.failUnit (s : State) (n : Nat) : State := if (s.unit n).health = .failed then s else s.setHealth n .failed

/-- Is a unit of a spare migration's channels, from which no samples are taken (R85, R374)? -/
def State.unsampled (s : State) (n : Nat) : Bool :=
  n < 8 && decide (s.rd Obj.MEM_SPARE_STATE = 2)
    && (decide (s.rd Obj.MEM_SPARE_SOURCE / 2 = n) || decide (s.memConf.spare / 2 = n))

/-- A sample enters a unit's window (R80). -/
def State.sample (s : State) (n v : Nat) : State :=
  let u := s.unit n
  if s.unsampled n || decide (u.health = .offline) || decide (u.health = .failed) then s
  else
    let l := (v :: u.samples).take 64
    s.setUnit n { u with samples := l, service := median l }

/-- The peer median of a type: units neither OFFLINE nor FAILED that have a service time (R80). -/
def State.peerMedian (s : State) (ty : Nat × Nat) : Nat :=
  median ((List.range ty.2).filterMap (fun i =>
    let u := s.unit (ty.1 + i)
    if u.health = .offline ∨ u.health = .failed ∨ u.samples = [] then none else some u.service))

/-- Does a service time exceed a ratio in per cent of its peers? -/
def exceeds (service peer percent : Nat) : Bool := Nat.blt (peer * percent) (service * 100)

/-- A unit is judged SLOW: the record, and at once the exclusion that leaves half its type in service (R82). -/
def State.judgeSlow (s : State) (n ratio : Nat) : State :=
  let s := (s.setHealth n .slow).logEvent Ev.unitSlow noOwner [d8 n, d16 ratio]
  let ty := unitType n
  if ty.2 ≤ 2 * (s.inService ty - 1) then
    (s.setHealth n .excluded).logEvent Ev.unitExcluded noOwner [d8 n, d16 ratio]
  else s

/-- A unit sampled in this epoch is judged (R80, R82, R83). -/
def State.judge (s : State) (t : Thresholds) (n : Nat) : State :=
  let u := s.unit n
  let peer := s.peerMedian (unitType n)
  let ratio := Nat.min 0xFFFF (u.service * 256 / peer)
  let u := { u with peer := peer, ratio := ratio }
  let s := s.setUnit n u
  match u.health with
  | .unjudged =>
    if u.samples.length < t.epochs then s
    else if exceeds u.service peer t.slow then s.judgeSlow n ratio
    else s.setHealth n .ok
  | .ok => if exceeds u.service peer t.slow then s.judgeSlow n ratio else s
  | .slow | .excluded =>
    if exceeds u.service peer t.clear then s.setUnit n { u with clearRun := 0 }
    else if u.clearRun + 1 < 64 ∨ u.held then s.setUnit n { u with clearRun := u.clearRun + 1 }
    else (s.setHealth n .ok).logEvent Ev.unitCleared noOwner [d8 n, d16 ratio]
  | _ => s

/-! ## Migrations (R88 to R92, R377) -/

/-- Is a migration in progress: begun and its copy not complete (R90)? -/
def Surface.copying (x : Surface) : Bool :=
  match x.migration with
  | some g => !g.copyDone && !decide (x.state = .releasing)
  | none => false

/-- GRIP_MIGRATIONS_ACTIVE: migrations in progress (R90). -/
def State.migrationsActive (s : State) : Nat := (s.grip.surfaces.filter (fun e => e.2.copying)).length

/-- Channel addresses of a rank on its channel (R347). -/
def State.rankRange (s : State) (r : Nat) : Nat × Nat :=
  if r % 2 = 0 then (0, s.rankBytes r) else (s.rankBytes (r - 1), s.rankBytes (r - 1) + s.rankBytes r)

/-- Does an extent have a byte in a rank? -/
def State.inRank (s : State) (r : Nat) (x : Extent) : Bool :=
  decide (x.chan = r / 2) && Nat.blt x.lo (s.rankRange r).2 && Nat.blt (s.rankRange r).1 x.hi

/-- Must an extent move: its channel is excluded, or its rank is DEGRADED (R88, R377)? -/
def State.mustMove (s : State) (x : Extent) : Bool :=
  (s.unit (unitMc x.chan)).health.leftOut
    || [2 * x.chan, 2 * x.chan + 1].any (fun r => decide (s.rd (Obj.RANK_STATE (s.carrier r)) = 2) && s.inRank r x)

/-- May a surface begin to migrate: held in DRAM with no migration under way? -/
def Surface.movable (x : Surface) : Bool := x.migration.isNone && (decide (x.state = .placed) || decide (x.state = .lossy))

/-- A migration of a surface begins, if one more of its kind may be in progress and there is a place (R89, R90). -/
def State.startMigration (s : State) (n : Nat) : State :=
  let x := s.surf n
  let busy := s.grip.surfaces.any (fun e => e.2.copying && (decide (e.2.crit = 3) == decide (x.crit = 3)))
  if busy || !x.movable then s
  else match s.placeSurface x with
    | none => s
    | some p =>
      (s.setSurf n { x with state := .migrating, migration := some { target := p } }).logEvent Ev.migrationStart x.owner
        [d16 n, d8 x.place.channels, d8 p.channels]

/-- Surfaces that must move, CRIT 3 first, then by descending READ_RATE (R88). -/
def State.migrationOrder (s : State) : List Nat :=
  (sortBy (fun e => if e.2.crit = 3 then 0 else 2 ^ 40 - e.2.readRate)
    (s.grip.surfaces.filter (fun e => e.2.movable && e.2.extents.any s.mustMove))).map Prod.fst

/-- A copy whose destination has been excluded is abandoned and begun again (R92). -/
def State.restartCopies (s : State) : State :=
  s.each s.grip.surfaces (fun s e =>
    match e.2.migration with
    | some g =>
      if !g.copyDone && !decide (e.2.state = .releasing)
          && (setChannels g.target.channels).any (fun m => (s.unit (unitMc m)).health.leftOut) then
        s.setSurf e.1 { e.2 with migration := none, state := if e.2.lossy then .lossy else .placed }
      else s
    | none => s)

/-- DRAM-fed outputs on an excluded channel get buffers on another, which the next frame is composed into (R88). -/
def State.moveDramBuffers (s : State) : State :=
  s.each s.grip.backing (fun s e =>
    match e.2.dram, e.2.dramNext with
    | some d, none =>
      if (s.unit (unitMc d.channel)).health.leftOut then s.setBacking e.1 { e.2 with dramNext := s.findDram d.units } else s
    | _, _ => s)

/-- Every migration that can begin does; none while Gaffer restarts (R620). -/
def State.startMigrations (s : State) : State :=
  if s.gafferDown then s else s.each s.migrationOrder State.startMigration

/-- A DEGRADED rank in which nothing is left becomes FENCED, unless it holds part of the secure region (R377, R378). -/
def State.fenceRanks (s : State) : State :=
  let xs := s.extents
  s.each (List.range 16) (fun s r =>
    let fence := fun (s : State) (c : Nat) => (s.wr (Obj.RANK_STATE c) 5).logEvent Ev.rankFenced noOwner [d8 c]
    if s.rd (Obj.RANK_STATE (s.carrier r)) = 2 ∧ ¬(xs.any (s.inRank r)) ∧ s.secureTop ≤ (s.rankRange r).1 ∧ ¬(r = s.memConf.spare ∧ s.rd Obj.MEM_SPARE_STATE = 4
        ∧ s.rd Obj.MEM_SPARE_SOURCE ≠ 0xFF) then
      let s := fence s (s.carrier r)
      if s.rd Obj.MEM_SPARE_STATE = 4 ∧ s.rd Obj.MEM_SPARE_SOURCE = r then fence s s.memConf.spare else s
    else s)

/-- The tiles of a SPARSE surface that must move, each placed anew with its bytes (R69, R88; log entry 17). -/
def State.moveTiles (s : State) (n : Nat) : State :=
  s.each (s.surf n).tiles (fun s t =>
    let x := s.surf n
    if !s.mustMove ⟨x.owner, t.2.1, t.2.2 * 65536, (t.2.2 + 1) * 65536⟩ then s
    else match s.findPlace x.owner 65536 2 1 false (s.eligible false) with
      | none => s
      | some p =>
        let src : Placement := ⟨2 ^ t.2.1, 2, t.2.2⟩
        let mem := Memory.copy s.mem src p 65536
        let ch := (setChannels p.channels).headD 0
        { s.setSurf n { x with tiles := x.tiles.map (fun u => if u.1 = t.1 then (t.1, ch, p.base) else u) } with mem := mem })

/-- The end of a copy: the new placement holds the surface's bytes, and the next copy begins (R89, R90). -/
def State.copyDone (s : State) (n : Nat) : State :=
  let x := s.surf n
  match x.migration with
  | none => s
  | some g =>
    if !x.copying || s.gafferDown then s
    else
      let s := s.wr Obj.GRIP_MIGRATED_BYTES (wrapAdd 64 (s.rd Obj.GRIP_MIGRATED_BYTES) x.bytes)
      let s := if x.sparse then s.moveTiles n else { s with mem := Memory.copy s.mem x.place g.target x.bytes, dram := { s.dram with poisoned := poisonCopy s.dram.poisoned x.place g.target x.bytes } }
      (s.modSurf n (fun x => { x with migration := some { g with copyDone := true, copied := x.bytes } })).startMigrations

/-- MIGRATION_COPY_DONE (R89, R90). -/
def execMigrationCopyDone (sf : Fin 16384) (s : State) : Out := .next (s.copyDone sf.val)

/-- The items in flight that use a surface: resident jobs, and started transfers. -/
def State.usersOf (s : State) (n : Nat) : List Nat :=
  (s.jobs.filter (fun j => j.resident && j.uses.contains n)).map Job.item
    ++ (s.items.filter (fun i => i.started && decide (dType i.desc = 0x08) && decide (dfield i.desc 95 80 = n))).map Item.id

/-- The cut-over of a surface whose copy is complete: new users take the new placement, and a revision that waited applies (R60, R89). -/
def State.cutover (s : State) (n : Nat) : State :=
  let x := s.surf n
  match x.migration with
  | none => s
  | some g =>
    if !g.copyDone || g.cutover || decide (x.state = .releasing) then s
    else
      let bound := (s.grip.layers.filter (fun e => decide (e.2.source = 1) && decide (e.2.surface = n))).map (fun e => e.2.serial)
      let x := { x with migration := some { g with cutover := true, users := s.usersOf n, bindings := bound } }
      let x := match x.revision with
        | some r => x.revise r
        | none => x
      (s.setSurf n x).logEvent Ev.migrationCutover x.owner [d16 n, d8 g.target.channels]

/-- The latch point of an output is a commit boundary of the surfaces that it reads (R89, step 4). -/
def State.cutoverAtLatch (s : State) (k : Nat) : State :=
  s.each (s.grip.surfaces.filter (fun e => e.2.migration.isSome && bit e.2.outReaders k)) (fun s e => s.cutover e.1)

/-- The start of a job or transfer is one of the surfaces without output readers that it names (R89, step 4). -/
def State.cutoverAtStart (s : State) (uses : List Nat) : State :=
  s.each uses (fun s n => if (s.surf n).outReaders = 0 then s.cutover n else s)

/-- Does a user that started before the cut-over still refer to the old placement (R89, step 6)? -/
def State.oldUsed (s : State) (g : Migration) : Bool :=
  g.users.any (fun u => (s.item? u).isSome)
    || s.grip.layers.any (fun e => g.bindings.contains e.2.serial)

/-- MIGRATION_OLD_FREED (R89, step 6; R377). -/
def execMigrationOldFreed (sf : Fin 16384) (s : State) : Out :=
  let n := sf.val
  let x := s.surf n
  match x.migration with
  | none => .next s
  | some g =>
    if !g.cutover || s.oldUsed g || decide (x.state = .releasing) then .next s
    else
      let mem := if x.sparse then s.mem else Memory.drop s.mem (fun a => x.place.covers x.bytes a && !g.target.covers x.bytes a)
      let s := { s.setSurf n { x with place := g.target, migration := none, state := if x.lossy then .lossy else .placed } with mem := mem }
      .next (s.fenceRanks.startMigrations)

/-! ## Epochs (R79, R86, R319) -/

/-- Load balancing: when the spread of utilisation exceeds the trigger, a surface of the busiest channel, but never a CRIT 3
one, migrates (R86, R91; which one is Grip's own choice: log entry 18). -/
def State.balance (s : State) (t : Thresholds) (util : List (Fin 8 × Nat)) : State :=
  let util := util.filter (fun u => s.chanOpen u.1.val)
  match t.trigger, leastBy (fun u => 1000 - u.2) util, leastBy (fun u => u.2) util with
  | some trig, some top, some low =>
    if top.2 ≤ low.2 + trig || s.gafferDown then s
    else
      let c := s.grip.surfaces.filter (fun e => e.2.movable && !decide (e.2.crit = 3) && !e.2.sparse && bit e.2.place.channels top.1.val)
      match c with
      | e :: _ => s.startMigration (c.getD (Config.balanceChoice (c.map Prod.fst)) e).1
      | [] => s
  | _, _, _ => s

/-- Has an instance a job waiting or resident? -/
def State.hasJobs (s : State) (o : Nat) : Bool :=
  s.items.any (fun i => decide (i.owner = o) && (decide (dType i.desc = 0x40) || decide (dType i.desc = 0x41)))

/-- Has an instance a transfer waiting or in progress? -/
def State.hasTransfers (s : State) (o : Nat) : Bool := s.items.any (fun i => decide (i.owner = o) && decide (dType i.desc = 0x08))

/-- Clusters in service. -/
def State.clustersInService (s : State) : Nat := s.inService (20, 24)

/-- Credit at an epoch start: C × SHARE / S to every instance with a job waiting or resident, held between −C and +C; shares written since the
last epoch start take effect (R319, R321). The DMA balance is credited alike, with the epoch's duration as its DMA engine time (R320; log entry 55). -/
def State.credit (s : State) (durationNs : Nat) : State :=
  let c := durationNs * s.clustersInService
  let live := (List.range 64).filter (fun i => !decide ((s.inst i).state = .free))
  let s := s.each live (fun s i => s.modInst i (fun x => { x with shareNow := s.rd (Obj.INST_SHARE i) }))
  let due := live.filter s.hasJobs
  let sum := sumNat (due.map (fun i => (s.inst i).shareNow))
  let s : State := { s with raster := { s.raster with epochCap := c } }
  let s := s.each due (fun s i => s.modInst i (fun x =>
    { x with balance := clampInt (-(Int.ofNat c)) (Int.ofNat c) (x.balance + Int.ofNat (c * x.shareNow / sum)) }))
  let dmas := live.filter s.hasTransfers
  let dmaSum := sumNat (dmas.map (fun i => (s.inst i).shareNow))
  let t := Int.ofNat durationNs
  s.each dmas (fun s i => s.modInst i (fun x => { x with dmaBalance := clampInt (-t) t (x.dmaBalance + Int.ofNat (durationNs * x.shareNow / dmaSum)) }))

/-- The measured read rate of every placed surface enters its window (R66). -/
def State.measure (s : State) (rates : List (Fin 16384 × Nat)) : State :=
  s.each s.grip.surfaces (fun s e =>
    let r := match rates.find? (fun r => decide (r.1.val = e.1)) with | some r => r.2 | none => 0
    s.modSurf e.1 (fun x => { x with measured := (r :: x.measured).take 64 }))

/-- EPOCH_END (R79 to R88, R319): samples, measured rates, judgement, migrations, load balancing, credit; a new mode applies from the next
epoch. -/
def execEpochEnd (samples : List (Fin 92 × Nat)) (rates : List (Fin 16384 × Nat)) (utilisation : List (Fin 8 × Nat)) (durationNs : Nat)
    (s : State) : Out :=
  let t := thresholds s.grip.aggressiveness
  let s := s.each samples (fun s x => s.sample x.1.val x.2)
  let s := s.measure rates
  let s := s.each samples (fun s x => if s.unsampled x.1.val then s else s.judge t x.1.val)
  let s := s.restartCopies.moveDramBuffers.startMigrations
  let s := s.balance t utilisation
  let s := { s with grip := { s.grip with aggressiveness := s.rd Obj.GRIP_AGGRESSIVENESS } }
  .next (s.credit durationNs)

/-! ## Tables (R66, R77, R81) -/

/-- STATE as R66 codes it. -/
def SurfState.code : SurfState → Nat
  | .free => 0
  | .placed => 1
  | .migrating => 2
  | .reel => 3
  | .lossy => 4
  | .releasing => 5

/-- Measured read traffic in 16 MB/s units: the mean over the epochs in the window (R66). -/
def Surface.readMeasured (x : Surface) : Nat :=
  if x.measured = [] then 0 else Nat.min 0xFFFF (sumNat x.measured / x.measured.length / 16)

/-- A surface placement entry (R66). -/
def Surface.entry (x : Surface) : Nat :=
  if x.state = .free then 0
  else
    let p := match x.migration with | some g => if g.cutover then g.target else x.place | none => x.place
    let reel := decide (x.state = .reel)
    (if reel then 0 else p.channels + p.granule * 2 ^ 8) + x.crit * 2 ^ 10 + x.state.code * 2 ^ 12 + x.owner * 2 ^ 16
      + (if reel then x.reelSlices.headD 0 else p.base) * 2 ^ 32 + x.sizePages * 2 ^ 64 + x.outReaders * 2 ^ 96
      + x.engines * 2 ^ 108 + x.readMeasured * 2 ^ 112

/-- A layer binding entry (R77). -/
def bindingEntry (key : Nat) (b : Option Binding) : Nat :=
  match b with
    | none => 0
    | some b => key / 16 + key % 16 * 2 ^ 4 + b.output * 2 ^ 8 + 2 ^ 12 + b.half * 2 ^ 13 + ofBool b.critical * 2 ^ 14 + ofBool b.stale * 2 ^ 15 + b.surface * 2 ^ 16
        + b.owner * 2 ^ 32 + b.seq * 2 ^ 64 + b.frame * 2 ^ 96

/-- A unit health entry (R81). -/
def Unit.entry (u : Unit) : Nat :=
  u.health.code + u.samples.length * 2 ^ 8 + Nat.min 0xFFFF u.service * 2 ^ 16 + Nat.min 0xFFFF u.peer * 2 ^ 32 + u.ratio * 2 ^ 48

end Sys2Proof.Machine
end

