-- ==== Sys2Proof/Machine/Reel.lean ====
section
/-! DEFINITION. The Reel (R95 to R136): critical rectangles, substitute images, scan modes, and what a scan-out fetch finds. -/
namespace Sys2Proof.Machine
open Sys2Proof

/-! ## Critical rectangles (R106 to R109) -/

/-- A rectangle: X, Y, W, H. -/
structure Rect where
  x : Nat
  y : Nat
  w : Nat
  h : Nat
  deriving DecidableEq, Repr

/-- The used entries of CRIT_RECTS (R107). -/
def rectsOf (v : Nat) : List Rect :=
  (List.range 8).filterMap (fun i =>
    let e := bytesAt v (8 * i) 8
    if field e 47 32 = 0 then none else some ⟨field e 15 0, field e 31 16, field e 47 32, field e 63 48⟩)

/-- Do two rectangles overlap? -/
def Rect.overlaps (a b : Rect) : Bool :=
  Nat.blt a.x (b.x + b.w) && Nat.blt b.x (a.x + a.w) && Nat.blt a.y (b.y + b.h) && Nat.blt b.y (a.y + a.h)

/-- Does any rectangle overlap a later one? -/
def overlapping : List Rect → Bool
  | [] => false
  | r :: l => l.any r.overlaps || overlapping l

/-- Does a rectangle hold a pixel? -/
def Rect.covers (r : Rect) (x y : Nat) : Bool := Nat.ble r.x x && Nat.blt x (r.x + r.w) && Nat.ble r.y y && Nat.blt y (r.y + r.h)

/-- Slices of each rectangle copy the output holds: as reserved (R134); the object's where it holds none. -/
def State.copySlices (s : State) (k : Nat) : Nat :=
  match (s.backing k).now.rects.head? with
  | some r => r.length
  | none => s.rd Obj.REEL_CRIT_RECT_SLICES

/-- A rectangle of 64 bits: X, Y, W and H (R107, R441). -/
def rectOf (e : Nat) : Rect := ⟨field e 15 0, field e 31 16, field e 47 32, field e 63 48⟩

/-- Does a rectangle hold another one whole? -/
def Rect.contains (r a : Rect) : Bool :=
  Nat.ble r.x a.x && Nat.ble (a.x + a.w) (r.x + r.w) && Nat.ble r.y a.y && Nat.ble (a.y + a.h) (r.y + r.h)

/-- Is a value of CRIT_RECTS refused (R107, R108), or does it leave an enabled STREAM unit's region outside every used rectangle (R439)? -/
def State.critRectsInvalid (s : State) (k v : Nat) : Bool :=
  let rs := rectsOf v
  let t := s.timing k
  let fmt := match (s.out (s.governor k)).intent with | some i => i.storeFormat | none => 0
  let room := match (s.out (s.governor k)).intent with | some i => i.critRects | none => 0
  rs.any (fun r => decide (r.x % 2 = 1) || decide (r.w % 2 = 1)
      || Nat.blt (timHActive t) (r.x + r.w) || Nat.blt (timVActive t) (r.y + r.h)
      || Nat.blt (s.copySlices k * 65536) (rectBytes fmt r.w r.h))
    || overlapping rs || Nat.blt room rs.length
    || (List.range 32).any (fun u =>
      bit (s.rd (Obj.CU_CONTROL u)) 0 && decide (field (s.rd (Obj.CU_CONFIG u)) 1 0 = 0) && decide (field (s.rd (Obj.CU_CONFIG u)) 11 8 = k)
        && !rs.any (fun r => r.contains (rectOf (s.rd (Obj.CU_REGION u)))))

/-- A write of CRIT_RECTS after step 7 of R536 (R107): it takes effect at the next latch point. -/
def State.writeCritRects (s : State) (k v : Nat) : Nat × State :=
  if s.critRectsInvalid k v then (Status.critRectInvalid, s)
  else (Status.ok, (s.wr (Obj.CRIT_RECTS k) v).modOut k (fun x => { x with critRectsPending := true }))

/-- CRIT_RECTS_WRITE (R107). -/
def execCritRectsWrite (rq : Requester) (k : Fin 12) (v : Nat) (s : State) : Out :=
  .next (s.ownRequest rq (Obj.CRIT_RECTS k.val) (v % 2 ^ 512) (fun s => s.writeCritRects k.val (v % 2 ^ 512)))

/-- The rectangles of an output take effect at its latch point. -/
def State.latchCritRects (s : State) (k : Nat) : State :=
  let x := s.out k
  if x.critRectsPending then s.setOut k { x with critRectsNow := s.rd (Obj.CRIT_RECTS k), critRectsPending := false } else s

/-! ## Substitute images (R124 to R128) -/

/-- The 128-bit descriptor of an image. -/
def substEntry (v i : Nat) : Nat := bytesAt v (16 * i) 16

/-- Bytes of an image, palette included (R124, R125). -/
def substBytes (e : Nat) : Nat :=
  let w := field e 15 0
  let h := field e 31 16
  match field e 33 32 with
  | 0 => roundUp (3 * w) 64 * h
  | 1 => roundUp (divUp (30 * w) 8) 64 * h
  | 2 => roundUp (4 * w) 64 * h
  | _ => 1024 + roundUp w 64 * h

/-- Is VALID set in a descriptor? -/
def substValid (e : Nat) : Bool := bit e 36

/-- Does a VALID descriptor fail a check of R126? -/
def State.substBad (s : State) (e : Nat) : Bool :=
  let first := field e 59 48
  let n := field e 79 64
  substValid e && (Nat.blt first (3072 - s.rd Obj.REEL_BITTERN_SLICES) || Nat.blt 3072 (first + n)
    || Nat.blt (n * 65536) (substBytes e))

/-- A descriptor without its reserved bits (R6, R124). -/
def substKept (e : Nat) : Nat :=
  setField (setField (setField (setField e 35 34 0) 47 37 0) 63 60 0) 95 80 0 % 2 ^ 128

/-- A write of SUBST_TABLE after step 7 of R536: checked and taken whole (R126). -/
def State.writeSubstTable (s : State) (v : Nat) : Nat × State :=
  if (List.range 64).any (fun i => s.substBad (substEntry v i)) then (Status.substInvalid, s)
  else (Status.ok, s.wr Obj.SUBST_TABLE (packItems 16 ((List.range 64).map (fun i => substKept (substEntry v i)))))

/-- SUBST_TABLE_WRITE (R126). -/
def execSubstTableWrite (rq : Requester) (v : Nat) (s : State) : Out :=
  .next (s.ownRequest rq Obj.SUBST_TABLE (v % 2 ^ 8192) (fun s => s.writeSubstTable (v % 2 ^ 8192)))

/-- An image of the table. -/
def State.subst (s : State) (i : Nat) : Nat := substEntry (s.rd Obj.SUBST_TABLE) i

/-- A check of an image that fails clears its VALID (R128). -/
def State.substCheckFails (s : State) (i : Nat) : State :=
  (s.wr Obj.SUBST_TABLE (setBytes (s.rd Obj.SUBST_TABLE) (16 * i) 16 (setBit (s.subst i) 36 false))).logEvent Ev.substCheckFail 0xC1 [d8 i]

/-! ## Scan modes (R122) -/

/-- REEL_OUT_STATUS bits (R135). -/
def rosEmpty : Nat := 0
/-- RACING. -/
def rosRacing : Nat := 1
/-- SLIP. -/
def rosSlip : Nat := 3
/-- INCOMPLETE. -/
def rosIncomplete : Nat := 4
/-- UE. -/
def rosUe : Nat := 5
/-- MODE_PENDING. -/
def rosModePending : Nat := 6

/-- A write of REEL_SCAN_MODE after step 7 of R536 (R122). -/
def State.writeScanMode (s : State) (k v : Nat) : Nat × State :=
  let r := s.plainWrite (Obj.REEL_SCAN_MODE k) v
  if r.1 = Status.ok then (r.1, r.2.wrBit (Obj.REEL_OUT_STATUS k) rosModePending true) else r

/-- REEL_SCAN_MODE_WRITE (R122). -/
def execReelScanModeWrite (rq : Requester) (k : Fin 12) (v : Fin 256) (s : State) : Out :=
  .next (s.ownRequest rq (Obj.REEL_SCAN_MODE k.val) v.val (fun s => s.writeScanMode k.val v.val))

/-- A scan mode that waits takes effect at the latch point: the buffer that was the front one holds the last good frame (R122). -/
def State.latchScanMode (s : State) (k : Nat) : State :=
  if !bit (s.rd (Obj.REEL_OUT_STATUS k)) rosModePending then s
  else
    let racing := decide (s.rd (Obj.REEL_SCAN_MODE k) = 1)
    let x := s.out k
    let s := s.wrBit (Obj.REEL_OUT_STATUS k) rosModePending false
    if x.racing = racing then s
    else
      let x := if racing then { x with racing := true, lastGood := x.front } else { x with racing := false, front := x.lastGood }
      ((s.setOut k x).wrBit (Obj.REEL_OUT_STATUS k) rosRacing racing).logEvent Ev.scanModeChanged noOwner [d8 k, d8 (ofBool racing)]

/-! ## Fetches (R110 to R123, R131) -/

/-- The slice of a buffer that holds the start of line y of an output stored in a format (R102, R103). -/
def sliceOfLine (format w h y : Nat) (buffer : List Nat) : Option Nat := buffer[storeBytes format w h / h * y / 65536]?

/-- An uncorrectable error of the Reel in a slice, in scan-out or elsewhere (R131): counted, logged, its bank FAILED. An injected one fails the
bank only when its point escalates (R638). -/
def State.reelUe (s : State) (slice owner : Nat) (injected fails : Bool) : State :=
  let s := (s.count Obj.REEL_UNCORRECTED).logInjected Ev.reelUe owner injected [d16 slice, d8 owner]
  if fails then s.failUnit (unitBank (slice / 64)) else s

/-- A scan-out fetch meets an uncorrectable word: the pixels of the word are sent as the blank colour (R131). -/
def State.scanUe (s : State) (k slice : Nat) (injected fails : Bool) : State :=
  (s.reelUe slice 0xC0 injected fails).wrBit (Obj.REEL_OUT_STATUS k) rosUe true

/-- A frame slips at line y (R117): the record, the flags, the flip record's SLIP, once a frame. -/
def State.slip (s : State) (k y : Nat) (injected : Bool) : State :=
  let x := s.out k
  if x.slipLine.isSome then s
  else
    let x := { x with slipLine := some y, showing := x.showing.map (fun c => { c with slip := true }) }
    let s := (s.setOut k x).logInjected Ev.raceSlip noOwner injected [d8 k, d32 (s.rd (Obj.OUT_FRAME_COUNT k)), d16 y]
    let s := s.wrBit (Obj.REEL_OUT_STATUS k) rosSlip true
    let s := (s.count (Obj.REEL_OUT_SLIP_COUNT k)).wr (Obj.REEL_OUT_LAST_SLIP k) s.now.pack
    s.wrBit (Obj.OUT_FLIP_RECORD k) 210 true

/-- A slipped frame whose last line is not complete when its fetch begins is abandoned (R119). Composition stops; its engines stay bound. -/
def State.abandon (s : State) (k lines : Nat) : State :=
  let x := s.out k
  let seq := match x.showing with | some c => c.seq | none => 0
  let x := { x with
    showing := x.showing.map (fun c => { c with abandoned := true })
    comps := x.comps.filter (fun c => !decide (some c.id = x.showing.map Composition.id))
    recompose := some seq }
  let s := (s.setOut k x).logEvent Ev.frameAbandoned noOwner [d8 k, d32 (s.rd (Obj.OUT_FRAME_COUNT k)), d16 lines]
  (s.wrBit (Obj.REEL_OUT_STATUS k) rosIncomplete true).wrBit (Obj.OUT_FLIP_RECORD k) 211 true

/-- The complete lines of the composition scanned: the fewest over its parts, or over those of one member's half. -/
def leastLines : List Nat → Nat
  | [] => 0
  | [a] => a
  | a :: l => Nat.min a (leastLines l)

/-- Does an output scan a composition that is still being composed (R114 to R120)? -/
def Output.racingNow (x : Output) : Bool :=
  match x.showing with
  | some c => x.racing && !c.newFormat && x.comps.any (fun d => decide (d.id = c.id))
  | none => false

/-- The lead of a RACING fetch, its slip and its abandonment (R116 to R121). The slip of one member of a pair is the other's too (R118). -/
def State.raceFetch (s : State) (k y lines : Nat) : State :=
  let g := s.governor k
  let x := s.out g
  if !x.racingNow then s
  else
    let lead := lines - y
    let s := s.setOut g { x with raceLeadMin := some (match x.raceLeadMin with | some m => Nat.min m lead | none => lead) }
    let inj := if y = s.rd (Obj.INJ_PARAM 20) ∧ y < lines then s.inject 20 k else (none, s)
    let s := inj.2
    let s := if lines ≤ y ∨ inj.1.isSome then
        s.each (s.members k) (fun s m => s.slip m y (inj.1.isSome && Nat.blt y lines))
      else s
    if (s.out g).slipLine.isSome && decide (y + 1 = timVActive (s.timing k)) && Nat.blt lines (y + 1) then
      s.each (s.members k) (fun s m => s.abandon m lines)
    else s

/-- A fetch from the Reel: a corrected word, an uncorrectable one, or one injected (R131, R640). -/
def State.reelFetch (s : State) (k y : Nat) (badWord : Option (Fin 3072)) : State :=
  let b := (s.backing k).now
  let x := s.out (s.governor k)
  let t := s.timing k
  let buffer := b.buffers.getD (match x.showing with | some c => if x.slipLine.isSome then x.lastGood else c.buffer | none => x.front) []
  match sliceOfLine b.format (timHActive t) (timVActive t) y buffer with
  | none => s
  | some sl =>
    let r := s.inject 5 (sl / 64)
    let s := if r.1.isSome then r.2.count Obj.REEL_CORRECTED else r.2
    match badWord with
    | some bad => s.scanUe k bad.val false true
    | none =>
      let r := s.inject 6 (sl / 64)
      if r.1.isSome then r.2.scanUe k sl true (r.2.escalates 6) else r.2

/-- LINE_FETCH (R116): active line y of output k is fetched. `linesDone` are the complete lines of the parts of the composition scanned. -/
def execLineFetch (k : Fin 12) (y : Nat) (linesDone : List Nat) (firstMissing : Option Nat) (badWord : Option (Fin 3072)) (s : State) : Out :=
  let x := s.out (s.governor k.val)
  if x.phase = .stopped || bit (s.rd (Obj.REEL_OUT_STATUS k.val)) rosEmpty || Nat.ble (timVActive (s.timing k.val)) y then .next s
  else
    let s := s.raceFetch k.val y (leastLines linesDone)
    if s.dramFed k.val then
      .next (match firstMissing with
        | some _ => s.logEvent Ev.scanUnderrun noOwner [d8 k.val, d32 (s.rd (Obj.OUT_FRAME_COUNT k.val)), d16 y]
        | none => s)
    else .next (s.reelFetch k.val y badWord)

end Sys2Proof.Machine
end

