-- ==== Sys2Proof/Machine/Matte.lean ====
section
/-! DEFINITION. Matte layers and colour (R137 to R177): layer descriptors and their checks, the composition estimate, colour shadows and 3D
LUT banks. What the engines compute pixel by pixel is in Pixels.lean. -/
namespace Sys2Proof.Machine
open Sys2Proof

/-! ## Descriptor fields (R144) -/

/-- OUTPUT. -/
def lyOutput (d : BitVec 512) : Nat := dfield d 67 64
/-- Z. -/
def lyZ (d : BitVec 512) : Nat := dfield d 71 68
/-- SOURCE: 0 OFF, 1 SURFACE, 2 SOLID, 3 SUBSTITUTE. -/
def lySource (d : BitVec 512) : Nat := dfield d 73 72
/-- DEGAMMA. -/
def lyDegamma (d : BitVec 512) : Nat := dfield d 75 74
/-- MATRIX_EN. -/
def lyMatrix (d : BitVec 512) : Bool := dbit d 76
/-- ALPHA_MODE. -/
def lyAlpha (d : BitVec 512) : Nat := dfield d 78 77
/-- KEY_MODE. -/
def lyKey (d : BitVec 512) : Nat := dfield d 80 79
/-- KEY_INVERT. -/
def lyInvert (d : BitVec 512) : Bool := dbit d 81
/-- KEY_SOFT. -/
def lySoft (d : BitVec 512) : Nat := dfield d 85 82
/-- YUV_MATRIX. -/
def lyYuv (d : BitVec 512) : Nat := dfield d 87 86
/-- YUV_FULL. -/
def lyFull (d : BitVec 512) : Bool := dbit d 88
/-- FILTER. -/
def lyFilter (d : BitVec 512) : Nat := dfield d 91 90
/-- THROUGH_LUT. -/
def lyThroughLut (d : BitVec 512) : Bool := dbit d 92
/-- FORMAT. -/
def lyFormat (d : BitVec 512) : Nat := dfield d 103 96
/-- PLANE_ALPHA. -/
def lyPlaneAlpha (d : BitVec 512) : Nat := dfield d 111 104
/-- SURFACE. -/
def lySurface (d : BitVec 512) : Nat := dfield d 125 112
/-- OFFSET. -/
def lyOffset (d : BitVec 512) : Nat := dfield d 159 128
/-- STRIDE. -/
def lyStride (d : BitVec 512) : Nat := dfield d 179 160
/-- UV_OFFSET. -/
def lyUv (d : BitVec 512) : Nat := dfield d 223 192
/-- SRC_X. -/
def lySrcX (d : BitVec 512) : Nat := dfield d 239 224
/-- SRC_Y. -/
def lySrcY (d : BitVec 512) : Nat := dfield d 255 240
/-- SRC_W. -/
def lySrcW (d : BitVec 512) : Nat := dfield d 271 256
/-- SRC_H. -/
def lySrcH (d : BitVec 512) : Nat := dfield d 287 272
/-- DST_X, signed. -/
def lyDstX (d : BitVec 512) : Int := toSigned 16 (dfield d 303 288)
/-- DST_Y, signed. -/
def lyDstY (d : BitVec 512) : Int := toSigned 16 (dfield d 319 304)
/-- DST_W. -/
def lyDstW (d : BitVec 512) : Nat := dfield d 335 320
/-- DST_H. -/
def lyDstH (d : BitVec 512) : Nat := dfield d 351 336
/-- Component i of KEY_MIN. -/
def lyKeyMin (d : BitVec 512) (i : Nat) : Nat := dfield d (361 + 10 * i) (352 + 10 * i)
/-- Component i of KEY_MAX. -/
def lyKeyMax (d : BitVec 512) (i : Nat) : Nat := dfield d (393 + 10 * i) (384 + 10 * i)
/-- Component i of SOLID_COLOUR. -/
def lySolid (d : BitVec 512) (i : Nat) : Nat := dfield d (425 + 10 * i) (416 + 10 * i)
/-- SOLID_ALPHA. -/
def lySolidAlpha (d : BitVec 512) : Nat := dfield d 455 448
/-- SUBST. -/
def lySubst (d : BitVec 512) : Nat := dfield d 461 456

/-! ## Checks at the shadow (R145, R147, R173) -/

/-- Does a layer position of an output belong to an instance (R324)? -/
def State.layerGranted (s : State) (i k z : Nat) : Bool := Nat.blt z 15 && bit (s.rd (Obj.INST_LAYER_GRANTS i)) (16 * k + z)

/-- May an owner write a position of an output (R145)? -/
def State.holdsPosition (s : State) (owner k z : Nat) : Bool :=
  if z = 15 then decide (owner = 0xC1)
  else decide (owner = 0xC0) || decide (owner = 0x40) || (Nat.blt owner 64 && s.layerGranted owner k z)

/-- Does a field of a descriptor lie outside its range, or KEY_MODE or THROUGH_LUT break the critical-layer rules (LAYER_INVALID)? The fields of
an OFF descriptor other than OUTPUT and Z have no meaning (log entry 19). -/
def State.layerInvalid (s : State) (d : BitVec 512) : Bool :=
  let src := lySource d
  let fields := Nat.blt 11 (lyOutput d) || s.pairOdd (lyOutput d)
  let common := decide (lyAlpha d = 3) || decide (lyKey d = 3)
    || !(Nat.ble 1 (lyDstW d) && Nat.ble (lyDstW d) 16384) || !(Nat.ble 1 (lyDstH d) && Nat.ble (lyDstH d) 16384)
    || (decide (lyZ d = 15) && !decide (lyKey d = 0)) || (!decide (lyZ d = 15) && lyThroughLut d)
  let crop := decide (lySrcW d = 0) || decide (lySrcH d = 0)
  let plane := decide (lyYuv d = 3) || !(layerFormat (lyFormat d) || decide (lyFormat d = 0xFF))
    || !decide (lyOffset d % 64 = 0) || !decide (lyStride d % 64 = 0) || !decide (lyUv d % 64 = 0)
  fields || (match src with
    | 0 => false
    | 1 => common || crop || plane
    | 2 => common
    | _ => common || crop)

/-- Is a source not one the submitter may name there (LAYER_SOURCE at the shadow)? -/
def State.layerSourceBad (s : State) (d : BitVec 512) (owner : Nat) : Bool :=
  match lySource d with
  | 1 =>
    let x := s.surf (lySurface d)
    decide (lyFormat d = 0xFF) || decide (x.state = .free) || !decide (x.owner = owner)
      || (decide (lyZ d = 15) && !(decide (x.crit = 3) && (s.members (lyOutput d)).any (fun m => bit x.outReaders m)))
  | 3 => !decide (lyZ d = 15)
  | _ => false

/-- The status of a descriptor written into the shadow: the first failing one in the order of R147 (R145). -/
def State.layerStatus (s : State) (d : BitVec 512) (owner : Nat) : Nat :=
  if s.layerInvalid d then Status.layerInvalid
  else if !s.holdsPosition owner (lyOutput d) (lyZ d) then Status.layerNotGranted
  else if s.layerSourceBad d owner then Status.layerSource
  else if lySource d = 1 ∧ s.releasing (lySurface d) then Status.surfaceReleasing
  else Status.ok

/-- Bittern checks the images it left unchecked since a slice that tested its region, before it next enables a critical layer (R128). `ok` is
the outcome for the image named. -/
def State.checkSubst (s : State) (d : BitVec 512) (owner : Nat) (ok : Bool) : State :=
  if owner = 0xC1 && s.substUnchecked && decide (lyZ d = 15) && !decide (lySource d = 0) then
    let s := { s with substUnchecked := false }
    if decide (lySource d = 3) && !ok && substValid (s.subst (lySubst d)) then s.substCheckFails (lySubst d) else s
  else s

/-- LAYER_DESCRIPTOR (R128, R143 to R147, R173). -/
def execLayerDescriptor (o : Owner) (q : Fin 16) (substOk : Bool) (s : State) : Out :=
  .next (s.onItem o.code q.val 0x30 (fun s it =>
    let d := it.desc
    let st := s.layerStatus d o.code
    if st ≠ Status.ok then s.finish it.id st
    else
      let s := s.checkSubst d o.code substOk
      let s := { s with shadow := Tab.set s.shadow (16 * lyOutput d + lyZ d) (d, o.code) }
      s.finish it.id Status.ok))

/-! ## Checks at the latch (R146, R152, R156, R174) -/

/-- Bytes of one line of the first plane up to a column. -/
def lineBytes (format w : Nat) : Nat :=
  match formatKind format with
  | some (.plain b) => divUp (w * b) 8
  | some (.twoPlane l _) => w * l
  | _ => 0

/-- Does a crop reach outside a surface of so many bytes, break R152's alignment, or need more than STRIDE? -/
def cropBad (d : BitVec 512) (bytes : Nat) : Bool :=
  let f := lyFormat d
  let right := lySrcX d + lySrcW d
  let bottom := lySrcY d + lySrcH d
  let lb := lineBytes f right
  let evenX := lySrcX d % 2 = 0 ∧ lySrcW d % 2 = 0
  let evenY := lySrcY d % 2 = 0 ∧ lySrcH d % 2 = 0
  Nat.blt (lyStride d) lb
    || Nat.blt bytes (lyOffset d + (bottom - 1) * lyStride d + lb)
    || (match formatKind f with
      | some (.twoPlane _ half) =>
        let rows := if half then bottom / 2 else bottom
        !decide evenX || (half && !decide evenY) || Nat.blt bytes (lyUv d + (rows - 1) * lyStride d + lb)
      | _ => decide (f = 0x14) && !decide evenX)

/-- Does a layer break the scaling limits (R156)? -/
def scaleBad (d : BitVec 512) : Bool :=
  let w := lySrcW d
  let wide := Nat.blt 4096 w
  Nat.blt 8192 w || Nat.blt (16 * w) (lyDstW d) || Nat.blt ((if wide then 2 else 4) * lyDstW d) w
    || Nat.blt (16 * lySrcH d) (lyDstH d) || Nat.blt (4 * lyDstH d) (lySrcH d)

/-- The status of a shadow position at the latch point (R146). -/
def State.latchStatus (s : State) (d : BitVec 512) (owner : Nat) : Nat :=
  match lySource d with
  | 1 =>
    let x := s.surf (lySurface d)
    if s.layerSourceBad d owner || (!decide (x.format = 0xFF) && !decide (x.format = lyFormat d)) || cropBad d x.bytes then Status.layerSource
    else if s.releasing (lySurface d) then Status.surfaceReleasing
    else if scaleBad d then Status.layerScale
    else Status.ok
  | 3 =>
    let e := s.subst (lySubst d)
    if !substValid e then Status.ok
    else if Nat.blt (field e 15 0) (lySrcX d + lySrcW d) || Nat.blt (field e 31 16) (lySrcY d + lySrcH d) then Status.layerSource
    else if scaleBad d then Status.layerScale
    else Status.ok
  | _ => Status.ok

/-- The shadow of an output: the positions that are not OFF, lowest first (R143). -/
def State.shadowOf (s : State) (k : Nat) : List (Nat × BitVec 512 × Nat) :=
  (List.range 16).filterMap (fun z =>
    let e := Tab.get (0, 0) s.shadow (16 * k + z)
    if lySource e.1 = 0 then none else some (z, e.1, e.2))

/-- The first failing position among some, and its status. -/
def State.firstFailing (s : State) (ls : List (Nat × BitVec 512 × Nat)) : Option (Nat × Nat) :=
  ls.findSome? (fun l => let st := s.latchStatus l.2.1 l.2.2; if st = Status.ok then none else some (l.1, st))

/-! ## The estimate (R138) -/

/-- Columns of a layer's destination inside a range of columns and the active width: how many. -/
def coveredColumns (d : BitVec 512) (c0 c1 : Nat) : Nat :=
  let lo := Int.toNat (clampInt (Int.ofNat c0) (Int.ofNat c1) (lyDstX d))
  let hi := Int.toNat (clampInt (Int.ofNat c0) (Int.ofNat c1) (lyDstX d + Int.ofNat (lyDstW d)))
  hi - lo

/-- Bits a pixel of a layer's source takes. -/
def State.sourceBits (s : State) (d : BitVec 512) : Nat :=
  match lySource d with
  | 1 => bitsPerPixel (lyFormat d)
  | 3 => (match field (s.subst (lySubst d)) 33 32 with | 0 => 24 | 1 => 30 | 2 => 32 | _ => 8)
  | _ => 0

/-- Source pixels of a layer: its crop, or the share of it under a part's columns (log entry 20). -/
def sourcePixels (d : BitVec 512) (part : Option (Nat × Nat)) : Nat :=
  if lySource d = 2 then 0
  else match part with
    | none => lySrcW d * lySrcH d
    | some (c0, c1) => lySrcW d * lySrcH d * coveredColumns d c0 c1 / lyDstW d

/-- T of R138 in ns, each term rounded up: `columns` composed over `lines`; `part` when an engine composes only some columns. -/
def State.estimateNs (s : State) (columns lines : Nat) (ls : List (Nat × BitVec 512 × Nat)) (part : Option (Nat × Nat)) : Nat :=
  let f := s.rd Obj.MATTE_CLOCK_NOW
  let pix := divUp (columns * lines * 1000) (2 * f)
  let inp := maxNat (ls.map (fun l =>
    let rate := if 4096 < lySrcW l.2.1 then 4 else 8
    divUp (sourcePixels l.2.1 part * 1000) (rate * f)))
  let fetch := divUp (sumNat (ls.map (fun l => sourcePixels l.2.1 part * s.sourceBits l.2.1 / 8))) 32
  Nat.max pix (Nat.max inp fetch) + 20000

/-- The columns of each part of a composition: a locked pair's halves in whole-panel columns, a split's two, or all (R140, R141). -/
def State.partColumns (s : State) (k : Nat) (split : Bool) : List (Nat × Nat) :=
  let w := timHActive (s.timing k)
  if s.paired k then [(0, w), (w, 2 * w)]
  else if split then (let c := w / 2 / 2 * 2; [(0, c), (c, w)])
  else [(0, w)]

/-- The estimates of a composition's parts (R138). -/
def State.partEstimates (s : State) (k : Nat) (split : Bool) (ls : List (Nat × BitVec 512 × Nat)) : List Nat :=
  let h := timVActive (s.timing k)
  let cols := s.partColumns k split
  cols.map (fun c => s.estimateNs (c.2 - c.1) h ls (if cols.length = 1 then none else some c))

/-- The estimate that R139, R335 and R336 use: of one engine; for a locked pair the longer of its parts'. -/
def State.estimateOf (s : State) (k : Nat) (ls : List (Nat × BitVec 512 × Nat)) : Nat := maxNat (s.partEstimates k false ls)

/-! ## Colour shadows and the 3D LUT banks (R163, R166, R171) -/

/-- Is an address a shadowed colour object (R171)? -/
def isColourShadow (addr : Nat) : Bool :=
  let x := addr / 256
  let sub := addr % 256
  (Nat.ble 0x2D00 x && Nat.blt x 0x2DC0 && Nat.ble 1 sub && Nat.ble sub 4)
    || (Nat.ble 0x2E00 x && Nat.blt x 0x2E0C && [1, 2, 5, 6, 7, 8, 9].contains sub)

/-- The output of a shadowed colour object. -/
def colourOutput (addr : Nat) : Nat := if addr / 256 < 0x2E00 then (addr / 256 - 0x2D00) / 16 else addr / 256 - 0x2E00

/-- Does a value of LAYER_MATRIX hold a coefficient outside −8.0 to +8.0 (R163)? -/
def matrixBad (v : Nat) : Bool :=
  ((unpackItems 4 9 v).any (fun c => !(decide (-524288 ≤ toSigned 32 c) && decide (toSigned 32 c < 524288))))

/-- The active copy of a colour object, which the pipeline uses. -/
def State.colour (s : State) (addr : Nat) : Nat := Objs.get s.colourActive addr

/-- OUT_COLOUR_STATUS.SHADOW_PENDING and SWAP_PENDING as the output's waiting writes have them (R176). -/
def State.markColour (s : State) (k : Nat) : State :=
  let x := s.out k
  (s.wrBit (Obj.OUT_COLOUR_STATUS k) 0 x.swapAsked.isSome).wrBit (Obj.OUT_COLOUR_STATUS k) 1 (!decide (x.shadowWrites = []))

/-- A write of a shadowed colour object after step 7 of R536: the object's own checks, then the shadow (R163, R171, R175). -/
def State.writeColour (s : State) (rq : Requester) (addr v : Nat) : Nat × State :=
  let k := colourOutput addr
  let layer := decide (addr / 256 < 0x2E00)
  let z := (addr / 256 - 0x2D00) % 16
  let denied := match rq with
    | .guest i => layer && !s.layerGranted i.val k z
    | _ => false
  if denied then (Status.accessDenied, s)
  else if layer && decide (addr % 256 = 3) && matrixBad v then (Status.colourValue, s)
  else
    let r := s.plainWrite addr v
    if r.1 ≠ Status.ok then r
    else
      let o := r.2.nextOrder
      let s := o.2.modOut k (fun x => { x with shadowWrites := x.shadowWrites ++ [(addr, o.2.rd addr, o.1)] })
      (Status.ok, s.markColour k)

/-- COLOUR_SHADOW_WRITE (R171). An address that is no shadowed colour object is another command's. -/
def execColourShadowWrite (rq : Requester) (addr : Fin 16777216) (v : Nat) (s : State) : Out :=
  if isColourShadow addr.val then .next (s.ownRequest rq addr.val v (fun s => s.writeColour rq addr.val v)) else .next s

/-- A write of OUT_LUT3D_SWAP (R166): 1 requests a swap; a second request while one waits adds nothing. -/
def State.writeLutSwap (s : State) (k v : Nat) : Nat × State :=
  if v = 0 ∨ (s.out k).swapAsked.isSome then (Status.ok, s)
  else
    let o := s.nextOrder
    (Status.ok, (o.2.modOut k (fun x => { x with swapAsked := some o.1 })).markColour k)

/-- OUT_LUT3D_SWAP (R166). -/
def execOutLut3dSwap (rq : Requester) (k : Fin 12) (v : Fin 256) (s : State) : Out :=
  .next (s.ownRequest rq (Obj.OUT_LUT3D_SWAP k.val) v.val (fun s => s.writeLutSwap k.val v.val))

/-- A block of a 3D LUT bank; a bank nothing was written to holds the stored LUT of the output. -/
def State.lutBlock (s : State) (k bank j : Nat) : Nat := Tab.get (s.rd (Obj.OUT_LUT3D_BLOCK k j)) s.lutBanks (1024 * k + 512 * bank + j)

/-- A write of a 3D LUT block after step 7 of R536: into the inactive bank, refused while a swap waits (R166). -/
def State.writeLutBlock (s : State) (k j v : Nat) : Nat × State :=
  if (s.out k).swapAsked.isSome then (Status.lutBusy, s)
  else
    let bank := 1 - s.rd (Obj.OUT_LUT3D_ACTIVE k)
    (Status.ok, { s with lutBanks := Tab.set s.lutBanks (1024 * k + 512 * bank + j) v })

/-- At a latch that takes a commit of order `n`, the colour writes made before it apply together, and a swap asked before it is made
(R166, R171). -/
def State.latchColour (s : State) (k n : Nat) : State :=
  let x := s.out k
  let now := x.shadowWrites.filter (fun w => Nat.blt w.2.2 n)
  let s := { s with colourActive := now.foldl (fun (l : List (Nat × Nat)) (w : Nat × Nat × Nat) => Objs.set l w.1 w.2.1) s.colourActive }
  let s := s.setOut k { x with shadowWrites := x.shadowWrites.filter (fun w => !Nat.blt w.2.2 n) }
  match x.swapAsked with
  | some a =>
    if a < n then
      let bank := 1 - s.rd (Obj.OUT_LUT3D_ACTIVE k)
      let s := (s.modOut k (fun x => { x with swapAsked := none })).wr (Obj.OUT_LUT3D_ACTIVE k) bank
      (s.markColour k).logEvent Ev.lutSwapped noOwner [d8 k, d8 bank]
    else s.markColour k
  | none => s.markColour k

end Sys2Proof.Machine
end

