-- ==== Sys2Proof/Machine/Compose.lean ====
section
/-! DEFINITION. Compositions (R77, R78, R137 to R142, R146, R148, R188, R193 to R196, R333 to R335): which engine composes what, what a latch
takes, and how a composition starts, completes, moves and ends. -/
namespace Sys2Proof.Machine
open Sys2Proof

/-! ## What a job names and writes (R262 to R268, R333) -/

/-- Entry i of a render job's attachment table (R263). -/
def State.attachEntry (s : State) (d : BitVec 512) (i : Nat) : Nat := s.surfBytes (dfield d 207 192) (dfield d 287 256 + 32 * i) 32

/-- The entries of the attachment table in use (R262). -/
def attachIndexes (d : BitVec 512) : List Nat := List.range (Nat.min 8 (dfield d 325 322)) ++ (if dbit d 326 then [8] else [])

/-- Surfaces a render job writes: stored attachments and resolve targets (R333). -/
def State.renderWrites (s : State) (d : BitVec 512) : List Nat :=
  (attachIndexes d).flatMap (fun i =>
    let e := s.attachEntry d i
    (if bit e 26 then [field e 15 0] else []) ++ (if bit e 27 then [field e 175 160] else []))

/-- Surfaces an unfinished item writes (R333): a resident job's, a waiting render job's, or a transfer's to a surface. -/
def State.itemWrites (s : State) (it : Item) : List Nat :=
  match s.jobs.find? (fun j => decide (j.item = it.id)) with
  | some j => j.writes
  | none =>
    if dType it.desc = 0x40 then s.renderWrites it.desc
    else if dType it.desc = 0x08 ∧ ¬(dbit it.desc 64) then [dfield it.desc 95 80]
    else []

/-- Surfaces that unfinished items a commit may depend on still write: of its submitter, accepted before it (R333). -/
def State.writtenBefore (s : State) (c : Commit) : List Nat :=
  (s.items.filter (fun i => decide (i.owner = c.owner) && Nat.blt i.id c.item)).flatMap s.itemWrites

/-- Surfaces named by the shadow of an output. -/
def State.shadowSurfaces (s : State) (k : Nat) : List Nat :=
  (s.shadowOf k).filterMap (fun l => if lySource l.2.1 = 1 then some (lySurface l.2.1) else none)

/-- Is a commit held: it depends on an unfinished item (R333, R334)? -/
def State.held (s : State) (k : Nat) (c : Commit) : Bool :=
  let names := s.shadowSurfaces k
  (s.writtenBefore c).any (fun n => names.contains n)

/-! ## Lines of an output's raster (R22, R185, R335) -/

/-- Line period of an output, in ps. -/
def State.linePs (s : State) (k : Nat) : Nat := timLinePs (s.timing k)

/-- A duration in lines of an output's raster, rounded up. -/
def State.linesOf (s : State) (k ns : Nat) : Nat := divUp (ns * 1000) (s.linePs k)

/-- The first decision line (R185). -/
def State.firstDecision (s : State) (k : Nat) : Nat :=
  s.rd (Obj.OUT_VT_MIN k) - timVSync (s.timing k) - timVBp (s.timing k) - 1
/-- The last decision line (R185). -/
def State.lastDecision (s : State) (k : Nat) : Nat :=
  s.rd (Obj.OUT_VT_MAX k) - timVSync (s.timing k) - timVBp (s.timing k) - 1

/-- The stale latch line of an output (R335). -/
def State.staleLine (s : State) (k : Nat) : Nat :=
  Nat.max (s.firstDecision k) (s.lastDecision k - s.linesOf k (s.estimateOf k (s.shadowOf k)) - 1)

/-! ## Engines (R78, R137 to R142) -/

/-- Is an engine fit to be bound: neither SLOW, EXCLUDED, FAILED nor OFFLINE (R78)? -/
def State.engineFit (s : State) (e : Nat) : Bool :=
  match (s.unit (unitMe e)).health with
  | .ok | .unjudged => true
  | _ => false

/-- Engines bound to outputs. An unbound half holds 0x80 + the engine it left, or 0xFF. -/
def State.boundEngines (s : State) : List Nat := s.outs.flatMap (fun e => e.2.lastEngine.filter (fun x => Nat.blt x 0x80))

/-- The lowest engine that is free: fit, bound to no output and idle. -/
def State.freeEngine (s : State) : Option Nat :=
  (List.range 12).find? (fun e => s.engineFit e && !s.boundEngines.contains e && decide (s.rd (Obj.ME_STATE e) = 0))

/-- The engine becomes idle, unless FAILED. -/
def State.idleEngine (s : State) (e : Nat) : State :=
  if s.rd (Obj.ME_STATE e) = 3 then s else (s.wr (Obj.ME_STATE e) 0).wr (Obj.ME_TARGET e) 0xFF

/-- The layer bindings of an engine are no longer in force (R77). -/
def State.unbindLayers (s : State) (e : Nat) : State :=
  { s with grip := { s.grip with layers := s.grip.layers.filter (fun b => !decide (b.1 / 16 = e)) } }

/-- An engine is bound to one part of a composition: its layer bindings (R77; slot z holds position z, log entry 21). -/
def State.bindLayers (s : State) (k : Nat) (c : Composition) (half e : Nat) : State :=
  (s.unbindLayers e).each c.layers (fun s l =>
    let o := s.nextOrder
    let d := l.2.1
    let surface := decide (lySource d = 1)
    let b : Binding := { output := k, half := half, critical := decide (l.1 = 15), stale := c.stalePositions.contains l.1
                         source := lySource d, surface := if surface then lySurface d else 0
                         owner := if surface then (s.surf (lySurface d)).owner else l.2.2
                         seq := c.seq, frame := s.rd (Obj.OUT_FRAME_COUNT k), serial := o.1 }
    { o.2 with grip := { o.2.grip with layers := Tab.set o.2.grip.layers (16 * e + l.1) b } })

/-- An engine begins one part of a composition from line 0. -/
def State.startEngine (s : State) (k : Nat) (c : Composition) (half e : Nat) : State :=
  ((s.bindLayers k c half e).wr (Obj.ME_STATE e) 1).wr (Obj.ME_TARGET e) (k + 0x80 * half)

/-- A composition of an output changed. -/
def State.modComp (s : State) (k id : Nat) (f : Composition → Composition) : State :=
  s.modOut k (fun x => { x with
    comps := x.comps.map (fun c => if c.id = id then f c else c)
    showing := x.showing.map (fun c => if c.id = id then f c else c) })

/-- A part of a composition starts on an engine. -/
def State.assign (s : State) (k id half e : Nat) : State :=
  let s := s.modOut k (fun x => { x with lastEngine := setAt x.lastEngine half e })
  let s := s.modComp k id (fun c => { c with parts := c.parts.map (fun p =>
    if p.half = half ∧ ¬p.done then { p with engine := some e, startedAt := s.dtime } else p) })
  match (s.out k).comps.find? (fun c => decide (c.id = id)) with
  | some c => s.startEngine k c half e
  | none => s

/-- Parts that wait for an engine take those that are free, output by output (R78, R142). -/
def State.giveEngines (s : State) : State :=
  s.each (List.range 12) (fun s k =>
    s.each (s.out k).comps (fun s c =>
      s.each c.parts (fun s p =>
        if p.engine.isSome || p.done then s
        else match s.freeEngine with
          | some e =>
            let old := (s.out k).lastEngine.getD p.half 0xFF
            let s := s.assign k c.id p.half e
            if old < 0xFF then s.logEvent Ev.engineMoved noOwner [d8 k, d8 (old - 0x80), d8 e] else s
          | none => s)))

/-- The right engine of a split is released at a composition boundary (R78, R139). -/
def State.releaseSplit (s : State) (k : Nat) : State :=
  let x := s.out k
  match x.lastEngine with
  | [a, b] =>
    let s := s.setOut k { x with lastEngine := [a], splitNow := false, splitEnding := false }
    ((s.unbindLayers b).idleEngine b).logEvent Ev.splitEnd noOwner [d8 k, d8 b]
  | _ => s.setOut k { x with splitNow := false, splitEnding := false }

/-- Has an output a composition in progress (R188)? -/
def Output.composing (x : Output) : Bool := x.comps.any (fun c => !c.complete)

/-- One split that serves no locked pair is ended, the lowest output's first: at once, or when its right engine has completed its half (R78).
True when one could be. -/
def State.endSplit (s : State) : Bool × State :=
  match (List.range 12).find? (fun k => (s.out k).splitNow && !s.paired k && !(s.out k).splitEnding) with
  | none => (false, s)
  | some k =>
    if (s.out k).composing then (true, s.modOut k (fun x => { x with splitEnding := true }))
    else (true, s.releaseSplit k)

/-- The binding of half `half` of an output when a commit is bound (R78): the previous engine if fit; else a free one; else one that a split
releases, for which the part waits; else NO_SPARE_ENGINE. -/
def State.bindHalf (s : State) (k half : Nat) : State :=
  let x := s.out k
  let prior := x.lastEngine.getD half 0xFF
  let moved := fun (s : State) (e : Nat) =>
    if prior = 0xFF then s else s.logEvent Ev.engineMoved noOwner [d8 k, d8 (prior % 0x80), d8 e]
  let take := fun (s : State) (e : Nat) =>
    let s := if prior < 0x80 then (s.unbindLayers prior).idleEngine prior else s
    moved (s.modOut k (fun x => { x with lastEngine := setAt x.lastEngine half e })) e
  if prior < 0x80 ∧ s.engineFit prior then s
  else match s.freeEngine with
    | some e => take s e
    | none =>
      let r := s.endSplit
      if r.1 then
        match r.2.freeEngine with
        | some e => take r.2 e
        | none => r.2.modOut k (fun x => { x with lastEngine := setAt x.lastEngine half (if prior < 0x80 then 0x80 + prior else prior) })
      else
        let s := r.2.logEvent Ev.noSpareEngine noOwner [d8 k, d8 (if prior = 0xFF then prior else prior % 0x80)]
        if prior < 0x80 ∧ (s.unit (unitMe prior)).health = .failed then
          s.modOut k (fun x => { x with lastEngine := setAt x.lastEngine half (0x80 + prior) })
        else s

/-- The engines of an output are released (R211, R215). -/
def State.releaseEngines (s : State) (k : Nat) : State :=
  let es := (s.out k).lastEngine.filter (fun e => Nat.blt e 0x80)
  let s := s.modOut k (fun x => { x with lastEngine := [], splitNow := false, splitEnding := false })
  (s.each es (fun s e => (s.unbindLayers e).idleEngine e)).giveEngines

/-! ## The split decision (R139) -/

/-- At a latch point an output that is no member of a pair is split, or its split ended, by its one-engine estimate. -/
def State.decideSplit (s : State) (k est : Nat) : State :=
  let x := s.out k
  let thr := s.rd Obj.MATTE_SPLIT_THRESHOLD
  let period := match x.intent with
    | some i => if i.rateMax = 0 then (s.rd (Obj.OUT_VT_MIN k) * s.linePs k) / 1000 else 100000000000 / i.rateMax
    | none => 0
  if s.paired k then s
  else if x.splitNow then
    (if est * 100 ≤ (thr - 15) * period ∧ ¬x.splitEnding ∧ ¬x.composing then s.releaseSplit k else s)
  else if est * 100 ≤ thr * period then s
  else match s.freeEngine, x.lastEngine with
    | some e, [a] =>
      (s.setOut k { x with splitNow := true, lastEngine := [a, e] }).logEvent Ev.splitStart noOwner [d8 k, d8 a, d8 e]
    | _, _ => s.logEvent Ev.splitDenied noOwner [d8 k, d32 (est / 1000)]

/-! ## Latching (R146, R148, R188, R189, R195, R196, R202) -/

/-- Is a buffer free (R188)? Before its first flip a new format's two buffers are their own. -/
def State.bufferFree (s : State) (k i : Nat) : Bool :=
  let x := s.out k
  let next := (s.backing k).next.isSome
  let used := x.comps.any (fun c => decide (c.newFormat = next) && decide (c.buffer = i))
  let rep := if x.racing then x.lastGood else x.front
  !used && (next || !decide (rep = i) || (decide (x.phase = .blanking) && x.comps.any (fun c => c.complete && !c.shown)))

/-- The buffer that a latch would take. -/
def State.freeBuffer (s : State) (k : Nat) : Option Nat :=
  let x := s.out k
  if x.composing || Nat.ble 2 (x.comps.filter (fun c => !c.shown)).length then none
  else (List.range 2).find? (fun i => s.bufferFree k i)

/-- The layers of the previous frame: of the newest composition latched, else of the one shown. -/
def Output.prevLayers (x : Output) : List (Nat × BitVec 512 × Nat) :=
  match x.comps.getLast? with
  | some c => c.layers
  | none => x.layersShown

/-- Positions whose surface a dependency of a commit still writes (R148). -/
def State.stalePositions (s : State) (k : Nat) (cs : List Commit) : List Nat :=
  let written := cs.flatMap s.writtenBefore
  (s.shadowOf k).filterMap (fun l => if lySource l.2.1 = 1 ∧ written.contains (lySurface l.2.1) then some l.1 else none)

/-- The whole of a substitute image as the crop of a descriptor that otherwise stands (R431). -/
def overrideDesc (d : BitVec 512) (image entry : Nat) : BitVec 512 :=
  let v := setField (setField (setField d.toNat 73 72 3) 461 456 image) 255 224 0
  BitVec.ofNat 512 (setField (setField v 271 256 (field entry 15 0)) 287 272 (field entry 31 16))

/-- The shadow as a latch takes it: position 15 overridden while a Continuity unit's override holds (R431, R432). -/
def State.latchShadow (s : State) (k : Nat) : List (Nat × BitVec 512 × Nat) :=
  match (s.out k).critOverride with
  | none => s.shadowOf k
  | some (_, image) =>
    let l := (s.shadowOf k).filter (fun l => Nat.blt l.1 15)
    match ((s.out k).prevLayers ++ s.shadowOf k).find? (fun l => decide (l.1 = 15)) with
    | some c => l ++ [(15, overrideDesc c.2.1 image (s.subst image), c.2.2)]
    | none => l ++ [(15, overrideDesc (Config.overrideBase k) image (s.subst image), 0xC1)]

/-- Is a Continuity unit enabled (R438, R441)? -/
def State.cuEnabled (s : State) (u : Nat) : Bool := bit (s.rd (Obj.CU_CONTROL u)) 0
/-- SNOOP of a unit (R421). -/
def State.cuSnoop (s : State) (u : Nat) : Nat := field (s.rd (Obj.CU_CONFIG u)) 1 0
/-- OUTPUT of a unit. -/
def State.cuOutput (s : State) (u : Nat) : Nat := field (s.rd (Obj.CU_CONFIG u)) 11 8
/-- Enabled units that snoop an output's stream. -/
def State.streamUnits (s : State) (k : Nat) : List Nat :=
  (List.range 32).filter (fun u => s.cuEnabled u && decide (s.cuSnoop u = 0) && decide (s.cuOutput u = k))

/-- The references of the units that watch an output or its layers: the shadows of those whose position latches anew, the previous ones of the
others (R424). -/
def State.latchRefs (s : State) (k : Nat) (kept : Nat → Bool) : List (Nat × Nat) :=
  let old := match (s.out k).comps.getLast? with
    | some c => c.refs
    | none => (match (s.out k).showing with | some c => c.refs | none => [])
  (List.range 32).filterMap (fun u =>
    if Nat.blt 1 (s.cuSnoop u) || !(s.members k).contains (s.cuOutput u) then none
    else
      let pos := if s.cuSnoop u = 0 then 15 else field (s.rd (Obj.CU_CONFIG u)) 15 12
      let v := if kept pos then (match old.find? (fun r => decide (r.1 = u)) with | some r => r.2 | none => s.rd (Obj.CU_REF u)) else s.rd (Obj.CU_REF u)
      some (u, v))

/-- The rejection of one part of a latch: counted and logged, and the commits of its side complete (R146, R196). -/
def State.rejectPart (s : State) (k : Nat) (f : Nat × Nat) (cs : List Commit) : State :=
  let s := (s.count Obj.MATTE_REJECT_COUNT).logEvent Ev.layerRejected noOwner [d8 k, d8 f.1, d16 f.2]
  s.each cs (fun s c => s.complete c.item f.2 f.1)

/-- Position 15 as composed when it names an image that is not VALID: SOLID, with the record and CRIT_SOLID (R174). -/
def State.markSolid (s : State) (k : Nat) (ls : List (Nat × BitVec 512 × Nat)) : State :=
  match ls.find? (fun l => decide (l.1 = 15)) with
  | some l =>
    if lySource l.2.1 = 3 ∧ ¬(substValid (s.subst (lySubst l.2.1))) then
      (s.wrBit (Obj.OUT_COLOUR_STATUS k) 2 true).logEvent Ev.substUnavailable 0xC1 [d8 k, d8 (lySubst l.2.1)]
    else s.wrBit (Obj.OUT_COLOUR_STATUS k) 2 false
  | none => s.wrBit (Obj.OUT_COLOUR_STATUS k) 2 false

/-- An injected engine fault at the start of a composition (R640, point 14): the frame is abandoned and begun again from line 0; the engine is
FAILED only when the point escalates, which the part's next binding then finds. -/
def State.injectEngine (s : State) (k e : Nat) : State :=
  let r := s.inject 14 e
  match r.1 with
  | none => r.2
  | some _ =>
    let s := r.2.logInjected Ev.engineFault noOwner true [d8 e, d8 k, d32 (r.2.rd (Obj.OUT_FRAME_COUNT k))]
    if s.escalates 14 then s.failUnit (unitMe e) else s

/-- A composition begins: engines are bound half by half, its parts start, and parts without an engine wait (R78, R138 to R142). -/
def State.startComposition (s : State) (k : Nat) (c : Composition) (atLatchPoint : Bool) : State :=
  let s := if atLatchPoint then s.decideSplit k (s.estimateOf k c.layers) else s
  let x := s.out k
  let n := if s.paired k then 2 else if x.splitNow ∧ ¬x.splitEnding then 2 else 1
  let s := s.modOut k (fun x => { x with lastEngine := (List.range n).map (fun h => x.lastEngine.getD h 0xFF) })
  let s := s.each (List.range n) (fun s h => s.bindHalf k h)
  let ests := s.partEstimates k (decide (n = 2)) c.layers
  let c := { c with parts := (List.range n).map (fun h => { engine := none, half := h, estimateNs := ests.getD h 0, startedAt := s.dtime }) }
  let s := s.modOut k (fun x => { x with comps := x.comps ++ [c], lastEstimateNs := maxNat ests })
  let s := s.each (List.range n) (fun s h =>
    let e := (s.out k).lastEngine.getD h 0xFF
    if e < 0x80 then s.injectEngine k e else s)
  s.each (List.range n) (fun s h =>
    let e := (s.out k).lastEngine.getD h 0xFF
    if 0x80 ≤ e then s
    else if (s.unit (unitMe e)).health = .failed then
      let s := s.bindHalf k h
      let e := (s.out k).lastEngine.getD h 0xFF
      if e < 0x80 then s.assign k c.id h e else s
    else s.assign k c.id h e)

/-- A latch of commits into a buffer of an output: the parts validated, stale positions kept as they were, colour taken, late commits counted,
and the composition started. -/
def State.latchInto (s : State) (k : Nat) (cs : List Commit) (buffer : Nat) (atLatchPoint heldAnyway : Bool) : State :=
  let x := s.out k
  let prev := x.prevLayers
  let shadow := s.latchShadow k
  let stale := s.stalePositions k cs
  let failN := s.firstFailing (shadow.filter (fun l => Nat.blt l.1 15))
  let failC := s.firstFailing (shadow.filter (fun l => decide (l.1 = 15)))
  let bad := fun (c : Commit) => if c.owner = 0xC1 then failC.isSome else failN.isSome
  let s := match failN with | some f => s.rejectPart k f (cs.filter (fun c => bad c && !decide (c.owner = 0xC1))) | none => s
  let s := match failC with | some f => s.rejectPart k f (cs.filter (fun c => bad c && decide (c.owner = 0xC1))) | none => s
  let good := cs.filter (fun c => !bad c)
  let keep := fun (z : Nat) => (decide (z = 15) && failC.isSome) || (Nat.blt z 15 && failN.isSome) || stale.contains z
  let layers := (List.range 16).filterMap (fun z =>
    if keep z then prev.find? (fun l => decide (l.1 = z)) else shadow.find? (fun l => decide (l.1 = z)))
  let s := s.modOut k (fun x => { x with pending := x.pending.filter (fun c => !(cs.any (fun d => decide (d.item = c.item)))), recompose := none, overrideAsked := false })
  if (good = [] ∧ failN.isSome ∧ failC.isSome) ∨ (good = [] ∧ cs ≠ [] ∧ layers = prev) then s
  else
    let staleNow := stale.filter (fun z => !((z = 15 && failC.isSome) || (Nat.blt z 15 && failN.isSome)))
    let frame := s.rd (Obj.OUT_FRAME_COUNT k)
    let s := s.each staleNow (fun s z => (s.count Obj.MATTE_STALE_COUNT).logEvent Ev.staleLayer noOwner [d8 k, d8 z, d32 frame])
    let s := if heldAnyway then
        s.each (good.filter (fun c => s.held k c)) (fun s c => s.logEvent Ev.commitHeldStale c.owner [d8 k, d32 c.seq, d16 (maskOf staleNow)])
      else s
    let last := match good.getLast? with | some c => c.seq | none => (match cs.getLast? with | some c => c.seq | none => x.recompose.getD 0)
    let s := match good.getLast? with
      | some c => s.each (s.members k) (fun s m => s.latchColour m c.order)
      | none => s
    let late := good.filter (fun c => c.missed)
    let s := s.each late (fun s c => (s.count (Obj.OUT_LATE_COUNT k)).logEvent Ev.commitLate c.owner [d8 k, d32 c.seq])
    let noted := good.map (fun c =>
      { c with note := if staleNow ≠ [] then Status.staleLayer else if c.missed then Status.commitLate else 0 })
    let s := s.markSolid k layers
    let o := s.nextOrder
    let c : Composition := { id := o.1, seq := last, commits := noted, buffer := buffer, parts := [], late := decide (late ≠ [])
                             stale := decide (staleNow ≠ []), newFormat := (s.backing k).next.isSome, layers := layers
                             stalePositions := staleNow, toReel := (s.members k).any (fun m => (s.backing m).toReel.isSome)
                             refs := s.latchRefs k keep, overridden := x.critOverride.map Prod.fst }
    o.2.startComposition k c atLatchPoint

/-- A latch opportunity of an output (R187, R189, R202, R334, R335): pending commits latch when a buffer is free and none is held, or held ones
at their stale latch line; a commit that misses its first latch point in strict mode is late. -/
def State.latchOpportunity (s : State) (k line : Nat) (atLatchPoint : Bool) : State :=
  let x := s.out k
  let cs := x.pending.filter (fun c => Nat.blt c.acceptedAt s.clock.ticks)
  if (x.strict && !atLatchPoint) || (decide (cs = []) && x.recompose.isNone && !x.overrideAsked) then s
  else match s.freeBuffer k with
    | none =>
      if x.strict then s.setOut k { x with pending := x.pending.map (fun c => if c.acceptedAt < s.clock.ticks then { c with missed := true } else c) }
      else s
    | some b =>
      let heldOnes := cs.any (fun c => s.held k c)
      if heldOnes && !x.strict && Nat.blt line (s.staleLine k) then s
      else s.latchInto k cs b atLatchPoint (heldOnes && !x.strict)

/-! ## Completion and faults of an engine (R113, R120, R142, R338) -/

/-- The output and composition that an engine works on. -/
def State.workOf (s : State) (e : Nat) : Option (Nat × Composition) :=
  s.outs.findSome? (fun o => (o.2.comps.find? (fun c => c.parts.any (fun p => decide (p.engine = some e) && !p.done))).map (fun c => (o.1, c)))

/-- The windows of guards of an output whose slot fired before a composition was latched close, and victims that no window covers any more are
released (R338). `f` says which guards close. -/
def State.closeGuards (s : State) (f : Guard → Bool) : State :=
  let gone := s.guards.filter (fun g => g.fired.isSome && f g)
  let s := { s with guards := s.guards.filter (fun g => !(g.fired.isSome && f g)) }
  s.each gone (fun s g =>
    if s.guards.any (fun h => h.fired.isSome && decide (h.victim = g.victim)) then s
    else s.modInst g.victim (fun x => { x with suspended := false }))

/-- A composition is complete: it is ready, a RACING frame that did not slip becomes the last good frame (R120), one that slipped does when its
last line was not yet fetched (R119), and guard windows that waited for it close. -/
def State.compositionDone (s : State) (k : Nat) (c : Composition) : State :=
  let s := s.modComp k c.id (fun c => { c with complete := true, critWritten := true })
  let s := if c.shown then
      s.modOut k (fun x => { x with lastGood := c.buffer, front := c.buffer, comps := x.comps.filter (fun d => !decide (d.id = c.id)) })
    else s
  s.closeGuards (fun g => decide (g.output = k) && Nat.ble g.firedAtComp c.id)

/-- COMPOSITION_COMPLETE (R113, R120, R338): an engine finishes its part of a composition. -/
def execCompositionComplete (e : Fin 12) (durationNs : Nat) (s : State) : Out :=
  match s.workOf e.val with
  | none => .next s
  | some (k, c) =>
    let est := match c.parts.find? (fun p => decide (p.engine = some e.val)) with | some p => p.estimateNs | none => 0
    let s := (s.wr (Obj.ME_LAST_TIME e.val) durationNs).wr (Obj.ME_LAST_ESTIMATE e.val) est
    let s := s.tallyCount (4 + e.val / 4) e.val noOwner
    let s := s.idleEngine e.val
    let parts := c.parts.map (fun p => if p.engine = some e.val then { p with done := true } else p)
    let s := s.modComp k c.id (fun c => { c with parts := parts })
    let s := if parts.all Part.done then s.compositionDone k { c with parts := parts } else s
    let x := s.out k
    let s := if x.splitEnding && decide (x.lastEngine.getD 1 0xFF = e.val) then s.releaseSplit k else s
    .next s.giveEngines

/-- An engine's internal fault (R142): FAILED, the frame abandoned, the same commit bound again at once, or waiting for the first free engine. -/
def State.engineFaults (s : State) (e : Nat) : State :=
  match s.workOf e with
  | none => ((s.failUnit (unitMe e)).wr (Obj.ME_STATE e) 3).wr (Obj.ME_TARGET e) 0xFF
  | some (k, c) =>
    let s := ((s.failUnit (unitMe e)).wr (Obj.ME_STATE e) 3).wr (Obj.ME_TARGET e) 0xFF
    let s := s.logEvent Ev.engineFault noOwner [d8 e, d8 k, d32 (s.rd (Obj.OUT_FRAME_COUNT k))]
    let half := match c.parts.find? (fun p => decide (p.engine = some e)) with | some p => p.half | none => 0
    let s := (s.unbindLayers e).bindHalf k half
    let s := s.modComp k c.id (fun c => { c with linesDone := 0, parts := c.parts.map (fun p =>
      { p with done := false, engine := if p.half = half then none else p.engine, startedAt := s.dtime }) })
    let s := s.each c.parts (fun s p =>
      let f := (s.out k).lastEngine.getD p.half 0xFF
      if f < 0x80 then s.assign k c.id p.half f else s)
    s.giveEngines

/-- ENGINE_FAULT (R142). -/
def execEngineFault (e : Fin 12) (s : State) : Out := .next (s.engineFaults e.val)

end Sys2Proof.Machine
end

