-- ==== Sys2Proof/Machine/Guards.lean ====
section
/-! DEFINITION. Guards of outputs (R293, R336 to R338) and the re-lock that moves them (R23 to R26): the slots Gaffer arms against instances
that hold the Raster Array, their windows, and PREEMPT_RASTER. -/
namespace Sys2Proof.Machine
open Sys2Proof

/-! ## Positions ahead of now -/

/-- The Sprocket position that the present line period and frame length predict for a real time, in ps (R336). -/
def State.predict (s : State) (ps : Nat) : Spos :=
  let c := s.clock
  let per := Nat.max 1 c.linePs
  let total := (ps - c.realNs * 1000) + c.pos.frac.toNat * per / 65536
  let line := c.pos.line.toNat + total / per
  let vt := Nat.max 1 s.coastLines
  ⟨c.pos.frame + BitVec.ofNat 32 (line / vt), BitVec.ofNat 16 (line % vt), BitVec.ofNat 16 (total % per * 65536 / per)⟩

/-- Lead lines from now to a real time, rounded down. -/
def State.linesAhead (s : State) (ps : Nat) : Nat := (ps - s.clock.realNs * 1000) / Nat.max 1 s.clock.linePs

/-! ## Victims (R322, R337) -/

/-- Has an instance a resident job whose DEADLINE, if its deadlines count, is at or before a position? -/
def State.dueBefore (s : State) (i : Nat) (p : Spos) : Bool :=
  decide (s.rd (Obj.INST_DEADLINE_OK i) = 1)
    && s.jobs.any (fun j => j.resident && decide (j.owner = i) && (match j.deadline with | some d => !p.earlier d | none => false))

/-- Has an instance a resident job? -/
def State.hasResident (s : State) (i : Nat) : Bool := s.jobs.any (fun j => j.resident && decide (j.owner = i))

/-- The victims of an output's guard (R337). -/
def State.victims (s : State) (k : Nat) : List Nat :=
  let stale := s.predict (s.out k).staleTime
  (List.range 64).filter (fun i =>
    s.hasResident i && (match s.rd (Obj.INST_GUARD_CLASS i) with
      | 0 => false
      | 1 => !s.dueBefore i stale
      | _ => true))

/-! ## Arming (R336, R337) -/

/-- A guard's slot is disarmed when no guard that has not fired refers to it. -/
def State.dropSlot (s : State) (n : Nat) : State :=
  if s.guards.any (fun g => decide (g.slot = n) && g.fired.isNone) || !s.armed n then s else (s.writeSlotControl n 0).2

/-- A victim of an output's guard has one slot, at the earliest of the positions of the guards that cover it. -/
def State.armVictim (s : State) (k : Nat) (pos : Spos) (i : Nat) : State :=
  match s.guards.find? (fun g => decide (g.victim = i) && g.fired.isNone) with
  | some g =>
    let s := { s with guards := if s.guards.any (fun h => decide (h.output = k) && decide (h.victim = i) && h.fired.isNone) then s.guards
                                else s.guards ++ [⟨k, i, g.slot, none, 0⟩] }
    if pos.earlier (s.slotPos g.slot) then
      let s := (s.writeSlotControl g.slot 0).2
      (s.armFor g.slot 0xC0 1 i pos.pack 1).2
    else s
  | none =>
    match s.freeSlot with
    | none => s
    | some n =>
      let r := s.armFor n 0xC0 1 i pos.pack 1
      if r.1 = Status.ok then { r.2 with guards := r.2.guards ++ [⟨k, i, n, none, 0⟩] } else r.2

/-- The guard of an output whose time is known: slots for its victims, none for those that no longer apply; nothing once it is less than 64 lead
lines ahead (R336, R337). -/
def State.reconsider (s : State) (k : Nat) : State :=
  match (s.out k).guardTime with
  | none => s
  | some t =>
    if t ≤ s.clock.realNs * 1000 then s
    else
      let vs := s.victims k
      let gone := s.guards.filter (fun g => decide (g.output = k) && g.fired.isNone && !vs.contains g.victim)
      let s := { s with guards := s.guards.filter (fun g => !(decide (g.output = k) && g.fired.isNone && !vs.contains g.victim)) }
      let s : State := s.each gone (fun s g => s.dropSlot g.slot)
      let pos : Spos := { s.predict t with frac := 0 }
      if Nat.blt (s.linesAhead t) 64 then s else s.each vs (fun s i => s.armVictim k pos i)

/-- Gaffer reconsiders the victims of every guard: at each lead frame start and whenever a job becomes resident. -/
def State.reconsiderAll (s : State) : State := if s.gafferDown then s else s.each (List.range 12) State.reconsider

/-- A guard that cannot be armed is skipped for its frame; during a Gaffer restart the record follows at its end (R336, R620). -/
def State.skipGuard (s : State) (k : Nat) : State :=
  let s := s.modOut k (fun x => { x with guardTime := none })
  if s.gafferDown then { s with boot := { s.boot with guardSkips := k :: s.boot.guardSkips.filter (fun j => !decide (j = k)) } }
  else s.logEvent Ev.guardSkipped noOwner [d8 k, d32 (s.rd (Obj.OUT_FRAME_COUNT k))]

/-- The guard of a frame that starts now (R336): the latch point less the estimate less the margin, or GUARD_SKIPPED when Gaffer cannot arm it 64
lead lines ahead, or while it restarts (R620). -/
def State.armGuard (s : State) (k : Nat) : State :=
  if s.rd (Obj.OUT_GUARD_EN k) ≠ 1 then s.modOut k (fun x => { x with guardTime := none })
  else
    let x := s.out k
    let e := if x.pending = [] then x.lastEstimateNs else s.estimateOf k (s.shadowOf k)
    let now := s.clock.realNs * 1000
    let ahead := timVActive (s.timing k) * s.linePs k
    let back := (e + s.rd (Obj.OUT_GUARD_MARGIN k) * 1000) * 1000
    let t := now + (ahead - back)
    let s := s.modOut k (fun x => { x with guardTime := some t, staleTime := now + s.staleLine k * s.linePs k })
    if s.gafferDown ∨ ahead < back ∨ s.linesAhead t < 64 then
      s.skipGuard k
    else s.reconsider k

/-- After a re-lock Gaffer arms the guards of other outputs again at the positions that now hold (R26, R336). -/
def State.rearmGuards (s : State) : State :=
  s.each (List.range 12) (fun s k =>
    match (s.out k).guardTime with
    | none => s
    | some t =>
      if k = s.leadOutput ∨ t ≤ s.clock.realNs * 1000 then s
      else
        let mine := s.guards.filter (fun g => decide (g.output = k) && g.fired.isNone)
        let s := { s with guards := s.guards.filter (fun g => !(decide (g.output = k) && g.fired.isNone)) }
        let s := s.each mine (fun s g => s.dropSlot g.slot)
        if s.gafferDown ∨ s.linesAhead t < 64 then
          s.skipGuard k
        else s.reconsider k)

/-- RELOCK (R23 to R26, R336): at a lead frame start Sprocket, coasting, locks again when none of R22's conditions holds but a change of lead,
which ends here. -/
def execRelock (s : State) : Out :=
  if s.coasting && s.leadRuns && !s.clock.stopped then .next s.relock.rearmGuards else .next s

/-! ## Firing and closing (R293, R338) -/

/-- PREEMPT_RASTER (R44, R293, R338): the instance is suspended, and the windows of the guards that armed the slot open. An instance without
resident work is not affected; one already suspended is not changed. -/
def execPreemptRaster (n : Fin 256) (s : State) : Out :=
  .next (s.fire n.val 1 (fun s arg =>
    let i := field arg 5 0
    let covered := s.guards.filter (fun g => decide (g.slot = n.val) && g.fired.isNone)
    let s := { s with guards := s.guards.map (fun (g : Guard) =>
      if g.slot = n.val ∧ g.fired.isNone then { g with fired := some s.dtime, firedAtComp := s.order } else g) }
    let s := s.each covered (fun s g => s.wr (Obj.OUT_GUARD_LAST g.output) s.now.pack)
    if !s.hasResident i then ({ s with guards := s.guards.filter (fun g => !decide (g.slot = n.val)) }, slotNoEffect)
    else if (s.inst i).suspended then (s, slotFired)
    else ((s.modInst i (fun x => { x with suspended := true })).count (Obj.INST_SUSPENDS i), slotFired)))

/-- GUARD_EXPIRED (R338): OUT_GUARD_MAX after the firing the windows that are still open close. -/
def State.guardExpires (s : State) (k : Nat) : State :=
  let late := fun (g : Guard) => decide (g.output = k)
    && (match g.fired with | some t => Nat.ble (t + s.rd (Obj.OUT_GUARD_MAX k) * 1000) s.dtime | none => false)
  let vs := (s.guards.filter late).map Guard.victim
  if vs = [] then s else (s.closeGuards late).logEvent Ev.guardExpired noOwner [d8 k, d32 (maskOf (vs.filter (fun v => Nat.blt v 32)))]

end Sys2Proof.Machine
end

