-- ==== Sys2Proof/Machine/Links.lean ====
section
/-! DEFINITION. Display-port links (R221 to R248): kinds, the configurations that carry a mode, link DSC, lane maps, DSI-2 sequences, and how
a port starts and retrains its link. -/
namespace Sys2Proof.Machine
open Sys2Proof

/-- A port. -/
def State.port (s : State) (p : Nat) : Port := Tab.get {} s.ports p
/-- The state with a port set. -/
def State.setPort (s : State) (p : Nat) (x : Port) : State := { s with ports := Tab.set s.ports p x }
/-- The state with a port changed. -/
def State.modPort (s : State) (p : Nat) (f : Port → Port) : State := s.setPort p (f (s.port p))

/-! ## Kinds (R222, R246) -/

/-- The kind in force: 0 DP, 1 EDP, 2 DSI_DPHY, 3 DSI_CPHY, 4 APHY. -/
def State.portKind (s : State) (p : Nat) : Nat := s.rd (Obj.PORT_KIND p)
/-- Is a port a DisplayPort or eDP port? -/
def State.isDp (s : State) (p : Nat) : Bool := Nat.blt (s.portKind p) 2
/-- The kind that a stored PORT_CONFIG gives a port (R222). -/
def kindOf (p cfg : Nat) : Nat := if p < 6 then cfg else if p < 10 then 2 + cfg else 4

/-- PORT_STATUS bits (R247). -/
def psPresent : Nat := 0
/-- LINK_UP. -/
def psLinkUp : Nat := 1
/-- TRAINING. -/
def psTraining : Nat := 2
/-- DSC. -/
def psDsc : Nat := 3
/-- NO_FIT. -/
def psNoFit : Nat := 4
/-- SELF_REFRESH. -/
def psSelfRefresh : Nat := 5
/-- HDR_UNSIGNALLED. -/
def psHdr : Nat := 6
/-- PAIR_MISMATCH. -/
def psMismatch : Nat := 7
/-- LINK_LOST, sticky. -/
def psLost : Nat := 8
/-- TRAIN_EXHAUSTED, sticky. -/
def psExhausted : Nat := 9

/-- A bit of PORT_STATUS. -/
def State.ps (s : State) (p b : Nat) : Bool := bit (s.rd (Obj.PORT_STATUS p)) b
/-- The state with a bit of PORT_STATUS set to a value. -/
def State.setPs (s : State) (p b : Nat) (v : Bool) : State := s.wrBit (Obj.PORT_STATUS p) b v

/-- The output routed to a port (R223). -/
def State.outputOf (s : State) (p : Nat) : Option Nat :=
  (List.range 12).find? (fun k => decide (s.rd (Obj.OUT_PORT k) = p))
/-- The port of an output, if it has one. -/
def State.portOf (s : State) (k : Nat) : Option Nat := let p := s.rd (Obj.OUT_PORT k); if p < 14 then some p else none

/-- Is the attach signal of a port high (R226)? -/
def State.attached (s : State) (p : Nat) : Bool := s.ps p psPresent

/-! ## Port commands told outside (R224, R233, R241) -/

/-- PHY off. -/
def pcOff : Nat := 0
/-- PHY on. -/
def pcOn : Nat := 1
/-- An attempt at a link configuration begins. -/
def pcTrain : Nat := 2
/-- PORT_DSI_INIT_SEQ, skew calibration, PPS, and video (R235). -/
def pcInit : Nat := 3
/-- Self-refresh entry signalled, and the link's low-power state (R241). -/
def pcHoldEnter : Nat := 4
/-- Self-refresh exit, and the link's resumption. -/
def pcHoldExit : Nat := 5
/-- AUX reads of the service interrupt vector and link status (R230). -/
def pcIrqRead : Nat := 6
/-- Receiver capabilities and EDID read (R227). -/
def pcSinkRead : Nat := 7

/-! ## Modes a link carries (R231 to R238) -/

/-- Link rate of a rate code, in kb/s or ksym/s (R231, R246). -/
def rateKbps (kind rate : Nat) : Nat :=
  if kind < 2 then
    match rate with
    | 0 => 1620000
    | 1 => 2700000
    | 2 => 5400000
    | 3 => 8100000
    | 4 => 10000000
    | 5 => 13500000
    | _ => 20000000
  else if kind = 4 then
    match rate with
    | 1 => 2000000
    | 2 => 4000000
    | 3 => 8000000
    | 4 => 12000000
    | _ => 16000000
  else rate * 1000

/-- E in hundredths, uncompressed or with DSC (R231). -/
def efficiency (kind rate : Nat) (dsc : Bool) : Nat :=
  if kind < 2 then (if rate ≤ 3 then (if dsc then 78 else 80) else 96) else if kind = 4 then 90 else 92

/-- lanes × raw rate × E in kb/s, as a fraction (R231): a C-PHY symbol carries 16/7 bits. -/
def capacity (kind lanes rate : Nat) (dsc : Bool) : Nat × Nat :=
  if kind = 3 then (lanes * rateKbps kind rate * efficiency kind rate dsc * 16, 700)
  else (lanes * rateKbps kind rate * efficiency kind rate dsc, 100)

/-- Does a configuration carry a pixel clock at so many bits a pixel, uncompressed (R231)? -/
def carriesRaw (kind lanes rate pclk bpp : Nat) : Bool :=
  let c := capacity kind lanes rate false
  Nat.ble (pclk * bpp * c.2) c.1

/-- Has the sink a DSC decoder that the mode can use (R237)? -/
def State.dscUsable (s : State) (p timing : Nat) : Bool :=
  let d := timDepth timing
  (decide (d = 8) || decide (d = 10) || decide (d = 12))
    && (if s.isDp p then (s.port p).sink.dscDecoder else !decide (s.rd (Obj.PORT_DSC_SLICES p) = 0))

/-- The DSC rate of a configuration in 1/16 bit a pixel; 0 when it is below 8 bits a pixel (R238). -/
def State.dscRate (s : State) (p lanes rate timing : Nat) : Nat :=
  let c := capacity (s.portKind p) lanes rate true
  let cap := if timPclk timing = 0 then 0 else c.1 * 16 / (c.2 * timPclk timing)
  let r := Nat.min cap (s.rd (Obj.PORT_DSC_MAX_BPP p))
  let r := if s.isDp p then Nat.min r (s.port p).sink.dscMaxBpp else r
  if r < 128 then 0 else r

/-- The configuration of so many lanes at a rate, if it carries the mode (R231, R232, R237, R238). -/
def State.configFor (s : State) (p timing lanes rate : Nat) : Option LinkConfig :=
  let usable := s.dscUsable p timing
  let mode := s.rd (Obj.PORT_DSC_MODE p)
  let raw := carriesRaw (s.portKind p) lanes rate (timPclk timing) (3 * timDepth timing)
  let d := if usable then s.dscRate p lanes rate timing else 0
  if mode = 2 ∧ usable then (if d = 0 then none else some ⟨lanes, rate, d⟩)
  else if raw then some ⟨lanes, rate, 0⟩
  else if mode = 1 ∧ d ≠ 0 then some ⟨lanes, rate, d⟩
  else none

/-- Lane counts and rates of a port, best first, within the board's and the sink's limits (R232, R235). -/
def State.configurations (s : State) (p : Nat) : List (Nat × Nat) :=
  let lanes := s.rd (Obj.PORT_MAX_LANES p)
  let rate := s.rd (Obj.PORT_MAX_RATE p)
  let sink := (s.port p).sink
  if s.isDp p then
    ([4, 2, 1].filter (fun l => Nat.ble l lanes && Nat.ble l sink.maxLanes)).flatMap (fun l =>
      ([6, 5, 4, 3, 2, 1, 0].filter (fun r => Nat.ble r rate && Nat.ble r sink.maxRate)).map (fun r => (l, r)))
  else if s.portKind p = 4 then ((List.range rate).reverse).map (fun g => (1, g + 1))
  else [(lanes, rate)]

/-- The candidates of a port for a mode (R232, R235). -/
def State.candidates (s : State) (p timing : Nat) : List LinkConfig :=
  (s.configurations p).filterMap (fun c => s.configFor p timing c.1 c.2)

/-! ## Training (R233 to R236) -/

/-- Training begins with a list of candidates; `again` says where a rerun starts (R234). An A-PHY or DisplayPort attempt is told outside. -/
def State.train (s : State) (p : Nat) (list again : List LinkConfig) : State :=
  let s := s.setPort p { s.port p with candidates := list, rerun := again }
  if list = [] then s.setPs p psTraining false else (s.setPs p psTraining true).emit (.port p pcTrain)

/-- PORT_LINK_NOW of a configuration (R246). -/
def linkNow (c : LinkConfig) : Nat := c.rate % 65536 + (c.lanes % 16) * 2 ^ 16 + (c.dsc % 4096) * 2 ^ 20

/-- A port trains the routed output's mode from the top of its list, or finds that nothing carries it (R233, R234). -/
def State.startTraining (s : State) (p k : Nat) : State :=
  let list := s.candidates p (s.timing k)
  let s := ((s.setPs p psLinkUp false).setPs p psNoFit (decide (list = []))).emit (.port p pcOn)
  let s := s.train p list list
  if list = [] then
    let mode := match (s.out (s.governor k)).intent with | some i => i.modeId | none => 0
    s.logEvent Ev.linkNoFit noOwner [d8 p, d8 k, d16 mode]
  else s

/-- The link and its training end, and the PHY is off (R215, R224). -/
def State.stopLink (s : State) (p : Nat) : State :=
  let s := s.setPort p { s.port p with candidates := [], rerun := [], link := none, dscPending := none }
  let s := ((((s.setPs p psLinkUp false).setPs p psTraining false).setPs p psDsc false).setPs p psSelfRefresh false).setPs p psNoFit false
  ((s.setPs p psHdr false).wr (Obj.PORT_LINK_NOW p) 0).emit (.port p pcOff)

/-! ## Lane maps and sequences (R240, R245) -/

/-- Physical lane of logical lane i of a lane map. -/
def laneOf (map i : Nat) : Nat := field map (2 * i + 1) (2 * i)

/-- Does a lane map name a physical lane or trio twice among so many lanes in use (R245)? -/
def lanesTwice (map lanes : Nat) : Bool :=
  (List.range lanes).any (fun i => (List.range i).any (fun j => decide (laneOf map i = laneOf map j)))

/-- Does it hold a wire order of 6 or 7? -/
def wiresBad (map : Nat) : Bool := (List.range 3).any (fun i => Nat.blt 5 (field map (18 + 3 * i) (16 + 3 * i)))

/-- PORT_LANE_MAP after step 7 of R536 (R245). -/
def State.writeLaneMap (s : State) (p v : Nat) : Nat × State :=
  let m := s.merged (Obj.PORT_LANE_MAP p) v
  if lanesTwice m (s.rd (Obj.PORT_MAX_LANES p)) || wiresBad m then (Status.portConfigInvalid, s)
  else (Status.ok, s.wr (Obj.PORT_LANE_MAP p) m)

/-- The lane counts a kind takes (R246). -/
def laneCountOk (kind v : Nat) : Bool :=
  match kind with
  | 0 | 1 => [1, 2, 4].contains v
  | 2 => Nat.ble 1 v && Nat.ble v 4
  | 3 => Nat.ble 1 v && Nat.ble v 3
  | _ => decide (v = 1)

/-- The rates a kind takes (R246). -/
def rateOk (kind v : Nat) : Bool :=
  match kind with
  | 0 | 1 => Nat.ble v 6
  | 2 => Nat.ble 80 v && Nat.ble v 4500
  | 3 => Nat.ble 80 v && Nat.ble v 6000
  | _ => Nat.ble 1 v && Nat.ble v 5

/-- PORT_MAX_LANES after step 7 of R536: the map in force and the range of the kind (R245, R246). -/
def State.writeMaxLanes (s : State) (p v : Nat) : Nat × State :=
  if laneCountOk (s.portKind p) v && lanesTwice (s.rd (Obj.PORT_LANE_MAP p)) v then (Status.portConfigInvalid, s)
  else if laneCountOk (s.portKind p) v then (Status.ok, s.wr (Obj.PORT_MAX_LANES p) v)
  else (Status.ldpRange, s)

/-- PORT_MAX_RATE after step 7 of R536 (R246). -/
def State.writeMaxRate (s : State) (p v : Nat) : Nat × State :=
  if rateOk (s.portKind p) v then (Status.ok, s.wr (Obj.PORT_MAX_RATE p) v) else (Status.ldpRange, s)

/-- PORT_CONFIG after step 7 of R536: an A-PHY port takes only 0 (R222). -/
def State.writePortConfig (s : State) (p v : Nat) : Nat × State :=
  if 10 ≤ p ∧ v ≠ 0 then (Status.ldpRange, s) else s.plainWrite (Obj.PORT_CONFIG p) v

/-- Is a DSI-2 sequence from byte i well formed (R240)? `fuel` bounds the entries: an entry is at least 3 bytes. -/
def seqOk (v : Nat) : Nat → Nat → Bool
  | 0, _ => true
  | fuel + 1, i =>
    if 256 ≤ i then true
    else
      let ty := byteAt v i
      if ty = 0 then true
      else
        let n := byteAt v (i + 1)
        [0x05, 0x15, 0x39, 0x03, 0x13, 0x23, 0x29].contains ty && Nat.ble n 61 && Nat.ble (i + n + 3) 256 && seqOk v fuel (i + n + 3)

/-- A sequence object after step 7 of R536 (R240). -/
def State.writeSeq (s : State) (addr v : Nat) : Nat × State :=
  if seqOk v 86 0 then (Status.ok, s.wr addr v) else (Status.portConfigInvalid, s)

/-- Does a port object apply to the port's kind (R246)? -/
def State.portApplies (s : State) (addr : Nat) : Bool :=
  let p := addr / 256 - 0x2510
  let sub := addr % 256
  if sub = 0x08 ∨ sub = 0x10 ∨ sub = 0x11 ∨ sub = 0x12 ∨ sub = 0x13 then !s.isDp p
  else if sub = 0x14 then s.isDp p
  else true

/-- A write of a port object that has no row of its own, after step 7 of R536 (R222, R240, R245, R246). -/
def State.writePort (s : State) (addr v : Nat) : Nat × State :=
  let p := addr / 256 - 0x2510
  if !s.portApplies addr then (Status.ok, s)
  else match addr % 256 with
    | 0x02 => s.writePortConfig p v
    | 0x03 => s.writeMaxLanes p v
    | 0x04 => s.writeMaxRate p v
    | 0x05 => s.writeLaneMap p v
    | 0x10 => s.writeSeq addr v
    | 0x11 => s.writeSeq addr v
    | 0x12 => s.writeSeq addr v
    | _ => s.plainWrite addr v

/-! ## Self-refresh (R210, R241) -/

/-- Does an output's port support self-refresh (R210)? -/
def State.holdPort (s : State) (k : Nat) : Bool :=
  match s.portOf k with
  | none => false
  | some p =>
    match s.portKind p with
    | 0 => false
    | 1 => (s.port p).sink.panelReplay || (s.port p).sink.psr2
    | _ => bit (s.rd (Obj.PORT_DSI_FLAGS p)) 0

/-- Does the sink of an output's port accept a variable vertical total (R229)? -/
def State.variableTotal (s : State) (p : Nat) : Bool :=
  if s.isDp p then (s.port p).sink.adaptiveSync else bit (s.rd (Obj.PORT_DSI_FLAGS p)) 2

/-! ## Sink modes (R227, R228) -/

/-- Does a timing entry keep R178's limits? -/
def timingLimits (t : Nat) : Bool :=
  let pclk := timPclk t
  let vmin := timVMin t
  Nat.ble 25000 pclk && Nat.ble pclk 1350000
    && Nat.ble 32 (timHActive t) && Nat.ble (timHActive t) 5120 && decide (timHActive t % 2 = 0)
    && Nat.ble 32 (timVActive t) && Nat.ble (timVActive t) 4096
    && Nat.ble (timHActive t + 32) (timHTotal t) && decide ((timHTotal t - timHActive t) % 2 = 0) && Nat.ble (timHTotal t) 16384
    && Nat.ble 2 (timHSync t) && Nat.ble 1 (timVFp t) && Nat.ble 1 (timVSync t) && Nat.ble 2 (timVBp t)
    && Nat.ble (timVMax t) 65535
    && Nat.ble (10 * timHTotal t * vmin) (pclk * 1000) && Nat.ble (pclk * 1000) (240 * timHTotal t * vmin)
    && [6, 8, 10, 12].contains (timDepth t)

/-- Is a timing entry valid to be written with VALID set (R180)? -/
def timingOk (t : Nat) : Bool :=
  timingLimits t && Nat.blt (timHFp t + timHSync t) (timHTotal t - timHActive t) && Nat.ble (timVMin t) (timVMax t)

/-- OUT_PANEL_MODES after step 7 of R536: entries with VALID are checked (R180). Reserved bits are not kept (R6). -/
def State.writePanelModes (s : State) (k v : Nat) : Nat × State :=
  let es := unpackItems 32 16 v
  if es.all (fun t => !timingValid t || timingOk t) then
    (Status.ok, s.wr (Obj.OUT_PANEL_MODES k) (packItems 32 (es.map (fun t =>
      setField (setField t 255 193 0) 183 178 0))))
  else (Status.timingInvalid, s)

/-- Active pixel rate of an entry, as R227 orders by: a fraction. -/
def pixelRate (t : Nat) : Nat × Nat := (timHActive t * timVActive t * timPclk t, timHTotal t * timVMin t)

/-- A list in descending order of active pixel rate, equal rates in their order. -/
def byPixelRate : List Nat → List Nat
  | [] => []
  | t :: ts => ins t (byPixelRate ts)
where
  /-- An entry put before the first of lower or equal rate. -/
  ins (t : Nat) : List Nat → List Nat
    | [] => [t]
    | u :: us =>
      if (pixelRate u).1 * (pixelRate t).2 ≤ (pixelRate t).1 * (pixelRate u).2 then t :: u :: us else u :: ins t us

/-- A list without later repeats. -/
def noRepeats : List Nat → List Nat
  | [] => []
  | t :: ts => t :: (noRepeats ts).filter (fun u => !decide (u = t))

/-- A reported timing as its entry: VALID set, LINK_DEPTH at most 10, V_TOTAL_MAX without Adaptive-Sync the minimum (R227). -/
def sinkEntry (sink : SinkReport) (t : Nat) : Nat :=
  let t := setField (setBit t 192 true) 191 184 (Nat.min 10 (timDepth t))
  if sink.adaptiveSync then t else setField t 175 160 (timVMin t)

/-- The entries OUT_SINK_MODES is filled with (R227): the preferred timing first. -/
def State.sinkEntries (s : State) (p : Nat) : List Nat :=
  let sink := (s.port p).sink
  let ok := fun (t : Nat) => timingOk t && !decide (s.candidates p t = [])
  let es := sink.modes.map (sinkEntry sink)
  match es with
  | [] => []
  | pref :: rest =>
    let rest := byPixelRate (rest.filter ok)
    (noRepeats (if ok pref then pref :: rest else rest)).take 32

/-- OUT_SINK_MODES of an output is filled from the sink, or stays zero on a port that reads none (R227, R228). -/
def State.fillSinkModes (s : State) (p k : Nat) : State :=
  if s.isDp p then (s.emit (.port p pcSinkRead)).wr (Obj.OUT_SINK_MODES k) (packItems 32 (s.sinkEntries p)) else s

end Sys2Proof.Machine
end

