-- ==== Sys2Proof/Machine/Outputs.lean ====
section
/-! DEFINITION. Output channels (R178 to R218): modes in force, the latch point, decisions, frame starts, self-refresh, and how an output
starts and stops. A locked pair is worked on its even member, whose raster both members follow (R206 to R209). -/
namespace Sys2Proof.Machine
open Sys2Proof

/-! ## States (R218) -/

/-- OUT_STATE as R218 codes it. -/
def OutState.code : OutState → Nat
  | .off => 0
  | .waitPlug => 1
  | .starting => 2
  | .active => 3
  | .holdEntry => 4
  | .glassHold => 5
  | .waking => 6
  | .unplugDebounce => 7

/-- The state with an output in a state, and its object as it is. -/
def State.enter (s : State) (k : Nat) (x : OutState) : State := (s.modOut k (fun o => { o with state := x })).wr (Obj.OUT_STATE k) x.code

/-- Both members of a pair, or the one output, enter a state. -/
def State.enterAll (s : State) (g : Nat) (x : OutState) : State := s.each (s.members g) (fun s k => s.enter k x)

/-- Is an output neither OFF nor WAIT_PLUG? -/
def OutState.running : OutState → Bool
  | .off | .waitPlug => false
  | _ => true

/-! ## Modes (R181, R182, R207, R229) -/

/-- The entry that MODE_ID names in an output's mode list; the governor's list for a pair (R181, R207). -/
def State.modeEntry (s : State) (k modeId : Nat) : Nat :=
  if modeId < 16 then bytesAt (s.rd (Obj.OUT_PANEL_MODES k)) (32 * modeId) 32
  else bytesAt (s.rd (Obj.OUT_SINK_MODES k)) (32 * (modeId - 16)) 32

/-- OUT_VT_MIN and OUT_VT_MAX of an output under an intent's rates (R182). -/
def State.setTotals (s : State) (k t : Nat) (i : OutIntent) : State :=
  (s.wr (Obj.OUT_VT_MIN k) (vtMin t i.rateMax)).wr (Obj.OUT_VT_MAX k) (vtMax t i.rateMin i.rateMax)

/-- The timing of an intent's mode comes into force on an output and its pair's other member; a sink that accepts no variable total makes the
longest total the shortest (R182, R229). -/
def State.setTiming (s : State) (g : Nat) (i : OutIntent) : State :=
  let t := s.modeEntry g i.modeId
  let fixed := (s.members g).any (fun k => match s.portOf k with
    | some p => s.attached p && !s.variableTotal p
    | none => false)
  let t := if fixed then setField t 175 160 (timVMin t) else t
  s.each (s.members g) (fun s k => (s.wr (Obj.OUT_TIMING k) t).setTotals k t i)

/-! ## Ends of commits (R197) -/

/-- The note of a commit whose frame has been shown: the highest that applies (R197, R198). -/
def Commit.lastNote (c : Commit) (d : Composition) : Nat :=
  Nat.max c.note (Nat.max (if d.slip then Status.raceSlip else 0) (if d.abandoned then Status.frameAbandoned else 0))

/-- The commits of the frame shown complete at the end of its last active line, stamped with its flip (R197). -/
def State.endShown (s : State) (g : Nat) : State :=
  match (s.out g).showing with
  | none => s
  | some d =>
    let rec_ := s.rd (Obj.OUT_FLIP_RECORD g)
    let s := s.each d.commits (fun s c =>
      let n := c.lastNote d
      s.completeAt c.item (if n = 0 then Status.ok else Status.okWithNote) n (Spos.ofNat (field rec_ 63 0)) (field rec_ 127 64))
    s.modOut g (fun x => { x with showing := x.showing.map (fun c => { c with commits := [] }) })

/-! ## The latch point (R74, R76, R89, R107, R122, R183, R189, R199) -/

/-- Rates, priority and latency class that wait come into force (R183). -/
def State.latchIntent (s : State) (g : Nat) : State :=
  match (s.out g).nextIntent with
  | none => s
  | some i =>
    let s := s.modOut g (fun x => { x with intent := some i, nextIntent := none })
    s.each (s.members g) (fun s k => s.setTotals k (s.timing k) i)

/-- The latch mode written comes into force (R199, R201). -/
def State.latchMode (s : State) (g : Nat) : State :=
  let strict := decide (s.rd (Obj.OUT_LATCH_MODE g) = 1)
  let was := (s.out g).strict
  let s := s.modOut g (fun x => { x with strict := strict })
  if was && !strict then s.logEvent Ev.strictLeave noOwner [d8 g] else s

/-- A return to the Reel lands when the frame composed there is complete (R76). -/
def State.latchReturn (s : State) (g : Nat) : State :=
  if (s.out g).comps.any (fun c => c.toReel && c.complete && !c.shown) then
    let s := s.modOut g (fun x => { x with comps := x.comps.map (fun c => { c with toReel := false }) })
    s.each (s.members g) (fun s k => s.leaveDram k)
  else s

/-- What the start of line V_ACTIVE does for an output and its pair's other member: what waits for the latch point, then the latch opportunity. -/
def State.latchPoint (s : State) (g : Nat) : State :=
  let s := (s.endShown g).modOut g (fun x => { x with phase := .blanking })
  let s := (s.latchIntent g).latchMode g
  let s := s.each (s.members g) (fun s k => ((s.latchCritRects k).latchScanMode k).switchDram k)
  let s := s.latchReturn g
  let s := s.each (s.members g) (fun s k => s.cutoverAtLatch k)
  let s := match s.freeBuffer g with
    | some b => s.each (s.members g) (fun s k => s.reassignBuffer k b)
    | none => s
  s.latchOpportunity g (timVActive (s.timing g)) true

/-! ## Starting (R209, R216, R225) -/

/-- Gaffer gives both members of an output one display PLL and one divider setting when it starts (R579; log entry 63). -/
def State.startPixel (s : State) (g : Nat) : State :=
  let f := timPclk (s.timing g)
  let p := Config.pixelPll g f % 3
  let n := 5 + p
  let s := if s.rd (Obj.PLL_STATE n) = 2 then s
    else (((s.wr (Obj.PLL_ENABLE n) 1).wr (Obj.PLL_STATE n) 2).wr (Obj.PLL_FREQ_KHZ n) (clampNat 2700000 5400000 (Config.pixelPllKhz f))).wr (Obj.CLKMON_STATE (n + 1)) 1
  s.each (s.members g) (fun s k => ((s.wr (Obj.PIX_KHZ k) f).wr (Obj.PIX_PLL k) p).wr (Obj.MUX_SEL (7 + k)) p)

/-- Gaffer disables a display PLL that no divider uses (R580). -/
def State.idlePlls (s : State) : State :=
  s.each [0, 1, 2] (fun s p =>
    if (List.range 12).any (fun k => !decide (s.rd (Obj.PIX_KHZ k) = 0) && decide (s.rd (Obj.PIX_PLL k) = p)) then s
    else (((s.wr (Obj.PLL_ENABLE (5 + p)) 0).wr (Obj.PLL_STATE (5 + p)) 0).wr (Obj.PLL_FREQ_KHZ (5 + p)) 0).wr (Obj.CLKMON_STATE (6 + p)) 0)

/-- The pixel clock of an output that stops ends. -/
def State.stopPixel (s : State) (k : Nat) : State := (s.wr (Obj.PIX_KHZ k) 0).idlePlls

/-- An output whose link is up, whose slices are usable and, in a pair, whose other member is as far starts its raster at line V_ACTIVE. -/
def State.tryRaster (s : State) (k : Nat) : State :=
  let g := s.governor k
  let x := s.out g
  let ready := (s.members g).all (fun m =>
    decide ((s.out m).state = .starting)
      && (match s.portOf m with | some p => s.ps p psLinkUp && !s.ps p psMismatch | none => false))
  let held := (s.members g).any (fun m => s.clocks.held.contains (7 + m))
  if !ready || held || !decide (x.phase = .stopped) || !decide (x.moving = []) then s
  else
    let s := s.startPixel g
    let s := s.each (s.members g) (fun s m => (s.wr (Obj.OUT_REPEAT_COUNT m) 0).wr (Obj.OUT_LATE_COUNT m) 0)
    (s.modOut g (fun x => { x with startedFrames := 0, consecutiveRepeats := 0 })).latchPoint g

/-- Intents that waited for switches to DRAM and wait no more complete (R74), and what they held back starts. -/
def State.finishIntents (s : State) : State :=
  s.each (List.range 12) (fun s k =>
    let x := s.out k
    match x.waitingIntent with
    | some (item, note) =>
      if x.moving = [] then
        ((s.setOut k { x with waitingIntent := none }).complete item Status.okWithNote note).tryRaster k
      else s
    | none => s)

/-- Buffers for the members of an output that have none (R72, R216). Absent when they cannot be backed. -/
def State.allocate (s : State) (g : Nat) (i : OutIntent) : Option State :=
  let ms := (s.members g).filter (fun k => decide ((s.backing k).slices = []) && (s.backing k).drams.isEmpty)
  if ms = [] then some s
  else
    match s.backOutput (ms.map (fun k => s.needOf k (s.timing g) i.storeFormat i.critRects)) i.storeFormat i.priority i.latency false with
    | none => none
    | some (s, moved, _) =>
      let s := s.each moved (fun s k => if (s.out (s.governor k)).phase = .stopped then s.switchDram k else s)
      some (s.modOut g (fun x => { x with moving := moved.filter (fun k => decide ((s.out (s.governor k)).phase ≠ .stopped)) }))

/-- Does a pair's other member lead to a port of another kind (R225)? -/
def State.kindsDiffer (s : State) (k : Nat) : Bool :=
  s.paired k && (match s.portOf (k / 2 * 2), s.portOf (k / 2 * 2 + 1) with
    | some a, some b => !decide (s.portKind a = s.portKind b)
    | _, _ => false)

/-- An enabled output with an accepted intent starts on its attached port (R216, R225); otherwise it waits. -/
def State.startOutput (s : State) (k : Nat) : State :=
  let g := s.governor k
  match (s.out g).intent, s.portOf k with
  | some i, some p =>
    if s.rd (Obj.OUT_ENABLE k) ≠ 1 ∨ !s.attached p ∨ (s.out k).state ≠ .waitPlug then s
    else if !timingValid (s.modeEntry g i.modeId) then s.logEvent Ev.modeMissing noOwner [d8 k, d16 i.modeId]
    else
      let s := s.setTiming g i
      match s.allocate g i with
      | none => s
      | some s =>
        let s := (s.enter k .starting).wrBit (Obj.REEL_OUT_STATUS k) rosEmpty true
        if s.kindsDiffer k then
          let s := s.each ((s.members g).filterMap (fun m => s.portOf m)) (fun s p => s.setPs p psMismatch true)
          s.logEvent Ev.pairKindMismatch noOwner [d8 (k / 2)]
        else s.startTraining p k
  | _, _ => s

/-- Both members of a pair, or the one output, start where they can. -/
def State.startAll (s : State) (g : Nat) : State := s.each (s.members g) (fun s k => s.startOutput k)

/-! ## Stopping (R209, R215, R217) -/

/-- The commits of an output that has stopped end with OUTPUT_STOPPED (R197, R215). -/
def State.endStopped (s : State) (g : Nat) : State :=
  let x := s.out g
  let cs := (match x.showing with | some c => c.commits | none => []) ++ x.comps.flatMap (fun c => if c.shown then [] else c.commits) ++ x.pending
  s.each cs (fun s c => s.finish c.item Status.outputStopped)

/-- The raster, composition and commits of an output end (R215, steps 1 to 3). -/
def State.endRaster (s : State) (g : Nat) : State :=
  let s := (s.endStopped g).releaseEngines g
  let s := s.closeGuards (fun h => decide (h.output = g))
  let s : State := { s with insts := s.insts.map (fun e => (e.1, { e.2 with awaitFlip := e.2.awaitFlip.filter (fun k => !decide (s.governor k = g)) })) }
  s.modOut g (fun x => { x with
    phase := .stopped, frameLines := 0, pending := [], comps := [], showing := none, front := 0, lastGood := 0
    intent := match x.nextIntent with | some i => some i | none => x.intent
    nextIntent := none, consecutiveRepeats := 0, startedFrames := 0, wakeFrom := none, slipLine := none, raceLeadMin := none
    recompose := none, layersShown := [], guardTime := none })

/-- One output stops: its link, its backing and its record (R215). `named` is the output that the record names. -/
def State.stopMember (s : State) (k named cause : Nat) (next : OutState) : State :=
  let s := match s.portOf k with
    | some p => (s.stopLink p).setPs p psMismatch false
    | none => s
  let ran := (s.out k).state.running
  let s := ((s.freeBacking k).enter k next).stopPixel k
  if ran then (s.logEvent Ev.outputStopped noOwner [d8 named, dCase Ev.outputStopped cause]).coastIfLead k (if cause = 0 then 2 else 0) else s

/-- An output stops for a cause (0 UNPLUG, 1 DISABLE, 2 MODE_CHANGE, 3 PAIR) and enters a state; the other member of its pair stops too and
waits for a plug (R209, R215, R217). -/
def State.stopOutput (s : State) (k cause : Nat) (next : OutState) : State :=
  let g := s.governor k
  let s := s.endRaster g
  let s := s.stopMember k k cause next
  let s := s.each ((s.members g).filter (fun m => !decide (m = k))) (fun s m =>
    if (s.out m).state.running then s.stopMember m k (if cause = 2 then 2 else 3) .waitPlug else s)
  s.reelReturn.finishIntents

/-! ## Commits (R194, R202, R208, R212, R213) -/

/-- An output in GLASS_HOLD wakes on the commits that are pending (R212): the raster restarts at line V_ACTIVE and they latch at once. `from_`
is where its two-frame limit begins. -/
def State.wakeOutput (s : State) (g from_ : Nat) : State :=
  let s := s.enterAll g .waking
  let s := s.each ((s.members g).filterMap (fun m => s.portOf m)) (fun s p =>
    ((s.setPs p psSelfRefresh false).emit (.port p pcOn)).emit (.port p pcHoldExit))
  let s := s.modOut g (fun x => { x with wakeFrom := some from_, pending := x.pending.map (fun c => { c with acceptedAt := 0 }), consecutiveRepeats := 0 })
  s.latchPoint g

/-- Holds the submitter a position of the output (R194)? Bittern, Gaffer and the manager need none. -/
def State.mayCommit (s : State) (owner k : Nat) : Bool :=
  Nat.ble 0x40 owner || !decide (field (s.rd (Obj.INST_LAYER_GRANTS owner)) (16 * k + 14) (16 * k) = 0)

/-- COMMIT (R194, R195, R202, R213). -/
def execCommit (o : Owner) (q : Fin 16) (s : State) : Out :=
  .next (s.onItem o.code q.val 0x31 (fun s it =>
    let k := dfield it.desc 67 64
    let x := s.out k
    if 11 < k then s.finish it.id Status.intentInvalid
    else if !s.mayCommit o.code k then s.finish it.id Status.layerNotGranted
    else if s.pairOdd k then s.finish it.id Status.pairInvalid
    else if !x.state.running then s.finish it.id Status.outputStopped
    else
      let n := s.nextOrder
      let s := n.2
      let after := match x.phase with | .blanking => true | .going _ => true | _ => false
      let c : Commit := { item := it.id, owner := o.code, seq := dfield it.desc 127 96, order := n.1, acceptedAt := s.clock.ticks
                          missed := x.strict && after }
      let s := s.modOut k (fun x => { x with pending := x.pending ++ [c] })
      if x.state = .glassHold then s.wakeOutput k s.dtime else s))

/-! ## Decisions (R185, R186, R190 to R192, R210) -/

/-- Is a composition ready at a decision point, V_SYNC + V_BP + 1 lines before the frame start (R186, R190)? `progress` holds, part by part, whether its critical rectangle copies are
written and its complete lines. -/
def State.ready (s : State) (g : Nat) (progress : List (Bool × Nat)) (c : Composition) : Bool :=
  let x := s.out g
  let t := s.timing g
  let ahead := timVSync t + timVBp t + 1
  if c.complete then !c.toReel
  else if !x.racing || c.newFormat || c.toReel || decide (c.parts = []) then false
  else c.parts.all (fun p =>
    match progress[p.half]? with
    | none => false
    | some (crit, lines) =>
      p.engine.isSome && crit
        && Nat.ble (s.rd (Obj.REEL_OUT_RACE_LEAD g) * p.estimateNs * 1000)
            (lines * p.estimateNs * 1000 + timVActive t * ahead * s.linePs g))

/-- The oldest composition latched and not yet shown. -/
def Output.oldest (x : Output) : Option Composition := x.comps.find? (fun c => !c.shown)

/-- The output goes at a line: its frame's length is known (R186). -/
def State.go (s : State) (g line : Nat) (shows : Bool) : State :=
  let t := s.timing g
  s.modOut g (fun x => { x with phase := .going shows, frameLines := line + 1 + timVSync t + timVBp t })

/-- Are R210's conditions for GLASS_HOLD met? -/
def State.holdMet (s : State) (g : Nat) : Bool :=
  let x := s.out g
  let n := s.rd (Obj.OUT_HOLD_FRAMES g)
  decide (x.state = .active) && !decide (n = 0) && Nat.ble n x.consecutiveRepeats && decide (x.pending = [])
    && x.oldest.isNone && !s.criticalOn g
    && (s.members g).all (fun k => decide (s.streamUnits k = []) && s.holdPort k)
    && (match x.intent with | some i => decide (i.latency = 0) | none => false)
    && !x.strict && decide (s.rd (Obj.OUT_LATCH_MODE g) = 0)

/-- A REPEAT go (R191), which closes the guard windows of the output (R338), and is the entry frame of GLASS_HOLD when R210 is met (R211). -/
def State.goRepeat (s : State) (g line : Nat) : State :=
  let hold := s.holdMet g
  let s := (s.closeGuards (fun h => decide (h.output = g))).go g line false
  let s := s.each (s.members g) (fun s k => s.count (Obj.OUT_REPEAT_COUNT k))
  if hold then
    (s.enterAll g .holdEntry).each ((s.members g).filterMap (fun m => s.portOf m)) (fun s p => s.emit (.port p pcHoldEnter))
  else s

/-- The decision at a decision point in a line (R192). -/
def State.decision (s : State) (g line : Nat) (progress : List (Bool × Nat)) : State :=
  let s := s.latchOpportunity g line false
  let x := s.out g
  match x.oldest with
  | some c =>
    if s.ready g progress c then s.go g line true
    else if x.strict ∨ line = s.lastDecision g then s.goRepeat g line
    else s
  | none =>
    if x.strict ∨ line = s.lastDecision g then s.goRepeat g line
    else if line = s.firstDecision g ∧ !(x.pending.any (fun c => s.held g c)) then s.closeGuards (fun h => decide (h.output = g))
    else s

/-- Is the start of a line of an output's blanking a decision point that its own raster gives (R185, R199)? -/
def State.decisionLine (s : State) (g line : Nat) : Bool :=
  let first := s.firstDecision g
  decide (line = first)
    || (!(s.out g).strict && Nat.ble first line
        && (decide (line = s.lastDecision g)
            || (Nat.ble line (s.lastDecision g) && decide ((line - first) % Nat.max 1 (s.rd (Obj.OUT_DECISION_LINES g)) = 0))))

/-! ## Frame starts (R111 to R113, R121, R203, R205, R212, R216) -/

/-- The frame counter at a frame start: 0 in the first frame after the channel starts (R203). -/
def State.countFrame (s : State) (g : Nat) : State :=
  let first := decide ((s.out g).startedFrames = 0)
  let s := s.modOut g (fun x => { x with startedFrames := x.startedFrames + 1 })
  s.each (s.members g) (fun s k => if first then s.wr (Obj.OUT_FRAME_COUNT k) 0 else s.count (Obj.OUT_FRAME_COUNT k))

/-- REEL_OUT_MIN_LEAD of the frame that ends, when it raced (R121). -/
def State.endLead (s : State) (g : Nat) : State :=
  let s := match (s.out g).raceLeadMin with
    | some m => s.each (s.members g) (fun s k => s.wr (Obj.REEL_OUT_MIN_LEAD k) (if (s.out g).slipLine.isSome then 0 else m))
    | none => s
  s.modOut g (fun x => { x with raceLeadMin := none, slipLine := none })

/-- The flip record of a frame start that shows a composition (R204, R205). -/
def State.flipRecord (s : State) (k : Nat) (c : Composition) (wake : Bool) : Nat :=
  s.now.pack + s.dtime % 2 ^ 64 * 2 ^ 64 + c.seq % 2 ^ 32 * 2 ^ 128 + s.rd (Obj.OUT_FRAME_COUNT k) * 2 ^ 160
    + ofBool c.late * 2 ^ 208 + ofBool c.stale * 2 ^ 209 + ofBool (s.dramFed k) * 2 ^ 212 + ofBool (s.paired k) * 2 ^ 213
    + ofBool wake * 2 ^ 214

/-- The buffers of an output exchange roles for a composition that a frame start shows (R110 to R114): one that is complete becomes the front and
the last good frame; one that races stays in progress. A new format's buffers replace the old ones. -/
def State.exchange (s : State) (g : Nat) (c : Composition) : State :=
  let s := s.each (s.members g) (fun s k =>
    let s := if c.newFormat then s.takeNextHold k else s
    let s := s.modOut k (fun x => x)
    let b := s.backing k
    let s := match b.dramNext with
      | some d => s.setBacking k { b with dram := some d, dramNext := none }
      | none => s
    s.wrBit (Obj.REEL_OUT_STATUS k) rosEmpty false)
  s.modOut g (fun x =>
    if c.complete then
      { x with front := c.buffer, lastGood := c.buffer, showing := some { c with shown := true }
               comps := (x.comps.filter (fun d => !decide (d.id = c.id))).map (fun d => if c.newFormat then { d with newFormat := false } else d)
               layersShown := c.layers }
    else
      { x with showing := some { c with shown := true }, layersShown := c.layers
               comps := x.comps.map (fun d => if d.id = c.id then { d with shown := true } else d) })

/-- Instances whose removal awaits a flip without their layers on this output have it (R330). -/
def State.flipWithout (s : State) (g : Nat) (c : Composition) : State :=
  { s with insts := s.insts.map (fun e =>
      if c.layers.any (fun l => decide (l.2.2 = e.1)) then e
      else (e.1, { e.2 with awaitFlip := e.2.awaitFlip.filter (fun k => !decide (k = g)) })) }

/-- The end of a wake: the state, and the record of its latency (R212). -/
def State.endWake (s : State) (g : Nat) : State :=
  match (s.out g).wakeFrom with
  | none => s
  | some t =>
    let us := (s.dtime - t) / 1000
    let s := (s.modOut g (fun x => { x with wakeFrom := none })).enterAll g .active
    let s := s.logEvent Ev.holdExit noOwner [d8 g, d32 us]
    if 2 * s.rd (Obj.OUT_VT_MIN g) * s.linePs g < (s.dtime - t) * 1000 then s.logEvent Ev.wakeSlow noOwner [d8 g, d32 us] else s

/-- What a member's port does at a frame start: a change of link DSC lands, and HDR metadata that cannot be signalled is flagged (R236, R243). -/
def State.portFrame (s : State) (k : Nat) : State :=
  match s.portOf k with
  | none => s
  | some p =>
    let s := match (s.port p).dscPending with
      | some c => ((s.modPort p (fun x => { x with dscPending := none })).setPs p psDsc (decide (c.dsc ≠ 0))).wr (Obj.PORT_LINK_NOW p) (linkNow c)
      | none => s
    let mode := s.rd (Obj.OUT_REGAMMA_MODE k)
    s.setPs p psHdr (s.isDp p && (decide (mode = 2) || decide (mode = 3)) && !(s.port p).sink.hdrMetadata)

/-- A frame start that shows a composition (R113, R114, R204, R205, R212). -/
def State.showFrame (s : State) (g : Nat) (c : Composition) : State :=
  let wake := decide ((s.out g).state = .waking)
  let s := s.exchange g c
  let s := s.each (s.members g) (fun s k => s.wr (Obj.OUT_FLIP_RECORD k) (s.flipRecord k c wake))
  let s := s.modOut g (fun x => { x with consecutiveRepeats := 0 })
  let s := s.flipWithout g c
  s.whenB wake (fun s => s.endWake g)

/-- A REPEAT frame start (R191, R204). -/
def State.repeatFrame (s : State) (g : Nat) : State :=
  let s := s.modOut g (fun x => { x with showing := none, consecutiveRepeats := x.consecutiveRepeats + 1 })
  s.each (s.members g) (fun s k =>
    let r := s.rd (Obj.OUT_FLIP_RECORD k)
    s.wr (Obj.OUT_FLIP_RECORD k) (setField r 207 192 (satAdd 16 (field r 207 192) 1)))

/-- A frame start of an output or a locked pair that has gone (R113, R203 to R208, R216). -/
def State.frameStart (s : State) (g : Nat) : State :=
  match (s.out g).phase with
  | .going shows =>
    let s := (s.countFrame g).endLead g
    let s := match shows, (s.out g).oldest with
      | true, some c => s.showFrame g c
      | _, _ => s.repeatFrame g
    let s := s.each (s.members g) (fun s k =>
      let s := s.reassignBuffer k (1 - (s.out g).front)
      let s := if (s.out k).state = .starting then
          (s.enter k .active).logEvent Ev.outputStarted noOwner [d8 k, d16 (match (s.out g).intent with | some i => i.modeId | none => 0)]
        else s
      s.portFrame k)
    let s := s.modOut g (fun x => { x with phase := .activeLines })
    let s := s.armGuard g
    if s.governor s.leadOutput = g then s.reconsiderAll else s
  | _ => s

/-! ## Self-refresh (R211, R213) -/

/-- HOLD_ENTER (R211): after the entry frame's last active line the channel stops. Commits of HOLD_ENTRY wake it at once (R213). -/
def execHoldEnter (k : Fin 12) (s : State) : Out :=
  let g := k.val
  let x := s.out g
  if s.pairOdd g || !decide (x.state = .holdEntry) || !decide (x.phase = .activeLines) then .next s
  else
    let s := (s.endShown g).releaseEngines g
    let s := s.modOut g (fun x => { x with phase := .stopped, guardTime := none })
    let s := s.enterAll g .glassHold
    let s := s.each ((s.members g).filterMap (fun m => s.portOf m)) (fun s p => (s.setPs p psSelfRefresh true).emit (.port p pcOff))
    let s := (s.each (s.members g) (fun s m => s.switchDram m)).finishIntents
    let s := s.logEvent Ev.holdEnter noOwner [d8 g, d32 (s.rd (Obj.OUT_FRAME_COUNT g))]
    let s := s.each (s.members g) (fun s m => s.coastIfLead m 1)
    .next (if x.pending = [] then s else s.wakeOutput g s.dtime)

/-! ## Latch mode and pairs (R199 to R201, R206) -/

/-- Every output is set to STRICT for a cause: 0 RESET, 1 BITTERN_RESTART, 2 DAILIES (R200). -/
def State.strictAll (s : State) (cause : Nat) : State :=
  (s.each (List.range 12) (fun s k => s.wr (Obj.OUT_LATCH_MODE k) 1)).logEvent Ev.strictEnter noOwner [d32 0xFFF, dCase Ev.strictEnter cause]

/-- OUT_LATCH_MODE after step 7 of R536 (R201, R208). -/
def State.writeLatchMode (s : State) (rq : Requester) (k v : Nat) : Nat × State :=
  if s.pairOdd k then (Status.pairInvalid, s)
  else if v = 0 ∧ rq ≠ .gaffer then (Status.intentInvalid, s)
  else if v = 0 ∧ (bit s.boot.strictHolds 1 ∨ bit s.boot.strictHolds 2) then (Status.strictHeld, s)
  else (Status.ok, s.each (s.members k) (fun s m => s.wr (Obj.OUT_LATCH_MODE m) v))

/-- OUT_LATCH_MODE_WRITE (R201). -/
def execOutLatchModeWrite (rq : Requester) (k : Fin 12) (v : Fin 256) (s : State) : Out :=
  .next (s.ownRequest rq (Obj.OUT_LATCH_MODE k.val) v.val (fun s => s.writeLatchMode rq k.val v.val))

/-- Is a member of a pair watched by a Continuity unit whose region crosses the halves (R206)? -/
def State.pairWatched (s : State) (n : Nat) : Bool :=
  (List.range 32).any (fun u =>
    s.cuEnabled u && decide (s.cuSnoop u = 0) && decide (s.cuOutput u / 2 = n)
      && (let r := s.rd (Obj.CU_REGION u); Nat.blt (timHActive (s.timing (s.cuOutput u))) (field r 15 0 + field r 47 32)))

/-- OUT_PAIR_LOCK after step 7 of R536 (R206, R208, R536). -/
def State.writePairLock (s : State) (v : Nat) : Nat × State :=
  let m := s.merged Obj.OUT_PAIR_LOCK v
  let old := s.rd Obj.OUT_PAIR_LOCK
  let changed := (List.range 6).filter (fun n => bit m n != bit old n)
  if changed.any (fun n => (s.out (2 * n)).state.running || (s.out (2 * n + 1)).state.running) then (Status.ldpStoppedOnly, s)
  else if changed.any (fun n => bit m n && ((s.out (2 * n + 1)).intent.isSome || s.pairWatched n)) then (Status.pairInvalid, s)
  else
    let s := s.wr Obj.OUT_PAIR_LOCK m
    let s := s.each (changed.filter (fun n => bit m n)) (fun s n => s.wr (Obj.OUT_LATCH_MODE (2 * n + 1)) (s.rd (Obj.OUT_LATCH_MODE (2 * n))))
    (Status.ok, if changed = [] then s else s.logEvent Ev.pairChanged noOwner [d32 m])

/-- OUT_PAIR_LOCK_WRITE (R206). -/
def execOutPairLockWrite (rq : Requester) (v : BitVec 32) (s : State) : Out :=
  .next (s.ownRequest rq Obj.OUT_PAIR_LOCK v.toNat (fun s => s.writePairLock v.toNat))

/-! ## Enable (R179, R217) -/

/-- The load of R179 with an output's members as they would be: of an entry at a shortest total, for those enabled. -/
def State.loadWith (s : State) (g t vt : Nat) (enabled : Nat → Bool) : Nat × Nat :=
  fracSum (((s.members g).filterMap (fun k => if enabled k then some (pixelLoad t vt) else none))
    ++ [s.loadSum (fun k => (s.members g).contains k)])

/-- OUT_ENABLE after step 7 of R536 (R179, R209, R217). -/
def State.writeEnable (s : State) (k v : Nat) : Nat × State :=
  let g := s.governor k
  let old := s.rd (Obj.OUT_ENABLE k)
  if v = old then (Status.ok, s)
  else if v = 0 then
    let s := s.wr (Obj.OUT_ENABLE k) 0
    (Status.ok, if (s.out k).state = .off then s else s.stopOutput k 1 .off)
  else
    match (s.out g).intent with
    | none => (Status.ok, s.wr (Obj.OUT_ENABLE k) 1)
    | some _ =>
      if overBudget (s.loadWith g (s.timing g) (s.rd (Obj.OUT_VT_MIN g)) (fun m => decide (m = k) || decide (s.rd (Obj.OUT_ENABLE m) = 1))) then
        (Status.pixelBudget, s)
      else
        let s := s.wr (Obj.OUT_ENABLE k) 1
        (Status.ok, (if (s.out k).state = .off then s.enter k .waitPlug else s).startAll g)

/-- OUT_ENABLE_WRITE (R217). -/
def execOutEnableWrite (rq : Requester) (k : Fin 12) (v : Fin 256) (s : State) : Out :=
  .next (s.ownRequest rq (Obj.OUT_ENABLE k.val) v.val (fun s => s.writeEnable k.val v.val))

/-! ## Output intents (R61, R62, R72 to R75, R112, R179, R181, R183, R206) -/

/-- The intent of a descriptor (R61). -/
def intentOf (d : BitVec 512) : OutIntent :=
  ⟨dfield d 79 72, dfield d 87 80, dfield d 95 88, dfield d 111 96, dfield d 127 112, dfield d 143 128, dfield d 147 144⟩

/-- Is an output intent invalid: its submitter, a field, the odd member of a pair, or a mode without VALID (R62, R65, R181, R206)? -/
def State.outIntentInvalid (s : State) (owner k : Nat) (i : OutIntent) : Bool :=
  !(decide (owner = 0x40) || decide (owner = 0xC0)) || Nat.blt 11 k || Nat.blt 2 i.priority || Nat.blt 1 i.latency || Nat.blt 3 i.storeFormat
    || Nat.blt 47 i.modeId || Nat.blt 8 i.critRects || s.pairOdd k || !timingValid (s.modeEntry k i.modeId)

/-- How an intent that moved outputs to DRAM ends (R74): the outputs still to switch, and the note. -/
def State.settleMoves (s : State) (k item : Nat) (moved own : List Nat) : State :=
  let s := s.each moved (fun s m => if (s.out (s.governor m)).phase = .stopped then s.switchDram m else s)
  let wait := moved.filter (fun m => decide ((s.out (s.governor m)).phase ≠ .stopped))
  match moved with
  | [] => s.finish item Status.ok
  | m :: _ =>
    let note := 0x0220 ||| (if own = [] then m else k)
    if wait = [] then s.complete item Status.okWithNote note
    else s.modOut k (fun x => { x with moving := wait, waitingIntent := some (item, note) })

/-- An accepted output intent takes effect: absent when the output cannot be backed. The lists are those of `backOutput`. -/
def State.takeIntent (s : State) (k : Nat) (i : OutIntent) : Option (State × List Nat × List Nat) :=
  let x := s.out k
  let ms := s.members k
  let idle := !(ms.any (fun m => (s.out m).state.running))
    || (ms.any (fun m => match s.portOf m with | some p => s.ps p psNoFit | none => false))
  let same := match x.intent with
    | some j => decide (i.modeId = j.modeId)
    | none => false
  let needs := fun (s : State) => ms.map (fun m => s.needOf m (s.timing k) i.storeFormat i.critRects)
  if !idle && same then
    let renew := match x.intent with
      | some j => !decide (i.storeFormat = j.storeFormat ∧ i.critRects = j.critRects)
      | none => true
    let s' := s.modOut k (fun x => { x with nextIntent := some i })
    if renew then s'.backOutput (needs s') i.storeFormat i.priority i.latency true else some (s', [], [])
  else
    let s' := if idle then s else s.stopOutput k 2 .waitPlug
    let s' := s'.each ms (fun s m =>
      let s := s.freeBacking m
      if idle ∧ (s.out m).state.running then
        (match s.portOf m with | some p => s.stopLink p | none => s).enter m .waitPlug
      else s)
    let s' := (s'.modOut k (fun x => { x with intent := some i, nextIntent := none })).setTiming k i
    match s'.backOutput (needs s') i.storeFormat i.priority i.latency false with
    | none => none
    | some (s', moved, own) =>
      let s' := s'.each ms (fun s m => if (s.out m).state = .off ∧ s.rd (Obj.OUT_ENABLE m) = 1 then s.enter m .waitPlug else s)
      some (s', moved, own)

/-- The status with which an output intent is refused, after the budget of the scans that a touch front end takes of its frames, or `Status.ok`; and what
taking it leaves (R72, R179, R183). -/
def State.judgeIntent (s : State) (owner k : Nat) (i : OutIntent) (scanStatus : State → Nat → OutIntent → Nat) :
    Nat × Option (State × List Nat × List Nat) :=
  if s.outIntentInvalid owner k i then (Status.intentInvalid, none)
  else
    let t := s.modeEntry k i.modeId
    if overBudget (s.loadWith k t (vtMin t i.rateMax) (fun m => decide (s.rd (Obj.OUT_ENABLE m) = 1))) then (Status.pixelBudget, none)
    else if scanStatus s k i ≠ Status.ok then (scanStatus s k i, none)
    else match s.takeIntent k i with
      | none => (Status.outputNoBacking, none)
      | some r => (Status.ok, some r)

/-- An output intent of an item checked and taken. -/
def State.outputIntent (s : State) (it : Item) (owner : Nat) (scanStatus : State → Nat → OutIntent → Nat) : State :=
  let k := dfield it.desc 67 64
  match s.judgeIntent owner k (intentOf it.desc) scanStatus with
  | (_, some (s, moved, own)) => (s.settleMoves k it.id moved own).startAll k
  | (st, none) => s.finish it.id st

end Sys2Proof.Machine
end

