-- ==== Sys2Proof/Machine/Ports.lean ====
section
/-! DEFINITION. The display ports' commands (R214 to R216, R223 to R236): routing, attach and its debounce, training, and link loss. -/
namespace Sys2Proof.Machine
open Sys2Proof

/-! ## Routing (R223, R224) -/

/-- A routed port that is attached: the record, the sink's modes, and the output's start (R216, R224). -/
def State.plugged (s : State) (k p : Nat) : State :=
  let s := (s.logEvent Ev.hotplugIn noOwner [d8 k, d8 p]).fillSinkModes p k
  s.startOutput k

/-- OUT_PORT after step 7 of R536 (R223, R224, R225). -/
def State.writeOutPort (s : State) (k v : Nat) : Nat × State :=
  if (s.out k).state.running then (Status.portBusy, s)
  else if v < 14 ∧ (List.range 12).any (fun j => !decide (j = k) && decide (s.rd (Obj.OUT_PORT j) = v)) then (Status.routeConflict, s)
  else if 14 ≤ v ∧ v ≠ 0xFF then (Status.ldpRange, s)
  else if v = s.rd (Obj.OUT_PORT k) then (Status.ok, s)
  else
    let s := match s.portOf k with
      | some p => s.stopLink p
      | none => s
    let s := s.wr (Obj.OUT_PORT k) v
    (Status.ok, if v < 14 ∧ s.attached v then s.plugged k v else s)

/-- OUT_PORT_WRITE (R223, R224). -/
def execOutPortWrite (rq : Requester) (k : Fin 12) (v : Fin 256) (s : State) : Out :=
  .next (s.ownRequest rq (Obj.OUT_PORT k.val) v.val (fun s => s.writeOutPort k.val v.val))

/-! ## Attach (R214, R226) -/

/-- Is the attach signal of a port taken as high at all times (R226)? -/
def State.detIgnored (s : State) (p : Nat) : Bool :=
  (decide (s.portKind p = 2) || decide (s.portKind p = 3)) && bit (s.rd (Obj.PORT_DSI_FLAGS p)) 4

/-- The attach level of a port. -/
def State.attachLevel (s : State) (p : Nat) : Bool := (s.port p).level || s.detIgnored p

/-- ATTACH_EDGE (R214): debounce timing starts, or ends when the level returns to what it was; an output in UNPLUG_DEBOUNCE is then as before. -/
def execAttachEdge (p : Fin 14) (level : Bool) (s : State) : Out :=
  let p := p.val
  let s := s.modPort p (fun x => { x with level := level })
  let now := s.attachLevel p
  let s := s.modPort p (fun x => { x with debouncing := now != s.attached p })
  .next (match s.outputOf p with
    | some k =>
      if now ∧ (s.out k).state = .unplugDebounce then
        s.each (s.members k) (fun s m => if (s.out m).state = .unplugDebounce then s.enter m (s.out m).before else s)
      else s
    | none => s)

/-- UNPLUG_DEBOUNCE (R214, R218): the level has been low for 2 ms; an ACTIVE output is in UNPLUG_DEBOUNCE, and runs on. -/
def execUnplugDebounce (p : Fin 14) (s : State) : Out :=
  let p := p.val
  if !s.attached p || s.attachLevel p then .next s
  else match s.outputOf p with
    | some k =>
      if (s.out k).state = .active then
        let s := s.each (s.members k) (fun s m => (s.modOut m (fun x => { x with before := .active })).enter m .unplugDebounce)
        .next (s.each (s.members k) (fun s m => s.coastIfLead m 2))
      else .next s
    | none => .next s

/-- HOTPLUG_OUT (R215, R224): an unplug is debounced. -/
def execHotplugOut (p : Fin 14) (s : State) : Out :=
  let p := p.val
  if !s.attached p || s.attachLevel p then .next s
  else
    let s := (s.setPs p psPresent false).modPort p (fun x => { x with debouncing := false })
    match s.outputOf p with
    | none => .next s
    | some k =>
      let s := s.logEvent Ev.hotplugOut noOwner [d8 k, d8 p]
      .next (if (s.out k).state.running then s.stopOutput k 0 .waitPlug else s)

/-- HOTPLUG_IN (R216, R224, R227): a plug is debounced; `sink` is what the port reads of it. -/
def execHotplugIn (p : Fin 14) (sink : SinkReport) (s : State) : Out :=
  let p := p.val
  if s.attached p || !s.attachLevel p then .next s
  else
    let s := (s.setPs p psPresent true).modPort p (fun x => { x with debouncing := false, sink := sink })
    match s.outputOf p with
    | none => .next s
    | some k => .next (s.plugged k p)

/-! ## Training (R233 to R236) -/

/-- The candidate that is tried fails: the next one, or the list is exhausted (R233, R234, R679). -/
def execTrainFail (p : Fin 14) (phase : Fin 7) (s : State) : Out :=
  let p := p.val
  if !s.ps p psTraining || decide (s.portKind p = 2) || decide (s.portKind p = 3) then .next s
  else match (s.port p).candidates with
    | [] => .next s
    | c :: rest =>
      let s := (s.count (Obj.PORT_TRAIN_FAILS p)).logEvent Ev.trainFail noOwner [d8 p, d8 c.rate, d8 c.lanes, d8 phase.val]
      let s := s.train p rest (s.port p).rerun
      .next (if rest = [] then s.setPs p psExhausted true else s)

/-- LINK_UP (R233, R235, R236): the attempt, or the DSI-2 start, succeeds. A running output's change of DSC waits for its frame start. -/
def execLinkUp (p : Fin 14) (s : State) : Out :=
  let p := p.val
  if !s.ps p psTraining then .next s
  else match (s.port p).candidates with
    | [] => .next s
    | c :: _ =>
      let was := (s.port p).link
      let s := ((s.setPs p psTraining false).setPs p psLinkUp true).modPort p (fun x => { x with link := some c, level := x.level || decide (s.portKind p = 4) })
      let s := s.whenB (!s.isDp p) (fun s => s.emit (.port p pcInit))
      let changes := match was with
        | some o => decide (o.dsc = 0) != decide (c.dsc = 0)
        | none => false
      let s := if changes then s.modPort p (fun x => { x with dscPending := some c })
        else (s.setPs p psDsc (decide (c.dsc ≠ 0))).wr (Obj.PORT_LINK_NOW p) (linkNow c)
      let s := s.logEvent Ev.linkUp noOwner [d8 p, d8 c.rate, d8 c.lanes, d16 c.dsc]
      .next (match s.outputOf p with
        | some k => s.tryRaster k
        | none => s)

/-- TRAIN_RETRY (R234): an exhausted port runs its list again from where the exhausted run started, as far as the list still carries the mode. -/
def execTrainRetry (p : Fin 14) (s : State) : Out :=
  let p := p.val
  let x := s.port p
  if s.ps p psTraining || s.ps p psLinkUp || decide (x.rerun = []) then .next s
  else match s.outputOf p with
    | none => .next s
    | some k =>
      let fit := s.candidates p (s.timing k)
      let list := x.rerun.filter (fun c => fit.contains c)
      if fit = [] then .next (s.startTraining p k)
      else .next (s.train p (if list = [] then fit else list) x.rerun)

/-- A trained link is lost while its output runs (R226, R230, R236): the output runs on, and the port retrains from the configuration last in
force down. A loss lowers an A-PHY port's attach level. -/
def State.linkLost (s : State) (p : Nat) (injected : Bool) : State :=
  match s.outputOf p, (s.port p).link with
  | some k, some c =>
    let dsi := decide (s.portKind p = 2) || decide (s.portKind p = 3)
    if !s.ps p psLinkUp || dsi || !((s.out k).state.running) || decide ((s.out k).state = .glassHold) then s
    else
      let s := (s.setPs p psLost true).setPs p psLinkUp false
      let s := s.logInjected Ev.linkLost noOwner injected [d8 p, d8 c.rate, d8 c.lanes]
      let s := if s.portKind p = 4 then s.modPort p (fun x => { x with level := false, debouncing := true }) else s
      let fit := s.candidates p (s.timing k)
      let list := c :: (fit.dropWhile (fun d => !decide (d = c))).drop 1
      s.train p list list
  | _, _ => s

/-- LINK_LOST (R236). -/
def execLinkLost (p : Fin 14) (s : State) : Out := .next (s.linkLost p.val false)

/-- SINK_IRQ (R230): the port reads the sink's vector and link status; a loss of lock is a link loss. For a self-refresh error the port sets
nothing. -/
def execSinkIrq (p : Fin 14) (vector : Fin 256) (lossOfLock _selfRefreshError : Bool) (s : State) : Out :=
  if !s.isDp p.val || !s.attached p.val then .next s
  else
    let s := (s.emit (.port p.val pcIrqRead)).logEvent Ev.sinkIrq noOwner [d8 p.val, d8 vector.val]
    .next (if lossOfLock then s.linkLost p.val false else s)

/-- PORT_RETRAIN after step 7 of R536 (R236): 1 retrains from the top of the candidate list. -/
def State.writeRetrain (s : State) (p v : Nat) : Nat × State :=
  match s.outputOf p with
  | some k =>
    if v = 1 ∧ (s.out k).state.running ∧ !s.ps p psMismatch ∧ (s.out k).state ≠ .glassHold then (Status.ok, s.startTraining p k)
    else (Status.ok, s)
  | none => (Status.ok, s)

/-- PORT_RETRAIN (R236). -/
def execPortRetrain (rq : Requester) (p : Fin 14) (v : Fin 256) (s : State) : Out :=
  .next (s.ownRequest rq (Obj.PORT_RETRAIN p.val) v.val (fun s => s.writeRetrain p.val v.val))

end Sys2Proof.Machine
end

