-- ==== Sys2Proof/Machine/Jobs.lean ====
section
/-! DEFINITION. Jobs of the Raster Array (R63, R64, R254 to R268, R318 to R322): their descriptors' checks, the scheduler's release, the shared
queue, and how a job ends. -/
namespace Sys2Proof.Machine
open Sys2Proof

/-! ## Intents and fields (R63, R262, R267) -/

/-- JOB_SURFACE of a job. -/
def jobSurface (d : BitVec 512) : Nat := if dType d = 0x40 then dfield d 207 192 else dfield d 223 208
/-- REPORT_OFFSET. -/
def jobReport (d : BitVec 512) : Nat := if dType d = 0x40 then dfield d 383 352 else dfield d 447 416
/-- DRAW_COUNT. -/
def drawCount (d : BitVec 512) : Nat := dfield d 223 208
/-- DRAW_OFFSET. -/
def drawOffset (d : BitVec 512) : Nat := dfield d 255 224
/-- RT_WIDTH. -/
def rtWidth (d : BitVec 512) : Nat := dfield d 303 288
/-- RT_HEIGHT. -/
def rtHeight (d : BitVec 512) : Nat := dfield d 319 304
/-- Samples a pixel. -/
def rtSamples (d : BitVec 512) : Nat := 2 ^ dfield d 321 320
/-- Tiles across the render area (R264). -/
def tilesX (d : BitVec 512) : Nat := divUp (rtWidth d) 32
/-- Tiles of the render area. -/
def tileCount (d : BitVec 512) : Nat := tilesX d * divUp (rtHeight d) 32
/-- The DEADLINE of a job intent, if it has one (R63). -/
def jobDeadline (d : BitVec 512) : Option Spos := if dbit d 128 then some (Spos.ofNat (dfield d 127 64)) else none
/-- CRIT of a job intent. -/
def jobCrit (d : BitVec 512) : Nat := dfield d 143 136

/-- Bytes a pixel of a format. -/
def pixelBytes (c : Nat) : Nat := bitsPerPixel c / 8

/-- Attachment fields (R263). -/
def atSurface (e : Nat) : Nat := field e 15 0
/-- FORMAT. -/
def atFormat (e : Nat) : Nat := field e 23 16
/-- OFFSET. -/
def atOffset (e : Nat) : Nat := field e 63 32
/-- STRIDE. -/
def atStride (e : Nat) : Nat := field e 83 64
/-- RESOLVE_SURFACE. -/
def atResolve (e : Nat) : Nat := field e 175 160
/-- RESOLVE_OFFSET. -/
def atResolveOffset (e : Nat) : Nat := field e 223 192
/-- SIG_OFFSET. -/
def atSig (e : Nat) : Nat := field e 255 224
/-- STORE. -/
def atStore (e : Nat) : Bool := bit e 26
/-- RESOLVE. -/
def atResolves (e : Nat) : Bool := bit e 27
/-- SIG. -/
def atSigned (e : Nat) : Bool := bit e 28

/-- Stride of a resolve target (R263). -/
def resolveStride (d : BitVec 512) (e : Nat) : Nat := roundUp (rtWidth d * pixelBytes (atFormat e)) 64

/-- Does a submitter own a surface that takes new users? -/
def State.usable (s : State) (owner n : Nat) : Bool := s.ownsSurface owner n && !s.releasing n

/-! ## Checks (R262 to R264, R267, R268, R291) -/

/-- Is an attachment entry invalid (R263)? -/
def State.attachBad (s : State) (owner : Nat) (d : BitVec 512) (i e : Nat) : Bool :=
  let colour := Nat.blt i 8
  let b := pixelBytes (atFormat e)
  let sm := rtSamples d
  !s.usable owner (atSurface e)
    || (if colour then !colourAttachment (atFormat e) else !(Nat.ble 0x28 (atFormat e) && Nat.ble (atFormat e) 0x2B))
    || decide (field e 25 24 = 3)
    || decide (atOffset e % 64 ≠ 0) || decide (atStride e % 64 ≠ 0) || Nat.blt (atStride e) (rtWidth d * sm * b)
    || Nat.blt (s.surf (atSurface e)).bytes (atOffset e + (rtHeight d - 1) * atStride e + rtWidth d * sm * b)
    || (atResolves e && (!colour || !s.usable owner (atResolve e)
        || Nat.blt (s.surf (atResolve e)).bytes (atResolveOffset e + (rtHeight d - 1) * resolveStride d e + rtWidth d * b)))
    || (atSigned e && (!colour || (Nat.blt 1 sm && !atResolves e)
        || Nat.blt (s.surf (atSurface e)).bytes (atSig e + 8 * tileCount d)))

/-- The attachments of a render job: index and entry. -/
def State.attachments (s : State) (d : BitVec 512) : List (Nat × Nat) := (attachIndexes d).map (fun i => (i, s.attachEntry d i))

/-- The tile footprint of a job (R264). -/
def State.footprint (s : State) (d : BitVec 512) : Nat :=
  1024 * rtSamples d * sumNat ((s.attachments d).map (fun a => pixelBytes (atFormat a.2)))

/-- Bytes of scratch that a job needs (R264). -/
def State.scratchBytes (s : State) (d : BitVec 512) : Nat :=
  sumNat ((s.attachments d).map (fun a =>
    if atStore a.2 ∧ rtSamples d = 1 then 0 else tileCount d * 1024 * rtSamples d * pixelBytes (atFormat a.2)))

/-- Is the intent of a job invalid (R63)? -/
def jobIntentBad (owner : Nat) (d : BitVec 512) : Bool := Nat.blt 3 (jobCrit d) || (decide (jobCrit d = 3) && !decide (owner = 0xC1))

/-- Does an area of JOB_SURFACE lie outside it? -/
def State.outsideJob (s : State) (d : BitVec 512) (o n : Nat) : Bool := Nat.blt (s.surf (jobSurface d)).bytes (o + n)

/-- Is a render job invalid (R262 to R264)? -/
def State.renderBad (s : State) (owner : Nat) (d : BitVec 512) : Bool :=
  jobIntentBad owner d || !s.usable owner (jobSurface d)
    || decide (drawCount d = 0) || decide (drawOffset d % 64 ≠ 0) || s.outsideJob d (drawOffset d) (128 * drawCount d)
    || decide (dfield d 287 256 % 64 ≠ 0)
    || !(Nat.ble 1 (rtWidth d) && Nat.ble (rtWidth d) 16384 && Nat.ble 1 (rtHeight d) && Nat.ble (rtHeight d) 16384)
    || Nat.blt 8 (dfield d 325 322)
    || (attachIndexes d).any (fun i => s.outsideJob d (dfield d 287 256) (32 * i + 32))
    || (s.attachments d).any (fun a => s.attachBad owner d a.1 a.2)
    || (!decide (jobReport d = 0xFFFFFFFF) && s.outsideJob d (jobReport d) 64)
    || Nat.blt 131072 (s.footprint d)
    || (!decide (s.scratchBytes d = 0)
        && (decide (dfield d 415 384 = 0xFFFFFFFF) || s.outsideJob d (dfield d 415 384) (s.scratchBytes d)))

/-- Entry i of a resource table. -/
def State.resEntry (s : State) (sf o i : Nat) : Nat := s.surfBytes sf (o + 32 * i) 32

/-- Is an entry of a resource table faulty (R268, R272, R291)? -/
def State.resEntryBad (s : State) (owner e : Nat) : Bool :=
  let kind := field e 3 0
  let n := field e 31 16
  let image := decide (kind = 3) || decide (kind = 4) || decide (kind = 6) || decide (kind = 7)
  if kind = 0 then false
  else if kind = 5 then Nat.blt 16 (field e 28 24) || Nat.blt 5 (field e 23 21)
  else
    Nat.blt 7 kind || !s.usable owner n
      || (decide (kind = 1) && Nat.blt 65536 (field e 95 64))
      || (image && ((formatKind (field e 15 8)).isNone || decide (field e 63 32 % 64 ≠ 0)
            || (decide (kind = 4) && !storageImage (field e 15 8))
            || !(Nat.ble 1 (field e 107 96) && Nat.ble (field e 107 96) 2048)
            || Nat.blt 16384 (field e 79 64) || Nat.blt 16384 (field e 95 80)))
      || (decide (kind = 6) && !s.usable owner (field e 143 128))

/-- The surfaces that a resource table names. -/
def State.resSurfaces (s : State) (sf o count : Nat) : List Nat :=
  (List.range count).flatMap (fun i =>
    let e := s.resEntry sf o i
    let kind := field e 3 0
    if kind = 0 ∨ kind = 5 then [] else [field e 31 16] ++ (if kind = 6 then [field e 143 128] else []))

/-- Is a resource table faulty? -/
def State.resTableBad (s : State) (owner sf o count : Nat) : Bool :=
  Nat.blt 256 count || Nat.blt (s.surf sf).bytes (o + 32 * count)
    || (List.range count).any (fun i => s.resEntryBad owner (s.resEntry sf o i))

/-- A pipeline of an owner. -/
def State.pipeline? (s : State) (owner h : Nat) : Option Pipeline :=
  if h < 1024 then (s.raster.pipelines.find? (fun e => decide (e.1 = 1024 * owner + h))).map Prod.snd else none

/-- The workgroup counts of a compute job; read from memory when they are indirect (R267). -/
def State.groups (s : State) (d : BitVec 512) : List Nat :=
  if dbit d 448 then unpackItems 4 3 (s.surfBytes (jobSurface d) (dfield d 511 480) 12)
  else [dfield d 319 288, dfield d 351 320, dfield d 383 352]

/-- Are workgroup counts outside R267's range? -/
def groupsBad (g : List Nat) : Bool := g.any (fun n => decide (n = 0) || Nat.blt 65535 n)

/-- The status of a compute job's checks (R63, R266 to R268, R291). -/
def State.computeStatus (s : State) (owner : Nat) (d : BitVec 512) : Nat :=
  let sf := jobSurface d
  if jobIntentBad owner d ∨ !s.usable owner sf then Status.jobInvalid
  else
    match s.pipeline? owner (dfield d 207 192) with
    | none => Status.pipelineUnknown
    | some p =>
      if p.graphics then Status.pipelineUnknown
      else if s.resTableBad owner sf (dfield d 255 224) (dfield d 271 256)
          || (!dbit d 448 && groupsBad (s.groups d)) || (dbit d 448 && s.outsideJob d (dfield d 511 480) 12)
          || (!decide (dfield d 415 384 = 0xFFFFFFFF) && s.outsideJob d (dfield d 415 384) 128)
          || (!decide (jobReport d = 0xFFFFFFFF) && s.outsideJob d (jobReport d) 64) then Status.jobInvalid
      else Status.ok

/-! ## Draw records (R265, R266) -/

/-- Draw record i of a render job. -/
def State.drawRecord (s : State) (d : BitVec 512) (i : Nat) : Nat := s.surfBytes (jobSurface d) (drawOffset d + 128 * i) 128

/-- The status of a draw record's checks when binning reaches it (R265, R266, R291). -/
def State.drawStatus (s : State) (owner : Nat) (d : BitVec 512) (r : Nat) : Nat :=
  let sf := jobSurface d
  match s.pipeline? owner (field r 15 0) with
  | none => Status.pipelineUnknown
  | some p =>
    if !p.graphics then Status.pipelineUnknown
    else if (bit r 16 && (decide (field r 18 17 = 3) || !s.usable owner (field r 207 192)))
        || s.resTableBad owner sf (field r 287 256) (field r 303 288)
        || (bit r 19 && s.outsideJob d (field r 863 832) (if bit r 16 then 20 else 16))
        || (!decide (field r 895 864 = 0xFFFFFFFF) && s.outsideJob d (field r 895 864) 128) then Status.jobInvalid
    else Status.ok

/-- Surfaces that a job names. -/
def State.jobUses (s : State) (d : BitVec 512) : List Nat :=
  let sf := jobSurface d
  if dType d = 0x40 then
    sf :: (s.attachments d).flatMap (fun a => atSurface a.2 :: (if atResolves a.2 then [atResolve a.2] else []))
      ++ (List.range (drawCount d)).flatMap (fun i =>
        let r := s.drawRecord d i
        (if bit r 16 then [field r 207 192] else []) ++ s.resSurfaces sf (field r 287 256) (Nat.min 256 (field r 303 288)))
  else sf :: s.resSurfaces sf (dfield d 255 224) (Nat.min 256 (dfield d 271 256))

/-- Pipeline handles that a job names. -/
def State.jobHandles (s : State) (d : BitVec 512) : List Nat :=
  if dType d = 0x40 then (List.range (drawCount d)).map (fun i => field (s.drawRecord d i) 15 0) else [dfield d 207 192]

/-! ## Jobs -/

/-- A job of an item. -/
def State.job? (s : State) (j : Nat) : Option Job := s.jobs.find? (fun x => decide (x.item = j))
/-- The state with a job changed. -/
def State.modJob (s : State) (j : Nat) (f : Job → Job) : State :=
  { s with jobs := s.jobs.map (fun x => if x.item = j then f x else x) }
/-- The state with the Raster Array changed. -/
def State.modRaster (s : State) (f : Raster → Raster) : State := { s with raster := f s.raster }
/-- The descriptor of an item. -/
def State.descOf (s : State) (j : Nat) : BitVec 512 := match s.item? j with | some it => it.desc | none => 0

/-- The deadline of a job as far as its owner's deadlines count (R322). -/
def State.dueAt (s : State) (j : Job) : Option Spos :=
  if j.owner < 64 ∧ s.rd (Obj.INST_DEADLINE_OK j.owner) ≠ 1 then none else j.deadline

/-- Does job a come before job b in the shared queue (R64)? -/
def State.jobBefore (s : State) (a b : Job) : Bool :=
  match s.dueAt a, s.dueAt b with
  | some x, some y => x.earlier y || (!y.earlier x && Nat.ble a.released b.released)
  | some _, none => true
  | none, some _ => false
  | none, none => Nat.ble a.released b.released

/-- Work items of a job enter the shared queue behind those of jobs that come before it (R64, R255). -/
def State.addWork (s : State) (j : Job) (new : List WorkItem) : State :=
  s.modRaster (fun r =>
    let ahead := fun (w : WorkItem) => match s.job? w.job with | some x => s.jobBefore x j | none => true
    { r with work := r.work.takeWhile ahead ++ new ++ r.work.dropWhile ahead })

/-- The tiles of a pass of a render job (R255). -/
def State.tileItems (s : State) (j : Nat) (d : BitVec 512) : List WorkItem :=
  let b := s.footprint d
  (List.range (tileCount d)).map (fun t => ⟨j, t, b⟩)

/-- The work items of a compute job: up to 64 consecutive workgroups each (R255). -/
def computeItems (j : Nat) (g : List Nat) (shared : Nat) : List WorkItem :=
  (List.range (divUp (g.foldl (fun a n => a * n) 1) 64)).map (fun t => ⟨j, t, shared⟩)

/-! ## The parameter buffer's pages (R279, R280) -/

/-- The granted pages of an owner. -/
def State.pool (s : State) (o : Nat) : List PbPage := Tab.get [] s.raster.pools o
/-- The state with the pool of an owner set. -/
def State.setPool (s : State) (o : Nat) (l : List PbPage) : State := s.modRaster (fun r => { r with pools := Tab.set r.pools o l })
/-- Reserve pages that jobs hold. -/
def State.reserveHeld (s : State) : Nat := sumNat (s.jobs.map Job.reserve)
/-- RAS_PB_RESERVE_FREE. -/
def State.reserveFree (s : State) : Nat := s.rd Obj.RAS_PB_RESERVE_PAGES - s.reserveHeld

/-- The pages of a job return to their pool and the reserve, and its lists are empty (R281). -/
def State.freePages (s : State) (j : Nat) : State :=
  let s := s.modRaster (fun r => { r with pools := r.pools.map (fun e =>
    (e.1, e.2.map (fun (p : PbPage) => if p.job = some j then { p with job := none } else p))) })
  s.modJob j (fun x => { x with used := 0, lists := [], reserve := 0 })

/-- Revokes that wait complete once none of their pages holds lists (R279). -/
def State.settleRevokes (s : State) : State :=
  s.each (s.items.filter (fun i => i.started && decide (dType i.desc = 0x43) && dbit i.desc 80)) (fun s it =>
    let d := it.desc
    let named := fun (p : PbPage) => decide (p.surface = dfield d 79 64) && Nat.ble (dfield d 127 96) p.page
        && Nat.blt p.page (dfield d 127 96 + dfield d 143 128)
    let l := s.pool it.owner
    let s := s.setPool it.owner (l.filter (fun p => !(named p && p.job.isNone)))
    if l.any (fun p => named p && p.job.isSome) then s else s.finish it.id Status.ok)

/-- Pipelines whose DESTROY waits go once no resident job names their handle (R287). -/
def State.settleDestroys (s : State) : State :=
  s.each s.raster.pipelines (fun s e =>
    if e.2.dying = [] ∨ s.jobs.any (fun j => j.resident && decide (j.owner = e.1 / 1024) && j.handles.contains (e.1 % 1024)) then s
    else
      let s := s.modRaster (fun r => { r with pipelines := Tab.drop r.pipelines e.1 })
      s.each e.2.dying (fun s item => s.finish item Status.ok))

/-! ## The end of a job (R258 to R261, R296) -/

/-- The 64-byte job report (R296). -/
def State.report (s : State) (j : Job) : Nat :=
  j.passes % 2 ^ 32 + (j.rendered % 2 ^ 32) * 2 ^ 32 + (j.skipped % 2 ^ 32) * 2 ^ 64 + (j.peak % 65536) * 2 ^ 96
    + (j.preemptions % 65536) * 2 ^ 112 + j.start.pack * 2 ^ 128 + s.now.pack * 2 ^ 192 + (j.primitives % 2 ^ 32) * 2 ^ 256
    + ofBool j.robust * 2 ^ 288 + ofBool j.miss * 2 ^ 289

/-- A little-endian string of n bytes as bytes. -/
def bytesOf (n v : Nat) : List (BitVec 8) := (unpackItems 1 n v).map (BitVec.ofNat 8)

/-- The report is written before the record (R258). -/
def State.writeReport (s : State) (j : Job) : State :=
  let d := s.descOf j.item
  if jobReport d = 0xFFFFFFFF then s else (s.store (jobSurface d) (jobReport d) (bytesOf 64 (s.report j))).1

/-- The bytes of a failed render job's stored attachments inside the render area are unpredictable (R259). -/
def State.loseTargets (s : State) (d : BitVec 512) : State :=
  if dType d ≠ 0x40 then s
  else s.each (s.attachments d) (fun s a =>
    let e := a.2
    let inArea := fun (base stride row o : Nat) =>
      Nat.ble base o && Nat.blt ((o - base) / stride) (rtHeight d) && Nat.blt ((o - base) % stride) row
    let s := if atStore e ∧ atStride e ≠ 0 then
        s.forgetBytes (atSurface e) (inArea (atOffset e) (atStride e) (rtWidth d * rtSamples d * pixelBytes (atFormat e)))
      else s
    if atResolves e ∧ resolveStride d e ≠ 0 then
      s.forgetBytes (atResolve e) (inArea (atResolveOffset e) (resolveStride d e) (rtWidth d * pixelBytes (atFormat e)))
    else s)

/-- A job ends with a status and detail: report, pages, work items, record, and what waited for it. -/
def State.endJob (s : State) (j : Job) (status detail : Nat) : State :=
  let s := if j.resident then s.writeReport j else s
  let s := s.freePages j.item
  let mine := fun (w : WorkItem) => decide (w.job = j.item)
  let s := s.modRaster (fun r => { r with
    work := r.work.filter (fun w => !mine w)
    clusters := r.clusters.map (fun e => (e.1, e.2.filter (fun w => !mine w)))
    saved := r.saved.map (fun e => (e.1, e.2.filter (fun w => !mine w))) })
  let s := { s with jobs := s.jobs.filter (fun x => !decide (x.item = j.item)) }
  let s := (s.complete j.item status detail).settleRevokes.settleDestroys
  s.each j.uses (fun s n => s.releaseIfFree n)

/-- A job fails: its targets are unpredictable, and the failure is logged (R258, R259, R299). -/
def State.failJob (s : State) (j : Job) (status detail : Nat) : State :=
  let d := s.descOf j.item
  let injected := match s.item? j.item with | some it => it.injected | none => false
  let s := if j.resident then s.loseTargets d else s
  let s := s.tallyCount 8 status j.owner
  (s.endJob j status detail).logInjected Ev.jobFailed j.owner injected [d8 j.owner, d32 (dSeq d), d16 (recordStatus injected status detail).1]

/-- A job completes (R258, R261): the highest note that applies. -/
def State.finishJob (s : State) (j : Job) : State :=
  let late := match s.dueAt j with | some p => p.earlier s.now | none => false
  let n := if j.robust then Status.robustAccess else if late then Status.deadlineMissed else if j.passes = 0 then 0 else Status.pbPartial
  s.endJob j (if n = 0 then Status.ok else Status.okWithNote) n

/-! ## Acceptance (R262, R267) -/

/-- A job that passed its checks waits for its release. -/
def State.queueJob (s : State) (it : Item) : State :=
  { s with jobs := s.jobs ++ [{ item := it.id, owner := it.owner, queue := it.queue, crit := jobCrit it.desc, deadline := jobDeadline it.desc,
                                 writes := if dType it.desc = 0x40 then s.renderWrites it.desc else [] }] }

/-- A failure before any work begins. -/
def State.refuseJob (s : State) (it : Item) (status : Nat) : State :=
  (s.complete it.id status 0xFFFF).logEvent Ev.jobFailed it.owner [d8 it.owner, d32 (dSeq it.desc), d16 status]

/-- RENDER_JOB (R262 to R264). -/
def execRenderJob (o : Owner) (q : Fin 16) (s : State) : Out :=
  .next (s.onItem o.code q.val 0x40 (fun s it =>
    if s.renderBad o.code it.desc then s.refuseJob it Status.jobInvalid else s.queueJob it))

/-- COMPUTE_JOB (R267, R268). -/
def execComputeJob (o : Owner) (q : Fin 16) (s : State) : Out :=
  .next (s.onItem o.code q.val 0x41 (fun s it =>
    let st := s.computeStatus o.code it.desc
    if st = Status.ok then s.queueJob it else s.refuseJob it st))

/-! ## Release (R257, R318 to R320) -/

/-- May a waiting job of a queue's head be released: it is the first of its queue's waiting jobs, its owner is not suspended, and no SIG_INVALIDATE or
TILE_BIND before it is unfinished (R257, R320)? -/
def State.mayRelease (s : State) (j : Job) : Bool :=
  !j.resident && !(s.inst j.owner).suspended
    && !(s.jobs.any (fun x => !x.resident && decide (x.owner = j.owner) && decide (x.queue = j.queue) && Nat.blt x.item j.item))
    && !(s.items.any (fun i => decide (i.owner = j.owner) && decide (i.queue = j.queue) && Nat.blt i.id j.item
          && (decide (dType i.desc = 0x44) || decide (dType i.desc = 0x45))))

/-- Resident jobs of an owner class: Bittern's and Gaffer's share 16 places, the manager and instances 472 (R318). -/
def State.residentOf (s : State) (p : Nat → Bool) : Nat := (s.jobs.filter (fun j => j.resident && p j.owner)).length

/-- Is a place free for a job of an owner (R318)? -/
def State.placeFree (s : State) (o : Nat) : Bool :=
  if 0xC0 ≤ o then Nat.blt (s.residentOf (fun x => Nat.ble 0xC0 x)) 16
  else Nat.blt (s.residentOf (fun x => Nat.blt x 0xC0)) 472
    && (Nat.ble 64 o || Nat.blt (s.residentOf (fun x => decide (x = o))) (s.rd (Obj.INST_MAX_RESIDENT o)))

/-- Jobs that may be released now. -/
def State.releasable (s : State) : List Job := s.jobs.filter (fun j => s.mayRelease j && s.placeFree j.owner)

/-- The owner whose job is released next: the highest balance, a positive one before the others, the lowest owner code of equals (R320). -/
def State.nextOwner (s : State) (os : List Nat) : Option Nat :=
  leastBy (fun o => (Int.ofNat (2 ^ 62) - (s.inst o).balance).toNat * 256 + o) os

/-- The job released next: of the chosen owner, from the next queue in round-robin order (R320). -/
def State.nextJob (s : State) : Option Job :=
  let js := s.releasable
  match s.nextOwner (js.map Job.owner) with
  | none => none
  | some o => leastBy (fun j => (j.queue + 16 - ((s.inst o).lastQueue + 1) % 16) % 16) (js.filter (fun j => decide (j.owner = o)))

/-- An instance's injected timeout takes its next running job (R260, R640, point 17). -/
def State.injectTimeout (s : State) (j : Job) : Bool × State :=
  let r := s.inject 17 j.owner
  match r.1 with
  | none => (false, r.2)
  | some _ => (true, (r.2.modItem j.item (fun i => { i with injected := true })))

/-- JOB_RELEASE (R255, R320): the next waiting job becomes resident; a compute job's work items enter the queue; victims are reconsidered. -/
def execJobRelease (s : State) : Out :=
  match s.nextJob with
  | none => .next s
  | some j =>
    let d := s.descOf j.item
    let j := { j with resident := true, released := s.raster.releases, start := s.now, uses := s.jobUses d, handles := s.jobHandles d }
    let s := s.modRaster (fun r => { r with releases := r.releases + 1 })
    let s := (s.modJob j.item (fun _ => j)).modInst j.owner (fun x => { x with lastQueue := j.queue })
    let s := (s.tallyCount 8 0 j.owner).cutoverAtStart j.uses
    let t := s.injectTimeout j
    if t.1 then .next ((t.2.failJob j Status.jobTimeout 0xFFFF).reconsiderAll)
    else
      let s := t.2
      if dType d = 0x40 then .next s.reconsiderAll
      else
        let g := s.groups d
        if groupsBad g then .next (s.failJob j Status.jobInvalid 0xFFFF)
        else
          let shared := match s.pipeline? j.owner (dfield d 207 192) with | some p => p.shared | none => 0
          let ws := computeItems j.item g shared
          let j := { j with left := ws.length }
          .next (((s.modJob j.item (fun _ => j)).addWork j ws).reconsiderAll)

/-- JOB_TIMEOUT (R260). -/
def execJobTimeout (j : Nat) (s : State) : Out :=
  match s.job? j with
  | some x => .next (if x.resident then s.failJob x Status.jobTimeout 0xFFFF else s)
  | none => .next s

/-- JOB_COMPLETE (R258): a resident job with no work left, whose binning has ended if it is a render job, completes. -/
def execJobComplete (j : Nat) (s : State) : Out :=
  match s.job? j with
  | some x => .next (if x.resident && !x.inPass && decide (x.left = 0) && (x.binned || decide (dType (s.descOf j) = 0x41)) then s.finishJob x else s)
  | none => .next s

end Sys2Proof.Machine
end

