-- ==== Sys2Proof/Machine/Raster.lean ====
section
/-! DEFINITION. What the Raster Array does with resident jobs (R255, R256, R260, R271, R273 to R286, R293 to R296): binning into the parameter
buffer, partial passes, work items on clusters, tile signatures, cluster faults, and the saving and restoring of an instance's context. -/
namespace Sys2Proof.Machine
open Sys2Proof

/-! ## Binning (R265, R266, R273, R280 to R282) -/

/-- The covered tiles of a primitive that lie in the render area. -/
def primTiles (d : BitVec 512) (p : Nat × List Nat) : List Nat := (noRepeats p.2).filter (fun t => Nat.blt t (tileCount d))

/-- Bytes of the parameter buffer that a primitive takes (R273): its block, and a chunk for each tile whose list has none left. -/
def Job.primCost (j : Job) (d : BitVec 512) (p : Nat × List Nat) : Nat :=
  32 + 48 * p.1 + 64 * ((primTiles d p).filter (fun t => decide (Tab.get 0 j.lists t % 8 = 0))).length

/-- Pages of an owner's pool that hold the lists of no job (RAS_PB_POOL_FREE). -/
def State.poolFree (s : State) (o : Nat) : Nat := ((s.pool o).filter (fun p => p.job.isNone)).length

/-- Pages that hold a job's lists: of its owner's pool and of the reserve. -/
def State.pagesHeld (s : State) (j : Job) : Nat := ((s.pool j.owner).filter (fun p => decide (p.job = some j.item))).length + j.reserve

/-- Reserve pages that a job may still claim (R280). -/
def State.reserveRoom (s : State) (j : Job) : Nat := Nat.min s.reserveFree (s.rd Obj.RAS_PB_RESERVE_PER_JOB - j.reserve)

/-- The first n free pages of a pool taken for a job. -/
def claimPages (j : Nat) : Nat → List PbPage → List PbPage
  | 0, l => l
  | _, [] => []
  | n + 1, p :: l => if p.job.isNone then { p with job := some j } :: claimPages j n l else p :: claimPages j (n + 1) l

/-- One further entry on the list of each tile. -/
def addEntries (lists : Tab Nat) (ts : List Nat) : Tab Nat := ts.foldl (fun (l : Tab Nat) t => Tab.set l t (Tab.get 0 l t + 1)) lists

/-- A primitive appended whole, with the pages it takes; absent when it does not fit (R273, R280). -/
def State.appendPrim (s : State) (j : Job) (d : BitVec 512) (p : Nat × List Nat) : Option State :=
  let cost := j.primCost d p
  let need := divUp (j.used + cost) 65536 - s.pagesHeld j
  let own := Nat.min need (s.poolFree j.owner)
  let rest := need - own
  if rest ≤ s.reserveRoom j then
    let s := s.setPool j.owner (claimPages j.item own (s.pool j.owner))
    some (s.modJob j.item (fun x => { x with used := x.used + cost, reserve := x.reserve + rest, peak := Nat.max x.peak (x.reserve + rest),
                                             lists := addEntries x.lists (primTiles d p), primitives := x.primitives + 1 }))
  else none

/-- The pass's tiles enter the shared queue (R255). -/
def State.queueTiles (s : State) (j : Job) (d : BitVec 512) : State :=
  (s.modJob j.item (fun x => { x with left := tileCount d })).addWork j (s.tileItems j.item d)

/-- A partial pass begins (R281). -/
def State.partialPass (s : State) (j : Job) (d : BitVec 512) : State :=
  let s := s.modJob j.item (fun x => { x with inPass := true, passes := x.passes + 1 })
  (s.count Obj.RAS_PB_PARTIAL_COUNT).queueTiles j d

/-- A primitive that fits in no way fails the job (R282). -/
def State.pbExhausted (s : State) (j : Job) : State :=
  let s := (s.count Obj.RAS_PB_EXHAUSTED_COUNT).logEvent Ev.pbExhausted j.owner [d8 j.owner, d32 (dSeq (s.descOf j.item)), d16 j.nextDraw]
  s.failJob j Status.pbExhausted j.nextDraw

/-- The primitives of a draw record in order, up to the first that does not fit (R273, R281, R282). -/
def State.binPrims (s : State) (item : Nat) (d : BitVec 512) : List (Nat × List Nat) → State
  | [] => s.modJob item (fun x => { x with nextDraw := x.nextDraw + 1 })
  | p :: ps =>
    match s.job? item with
    | none => s
    | some j =>
      match s.appendPrim j d p with
      | some s' => s'.binPrims item d ps
      | none => if j.used = 0 then s.pbExhausted j else s.partialPass j d

/-- A resident render job that bins: its owner is not suspended, no pass renders, and binning has not ended. -/
def State.bins (s : State) (j : Job) : Bool :=
  j.resident && decide (dType (s.descOf j.item) = 0x40) && !(s.inst j.owner).suspended && !j.inPass && !j.binned

/-- BIN_DRAW_RECORD (R265, R266, R273): the next draw record, with the primitives that survive culling: all of them, or after a partial pass those
from the one that did not fit (log entry 26). -/
def execBinDrawRecord (j : Nat) (prims : List (Nat × List Nat)) (s : State) : Out :=
  match s.job? j with
  | none => .next s
  | some x =>
    let d := s.descOf j
    if s.bins x && Nat.blt x.nextDraw (drawCount d) then
      let st := s.drawStatus x.owner d (s.drawRecord d x.nextDraw)
      if st ≠ Status.ok then .next (s.failJob x st x.nextDraw)
      else .next (s.binPrims j d prims)
    else .next s

/-- PARTIAL_PASS_END (R281, steps 4 and 5). -/
def execPartialPassEnd (j : Nat) (s : State) : Out :=
  match s.job? j with
  | none => .next s
  | some x => .next (if x.inPass && decide (x.left = 0) then (s.freePages j).modJob j (fun x => { x with inPass := false }) else s)

/-- BINNING_END (R255): after the last draw record the tiles of the final pass enter the shared queue. -/
def execBinningEnd (j : Nat) (s : State) : Out :=
  match s.job? j with
  | none => .next s
  | some x =>
    let d := s.descOf j
    .next (if s.bins x && Nat.ble (drawCount d) x.nextDraw then (s.modJob j (fun x => { x with binned := true })).queueTiles x d else s)

/-! ## Clusters (R250, R255, R260, R264) -/

/-- What a cluster holds. -/
def State.onCluster (s : State) (c : Nat) : List WorkItem := Tab.get [] s.raster.clusters c

/-- Is a work item a tile? -/
def State.isTile (s : State) (w : WorkItem) : Bool := decide (dType (s.descOf w.job) = 0x40)

/-- May a work item start on a cluster: its owner is not suspended, tile memory holds it, and no more than two tiles are there? -/
def State.fits (s : State) (c : Nat) (w : WorkItem) : Bool :=
  let there := s.onCluster c
  let suspended := match s.job? w.job with | some j => (s.inst j.owner).suspended | none => true
  !suspended && Nat.ble (sumNat (there.map WorkItem.bytes) + w.bytes) 262144
    && (!s.isTile w || Nat.blt (there.filter s.isTile).length 2)

/-- A cluster's fault (R84, R260): its tiles run again, its compute items fail their jobs, and it is FAILED unless the fault was injected without
escalation (R638). -/
def State.clusterFails (s : State) (c : Nat) (injected : Bool) : State :=
  let there := s.onCluster c
  let s := if !injected || s.escalates 15 then s.failUnit (unitFc c) else s
  let tiles := there.filter s.isTile
  let s := s.modRaster (fun r => { r with clusters := Tab.drop r.clusters c, work := tiles ++ r.work })
  let ownerOf := fun (w : WorkItem) => match s.job? w.job with | some j => j.owner | none => noOwner
  let record := fun (s : State) (o i : Nat) => s.logInjected Ev.clusterFault o injected [d8 c, d8 o, d32 i]
  let s : State := if there = [] then record s noOwner 0 else s.each there (fun s w => record s (ownerOf w) w.index)
  s.each (there.filter (fun w => !s.isTile w)) (fun s w =>
    match s.job? w.job with
    | some j => s.failJob j Status.clusterFault 0xFFFF
    | none => s)

/-- CLUSTER_FAULT (R260). -/
def execClusterFault (c : Fin 24) (s : State) : Out := .next (s.clusterFails c.val false)

/-- WORK_ITEM_START (R64, R255): a cluster in service, whose domain is on and not held in reset, takes the first item that it can hold. An armed cluster fault strikes it (R640, point 15). -/
def execWorkItemStart (c : Fin 24) (s : State) : Out :=
  if (s.unit (unitFc c.val)).health.leftOut || decide ((s.unit (unitFc c.val)).health = .offline) || s.clocks.held.contains 3 then .next s
  else match s.raster.work.find? (s.fits c.val) with
    | none => .next s
    | some w =>
      let s := s.modRaster (fun r => { r with work := r.work.erase w, clusters := Tab.set r.clusters c.val (Tab.get [] r.clusters c.val ++ [w]) })
      match s.inject 15 c.val with
      | (none, s) => .next s
      | (some _, s) => .next (s.clusterFails c.val true)

/-! ## Tile signatures (R276, R277) -/

/-- One bit of the CRC-64/ECMA-182 register. -/
def crc64Bit (r : Nat) : Nat := if r.testBit 63 then (2 * r % 2 ^ 64) ^^^ 0x42F0E1EBA9EA3693 else 2 * r

/-- One byte into the register, most significant bit first. -/
def crc64Byte (r : Nat) (b : BitVec 8) : Nat := (List.range 8).foldl (fun (r : Nat) _ => crc64Bit r) (r ^^^ (b.toNat * 2 ^ 56))

/-- CRC-64/ECMA-182 of a string of bytes. -/
def crc64 (l : List (BitVec 8)) : Nat := l.foldl crc64Byte 0

/-- Rows of tile t: first pixel, pixels a row, first row, rows, inside the render area. -/
def tileBox (d : BitVec 512) (t : Nat) : Nat × Nat × Nat × Nat :=
  let x := t % tilesX d * 32
  let y := t / tilesX d * 32
  (x, Nat.min 32 (rtWidth d - x), y, Nat.min 32 (rtHeight d - y))

/-- A tile's bytes stored row by row at a base, with a stride and so many bytes a pixel; false when a part met a poisoned line (R370). -/
def State.storeTile (s : State) (d : BitVec 512) (t n base stride px : Nat) (bytes : List (BitVec 8)) : State × Bool :=
  let b := tileBox d t
  (List.range b.2.2.2).foldl (fun (acc : State × Bool) i =>
      let r := acc.1.store n (base + (b.2.2.1 + i) * stride + b.1 * px) ((bytes.drop (i * b.2.1 * px)).take (b.2.1 * px))
      (r.1, acc.2 && r.2))
    (s, true)

/-- A signature of a tile. -/
def State.signature (s : State) (e t : Nat) : Nat := s.surfBytes (atSurface e) (atSig e + 8 * t) 8

/-- One attachment of a finished tile: skipped when its signature is the stored one, else written (R277, R281). -/
def State.finishAttachment (s : State) (j : Job) (d : BitVec 512) (t : Nat) (a : Nat × List (BitVec 8) × List (BitVec 8)) : State × Bool :=
  let e := s.attachEntry d a.1
  let px := pixelBytes (atFormat e)
  let stored := fun (s : State) => if atStore e then s.storeTile d t (atSurface e) (atOffset e) (atStride e) (px * rtSamples d) a.2.1 else (s, true)
  if j.inPass then stored s
  else
    let sig := crc64 (if rtSamples d = 1 then a.2.1 else a.2.2)
    if atSigned e ∧ j.passes = 0 ∧ sig = s.signature e t ∧ sig ≠ 0xFFFFFFFFFFFFFFFF then
      (s.modJob j.item (fun x => { x with skipped := x.skipped + 1 }), true)
    else
      let r := stored s
      let r' := if atResolves e then r.1.storeTile d t (atResolve e) (atResolveOffset e) (resolveStride d e) px a.2.2 else (r.1, true)
      let r'' := if atSigned e then r'.1.store (atSurface e) (atSig e + 8 * t) (bytesOf 8 sig) else (r'.1, true)
      (r''.1, r.2 && r'.2 && r''.2)

/-- The scratch area of a job after a partial pass: its layout is not given, so its bytes are unpredictable (R264, R281). -/
def State.loseScratch (s : State) (d : BitVec 512) : State :=
  let o := dfield d 415 384
  if s.scratchBytes d = 0 then s
  else s.forgetBytes (jobSurface d) (fun x => Nat.ble o x && Nat.blt x (o + s.scratchBytes d))

/-! ## What a work item has done (R255, R260, R286, R319, R382) -/

/-- Shader writes reach surfaces that the job's owner owns, inside their bounds; all others are dropped (R260, R271). -/
def State.shaderWrites (s : State) (owner : Nat) (ws : List (Nat × Nat × List (BitVec 8))) : State × Bool :=
  ws.foldl (fun (acc : State × Bool) w =>
      if acc.1.ownsSurface owner w.1 && Nat.ble (w.2.1 + w.2.2.length) (acc.1.surf w.1).bytes then
        let r := acc.1.store w.1 w.2.1 w.2.2
        (r.1, acc.2 && r.2)
      else acc)
    (s, true)

/-- Feedback bits are set and never cleared (R286). -/
def State.setFeedback (s : State) (owner : Nat) (fs : List (Nat × Nat × Nat)) : State :=
  s.each fs (fun s f =>
    if s.ownsSurface owner f.1 && Nat.blt f.2.1 (s.surf f.1).bytes then
      (s.store f.1 f.2.1 [BitVec.ofNat 8 (s.surfByte f.1 f.2.1 ||| 2 ^ (f.2.2 % 8))]).1
    else s)

/-- Cluster time is debited from an instance's balance, which is held between −C and +C (R319). -/
def State.debit (s : State) (owner ns : Nat) : State :=
  if owner < 64 then
    let c := s.raster.epochCap
    s.modInst owner (fun x =>
      let b := x.balance - Int.ofNat ns
      { x with balance := if c = 0 then b else clampInt (-(Int.ofNat c)) (Int.ofNat c) b })
  else s

/-- An access with the wrong key slot reads zeros or is discarded, and is logged (R382). -/
def State.ownerMismatch (s : State) (owner addr slot : Nat) (injected : Bool) : State :=
  s.logInjected Ev.ownerMismatch owner injected [d16 (requesterId owner), d64 addr, d8 slot]

/-- The effects of a work item that has ended without a failed access, and whether a write met a poisoned line. -/
def State.itemDone (s : State) (j : Job) (d : BitVec 512) (w : WorkItem) (r : WorkResult) : State × Bool :=
  let a := s.shaderWrites j.owner r.writes
  let s := a.1.setFeedback j.owner r.feedback
  let s := s.modJob j.item (fun x => { x with robust := x.robust || r.robust, miss := x.miss || !r.feedback.isEmpty })
  if dType d = 0x40 then
    let s := s.modJob j.item (fun x => { x with rendered := x.rendered + 1 })
    let s := if j.inPass then s.loseScratch d else s
    r.tiles.foldl (fun (acc : State × Bool) t =>
        if (attachIndexes d).contains t.1 then
          let q := acc.1.finishAttachment j d w.index t
          (q.1, acc.2 && q.2)
        else acc)
      (s, a.2)
  else (s, a.2)

/-- WORK_ITEM_DONE (R255, R260, R276, R277, R286): the first item that a cluster holds has ended. -/
def execWorkItemDone (c : Fin 24) (r : WorkResult) (s : State) : Out :=
  match s.onCluster c.val with
  | [] => .next s
  | w :: ws =>
    let s := s.modRaster (fun x => { x with clusters := Tab.set x.clusters c.val ws })
    match s.job? w.job with
    | none => .next s
    | some j =>
      let d := s.descOf j.item
      let s := (s.debit j.owner r.timeNs).modJob j.item (fun x => { x with left := x.left - 1 })
      let inj := s.inject 7 (requesterId j.owner)
      let s := inj.2
      match inj.1, r.wrongSlot with
      | some p, _ =>
        let s := (s.modItem j.item (fun i => { i with injected := true })).ownerMismatch j.owner 0 p true
        .next (s.failJob j Status.dramOwnerMismatch 0xFFFF)
      | none, some b => .next ((s.ownerMismatch j.owner b.1 b.2 false).failJob j Status.dramOwnerMismatch 0xFFFF)
      | none, none =>
        if r.poisoned then .next (s.failJob j Status.poisonedRead 0xFFFF)
        else
          let q := s.itemDone j d w r
          if q.2 then .next q.1
          else .next (q.1.failJob ((q.1.job? j.item).getD j) Status.poisonedRead 0xFFFF)

/-! ## Pre-emption (R293 to R295) -/

/-- PREEMPT_SAVE_DONE (R293, R294): the instance's items leave the clusters with its context. -/
def execPreemptSaveDone (i : Fin 64) (ns : Nat) (s : State) : Out :=
  if !(s.inst i.val).suspended || s.raster.saved.any (fun e => decide (e.1 = i.val)) then .next s
  else
    let mine := fun (w : WorkItem) => match s.job? w.job with | some j => decide (j.owner = i.val) | none => false
    let taken := s.raster.clusters.flatMap (fun e => e.2.filter mine)
    let s := s.modRaster (fun r => { r with
      clusters := r.clusters.map (fun e => (e.1, e.2.filter (fun w => !mine w)))
      saved := Tab.set r.saved i.val taken })
    let s := { s with jobs := s.jobs.map (fun (j : Job) => if j.resident && decide (j.owner = i.val) then { j with preemptions := j.preemptions + 1 } else j) }
    let s := s.wr Obj.RAS_PREEMPT_MAX (Nat.max (s.rd Obj.RAS_PREEMPT_MAX) (ns % 2 ^ 32))
    .next (if 60000 < ns then s.logEvent Ev.preemptSlow i.val [d8 i.val, d32 (divUp ns 1000)] else s)

/-- INSTANCE_RESUME (R295): the saved items run on, before those that wait. -/
def execInstanceResume (i : Fin 64) (s : State) : Out :=
  if (s.inst i.val).suspended then .next s
  else .next (s.modRaster (fun r => { r with work := Tab.get [] r.saved i.val ++ r.work, saved := Tab.drop r.saved i.val }))

/-- GUARD_EXPIRED (R338). -/
def execGuardExpired (k : Fin 12) (s : State) : Out := .next (s.guardExpires k.val)

/-! ## The parameter buffer's pool (R279) -/

/-- SURFACE of PB_GRANT, SIG_INVALIDATE and TILE_BIND. -/
def pbSurface (d : BitVec 512) : Nat := dfield d 79 64

/-- Is a PB_GRANT refused (R279)? -/
def State.pbInvalid (s : State) (owner : Nat) (d : BitVec 512) (grant : Bool) : Bool :=
  let n := dfield d 143 128
  !s.usable owner (pbSurface d) || !decide ((s.surf (pbSurface d)).format = 0xFF) || decide (n = 0) || Nat.blt 4096 n
    || Nat.blt (s.surf (pbSurface d)).bytes (65536 * (dfield d 127 96 + n))
    || (grant && Nat.blt 4096 ((s.pool owner).length + n))

/-- The pages that a PB_GRANT names. -/
def pbPages (d : BitVec 512) : List PbPage := (List.range (dfield d 143 128)).map (fun i => ⟨pbSurface d, dfield d 127 96 + i, none⟩)

/-- PB_GRANT (R279): pages that the pool does not hold are added. -/
def execPbGrant (o : Owner) (q : Fin 16) (s : State) : Out :=
  .next (s.onItemIf o.code q.val 0x43 (fun d => !dbit d 80) (fun s it =>
    let d := it.desc
    if s.pbInvalid o.code d true then s.finish it.id Status.pbGrantInvalid
    else
      let l := s.pool o.code
      let new := (pbPages d).filter (fun p => !l.any (fun (x : PbPage) => decide (x.surface = p.surface) && decide (x.page = p.page)))
      (s.setPool o.code (l ++ new)).finish it.id Status.ok))

/-- PB_GRANT with REVOKE (R279): it completes once none of the named pages holds lists. -/
def execPbRevoke (o : Owner) (q : Fin 16) (s : State) : Out :=
  .next (s.onItemIf o.code q.val 0x43 (fun d => dbit d 80) (fun s it =>
    if s.pbInvalid o.code it.desc false then s.finish it.id Status.pbGrantInvalid else s.settleRevokes))

/-! ## Signatures and sparse tiles (R257, R278, R283) -/

/-- Has an item no earlier job of its queue to wait for (R257)? -/
def State.jobsBefore (s : State) (it : Item) : Bool :=
  s.items.any (fun i => decide (i.owner = it.owner) && decide (i.queue = it.queue) && Nat.blt i.id it.id
    && (decide (dType i.desc = 0x40) || decide (dType i.desc = 0x41)))

/-- As `onItemIf`, for a descriptor that waits until every earlier job of its queue has completed (R257). -/
def State.afterJobs (s : State) (o q type : Nat) (p : BitVec 512 → Bool) (f : State → Item → State) : State :=
  match s.nextItemOf o q type with
  | none => s
  | some it => if s.jobsBefore it then s else s.onItemIf o q type p f

/-- SIG_INVALIDATE (R257, R278). A surface that is not the submitter's, or an area outside it, is refused with INTENT_INVALID (log entry 25). -/
def execSigInvalidate (o : Owner) (q : Fin 16) (s : State) : Out :=
  .next (s.afterJobs o.code q.val 0x44 (fun _ => true) (fun s it =>
    let d := it.desc
    let n := 8 * dfield d 159 128
    if !s.usable o.code (pbSurface d) || Nat.blt (s.surf (pbSurface d)).bytes (dfield d 127 96 + n) then s.finish it.id Status.intentInvalid
    else
      let r := s.store (pbSurface d) (dfield d 127 96) (List.replicate n 0xFF)
      r.1.finish it.id (if r.2 then Status.ok else Status.poisonedRead)))

/-- Is a TILE_BIND's surface or range invalid (log entry 25)? -/
def State.tilesInvalid (s : State) (owner : Nat) (d : BitVec 512) : Bool :=
  !s.usable owner (pbSurface d) || !(s.surf (pbSurface d)).sparse
    || Nat.blt (s.surf (pbSurface d)).bytes (65536 * (dfield d 127 96 + dfield d 159 128))

/-- Tiles of a sparse surface bound one by one; absent when one finds no room (R68, R283; log entry 27). -/
def State.bindTiles (s : State) (n : Nat) : List Nat → Option State
  | [] => some s
  | t :: ts =>
    let x := s.surf n
    if x.tiles.any (fun u => decide (u.1 = t)) then s.bindTiles n ts
    else match s.findPlace x.owner 65536 2 1 (decide (x.crit = 3)) (s.eligible (decide (x.crit = 3))) with
      | none => none
      | some p =>
        let ch := (setChannels p.channels).headD 0
        let mem := Memory.drop s.mem (fun a => p.covers 65536 a)
        ({ s.setSurf n { x with tiles := x.tiles ++ [(t, ch, p.base)] } with mem := mem } : State).bindTiles n ts

/-- TILE_BIND (R257, R283). -/
def execTileBind (o : Owner) (q : Fin 16) (s : State) : Out :=
  .next (s.afterJobs o.code q.val 0x45 (fun d => !dbit d 80) (fun s it =>
    let d := it.desc
    if s.tilesInvalid o.code d then s.finish it.id Status.intentInvalid
    else match s.bindTiles (pbSurface d) ((List.range (dfield d 159 128)).map (fun i => dfield d 127 96 + i)) with
      | none => s.finish it.id Status.placeNoSpace
      | some s => s.finish it.id Status.ok))

/-- TILE_BIND with UNBIND (R257, R283). -/
def execTileUnbind (o : Owner) (q : Fin 16) (s : State) : Out :=
  .next (s.afterJobs o.code q.val 0x45 (fun d => dbit d 80) (fun s it =>
    let d := it.desc
    if s.tilesInvalid o.code d then s.finish it.id Status.intentInvalid
    else
      let lo := dfield d 127 96
      let hi := lo + dfield d 159 128
      (s.modSurf (pbSurface d) (fun x => { x with tiles := x.tiles.filter (fun t => !(Nat.ble lo t.1 && Nat.blt t.1 hi)) })).finish it.id Status.ok))

end Sys2Proof.Machine
end

