-- ==== Sys2Proof/Machine/Pipelines.lean ====
section
/-! DEFINITION. Pipelines and the translation cache (R287 to R292). SPIR-V modules are validated and translated by Gaffer's firmware, whose
findings TRANSLATION_DONE brings. -/
namespace Sys2Proof.Machine
open Sys2Proof

/-! ## Pipeline images (R287, R288) -/

/-- IMAGE_SURFACE. -/
def imgSurface (d : BitVec 512) : Nat := dfield d 111 96
/-- IMAGE_OFFSET. -/
def imgOffset (d : BitVec 512) : Nat := dfield d 159 128
/-- IMAGE_SIZE. -/
def imgSize (d : BitVec 512) : Nat := dfield d 191 160

/-- n bytes of an image. -/
def State.image (s : State) (d : BitVec 512) (o n : Nat) : Nat := s.surfBytes (imgSurface d) (imgOffset d + o) n

/-- Stage entries of an image. -/
def State.imageStages (s : State) (d : BitVec 512) : Nat := field (s.image d 0 128) 10 8

/-- Is a pipeline's image a graphics pipeline's? -/
def State.imageGraphics (s : State) (d : BitVec 512) : Bool := decide (field (s.image d 0 128) 7 0 = 0)

/-- Stage entry i. -/
def State.stageEntry (s : State) (d : BitVec 512) (i : Nat) : Nat := s.image d (128 + 32 * i) 32

/-- The entry name of a stage: the bytes before the first zero of at most 64. -/
def State.entryName (s : State) (d : BitVec 512) (e : Nat) : List Nat :=
  (unpackItems 1 64 (s.image d (field e 127 96) 64)).takeWhile (fun b => !decide (b = 0))

/-- Is the state block of an image faulty (R288)? Its surface is checked first. -/
def State.imageBad (s : State) (owner : Nat) (d : BitVec 512) : Bool :=
  !s.usable owner (imgSurface d) || !decide (imgOffset d % 64 = 0) || Nat.blt 4194304 (imgSize d) || Nat.blt (imgSize d) 128
    || Nat.blt (s.surf (imgSurface d)).bytes (imgOffset d + imgSize d)
    || Nat.blt 1 (field (s.image d 0 128) 7 0)
    || !(Nat.ble 1 (s.imageStages d) && Nat.ble (s.imageStages d) 5)
    || Nat.blt 10 (field (s.image d 0 128) 19 16) || Nat.blt 2 (field (s.image d 0 128) 24 23)
    || Nat.blt (imgSize d) (128 + 32 * s.imageStages d)

/-- Is a stage entry faulty: its stage, or a part of it outside the image (R288)? -/
def State.stageBad (s : State) (d : BitVec 512) (i : Nat) : Bool :=
  let e := s.stageEntry d i
  (if s.imageGraphics d then Nat.blt 4 (field e 3 0) else !decide (field e 3 0 = 5))
    || Nat.blt (imgSize d) (field e 63 32 + field e 95 64) || decide (field e 95 64 = 0)
    || Nat.blt (imgSize d) (field e 127 96 + (s.entryName d e).length + 1) || decide ((s.entryName d e).length = 64)
    || Nat.blt (imgSize d) (field e 159 128 + 8 * field e 31 16)

/-- The key of a stage in the cache: SHA-256 of its module's bytes, entry name and specialisation constants (R292). -/
def State.stageKey (s : State) (d : BitVec 512) (i : Nat) : Nat :=
  let e := s.stageEntry d i
  let bytes := fun (o n : Nat) => unpackItems 1 n (s.image d o n)
  Config.sha256 (bytes (field e 63 32) (field e 95 64) ++ s.entryName d e ++ bytes (field e 159 128) (8 * field e 31 16))

/-! ## The cache and handles (R292) -/

/-- A cached translation of an owner. -/
def State.cached (s : State) (owner key : Nat) : Option Translation :=
  s.raster.cache.find? (fun t => decide (t.owner = owner) && decide (t.key = key))

/-- A translation is used: it becomes the most recently used. -/
def State.touch (s : State) (owner key : Nat) : State :=
  match s.cached owner key with
  | none => s
  | some t => s.modRaster (fun r => { r with cache := r.cache.erase t ++ [t] })

/-- The lowest free handle of an owner. -/
def State.freeHandle (s : State) (owner : Nat) : Option Nat :=
  (List.range 1024).find? (fun h => !s.raster.pipelines.any (fun e => decide (e.1 = 1024 * owner + h)))

/-- A CREATE whose stages are all in the cache: it takes a handle, or fails with PIPELINE_LIMIT (R287, R292). -/
def State.createPipeline (s : State) (item owner : Nat) (graphics : Bool) (keys : List Nat) : State :=
  match s.freeHandle owner with
  | none => s.finish item Status.pipelineLimit
  | some h =>
    let shared := maxNat (keys.map (fun k => match s.cached owner k with | some t => t.shared | none => 0))
    let s : State := s.each keys (fun s k => s.touch owner k)
    (s.modRaster (fun r => { r with pipelines := Tab.set r.pipelines (1024 * owner + h) { graphics := graphics, stages := keys, shared := shared } })).complete
      item Status.ok h

/-- PIPELINE with OP CREATE (R287, R288, R292); an OP of 2 or 3 ends here with INTENT_INVALID (log entry 25). A faulty image fails with SHADER_INVALID and the index of the stage entry, 0xFFFF where no entry
is at fault (log entry 28); stages that miss are translated. -/
def execPipelineCreate (o : Owner) (q : Fin 16) (s : State) : Out :=
  .next (s.onItemIf o.code q.val 0x42 (fun d => !decide (dfield d 65 64 = 1)) (fun s it =>
    let d := it.desc
    if dfield d 65 64 ≠ 0 then s.finish it.id Status.intentInvalid
    else if s.imageBad o.code d then s.complete it.id Status.shaderInvalid 0xFFFF
    else match (List.range (s.imageStages d)).find? (s.stageBad d) with
      | some i => s.complete it.id Status.shaderInvalid i
      | none =>
        let keys := (List.range (s.imageStages d)).map (s.stageKey d)
        let missing := (List.range keys.length).filter (fun i => (s.cached o.code (keys.getD i 0)).isNone)
        let s := s.wr Obj.RAS_XLATE_HITS (wrapAdd 32 (s.rd Obj.RAS_XLATE_HITS) (keys.length - missing.length))
        let s := s.wr Obj.RAS_XLATE_MISSES (wrapAdd 32 (s.rd Obj.RAS_XLATE_MISSES) missing.length)
        if missing = [] then s.createPipeline it.id o.code (s.imageGraphics d) keys
        else
          let c : Creating := ⟨it.id, o.code, s.imageGraphics d, keys, missing⟩
          s.modRaster (fun r => { r with creating := r.creating ++ [c] })))

/-- May a translation be evicted: no live handle uses it, and the CREATE in hand does not? -/
def State.evictable (s : State) (c : Creating) (t : Translation) : Bool :=
  !(decide (t.owner = c.owner) && c.keys.contains t.key)
    && !s.raster.pipelines.any (fun e => decide (e.1 / 1024 = t.owner) && e.2.stages.contains t.key)

/-- Bytes of the translations held. -/
def State.cacheBytes (s : State) : Nat := sumNat (s.raster.cache.map Translation.bytes)

/-- Unused entries leave, least recently used first, until so many bytes fit: those evicted, and the state (R292). -/
def State.evictFor (s : State) (c : Creating) (need : Nat) : List Translation → List Translation × State
  | [] => ([], s)
  | t :: ts =>
    if s.cacheBytes + need ≤ s.rd Obj.RAS_XLATE_CACHE_BYTES then ([], s)
    else if s.evictable c t then
      let r := (s.modRaster (fun r => { r with cache := r.cache.erase t })).evictFor c need ts
      (t :: r.1, r.2)
    else s.evictFor c need ts

/-- One record for each owner of evicted entries (R299; log entry 28). -/
def State.logEvicted (s : State) (ts : List Translation) : State :=
  s.each (noRepeats (ts.map Translation.owner)) (fun s o =>
    s.logEvent Ev.xlateEvict o [d8 o, d32 (ts.filter (fun t => decide (t.owner = o))).length])

/-- The index of the first stage whose translation failed, and its status (R289). -/
def firstFault : List (Nat × StageResult) → Option (Nat × Nat)
  | [] => none
  | (i, .invalid) :: _ => some (i, Status.shaderInvalid)
  | (i, .unsupported) :: _ => some (i, Status.shaderUnsupported)
  | (_, .translated _) :: rs => firstFault rs

/-- Bytes of a stage's translation. -/
def StageResult.size : StageResult → Nat
  | .translated b => b
  | _ => 0

/-- TRANSLATION_DONE (R289, R291, R292): the stages of the queue's oldest CREATE in translation; `results` are theirs in order, `shared` the
shared memory of a compute module. A CREATE that fails leaves nothing in the cache (log entry 28). -/
def execTranslationDone (o : Owner) (q : Fin 16) (results : List Sys2Proof.StageResult) (shared : Nat) (s : State) : Out :=
  match s.raster.creating.find? (fun c => match s.item? c.item with
      | some it => decide (it.owner = o.code) && decide (it.queue = q.val)
      | none => false) with
  | none => .next s
  | some c =>
    if results.length < c.missing.length ∨ s.gafferDown then .next s
    else
      let s := s.modRaster (fun r => { r with creating := r.creating.erase c })
      let rs := c.missing.zip results
      let fault := match firstFault rs with
        | some f => some f
        | none => if 32768 < shared then some (c.missing.headD 0, Status.shaderUnsupported) else none
      match fault with
      | some f => .next (s.complete c.item f.2 f.1)
      | none =>
        let need := sumNat (rs.map (fun r => StageResult.size r.2))
        let e := s.evictFor c need s.raster.cache
        let s := e.2.logEvicted e.1
        if s.rd Obj.RAS_XLATE_CACHE_BYTES < s.cacheBytes + need then .next (s.finish c.item Status.pipelineLimit)
        else
          let new := rs.map (fun r => (⟨c.owner, c.keys.getD r.1 0, StageResult.size r.2, if c.graphics then 0 else shared⟩ : Translation))
          let s := s.modRaster (fun r => { r with cache := r.cache ++ new })
          .next (s.createPipeline c.item c.owner c.graphics c.keys)

/-- PIPELINE with OP DESTROY (R287): it takes effect once no resident job names the handle. -/
def execPipelineDestroy (o : Owner) (q : Fin 16) (s : State) : Out :=
  .next (s.onItemIf o.code q.val 0x42 (fun d => decide (dfield d 65 64 = 1)) (fun s it =>
    let h := dfield it.desc 95 80
    match s.pipeline? o.code h with
    | none => s.finish it.id Status.pipelineUnknown
    | some p =>
      (s.modRaster (fun r => { r with
        pipelines := Tab.set r.pipelines (1024 * o.code + h) { p with dying := p.dying ++ [it.id] } })).settleDestroys))

end Sys2Proof.Machine
end

