-- ==== Sys2Proof/Machine/MemorySys.lean ====
section
/-! DEFINITION. Device DRAM (R342 to R389): refresh, mode register polls, shadow-sampler sweeps, corrected and uncorrectable errors, the spare rank,
fencing, and the checks of the memory objects. -/
namespace Sys2Proof.Machine
open Sys2Proof

/-- The state with device DRAM changed. -/
def State.modDram (s : State) (f : Dram → Dram) : State := { s with dram := f s.dram }
/-- A channel. -/
def State.chan (s : State) (m : Nat) : MemChan := Tab.get {} s.dram.channels m
/-- The state with a channel changed. -/
def State.modChan (s : State) (m : Nat) (f : MemChan → MemChan) : State :=
  s.modDram (fun d => { d with channels := Tab.set d.channels m (f (Tab.get {} d.channels m)) })

/-! ## Key slots (R3, R380, R381) -/

/-- A key slot. -/
def State.keySlot (s : State) (n : Nat) : KeySlot := Tab.get {} s.keys n

/-- Key slots of the part (R380). -/
def keySlots : Nat := if Config.suffixS then 64 else 16

/-- The lowest EMPTY slot for an instance (R380). -/
def State.freeKeySlot (s : State) : Option Nat :=
  (List.range keySlots).find? (fun n => Nat.ble 3 n && decide ((s.keySlot n).state = 0))

/-- A slot becomes LIVE with a fresh key for an owner (R381). -/
def State.loadKey (s : State) (n owner : Nat) : State :=
  { s with keys := Tab.set s.keys n ⟨owner, 1, wrapAdd 16 (s.keySlot n).generation 1⟩ }

/-- A slot is retired: it becomes EMPTY and keeps its GENERATION (R381). -/
def State.retireKey (s : State) (n : Nat) : State := { s with keys := Tab.set s.keys n ⟨0, 0, (s.keySlot n).generation⟩ }

/-- The slot of an owner. -/
def State.keyOf (s : State) (owner : Nat) : Option Nat :=
  (s.keys.find? (fun e => decide (e.2.state = 1) && decide (e.2.owner = owner))).map Prod.fst

/-! ## Refresh (R354 to R361) -/

/-- Does a channel serve traffic: MC_STATE is ACTIVE? -/
def State.chanActive (s : State) (m : Nat) : Bool := decide (s.rd (Obj.MC_STATE m) = 2)

/-- Is the refresh mode NATIVE? -/
def State.native (s : State) : Bool := decide (s.memConf.mode = 0)

/-- tREFI under R355, or the interval's base in COMPATIBILITY mode (R359), in ns. -/
def State.baseRefi (s : State) : Nat :=
  if s.native then (match s.memConf.tcase with | 0 => 3906 | 1 => 1953 | _ => 977) else 3906

/-- tREFI in force on a channel. -/
def State.refiNow (s : State) (m : Nat) : Nat := if (s.chan m).halved then s.baseRefi / 2 else s.baseRefi

/-- The refresh debt of a channel (R356). -/
def State.debt (s : State) (m : Nat) : Int := toSigned 8 (s.rd (Obj.MC_REFRESH_DEBT m))

/-- The state with a channel's debt set. -/
def State.setDebt (s : State) (m : Nat) (d : Int) : State := s.wr (Obj.MC_REFRESH_DEBT m) (ofSigned 8 d)

/-- The read delays of a lane shifted, each clamped to 0 to 255 (R366). -/
def shiftDelays (v lane : Nat) (r : Nat) (shift : Int) : Nat :=
  (List.range 9).foldl (fun (v : Nat) i =>
    let at_ := r * 36 + lane * 9 + i
    setBytes v at_ 1 (clampInt 0 255 (Int.ofNat (byteAt v at_) + shift)).toNat) v

/-- Delay shifts that wait take effect inside an all-bank refresh stall (R366). -/
def State.applyRecentre (s : State) (m : Nat) : State :=
  let v := (s.chan m).recentre.foldl (fun (v : Nat) c => shiftDelays v c.2.1 c.1 c.2.2) (s.rd (Obj.TRAIN_RD m))
  (s.wr (Obj.TRAIN_RD m) v).modChan m (fun c => { c with recentre := [] })

/-- One all-bank refresh of a channel: the debt falls by 1. -/
def State.allBank (s : State) (m : Nat) : State := (s.applyRecentre m).setDebt m (clampInt (-8) 8 (s.debt m - 1))

/-- n refreshes back to back, each while the debt is above a floor. -/
def State.refreshWhile (s : State) (m : Nat) (floor : Int) : Nat → State
  | 0 => s
  | n + 1 => if floor < s.debt m then (s.allBank m).refreshWhile m floor n else s

/-- Does a channel hold the frame buffers of a DRAM-fed output (R357)? -/
def State.feedsOutput (s : State) (m : Nat) : Bool :=
  s.grip.backing.any (fun e => match e.2.dram with | some d => decide (d.channel = m) | none => false)

/-- The rise of a channel's debt at a tREFI: a refresh is forced at a debt of 8 (R356), one that a slot asked for and that waited is issued (R358),
and a channel that feeds no output issues one while its debt is 1 or more (R357). -/
def State.refiTick (s : State) (m : Nat) : State :=
  let s :=
    if s.debt m = 8 then
      ((s.applyRecentre m).count Obj.MEM_FORCED_REFRESH).logEvent Ev.refreshForced noOwner [d8 m]
    else s.setDebt m (s.debt m + 1)
  let s := if 0 < (s.chan m).slotWaits then (s.modChan m (fun c => { c with slotWaits := c.slotWaits - 1 })).allBank m else s
  if s.feedsOutput m then s else s.refreshWhile m 0 1

/-- REFI_TICK (R355 to R357): in NATIVE mode. -/
def execRefiTick (m : Fin 8) (s : State) : Out :=
  .next (if s.chanActive m.val && s.native then s.refiTick m.val else s)

/-- The all-bank refresh time of a channel: that of its larger rank (R343, R355). -/
def State.stallNs (s : State) (m : Nat) : Nat :=
  Nat.max (tRfcAb (s.memConf.sizes.getD (2 * m) 0)) (tRfcAb (s.memConf.sizes.getD (2 * m + 1) 0))

/-- Refreshes that fit in a horizontal blanking: each ends, with 20 ns to spare, before the blanking does (R357). -/
def fitting (stall room : Nat) : Nat := if stall = 0 ∨ room ≤ 20 then 0 else (room - 21) / stall

/-- HORIZONTAL_BLANKING_START (R357): `roomNs` is the length of the horizontal blanking; the vertical blanking takes refreshes down to a debt of −8. -/
def execHorizontalBlankingStart (k : Fin 12) (vertical : Bool) (roomNs : Nat) (s : State) : Out :=
  match (s.backing k.val).dram with
  | none => .next s
  | some d =>
    if !s.chanActive d.channel || !s.native then .next s
    else if vertical then .next (s.refreshWhile d.channel (-8) 16)
    else .next (s.refreshWhile d.channel 0 (Nat.min 8 (fitting (s.stallNs d.channel) roomNs)))

/-- REFRESH_ALL_BANK (R358): at once above a debt of −8; else it waits. It completes as FIRED in both cases. -/
def execRefreshAllBank (n : Fin 256) (s : State) : Out :=
  .next (s.fire n.val 2 (fun s arg =>
    let m := field arg 2 0
    (if -8 < s.debt m then s.allBank m else s.modChan m (fun c => { c with slotWaits := c.slotWaits + 1 }), slotFired)))

/-- PER_BANK_REFRESH (R359, R366): in COMPATIBILITY mode the next bank pair; an all-bank refresh that carries a delay change stands for eight of them. -/
def execPerBankRefresh (m : Fin 8) (s : State) : Out :=
  if !s.chanActive m.val || s.native then .next s
  else
    let c := s.chan m.val
    if 0 < c.replaced then
      let s := if c.replaced = 8 then s.applyRecentre m.val else s
      .next (s.modChan m.val (fun c => { c with replaced := c.replaced - 1 }))
    else .next (s.modChan m.val (fun c => { c with pairNext := (c.pairNext + 1) % 8 }))

/-- A channel enters DRAM self-refresh: refreshes until its debt is 0 or less (R361). -/
def State.selfRefresh (s : State) (m : Nat) : State := (s.refreshWhile m 0 8).wr (Obj.MC_STATE m) 3

/-- A channel leaves self-refresh with a debt of 0 (R361). -/
def State.leaveSelfRefresh (s : State) (m : Nat) : State := (s.setDebt m 0).wr (Obj.MC_STATE m) 2

/-! ## Ranks that fail (R372 to R378) -/

/-- The rank that holds a channel address: the spare for lines below the pointer of a copy to it, and once it has taken the rank's place (R347,
R374, R375). -/
def State.rankAt (s : State) (m a : Nat) : Nat :=
  let r := if a < s.rankBytes (2 * m) then 2 * m else 2 * m + 1
  let localAddr := if a < s.rankBytes (2 * m) then a else a - s.rankBytes (2 * m)
  let st := s.rd Obj.MEM_SPARE_STATE
  if s.rd Obj.MEM_SPARE_SOURCE ≠ r then r
  else if st = 3 ∨ ((st = 2 ∨ st = 4) ∧ localAddr < s.rd Obj.MEM_SPARE_COPY_PTR) then s.memConf.spare
  else r

/-- The copy pointer as far as the copy to the spare has come (R374). -/
def State.copiedTo (s : State) (copied : Nat) : State :=
  if s.rd Obj.MEM_SPARE_STATE = 2 then
    s.wr Obj.MEM_SPARE_COPY_PTR (Nat.min (s.rankBytes (s.rd Obj.MEM_SPARE_SOURCE)) (Nat.max copied (s.rd Obj.MEM_SPARE_COPY_PTR)))
  else s

/-- Fencing begins: the rank is DEGRADED and Grip moves what is in it (R377, R378). -/
def State.degrade (s : State) (r : Nat) : State := ((s.wr (Obj.RANK_STATE r) 2).startMigrations).fenceRanks

/-- A spare migration begins (R374, step 1). -/
def State.startSpare (s : State) (r : Nat) : State :=
  let sp := s.memConf.spare
  let s := (s.wr (Obj.RANK_STATE r) 3).wr (Obj.RANK_STATE sp) 7
  let s := ((s.wr Obj.MEM_SPARE_STATE 2).wr Obj.MEM_SPARE_COPY_PTR 0).wr Obj.MEM_SPARE_SOURCE r
  (s.modDram (fun d => { d with copyPoisoned := 0 })).logEvent Ev.spareStart noOwner [d8 r, d8 sp]

/-- The migration is abandoned: the pointer freezes and both ranks are fenced together (R375). -/
def State.abandonSpare (s : State) : State :=
  let src := s.rd Obj.MEM_SPARE_SOURCE
  let sp := s.memConf.spare
  let s := (s.wr Obj.MEM_SPARE_STATE 4).logEvent Ev.spareAbandoned noOwner [d8 src, d8 sp, d64 (s.rd Obj.MEM_SPARE_COPY_PTR)]
  (s.wr (Obj.RANK_STATE sp) 2).degrade src

/-- A rank meets an uncorrectable data error (kind 0) or a command error (kind 1), or exceeds the limit of corrected errors: RANK_UE, and the spare
takes its place or it is fenced. A rank already out of service is not failed again. A spare that waits and fails is no longer ready (log entry 30). -/
def State.rankFails (s : State) (r kind addr : Nat) (injected acts : Bool) : State :=
  let st := s.rd (Obj.RANK_STATE r)
  if st = 7 then (if kind = 1 ∧ acts then (s.logInjected Ev.rankUe noOwner injected [d8 r, dCase Ev.rankUe kind, d64 addr]).abandonSpare else s)
  else if st ≠ 1 ∧ st ≠ 6 then s
  else
    let s := s.logInjected Ev.rankUe noOwner injected [d8 r, dCase Ev.rankUe kind, d64 addr]
    if !acts then s
    else if st = 6 then (s.wr Obj.MEM_SPARE_STATE 4).degrade r
    else if s.rd Obj.MEM_SPARE_STATE = 1 then s.startSpare r
    else s.degrade r

/-! ## Mode register polls (R359, R360, R367) -/

/-- Does a value of mode register 4 ask for a higher rate than an interval of t ns gives (log entry 29)? -/
def asksMore (v t : Nat) : Bool := Nat.blt 3906000 (Config.mr4Rate v * t)

/-- The interval of a channel after a poll of its ranks: halved when one asks for more, back after two polls that do not (R359, R360). -/
def State.pollRate (s : State) (m : Nat) (reads : List (Nat × Nat × Bool)) : State :=
  let more := reads.filter (fun x => asksMore x.2.1 (s.refiNow m))
  let calm := reads.all (fun x => !asksMore x.2.1 s.baseRefi)
  let c := s.chan m
  if !c.halved && !more.isEmpty then
    let s := s.modChan m (fun c => { c with halved := true, calmReads := 0 })
    if s.native then s.each more (fun s x => s.logInjected Ev.dramOvertemp noOwner x.2.2 [d8 m, d8 x.1, d8 x.2.1]) else s
  else if c.halved && calm then
    if c.calmReads = 1 then s.modChan m (fun c => { c with halved := false, calmReads := 0 })
    else s.modChan m (fun c => { c with calmReads := 1 })
  else s.modChan m (fun c => { c with calmReads := 0 })

/-- Is a rank read at a poll: present and not fenced or retired? -/
def State.polled (s : State) (r : Nat) : Bool := !(([0, 4, 5] : List Nat).contains (s.rd (Obj.RANK_STATE r)))

/-- The mode registers of one rank read back: an injected or real difference is a command error (R367, R640, point 2). -/
def State.readBack (s : State) (r : Nat) (differs : Bool) : State :=
  if differs then (s.count Obj.MEM_UE_COUNT).rankFails r 1 0 false true
  else match s.inject 2 r with
    | (none, s) => s
    | (some _, s) => (s.count Obj.MEM_UE_COUNT).rankFails r 1 0 true (s.escalates 2)

/-- MR4_POLL (R359, R360, R367): for each rank of the channel the value of mode register 4 and whether a register differs from what was written;
`copied` is how far a copy to the spare has come. -/
def execMr4Poll (m : Fin 8) (mr4 : List Nat) (differs : List Bool) (copied : Nat) (s : State) : Out :=
  if !s.chanActive m.val then .next s
  else
    let s := s.copiedTo copied
    let ranks := [2 * m.val, 2 * m.val + 1].filter s.polled
    let r := ranks.foldl (fun (acc : List (Nat × Nat × Bool) × State) r =>
        match acc.2.inject 3 r with
        | (some p, s) => (acc.1 ++ [(r, p, true)], s)
        | (none, s) => (acc.1 ++ [(r, mr4.getD (r % 2) 0, false)], s))
      ([], s)
    let s := r.2.pollRate m.val r.1
    .next (s.each ranks (fun s r => s.readBack r (differs.getD (r % 2) false)))

/-! ## Sweeps (R364 to R366) -/

/-- The next lane and rank of the rotation whose rank is present: rank × 4 + lane. -/
def State.nextSweep (s : State) (m : Nat) : Option Nat :=
  ((List.range 8).map (fun i => ((s.chan m).sweepNext + i) % 8)).find? (fun e => s.polled (2 * m + e / 4))

/-- MARGIN_SWEEP (R364): one lane of one rank at a time, in rotation. -/
def execMarginSweep (m : Fin 8) (s : State) : Out :=
  if !s.chanActive m.val || (s.chan m.val).sweep.isSome then .next s
  else match s.nextSweep m.val with
    | none => .next s
    | some e => .next (s.modChan m.val (fun c => { c with sweep := some (e / 4, e % 4), sweepNext := (e + 1) % 8 }))

/-- The entry of MARGIN_REPORT after a sweep (R365). -/
def marginEntry (old : Nat) (r : SweepResult) (recentred : Bool) : Nat :=
  let seq := (field old 47 40 + 1) % 256
  let keep := if r.stale then old % 2 ^ 40
    else Nat.min 64 r.left + Nat.min 64 r.right * 2 ^ 8 + r.worstLeft % 16 * 2 ^ 16 + r.worstRight % 16 * 2 ^ 20
      + Nat.min 0xFFFF r.disagree * 2 ^ 24
  keep + seq * 2 ^ 40 + ofBool r.stale * 2 ^ 48 + ofBool recentred * 2 ^ 49

/-- What a sweep that is not stale leads to: a re-centre that waits for the next all-bank stall, and MARGIN_LOW (R366). -/
def State.afterSweep (s : State) (m r lane : Nat) (res : SweepResult) (injected : Bool) : State :=
  let left := Nat.min 64 res.left
  let right := Nat.min 64 res.right
  let diff := Int.ofNat right - Int.ofNat left
  let centre := s.rd Obj.MEM_RECENTRE_EN = 1 ∧ s.rd Obj.MEM_RECENTRE_THRESHOLD ≤ diff.natAbs ∧ (!injected || s.escalates 4) = true
  let report := fun (s : State) (c : Bool) =>
    let i := r * 4 + lane
    s.wr (Obj.MARGIN_REPORT m) (setBytes (s.rd (Obj.MARGIN_REPORT m)) (8 * i) 8 (marginEntry (bytesAt (s.rd (Obj.MARGIN_REPORT m)) (8 * i) 8) res c))
  let s := report s (decide centre)
  let s := if centre then
      let shift := diff.tdiv 2
      let s := s.modChan m (fun c => { c with recentre := c.recentre ++ [(r, lane, shift)], replaced := if s.native then c.replaced else 8 })
      (s.count (Obj.TRAIN_RECENTRES m)).logInjected Ev.recentre noOwner injected [d8 m, d8 (2 * m + r), d8 lane, d8 (ofSigned 8 shift)]
    else s
  if Nat.min left right < s.rd Obj.MEM_MARGIN_LOW then
    s.logInjected Ev.marginLow noOwner injected [d8 m, d8 (2 * m + r), d8 lane, d8 left, d8 right]
  else s

/-- SWEEP_DONE (R365, R366; point 4 with the channel in INJ_TARGET [7:0] and the lane in [15:8], log entry 32). While Gaffer restarts no delay is
re-centred. -/
def execSweepDone (m : Fin 8) (result : Sys2Proof.SweepResult) (s : State) : Out :=
  match (s.chan m.val).sweep with
  | none => .next s
  | some (r, lane) =>
    let s := s.modChan m.val (fun c => { c with sweep := none })
    let i := s.inject 4 (m.val + 256 * lane)
    let s := i.2
    let res := match i.1 with
      | some p => { result with left := byteAt p 0, right := byteAt p 1, stale := false }
      | none => result
    if res.stale || s.gafferDown then
      let at_ := 8 * (r * 4 + lane)
      let v := s.rd (Obj.MARGIN_REPORT m.val)
      .next (s.wr (Obj.MARGIN_REPORT m.val) (setBytes v at_ 8 (marginEntry (bytesAt v at_ 8) res false)))
    else .next (s.afterSweep m.val r lane res i.1.isSome)

/-! ## Errors (R367 to R371) -/

/-- Corrected errors of a rank within the last 24 h of device time (R368). -/
def State.ce24 (s : State) (r : Nat) : List Nat :=
  (Tab.get {} s.dram.ranks r).times.filter (fun t => Nat.blt s.dtime (t + 86400000000000))

/-- CORRECTED_ERROR (R368): counted for its rank; beyond the limit the rank is handled as after an uncorrectable error. An event that is not genuine
is the one of injection point 0, and happens only while that is armed. -/
def execCorrectedError (r : Fin 16) (genuine : Bool) (s : State) : Out :=
  if !bit s.memConf.ecc r.val || !s.polled r.val then .next s
  else
    let i := if genuine then (none, s) else s.inject 0 (r.val / 2)
    if !genuine && i.1.isNone then .next s
    else
      let s := i.2.count Obj.MEM_CE_COUNT
      let times := s.ce24 r.val ++ [s.dtime]
      let s := s.modDram (fun d => { d with ranks := Tab.set d.ranks r.val { times := times, minute := (Tab.get {} d.ranks r.val).minute + 1 } })
      let limit := s.rd Obj.MEM_CE_RETIRE_LIMIT
      if limit ≠ 0 ∧ limit < times.length then .next (s.rankFails r.val 0 0 i.1.isSome (genuine || s.escalates 0)) else .next s

/-- CE_SUMMARY (R368): once a minute. -/
def execCeSummary (s : State) : Out :=
  .next (s.each (List.range 16) (fun s r =>
    let x : RankErrors := Tab.get {} s.dram.ranks r
    if x.minute = 0 then s
    else (s.modDram (fun d => { d with ranks := Tab.set d.ranks r { x with minute := 0 } })).logEvent Ev.ceSummary noOwner [d8 r, d32 x.minute]))

/-- The owner code of a device DRAM block: Bittern's below the watermark, else that of what lies in it (R68, R384). -/
def State.ownerAt (s : State) (m a : Nat) : Nat :=
  if a < s.secureTop then 0xC1
  else match s.extents.find? (fun x => decide (x.chan = m) && Nat.ble (x.lo / 0x200000 * 0x200000) a && Nat.blt a (roundUp x.hi 0x200000)) with
    | some x => x.owner
    | none => noOwner

/-- A line is poisoned: entered, counted, reported once, and its surface is LOSSY (R369, R371). -/
def State.poisonLine (s : State) (m a rank : Nat) : State :=
  let line := deviceAddr m a / 64
  if s.dram.poisoned.contains line then s
  else
    let o := s.ownerAt m a
    let e : PoisonEntry := ⟨line * 64, rank, o, s.now, s.dtime⟩
    let copying := decide (s.rd Obj.MEM_SPARE_STATE = 2) && (decide (rank = s.rd Obj.MEM_SPARE_SOURCE) || decide (rank = s.memConf.spare))
    let s := s.modDram (fun d => { d with poisoned := line :: d.poisoned, found := (e :: d.found).take 128, copyPoisoned := d.copyPoisoned + ofBool copying })
    let s := (s.count Obj.MEM_POISONED_LINES).logEvent Ev.linePoisoned o [d8 m, d64 (a / 64 * 64), d8 o]
    s.each (s.grip.surfaces.filter (fun x => x.2.extents.any (fun e => decide (e.chan = m) && Nat.ble e.lo a && Nat.blt a e.hi))) (fun s x =>
      s.modSurf x.1 (fun y => { y with lossy := true, state := if y.state = .placed then .lossy else y.state }))

/-- What the reader of a poisoned line meets (R369). -/
def State.poisonedReader (s : State) (reader : DramReader) (injected : Bool) : State :=
  match reader with
  | .item id =>
    let s := if injected then s.modItem id (fun i => { i with injected := true }) else s
    match s.job? id, s.item? id with
    | some j, _ => if j.resident then s.failJob j Status.poisonedRead 0xFFFF else s
    | none, some it => if it.started && decide (dType it.desc = 0x08) then s.complete id Status.poisonedRead 0 else s
    | none, none => s
  | .layer e slot =>
    let key := 16 * e.val + slot.val
    let s : State := { s with grip := { s.grip with layers := s.grip.layers.map (fun b => if b.1 = key then (b.1, { b.2 with stale := true }) else b) } }
    s.each (List.range 12) (fun s k => s.modOut k (fun x => { x with
      comps := x.comps.map (fun (c : Composition) =>
        if !c.complete && c.parts.any (fun p => decide (p.engine = some e.val)) then { c with stale := true } else c) }))
  | .scan _ => s
  | .core => s
  | .migration _ => s
  | .spareCopy => s

/-- UNCORRECTABLE_ERROR (R367, R369 to R375): a read of a line of an ECC rank. An event that is not genuine is the one of injection point 1; it
poisons nothing, and takes the rank out of service only when the point escalates (R638). -/
def execUncorrectableError (m : Fin 8) (addr : Nat) (reader : Sys2Proof.DramReader) (genuine : Bool) (copied : Nat) (s : State) : Out :=
  let s := s.copiedTo copied
  let r := s.rankAt m.val addr
  if !s.chanActive m.val || !bit s.memConf.ecc r || !s.polled r || Nat.ble (s.rankBytes (2 * m.val) + s.rankBytes (2 * m.val + 1)) addr then .next s
  else
    let i := if genuine then (none, s) else s.inject 1 m.val
    if !genuine && i.1.isNone then .next s
    else
      let s := i.2.count Obj.MEM_UE_COUNT
      let s := if genuine then s.poisonLine m.val addr r else s
      let s := s.poisonedReader reader (!genuine)
      .next (s.rankFails r 0 (addr / 64 * 64) (!genuine) (genuine || s.escalates 1))

/-! ## The stored image's snapshot (R541, R542) -/

/-- An entry of an image for an object of the dictionary that is STORED. -/
def storedEntry (addr v : Nat) : Option ImageEntry :=
  match rowAt addr with
  | some r => if r.pers = .stored then some ⟨addr, r.ty.code, objLength r addr, v⟩ else none
  | none => none

/-- The blocks of the 3D LUTs that are not at their default: an output's LUT is stored from its active bank (R172). -/
def State.storedLuts (s : State) : List ImageEntry :=
  (List.range 12).flatMap (fun k => (List.range 71).filterMap (fun j =>
    let a := Obj.OUT_LUT3D_BLOCK k j
    let v := s.lutBlock k (s.rd (Obj.OUT_LUT3D_ACTIVE k)) j
    if v = defaultOf a then none else storedEntry a v))

/-- Every STORED object that is not at its default, as entries of an image (R541). -/
def State.storedNow (s : State) : List ImageEntry :=
  s.objs.filterMap (fun e => if e.1 < 0x2F0000 then storedEntry e.1 e.2 else none) ++ s.storedLuts
    ++ s.objs.filterMap (fun e => if 0x2F0C00 ≤ e.1 then storedEntry e.1 e.2 else none)

/-- Gaffer commits the whole snapshot, after a COMMIT that runs (R542). -/
def State.gafferCommit (s : State) : State :=
  if s.flash.commit.isSome then { s with flash := { s.flash with again := true } }
  else { s with flash := { s.flash with commit := some ⟨0xC0, 0xFF, 0, s.storedNow⟩ } }

/-- SPARE_DONE (R374, step 5): the spare takes the failed rank's place, and the bit is written to the flash image. -/
def execSpareDone (s : State) : Out :=
  if s.rd Obj.MEM_SPARE_STATE ≠ 2 then .next s
  else
    let r := s.rd Obj.MEM_SPARE_SOURCE
    let sp := s.memConf.spare
    let s := (s.wr (Obj.RANK_STATE r) 4).wr (Obj.RANK_STATE sp) 1
    let s := (s.wrBit Obj.MEM_RETIRED_RANKS r true).wr Obj.MEM_SPARE_STATE 3
    let s : State := { s with memConf := { s.memConf with retired := setBit s.memConf.retired r true } }
    let s := s.wr Obj.MEM_SPARE_COPY_PTR (s.rankBytes r)
    .next ((s.logEvent Ev.spareDone noOwner [d8 r, d8 sp, d32 s.dram.copyPoisoned]).gafferCommit)

/-! ## Writes of the memory objects (R345, R373, R384) -/

/-- Is a rank present in the configuration that the objects state? -/
def State.rankStated (s : State) (r : Nat) : Bool := bit (s.rd Obj.MEM_CHANNELS_ENABLED) (r / 2) && !decide (s.rd (Obj.RANK_SIZE r) = 0)

/-- Is the stated configuration invalid (R345)? -/
def State.memConfigBad (s : State) : Bool :=
  (List.range 8).any (fun m => s.rankStated (2 * m + 1) && !s.rankStated (2 * m))
    || decide (s.rd Obj.MEM_CHANNELS_ENABLED % 256 = 0)
    || Nat.blt (s.rd Obj.MEM_DATA_RATE) 3200 || Nat.blt 8533 (s.rd Obj.MEM_DATA_RATE)

/-- A write of an object of the memory configuration: refused when the configuration would be invalid; it takes effect at the next reset (R345). -/
def State.writeMemConf (s : State) (addr v : Nat) : Nat × State :=
  let s' := s.wr addr (s.merged addr v)
  if s'.memConfigBad then (Status.memConfigInvalid, s) else s.plainWrite addr v

/-- A write of MEM_SPARE_RANK (R373). -/
def State.writeSpareRank (s : State) (v : Nat) : Nat × State :=
  let ecc := fun r => bit (s.rd Obj.MEM_INLINE_ECC) r
  let mib := fun r => rankUsableMib (s.rd (Obj.RANK_SIZE r)) (ecc r)
  let present := (List.range 16).filter s.rankStated
  if v = 0xFF then s.plainWrite Obj.MEM_SPARE_RANK v
  else if 16 ≤ v then (Status.ldpRange, s)
  else if !Config.suffixS then (Status.spareNotLicensed, s)
  else if !s.rankStated v || present.any (fun r => Nat.blt (mib v) (mib r)) || present.any (fun r => ecc r && !ecc v) then
    (Status.spareInvalid, s)
  else s.plainWrite Obj.MEM_SPARE_RANK v

/-- A write of MEM_WATERMARK (R384): after LOCK it is refused. -/
def State.writeWatermark (s : State) (v : Nat) : Nat × State :=
  if s.rd Obj.BIT_ASSIGN_LOCK = 1 then (Status.watermarkLocked, s)
  else if 32 < v then (Status.ldpRange, s)
  else s.plainWrite Obj.MEM_WATERMARK v

end Sys2Proof.Machine
end

