-- ==== Sys2Proof/Machine/Sessions.lean ====
section
/-! DEFINITION. LDP's channels as other blocks see them (R543, R548, R552, R557, R562, R563, R567): messages, responses, and how sessions close. -/
namespace Sys2Proof.Machine
open Sys2Proof

/-! ## Bytes (R5, R543) -/

/-- A value as so many bytes, little-endian. -/
def leBytes : Nat → Nat → List (BitVec 8)
  | 0, _ => []
  | n + 1, v => BitVec.ofNat 8 v :: leBytes n (v / 256)

/-- The value of bytes, little-endian. -/
def ofBytes : List (BitVec 8) → Nat
  | [] => 0
  | b :: bs => b.toNat + 256 * ofBytes bs

/-- So many bytes from an offset, as a value. -/
def takeLe (bs : List (BitVec 8)) (o n : Nat) : Nat := ofBytes ((bs.drop o).take n)

/-- A message without its MAC (R543). -/
def ldpMessage (op tid session seq status : Nat) (body : List (BitVec 8)) : List (BitVec 8) :=
  leBytes 1 1 ++ leBytes 1 op ++ leBytes 2 tid ++ leBytes 2 session ++ leBytes 2 body.length ++ leBytes 4 seq ++ leBytes 2 status ++ leBytes 2 0 ++ body

/-- The MAC of a message under a session key: the first 16 bytes (R557). -/
def macOf (key : Nat) (m : List (BitVec 8)) : List (BitVec 8) := leBytes 16 (Config.hmacSha256 key (m.map (fun b => b.toNat)))

/-! ## Sessions (R558 to R563) -/

/-- The state with LDP changed. -/
def State.modLdp (s : State) (f : Ldp → Ldp) : State := { s with ldp := f s.ldp }

/-- A session slot in use. -/
def State.session? (s : State) (n : Nat) : Option Session := (s.ldp.sessions.find? (fun e => decide (e.1 = n))).map Prod.snd

/-- The state with a session set. -/
def State.setSession (s : State) (n : Nat) (x : Session) : State := s.modLdp (fun l => { l with sessions := Tab.set l.sessions n x })

/-- Is a channel a session's? -/
def isSession (ch : Nat) : Bool := Nat.blt ch 8

/-- The channel of an instance's dictionary window, or the manager's. -/
def windowChannel (o : Nat) : Nat := 8 + o

/-- Transactions of a channel. -/
def State.txnsOf (s : State) (ch : Nat) : List LdpTxn := (s.ldp.txns.filter (fun e => decide (e.1 = ch))).map Prod.snd

/-- SESS_OUTSTANDING of a channel's slot follows its transactions. -/
def State.countTxns (s : State) (ch : Nat) : State :=
  if isSession ch then s.wr (Obj.SESS_OUTSTANDING ch) (s.txnsOf ch).length else s

/-- The objects of a slot as they are while it is free. -/
def State.clearSlot (s : State) (n : Nat) : State :=
  ((((s.wr (Obj.SESS_STATE n) 0).wr (Obj.SESS_SOURCE n) 0).wr (Obj.SESS_CRED n) 0xFF).wr (Obj.SESS_OPENED n) 0).wr (Obj.SESS_OUTSTANDING n) 0

/-- A slot becomes free: its transactions, staging and subscriptions go with it. -/
def State.freeSession (s : State) (n : Nat) : State :=
  (s.modLdp (fun l => { l with
    sessions := Tab.drop l.sessions n, txns := l.txns.filter (fun e => !decide (e.1 = n)), staging := Tab.drop l.staging n
    subs := l.subs.filter (fun x => !decide (x.channel = n)) })).clearSlot n

/-- Reasons of SESSION_CLOSE, by their place in R563: CLOSE (log entry 38). -/
def closeAsked : Nat := 0
/-- No accepted request for LDP_SESSION_IDLE. -/
def closeIdle : Nat := 1
/-- A SEQ would pass 0xFFFFFFFF. -/
def closeSeq : Nat := 2
/-- A Gaffer restart. -/
def closeRestart : Nat := 3

/-- An open session closes: what had not started is not started, a COMMIT that runs goes on and is not answered (R552). -/
def State.closeSession (s : State) (n reason : Nat) : State :=
  match s.session? n with
  | none => s
  | some _ =>
    let started := ((s.txnsOf n).filter (fun t => t.waits.isSome)).length
    let rest := (s.txnsOf n).length - started
    let s : State := { s with flash := { s.flash with commit := s.flash.commit.map (fun c => if c.channel = n then { c with channel := 0xFF } else c) } }
    let opened := decide (s.rd (Obj.SESS_STATE n) = 2)
    let s := s.freeSession n
    if opened then s.logEvent Ev.sessionClose noOwner [d8 n, dCase Ev.sessionClose reason, d32 rest, d32 started] else s

/-- Every session closes, at a Gaffer restart (R563). -/
def State.closeSessions (s : State) (reason : Nat) : State := s.each (List.range 8) (fun s n => s.closeSession n reason)

/-! ## Answers (R544, R548, R562, R567) -/

/-- A message sent on a session: it takes the session's next SEQ and its MAC. The session closes when no SEQ is left. `keep` holds a response for R548. -/
def State.sendOn (s : State) (n op tid status : Nat) (body : List (BitVec 8)) (keep : Option Nat) : State :=
  match s.session? n with
  | none => s
  | some x =>
    if 0xFFFFFFFF < x.nextSeq then s.closeSession n closeSeq
    else
      let m := ldpMessage op tid x.number x.nextSeq status body
      let m := m ++ macOf x.key m
      let sent := match keep with
        | some q => ((q, op - 0x80, tid, m) :: x.sent).take 96
        | none => x.sent
      (s.setSession n { x with nextSeq := x.nextSeq + 1, sent := sent }).emit (.ldp n m)

/-- The response of a dictionary window: the buffer, DONE, and MSIX where IRQ was 1 (R567). -/
def State.windowDone (s : State) (o op tid status : Nat) (body : List (BitVec 8)) : State :=
  let m := ldpMessage op tid 0 0 status body
  let w := (s.inst o).window
  let s := s.modInst o (fun x => { x with window := { w with busy := false, done := true, rspLength := m.length, response := m } })
  let s := s.emit (.ldp (windowChannel o) m)
  if w.irq then s.emit (.msix o (field w.notifyConfig 26 16)) else s

/-- A transaction is answered, and is outstanding no longer: one that a reset has ended is not. Every answer but OK and OK_WITH_NOTE has an empty body, but
for WRITE_BLOCK's (R544). -/
def State.respond (s : State) (ch : Nat) (t : LdpTxn) (status : Nat) (body : List (BitVec 8)) : State :=
  if !s.ldp.txns.contains (ch, t) then s
  else
    let s := (s.modLdp (fun l => { l with txns := l.txns.erase (ch, t) })).countTxns ch
    let s := s.tallyCount 33 0 noOwner
    if isSession ch then s.sendOn ch (t.op + 0x80) t.tid status body (some t.seq)
    else s.windowDone (ch - 8) (t.op + 0x80) t.tid status body

/-- The answer to the started COMMIT of a channel, if a channel waits for it. -/
def State.answerChannel (s : State) (ch tid status : Nat) (body : List (BitVec 8)) : State :=
  match (s.txnsOf ch).find? (fun t => decide (t.op = 0x07) && decide (t.tid = tid)) with
  | some t => s.respond ch t status body
  | none => s

/-- The channel on which a requester sends (R534). -/
def ldpChannelOf : Requester → Option Nat
  | .field n => some n.val
  | .guest i => some (windowChannel i.val)
  | .manager => some (windowChannel 0x40)
  | _ => none

/-- The body of WRITE_BLOCK's refusal: the failing subindex (R544). -/
def refusalBody (op addr status : Nat) : List (BitVec 8) := if op = 4 ∧ status ≠ Status.ok then leBytes 1 (addr % 256) else []

/-- A write that did not complete at once is answered: through the transaction that waits for it, or, of a session that has closed, not at all (R552). -/
def State.answerLate (s : State) (rq : Requester) (addr code : Nat) : State :=
  match (ldpChannelOf rq).bind (fun ch => ((s.txnsOf ch).find? (fun t => decide (t.waits = some addr))).map (fun t => (ch, t))) with
  | some (ch, t) => s.respond ch t code (refusalBody t.op addr code)
  | none =>
    match rq with
    | .field n => if (s.session? n.val).isSome then s.answer rq code else s
    | _ => s.answer rq code

/-- What the dictionary windows held at a Gaffer restart ends with LDP_ABORTED (R567). A COMMIT that runs goes on (R541). -/
def State.abortWindows (s : State) : State :=
  s.each (s.ldp.txns.filter (fun e => !isSession e.1)) (fun s e =>
    let s : State := { s with flash := { s.flash with commit := s.flash.commit.map (fun c => if c.channel = e.1 then { c with channel := 0xFF } else c) } }
    s.respond e.1 e.2 Status.ldpAborted [])

/-- The subscriptions and staging of an instance's window end (R567). -/
def State.endWindow (s : State) (o : Nat) : State :=
  s.modLdp (fun l => { l with
    subs := l.subs.filter (fun x => !decide (x.channel = windowChannel o)), staging := Tab.drop l.staging (windowChannel o) })

end Sys2Proof.Machine
end

