-- ==== Sys2Proof/Machine/Bittern.lean ====
section
/-! DEFINITION. The Bittern Island (R390 to R409): the assignment table and its lock, measured boot, and restarts of Bittern alone. -/
namespace Sys2Proof.Machine
open Sys2Proof

/-- The state with start-up and restarts changed. -/
def State.modBoot (s : State) (f : Boot → Boot) : State := { s with boot := f s.boot }

/-- BIT_STATE. -/
def State.bitState (s : State) : Nat := s.rd Obj.BIT_STATE

/-! ## The assignment table (R393 to R397) -/

/-- Is an index's owner fixed BITTERN, or fixed NORMAL (R393)? -/
def fixedBittern (i : Nat) : Bool :=
  decide (i = 0x2B) || decide (i = 0x2C) || (Nat.ble 0x60 i && Nat.ble i 0x6D) || decide (i = 0x90) || decide (i = 0x91)
    || decide (i = 0x100) || decide (i = 0x101)
/-- GAF's owner is fixed NORMAL. -/
def fixedNormal (i : Nat) : Bool := decide (i = 0x92)

/-- Does a mailbox entry break R395? -/
def mailboxBad (m e : Nat) : Bool :=
  let a := field e 1 0
  let b := field e 3 2
  (decide (m = 0) && !decide (e = 0x09)) || (decide (m = 1) && !decide (e = 0x06))
    || (decide (a = b) && !decide (a = 0) && !(decide (a = 3) && !decide (field e 5 4 = field e 7 6)))

/-- Is an owner entry of an ASSIGNMENT faulty: its owner is not the fixed one, or a bit other than OWNER and the right FIXED bit is set (R394, R396)? -/
def ownerEntryBad (i e : Nat) : Bool :=
  let isFixed := fixedBittern i || fixedNormal i
  (fixedBittern i && !bit e 0) || (fixedNormal i && bit e 0) || decide (e / 4 ≠ 0) || (bit e 1 && !isFixed)

/-- Is an ASSIGNMENT refused (R396)? A line whose source is BITTERN is BITTERN (R394). -/
def assignmentBad (t : Nat) : Bool :=
  let slices := byteAt t 0x8A + 256 * byteAt t 0x8B
  let reserved := fun i => !ownerEntries.contains i && !(Nat.ble 0x78 i && Nat.ble i 0x88) && !decide (i = 0x8A) && !decide (i = 0x8B)
  ownerEntries.any (fun i => ownerEntryBad i (byteAt t i))
    || (List.range 256).any (fun l =>
      let src := Config.intSource l % 65536
      Nat.blt src 1024 && ownedIn t src && !ownedIn t (0x200 + l))
    || (List.range 16).any (fun m => mailboxBad m (byteAt t (0x78 + m)))
    || Nat.blt 32 (byteAt t 0x88)
    || decide (slices % 16 ≠ 0) || Nat.blt slices 16 || Nat.blt 512 slices
    || (List.range 1024).any (fun i => reserved i && !decide (byteAt t i = 0))

/-- The table in force after an ASSIGNMENT: FIXED set where it is, PROTECTED computed (R394, R397). -/
def tableOf (t : Nat) : Nat :=
  withProtected (ownerEntries.foldl (fun (t : Nat) i => if fixedBittern i || fixedNormal i then setBytes t i 1 (byteAt t i ||| 2) else t) t)

/-- Does an ASSIGNMENT state exactly the values in force (R398)? -/
def State.assignmentSame (s : State) (t : Nat) : Bool :=
  decide (tableOf t = s.rd Obj.BIT_ASSIGN_TABLE) && decide (byteAt t 0x88 = s.rd Obj.MEM_WATERMARK)
    && decide (byteAt t 0x8A + 256 * byteAt t 0x8B = s.rd Obj.REEL_BITTERN_SLICES)

/-- The ROM writes the table, the watermark and REEL_BITTERN_SLICES, and sets LOCK (R396, R397). -/
def State.lockAssignment (s : State) (t : Nat) : State :=
  let table := tableOf t
  let s := (s.wr Obj.BIT_ASSIGN_TABLE table).wr Obj.MEM_WATERMARK (byteAt t 0x88)
  let s := (s.wr Obj.REEL_BITTERN_SLICES (byteAt t 0x8A + 256 * byteAt t 0x8B)).wr Obj.BIT_ASSIGN_LOCK 1
  let digest := Config.sha384 (unpackItems 1 1024 table)
  s.logEvent Ev.assignLocked 0xC1 [⟨12, digest⟩]

/-! ## Credentials (R555, R556) -/

/-- The source of an LDP request, as SESS_SOURCE gives it; zero where no session stands behind it (R560, R631). -/
def State.sourceOf (s : State) : Requester → Nat
  | .field n => s.rd (Obj.SESS_SOURCE n.val)
  | _ => 0

/-- AUTH_FAIL (R556, R560, R572): transport, source, credential and status. -/
def State.authFail (s : State) (source cred status : Nat) (injected : Bool) : State :=
  s.logInjected Ev.authFail noOwner injected [d8 (source % 256), ⟨8, source⟩, d8 cred, d16 status]

/-- Bittern unwraps a provisioning blob and answers with the stored form, or, HALTED, not (R555, R556). -/
def State.unwrapNow (s : State) (rq : Requester) (c v : Nat) : Nat × State :=
  if s.bitState = 5 then (Status.bitternDown, s)
  else match (if byteAt v 0 = 4 then Config.unwrapSecret c v else none) with
    | none => (Status.credUnwrapFailed, s.authFail (s.sourceOf rq) c Status.credUnwrapFailed false)
    | some x =>
      let stored := Config.wrapSecret c x % 2 ^ 320 * 2 ^ 776
      (Status.ok, (s.wr (Obj.CRED_SECRET c) stored).modLdp (fun l => { l with secrets := Tab.set l.secrets c (x % 2 ^ 256) }))

/-- CRED_SECRET after step 7 of R536 (R409, R556): while Bittern is not RUNNING the write waits; once it is HALTED it fails. -/
def State.writeSecret (s : State) (rq : Requester) (c v : Nat) : Option Nat × State :=
  if s.bitState = 3 ∨ s.bitState = 5 then
    let r := s.unwrapNow rq c v
    (some r.1, r.2)
  else (none, s.modLdp (fun l => { l with blobs := l.blobs ++ [(rq, c, v)] }))

/-- The blobs that wait are taken, once Bittern runs or has halted (R409). -/
def State.takeBlobs (s : State) : State :=
  (s.modLdp (fun l => { l with blobs := [] })).each s.ldp.blobs (fun s e =>
    let r := s.unwrapNow e.1 e.2.1 e.2.2
    r.2.answerLate e.1 (Obj.CRED_SECRET e.2.1) r.1)

/-! ## Waiting for Bittern (R409) -/

/-- What waits for Bittern fails when it halts: INST_CREATE, resets that need a key, secrets, and a COMMIT. -/
def State.failWaiting (s : State) : State :=
  let asked := s.insts.filterMap (fun e => e.2.asker)
  let ids := (s.items.filter (fun i => decide (dType i.desc = 0x10) || asked.contains i.id)).map Item.id
  let s := (s.each ids (fun s id => s.finish id Status.bitternDown)).takeBlobs
  match s.flash.commit with
  | none => s
  | some c =>
    let s : State := { s with flash := { s.flash with commit := none, again := false } }
    let s := s.logEvent Ev.commitFailed noOwner [d16 Status.bitternDown]
    s.answerChannel c.channel c.tid Status.bitternDown []

/-- BIT_STATE becomes HALTED with a result. -/
def State.haltBittern (s : State) (result : Nat) : State :=
  let s := (s.wr Obj.BIT_STATE 5).wr Obj.BIT_BOOT_RESULT result
  let s := (s.logEvent Ev.bitHalted 0xC1 [d16 result]).modBoot (fun b => { b with bitT0 := none, strictHolds := setBit b.strictHolds 1 false })
  s.failWaiting

/-! ## Restarts (R406, R407) -/

/-- BIT_SEL is connected to the RC oscillator without the handshake (R587). -/
def State.bitOnRc (s : State) : State := (s.wr (Obj.MUX_SEL 2) 0).wr (Obj.MUX_STATUS 2) 0

/-- Is an assignment-table index that of a peripheral whose frames or transfers can be queued? -/
def isPeripheral (i : Nat) : Bool := Nat.blt i 0x28

/-- Step 1 of a Bittern restart (R407, R409, R587): `queued` are the frames and transfers queued in Bittern-owned peripherals, by index and buffer. -/
def State.restartStep1 (s : State) (cause : Nat) (injected : Bool) (queued : List (Nat × Nat)) : State :=
  let s := (s.wr Obj.BIT_STATE 4).count Obj.BIT_RESTART_COUNT
  let s := (s.wr Obj.BIT_LAST_CAUSE cause).wr Obj.BIT_LAST_RESTART s.now.pack
  let s := s.modBoot (fun b => { b with bitT0 := some s.dtime, bitRestarts := b.bitRestarts ++ [s.dtime], strictHolds := setBit b.strictHolds 1 true })
  let s := (s.logInjected Ev.bitRestartStart 0xC1 injected [d8 cause]).bitOnRc
  let s := (s.strictAll 1).discardBittern
  s.each (queued.filter (fun p => isPeripheral p.1 && s.bitternRes p.1)) (fun s p => s.logEvent Ev.bitItemDiscard 0xC1 [d8 p.1, d8 p.2])

/-- Bittern restarts for a cause, or halts at the fourth restart within 60 s (R406). A fault while its cores are in reset or halted changes nothing. -/
def State.restartBittern (s : State) (cause : Nat) (injected : Bool) (queued : List (Nat × Nat)) : State :=
  if s.bitState = 4 ∨ s.bitState = 5 then s
  else
    let s := s.modBoot (fun b => { b with bitRestarts := b.bitRestarts.filter (fun t => Nat.blt s.dtime (t + 60000000000)) })
    if 3 ≤ s.boot.bitRestarts.length then s.haltBittern 0x000B
    else s.restartStep1 cause injected queued

/-- A fault of Bittern's own: genuine, or injected while point d is armed (R640). -/
def State.bitternFault (s : State) (d : Nat) (target : Nat) (cause : Nat) (genuine : Bool) (queued : List (Nat × Nat)) : State :=
  if genuine then s.restartBittern cause false queued
  else match s.inject d target with
    | (none, s) => s
    | (some _, s) => s.restartBittern cause true queued

/-- LOCKSTEP_MISMATCH (R390, R406; point 11). -/
def execLockstepMismatch (genuine : Bool) (queued : List (Nat × Nat)) (s : State) : Out := .next (s.bitternFault 11 0 4 genuine queued)

/-- BIT_SRAM_UE (R392, R406; point 9): an error outside the key store. -/
def execBitSramUe (genuine : Bool) (queued : List (Nat × Nat)) (s : State) : Out := .next (s.bitternFault 9 0 5 genuine queued)

/-- BIT_WATCHDOG_EXPIRY (R406; point 12): the watchdog stops while the ROM runs. -/
def execBitWatchdogExpiry (genuine : Bool) (queued : List (Nat × Nat)) (s : State) : Out :=
  .next (if s.bitState = 2 ∨ s.bitState = 3 then s.bitternFault 12 0 1 genuine queued else s)

/-- The cause of a restart request, by its writer (R406). -/
def restartCause : Requester → Nat
  | .gaffer => 2
  | .field _ => 3
  | _ => 6

/-- BIT_RESTART_REQ after step 7 of R536 (R406): ignored while BIT_STATE is not RUNNING. -/
def State.writeBitRestart (s : State) (rq : Requester) (v : Nat) (queued : List (Nat × Nat)) : Nat × State :=
  (Status.ok, if v = 1 ∧ s.bitState = 3 then s.restartBittern (restartCause rq) false queued else s)

/-- BIT_RESTART_REQ (R406). -/
def execBitRestartReq (rq : Requester) (v : Fin 256) (queued : List (Nat × Nat)) (s : State) : Out :=
  .next (s.ownRequest rq Obj.BIT_RESTART_REQ v.val (fun s => s.writeBitRestart rq v.val queued))

/-- BIT_ROM_START (R407, step 2): the ROM measures the slot of BIT_IMAGE_SLOT; before the first measurement of a start-up it waits for the crystal, and
in a recovery boot for the delivery. -/
def execBitRomStart (s : State) : Out :=
  if s.bitState ≠ 4 then .next s
  else
    let first := decide (s.boot.stage = 1) || decide (s.boot.stage = 3)
    .next ((s.wr Obj.BIT_STATE (if first then 0 else 1)).modBoot (fun b => { b with measuring := s.rd Obj.BIT_IMAGE_SLOT, otherMeasured := false }))

/-! ## Measured boot (R402 to R405) -/

/-- The kinds of a manifest's entries: 1, 2 and 3 once each, 4 at most once, with the stated lengths (R402). -/
def kindsBad (es : List (Nat × Nat × Nat × Bool)) : Bool :=
  let n := fun k => (es.filter (fun e => decide (e.1 = k))).length
  !decide (n 1 = 1) || !decide (n 2 = 1) || !decide (n 3 = 1) || Nat.blt 1 (n 4) || es.any (fun e => Nat.blt 4 e.1 || decide (e.1 = 0))
    || es.any (fun e => (decide (e.1 = 1) && Nat.blt 1835008 e.2.1) || (decide (e.1 = 3) && !decide (e.2.1 = 1024)))

/-- DIGEST of the entry of a kind, zero where there is none. -/
def digestOf (es : List (Nat × Nat × Nat × Bool)) (k : Nat) : Nat :=
  match es.find? (fun e => decide (e.1 = k)) with
  | some e => e.2.2.1
  | none => 0

/-- LENGTH of the entry of a kind. -/
def lengthOf (es : List (Nat × Nat × Nat × Bool)) (k : Nat) : Nat :=
  match es.find? (fun e => decide (e.1 = k)) with
  | some e => e.2.1
  | none => 0

/-- BIT_MEASUREMENTS: up to four records of KIND and DIGEST (R405). -/
def measurements (es : List (Nat × Nat × Nat × Bool)) : Nat := packItems 52 ((es.take 4).map (fun e => e.1 + e.2.2.1 * 2 ^ 32))

/-- The recorded digest of GAFFER_FW. -/
def State.gafferDigest (s : State) : Nat :=
  let v := s.rd Obj.BIT_MEASUREMENTS
  match (List.range 4).find? (fun i => decide (bytesAt v (52 * i) 4 = 2)) with
  | some i => bytesAt v (52 * i + 4) 48
  | none => 0

/-- The ROM's measurement of an image in the order of R403: the result, and the kind of the entry at fault. A manifest whose entries break R402 has no
valid header (log entry 33). -/
def State.measureResult (s : State) (b : BootImage) (restart : Bool) : Nat × Nat :=
  if !b.header || kindsBad b.entries then (0x0001, 0)
  else if !b.readable then (0x000A, 0)
  else if s.rd Obj.BIT_ROOT_KEY_HASH = 0 ∨ b.keyHash ≠ s.rd Obj.BIT_ROOT_KEY_HASH then (0x0002, 0)
  else if !b.signed then (0x0003, 0)
  else if b.version < s.rd Obj.BIT_SECURITY_VERSION then (0x0004, 0)
  else match b.entries.find? (fun e => !e.2.2.2) with
    | some e => (0x0005, e.1)
    | none =>
      if !b.gafferSigned then (0x0006, 2)
      else if s.rd Obj.BIT_ASSIGN_LOCK = 1 then
        (if !s.assignmentSame b.assignment then (0x0008, 3)
         else if restart && !decide (digestOf b.entries 2 = s.gafferDigest) then (0x0009, 2)
         else (0, 0))
      else if assignmentBad b.assignment then (0x0007, 3)
      else (0, 0)

/-- STRAP_BOOT (R612). -/
def State.strapBoot (s : State) : Nat := field (s.rd Obj.RST_STRAPS) 5 4

/-- After a slot passes (R405): digests and slot recorded, images loaded, SUBST_DATA placed, and at a start-up the assignment applied, Bittern's
and Gaffer's key slots loaded (R381) and Gaffer released. -/
def State.measurePass (s : State) (b : BootImage) (restart : Bool) : State :=
  let s := (s.wr Obj.BIT_MANIFEST_DIGEST b.digest).wr Obj.BIT_MEASUREMENTS (measurements b.entries)
  let s := (s.wr Obj.BIT_IMAGE_SLOT s.boot.measuring).wr Obj.BIT_BOOT_RESULT 0
  let s := s.modBoot (fun x => { x with imageLength := lengthOf b.entries 1, recoveryLength := 0 })
  if restart then s.wr Obj.BIT_STATE 2
  else
    let s := if s.rd Obj.BIT_ASSIGN_LOCK = 1 then s else s.lockAssignment b.assignment
    let s := if digestOf b.entries 4 = 0 then s
      else { s with mem := Memory.drop s.mem (fun a => Nat.ble (reelAddr (3072 - s.rd Obj.REEL_BITTERN_SLICES) 0) a) }
    let s := if (s.keySlot 0).state = 1 then s else s.loadKey 0 0xC1
    ((s.loadKey 1 0xC0).wr Obj.BIT_STATE 2).modBoot (fun x => { x with stage := 4 })

/-- A failed measurement (R404): the other slot with dual-image boot, else HALTED. A recovery boot goes on accepting a delivery. -/
def State.measureFail (s : State) (result kind : Nat) (restart : Bool) : State :=
  let slot := s.boot.measuring
  let s := (s.wr Obj.BIT_BOOT_RESULT result).logEvent Ev.measureFail 0xC1 [d8 slot, d16 result, d8 kind]
  if s.strapBoot = 1 ∧ ¬s.boot.otherMeasured ∧ slot < 2 then
    s.modBoot (fun x => { x with measuring := 1 - slot, otherMeasured := true })
  else
    let s := (s.haltBittern result).modBoot (fun x => { x with recoveryLength := 0 })
    if restart then s else s.modBoot (fun x => { x with stage := 7 })

/-- MEASUREMENT_DONE (R403 to R407): `image` is what the ROM reads from the slot it measures; in a recovery boot from the delivered buffer. -/
def execMeasurementDone (image : Sys2Proof.BootImage) (s : State) : Out :=
  if s.bitState ≠ 1 ∨ (2 ≤ s.boot.measuring ∧ s.boot.recoveryLength = 0) then .next s
  else
    let restart := s.boot.bitT0.isSome && !decide (s.boot.stage = 2)
    let r := s.measureResult image restart
    if r.1 = 0 then .next (s.measurePass image restart) else .next (s.measureFail r.1 r.2 restart)

/-- BIT_READY after step 7 of R536 (R407, step 4; R615, step 6): the firmware is ready. -/
def State.writeBitReady (s : State) (v : Nat) : Nat × State :=
  if v ≠ 1 ∨ s.bitState ≠ 2 then (Status.ok, s)
  else
    let s := (s.wr Obj.BIT_STATE 3).takeBlobs
    match s.boot.bitT0 with
    | none => (Status.ok, s)
    | some t0 =>
      let us := (s.dtime - t0) / 1000
      let s := (s.wr Obj.BIT_LAST_DURATION (us % 2 ^ 32)).logEvent Ev.bitRestartDone 0xC1 [d32 us, d8 (s.rd Obj.BIT_IMAGE_SLOT)]
      (Status.ok, s.modBoot (fun b => { b with bitT0 := none, strictHolds := setBit b.strictHolds 1 false }))

/-- BIT_READY (R407, R615). -/
def execBitReady (rq : Requester) (v : Fin 256) (s : State) : Out :=
  .next (s.ownRequest rq Obj.BIT_READY v.val (fun s => s.writeBitReady v.val))

/-- A write to an object that LOCK protects (R100, R398): before LOCK only the ROM writes it. -/
def State.writeReelSlices (s : State) (v : Nat) : Nat × State :=
  if s.rd Obj.BIT_ASSIGN_LOCK = 1 then (Status.reelLayoutLocked, s)
  else if v % 16 ≠ 0 ∨ v < 16 ∨ 512 < v then (Status.ldpRange, s)
  else s.plainWrite Obj.REEL_BITTERN_SLICES v

end Sys2Proof.Machine
end

