-- ==== Sys2Proof/Machine/Slices.lean ====
section
/-! DEFINITION. Dailies slices as other blocks see them (R642, R645 to R647): the unit of a slice, reservations, results, and slices that are
abandoned. -/
namespace Sys2Proof.Machine
open Sys2Proof

/-- The units of the catalogue (R647). -/
inductive SliceUnit where
  | core (n : Nat) | cluster (c : Nat) | engine (e : Nat) | output (k : Nat) | frontEnd (f : Nat) | foley | haptic (c : Nat)
  | lane (m : Nat) | reelLane (i : Nat) | peripheral (gate : Nat) | reelSlices (g : Nat) | gafSram (i : Nat) | bitSram (i : Nat)
  | lutBank (k : Nat) | port (p : Nat) | aon (i : Nat) | phy (m : Nat)
  deriving DecidableEq, Repr

/-- The unit that a slice tests; absent for a number that is NOT_APPLICABLE (R647). -/
def sliceUnit (s : Nat) : Option SliceUnit :=
  if s < 0x004 then some (.core s)
  else if 0x010 ≤ s ∧ s < 0x040 then some (.cluster ((s - 0x10) / 2))
  else if 0x040 ≤ s ∧ s < 0x058 then some (.engine ((s - 0x40) / 2))
  else if 0x058 ≤ s ∧ s < 0x064 then some (.output (s - 0x58))
  else if 0x064 ≤ s ∧ s < 0x067 then some (.frontEnd (s - 0x64))
  else if s = 0x067 then some .foley
  else if 0x068 ≤ s ∧ s < 0x070 then some (.haptic (s - 0x68))
  else if 0x070 ≤ s ∧ s < 0x080 then some (.lane ((s - 0x70) / 2))
  else if 0x080 ≤ s ∧ s < 0x082 then some (.reelLane (s - 0x80))
  else if 0x088 ≤ s ∧ s < 0x090 then some (.peripheral (112 + (s - 0x88)))
  else if 0x100 ≤ s ∧ s < 0x1C0 then some (.reelSlices (s - 0x100))
  else if 0x1C0 ≤ s ∧ s < 0x200 then some (.gafSram (s - 0x1C0))
  else if 0x200 ≤ s ∧ s < 0x218 then some (.cluster (s - 0x200))
  else if 0x218 ≤ s ∧ s < 0x224 then some (.engine (s - 0x218))
  else if 0x224 ≤ s ∧ s < 0x230 then some (.lutBank (s - 0x224))
  else if 0x230 ≤ s ∧ s < 0x250 then some (.bitSram (s - 0x230))
  else if 0x300 ≤ s ∧ s < 0x30E then some (.port (s - 0x300))
  else if s = 0x310 ∨ s = 0x311 then some (.aon (s - 0x310))
  else if 0x320 ≤ s ∧ s < 0x323 then some (.frontEnd (s - 0x320))
  else if 0x328 ≤ s ∧ s < 0x330 then some (.haptic (s - 0x328))
  else if 0x330 ≤ s ∧ s < 0x338 then some (.phy (s - 0x330))
  else none

/-- Does a slice lie on the OUT or MAT domain, so that it brings strict commit mode (R200, R642)? -/
def sliceStrict (s : Nat) : Bool :=
  match sliceUnit s with
  | some (.engine _) => true
  | some (.output _) => true
  | some (.lutBank _) => true
  | some (.port _) => true
  | _ => false

/-- The state with Dailies changed. -/
def State.modDailies (s : State) (f : Dailies → Dailies) : State := { s with dailies := f s.dailies }

/-- Is a unit reserved for a slice, or under test? -/
def State.unitTested (s : State) (u : SliceUnit) : Bool :=
  s.dailies.reserved.any (fun n => decide (sliceUnit n = some u)) || s.dailies.running.any (fun r => decide (sliceUnit r.slice = some u))

/-- A slice's result (R654). -/
def State.sliceResult (s : State) (n r : Nat) : State := s.modDailies (fun d => { d with results := Tab.set d.results n r })

/-- A slice no longer runs: its unit's reservation ends, and strict mode may be ended once no slice holds it (R201, R643). -/
def State.endSlice (s : State) (n : Nat) : State :=
  let s := s.modDailies (fun d => { d with running := d.running.filter (fun r => !decide (r.slice = n)), reserved := d.reserved.filter (fun x => !decide (x = n)) })
  if s.dailies.running.any (fun r => sliceStrict r.slice) then s else s.modBoot (fun b => { b with strictHolds := setBit b.strictHolds 2 false })

/-- Causes of DAILIES_ABANDONED, by their place in R645 (log entry 38). -/
def abandonHaptic : Nat := 0
/-- A touch window. -/
def abandonTouch : Nat := 1
/-- A SAG. -/
def abandonSag : Nat := 2

/-- Running slices are abandoned for a cause: state restored, result ABANDONED, DAILIES_ABANDONED (R645). -/
def State.abandonSlices (s : State) (p : Nat → Bool) (cause : Nat) : State :=
  s.each ((s.dailies.running.map SliceRun.slice).filter p) (fun s n =>
    ((s.sliceResult n 4).endSlice n).logEvent Ev.dailiesAbandoned noOwner [d16 n, dCase Ev.dailiesAbandoned cause])

/-- The slices of one unit are abandoned. -/
def State.abandonUnit (s : State) (u : SliceUnit) (cause : Nat) : State := s.abandonSlices (fun n => decide (sliceUnit n = some u)) cause

end Sys2Proof.Machine
end

