-- ==== Sys2Proof/Machine/Haptics.lean ====
section
/-! DEFINITION. Quag haptics (R482 to R500): calibration, the effect library, triggers and how they meet, and an effect's phases. -/
namespace Sys2Proof.Machine
open Sys2Proof

/-- A haptic channel. -/
def State.hap (s : State) (c : Nat) : Hap := Tab.get {} s.haps c

/-! ## The library (R489, R492) -/

/-- An effect descriptor from its fields (R489). -/
def effectDesc (od level amp sus brake pulses gap shape : Nat) : Nat :=
  od + 8 + level * 2 ^ 8 + amp * 2 ^ 16 + sus * 2 ^ 24 + brake * 2 ^ 36 + pulses * 2 ^ 40 + gap * 2 ^ 44 + shape * 2 ^ 56

/-- The descriptor of ROM effect n, from 1 to 160 (R492). -/
def romEffect (n : Nat) : Nat :=
  let row := (n - 1) / 10
  let i := (n - 1) % 10
  let pct := 10 * (i + 1)
  match row with
  | 0 => effectDesc 1 (Nat.min 200 (20 * (i + 1))) pct 1 4 1 0 0
  | 1 => effectDesc 0 0 pct 1 2 1 0 0
  | 2 => effectDesc 1 (Nat.min 200 (20 * (i + 1))) pct 1 4 2 60 0
  | 3 => effectDesc 1 (Nat.min 200 (20 * (i + 1))) pct 1 4 3 60 0
  | 4 => effectDesc 4 200 pct 4 8 1 0 0
  | 5 => effectDesc 2 200 pct 20 8 1 0 0
  | 6 => effectDesc 2 200 pct 100 8 1 0 0
  | 7 => effectDesc 0 0 100 (20 * (i + 1)) 8 1 0 1
  | 8 => effectDesc 2 200 100 (20 * (i + 1)) 8 1 0 2
  | 9 => effectDesc 1 200 100 1 4 (i + 2) 100 0
  | 10 => effectDesc 2 200 100 40 8 (i + 1) 100 0
  | 11 => effectDesc 4 200 100 60 8 (i + 1) 150 0
  | 12 => effectDesc 0 0 (5 * (i + 1)) 1 1 1 0 0
  | 13 => effectDesc 1 150 pct 2 4 1 0 0
  | 14 => effectDesc 0 0 (5 * (i + 1)) 1 4 1 0 0
  | _ => effectDesc 0 0 pct 10 2 15 (10 * (i + 1)) 0

/-- The descriptor of an effect in force: of the ROM, or of a RAM slot. -/
def State.effect (s : State) (n : Nat) : Nat := if n ≤ 160 then romEffect n else bytesAt (s.rd Obj.HAP_RAM_EFFECTS) (8 * (n - 161)) 8

/-- May an effect number be played: STOP, a ROM effect, or a VALID RAM slot (R493)? -/
def State.effectOk (s : State) (n : Nat) : Bool := Nat.ble n 160 || (Nat.ble n 192 && bit (s.effect n) 3)

/-- OD_HALF. -/
def efOd (d : Nat) : Nat := field d 2 0
/-- OD_LEVEL. -/
def efOdLevel (d : Nat) : Nat := field d 15 8
/-- SUS_AMP. -/
def efAmp (d : Nat) : Nat := field d 23 16
/-- SUS_HALF. -/
def efSus (d : Nat) : Nat := field d 35 24
/-- BRAKE_MAX. -/
def efBrake (d : Nat) : Nat := field d 39 36
/-- PULSES. -/
def efPulses (d : Nat) : Nat := field d 43 40
/-- SHAPE. -/
def efShape (d : Nat) : Nat := field d 57 56

/-- Is a RAM effect's descriptor out of its ranges (R489)? -/
def effectBad (d : Nat) : Bool :=
  Nat.blt 4 (efOd d) || !decide (field d 7 4 = 0) || Nat.blt 200 (efOdLevel d) || Nat.blt 100 (efAmp d) || Nat.blt 8 (efBrake d)
    || (bit d 3 && decide (efPulses d = 0)) || decide (efShape d = 3) || !decide (field d 63 58 = 0)

/-- A write of HAP_RAM_EFFECTS (R489). -/
def State.writeRamEffects (s : State) (v : Nat) : Nat × State :=
  if (unpackItems 8 32 v).any effectBad then (Status.hapConfigInvalid, s) else s.plainWrite Obj.HAP_RAM_EFFECTS v

/-! ## Phases and levels (R482, R484, R490) -/

/-- HAP_STATE of a channel. -/
def State.hapState (s : State) (c : Nat) : Nat :=
  if !bit (s.rd (Obj.HAP_CONTROL c)) 0 then 0
  else
    let h := s.hap c
    if h.calibrating then 2
    else match h.play with
      | none => 1
      | some p => (match p.phase with | .overdrive => 3 | .sustain => 4 | .braking => 5 | .gap => 6)

/-- The state with a channel set, its HAP_STATE, HAP_NOW and CRITICAL with it. -/
def State.setHap (s : State) (c : Nat) (h : Hap) : State :=
  let s : State := { s with haps := Tab.set s.haps c h }
  let now := (match h.play with | some p => p.effect | none => 0) + 256 * (match h.queued with | some q => q.effect | none => 0)
  let crit := match h.play with | some p => p.critical | none => false
  ((s.wr (Obj.HAP_STATE c) (s.hapState c)).wr (Obj.HAP_NOW c) now).wrBit (Obj.HAP_STATUS c) 3 crit

/-- Level of the half-cycle in progress, per cent of rated: the envelope is linear over the sustain half-cycles (R489, R490; log entry 43). -/
def HapPlay.level (p : HapPlay) : Nat :=
  match p.phase with
  | .overdrive => efOdLevel p.desc
  | .sustain =>
    let n := efSus p.desc
    if efShape p.desc = 0 ∨ n ≤ 1 then efAmp p.desc
    else if efShape p.desc = 1 then efAmp p.desc * p.half / (n - 1)
    else efAmp p.desc * (n - 1 - p.half) / (n - 1)
  | .braking => 100
  | .gap => 0

/-- The nominal half-cycle of a channel in ns: at HAP_RES_HZ, or at 170.0 Hz when it is not tuned (R484, R488). -/
def State.halfNominal (s : State) (c : Nat) (untuned : Bool) : Nat :=
  let f := if untuned then 1700 else s.rd (Obj.HAP_RES_HZ c)
  if f = 0 then 0 else 5000000000 / f

/-- A half-cycle begins: a drive voltage above the supply is clipped, and recorded once an effect (R482). -/
def State.drive (s : State) (c : Nat) (p : HapPlay) : State × HapPlay :=
  if s.rd Obj.HAP_SUPPLY_MV * 100 < p.level * s.rd (Obj.HAP_RATED_MV c) then
    let s := s.wrBit (Obj.HAP_STATUS c) 0 true
    if p.clipped then (s, p) else (s.logEvent Ev.driveClipped noOwner [d8 c, d8 p.effect], { p with clipped := true })
  else (s, p)

/-- An effect enters a phase; a phase of no half-cycles is passed over. Absent when the pulse is over. -/
def HapPlay.enter (p : HapPlay) : HapPhase → Option HapPlay
  | .overdrive =>
    if 0 < efOd p.desc then some { p with phase := .overdrive, half := 0 }
    else if 0 < efSus p.desc then some { p with phase := .sustain, half := 0 }
    else if 0 < efBrake p.desc then some { p with phase := .braking, half := 0 }
    else none
  | .sustain =>
    if 0 < efSus p.desc then some { p with phase := .sustain, half := 0 }
    else if 0 < efBrake p.desc then some { p with phase := .braking, half := 0 }
    else none
  | .braking => if 0 < efBrake p.desc then some { p with phase := .braking, half := 0 } else none
  | .gap => some { p with phase := .gap, half := 0 }

/-- An effect ends with a result: 0 DONE, 1 CUT, 2 DROPPED, 3 ABORTED (R497). -/
def State.endEffect (s : State) (c effect source result : Nat) : State :=
  if result = 0 then (s.count (Obj.HAP_EFFECTS_DONE c)).tallyCount 31 (2 * c) noOwner
  else
    ((s.count (Obj.HAP_EFFECTS_CUT c)).tallyCount 31 (2 * c + 1) noOwner).logEvent Ev.effectCut noOwner [d8 c, d8 effect, d8 source, dCase Ev.effectCut result]

/-- A pulse begins: an armed motion fault takes it (R640, point 26). -/
def State.startPulse (s : State) (c : Nat) (p : HapPlay) : State × HapPlay :=
  let i := s.inject 26 c
  (i.2, { p with strong := 0, moved := false, injected := i.1.isSome })

/-- An effect starts on a channel (R488, R490). An effect without half-cycles is complete at once. -/
def State.startEffect (s : State) (c : Nat) (q : HapQueued) : State :=
  let untuned := q.critical && decide (s.rd (Obj.HAP_RES_HZ c) = 0)
  let p : HapPlay := { effect := q.effect, desc := q.desc, source := q.source, critical := q.critical, untuned := untuned,
                       periodNs := s.halfNominal c untuned }
  match p.enter .overdrive with
  | none => (s.setHap c { s.hap c with play := none }).endEffect c q.effect q.source 0
  | some p =>
    let r := s.startPulse c p
    let d := r.1.drive c r.2
    d.1.setHap c { s.hap c with play := some d.2 }

/-- The effect in play is over: the queued one starts (R496). -/
def State.nextEffect (s : State) (c : Nat) : State :=
  let h := s.hap c
  match h.queued with
  | none => s.setHap c { h with play := none }
  | some q => (s.setHap c { h with play := none, queued := none }).startEffect c q

/-- The effect in play ends with a result and the next begins. -/
def State.finishEffect (s : State) (c : Nat) (p : HapPlay) (result : Nat) : State := (s.endEffect c p.effect p.source result).nextEffect c

/-- The queued effect ends DROPPED (R496). -/
def State.dropQueued (s : State) (c : Nat) : State :=
  let h := s.hap c
  match h.queued with
  | none => s
  | some q => (s.setHap c { h with queued := none }).endEffect c q.effect q.source 2

/-- The effect in play and the queued one end ABORTED (R498). -/
def State.abortHap (s : State) (c : Nat) : State :=
  let h := s.hap c
  let s := s.setHap c { h with play := none, queued := none }
  let s := match h.play with | some p => s.endEffect c p.effect p.source 3 | none => s
  match h.queued with | some q => s.endEffect c q.effect q.source 3 | none => s

/-! ## Triggers (R485, R487, R488, R493 to R496) -/

/-- The status of a trigger on a channel (R485, R487, R488, R493). -/
def State.triggerStatus (s : State) (c effect : Nat) (critical : Bool) : Nat :=
  let st := s.hapState c
  if !s.effectOk effect then Status.hapEffectInvalid
  else if st = 0 then Status.hapChannelOff
  else if critical then Status.ok
  else if st = 2 then Status.hapCalibrating
  else if s.rd (Obj.HAP_RES_HZ c) = 0 then Status.hapUncalibrated
  else Status.ok

/-- A critical trigger ends a sweep (R488). -/
def State.abortSweep (s : State) (c : Nat) : State :=
  if (s.hap c).calibrating then (s.setHap c { s.hap c with calibrating := false }).logEvent Ev.calAborted noOwner [d8 c] else s

/-- An effect in overdrive, sustain or gap is cut: from a gap it brakes at once (log entry 40). -/
def State.cutEffect (s : State) (c : Nat) (p : HapPlay) : State :=
  let p := { p with cut := true }
  if p.phase = .gap then
    match p.enter .braking with
    | some p => s.setHap c { s.hap c with play := some p }
    | none => s.finishEffect c p 1
  else s.setHap c { s.hap c with play := some p }

/-- A trigger accepted on a channel meets what is there (R496). Effect 0 is STOP. -/
def State.meet (s : State) (c effect source : Nat) (critical : Bool) : State :=
  let s := s.abandonUnit (.haptic c) abandonHaptic
  let s := if critical then s.abortSweep c else s
  let q : HapQueued := ⟨effect, s.effect effect, source, critical⟩
  let h := s.hap c
  if critical then
    let s := match h.play with
      | some p => (s.setHap c { h with play := none }).endEffect c p.effect p.source 3
      | none => s
    if effect = 0 then s.dropQueued c else s.startEffect c q
  else match h.play with
    | none => if effect = 0 then s.dropQueued c else s.startEffect c q
    | some p =>
      let s := s.dropQueued c
      let s := if effect = 0 then s else s.setHap c { s.hap c with queued := some q }
      if p.critical || decide (p.phase = .braking) || p.cut then s else s.cutEffect c p

/-- A trigger: accepted or refused. -/
def State.trigger (s : State) (c effect source : Nat) (critical : Bool) : Nat × State :=
  let st := s.triggerStatus c effect critical
  if st = Status.ok then (st, s.meet c effect source critical) else (st, s)

/-- Sources of a trigger in EFFECT_CUT, in the order of R493's table: TABLE, SLOT, GAFFER, MANAGER, FIELD, INSTANCE, BITTERN. -/
def triggerSource : Requester → Nat
  | .gaffer => 2
  | .manager => 3
  | .field _ => 4
  | .guest _ => 5
  | .bittern => 6

/-- Is a channel's critical-trigger entry BITTERN (R493)? -/
def State.critChannel (s : State) (c : Nat) : Bool := s.bitternRes (0x70 + c)

/-- HAP_PLAY (R493). -/
def State.writeHapPlay (s : State) (rq : Requester) (c v : Nat) : Nat × State :=
  match rq with
  | .guest i => if s.rd (Obj.HAP_INST_GRANT c) ≠ i.val then (Status.ownerLocked, s) else s.trigger c v 5 false
  | _ => s.trigger c v (triggerSource rq) false

/-- HAP_PLAY (R493). -/
def execHapPlay (rq : Requester) (c : Fin 8) (v : Fin 256) (s : State) : Out :=
  .next (s.ownRequest rq (Obj.HAP_PLAY c.val) v.val (fun s => s.writeHapPlay rq c.val v.val))

/-- HAP_CRIT_PLAY after step 7 of R536 (R493, R496). -/
def State.writeCritPlay (s : State) (c v : Nat) : Nat × State :=
  if !s.effectOk v then (Status.hapEffectInvalid, s)
  else if !s.critChannel c then (Status.hapNotCritical, s)
  else s.trigger c v 6 true

/-- HAP_CRIT_PLAY (R493, R496). -/
def execHapCritPlay (rq : Requester) (c : Fin 8) (v : Fin 256) (s : State) : Out :=
  .next (s.ownRequest rq (Obj.HAP_CRIT_PLAY c.val) v.val (fun s => s.writeCritPlay c.val v.val))

/-- HAPTIC_START (R44, R493): a trigger that is refused completes the slot with NO_EFFECT. -/
def execHapticStart (n : Fin 256) (s : State) : Out :=
  .next (s.fire n.val 6 (fun s arg =>
    let c := field arg 2 0
    let r := s.trigger c (field arg 15 8) 1 (Nat.ble 224 n.val && s.critChannel c)
    (r.2, if r.1 = Status.ok then slotFired else slotNoEffect)))

/-- Entry i of the trigger table. -/
def State.triggerEntry (s : State) (i : Nat) : Nat := bytesAt (s.rd Obj.HAP_TRIGGER_TABLE) (16 * i) 16

/-- Does an entry match a contact at (x, y) in pixels of a front end, or a key (R494)? -/
def entryMatches (e source x y key : Nat) : Bool :=
  bit e 2 && decide (field e 1 0 = source)
    && (if source = 2 then decide (field e 20 16 = key)
        else Nat.ble (field e 47 32) x && Nat.blt x (field e 79 64) && Nat.ble (field e 63 48) y && Nat.blt y (field e 95 80))

/-- A contact or key press handed over (R470, R476, R494): the first entry that matches triggers. -/
def State.handOver (s : State) (source x y key : Nat) : State :=
  match ((List.range 64).map s.triggerEntry).find? (fun e => entryMatches e source x y key) with
  | none => s
  | some e => (s.trigger (field e 6 4) (field e 15 8) 0 false).2

/-! ## Calibration (R485 to R488) -/

/-- A sweep begins. -/
def State.startSweep (s : State) (c : Nat) : State := s.setHap c { s.hap c with calibrating := true, calDone := true }

/-- A write of HAP_CONTROL after step 7 of R536 (R485, R486, R498). CALIBRATE acts on an enabled channel that plays nothing (log entry 44). -/
def State.writeHapControl (s : State) (c v : Nat) : Nat × State :=
  let on := bit v 0
  let was := bit (s.rd (Obj.HAP_CONTROL c)) 0
  let rated := s.rd (Obj.HAP_RATED_MV c)
  if on && (decide (rated = 0) || Nat.blt (s.rd Obj.HAP_SUPPLY_MV) rated) then (Status.hapConfigInvalid, s)
  else
    let s := if was && !on then (s.abortHap c).setHap c { (s.abortHap c).hap c with calibrating := false } else s
    let s := s.wr (Obj.HAP_CONTROL c) (ofBool on)
    let h := s.hap c
    let s := s.setHap c h
    if !on then (Status.ok, s)
    else if !was && ((!h.calDone && decide (s.rd Obj.HAP_CAL_AT_START = 1)) || decide (s.rd (Obj.HAP_RES_HZ c) = 0)) then (Status.ok, s.startSweep c)
    else
      let s := if was then s else s.setHap c { h with calDone := true }
      (Status.ok, if bit v 1 ∧ h.play.isNone ∧ ¬h.calibrating then s.startSweep c else s)

/-- HAP_ENABLE (R485, R486). -/
def execHapEnable (rq : Requester) (c : Fin 8) (v : Fin 256) (s : State) : Out :=
  .next (s.ownRequest rq (Obj.HAP_CONTROL c.val) v.val (fun s => s.writeHapControl c.val v.val))

/-- CALIBRATE (R486). -/
def execCalibrate (rq : Requester) (c : Fin 8) (v : Fin 256) (s : State) : Out :=
  .next (s.ownRequest rq (Obj.HAP_CONTROL c.val) v.val (fun s => s.writeHapControl c.val v.val))

/-- CAL_DONE (R486, R487): the coarse peak and the best frequency in 0.1 Hz, and the highest back-EMF peak. -/
def execCalDone (c : Fin 8) (coarse best peakMv : Nat) (s : State) : Out :=
  let h := s.hap c.val
  if !h.calibrating then .next s
  else
    let s := s.setHap c.val { h with calibrating := false }
    let fails := fun (reason : Nat) => (s.wrBit (Obj.HAP_STATUS c.val) 2 true).logEvent Ev.calFailed noOwner [d8 c.val, dCase Ev.calFailed reason]
    if peakMv < s.rd Obj.HAP_CAL_MIN_MV then .next (fails 0)
    else if coarse = 800 ∨ coarse = 3200 then .next (fails 1)
    else
      .next (((s.wr (Obj.HAP_RES_HZ c.val) best).wr (Obj.HAP_RES_BEMF_MV c.val) peakMv).logEvent Ev.calDone noOwner
        [d8 c.val, d32 best, d32 peakMv])

/-! ## Half-cycles (R483, R484, R490, R491) -/

/-- The period of the next half-cycle: in RESONANT mode it moves towards a zero crossing by at most 5 % of the nominal, within 80 % to 120 % of it
(R484). `crossing` is the crossing's distance from the end of the half-cycle in ns. -/
def State.nextPeriod (s : State) (c : Nat) (p : HapPlay) (crossing : Option Int) : Nat :=
  let n := s.halfNominal c p.untuned
  if p.untuned ∨ s.rd (Obj.HAP_DRIVE_MODE c) = 1 then n
  else match crossing with
    | none => p.periodNs
    | some d =>
      let step := clampInt (-(Int.ofNat (n * 5 / 100))) (Int.ofNat (n * 5 / 100)) d
      (clampInt (Int.ofNat (n * 80 / 100)) (Int.ofNat (n * 120 / 100)) (Int.ofNat p.periodNs + step)).toNat

/-- The end of a pulse: NO_MOTION, then the gap before the next pulse, or the end of the effect (R490, R491). -/
def State.endPulse (s : State) (c : Nat) (p : HapPlay) : State :=
  let still := Nat.ble 4 p.strong && (!p.moved || p.injected)
  let s := if still then
      (s.wrBit (Obj.HAP_STATUS c) 1 true).logInjected Ev.noMotion noOwner p.moved [d8 c, d8 p.effect]
    else s
  if p.cut then s.finishEffect c p 1
  else if p.pulse + 1 < efPulses p.desc then s.setHap c { s.hap c with play := some { p with pulse := p.pulse + 1, phase := .gap, half := 0 } }
  else s.finishEffect c p 0

/-- The next phase of an effect: its first half-cycle is driven, or the pulse is over. -/
def State.toPhase (s : State) (c : Nat) (p : HapPlay) (next : Option HapPlay) : State :=
  match next with
  | some q => (s.drive c q).1.setHap c { s.hap c with play := some (s.drive c q).2 }
  | none => s.endPulse c p

/-- HALF_CYCLE_END (R483, R484, R490, R491): the half-cycle in progress ends with its sense gap's peak. -/
def execHalfCycleEnd (c : Fin 8) (peakMv : Nat) (crossing : Option Int) (s : State) : Out :=
  match (s.hap c.val).play with
  | none => .next s
  | some p =>
    if p.phase = .gap then .next s
    else
      let seen := Nat.blt (s.rd Obj.HAP_BRAKE_THRESH_MV) peakMv
      let strong := decide (p.phase = .sustain) && Nat.ble 50 p.level
      let p := { p with half := p.half + 1, moved := p.moved || seen, strong := p.strong + ofBool strong, periodNs := s.nextPeriod c.val p crossing }
      match p.phase with
      | .gap => .next s
      | .overdrive =>
        if p.cut then .next (s.toPhase c.val p (p.enter .braking))
        else if efOd p.desc ≤ p.half then .next (s.toPhase c.val p (p.enter .sustain))
        else .next (s.toPhase c.val p (some p))
      | .sustain =>
        if p.cut ∨ efSus p.desc ≤ p.half then .next (s.toPhase c.val p (p.enter .braking))
        else .next (s.toPhase c.val p (some p))
      | .braking =>
        if peakMv < s.rd Obj.HAP_BRAKE_THRESH_MV ∨ efBrake p.desc ≤ p.half then .next (s.endPulse c.val p)
        else .next (s.toPhase c.val p (some p))

/-- PULSE_GAP_END (R490): the next pulse begins. -/
def execPulseGapEnd (c : Fin 8) (s : State) : Out :=
  match (s.hap c.val).play with
  | none => .next s
  | some p =>
    if p.phase ≠ .gap then .next s
    else match p.enter .overdrive with
      | none => .next (s.endPulse c.val p)
      | some q =>
        let r := s.startPulse c.val q
        .next (r.1.toPhase c.val r.2 (some r.2))

/-- Is a write of an RWS object of Quag refused: its channel, or for the common ones any channel, is not OFF (R499)? -/
def State.hapBusy (s : State) (addr : Nat) : Bool :=
  let x := addr / 256
  if x = 0x5200 then (List.range 8).any (fun c => !decide (s.hapState c = 0)) else !decide (s.hapState (x - 0x5210) = 0)

end Sys2Proof.Machine
end

