-- ==== Sys2Proof/Machine/Audio.lean ====
section
/-! DEFINITION. Foley (R501 to R526): ports, rate domains and bridges, streams, routes and buses, gains, clip avoidance, chimes and ducking. -/
namespace Sys2Proof.Machine
open Sys2Proof

/-- The state with Foley changed. -/
def State.modFoley (s : State) (f : Foley → Foley) : State := { s with foley := f s.foley }
/-- A stream. -/
def State.stream (s : State) (u : Nat) : AudStream := Tab.get {} s.foley.streams u
/-- The state with a stream set. -/
def State.setStream (s : State) (u : Nat) (x : AudStream) : State := s.modFoley (fun f => { f with streams := Tab.set f.streams u x })
/-- A bus. -/
def State.bus (s : State) (b : Nat) : AudBus := Tab.get {} s.foley.buses b
/-- The state with a bus set. -/
def State.setBus (s : State) (b : Nat) (x : AudBus) : State := s.modFoley (fun f => { f with buses := Tab.set f.buses b x })
/-- A generator, 0 to 3. -/
def State.gen (s : State) (g : Nat) : Generator := Tab.get {} s.foley.gens g

/-! ## Domains (R501, R502, R505) -/

/-- SOURCE of a configuration. -/
def cfgSource (c : Nat) : Nat := field c 2 0
/-- Channels of a stream's configuration. -/
def cfgChannels (c : Nat) : Nat := field c 12 10 + 1
/-- Channels of a bus. -/
def busChannels (c : Nat) : Nat := field c 3 1 + 1

/-- Is a port a slave? -/
def State.tdmSlave (s : State) (p : Nat) : Bool := !bit (s.rd (Obj.TDM_CONFIG p)) 1

/-- Slots of a frame of a port's configuration (R501). -/
def tdmSlots (c : Nat) : Nat := if bit c 2 then field c 6 3 + 1 else 2

/-- The domain of a TDM port: 0 D48, 1 D44, 2 D16, 3 + p EXTp (R501, R502). -/
def State.tdmDomain (s : State) (p : Nat) : Nat :=
  if s.tdmSlave p then (if s.rd Obj.AUD_D48_REF = 2 + p then 0 else 3 + p) else field (s.rd (Obj.TDM_CONFIG p)) 12 11

/-- The domain of a stream by its configuration (R507). -/
def State.streamDomain (s : State) (c : Nat) : Nat :=
  match cfgSource c with
  | 1 => field c 14 13
  | 2 => s.tdmDomain (field c 5 3)
  | 3 => if bit (s.rd (Obj.PDM_CONFIG (field c 5 3))) 3 then 0 else 2
  | _ => 0

/-- The rate of a domain in Hz (R505); an EXT domain's rate is measured. -/
def State.domainRate (s : State) (d ext : Nat) : Nat :=
  if d = 0 then (if s.rd Obj.AUD_D48_RATE = 1 then 96000 else 48000)
  else if d = 1 then (if s.rd Obj.AUD_D44_RATE = 1 then 88200 else 44100)
  else if d = 2 then 16000
  else ext

/-! ## Bridges (R506) -/

/-- Entry i of a route table. -/
def routeEntry (t i : Nat) : Nat := bytesAt t (8 * i) 8
/-- VALID of an entry. -/
def rtValid (e : Nat) : Bool := bit e 16
/-- STREAM. -/
def rtStream (e : Nat) : Nat := field e 5 0
/-- STREAM_CH. -/
def rtStreamCh (e : Nat) : Nat := field e 8 6
/-- BUS. -/
def rtBus (e : Nat) : Nat := field e 12 9
/-- BUS_CH. -/
def rtBusCh (e : Nat) : Nat := field e 15 13
/-- GAIN. -/
def rtGain (e : Nat) : Nat := field e 47 32

/-- The 512 entries. -/
def routeEntries (t : Nat) : List Nat := (List.range 512).map (routeEntry t)

/-- A list without repeats. -/
def distinct : List (Nat × Nat) → List (Nat × Nat)
  | [] => []
  | x :: xs => if xs.contains x then distinct xs else x :: distinct xs

/-- The bridges that routes and destinations need (R506; log entry 46: a stream that is OFF has no domain and needs none). -/
def State.bridgesNeeded (s : State) : Nat :=
  let pairs := (routeEntries (s.rd Obj.AUD_ROUTE_TABLE)).filterMap (fun e =>
    let c := s.rd (Obj.AUD_STREAM_CFG (rtStream e))
    let d := field (s.rd (Obj.AUD_BUS_CFG (rtBus e))) 5 4
    if rtValid e ∧ cfgSource c ≠ 0 ∧ s.streamDomain c ≠ d then some (rtStream e, d) else none)
  let outs := (List.range 16).filter (fun b =>
    let dest := s.rd (Obj.AUD_BUS_DEST b)
    bit dest 0 && !decide (s.tdmDomain (field dest 3 1) = field (s.rd (Obj.AUD_BUS_CFG b)) 5 4))
  (distinct pairs).length + outs.length

/-- A write that needs a bridge when all 16 are in use is refused and changes nothing (R506). -/
def State.withBridges (s s' : State) : Nat × State :=
  let n := s'.bridgesNeeded
  if 16 < n ∧ s.bridgesNeeded < n then (Status.bridgeExhausted, s) else (Status.ok, s'.wr Obj.AUD_BRIDGES_FREE (16 - n))

/-! ## Ramps (R515) -/

/-- A unit of 2⁻¹⁶ of 1/16 dB. -/
def rampUnit : Int := 65536

/-- The level a gain value stands for: 1/16 dB, a mute as −120 dB (R511, R515). -/
def gainLevel (v : Nat) : Int := if v = 0x8000 then -1920 * rampUnit else toSigned 16 v * rampUnit

/-- The level k samples into what is left of a ramp: linear in dB (R515). -/
def Ramp.at (r : Ramp) (k : Nat) : Int :=
  if r.length ≤ r.done + k then r.target
  else r.start + (r.target - r.start) * Int.ofNat (r.done + k) / Int.ofNat r.length

/-- Is it silent: a mute whose ramp has ended (R515)? -/
def Ramp.silent (r : Ramp) (k : Nat) : Bool := r.mute && Nat.ble r.length (r.done + k)

/-- The ramp after n samples. -/
def Ramp.advance (r : Ramp) (n : Nat) : Ramp := { r with done := Nat.min r.length (r.done + n) }

/-- A gain at once, with no ramp. -/
def Ramp.held (v : Nat) : Ramp := { start := gainLevel v, target := gainLevel v, mute := decide (v = 0x8000) }

/-- A new target ramps from the value reached, over the whole ramp time (R515). -/
def Ramp.towards (r : Ramp) (target : Int) (mute : Bool) (length : Nat) : Ramp :=
  if r.target = target ∧ r.mute = mute then r else ⟨r.at 0, target, 0, length, mute⟩

/-- Samples of a time in ms at a rate. -/
def msSamples (ms rate : Nat) : Nat := ms * rate / 1000

/-- A sample under a ramp, k samples on (R514). -/
def Ramp.apply (r : Ramp) (k : Nat) (x : Int) : Int := if r.silent k then 0 else Config.linearGain (r.at k) x

/-! ## Samples (R501, R508) -/

/-- An F32 sample as S32: clamped to −1.0 to +1.0, times 2³¹, saturated (R508). -/
def floatToS32 (raw : Nat) : Int :=
  let e := field raw 30 23
  let m := field raw 22 0
  let neg := bit raw 31
  let sign := fun (v : Int) => if neg then -v else v
  if e = 255 ∧ m ≠ 0 then Config.floatSample raw
  else if 127 ≤ e then (if neg then -2147483648 else 2147483647)
  else
    let v := if e = 0 then m else m + 2 ^ 23
    let p := Nat.max e 1
    if 119 ≤ p then sign (Int.ofNat (v * 2 ^ (p - 119)))
    else if v % 2 ^ (119 - p) = 0 then sign (Int.ofNat (v / 2 ^ (119 - p)))
    else Config.floatSample raw

/-- A sample as S32 at full scale (R501, R507, R508). -/
def State.toS32 (s : State) (c raw : Nat) : Int :=
  match cfgSource c with
  | 1 => (match field c 18 17 with
    | 0 => toSigned 16 raw * 65536
    | 1 => toSigned 32 (raw % 2 ^ 32 / 256 * 256)
    | 2 => toSigned 32 raw
    | _ => floatToS32 (raw % 2 ^ 32))
  | 2 =>
    let w := match field (s.rd (Obj.TDM_CONFIG (field c 5 3))) 8 7 with | 0 => 16 | 1 => 24 | _ => 32
    toSigned 32 (raw % 2 ^ 32 / 2 ^ (32 - w) * 2 ^ (32 - w))
  | _ => toSigned 32 raw

/-- The high-pass filter over a channel's block (R508). -/
def filterBlock (hpf rate : Nat) : (Int × Int × Int × Int) → List Int → List Int × (Int × Int × Int × Int)
  | m, [] => ([], m)
  | (x1, x2, y1, y2), x :: xs =>
    let y := if hpf = 0 then x else Config.highPass hpf rate x x1 x2 y1 y2
    let r := filterBlock hpf rate (x, x1, y, y1) xs
    (y :: r.1, r.2)

/-- The greatest magnitude of a block. -/
def blockPeak (xs : List Int) : Nat := maxNat (xs.map Int.natAbs)

/-- S32 saturation. -/
def sat32 (x : Int) : Int := clampInt (-2147483648) 2147483647 x

/-- A level as an S16 object of 1/16 dBFS, −120 dBFS at least (R527). -/
def peakObject (p : Nat) : Nat := ofSigned 16 (if p = 0 then -1920 else clampInt (-1920) 0 (Config.dbfs p))

/-- Channel c of an interleaved block of n channels: 32 samples, zero where the block is short. -/
def channelOf (samples : List Int) (n c : Nat) : List Int := (List.range 32).map (fun k => samples.getD (k * n + c) 0)

/-- A block of silence. -/
def silence : List Int := List.replicate 32 0

/-! ## Streams at a block boundary (R508 to R510, R516, R524) -/

/-- A run of blocks not delivered ends: its record (R524). -/
def State.endMissed (s : State) (play : Bool) (unit : Nat) (missed : Option (Nat × Nat)) : State :=
  match missed with
  | none => s
  | some (first, n) => s.logEvent (if play then Ev.playUnderrun else Ev.captureOverrun) noOwner [d8 unit, d32 first, d32 n]

/-- A run of blocks not delivered one block longer. -/
def oneMissed (missed : Option (Nat × Nat)) (seq : Nat) : Option (Nat × Nat) :=
  match missed with
  | none => some (seq, 1)
  | some (f, n) => some (f, n + 1)

/-- AUD_STREAM_STATE of a stream (R527). -/
def AudStream.state (x : AudStream) : Nat :=
  if !x.running then 0 else if x.clockLost then 4 else if x.fault then 3 else if x.missed.isSome then 2 else 1

/-- A stream stops (R516): its run of silence is recorded. -/
def State.stopStream (s : State) (u : Nat) : State :=
  let x := s.stream u
  let s := if x.fault || x.clockLost then s else s.endMissed true u x.missed
  (s.setStream u { cfg := s.rd (Obj.AUD_STREAM_CFG u) }).wr (Obj.AUD_STREAM_STATE u) 0

/-- A stream starts: DEVICE_POS and BLOCK_SEQ from 0, its gain with no ramp (R509, R510, R516). -/
def State.startStream (s : State) (u : Nat) : State :=
  let c := s.rd (Obj.AUD_STREAM_CFG u)
  let lost := decide (cfgSource c = 2 ∧ s.rd (Obj.TDM_STATE (field c 5 3)) = 2)
  s.setStream u { cfg := c, running := true, clockLost := lost, gain := Ramp.held (s.rd (Obj.AUD_STREAM_GAIN u)) }

/-- Pending writes of a stream take effect at its block boundary (R516). -/
def State.adoptStream (s : State) (u : Nat) : State :=
  let c := s.rd (Obj.AUD_STREAM_CFG u)
  let x := s.stream u
  let s := if x.running && (x.stopping || decide (cfgSource c = 0)) then s.stopStream u else s
  let x := s.stream u
  if x.running then s.setStream u { x with cfg := c } else if cfgSource c = 0 then s else s.startStream u

/-- Does a doorbell object's owner hold the mailbox: an instance needs its grant (R509, R419)? -/
def State.audDoorbell (s : State) (owner v seq : Nat) : State :=
  let granted := decide (64 ≤ owner) || bit (s.rd (Obj.INST_DB_GRANT owner)) (field v 11 8)
  let period := field v 23 16
  if bit v 15 ∧ period ≠ 0 ∧ seq % period = 0 ∧ granted then s.ringObject v else s

/-- Bytes of a sample in a ring (R507, R512). -/
def formatBytes (f : Nat) : Nat := if f = 0 then 2 else 4

/-- A stream's block: 32 samples of each channel, after the filter, with their peaks, then with the stream gain. -/
def State.takeBlock (s : State) (u rate : Nat) (x : AudStream) (raw : List Nat) (silent : Bool) : State :=
  let n := cfgChannels x.cfg
  let ints := raw.map (s.toS32 x.cfg)
  let chans := (List.range n).map (fun c =>
    filterBlock (field x.cfg 16 15) rate (x.memory.getD c (0, 0, 0, 0)) (if silent then silence else channelOf ints n c))
  let out := chans.map (fun r => r.1)
  let peaks := out.map blockPeak
  let recent := (s.dtime, maxNat peaks) :: x.peaks.filter (fun p => decide (s.dtime < p.1 + 100000000))
  let gained := out.map (fun ch => (ch.zipIdx).map (fun p => x.gain.apply p.2 p.1))
  let s := s.wr (Obj.AUD_STREAM_PEAK u) (peakObject (maxNat (recent.map Prod.snd)))
  s.setStream u { x with memory := chans.map (fun r => r.2), block := gained, chPeaks := peaks, peaks := recent, gain := x.gain.advance 32 }

/-- A HOST_PLAY block (R509, R510): a block of the ring, or silence. -/
def State.hostBlock (s : State) (u rate : Nat) (x : AudStream) (host : Nat ⊕ Nat) (raw : List Nat) : State :=
  let bytes := 32 * cfgChannels x.cfg * formatBytes (field x.cfg 18 17)
  let inj := if x.fault then (none, s) else s.inject 25 u
  let seq := wrapAdd 32 x.blockSeq 1
  let error := match host with | .inr a => some (a, false) | .inl _ => if inj.1.isSome then some (s.rd (Obj.AUD_STREAM_RING u), true) else none
  let s := inj.2
  let quiet : AudStream := { x with blockSeq := seq, lost := wrapAdd 32 x.lost 1 }
  if x.fault then s.takeBlock u rate quiet [] true
  else match error with
    | some (a, injected) =>
      let s := s.endMissed true u x.missed
      (s.logInjected Ev.audDmaFault noOwner injected [d8 u, d64 a]).takeBlock u rate { quiet with fault := true, missed := none } [] true
    | none =>
      let pos := match host with | .inl p => p | .inr _ => 0
      if bytes ≤ (pos + 2 ^ 64 - x.devicePos) % 2 ^ 64 then
        let s := s.endMissed true u x.missed
        let x := { x with blockSeq := seq, devicePos := wrapAdd 64 x.devicePos bytes, missed := none }
        (((s.takeBlock u rate x raw false).tallyCount 32 0 (s.rd (Obj.AUD_STREAM_OWNER u))).emit
          (.audioStatus u x.devicePos x.blockSeq x.lost s.now s.dtime)).audDoorbell (s.rd (Obj.AUD_STREAM_OWNER u)) (s.rd (Obj.AUD_STREAM_DOORBELL u)) seq
      else
        let x := { quiet with missed := oneMissed x.missed seq }
        (((s.count (Obj.AUD_STREAM_UNDERRUNS u)).takeBlock u rate x [] true).emit
          (.audioStatus u x.devicePos x.blockSeq x.lost s.now s.dtime)).audDoorbell (s.rd (Obj.AUD_STREAM_OWNER u)) (s.rd (Obj.AUD_STREAM_DOORBELL u)) seq

/-- A stream's part of a block boundary of its domain. -/
def State.streamBlock (s : State) (u d rate : Nat) (ins : List AudioIn) : State :=
  let was := s.stream u
  let c := s.rd (Obj.AUD_STREAM_CFG u)
  let at_ := s.streamDomain (if was.running then was.cfg else c)
  if at_ ≠ d ∨ (!was.running ∧ cfgSource c = 0) then s
  else
    let s := s.adoptStream u
    let x := s.stream u
    if !x.running then s
    else
      let g := s.rd (Obj.AUD_STREAM_GAIN u)
      let x := { x with gain := x.gain.towards (gainLevel g) (decide (g = 0x8000)) (msSamples (s.rd (Obj.AUD_STREAM_RAMP_MS u)) rate) }
      let inp := ins.find? (fun i => decide (i.stream.val = u))
      let raw := match inp with | some i => i.samples | none => []
      let s := match cfgSource x.cfg with
        | 1 => s.hostBlock u rate x (match inp with | some i => i.host | none => .inl x.devicePos) raw
        | _ =>
          let x := { x with blockSeq := wrapAdd 32 x.blockSeq 1, lost := if x.clockLost then wrapAdd 32 x.lost 1 else x.lost }
          (s.takeBlock u rate x raw x.clockLost).tallyCount 32 0 (s.rd (Obj.AUD_STREAM_OWNER u))
      s.wr (Obj.AUD_STREAM_STATE u) (s.stream u).state

/-! ## Chimes (R409, R520 to R522, R526) -/

/-- Entry of chime n, 1 to 32. -/
def State.chimeEntry (s : State) (n : Nat) : Nat := if n = 0 ∨ 32 < n then 0 else bytesAt (s.rd Obj.CHIME_TABLE) (32 * (n - 1)) 32
/-- VALID of a chime. -/
def chValid (d : Nat) : Bool := bit d 3
/-- PRIORITY. -/
def chPriority (d : Nat) : Nat := field d 6 4
/-- The bus of a chime. -/
def chBus (d : Nat) : Nat := if bit d 2 then 15 else 14
/-- FREQ, DUR, LEVEL and EDGE of tone t. -/
def chTone (d t : Nat) : Nat := bytesAt d (8 + 6 * t) 6
/-- The tones of a chime. -/
def chTones (d : Nat) : List Nat := (List.range (field d 1 0 + 1)).map (chTone d)

/-- Is a VALID entry out of its ranges (R521)? -/
def chimeBad (d : Nat) : Bool :=
  chValid d && (decide (field d 15 8 = 0) || Nat.blt 10000 (field d 31 16)
    || (chTones d).any (fun t =>
        let f := field t 15 0
        let dur := field t 31 16
        (!decide (f = 0) && (Nat.blt f 100 || Nat.blt 8000 f)) || Nat.blt dur 10 || Nat.blt 2000 dur || Nat.blt 50 (field t 47 40)))

/-- The sample of a list of tones at a place. -/
def tonesAt (rate : Nat) : List Nat → Nat → Int
  | [], _ => 0
  | t :: ts, k =>
    let n := msSamples (field t 31 16) rate
    if k < n then (if field t 15 0 = 0 then 0 else Config.toneSample (field t 15 0) (field t 39 32) (field t 47 40) (field t 31 16) rate k)
    else tonesAt rate ts (k - n)

/-- Sample k of a chime: its tones in order, REPEATS times, with GAP between (R521). -/
def chimeSample (d rate k : Nat) : Int :=
  let once := sumNat ((chTones d).map (fun t => msSamples (field t 31 16) rate))
  let period := once + msSamples (field d 31 16) rate
  if period = 0 ∨ field d 15 8 ≤ k / period then 0 else tonesAt rate (chTones d) (k % period)

/-- CHIME_NOW (R527). -/
def State.chimeNow (s : State) : Nat :=
  packItems 1 ((List.range 4).map (fun g => match (s.gen g).now with | some r => r.chime | none => 0))

/-- The state with a generator set, CHIME_NOW with it. -/
def State.setGen (s : State) (g : Nat) (x : Generator) : State :=
  let s := s.modFoley (fun f => { f with gens := Tab.set f.gens g x })
  s.wr Obj.CHIME_NOW s.chimeNow

/-- A chime that was started ends: 0 DONE, 1 REPLACED, 2 STOPPED (R522). -/
def State.chimeEnds (s : State) (g : Nat) (r : ChimeRun) (result : Nat) : State :=
  (s.setGen g { s.gen g with now := none, stopping := false }).logEvent Ev.chimeEnd noOwner [d8 r.chime, d8 (60 + g), dCase Ev.chimeEnd result]

/-- The chime a generator is taken by: the one that waits for the boundary, or the one it plays. -/
def Generator.taken (x : Generator) : Option ChimeRun := match x.next with | some r => some r | none => x.now

/-- The generator of a start of chime n of a priority (R522). -/
def State.chooseGen (s : State) (n priority : Nat) : Option Nat :=
  let gens := List.range 4
  match gens.find? (fun g => decide ((s.gen g).taken.map ChimeRun.chime = some n)) with
  | some g => some g
  | none => match gens.find? (fun g => (s.gen g).taken.isNone) with
    | some g => some g
    | none =>
      let lower := gens.filter (fun g => match (s.gen g).taken with | some r => Nat.blt (chPriority r.desc) priority | none => false)
      leastBy (fun g => match (s.gen g).taken with | some r => chPriority r.desc * 2 ^ 64 + r.order | none => 0) lower

/-- A wake by the start of a chime, in the order of R597's list. -/
def wakeChime : Nat := 3

/-- A start of chime n from a source: 0 CHIME_PLAY, 1 a Continuity unit (R522, R526). -/
def State.playChime (s : State) (n source : Nat) : Nat × State :=
  let d := s.chimeEntry n
  if n = 0 then (Status.ok, s)
  else if !chValid d then (Status.audConfigInvalid, s)
  else match s.chooseGen n (chPriority d) with
    | none => (Status.chimeBusy, s.logEvent Ev.chimeRefused noOwner [d8 n, dCase Ev.chimeRefused source])
    | some g =>
      let o := s.nextOrder
      let s := o.2.setGen g { o.2.gen g with next := some ⟨n, d, source, o.1, 0⟩ }
      (Status.ok, if 3 ≤ s.rd Obj.PWR_STATE then s.wake wakeChime else s)

/-- CHIME_PLAY (R522). -/
def execChimePlay (rq : Requester) (v : Fin 256) (s : State) : Out :=
  .next (s.ownRequest rq Obj.CHIME_PLAY v.val (fun s => s.playChime v.val 0))

/-- A chime is to stop: one not yet started is dropped. -/
def State.stopChime (s : State) (p : Nat → Bool) : State :=
  s.each (List.range 4) (fun s g =>
    let x := s.gen g
    let dropped := match x.next with | some r => p r.chime | none => false
    let stops := match x.now with | some r => p r.chime | none => false
    if dropped || stops then s.setGen g { x with next := if dropped then none else x.next, stopping := x.stopping || stops } else s)

/-- CHIME_STOP after step 7 of R536 (R522). -/
def State.writeChimeStop (s : State) (v : Nat) : Nat × State := (Status.ok, s.stopChime (fun c => decide (v = 0) || decide (c = v)))

/-- CHIME_STOP (R522). -/
def execChimeStop (rq : Requester) (v : Fin 256) (s : State) : Out :=
  .next (s.ownRequest rq Obj.CHIME_STOP v.val (fun s => s.writeChimeStop v.val))

/-- CHIME_END (R522): a chime has played its repeats. -/
def execChimeEnd (g : Fin 4) (s : State) : Out :=
  match (s.gen g.val).now with
  | none => .next s
  | some r => .next (s.chimeEnds g.val r 0)

/-- A generator at a block boundary of a domain (R522): its chime stops, or ends REPLACED where another starts. During a Bittern restart none starts
(R409; log entry 47: it starts when Bittern runs again). -/
def State.genBlock (s : State) (g d : Nat) : State :=
  let here := fun (r : ChimeRun) => decide (field (s.rd (Obj.AUD_BUS_CFG (chBus r.desc))) 5 4 = d)
  let x := s.gen g
  let s := match x.now with
    | some r => if x.stopping && here r then s.chimeEnds g r 2 else s
    | none => s
  match (s.gen g).next with
  | none => s
  | some r =>
    if !here r || s.bitternDown then s
    else
      let s := match (s.gen g).now with | some old => s.chimeEnds g old 1 | none => s
      (s.setGen g { s.gen g with now := some r, next := none }).logEvent Ev.chimeStart noOwner [d8 r.chime, d8 (60 + g), dCase Ev.chimeStart r.source]

/-- Does a chime play on a chime bus that sends to a TDM port (R523)? -/
def State.chimeOnPort (s : State) (p : Nat) : Bool :=
  (List.range 4).any (fun g => match (s.gen g).now with
    | none => false
    | some r =>
      let dest := s.rd (Obj.AUD_BUS_DEST (chBus r.desc))
      bit dest 0 && decide (field dest 3 1 = p))

/-! ## Buses at a block boundary (R511 to R518, R523) -/

/-- AUD_BUS_STATE of a bus (R527). -/
def AudBus.state (x : AudBus) : Nat := if !x.running then 0 else if x.clockLost then 2 else 1

/-- The routes of a bus after its block boundary (R515, R516): a kept route's new gain ramps, a new route has its gain at once. -/
def State.adoptRoutes (s : State) (b rate : Nat) (old : List RouteRun) : List RouteRun :=
  let t := s.rd Obj.AUD_ROUTE_TABLE
  let len := msSamples (s.rd (Obj.AUD_BUS_RAMP_MS b)) rate
  (List.range 512).filterMap (fun i =>
    let e := routeEntry t i
    if !rtValid e ∨ rtBus e ≠ b then none
    else match old.find? (fun r => decide (r.index = i ∧ r.stream = rtStream e ∧ r.ch = rtStreamCh e ∧ r.busCh = rtBusCh e)) with
      | some r => some { r with gain := r.gain.towards (gainLevel (rtGain e)) (decide (rtGain e = 0x8000)) len }
      | none => some ⟨i, rtStream e, rtStreamCh e, rtBusCh e, Ramp.held (rtGain e)⟩)

/-- Pending writes of a bus take effect (R516); a bus that starts has its gain at once. -/
def State.adoptBus (s : State) (b rate : Nat) : State :=
  let c := s.rd (Obj.AUD_BUS_CFG b)
  let dest := s.rd (Obj.AUD_BUS_DEST b)
  let x := s.bus b
  if !bit c 0 then
    if x.running then ((s.endMissed false b x.missed).setBus b { cfg := c, dest := dest }).wr (Obj.AUD_BUS_STATE b) 0 else s
  else
    let x := if x.running then x else { gain := Ramp.held (s.rd (Obj.AUD_BUS_GAIN b)) }
    let lost := bit dest 0 && decide (s.rd (Obj.TDM_STATE (field dest 3 1)) = 2)
    let mode := s.rd (Obj.AUD_CLIP_MODE b)
    let g := s.rd (Obj.AUD_BUS_GAIN b)
    let len := msSamples (s.rd (Obj.AUD_BUS_RAMP_MS b)) rate
    let ducked := b < 14 && bit dest 0 && s.chimeOnPort (field dest 3 1)
    let duck := if ducked then x.duck.towards (-(Int.ofNat (16 * s.rd Obj.DUCK_DB)) * rampUnit) false (msSamples 10 rate)
      else x.duck.towards 0 false (msSamples (s.rd Obj.DUCK_RELEASE_MS) rate)
    s.setBus b { x with cfg := c, dest := dest, running := true, clockLost := lost, mode := mode, duck := duck,
                        scales := if mode = x.mode then x.scales else [],
                        gain := x.gain.towards (gainLevel g) (decide (g = 0x8000)) len, routes := s.adoptRoutes b rate x.routes }

/-- Is a route active (R518)? -/
def State.routeActive (s : State) (r : RouteRun) : Bool :=
  let x := s.stream r.stream
  let p := x.chPeaks.getD r.ch 0
  !r.gain.mute && x.running && !decide (p = 0) && decide (16 * toSigned 8 (s.rd Obj.AUD_ACTIVE_DBFS) < Config.dbfs p)

/-- Sample k of a stream's channel in a bus's domain (R506, R514). -/
def State.streamSample (s : State) (r : RouteRun) (d rate k : Nat) : Int :=
  let x := s.stream r.stream
  if !x.running then 0
  else
    let block := x.block.getD r.ch []
    let sd := s.streamDomain x.cfg
    if sd = d then block.getD k 0 else Config.bridged (s.domainRate sd 0) rate block k

/-- The sum of a bus channel at sample k (R514, R520). -/
def State.busSum (s : State) (b : Nat) (x : AudBus) (ch d rate k : Nat) : Int :=
  if b < 14 then sumInt ((x.routes.filter (fun r => decide (r.busCh = ch))).map (fun r => r.gain.apply k (s.streamSample r d rate k)))
  else sumInt ((List.range 4).map (fun g => match (s.gen g).now with
    | some r => if chBus r.desc = b then chimeSample r.desc rate (r.played + k) else 0
    | none => 0))

/-- The AUTOSCALE scale of a channel: a change of n ramps (R518). -/
def State.busScale (s : State) (b : Nat) (x : AudBus) (ch rate : Nat) : Nat × Ramp :=
  let n := Nat.max 1 (x.routes.filter (fun r => decide (r.busCh = ch) && s.routeActive r)).length
  let level := Config.scaleLevel (decide (x.mode = 2)) n
  match x.scales[ch]? with
  | some (_, r) => (n, r.towards level false (msSamples (s.rd (Obj.AUD_BUS_RAMP_MS b)) rate))
  | none => (n, { start := level, target := level })

/-- y of a channel's sample before the clip stage (R514); a HEADROOM sum saturates at 40 bits (R517). -/
def AudBus.level (x : AudBus) (scale : Ramp) (k : Nat) (sum : Int) : Int :=
  let sum := if x.mode = 0 then clampInt (-(2 ^ 39)) (2 ^ 39 - 1) sum else sum
  let y := if x.mode = 0 then sum else Config.linearGain (scale.at k) sum
  if x.gain.silent k then 0 else Config.linearGain (x.gain.at k + x.duck.at k) y

/-- The ceiling of the limiters as a magnitude (R517). -/
def State.limCeiling (s : State) : Nat :=
  (Config.linearGain (toSigned 16 (s.rd Obj.AUD_LIM_CEILING) * rampUnit) 2147483647).natAbs

/-- The clip stage over a block (R517, R518): a limiter that reduces only where the ceiling would be exceeded, or saturation. -/
def State.clip (s : State) (x : AudBus) (ys : List (List Int)) : List (List Int) × Bool × Nat :=
  let peak := maxNat (ys.map blockPeak)
  if x.mode = 0 then
    let c := s.limCeiling
    if peak ≤ c then (ys, false, peak)
    else
      (ys.map (fun ch => (ch.zipIdx).map (fun p =>
        clampInt (-(Int.ofNat c)) (Int.ofNat c) (Config.limited c peak (s.rd Obj.AUD_LIM_RELEASE_MS) p.1 p.2))), true, peak)
  else (ys.map (fun ch => ch.map sat32), ys.any (fun ch => ch.any (fun y => !decide (sat32 y = y))), peak)

/-- LIMITER_ENGAGED at the first limited block after a second without any (R517). -/
def State.limitBlock (s : State) (b : Nat) (x : AudBus) (peak : Nat) : State :=
  let s := (s.count (Obj.AUD_BUS_LIMITED b)).tallyCount 32 1 noOwner
  let quiet : Bool := match x.limited with | none => true | some t => Nat.ble (t + 1000000000) s.dtime
  if x.mode = 0 ∧ quiet then
    s.logEvent Ev.limiterEngaged noOwner [d8 b, d16 (Config.dbfs peak - toSigned 16 (s.rd Obj.AUD_LIM_CEILING)).natAbs]
  else s

/-- A bus's capture of its block (R512, R514): written where the ring has room, else discarded. -/
def State.capture (s : State) (b : Nat) (x : AudBus) (host : Nat ⊕ Nat) (block : List Int) : State :=
  let bytes := 32 * busChannels x.cfg * formatBytes (s.rd (Obj.AUD_BUS_FORMAT b))
  let inj := s.inject 25 (64 + b)
  let seq := wrapAdd 32 x.blockSeq 1
  let error := match host with | .inr a => some (a, false) | .inl _ => if inj.1.isSome then some (s.rd (Obj.AUD_BUS_RING b), true) else none
  let s := inj.2
  let reader := s.rd (Obj.AUD_BUS_READER b)
  match error with
  | some (a, injected) =>
    let s := if x.fault then s else (s.endMissed false b x.missed).logInjected Ev.audDmaFault noOwner injected [d8 (64 + b), d64 a]
    s.setBus b { x with blockSeq := seq, lost := wrapAdd 32 x.lost 1, fault := true, missed := none }
  | none =>
    let pos := match host with | .inl p => p | .inr _ => 0
    let held := (x.devicePos + 2 ^ 64 - pos) % 2 ^ 64
    let x := { x with blockSeq := seq, fault := false }
    let r : State × AudBus :=
      if held + bytes ≤ s.rd (Obj.AUD_BUS_RING_BYTES b) then
        ((s.endMissed false b x.missed).emit (.audio b true block), { x with devicePos := wrapAdd 64 x.devicePos bytes, missed := none })
      else (s, { x with lost := wrapAdd 32 x.lost 1, missed := oneMissed x.missed seq })
    ((r.1.setBus b r.2).emit (.audioStatus (64 + b) r.2.devicePos seq r.2.lost s.now s.dtime)).audDoorbell reader
      (s.rd (Obj.AUD_BUS_DOORBELL b)) seq

/-- A bus's part of a block boundary of its domain (R512 to R518, R523). -/
def State.busBlock (s : State) (b d rate : Nat) (outs : List AudioOut) : State :=
  let was := s.bus b
  let c := if was.running then was.cfg else s.rd (Obj.AUD_BUS_CFG b)
  if field c 5 4 ≠ d ∨ (!was.running ∧ !bit c 0) then s
  else
    let s := s.adoptBus b rate
    let x := s.bus b
    if !x.running then s
    else
      let n := busChannels x.cfg
      let scales := (List.range n).map (fun ch => s.busScale b x ch rate)
      let ys := (List.range n).map (fun ch => (List.range 32).map (fun k =>
        x.level (scales.getD ch (1, {})).2 k (s.busSum b x ch d rate k)))
      let r := s.clip x ys
      let s := if r.2.1 then s.limitBlock b x r.2.2 else s
      let recent := (s.dtime, maxNat (r.1.map blockPeak)) :: x.peaks.filter (fun p => decide (s.dtime < p.1 + 100000000))
      let x := { x with
        scales := scales.map (fun p => (p.1, p.2.advance 32)), gain := x.gain.advance 32, duck := x.duck.advance 32,
        routes := x.routes.map (fun r => { r with gain := r.gain.advance 32 }), limited := if r.2.1 then some s.dtime else x.limited, peaks := recent }
      let s := s.wr (Obj.AUD_BUS_PEAK b) (peakObject (maxNat (recent.map Prod.snd)))
      let port := field x.dest 3 1
      let sends := bit x.dest 0 && bit (s.rd (Obj.TDM_CONFIG port)) 13 && !x.clockLost
      let s := if sends then s.emit (.audio b false r.1.flatten) else s
      let s := s.tallyCount 32 0 noOwner
      let s := if bit x.dest 8 then
          s.capture b x (match outs.find? (fun o => decide (o.bus.val = b)) with | some o => o.host | none => .inl x.devicePos) r.1.flatten
        else s.setBus b { x with blockSeq := wrapAdd 32 x.blockSeq 1, lost := if x.clockLost then wrapAdd 32 x.lost 1 else x.lost }
      s.wr (Obj.AUD_BUS_STATE b) (s.bus b).state

/-- The chimes of a domain's buses have played a block. -/
def State.advanceChimes (s : State) (d : Nat) : State :=
  s.each (List.range 4) (fun s g =>
    match (s.gen g).now with
    | none => s
    | some r =>
      if field (s.rd (Obj.AUD_BUS_CFG (chBus r.desc))) 5 4 = d then s.setGen g { s.gen g with now := some { r with played := r.played + 32 } } else s)

/-! ## Clocks of slave ports (R503) -/

/-- A slave port that is on loses its clock; its streams and buses stop with it (R503). -/
def State.tdmLost (s : State) (p : Nat) (injected : Bool) : State :=
  if !bit (s.rd (Obj.TDM_CONFIG p)) 0 || !s.tdmSlave p || decide (s.rd (Obj.TDM_STATE p) = 2) then s
  else
    let s := (s.wr (Obj.TDM_STATE p) 2).logInjected Ev.tdmClockLost noOwner injected [d8 p]
    let s := s.each (List.range 60) (fun s u =>
      let x := s.stream u
      if x.running ∧ cfgSource x.cfg = 2 ∧ field x.cfg 5 3 = p then
        (s.setStream u { x with clockLost := true }).wr (Obj.AUD_STREAM_STATE u) 4
      else s)
    s.each (List.range 16) (fun s b =>
      let x := s.bus b
      if x.running ∧ bit x.dest 0 ∧ field x.dest 3 1 = p then (s.setBus b { x with clockLost := true }).wr (Obj.AUD_BUS_STATE b) 2 else s)

/-- TDM_CLOCK_LOST (R503): no frame sync for 4 frame periods. -/
def execTdmClockLost (p : Fin 8) (s : State) : Out := .next (s.tdmLost p.val false)

/-- TDM_CLOCK_BACK (R503, R524): frame syncs have returned for 16 frames; streams and buses resume at their next block boundary. -/
def execTdmClockBack (p : Fin 8) (blocks : Nat) (s : State) : Out :=
  if s.rd (Obj.TDM_STATE p.val) ≠ 2 then .next s
  else
    let s := (s.wr (Obj.TDM_STATE p.val) 1).logEvent Ev.tdmClockBack noOwner [d8 p.val, d32 blocks]
    let s := s.each (List.range 60) (fun s u =>
      let x := s.stream u
      if x.running ∧ cfgSource x.cfg = 2 ∧ field x.cfg 5 3 = p.val then s.setStream u { x with clockLost := false } else s)
    .next (s.each (List.range 16) (fun s b =>
      let x := s.bus b
      if x.running ∧ bit x.dest 0 ∧ field x.dest 3 1 = p.val then s.setBus b { x with clockLost := false } else s))

/-- BLOCK_BOUNDARY (R505): domain d takes and delivers 32-sample blocks. An armed loss of frame syncs meets its port here (R640, point 24).
No block is taken while the AUD domain is off or held in reset. -/
def execBlockBoundary (d : Fin 11) (rateHz : Nat) (ins : List AudioIn) (outs : List AudioOut) (s : State) : Out :=
  if s.clocks.held.contains 6 ∨ s.rd (Obj.DOM_STATE 15) ≠ 1 then .next s else
  let rate := s.domainRate d.val rateHz
  let s := s.each ((List.range 8).filter (fun p => s.tdmSlave p && bit (s.rd (Obj.TDM_CONFIG p)) 0 && decide (s.tdmDomain p = d.val))) (fun s p =>
    let i := s.inject 24 p
    if i.1.isSome then i.2.tdmLost p true else i.2)
  let s := s.each (List.range 4) (fun s g => s.genBlock g d.val)
  let s := s.each (List.range 60) (fun s u => s.streamBlock u d.val rate ins)
  let s := s.each (List.range 16) (fun s b => s.busBlock b d.val rate outs)
  .next (s.advanceChimes d.val)

/-! ## Writes (R502, R504, R505, R507, R511 to R513, R525, R527) -/

/-- AUD_STREAM_CFG_WRITE (R507). -/
def State.writeStreamCfg (s : State) (u v : Nat) : Nat × State :=
  let addr := Obj.AUD_STREAM_CFG u
  let old := s.rd addr
  let new := s.merged addr v
  let src := cfgSource new
  let port := field new 5 3
  let tdm := s.rd (Obj.TDM_CONFIG port)
  if 5 ≤ src ∨ src = 4 ∨ (src = 1 ∧ field new 14 13 = 3) then (Status.audConfigInvalid, s)
  else if src = 2 ∧ (tdmSlots tdm < field new 9 6 + cfgChannels new ∨ !bit tdm 14) then (Status.audConfigInvalid, s)
  else if src = 3 ∧ 2 < cfgChannels new then (Status.audConfigInvalid, s)
  else if cfgSource old ≠ 0 ∧ src ≠ 0 ∧ setField old 16 15 0 ≠ setField new 16 15 0 then (Status.audConfigInvalid, s)
  else
    let s' := s.wr addr new
    let s' := if src = 0 then s'.setStream u { s'.stream u with stopping := true } else s'
    s.withBridges s'

/-- AUD_STREAM_CFG_WRITE (R507). -/
def execAudStreamCfgWrite (rq : Requester) (u : Fin 64) (v : BitVec 32) (s : State) : Out :=
  .next (s.ownRequest rq (Obj.AUD_STREAM_CFG u.val) v.toNat (fun s => s.writeStreamCfg u.val v.toNat))

/-- An entry without its GAIN, for the comparison of R511. -/
def routeName (e : Nat) : Nat × Nat := (field e 8 0, field e 15 9)

/-- Do two VALID entries name the same route (R511)? -/
def routesRepeat : List (Nat × Nat) → Bool
  | [] => false
  | x :: xs => xs.contains x || routesRepeat xs

/-- A write of the route table, checked whole (R511). -/
def State.writeRoutes (s : State) (v : Nat) : Nat × State :=
  let es := routeEntries v
  let valid := es.filter rtValid
  if es.any (fun e => Nat.ble 60 (rtStream e) || Nat.ble 14 (rtBus e)) then (Status.ownerLocked, s)
  else if routesRepeat (valid.map routeName)
      || valid.any (fun e => Nat.ble (cfgChannels (s.rd (Obj.AUD_STREAM_CFG (rtStream e)))) (rtStreamCh e)
        || Nat.ble (busChannels (s.rd (Obj.AUD_BUS_CFG (rtBus e)))) (rtBusCh e)) then (Status.audConfigInvalid, s)
  else if valid.any (fun e => !decide (rtGain e = 0x8000) && (decide (toSigned 16 (rtGain e) < -1920) || decide (384 < toSigned 16 (rtGain e)))) then
    (Status.ldpRange, s)
  else s.withBridges (s.wr Obj.AUD_ROUTE_TABLE (packItems 8 (es.map (fun e => setField (setField e 31 17 0) 63 48 0))))

/-- AUD_ROUTE_TABLE_WRITE (R511). -/
def execAudRouteTableWrite (rq : Requester) (v : Nat) (s : State) : Out :=
  .next (s.ownRequest rq Obj.AUD_ROUTE_TABLE v (fun s => s.writeRoutes (v % 2 ^ 32768)))

/-- Streams and buses that run in one of some domains (R505). -/
def State.domainRuns (s : State) (p : Nat → Bool) : Bool :=
  (List.range 60).any (fun u =>
      let c := s.rd (Obj.AUD_STREAM_CFG u)
      (s.stream u).running && p (s.streamDomain (s.stream u).cfg) || (!decide (cfgSource c = 0) && p (s.streamDomain c)))
    || (List.range 16).any (fun b => bit (s.rd (Obj.AUD_BUS_CFG b)) 0 && p (field (s.rd (Obj.AUD_BUS_CFG b)) 5 4))

/-- TDM_CONFIG (R502): writable while the port is off, or to turn it off. -/
def State.writeTdm (s : State) (p v : Nat) : Nat × State :=
  let addr := Obj.TDM_CONFIG p
  let new := s.merged addr v
  let on := bit new 0
  if bit (s.rd addr) 0 && on then (Status.audBusy, s)
  else if on && (decide (field new 8 7 = 3)
      || (bit new 1 && (decide (field new 12 11 = 3)
        || Nat.blt 49152000 (tdmSlots new * 32 * s.domainRate (field new 12 11) 0)))) then (Status.audConfigInvalid, s)
  else s.withBridges ((s.wr addr new).wr (Obj.TDM_STATE p) (ofBool on))

/-- PDM_CONFIG (R504). -/
def State.writePdm (s : State) (p v : Nat) : Nat × State :=
  let addr := Obj.PDM_CONFIG p
  let new := s.merged addr v
  let clock := [1024000, 2048000, 3072000, 6144000].getD (field new 2 1) 0
  let rate := s.domainRate (if bit new 3 then 0 else 2) 0
  if bit (s.rd addr) 0 && bit new 0 then (Status.ldpStoppedOnly, s)
  else if bit new 0 && !(decide (clock = 64 * rate) || decide (clock = 128 * rate)) then (Status.audConfigInvalid, s)
  else s.withBridges (s.wr addr new)

/-- AUD_D48_RATE, AUD_D44_RATE and AUD_D48_REF (R505). -/
def State.writeAudRate (s : State) (addr v : Nat) : Nat × State :=
  if s.domainRuns (fun d => decide (d = (if addr = Obj.AUD_D44_RATE then 1 else 0))) then (Status.audBusy, s)
  else if rangeStatus addr v = Status.ok then s.withBridges (s.wr addr v) else (rangeStatus addr v, s)

/-- AUD_BUS_CFG (R512, R513). -/
def State.writeBusCfg (s : State) (b v : Nat) : Nat × State :=
  let addr := Obj.AUD_BUS_CFG b
  let old := s.rd addr
  let new := s.merged addr v
  if bit old 0 ∧ bit new 0 ∧ old ≠ new then (Status.audBusy, s)
  else if field new 5 4 = 3 then (Status.ldpRange, s)
  else s.withBridges (s.wr addr new)

/-- The slots that a bus writes with a destination (R512). -/
def State.busSlots (s : State) (b dest : Nat) : List (Nat × Nat) :=
  if bit dest 0 then (List.range (busChannels (s.rd (Obj.AUD_BUS_CFG b)))).map (fun c => (field dest 3 1, field dest 7 4 + c)) else []

/-- AUD_BUS_DEST (R512, R513). -/
def State.writeBusDest (s : State) (b v : Nat) : Nat × State :=
  let addr := Obj.AUD_BUS_DEST b
  let new := s.merged addr v
  let mine := s.busSlots b new
  if (List.range 16).any (fun o => !decide (o = b) && bit (s.rd (Obj.AUD_BUS_CFG o)) 0
      && (s.busSlots o (s.rd (Obj.AUD_BUS_DEST o))).any mine.contains) then (Status.slotConflict, s)
  else s.withBridges (s.wr addr new)

/-- Ring, length, status address and format of a stream or a bus: writable while it is stopped (R509, R527). -/
def State.writeRing (s : State) (addr v : Nat) : Nat × State :=
  let x := addr / 256
  let stream := decide (x < 0x6200)
  let sub := addr % 256
  let stopped := if stream then cfgSource (s.rd (Obj.AUD_STREAM_CFG (x - 0x6100))) = 0 else bit (s.rd (Obj.AUD_BUS_CFG (x - 0x6200))) 0 = false
  let c := s.rd (Obj.AUD_STREAM_CFG (x - 0x6100))
  let block := if stream then 32 * cfgChannels c * formatBytes (field c 18 17)
    else 32 * busChannels (s.rd (Obj.AUD_BUS_CFG (x - 0x6200))) * formatBytes (s.rd (Obj.AUD_BUS_FORMAT (x - 0x6200)))
  let bytes := decide (sub = (if stream then 3 else 9))
  let address := decide (sub = 2 ∨ sub = 4 ∨ sub = 8 ∨ sub = 0x0A)
  if !stopped then (Status.audBusy, s)
  else if bytes && !decide (v % block = 0) then (Status.ldpRange, s)
  else if address && !bytes && !decide (v % 64 = 0) then (Status.ldpRange, s)
  else s.plainWrite addr v

/-- A gain: −1,920 to +384, or 0x8000 to mute (R511, R515). -/
def State.writeGain (s : State) (addr v : Nat) : Nat × State :=
  if v ≠ 0x8000 ∧ (toSigned 16 v < -1920 ∨ 384 < toSigned 16 v) then (Status.ldpRange, s) else s.plainWrite addr v

/-- A doorbell: PERIOD from 1 when it is enabled (R527). -/
def State.writeAudDoorbell (s : State) (addr v : Nat) : Nat × State :=
  if bit v 15 ∧ field v 23 16 = 0 then (Status.ldpRange, s) else s.plainWrite addr v

/-- CHIME_TABLE (R521). -/
def State.writeChimes (s : State) (v : Nat) : Nat × State :=
  if (unpackItems 32 32 v).any chimeBad then (Status.audConfigInvalid, s) else s.plainWrite Obj.CHIME_TABLE v

/-- Streams and capture of an instance stop at the next block boundary; a removal gives them back (R525). -/
def State.stopInstanceAudio (s : State) (i : Nat) (remove : Bool) : State :=
  let s := s.each (List.range 60) (fun s u =>
    if s.rd (Obj.AUD_STREAM_OWNER u) ≠ i then s
    else
      let s := (s.wr (Obj.AUD_STREAM_CFG u) (setField (s.rd (Obj.AUD_STREAM_CFG u)) 2 0 0)).setStream u { s.stream u with stopping := true }
      if remove then s.wr (Obj.AUD_STREAM_OWNER u) 0xC0 else s)
  let s := s.each (List.range 16) (fun s b =>
    if s.rd (Obj.AUD_BUS_READER b) ≠ i then s
    else
      let s := s.wrBit (Obj.AUD_BUS_DEST b) 8 false
      if remove then s.wr (Obj.AUD_BUS_READER b) 0xFF else s)
  s.wr Obj.AUD_BRIDGES_FREE (16 - s.bridgesNeeded)

/-- Does any stream, bus or generator run (R526)? -/
def State.foleyRuns (s : State) : Bool :=
  s.foley.streams.any (fun e => e.2.running) || s.foley.buses.any (fun e => e.2.running)
    || s.foley.gens.any (fun e => e.2.now.isSome || e.2.next.isSome)

end Sys2Proof.Machine
end

