-- ==== Sys2Proof/Machine/Pixels.lean ====
section
/-! DEFINITION. The Matte datapath (R149 to R169, R173, R174): source formats, scaling, keying and blending, the colour pipeline, and the pixel of an
output. A frame's pixels are no field of the state: they follow from what the composition reads (log entry 80). -/
namespace Sys2Proof.Machine
open Sys2Proof

/-! ## Working values (R150) -/

/-- Three components. -/
structure Rgb where
  c0 : Nat := 0
  c1 : Nat := 0
  c2 : Nat := 0
  deriving DecidableEq, Repr

/-- A source pixel: its components, 16-bit working values, and its 12-bit alpha. -/
structure Sample where
  colour : Rgb := {}
  alpha : Nat := 4095
  deriving DecidableEq, Repr

/-- Every component changed. -/
def Rgb.map (f : Nat → Nat) (p : Rgb) : Rgb := ⟨f p.c0, f p.c1, f p.c2⟩

/-- Two pixels' components combined. -/
def Rgb.zip (f : Nat → Nat → Nat) (p q : Rgb) : Rgb := ⟨f p.c0 q.c0, f p.c1 q.c1, f p.c2 q.c2⟩

/-- 8-bit colour. -/
def widen8 (v : Nat) : Nat := v * 257
/-- 10-bit colour. -/
def widen10 (v : Nat) : Nat := (v <<< 6) ||| (v >>> 4)
/-- 8-bit alpha. -/
def alpha8 (a : Nat) : Nat := (a <<< 4) ||| (a >>> 4)

/-- A binary16 value clamped to 0.0 to 1.0, times a scale, rounded to nearest; NaN gives 0 (R150). -/
def half (v scale : Nat) : Nat :=
  let e := field v 14 10
  let m := field v 9 0
  if e = 31 ∧ m ≠ 0 then 0
  else if bit v 15 then 0
  else if 15 ≤ e then scale
  else
    let num := (if e = 0 then 2 * m else (1024 + m) * 2 ^ e) * scale
    (2 * num + 2 ^ 25) / 2 ^ 26

/-- A palette entry (R150). -/
def paletteSample (v : Nat) : Sample :=
  ⟨⟨widen8 (field v 7 0), widen8 (field v 15 8), widen8 (field v 23 16)⟩, alpha8 (field v 31 24)⟩

/-- A pixel of an RGB format or INDEX8, from its bytes (R149, R150). -/
def rgbSample (format v palette : Nat) : Sample :=
  match format with
  | 0x01 => ⟨⟨widen8 (byteAt v 0), widen8 (byteAt v 1), widen8 (byteAt v 2)⟩, 4095⟩
  | 0x02 => ⟨⟨widen8 (byteAt v 0), widen8 (byteAt v 1), widen8 (byteAt v 2)⟩, alpha8 (byteAt v 3)⟩
  | 0x03 => ⟨⟨widen8 (byteAt v 2), widen8 (byteAt v 1), widen8 (byteAt v 0)⟩, alpha8 (byteAt v 3)⟩
  | 0x04 => ⟨⟨widen10 (field v 9 0), widen10 (field v 19 10), widen10 (field v 29 20)⟩, 4095⟩
  | 0x05 => ⟨⟨widen10 (field v 9 0), widen10 (field v 19 10), widen10 (field v 29 20)⟩, field v 31 30 * 1365⟩
  | 0x06 => ⟨⟨field v 15 0, field v 31 16, field v 47 32⟩, 4095⟩
  | 0x07 => ⟨⟨field v 15 0, field v 31 16, field v 47 32⟩, field v 63 48 / 16⟩
  | 0x08 => ⟨⟨half (field v 15 0) 65535, half (field v 31 16) 65535, half (field v 47 32) 65535⟩, half (field v 63 48) 4095⟩
  | _ => paletteSample (bytesAt palette (4 * byteAt v 0) 4)

/-! ## Scaling (R153 to R155, R157) -/

/-- The step of an axis, in 16.16. -/
def scaleStep (src dst : Nat) : Nat := src * 65536 / dst

/-- The centre tap and the phase of an output pixel (R153). -/
def scaleAt (step i : Nat) : Int × Nat :=
  let twice : Int := Int.ofNat ((2 * i + 1) * step) - 65536
  (twice.fdiv 131072, (twice.fmod 131072).toNat * 64 / 131072)

/-- A tap that stays on the crop. -/
def tapAt (n : Nat) (i : Int) : Nat := (clampInt 0 (Int.ofNat n - 1) i).toNat

/-- A component at a scaled position: `get` reads a component of the crop of w × h. NEAREST takes the centre tap alone, as any filter of two taps does at
phase 0. -/
def scaled (filter w h sx sy : Nat) (px py : Int × Nat) (get : Nat → Nat → Nat) : Nat :=
  let centre := get (tapAt w px.1) (tapAt h py.1)
  if filter = 3 ∨ (filter = 2 ∧ px.2 = 0 ∧ py.2 = 0) then centre
  else
    let rows := if 4096 < w then [-1, 0, 1] else ([-2, -1, 0, 1, 2, 3] : List Int)
    let taps := rows.flatMap (fun (j : Int) => ([-3, -2, -1, 0, 1, 2, 3, 4] : List Int).map (fun (i : Int) => get (tapAt w (px.1 + i)) (tapAt h (py.1 + j))))
    Config.filtered filter sx sy px.2 py.2 taps

/-! ## Sources (R125, R149, R151, R158) -/

/-- The Y, Cb or Cr code of a plane as a working value: 8 bits, or 10 bits in [15:6] of a U16. -/
def planeCode (ten : Bool) (v : Nat) : Nat := if ten then widen10 (v / 64) else widen8 v

/-- Where the bytes of a pixel of a layer's source lie: the palette and the bytes of a pixel at a column and a row of the crop, by format. -/
structure PixelSource where
  format : Nat
  palette : Nat
  /-- Bytes of the first plane from an offset of the source, so many. -/
  read : Nat → Nat → Nat
  stride : Nat
  first : Nat
  chroma : Nat

/-- A bit stream's pixel of 30 bits (R101: RAW30). -/
def raw30 (read : Nat → Nat → Nat) (line x : Nat) : Nat := field (read (line + 30 * x / 8) 5) (30 * x % 8 + 29) (30 * x % 8)

/-- A chroma code of a layer's source at a luma position, upsampled with the layer's filter (R151): `second` selects Cr. -/
def PixelSource.chromaAt (p : PixelSource) (d : BitVec 512) (second : Bool) (x y : Nat) : Nat :=
  let f := p.format
  let ten := decide (f = 0x11) || decide (f = 0x13)
  let tall := decide (f = 0x12) || decide (f = 0x13) || decide (f = 0x14)
  let size := if ten then 2 else 1
  let w := lySrcW d / 2
  let h := if tall then lySrcH d else lySrcH d / 2
  let get := fun (i j : Nat) =>
    if f = 0x14 then widen8 (byteAt (p.read (p.first + (lySrcY d + j) * p.stride + 2 * (lySrcX d + 2 * i)) 4) (if second then 3 else 1))
    else
      let row := (if tall then lySrcY d else lySrcY d / 2) + j
      planeCode ten (p.read (p.chroma + row * p.stride + (2 * (lySrcX d / 2 + i) + ofBool second) * size) size)
  let half_ := fun (i : Nat) => if dbit d 89 then scaleAt 32768 i else (Int.ofNat (i / 2), i % 2 * 32)
  scaled (lyFilter d) w h 32768 (if tall then 65536 else 32768) (half_ x) (if tall then (Int.ofNat y, 0) else half_ y) get

/-- A source pixel at a column and a row of the crop. A YUV pixel's components are Y, Cb and Cr. -/
def PixelSource.sample (p : PixelSource) (d : BitVec 512) (x y : Nat) : Sample :=
  let f := p.format
  let line := p.first + (lySrcY d + y) * p.stride
  let col := lySrcX d + x
  if isYuv f then
    let ten := decide (f = 0x11) || decide (f = 0x13)
    let luma := if f = 0x14 then widen8 (p.read (line + 2 * col) 1) else planeCode ten (p.read (line + col * (if ten then 2 else 1)) (if ten then 2 else 1))
    ⟨⟨luma, p.chromaAt d false x y, p.chromaAt d true x y⟩, 4095⟩
  else if f = 0x40 then
    let v := raw30 p.read line col
    ⟨⟨widen10 (field v 9 0), widen10 (field v 19 10), widen10 (field v 29 20)⟩, 4095⟩
  else
    let n := bitsPerPixel f / 8
    rgbSample f (p.read (line + col * n) n) p.palette

/-- The bytes of the Reel from an offset of a run of slices. -/
def State.reelBytes (s : State) (slice o : Nat) : Nat → Nat
  | 0 => 0
  | n + 1 => s.byte (reelAddr slice o) + 256 * s.reelBytes slice (o + 1) n

/-- The source of a layer at a position: its surface, or a substitute image (R124, R125); 0x40 stands for RAW30. -/
def State.pixelSource (s : State) (k z : Nat) (d : BitVec 512) : PixelSource :=
  if lySource d = 3 then
    let e := s.subst (lySubst d)
    let read := fun (o n : Nat) => s.reelBytes (field e 59 48) o n
    let w := field e 15 0
    match field e 33 32 with
    | 0 => ⟨0x01, 0, read, roundUp (3 * w) 64, 0, 0⟩
    | 1 => ⟨0x40, 0, read, roundUp (divUp (30 * w) 8) 64, 0, 0⟩
    | 2 => ⟨0x02, 0, read, roundUp (4 * w) 64, 0, 0⟩
    | _ => ⟨0x20, read 0 1024, read, roundUp w 64, 1024, 0⟩
  else ⟨lyFormat d, s.colour (Obj.LAYER_PALETTE (16 * k + z)), fun o n => s.surfBytes (lySurface d) o n, lyStride d, lyOffset d, lyUv d⟩

/-! ## The layer's colour (R151, R160, R162, R163) -/

/-- A table of 4,096 entries held in two objects, looked up with interpolation (R162). -/
def tableLookup (lo hi c : Nat) : Nat :=
  let t := fun (i : Nat) => if i < 2048 then bytesAt lo (2 * i) 2 else bytesAt hi (2 * (i - 2048)) 2
  let i := c / 16
  let a := t i
  let b := t (Nat.min 4095 (i + 1))
  (Int.ofNat a + ((Int.ofNat b - Int.ofNat a) * Int.ofNat (c % 16) + 8).fdiv 16).toNat

/-- Degamma of a component (R162). -/
def State.degamma (s : State) (n mode c : Nat) : Nat :=
  match mode with
  | 0 => c
  | 1 => tableLookup (s.colour (Obj.LAYER_DEGAMMA_LO n)) (s.colour (Obj.LAYER_DEGAMMA_HI n)) c
  | 2 => Nat.min 65535 (Config.colourCurve 0 c)
  | _ => Nat.min 65535 (Config.colourCurve 1 c)

/-- The layer matrix: rounded to nearest and clamped (R163). -/
def matrixApply (m : Nat) (p : Rgb) : Rgb :=
  let at_ := fun (i : Nat) => toSigned 32 (bytesAt m (4 * i) 4)
  let row := fun (i : Nat) =>
    let v := at_ (3 * i) * Int.ofNat p.c0 + at_ (3 * i + 1) * Int.ofNat p.c1 + at_ (3 * i + 2) * Int.ofNat p.c2
    (clampInt 0 65535 ((v + 32768).fdiv 65536 + at_ (9 + i))).toNat
  ⟨row 0, row 1, row 2⟩

/-- Pixel alpha removed before degamma, and applied again after the matrix (R160). -/
def unmultiply (a c : Nat) : Nat := if a = 0 then 0 else Nat.min 65535 ((c * 4095 + a / 2) / a)
/-- Applied again. -/
def multiply (a c : Nat) : Nat := (c * a + 2047) / 4095

/-- Does a layer's alpha come off before degamma (R160)? -/
def unmultiplies (d : BitVec 512) : Bool := decide (lyAlpha d = 2) && (!decide (lyDegamma d = 0) || lyMatrix d)

/-- A layer's pixel after conversion, degamma and matrix. -/
def State.layerColour (s : State) (k z : Nat) (d : BitVec 512) (format alpha : Nat) (p : Rgb) : Rgb :=
  let p := if isYuv format then
      (let y := fun (i : Nat) => Nat.min 65535 (Config.yuvToRgb (lyYuv d) (lyFull d) i p.c0 p.c1 p.c2)
      ⟨y 0, y 1, y 2⟩ : Rgb)
    else p
  let p := if unmultiplies d then p.map (unmultiply alpha) else p
  let p := p.map (s.degamma (16 * k + z) (lyDegamma d))
  let p := if lyMatrix d then matrixApply (s.colour (Obj.LAYER_MATRIX (16 * k + z))) p else p
  if unmultiplies d then p.map (multiply alpha) else p

/-! ## Keying and blending (R158, R159) -/

/-- The product of two 12-bit values. -/
def mul12 (a b : Nat) : Nat := (a * b + 2047) / 4095

/-- The distance of a pixel's codes outside a range, on the worst component. -/
def keyDistance (c lo hi : Rgb) : Nat :=
  maxNat [lo.c0 - c.c0, c.c0 - hi.c0, lo.c1 - c.c1, c.c1 - hi.c1, lo.c2 - c.c2, c.c2 - hi.c2]

/-- keyval of R158. -/
def keyval (c lo hi : Rgb) (soft : Nat) : Nat :=
  let d := keyDistance c lo hi
  if soft = 0 then (if d = 0 then 0 else 4095) else (4095 * 2 * Nat.min d soft + soft) / (2 * soft)

/-- The key of a layer over what lies below it. -/
def layerKey (d : BitVec 512) (codes below : Rgb) : Nat :=
  let lo : Rgb := ⟨lyKeyMin d 0, lyKeyMin d 1, lyKeyMin d 2⟩
  let hi : Rgb := ⟨lyKeyMax d 0, lyKeyMax d 1, lyKeyMax d 2⟩
  let k := match lyKey d with
    | 1 => keyval codes lo hi (lySoft d)
    | 2 => 4095 - keyval (below.map (fun c => c / 64)) lo hi (lySoft d)
    | _ => 4095
  if lyInvert d ∧ lyKey d ≠ 0 then 4095 - k else k

/-- A layer's pixel: colour, alpha, codes, and the ALPHA_MODE it has. A SOLID layer, and a substitute that cannot be used, is straight SOLID_COLOUR (R158,
R174). -/
def State.layerPixel (s : State) (k z : Nat) (d : BitVec 512) (x y : Nat) : Rgb × Nat × Rgb × Nat :=
  let solid := decide (lySource d = 2) || (decide (lySource d = 3) && !substValid (s.subst (lySubst d)))
  if solid then
    let c : Rgb := ⟨widen10 (lySolid d 0), widen10 (lySolid d 1), widen10 (lySolid d 2)⟩
    let a := alpha8 (lySolidAlpha d)
    (s.layerColour k z d 0x01 a c, a, c.map (fun v => v / 64), 1)
  else
    let p := s.pixelSource k z d
    let sx := scaleStep (lySrcW d) (lyDstW d)
    let sy := scaleStep (lySrcH d) (lyDstH d)
    let get := fun (f : Sample → Nat) => Nat.min 65535 (scaled (lyFilter d) (lySrcW d) (lySrcH d) sx sy (scaleAt sx x) (scaleAt sy y) (fun i j => f (p.sample d i j)))
    let c : Rgb := ⟨get (fun q => q.colour.c0), get (fun q => q.colour.c1), get (fun q => q.colour.c2)⟩
    let a := Nat.min 4095 (get (fun q => q.alpha))
    (s.layerColour k z d p.format a c, a, c.map (fun v => v / 64), lyAlpha d)

/-- Does a layer cover a pixel of its output (R157)? -/
def layerCovers (d : BitVec 512) (x y : Nat) : Bool :=
  decide (lyDstX d ≤ Int.ofNat x) && decide (Int.ofNat x < lyDstX d + Int.ofNat (lyDstW d))
    && decide (lyDstY d ≤ Int.ofNat y) && decide (Int.ofNat y < lyDstY d + Int.ofNat (lyDstH d))

/-- One layer blended over what lies below it (R158); and its effective alpha. -/
def State.blend (s : State) (k z : Nat) (d : BitVec 512) (x y : Nat) (dst : Rgb) : Rgb × Nat :=
  if lySource d = 0 ∨ !layerCovers d x y then (dst, 0)
  else
    let q := s.layerPixel k z d (Int.ofNat x - lyDstX d).toNat (Int.ofNat y - lyDstY d).toNat
    let pa := if q.2.2.2 = 0 then 4095 else q.2.1
    let f := mul12 (alpha8 (lyPlaneAlpha d)) (layerKey d q.2.2.1 dst)
    let a := mul12 f pa
    if q.2.2.2 = 2 then (Rgb.zip (fun c b => Nat.min 65535 ((f * c + (4095 - a) * b + 2047) / 4095)) q.1 dst, a)
    else (Rgb.zip (fun c b => (a * c + (4095 - a) * b + 2047) / 4095) q.1 dst, a)

/-! ## The output's pipeline (R161, R164, R165, R167 to R169) -/

/-- A node of the 3D LUT in use, component by component (R165, R166). -/
def State.lutNode (s : State) (k r g b i : Nat) : Nat :=
  let n := r + 33 * g + 1089 * b
  field (bytesAt (s.lutBlock k (s.rd (Obj.OUT_LUT3D_ACTIVE k)) (n / 512)) (8 * (n % 512)) 8) (16 * i + 13) (16 * i)

/-- The 3D LUT: exact at its nodes, interpolated between them, widened to 16 bits (R165). -/
def State.lut3d (s : State) (k : Nat) (p : Rgb) : Rgb :=
  let cell := fun (c : Nat) => (c / 2048, c % 2048)
  let at_ := fun (i : Nat) =>
    let node := fun (dr dg db : Nat) => s.lutNode k ((cell p.c0).1 + dr) ((cell p.c1).1 + dg) ((cell p.c2).1 + db) i
    let v := if (cell p.c0).2 = 0 ∧ (cell p.c1).2 = 0 ∧ (cell p.c2).2 = 0 then node 0 0 0
      else Config.tetrahedral [node 0 0 0, node 1 0 0, node 0 1 0, node 1 1 0, node 0 0 1, node 1 0 1, node 0 1 1, node 1 1 1]
        (cell p.c0).2 (cell p.c1).2 (cell p.c2).2 % 16384
    v * 4 ||| v / 4096
  ⟨at_ 0, at_ 1, at_ 2⟩

/-- Regamma of a component (R167). -/
def State.regamma (s : State) (k c : Nat) : Nat :=
  match s.colour (Obj.OUT_REGAMMA_MODE k) with
  | 0 => c
  | 1 => tableLookup (s.colour (Obj.OUT_REGAMMA_LO k)) (s.colour (Obj.OUT_REGAMMA_HI k)) c
  | 2 => Nat.min 65535 (Config.colourCurve 2 c)
  | _ => Nat.min 65535 (Config.colourCurve 3 c)

/-- The threshold matrix of R168. -/
def ditherAt (x y : Nat) : Nat := ([0, 8, 2, 10, 12, 4, 14, 6, 3, 11, 1, 9, 15, 7, 13, 5] : List Nat).getD (4 * (y % 4) + x % 4) 0

/-- A 16-bit value brought to a depth under a dither mode (R168). -/
def toDepth (mode depth x y frame v : Nat) : Nat :=
  let j := 16 - depth
  let top := 2 ^ depth - 1
  let t := match mode with
    | 1 => some (ditherAt x y)
    | 2 => some (ditherAt (x + 2 * (frame % 2)) (y + 2 * (frame / 2 % 2)))
    | _ => none
  match t with
  | none => Nat.min top ((v + 2 ^ (j - 1)) / 2 ^ j)
  | some t => Nat.min top ((v + t * 2 ^ j / 16) / 2 ^ j)

/-- A pixel of an output as an engine composes it from the layers given, at a depth, in a frame (R158, R161, R164, R168, R169). -/
def State.outPixel (s : State) (k depth frame : Nat) (layers : List (Nat × BitVec 512 × Nat)) (x y : Nat) : Rgb :=
  let bg := s.colour (Obj.OUT_BACKGROUND k)
  let start : Rgb := ⟨widen10 (field bg 9 0), widen10 (field bg 19 10), widen10 (field bg 29 20)⟩
  let normal := (layers.filter (fun l => Nat.blt l.1 15)).foldl (fun (p : Rgb) (l : Nat × BitVec 512 × Nat) => (s.blend k l.1 l.2.1 x y p).1) start
  let p := if s.colour (Obj.OUT_LUT3D_EN k) = 1 then s.lut3d k normal else normal
  let crit := layers.find? (fun l => decide (l.1 = 15))
  let above : Rgb → Rgb × Nat := fun (p : Rgb) => match crit with | some l => s.blend k 15 l.2.1 x y p | none => (p, 0)
  let through : Bool := match crit with | some l => lyThroughLut l.2.1 | none => false
  let q : Rgb × Nat := if through then (let r := above p; (r.1.map (s.regamma k), r.2)) else above (p.map (s.regamma k))
  let mode := if q.2 ≠ 0 ∨ (rectsOf (s.out k).critRectsNow).any (fun r => r.covers x y) then 0 else s.colour (Obj.OUT_DITHER k)
  q.1.map (toDepth mode depth x y frame)

/-- The pixels of a region as an engine composes them, row by row. -/
def State.regionPixels (s : State) (k depth frame : Nat) (layers : List (Nat × BitVec 512 × Nat)) (r : Rect) : List (Nat × Nat × Nat) :=
  (List.range r.h).flatMap (fun j => (List.range r.w).map (fun i =>
    let p := s.outPixel k depth frame layers (r.x + i) (r.y + j)
    (p.c0, p.c1, p.c2)))

end Sys2Proof.Machine
end

