-- ==== Sys2Proof/Machine/Continuity.lean ====
section
/-! DEFINITION. Continuity units (R421 to R440): check values, alive counters, results and failure counting, actions, and guarded mailboxes. -/
namespace Sys2Proof.Machine
open Sys2Proof

/-- A unit. -/
def State.cu (s : State) (u : Nat) : CuUnit := Tab.get {} s.cus u
/-- The state with a unit set. -/
def State.setCu (s : State) (u : Nat) (x : CuUnit) : State := { s with cus := Tab.set s.cus u x }
/-- Is a unit Bittern-owned? -/
def State.cuBittern (s : State) (u : Nat) : Bool := s.bitternRes (0x40 + u)

/-! ## Check values (R425) -/

/-- The w low bits of a value in reverse order. -/
def reflectBits : Nat → Nat → Nat
  | 0, _ => 0
  | w + 1, v => v % 2 * 2 ^ w + reflectBits w (v / 2)

/-- One shift of a register of w bits, most significant bit first. -/
def crcStepMsb (w poly c : Nat) : Nat := if c.testBit (w - 1) then (2 * c % 2 ^ w) ^^^ poly else 2 * c % 2 ^ w
/-- One shift, least significant bit first; `poly` reflected. -/
def crcStepLsb (poly c : Nat) : Nat := if c % 2 = 1 then (c / 2) ^^^ poly else c / 2

/-- A step n times over. -/
def repeatStep (f : Nat → Nat) : Nat → Nat → Nat
  | 0, c => c
  | n + 1, c => repeatStep f n (f c)

/-- The check value of a string of bytes under a polynomial of R425. -/
def checkValue (poly : Nat) (bytes : List Nat) : Nat :=
  let msb := fun (w p init : Nat) => bytes.foldl (fun (c b : Nat) => repeatStep (crcStepMsb w p) 8 (c ^^^ (b * 2 ^ (w - 8)))) init
  let lsb := fun (p : Nat) => bytes.foldl (fun (c b : Nat) => repeatStep (crcStepLsb (reflectBits 32 p)) 8 (c ^^^ b)) 0xFFFFFFFF ^^^ 0xFFFFFFFF
  match poly with
  | 0 => msb 8 0x1D 0xFF ^^^ 0xFF
  | 1 => msb 16 0x1021 0xFFFF
  | 2 => lsb 0x04C11DB7
  | 3 => lsb 0x1EDC6F41
  | _ => msb 64 0x42F0E1EBA9EA3693 0

/-- Width of a polynomial's value in bits. -/
def checkWidth (poly : Nat) : Nat := match poly with | 0 => 8 | 1 => 16 | 2 => 32 | 3 => 32 | _ => 64

/-- POLY of a unit. -/
def State.cuPoly (s : State) (u : Nat) : Nat := field (s.rd (Obj.CU_CONFIG u)) 4 2
/-- ALIVE_EN. -/
def State.cuAlive (s : State) (u : Nat) : Bool := bit (s.rd (Obj.CU_CONFIG u)) 5
/-- POSITION. -/
def State.cuPosition (s : State) (u : Nat) : Nat := field (s.rd (Obj.CU_CONFIG u)) 15 12
/-- MAILBOX. -/
def State.cuMailbox (s : State) (u : Nat) : Nat := field (s.rd (Obj.CU_CONFIG u)) 19 16
/-- The region of a STREAM unit. -/
def State.cuRegion (s : State) (u : Nat) : Rect := rectOf (s.rd (Obj.CU_REGION u))

/-- The target depth of an output's pixels (R168). -/
def State.targetDepth (s : State) (k : Nat) : Nat :=
  let link := timDepth (s.timing k)
  let fmt := match (s.out (s.governor k)).intent with | some i => i.storeFormat | none => 0
  let store := if fmt = 0 then 8 else if fmt = 1 then 10 else if 10 ≤ link then 10 else 8
  Nat.min link store

/-- The bytes of a pixel at a depth (R422). -/
def snoopBytes (depth : Nat) (p : Nat × Nat × Nat) : List Nat :=
  if depth ≤ 8 then [p.1 % 256, p.2.1 % 256, p.2.2 % 256]
  else unpackItems 1 4 (p.1 % 1024 + p.2.1 % 1024 * 2 ^ 10 + p.2.2 % 1024 * 2 ^ 20)

/-! ## Alive values (R426 to R428) -/

/-- The alive value of four pixels' R and G components of a depth: absent where a G is not the complement (R426). -/
def aliveOf (depth : Nat) (px : List (Nat × Nat)) : Option Nat :=
  let two := fun (v : Nat) => v / 2 ^ (depth - 2) % 4
  if px.length = 4 ∧ px.all (fun p => decide (two p.2 = 3 - two p.1)) then some (px.foldl (fun (a : Nat) p => 4 * a + two p.1) 0) else none

/-- How an item's alive value reads: not checked, invalid, or a value. -/
inductive Alive where
  | unchecked
  | invalid
  | value (a : Nat)
  deriving DecidableEq, Repr

/-- What an item shows: the computed value, the reference (absent where its ECC fails), its alive value, and whether its form is bad. -/
structure Judged where
  value : Nat
  reference : Option Nat
  alive : Alive
  deriving DecidableEq, Repr

/-- Results of R429: those that apply, in the table's order. -/
structure Findings where
  frozen : Bool := false
  refFault : Bool := false
  mismatch : Bool := false
  aliveBad : Bool := false
  skip : Bool := false
  deriving DecidableEq, Repr

/-- Does none apply? -/
def Findings.pass (f : Findings) : Bool := !(f.frozen || f.refFault || f.mismatch || f.aliveBad || f.skip)

/-- CU_LAST_RESULT of findings (R429, R441). -/
def Findings.result (f : Findings) : Nat :=
  if f.frozen then 1 else if f.refFault then 2 else if f.mismatch then 3 else if f.aliveBad then 4 else if f.skip then 5 else 0

/-- The findings of an item, and the repeat count after it (R428, R429). -/
def State.findings (s : State) (u : Nat) (j : Judged) : Findings × Nat :=
  let x := s.cu u
  let f : Findings := { refFault := j.reference.isNone, mismatch := (match j.reference with | some r => !decide (r = j.value) | none => false),
                        aliveBad := decide (j.alive = .invalid) }
  match j.alive, x.pred with
  | .value a, some p =>
    if a = (p + 1) % 256 then (f, 0)
    else if a = p then ({ f with frozen := Nat.blt (s.rd (Obj.CU_HOLD_FRAMES u)) (x.repeats + 1) }, x.repeats + 1)
    else ({ f with skip := true }, x.repeats)
  | _, _ => (f, x.repeats)

/-- An item as an armed fault makes it (R440). -/
def State.faulted (s : State) (u : Nat) (j : Judged) : Judged :=
  let x := s.cu u
  match x.inject, x.pred with
  | 1, _ => { j with value := (j.value ^^^ 1) }
  | 2, _ => { j with reference := none }
  | 3, some p => (match j.alive with | .value _ => { j with alive := .value p } | _ => j)
  | 4, some p => (match j.alive with | .value _ => { j with alive := .value ((p + 2) % 256) } | _ => j)
  | _, _ => j

/-! ## Actions (R431, R432) -/

/-- CU_STATE values (R438). -/
def cuSync : Nat := 1
/-- ACTIVE. -/
def cuActive : Nat := 2
/-- TRIPPED. -/
def cuTripped : Nat := 3

/-- The state with a unit's CU_STATE and CU_STATUS.TRIPPED. -/
def State.setCuState (s : State) (u v : Nat) : State := (s.wr (Obj.CU_STATE u) v).wrBit (Obj.CU_STATUS u) 5 (decide (v = cuTripped))

/-- SUBSTITUTE (R431): the override waits for the output's next latch; another unit's override of the output gives way (log entry 50). -/
def State.substitute (s : State) (u : Nat) : State :=
  let g := s.governor (s.cuOutput u)
  let s := match (s.out g).critOverride with
    | some (o, _) => s.wrBit (Obj.CU_STATUS o) 6 false
    | none => s
  (s.modOut g (fun x => { x with critOverride := some (u, s.rd (Obj.CU_SUBST u)), overrideAsked := true })).wrBit (Obj.CU_STATUS u) 6 true

/-- The actions run once and the unit enters TRIPPED (R431). -/
def State.trip (s : State) (u : Nat) (injected : Bool) : State :=
  let actions := field (s.rd (Obj.CU_CONFIG u)) 26 24
  let s := s.setCuState u cuTripped
  let s := (s.logInjected Ev.actionRun noOwner injected [d8 u, d8 actions]).emit (.irq (0x40 + u) (s.cuBittern u))
  let s := if bit actions 0 then s.substitute u else s
  let s := if bit actions 1 then
      (if s.bitternDown then s.logEvent Ev.chimeWithheld noOwner [d8 u, d8 (s.rd (Obj.CU_CHIME u))] else (s.playChime (s.rd (Obj.CU_CHIME u)) 1).2)
    else s
  if bit actions 2 then (s.ring (field (s.rd (Obj.CU_DOORBELL u)) 11 8) (2 ^ field (s.rd (Obj.CU_DOORBELL u)) 4 0)).2 else s

/-- Overrides that were to end have ended where the latest composition of an output does not hold them (R432). -/
def State.settleRestores (s : State) (k : Nat) : State :=
  let g := s.governor k
  let last := match (s.out g).comps.getLast? with | some c => c.overridden | none => (match (s.out g).showing with | some c => c.overridden | none => none)
  s.each ((List.range 32).filter (fun u => (s.cu u).restoring && decide (s.governor (s.cuOutput u) = g) && !decide (last = some u))) (fun s u =>
    ((s.setCu u { s.cu u with restoring := false }).wrBit (Obj.CU_STATUS u) 6 false).logEvent Ev.substRestored noOwner [d8 u, d8 (s.cuOutput u)])

/-- A TRIPPED unit's override ends at the output's next latch, at once when none has latched (R432). -/
def State.endOverride (s : State) (u : Nat) : State :=
  let g := s.governor (s.cuOutput u)
  let s := if (s.out g).critOverride.map Prod.fst = some u then s.modOut g (fun x => { x with critOverride := none, overrideAsked := false }) else s
  (s.setCu u { s.cu u with restoring := true }).settleRestores g

/-! ## Judging (R429 to R433) -/

/-- The records and sticky bits of each finding; a TRIPPED unit writes none of the records (R429, R432). `place` is the frame counter or word number. -/
def State.findingRecords (s : State) (u : Nat) (f : Findings) (j : Judged) (repeats place : Nat) (injected silent : Bool) : State :=
  let st := Obj.CU_STATUS u
  let log := fun (s : State) (code : Nat) (ds : List Detail) => if silent then s else s.logInjected code noOwner injected ds
  let s := if f.frozen then log (s.wrBit st 3 true) Ev.frozen [d8 u, d32 repeats] else s
  let s := if f.refFault then log (s.wrBit st 1 true) Ev.referenceFault [d8 u, d32 place] else s
  let s := if f.mismatch then log (s.wrBit st 0 true) Ev.dataMismatch [d8 u, d32 place, d32 j.value] else s
  let s := if f.aliveBad then log (s.wrBit st 4 true) Ev.aliveInvalid [d8 u, d32 place] else s
  if f.skip then
    log (s.wrBit st 2 true) Ev.aliveSkip [d8 u, d8 ((s.cu u).pred.getD 0), d8 (match j.alive with | .value a => a | _ => 0)]
  else s

/-- An item is judged (R428 to R431, R440, R639): the findings and the state. -/
def State.judgeItem (s : State) (u : Nat) (j : Judged) (place : Nat) : Findings × State :=
  let genuine := s.findings u j
  let armed := (s.cu u).inject
  let meets := genuine.1.pass && !decide (armed = 0)
  let j := if meets then s.faulted u j else j
  let f := s.findings u j
  let injected := meets && (!f.1.pass || (decide (armed = 3) && decide (f.2 ≠ genuine.2)))
  let s := if meets then s.setCu u { s.cu u with inject := 0 } else s
  let s := if injected then s.wrBit (Obj.CU_STATUS u) 8 true else s
  let tripped := decide (s.rd (Obj.CU_STATE u) = cuTripped)
  let s := s.findingRecords u f.1 j f.2 place injected tripped
  let bad := f.1.refFault || f.1.mismatch || f.1.aliveBad
  let pred := if bad then none else (match j.alive with | .value a => some a | _ => (s.cu u).pred)
  let s := s.setCu u { s.cu u with pred := pred, repeats := f.2 }
  let s := (s.wr (Obj.CU_LAST_RESULT u) f.1.result).wr (Obj.CU_LAST_VALUE u) j.value
  let s := if f.1.pass then (s.wr (Obj.CU_FAIL_RUN u) 0).count (Obj.CU_PASS_COUNT u)
    else if f.1.frozen then s
    else ((s.wr (Obj.CU_FAIL_RUN u) (satAdd 8 (s.rd (Obj.CU_FAIL_RUN u)) 1)).count (Obj.CU_FAIL_COUNT u)).tallyCount 29 u noOwner
  let s := if tripped then s else s.setCuState u (if bad then cuSync else cuActive)
  let trips := !tripped && (f.1.frozen || (!f.1.pass && Nat.ble (s.rd (Obj.CU_FAIL_LIMIT u)) (s.rd (Obj.CU_FAIL_RUN u))))
  (f.1, if trips then s.trip u injected else s)

/-- An item without data (R423, R429, R433). -/
def State.noData (s : State) (u : Nat) (idle : Bool) : State :=
  (s.wr (Obj.CU_LAST_RESULT u) 6).setCu u { s.cu u with idle := (s.cu u).idle || idle }

/-- A unit whose output runs again enters SYNC (R433). -/
def State.cuResume (s : State) (u : Nat) : State :=
  let x := s.cu u
  if !x.idle then s
  else
    let s := s.setCu u { x with idle := false, pred := none, after := none }
    if s.rd (Obj.CU_STATE u) = cuTripped then s else s.setCuState u cuSync

/-- The reference that governs the frames of a composition (R424). -/
def State.cuReference (s : State) (u : Nat) (c : Composition) : Nat :=
  match c.refs.find? (fun r => decide (r.1 = u)) with
  | some r => r.2
  | none => s.rd (Obj.CU_REF u)

/-- A stored reference as it reads: corrected errors are counted (R430). -/
def State.readRef (s : State) (v : Nat) (ue corrected : Bool) : Option Nat × State :=
  if ue then (none, s) else (some v, if corrected then s.count Obj.CU_REF_CORRECTED else s)

/-- CU_STREAM_JUDGE (R422, R424, R426, R429, R432): the region's pixels at the target depth, row by row, as the stream has them; where none are given, as
the engine composes them from its sources as they stand (log entry 80). -/
def execCuStreamJudge (u : Fin 32) (pixels : Option (List (Nat × Nat × Nat))) (refUe corrected : Bool) (s : State) : Out :=
  let u := u.val
  let k := s.cuOutput u
  let g := s.governor k
  if !s.cuEnabled u ∨ s.cuSnoop u ≠ 0 ∨ 11 < k then .next s
  else if (s.out g).phase = .stopped then .next (s.noData u true)
  else
    let s := s.cuResume u
    if (s.cu u).after = some (s.out g).startedFrames then .next s
    else
      let s := (s.setCu u { s.cu u with after := none }).settleRestores k
      match (s.out g).showing with
      | none => .next (s.noData u false)
      | some c =>
        let above := decide (c.overridden = some u)
        let r := s.readRef (if above then s.rd (Obj.CU_SUBST_REF u) else s.cuReference u c) refUe corrected
        let s := r.2
        let depth := s.targetDepth k
        let region := s.cuRegion u
        let pixels := pixels.getD (s.regionPixels k depth (s.rd (Obj.OUT_FRAME_COUNT k)) c.layers region)
        let at_ := (field (s.rd (Obj.CU_ALIVE_POS u)) 31 16 - region.y) * region.w + (field (s.rd (Obj.CU_ALIVE_POS u)) 15 0 - region.x)
        let alive := if above || !s.cuAlive u then Alive.unchecked
          else match aliveOf depth (((pixels.drop at_).take 4).map (fun p => (p.1, p.2.1))) with
            | some a => .value a
            | none => .invalid
        let value := checkValue (s.cuPoly u) (pixels.flatMap (snoopBytes depth))
        .next (s.judgeItem u ⟨value, r.1, alive⟩ (s.rd (Obj.OUT_FRAME_COUNT k))).2

/-- Bytes of one crop row of a plane: offset of the row's first pixel, and count (R423). -/
def cropRows (d : BitVec 512) : List (Nat × Nat) :=
  let rows := fun (base stride x w y h : Nat) => (List.range h).map (fun i => (base + (y + i) * stride + x, w))
  match formatKind (lyFormat d) with
  | some (.plain b) =>
    let x := lySrcX d * b / 8
    rows (lyOffset d) (lyStride d) x (divUp ((lySrcX d + lySrcW d) * b) 8 - x) (lySrcY d) (lySrcH d)
  | some (.twoPlane l half) =>
    rows (lyOffset d) (lyStride d) (lySrcX d * l) (lySrcW d * l) (lySrcY d) (lySrcH d)
      ++ rows (lyUv d) (lyStride d) (lySrcX d * l) (lySrcW d * l) (if half then lySrcY d / 2 else lySrcY d) (if half then lySrcH d / 2 else lySrcH d)
  | _ => []

/-- The alive value in a LAYER source (R426): RGB24, RGBA32 and BGRA32 only; CU_ALIVE_POS counts in the surface's pixels (log entry 51). -/
def State.layerAlive (s : State) (u : Nat) (d : BitVec 512) : Alive :=
  if !s.cuAlive u then .unchecked
  else
    let f := lyFormat d
    let n := if f = 1 then 3 else 4
    if f ≠ 1 ∧ f ≠ 2 ∧ f ≠ 3 then .invalid
    else
      let x := field (s.rd (Obj.CU_ALIVE_POS u)) 15 0
      let y := field (s.rd (Obj.CU_ALIVE_POS u)) 31 16
      let px := (List.range 4).map (fun i =>
        let o := lyOffset d + y * lyStride d + (x + i) * n
        (s.surfByte (lySurface d) (o + (if f = 3 then 2 else 0)), s.surfByte (lySurface d) (o + 1)))
      match aliveOf 8 px with
      | some a => .value a
      | none => .invalid

/-- CU_LAYER_JUDGE (R423, R424, R426, R429): the fetch of a layer's crop is complete. -/
def execCuLayerJudge (u : Fin 32) (refUe corrected : Bool) (s : State) : Out :=
  let u := u.val
  let k := s.cuOutput u
  let g := s.governor k
  if !s.cuEnabled u ∨ s.cuSnoop u ≠ 1 ∨ 11 < k then .next s
  else if (s.out g).phase = .stopped then .next (s.noData u true)
  else
    let s := s.cuResume u
    match (s.out g).comps.getLast? with
    | none => .next s
    | some c =>
      if (match (s.cu u).after with | some o => Nat.blt c.id o | none => false) then .next s
      else
        let s := (s.setCu u { s.cu u with after := none }).settleRestores k
        match c.layers.find? (fun l => decide (l.1 = s.cuPosition u)) with
        | none => .next (s.noData u false)
        | some (_, d, _) =>
          if lySource d ≠ 1 then .next (s.noData u false)
          else
            let r := s.readRef (s.cuReference u c) refUe corrected
            let s := r.2
            let bytes := (cropRows d).flatMap (fun row => (List.range row.2).map (fun i => s.surfByte (lySurface d) (row.1 + i)))
            .next (s.judgeItem u ⟨checkValue (s.cuPoly u) bytes, r.1, s.layerAlive u d⟩ (s.rd (Obj.OUT_FRAME_COUNT k))).2

/-! ## Guarded mailboxes (R434 to R437) -/

/-- The enabled BUS unit that guards a mailbox. -/
def State.guardOf (s : State) (m : Nat) : Option Nat :=
  (List.range 32).find? (fun u => s.cuEnabled u && decide (s.cuSnoop u = 2) && decide (s.cuMailbox u = m))

/-- Trailer words of a message: two for CRC-64 (R434). -/
def trailerWords (poly : Nat) : Nat := if checkWidth poly = 64 then 2 else 1

/-- A staged message leaves the staging store and is discarded with a result. NO_ROOM has no number of the manual (R436; log entry 38). -/
def State.discardMessage (s : State) (u result : Nat) : State :=
  let x := s.cu u
  let n := x.staging.length
  ((s.setCu u { x with staging := [] }).wrBit (Obj.CU_STATUS u) 7 true).logEvent Ev.msgDiscarded noOwner
    [d8 u, d8 (s.cuMailbox u), d16 x.firstWord, d16 (wrapAdd 16 x.firstWord (n - 1)), d8 result]

/-- A message that passes or skips is appended whole, where the mailbox has room (R436). -/
def State.appendMessage (s : State) (u : Nat) : State :=
  let x := s.cu u
  let m := s.cuMailbox u
  let b := s.mailbox m
  if 16 < b.words.length + x.staging.length then s.discardMessage u (Config.caseCode Ev.msgDiscarded 0).val
  else (s.setCu u { x with staging := [], lastAppend := s.dtime }).setMailbox m { b with words := b.words ++ x.staging }

/-- A malformed message: ALIVE_INVALID, discarded (R435, R436). -/
def State.malformed (s : State) (u : Nat) : State :=
  let r := s.judgeItem u ⟨0, some 0, .invalid⟩ (s.cu u).firstWord
  r.2.discardMessage u r.1.result

/-- A whole message is judged (R427, R434 to R436). -/
def State.judgeMessage (s : State) (u : Nat) (stagingUe : Bool) : State :=
  let x := s.cu u
  let poly := s.cuPoly u
  let t := trailerWords poly
  let n := x.staging.length - t
  let header := x.staging.headD 0
  let body := x.staging.take n
  let check := packItems 4 (x.staging.drop n)
  if field header 31 24 ≠ 0 ∨ 2 ^ checkWidth poly ≤ check then s.malformed u
  else
    let value := checkValue poly (body.flatMap (fun w => unpackItems 1 4 w))
    let r := s.judgeItem u ⟨value, if stagingUe then none else some check, .value (field header 15 8)⟩ x.firstWord
    if r.1.pass || (r.1.skip && !r.1.frozen && !r.1.refFault && !r.1.mismatch && !r.1.aliveBad) then r.2.appendMessage u
    else r.2.discardMessage u r.1.result

/-- A word of a guarded mailbox goes into the staging store (R434, R435; log entry 37). -/
def State.stageWord (s : State) (u word : Nat) (stagingUe : Bool) : State :=
  let m := s.cuMailbox u
  let s := if (s.cu u).staging ≠ [] ∧ (s.cu u).lastWord + 1000000 < s.dtime then s.malformed u else s
  let b := s.mailbox m
  let s := (s.tallyCount 28 m noOwner).setMailbox m { b with pushed := wrapAdd 16 b.pushed 1 }
  let x := s.cu u
  let words := x.staging ++ [word]
  let first := if x.staging = [] then b.pushed else x.firstWord
  let s := s.setCu u { x with staging := words, firstWord := first, lastWord := s.dtime }
  let size := field (words.headD 0) 7 0 + 1 + trailerWords (s.cuPoly u)
  if 16 < size then s.malformed u
  else if words.length < size then s
  else s.judgeMessage u stagingUe

/-- PUSH (R409 to R412, R416, R434): a word is appended, replaces the newest, or goes to the unit that guards the mailbox. -/
def execMbPush (rq : Requester) (m : Fin 16) (word : BitVec 32) (stagingUe : Bool) (s : State) : Out :=
  .next (s.mbWrite rq m.val (s.mbSender m.val) (s.mbServed m.val) (fun s =>
    match s.guardOf m.val with
    | some u => s.stageWord u word.toNat stagingUe
    | none => s.pushWord m.val word.toNat))

/-- CU_WORD_GAP_TIMEOUT (R435): more than 1 ms has passed since the last word of a message that is not complete. -/
def execCuWordGapTimeout (u : Fin 32) (s : State) : Out :=
  if s.cuEnabled u.val ∧ s.cuSnoop u.val = 2 ∧ (s.cu u.val).staging ≠ [] then .next (s.malformed u.val) else .next s

/-- CU_MSG_TIMEOUT (R437): no message has been appended for the unit's time; nothing is appended. -/
def execCuMsgTimeout (u : Fin 32) (s : State) : Out :=
  let u := u.val
  let t := s.rd (Obj.CU_MSG_TIMEOUT u)
  if !s.cuEnabled u ∨ s.cuSnoop u ≠ 2 ∨ t = 0 then .next s
  else
    let tripped := decide (s.rd (Obj.CU_STATE u) = cuTripped)
    let s := (s.setCu u { s.cu u with lastAppend := s.dtime }).wrBit (Obj.CU_STATUS u) 3 true
    let s := s.wr (Obj.CU_LAST_RESULT u) 1
    if tripped then .next s else .next ((s.logEvent Ev.frozen noOwner [d8 u, d32 t]).trip u false)

/-! ## Configuration (R438 to R440) -/

/-- Is a mailbox's SENDER the owner world of a unit? -/
def State.cuSends (s : State) (u m : Nat) : Bool :=
  if s.cuBittern u then decide (s.mbSender m = .bittern) else !decide (s.mbSender m = .bittern) && !decide (s.mbSender m = .unused)

/-- Is a mailbox's RECEIVER the owner world of a unit? -/
def State.cuReceives (s : State) (u m : Nat) : Bool :=
  if s.cuBittern u then decide (s.mbReceiver m = .bittern) else !decide (s.mbReceiver m = .bittern) && !decide (s.mbReceiver m = .unused)

/-- Is a configuration refused at its enable (R422, R439)? -/
def State.cuConfigBad (s : State) (u : Nat) : Bool :=
  let c := s.rd (Obj.CU_CONFIG u)
  let snoop := s.cuSnoop u
  let region := s.cuRegion u
  let ax := field (s.rd (Obj.CU_ALIVE_POS u)) 15 0
  let ay := field (s.rd (Obj.CU_ALIVE_POS u)) 31 16
  let k := s.cuOutput u
  decide (snoop = 3) || Nat.blt 4 (s.cuPoly u)
    || (decide (snoop ≤ 1) && Nat.blt 11 k)
    || (decide (snoop = 0) && !(rectsOf (s.rd (Obj.CRIT_RECTS k))).any (fun r => r.contains region))
    || (decide (snoop = 0) && s.cuAlive u && !region.contains ⟨ax, ay, 4, 1⟩)
    || (!s.cuBittern u && ((decide (snoop = 1) && decide (s.cuPosition u = 15)) || bit c 24 || bit c 25))
    || (bit c 24 && !(decide (snoop = 0) || (decide (snoop = 1) && decide (s.cuPosition u = 15))))
    || (bit c 26 && !s.cuSends u (field (s.rd (Obj.CU_DOORBELL u)) 11 8))
    || (decide (snoop = 2) && (!s.cuReceives u (s.cuMailbox u) || (s.guardOf (s.cuMailbox u)).isSome))

/-- A unit turns on: SYNC, from the next frame start, latch or word (R438). -/
def State.cuStart (s : State) (u : Nat) : State :=
  let k := s.cuOutput u
  let after := match s.cuSnoop u with
    | 0 => some (s.out (s.governor k)).startedFrames
    | 1 => some s.order
    | _ => none
  let s := (s.wr (Obj.CU_CONTROL u) 1).setCu u { after := after, lastAppend := s.dtime, inject := (s.cu u).inject, restoring := (s.cu u).restoring }
  (s.wr (Obj.CU_FAIL_RUN u) 0).setCuState u cuSync

/-- RESTORE of a TRIPPED unit (R432). -/
def State.cuRestore (s : State) (u : Nat) : State :=
  if s.rd (Obj.CU_STATE u) ≠ cuTripped then s
  else
    let s := (s.setCuState u cuSync).wr (Obj.CU_FAIL_RUN u) 0
    (s.setCu u { s.cu u with pred := none }).endOverride u

/-- A unit turns off; a TRIPPED one ends its override (R438). -/
def State.cuStop (s : State) (u : Nat) : State :=
  let tripped := decide (s.rd (Obj.CU_STATE u) = cuTripped)
  let s := (s.wr (Obj.CU_CONTROL u) 0).setCuState u 0
  let s := s.setCu u { s.cu u with staging := [], pred := none, repeats := 0 }
  if tripped then s.endOverride u else s

/-- A write of CU_CONTROL (R432, R438, R439). -/
def State.writeCuControl (s : State) (u v : Nat) : Nat × State :=
  let on := s.cuEnabled u
  if bit v 0 then
    if on then (Status.ok, if bit v 1 then s.cuRestore u else s)
    else if s.cuConfigBad u then (Status.cuConfigInvalid, s)
    else (Status.ok, s.cuStart u)
  else (Status.ok, if on then s.cuStop u else s)

/-- CU_ENABLE (R439). -/
def execCuEnable (rq : Requester) (u : Fin 32) (v : BitVec 32) (s : State) : Out :=
  .next (s.ownRequest rq (Obj.CU_CONTROL u.val) v.toNat (fun s => s.writeCuControl u.val v.toNat))

/-- CU_DISABLE (R438). -/
def execCuDisable (rq : Requester) (u : Fin 32) (v : BitVec 32) (s : State) : Out :=
  .next (s.ownRequest rq (Obj.CU_CONTROL u.val) v.toNat (fun s => s.writeCuControl u.val v.toNat))

/-- CU_RESTORE (R432). -/
def execCuRestore (rq : Requester) (u : Fin 32) (v : BitVec 32) (s : State) : Out :=
  .next (s.ownRequest rq (Obj.CU_CONTROL u.val) v.toNat (fun s => s.writeCuControl u.val v.toNat))

/-- CU_INJECT after step 7 of R536 (R440, R636). -/
def State.writeCuInject (s : State) (u v : Nat) : Nat × State :=
  if s.rd Obj.INJ_ENABLE = 0 then (Status.accessDenied, s) else (Status.ok, s.setCu u { s.cu u with inject := v })

/-- CU_INJECT (R440, R636). -/
def execCuInject (rq : Requester) (u : Fin 32) (v : Fin 256) (s : State) : Out :=
  .next (s.ownRequest rq (Obj.CU_INJECT u.val) v.val (fun s => s.writeCuInject u.val v.val))

end Sys2Proof.Machine
end

