-- ==== Sys2Proof/Machine/Touch.lean ====
section
/-! DEFINITION. Reed touch and the key bank (R443 to R478): geometry and windows, quiet lines, coupling cancellation, baselines, contacts and keys. -/
namespace Sys2Proof.Machine
open Sys2Proof

/-- A front end. -/
def State.front (s : State) (p : Nat) : FrontEnd := Tab.get {} s.fronts p
/-- The state with a front end set. -/
def State.setFront (s : State) (p : Nat) (x : FrontEnd) : State := { s with fronts := Tab.set s.fronts p x }
/-- The state with the key bank set. -/
def State.setKeys (s : State) (k : KeyBank) : State := { s with keyBank := k }

/-- RF_STATE values (R479). -/
def touchOff : Nat := 0
/-- BASELINING. -/
def touchBaselining : Nat := 1
/-- RUNNING. -/
def touchRunning : Nat := 2
/-- WAKE_SCAN. -/
def touchWake : Nat := 3

/-! ## Geometry (R443, R444) -/

/-- RX_USED. -/
def State.rxUsed (s : State) (p : Nat) : Nat := field (s.rd (Obj.RF_GEOMETRY p)) 7 0
/-- TX_USED. -/
def State.txUsed (s : State) (p : Nat) : Nat := field (s.rd (Obj.RF_GEOMETRY p)) 15 8

/-- Does RF_GEOMETRY hold a field outside its range (R480)? -/
def geometryBad (g : Nat) : Bool :=
  let out := fun (v hi : Nat) => decide (v = 0) || Nat.blt hi v
  out (field g 7 0) 56 || out (field g 15 8) 32 || out (field g 31 16) 16384 || out (field g 47 32) 16384

/-- The panel's output, if it has one. -/
def State.panel (s : State) (p : Nat) : Option Nat :=
  let k := s.rd (Obj.RF_PANEL_OUTPUT p)
  if k < 12 then some k else none

/-- The state of the panel's output; OFF without one. -/
def State.panelState (s : State) (p : Nat) : OutState := match s.panel p with | some k => (s.out k).state | none => .off

/-- The columns an RX electrode covers of an active width (R444). -/
def State.columns (s : State) (p r width : Nat) : Nat × Nat :=
  if bit (s.rd (Obj.RF_GEOMETRY p)) 48 then (0, width) else (r * width / s.rxUsed p, (r + 1) * width / s.rxUsed p)

/-! ## Scan budget (R447, R449, R450) -/

/-- Length of a window in lines of a line period in ps (R447). -/
def State.windowLines (s : State) (p linePs : Nat) : Nat := divUp (s.rd (Obj.RF_SCAN_TIME p) * 1000000) linePs

/-- The first condition of R450: n × RATE_MAX at most 240 Hz (rates in 0.01 Hz). -/
def rateFits (n rateMax : Nat) : Bool := Nat.ble (n * rateMax) 24000
/-- The second condition of R450: the windows fit the frame. -/
def State.linesFit (s : State) (p n v linePs : Nat) : Bool := decide (n ≠ 0) && Nat.ble (s.windowLines p linePs) (v / n)

/-- RATE_MAX of the panel's output; 60 Hz without one (R449). -/
def State.panelRate (s : State) (p : Nat) : Nat :=
  match s.panel p with
  | some k => (match (s.out (s.governor k)).intent with | some i => i.rateMax | none => 6000)
  | none => 6000

/-- Scans per frame in force (R450). -/
def State.scansNow (s : State) (p : Nat) : Nat :=
  match (s.front p).cut with
  | some n => n
  | none => s.rd (Obj.RF_SCANS_PER_FRAME p)

/-- Would enabling a front end break R450's conditions? -/
def State.scanBudgetBroken (s : State) (p : Nat) : Bool :=
  let n := s.rd (Obj.RF_SCANS_PER_FRAME p)
  match s.panel p with
  | none => !rateFits n 6000
  | some k =>
    match (s.out (s.governor k)).intent with
    | none => false
    | some i => !(rateFits n i.rateMax && s.linesFit p n (s.rd (Obj.OUT_VT_MIN k)) (s.linePs k))

/-- The front ends that are on and whose panel an output drives. -/
def State.frontsOn (s : State) (k : Nat) : List Nat :=
  (List.range 2).filter (fun p => bit (s.rd (Obj.RF_CONTROL p)) 0
    && (match s.panel p with | some o => decide (s.governor o = s.governor k) | none => false))

/-- The largest number of scans, from 1 and at most as written, that meets both conditions with an intent's rate and timing (R450). -/
def State.scansFor (s : State) (p t rateMax : Nat) : Option Nat :=
  ((List.range (s.rd (Obj.RF_SCANS_PER_FRAME p) + 1)).reverse).find? (fun n =>
    decide (n ≠ 0) && rateFits n rateMax && s.linesFit p n (vtMin t rateMax) (timLinePs t))

/-- Is an output intent refused for a front end (R450, log entry 23)? -/
def State.intentScans (s : State) (k : Nat) (i : OutIntent) : Nat :=
  let t := s.modeEntry k i.modeId
  if (s.frontsOn k).any (fun p => (s.scansFor p t i.rateMax).isNone) then Status.scanBudget
  else if (s.frontsOn k).any (fun p =>
      let n := s.rd (Obj.RF_SCANS_PER_FRAME p)
      rateFits n i.rateMax && !s.linesFit p n (vtMin t i.rateMax) (timLinePs t)) then Status.scanBudget
  else Status.ok

/-- After an accepted intent: a front end whose first condition its rate breaks takes fewer scans a frame (R450). -/
def State.cutScans (s : State) (k : Nat) (i : OutIntent) : State :=
  let t := s.modeEntry k i.modeId
  s.each (s.frontsOn k) (fun s p =>
    let n := s.rd (Obj.RF_SCANS_PER_FRAME p)
    match s.scansFor p t i.rateMax with
    | none => s
    | some m =>
      let was := s.scansNow p
      let s := s.setFront p { s.front p with cut := if m = n then none else some m }
      if m < was then s.logEvent Ev.scanRateCut noOwner [d8 p, d8 m] else s)

/-! ## Windows (R446, R448, R473) -/

/-- Does a window of unit u run? -/
def State.windowRuns (s : State) (u : Nat) : Bool := if u = 2 then s.keyBank.window.isSome else (s.front u).window.isSome

/-- The state object of unit u. -/
def touchStateObj (u : Nat) : Nat := if u = 2 then Obj.KB_STATE else Obj.RF_STATE u

/-- Is a unit able to scan? -/
def State.scans (s : State) (u : Nat) : Bool :=
  decide (s.rd (touchStateObj u) = touchBaselining) || decide (s.rd (touchStateObj u) = touchRunning)

/-- Is the self gain of a window raised (R468)? -/
def State.raisedGain (s : State) (p mode : Nat) : Bool :=
  decide (mode = 2) || decide (mode = 3) || (decide (mode = 0) && !(s.front p).contacts.any (fun c => decide (c.type = 0)))

/-- A window of a unit starts with the mode in force (R446, R468). -/
def State.startWindow (s : State) (u : Nat) : State :=
  if u = 2 then s.setKeys { s.keyBank with window := some ⟨s.now, s.dtime, 0, false⟩ }
  else
    let mode := s.rd (Obj.TOUCH_MODE_FORCE u)
    s.setFront u { s.front u with force := mode, window := some ⟨s.now, s.dtime, mode, s.raisedGain u mode⟩ }

/-- TOUCH_SCAN (R44, R446, R473). -/
def execTouchScan (n : Fin 256) (s : State) : Out :=
  .next (s.fire n.val 3 (fun s arg =>
    if 2 < arg ∨ !s.scans arg then (s, slotNoEffect)
    else if s.windowRuns arg then (if arg < 2 then s.wrBit (Obj.RF_STATUS arg) 3 true else s, slotNoEffect)
    else (s.startWindow arg, slotFired)))

/-- SELF_STARTED_WINDOW (R448, R645). -/
def execSelfStartedWindow (p : Fin 2) (s : State) : Out :=
  if s.scans p.val ∧ ¬s.windowRuns p.val ∧ s.panelState p.val = .active then
    .next ((s.abandonUnit (.frontEnd p.val) abandonTouch).startWindow p.val)
  else .next s

/-! ## Features and prediction (R453, R454, R456) -/

/-- Luma of a 10-bit pixel (R453). -/
def luma (p : Nat × Nat × Nat) : Nat := (2 * p.1 + 5 * p.2.1 + p.2.2) / 8

/-- The part of a row from column a to before column b. -/
def rowPart {α : Type} (row : List α) (a b : Nat) : List α := (row.drop a).take (b - a)

/-- The mean of a list, 0 of none; division towards zero (R454). -/
def mean (xs : List Nat) : Nat := if xs.length = 0 then 0 else sumNat xs / xs.length

/-- The steps |Y(x) − Y(x − 1)| of a row over columns a to before b; the first column of a row has no neighbour before it. -/
def steps (ys : List Nat) (a b : Nat) : List Nat :=
  (List.range (b - a)).filterMap (fun i =>
    let x := a + i
    if x = 0 then none
    else match ys[x]?, ys[x - 1]? with
      | some u, some v => some (Nat.max u v - Nat.min u v)
      | _, _ => none)

/-- The eight features of an RX electrode that covers columns a to before b (R453, R456). -/
def featuresOf (hold : Option (Nat × Nat)) (w : ScanPixels) (a b : Nat) : List Int :=
  let lumas := fun (rows : List (List (Nat × Nat × Nat))) => rows.map (fun row => row.map luma)
  let part := fun (ys : List (List Nat)) => mean (ys.flatMap (fun y => rowPart y a b))
  let frame := lumas w.frame
  let moves := fun (ys : List (List Nat)) => mean (ys.flatMap (fun y => steps y a b))
  (match hold with
  | some (active, v) =>
    let m := part frame
    [if v = 0 then 0 else 1024 * active / v, m, m, m, m, m, moves frame, m]
  | none =>
    let q := fun (j : Nat) => lumas (w.quarters.getD j [])
    let all := q 0 ++ q 1 ++ q 2 ++ q 3
    [if w.lines = 0 then 0 else 1024 * w.active / w.lines, part (q 0), part (q 1), part (q 2), part (q 3), mean all.flatten, moves all, part frame]
  ).map Int.ofNat

/-- The features of an electrode by the state of the panel's output (R456). -/
def State.features (s : State) (p r : Nat) (w : ScanPixels) : List Int :=
  match s.panel p, s.panelState p with
  | none, _ => List.replicate 8 0
  | some _, .off => List.replicate 8 0
  | some _, .waitPlug => List.replicate 8 0
  | some _, .starting => List.replicate 8 0
  | some _, .unplugDebounce => List.replicate 8 0
  | some k, st =>
    let width := timHActive (s.timing k) * (if s.paired k then 2 else 1)
    let ab := s.columns p r width
    featuresOf (if st = .glassHold then some (timVActive (s.timing k), s.rd (Obj.OUT_VT_MIN k)) else none) w ab.1 ab.2

/-- The eight coefficients of an electrode (R454). -/
def State.coefficients (s : State) (p r : Nat) : List Int :=
  (List.range 8).map (fun j => toSigned 32 (bytesAt (s.rd (Obj.RF_COUPLING p)) (4 * (r * 8 + j)) 4))

/-- The prediction of an electrode (R454). -/
def predictRx (c x : List Int) : Int := (sumInt (List.zipWith (fun (a b : Int) => a * b) c x)) / 65536

/-! ## Baselines (R445, R458 to R462) -/

/-- n_tau of a unit: TAU in ms and the scan rate in 0.01 Hz (R458). -/
def nTau (tau rate : Nat) : Nat := Nat.max 1 ((tau * rate + 50000) / 100000)

/-- What R458 does to one node: signal and new measurement in 1/256 count and whether it is frozen; the new baseline, run, and whether it is
recalibrated. -/
def trackNode (level run half nTau : Nat) (base d mc : Int) (neg : Nat) (frozen : Bool) : Int × Nat × Bool :=
  let neg := if d < -(Int.ofNat (256 * level)) then neg + 1 else 0
  if run ≤ neg then (mc, 0, true)
  else if !frozen ∧ d < Int.ofNat (256 * half) then (base + Int.tdiv (mc - base) (Int.ofNat nTau), neg, false)
  else (base, neg, false)

/-- Is a baseline SUSPECT against a factory value (R460)? -/
def suspectNode (percent : Nat) (base : Int) (factory : Nat) : Bool :=
  decide (factory ≠ 0) && decide (256 * percent * factory < 100 * (base - Int.ofNat (256 * factory)).natAbs)

/-- The scan rate of a front end in 0.01 Hz (R449). -/
def State.scanRate100 (s : State) (p : Nat) : Nat := s.scansNow p * s.panelRate p

/-- Within 2 nodes in either axis (R459). -/
def nearNode (rx a b : Nat) : Bool :=
  let d := fun (x y : Nat) => Nat.max x y - Nat.min x y
  Nat.ble (d (a / rx) (b / rx)) 2 && Nat.ble (d (a % rx) (b % rx)) 2

/-- The whole node table of 32 × 56 entries from wired nodes' values (R443). -/
def nodeTable (tx rx : Nat) (v : List Nat) : Nat :=
  packItems 2 ((List.range 1792).map (fun i =>
    if i / 56 < tx ∧ i % 56 < rx then v.getD (i / 56 * rx + i % 56) 0 else 0))

/-- The number of nodes for which a flag holds. -/
def countTrue (l : List Bool) : Nat := (l.filter id).length

/-- RF_BASELINE and RF_STATUS.SUSPECT follow a front end (R461, R479). -/
def State.showBase (s : State) (p : Nat) : State :=
  let x := s.front p
  (s.wr (Obj.RF_BASELINE p) (nodeTable (s.txUsed p) (s.rxUsed p) (x.base.map (fun (b : Int) => (b / 256).toNat % 65536)))).wrBit
    (Obj.RF_STATUS p) 0 (x.suspect.any id)

/-! ## Blobs and contacts (R463 to R467) -/

/-- Are two nodes neighbours in the 4-connected sense? -/
def adjacent (rx a b : Nat) : Bool :=
  (decide (a / rx = b / rx) && (decide (a + 1 = b) || decide (b + 1 = a))) || decide (a + rx = b) || decide (b + rx = a)

/-- The nodes of a set reached from some nodes, in at most `fuel` steps. -/
def flood (rx : Nat) (set : List Nat) : Nat → List Nat → List Nat
  | 0, seen => seen
  | n + 1, seen =>
    let more := set.filter (fun x => !seen.contains x && seen.any (fun y => adjacent rx x y))
    if more = [] then seen else flood rx set n (seen ++ more)

/-- The 4-connected parts of a set of nodes. -/
def blobsOf (rx : Nat) : Nat → List Nat → List (List Nat)
  | 0, _ => []
  | _, [] => []
  | n + 1, x :: xs =>
    let b := flood rx (x :: xs) (xs.length + 1) [x]
    b :: blobsOf rx n (xs.filter (fun y => !b.contains y))

/-- The node of a list with the greatest signal, the lower number of equals. -/
def peakOf (d : List Int) : List Nat → Nat
  | [] => 0
  | [x] => x
  | x :: xs => let y := peakOf d xs; if d.getD y 0 ≤ d.getD x 0 then x else y

/-- A found blob: its nodes, its peak, and the contact type. -/
structure Found where
  nodes : List Nat
  tx : Nat
  rx : Nat
  z : Int
  type : Nat
  deriving DecidableEq, Repr

/-- The greatest self signal over some electrodes. -/
def selfPeak (d : List Int) (at_ : List Nat) : Int := at_.foldl (fun (m : Int) i => if m < d.getD i 0 then d.getD i 0 else m) 0

/-- TYPE of a blob, if it is not discarded (R463): 0 FINGER, 1 GLOVE, 3 PALM. -/
def State.classify (s : State) (p mode : Nat) (d sd : List Int) (blob : List Nat) (peak : Nat) : Option Nat :=
  let rx := s.rxUsed p
  let tx := s.txUsed p
  let z := d.getD peak 0
  let reaches := fun (v : Int) (t : Nat) => decide (Int.ofNat (256 * t) ≤ v)
  if s.rd (Obj.RF_PALM_NODES p) ≤ blob.length then some 3
  else if reaches z (s.rd (Obj.RF_TOUCH_THRESHOLD p)) ∧ mode ≠ 2 then some 0
  else if (mode = 0 ∨ mode = 2) ∧ reaches (selfPeak sd (blob.map (fun i => i / rx))) (s.rd (Obj.RF_GLOVE_SELF p))
      ∧ reaches (selfPeak sd (blob.map (fun i => tx + i % rx))) (s.rd (Obj.RF_GLOVE_SELF p))
      ∧ (mode ≠ 2 ∨ reaches z (s.rd (Obj.RF_GLOVE_MUTUAL p))) then some 1
  else none

/-- The blobs and the hover contact of a scan (R463). -/
def State.findBlobs (s : State) (p mode : Nat) (d sd : List Int) (suspect : List Bool) : List Found :=
  let rx := s.rxUsed p
  let tx := s.txUsed p
  let thr := if mode = 2 then s.rd (Obj.RF_GLOVE_MUTUAL p) else s.rd (Obj.RF_TOUCH_THRESHOLD p)
  let set := (List.range (tx * rx)).filter (fun i => decide (Int.ofNat (256 * thr) ≤ d.getD i 0) && !suspect.getD i false)
  let blobs := blobsOf rx (set.length + 1) set
  let found := blobs.filterMap (fun b =>
    let peak := peakOf d b
    (s.classify p mode d sd b peak).map (fun t => Found.mk b (peak / rx) (peak % rx) (d.getD peak 0) t))
  let glove := Int.ofNat (256 * s.rd (Obj.RF_GLOVE_MUTUAL p))
  let hover := Int.ofNat (256 * s.rd (Obj.RF_HOVER_SELF p))
  let pt := peakOf sd (List.range tx)
  let pr := peakOf sd ((List.range rx).map (fun r => tx + r))
  let zt := sd.getD pt 0
  let zr := sd.getD pr 0
  if (mode = 0 ∨ mode = 3) ∧ sd ≠ [] ∧ !(blobs.any (fun b => decide (glove ≤ d.getD (peakOf d b) 0))) ∧ hover ≤ zt ∧ hover ≤ zr then
    found ++ [⟨[], pt, pr - tx, if zt < zr then zt else zr, 2⟩]
  else found

/-- round(8 × (c + 0.5) × size ÷ used) for a centroid c = num ÷ den (R464). -/
def positionOf (num den : Int) (size used : Nat) : Nat :=
  let a := 8 * (2 * num + den) * Int.ofNat size
  let b := 2 * den * Int.ofNat used
  ((2 * a + b) / (2 * b)).toNat

/-- X and Y of a contact in 1/8 pixel (R464). -/
def State.locate (s : State) (p : Nat) (d : List Int) (suspect : List Bool) (f : Found) : Nat × Nat :=
  let g := s.rd (Obj.RF_GEOMETRY p)
  let rx := s.rxUsed p
  let tx := s.txUsed p
  let w := field g 31 16
  let h := field g 47 32
  let swap := bit g 48
  let near := (List.range 9).filterMap (fun i =>
    let t := f.tx + i / 3
    let r := f.rx + i % 3
    if 1 ≤ t ∧ t ≤ tx ∧ 1 ≤ r ∧ r ≤ rx then
      (let n := (t - 1) * rx + (r - 1)
       some (t - 1, r - 1, if suspect.getD n false then (0 : Int) else d.getD n 0))
    else none)
  let sum := sumInt (near.map (fun n => n.2.2))
  let along := fun (rxAxis : Bool) (size used : Nat) =>
    let at_ := if rxAxis then f.rx else f.tx
    if f.type = 2 then positionOf (Int.ofNat at_) 1 size used
    else if sum ≤ 0 then Config.centroid (near.map (fun n => n.2.2))
    else positionOf (sumInt (near.map (fun n => n.2.2 * Int.ofNat (if rxAxis then n.2.1 else n.1)))) sum size used
  let x := if swap then along false w tx else along true w rx
  let y := if swap then along true h rx else along false h tx
  (if bit g 49 then w * 8 - 1 - x else x, if bit g 50 then h * 8 - 1 - y else y)

/-- Distance of a contact's peak to a blob's: absent beyond 3 nodes, else squared (R465). -/
def peakDistance (c : Contact) (f : Found) : Option Nat :=
  let d := fun (x y : Nat) => Nat.max x y - Nat.min x y
  let a := d c.tx f.tx
  let b := d c.rx f.rx
  if a ≤ 3 ∧ b ≤ 3 then some (a * a + b * b) else none

/-- The contacts of the last scan matched with blobs, in the order of their IDs; a blob continues one contact (R465). -/
def matchContacts : List Contact → List Found → List (Contact × Option Found) × List Found
  | [], fs => ([], fs)
  | c :: cs, fs =>
    let near := fs.filter (fun f => (peakDistance c f).isSome)
    match leastBy (fun f => (peakDistance c f).getD 0) near with
    | none => let r := matchContacts cs fs; ((c, none) :: r.1, r.2)
    | some f => let r := matchContacts cs (fs.erase f); ((c, some f) :: r.1, r.2)

/-- Blobs by descending peak, the earlier of equals first. -/
def insertFound (f : Found) : List Found → List Found
  | [] => [f]
  | g :: gs => if g.z < f.z then f :: g :: gs else g :: insertFound f gs

/-- An entry of a report (R471). -/
def contactEntry (now : Nat) (event : Nat) (c : Contact) : Nat :=
  let z := Nat.min 255 ((Int.tdiv c.z 1024).toNat)
  c.id + c.type * 2 ^ 4 + event * 2 ^ 6 + ofBool c.long * 2 ^ 8 + c.x % 65536 * 2 ^ 16 + c.y % 65536 * 2 ^ 32 + z * 2 ^ 48
    + Nat.min 255 c.area * 2 ^ 56 + Nat.min 65535 ((now - c.downAt) / 100000000) * 2 ^ 64

/-- A report (R471). -/
def reportOf (run : ScanRun) (seq : Nat) (suspect hold overflow : Bool) (entries : List Nat) : Nat :=
  let n := Nat.min 10 entries.length
  run.pos.pack + run.time * 2 ^ 64 + seq % 65536 * 2 ^ 128 + n * 2 ^ 144 + ofBool suspect * 2 ^ 148 + ofBool hold * 2 ^ 149 + ofBool overflow * 2 ^ 150
    + ofBool run.raised * 2 ^ 151 + packItems 16 (entries.take 10) * 2 ^ 192

/-- Steps 2 and 3 of R470: the report and the history are written, and the doorbell rung. -/
def State.scanReport (s : State) (p seq r : Nat) : State :=
  let s := (s.wr (Obj.RF_REPORT p) r).wr (Obj.RF_HISTORY p) (setBytes (s.rd (Obj.RF_HISTORY p)) (184 * (seq % 16)) 184 r)
  (s.tallyCount 30 p noOwner).ringObject (s.rd (Obj.RF_DOORBELL p))

/-- The front end enters OFF: an UP for every standing contact (R478). -/
def State.frontOff (s : State) (p : Nat) (run : ScanRun) : State :=
  let x := s.front p
  let s := if x.contacts = [] then s
    else s.scanReport p x.scans (reportOf run x.scans (x.suspect.any id) (bit (s.rd (Obj.RF_STATUS p)) 1) false
      (x.contacts.map (contactEntry s.dtime 3)))
  ((s.setFront p { force := x.force }).wr (Obj.RF_STATE p) touchOff).wr (Obj.RF_STATUS p) (s.rd (Obj.RF_STATUS p) &&& 0xC)

/-- A front end enters BASELINING (R460). -/
def State.baseline (s : State) (p : Nat) : State :=
  let x := s.front p
  ((s.setFront p { listen := x.listen, band := x.band, windowB := x.windowB, nextB := x.nextB, cut := x.cut, force := x.force }).wr (Obj.RF_STATE p) touchBaselining).wr
    (Obj.RF_STATUS p) (s.rd (Obj.RF_STATUS p) &&& 0xC)

/-! ## Scans (R458 to R470) -/

/-- Measurements after cancellation, in 1/256 count. -/
def State.cancelled (s : State) (p : Nat) (counts : List Nat) (w : ScanPixels) : List Int :=
  let rx := s.rxUsed p
  let pred := (List.range rx).map (fun r => predictRx (s.coefficients p r) (s.features p r w))
  (List.range (s.txUsed p * rx)).map (fun i => 256 * (Int.ofNat (counts.getD i 0) - pred.getD (i % rx) 0))

/-- The self electrodes of a gain, with values the manual leaves open where no scan has used the gain yet. -/
def State.selfAt (s : State) (p : Nat) (raised : Bool) (n : Nat) : SelfBase :=
  let x := if raised then (s.front p).selfRaised else (s.front p).selfNormal
  if x.base = [] then ⟨(List.range n).map (fun i => Config.selfBaseline s.freeDrawn i), List.replicate n 0⟩ else x

/-- The last of the four scans of BASELINING: baselines, SUSPECT nodes, RUNNING (R460, R461). -/
def State.endBaselining (s : State) (p : Nat) (sum selfSum : List Int) (raised : Bool) : State :=
  let rx := s.rxUsed p
  let tx := s.txUsed p
  let base := sum.map (fun (v : Int) => v / 4)
  let percent := s.rd (Obj.RF_SUSPECT_PERCENT p)
  let suspect := base.zipIdx.map (fun e => suspectNode percent e.1 (bytesAt (s.rd (Obj.RF_FACTORY_REF p)) (2 * (e.2 / rx * 56 + e.2 % rx)) 2))
  let selves : SelfBase := ⟨selfSum.map (fun (v : Int) => v / 4), List.replicate selfSum.length 0⟩
  let x := s.front p
  let s := s.setFront p { x with base := base, neg := List.replicate (tx * rx) 0, suspect := suspect, sum := [], selfSum := [],
                                 selfRaised := if raised then selves else x.selfRaised, selfNormal := if raised then x.selfNormal else selves,
                                 runningAt := s.dtime }
  let s := (s.wr (Obj.RF_STATE p) touchRunning).showBase p
  if suspect.any id then s.logEvent Ev.suspectPresent noOwner [d8 p, d32 (countTrue suspect)] else s

/-- Baselines after a scan (R458, R459): FAST_RECAL and SUSPECT_CLEARED. -/
def State.trackBase (s : State) (p : Nat) (mc d : List Int) : State :=
  let x := s.front p
  let rx := s.rxUsed p
  let blobs := x.contacts.flatMap Contact.blob
  let n := nTau (s.rd (Obj.RF_BASELINE_TAU p)) (s.scanRate100 p)
  let had := x.suspect.any id
  let out := (List.range mc.length).map (fun i =>
    let sus := x.suspect.getD i false
    let frozen := sus || blobs.any (fun b => nearNode rx b i)
    trackNode (s.rd (Obj.RF_RECAL_LEVEL p)) (s.rd (Obj.RF_RECAL_SCANS p)) (s.rd (Obj.RF_TOUCH_THRESHOLD p) / 2) n (x.base.getD i 0) (d.getD i 0)
      (mc.getD i 0) (x.neg.getD i 0) frozen)
  let suspect := out.zipIdx.map (fun e => x.suspect.getD e.2 false && !e.1.2.2)
  let recal := countTrue (out.map (fun e => e.2.2))
  let s := s.setFront p { x with base := out.map (fun e => e.1), neg := out.map (fun e => e.2.1), suspect := suspect }
  let s := if recal = 0 then s else (s.logEvent Ev.fastRecal noOwner [d8 p, d32 recal]).tallyCount 30 (4 + p) noOwner
  let s := s.showBase p
  if had ∧ !suspect.any id then s.logEvent Ev.suspectCleared noOwner [d8 p] else s

/-- Self-capacitance baselines after a scan (R459): a contact of any type freezes its electrodes. -/
def State.trackSelf (s : State) (p : Nat) (raised : Bool) (m d : List Int) : State :=
  let x := s.front p
  let rx := s.rxUsed p
  let tx := s.txUsed p
  let b := s.selfAt p raised m.length
  let held := x.contacts.flatMap (fun c => if c.blob = [] then [c.tx, tx + c.rx] else c.blob.flatMap (fun i => [i / rx, tx + i % rx]))
  let n := nTau (s.rd (Obj.RF_BASELINE_TAU p)) (s.scanRate100 p)
  let out := (List.range m.length).map (fun i =>
    trackNode (s.rd (Obj.RF_RECAL_LEVEL p)) (s.rd (Obj.RF_RECAL_SCANS p)) (s.rd (Obj.RF_TOUCH_THRESHOLD p) / 2) n (b.base.getD i 0) (d.getD i 0)
      (m.getD i 0) (b.neg.getD i 0) (held.contains i))
  let b' : SelfBase := ⟨out.map (fun e => e.1), out.map (fun e => e.2.1)⟩
  let s := if b'.base = [] then s else { s with freeDrawn := s.freeDrawn + 1 }
  s.setFront p { x with selfRaised := if raised then b' else x.selfRaised, selfNormal := if raised then x.selfNormal else b' }

/-- The fit of one coefficient (R455). -/
def fitOne (shift : Nat) (e s x c : Int) : Int :=
  clampInt (-2147483648) 2147483647 (c + Int.tdiv (e * x * 65536) (s * Int.ofNat (2 ^ shift)))

/-- The fit of the coefficients after a scan that allows it (R455). -/
def State.fit (s : State) (p : Nat) (counts : List Nat) (base d : List Int) (w : ScanPixels) : State :=
  let rx := s.rxUsed p
  let tx := s.txUsed p
  let half := Int.ofNat (128 * s.rd (Obj.RF_TOUCH_THRESHOLD p))
  let hot := (List.range (tx * rx)).filter (fun i => decide (half ≤ d.getD i 0))
  let c := (List.range rx).map (fun r =>
    let old := s.coefficients p r
    if hot.any (fun i => Nat.ble (Nat.max (i % rx) r - Nat.min (i % rx) r) 2) then old
    else
      let x := s.features p r w
      let diff := sumInt ((List.range tx).map (fun t => 256 * Int.ofNat (counts.getD (t * rx + r) 0) - base.getD (t * rx + r) 0))
      let e := Int.tdiv diff (Int.ofNat (256 * tx)) - predictRx old x
      let sq := sumInt (x.map (fun (v : Int) => v * v))
      if sq ≤ 0 then old else List.zipWith (fun (c v : Int) => fitOne (s.rd (Obj.RF_FIT_SHIFT p)) e sq v c) old x)
  let bytes := packItems 32 (c.map (fun cs => packItems 4 (cs.map (ofSigned 32))))
  s.wr (Obj.RF_COUPLING p) (setBytes (s.rd (Obj.RF_COUPLING p)) 0 (32 * rx) bytes)

/-- The lowest contact IDs that are free. -/
def freeIds (used : List Nat) : List Nat := (List.range 16).filter (fun i => !used.contains i)

/-- LONG_HOLD of a contact that has stood for RF_LONG_HOLD seconds (R467). -/
def State.holdContact (s : State) (p : Nat) (c : Contact) : State × Contact :=
  if !c.long ∧ s.rd (Obj.RF_LONG_HOLD p) * 1000000000 ≤ s.dtime - c.downAt then
    (s.logEvent Ev.longHold noOwner [d8 p, d8 c.id, d16 c.x, d16 c.y], { c with long := true })
  else (s, c)

/-- The long holds of a list of contacts. -/
def State.holdContacts (s : State) (p : Nat) : List Contact → State × List Contact
  | [] => (s, [])
  | c :: cs =>
    let a := s.holdContact p c
    let r := a.1.holdContacts p cs
    (r.1, a.2 :: r.2)

/-- Contacts and the report of a scan in RUNNING (R463 to R471). -/
def State.scanContacts (s : State) (p : Nat) (run : ScanRun) (d sd : List Int) : State :=
  let x := s.front p
  let found := s.findBlobs p run.mode d sd x.suspect
  let place := fun (f : Found) => s.locate p d x.suspect f
  let m := matchContacts x.contacts found
  let kept := m.1.map (fun e => match e.2 with
    | none => (e.1, 3)
    | some f =>
      let xy := place f
      let c : Contact := { e.1 with type := f.type, tx := f.tx, rx := f.rx, x := xy.1, y := xy.2, z := f.z, area := f.nodes.length, blob := f.nodes }
      (c, if xy = (e.1.x, e.1.y) then 2 else 1))
  let news := (m.2.foldr insertFound []).take (10 - kept.length)
  let ids := freeIds (x.contacts.map Contact.id)
  let fresh := (List.zip ids news).map (fun e =>
    let xy := place e.2
    (Contact.mk e.1 e.2.type e.2.tx e.2.rx xy.1 xy.2 e.2.z e.2.nodes.length s.dtime false e.2.nodes))
  let above := Nat.blt 10 (kept.length + m.2.length)
  let held := s.holdContacts p ((kept.filter (fun e => decide (e.2 ≠ 3))).map (fun e => e.1))
  let s := held.1
  let long := fun (c : Contact) => match held.2.find? (fun h => decide (h.id = c.id)) with | some h => h | none => c
  let entries := kept.map (fun e => contactEntry s.dtime e.2 (long e.1)) ++ fresh.map (contactEntry s.dtime 0)
  let standing := held.2 ++ fresh
  let sorted := standing.foldr (fun (c : Contact) (l : List Contact) => (l.filter (fun o => Nat.blt o.id c.id)) ++ c :: l.filter (fun o => Nat.blt c.id o.id)) []
  let s := s.each (fresh.filter (fun c => decide (c.type = 0) || decide (c.type = 1))) (fun s c => s.handOver p (c.x / 8) (c.y / 8) 0)
  let s := s.each fresh (fun s _ => s.tallyCount 30 (2 + p) noOwner)
  let s := if above ∧ !x.overflowRun then s.logEvent Ev.contactOverflow noOwner [d8 p, d32 found.length] else s
  let hold := decide (s.panelState p = .glassHold) && (s.panel p).isSome
  let s := s.setFront p { s.front p with contacts := sorted, overflowRun := above }
  let s := if above then s.wrBit (Obj.RF_STATUS p) 2 true else s
  let s := (s.wrBit (Obj.RF_STATUS p) 5 (sorted.any Contact.long)).wrBit (Obj.RF_STATUS p) 1 hold
  s.scanReport p x.scans (reportOf run x.scans (x.suspect.any id) hold above entries)

/-- SCAN_COMPLETE (R453 to R470): counts of the nodes, of the self scan's electrodes (TX first), and what the display drove. -/
def execScanComplete (p : Fin 2) (counts selfCounts : List Nat) (pixels : ScanPixels) (s : State) : Out :=
  let p := p.val
  let x := s.front p
  match x.window with
  | none => .next s
  | some run =>
    let s := (s.setFront p { x with window := none }).wrBit (Obj.RF_STATUS p) 4 run.raised
    if x.ending then .next (s.frontOff p run)
    else
      let rx := s.rxUsed p
      let tx := s.txUsed p
      let mc := s.cancelled p counts pixels
      let self : List Int := if run.mode = 1 then [] else (List.range (tx + rx)).map (fun i => 256 * Int.ofNat (selfCounts.getD i 0))
      let add := fun (a b : List Int) => if a = [] then b else List.zipWith (fun (u v : Int) => u + v) a b
      if s.rd (Obj.RF_STATE p) = touchBaselining then
        let sum := add x.sum mc
        let selfSum := add x.selfSum self
        let s := s.setFront p { s.front p with scans := x.scans + 1, sum := sum, selfSum := selfSum }
        .next (if 4 ≤ x.scans + 1 then s.endBaselining p sum selfSum run.raised else s)
      else
        let d := List.zipWith (fun (b m : Int) => b - m) x.base mc
        let sb := (s.selfAt p run.raised self.length).base
        let sd := List.zipWith (fun (b m : Int) => b - m) sb self
        let s := s.trackBase p mc d
        let s := if self = [] then s else s.trackSelf p run.raised self sd
        let was := x.contacts
        let s := s.scanContacts p run d sd
        let fits := decide ((s.front p).contacts = []) && decide (was = []) && decide (s.panelState p = .active) && (s.panel p).isSome
          && !bit (s.rd (Obj.RF_STATUS p)) 0
        let s := if fits then s.fit p counts x.base d pixels else s
        .next (s.setFront p { s.front p with scans := x.scans + 1 })

/-- SUSPECT_ACCEPTED (R462, R474): nodes or keys still SUSPECT are cleared, their baselines unchanged. -/
def execSuspectAccepted (u : Fin 3) (s : State) : Out :=
  if u.val = 2 then
    let k := s.keyBank
    let n := (k.keys.filter Key.suspect).length
    if s.rd Obj.KB_STATE ≠ touchRunning ∨ n = 0 then .next s
    else .next ((s.setKeys { k with keys := k.keys.map (fun x => { x with suspect := false }) }).logEvent Ev.suspectAccepted noOwner [d8 2, d32 n])
  else
    let x := s.front u.val
    let n := countTrue x.suspect
    if s.rd (Obj.RF_STATE u.val) ≠ touchRunning ∨ n = 0 then .next s
    else
      .next (((s.setFront u.val { x with suspect := x.suspect.map (fun _ => false) }).wrBit (Obj.RF_STATUS u.val) 0 false).logEvent
        Ev.suspectAccepted noOwner [d8 u.val, d32 n])

/-! ## Quiet lines (R451, R452) -/

/-- Start line of a band (R451). -/
def bandStart (v i : Nat) : Nat := i * (v / 32)

/-- The noise of a band: RMS of its samples of the last four sweeps, in counts × 16, rounded down (R451). -/
def bandNoise (xs : List Int) : Nat :=
  if xs = [] then 0 else Nat.sqrt (256 * (sumInt (xs.map (fun (x : Int) => x * x))).toNat / xs.length) % 65536

/-- The bands that a window of L lines from a line covers (R452). -/
def coveredBands (v l start : Nat) : List Nat :=
  (List.range 32).filter (fun i =>
    let a := bandStart v i
    let b := if i = 31 then v else bandStart v (i + 1)
    Nat.blt a (start + l) && Nat.blt start b)

/-- The figure of a start line (R452). -/
def quietFigure (noise : List Nat) (v l start : Nat) : Nat := maxNat ((coveredBands v l start).map (fun i => noise.getD i 0))

/-- Do all n windows from a start line lie within lines 0 to V − 1 (R447)? -/
def startFits (n v l b : Nat) : Bool := (List.range n).all (fun k => Nat.ble ((b + k * (v / n)) % v + l) v)

/-- Start line of window 0 (R452). -/
def State.windowStart (s : State) (p v : Nat) : Nat := (s.front p).windowB.getD (bandStart v 31)

/-- A sweep is complete: window 0 may move (R452). -/
def State.sweepEnd (s : State) (p v l : Nat) (noise : List Nat) : State :=
  let n := s.scansNow p
  let now := quietFigure noise v l (s.windowStart p v)
  let starts := ((List.range 32).map (bandStart v)).filter (startFits n v l)
  match leastBy (quietFigure noise v l) starts with
  | none => s
  | some b =>
    let f := quietFigure noise v l b
    if f < now ∧ s.rd (Obj.RF_QUIET_HYST p) * now ≤ 100 * (now - f) then s.setFront p { s.front p with nextB := some b } else s

/-- LISTEN_SAMPLE (R451): the summed RX listen sample of the band in rotation. -/
def execListenSample (p : Fin 2) (sample : Int) (s : State) : Out :=
  let p := p.val
  match s.panel p with
  | none => .next s
  | some k =>
    if !s.scans p ∨ (s.out k).state ≠ .active then .next s
    else
      let x := s.front p
      let bands := if x.listen = [] then List.replicate 32 [] else x.listen
      let bands := modifyAt bands x.band (fun l => (sample :: l).take 4)
      let noise := bands.map bandNoise
      let s := (s.setFront p { x with listen := bands, band := (x.band + 1) % 32 }).wr (Obj.RF_NOISE p) (packItems 2 noise)
      let v := s.rd (Obj.OUT_VT_MIN k)
      if x.band = 31 ∧ v ≠ 0 then .next (s.sweepEnd p v (s.windowLines p (s.linePs k)) noise) else .next s

/-- A frame start of an output moves window 0 of its panels' front ends (R452). -/
def State.touchFrameStart (s : State) (k : Nat) : State :=
  s.each (List.range 2) (fun s p =>
    let x := s.front p
    match s.panel p, x.nextB with
    | some o, some b =>
      if o = k then (s.setFront p { x with windowB := some b, nextB := none }).logEvent Ev.windowMoved noOwner [d8 p, d16 b] else s
    | _, _ => s)

/-! ## The key bank (R473 to R476) -/

/-- Threshold of a key. -/
def State.keyThreshold (s : State) (n : Nat) : Nat := bytesAt (s.rd Obj.KB_THRESHOLDS) (2 * n) 2
/-- Group of a key: its own, 8 + n, when its entry is 0xFF (R475). -/
def State.keyGroup (s : State) (n : Nat) : Nat := let g := byteAt (s.rd Obj.KB_GROUPS) n; if g = 0xFF then 256 + n else g

/-- KB_BASELINE follows the key bank (R479). -/
def State.showKeys (s : State) : State :=
  s.wr Obj.KB_BASELINE (packItems 2 (s.keyBank.keys.map (fun k => (k.base / 256).toNat % 65536)))

/-- A 24-bit mask of keys. -/
def keyMask (ks : List Key) (f : Key → Bool) : Nat := sumNat (ks.zipIdx.map (fun e => ofBool (f e.1) * 2 ^ e.2))

/-- A key report (R476). -/
def keyReport (run : ScanRun) (seq : Nat) (old new : List Key) : Nat :=
  run.pos.pack + run.time * 2 ^ 64 + seq % 65536 * 2 ^ 128 + keyMask new Key.pressed * 2 ^ 160
    + (keyMask old Key.pressed ^^^ keyMask new Key.pressed) * 2 ^ 192 + keyMask new Key.suspect * 2 ^ 224 + keyMask new Key.long * 2 ^ 256

/-- The report of a key scan is written and the doorbell rung (R470, R476). -/
def State.reportKeys (s : State) (r : Nat) : State := ((s.wr Obj.KB_REPORT r).tallyCount 30 6 noOwner).ringObject (s.rd Obj.KB_DOORBELL)

/-- Is a key a candidate at a signal in 1/256 count (R475)? -/
def keyCandidate (thr : Nat) (k : Key) (d : Int) : Bool :=
  !k.suspect && (decide (Int.ofNat (256 * thr) ≤ d) || (k.pressed && decide (Int.ofNat (3 * 256 * thr) ≤ 4 * d)))

/-- The strength of a key (R475). -/
def keyStrength (thr : Nat) (d : Int) : Int := Int.tdiv d (Int.ofNat (Nat.max 1 thr))

/-- The key of some that is strongest, the lower number of equals. -/
def strongestKey (str : List Int) : List Nat → Option Nat
  | [] => none
  | n :: ns => match strongestKey str ns with
    | none => some n
    | some m => if str.getD n 0 < str.getD m 0 then some m else some n

/-- Key n after a scan's judgement of its group (R475): `cand` are the candidates of all keys, `str` the strengths. -/
def State.judgeKey (s : State) (ks : List Key) (cand : List Bool) (str : List Int) (n : Nat) : Key :=
  let deb := s.rd Obj.KB_DEBOUNCE
  let margin := s.rd Obj.KB_SWITCH_MARGIN
  let group := (List.range 24).filter (fun m => decide (s.keyGroup m = s.keyGroup n))
  let get : Nat → Key := fun m => ks.getD m {}
  let best := strongestKey str (group.filter (fun m => cand.getD m false))
  let run := fun (m : Nat) => if best = some m then (get m).strongest + 1 else 0
  let gone := fun (m : Nat) => if cand.getD m false then 0 else (get m).absent + 1
  let held := group.find? (fun m => (get m).pressed)
  let above := fun (m : Nat) => match held with
    | some h => if h ≠ m ∧ cand.getD m false ∧ str.getD h 0 * Int.ofNat (100 + margin) < 100 * str.getD m 0 then (get m).above + 1 else 0
    | none => 0
  let released := match held with | some h => Nat.ble deb (gone h) | none => true
  let taker := if released then (match best with | some m => if deb ≤ run m then some m else none | none => none)
    else strongestKey str (group.filter (fun m => Nat.ble deb (above m)))
  let k : Key := get n
  let pressed : Bool := match taker with
    | some m => decide (m = n)
    | none => k.pressed && !released
  { k with pressed := pressed, pressedAt := if (pressed && !k.pressed) = true then s.dtime else k.pressedAt, long := k.long && pressed && k.pressed,
           strongest := run n, absent := gone n, above := if taker.isSome then 0 else above n }

/-- KEY_SCAN_COMPLETE (R474 to R476): the counts of the 24 keys. -/
def execKeyScanComplete (counts : List Nat) (s : State) : Out :=
  let kb := s.keyBank
  match kb.window with
  | none => .next s
  | some run =>
    let s := s.setKeys { kb with window := none, scans := kb.scans + 1 }
    let m := (List.range 24).map (fun i => 256 * Int.ofNat (counts.getD i 0))
    if kb.ending then
      let off := kb.keys.map (fun k => { k with pressed := false, long := false })
      let s := if kb.keys.any Key.pressed then s.reportKeys (keyReport run kb.scans kb.keys off) else s
      .next ((s.setKeys {}).wr Obj.KB_STATE touchOff)
    else if s.rd Obj.KB_STATE = touchBaselining then
      let ks := kb.keys.zipIdx.map (fun e => { e.1 with sum := e.1.sum + m.getD e.2 0 })
      if kb.scans + 1 < 4 then .next (s.setKeys { s.keyBank with keys := ks })
      else
        let ks := ks.zipIdx.map (fun e =>
          let b := e.1.sum / 4
          { e.1 with base := b, sum := 0, suspect := suspectNode (s.rd Obj.KB_SUSPECT_PERCENT) b (bytesAt (s.rd Obj.KB_FACTORY_REF) (2 * e.2) 2) })
        let s := ((s.setKeys { s.keyBank with keys := ks, runningAt := s.dtime }).wr Obj.KB_STATE touchRunning).showKeys
        let n := (ks.filter Key.suspect).length
        .next (if n = 0 then s else s.logEvent Ev.suspectPresent noOwner [d8 2, d32 n])
    else
      let d := kb.keys.zipIdx.map (fun e => e.1.base - m.getD e.2 0)
      let n := nTau (s.rd Obj.KB_BASELINE_TAU) (100 * s.rd Obj.KB_SCAN_RATE)
      let out := kb.keys.zipIdx.map (fun e => trackNode (s.rd Obj.KB_RECAL_LEVEL) (s.rd Obj.KB_RECAL_SCANS) (s.keyThreshold e.2 / 2) n e.1.base
        (d.getD e.2 0) (m.getD e.2 0) e.1.neg (e.1.suspect || e.1.pressed))
      let had := kb.keys.any Key.suspect
      let tracked := (List.zip kb.keys out).map (fun e => { e.1 with base := e.2.1, neg := e.2.2.1, suspect := e.1.suspect && !e.2.2.2 })
      let recal := countTrue (out.map (fun e => e.2.2))
      let s := if recal = 0 then s else (s.logEvent Ev.fastRecal noOwner [d8 2, d32 recal]).tallyCount 30 7 noOwner
      let s := if had ∧ !tracked.any Key.suspect then s.logEvent Ev.suspectCleared noOwner [d8 2] else s
      let cand := tracked.zipIdx.map (fun e => keyCandidate (s.keyThreshold e.2) e.1 (d.getD e.2 0))
      let str := d.zipIdx.map (fun e => keyStrength (s.keyThreshold e.2) e.1)
      let judged := (List.range 24).map (s.judgeKey tracked cand str)
      let hold := s.rd Obj.KB_LONG_HOLD * 1000000000
      let long := judged.map (fun k => { k with long := k.long || (k.pressed && Nat.ble hold (s.dtime - k.pressedAt)) })
      let s := (s.setKeys { s.keyBank with keys := long }).showKeys
      let s := s.each ((List.range 24).filter (fun i => (long.getD i {}).long && !(judged.getD i {}).long))
        (fun s i => s.logEvent Ev.longHold noOwner [d8 2, d8 i, d16 0, d16 0])
      let s := s.each ((List.range 24).filter (fun i => (long.getD i {}).pressed && !(tracked.getD i {}).pressed)) (fun s i => s.handOver 2 0 0 i)
      .next (s.reportKeys (keyReport run kb.scans tracked long))

/-! ## Enables and power states (R457, R460, R477, R478, R480) -/

/-- Does a unit's doorbell name a mailbox whose SENDER is not its owner world (R480)? -/
def State.touchBell (s : State) (u v : Nat) : Bool :=
  let m := field v 11 8
  bit v 15 && (if s.bitternRes (0x28 + u) then !decide (s.mbSender m = .bittern)
    else decide (s.mbSender m = .bittern) || decide (s.mbSender m = .unused))

/-- A write of RF_CONTROL (R450, R460, R478, R480). -/
def State.writeRfControl (s : State) (p v : Nat) : Nat × State :=
  let addr := Obj.RF_CONTROL p
  let x := s.front p
  if bit v 0 then
    if bit (s.rd addr) 0 ∧ s.rd (Obj.RF_STATE p) ≠ touchOff then (Status.ok, s.setFront p { x with ending := false })
    else if geometryBad (s.rd (Obj.RF_GEOMETRY p)) || (match s.panel p with | some k => s.pairOdd k | none => false)
        || s.touchBell p (s.rd (Obj.RF_DOORBELL p)) then (Status.touchConfigInvalid, s)
    else if s.scanBudgetBroken p then (Status.scanBudget, s)
    else (Status.ok, ((s.wr addr 1).setFront p { force := x.force }).baseline p)
  else
    let s := s.wr addr 0
    if s.rd (Obj.RF_STATE p) = touchOff then (Status.ok, s)
    else match x.window with
      | some _ => (Status.ok, s.setFront p { x with ending := true })
      | none => (Status.ok, s.frontOff p ⟨s.now, s.dtime, 0, bit (s.rd (Obj.RF_STATUS p)) 4⟩)

/-- RF_ENABLE (R460). -/
def execRfEnable (rq : Requester) (p : Fin 2) (v : BitVec 32) (s : State) : Out :=
  .next (s.ownRequest rq (Obj.RF_CONTROL p.val) v.toNat (fun s => s.writeRfControl p.val v.toNat))

/-- RF_DISABLE (R478). -/
def execRfDisable (rq : Requester) (p : Fin 2) (v : BitVec 32) (s : State) : Out :=
  .next (s.ownRequest rq (Obj.RF_CONTROL p.val) v.toNat (fun s => s.writeRfControl p.val v.toNat))

/-- A write of KB_ENABLE (R474, R478, R480). -/
def State.writeKbEnable (s : State) (v : Nat) : Nat × State :=
  let kb := s.keyBank
  if v = 1 then
    if s.rd Obj.KB_ENABLE = 1 ∧ s.rd Obj.KB_STATE ≠ touchOff then (Status.ok, s.setKeys { kb with ending := false })
    else if s.touchBell 2 (s.rd Obj.KB_DOORBELL) then (Status.touchConfigInvalid, s)
    else (Status.ok, ((s.wr Obj.KB_ENABLE 1).setKeys {}).wr Obj.KB_STATE touchBaselining)
  else
    let s := s.wr Obj.KB_ENABLE 0
    if s.rd Obj.KB_STATE = touchOff then (Status.ok, s)
    else if kb.window.isSome then (Status.ok, s.setKeys { kb with ending := true })
    else
      let off := kb.keys.map (fun k => { k with pressed := false, long := false })
      let s := if kb.keys.any Key.pressed then s.reportKeys (keyReport ⟨s.now, s.dtime, 0, false⟩ kb.scans kb.keys off) else s
      (Status.ok, (s.setKeys {}).wr Obj.KB_STATE touchOff)

/-- KB_ENABLE (R474, R478). -/
def execKbEnable (rq : Requester) (v : Fin 256) (s : State) : Out :=
  .next (s.ownRequest rq Obj.KB_ENABLE v.val (fun s => s.writeKbEnable v.val))

/-- A wake by a touch, in the order of R597's list. -/
def wakeTouch : Nat := 2

/-- WAKE_SCAN (R477): the signals of the four groups of RX electrodes. -/
def execWakeScan (p : Fin 2) (groups : List Int) (s : State) : Out :=
  if s.rd (Obj.RF_STATE p.val) ≠ touchWake then .next s
  else
    let x := s.front p.val
    let thr := Int.ofNat (s.rd Obj.TOUCH_WAKE_THRESHOLD)
    let runs := (List.range 4).map (fun g => if thr ≤ groups.getD g 0 then x.wakeRuns.getD g 0 + 1 else 0)
    let s := s.setFront p.val { x with wakeRuns := runs }
    match (List.range 4).find? (fun g => Nat.ble 2 (runs.getD g 0)) with
    | none => .next s
    | some g =>
      let s := s.setFront p.val { s.front p.val with wakeRuns := [] }
      .next ((s.logEvent Ev.touchWake noOwner [d8 p.val, d8 g]).wake wakeTouch)

/-- S4 is entered: windows stop, baselines stay, enabled front ends wait for a touch where TOUCH_WAKE_EN is 1 (R477). -/
def State.touchSleep (s : State) : State :=
  let s := s.each (List.range 2) (fun s p =>
    if !s.scans p then s
    else
      let s := s.setFront p { s.front p with window := none, wakeRuns := [] }
      if s.rd Obj.TOUCH_WAKE_EN = 1 then s.wr (Obj.RF_STATE p) touchWake else s)
  s.setKeys { s.keyBank with window := none }

/-- S4 is left: each unit resumes RUNNING with its baselines, its contacts cleared (R477). -/
def State.touchResume (s : State) : State :=
  let s := s.each (List.range 2) (fun s p =>
    if s.rd (Obj.RF_STATE p) = touchOff then s
    else (s.setFront p { s.front p with window := none, contacts := [] }).wr (Obj.RF_STATE p) touchRunning)
  if s.rd Obj.KB_STATE = touchOff then s
  else (s.setKeys { s.keyBank with window := none, keys := s.keyBank.keys.map (fun k => { k with pressed := false, long := false }) }).wr Obj.KB_STATE touchRunning

/-- A reset of the TOUCH domain: enabled units enter BASELINING (R460, R474). -/
def State.touchRestart (s : State) : State :=
  let s := s.each (List.range 2) (fun s p =>
    let s := (s.setFront p { force := (s.front p).force }).wr (Obj.RF_STATUS p) 0
    s.wr (Obj.RF_STATE p) (if bit (s.rd (Obj.RF_CONTROL p)) 0 then touchBaselining else touchOff))
  (s.setKeys {}).wr Obj.KB_STATE (if s.rd Obj.KB_ENABLE = 1 then touchBaselining else touchOff)

/-- Is a write of an RWS object of a touch unit refused: the unit is not OFF (R457, R478)? -/
def State.touchBusyAt (s : State) (addr : Nat) : Bool :=
  let x := addr / 256
  if 0x5180 ≤ x then !decide (s.rd Obj.KB_STATE = touchOff) else !decide (s.rd (Obj.RF_STATE (x % 16)) = touchOff)

end Sys2Proof.Machine
end

