-- ==== Sys2Proof/Machine/Instances.lean ====
section
/-! DEFINITION. Instances (R300 to R304, R311, R324, R329 to R332): creation, reset and removal step by step, Function Level Reset, layer grants, and
DMA transfers. -/
namespace Sys2Proof.Machine
open Sys2Proof

/-! ## Creation (R300 to R303) -/

/-- Instances bound to a port. -/
def State.boundTo (s : State) (p : Nat) : List Nat :=
  (List.range 64).filter (fun i => !decide ((s.inst i).state = .free) && decide ((s.inst i).port = p))

/-- Is a PASID bound on a port, or 0, the manager's (R300, R301)? -/
def State.pasidUsed (s : State) (p pasid : Nat) : Bool :=
  decide (pasid = 0) || (s.boundTo p).any (fun i => decide ((s.inst i).pasid = pasid))

/-- The objects of an instance stand at their defaults (R303). -/
def State.defaultInstance (s : State) (i : Nat) : State :=
  { s with objs := s.objs.filter (fun e => !decide (e.1 / 256 = 0x1300 + i)) }

/-- The DRAM held outside surfaces and outputs. -/
def State.setAreas (s : State) (l : List Area) : State := { s with grip := { s.grip with areas := l } }

/-- Bytes of a context save area (R294). -/
def contextBytes : Nat := 12648448

/-- A context save area for an owner, on 8 channels with a 256 B granule, if there is room (R294). -/
def State.placeContext (s : State) (o : Nat) : Option State :=
  (s.findPlace o contextBytes 0 8 false (s.eligible false)).map (fun p => s.setAreas (s.grip.areas ++ [⟨o, p, contextBytes⟩]))

/-- The areas of an owner are freed. -/
def State.dropAreas (s : State) (o : Nat) : State := s.setAreas (s.grip.areas.filter (fun a => !decide (a.owner = o)))

/-- INST_CREATE (R301 to R303): the checks, then the lowest free number, a fresh key slot, a context area and a window. It waits while Bittern is down,
which gives the key. A SHARE outside 1 to 1,000 is refused with INTENT_INVALID, and a context area that does not fit with PLACE_NO_SPACE (log
entry 52). -/
def execInstCreate (o : Owner) (q : Fin 16) (s : State) : Out :=
  if s.bitternDown then .next s
  else .next (s.onItem o.code q.val 0x10 (fun s it =>
    let d := it.desc
    let p := dfield d 65 64
    let pasid := dfield d 87 68
    let share := dfield d 105 96
    if o.code ≠ 0x40 then s.finish it.id Status.notManager
    else if share = 0 ∨ 1000 < share then s.finish it.id Status.intentInvalid
    else match s.freeKeySlot, (List.range 64).find? (fun i => decide ((s.inst i).state = .free)) with
      | some k, some i =>
        if s.rd (Obj.PORT_INST_QUOTA p) ≤ (s.boundTo p).length then s.finish it.id Status.instanceLimit
        else if s.pasidUsed p pasid then s.finish it.id Status.pasidInUse
        else match s.placeContext i with
          | none => s.finish it.id Status.placeNoSpace
          | some s =>
            let s := (s.loadKey k i).defaultInstance i
            let s := (s.wr (Obj.INST_SHARE i) share).setInst i { state := .active, port := p, pasid := pasid, shareNow := share }
            (s.complete it.id Status.ok i).logEvent Ev.instanceCreated i [d8 i, d8 p, d32 pasid]
      | _, _ => s.finish it.id Status.instanceLimit))

/-! ## Gaffer's commits (R324, R330) -/

/-- Gaffer commits an output, waking one in GLASS_HOLD; a stopped output and the odd member of a pair take no commit. Its SEQ is a free value. -/
def State.commitByGaffer (s : State) (k : Nat) : State :=
  let x := s.out k
  if s.pairOdd k || !x.state.running then s
  else
    let f := s.fresh
    let n := f.2.nextOrder
    let s : State := { n.2 with nextItem := n.2.nextItem + 1 }
    let after := match x.phase with | .blanking => true | .going _ => true | _ => false
    let c : Commit := { item := s.nextItem - 1, owner := 0xC0, seq := f.1 % 2 ^ 32, order := n.1, acceptedAt := s.clock.ticks
                        missed := x.strict && after }
    let s := s.modOut k (fun x => { x with pending := x.pending ++ [c] })
    if x.state = .glassHold then s.wakeOutput k s.dtime else s

/-- Positions granted by a value of INST_LAYER_GRANTS; bit 15 is reserved (R324). -/
def grantList (v : Nat) : List (Nat × Nat) :=
  (List.range 12).flatMap (fun k => (List.range 15).filterMap (fun z => if bit v (16 * k + z) then some (k, z) else none))

/-- Positions of outputs are set OFF in the shadow, and Gaffer commits each output concerned: the state and those outputs. -/
def State.withdraw (s : State) (ps : List (Nat × Nat)) : State × List Nat :=
  let s := s.each ps (fun s p => { s with shadow := Tab.drop s.shadow (16 * p.1 + p.2) })
  let ks := (List.range 12).filter (fun k => ps.any (fun p => decide (p.1 = k)))
  (s.each ks (fun s k => s.commitByGaffer k), ks)

/-- INST_LAYER_GRANTS after step 7 of R536 (R323, R324). -/
def State.writeGrants (s : State) (i v : Nat) : Nat × State :=
  let new := grantList v
  let old := grantList (s.rd (Obj.INST_LAYER_GRANTS i))
  let taken := fun (p : Nat × Nat) => (List.range 64).any (fun j => !decide (j = i) && bit (s.rd (Obj.INST_LAYER_GRANTS j)) (16 * p.1 + p.2))
  if s.rd (Obj.INST_LAYER_QUOTA i) < new.length ∨ (new.any taken) then (Status.quotaExceeded, s)
  else
    let s := s.wr (Obj.INST_LAYER_GRANTS i) (sumNat (new.map (fun p => 2 ^ (16 * p.1 + p.2))))
    (Status.ok, (s.withdraw (old.filter (fun p => !new.contains p))).1)

/-- INST_LAYER_GRANTS_WRITE (R324). -/
def execInstLayerGrantsWrite (rq : Requester) (i : Fin 64) (v : Nat) (s : State) : Out :=
  .next (s.ownRequest rq (Obj.INST_LAYER_GRANTS i.val) v (fun s => s.writeGrants i.val v))

/-! ## Step 1 (R329, R330, R525) -/

/-- Slots armed for an owner, or naming it in a PREEMPT_RASTER action, are disarmed, and its guards are gone (R330). -/
def State.disarmFor (s : State) (o : Nat) : State :=
  let s := s.each (List.range 256) (fun s n =>
    if s.armed n ∧ (s.rd (Obj.SLOT_OWNER n) = o ∨ (s.rd (Obj.SLOT_ACTION n) = 1 ∧ o < 64 ∧ field (s.rd (Obj.SLOT_ARG n)) 5 0 = o)) then
      (s.writeSlotControl n 0).2
    else s)
  { s with guards := s.guards.filter (fun g => !(decide (g.victim = o) && g.fired.isNone)) }

/-- Step 1 of a reset or removal that may drain for so many ns: fetching stops, slots are disarmed, audio stops. -/
def State.startReset (s : State) (o : Nat) (remove : Bool) (asker : Option Nat) (drainNs : Nat) : State :=
  let s := s.modInst o (fun x => { x with
    state := .draining, removing := remove, asker := asker, squashed := 0, awaitFlip := [], drainUntil := s.dtime + drainNs })
  let s := s.disarmFor o
  if o < 64 then s.stopInstanceAudio o remove else s

/-- D of R330, in ns. The manager has no INST_DRAIN_TIME: its drain takes the object's default of 10 ms (log entry 53). -/
def State.drainTime (s : State) (o : Nat) : Nat := (if o < 64 then s.rd (Obj.INST_DRAIN_TIME o) else 10) * 1000000

/-- The instance that an INST_CONTROL names. -/
def controlTarget (d : BitVec 512) : Nat := if dbit d 70 then 0x40 else dfield d 69 64

/-- INST_CONTROL (R329): its refusals, then step 1. A reset of the manager by its own item completes at once; every other one at the end. Gaffer and
Bittern may not send it: only the manager resets and removes instances (R301). -/
def State.instControl (s : State) (owner : Nat) (it : Item) (remove : Bool) : State :=
  let d := it.desc
  let t := controlTarget d
  if owner ≠ 0x40 then s.finish it.id Status.notManager
  else if t = 0x40 ∧ (remove ∨ dfield d 69 64 ≠ 0) then s.finish it.id Status.intentInvalid
  else if t < 64 ∧ (s.inst t).state = .free then s.finish it.id Status.intentInvalid
  else if s.resetting t then s.finish it.id Status.instanceBusy
  else if t = 0x40 then (s.finish it.id Status.ok).startReset t false none (s.drainTime t)
  else s.startReset t remove (some it.id) (s.drainTime t)

/-- INST_CONTROL_OP_RESET (R329, R330). -/
def execInstControlOpReset (o : Owner) (q : Fin 16) (s : State) : Out :=
  .next (s.onItemIf o.code q.val 0x11 (fun d => !dbit d 72) (fun s it => s.instControl o.code it false))

/-- INST_CONTROL_OP_REMOVE (R329, R330). -/
def execInstControlOpRemove (o : Owner) (q : Fin 16) (s : State) : Out :=
  .next (s.onItemIf o.code q.val 0x11 (fun d => dbit d 72) (fun s it => s.instControl o.code it true))

/-- INST_CONTROL_RESET (R305, R329): a window that is not there takes no write, and one whose reset runs starts none. -/
def execInstControlReset (w : Window) (s : State) : Out :=
  let o := w.code
  if !s.windowLive o || s.resetting o then .next s else .next (s.startReset o false none (s.drainTime o))

/-! ## Step 3 (R330, R331) -/

/-- An item of an instance in TEARDOWN ends SQUASHED; what it waited in forgets it. -/
def State.squashItem (s : State) (o : Nat) (it : Item) : State :=
  let s := s.modInst o (fun x => { x with squashed := x.squashed + 1 })
  let s := s.modRaster (fun r => { r with creating := r.creating.filter (fun c => !decide (c.item = it.id)) })
  match s.job? it.id with
  | some j => if j.resident then s.failJob j Status.squashed 0xFFFF else s.endJob j Status.squashed 0
  | none =>
    let s := s.each (List.range 12) (fun s k => s.modOut k (fun x => { x with
      pending := x.pending.filter (fun (c : Commit) => !decide (c.item = it.id)) }))
    s.finish it.id Status.squashed

/-- Has an item started for R330: a resident job, a transfer in progress, or another item that its command has taken; a waiting job has not? -/
def State.hasBegun (s : State) (it : Item) : Bool :=
  match s.job? it.id with
  | some j => j.resident
  | none => it.started

/-- A commit that has been latched ends with its flip (R197, R330). -/
def State.latched (s : State) (it : Item) : Bool :=
  decide (dType it.desc = 0x31) && it.started
    && !(List.range 12).any (fun k => (s.out k).pending.any (fun (c : Commit) => decide (c.item = it.id)))

/-- Step 3 and the start of step 4: items not started are squashed in queue order, then what runs; transfers in progress and latched commits end by
themselves; granted positions are withdrawn. -/
def State.teardown (s : State) (o : Nat) : State :=
  let s := s.modInst o (fun x => { x with state := .teardown, suspended := false })
  let s := { s with guards := s.guards.filter (fun g => !decide (g.victim = o)) }
  let mine := s.itemsOf o
  let late := mine.filter s.hasBegun
  let s := s.each (mine.filter (fun i => !s.hasBegun i)) (fun s it => s.squashItem o it)
  let s := s.each (late.filter (fun i => !decide (dType i.desc = 0x08) && !s.latched i)) (fun s it => s.squashItem o it)
  if o < 64 then
    let w := s.withdraw (grantList (s.rd (Obj.INST_LAYER_GRANTS o)))
    w.1.modInst o (fun x => { x with awaitFlip := w.2.filter (fun k => (w.1.out (w.1.governor k)).state.running) })
  else s

/-- DRAIN_END (R330): the drain ends at t0 + D, or once nothing is in flight. -/
def execDrainEnd (w : Window) (s : State) : Out :=
  let o := w.code
  let x := s.inst o
  if x.state = .draining ∧ (x.drainUntil ≤ s.dtime ∨ s.itemsOf o = []) then .next (s.teardown o) else .next s

/-! ## Steps 6 and 7 (R330, R381) -/

/-- What an instance held is freed: surfaces, pools, pipelines, translations, context area; dirty logging stops (R330, step 6). -/
def State.freeInstance (s : State) (o : Nat) : State :=
  let mine := (s.grip.surfaces.filter (fun e => decide (e.2.owner = o))).map Prod.fst
  let s := s.each mine (fun s n => s.release n none)
  let s := s.modRaster (fun r => { r with
    pools := Tab.drop r.pools o
    pipelines := r.pipelines.filter (fun e => !decide (e.1 / 1024 = o))
    cache := r.cache.filter (fun t => !decide (t.owner = o))
    saved := Tab.drop r.saved o })
  let s := (s.dropAreas o).endWindow o
  s.modInst o (fun x => { x with dirty := { x.dirty with enable := false, swapAsked := false } })

/-- Step 7 of a reset: a fresh key in the same slot, queues disabled, counts at 0 (R330). The context area of an instance is placed again (log
entry 54). -/
def State.resetDone (s : State) (o : Nat) : State :=
  let s := match s.keyOf o with
    | some n => (s.retireKey n).loadKey n o
    | none => s
  let s := if o < 64 then (s.placeContext o).getD s else s
  s.modInst o (fun x => { x with
    state := .active, resetDone := true, busOff := false, flrSquashed := [], asker := none, crHead := 0, crTail := 0
    queues := x.queues.map (fun e => (e.1, { e.2 with enable := false, head := 0, tail := 0 })) })

/-- Step 7 of a removal: the key slot is retired, the PASID unbound and the window gone (R330). -/
def State.removeDone (s : State) (o : Nat) : State :=
  let s := match s.keyOf o with
    | some n => s.retireKey n
    | none => s
  ({ s with insts := Tab.drop s.insts o } : State).defaultInstance o

/-- RESET_DONE (R330 to R332): steps 4 and 5 are done once no item and no awaited flip is left and nothing refers to the surfaces; Bittern must be up to
retire the key. -/
def execResetDone (w : Window) (s : State) : Out :=
  let o := w.code
  let x := s.inst o
  let held := s.grip.surfaces.any (fun e => decide (e.2.owner = o) && s.referred e.1)
  if x.state ≠ .teardown ∨ s.itemsOf o ≠ [] ∨ x.awaitFlip ≠ [] ∨ held ∨ s.bitternDown then .next s
  else
    let s := s.each x.flrSquashed (fun s e => s.logEvent Ev.flrSquash o [d8 o, d8 e.1, d32 e.2.1, d32 e.2.2])
    let s := s.freeInstance o
    let s := if x.removing then s.removeDone o else s.resetDone o
    let s := s.logEvent Ev.resetDone o [d8 o, dFlag x.removing, d32 x.squashed]
    .next (match x.asker with
      | some id => s.finish id Status.ok
      | none => s)

/-! ## Function Level Reset (R332) -/

/-- A removal with no drain of an instance, one already begun included; the manager is reset. -/
def State.flrInstance (s : State) (busMaster : Bool) (o : Nat) : State :=
  let remove := decide (o < 64)
  let s := s.modInst o (fun x => { x with busOff := !busMaster })
  if s.resetting o then s.modInst o (fun x => { x with removing := remove, drainUntil := s.dtime })
  else s.startReset o remove none 0

/-- FUNCTION_LEVEL_RESET (R332): every instance bound to the port, and the manager if it is bound there. -/
def execFunctionLevelReset (hp : Fin 4) (busMaster : Bool) (s : State) : Out :=
  let mgr := s.inst 0x40
  let os := s.boundTo hp.val ++ (if mgr.state ≠ .free ∧ mgr.port = hp.val then [0x40] else [])
  .next (s.each os (fun s o => s.flrInstance busMaster o))

/-! ## DMA transfers (R311, R320, R370, R382) -/

/-- Owners with a transfer that waits to begin and may. -/
def State.dmaWaiting (s : State) : List Nat :=
  (s.items.filter (fun i => !i.started && decide (dType i.desc = 0x08) && s.mayStart i && !(s.inst i.owner).suspended)).map Item.owner

/-- DMA_COPY (R311, R320): refused outside the surface; begun when its owner is not suspended and no owner with a higher balance of DMA engine time
waits. -/
def execDmaCopy (o : Owner) (q : Fin 16) (s : State) : Out :=
  match s.nextItemOf o.code q.val 0x08 with
  | none => .next s
  | some it =>
    let d := it.desc
    let n := dfield d 95 80
    let bytes := dfield d 223 192
    if !s.ownsSurface o.code n || decide (bytes = 0) || Nat.blt 268435456 bytes || Nat.blt (s.surf n).bytes (dfield d 191 160 + bytes) then
      .next ((s.startItem it.id).finish it.id Status.layerSource)
    else if s.releasing n then .next ((s.startItem it.id).finish it.id Status.surfaceReleasing)
    else if (s.inst o.code).suspended ∨ s.dmaWaiting.any (fun x => decide ((s.inst o.code).dmaBalance < (s.inst x).dmaBalance)) then .next s
    else .next ((s.cutoverAtStart [n]).startItem it.id)

/-- What a transfer that failed may have moved, any part of its bytes: nothing of the range is known any more (R311, R331). -/
def State.dmaLost (s : State) (it : Item) : State :=
  let d := it.desc
  let o := dfield d 191 160
  let n := dfield d 223 192
  if dbit d 64 then s.ioWrite it.owner (dfield d 159 96) n
  else if s.ownsSurface it.owner (dfield d 95 80) then s.forgetBytes (dfield d 95 80) (fun a => Nat.ble o a && Nat.blt a (o + n))
  else s

/-- A transfer fails. -/
def State.dmaFails (s : State) (it : Item) (status detail : Nat) : State := (s.dmaLost it).complete it.id status detail

/-- A transfer whose key slot does not own the surface's blocks (R382). -/
def State.dmaMismatch (s : State) (it : Item) (slot : Nat) (injected : Bool) : State :=
  let d := it.desc
  let addr := ((s.surf (dfield d 95 80)).addrOf (dfield d 191 160)).getD 0
  (s.ownerMismatch it.owner addr slot injected).dmaFails it Status.dramOwnerMismatch 0

/-- A transfer moves its bytes (R311, R369, R370). -/
def State.dmaMoves (s : State) (it : Item) (data : List (BitVec 8)) : State :=
  let d := it.desc
  let sf := dfield d 95 80
  let o := dfield d 191 160
  let n := dfield d 223 192
  let host := dfield d 159 96
  if dbit d 64 then
    if s.rangePoisoned sf o n then s.dmaFails it Status.poisonedRead 0
    else (((s.emit (.hostWrite it.owner host n (s.surfBytes sf o n))).ioWrite it.owner host n)).finish it.id Status.ok
  else
    let r := s.store sf o (data.take n)
    r.1.finish it.id (if r.2 then Status.ok else Status.poisonedRead)

/-- The end of a transfer in progress with a result. -/
def State.dmaEnds (s : State) (it : Item) (result : TransferResult) (data : List (BitVec 8)) : State :=
  let wrong := s.inject 7 (requesterId it.owner)
  match wrong.1 with
  | some p => (wrong.2.modItem it.id (fun i => { i with injected := true })).dmaMismatch { it with injected := true } p true
  | none =>
    let host := if hasWindow it.owner then wrong.2.inject 18 (s.inst it.owner).port else (none, wrong.2)
    let s := host.2
    match host.1, result with
    | some _, _ => (s.modItem it.id (fun i => { i with injected := true })).dmaFails it Status.dmaFault 0
    | none, .hostFault off => s.dmaFails it Status.dmaFault (off / 4096)
    | none, .poisoned _ => s.dmaFails it Status.poisonedRead 0
    | none, .ownerMismatch => s.dmaMismatch it ((s.keyOf it.owner).getD 0) false
    | none, .done =>
      if !s.ownsSurface it.owner (dfield it.desc 95 80) then s.dmaMismatch it ((s.keyOf it.owner).getD 0) false
      else s.dmaMoves it data

/-- DMA_COMPLETE (R311, R313, R320, R330): a transfer in progress ends, after so much DMA engine time; in TEARDOWN it is DRAINED_LATE. A transfer to a
surface carries its bytes. -/
def execDmaComplete (j : Nat) (result : Sys2Proof.TransferResult) (data : List (BitVec 8)) (engineNs : Nat) (s : State) : Out :=
  match s.item? j with
  | none => .next s
  | some it =>
    if !it.started || !decide (dType it.desc = 0x08) || (decide (result = .done) && !dbit it.desc 64 && Nat.blt data.length (dfield it.desc 223 192)) then
      .next s
    else
      let s := if it.owner < 64 then s.modInst it.owner (fun x => { x with dmaBalance := x.dmaBalance - Int.ofNat engineNs }) else s
      if hasWindow it.owner && decide ((s.inst it.owner).state = .teardown) then .next (s.dmaFails it Status.drainedLate 0)
      else .next (s.dmaEnds it result data)

end Sys2Proof.Machine
end

