-- ==== Sys2Proof/Machine/Reset.lean ====
section
/-! DEFINITION. What resets do (R586, R609 to R612, R617 to R624, R628): power-on, cold and warm resets, Gaffer restarts, and blocks held in reset. -/
namespace Sys2Proof.Machine
open Sys2Proof

/-! ## Power-on, cold and warm resets (R609 to R612, R622) -/

/-- RST_LAST_KIND. -/
def kindPowerOn : Nat := 0
/-- A cold reset. -/
def kindCold : Nat := 1
/-- A warm reset. -/
def kindWarm : Nat := 2

/-- Objects whose value fuses hold; no reset changes them. -/
def fusedObject (a : Nat) : Bool :=
  [Obj.DEV_ORDERING_CODE, Obj.DEV_SERIAL, Obj.RC_TRIM, Obj.BIT_SECURITY_VERSION, Obj.BIT_ROOT_KEY_HASH, Obj.BIT_PROVISION_KEY,
    Obj.PROD_ROOT_KEY_HASH, Obj.PROD_SECURITY_VERSION, Obj.PROD_LOCKED].contains a

/-- Objects that report what the AON domain holds or the PLLs do through a warm reset: oscillators, PLLs, monitors, multiplexers, rails, Sluice's
ceilings, and the straps (R609, R618; log entry 62); and PORT_KIND, which only a power-on or cold reset changes (R222). -/
def aonObject (a : Nat) : Bool :=
  let x := a / 256
  decide (x = 0x7000) || (Nat.ble 0x7010 x && Nat.blt x 0x701A) || (Nat.ble 0x7030 x && Nat.blt x 0x703B) || (Nat.ble 0x71A0 x && Nat.blt x 0x71B3)
    || (Nat.ble 0x7400 x && Nat.blt x 0x740C) || (Nat.ble 0x2510 x && Nat.blt x 0x251E && decide (a % 256 = 1))
    || [Obj.PWR_STATUS, Obj.PWR_DRAWN_MW, Obj.RAS_POWER_CEILING, Obj.GAF_CLOCK_NOW, Obj.PWR_TJ_C, Obj.RST_STRAPS].contains a

/-- The persistence class of an address. -/
def persOf (a : Nat) : Persistence := match rowAt a with | some r => r.pers | none => .volatile

/-- Does an object keep its value through a reset of a kind (R538, R622)? -/
def keptAt (kind a : Nat) : Bool :=
  fusedObject a || (match persOf a with
    | .latched => !decide (kind = kindPowerOn)
    | .retained => decide (kind = kindWarm)
    | _ => decide (kind = kindWarm) && aonObject a)

/-- The stored image after a reset that interrupts a COMMIT: the copy that was being written is not valid (R541, R621). -/
def Flash.interrupted (f : Flash) : Flash :=
  let copies := if f.commit.isSome then Tab.drop f.copies (match f.last with | some c => 1 - c | none => 0) else f.copies
  { copies := copies }

/-- The slot that the ROM measures first under STRAP_BOOT (R612, R613). -/
def firstSlot (straps : Nat) : Nat :=
  match field straps 5 4 with
  | 0 => 0
  | 1 => if Config.slotBNewer then 1 else 0
  | b => b

/-- What every power-on, cold and warm reset leaves: objects under the persistence table, the mirror, the flash, pin levels, and what the model keeps
for itself. -/
def State.afterReset (s : State) (kind : Nat) : State :=
  { objs := s.objs.filter (fun e => keptAt kind e.1)
    log := { mirror := if kind = kindPowerOn then [] else s.log.mirror }
    io := s.io, freeDrawn := s.freeDrawn, nextItem := s.nextItem, order := s.order, pending := s.pending
    flash := s.flash.interrupted
    ports := s.ports.map (fun e => (e.1, { level := e.2.level, debouncing := e.2.level })) }

/-- A power-on or cold reset and its release: start-up begins at step 1 of R615, with strict commit mode (R200). -/
def State.fullReset (s : State) (kind cause straps : Nat) : State :=
  let straps := straps &&& 0x0F37
  let s := s.afterReset kind
  let s := ((s.wr Obj.RST_LAST_KIND kind).wr Obj.RST_LAST_CAUSE cause).wr Obj.RST_STRAPS straps
  (s.modBoot (fun b => { b with measuring := firstSlot straps })).logEvent Ev.strictEnter noOwner [d32 0xFFF, dCase Ev.strictEnter 0]

/-- Below the watermark on its channel? DRAM there keeps its bytes through a warm reset (R622). -/
def State.belowWatermark (s : State) (a : Nat) : Bool :=
  (List.range 8).any (fun m => bit s.memConf.channels m && Nat.ble (deviceAddr m 0) a && Nat.blt a (deviceAddr m s.secureTop))

/-- Key slots after a warm reset: slot 0 keeps its key, and slots 1 and 2 their GENERATION (R381, R622). -/
def warmKeys (k : Tab KeySlot) : Tab KeySlot :=
  (k.filter (fun e => Nat.blt e.1 3)).map (fun e => if e.1 = 0 then e else (e.1, ⟨0, 0, e.2.generation⟩))

/-- A warm reset (R609, R618): AON runs on, DRAM below the watermark, key slot 0 and the memory configuration stay, and start-up begins at step 4 of
R615. Bittern stays HALTED where it was (R404). -/
def State.warmReset (s : State) (cause : Nat) : State :=
  let straps := s.rd Obj.RST_STRAPS
  let halted := decide (s.bitState = 5)
  let recovery := decide (2 ≤ field straps 5 4)
  let result := s.rd Obj.BIT_BOOT_RESULT
  let low := s.belowWatermark
  let port := s.boot.mgrPort
  let s := { s.afterReset kindWarm with
    clock := s.clock, memConf := s.memConf, keys := warmKeys s.keys
    mem := Memory.drop s.mem (fun a => !low a)
    dram := { poisoned := s.dram.poisoned.filter (fun l => low (64 * l)) }
    power := { s.power with exitCause := none }
    clocks := { runs := s.clocks.runs } }
  let s := ((s.wr Obj.RST_LAST_KIND kindWarm).wr Obj.RST_LAST_CAUSE cause).count Obj.RST_WARM_COUNT
  let s := s.each (List.range 19) (fun s x => s.wr (Obj.MUX_STATUS x) 0)
  let s := s.modBoot (fun b => { b with
    stage := if halted then 7 else if recovery then 3 else 2
    since := s.dtime, measuring := firstSlot straps, mgrPort := port })
  let s := if halted then (s.wr Obj.BIT_STATE 5).wr Obj.BIT_BOOT_RESULT result else s.wr Obj.BIT_STATE 1
  s.warmCoast

/-- Is the device held in reset by a thermal trip, so that only a power-on reset acts (R601, R610)? -/
def State.heldInReset (s : State) : Bool := s.boot.tripped

/-- A cold reset by a cause, unless a wider one holds the device (R610). -/
def State.coldReset (s : State) (cause straps : Nat) : State := if s.heldInReset then s else s.fullReset kindCold cause straps

/-! ## Gaffer restarts (R619, R620) -/

/-- A Gaffer restart for a cause (1 watchdog, 2 request, 3 FORCE_SEL, 4 Gaffer SRAM, by their place in R619; log entry 38), or a warm reset at the fourth within 60 s. Gaffer
restarts only where it runs, at STAGE READY. -/
def State.gafferRestart (s : State) (cause : Nat) (injected : Bool) : State :=
  if s.boot.stage ≠ 6 then s
  else
    let recent := s.boot.gafRestarts.filter (fun t => Nat.blt s.dtime (t + 60000000000))
    if 3 ≤ recent.length then s.warmReset 8
    else
      let s := (s.count Obj.RST_GAF_RESTARTS).modBoot (fun b => { b with
        stage := 8, gafT0 := some s.dtime, gafRestarts := recent ++ [s.dtime], gafMark := s.nextItem })
      (s.logInjected Ev.gafferRestartStart noOwner injected [dCase Ev.gafferRestartStart cause]).closeSessions closeRestart

/-- A fault of Gaffer's own: genuine, or injected while point d is armed (R638, R640). -/
def State.gafferFault (s : State) (d cause : Nat) (genuine : Bool) : State :=
  if genuine then s.gafferRestart cause false
  else match s.inject d 0 with
    | (none, s) => s
    | (some _, s) => s.gafferRestart cause true

/-! ## Blocks held in reset (R586, R624) -/

/-- Jobs resident or suspended in the Raster Array end with CLOCK_FORCED: the state and how many. -/
def State.failJobs (s : State) (p : Job → Bool) : State × Nat :=
  let js := s.jobs.filter (fun j => j.resident && p j)
  (s.each js (fun s j => match s.job? j.item with | some j => s.failJob j Status.clockForced 0 | none => s), js.length)

/-- Foley's items in flight end: chimes are stopped, and each stream and bus that runs misses the block in hand. -/
def State.failAudio (s : State) : State × Nat :=
  let gens := (List.range 4).filter (fun g => (s.gen g).now.isSome)
  let streams := (List.range 60).filter (fun u => (s.stream u).running)
  let buses := (List.range 16).filter (fun b => (s.bus b).running)
  let s := s.each gens (fun s g => match (s.gen g).now with | some r => s.chimeEnds g r 2 | none => s)
  let s := s.each streams (fun s u =>
    let x := s.stream u
    s.setStream u { x with missed := oneMissed x.missed x.blockSeq, blockSeq := wrapAdd 32 x.blockSeq 1 })
  let s := s.each buses (fun s b =>
    let x := s.bus b
    s.setBus b { x with missed := oneMissed x.missed x.blockSeq, blockSeq := wrapAdd 32 x.blockSeq 1 })
  (s, gens.length + streams.length + buses.length)

/-- The commits of an output whose raster stops end with CLOCK_FORCED, and its raster waits to start again; Sprocket coasts where it leads. -/
def State.failRaster (s : State) (k : Nat) : State × Nat :=
  let g := s.governor k
  let x := s.out g
  if x.phase = .stopped then (s, 0)
  else
    let cs := (match x.showing with | some c => c.commits | none => []) ++ x.comps.flatMap (fun c => if c.shown then [] else c.commits) ++ x.pending
    let s := s.each cs (fun s c => s.finish c.item Status.clockForced)
    let s := s.modOut g (fun x => { x with
      pending := [], showing := x.showing.map (fun c => { c with commits := [] }), comps := x.comps.map (fun c => { c with commits := [] }) })
    let s := (s.endRaster g).enterAll g .starting
    (s.each (s.members g) (fun s m => s.coastIfLead m 4), cs.length)

/-- Quag's effects end as ABORTED, and a sweep is lost (R498). -/
def State.failHaptics (s : State) : State × Nat :=
  let busy := (List.range 8).filter (fun c => (s.hap c).play.isSome)
  (s.each (List.range 8) (fun s c => (s.abortHap c).setHap c {}), busy.length)

end Sys2Proof.Machine
end

