-- ==== Sys2Proof/Machine/Clocks.lean ====
section
/-! DEFINITION. Clocks (R573 to R593, R624): the crystal, PLLs, monitors, multiplexers, gates and power domains, and the requests on them. -/
namespace Sys2Proof.Machine
open Sys2Proof

/-- The state with the clock tree's own part changed. -/
def State.modClocks (s : State) (f : ClockState → ClockState) : State := { s with clocks := f s.clocks }

/-! ## Clocks in force (R252, R578, R603, R604) -/

/-- The RAS clock's ceiling: RASTER_CLOCK_CEILING, the power limit's and the temperature's (R252, R599, R601). -/
def State.rasCeilingNow (s : State) : Nat := Nat.min (s.rd Obj.RASTER_CLOCK_CEILING) (Nat.min s.power.rasCeiling s.power.hotCeiling)

/-- The smallest power of two up to 8 that brings a clock to or below a limit; 8 where none does (R578, R604). -/
def postDivider (mhz limit : Nat) : Nat := if mhz ≤ limit then 1 else if mhz / 2 ≤ limit then 2 else if mhz / 4 ≤ limit then 4 else 8

/-- Is a PLL running: locked, or in HOLDOVER? -/
def State.pllRuns (s : State) (n : Nat) : Bool := let x := s.rd (Obj.PLL_STATE n); decide (x = 2) || decide (x = 3)

/-- RAS_CLOCK_NOW, MATTE_CLOCK_NOW and GAF_CLOCK_NOW as PLLs, ceilings and a SAG leave them. A rise that waits for its voltage is not in force yet
(R603). -/
def State.showClocks (s : State) : State :=
  let sag := s.power.sag.isSome
  let full := match s.power.avsWaits with | some v => Nat.min v s.rasCeilingNow | none => s.rasCeilingNow
  let ras := if sag then full / postDivider full (s.rd Obj.PWR_SAG_RAS_MHZ) else full
  let mat := s.rd Obj.MATTE_CLOCK_MAX
  let mat := if sag then mat / postDivider mat (s.rd Obj.PWR_SAG_MAT_MHZ) else mat
  let s := if s.pllRuns 2 then (s.wr Obj.RAS_CLOCK_NOW ras).wr (Obj.PLL_FREQ_KHZ 2) (full * 1000) else s.wr Obj.RAS_CLOCK_NOW 0
  let s := s.wr Obj.MATTE_CLOCK_NOW (if s.pllRuns 0 then mat else 0)
  if s.pllRuns 1 then (s.wr Obj.GAF_CLOCK_NOW s.power.gafCeiling).wr (Obj.PLL_FREQ_KHZ 1) (s.power.gafCeiling * 1000) else s.wr Obj.GAF_CLOCK_NOW 0

/-! ## Start of the clocks (R573 to R577, R615) -/

/-- The crystal start-up delay in ms (R574). -/
def xoDelayMs (straps : Nat) : Nat := 2 ^ Nat.min 6 (field straps 2 0)

/-- XO_DELAY_EXPIRY (R574, R575): the ROM begins to count the crystal. -/
def execXoDelayExpiry (s : State) : Out :=
  .next (if s.boot.stage = 1 ∧ s.boot.since + xoDelayMs (s.rd Obj.RST_STRAPS) * 1000000 ≤ s.dtime ∧ s.rd Obj.CLK_SOURCE = 0 then
    s.modClocks (fun c => { c with counting := true })
  else s)

/-- The crystal frequencies that the ROM accepts, in kHz (R575). -/
def crystals : List Nat := [19200, 24000, 25000, 26000, 27000, 38400, 40000, 48000, 52000]

/-- Does a count lie within ±1.8 % of a nominal value? -/
def crystalOk (khz nominal : Nat) : Bool := Nat.ble (nominal * 982) (khz * 1000) && Nat.ble (khz * 1000) (nominal * 1018)

/-- XO_COUNT_DONE (R575, R576): `khz` is the crystal's frequency as counted. -/
def execXoCountDone (khz : Nat) (s : State) : Out :=
  if !s.clocks.counting then .next s
  else
    let s := s.modClocks (fun c => { c with counting := false })
    match crystals.find? (crystalOk khz) with
    | none => .next ((s.haltBittern 0x000C).modBoot (fun b => { b with stage := 7 }))
    | some f =>
      let s := ((s.wr Obj.CLK_SOURCE 1).wr Obj.XO_FREQ_KHZ f).wr (Obj.CLKMON_STATE 0) 1
      let s := (s.wr (Obj.CLKMON_KHZ 0) khz).each (List.range 10) (fun s n => (s.wr (Obj.PLL_ENABLE n) 1).wr (Obj.PLL_STATE n) 1)
      .next (s.logEvent Ev.xoSelected noOwner [d32 f])

/-- The output frequencies of a PLL in kHz (R577). -/
def pllRange (n : Nat) : Nat × Nat :=
  match n with
  | 0 => (2000000, 2000000)
  | 1 => (400000, 2000000)
  | 2 => (400000, 1800000)
  | 3 | 4 => (1600000, 4267000)
  | 5 | 6 | 7 => (2700000, 5400000)
  | 8 => (49152, 49152)
  | _ => (0, 2 ^ 32 - 1)

/-- The PLLs that follow the crystal are locked: device time passes to the SYS PLL, multiplexers leave the RC oscillator, and the ROM measures or waits
for a delivery (R574, R613, R615 steps 3 and 4). -/
def State.clocksReady (s : State) : State :=
  if s.boot.stage = 1 ∧ (List.range 9).all (fun n => s.rd (Obj.PLL_STATE n) = 2) then
    let s := (s.each (List.range 7) (fun s x => s.wr (Obj.MUX_SEL x) 1)).wr Obj.BIT_STATE 1
    s.modBoot (fun b => { b with stage := if 2 ≤ s.strapBoot then 3 else 2 })
  else s

/-- PLL_LOCKED (R577). -/
def execPllLocked (pll : Fin 10) (khz : Nat) (s : State) : Out :=
  let n := pll.val
  if s.rd (Obj.PLL_STATE n) ≠ 1 then .next s
  else
    let f := clampNat (pllRange n).1 (pllRange n).2 khz
    let s := ((s.wr (Obj.PLL_STATE n) 2).wr (Obj.PLL_FREQ_KHZ n) f).wr (Obj.CLKMON_STATE (n + 1)) 1
    .next s.showClocks.clocksReady

/-- Is a gate open, or still closing? -/
def State.gateOpen (s : State) (g : Nat) : Bool := !decide (s.rd (Obj.GATE_STATE g) = 0)

/-- The input that a multiplexer selects. -/
def State.muxSource (s : State) (x : Nat) : Option ClockSource := muxInput x (s.rd (Obj.MUX_SEL x))

/-- The gates that a clock feeds itself, or through a multiplexer that selects it. -/
def State.feeds (s : State) (c : ClockSource) : List Nat :=
  gates.filter (fun g => decide (gateParent g = c) || (match gateParent g with | .mux x => decide (s.muxSource x = some c) | _ => false))

/-- A PLL stops: its monitor reads OFF. -/
def State.stopPll (s : State) (n : Nat) : State :=
  ((s.wr (Obj.PLL_STATE n) 0).wr (Obj.PLL_FREQ_KHZ n) 0).wr (Obj.CLKMON_STATE (n + 1)) 0

/-- PLL_ENABLE after step 7 of R536 (R577, R580). -/
def State.writePllEnable (s : State) (n v : Nat) : Nat × State :=
  if v = 0 then
    if (s.feeds (.pll n)).any s.gateOpen then (Status.childActive, s) else (Status.ok, ((s.wr (Obj.PLL_ENABLE n) 0).stopPll n).showClocks)
  else
    let s := s.wr (Obj.PLL_ENABLE n) 1
    (Status.ok, if s.rd (Obj.PLL_STATE n) = 0 then s.wr (Obj.PLL_STATE n) 1 else s)

/-- PLL_ENABLE (R580). -/
def execPllEnable (rq : Requester) (pll : Fin 10) (v : Fin 256) (s : State) : Out :=
  .next (s.ownRequest rq (Obj.PLL_ENABLE pll.val) v.val (fun s => s.writePllEnable pll.val v.val))

/-! ## Monitors (R581, R582) -/

/-- The gates that a monitor's clock feeds: those below a PLL that is selected, or below any PLL that follows the crystal. -/
def State.monitored (s : State) (m : Nat) : List Nat :=
  let ofPll := fun (n : Nat) => (s.feeds (.pll n)).flatMap gateBelow
  if m = 0 then (List.range 9).flatMap ofPll else ofPll (m - 1)

/-- Does a PLL follow the crystal (R505, R577)? -/
def State.followsCrystal (s : State) (n : Nat) : Bool := Nat.blt n 8 || (decide (n = 8) && decide (s.rd Obj.AUD_D48_REF = 0))

/-- PLLs enter HOLDOVER when the crystal is lost, and pull back in when it returns (R582). -/
def State.crystalLost (s : State) (lost : Bool) : State :=
  s.each ((List.range 9).filter s.followsCrystal) (fun s n =>
    let x := s.rd (Obj.PLL_STATE n)
    if lost && decide (x = 2) then s.wr (Obj.PLL_STATE n) 3 else if !lost && decide (x = 3) then s.wr (Obj.PLL_STATE n) 2 else s)

/-- A monitor's state after a window: 1 OK, 2 OFF_FREQ, 3 STOPPED; the runs of windows outside ±5 % and below 1 % with it. An injection acts at its
window (log entry 65). -/
def monitorNext (cur expected khz : Nat) (runs : Nat × Nat) (inject : Nat) : Nat × (Nat × Nat) :=
  let out := Nat.blt (expected * 105) (khz * 100) || Nat.blt (khz * 100) (expected * 95)
  let runs := (if out then runs.1 + 1 else 0, if khz * 100 < expected then runs.2 + 1 else 0)
  if inject = 1 then (3, runs) else if inject = 2 then (2, runs)
  else if 2 ≤ runs.2 then (3, runs) else if 2 ≤ runs.1 then (2, runs) else if out then (cur, runs) else (1, runs)

/-- The records, interrupts and HOLDOVER that follow a change of a monitor (R581, R582). -/
def State.monitorChange (s : State) (m new khz : Nat) (injected : Bool) : State :=
  let s := s.wr (Obj.CLKMON_STATE m) new
  if new = 1 then
    let s := s.logEvent Ev.clkRecovered noOwner [d8 m]
    if m = 0 then s.crystalLost false else s
  else
    let s := if new = 3 then s.logInjected Ev.clkStopped noOwner injected [d8 m] else s.logInjected Ev.clkOffFreq noOwner injected [d8 m, d32 khz]
    let s := s.each (s.monitored m) (fun s g => s.emit (.irq (0x100 + g) (s.bitternRes (0x100 + g))))
    if m = 0 then s.crystalLost true else s

/-- The ROM takes SYS ÷ 5 again once monitor 1 reads OK (R587). -/
def State.romClock (s : State) : State :=
  if s.rd (Obj.CLKMON_STATE 1) = 1 ∧ s.rd (Obj.MUX_SEL 2) = 0 ∧ s.boot.bitT0.isSome ∧ s.bitState = 1 then s.wr (Obj.MUX_SEL 2) 1 else s

/-- CLKMON_WINDOW (R581, R582): the frequency counted in the window. -/
def execClkmonWindow (m : Fin 11) (khz : Nat) (s : State) : Out :=
  let m := m.val
  let cur := s.rd (Obj.CLKMON_STATE m)
  if cur = 0 then .next s
  else
    let inj := s.rd (Obj.CLKMON_INJECT m)
    let s := s.wr (Obj.CLKMON_INJECT m) 0
    let khz := if inj = 1 then 0 else khz
    let expected := if m = 0 then s.rd Obj.XO_FREQ_KHZ else s.rd (Obj.PLL_FREQ_KHZ (m - 1))
    let r := monitorNext cur expected khz (Tab.get (0, 0) s.clocks.runs m) inj
    let s := (s.wr (Obj.CLKMON_KHZ m) khz).modClocks (fun c => { c with runs := Tab.set c.runs m r.2 })
    .next (if r.1 = cur then s.romClock else (s.monitorChange m r.1 khz (decide (inj ≠ 0))).romClock)

/-- A write of an injection object of a chapter of its own: refused while INJ_ENABLE is 0 (R636). -/
def State.writeInject (s : State) (addr v : Nat) : Nat × State :=
  if v ≠ 0 ∧ s.rd Obj.INJ_ENABLE ≠ 1 then (Status.accessDenied, s) else s.plainWrite addr v

/-- CLKMON_INJECT (R582, R636). -/
def execClkmonInject (rq : Requester) (m : Fin 11) (v : Fin 256) (s : State) : Out :=
  .next (s.ownRequest rq (Obj.CLKMON_INJECT m.val) v.val (fun s => s.writeInject (Obj.CLKMON_INJECT m.val) v.val))

/-! ## Multiplexers (R583 to R587) -/

/-- Does a source run: its monitor reads neither STOPPED nor OFF? The RC oscillator always does. -/
def State.sourceRuns (s : State) : ClockSource → Bool
  | .pll n => let x := s.rd (Obj.CLKMON_STATE (n + 1)); decide (x = 1) || decide (x = 2)
  | _ => true

/-- Does an input of a multiplexer run? -/
def State.inputRuns (s : State) (x i : Nat) : Bool := match muxInput x i with | some c => s.sourceRuns c | none => false

/-- A switch in progress. -/
def State.switch? (s : State) (x : Nat) : Option MuxSwitch := (s.clocks.switches.find? (fun e => decide (e.1 = x))).map Prod.snd

/-- MUX_SEL after step 7 of R536 (R584, R585): the write completes when the switch does. A write of the old input while the new clock has stopped cancels
the switch, whose own write ends with SOURCE_STOPPED (log entry 73). -/
def State.writeMuxSel (s : State) (rq : Requester) (x v : Nat) : Option Nat × State :=
  match s.switch? x with
  | some w =>
    if v = w.old ∧ !s.inputRuns x w.new then
      (some Status.ok, ((s.modClocks (fun c => { c with switches := Tab.drop c.switches x })).wr (Obj.MUX_STATUS x) 0).answerLate w.who (Obj.MUX_SEL x) Status.sourceStopped)
    else (some Status.muxBusy, s)
  | none =>
    match muxInput x v with
    | none => (some Status.ldpRange, s)
    | some src =>
      if !s.sourceRuns src then (some Status.sourceStopped, s)
      else if 7 ≤ x ∧ s.gateOpen (muxGate x) then (some Status.childActive, s)
      else
        let s := s.modClocks (fun c => { c with switches := Tab.set c.switches x ⟨s.rd (Obj.MUX_SEL x), v, s.dtime, false, rq⟩ })
        (none, s.wr (Obj.MUX_STATUS x) 1)

/-- MUX_SEL (R584). -/
def execMuxSel (rq : Requester) (x : Fin 19) (v : Fin 256) (s : State) : Out :=
  .next (s.requestLater rq (Obj.MUX_SEL x.val) v.val (fun s => s.writeMuxSel rq x.val v.val))

/-- The new input is connected and the switch over; the write that began it is answered. -/
def State.connect (s : State) (x : Nat) (w : MuxSwitch) : State :=
  let s := s.modClocks (fun c => { c with switches := Tab.drop c.switches x })
  ((s.wr (Obj.MUX_SEL x) w.new).wr (Obj.MUX_STATUS x) 0).answerLate w.who (Obj.MUX_SEL x) Status.ok

/-- MUX_SWITCH_DONE (R584, R585): both steps are clocked, so a switch from or to a clock that does not run does not complete. -/
def execMuxSwitchDone (x : Fin 19) (s : State) : Out :=
  match s.switch? x.val with
  | some w => .next (if s.inputRuns x.val w.old && s.inputRuns x.val w.new then (s.connect x.val w).showClocks else s)
  | none => .next s

/-- SWITCH_STUCK (R585): once, after 10 µs. -/
def execSwitchStuck (x : Fin 19) (s : State) : Out :=
  match s.switch? x.val with
  | some w =>
    if w.stuck ∨ s.dtime < w.since + 10000 then .next s
    else
      let s := s.modClocks (fun c => { c with switches := Tab.set c.switches x.val { w with stuck := true } })
      .next (s.logEvent Ev.switchStuck noOwner [d8 x.val, d8 w.old, d8 w.new])
  | none => .next s

/-- The blocks below a multiplexer are held in reset, and their items fail (R586). -/
def State.holdBelow (s : State) (x : Nat) : State :=
  let s := s.modClocks (fun c => { c with held := x :: c.held.filter (fun y => !decide (y = x)) })
  let r := if x = 3 then s.failJobs (fun _ => true) else if x = 6 then s.failAudio else s.failRaster (x - 7)
  r.1.logEvent Ev.forceSel noOwner [d8 x, d32 r.2]

/-- FORCE_SEL (R586, R587): MUX_FORCE after step 7 of R536. Bittern's own multiplexer is forced by Bittern alone, whose restart has cause SELF. -/
def State.writeForce (s : State) (x v straps : Nat) (queued : List (Nat × Nat)) : Nat × State :=
  if v = 0 then (Status.ok, s)
  else match s.switch? x with
    | none => (Status.forceNotPending, s)
    | some w =>
      let s := s.connect x w
      (Status.ok,
        if x = 0 ∨ x = 4 ∨ x = 5 then s.coldReset 4 straps
        else if x = 1 then s.gafferRestart 3 false
        else if x = 2 then s.restartBittern 6 false queued
        else (s.holdBelow x).showClocks)

/-- FORCE_SEL (R586). -/
def execForceSel (rq : Requester) (x : Fin 19) (v : Fin 256) (straps : BitVec 16) (queued : List (Nat × Nat)) (s : State) : Out :=
  .next (s.ownRequest rq (Obj.MUX_FORCE x.val) v.val (fun s => s.writeForce x.val v.val straps.toNat queued))

/-- FORCE_SEL_RESET_RELEASE (R586): 64 cycles of the new clock later. -/
def execForceSelResetRelease (x : Fin 19) (s : State) : Out :=
  if !s.clocks.held.contains x.val then .next s
  else
    let s := s.modClocks (fun c => { c with held := c.held.filter (fun y => !decide (y = x.val)) })
    .next (if 7 ≤ x.val then s.tryRaster (x.val - 7) else s)

/-! ## Gates (R588 to R591) -/

/-- Does a domain run? -/
def State.domainOn (s : State) (d : Nat) : Bool := decide (s.rd (Obj.DOM_STATE d) = 1)

/-- GATE_STATE of every gate follows its request and its domain (R591). -/
def State.showGates (s : State) : State :=
  s.each gates (fun s g =>
    if s.rd (Obj.GATE_STATE g) = 2 ∧ s.domainOn (gateDomain g) then s
    else s.wr (Obj.GATE_STATE g) (ofBool (decide (s.rd (Obj.GATE_CTRL g) = 1) && s.domainOn (gateDomain g))))

/-- Gates that no request controls: 0 to 6, and the reserved numbers (R588, R589). -/
def gateFixed (g : Nat) : Bool := Nat.blt g 7 || Nat.ble 120 g

/-- Those who wait for a gate to close are answered. -/
def State.answerClosing (s : State) (g code : Nat) : State :=
  let ws := s.clocks.closing.filter (fun e => decide (e.1 = g))
  (s.modClocks (fun c => { c with closing := c.closing.filter (fun e => !decide (e.1 = g)) })).each ws (fun s e => s.answerLate e.2 (Obj.GATE_CTRL g) code)

/-- A gate opens by request; a close in progress ends with it, refused (log entry 64). -/
def State.openGate (s : State) (g : Nat) : State :=
  ((s.wr (Obj.GATE_CTRL g) 1).wr (Obj.GATE_STATE g) (ofBool (s.domainOn (gateDomain g)))).answerClosing g Status.busyRefused

/-- Gates opened from the top down, each under the checks; the first refusal ends the request (R589). -/
def State.openGates (s : State) (rq : Requester) : List Nat → Nat × State
  | [] => (Status.ok, s)
  | g :: gs =>
    if s.rd (Obj.GATE_CTRL g) = 1 ∧ s.rd (Obj.GATE_STATE g) ≠ 2 then s.openGates rq gs
    else if requesterNormal rq ∧ s.bitternOwns (Obj.GATE_CTRL g) then (Status.ownerLocked, s)
    else (s.openGate g).openGates rq gs

/-- GATE_CTRL written 1, after step 7 of R536 (R589). -/
def State.writeGateOpen (s : State) (rq : Requester) (g : Nat) : Nat × State :=
  if gateFixed g then (Status.notControllable, s) else s.openGates rq ((gateAncestors g 4).reverse ++ [g])

/-- GATE_OPEN (R589). -/
def execGateOpen (rq : Requester) (g : Fin 128) (s : State) : Out :=
  .next (s.ownRequest rq (Obj.GATE_CTRL g.val) 1 (fun s => s.writeGateOpen rq g.val))

/-- Is a child gate open, or does a multiplexer below the gate feed an open gate (R589)? The display roots feed PIXk_SEL. -/
def State.gateChildren (s : State) (g : Nat) : Bool :=
  gates.any (fun x => decide (gateParent x = .gate g) && decide (s.rd (Obj.GATE_CTRL x) = 1))
    || (Nat.ble 51 g && Nat.ble g 53
        && (List.range 12).any (fun k => decide (s.rd (Obj.MUX_SEL (7 + k)) = g - 51) && decide (s.rd (Obj.GATE_CTRL (54 + k)) = 1)))

/-- GATE_CTRL written 0, after step 7 of R536 (R589 to R591): where the domain runs the idle handshake follows, and the write completes with it. -/
def State.writeGateClose (s : State) (rq : Requester) (g : Nat) : Option Nat × State :=
  if gateFixed g then (some Status.notControllable, s)
  else if s.gateChildren g then (some Status.childActive, s)
  else
    let was := s.rd (Obj.GATE_STATE g)
    let s := s.wr (Obj.GATE_CTRL g) 0
    if was = 0 then (some Status.ok, s)
    else (none, (s.wr (Obj.GATE_STATE g) 2).modClocks (fun c => { c with closing := c.closing ++ [(g, rq)] }))

/-- GATE_CLOSE (R590). -/
def execGateClose (rq : Requester) (g : Fin 128) (s : State) : Out :=
  .next (s.requestLater rq (Obj.GATE_CTRL g.val) 0 (fun s => s.writeGateClose rq g.val))

/-- Is a block that a gate clocks known to hold an item: a cluster, an engine, or a pixel clock whose raster runs? -/
def State.gateBusy (s : State) (g : Nat) : Bool :=
  if 14 ≤ g ∧ g < 38 then !(Tab.get [] s.raster.clusters (g - 14)).isEmpty
  else if 39 ≤ g ∧ g < 51 then decide (s.rd (Obj.ME_STATE (g - 39)) = 1)
  else if 54 ≤ g ∧ g < 66 then !decide ((s.out (s.governor (g - 54))).phase = .stopped)
  else false

/-- GATE_CLOSE_COMPLETE (R590): every block has raised idle. -/
def execGateCloseComplete (g : Fin 128) (s : State) : Out :=
  .next (if s.rd (Obj.GATE_STATE g.val) = 2 ∧ !s.gateBusy g.val then (s.wr (Obj.GATE_STATE g.val) 0).answerClosing g.val Status.ok else s)

/-- BUSY_REFUSED (R590): `block` is the first block that is not idle. -/
def execBusyRefused (g : Fin 128) (block : Nat) (s : State) : Out :=
  .next (if s.rd (Obj.GATE_STATE g.val) ≠ 2 then s
  else
    let s := (s.wr (Obj.GATE_STATE g.val) 1).wr (Obj.GATE_CTRL g.val) 1
    (s.logEvent Ev.busyRefused noOwner [d8 g.val, d8 block]).answerClosing g.val Status.busyRefused)

/-! ## Power domains (R592, R593, R624) -/

/-- Domains that no request controls (R592). -/
def domainFixed (d : Nat) : Bool := [0, 1, 2, 11, 12, 13].contains d

/-- The entries of the health table in a domain (R84, R588). -/
def domainUnits (d : Nat) : List Nat :=
  if 3 ≤ d ∧ d ≤ 8 then (List.range 4).map (fun i => unitFc (4 * (d - 3) + i))
  else if d = 9 then (List.range 12).map unitMe
  else if d = 11 then (List.range 48).map unitBank
  else if d = 12 then (List.range 8).map unitMc
  else []

/-- Units of a domain that is off are OFFLINE; they are judged again when it runs (R84). FAILED units and those held EXCLUDED stay so. -/
def State.unitsOffline (s : State) (d : Nat) (off : Bool) : State :=
  s.each (domainUnits d) (fun s n =>
    let u := s.unit n
    if u.health = .failed ∨ u.held then s
    else if off then (if u.health = .offline then s else s.setHealth n .offline)
    else if u.health = .offline ∧ (n < 8 → bit s.memConf.channels n) then s.setHealth n .unjudged else s)

/-- The blocks of a domain lose their hardware state, and their items in flight end with CLOCK_FORCED (R624). -/
def State.domainLoses (s : State) (d : Nat) : State :=
  if 3 ≤ d ∧ d ≤ 8 then
    (s.failJobs (fun j => (List.range 4).any (fun i => (Tab.get [] s.raster.clusters (4 * (d - 3) + i)).any (fun w => decide (w.job = j.item))))).1
  else if d = 10 then s.each (List.range 12) (fun s k => (s.failRaster k).1)
  else if d = 14 then
    let s : State := { s with fronts := [], keyBank := {} }
    (s.each (List.range 2) (fun s p => s.wr (Obj.RF_STATE p) touchOff)).wr Obj.KB_STATE touchOff
  else if d = 15 then s.failAudio.1
  else if d = 16 then s.failHaptics.1
  else s

/-- A domain runs again after a power-down or a reset: baselines are rebuilt, haptic channels sweep, rasters start (R486, R624). -/
def State.domainUp (s : State) (d : Nat) : State :=
  let s := (s.unitsOffline d false).showGates
  if d = 10 then s.each (List.range 12) (fun s k => s.tryRaster k)
  else if d = 14 then s.touchRestart
  else if d = 16 then s.each (List.range 8) (fun s c =>
    if bit (s.rd (Obj.HAP_CONTROL c)) 0 ∧ s.rd Obj.HAP_CAL_AT_START = 1 then s.startSweep c else s)
  else s

/-- Is a domain powered in a power state (R593)? -/
def domainIn (state d : Nat) : Bool :=
  if d = 0 ∨ d = 1 then true
  else if 3 ≤ d ∧ d ≤ 8 then Nat.blt state 2
  else if d = 2 ∨ d = 14 then true
  else if d = 16 ∨ d = 11 then Nat.blt state 4
  else Nat.blt state 3

/-- DOM_STATE of a domain in a power state: SRAM in retention keeps GAF so in S4, and REEL is so in S3 (R593). -/
def domainState (state d : Nat) : Nat :=
  if (d = 11 ∧ state = 3) ∨ (d = 2 ∧ state = 4) then 2 else ofBool (domainIn state d)

/-- Those who wait for a domain to run are answered. -/
def State.answerDomain (s : State) (d : Nat) : State :=
  let ws := s.clocks.domains.filter (fun e => decide (e.1 = d))
  (s.modClocks (fun c => { c with domains := c.domains.filter (fun e => !decide (e.1 = d)) })).each ws (fun s e => s.answerLate e.2 (Obj.DOM_CTRL d) Status.ok)

/-- DOM_CTRL written ON, after step 7 of R536 (R592): it completes when the domain runs. -/
def State.writeDomainOn (s : State) (rq : Requester) (d : Nat) : Option Nat × State :=
  if domainFixed d then (some Status.notControllable, s)
  else if s.domainOn d then (some Status.ok, s.wr (Obj.DOM_CTRL d) 1)
  else
    let s := (s.wr (Obj.DOM_CTRL d) 1).modClocks (fun c => { c with domains := c.domains ++ [(d, rq)] })
    (none, if domainState (s.rd Obj.PWR_STATE) d = 1 then s.wr (Obj.DOM_STATE d) 3 else s)

/-- DOMAIN_ON (R592). -/
def execDomainOn (rq : Requester) (d : Fin 17) (s : State) : Out :=
  .next (s.requestLater rq (Obj.DOM_CTRL d.val) 1 (fun s => s.writeDomainOn rq d.val))

/-- DOMAIN_ON_COMPLETE (R592, R624). -/
def execDomainOnComplete (d : Fin 17) (s : State) : Out :=
  .next (if s.rd (Obj.DOM_STATE d.val) = 3 then ((s.wr (Obj.DOM_STATE d.val) 1).domainUp d.val).answerDomain d.val else s)

/-- Is a gate of a domain open (R592)? -/
def State.domainGates (s : State) (d : Nat) : Bool :=
  gates.any (fun g => decide (gateDomain g = d) && (decide (s.rd (Obj.GATE_CTRL g) = 1) || decide (s.rd (Obj.GATE_STATE g) = 2)))

/-- DOM_CTRL written OFF, after step 7 of R536 (R592, R624). -/
def State.writeDomainOff (s : State) (d : Nat) : Nat × State :=
  if domainFixed d then (Status.notControllable, s)
  else if s.domainGates d then (Status.childActive, s)
  else
    let s := (s.domainLoses d).unitsOffline d true
    (Status.ok, ((s.wr (Obj.DOM_CTRL d) 0).wr (Obj.DOM_STATE d) 0).showGates)

/-- DOMAIN_OFF (R592). -/
def execDomainOff (rq : Requester) (d : Fin 17) (s : State) : Out :=
  .next (s.ownRequest rq (Obj.DOM_CTRL d.val) 0 (fun s => s.writeDomainOff d.val))

/-- DOM_CTRL written RESET, after step 7 of R536 (R592, R624). A domain that is off by request stays so. -/
def State.writeDomainReset (s : State) (d : Nat) : Nat × State :=
  if domainFixed d then (Status.notControllable, s)
  else if s.domainGates d then (Status.childActive, s)
  else if s.rd (Obj.DOM_CTRL d) = 0 then (Status.ok, s)
  else (Status.ok, (s.domainLoses d).wr (Obj.DOM_CTRL d) 2)

/-- DOMAIN_RESET (R592). -/
def execDomainReset (rq : Requester) (d : Fin 17) (s : State) : Out :=
  .next (s.ownRequest rq (Obj.DOM_CTRL d.val) 2 (fun s => s.writeDomainReset d.val))

/-- DOMAIN_RESET_RELEASE (R592, R624): 1 µs later. -/
def execDomainResetRelease (d : Fin 17) (s : State) : Out :=
  .next (if s.rd (Obj.DOM_CTRL d.val) = 2 then (s.wr (Obj.DOM_CTRL d.val) 1).domainUp d.val else s)

end Sys2Proof.Machine
end

