-- ==== Sys2Proof/Machine/Power.lean ====
section
/-! DEFINITION. Sluice and the supplies (R593 to R605): latency tolerances, power states, the power limit, temperature, and dips of rails. -/
namespace Sys2Proof.Machine
open Sys2Proof

/-- The state with Sluice's own part changed. -/
def State.modPower (s : State) (f : Power → Power) : State := { s with power := f s.power }

/-! ## Tolerances (R594, R596) -/

/-- A source of R594 without a number of its own: 0xD0 + its row, from 0. -/
def rowSource (row : Nat) : Nat := 0xD0 + row

/-- Is an output in one of the states of R594's sixth row? -/
def OutState.needsMs : OutState → Bool
  | .starting | .active | .holdEntry | .waking | .unplugDebounce => true
  | _ => false

/-- Every source with its tolerance in µs, in the order of R594. -/
def State.tolerances (s : State) : List (Nat × Nat) :=
  let outs := (List.range 12).map (fun k => (s.out k).state)
  let row := fun (b : Bool) (r us : Nat) => if b then [(rowSource r, us)] else []
  let work := s.items.any (fun i => [0x08, 0x40, 0x41].contains (dType i.desc))
  let sound := (List.range 60).any (fun u => (s.stream u).running) || (List.range 16).any (fun b => (s.bus b).running)
    || (List.range 4).any (fun g => (s.gen g).now.isSome)
  let haptic := (List.range 8).any (fun c => (s.hap c).play.isSome || (s.hap c).queued.isSome)
  s.boot.links.map (fun p => (0x80 + p, s.rd (Obj.PWR_PORT_TOL p)))
    ++ (List.range 64).map (fun i => (i, s.rd (Obj.PWR_INST_TOL i)))
    ++ [(0x40, s.rd Obj.PWR_MGR_TOL), (0xC0, s.rd Obj.PWR_GAF_TOL), (0xC1, s.rd Obj.PWR_BIT_TOL)]
    ++ row (outs.any OutState.needsMs) 5 1000
    ++ row (outs.contains .glassHold) 6 10000
    ++ row (work || !s.dailies.running.isEmpty) 7 100
    ++ row sound 8 1000
    ++ row haptic 9 10000
    ++ row (decide (s.rd Obj.MEM_SPARE_STATE = 2) || !decide (s.migrationsActive = 0)) 10 1000

/-- The smallest tolerance and its source; no limit has source 0xFF (R596; log entry 66). -/
def State.minTolerance (s : State) : Nat × Nat :=
  match leastBy (fun (e : Nat × Nat) => e.2) s.tolerances with
  | some e => if e.2 < 0xFFFFFFFF then (e.2, e.1) else (0xFFFFFFFF, 0xFF)
  | none => (0xFFFFFFFF, 0xFF)

/-- The exit latency of a power state in µs (R595). -/
def exitLatency (state : Nat) : Nat :=
  match state with
  | 0 => 0
  | 1 => 10
  | 2 => 300
  | 3 => 2000
  | _ => 60000

/-- The deepest state that a tolerance allows (R596). -/
def deepest (tol : Nat) : Nat := maxNat ((List.range 5).filter (fun st => Nat.ble (exitLatency st) tol))

/-! ## Power states (R593, R596 to R598) -/

/-- Domains follow a power state; one that is off by request stays off (R592, R593). -/
def State.setDomains (s : State) (state : Nat) : State :=
  let s := s.each (List.range 17) (fun s d => s.wr (Obj.DOM_STATE d) (if s.rd (Obj.DOM_CTRL d) = 0 then 0 else domainState state d))
  (s.each (List.range 17) (fun s d => s.unitsOffline d (!decide (s.rd (Obj.DOM_STATE d) = 1)))).showGates

/-- What is lost with the Reel in S4 (R133, R622): every byte of it; every output's buffers are EMPTY. -/
def State.reelLost (s : State) : State :=
  let s := { s with mem := Memory.drop s.mem (fun a => Nat.ble reelBase a) }
  s.each (List.range 12) (fun s k => s.wrBit (Obj.REEL_OUT_STATUS k) rosEmpty true)

/-- The steps of an entry to S3 or S4: DRAM enters self-refresh, and synchronisation is held over (R33, R361, R593). -/
def State.sleepMemory (s : State) : State :=
  (s.each ((List.range 8).filter s.chanActive) (fun s m => s.selfRefresh m)).syncLost

/-- The steps of an entry to S4: Sprocket stops, touch goes to wake scans, effects end, the Reel is lost (R27, R133, R477, R498). -/
def State.sleepDeep (s : State) : State := ((s.s4Stop.touchSleep).failHaptics.1).reelLost

/-- STATE_ENTER (R595, R596, R598): `target` is the state whose dwell has ended. Sluice enters a deeper state that the smallest tolerance allows, while
Gaffer has started the device, no exit runs and no SAG holds (log entry 67). -/
def execStateEnter (target : Fin 5) (s : State) : Out :=
  let t := target.val
  let m := s.minTolerance
  let started := decide (s.boot.stage = 6) || decide (s.boot.stage = 8)
  if !started || s.power.sag.isSome || s.power.exitCause.isSome || Nat.ble t (s.rd Obj.PWR_STATE) || Nat.blt m.1 (exitLatency t) then .next s
  else
    let was := s.rd Obj.PWR_STATE
    let s := if 3 ≤ t ∧ was < 3 then s.sleepMemory else s
    let s := if t = 4 then s.sleepDeep else s
    let s := (s.wr Obj.PWR_STATE t).setDomains t
    .next (s.logEvent Ev.stateEnter noOwner [d8 t, d32 m.1, d8 m.2])

/-- The cause of an exit by a fall of the smallest tolerance. -/
def wakeTolerance : Nat := 7

/-- WAKE_EVENT (R596, R597): a wake event of R597's list, numbered from 0, or a fall of the smallest tolerance. -/
def execWakeEvent (cause : Fin 8) (s : State) : Out :=
  if cause.val < 7 then .next (s.wake cause.val)
  else
    let tol := s.minTolerance.1
    if exitLatency (s.rd Obj.PWR_STATE) ≤ tol ∨ s.power.sag.isSome ∨ s.power.exitCause.isSome then .next s
    else .next (s.modPower (fun p => { p with exitCause := some wakeTolerance, exitFrom := s.dtime, target := deepest tol }))

/-- What runs again when S4 is left (R27, R477, R486). -/
def State.wakeDeep (s : State) : State :=
  let s := s.s4Resume.touchResume
  s.each (List.range 8) (fun s c =>
    if bit (s.rd (Obj.HAP_CONTROL c)) 0 ∧ s.rd Obj.HAP_CAL_AT_START = 1 then s.startSweep c else s)

/-- STATE_EXIT (R361, R595, R598): every domain of the new state runs. -/
def execStateExit (s : State) : Out :=
  match s.power.exitCause with
  | none => .next s
  | some cause =>
    let was := s.rd Obj.PWR_STATE
    let t := s.power.target
    let us := (s.dtime - s.power.exitFrom) / 1000
    let s := ((s.wr Obj.PWR_STATE t).modPower (fun p => { p with exitCause := none })).setDomains t
    let s := if 3 ≤ was ∧ t < 3 then s.each ((List.range 8).filter (fun m => s.rd (Obj.MC_STATE m) = 3)) (fun s m => s.leaveSelfRefresh m) else s
    let s := if was = 4 then s.wakeDeep else s
    let s := s.logEvent Ev.stateExit noOwner [d8 was, dCase Ev.stateExit cause, d32 us]
    let s := if exitLatency was < us then s.logEvent Ev.exitLate noOwner [d8 was, d32 us] else s
    let waiting := (s.clocks.domains.map Prod.fst).eraseDups
    let s := s.each (waiting.filter s.domainOn) (fun s d => (s.domainUp d).answerDomain d)
    .next s.releaseHeld

/-! ## Ceilings (R599 to R601, R603) -/

/-- The voltage of VDD_RAS for a RAS clock, in mV (R603); a fraction is rounded up (log entry 68). -/
def rasMv (mhz : Nat) : Nat := 600 + divUp ((clampNat 400 1800 mhz - 400) * 300) 1400

/-- A change of ceilings: a RAS clock that rises waits for its voltage where Sluice sets it, and one that falls lowers it (R603). While targets are
held, the clock does not rise. -/
def State.moveClocks (s : State) (f : State → State) : State :=
  let old := match s.power.avsWaits with | some v => Nat.min v s.rasCeilingNow | none => s.rasCeilingNow
  let s := f s
  let new := s.rasCeilingNow
  let asked := s.rd Obj.RASTER_CLOCK_CEILING
  if s.rd Obj.PWR_AVS_I2C = 0xFF then (s.modPower (fun p => { p with avsWaits := none, modeCeiling := asked })).showClocks
  else
    let s := s.modPower (fun p => { p with
      avsWaits := if old < new then some old else none
      modeCeiling := if old < new then Nat.min p.modeCeiling asked else asked })
    let s := if s.power.avsHeld then s else s.wr (Obj.SUP_TARGET_MV 1) (rasMv new)
    s.showClocks

/-- PWR_STATUS.LIMITING, its records, and RAS_POWER_CEILING (R599, R600). -/
def State.showLimits (s : State) : State :=
  let low := Nat.blt s.power.rasCeiling 1800 || Nat.blt s.power.gafCeiling 2000 || Nat.blt s.power.hotCeiling 1800
  let was := bit (s.rd Obj.PWR_STATUS) 0
  let mean := s.rd Obj.PWR_DRAWN_MW
  let s := (s.wrBit Obj.PWR_STATUS 0 low).wr Obj.RAS_POWER_CEILING (Nat.min s.power.rasCeiling s.power.hotCeiling)
  if low && !was then s.logEvent Ev.powerLimiting noOwner [d32 mean, d32 (s.rd Obj.PWR_LIMIT_W * 1000)]
  else if was && !low then s.logEvent Ev.powerLimitClear noOwner [d32 mean]
  else s

/-- The ceilings after a mean power (R599): one step a ms. -/
def Power.limit (p : Power) (above calm : Bool) : Power :=
  if above then
    if 400 < p.rasCeiling then { p with rasCeiling := Nat.max 400 (p.rasCeiling - 100), calm := 0 }
    else { p with gafCeiling := Nat.max 800 (p.gafCeiling - 200), calm := 0 }
  else if !calm then { p with calm := 0 }
  else if p.calm + 1 < 10 then { p with calm := p.calm + 1 }
  else if p.gafCeiling < 2000 then { p with calm := 10, gafCeiling := Nat.min 2000 (p.gafCeiling + 200) }
  else { p with calm := 10, rasCeiling := Nat.min 1800 (p.rasCeiling + 100) }

/-- POWER_MEASUREMENT (R599, R600). -/
def execPowerMeasurement (mw : Nat) (s : State) : Out :=
  let s := s.modPower (fun p => { p with samples := (mw :: p.samples).take 10 })
  let mean := sumNat s.power.samples / Nat.max 1 s.power.samples.length
  let limit := s.rd Obj.PWR_LIMIT_W * 1000
  let above := Nat.blt limit mean
  let unmet := above && decide (s.power.rasCeiling = 400) && decide (s.power.gafCeiling = 800)
  let was := bit (s.rd Obj.PWR_STATUS) 1
  let s := s.wr Obj.PWR_DRAWN_MW (mean % 2 ^ 32)
  let s := (s.moveClocks (fun s => s.modPower (fun p => p.limit above (Nat.ble (mean * 100) (limit * 95))))).showLimits
  let s := s.wrBit Obj.PWR_STATUS 1 unmet
  .next (if unmet && !was then s.logEvent Ev.limitUnmet noOwner [d32 mean] else s)

/-- The temperature that the sensor reads: an injected one for 100 ms (point 27, R640). -/
def State.sensor (s : State) (celsius : Int) : Int × State :=
  if s.dtime < s.power.hotUntil then (toSigned 16 (s.rd Obj.PWR_TJ_C), s)
  else
    let i := s.inject 27 0
    let c := match i.1 with | some p => toSigned 16 p | none => celsius
    let s := i.2.wr Obj.PWR_TJ_C (ofSigned 16 c)
    (c, if i.1.isSome then s.modPower (fun p => { p with hotUntil := s.dtime + 100000000 }) else s)

/-- Does an injected temperature hold? -/
def State.hotInjected (s : State) : Bool := Nat.blt s.dtime s.power.hotUntil

/-- THERMAL_THROTTLE (R601): the hottest sensor's reading, once a ms. -/
def execThermalThrottle (celsius : Int) (s : State) : Out :=
  let r := s.sensor celsius
  let s := r.2
  if Config.ratedTj - 5 < r.1 then
    let s := (s.moveClocks (fun s => s.modPower (fun p => { p with hotCeiling := Nat.max 400 (p.hotCeiling - 100) }))).wrBit Obj.PWR_STATUS 2 true
    .next (s.showLimits.logInjected Ev.thermalThrottle noOwner s.hotInjected [d16 (ofSigned 16 r.1)])
  else if r.1 < Config.ratedTj - 10 ∧ s.power.hotCeiling < 1800 then
    let s := s.moveClocks (fun s => s.modPower (fun p => { p with hotCeiling := 1800 }))
    .next ((s.wrBit Obj.PWR_STATUS 2 false).showLimits)
  else .next s

/-- THERMAL_TRIP (R601): the device holds itself in reset. An injected temperature trips only when its point escalates (R640). -/
def execThermalTrip (celsius : Int) (s : State) : Out :=
  let r := s.sensor celsius
  let s := r.2
  if r.1 < Config.ratedTj + 10 ∨ (s.hotInjected ∧ !s.escalates 27) then .next s
  else .next ((s.afterReset kindCold).modBoot (fun b => { b with stage := 0, tripped := true }))

/-- THERMAL_TRIP_RELEASE (R601, R612): 20 °C below the trip point the device starts as after a cold reset; straps are sampled again. -/
def execThermalTripRelease (celsius : Int) (straps : BitVec 16) (s : State) : Out :=
  .next (if s.boot.tripped ∧ celsius ≤ Config.ratedTj - 10 then s.fullReset kindCold 5 straps.toNat else s)

/-! ## Rails (R602 to R605) -/

/-- The target voltage that a rail's levels follow, in mV (R602, R603). -/
def State.railTarget (s : State) (r : Nat) : Nat := Tab.get (nominalMv r) s.power.levels r

/-- The warning level of a rail in mV (R602). -/
def State.warnMv (s : State) (r : Nat) : Nat :=
  if r = 1 then s.railTarget 1 * 94 / 100
  else [705, 0, 752, 705, 752, 966, 828, 460, 782, 1104, 1656, 3036].getD r 0 * s.railTarget r / nominalMv r

/-- A measured voltage as SUP_MEASURED_MV shows it: 5 mV steps (R606). -/
def shownMv (mv : Nat) : Nat := mv / 5 * 5 % 65536

/-- SAG_START (R604, R645): a rail crosses its warning level. -/
def execSagStart (rail : Fin 12) (mv : Nat) (s : State) : Out :=
  let r := rail.val
  if s.warnMv r ≤ mv then .next s
  else
    let s := (s.wr (Obj.SUP_STATE r) 1).wr (Obj.SUP_MEASURED_MV r) (shownMv mv)
    match s.power.sag with
    | some g =>
      let lowest := if g.rail = r then Nat.min g.lowest mv else g.lowest
      .next (s.modPower (fun p => { p with sag := some { g with lowest := lowest, recovered := none } }))
    | none =>
      let s := (s.count (Obj.SUP_SAG_COUNT r)).modPower (fun p => { p with sag := some { rail := r, lowest := mv, pos := s.now, start := s.dtime } })
      let s := (s.wrBit Obj.PWR_STATUS 3 true).showClocks
      .next (s.abandonSlices (fun _ => true) abandonSag)

/-- RAIL_RECOVERED (R604): a rail has left its warning level; `mv` is the lowest voltage measured on it. Once every rail has, the 1 ms begins. -/
def execRailRecovered (rail : Fin 12) (mv : Nat) (s : State) : Out :=
  let r := rail.val
  if s.rd (Obj.SUP_STATE r) ≠ 1 then .next s
  else
    let s := s.wr (Obj.SUP_STATE r) 0
    match s.power.sag with
    | none => .next s
    | some g =>
      let lowest := if g.rail = r then Nat.min g.lowest mv else g.lowest
      let clear := (List.range 12).all (fun r => decide (s.rd (Obj.SUP_STATE r) = 0))
      .next (s.modPower (fun p => { p with sag := some { g with lowest := lowest, recovered := if clear then some s.dtime else none } }))

/-- SUP_LAST_SAG (R606). -/
def lastSag (lowest us : Nat) (pos : Spos) (time : Nat) : Nat :=
  lowest % 65536 + us % 2 ^ 32 * 2 ^ 32 + pos.pack * 2 ^ 64 + time % 2 ^ 64 * 2 ^ 128

/-- SAG (R597, R604): 1 ms after the last rail has recovered. -/
def execSag (s : State) : Out :=
  match s.power.sag with
  | none => .next s
  | some g =>
    match g.recovered with
    | none => .next s
    | some t =>
      if s.dtime < t + 1000000 then .next s
      else
        let us := (t - g.start) / 1000
        let s := ((s.modPower (fun p => { p with sag := none })).wrBit Obj.PWR_STATUS 3 false).wr (Obj.SUP_LAST_SAG g.rail) (lastSag g.lowest us g.pos g.start)
        let s := s.showClocks.logAt Ev.sag noOwner g.injected g.pos g.start [d8 g.rail, d32 g.lowest, d32 us]
        .next (s.wake 6)

/-- SUP_INJECT after step 7 of R536 (R606, R636, R639): a SAG of 100 µs, unless a genuine one is in progress. -/
def State.writeSupInject (s : State) (r v : Nat) : Nat × State :=
  if v = 0 then (Status.ok, s)
  else if s.rd Obj.INJ_ENABLE ≠ 1 then (Status.accessDenied, s)
  else if s.power.sag.isSome then (Status.ok, s)
  else
    let g : Sag := { rail := r, lowest := 0, pos := s.now, start := s.dtime, injected := true, recovered := some (s.dtime + 100000) }
    let s := (s.count (Obj.SUP_SAG_COUNT r)).modPower (fun p => { p with sag := some g })
    (Status.ok, ((s.wrBit Obj.PWR_STATUS 3 true).showClocks).abandonSlices (fun _ => true) abandonSag)

/-- SUP_INJECT (R606). -/
def execSupInject (rq : Requester) (rail : Fin 12) (v : Fin 256) (s : State) : Out :=
  .next (s.ownRequest rq (Obj.SUP_INJECT rail.val) v.val (fun s => s.writeSupInject rail.val v.val))

/-- AVS_SETTLE (R603): 200 µs after a change of VDD_CORE or VDD_RAS its levels follow, and a clock that waited rises. -/
def execAvsSettle (rail : Fin 2) (s : State) : Out :=
  if s.rd Obj.PWR_AVS_I2C = 0xFF ∨ s.power.avsHeld then .next s
  else
    let s := s.modPower (fun p => { p with levels := Tab.set p.levels rail.val (s.rd (Obj.SUP_TARGET_MV rail.val)) })
    .next (if rail.val = 1 then (s.modPower (fun p => { p with avsWaits := none, modeCeiling := s.rd Obj.RASTER_CLOCK_CEILING })).showClocks else s)

/-- AVS_FAULT (R603): targets are held from now on. -/
def execAvsFault (rail : Fin 2) (s : State) : Out :=
  let port := s.rd Obj.PWR_AVS_I2C
  if port = 0xFF then .next s
  else .next ((s.modPower (fun p => { p with avsHeld := true })).logEvent Ev.avsFault noOwner [d8 port, d8 rail.val])

/-- BROWN_OUT (R605): as a power-on reset that names the rail; VDD_AON leaves 0xFF. -/
def execBrownOut (rail : Fin 12) (straps : BitVec 16) (s : State) : Out :=
  .next ((s.fullReset kindPowerOn 2 straps.toNat).wr Obj.PWR_LAST_BROWNOUT (if rail.val = 4 then 0xFF else rail.val))

/-- RASTER_CLOCK_CEILING, MATTE_CLOCK_MAX and the SAG minimums after step 7 of R536: the clocks follow (R252, R604). -/
def State.writeClockLimit (s : State) (addr v : Nat) : Nat × State :=
  let r := s.plainWrite addr v
  if r.1 = Status.ok then (r.1, s.moveClocks (fun s => (s.plainWrite addr v).2)) else r

end Sys2Proof.Machine
end

