-- ==== Sys2Proof/Machine/Faults.lean ====
section
/-! DEFINITION. The Script Log's ring, injection points, Dailies and Tally (R629 to R655). -/
namespace Sys2Proof.Machine
open Sys2Proof

/-! ## The ring (R611, R633, R635) -/

/-- Do Gaffer's cores run: from GAFFER_START to READY, and not while they restart (R614, R633)? -/
def State.gafferRuns (s : State) : Bool := Nat.ble 4 s.boot.stage && Nat.ble s.boot.stage 6

/-- A record enters the ring: LOG_HEAD, LOG_OVERWRITTEN and the doorbell follow (R633, R635). -/
def State.toRing (s : State) (r : LogRecord) : State :=
  let full := decide (4096 ≤ s.log.ring.length)
  let s := { s with log := { s.log with ring := (r :: s.log.ring).take 4096 } }
  let s := s.count Obj.LOG_HEAD
  let s := if full then s.count Obj.LOG_OVERWRITTEN else s
  if s.rd Obj.LOG_NOTIFY_SEVERITY ≤ r.severity then s.ringObject (s.rd Obj.LOG_DOORBELL) else s

/-- RESET_CAUSE, the first record after a reset (R611). -/
def State.resetRecord (s : State) : LogRecord :=
  ⟨Ev.resetCause, severityOf Ev.resetCause, false, noOwner, s.now, s.dtime,
    packDetail 0 [d8 (s.rd Obj.RST_LAST_KIND), d8 (s.rd Obj.RST_LAST_CAUSE), d16 (s.rd Obj.RST_STRAPS)]⟩

/-- LOG_MOVE (R611, R633, R635): RESET_CAUSE leads; what the FIFO lost is told first once there is room. -/
def execLogMove (s : State) : Out :=
  if !s.gafferRuns then .next s
  else
    let r := s.resetRecord
    let first := s.log.causePending
    let s := if first then
        let s : State := { s with log := { s.log with causePending := false, mirror := (r :: s.log.mirror).take 64 } }
        (s.tallyRecord r.code r.source).toRing r
      else s
    let l := s.log.fifo
    let s := { s with log := { s.log with fifo := [] } }
    let s := s.each l (fun s r => s.toRing r)
    let n := s.log.lostPending
    .next (if n = 0 then s else ({ s with log := { s.log with lostPending := 0 } } : State).logEvent Ev.logLost noOwner [d32 n])

/-! ## Injection points (R636, R637, R640) -/

/-- The points that act the moment they are armed: the watchdogs and the loss of a display link (R640). -/
def State.fireArmed (s : State) (d : Nat) (queued : List (Nat × Nat)) : State :=
  if d = 12 then s.bitternFault 12 0 1 false queued
  else if d = 13 then s.gafferFault 13 1 false
  else if d = 19 then
    let t := s.rd (Obj.INJ_TARGET 19)
    let i := s.inject 19 t
    if i.1.isSome ∧ t < 14 then i.2.linkLost t true else s
  else s

/-- INJ_ARM after step 7 of R536 (R636, R637). -/
def State.writeInjArm (s : State) (d v : Nat) (queued : List (Nat × Nat)) : Nat × State :=
  if v = 0 then (Status.ok, s.wr (Obj.INJ_ARM d) 0)
  else if s.rd Obj.INJ_ENABLE ≠ 1 then (Status.accessDenied, s)
  else (Status.ok, (s.wr (Obj.INJ_ARM d) v).fireArmed d queued)

/-- INJ_ARM (R637): `queued` are the frames and transfers that a Bittern restart of point 12 discards. -/
def execInjArm (rq : Requester) (point : Fin 31) (v : Fin 256) (queued : List (Nat × Nat)) (s : State) : Out :=
  .next (s.ownRequest rq (Obj.INJ_ARM point.val) v.val (fun s => s.writeInjArm point.val v.val queued))

/-- INJ_ENABLE written 0 disarms nothing, but no point takes effect (R636). -/
def State.writeInjEnable (s : State) (v : Nat) : Nat × State := s.plainWrite Obj.INJ_ENABLE v

/-! ## Dailies (R641 to R647) -/

/-- Does a unit meet the idle condition of its slice (R642, R647)? -/
def State.unitIdle (s : State) (slice : Nat) : SliceUnit → Bool
  | .core _ => true
  | .cluster c => s.dailies.reserved.contains slice && (Tab.get [] s.raster.clusters c).isEmpty
  | .engine e => decide (s.rd (Obj.ME_STATE e) = 0)
  | .output k => (match (s.out k).state with | .off | .waitPlug | .glassHold => true | _ => false)
  | .frontEnd f => !s.windowRuns f
  | .foley =>
    !((List.range 60).any (fun u => (s.stream u).running) || (List.range 16).any (fun b => (s.bus b).running)
      || (List.range 4).any (fun g => (s.gen g).now.isSome || (s.gen g).next.isSome))
  | .haptic c => Nat.blt (s.hapState c) 2 && (s.hap c).queued.isNone
  | .lane m => !s.dailies.running.any (fun r => decide (sliceUnit r.slice = some (.lane m)))
  | .reelLane _ => !s.dailies.running.any (fun r => Nat.ble 0x080 r.slice && Nat.ble r.slice 0x081)
  | .peripheral _ => true
  | .reelSlices _ => !s.dailies.running.any (fun r => Nat.ble 0x100 r.slice && Nat.blt r.slice 0x1C0)
  | .gafSram _ => true
  | .bitSram _ => true
  | .lutBank k => (s.out k).swapAsked.isNone && decide (s.rd (Obj.OUT_LUT3D_SWAP k) = 0)
  | .port p => (s.outputOf p).isNone
  | .aon _ => true
  | .phy _ => false

/-- Does a slice test the Bittern region of the Reel (R128)? -/
def State.testsSubst (s : State) (slice : Nat) : Bool :=
  Nat.ble 0x100 slice && Nat.blt slice 0x1C0 && Nat.blt (3072 - s.rd Obj.REEL_BITTERN_SLICES) (16 * (slice - 0x100) + 16)

/-- DAILIES_RESERVE (R642): the unit takes no new work. -/
def execDailiesReserve (slice : Nat) (s : State) : Out :=
  match sliceUnit slice with
  | some (.phy _) => .next s
  | some _ =>
    .next (if s.dailies.reserved.contains slice then s else s.modDailies (fun d => { d with reserved := d.reserved ++ [slice] }))
  | none => .next s

/-- A slice starts: strict commit mode on the OUT and MAT domains (R200, R642). -/
def State.startSlice (s : State) (slice : Nat) : State :=
  let s := s.modDailies (fun d => { d with running := d.running ++ [⟨slice, s.dtime, s.rd Obj.DAILIES_BUDGET⟩], budget := s.rd Obj.DAILIES_BUDGET })
  let s := s.tallyCount 35 0 noOwner
  let s : State := if s.testsSubst slice then { s with substUnchecked := true } else s
  if sliceStrict slice then (s.strictAll 2).modBoot (fun b => { b with strictHolds := setBit b.strictHolds 2 true }) else s

/-- DAILIES_SLICE (R641, R642): the slot starts the slice on an idle unit, or is DECLINED. -/
def execDailiesSlice (n : Fin 256) (s : State) : Out :=
  .next (s.fire n.val 4 (fun s arg =>
    let slice := field arg 11 0
    let idle := match sliceUnit slice with
      | some u => s.unitIdle slice u && !s.dailies.running.any (fun r => decide (sliceUnit r.slice = some u))
      | none => false
    if idle then (s.startSlice slice, slotFired)
    else
      let s := (s.modDailies (fun d => { d with reserved := d.reserved.filter (fun x => !decide (x = slice)) })).count Obj.DAILIES_DECLINED
      let s := s.tallyCount 35 1 noOwner
      (s.logEvent Ev.slotDeclined (s.rd (Obj.SLOT_OWNER n.val)) [d8 n.val, d16 slice], slotDeclined)))

/-- The entry of the health table that a slice's failure concerns: a cluster, engine, Reel bank or channel (R646). -/
def sliceHealth (slice : Nat) : Option Nat :=
  match sliceUnit slice with
  | some (.cluster c) => some (unitFc c)
  | some (.engine e) => some (unitMe e)
  | some (.reelSlices g) => some (unitBank (g / 4))
  | some (.lane m) => some (unitMc m)
  | some (.phy m) => some (unitMc m)
  | _ => none

/-- A unit is held EXCLUDED, with no ratio, after a first failure (R646). -/
def State.holdUnit (s : State) (n : Nat) : State :=
  let s := s.setHealth n .excluded
  s.setUnit n { s.unit n with held := true, ratio := 0 }

/-- A unit that was held returns to service (R646). -/
def State.unholdUnit (s : State) (n : Nat) : State :=
  let u := s.unit n
  if u.held then (s.setUnit n { u with held := false }).setHealth n .unjudged else s

/-- A failure of a slice: FAIL_ONCE, or FAILED the second time; the unit goes out of service unless the failure was injected without ESCALATE (R638,
R646). -/
def State.sliceFails (s : State) (slice word : Nat) (injected escalates : Bool) : State :=
  let again := s.dailies.once.contains slice
  let s := (s.count Obj.DAILIES_FAILS).modDailies (fun d => { d with
    roundFails := d.roundFails + 1, once := if again then d.once.filter (fun x => !decide (x = slice)) else d.once ++ [slice] })
  let s := s.tallyCount 35 2 noOwner
  let s := (s.sliceResult slice (if again then 3 else 2)).logInjected Ev.dailiesFail noOwner injected [d16 slice, d32 word]
  match sliceHealth slice with
  | some n =>
    if injected && !escalates then s
    else if again then (s.setUnit n { s.unit n with held := false }).failUnit n
    else s.holdUnit n
  | none => s

/-- The injection points of a slice: its signature, and the references of touch and haptic slices (R640). -/
def slicePoints (slice : Nat) : List (Nat × Nat) :=
  [(28, slice)] ++ (if 0x320 ≤ slice ∧ slice < 0x323 then [(29, slice - 0x320)] else [])
    ++ (if 0x328 ≤ slice ∧ slice < 0x330 then [(30, slice - 0x328)] else [])

/-- The first armed point of a slice fires. -/
def State.injectSlice (s : State) : List (Nat × Nat) → Option Nat × State
  | [] => (none, s)
  | p :: ps => match s.inject p.1 p.2 with
    | (some _, s) => (some p.1, s)
    | (none, s) => s.injectSlice ps

/-- SLICE_COMPLETE (R643, R646): whether every signature and reference matched, and the first mismatching word. The result waits while Gaffer restarts. -/
def execSliceComplete (slice : Nat) (pass : Bool) (word : Nat) (s : State) : Out :=
  if !s.dailies.running.any (fun r => decide (r.slice = slice)) || s.gafferDown then .next s
  else
    let s := s.endSlice slice
    if !pass then .next (s.sliceFails slice word false true)
    else match s.injectSlice (slicePoints slice) with
      | (some d, s) =>
        let f := s.fresh
        .next (f.2.sliceFails slice f.1 true (f.2.escalates d))
      | (none, s) =>
        let again := s.dailies.once.contains slice
        let s := (s.modDailies (fun d => { d with once := d.once.filter (fun x => !decide (x = slice)) })).sliceResult slice 1
        if again then
          let s := s.logEvent Ev.dailiesTransient noOwner [d16 slice]
          .next (match sliceHealth slice with | some n => s.unholdUnit n | none => s)
        else .next s

/-- DAILIES_OVERRUN (R645): the budget has passed. -/
def execDailiesOverrun (slice : Nat) (s : State) : Out :=
  match s.dailies.running.find? (fun r => decide (r.slice = slice)) with
  | none => .next s
  | some r =>
    if s.dtime < r.start + r.budget * 1000 then .next s
    else .next (((s.sliceResult slice 4).endSlice slice).logEvent Ev.dailiesOverrun noOwner [d16 slice, d32 ((s.dtime - r.start) / 1000)])

/-- DAILIES_ROUND (R641): a round's number, its duration in seconds, and its failures. -/
def execDailiesRound (s : State) : Out :=
  if s.boot.stage ≠ 6 then .next s
  else
    let s := s.count Obj.DAILIES_ROUNDS
    let d := s.dailies
    let s := s.logEvent Ev.dailiesRound noOwner [d32 (s.rd Obj.DAILIES_ROUNDS), d32 ((s.dtime - d.roundStart) / 1000000000), d32 d.roundFails]
    .next (s.modDailies (fun d => { d with roundStart := s.dtime, roundFails := 0 }))

/-! ## Tally (R649 to R653) -/

/-- The counters of each group (R650). -/
def tallyCounters (g : Nat) : Nat :=
  [40, 32, 48, 16, 56, 56, 56, 48, 48, 42, 40, 40, 40, 40, 40, 40, 32, 32, 20, 20, 20, 20, 20, 20, 20, 20, 16, 32, 32, 32, 24, 16, 32, 16, 24, 16, 16,
    16, 16, 16].getD g 0

/-- TALLY_WRAP (R649). -/
def execTallyWrap (g : Fin 40) (counter : Fin 64) (s : State) : Out :=
  .next (if counter.val < tallyCounters g.val then s.tallyWrap g.val (Config.tallyKind g.val counter.val) counter.val else s)

/-- TALLY_OVF_CLEAR after step 7 of R536 (R652). -/
def State.writeOvfClear (s : State) (g v : Nat) : Nat × State :=
  (Status.ok, if v = 1 then { s with tallyOvf := s.tallyOvf.filter (fun x => !decide (x / 64 = g)) } else s)

/-- TALLY_OVF_CLEAR (R652). -/
def execTallyOvfClear (rq : Requester) (g : Fin 40) (v : Fin 256) (s : State) : Out :=
  .next (s.ownRequest rq (Obj.TALLY_OVF_CLEAR g.val) v.val (fun s => s.writeOvfClear g.val v.val))

/-- Is a group granted to an instance (R653)? -/
def State.tallyGranted (s : State) (g : Nat) : Bool := (List.range 64).any (fun i => bit (s.rd (Obj.TALLY_GRANT i)) g)

/-- The writable bits of TALLY_FILTER (R651). -/
def filterBits : Nat := 3 + 0xFF * 2 ^ 8 + 0xFF * 2 ^ 16 + 0xF * 2 ^ 24 + 2 ^ 28 + (2 ^ 128 - 1) * 2 ^ 64

/-- TALLY_FILTER after step 7 of R536 (R651, R653). WORLD BITTERN is Bittern's alone (log entry 69). -/
def State.writeFilter (s : State) (rq : Requester) (g v : Nat) : Nat × State :=
  let v := v &&& filterBits
  if field v 1 0 = 3 then (Status.ldpRange, s)
  else if field v 1 0 = 2 ∧ rq ≠ .bittern then (Status.accessDenied, s)
  else if s.tallyGranted g ∧ field v 23 16 ≠ field (s.rd (Obj.TALLY_FILTER g)) 23 16 then (Status.tallyGrantConflict, s)
  else (Status.ok, s.wr (Obj.TALLY_FILTER g) v)

/-- TALLY_GRANT after step 7 of R536 (R653). -/
def State.writeGrant (s : State) (i v : Nat) : Nat × State :=
  if 2 ^ 40 ≤ v then (Status.ldpRange, s)
  else if (List.range 40).any (fun g => bit v g && !decide (field (s.rd (Obj.TALLY_FILTER g)) 23 16 = i)) then (Status.tallyGrantConflict, s)
  else (Status.ok, s.wr (Obj.TALLY_GRANT i) v)

end Sys2Proof.Machine
end

