-- ==== Sys2Proof/Machine/Frames.lean ====
section
/-! DEFINITION. The commands of an output's frame (R185 to R193, R199, R203 to R207) and its intent: what Outputs.lean does at each point, and what the
touch front ends and the Continuity units do with it. -/
namespace Sys2Proof.Machine
open Sys2Proof

/-- OUTPUT_INTENT (R61, R72 to R75, R179 to R183, R450). -/
def execOutputIntent (o : Owner) (q : Fin 16) (s : State) : Out :=
  .next (s.onItem o.code q.val 0x21 (fun s it =>
    let k := dfield it.desc 67 64
    let i := intentOf it.desc
    let ok := !s.outIntentInvalid o.code k i
    let s' := s.outputIntent it o.code (fun s k i => s.intentScans k i)
    if ok ∧ ((s'.out k).intent = some i ∨ (s'.out k).nextIntent = some i) then s'.cutScans k i else s'))

/-- OUTPUT_LATCH_POINT (R187 to R189): the start of line V_ACTIVE of an output or a locked pair. -/
def execOutputLatchPoint (k : Fin 12) (s : State) : Out :=
  let g := k.val
  if s.pairOdd g || !decide ((s.out g).phase = .activeLines) then .next s
  else .next ((s.latchPoint g).finishIntents.settleRestores g)

/-- DECISION_POINT (R190 to R192, R207): decisions of a pair are taken once, on its even member. -/
def execDecisionPoint (k : Fin 12) (line : Nat) (progress : List (Bool × Nat)) (s : State) : Out :=
  if s.pairOdd k.val || !decide ((s.out k.val).phase = .blanking) || !s.decisionLine k.val line then .next s
  else .next ((s.decision k.val line progress).settleRestores k.val)

/-- LATCH_OUTPUT (R44, R185, R199): in normal service the output takes a decision at the slot's position, in its extended blanking. `line` and
`progress` are the raster's line there and the parts' progress. -/
def execLatchOutput (n : Fin 256) (line : Nat) (progress : List (Bool × Nat)) (s : State) : Out :=
  .next (s.fire n.val 5 (fun s arg =>
    let k := field arg 3 0
    let g := s.governor k
    let x := s.out g
    if 11 < k ∨ x.strict ∨ x.phase ≠ .blanking ∨ line ≤ s.firstDecision g ∨ s.lastDecision g < line then (s, slotNoEffect)
    else ((s.decision g line progress).settleRestores g, slotFired)))

/-- FRAME_START (R113, R203 to R208, R452). -/
def execFrameStart (k : Fin 12) (s : State) : Out :=
  let g := k.val
  if s.pairOdd g then .next s
  else
    match (s.out g).phase with
    | .going _ => .next ((s.frameStart g).each (s.members g) (fun s k => s.touchFrameStart k))
    | _ => .next s

end Sys2Proof.Machine
end

