-- ==== Sys2Proof/Machine/Reads.lean ====
section
/-! DEFINITION. The value of an object at a read (R530 to R538, and the object table of each chapter): objects that report live state are computed
here, and entries that a requester may not see read as zeros (R93, R386, R472, R635, R653). -/
namespace Sys2Proof.Machine
open Sys2Proof

/-! ## Entries of tables -/

/-- A Script Log record as 32 bytes (R630). -/
def LogRecord.entry (r : LogRecord) : Nat :=
  r.code % 65536 + r.severity % 8 * 2 ^ 16 + ofBool r.injected * 2 ^ 19 + r.source % 256 * 2 ^ 24 + r.spos.pack * 2 ^ 32 + r.dtime % 2 ^ 64 * 2 ^ 96
    + r.detail % 2 ^ 96 * 2 ^ 160

/-- May a requester see an entry of an owner: an instance only its own (R93, R386, R635)? -/
def seesOwner (rq : Requester) (owner : Nat) : Bool :=
  match rq with
  | .guest i => decide (owner = i.val)
  | _ => true

/-- A record as a requester reads it (R635). -/
def recordFor (rq : Requester) (r : LogRecord) : Nat := if seesOwner rq r.source then r.entry else 0

/-- The record that place i of the ring holds: the newest whose number is i modulo 4,096 (R635). -/
def State.ringPlace (s : State) (i : Nat) : Option LogRecord :=
  let head := s.rd Obj.LOG_HEAD
  s.log.ring[(head + 4095 - i) % 4096]?

/-- One object of the ring: 128 records (R635). -/
def State.ringObjectFor (s : State) (rq : Requester) (n : Nat) : Nat :=
  packItems 32 ((List.range 128).map (fun j => match s.ringPlace (128 * n + j) with | some r => recordFor rq r | none => 0))

/-- LOG_EVENT_TABLE (R632): the codes ascending. -/
def eventTable : Nat := packItems 4 (Ev.all.map (fun c => c + severityOf c * 2 ^ 16))

/-- Surface entries 256 × n onwards as a requester reads them (R66, R93). -/
def State.surfTable (s : State) (rq : Requester) (n : Nat) : Nat :=
  packItems 16 ((List.range 256).map (fun j =>
    let x := s.surf (256 * n + j)
    if seesOwner rq x.owner then x.entry else 0))

/-- The layer binding table as a requester reads it (R77, R93). -/
def State.layerTable (s : State) (rq : Requester) : Nat :=
  packItems 16 ((List.range 192).map (fun key =>
    let b := (s.grip.layers.find? (fun e => decide (e.1 = key))).map Prod.snd
    match b with
    | some x => if seesOwner rq x.owner then bindingEntry key b else 0
    | none => 0))

/-- The unit health table (R81), and when each unit last changed (R93). -/
def State.healthTable (s : State) : Nat := packItems 8 ((List.range 92).map (fun n => (s.unit n).entry))
/-- GRIP_HEALTH_SINCE. -/
def State.healthSince (s : State) : Nat := packItems 8 ((List.range 92).map (fun n => (s.unit n).since.pack))

/-- An entry of the ownership table (R350, R382). -/
def State.ownerEntry (s : State) (rq : Requester) (k : Nat) : Nat :=
  let m := k / 8192
  let a := k % 8192 * 0x200000
  let u0 := s.rankBytes (2 * m)
  let usable := if bit s.memConf.channels m then u0 + s.rankBytes (2 * m + 1) else 0
  let rank := if a < u0 then 2 * m else 2 * m + 1
  if usable < a + 0x200000 then (if seesOwner rq noOwner then 2 * 2 ^ 8 else 0)
  else
    let o := s.ownerAt m a
    if !seesOwner rq o then 0
    else
      let fenced := decide (s.rd (Obj.RANK_STATE (s.carrier rank)) = 5)
      let valid := !decide (o = noOwner)
      (if valid then (s.keyOf o).getD 0 + 2 ^ 6 else 0) + (if a < s.secureTop then 2 ^ 7 else 0)
        + (if fenced then 3 else if valid then 1 else 0) * 2 ^ 8

/-- One object of the ownership table: 2,048 entries (R386). -/
def State.ownerTable (s : State) (rq : Requester) (n : Nat) : Nat :=
  packItems 2 ((List.range 2048).map (fun j => s.ownerEntry rq (2048 * n + j)))

/-- An entry of MEM_POISON_LIST (R387). -/
def PoisonEntry.entry (e : PoisonEntry) : Nat :=
  e.line % 2 ^ 34 + e.line / 2 ^ 34 * 2 ^ 40 + e.rank * 2 ^ 43 + 2 ^ 47 + e.owner * 2 ^ 48 + e.pos.pack * 2 ^ 64 + e.time % 2 ^ 64 * 2 ^ 128

/-- An entry of KEY_SLOT_TABLE (R386). -/
def KeySlot.entry (k : KeySlot) : Nat := k.owner % 256 + k.state % 4 * 2 ^ 8 + k.generation % 65536 * 2 ^ 16

/-- DAILIES_RESULTS (R647): a number outside the catalogue is NOT_APPLICABLE. -/
def State.dailiesResults (s : State) : Nat :=
  packItems 1 ((List.range 4096).map (fun n => if (sliceNeed n).isNone then 5 else Tab.get 0 s.dailies.results n))

/-- TALLY_GROUP (R652, R653): header, position, and the counters with their overflow bits. -/
def State.tallyGroupFor (s : State) (rq : Requester) (g : Nat) : Nat :=
  let n := tallyCounters g
  let denied := match rq with
    | .guest i => !bit (s.rd (Obj.TALLY_GRANT i.val)) g
    | _ => false
  let counter := fun (c : Nat) =>
    if denied then 0 else Tab.get 0 s.tally (4096 * g + Config.tallyKind g c) % 2 ^ 48 + ofBool (s.tallyOvf.contains (64 * g + c)) * 2 ^ 63
  ofBool denied + g * 2 ^ 8 + n * 2 ^ 16 + s.now.pack * 2 ^ 64 + packItems 8 ((List.range n).map counter) * 2 ^ 128

/-- TALLY_EVENT_CODES: the events of a group's counters (R649; log entry 8). -/
def tallyCodes (g : Nat) : Nat := packItems 2 ((List.range (tallyCounters g)).map (fun c => Config.tallyKind g c % 65536))

/-! ## The mode objects (R568) -/

/-- The value in force of a STORED mode object, where it can differ from the value written. -/
def State.modeInForce (s : State) (a : Nat) : Nat :=
  let x := a / 256
  let j := a % 256 - 1
  let known := !decide (s.memConf.channels = 0)
  if x = 0xB001 then ofBool (s.out j).racing
  else if x = 0xB002 ∧ known then s.memConf.mode
  else if x = 0xB003 ∧ known then s.memConf.ecc
  else if x = 0xB004 ∧ known then s.memConf.spare
  else if x = 0xB005 ∧ (s.bus j).running then (s.bus j).mode
  else if x = 0xB006 then (s.front j).force
  else if x = 0xB007 then s.grip.aggressiveness
  else if x = 0xB008 then s.power.modeCeiling
  else if x = 0xB009 then s.dailies.budget
  else s.rd a

/-- Mode objects at index 0xB000 + n. -/
def modeObjects (n : Nat) : List Nat := (List.range (highestSub (0xB000 + n))).map (fun j => 0xB00001 + 256 * n + j)

/-- The value of a STORED object in the stored image (R538, R540). -/
def State.storedValue (s : State) (a : Nat) : Nat :=
  match s.flash.last.bind (fun c => (s.flash.copies.find? (fun e => decide (e.1 = c))).map Prod.snd) with
  | some im => (match im.entries.find? (fun e => decide (e.addr = a)) with | some e => e.value | none => defaultOf a)
  | none => defaultOf a

/-- MODE_PENDING (R568). -/
def State.modePending (s : State) : Nat :=
  let waits := fun (n a : Nat) => !decide (s.modeInForce a = s.rd a) || (decide (n = 1) && bit (s.rd (Obj.REEL_OUT_STATUS (a % 256 - 1))) 6)
  let differs := fun (a : Nat) => !decide (s.rd a = s.storedValue a) || !decide (s.modeInForce a = s.storedValue a)
  sumNat ((List.range 9).map (fun i =>
    let n := i + 1
    ofBool ((modeObjects n).any (waits n)) * 2 ^ n + ofBool ((modeObjects n).any differs) * 2 ^ (16 + n)))

/-! ## The value of an object -/

/-- STATE of an instance as INST_STATUS codes it (R306). -/
def InstState.code : InstState → Nat
  | .free => 0
  | .active => 1
  | .draining => 2
  | .teardown => 3

/-- Sessions that exist in a state of SESS_STATE. -/
def State.sessionsIn (s : State) (st : Nat) : Nat := ((List.range 8).filter (fun n => decide (s.rd (Obj.SESS_STATE n) = st))).length

/-- Is an object one of an instance's own (0x13ii, 0x31ii, PWR_INST_TOL), and whose (R297, R339, R606)? -/
def ownObject (addr : Nat) : Option Nat :=
  let x := addr / 256
  if 0x1300 ≤ x ∧ x < 0x1340 then some (x - 0x1300)
  else if 0x3100 ≤ x ∧ x < 0x3140 then some (x - 0x3100)
  else if 0x7300 ≤ x ∧ x < 0x7340 then some (x - 0x7300)
  else none

/-- Is an address a report object of a touch unit: the unit (0, 1 for the front ends, 2 for the key bank) (R472, R476)? -/
def reportUnit (addr : Nat) : Option Nat :=
  let x := addr / 256
  if x = 0x5160 ∨ x = 0x5161 then some (x - 0x5160)
  else if x = 0x5182 then some 2
  else none

/-- May a requester read a touch unit's reports (R472, R476)? Bittern reads its own units' and every other class those of the normal world; an instance
only as the unit's reader. -/
def State.seesReports (s : State) (rq : Requester) (u : Nat) : Bool :=
  let reader := if u = 2 then s.rd Obj.KB_READER else s.rd (Obj.RF_READER u)
  match rq with
  | .bittern => true
  | .guest i => !s.bitternRes (0x28 + u) && decide (reader = i.val)
  | _ => !s.bitternRes (0x28 + u)

/-- The objects that report live state, as a requester reads them; none where the store holds the object. -/
def State.liveObject (s : State) (rq : Requester) (addr : Nat) : Option Nat :=
  let x := addr / 256
  let sub := addr % 256
  if x = 0x1000 then
    (match sub with
    | 5 => some s.flash.generation
    | 6 => some (Config.objectCount % 65536)
    | _ => none)
  else if x = 0x1012 then
    (match sub with
    | 2 => some (s.sessionsIn 2)
    | 3 => some s.ldp.subs.length
    | _ => none)
  else if x = 0x1200 then
    (match sub with
    | 2 => some ((List.range 64).filter (fun i => !decide ((s.inst i).state = .free))).length
    | 3 => some (s.jobs.filter Job.resident).length
    | _ => none)
  else if 0x1300 ≤ x ∧ x < 0x1340 then
    (let i := s.inst (x - 0x1300)
    match sub with
    | 1 => some i.state.code
    | 2 => some (i.port + i.pasid * 16)
    | 0xC => some (ofSigned 32 i.balance)
    | _ => none)
  else if x = 0x2100 then
    (let t := s.timing s.leadOutput
    match sub with
    | 2 => some s.now.pack
    | 4 => some (if s.clock.everLocked && timingValid t then timLinePs t else 0)
    | 5 => some (if s.clock.everLocked && timingValid t then timVMin t else 0)
    | _ => none)
  else if addr = Obj.DTIME_NOW then some (s.dtime % 2 ^ 64)
  else if addr = 0x240003 then some s.pixelLoadNow
  else if addr = 0x2A0005 then some s.reelLoad
  else if 0x2A10 ≤ x ∧ x < 0x2A1C then
    (match sub with
    | 1 => some (s.backing (x - 0x2A10)).now.format
    | 2 => some (s.backing (x - 0x2A10)).slices.length
    | _ => none)
  else if 0x2F00 ≤ x ∧ x < 0x2F0C then some (s.lutBlock (x - 0x2F00) (1 - s.rd (Obj.OUT_LUT3D_ACTIVE (x - 0x2F00))) (sub - 1))
  else if addr = 0x300004 then some s.reserveFree
  else if 0x3100 ≤ x ∧ x < 0x3140 then
    (match sub with
    | 1 => some (s.pool (x - 0x3100)).length
    | 2 => some (s.poolFree (x - 0x3100))
    | _ => none)
  else if addr = 0x400004 then some (let l := ((List.range 8).filter (fun m => bit s.memConf.channels m)).map s.refiNow; if l = [] then 977 else maxNat l)
  else if 0x4010 ≤ x ∧ x < 0x4018 then
    (match sub with
    | 2 => some (Nat.min 128 (Config.inflight (x - 0x4010) s.freeDrawn))
    | 3 => some (if bit s.memConf.channels (x - 0x4010) then s.refiNow (x - 0x4010) else 0)
    | _ => none)
  else if 0x4020 ≤ x ∧ x < 0x4030 then
    (match sub with
    | 3 => some (s.rankBytes (x - 0x4020) / 2 ^ 20)
    | 4 => some (s.ce24 (x - 0x4020)).length
    | _ => none)
  else if x = 0x4041 then some (packItems 32 (s.dram.found.map PoisonEntry.entry))
  else if 0x4080 ≤ x ∧ x < 0x40A0 then some (s.ownerTable rq (x - 0x4080))
  else if x = 0x4C00 then
    (match sub with
    | 1 => some (s.grip.surfaces.filter (fun e => !decide (e.2.state = .free))).length
    | 2 => some s.reelPool
    | 3 => some s.reelFree
    | 5 => some (sumNat ((List.range 8).map (fun m => ofBool (s.unit (unitMc m)).health.leftOut * 2 ^ m)))
    | 6 => some s.migrationsActive
    | _ => none)
  else if x = 0x4C01 then some (s.layerTable rq)
  else if addr = 0x4C0201 then some s.healthTable
  else if addr = 0x4C0202 then some s.healthSince
  else if 0x4C10 ≤ x ∧ x < 0x4C50 then some (s.surfTable rq (x - 0x4C10))
  else if addr = 0x700003 then some (xoDelayMs (s.rd Obj.RST_STRAPS))
  else if addr = 0x720003 then some s.minTolerance.1
  else if addr = 0x720004 then some s.minTolerance.2
  else if addr = 0x8C0001 then some keySlots
  else if addr = 0x8C0002 then some (packItems 4 ((List.range keySlots).map (fun n => (s.keySlot n).entry)))
  else if addr = 0x810003 then some (packItems 2 ((List.range 256).map (fun n => Config.intSource n % 65536)))
  else if addr = 0x900101 then some (match s.log.ring with | r :: _ => recordFor rq r | [] => 0)
  else if addr = 0x900301 then some eventTable
  else if 0x9040 ≤ x ∧ x < 0x9060 then some (s.ringObjectFor rq (x - 0x9040))
  else if x = 0x9060 then some (packItems 32 (s.log.mirror.reverse.map (recordFor rq)))
  else if x = 0x9210 then some s.dailiesResults
  else if 0xA010 ≤ x ∧ x < 0xA038 then
    (match sub with
    | 1 => some (s.tallyGroupFor rq (x - 0xA010))
    | 4 => some (tallyCodes (x - 0xA010))
    | _ => none)
  else if addr = 0xB00001 then some s.modePending
  else none

/-- The value that a read of an object gives a requester. Subindex 0 holds the highest subindex in use (R530). -/
def State.readObject (s : State) (rq : Requester) (addr : Nat) : Nat :=
  if addr % 256 = 0 then highestSub (addr / 256)
  else
    let hidden := (match rq, ownObject addr with
      | .guest i, some o => !decide (o = i.val)
      | _, _ => false)
      || (match reportUnit addr with
      | some u => !s.seesReports rq u
      | none => false)
    if hidden then 0 else (s.liveObject rq addr).getD (s.rd addr)

/-- The type code of what lies at an address; subindex 0 is a U8. -/
def typeAt (addr : Nat) : Nat := match rowAt addr with | some r => r.ty.code | none => 2

/-- Bytes of a string: up to its last byte that is not zero, and at least 1 (R532). -/
def strBytes : Nat → Nat → Nat
  | 0, _ => 1
  | n + 1, v => if byteAt v n = 0 ∧ 0 < n then strBytes n v else n + 1

/-- The bytes of a read value (R532, R533). -/
def State.readBytes (s : State) (rq : Requester) (addr : Nat) : List (BitVec 8) :=
  let v := s.readObject rq addr
  match rowAt addr with
  | none => leBytes 1 v
  | some r => leBytes (if r.ty = .str then strBytes 64 v else objLength r addr) v

end Sys2Proof.Machine
end

