-- ==== Sys2Proof/Machine/Registers.lean ====
section
/-! DEFINITION. Writes of every object and register (R5, R6, R305, R326, R410, R530 to R537, R566, R614): which checks and which effect a write has, by
its address, and the command for what has no row of its own. -/
namespace Sys2Proof.Machine
open Sys2Proof

/-! ## Reserved bits (R6) -/

/-- The bits of a doorbell object: bit [4:0], mailbox [11:8], ENABLE [15] (R654). -/
def doorbellBits : Nat := 0x8F1F

/-- The bits of an object that hold a field; the rest are reserved and keep no written value. BITS32 objects carry theirs in the catalogue. -/
def keptBits (addr : Nat) : Option Nat :=
  let x := addr / 256
  let sub := addr % 256
  if 0x2E00 ≤ x ∧ x < 0x2E0C ∧ sub = 1 then some 0x3FFFFFFF
  else if 0x2A10 ≤ x ∧ x < 0x2A1C ∧ sub = 8 then some 0x3FFFFFFF
  else if (x = 0x5100 ∨ x = 0x5101) ∧ sub = 3 then some (2 ^ 51 - 1)
  else if (x = 0x5100 ∨ x = 0x5101) ∧ sub = 0x15 then some doorbellBits
  else if addr = Obj.KB_DOORBELL ∨ addr = Obj.LOG_DOORBELL then some doorbellBits
  else if 0x8210 ≤ x ∧ x < 0x8230 ∧ sub = 8 then some doorbellBits
  else if 0x6100 ≤ x ∧ x < 0x6140 ∧ sub = 8 then some (doorbellBits + 0xFF0000)
  else if 0x6200 ≤ x ∧ x < 0x6210 ∧ sub = 0xC then some (doorbellBits + 0xFF0000)
  else if addr = Obj.LDP_CAN_REQ_ID ∨ addr = Obj.LDP_CAN_RSP_ID then some 0x9FFFFFFF
  else if addr = Obj.HAP_TRIGGER_TABLE then some (packItems 16 (List.replicate 64 (0xFFFFFFFFFFFFFFFF0000 * 2 ^ 16 % 2 ^ 96 + 0x1FFF77)))
  else none

/-- A written value without its reserved bits. -/
def keep (addr v : Nat) : Nat := match keptBits addr with | some m => v &&& m | none => v

/-! ## Resets and fuses (R535, R570, R609) -/

/-- RST_WARM_REQ after step 7 of R536: 1 asks for a warm reset (R609). -/
def State.writeWarmReq (s : State) (v : Nat) : Nat × State :=
  (Status.ok, if v = 1 ∧ ¬s.heldInReset then s.warmReset 7 else s)

/-- RST_COLD_REQ after step 7 of R536: 1 asks for a cold reset, which samples the straps again (R609, R612). -/
def State.writeColdReq (s : State) (v straps : Nat) : Nat × State := (Status.ok, if v = 1 then s.coldReset 6 straps else s)

/-- RST_GAF_RESTART_REQ after step 7 of R536 (R619). -/
def State.writeGafRestart (s : State) (v : Nat) : Nat × State := (Status.ok, if v = 1 then s.gafferRestart 2 false else s)

/-- A production object after step 7 of R536 (R570): fuses only rise, and the lock leaves only PROD_SECURITY_VERSION. -/
def State.writeProduction (s : State) (addr v : Nat) : Nat × State :=
  let sub := addr % 256
  let old := s.rd addr
  if s.rd Obj.PROD_LOCKED = 1 ∧ sub ≠ 2 then (Status.accessDenied, s)
  else if sub = 1 then
    if old ≠ 0 ∧ v ≠ old then (Status.ldpRange, s) else (Status.ok, (s.wr addr v).wr Obj.BIT_ROOT_KEY_HASH v)
  else if sub = 2 then
    if v < old ∨ 63 < v then (Status.ldpRange, s) else (Status.ok, (s.wr addr v).wr Obj.BIT_SECURITY_VERSION v)
  else if v < old then (Status.ldpRange, s)
  else (Status.ok, s.wr addr v)

/-! ## Step 8 of R536: the RWS condition -/

/-- The status that an RWS object's block gives while it runs; `Status.ok` where it is stopped, or where its own write decides (R478, R499, R439, R505,
R536). A memory object's write only waits for a reset, so it finds nothing running (R345); the Raster Array runs while a job is resident, and CAN FD while a
controller carries LDP (log entry 71). -/
def State.rwsStatus (s : State) (addr : Nat) : Nat :=
  let x := addr / 256
  if 0x8210 ≤ x ∧ x < 0x8230 then (if s.cuEnabled (x - 0x8210) then Status.cuBusy else Status.ok)
  else if 0x5100 ≤ x ∧ x < 0x5190 then (if s.touchBusyAt addr then Status.touchBusy else Status.ok)
  else if 0x5200 ≤ x ∧ x < 0x5300 then (if s.hapBusy addr then Status.touchBusy else Status.ok)
  else if x = 0x3000 then (if s.jobs.any Job.resident then Status.ldpStoppedOnly else Status.ok)
  else if x = 0x1011 then (if s.rd Obj.LDP_CAN_CONTROLLER = 0xFF then Status.ok else Status.ldpStoppedOnly)
  else Status.ok

/-! ## The object's own checks and its effect, by address -/

/-- Identity, LDP transports and instances (0x1000 to 0x1FFF). -/
def State.writeIdentity (s : State) (addr v : Nat) : Nat × State :=
  let x := addr / 256
  if addr = Obj.LDP_CAN_CONTROLLER ∧ v < 4 ∧ s.bitternRes v then (Status.ownerLocked, s)
  else if 0x1300 ≤ x ∧ x < 0x1340 ∧ addr % 256 = 0xA then s.writeGrants (x - 0x1300) v
  else s.plainWrite addr v

/-- Sprocket, outputs, ports, the Reel and Matte (0x2000 to 0x2FFF). -/
def State.writeDisplay (s : State) (rq : Requester) (addr v : Nat) : Nat × State :=
  let x := addr / 256
  let sub := addr % 256
  if addr = Obj.SPK_LEAD_OUTPUT then s.writeLead v
  else if 0x2200 ≤ x ∧ x < 0x2300 then (if sub = 5 then s.writeSlotControl (x - 0x2200) v else s.writeSlotField (x - 0x2200) addr v)
  else if addr = Obj.OUT_PAIR_LOCK then s.writePairLock v
  else if 0x2410 ≤ x ∧ x < 0x241C ∧ sub = 2 then s.writeEnable (x - 0x2410) v
  else if 0x2410 ≤ x ∧ x < 0x241C ∧ sub = 3 then s.writeLatchMode rq (x - 0x2410) v
  else if 0x2420 ≤ x ∧ x < 0x242C then s.writePanelModes (x - 0x2420) v
  else if x = 0x2500 then s.writeOutPort (sub - 1) v
  else if 0x2510 ≤ x ∧ x < 0x251E then (if sub = 0xD then s.writeRetrain (x - 0x2510) v else s.writePort addr v)
  else if addr = Obj.REEL_BITTERN_SLICES then s.writeReelSlices v
  else if addr = Obj.MATTE_CLOCK_MAX then s.writeClockLimit addr v
  else if isColourShadow addr then s.writeColour rq addr v
  else if 0x2E00 ≤ x ∧ x < 0x2E0C ∧ sub = 4 then s.writeLutSwap (x - 0x2E00) v
  else if 0x2F00 ≤ x ∧ x < 0x2F0C then s.writeLutBlock (x - 0x2F00) (sub - 1) v
  else s.plainWrite addr v

/-- The Raster Array and memory (0x3000 to 0x4FFF), with the memory modes. -/
def State.writeMemory (s : State) (addr v : Nat) : Nat × State :=
  let x := addr / 256
  if addr = Obj.MEM_CHANNELS_ENABLED ∨ addr = Obj.MEM_DATA_RATE ∨ (0x4020 ≤ x ∧ x < 0x4030 ∧ addr % 256 = 1) ∨ x = 0xB002 ∨ x = 0xB003 then s.writeMemConf addr v
  else if x = 0xB004 then s.writeSpareRank v
  else s.plainWrite addr v

/-- Touch and haptics (0x5000 to 0x5FFF). -/
def State.writeTouch (s : State) (rq : Requester) (addr v : Nat) : Nat × State :=
  let x := addr / 256
  let sub := addr % 256
  if (x = 0x5100 ∨ x = 0x5101) ∧ sub = 1 then s.writeRfControl (x - 0x5100) v
  else if (x = 0x5100 ∨ x = 0x5101) ∧ sub = 4 ∧ 11 < v ∧ v ≠ 0xFF then (Status.ldpRange, s)
  else if addr = Obj.KB_ENABLE then s.writeKbEnable v
  else if addr = Obj.KB_GROUPS ∧ (unpackItems 1 24 v).any (fun g => Nat.blt 7 g && !decide (g = 0xFF)) then (Status.ldpRange, s)
  else if 0x5210 ≤ x ∧ x < 0x5218 then
    (match sub with
    | 1 => s.writeHapControl (x - 0x5210) v
    | 4 => if v ≠ 0 ∧ (v < 800 ∨ 3200 < v) then (Status.ldpRange, s) else s.plainWrite addr v
    | 6 => s.writeHapPlay rq (x - 0x5210) v
    | 7 => s.writeCritPlay (x - 0x5210) v
    | _ => s.plainWrite addr v)
  else if addr = Obj.HAP_RAM_EFFECTS then s.writeRamEffects v
  else s.plainWrite addr v

/-- Audio and chimes (0x6000 to 0x6FFF, 0x8E00). -/
def State.writeAudio (s : State) (addr v : Nat) : Nat × State :=
  let x := addr / 256
  let sub := addr % 256
  if addr = Obj.AUD_D48_RATE ∨ addr = Obj.AUD_D44_RATE ∨ addr = Obj.AUD_D48_REF then s.writeAudRate addr v
  else if 0x6010 ≤ x ∧ x < 0x6018 then s.writeTdm (x - 0x6010) v
  else if 0x6020 ≤ x ∧ x < 0x6028 then s.writePdm (x - 0x6020) v
  else if 0x6100 ≤ x ∧ x < 0x6140 then
    (match sub with
    | 1 => s.writeStreamCfg (x - 0x6100) v
    | 2 => s.writeRing addr v
    | 3 => s.writeRing addr v
    | 4 => s.writeRing addr v
    | 8 => s.writeAudDoorbell addr v
    | 9 => s.writeGain addr v
    | _ => s.plainWrite addr v)
  else if 0x6200 ≤ x ∧ x < 0x6210 then
    (match sub with
    | 1 => s.writeBusCfg (x - 0x6200) v
    | 2 => s.writeBusDest (x - 0x6200) v
    | 3 => s.writeGain addr v
    | 8 => s.writeRing addr v
    | 9 => s.writeRing addr v
    | 0xA => s.writeRing addr v
    | 0xC => s.writeAudDoorbell addr v
    | 0xD => s.writeRing addr v
    | _ => s.plainWrite addr v)
  else if addr = Obj.AUD_ROUTE_TABLE then s.writeRoutes (v % 2 ^ 32768)
  else if addr = Obj.CHIME_TABLE then s.writeChimes v
  else if addr = Obj.CHIME_PLAY then s.playChime v 0
  else if addr = Obj.CHIME_STOP then s.writeChimeStop v
  else s.plainWrite addr v

/-- Clocks, power and resets (0x7000 to 0x7FFF). A gate's close, a domain's start and a multiplexer's switch complete later. -/
def State.writePower (s : State) (rq : Requester) (addr v straps : Nat) (queued : List (Nat × Nat)) : Option Nat × State :=
  let x := addr / 256
  let sub := addr % 256
  let done := fun (r : Nat × State) => (some r.1, r.2)
  if 0x7010 ≤ x ∧ x < 0x701A ∧ sub = 3 then done (s.writePllEnable (x - 0x7010) v)
  else if 0x7030 ≤ x ∧ x < 0x703B ∧ sub = 3 then done (s.writeInject addr v)
  else if 0x7100 ≤ x ∧ x < 0x7180 ∧ sub = 1 then (if v = 1 then done (s.writeGateOpen rq (x - 0x7100)) else s.writeGateClose rq (x - 0x7100))
  else if 0x7180 ≤ x ∧ x < 0x7191 ∧ sub = 1 then
    (match v with
    | 0 => done (s.writeDomainOff (x - 0x7180))
    | 1 => s.writeDomainOn rq (x - 0x7180)
    | _ => done (s.writeDomainReset (x - 0x7180)))
  else if 0x71A0 ≤ x ∧ x < 0x71B3 ∧ sub = 1 then s.writeMuxSel rq (x - 0x71A0) v
  else if 0x71A0 ≤ x ∧ x < 0x71B3 ∧ sub = 3 then done (s.writeForce (x - 0x71A0) v straps queued)
  else if addr = Obj.PWR_AVS_I2C then
    done (if v < 10 ∧ s.bitternRes (4 + v) then (Status.ownerLocked, s) else s.writeClockLimit addr v)
  else if 0x7400 ≤ x ∧ x < 0x740C ∧ sub = 6 then done (s.writeSupInject (x - 0x7400) v)
  else if addr = Obj.PWR_SAG_RAS_MHZ ∨ addr = Obj.PWR_SAG_MAT_MHZ then done (s.writeClockLimit addr v)
  else if addr = Obj.RST_WARM_REQ then done (s.writeWarmReq v)
  else if addr = Obj.RST_COLD_REQ then done (s.writeColdReq v straps)
  else if addr = Obj.RST_GAF_RESTART_REQ then done (s.writeGafRestart v)
  else done (s.plainWrite addr v)

/-- Bittern's objects (0x8000 to 0x8FFF). -/
def State.writeBittern (s : State) (rq : Requester) (addr v : Nat) (queued : List (Nat × Nat)) : Option Nat × State :=
  let x := addr / 256
  let sub := addr % 256
  let done := fun (r : Nat × State) => (some r.1, r.2)
  if addr = Obj.BIT_RESTART_REQ then done (s.writeBitRestart rq v queued)
  else if addr = Obj.BIT_READY then done (s.writeBitReady v)
  else if 0x8210 ≤ x ∧ x < 0x8230 ∧ sub = 0xA then done (s.writeCuControl (x - 0x8210) v)
  else if 0x8210 ≤ x ∧ x < 0x8230 ∧ sub = 0x12 then done (s.writeCuInject (x - 0x8210) v)
  else if x = 0x8A00 then done (s.writeSubstTable v)
  else if 0x8A10 ≤ x ∧ x < 0x8A1C then done (s.writeCritRects (x - 0x8A10) v)
  else if addr = Obj.MEM_WATERMARK then done (s.writeWatermark v)
  else if 0x8D00 ≤ x ∧ x < 0x8D08 ∧ sub = 2 then s.writeSecret rq (x - 0x8D00) v
  else if x = 0x8E00 then done (s.writeAudio addr v)
  else done (s.plainWrite addr v)

/-- Injection, Dailies, Tally, mode and production objects (0x9000 to 0xFFFF). -/
def State.writeService (s : State) (rq : Requester) (addr v : Nat) (queued : List (Nat × Nat)) : Nat × State :=
  let x := addr / 256
  let sub := addr % 256
  if addr = Obj.INJ_ENABLE then s.writeInjEnable v
  else if 0x9110 ≤ x ∧ x < 0x912F ∧ sub = 1 then s.writeInjArm (x - 0x9110) v queued
  else if 0xA010 ≤ x ∧ x < 0xA038 ∧ sub = 2 then s.writeFilter rq (x - 0xA010) v
  else if 0xA010 ≤ x ∧ x < 0xA038 ∧ sub = 3 then s.writeOvfClear (x - 0xA010) v
  else if 0xA100 ≤ x ∧ x < 0xA140 then s.writeGrant (x - 0xA100) v
  else if x = 0xB001 then s.writeScanMode (sub - 1) v
  else if 0xB002 ≤ x ∧ x ≤ 0xB004 then s.writeMemory addr v
  else if x = 0xB008 then s.writeClockLimit addr v
  else if x = 0xF000 then s.writeProduction addr v
  else s.plainWrite addr v

/-- Step 8 of R536 and the effect of an accepted write of any object: the status, or none where the write completes later. `straps` are the straps that a
cold reset samples and `queued` what a Bittern restart discards. -/
def State.writeOwn (s : State) (rq : Requester) (addr v straps : Nat) (queued : List (Nat × Nat)) : Option Nat × State :=
  let busy := if s.rws rq addr then s.rwsStatus addr else Status.ok
  let v := keep addr v
  let done := fun (r : Nat × State) => (some r.1, r.2)
  if busy ≠ Status.ok then (some busy, s)
  else match addr / 0x100000 with
    | 0x1 => done (s.writeIdentity addr v)
    | 0x2 => done (s.writeDisplay rq addr v)
    | 0x3 => done (s.writeMemory addr v)
    | 0x4 => done (s.writeMemory addr v)
    | 0x5 => done (s.writeTouch rq addr v)
    | 0x6 => done (s.writeAudio addr v)
    | 0x7 => s.writePower rq addr v straps queued
    | 0x8 => s.writeBittern rq addr v queued
    | _ => done (s.writeService rq addr v queued)

/-- A write of any object as a request: every check of R536 and the effect; the status is none where it comes later. What a reset in the write's course needs
of the pins, and of Bittern's peripherals, is as it was (log entry 72). -/
def State.writeAny (s : State) (rq : Requester) (addr type len v : Nat) : Option Nat × State :=
  let st := s.writeStatus rq addr type len v
  let r := if st = Status.ok then s.writeOwn rq addr v (s.rd Obj.RST_STRAPS) [] else (some st, s)
  if r.1 = some Status.ownerLocked then (r.1, r.2.ownerRefused (rq.code) (refusedResource addr) 0) else r

/-! ## Registers of a host window (R305, R306, R315, R326, R566, R567) -/

/-- A register after a 64-bit or a 32-bit write of a register that held `old`: at an offset of 4 modulo 8 the upper half is written. -/
def written (old off v : Nat) (wide : Bool) : Nat :=
  if wide then v % 2 ^ 64
  else if off % 8 = 4 then setField old 63 32 v
  else setField old 31 0 v

/-- Is any queue of an instance enabled (R306)? -/
def Inst.anyEnabled (x : Inst) : Bool := x.queues.any (fun e => e.2.enable)

/-- Words of the common registers of a window (R305, R306). -/
def Inst.writeCommon (x : Inst) (off v : Nat) (wide : Bool) : Inst :=
  match off / 8 * 8 with
  | 0x08 =>
    let w := written 0 off v wide
    { x with resetDone := x.resetDone && !bit w 4, configIgnored := x.configIgnored && !bit w 5 }
  | 0x20 => if x.anyEnabled then { x with configIgnored := true } else { x with crBase := written x.crBase off v wide / 64 * 64 }
  | 0x28 => if x.anyEnabled then { x with configIgnored := true } else { x with crConfig := written x.crConfig off v wide &&& 0x07FF001F }
  | 0x30 => { x with crHead := written x.crHead off v wide % 2 ^ 32 }
  | _ => x

/-- Registers of a queue (R305, R306, R315, R317). -/
def Inst.writeQueue (x : Inst) (resetting : Bool) (q off v : Nat) (wide : Bool) : Inst :=
  let y := x.queue q
  match off % 0x40 / 8 * 8 with
  | 0x00 => if y.enable then { x with configIgnored := true } else x.setQueue q { y with base := written y.base off v wide / 64 * 64 }
  | 0x08 =>
    let w := written (ofBool y.enable + 2 * y.sizeLog2) off v wide
    x.writeControl q (bit w 0) (field w 4 1)
  | 0x10 => if off % 8 = 0 then x.setQueue q (doorbellQueue y resetting (v % 2 ^ 32)) else x
  | 0x20 =>
    let w := field (written 0 off v wide) 35 32
    x.setQueue q { y with sticky := y.sticky &&& (15 - w) }
  | _ => x

/-- Bytes of a buffer written at an offset: it grows with zeros where nothing was written. -/
def writeBuffer (buf : List (BitVec 8)) (at_ : Nat) (bs : List (BitVec 8)) : List (BitVec 8) :=
  (buf.take at_ ++ List.replicate (at_ - buf.length) 0) ++ bs ++ buf.drop (at_ + bs.length)

/-- Registers of a dictionary window but for DICT_GO, and its request buffer (R566, R567). -/
def DictWindow.write (w : DictWindow) (off v : Nat) (wide : Bool) : DictWindow :=
  if 0xA000 ≤ off ∧ off < 0xC000 then { w with request := writeBuffer w.request (off - 0xA000) (leBytes (if wide then 8 else 4) v) }
  else match off / 8 * 8 with
    | 0xE008 =>
      let x := written 0 off v wide
      { w with done := w.done && !bit x 1, goRefused := w.goRefused && !bit x 2 }
    | 0xE010 => { w with notifyBase := written w.notifyBase off v wide / 64 * 64 }
    | 0xE018 => { w with notifyConfig := written w.notifyConfig off v wide &&& 0x07FF000F }
    | 0xE020 => { w with notifyHead := written w.notifyHead off v wide % 2 ^ 32 }
    | _ => w

/-- The value a 32-bit write of a dirty log's register is merged into (R326). -/
def DirtyLog.held (l : DirtyLog) (off : Nat) : Nat :=
  match off with
  | 0x00 => ofBool l.enable
  | 0x08 => l.base
  | 0x10 => l.pages
  | 0x18 => l.buf0
  | 0x20 => l.buf1
  | _ => 0

/-- A write of a window's register (R305): a window that is not there ignores it. -/
def State.writeWindow (s : State) (o off v : Nat) (wide : Bool) (go : State → Nat → State) : State :=
  if !s.windowLive o then s
  else if off / 8 * 8 = 0x10 then
    (if off % 8 = 0 ∧ bit v 0 ∧ ¬s.resetting o then s.startReset o false none (s.drainTime o) else s)
  else if off < 0x40 then s.modInst o (fun x => x.writeCommon off v wide)
  else if 0x1000 ≤ off ∧ off < 0x1400 then s.modInst o (fun x => x.writeQueue (s.resetting o) ((off - 0x1000) / 0x40) (off - 0x1000) v wide)
  else if 0x8000 ≤ off ∧ off < 0x9000 ∧ o = 0x40 then
    let i := (off - 0x8000) / 0x40
    let r := off % 0x40 / 8 * 8
    if (s.inst i).state = .free then s
    else s.modInst i (fun x => { x with dirty := x.dirty.write r (written (x.dirty.held r) off v wide) })
  else if off = 0xE000 then go s v
  else if 0xA000 ≤ off ∧ off < 0xE030 then s.modInst o (fun x => { x with window := x.window.write off v wide })
  else s

/-! ## Registers of a mailbox block (R410 to R416) -/

/-- A write of a mailbox's register. STATUS is written by both ends, the rest by the end that the table names; words and reserved offsets take none. -/
def State.writeMailbox (s : State) (rq : Requester) (m off v : Nat) (wide : Bool) : State :=
  let served := s.mbServed m
  let receiver := s.mbReceiver m
  let sender := s.mbSender m
  match off / 8 * 8 with
  | 0x40 =>
    if wide ∨ off % 8 ≠ 0 then s.mbError rq sender
    else s.mbWrite rq m sender served (fun s =>
      match s.guardOf m with
      | some u => s.stageWord u (v % 2 ^ 32) false
      | none => s.pushWord m (v % 2 ^ 32))
  | 0x48 =>
    let e := if s.isEnd rq receiver then receiver else sender
    s.mbWrite rq m e served (fun s =>
      let b := s.mailbox m
      s.setMailbox m { b with collision := b.collision && !bit (written 0 off v wide) 6 })
  | 0x50 => s.mbWrite rq m receiver served (fun s => if off % 8 = 0 then s.releaseWords m (v % 32) else s)
  | 0x58 =>
    s.mbWrite rq m sender (!s.mbUnused m && !(s.mbBittern m && s.bitternDown)) (fun s =>
      let r := s.ring m (if off % 8 = 0 then v % 2 ^ 32 else 0)
      if r.1 = Status.ok then r.2.tallyCount 28 (16 + m) (rq.code) else r.2.answer rq r.1)
  | 0x60 => s.mbWrite rq m receiver served (fun s => s.doorbellWrite m (written (s.mailbox m).mask off v wide))
  | 0x68 => s.mbWrite rq m receiver served (fun s =>
      let b := s.mailbox m
      s.setMailbox m { b with wakeEn := written b.wakeEn off v wide % 2 ^ 32 })
  | 0x70 =>
    match receiver with
    | .host _ => s.mbWrite rq m receiver served (fun s =>
        let b := s.mailbox m
        s.setMailbox m { b with vector := written b.vector off v wide % 2 ^ 11 })
    | _ => s.mbError rq receiver
  | _ => s.mbError rq receiver

/-! ## The boot-visible status block (R613, R614) -/

/-- RECOVERY_GO: a length starts the measurement of what HP0 has delivered, while the device waits for it or has halted on a delivery (R613, R614). -/
def State.writeRecoveryGo (s : State) (port length : Nat) : State :=
  let waits := decide (s.boot.stage = 3) || decide (s.boot.stage = 7)
  if port ≠ 0 ∨ !waits ∨ field (s.rd Obj.RST_STRAPS) 5 4 ≠ 2 then s
  else (s.wr Obj.BIT_STATE 1).modBoot (fun b => { b with recoveryLength := length % 2 ^ 26 })

/-- A write of the boot-visible status block. -/
def State.writeBootBlock (s : State) (port off v : Nat) : State :=
  match off with
  | 0x18 => s.modBoot (fun b => { b with recoveryPage := v % 8 })
  | 0x20 => s.writeRecoveryGo port v
  | _ => s

end Sys2Proof.Machine
end

