-- ==== Sys2Proof/Machine/Ldp.lean ====
section
/-! DEFINITION. LDP (R530 to R567): messages over UDP, CAN FD and dictionary windows, sessions and their authentication, transactions, the operations on
objects, subscriptions, and COMMIT. -/
namespace Sys2Proof.Machine
open Sys2Proof

/-! ## Channels (R534, R566) -/

end Sys2Proof.Machine

namespace Sys2Proof

/-- The number of a channel: session slots 0 to 7, then windows. -/
def LdpChannel.number : LdpChannel → Nat
  | .session n => n.val
  | .window w => Machine.windowChannel w.code

/-- Whom requests of a channel act for. -/
def LdpChannel.requester : LdpChannel → Requester
  | .session n => .field n
  | .window (.guest i) => .guest i
  | .window .manager => .manager

end Sys2Proof

namespace Sys2Proof.Machine
open Sys2Proof

/-- Does Gaffer's dictionary server run: the image is loaded, and no restart is in progress (R540, R615, R619; log entry 74)? -/
def State.ldpServes (s : State) : Bool := decide (s.boot.stage = 5) || decide (s.boot.stage = 6)

/-- The largest message of a channel (R564 to R566). -/
def State.largest (s : State) (ch : Nat) : Nat :=
  match s.session? ch with
  | some x => if x.transport = 0 then 1472 else 4160
  | none => 4160

/-- Bytes of a message of a channel beyond its body: header, and MAC on a session (R543). -/
def overhead (ch : Nat) : Nat := if isSession ch then 32 else 16

/-! ## The form of a message (R543, R544) -/

/-- One byte of a message or body. -/
def at8 (b : List (BitVec 8)) (i : Nat) : Nat := takeLe b i 1

/-- Records of a WRITE_BLOCK: subindex, type, length and value; none where they do not fill the body exactly. -/
def blockRecords : Nat → List (BitVec 8) → Option (List (Nat × Nat × Nat × Nat))
  | 0, b => if b = [] then some [] else none
  | n + 1, b =>
    let len := takeLe b 2 2
    let size := 4 + (len + 3) / 4 * 4
    if b.length < size then none
    else (blockRecords n (b.drop size)).map (fun rs => (at8 b 0, at8 b 1, len, takeLe b 4 len) :: rs)

/-- Has a request's body its OP's size and no reserved bit set? An unknown OP has none. -/
def bodyOk (op : Nat) (b : List (BitVec 8)) : Bool :=
  match op with
  | 0x01 => decide (b.length = 8) && decide (at8 b 3 = 0)
  | 0x02 => Nat.ble 8 b.length && decide (takeLe b 6 2 = b.length - 8)
  | 0x03 => decide (b.length = 4)
  | 0x04 => Nat.ble 4 b.length && decide (at8 b 3 = 0) && (blockRecords (at8 b 2) (b.drop 4)).isSome
  | 0x05 => decide (b.length = 8) && decide (takeLe b 6 2 = 0)
  | 0x06 => decide (b.length = 2)
  | 0x07 => decide (b.length = 0)
  | 0x08 => decide (b.length = 4)
  | 0x10 => decide (b.length = 20) && decide (takeLe b 1 3 = 0)
  | 0x11 => decide (b.length = 32)
  | 0x12 => decide (b.length = 0)
  | 0x13 => decide (b.length = 0)
  | _ => false

/-- Is a message well formed (step 1 of R536)? `mac` bytes of MAC end it. -/
def formOk (m : List (BitVec 8)) (mac : Nat) : Bool :=
  Nat.ble (16 + mac) m.length && decide (at8 m 0 = 1) && decide (takeLe m 6 2 = m.length - 16 - mac)
    && decide (takeLe m 14 2 / 2 = 0) && bodyOk (at8 m 1) ((m.drop 16).take (m.length - 16 - mac))

/-- The transaction that a message of so many bytes of MAC asks for. -/
def txnOf (m : List (BitVec 8)) (mac : Nat) : LdpTxn :=
  ⟨at8 m 1, takeLe m 2 2, takeLe m 8 4, bit (takeLe m 14 2) 0, (m.drop 16).take (m.length - 16 - mac), m, none⟩

/-! ## Arrival on a session (R547, R548, R558 to R562) -/

/-- An answer without a MAC (R543, R560). -/
def State.bareAnswer (s : State) (transport : Nat) (m : List (BitVec 8)) (status : Nat) : State :=
  s.emit (.ldp (0x100 + transport) (ldpMessage (at8 m 1 % 128 + 0x80) (takeLe m 2 2) (takeLe m 4 2) 0 status []))

/-- The source of a session, as SESS_SOURCE gives it (R570). -/
def sourceCode (transport unit ip udpPort : Nat) : Nat := transport + unit * 2 ^ 8 + ip * 2 ^ 16 + udpPort * 2 ^ 48

/-- The session that a message of a source names, if it is one of that source (R560, R561). -/
def State.sessionOf (s : State) (number transport unit ip udpPort : Nat) : Option (Nat × Session) :=
  s.ldp.sessions.find? (fun e => decide (e.2.number = number) && decide (e.2.transport = transport) && decide (e.2.unit = unit)
    && decide (e.2.ip = ip) && decide (e.2.udpPort = udpPort))

/-- A message of an open session that is discarded for its MAC or its SEQ: counted, and recorded at most once a second (R560, R562). -/
def State.badMessage (s : State) (n : Nat) (x : Session) (status : Nat) (injected : Bool) : State :=
  let s := s.count Obj.LDP_AUTH_FAILS
  match x.failAt with
  | some t => if s.dtime < t + 1000000000 then s
    else (s.setSession n { x with failAt := some s.dtime }).authFail (s.rd (Obj.SESS_SOURCE n)) x.cred status injected
  | none => (s.setSession n { x with failAt := some s.dtime }).authFail (s.rd (Obj.SESS_SOURCE n)) x.cred status injected

/-- A transaction joins a channel. -/
def State.enqueueTxn (s : State) (ch : Nat) (t : LdpTxn) : State :=
  (s.modLdp (fun l => { l with txns := l.txns ++ [(ch, t)] })).countTxns ch

/-- A request of an open session with a right MAC and a SEQ not seen before: the limits of R547. -/
def State.acceptRequest (s : State) (n : Nat) (x : Session) (t : LdpTxn) : State :=
  let high := Nat.max x.high t.seq
  let s := s.setSession n { x with high := high, seen := (t.seq :: x.seen).filter (fun q => Nat.blt high (q + 128)), since := s.dtime }
  let refuse := fun (st : Nat) => s.sendOn n (t.op + 0x80) t.tid st [] (some t.seq)
  if 96 ≤ (s.txnsOf n).length then refuse Status.ldpTooMany
  else if (s.txnsOf n).any (fun u => decide (u.tid = t.tid)) then refuse Status.ldpTidInUse
  else if t.op = 0x11 then refuse Status.ldpMalformed
  else s.enqueueTxn n { t with raw := [] }

/-- A message of an open session: MAC, then SEQ (R548, R560, R562). -/
def State.openMessage (s : State) (n : Nat) (x : Session) (m : List (BitVec 8)) : State :=
  let t := txnOf m 16
  let good := decide (m.drop (m.length - 16) = macOf x.key (m.take (m.length - 16)))
  let i := if good then s.inject 21 n else (none, s)
  if !good ∨ i.1.isSome then i.2.badMessage n x Status.authFailed good
  else
    let s := i.2
    let taken := decide (t.seq = 0) || x.seen.contains t.seq
    if !taken ∧ x.high < t.seq + 128 then s.acceptRequest n x t
    else match x.sent.find? (fun e => decide (e.1 = t.seq) && decide (e.2.1 = t.op) && decide (e.2.2.1 = t.tid)) with
      | some e => s.emit (.ldp n e.2.2.2)
      | none =>
        if (s.txnsOf n).any (fun u => decide (u.seq = t.seq) && decide (u.op = t.op) && decide (u.tid = t.tid)) then s
        else s.badMessage n x Status.replay false

/-- A message from a source over UDP or CAN FD (steps 1 to 3 of R536). -/
def State.arrive (s : State) (transport unit ip udpPort : Nat) (m : List (BitVec 8)) : State :=
  let number := takeLe m 4 2
  let op := at8 m 1
  if !formOk m (if number = 0 then 0 else 16) ∨ (op = 0x10 ∧ number ≠ 0) ∨ (op = 0x11 ∧ takeLe m 8 4 ≠ 0) then s.bareAnswer transport m Status.ldpMalformed
  else if op = 0x10 then s.modLdp (fun l => { l with opens := l.opens ++ [⟨transport, unit, ip, udpPort, takeLe m 2 2, m.drop 16⟩] })
  else match s.sessionOf number transport unit ip udpPort with
    | none => s.bareAnswer transport m Status.sessionUnknown
    | some (n, x) =>
      if s.rd (Obj.SESS_STATE n) = 2 then s.openMessage n x m
      else if op ≠ 0x11 then s.bareAnswer transport m Status.sessionUnknown
      else if (s.txnsOf n).isEmpty then s.enqueueTxn n (txnOf m 16) else s

/-- UDP_DATAGRAM (R564). -/
def execUdpDatagram (mac : Fin 2) (ip : BitVec 32) (udpPort : BitVec 16) (fragment : Bool) (bytes : List (BitVec 8)) (s : State) : Out :=
  .next (if !s.ldpServes ∨ !bit (s.rd Obj.LDP_UDP_ENABLE) mac.val ∨ fragment ∨ 1472 < bytes.length ∨ s.bitternRes (0x16 + mac.val) then s
  else s.arrive 0 mac.val ip.toNat udpPort.toNat bytes)

/-- ARP_ICMP (R564, and R613 in a recovery boot over EM0): a request for an address of the Ixand is answered. -/
def execArpIcmp (mac : Fin 2) (echo : Bool) (ip : BitVec 32) (s : State) : Out :=
  let ldp := s.ldpServes && bit (s.rd Obj.LDP_UDP_ENABLE) mac.val && decide (s.rd (Obj.LDP_IPV4_ADDR mac.val) = ip.toNat)
  let rom := decide (mac.val = 0) && !echo && decide (ip.toNat = 0xA9FE4901) && decide (field (s.rd Obj.RST_STRAPS) 5 4 = 3)
    && (decide (s.boot.stage = 3) || decide (s.boot.stage = 7))
  .next (if ldp || rom then s.emit (.ethernet mac.val (ofBool echo)) else s)

/-! ## CAN FD (R565) -/

/-- The message being received is discarded. -/
def State.loseSegments (s : State) (ctl : Nat) (injected : Bool) : State :=
  match s.ldp.can with
  | none => s
  | some r => (s.modLdp (fun l => { l with can := none })).logInjected Ev.canSegmentLost noOwner injected [d8 ctl, d32 r.bytes.length]

/-- A whole message over CAN FD: injection point 22 loses it (R565, R640). -/
def State.canMessage (s : State) (ctl : Nat) (m : List (BitVec 8)) : State :=
  let i := s.inject 22 ctl
  match i.1 with
  | some _ => i.2.logInjected Ev.canSegmentLost noOwner true [d8 ctl, d32 m.length]
  | none => i.2.arrive 1 ctl 0 0 m

/-- A frame on LDP's request identifier. -/
def State.canFrame (s : State) (ctl : Nat) (b : List (BitVec 8)) : State :=
  let old := match s.ldp.can with | some r => Nat.blt (r.lastAt + 100000000) s.dtime | none => false
  let s := if old then s.loseSegments ctl false else s
  let kind := at8 b 0
  if kind = 0 then
    let n := at8 b 1
    let s := s.loseSegments ctl false
    if 1 ≤ n ∧ n ≤ 62 ∧ n + 2 ≤ b.length then s.canMessage ctl ((b.drop 2).take n) else s
  else if kind = 0x40 then
    let n := takeLe b 1 2
    let s := s.loseSegments ctl false
    if 63 ≤ n ∧ n ≤ 4160 ∧ b.length = 64 then s.modLdp (fun l => { l with can := some ⟨n, b.drop 3, 1, s.dtime⟩ }) else s
  else match s.ldp.can with
    | none => s
    | some r =>
      let rest := r.total - r.bytes.length
      if kind ≠ 0x80 + r.next ∨ b.length < 1 + Nat.min 63 rest then s.loseSegments ctl false
      else
        let bytes := r.bytes ++ (b.drop 1).take rest
        if bytes.length < r.total then s.modLdp (fun l => { l with can := some ⟨r.total, bytes, (r.next + 1) % 64, s.dtime⟩ })
        else (s.modLdp (fun l => { l with can := none })).canMessage ctl bytes

/-- CAN_FRAME (R565, R597): any frame received by a normal-world controller is a wake event. -/
def execCanFrame (ctl : Fin 4) (identifier : BitVec 32) (bytes : List (BitVec 8)) (s : State) : Out :=
  let s := if s.bitternRes ctl.val then s else s.wake 5
  .next (if s.ldpServes ∧ s.rd Obj.LDP_CAN_CONTROLLER = ctl.val ∧ !s.bitternRes ctl.val ∧ s.rd Obj.LDP_CAN_REQ_ID = identifier.toNat then s.canFrame ctl.val bytes
  else s)

/-- CAN_SEGMENT_LOST (R565). -/
def execCanSegmentLost (s : State) : Out :=
  .next (match s.ldp.can with
  | some r => if r.lastAt + 100000000 < s.dtime then s.loseSegments (s.rd Obj.LDP_CAN_CONTROLLER) false else s
  | none => s)

/-! ## Dictionary windows (R566, R567) -/

/-- A write of DICT_GO: the request in the buffer starts, or GO_REFUSED is set. -/
def State.dictStart (s : State) (o v : Nat) : State :=
  let w := (s.inst o).window
  if w.busy ∨ s.resetting o then s.modInst o (fun x => { x with window := { w with goRefused := true } })
  else
    let n := field v 12 0
    let m := w.request.take n ++ List.replicate (n - w.request.length) 0
    let s := s.modInst o (fun x => { x with window := { w with busy := true, irq := bit v 16 } })
    let op := at8 m 1
    if s.ldpServes ∧ (4160 < n ∨ !formOk m 0 ∨ op = 0x10 ∨ op = 0x11) then
      s.windowDone o (op % 128 + 0x80) (takeLe m 2 2) Status.ldpMalformed []
    else s.enqueueTxn (windowChannel o) { txnOf m 0 with raw := [] }

/-- A host write of DICT_GO, in S3 and S4 with a wake (R597). -/
def State.dictGo (s : State) (o v : Nat) : State :=
  if s.windowLive o ∧ s.barServed then (s.whenB (Nat.ble 3 (s.rd Obj.PWR_STATE)) (fun s => s.wake 4)).dictStart o v else s

/-- DICT_GO (R566, R567): `bytes` is what the host has put into the request buffer. -/
def execDictGo (w : Window) (v : BitVec 32) (bytes : List (BitVec 8)) (s : State) : Out :=
  let o := w.code
  .next (if !(s.windowLive o && s.barServed) then s
  else (s.modInst o (fun x => { x with window := { x.window with request := writeBuffer x.window.request 0 (bytes.take 8192) } })).dictGo o v.toNat)

/-! ## Transactions (R551) -/

/-- The transaction of a channel that starts next, if it has an OP: those before it have started. -/
def State.nextTxn (s : State) (ch op : Nat) : Option LdpTxn :=
  match (s.txnsOf ch).filter (fun t => t.waits.isNone) with
  | t :: _ => if t.op = op ∧ s.ldpServes then some t else none
  | [] => none

/-- The next transaction of an OP on a channel. -/
def State.onTxn (s : State) (c : LdpChannel) (op : Nat) (f : State → Nat → LdpTxn → State) : State :=
  match s.nextTxn c.number op with
  | some t => f s c.number t
  | none => s

/-- A transaction ends with a status and a body; while Gaffer restarts nothing is answered (R567, R619). -/
def State.conclude (s : State) (ch : Nat) (t : LdpTxn) (status : Nat) (body : List (BitVec 8)) : State :=
  if s.gafferDown then s else s.respond ch t status body

/-- A transaction has started and waits for the write of an object. -/
def State.await (s : State) (ch : Nat) (t : LdpTxn) (addr : Nat) : State :=
  s.modLdp (fun l => { l with txns := l.txns.map (fun e => if e = (ch, t) then (ch, { t with waits := some addr }) else e) })

/-- The result of a write on a channel. -/
def concludeWrite (ch : Nat) (t : LdpTxn) (addr : Nat) (r : Option Nat × State) : State :=
  match r.1 with
  | none => r.2.await ch t addr
  | some st => r.2.conclude ch t st (refusalBody t.op addr st)

/-! ## Reading (R545, R549) -/

/-- Do OFFSET and LENGTH apply to an object: OCTETS or STR (R549)? -/
def ranged (addr : Nat) : Bool :=
  match rowAt addr with
  | some r => decide (r.ty = .octets) || decide (r.ty = .str)
  | none => false

/-- READ of an object: the status and the response body. -/
def State.ldpReadNow (s : State) (rq : Requester) (ch addr offset length : Nat) : Nat × List (BitVec 8) :=
  let st := s.readStatus rq addr
  if st ≠ Status.ok then (st, [])
  else
    let b := s.readBytes rq addr
    if (!ranged addr ∧ (offset ≠ 0 ∨ length ≠ 0)) ∨ b.length < offset + length then (Status.ldpLength, [])
    else
      let v := if length = 0 then b.drop offset else (b.drop offset).take length
      if s.largest ch < overhead ch + 4 + v.length then (Status.ldpTooLarge, [])
      else (Status.ok, leBytes 1 (typeAt addr) ++ leBytes 1 0 ++ leBytes 2 v.length ++ v)

/-- READ (R544, R549). -/
def execLdpRead (c : LdpChannel) (s : State) : Out :=
  .next (s.onTxn c 0x01 (fun s ch t =>
    let r := s.ldpReadNow c.requester ch (256 * takeLe t.body 0 2 + at8 t.body 2) (takeLe t.body 4 2) (takeLe t.body 6 2)
    s.conclude ch t r.1 r.2))

/-- A record of READ_BLOCK (R545). -/
def State.readRecord (s : State) (rq : Requester) (addr : Nat) : List (BitVec 8) :=
  let st := s.readStatus rq addr
  let v := if st = Status.ok then s.readBytes rq addr else []
  let type := if st = Status.ldpNoObject then 0 else typeAt addr
  leBytes 1 (addr % 256) ++ leBytes 1 type ++ leBytes 2 st ++ leBytes 2 v.length ++ leBytes 2 0 ++ v ++ List.replicate ((4 - v.length % 4) % 4) 0

/-- READ_BLOCK (R545). -/
def execLdpReadBlock (c : LdpChannel) (s : State) : Out :=
  .next (s.onTxn c 0x03 (fun s ch t =>
    let x := takeLe t.body 0 2
    let first := at8 t.body 2
    let body := (List.range (at8 t.body 3 + 1 - first)).flatMap (fun i => s.readRecord c.requester (256 * x + first + i))
    if s.largest ch < overhead ch + body.length then s.conclude ch t Status.ldpTooLarge [] else s.conclude ch t Status.ok body))

/-! ## Writing (R533, R545, R549, R550) -/

/-- The staging buffer of a channel. -/
def State.staged (s : State) (ch : Nat) : Option Staging := (s.ldp.staging.find? (fun e => decide (e.1 = ch))).map Prod.snd

/-- The staging buffer of a channel emptied. -/
def State.unstage (s : State) (ch : Nat) : State := s.modLdp (fun l => { l with staging := Tab.drop l.staging ch })

/-- Is a WRITE of an OCTETS object a part (R550)? -/
def partOf (st : Option Staging) (addr offset : Nat) (more : Bool) : Bool :=
  more || decide (offset ≠ 0) || (match st with | some x => decide (x.addr = addr) | none => false)

/-- A part of an OCTETS object whose rights and type have passed: staged, submitted, or refused with the buffer emptied (R550). -/
def State.writePart (s : State) (rq : Requester) (ch : Nat) (t : LdpTxn) (addr type offset : Nat) (v : List (BitVec 8)) (size : Nat) : State :=
  let have_ : List (BitVec 8) := match s.staged ch with | some x => x.bytes | none => []
  let other : Bool := match s.staged ch with | some x => !decide (x.addr = addr) | none => false
  if other = true ∨ offset ≠ have_.length then (s.unstage ch).conclude ch t Status.ldpPartOrder []
  else if size < have_.length + v.length then (s.unstage ch).conclude ch t Status.ldpLength []
  else if t.more then
    (s.modLdp (fun l => { l with staging := Tab.set l.staging ch ⟨addr, type, have_ ++ v, s.dtime⟩ })).conclude ch t Status.ok []
  else
    let all := have_ ++ v
    let s := s.unstage ch
    concludeWrite ch t addr (s.writeAny rq addr type all.length (ofBytes all))

/-- A WRITE (R533, R549, R550): a part, or a write of its own; a length that R549 refuses is given as one that no object has. -/
def State.ldpWriteNow (s : State) (rq : Requester) (ch : Nat) (t : LdpTxn) : State :=
  let addr := 256 * takeLe t.body 0 2 + at8 t.body 2
  let type := at8 t.body 3
  let offset := takeLe t.body 4 2
  let v := t.body.drop 8
  match rowAt addr with
  | some r =>
    if r.ty = .octets ∧ partOf (s.staged ch) addr offset t.more then
      let size := objLength r addr
      let st := s.writeStatus rq addr type size 0
      if st = Status.ok then s.writePart rq ch t addr type offset v size
      else concludeWrite ch t addr (s.writeAny rq addr type size 0)
    else if r.ty ≠ .octets ∧ (offset ≠ 0 ∨ t.more) then concludeWrite ch t addr (s.writeAny rq addr type 65536 0)
    else concludeWrite ch t addr (s.writeAny rq addr type v.length (ofBytes v))
  | none => concludeWrite ch t addr (s.writeAny rq addr type v.length (ofBytes v))

/-- WRITE (R544, R550). -/
def execLdpWrite (c : LdpChannel) (s : State) : Out := .next (s.onTxn c 0x02 (fun s ch t => s.ldpWriteNow c.requester ch t))

/-- STAGING_TIMEOUT (R550). -/
def execStagingTimeout (c : LdpChannel) (s : State) : Out :=
  .next (match s.staged c.number with
  | some x => if x.lastAt + 5000000000 ≤ s.dtime then s.unstage c.number else s
  | none => s)

/-- Records of a block written one after the other, up to the first that is refused: its address and status, or the address that a write waits for. -/
def State.writeRecords (s : State) (rq : Requester) (x : Nat) : List (Nat × Nat × Nat × Nat) → Option Nat → Option (Nat × Nat) × Option Nat × State
  | [], w => (none, w, s)
  | (sub, type, len, v) :: rs, w =>
    let r := s.writeAny rq (256 * x + sub) type len v
    match r.1 with
    | none => r.2.writeRecords rq x rs (some (256 * x + sub))
    | some st => if st = Status.ok ∨ st = Status.okWithNote then r.2.writeRecords rq x rs w else (some (256 * x + sub, st), w, s)

/-- A refused record of a block changes nothing but the log (R401, R545, R556). -/
def State.refuseRecord (s : State) (rq : Requester) (addr st : Nat) : State :=
  if st = Status.ownerLocked then s.ownerRefused (rq.code) (refusedResource addr) 0
  else if st = Status.credUnwrapFailed then s.authFail (s.sourceOf rq) (addr / 256 - 0x8D00) st false
  else s

/-- WRITE_BLOCK (R545): all of its records, or none. -/
def State.writeBlockNow (s : State) (rq : Requester) (ch : Nat) (t : LdpTxn) : State :=
  let x := takeLe t.body 0 2
  match s.writeRecords rq x ((blockRecords (at8 t.body 2) (t.body.drop 4)).getD []) none with
  | (some (addr, st), _, _) => (s.refuseRecord rq addr st).conclude ch t st (refusalBody t.op addr st)
  | (none, some addr, s') => s'.await ch t addr
  | (none, none, s') => s'.conclude ch t Status.ok []

/-- WRITE_BLOCK (R545). -/
def execLdpWriteBlock (c : LdpChannel) (s : State) : Out := .next (s.onTxn c 0x04 (fun s ch t => s.writeBlockNow c.requester ch t))

/-! ## RESTORE_DEFAULTS (R546) -/

/-- The addresses of the dictionary's objects in a range of indexes, ascending. -/
def objectsIn (first last : Nat) : List Nat :=
  (List.range (last + 1 - first)).flatMap (fun i =>
    let x := first + i
    if indexUsed x then ((List.range (highestSub x)).map (fun j => 256 * x + j + 1)).filter (fun a => (rowAt a).isSome) else [])

/-- The length with which an object's default is written. -/
def defaultLength (r : ObjRow) (addr : Nat) : Nat := if r.ty = .str then strBytes 64 (defaultOf addr) else objLength r addr

/-- The default written to one object; the count of those written and of those passed over, and the first of these. -/
def State.restoreOne (a : Nat × Nat × Option Nat × State) (rq : Requester) (addr : Nat) : Nat × Nat × Option Nat × State :=
  let skip := (a.1, a.2.1 + 1, a.2.2.1.orElse (fun _ => some addr), a.2.2.2)
  match rowAt addr with
  | none => skip
  | some r =>
    if a.2.2.2.writeStatus rq addr r.ty.code (defaultLength r addr) (defaultOf addr) ≠ Status.ok then skip
    else
      let w := a.2.2.2.writeAny rq addr r.ty.code (defaultLength r addr) (defaultOf addr)
      if w.1 = none ∨ w.1 = some Status.ok ∨ w.1 = some Status.okWithNote then (a.1 + 1, a.2.1, a.2.2.1, w.2) else skip

/-- RESTORE_DEFAULTS with a requester's rights (R535, R546). -/
def State.restoreNow (s : State) (rq : Requester) (ch : Nat) (t : LdpTxn) : State :=
  if s.roleOf rq = 1 then s.conclude ch t Status.accessDenied []
  else
    let first := takeLe t.body 0 2
    let last := takeLe t.body 2 2
    let r := (objectsIn first last).foldl (fun (a : Nat × Nat × Option Nat × State) (addr : Nat) => State.restoreOne a rq addr) (0, 0, none, s)
    let skipped := r.2.2.1.getD 0
    let body := leBytes 2 r.1 ++ leBytes 2 r.2.1 ++ leBytes 2 (skipped / 256) ++ leBytes 1 (skipped % 256) ++ leBytes 1 0
    (r.2.2.2.logEvent Ev.restoreDone noOwner [d16 first, d16 last, d32 r.1, d32 r.2.1]).conclude ch t Status.ok body

/-- RESTORE_DEFAULTS (R546). -/
def execRestoreDefaults (c : LdpChannel) (s : State) : Out := .next (s.onTxn c 0x08 (fun s ch t => s.restoreNow c.requester ch t))

/-! ## Subscriptions (R553, R554) -/

/-- The next SUB_ID that no subscription has. -/
def State.newSubId (s : State) : Nat :=
  ((List.range 512).map (fun i => (s.ldp.lastSub + i) % 65535 + 1)).find? (fun n => !s.ldp.subs.any (fun x => decide (x.id = n))) |>.getD 1

/-- SUBSCRIBE: the status, and the subscription's identifier. -/
def State.subscribeNow (s : State) (rq : Requester) (ch : Nat) (t : LdpTxn) : State :=
  let addr := 256 * takeLe t.body 0 2 + at8 t.body 2
  let mode := at8 t.body 3
  let interval := takeLe t.body 4 2
  let st := s.readStatus rq addr
  if st ≠ Status.ok then s.conclude ch t st []
  else if 1 < mode ∨ 60000 < interval ∨ (mode = 1 ∧ interval < 10) then s.conclude ch t Status.ldpRange []
  else if 32 ≤ (s.ldp.subs.filter (fun x => decide (x.channel = ch))).length ∨ 256 ≤ s.ldp.subs.length then s.conclude ch t Status.ldpSubLimit []
  else
    let id := s.newSubId
    let x : Subscription := ⟨id, ch, addr, mode, interval, if mode = 1 then s.dtime else 0, s.readObject rq addr⟩
    (s.modLdp (fun l => { l with subs := l.subs ++ [x], lastSub := id })).conclude ch t Status.ok (leBytes 2 id)

/-- SUBSCRIBE (R553). -/
def execLdpSubscribe (c : LdpChannel) (s : State) : Out := .next (s.onTxn c 0x05 (fun s ch t => s.subscribeNow c.requester ch t))

/-- UNSUBSCRIBE (R553): an identifier that the channel does not hold is out of range. -/
def execLdpUnsubscribe (c : LdpChannel) (s : State) : Out :=
  .next (s.onTxn c 0x06 (fun s ch t =>
    let id := takeLe t.body 0 2
    let mine := fun (x : Subscription) => decide (x.channel = ch) && decide (x.id = id)
    if s.ldp.subs.any mine then (s.modLdp (fun l => { l with subs := l.subs.filter (fun x => !mine x) })).conclude ch t Status.ok []
    else s.conclude ch t Status.ldpRange []))

/-- Whom a channel's requests act for, by its number. -/
def requesterOf (ch : Nat) : Requester :=
  if h : ch < 8 then .field ⟨ch, h⟩ else if h : ch - 8 < 64 then .guest ⟨ch - 8, h⟩ else .manager

/-- The body of a NOTIFY (R554). -/
def notifyBody (s : State) (x : Subscription) (v : List (BitVec 8)) (lost : Nat) : List (BitVec 8) :=
  let whole := Nat.ble v.length 256
  leBytes 2 x.id ++ leBytes 1 (typeAt x.addr) ++ leBytes 1 (ofBool (!whole)) ++ leBytes 2 (if whole then v.length else 0)
    ++ leBytes 2 (Nat.min lost 0xFFFF) ++ leBytes 8 s.now.pack ++ leBytes 8 s.dtime ++ (if whole then v else [])

/-- An entry of a window's notification ring, and MSIX (R567). -/
def State.ringNotify (s : State) (o : Nat) (body : List (BitVec 8)) : State :=
  let w := (s.inst o).window
  let m := ldpMessage 0x40 0 0 0 0 body
  let addr := w.notifyBase + 512 * (w.notifyTail % 2 ^ field w.notifyConfig 3 0)
  let s := s.modInst o (fun x => { x with window := { w with notifyTail := wrapAdd 32 w.notifyTail 1 } })
  let s := (s.emit (.hostWrite o addr m.length (ofBytes m))).ioWrite o addr m.length
  s.emit (.msix o (field w.notifyConfig 26 16))

/-- Is a window's notification ring full, or absent? -/
def State.notifyFull (s : State) (o : Nat) : Bool :=
  let w := (s.inst o).window
  (s.inst o).busOff || Nat.ble (2 ^ field w.notifyConfig 3 0) ((w.notifyTail + 2 ^ 32 - w.notifyHead) % 2 ^ 32)

/-- NOTIFY (R553, R554, R567): a subscription sends its object's value, with the changes coalesced since its last one. -/
def State.notify (s : State) (x : Subscription) (lost : Nat) : State :=
  let rq := requesterOf x.channel
  let v := s.readObject rq x.addr
  let due := if x.mode = 1 then Nat.ble (x.last + 1000000 * x.interval) s.dtime
    else (decide (x.last = 0) || Nat.ble (x.last + 1000000 * x.interval) s.dtime) && (!decide (v = x.value) || Nat.blt 0 lost)
  if !due ∨ (!isSession x.channel ∧ s.notifyFull (x.channel - 8)) then s
  else
    let body := notifyBody s x (s.readBytes rq x.addr) lost
    let s := s.modLdp (fun l => { l with subs := l.subs.map (fun y => if y = x then { x with last := s.dtime, value := v } else y) })
    if isSession x.channel then s.sendOn x.channel 0x40 0 0 body none else s.ringNotify (x.channel - 8) body

/-- NOTIFY (R554). -/
def execLdpNotify (sub lost : Nat) (s : State) : Out :=
  .next (match s.ldp.subs.find? (fun x => decide (x.id = sub)) with
  | some x => if s.ldpServes then s.notify x lost else s
  | none => s)

/-! ## COMMIT (R535, R541, R542) -/

/-- COMMIT_REQUEST (R535, R541, R551): after every earlier request of its channel, and while no other COMMIT runs. -/
def execCommitRequest (c : LdpChannel) (s : State) : Out :=
  .next (s.onTxn c 0x07 (fun s ch t =>
    if (s.txnsOf ch).head? ≠ some t then s
    else if s.roleOf c.requester = 1 then s.conclude ch t Status.accessDenied []
    else if s.flash.commit.isSome then s.conclude ch t Status.ldpCommitBusy []
    else if s.bitState = 5 then (s.logEvent Ev.commitFailed noOwner [d16 Status.bitternDown]).conclude ch t Status.bitternDown []
    else
      let s : State := { s with flash := { s.flash with commit := some ⟨c.requester.code, ch, t.tid, s.storedNow⟩ } }
      s.await ch t 0))

/-- Owner classes in COMMIT_DONE, by their place in R534 (log entry 38). -/
def classCode (code : Nat) : Nat :=
  if code = 0xC1 then 0 else if code = 0xC0 then 1 else if code = 0x40 then 2 else if code < 0x40 then 3 else 4

/-- The copy that the next COMMIT writes (R541). -/
def Flash.target (f : Flash) : Nat := match f.last with | some c => 1 - c | none => 0

/-- A commit of Gaffer's own that waited starts (R542). -/
def State.commitAgain (s : State) : State :=
  if s.flash.again then ({ s with flash := { s.flash with again := false } } : State).gafferCommit else s

/-- A failed image write: the copy being written has no valid CHECK, and the previous image stays in force (R541). -/
def State.commitFails (s : State) (c : CommitRun) (status : Nat) (injected : Bool) : State :=
  let s : State := { s with flash := { s.flash with copies := Tab.drop s.flash.copies s.flash.target, commit := none } }
  ((s.logInjected Ev.commitFailed noOwner injected [d16 status]).answerChannel c.channel c.tid status []).commitAgain

/-- An image written and read back (R541). -/
def State.commitSucceeds (s : State) (c : CommitRun) : State :=
  let g := (s.flash.generation + 1) % 2 ^ 32
  let s : State := { s with flash := { s.flash with
    copies := Tab.set s.flash.copies s.flash.target ⟨g, c.snapshot⟩, last := some s.flash.target, generation := g, commit := none } }
  let s := s.logEvent Ev.commitDone noOwner [d32 g, d32 c.snapshot.length, dCase Ev.commitDone (classCode c.requester)]
  (s.answerChannel c.channel c.tid Status.ok (leBytes 4 g)).commitAgain

/-- COMMIT_DONE (R541): Bittern's flash service has written the image, and its CHECK has been read back, or not; injection point 23 fails it. -/
def execCommitDone (verified : Bool) (s : State) : Out :=
  .next (match s.flash.commit with
  | none => s
  | some c =>
    if s.bitState ≠ 3 ∨ !s.ldpServes then s
    else if !verified then s.commitFails c Status.ldpStoreFailed false
    else
      let i := s.inject 23 0
      match i.1 with
      | some _ => i.2.commitFails c 0x0F2D true
      | none => i.2.commitSucceeds c)

/-! ## Opening and closing sessions (R557 to R563) -/

/-- The 11 ASCII bytes LDP-SESSION (R557). -/
def sessionLabel : List (BitVec 8) := [0x4C, 0x44, 0x50, 0x2D, 0x53, 0x45, 0x53, 0x53, 0x49, 0x4F, 0x4E]

/-- The session key (R557). -/
def sessionKey (secret cred number : Nat) (nonceC nonceD : List (BitVec 8)) : Nat :=
  Config.hmacSha256 secret ((sessionLabel ++ leBytes 1 cred ++ leBytes 2 number ++ nonceC ++ nonceD).map (fun b => b.toNat)) % 2 ^ 256

/-- The next SESSION that no session has (R543: 1 to 0xFFFF). -/
def State.newNumber (s : State) : Nat :=
  ((List.range 16).map (fun i => (s.ldp.lastNumber + i) % 65535 + 1)).find? (fun n => !s.ldp.sessions.any (fun e => decide (e.2.number = n))) |>.getD 1

/-- Is a credential locked out (R560)? -/
def State.lockedOut (s : State) (cred : Nat) : Bool := Nat.blt s.dtime (Tab.get 0 s.ldp.locked cred)

/-- Why an OPEN is refused (R559): a credential that does not exist has no ROLE. -/
def State.openStatus (s : State) (cred : Nat) : Nat :=
  if 8 ≤ s.ldp.sessions.length then Status.sessionLimit
  else if 8 ≤ cred ∨ s.rd (Obj.CRED_ROLE cred) = 0 ∨ s.lockedOut cred then Status.authFailed
  else if s.bitState ≠ 3 then Status.bitternDown
  else Status.ok

/-- An OPEN that passes R559: a slot, a key, and nonce_d in the answer (R558). -/
def State.openSession (s : State) (a : OpenAsk) (n : Nat) (nonceD : List (BitVec 8)) : State :=
  let cred := at8 a.body 0
  let number := s.newNumber
  let nonceC := a.body.drop 4
  let key := sessionKey (Tab.get 0 s.ldp.secrets cred) cred number nonceC nonceD
  let x : Session := ⟨number, a.transport, a.unit, a.ip, a.udpPort, cred, nonceC, nonceD, key, s.dtime, 0, [], 1, [], none⟩
  let s := (s.modLdp (fun l => { l with lastNumber := number })).setSession n x
  let s := ((s.wr (Obj.SESS_STATE n) 1).wr (Obj.SESS_SOURCE n) (sourceCode a.transport a.unit a.ip a.udpPort)).wr (Obj.SESS_CRED n) cred
  s.emit (.ldp n (ldpMessage 0x90 a.tid number 0 Status.ok nonceD))

/-- OPEN (R558, R559): the oldest that has arrived; `nonceD` comes from Bittern's random generator. -/
def execLdpOpen (nonceD : BitVec 128) (s : State) : Out :=
  .next (match s.ldp.opens with
  | [] => s
  | a :: rest =>
    if !s.ldpServes then s
    else
      let s := s.modLdp (fun l => { l with opens := rest })
      let st := s.openStatus (at8 a.body 0)
      match (if st = Status.ok then (List.range 8).find? (fun n => (s.session? n).isNone) else none) with
      | some n => s.openSession a n (leBytes 16 nonceD.toNat)
      | none => s.emit (.ldp (0x100 + a.transport) (ldpMessage 0x90 a.tid 0 0 st [])))

/-- A failed CONFIRM of a credential; the third within 60 s locks it out for 60 s (R560). -/
def State.confirmFails (s : State) (cred : Nat) : State :=
  let ts := s.dtime :: (Tab.get [] s.ldp.fails cred).filter (fun t => Nat.blt s.dtime (t + 60000000000))
  if 3 ≤ ts.length then s.modLdp (fun l => { l with fails := Tab.drop l.fails cred, locked := Tab.set l.locked cred (s.dtime + 60000000000) })
  else s.modLdp (fun l => { l with fails := Tab.set l.fails cred ts })

/-- CONFIRM of a session that awaits it (R558, R560). -/
def State.confirmNow (s : State) (n : Nat) (x : Session) (t : LdpTxn) : State :=
  let m := t.raw
  let good := decide (t.body = x.nonceC ++ x.nonceD) && decide (m.drop (m.length - 16) = macOf x.key (m.take (m.length - 16)))
  let i := if good then s.inject 21 n else (none, s)
  let s := i.2
  let reply := fun (st : Nat) => let r := ldpMessage 0x91 t.tid x.number 0 st []; r ++ macOf x.key r
  if !good ∨ i.1.isSome then
    let s := (s.count Obj.LDP_AUTH_FAILS).authFail (s.rd (Obj.SESS_SOURCE n)) x.cred Status.authFailed good
    ((s.confirmFails x.cred).freeSession n).emit (.ldp n (reply Status.authFailed))
  else
    let s := (s.modLdp (fun l => { l with txns := l.txns.filter (fun e => !decide (e.1 = n)) })).countTxns n
    let s := s.setSession n { x with since := s.dtime, sent := [(t.seq, 0x11, t.tid, reply Status.ok)] }
    let s := (s.wr (Obj.SESS_STATE n) 2).wr (Obj.SESS_OPENED n) s.now.pack
    (s.logEvent Ev.sessionOpen noOwner [d8 n, d8 x.transport, d8 x.cred]).emit (.ldp n (reply Status.ok))

/-- CONFIRM (R558, R560). -/
def execLdpConfirm (n : Fin 8) (s : State) : Out :=
  .next (match s.session? n.val, s.nextTxn n.val 0x11 with
  | some x, some t => s.confirmNow n.val x t
  | _, _ => s)

/-- CONFIRM_TIMEOUT (R559). -/
def execConfirmTimeout (n : Fin 8) (s : State) : Out :=
  .next (match s.session? n.val with
  | some x => if s.rd (Obj.SESS_STATE n.val) = 1 ∧ x.since + 5000000000 < s.dtime then s.freeSession n.val else s
  | none => s)

/-- AUTH_LOCKOUT_END (R560). -/
def execAuthLockoutEnd (cred : Fin 8) (s : State) : Out :=
  .next (if s.lockedOut cred.val then s else s.modLdp (fun l => { l with locked := Tab.drop l.locked cred.val }))

/-- SESSION_IDLE (R563). -/
def execSessionIdle (n : Fin 8) (s : State) : Out :=
  .next (match s.session? n.val with
  | some x =>
    if s.rd (Obj.SESS_STATE n.val) = 2 ∧ x.since + 1000000000 * s.rd Obj.LDP_SESSION_IDLE ≤ s.dtime then s.closeSession n.val closeIdle else s
  | none => s)

/-- CLOSE (R552, R563): it is answered, and the session closes; over a window it ends the window's subscriptions and staging. -/
def execLdpClose (c : LdpChannel) (s : State) : Out :=
  .next (s.onTxn c 0x12 (fun s ch t =>
    let s := s.conclude ch t Status.ok []
    if isSession ch then s.closeSession ch closeAsked else s.endWindow (ch - 8)))

/-- PING (R563). -/
def execLdpPing (c : LdpChannel) (s : State) : Out := .next (s.onTxn c 0x13 (fun s ch t => s.conclude ch t Status.ok []))

/-! ## Secrets of credentials (R555, R556) -/

/-- CRED_SECRET_WRITE (R556). -/
def execCredSecretWrite (rq : Requester) (cred : Fin 8) (blob : Nat) (s : State) : Out :=
  .next (s.requestLater rq (Obj.CRED_SECRET cred.val) (blob % 2 ^ 1096) (fun s => s.writeSecret rq cred.val (blob % 2 ^ 1096)))

end Sys2Proof.Machine
end

