-- ==== Sys2Proof/Machine/Startup.lean ====
section
/-! DEFINITION. Resets as commands, start-up, Gaffer restarts, recovery (R540, R609 to R621, R648), and the write of any register. -/
namespace Sys2Proof.Machine
open Sys2Proof

/-! ## Resets (R609 to R612) -/

/-- POWER_ON_RESET (R609, R615): the straps are what the balls hold. -/
def execPowerOnReset (straps : BitVec 16) (s : State) : Out := .next (s.fullReset kindPowerOn 1 straps.toNat)

/-- RESET_PIN (R609). -/
def execResetPin (straps : BitVec 16) (s : State) : Out := .next (s.coldReset 3 straps.toNat)

/-- COLD_REQUEST (R609). -/
def execColdRequest (rq : Requester) (v : Fin 256) (straps : BitVec 16) (s : State) : Out :=
  .next (s.ownRequest rq Obj.RST_COLD_REQ v.val (fun s => s.writeColdReq v.val straps.toNat))

/-- WARM_REQUEST (R609, R618). -/
def execWarmRequest (rq : Requester) (v : Fin 256) (s : State) : Out :=
  .next (s.ownRequest rq Obj.RST_WARM_REQ v.val (fun s => s.writeWarmReq v.val))

/-! ## Loading the stored image (R540; log entry 76) -/

/-- Why an entry of an image is skipped (R540; log entry 38): 0 no object, 1 not STORED, 2 type, length or encoding, 3 the object's checks of a value. -/
def entryFault (e : ImageEntry) : Option Nat :=
  match rowAt e.addr with
  | none => some 0
  | some r =>
    if r.pers ≠ .stored then some 1
    else if e.type ≠ r.ty.code then some 2
    else if r.ty = .str then (if 1 ≤ e.length ∧ e.length ≤ 64 then none else some 2)
    else if e.length ≠ objLength r e.addr ∨ !encodingOk r e.value then some 2
    else none

/-- An entry is skipped: its object keeps the default. -/
def State.skipEntry (s : State) (e : ImageEntry) (reason : Nat) : State :=
  s.logEvent Ev.storeEntrySkipped noOwner [d16 (e.addr / 256), d8 (e.addr % 256), dCase Ev.storeEntrySkipped reason]

/-- Objects whose check at the load is their stated range alone: what more a write of them meets depends on what runs, or on other objects. -/
def loadedPlain (addr : Nat) : Bool :=
  let x := addr / 256
  decide (addr = Obj.SPK_LEAD_OUTPUT) || (Nat.ble 0x2410 x && Nat.blt x 0x241C && decide (addr % 256 = 2)) || decide (x = 0x2500)
    || decide (addr = Obj.MEM_CHANNELS_ENABLED) || (Nat.ble 0x4020 x && Nat.blt x 0x4030) || decide (x = 0xB002) || decide (x = 0xB003)
    || (Nat.ble 0x2F00 x && Nat.blt x 0x2F0C)

/-- Objects loaded after the rest: they turn units on, or are checked against other objects. -/
def loadedLast (addr : Nat) : Bool :=
  let x := addr / 256
  ((decide (x = 0x5100) || decide (x = 0x5101)) && decide (addr % 256 = 1)) || decide (addr = Obj.KB_ENABLE)
    || (Nat.ble 0x5210 x && Nat.blt x 0x5218 && decide (addr % 256 = 1)) || decide (x = 0xB004)

/-- A CRED_SECRET of the image: the device-wrapped form, which Gaffer passes to Bittern (R555, R556). -/
def State.loadSecret (s : State) (e : ImageEntry) : State :=
  let c := e.addr / 256 - 0x8D00
  if byteAt e.value 0 ≠ 0 then s.skipEntry e 3
  else (s.wr e.addr e.value).modLdp (fun l => { l with secrets := Tab.set l.secrets c (Config.openSecret c (e.value / 2 ^ 776) % 2 ^ 256) })

/-- One entry of the image comes into force, or is skipped. -/
def State.loadEntry (s : State) (e : ImageEntry) : State :=
  match entryFault e with
  | some r => s.skipEntry e r
  | none =>
    if 0x8D0000 ≤ e.addr ∧ e.addr < 0x8D0800 ∧ e.addr % 256 = 2 then s.loadSecret e
    else if loadedPlain e.addr then (if rangeStatus e.addr e.value = Status.ok then s.wr e.addr e.value else s.skipEntry e 3)
    else if isColourShadow e.addr then
      (if rangeStatus e.addr e.value = Status.ok then
        { s.wr e.addr (keep e.addr e.value) with colourActive := Objs.set s.colourActive e.addr (keep e.addr e.value) }
      else s.skipEntry e 3)
    else
      let r := s.writeOwn .gaffer e.addr e.value 0 []
      if r.1 = some Status.ok ∨ r.1 = some Status.okWithNote ∨ r.1 = none then r.2 else s.skipEntry e 3

/-- The memory configuration of the image, when it is no valid one: its entries are skipped (R345, R540). -/
def State.checkMemory (s : State) (es : List ImageEntry) : State :=
  if !s.memConfigBad then s
  else s.each (es.filter (fun e => decide (e.addr = Obj.MEM_CHANNELS_ENABLED) || (Nat.ble 0x402000 e.addr && Nat.blt e.addr 0x403000)))
    (fun s e => (s.wr e.addr (defaultOf e.addr)).skipEntry e 3)

/-- The copy that is loaded: the valid one of higher GENERATION (R540). -/
def Flash.newer (f : Flash) : Option (Nat × StoredImage) :=
  f.copies.foldl (fun (a : Option (Nat × StoredImage)) (e : Nat × StoredImage) =>
    match a with
    | none => some e
    | some x => if x.2.generation < e.2.generation then some e else a) none

/-- The entries of an image come into force: those loaded last after the rest. -/
def State.loadImage (s : State) (es : List ImageEntry) : State :=
  let s := s.each (es.filter (fun e => !loadedLast e.addr)) State.loadEntry
  (s.checkMemory es).each (es.filter (fun e => loadedLast e.addr)) State.loadEntry

/-- The memory configuration as read at a power-on or cold reset (R344, R345); ranks of a channel that is off are ABSENT. -/
def State.readMemConf (s : State) : MemConf :=
  let on := s.rd Obj.MEM_CHANNELS_ENABLED
  { channels := on % 256, rate := s.rd Obj.MEM_DATA_RATE, tcase := s.rd Obj.MEM_TCASE_RATED
    sizes := (List.range 16).map (fun r => if bit on (r / 2) then s.rd (Obj.RANK_SIZE r) else 0)
    ecc := s.rd Obj.MEM_INLINE_ECC, spare := s.rd Obj.MEM_SPARE_RANK, mode := s.rd Obj.MEM_REFRESH_MODE
    retired := s.rd Obj.MEM_RETIRED_RANKS }

/-- Mode objects that the load brings into force at once (R538, R568). -/
def State.modesInForce (s : State) : State :=
  { s with
    grip := { s.grip with aggressiveness := s.rd Obj.GRIP_AGGRESSIVENESS }
    dailies := { s.dailies with budget := s.rd Obj.DAILIES_BUDGET }
    power := { s.power with modeCeiling := s.rd Obj.RASTER_CLOCK_CEILING }
    memConf := { s.memConf with tcase := s.rd Obj.MEM_TCASE_RATED } }

/-- What only a power-on or cold reset reads from the image: the memory configuration, the kinds of the ports, the manager's port (R222, R300, R345). -/
def State.readCold (s : State) : State :=
  let s : State := { s with memConf := s.readMemConf }
  let s := s.each (List.range 14) (fun s p => s.wr (Obj.PORT_KIND p) (kindOf p (s.rd (Obj.PORT_CONFIG p))))
  s.modBoot (fun b => { b with mgrPort := s.rd Obj.INST_MGR_PORT })

/-- IMAGE_LOADED (R540, R615 step 6): once Bittern runs, Gaffer loads the image; training follows. -/
def execImageLoaded (s : State) : Out :=
  if s.boot.stage ≠ 4 ∨ s.bitState ≠ 3 then .next s
  else
    let s := match s.flash.newer with
      | none => s
      | some (c, im) =>
        let s : State := { s with flash := { s.flash with last := some c, generation := im.generation } }
        (s.loadImage im.entries).logEvent Ev.imageLoaded noOwner [d8 c, d32 im.generation]
    let s := if s.rd Obj.RST_LAST_KIND = kindWarm then s else s.readCold
    let s := s.modesInForce
    let s := s.each ((List.range 8).filter (fun m => bit s.memConf.channels m)) (fun s m => s.wr (Obj.MC_STATE m) 1)
    .next (s.modBoot (fun b => { b with stage := 5 }))

/-! ## Memory at start-up (R344, R363, R373, R376, R648) -/

/-- RANK_STATE of a rank at start-up. -/
def State.startRank (s : State) (r : Nat) : Nat :=
  if s.memConf.sizes.getD r 0 = 0 then 0
  else if bit s.memConf.retired r then 4
  else if r = s.memConf.spare then 6
  else 1

/-- The spare takes the place of the lowest retired rank from the start (R376). -/
def State.startSpareRank (s : State) : State :=
  let sp := s.memConf.spare
  if sp = 0xFF ∨ s.rd (Obj.RANK_STATE sp) ≠ 6 then s
  else match (List.range 16).find? (fun r => decide (s.rd (Obj.RANK_STATE r) = 4)) with
    | none => s.wr Obj.MEM_SPARE_STATE 1
    | some r => ((s.wr (Obj.RANK_STATE sp) 1).wr Obj.MEM_SPARE_STATE 3).wr Obj.MEM_SPARE_SOURCE r

/-- The write-delay check of one lane (R648). -/
def State.checkLane (s : State) (m r lane : Nat) (margin : Nat × Nat) : State :=
  let d : Int := Int.ofNat margin.2 - Int.ofNat margin.1
  if d.natAbs < s.rd Obj.MEM_RECENTRE_THRESHOLD then s
  else
    let shift := d.tdiv 2
    (s.wr (Obj.TRAIN_WR m) (shiftDelays (s.rd (Obj.TRAIN_WR m)) lane r shift)).logEvent Ev.wrDelayCheck noOwner
      [d8 m, d8 (2 * m + r), d8 lane, d8 margin.1, d8 margin.2, d8 (ofSigned 8 shift)]

/-- A channel at step 7 of R615: bring-up training where both objects of its delays are zero, the loopback, and the write-delay check (R363, R648). A
channel that fails the loopback carries no traffic. -/
def State.startChannel (s : State) (m : Nat) (t : ChannelTraining) : State :=
  let s := if s.rd (Obj.TRAIN_RD m) = 0 ∧ s.rd (Obj.TRAIN_WR m) = 0 then
      ((s.wr (Obj.TRAIN_RD m) (t.rd % 2 ^ 576)).wr (Obj.TRAIN_WR m) (t.wr % 2 ^ 576)).logEvent Ev.trainedFromScratch noOwner [d8 m]
    else s
  if !t.loopback then (s.failUnit (unitMc m)).wr (Obj.MC_STATE m) 0
  else
    let lanes := (List.range 8).filter (fun i => !decide (s.memConf.sizes.getD (2 * m + i / 4) 0 = 0))
    (s.each lanes (fun s i => s.checkLane m (i / 4) (i % 4) (t.margins.getD i (0, 0)))).wr (Obj.MC_STATE m) 2

/-- The memory at start-up. -/
def State.startMemory (s : State) (training : List ChannelTraining) : State :=
  let s := s.each (List.range 16) (fun s r => s.wr (Obj.RANK_STATE r) (s.startRank r))
  let s := s.startSpareRank
  s.each (List.range 8) (fun s m =>
    if bit s.memConf.channels m then s.startChannel m (training.getD m ⟨true, 0, 0, []⟩)
    else (s.setHealth (unitMc m) .offline).wr (Obj.MC_STATE m) 0)

/-! ## READY (R300, R615, R616) -/

/-- A boot intent: entry k of RST_BOOT_INTENTS with output k (R616). -/
def State.bootIntent (s : State) (k : Nat) : OutIntent :=
  let e := bytesAt (s.rd Obj.RST_BOOT_INTENTS) (32 * k) 24
  intentOf (BitVec.ofNat 512 (0x21 + 4 * 2 ^ 8 + e * 2 ^ 64))

/-- Gaffer submits the boot intent of an enabled output (R615 step 9). -/
def State.submitBoot (s : State) (k : Nat) : State :=
  let i := s.bootIntent k
  if s.rd (Obj.OUT_ENABLE k) ≠ 1 ∨ i.modeId = 0xFFFF then s
  else match s.judgeIntent 0xC0 k i (fun s k i => s.intentScans k i) with
    | (_, some (s', moved, own)) =>
      let id := s'.nextItem
      (((({ s' with nextItem := id + 1 } : State).settleMoves k id moved own).startAll k).cutScans k i)
    | (st, none) => s.logEvent Ev.bootIntentSkipped noOwner [d8 k, d16 st]

/-- Grip's own areas at start-up: the Dailies scratch on 8 channels, the reserve pool and the translation cache (R280, R292, R643; log entry 78). -/
def State.placeOwn (s : State) : State :=
  s.each [s.rd Obj.DAILIES_SCRATCH_BYTES, 65536 * s.rd Obj.RAS_PB_RESERVE_PAGES, s.rd Obj.RAS_XLATE_CACHE_BYTES] (fun s n =>
    match s.findPlace 0xC0 n 0 8 false (s.eligible false) with
    | some p => s.setAreas (s.grip.areas ++ [⟨0xC0, p, n⟩])
    | none => s)

/-- READY (R300, R381, R615 steps 7 to 9): memory is trained with what the channels give, the manager is created, and outputs start. -/
def execReady (training : List ChannelTraining) (s : State) : Out :=
  if s.boot.stage ≠ 5 then .next s
  else
    let s := (s.startMemory training).placeOwn
    let s := (s.loadKey 2 0x40).setInst 0x40 { state := .active, port := s.boot.mgrPort }
    let s := s.idlePlls.modBoot (fun b => { b with stage := 6 })
    let us := (s.dtime - s.boot.since) / 1000 % 2 ^ 32
    let s := (s.wr Obj.RST_READY_TIME us).logEvent Ev.ready noOwner [d32 us]
    .next (s.each (List.range 12) State.submitBoot)

/-- HOST_LINK_UP (R615 step 3): a port answers configuration requests. -/
def execHostLinkUp (hp : Fin 4) (s : State) : Out :=
  .next (s.modBoot (fun b => { b with links := hp.val :: b.links.filter (fun p => !decide (p = hp.val)) }))

/-! ## Recovery boot (R613, R614) -/

/-- RECOVERY_GO (R614). -/
def execRecoveryGo (hp : Fin 4) (length : BitVec 26) (s : State) : Out := .next (s.writeRecoveryGo hp.val length.toNat)

/-- TFTP_WRITE (R613): a file of so many bytes delivered over EM0; a larger one than the buffer is not accepted. -/
def execTftpWrite (length : Nat) (s : State) : Out :=
  let waits := decide (s.boot.stage = 3) || decide (s.boot.stage = 7)
  .next (if !waits ∨ field (s.rd Obj.RST_STRAPS) 5 4 ≠ 3 ∨ 2 ^ 25 < length then s
  else (s.wr Obj.BIT_STATE 1).modBoot (fun b => { b with recoveryLength := length }))

/-! ## Gaffer restarts (R619, R620) -/

/-- GAFFER_WATCHDOG_EXPIRY (R619, R640): genuine, or by injection point 13. -/
def execGafferWatchdogExpiry (genuine : Bool) (s : State) : Out := .next (s.gafferFault 13 1 genuine)

/-- RST_GAF_RESTART_REQ (R619). -/
def execRstGafRestartReq (rq : Requester) (v : Fin 256) (s : State) : Out :=
  .next (s.ownRequest rq Obj.RST_GAF_RESTART_REQ v.val (fun s => s.writeGafRestart v.val))

/-- GAFFER_SRAM_UE (R619, R640): genuine, or by injection point 8. -/
def execGafferSramUe (genuine : Bool) (s : State) : Out := .next (s.gafferFault 8 4 genuine)

/-- Firmware descriptors fetched before a restart and not completed end with GAFFER_RESTARTED (R620). -/
def State.failFirmware (s : State) : State :=
  let ids := (s.items.filter (fun i => Nat.blt i.id s.boot.gafMark && firmwareType (dType i.desc))).map Item.id
  let s := s.each ids (fun s id => s.finish id Status.gafferRestarted)
  { s with raster := { s.raster with creating := s.raster.creating.filter (fun c => !ids.contains c.item) } }

/-- GAFFER_RESTART_DONE (R619, R620): Bittern has checked the firmware, and copied it again where it differed; a wrong object store makes the restart a warm
reset. It waits for Bittern, and with Bittern HALTED Gaffer stays in reset. -/
def execGafferRestartDone (storeOk copied : Bool) (s : State) : Out :=
  if s.boot.stage ≠ 8 ∨ s.bitState ≠ 3 then .next s
  else if !storeOk then .next (s.warmReset 8)
  else
    let us := match s.boot.gafT0 with | some t => (s.dtime - t) / 1000 | none => 0
    let skips := (List.range 12).filter s.boot.guardSkips.contains
    let s := s.modBoot (fun b => { b with stage := 6, gafT0 := none, guardSkips := [] })
    let s := s.logEvent Ev.gafferRestartDone noOwner [d32 us, dFlag copied]
    let s := s.each skips (fun s k => s.logEvent Ev.guardSkipped noOwner [d8 k, d32 (s.rd (Obj.OUT_FRAME_COUNT k))])
    .next (s.failFirmware.abortWindows)

/-! ## The write of any register (R5, R305, R410, R536, R566, R614) -/

/-- A host access wakes the Ixand from S3 and S4 (R597). -/
def State.hostWake (s : State) : State := s.whenB (Nat.ble 3 (s.rd Obj.PWR_STATE)) (fun s => s.wake 4)

/-- REGISTER_WRITE: of an object as a request, or of a register of a window, a mailbox or the boot-visible status block. BAR 2 is served from READY
(R614). -/
def execRegisterWrite (rq : Requester) (target : WriteTarget) (v : Nat) (s : State) : Out :=
  .next (match target with
  | .object addr type length =>
    let r := s.writeAny rq addr type length v
    (match r.1 with
    | some st => r.2.answer rq st
    | none => r.2)
  | .window w offset wide => if s.barServed then s.hostWake.writeWindow w.code offset v wide (fun s v => s.dictGo w.code (v % 2 ^ 32)) else s
  | .mailbox m offset wide => s.writeMailbox rq m.val offset v wide
  | .boot port offset _ => s.writeBootBlock port.val offset v)

end Sys2Proof.Machine
end

