-- ==== Sys2Proof/Machine/Dispatch.lean ====
section
/-! DEFINITION. The dispatch: one arm a command, each one call of its meaning. -/

namespace Sys2Proof.Machine
open Sys2Proof

def exec (i : Instr) (s : State) : Host.Outcome State Fault Refusal :=
  match i with
  | .registerWrite rq target v => Sys2Proof.Machine.execRegisterWrite rq target v s
  | .spkLeadOutputWrite rq v => Sys2Proof.Machine.execSpkLeadOutputWrite rq v s
  | .leadLineStart periodPs frameStart => Sys2Proof.Machine.execLeadLineStart periodPs frameStart s
  | .coastLineTick => Sys2Proof.Machine.execCoastLineTick s
  | .relock => Sys2Proof.Machine.execRelock s
  | .dtimeSyncMessage port offset ratePpm => Sys2Proof.Machine.execDtimeSyncMessage port offset ratePpm s
  | .dtimeSyncLoss => Sys2Proof.Machine.execDtimeSyncLoss s
  | .slotArm rq n fireIfPast repeats => Sys2Proof.Machine.execSlotArm rq n fireIfPast repeats s
  | .slotDisarm rq n => Sys2Proof.Machine.execSlotDisarm rq n s
  | .latchOutput n line progress => Sys2Proof.Machine.execLatchOutput n line progress s
  | .preemptRaster n => Sys2Proof.Machine.execPreemptRaster n s
  | .refreshAllBank n => Sys2Proof.Machine.execRefreshAllBank n s
  | .touchScan n => Sys2Proof.Machine.execTouchScan n s
  | .hapticStart n => Sys2Proof.Machine.execHapticStart n s
  | .dailiesSlice n => Sys2Proof.Machine.execDailiesSlice n s
  | .raiseDoorbell n => Sys2Proof.Machine.execRaiseDoorbell n s
  | .noneAction n => Sys2Proof.Machine.execNoneAction n s
  | .surfaceIntent o q => Sys2Proof.Machine.execSurfaceIntent o q s
  | .surfaceRevision o q => Sys2Proof.Machine.execSurfaceRevision o q s
  | .surfaceRelease o q => Sys2Proof.Machine.execSurfaceRelease o q s
  | .surfaceReleaseComplete sf => Sys2Proof.Machine.execSurfaceReleaseComplete sf s
  | .outputIntent o q => Sys2Proof.Machine.execOutputIntent o q s
  | .epochEnd samples rates utilisation durationNs => Sys2Proof.Machine.execEpochEnd samples rates utilisation durationNs s
  | .migrationCopyDone sf => Sys2Proof.Machine.execMigrationCopyDone sf s
  | .migrationOldFreed sf => Sys2Proof.Machine.execMigrationOldFreed sf s
  | .critRectsWrite rq k v => Sys2Proof.Machine.execCritRectsWrite rq k v s
  | .substTableWrite rq v => Sys2Proof.Machine.execSubstTableWrite rq v s
  | .reelScanModeWrite rq k v => Sys2Proof.Machine.execReelScanModeWrite rq k v s
  | .lineFetch k y linesDone firstMissing badWord => Sys2Proof.Machine.execLineFetch k y linesDone firstMissing badWord s
  | .layerDescriptor o q substOk => Sys2Proof.Machine.execLayerDescriptor o q substOk s
  | .colourShadowWrite rq addr v => Sys2Proof.Machine.execColourShadowWrite rq addr v s
  | .outLut3dSwap rq k v => Sys2Proof.Machine.execOutLut3dSwap rq k v s
  | .commit o q => Sys2Proof.Machine.execCommit o q s
  | .outputLatchPoint k => Sys2Proof.Machine.execOutputLatchPoint k s
  | .decisionPoint k line progress => Sys2Proof.Machine.execDecisionPoint k line progress s
  | .holdEnter k => Sys2Proof.Machine.execHoldEnter k s
  | .frameStart k => Sys2Proof.Machine.execFrameStart k s
  | .compositionComplete e durationNs => Sys2Proof.Machine.execCompositionComplete e durationNs s
  | .engineFault e => Sys2Proof.Machine.execEngineFault e s
  | .outLatchModeWrite rq k v => Sys2Proof.Machine.execOutLatchModeWrite rq k v s
  | .outPairLockWrite rq v => Sys2Proof.Machine.execOutPairLockWrite rq v s
  | .outEnableWrite rq k v => Sys2Proof.Machine.execOutEnableWrite rq k v s
  | .outPortWrite rq k v => Sys2Proof.Machine.execOutPortWrite rq k v s
  | .attachEdge p level => Sys2Proof.Machine.execAttachEdge p level s
  | .sinkIrq p vector lossOfLock selfRefreshError => Sys2Proof.Machine.execSinkIrq p vector lossOfLock selfRefreshError s
  | .unplugDebounce p => Sys2Proof.Machine.execUnplugDebounce p s
  | .hotplugOut p => Sys2Proof.Machine.execHotplugOut p s
  | .hotplugIn p sink => Sys2Proof.Machine.execHotplugIn p sink s
  | .trainFail p phase => Sys2Proof.Machine.execTrainFail p phase s
  | .linkUp p => Sys2Proof.Machine.execLinkUp p s
  | .trainRetry p => Sys2Proof.Machine.execTrainRetry p s
  | .linkLost p => Sys2Proof.Machine.execLinkLost p s
  | .portRetrain rq p v => Sys2Proof.Machine.execPortRetrain rq p v s
  | .queueDoorbell w q t => Sys2Proof.Machine.execQueueDoorbell w q t s
  | .queueEnable w q sizeLog2 => Sys2Proof.Machine.execQueueEnable w q sizeLog2 s
  | .queueDisable w q sizeLog2 => Sys2Proof.Machine.execQueueDisable w q sizeLog2 s
  | .queueFetch o q d => Sys2Proof.Machine.execQueueFetch o q d s
  | .nop o q => Sys2Proof.Machine.execNop o q s
  | .fence o q => Sys2Proof.Machine.execFence o q s
  | .fenceComplete o q => Sys2Proof.Machine.execFenceComplete o q s
  | .dmaCopy o q => Sys2Proof.Machine.execDmaCopy o q s
  | .dmaComplete j result data engineNs => Sys2Proof.Machine.execDmaComplete j result data engineNs s
  | .slotRequest o q => Sys2Proof.Machine.execSlotRequest o q s
  | .slotRequestCancel o q => Sys2Proof.Machine.execSlotRequestCancel o q s
  | .instCreate o q => Sys2Proof.Machine.execInstCreate o q s
  | .instControlOpReset o q => Sys2Proof.Machine.execInstControlOpReset o q s
  | .instControlOpRemove o q => Sys2Proof.Machine.execInstControlOpRemove o q s
  | .instControlReset w => Sys2Proof.Machine.execInstControlReset w s
  | .drainEnd w => Sys2Proof.Machine.execDrainEnd w s
  | .resetDone w => Sys2Proof.Machine.execResetDone w s
  | .functionLevelReset hp busMaster => Sys2Proof.Machine.execFunctionLevelReset hp busMaster s
  | .instLayerGrantsWrite rq n v => Sys2Proof.Machine.execInstLayerGrantsWrite rq n v s
  | .dirtySwap n => Sys2Proof.Machine.execDirtySwap n s
  | .dirtyCutover n => Sys2Proof.Machine.execDirtyCutover n s
  | .dirtySwapDone n => Sys2Proof.Machine.execDirtySwapDone n s
  | .jobRelease => Sys2Proof.Machine.execJobRelease s
  | .renderJob o q => Sys2Proof.Machine.execRenderJob o q s
  | .computeJob o q => Sys2Proof.Machine.execComputeJob o q s
  | .pipelineCreate o q => Sys2Proof.Machine.execPipelineCreate o q s
  | .translationDone o q results shared => Sys2Proof.Machine.execTranslationDone o q results shared s
  | .pipelineDestroy o q => Sys2Proof.Machine.execPipelineDestroy o q s
  | .pbGrant o q => Sys2Proof.Machine.execPbGrant o q s
  | .pbRevoke o q => Sys2Proof.Machine.execPbRevoke o q s
  | .sigInvalidate o q => Sys2Proof.Machine.execSigInvalidate o q s
  | .tileBind o q => Sys2Proof.Machine.execTileBind o q s
  | .tileUnbind o q => Sys2Proof.Machine.execTileUnbind o q s
  | .binDrawRecord j prims => Sys2Proof.Machine.execBinDrawRecord j prims s
  | .partialPassEnd j => Sys2Proof.Machine.execPartialPassEnd j s
  | .binningEnd j => Sys2Proof.Machine.execBinningEnd j s
  | .workItemStart c => Sys2Proof.Machine.execWorkItemStart c s
  | .workItemDone c r => Sys2Proof.Machine.execWorkItemDone c r s
  | .jobComplete j => Sys2Proof.Machine.execJobComplete j s
  | .clusterFault c => Sys2Proof.Machine.execClusterFault c s
  | .jobTimeout j => Sys2Proof.Machine.execJobTimeout j s
  | .preemptSaveDone n ns => Sys2Proof.Machine.execPreemptSaveDone n ns s
  | .instanceResume n => Sys2Proof.Machine.execInstanceResume n s
  | .guardExpired k => Sys2Proof.Machine.execGuardExpired k s
  | .refiTick m => Sys2Proof.Machine.execRefiTick m s
  | .horizontalBlankingStart k vertical roomNs => Sys2Proof.Machine.execHorizontalBlankingStart k vertical roomNs s
  | .perBankRefresh m => Sys2Proof.Machine.execPerBankRefresh m s
  | .mr4Poll m mr4 differs copied => Sys2Proof.Machine.execMr4Poll m mr4 differs copied s
  | .marginSweep m => Sys2Proof.Machine.execMarginSweep m s
  | .sweepDone m result => Sys2Proof.Machine.execSweepDone m result s
  | .correctedError r genuine => Sys2Proof.Machine.execCorrectedError r genuine s
  | .ceSummary => Sys2Proof.Machine.execCeSummary s
  | .uncorrectableError m addr reader genuine copied => Sys2Proof.Machine.execUncorrectableError m addr reader genuine copied s
  | .spareDone => Sys2Proof.Machine.execSpareDone s
  | .lockstepMismatch genuine queued => Sys2Proof.Machine.execLockstepMismatch genuine queued s
  | .bitSramUe genuine queued => Sys2Proof.Machine.execBitSramUe genuine queued s
  | .bitWatchdogExpiry genuine queued => Sys2Proof.Machine.execBitWatchdogExpiry genuine queued s
  | .bitRestartReq rq v queued => Sys2Proof.Machine.execBitRestartReq rq v queued s
  | .bitRomStart => Sys2Proof.Machine.execBitRomStart s
  | .measurementDone image => Sys2Proof.Machine.execMeasurementDone image s
  | .bitReady rq v => Sys2Proof.Machine.execBitReady rq v s
  | .mbPush rq m word stagingUe => Sys2Proof.Machine.execMbPush rq m word stagingUe s
  | .mbRelease rq m n => Sys2Proof.Machine.execMbRelease rq m n s
  | .mbRing rq m bits => Sys2Proof.Machine.execMbRing rq m bits s
  | .doorbellWrite rq m v => Sys2Proof.Machine.execDoorbellWrite rq m v s
  | .cuEnable rq u v => Sys2Proof.Machine.execCuEnable rq u v s
  | .cuDisable rq u v => Sys2Proof.Machine.execCuDisable rq u v s
  | .cuRestore rq u v => Sys2Proof.Machine.execCuRestore rq u v s
  | .cuInject rq u v => Sys2Proof.Machine.execCuInject rq u v s
  | .cuStreamJudge u pixels refUe corrected => Sys2Proof.Machine.execCuStreamJudge u pixels refUe corrected s
  | .cuLayerJudge u refUe corrected => Sys2Proof.Machine.execCuLayerJudge u refUe corrected s
  | .cuWordGapTimeout u => Sys2Proof.Machine.execCuWordGapTimeout u s
  | .cuMsgTimeout u => Sys2Proof.Machine.execCuMsgTimeout u s
  | .rfEnable rq p v => Sys2Proof.Machine.execRfEnable rq p v s
  | .rfDisable rq p v => Sys2Proof.Machine.execRfDisable rq p v s
  | .kbEnable rq v => Sys2Proof.Machine.execKbEnable rq v s
  | .selfStartedWindow p => Sys2Proof.Machine.execSelfStartedWindow p s
  | .scanComplete p counts selfCounts pixels => Sys2Proof.Machine.execScanComplete p counts selfCounts pixels s
  | .suspectAccepted u => Sys2Proof.Machine.execSuspectAccepted u s
  | .listenSample p sample => Sys2Proof.Machine.execListenSample p sample s
  | .keyScanComplete counts => Sys2Proof.Machine.execKeyScanComplete counts s
  | .wakeScan p groups => Sys2Proof.Machine.execWakeScan p groups s
  | .hapEnable rq c v => Sys2Proof.Machine.execHapEnable rq c v s
  | .calibrate rq c v => Sys2Proof.Machine.execCalibrate rq c v s
  | .calDone c coarse best peakMv => Sys2Proof.Machine.execCalDone c coarse best peakMv s
  | .hapPlay rq c v => Sys2Proof.Machine.execHapPlay rq c v s
  | .hapCritPlay rq c v => Sys2Proof.Machine.execHapCritPlay rq c v s
  | .halfCycleEnd c peakMv crossing => Sys2Proof.Machine.execHalfCycleEnd c peakMv crossing s
  | .pulseGapEnd c => Sys2Proof.Machine.execPulseGapEnd c s
  | .blockBoundary d rateHz ins outs => Sys2Proof.Machine.execBlockBoundary d rateHz ins outs s
  | .tdmClockLost p => Sys2Proof.Machine.execTdmClockLost p s
  | .tdmClockBack p blocks => Sys2Proof.Machine.execTdmClockBack p blocks s
  | .audStreamCfgWrite rq u v => Sys2Proof.Machine.execAudStreamCfgWrite rq u v s
  | .audRouteTableWrite rq v => Sys2Proof.Machine.execAudRouteTableWrite rq v s
  | .chimePlay rq v => Sys2Proof.Machine.execChimePlay rq v s
  | .chimeStop rq v => Sys2Proof.Machine.execChimeStop rq v s
  | .chimeEnd g => Sys2Proof.Machine.execChimeEnd g s
  | .ldpRead ch => Sys2Proof.Machine.execLdpRead ch s
  | .ldpWrite ch => Sys2Proof.Machine.execLdpWrite ch s
  | .ldpReadBlock ch => Sys2Proof.Machine.execLdpReadBlock ch s
  | .ldpWriteBlock ch => Sys2Proof.Machine.execLdpWriteBlock ch s
  | .ldpSubscribe ch => Sys2Proof.Machine.execLdpSubscribe ch s
  | .ldpUnsubscribe ch => Sys2Proof.Machine.execLdpUnsubscribe ch s
  | .ldpNotify sub lost => Sys2Proof.Machine.execLdpNotify sub lost s
  | .commitRequest ch => Sys2Proof.Machine.execCommitRequest ch s
  | .commitDone verified => Sys2Proof.Machine.execCommitDone verified s
  | .restoreDefaults ch => Sys2Proof.Machine.execRestoreDefaults ch s
  | .ldpOpen nonceD => Sys2Proof.Machine.execLdpOpen nonceD s
  | .ldpConfirm n => Sys2Proof.Machine.execLdpConfirm n s
  | .ldpClose ch => Sys2Proof.Machine.execLdpClose ch s
  | .ldpPing ch => Sys2Proof.Machine.execLdpPing ch s
  | .confirmTimeout n => Sys2Proof.Machine.execConfirmTimeout n s
  | .authLockoutEnd cred => Sys2Proof.Machine.execAuthLockoutEnd cred s
  | .sessionIdle n => Sys2Proof.Machine.execSessionIdle n s
  | .stagingTimeout ch => Sys2Proof.Machine.execStagingTimeout ch s
  | .udpDatagram mac ip udpPort fragment bytes => Sys2Proof.Machine.execUdpDatagram mac ip udpPort fragment bytes s
  | .arpIcmp mac echo ip => Sys2Proof.Machine.execArpIcmp mac echo ip s
  | .canFrame ctl identifier bytes => Sys2Proof.Machine.execCanFrame ctl identifier bytes s
  | .canSegmentLost => Sys2Proof.Machine.execCanSegmentLost s
  | .dictGo w v bytes => Sys2Proof.Machine.execDictGo w v bytes s
  | .credSecretWrite rq cred blob => Sys2Proof.Machine.execCredSecretWrite rq cred blob s
  | .xoDelayExpiry => Sys2Proof.Machine.execXoDelayExpiry s
  | .xoCountDone khz => Sys2Proof.Machine.execXoCountDone khz s
  | .pllLocked pll khz => Sys2Proof.Machine.execPllLocked pll khz s
  | .pllEnable rq pll v => Sys2Proof.Machine.execPllEnable rq pll v s
  | .clkmonWindow m khz => Sys2Proof.Machine.execClkmonWindow m khz s
  | .clkmonInject rq m v => Sys2Proof.Machine.execClkmonInject rq m v s
  | .muxSel rq x v => Sys2Proof.Machine.execMuxSel rq x v s
  | .muxSwitchDone x => Sys2Proof.Machine.execMuxSwitchDone x s
  | .switchStuck x => Sys2Proof.Machine.execSwitchStuck x s
  | .forceSel rq x v straps queued => Sys2Proof.Machine.execForceSel rq x v straps queued s
  | .gateOpen rq g => Sys2Proof.Machine.execGateOpen rq g s
  | .gateClose rq g => Sys2Proof.Machine.execGateClose rq g s
  | .gateCloseComplete g => Sys2Proof.Machine.execGateCloseComplete g s
  | .busyRefused g block => Sys2Proof.Machine.execBusyRefused g block s
  | .domainOn rq d => Sys2Proof.Machine.execDomainOn rq d s
  | .domainOnComplete d => Sys2Proof.Machine.execDomainOnComplete d s
  | .domainOff rq d => Sys2Proof.Machine.execDomainOff rq d s
  | .domainReset rq d => Sys2Proof.Machine.execDomainReset rq d s
  | .domainResetRelease d => Sys2Proof.Machine.execDomainResetRelease d s
  | .stateEnter target => Sys2Proof.Machine.execStateEnter target s
  | .wakeEvent cause => Sys2Proof.Machine.execWakeEvent cause s
  | .stateExit => Sys2Proof.Machine.execStateExit s
  | .powerMeasurement mw => Sys2Proof.Machine.execPowerMeasurement mw s
  | .thermalThrottle celsius => Sys2Proof.Machine.execThermalThrottle celsius s
  | .thermalTrip celsius => Sys2Proof.Machine.execThermalTrip celsius s
  | .sagStart rail mv => Sys2Proof.Machine.execSagStart rail mv s
  | .railRecovered rail mv => Sys2Proof.Machine.execRailRecovered rail mv s
  | .sag => Sys2Proof.Machine.execSag s
  | .supInject rq rail v => Sys2Proof.Machine.execSupInject rq rail v s
  | .avsSettle rail => Sys2Proof.Machine.execAvsSettle rail s
  | .avsFault rail => Sys2Proof.Machine.execAvsFault rail s
  | .brownOut rail straps => Sys2Proof.Machine.execBrownOut rail straps s
  | .powerOnReset straps => Sys2Proof.Machine.execPowerOnReset straps s
  | .resetPin straps => Sys2Proof.Machine.execResetPin straps s
  | .coldRequest rq v straps => Sys2Proof.Machine.execColdRequest rq v straps s
  | .warmRequest rq v => Sys2Proof.Machine.execWarmRequest rq v s
  | .imageLoaded => Sys2Proof.Machine.execImageLoaded s
  | .ready training => Sys2Proof.Machine.execReady training s
  | .recoveryGo hp length => Sys2Proof.Machine.execRecoveryGo hp length s
  | .tftpWrite length => Sys2Proof.Machine.execTftpWrite length s
  | .gafferWatchdogExpiry genuine => Sys2Proof.Machine.execGafferWatchdogExpiry genuine s
  | .rstGafRestartReq rq v => Sys2Proof.Machine.execRstGafRestartReq rq v s
  | .gafferSramUe genuine => Sys2Proof.Machine.execGafferSramUe genuine s
  | .gafferRestartDone storeOk copied => Sys2Proof.Machine.execGafferRestartDone storeOk copied s
  | .logMove => Sys2Proof.Machine.execLogMove s
  | .injArm rq point v queued => Sys2Proof.Machine.execInjArm rq point v queued s
  | .dailiesReserve slice => Sys2Proof.Machine.execDailiesReserve slice s
  | .sliceComplete slice pass word => Sys2Proof.Machine.execSliceComplete slice pass word s
  | .dailiesOverrun slice => Sys2Proof.Machine.execDailiesOverrun slice s
  | .dailiesRound => Sys2Proof.Machine.execDailiesRound s
  | .tallyWrap g counter => Sys2Proof.Machine.execTallyWrap g counter s
  | .tallyOvfClear rq g v => Sys2Proof.Machine.execTallyOvfClear rq g v s
  | .hostLinkUp hp => Sys2Proof.Machine.execHostLinkUp hp s
  | .thermalTripRelease celsius straps => Sys2Proof.Machine.execThermalTripRelease celsius straps s
  | .forceSelResetRelease x => Sys2Proof.Machine.execForceSelResetRelease x s

end Sys2Proof.Machine
end

