-- ==== Sys2Proof/WellFormed.lean ====
section
/-! DEFINITION. Which commands are well formed: operands within the widths that the manual gives what they name. The operand types hold most of these bounds
themselves. A command that is not well formed stands for nothing that can reach the device. -/
namespace Sys2Proof

/-- A register write: a value of the object's length, an aligned register access that the value fits (R305, R530, R532, R566, R614). -/
def WriteTarget.ok (t : WriteTarget) (v : Nat) : Bool :=
  match t with
  | .object _ _ length => Nat.ble length 4096 && Nat.blt v (2 ^ (8 * length))
  | .window _ offset wide => decide (offset.val % (if wide then 8 else 4) = 0) && Nat.blt v (2 ^ (if wide then 64 else 32))
  | .mailbox _ offset wide => Nat.blt offset.val 4096 && decide (offset.val % (if wide then 8 else 4) = 0) && Nat.blt v (2 ^ (if wide then 64 else 32))
  | .boot _ offset wide => decide (offset.val % (if wide then 8 else 4) = 0) && Nat.blt v (2 ^ (if wide then 64 else 32))

/-- A CAN FD frame's data length (R565). -/
def canLength (n : Nat) : Bool := Nat.ble n 8 || [12, 16, 20, 24, 32, 48, 64].contains n

/-- A CAN identifier as LDP_CAN_REQ_ID codes it: 29 bits with [31], 11 without (R565, R570). -/
def canIdentifier (v : Nat) : Bool := if v / 2 ^ 31 = 1 then Nat.blt (v % 2 ^ 31) (2 ^ 29) else Nat.blt v (2 ^ 11)

/-- Is a command well formed? -/
def Instr.wellFormed : Instr → Bool
  | .registerWrite _ target v => target.ok v
  | .spkLeadOutputWrite _ _ => true
  | .leadLineStart _ _ => true
  | .coastLineTick => true
  | .relock => true
  | .dtimeSyncMessage _ _ _ => true
  | .dtimeSyncLoss => true
  | .slotArm _ _ _ _ => true
  | .slotDisarm _ _ => true
  | .latchOutput _ line _ => Nat.blt line 65536
  | .preemptRaster _ => true
  | .refreshAllBank _ => true
  | .touchScan _ => true
  | .hapticStart _ => true
  | .dailiesSlice _ => true
  | .raiseDoorbell _ => true
  | .noneAction _ => true
  | .surfaceIntent _ _ => true
  | .surfaceRevision _ _ => true
  | .surfaceRelease _ _ => true
  | .surfaceReleaseComplete _ => true
  | .outputIntent _ _ => true
  | .epochEnd _ _ _ _ => true
  | .migrationCopyDone _ => true
  | .migrationOldFreed _ => true
  | .critRectsWrite _ _ v => Nat.blt v (2 ^ 512)
  | .substTableWrite _ v => Nat.blt v (2 ^ 8192)
  | .reelScanModeWrite _ _ _ => true
  | .lineFetch _ y _ _ _ => Nat.blt y 65536
  | .layerDescriptor _ _ _ => true
  | .colourShadowWrite _ _ v => Nat.blt v (2 ^ 32768)
  | .outLut3dSwap _ _ _ => true
  | .commit _ _ => true
  | .outputLatchPoint _ => true
  | .decisionPoint _ line _ => Nat.blt line 65536
  | .holdEnter _ => true
  | .frameStart _ => true
  | .compositionComplete _ _ => true
  | .engineFault _ => true
  | .outLatchModeWrite _ _ _ => true
  | .outPairLockWrite _ _ => true
  | .outEnableWrite _ _ _ => true
  | .outPortWrite _ _ _ => true
  | .attachEdge _ _ => true
  | .sinkIrq _ _ _ _ => true
  | .unplugDebounce _ => true
  | .hotplugOut _ => true
  | .hotplugIn _ _ => true
  | .trainFail _ _ => true
  | .linkUp _ => true
  | .trainRetry _ => true
  | .linkLost _ => true
  | .portRetrain _ _ _ => true
  | .queueDoorbell _ _ _ => true
  | .queueEnable _ _ _ => true
  | .queueDisable _ _ _ => true
  | .queueFetch _ _ _ => true
  | .nop _ _ => true
  | .fence _ _ => true
  | .fenceComplete _ _ => true
  | .dmaCopy _ _ => true
  | .dmaComplete _ _ _ _ => true
  | .slotRequest _ _ => true
  | .slotRequestCancel _ _ => true
  | .instCreate _ _ => true
  | .instControlOpReset _ _ => true
  | .instControlOpRemove _ _ => true
  | .instControlReset _ => true
  | .drainEnd _ => true
  | .resetDone _ => true
  | .functionLevelReset _ _ => true
  | .instLayerGrantsWrite _ _ v => Nat.blt v (2 ^ 192)
  | .dirtySwap _ => true
  | .dirtyCutover _ => true
  | .dirtySwapDone _ => true
  | .jobRelease => true
  | .renderJob _ _ => true
  | .computeJob _ _ => true
  | .pipelineCreate _ _ => true
  | .translationDone _ _ _ _ => true
  | .pipelineDestroy _ _ => true
  | .pbGrant _ _ => true
  | .pbRevoke _ _ => true
  | .sigInvalidate _ _ => true
  | .tileBind _ _ => true
  | .tileUnbind _ _ => true
  | .binDrawRecord _ _ => true
  | .partialPassEnd _ => true
  | .binningEnd _ => true
  | .workItemStart _ => true
  | .workItemDone _ _ => true
  | .jobComplete _ => true
  | .clusterFault _ => true
  | .jobTimeout _ => true
  | .preemptSaveDone _ _ => true
  | .instanceResume _ => true
  | .guardExpired _ => true
  | .refiTick _ => true
  | .horizontalBlankingStart _ _ _ => true
  | .perBankRefresh _ => true
  | .mr4Poll _ _ _ _ => true
  | .marginSweep _ => true
  | .sweepDone _ _ => true
  | .correctedError _ _ => true
  | .ceSummary => true
  | .uncorrectableError _ addr _ _ _ => Nat.blt addr (2 ^ 34)
  | .spareDone => true
  | .lockstepMismatch _ queued => queued.all (fun e => Nat.blt e.1 40)
  | .bitSramUe _ queued => queued.all (fun e => Nat.blt e.1 40)
  | .bitWatchdogExpiry _ queued => queued.all (fun e => Nat.blt e.1 40)
  | .bitRestartReq _ _ queued => queued.all (fun e => Nat.blt e.1 40)
  | .bitRomStart => true
  | .measurementDone _ => true
  | .bitReady _ _ => true
  | .mbPush _ _ _ _ => true
  | .mbRelease _ _ n => Nat.blt n 32
  | .mbRing _ _ _ => true
  | .doorbellWrite _ _ _ => true
  | .cuEnable _ _ _ => true
  | .cuDisable _ _ _ => true
  | .cuRestore _ _ _ => true
  | .cuInject _ _ _ => true
  | .cuStreamJudge _ _ _ _ => true
  | .cuLayerJudge _ _ _ => true
  | .cuWordGapTimeout _ => true
  | .cuMsgTimeout _ => true
  | .rfEnable _ _ _ => true
  | .rfDisable _ _ _ => true
  | .kbEnable _ _ => true
  | .selfStartedWindow _ => true
  | .scanComplete _ _ _ _ => true
  | .suspectAccepted _ => true
  | .listenSample _ _ => true
  | .keyScanComplete _ => true
  | .wakeScan _ _ => true
  | .hapEnable _ _ _ => true
  | .calibrate _ _ _ => true
  | .calDone _ _ _ _ => true
  | .hapPlay _ _ _ => true
  | .hapCritPlay _ _ _ => true
  | .halfCycleEnd _ _ _ => true
  | .pulseGapEnd _ => true
  | .blockBoundary _ _ _ _ => true
  | .tdmClockLost _ => true
  | .tdmClockBack _ _ => true
  | .audStreamCfgWrite _ _ _ => true
  | .audRouteTableWrite _ v => Nat.blt v (2 ^ 32768)
  | .chimePlay _ _ => true
  | .chimeStop _ _ => true
  | .chimeEnd _ => true
  | .ldpRead _ => true
  | .ldpWrite _ => true
  | .ldpReadBlock _ => true
  | .ldpWriteBlock _ => true
  | .ldpSubscribe _ => true
  | .ldpUnsubscribe _ => true
  | .ldpNotify sub _ => Nat.blt sub 65536
  | .commitRequest _ => true
  | .commitDone _ => true
  | .restoreDefaults _ => true
  | .ldpOpen _ => true
  | .ldpConfirm _ => true
  | .ldpClose _ => true
  | .ldpPing _ => true
  | .confirmTimeout _ => true
  | .authLockoutEnd _ => true
  | .sessionIdle _ => true
  | .stagingTimeout _ => true
  | .udpDatagram _ _ _ _ bytes => Nat.ble bytes.length 65507
  | .arpIcmp _ _ _ => true
  | .canFrame _ identifier bytes => canIdentifier identifier.toNat && canLength bytes.length
  | .canSegmentLost => true
  | .dictGo _ _ bytes => Nat.ble bytes.length 8192
  | .credSecretWrite _ _ blob => Nat.blt blob (2 ^ 1096)
  | .xoDelayExpiry => true
  | .xoCountDone _ => true
  | .pllLocked _ _ => true
  | .pllEnable _ _ _ => true
  | .clkmonWindow _ _ => true
  | .clkmonInject _ _ _ => true
  | .muxSel _ _ _ => true
  | .muxSwitchDone _ => true
  | .switchStuck _ => true
  | .forceSel _ _ _ _ queued => queued.all (fun e => Nat.blt e.1 40)
  | .gateOpen _ _ => true
  | .gateClose _ _ => true
  | .gateCloseComplete _ => true
  | .busyRefused _ _ => true
  | .domainOn _ _ => true
  | .domainOnComplete _ => true
  | .domainOff _ _ => true
  | .domainReset _ _ => true
  | .domainResetRelease _ => true
  | .stateEnter _ => true
  | .wakeEvent _ => true
  | .stateExit => true
  | .powerMeasurement _ => true
  | .thermalThrottle _ => true
  | .thermalTrip _ => true
  | .sagStart _ _ => true
  | .railRecovered _ _ => true
  | .sag => true
  | .supInject _ _ _ => true
  | .avsSettle _ => true
  | .avsFault _ => true
  | .brownOut _ _ => true
  | .powerOnReset _ => true
  | .resetPin _ => true
  | .coldRequest _ _ _ => true
  | .warmRequest _ _ => true
  | .imageLoaded => true
  | .ready training => decide (training.length = 8)
  | .recoveryGo _ _ => true
  | .tftpWrite length => Nat.ble length (2 ^ 25)
  | .gafferWatchdogExpiry _ => true
  | .rstGafRestartReq _ _ => true
  | .gafferSramUe _ => true
  | .gafferRestartDone _ _ => true
  | .logMove => true
  | .injArm _ _ _ queued => queued.all (fun e => Nat.blt e.1 40)
  | .dailiesReserve slice => Nat.blt slice 1024
  | .sliceComplete slice _ _ => Nat.blt slice 1024
  | .dailiesOverrun slice => Nat.blt slice 1024
  | .dailiesRound => true
  | .tallyWrap _ _ => true
  | .tallyOvfClear _ _ _ => true
  | .hostLinkUp _ => true
  | .thermalTripRelease _ _ => true
  | .forceSelResetRelease _ => true

end Sys2Proof
end

