-- ==== Sys2Proof/Safety.lean ====
section
/-! DEFINITION. The terms that claims use: when the state is sound, what a command may leave alone, what is recorded and answered, and when a write
passes the checks that come before an object's own. -/
namespace Sys2Proof.Machine
open Sys2Proof

/-- The log holds no more than it can: 256 records in the FIFO, 64 in the mirror, 4,096 in the ring (R629, R633). -/
def Log.bounded (l : Log) : Bool :=
  decide (l.fifo.length ≤ 256) && decide (l.mirror.length ≤ 64) && decide (l.ring.length ≤ 4096)

/-- Every object and every byte has one place, no object is listed at its default, and the log is within its bounds: equal contents are equal states. -/
def State.sound (s : State) : Bool := Objs.wf s.objs && Memory.wf s.mem && s.log.bounded

/-- Everything but the dictionary objects, the log, what has left the block, and Tally and the refusals that count events: two states with the same
`apart` differ in nothing else. -/
def State.apart (s : State) : State := { s with objs := [], log := {}, io := [], tally := [], tallyOvf := [], refusals := [] }

/-- Every dictionary object but some holds what it held. -/
def State.objectsBut (s t : State) (ws : List Nat) : Prop := ∀ a, a ∉ ws → t.rd a = s.rd a

/-- Every byte of memory reads as it read. -/
def State.sameMemory (s t : State) : Prop := ∀ a, t.byte a = s.byte a

/-- A record of an event, with its source and its detail, is in the event FIFO. -/
def State.told (s : State) (code source : Nat) (ds : List Detail) : Bool :=
  s.log.fifo.any (fun r => decide (r.code = code) && decide (r.source = source) && decide (r.detail = packDetail 0 ds))

/-- The last thing the block sent is a status to a requester. -/
def State.answered (s : State) (rq : Requester) (st : Nat) : Bool := decide (s.io.head? = some (.status rq st))

/-- A completion record of an item, with its status and its detail, has been sent (R313, R314). -/
def State.recorded (s : State) (it : Item) (status detail : Nat) : Bool :=
  s.io.any (fun e => match e with
    | .completion c => decide (c.owner = it.owner) && decide (c.queue = it.queue) && decide (c.tag = dSeq it.desc) && decide (c.status = status)
        && decide (c.detail = detail)
    | _ => false)

/-- An item that no injection marks, of an owner whose records are written, is the one a descriptor command of a TYPE runs on. -/
def State.offers (s : State) (o : Owner) (q : Fin 16) (type : Nat) (it : Item) : Bool :=
  decide (s.nextItemOf o.code q.val type = some it) && decide (s.item? it.id = some it) && !it.injected && !(s.inst o.code).busOff

/-- No output holds an item: no commit of it is pending, composed or shown, and no output intent of it waits. An item that has not started is held by none. -/
def State.heldByNone (s : State) (id : Nat) : Bool :=
  s.outs.all (fun e => !(e.2.pending ++ e.2.comps.flatMap Composition.commits ++ (match e.2.showing with | some c => c.commits | none => [])).any
      (fun c => decide (c.item = id)) && !decide (e.2.waitingIntent.map Prod.fst = some id))

/-- A slot that was reached in time is the next due, at a tick at which none has fired yet, and holds an action: it fires now (R45). -/
def State.dueNow (s : State) (n action : Nat) : Bool :=
  match s.nextDue with
  | some d => decide (d.slot = n) && !d.jumped && !d.late && Nat.ble d.tick s.clock.ticks && !decide (s.clock.lastFire = some s.clock.ticks)
      && decide (s.rd (Obj.SLOT_ACTION n) = action)
  | none => false

/-- Steps 4 to 7 of R536 pass for a write of an object that carries its own type and length. -/
def State.accepts (s : State) (rq : Requester) (addr v : Nat) : Bool :=
  match rowAt addr with
  | some r => decide (s.writeStatus rq addr r.ty.code (objLength r addr) v = Status.ok)
  | none => false

/-- Can a channel of LDP be answered now: Gaffer does not restart, and a session is there and has a SEQ left (R543, R619)? -/
def State.canReply (s : State) (ch : Nat) : Bool :=
  !s.gafferDown && (!isSession ch || (match s.session? ch with | some x => decide (x.nextSeq ≤ 0xFFFFFFFF) | none => false))

/-- The message that answers a transaction (R543, R544): on a session with its SESSION, next SEQ and MAC. -/
def State.reply (s : State) (ch : Nat) (t : LdpTxn) (status : Nat) (body : List (BitVec 8)) : List (BitVec 8) :=
  match (if isSession ch then s.session? ch else none) with
  | some x =>
    let m := ldpMessage (t.op + 0x80) t.tid x.number x.nextSeq status body
    m ++ macOf x.key m
  | none => ldpMessage (t.op + 0x80) t.tid 0 0 status body

/-- A transaction has been answered, and is outstanding no longer. -/
def State.replied (s u : State) (ch : Nat) (t : LdpTxn) (status : Nat) (body : List (BitVec 8)) : Prop :=
  IoEvent.ldp ch (s.reply ch t status body) ∈ u.io ∧ u.ldp.txns = s.ldp.txns.erase (ch, t)

/-- A run is safe so far when its state is sound. The block has no state of error that a command could leave it in: what a requester may not do is
answered with a status (R8, R536). -/
def Safe (s : State) : Prop := s.sound = true

end Sys2Proof.Machine
end

