-- ==== Sys2Proof/Certificates/Slice0/Obligations.lean ====
section
/-! DEFINITION. The statements for the provers, chapter by chapter of the manual. A statement of a command's effect says that `exec` answers a next state
on every state and operands that meet the hypotheses, and what that state holds. -/
open Sys2Proof Sys2Proof.Machine

/-! ## The machine as a whole -/

/-- A step takes the command at the front of the queue and runs it with the rest of the queue. -/
def Obligations.StepRunsTheFrontCommand : Prop :=
  ∀ (s : State) (c : Instr) (rest : List Instr), step { s with pending := c :: rest } = exec c { s with pending := rest }

/-- On an empty queue one timestamp tick passes (the model's choice, log entry 82): 2 ns of device time when no correction is in force (R30), and nothing but
the clock and the slots that become due changes. -/
def Obligations.EmptyQueueTicks : Prop :=
  ∀ s : State, s.pending = [] → ∃ t, step s = .next t ∧ t.clock.ticks = s.clock.ticks + 1 ∧
    (s.clock.slew = 0 → 0 ≤ s.clock.slewRest → s.clock.slewRest < 1000000 → t.clock.dtime = s.clock.dtime + 2) ∧
    (s.clock.stopped = true → t.clock.pos = s.clock.pos) ∧ t.clock.pos.frame = s.clock.pos.frame ∧ t.clock.pos.line = s.clock.pos.line ∧
    { t with clock := s.clock, dueSlots := s.dueSlots } = s

/-- What power-on reset leaves where the manual states it: the queue empty, the position and device time at zero (R28), Sprocket coasting under R617 and not
locked (R22, R53), the reset's cause POWER_ON (R611), Bittern in its ROM (R402), every rail at its nominal target (R603), and each object at the default of
its table (R538). -/
def Obligations.ResetValues : Prop :=
  State.reset.pending = [] ∧ State.reset.now = {} ∧ State.reset.dtime = 0 ∧ State.reset.coasting = true ∧ State.reset.spk spkLocked = false ∧
  State.reset.rd Obj.RST_LAST_CAUSE = 1 ∧ State.reset.rd Obj.BIT_STATE = 0 ∧ State.reset.rd Obj.SPK_LEAD_OUTPUT = 0xFF ∧
  State.reset.rd (Obj.SUP_TARGET_MV 11) = 3300 ∧ State.reset.rd Obj.INJ_ENABLE = 0 ∧ State.reset.rd Obj.LDP_CAN_CONTROLLER = 0xFF ∧
  (∀ a, a ≠ Obj.RST_LAST_CAUSE → State.reset.rd a = defaultOf a) ∧
  State.reset.items = [] ∧ State.reset.mem = [] ∧ State.reset.keys = [] ∧ (∀ k, (State.reset.out k).state = .off)

/-- The state after reset is sound: objects and bytes in canonical form, and the log within its bounds. -/
def Obligations.ResetIsSound : Prop :=
  State.reset.sound = true

/-- Every step keeps the state sound: no command, and no tick, leaves an object listed twice, out of order or at its default, memory out of its canonical
form, or the log beyond the 256 records of the FIFO, the 64 of the mirror and the 4,096 of the ring (R629, R633). -/
def Obligations.StepKeepsStateSound : Prop :=
  ∀ s t : State, s.sound = true → step s = .next t → t.sound = true

/-- Every command of every state answers a next state (log entry 2: the block has no fault and no refusal), and no command takes, adds or loses a command that
waits in the queue. -/
def Obligations.EveryCommandAnswersAndKeepsTheQueue : Prop :=
  ∀ (c : Instr) (s : State), ∃ t, exec c s = .next t ∧ t.pending = s.pending

/-! ## Writes of registers and objects -/

/-- The order of R536's checks for a write of an object: that it exists, the right of the class with OWNER_LOCKED first, the type, the length, the encoding. A
write that fails one is answered with that status, and changes nothing but, for OWNER_LOCKED, the log and the count of refusals (R401). -/
def Obligations.RegisterWriteChecksInOrder : Prop :=
  ∀ (s : State) (rq : Requester) (addr : Fin 16777216) (ty : Fin 256) (len v : Nat),
    (rowAt addr.val = none → ¬(addr.val % 256 = 0 ∧ indexUsed (addr.val / 256) = true) →
      exec (.registerWrite rq (.object addr ty len) v) s = .next (s.answer rq Status.ldpNoObject)) ∧
    (∀ r, rowAt addr.val = some r →
      (requesterNormal rq = true ∧ s.bitternOwns addr.val = true →
        ∃ t, exec (.registerWrite rq (.object addr ty len) v) s = .next t ∧ t.answered rq Status.ownerLocked ∧ t.apart = s.apart ∧
          s.objectsBut t [Obj.LOG_LOST]) ∧
      (¬(requesterNormal rq = true ∧ s.bitternOwns addr.val = true) →
        let right := s.narrow rq addr.val ((s.rightsAt r addr.val).of rq)
        (right = .ro → exec (.registerWrite rq (.object addr ty len) v) s = .next (s.answer rq Status.accessDenied)) ∧
        (right ≠ .ro → ty.val ≠ r.ty.code → exec (.registerWrite rq (.object addr ty len) v) s = .next (s.answer rq Status.ldpType)) ∧
        (right ≠ .ro → ty.val = r.ty.code → r.ty ≠ .str → len ≠ objLength r addr.val →
          exec (.registerWrite rq (.object addr ty len) v) s = .next (s.answer rq Status.ldpLength)) ∧
        (right ≠ .ro → ty.val = r.ty.code → r.ty ≠ .str → len = objLength r addr.val → encodingOk r v = false →
          exec (.registerWrite rq (.object addr ty len) v) s = .next (s.answer rq Status.ldpRange))))

/-- A write of an object without checks of its own, one in each of several blocks: within its stated range it puts the value in force, answers OK and changes
no other object and nothing else (R536, R537); outside, it is refused with LDP_RANGE and changes nothing. Writes of registers that are no objects: a window's
ring base while its queue is disabled, which drops the low six bits (R305), the mask of a mailbox by its receiver (R414), and the page of the boot-visible
status block (R614). Nothing but that register, and what the mailbox signals, changes. -/
def Obligations.ObjectAndRegisterWrites : Prop :=
  (
  ∀ (s : State) (rq : Requester) (addr : Fin 16777216) (v : Nat),
    addr.val ∈ [Obj.DTIME_SYNC_PORT, Obj.DTIME_SLEW_LIMIT, Obj.GRIP_AGGRESSIVENESS, Obj.HAP_BRAKE_THRESH_MV, Obj.LDP_SESSION_IDLE] →
    ∀ r, rowAt addr.val = some r → s.writeStatus rq addr.val r.ty.code r.len v = Status.ok →
      (r.accepts.holds r.ty v = true → ∃ t, exec (.registerWrite rq (.object addr ⟨r.ty.code % 256, by omega⟩ r.len) v) s = .next t ∧
        t.rd addr.val = v ∧ s.objectsBut t [addr.val] ∧ t.apart = s.apart ∧ t.answered rq Status.ok) ∧
      (r.accepts.holds r.ty v = false →
        exec (.registerWrite rq (.object addr ⟨r.ty.code % 256, by omega⟩ r.len) v) s = .next (s.answer rq Status.ldpRange))) ∧
  (
  (∀ (s : State) (w : Window) (q : Fin 16) (v : Nat) (rq : Requester), s.barServed = true → s.hostWake = s → s.windowLive w.code = true →
    ((s.inst w.code).queue q.val).enable = false → v < 2 ^ 64 →
    ∃ t, exec (.registerWrite rq (.window w ⟨0x1000 + 0x40 * q.val, by omega⟩ true) v) s = .next t ∧
      ((t.inst w.code).queue q.val).base = v / 64 * 64 ∧ (∀ n, n ≠ q.val → (t.inst w.code).queue n = (s.inst w.code).queue n) ∧
      (∀ n, n ≠ w.code → t.inst n = s.inst n) ∧ { t with insts := s.insts } = s) ∧
  (∀ (s : State) (p : Fin 4) (v : Nat) (rq : Requester),
    ∃ t, exec (.registerWrite rq (.boot p ⟨0x18, by omega⟩ true) v) s = .next t ∧ t.boot.recoveryPage = v % 8 ∧ { t with boot := s.boot } = s))

/-! ## Sprocket, device time and slots (R11 to R55) -/

/-- R20: while Sprocket is locked, each real line start of the lead raster advances LINE by one and makes FRACTION 0; the line that starts a frame makes FRAME
one more and LINE 0 (R16). While it coasts, a nominal line period does the same (R22). No object changes but the counts of frames, and nothing but the clock
and the slots that become due. The lead output's write (R12 to R14): a value of 12 to 254 is refused with LDP_RANGE and an output that cannot lead with
LEAD_UNFIT; a change of lead is pending from then on, and Sprocket coasts. -/
def Obligations.TheLeadMovesThePosition : Prop :=
  (
  ∀ (s : State) (ps : Nat),
    (s.coasting = false → s.clock.stopped = false → s.clock.pos.line ≠ 0xFFFF →
      ∃ t, exec (.leadLineStart ps false) s = .next t ∧ t.now = ⟨s.now.frame, s.now.line + 1, 0⟩ ∧
        { t with clock := s.clock, dueSlots := s.dueSlots } = s) ∧
    (s.coasting = false → s.clock.stopped = false →
      ∃ t, exec (.leadLineStart ps true) s = .next t ∧ t.now = ⟨s.now.frame + 1, 0, 0⟩ ∧
        s.objectsBut t [Obj.SPK_COAST_FRAMES, Obj.SPK_FRAME_EPOCH] ∧ { t with clock := s.clock, dueSlots := s.dueSlots, objs := s.objs } = s) ∧
    (s.coasting = true → s.clock.stopped = false → s.clock.pos.line.toNat + 1 < s.coastLines →
      ∃ t, exec .coastLineTick s = .next t ∧ t.now = ⟨s.now.frame, s.now.line + 1, 0⟩ ∧ { t with clock := s.clock, dueSlots := s.dueSlots } = s) ∧
    (s.coasting = true → s.clock.stopped = false → s.coastLines ≤ s.clock.pos.line.toNat + 1 →
      ∃ t, exec .coastLineTick s = .next t ∧ t.now = ⟨s.now.frame + 1, 0, 0⟩ ∧
        (s.clock.coastFrame = true → t.rd Obj.SPK_COAST_FRAMES = wrapAdd 32 (s.rd Obj.SPK_COAST_FRAMES) 1) ∧
        s.objectsBut t [Obj.SPK_COAST_FRAMES, Obj.SPK_FRAME_EPOCH] ∧ { t with clock := s.clock, dueSlots := s.dueSlots, objs := s.objs } = s)) ∧
  (
  ∀ (s : State) (rq : Requester) (v : Fin 256), s.accepts rq Obj.SPK_LEAD_OUTPUT v.val = true →
    (12 ≤ v.val → v.val ≠ 0xFF → exec (.spkLeadOutputWrite rq v) s = .next (s.answer rq Status.ldpRange)) ∧
    (v.val < 12 ∨ v.val = 0xFF → s.leadUnfit (s.leadNamed v.val) = true → exec (.spkLeadOutputWrite rq v) s = .next (s.answer rq Status.leadUnfit)) ∧
    (v.val < 12 ∨ v.val = 0xFF → s.leadUnfit (s.leadNamed v.val) = false →
      ∃ t, exec (.spkLeadOutputWrite rq v) s = .next t ∧ t.rd Obj.SPK_LEAD_OUTPUT = v.val ∧ t.answered rq Status.ok ∧ t.now = s.now ∧ t.dtime = s.dtime ∧
        (s.leadNamed v.val ≠ s.leadOutput → t.coasting = true ∧ t.spk spkLeadPending = true) ∧
        (s.leadNamed v.val = s.leadOutput → t.apart = s.apart ∧ s.objectsBut t [Obj.SPK_LEAD_OUTPUT]) ∧
        s.objectsBut t [Obj.SPK_LEAD_OUTPUT, Obj.SPK_STATUS, Obj.LOG_LOST]))

/-- R25: at each re-lock COASTING is cleared, LOCKED set, SPK_RELOCK_COUNT incremented, and the position of the new frame start recorded in SPK_LAST_RELOCK. -/
def Obligations.RelockSetsStatusAndCounts : Prop :=
  ∀ s : State, s.coasting = true → s.leadRuns = true → s.clock.stopped = false →
    ∃ t, exec .relock s = .next t ∧ t.coasting = false ∧ t.spk spkLocked = true ∧
      t.rd Obj.SPK_RELOCK_COUNT = wrapAdd 32 (s.rd Obj.SPK_RELOCK_COUNT) 1 ∧
      t.now = ⟨s.now.frame + 1, 0, 0⟩ ∧ t.rd Obj.SPK_LAST_RELOCK = t.now.pack

/-- R33: when 802.1AS synchronisation is lost, DTIME_SYNC_STATE becomes HOLDOVER and device time keeps its last disciplined rate. -/
def Obligations.SyncLossHoldsOver : Prop :=
  ∀ s : State, s.rd Obj.DTIME_SYNC_STATE = 1 ∨ s.rd Obj.DTIME_SYNC_STATE = 2 →
    ∃ t, exec .dtimeSyncLoss s = .next t ∧ t.rd Obj.DTIME_SYNC_STATE = 3 ∧ t.clock = s.clock ∧ s.objectsBut t [Obj.DTIME_SYNC_STATE] ∧ t.apart = s.apart ∧
      t.log = s.log ∧ t.io = s.io

/-- A synchronisation message on the port that DTIME_SYNC_PORT names (R31, R32): an offset beyond the threshold steps device time forward and is logged, and
no other moves it; the rate is held within DTIME_SLEW_LIMIT. Sprocket does not move (R34). On any other port it does nothing. -/
def Obligations.SyncMessagesStepOrSlew : Prop :=
  ∀ (s : State) (p : Fin 2) (off rate : Int),
    (s.rd Obj.DTIME_SYNC_PORT = p.val + 1 →
      ∃ t, exec (.dtimeSyncMessage p off rate) s = .next t ∧
        t.dtime = s.dtime + (if Int.ofNat (s.rd Obj.DTIME_STEP_THRESHOLD) < off then off.toNat else 0) ∧
        t.clock.slew = clampInt (-Int.ofNat (s.rd Obj.DTIME_SLEW_LIMIT)) (Int.ofNat (s.rd Obj.DTIME_SLEW_LIMIT)) rate ∧
        t.now = s.now ∧ t.rd Obj.DTIME_OFFSET = ofSigned 64 off ∧
        t.rd Obj.DTIME_SYNC_STATE = (if s.rd Obj.DTIME_SYNC_STATE = 0 then 1 else 2) ∧
        s.objectsBut t [Obj.DTIME_OFFSET, Obj.DTIME_SYNC_STATE, Obj.LOG_LOST] ∧
        (Int.ofNat (s.rd Obj.DTIME_STEP_THRESHOLD) < off → s.log.fifo.length < 256 → t.told Ev.dtimeStep noOwner [d64 off.toNat])) ∧
    (s.rd Obj.DTIME_SYNC_PORT ≠ p.val + 1 → exec (.dtimeSyncMessage p off rate) s = .next s)

/-- Arming (R48): a slot whose checks pass is armed with the flags written, its state ARMED, and one whose position has passed is due at once; one whose
checks fail answers their status and nothing changes. Disarming an armed slot makes it IDLE, and it is due no more (R49). A slot whose action has no effect,
NONE, fires with NO_EFFECT (R44, R46): its position is recorded, it is due no more, and without REPEAT it is disarmed (R50). A slot that is not the next one
due does not fire. -/
def Obligations.SlotsArmAndFire : Prop :=
  (
  ∀ (s : State) (rq : Requester) (n : Fin 256) (past rep : Bool),
    (s.accepts rq (Obj.SLOT_CONTROL n.val) (1 + 2 * ofBool past + 4 * ofBool rep) = true → s.armed n.val = false →
      (s.armStatus n.val past = Status.ok →
        ∃ t, exec (.slotArm rq n past rep) s = .next t ∧ t.armed n.val = true ∧ t.rd (Obj.SLOT_STATE n.val) = slotArmed ∧
          ctlRepeat (t.rd (Obj.SLOT_CONTROL n.val)) = rep ∧ t.answered rq Status.ok ∧
          ((s.slotPos n.val).earlier s.now = true → ⟨n.val, s.clock.ticks, false, true⟩ ∈ t.dueSlots) ∧
          s.objectsBut t [Obj.SLOT_CONTROL n.val, Obj.SLOT_STATE n.val] ∧ { t.apart with dueSlots := s.dueSlots } = s.apart) ∧
      (s.armStatus n.val past ≠ Status.ok → s.armStatus n.val past ≠ Status.ownerLocked →
        exec (.slotArm rq n past rep) s = .next (s.answer rq (s.armStatus n.val past)))) ∧
    (s.accepts rq (Obj.SLOT_CONTROL n.val) 0 = true → s.armed n.val = true →
      ∃ t, exec (.slotDisarm rq n) s = .next t ∧ t.armed n.val = false ∧ t.rd (Obj.SLOT_STATE n.val) = slotIdle ∧ t.answered rq Status.ok ∧
        (∀ d ∈ t.dueSlots, d.slot ≠ n.val) ∧ s.objectsBut t [Obj.SLOT_CONTROL n.val, Obj.SLOT_STATE n.val] ∧
        { t.apart with dueSlots := s.dueSlots } = s.apart)) ∧
  (
  ∀ (s : State) (n : Fin 256) (d : DueSlot),
    (s.nextDue = some d → d.slot = n.val → d.jumped = false → d.late = false → s.rd (Obj.SLOT_ACTION n.val) = 0 →
      d.tick ≤ s.clock.ticks → s.clock.lastFire ≠ some s.clock.ticks →
      ∃ t, exec (.noneAction n) s = .next t ∧ t.rd (Obj.SLOT_STATE n.val) = slotNoEffect ∧ t.rd (Obj.SLOT_LAST_FIRE n.val) = s.now.pack ∧
        (∀ x ∈ t.dueSlots, x.slot ≠ n.val) ∧ t.clock = { s.clock with lastFire := some s.clock.ticks } ∧
        (ctlRepeat (s.rd (Obj.SLOT_CONTROL n.val)) = false → t.armed n.val = false) ∧
        (ctlRepeat (s.rd (Obj.SLOT_CONTROL n.val)) = true → t.slotPos n.val = { s.slotPos n.val with frame := (s.slotPos n.val).frame + 1 }) ∧
        s.objectsBut t [Obj.SLOT_STATE n.val, Obj.SLOT_LAST_FIRE n.val, Obj.SLOT_CONTROL n.val, Obj.SLOT_POSITION n.val, Obj.LOG_LOST] ∧
        { t.apart with clock := s.clock, dueSlots := s.dueSlots } = s.apart) ∧
    (s.nextDue = some d → d.slot ≠ n.val → exec (.noneAction n) s = .next s) ∧ (s.nextDue = none → exec (.noneAction n) s = .next s))

/-- The slot actions (R44, R338, R358, R414, R446, R493, R642): each does what its table row says and ends FIRED. PREEMPT_RASTER suspends an instance with
resident work; REFRESH_ALL_BANK ends FIRED whether it refreshes at once or waits at a debt of −8; TOUCH_SCAN starts a window on an idle front end that scans;
RAISE_DOORBELL sets its bit; DAILIES_SLICE starts its slice on an idle unit and is DECLINED where there is none; HAPTIC_START plays its effect on an idle
channel; LATCH_OUTPUT takes a decision in extended blanking, and with nothing to show at the last decision line the output goes as a REPEAT. -/
def Obligations.SlotActionsTakeEffect : Prop :=
  ∀ (s : State) (n : Fin 256),
    (s.dueNow n.val 1 → s.guards = [] → s.hasResident (field (s.rd (Obj.SLOT_ARG n.val)) 5 0) = true →
      (s.inst (field (s.rd (Obj.SLOT_ARG n.val)) 5 0)).suspended = false →
      ∃ t, exec (.preemptRaster n) s = .next t ∧ t.rd (Obj.SLOT_STATE n.val) = slotFired ∧
        (t.inst (field (s.rd (Obj.SLOT_ARG n.val)) 5 0)).suspended = true ∧
        (∀ i, i ≠ field (s.rd (Obj.SLOT_ARG n.val)) 5 0 → t.inst i = s.inst i) ∧ s.sameMemory t) ∧
    (s.dueNow n.val 2 → -8 < s.debt (field (s.rd (Obj.SLOT_ARG n.val)) 2 0) → s.debt (field (s.rd (Obj.SLOT_ARG n.val)) 2 0) ≤ 8 →
      ∃ t, exec (.refreshAllBank n) s = .next t ∧ t.rd (Obj.SLOT_STATE n.val) = slotFired ∧
        t.debt (field (s.rd (Obj.SLOT_ARG n.val)) 2 0) = s.debt (field (s.rd (Obj.SLOT_ARG n.val)) 2 0) - 1 ∧ s.sameMemory t) ∧
    (s.dueNow n.val 2 → s.debt (field (s.rd (Obj.SLOT_ARG n.val)) 2 0) ≤ -8 →
      ∃ t, exec (.refreshAllBank n) s = .next t ∧ t.rd (Obj.SLOT_STATE n.val) = slotFired ∧
        (t.chan (field (s.rd (Obj.SLOT_ARG n.val)) 2 0)).slotWaits = (s.chan (field (s.rd (Obj.SLOT_ARG n.val)) 2 0)).slotWaits + 1 ∧ s.sameMemory t) ∧
    (s.dueNow n.val 3 → s.rd (Obj.SLOT_ARG n.val) < 2 → s.scans (s.rd (Obj.SLOT_ARG n.val)) = true →
      s.windowRuns (s.rd (Obj.SLOT_ARG n.val)) = false →
      ∃ t, exec (.touchScan n) s = .next t ∧ t.rd (Obj.SLOT_STATE n.val) = slotFired ∧ t.windowRuns (s.rd (Obj.SLOT_ARG n.val)) = true) ∧
    (s.dueNow n.val 7 →
      s.mbUnused (field (s.rd (Obj.SLOT_ARG n.val)) 11 8) = false →
      ¬(s.mbReceiver (field (s.rd (Obj.SLOT_ARG n.val)) 11 8) = .bittern ∧ s.bitternDown = true) →
      s.receiverUp (field (s.rd (Obj.SLOT_ARG n.val)) 11 8) = true →
      ∃ t, exec (.raiseDoorbell n) s = .next t ∧ t.rd (Obj.SLOT_STATE n.val) = slotFired ∧
        (t.mailbox (field (s.rd (Obj.SLOT_ARG n.val)) 11 8)).pend =
          (s.mailbox (field (s.rd (Obj.SLOT_ARG n.val)) 11 8)).pend ||| 2 ^ field (s.rd (Obj.SLOT_ARG n.val)) 4 0 ∧ s.sameMemory t) ∧
    (s.dueNow n.val 4 → ∀ u, sliceUnit (field (s.rd (Obj.SLOT_ARG n.val)) 11 0) = some u → s.unitIdle (field (s.rd (Obj.SLOT_ARG n.val)) 11 0) u = true →
      s.dailies.running = [] → sliceStrict (field (s.rd (Obj.SLOT_ARG n.val)) 11 0) = false →
      ∃ t, exec (.dailiesSlice n) s = .next t ∧ t.rd (Obj.SLOT_STATE n.val) = slotFired ∧
        t.dailies.running = [⟨field (s.rd (Obj.SLOT_ARG n.val)) 11 0, s.dtime, s.rd Obj.DAILIES_BUDGET⟩] ∧ s.sameMemory t) ∧
    (s.dueNow n.val 4 → sliceUnit (field (s.rd (Obj.SLOT_ARG n.val)) 11 0) = none →
      ∃ t, exec (.dailiesSlice n) s = .next t ∧ t.rd (Obj.SLOT_STATE n.val) = slotDeclined ∧
        t.rd Obj.DAILIES_DECLINED = wrapAdd 32 (s.rd Obj.DAILIES_DECLINED) 1 ∧ s.sameMemory t) ∧
    (s.dueNow n.val 6 → field (s.rd (Obj.SLOT_ARG n.val)) 15 8 ≠ 0 →
      s.triggerStatus (field (s.rd (Obj.SLOT_ARG n.val)) 2 0) (field (s.rd (Obj.SLOT_ARG n.val)) 15 8) false = Status.ok →
      (s.hap (field (s.rd (Obj.SLOT_ARG n.val)) 2 0)).play = none → 0 < efOd (s.effect (field (s.rd (Obj.SLOT_ARG n.val)) 15 8)) →
      ∃ t, exec (.hapticStart n) s = .next t ∧ t.rd (Obj.SLOT_STATE n.val) = slotFired ∧
        ((t.hap (field (s.rd (Obj.SLOT_ARG n.val)) 2 0)).play.map HapPlay.effect) = some (field (s.rd (Obj.SLOT_ARG n.val)) 15 8) ∧ s.sameMemory t) ∧
    (s.dueNow n.val 5 → ∀ (line : Nat) (progress : List (Bool × Nat)), field (s.rd (Obj.SLOT_ARG n.val)) 3 0 ≤ 11 →
      let g := s.governor (field (s.rd (Obj.SLOT_ARG n.val)) 3 0)
      (s.out g).strict = false → (s.out g).phase = .blanking → s.firstDecision g < line → line = s.lastDecision g → (s.out g).comps = [] →
      (s.out g).pending = [] → (s.out g).recompose = none → (s.out g).overrideAsked = false →
      ∃ t, exec (.latchOutput n line progress) s = .next t ∧ t.rd (Obj.SLOT_STATE n.val) = slotFired ∧ (t.out g).phase = .going false ∧
        t.rd (Obj.OUT_REPEAT_COUNT g) = wrapAdd 32 (s.rd (Obj.OUT_REPEAT_COUNT g)) 1 ∧ s.sameMemory t)

/-! ## Grip (R56 to R94) -/

/-- A new surface intent that is accepted completes with OK and the lowest free surface number in the detail (R57); the surface is the submitter's, placed in
the Reel or in DRAM, and no other surface and no byte of memory changes. An invalid one is refused with INTENT_INVALID and leaves every surface as it was. An
output intent that is judged acceptable is in force for its output, or waits there for the latch point (R61, R183); with no other output moved to DRAM its
item completes with OK (R74). -/
def Obligations.SurfaceAndOutputIntents : Prop :=
  (
  ∀ (s : State) (o : Owner) (q : Fin 16) (it : Item), s.offers o q 0x20 it → dfield it.desc 127 112 = 0xFFFF → dbit it.desc 186 = false →
    (s.newSurfaceInvalid it.desc o.code = false → ¬(dfield it.desc 111 104 = 3 ∧ s.eccOff = true) → s.grip.surfaces.length < 16384 →
      ((s.startItem it.id).placeNew (lowestFree s.grip.surfaces 0) (intentSurface it.desc o.code)).isSome →
      ∃ t, exec (.surfaceIntent o q) s = .next t ∧ t.recorded it Status.ok (lowestFree s.grip.surfaces 0) ∧ t.item? it.id = none ∧
        (t.surf (lowestFree s.grip.surfaces 0)).owner = o.code ∧
        ((t.surf (lowestFree s.grip.surfaces 0)).state = .reel ∨ (t.surf (lowestFree s.grip.surfaces 0)).state = .placed) ∧
        (∀ m, m ≠ lowestFree s.grip.surfaces 0 → t.surf m = s.surf m) ∧ s.sameMemory t) ∧
    (s.newSurfaceInvalid it.desc o.code = true →
      ∃ t, exec (.surfaceIntent o q) s = .next t ∧ t.recorded it Status.intentInvalid 0 ∧ t.item? it.id = none ∧ t.grip = s.grip ∧ s.sameMemory t)) ∧
  (
  ∀ (s : State) (o : Owner) (q : Fin 16) (it : Item), s.offers o q 0x21 it → s.heldByNone it.id → ∀ (st : Nat) (s' : State) (own : List Nat),
    (s.startItem it.id).judgeIntent o.code (dfield it.desc 67 64) (intentOf it.desc) (fun s k i => s.intentScans k i) = (st, some (s', [], own)) →
    ∃ t, exec (.outputIntent o q) s = .next t ∧ t.recorded it Status.ok 0 ∧ t.item? it.id = none ∧
      ((t.out (dfield it.desc 67 64)).intent = some (intentOf it.desc) ∨ (t.out (dfield it.desc 67 64)).nextIntent = some (intentOf it.desc)))

/-- A revision of an owned surface that does not migrate puts its readers, engines, rates and criticality in force at once; before the cut-over of a migration
it waits (R60). A release frees a surface to which nothing refers, and else waits with the surface RELEASING until nothing does (R59). No byte of another
surface is written. A surface whose release waits is freed, and its intent completes with OK, once nothing refers to it (R59). -/
def Obligations.SurfaceRevisionsReleasesAndEnds : Prop :=
  (
  ∀ (s : State) (o : Owner) (q : Fin 16) (it : Item), s.offers o q 0x20 it →
    let n := dfield it.desc 127 112
    let r := (dfield it.desc 171 160, dfield it.desc 179 176, dfield it.desc 223 192, dfield it.desc 255 224, dfield it.desc 111 104)
    s.ownsSurface o.code n = true → s.releasing n = false → n ≠ 0xFFFF →
    (dbit it.desc 186 = false → s.critInvalid o.code (dfield it.desc 111 104) (dfield it.desc 171 160) = false →
      ¬(dfield it.desc 111 104 = 3 ∧ s.eccOff = true) →
      ∃ t, exec (.surfaceRevision o q) s = .next t ∧ t.recorded it Status.ok 0 ∧ t.item? it.id = none ∧
        t.surf n = (if (s.surf n).beforeCutover then { s.surf n with revision := some r } else (s.surf n).revise r) ∧
        (∀ m, m ≠ n → t.surf m = s.surf m) ∧ s.sameMemory t) ∧
    (dbit it.desc 186 = true → s.referred n = true →
      ∃ t, exec (.surfaceRelease o q) s = .next t ∧ (t.surf n).state = .releasing ∧ (t.surf n).releaseItem = some it.id ∧
        (t.item? it.id).isSome = true ∧ (∀ m, m ≠ n → t.surf m = s.surf m) ∧ s.sameMemory t) ∧
    (dbit it.desc 186 = true → s.referred n = false → (s.surf n).reelSlices = [] →
      ∃ t, exec (.surfaceRelease o q) s = .next t ∧ (t.surf n).state = .free ∧ t.recorded it Status.ok 0 ∧ t.item? it.id = none ∧
        (∀ m, m ≠ n → t.surf m = s.surf m) ∧ (∀ a v, Memory.get t.mem a = some v → Memory.get s.mem a = some v))) ∧
  (
  ∀ (s : State) (sf : Fin 16384) (it : Item), s.releasing sf.val = true → s.referred sf.val = false → (s.surf sf.val).reelSlices = [] →
    (s.surf sf.val).releaseItem = some it.id → s.item? it.id = some it → it.injected = false → (s.inst it.owner).busOff = false →
    ∃ t, exec (.surfaceReleaseComplete sf) s = .next t ∧ (t.surf sf.val).state = .free ∧ t.recorded it Status.ok 0 ∧ t.item? it.id = none ∧
      (∀ m, m ≠ sf.val → t.surf m = s.surf m))

/-- R62: only the manager and Gaffer submit output intents; one from any other instance, or from Bittern, is refused with INTENT_INVALID, and no output
changes. -/
def Obligations.OutputIntentsOfInstancesAreRefused : Prop :=
  ∀ (s : State) (o : Owner) (q : Fin 16) (it : Item), o ≠ .manager → o ≠ .gaffer → s.offers o q 0x21 it →
    ∃ t, exec (.outputIntent o q) s = .next t ∧ t.recorded it Status.intentInvalid 0 ∧ t.item? it.id = none ∧ t.outs = s.outs ∧ t.grip = s.grip

/-- Epochs and migrations (R80, R86, R89): a sample enters the window of its unit, whose service time is the window's median; the mode written applies from
then on. At the end of a copy the new placement holds what the old one held, and the bytes moved are counted; once no user is left of the old placement it is
freed and the surface lies at the new one. -/
def Obligations.EpochsAndMigrations : Prop :=
  (∀ (s : State) (n : Fin 92) (v ns : Nat), s.unsampled n.val = false → (s.unit n.val).health ≠ .offline → (s.unit n.val).health ≠ .failed →
    ∃ t, exec (.epochEnd [(n, v)] [] [] ns) s = .next t ∧ (t.unit n.val).samples = (v :: (s.unit n.val).samples).take 64 ∧
      (t.unit n.val).service = median ((v :: (s.unit n.val).samples).take 64) ∧ t.grip.aggressiveness = s.rd Obj.GRIP_AGGRESSIVENESS ∧ s.sameMemory t) ∧
  (∀ (s : State) (sf : Fin 16384) (g : Migration), (s.surf sf.val).migration = some g → (s.surf sf.val).copying = true → s.gafferDown = false →
    (s.surf sf.val).sparse = false →
    ∃ t, exec (.migrationCopyDone sf) s = .next t ∧
      (t.surf sf.val).migration = some { g with copyDone := true, copied := (s.surf sf.val).bytes } ∧
      t.rd Obj.GRIP_MIGRATED_BYTES = wrapAdd 64 (s.rd Obj.GRIP_MIGRATED_BYTES) (s.surf sf.val).bytes ∧
      t.mem = Memory.copy s.mem (s.surf sf.val).place g.target (s.surf sf.val).bytes) ∧
  (∀ (s : State) (sf : Fin 16384) (g : Migration), (s.surf sf.val).migration = some g → g.cutover = true → s.oldUsed g = false →
    (s.surf sf.val).state ≠ .releasing →
    ∃ t, exec (.migrationOldFreed sf) s = .next t ∧ (t.surf sf.val).place = g.target ∧
      (∀ a v, Memory.get t.mem a = some v → Memory.get s.mem a = some v))

/-! ## The Reel and Matte (R95 to R177) -/

/-- Writes of the Reel's objects by a requester that may: critical rectangles that pass R107 are taken and wait for the next latch point, and others are
refused with CRIT_RECT_INVALID; the substitute table is checked and taken whole, without reserved bits (R126, R6); a scan mode in range is taken and pending
until the latch point, which alone makes it race (R122). Each changes the objects named and nothing else. A fetch of an active line (R116): of the Reel in
HELD mode, with nothing wrong and nothing injected, it changes nothing. In RACING mode a line that is not complete slips the frame, once (R117): the count,
the flag, SLIP in the flip record, and its position. A line of a DRAM-fed output that is not there in time is recorded as an underrun (R116). -/
def Obligations.ReelWritesAndFetches : Prop :=
  (
  (∀ (s : State) (rq : Requester) (k : Fin 12) (v : Nat), s.accepts rq (Obj.CRIT_RECTS k.val) (v % 2 ^ 512) →
    (s.critRectsInvalid k.val (v % 2 ^ 512) = false →
      ∃ t, exec (.critRectsWrite rq k v) s = .next t ∧ t.rd (Obj.CRIT_RECTS k.val) = v % 2 ^ 512 ∧
        t.out k.val = { s.out k.val with critRectsPending := true } ∧ (∀ j, j ≠ k.val → t.out j = s.out j) ∧ t.answered rq Status.ok ∧
        s.objectsBut t [Obj.CRIT_RECTS k.val] ∧ { t.apart with outs := s.outs } = s.apart) ∧
    (s.critRectsInvalid k.val (v % 2 ^ 512) = true → exec (.critRectsWrite rq k v) s = .next (s.answer rq Status.critRectInvalid))) ∧
  (∀ (s : State) (rq : Requester) (v : Nat), s.accepts rq Obj.SUBST_TABLE (v % 2 ^ 8192) →
    (((List.range 64).any (fun i => s.substBad (substEntry (v % 2 ^ 8192) i))) = false →
      ∃ t, exec (.substTableWrite rq v) s = .next t ∧
        t.rd Obj.SUBST_TABLE = packItems 16 ((List.range 64).map (fun i => substKept (substEntry (v % 2 ^ 8192) i))) ∧ t.answered rq Status.ok ∧
        s.objectsBut t [Obj.SUBST_TABLE] ∧ t.apart = s.apart) ∧
    (((List.range 64).any (fun i => s.substBad (substEntry (v % 2 ^ 8192) i))) = true →
      exec (.substTableWrite rq v) s = .next (s.answer rq Status.substInvalid))) ∧
  (∀ (s : State) (rq : Requester) (k : Fin 12) (v : Fin 256), s.accepts rq (Obj.REEL_SCAN_MODE k.val) v.val → v.val < 2 →
    ∃ t, exec (.reelScanModeWrite rq k v) s = .next t ∧ t.rd (Obj.REEL_SCAN_MODE k.val) = v.val ∧
      bit (t.rd (Obj.REEL_OUT_STATUS k.val)) rosModePending = true ∧ t.answered rq Status.ok ∧
      s.objectsBut t [Obj.REEL_SCAN_MODE k.val, Obj.REEL_OUT_STATUS k.val] ∧ t.apart = s.apart)) ∧
  (
  ∀ (s : State) (k : Fin 12) (y : Nat) (done : List Nat), s.paired k.val = false → (s.out k.val).phase ≠ .stopped →
    bit (s.rd (Obj.REEL_OUT_STATUS k.val)) rosEmpty = false → y < timVActive (s.timing k.val) → s.rd Obj.INJ_ENABLE ≠ 1 →
    ((s.out k.val).racingNow = false → s.dramFed k.val = false → exec (.lineFetch k y done none none) s = .next s) ∧
    ((s.out k.val).racingNow = true → s.dramFed k.val = false → leastLines done ≤ y → (s.out k.val).slipLine = none →
      ∃ t, exec (.lineFetch k y done none none) s = .next t ∧
        t.rd (Obj.REEL_OUT_SLIP_COUNT k.val) = wrapAdd 32 (s.rd (Obj.REEL_OUT_SLIP_COUNT k.val)) 1 ∧
        bit (t.rd (Obj.REEL_OUT_STATUS k.val)) rosSlip = true ∧ t.rd (Obj.REEL_OUT_LAST_SLIP k.val) = s.now.pack ∧
        bit (t.rd (Obj.OUT_FLIP_RECORD k.val)) 210 = true ∧ s.sameMemory t) ∧
    ((s.out k.val).racingNow = false → s.dramFed k.val = true → s.log.fifo.length < 256 → ∀ b,
      ∃ t, exec (.lineFetch k y done (some b) none) s = .next t ∧ t.told Ev.scanUnderrun noOwner [d8 k.val, d32 (s.rd (Obj.OUT_FRAME_COUNT k.val)), d16 y] ∧
        t.apart = s.apart ∧ s.objectsBut t [Obj.LOG_LOST]))

/-- A layer descriptor that passes R147's checks stands in the shadow at its position with its submitter and completes with OK (R143, R145); one that fails
completes with the first failing status, and the shadow stays as it was. No other position and no byte of memory changes. A write of a shadowed colour object
by Gaffer or the manager, within its range, waits as the output's newest shadow write while the active copy stays as it is (R171); a matrix coefficient
outside −8.0 to +8.0 is refused with COLOUR_VALUE (R163). A request to swap 3D LUT banks waits likewise, and a second one adds nothing (R166).
OUT_COLOUR_STATUS shows what waits (R176). -/
def Obligations.ShadowedDescriptorsAndColour : Prop :=
  (
  ∀ (s : State) (o : Owner) (q : Fin 16) (it : Item) (ok : Bool), s.offers o q 0x30 it → s.substUnchecked = false →
    ((s.startItem it.id).layerStatus it.desc o.code = Status.ok →
      ∃ t, exec (.layerDescriptor o q ok) s = .next t ∧ t.recorded it Status.ok 0 ∧ t.item? it.id = none ∧
        t.shadow = Tab.set s.shadow (16 * lyOutput it.desc + lyZ it.desc) (it.desc, o.code) ∧ t.outs = s.outs ∧ s.sameMemory t) ∧
    ((s.startItem it.id).layerStatus it.desc o.code ≠ Status.ok →
      ∃ t, exec (.layerDescriptor o q ok) s = .next t ∧ t.recorded it ((s.startItem it.id).layerStatus it.desc o.code) 0 ∧ t.item? it.id = none ∧
        t.shadow = s.shadow ∧ t.outs = s.outs ∧ s.sameMemory t)) ∧
  (
  (∀ (s : State) (rq : Requester) (addr : Fin 16777216) (v : Nat), isColourShadow addr.val = true → rq = .gaffer ∨ rq = .manager → s.accepts rq addr.val v →
    (¬(addr.val / 256 < 0x2E00 ∧ addr.val % 256 = 3 ∧ matrixBad v = true) → rangeStatus addr.val v = Status.ok →
      ∃ t, exec (.colourShadowWrite rq addr v) s = .next t ∧ t.answered rq Status.ok ∧ t.colourActive = s.colourActive ∧
        (t.out (colourOutput addr.val)).shadowWrites = (s.out (colourOutput addr.val)).shadowWrites ++ [(addr.val, s.merged addr.val v, s.order)] ∧
        bit (t.rd (Obj.OUT_COLOUR_STATUS (colourOutput addr.val))) 1 = true ∧ t.lutBanks = s.lutBanks ∧ s.sameMemory t) ∧
    (addr.val / 256 < 0x2E00 → addr.val % 256 = 3 → matrixBad v = true →
      exec (.colourShadowWrite rq addr v) s = .next (s.answer rq Status.colourValue))) ∧
  (∀ (s : State) (rq : Requester) (k : Fin 12), s.accepts rq (Obj.OUT_LUT3D_SWAP k.val) 1 →
    ((s.out k.val).swapAsked = none →
      ∃ t, exec (.outLut3dSwap rq k 1) s = .next t ∧ t.answered rq Status.ok ∧ (t.out k.val).swapAsked = some s.order ∧
        bit (t.rd (Obj.OUT_COLOUR_STATUS k.val)) 0 = true ∧ t.lutBanks = s.lutBanks) ∧
    ((s.out k.val).swapAsked.isSome = true → exec (.outLut3dSwap rq k 1) s = .next (s.answer rq Status.ok))))

/-! ## Output channels and composition (R137 to R142, R178 to R220) -/

/-- A commit that its submitter may make on a running output is pending there, last, with its SEQ and its place among acceptances, and its item stands until
it ends (R194, R195); on an output that does not run it is refused with OUTPUT_STOPPED, and by an instance without a position there with LAYER_NOT_GRANTED. -/
def Obligations.CommitsArePendingUntilTheLatch : Prop :=
  ∀ (s : State) (o : Owner) (q : Fin 16) (it : Item), s.offers o q 0x31 it → dfield it.desc 67 64 ≤ 11 →
    let k := dfield it.desc 67 64
    (s.mayCommit o.code k = false →
      ∃ t, exec (.commit o q) s = .next t ∧ t.recorded it Status.layerNotGranted 0 ∧ t.item? it.id = none ∧ t.outs = s.outs) ∧
    (s.mayCommit o.code k = true → s.pairOdd k = false → (s.out k).state.running = false →
      ∃ t, exec (.commit o q) s = .next t ∧ t.recorded it Status.outputStopped 0 ∧ t.item? it.id = none ∧ t.outs = s.outs) ∧
    (s.mayCommit o.code k = true → s.pairOdd k = false → (s.out k).state.running = true → (s.out k).state ≠ .glassHold →
      ∃ t c, exec (.commit o q) s = .next t ∧ (t.out k).pending = (s.out k).pending ++ [c] ∧ c.item = it.id ∧ c.owner = o.code ∧
        c.seq = dfield it.desc 127 96 ∧ c.order = s.order ∧ c.acceptedAt = s.clock.ticks ∧ t.order = s.order + 1 ∧ (t.item? it.id).isSome = true ∧
        (∀ j, j ≠ k → t.out j = s.out j) ∧ s.objectsBut t [] ∧ s.sameMemory t)

/-- At its latch point an output in its active lines enters blanking, and the latch mode written is in force from then on (R187, R199). Decisions in strict
commit mode are taken at the first decision line alone (R191, R199): a composition that is complete goes, and with none the output goes as a REPEAT frame and
counts it. Its frame then has v + 1 + V_SYNC + V_BP lines for a decision in line v (R186). Other lines decide nothing. -/
def Obligations.LatchPointsAndStrictDecisions : Prop :=
  (
  ∀ (s : State) (k : Fin 12), s.pairOdd k.val = false → (s.out k.val).phase = .activeLines →
    ∃ t, exec (.outputLatchPoint k) s = .next t ∧ (t.out k.val).phase = .blanking ∧ (t.out k.val).strict = decide (s.rd (Obj.OUT_LATCH_MODE k.val) = 1)) ∧
  (
  ∀ (s : State) (k : Fin 12) (line : Nat) (progress : List (Bool × Nat)), s.pairOdd k.val = false → (s.out k.val).phase = .blanking →
    (s.out k.val).strict = true →
    (line = s.firstDecision k.val → (s.out k.val).oldest = none →
      ∃ t, exec (.decisionPoint k line progress) s = .next t ∧ (t.out k.val).phase = .going false ∧
        (t.out k.val).frameLines = line + 1 + timVSync (s.timing k.val) + timVBp (s.timing k.val) ∧
        t.rd (Obj.OUT_REPEAT_COUNT k.val) = wrapAdd 32 (s.rd (Obj.OUT_REPEAT_COUNT k.val)) 1 ∧ s.sameMemory t) ∧
    (line = s.firstDecision k.val → ∀ c, (s.out k.val).oldest = some c → c.complete = true → c.toReel = false →
      ∃ t, exec (.decisionPoint k line progress) s = .next t ∧ (t.out k.val).phase = .going true ∧
        (t.out k.val).frameLines = line + 1 + timVSync (s.timing k.val) + timVBp (s.timing k.val) ∧
        t.rd (Obj.OUT_REPEAT_COUNT k.val) = s.rd (Obj.OUT_REPEAT_COUNT k.val) ∧ s.sameMemory t) ∧
    (line ≠ s.firstDecision k.val → exec (.decisionPoint k line progress) s = .next s))

/-- A frame start after a go (R113, R191, R203, R204): the frame counter is 0 in the first frame and one more in every other; a composition that is complete
is shown from then on, and a REPEAT shows none. The raster is in its active lines. A raster that has not gone does not start a frame. After the last active
line of the entry frame an output without pending commits stops its raster in GLASS_HOLD (R211, R218). -/
def Obligations.FramesStartShowAndStop : Prop :=
  (
  ∀ (s : State) (k : Fin 12), s.paired k.val = false →
    ((s.out k.val).phase = .going false →
      ∃ t, exec (.frameStart k) s = .next t ∧ (t.out k.val).phase = .activeLines ∧ (t.out k.val).showing = none ∧
        t.rd (Obj.OUT_FRAME_COUNT k.val) = (if (s.out k.val).startedFrames = 0 then 0 else wrapAdd 32 (s.rd (Obj.OUT_FRAME_COUNT k.val)) 1)) ∧
    ((s.out k.val).phase = .going true → ∀ c, (s.out k.val).oldest = some c → c.complete = true →
      ∃ t, exec (.frameStart k) s = .next t ∧ (t.out k.val).phase = .activeLines ∧ (t.out k.val).showing = some { c with shown := true } ∧
        (t.out k.val).front = c.buffer ∧ (t.out k.val).consecutiveRepeats = 0 ∧
        t.rd (Obj.OUT_FRAME_COUNT k.val) = (if (s.out k.val).startedFrames = 0 then 0 else wrapAdd 32 (s.rd (Obj.OUT_FRAME_COUNT k.val)) 1)) ∧
    ((∀ b, (s.out k.val).phase ≠ .going b) → exec (.frameStart k) s = .next s)) ∧
  (
  ∀ (s : State) (k : Fin 12), s.paired k.val = false → (s.out k.val).state = .holdEntry → (s.out k.val).phase = .activeLines → (s.out k.val).pending = [] →
    ∃ t, exec (.holdEnter k) s = .next t ∧ (t.out k.val).state = .glassHold ∧ (t.out k.val).phase = .stopped ∧
      t.rd (Obj.OUT_STATE k.val) = OutState.code .glassHold)

/-- Matte engines (R137, R142): the end of a part records its time and estimate, and the last part of a composition completes it; a fault of an idle engine
makes it FAILED and takes it out of service, and one that composes is FAILED too. An engine with no work ends none. -/
def Obligations.EnginesFinishAndFail : Prop :=
  (∀ (s : State) (e : Fin 12) (ns k : Nat) (c : Composition), s.workOf e.val = some (k, c) → c.shown = false →
    (∀ p ∈ c.parts, p.engine = some e.val ∨ p.done = true) → c ∈ (s.out k).comps → (s.out k).splitEnding = false →
    ∃ t, exec (.compositionComplete e ns) s = .next t ∧ t.rd (Obj.ME_LAST_TIME e.val) = ns ∧
      (∃ d ∈ (t.out k).comps, d.id = c.id ∧ d.complete = true) ∧ s.sameMemory t) ∧
  (∀ (s : State) (e : Fin 12) (ns : Nat), s.workOf e.val = none → exec (.compositionComplete e ns) s = .next s) ∧
  (∀ (s : State) (e : Fin 12), (s.workOf e.val = none →
      ∃ t, exec (.engineFault e) s = .next t ∧ t.rd (Obj.ME_STATE e.val) = 3 ∧ t.rd (Obj.ME_TARGET e.val) = 0xFF ∧
        (t.unit (unitMe e.val)).health = .failed ∧ s.objectsBut t [Obj.ME_STATE e.val, Obj.ME_TARGET e.val] ∧ s.sameMemory t) ∧
    (∃ t, exec (.engineFault e) s = .next t ∧ (t.unit (unitMe e.val)).health = .failed))

/-- Writes of output objects by a requester that may: STRICT is taken from any and NORMAL from Gaffer alone, while no Bittern restart and no Dailies slice
holds STRICT (R201); pairs lock and unlock while the outputs concerned do not run (R206); an output that has no intent is enabled without more, and one that
is OFF is disabled without more (R217). Each answers OK and changes the objects named; a refusal changes nothing. Routing (R223, R224): a stopped output takes
a port that no other output holds and where nothing is attached, or none at all; a running one answers PORT_BUSY and a port held elsewhere ROUTE_CONFLICT, and
nothing changes. -/
def Obligations.OutputWritesAndRouting : Prop :=
  (
  (∀ (s : State) (rq : Requester) (k : Fin 12) (v : Fin 256), s.accepts rq (Obj.OUT_LATCH_MODE k.val) v.val → s.paired k.val = false →
    (v.val ≠ 0 ∨ (rq = .gaffer ∧ bit s.boot.strictHolds 1 = false ∧ bit s.boot.strictHolds 2 = false) →
      ∃ t, exec (.outLatchModeWrite rq k v) s = .next t ∧ t.rd (Obj.OUT_LATCH_MODE k.val) = v.val ∧ t.answered rq Status.ok ∧
        s.objectsBut t [Obj.OUT_LATCH_MODE k.val] ∧ t.apart = s.apart) ∧
    (v.val = 0 → rq ≠ .gaffer → exec (.outLatchModeWrite rq k v) s = .next (s.answer rq Status.intentInvalid)) ∧
    (v.val = 0 → rq = .gaffer → bit s.boot.strictHolds 1 = true ∨ bit s.boot.strictHolds 2 = true →
      exec (.outLatchModeWrite rq k v) s = .next (s.answer rq Status.strictHeld))) ∧
  (∀ (s : State) (rq : Requester) (v : BitVec 32), s.accepts rq Obj.OUT_PAIR_LOCK v.toNat →
    ((∀ n < 6, (s.out (2 * n)).state.running = false ∧ (s.out (2 * n + 1)).state.running = false ∧ (s.out (2 * n + 1)).intent = none ∧
        s.pairWatched n = false) →
      ∃ t, exec (.outPairLockWrite rq v) s = .next t ∧ t.rd Obj.OUT_PAIR_LOCK = s.merged Obj.OUT_PAIR_LOCK v.toNat ∧ t.answered rq Status.ok ∧
        t.apart = s.apart) ∧
    (∀ n < 6, bit (s.merged Obj.OUT_PAIR_LOCK v.toNat) n ≠ bit (s.rd Obj.OUT_PAIR_LOCK) n → (s.out (2 * n)).state.running = true →
      exec (.outPairLockWrite rq v) s = .next (s.answer rq Status.ldpStoppedOnly))) ∧
  (∀ (s : State) (rq : Requester) (k : Fin 12), (s.accepts rq (Obj.OUT_ENABLE k.val) 1 → s.rd (Obj.OUT_ENABLE k.val) = 0 →
      (s.out (s.governor k.val)).intent = none →
      ∃ t, exec (.outEnableWrite rq k 1) s = .next t ∧ t.rd (Obj.OUT_ENABLE k.val) = 1 ∧ t.answered rq Status.ok ∧ s.objectsBut t [Obj.OUT_ENABLE k.val] ∧
        t.apart = s.apart) ∧
    (s.accepts rq (Obj.OUT_ENABLE k.val) 0 → s.rd (Obj.OUT_ENABLE k.val) ≠ 0 → (s.out k.val).state = .off →
      ∃ t, exec (.outEnableWrite rq k 0) s = .next t ∧ t.rd (Obj.OUT_ENABLE k.val) = 0 ∧ t.answered rq Status.ok ∧ s.objectsBut t [Obj.OUT_ENABLE k.val] ∧
        t.apart = s.apart))) ∧
  (
  ∀ (s : State) (rq : Requester) (k : Fin 12) (v : Fin 256), s.accepts rq (Obj.OUT_PORT k.val) v.val →
    ((s.out k.val).state.running = true → exec (.outPortWrite rq k v) s = .next (s.answer rq Status.portBusy)) ∧
    ((s.out k.val).state.running = false → v.val < 14 → (∃ j < 12, j ≠ k.val ∧ s.rd (Obj.OUT_PORT j) = v.val) →
      exec (.outPortWrite rq k v) s = .next (s.answer rq Status.routeConflict)) ∧
    ((s.out k.val).state.running = false → v.val = 0xFF ∨ (v.val < 14 ∧ (∀ j < 12, j ≠ k.val → s.rd (Obj.OUT_PORT j) ≠ v.val) ∧ s.attached v.val = false) →
      ∃ t, exec (.outPortWrite rq k v) s = .next t ∧ t.rd (Obj.OUT_PORT k.val) = v.val ∧ t.answered rq Status.ok ∧ t.outs = s.outs ∧ s.sameMemory t))

/-! ## Display ports (R221 to R236) -/

/-- Attach levels (R214 to R216): an edge is debounced while the level differs from the state; a level that has stayed low makes an ACTIVE output
UNPLUG_DEBOUNCE, which runs on; a debounced unplug detaches the port, and a running output waits for a plug; a debounced plug attaches it with what its sink
reports. A sink's interrupt on an attached DisplayPort or eDP port is read and recorded (R230); with a loss of lock a running output's link is lost. -/
def Obligations.AttachLevelsAndSinkInterrupts : Prop :=
  (
  ∀ (s : State) (p : Fin 14),
    (∀ level, s.outputOf p.val = none →
      ∃ t, exec (.attachEdge p level) s = .next t ∧ (t.port p.val).level = level ∧ (t.port p.val).debouncing = (t.attachLevel p.val != s.attached p.val) ∧
        (∀ j, j ≠ p.val → t.port j = s.port j) ∧ { t with ports := s.ports } = s) ∧
    (∀ k, s.attached p.val = true → s.attachLevel p.val = false → s.outputOf p.val = some k → (s.out k).state = .active → s.paired k = false →
      ∃ t, exec (.unplugDebounce p) s = .next t ∧ (t.out k).state = .unplugDebounce ∧ (t.out k).before = .active ∧ (t.out k).phase = (s.out k).phase ∧
        t.attached p.val = true ∧ (∀ j, j ≠ k → t.out j = s.out j) ∧ s.sameMemory t) ∧
    (s.attached p.val = true → s.attachLevel p.val = false → s.outputOf p.val = none →
      ∃ t, exec (.hotplugOut p) s = .next t ∧ t.attached p.val = false ∧ (t.port p.val).debouncing = false ∧ t.outs = s.outs ∧ s.sameMemory t) ∧
    (∀ k, s.attached p.val = true → s.attachLevel p.val = false → s.outputOf p.val = some k → (s.out k).state.running = true → s.paired k = false →
      ∃ t, exec (.hotplugOut p) s = .next t ∧ t.attached p.val = false ∧ (t.out k).state = .waitPlug ∧ (t.out k).phase = .stopped) ∧
    (∀ sink, s.attached p.val = false → s.attachLevel p.val = true → s.outputOf p.val = none →
      ∃ t, exec (.hotplugIn p sink) s = .next t ∧ t.attached p.val = true ∧ (t.port p.val).sink = sink ∧ t.outs = s.outs ∧ s.sameMemory t)) ∧
  (
  ∀ (s : State) (p : Fin 14) (v : Fin 256) (e : Bool), s.isDp p.val = true → s.attached p.val = true →
    ∃ t, exec (.sinkIrq p v false e) s = .next t ∧ IoEvent.port p.val pcIrqRead ∈ t.io ∧ t.apart = s.apart ∧ s.objectsBut t [Obj.LOG_LOST] ∧
      (s.log.fifo.length < 256 → t.told Ev.sinkIrq noOwner [d8 p.val, d8 v.val]))

/-- Link training (R233 to R236): a failed candidate is counted and the next one tried, until the list is exhausted; a candidate that succeeds is the link in
force; an exhausted list is run again; the loss of a running output's link retrains from the lost configuration down; PORT_RETRAIN trains from the top. -/
def Obligations.LinkTraining : Prop :=
  ∀ (s : State) (p : Fin 14),
    (∀ (ph : Fin 7) c rest, s.ps p.val psTraining = true → s.portKind p.val ≠ 2 → s.portKind p.val ≠ 3 → (s.port p.val).candidates = c :: rest →
      ∃ t, exec (.trainFail p ph) s = .next t ∧ t.rd (Obj.PORT_TRAIN_FAILS p.val) = wrapAdd 32 (s.rd (Obj.PORT_TRAIN_FAILS p.val)) 1 ∧
        (t.port p.val).candidates = rest ∧ t.ps p.val psTraining = decide (rest ≠ []) ∧ (rest = [] → t.ps p.val psExhausted = true) ∧
        t.outs = s.outs ∧ s.sameMemory t) ∧
    (∀ c rest, s.ps p.val psTraining = true → (s.port p.val).candidates = c :: rest → s.outputOf p.val = none →
      ∃ t, exec (.linkUp p) s = .next t ∧ t.ps p.val psLinkUp = true ∧ t.ps p.val psTraining = false ∧ (t.port p.val).link = some c ∧
        t.outs = s.outs ∧ s.sameMemory t) ∧
    (∀ k, s.ps p.val psTraining = false → s.ps p.val psLinkUp = false → (s.port p.val).rerun ≠ [] → s.outputOf p.val = some k →
      s.candidates p.val (s.timing k) ≠ [] →
      ∃ t, exec (.trainRetry p) s = .next t ∧ t.ps p.val psTraining = true ∧ (t.port p.val).candidates ≠ [] ∧
        (∀ c ∈ (t.port p.val).candidates, c ∈ s.candidates p.val (s.timing k)) ∧ t.outs = s.outs ∧ s.sameMemory t) ∧
    (∀ k c, s.outputOf p.val = some k → (s.port p.val).link = some c → s.ps p.val psLinkUp = true → s.portKind p.val ≠ 2 → s.portKind p.val ≠ 3 →
      (s.out k).state.running = true → (s.out k).state ≠ .glassHold →
      ∃ t, exec (.linkLost p) s = .next t ∧ t.ps p.val psLost = true ∧ t.ps p.val psLinkUp = false ∧ t.ps p.val psTraining = true ∧
        (t.port p.val).candidates.head? = some c ∧ t.outs = s.outs ∧ s.sameMemory t) ∧
    (∀ k (rq : Requester), s.accepts rq (Obj.PORT_RETRAIN p.val) 1 → s.outputOf p.val = some k → (s.out k).state.running = true →
      s.ps p.val psMismatch = false → (s.out k).state ≠ .glassHold →
      ∃ t, exec (.portRetrain rq p 1) s = .next t ∧ t.answered rq Status.ok ∧ (t.port p.val).candidates = s.candidates p.val (s.timing k) ∧
        t.ps p.val psTraining = decide (s.candidates p.val (s.timing k) ≠ []) ∧ t.outs = s.outs ∧ s.sameMemory t)

/-! ## Instances, queues and descriptors (R300 to R332) -/

/-- R317: a write of 0 to Qq.CONTROL.ENABLE stops fetching from that queue; descriptors already fetched run on; Qq.HEAD and the tail keep their values; and a
later write of 1 resumes fetching from Qq.HEAD. -/
def Obligations.QueueDisableAndResume : Prop :=
  ∀ (s : State) (w : Window) (q : Fin 16) (l : Fin 16), s.windowLive w.code = true → ((s.inst w.code).queue q.val).sizeLog2 = l.val →
    (∃ t, exec (.queueDisable w q l) s = .next t ∧ t.mayFetch w.code q.val = false ∧ t.items = s.items ∧
      ((t.inst w.code).queue q.val).head = ((s.inst w.code).queue q.val).head ∧
      ((t.inst w.code).queue q.val).tail = ((s.inst w.code).queue q.val).tail ∧
      (∀ n, n ≠ q.val → (t.inst w.code).queue n = (s.inst w.code).queue n) ∧ (∀ n, n ≠ w.code → t.inst n = s.inst n) ∧ { t with insts := s.insts } = s) ∧
    (∃ t, exec (.queueEnable w q l) s = .next t ∧ ((t.inst w.code).queue q.val).enable = true ∧
      ((t.inst w.code).queue q.val).head = ((s.inst w.code).queue q.val).head ∧
      ((t.inst w.code).queue q.val).tail = ((s.inst w.code).queue q.val).tail ∧
      ((s.inst w.code).state = .active → ((s.inst w.code).queue q.val).head ≠ ((s.inst w.code).queue q.val).tail → s.crStall w.code = false →
        t.mayFetch w.code q.val = true) ∧ { t with insts := s.insts } = s)

/-- A doorbell write moves the tail of an enabled queue when the ring holds what it offers (R315, R316): never past the queue's size, and never while a reset
runs. Every other write sets its bit of DB_RESPONSE and moves nothing. Slots for a queue (R42, R48, R49, R325): a request that is granted and within its quota
arms the lowest free slot of Gaffer's, whose number its record holds; an instance that holds four answers SLOT_QUOTA. A cancel of an own slot disarms it; of
another's, it answers NOT_GRANTED. -/
def Obligations.DoorbellsAndSlotRequests : Prop :=
  (
  ∀ (s : State) (w : Window) (q : Fin 16) (n : BitVec 32), s.windowLive w.code = true →
    let v := (s.inst w.code).queue q.val
    (s.resetting w.code = false → v.enable = true → wrapAdd 32 n.toNat (2 ^ 32 - v.tail) < 2 ^ 31 → wrapAdd 32 n.toNat (2 ^ 32 - v.head) ≤ 2 ^ v.sizeLog2 →
      wrapAdd 32 n.toNat (2 ^ 32 - v.tail) ≤ 2 ^ v.sizeLog2 →
      ∃ t, exec (.queueDoorbell w q n) s = .next t ∧ (t.inst w.code).queue q.val = { v with tail := n.toNat } ∧ { t with insts := s.insts } = s) ∧
    (s.resetting w.code = true →
      ∃ t, exec (.queueDoorbell w q n) s = .next t ∧ (t.inst w.code).queue q.val = { v with sticky := v.sticky ||| 4 } ∧ { t with insts := s.insts } = s) ∧
    (s.resetting w.code = false → v.enable = false →
      ∃ t, exec (.queueDoorbell w q n) s = .next t ∧ (t.inst w.code).queue q.val = { v with sticky := v.sticky ||| 8 } ∧ { t with insts := s.insts } = s)) ∧
  (
  (∀ (s : State) (o : Owner) (q : Fin 16) (it : Item) (n : Nat), s.offers o q 0x03 it → dbit it.desc 146 = false → s.freeSlot = some n →
    (o.code < 64 → s.slotsArmedFor o.code < 4 ∧ bit (s.rd (Obj.INST_DB_GRANT o.code)) (dfield it.desc 131 128) = true) →
    ((s.startItem it.id).armFor n o.code 7 (dfield it.desc 140 136 + 256 * dfield it.desc 131 128) (dfield it.desc 127 64)
      (1 + 2 * ofBool (dbit it.desc 145) + 4 * ofBool (dbit it.desc 144))).1 = Status.ok →
    ∃ t, exec (.slotRequest o q) s = .next t ∧ t.recorded it Status.ok n ∧ t.item? it.id = none ∧ t.armed n = true ∧
      t.rd (Obj.SLOT_OWNER n) = o.code ∧ t.rd (Obj.SLOT_ACTION n) = 7 ∧ t.rd (Obj.SLOT_POSITION n) = dfield it.desc 127 64 ∧
      s.objectsBut t [Obj.SLOT_POSITION n, Obj.SLOT_ACTION n, Obj.SLOT_ARG n, Obj.SLOT_OWNER n, Obj.SLOT_CONTROL n, Obj.SLOT_STATE n, Obj.LOG_LOST]) ∧
  (∀ (s : State) (i : Fin 64) (q : Fin 16) (it : Item), s.offers (.guest i) q 0x03 it → dbit it.desc 146 = false → 4 ≤ s.slotsArmedFor i.val →
    ∃ t, exec (.slotRequest (.guest i) q) s = .next t ∧ t.recorded it Status.slotQuota 0 ∧ t.item? it.id = none ∧ s.objectsBut t [Obj.LOG_LOST]) ∧
  (∀ (s : State) (o : Owner) (q : Fin 16) (it : Item), s.offers o q 0x03 it → dbit it.desc 146 = true →
    let n := dfield it.desc 159 152
    (s.rd (Obj.SLOT_OWNER n) = o.code → s.armed n = true →
      ∃ t, exec (.slotRequestCancel o q) s = .next t ∧ t.recorded it Status.ok 0 ∧ t.item? it.id = none ∧ t.armed n = false ∧
        t.rd (Obj.SLOT_STATE n) = slotIdle) ∧
    (s.rd (Obj.SLOT_OWNER n) ≠ o.code →
      ∃ t, exec (.slotRequestCancel o q) s = .next t ∧ t.recorded it Status.notGranted 0 ∧ t.item? it.id = none ∧ s.objectsBut t [Obj.LOG_LOST])))

/-- A fetch takes the next descriptor as an item of its own and moves HEAD by one (R307); a malformed header completes it at once with DESC_INVALID (R308); a
queue that may not fetch takes nothing (R312, R317). NOP completes with OK. A fence stands until what is before it in its queue has completed, then rings and
completes with OK (R310). No object but LOG_LOST and no byte of memory changes. -/
def Obligations.FetchesNopsAndFences : Prop :=
  (∀ (s : State) (o : Owner) (q : Fin 16) (d : BitVec 512), s.mayFetch o.code q.val = true → headerInvalid d = false → s.item? s.nextItem = none →
    ∃ t, exec (.queueFetch o q d) s = .next t ∧ t.items = s.items ++ [{ id := s.nextItem, owner := o.code, queue := q.val, desc := d }] ∧
      t.nextItem = s.nextItem + 1 ∧
      (hasWindow o.code = true → ((t.inst o.code).queue q.val).head = wrapAdd 32 ((s.inst o.code).queue q.val).head 1) ∧
      s.objectsBut t [Obj.LOG_LOST] ∧ s.sameMemory t) ∧
  (∀ (s : State) (o : Owner) (q : Fin 16) (d : BitVec 512), s.mayFetch o.code q.val = true → headerInvalid d = true → s.item? s.nextItem = none →
    (s.inst o.code).busOff = false →
    ∃ t, exec (.queueFetch o q d) s = .next t ∧ t.item? s.nextItem = none ∧
      t.recorded { id := s.nextItem, owner := o.code, queue := q.val, desc := d } Status.descInvalid 0 ∧ s.sameMemory t) ∧
  (∀ (s : State) (o : Owner) (q : Fin 16) (d : BitVec 512), s.mayFetch o.code q.val = false → exec (.queueFetch o q d) s = .next s) ∧
  (∀ (s : State) (o : Owner) (q : Fin 16) (it : Item), s.offers o q 0x01 it →
    ∃ t, exec (.nop o q) s = .next t ∧ t.recorded it Status.ok 0 ∧ t.item? it.id = none ∧ s.objectsBut t [Obj.LOG_LOST] ∧ s.sameMemory t) ∧
  (∀ (s : State) (o : Owner) (q : Fin 16) (it : Item), s.offers o q 0x02 it →
    (dbit it.desc 64 = false ∨ 64 ≤ o.code ∨ bit (s.rd (Obj.INST_DB_GRANT o.code)) (dfield it.desc 71 68) = true →
      ∃ t, exec (.fence o q) s = .next t ∧ t = s.startItem it.id) ∧
    (dbit it.desc 64 = true → o.code < 64 → bit (s.rd (Obj.INST_DB_GRANT o.code)) (dfield it.desc 71 68) = false →
      ∃ t, exec (.fence o q) s = .next t ∧ t.recorded it Status.notGranted 0 ∧ t.item? it.id = none)) ∧
  (∀ (s : State) (o : Owner) (q : Fin 16) (it : Item), (s.items.filter (fun i => decide (i.owner = o.code) && decide (i.queue = q.val))).head? = some it →
    s.item? it.id = some it → it.started = true → dType it.desc = 0x02 → it.injected = false → (s.inst o.code).busOff = false →
    (dbit it.desc 64 = false →
      ∃ t, exec (.fenceComplete o q) s = .next t ∧ t.recorded it Status.ok 0 ∧ t.item? it.id = none ∧ s.objectsBut t [Obj.LOG_LOST] ∧ s.sameMemory t) ∧
    (dbit it.desc 64 = true → (s.ring (dfield it.desc 71 68) (2 ^ dfield it.desc 76 72)).1 = Status.ok →
      s.receiverUp (dfield it.desc 71 68) = true →
      ∃ t, exec (.fenceComplete o q) s = .next t ∧ t.recorded it Status.ok 0 ∧ t.item? it.id = none ∧
        (t.mailbox (dfield it.desc 71 68)).pend = (s.mailbox (dfield it.desc 71 68)).pend ||| 2 ^ dfield it.desc 76 72))

/-- DMA (R311): a transfer within an owned surface that nothing holds back begins, and changes no byte; one outside the surface fails with LAYER_SOURCE. A
transfer to host memory that ends well completes with OK and changes no byte of device memory; one that the host refuses fails with DMA_FAULT and the page. -/
def Obligations.DmaTransfers : Prop :=
  (∀ (s : State) (o : Owner) (q : Fin 16) (it : Item), s.offers o q 0x08 it →
    let n := dfield it.desc 95 80
    (s.ownsSurface o.code n = true → 0 < dfield it.desc 223 192 → dfield it.desc 223 192 ≤ 268435456 →
      dfield it.desc 191 160 + dfield it.desc 223 192 ≤ (s.surf n).bytes → s.releasing n = false → (s.inst o.code).suspended = false →
      (∀ x ∈ s.dmaWaiting, (s.inst x).dmaBalance ≤ (s.inst o.code).dmaBalance) →
      ∃ t, exec (.dmaCopy o q) s = .next t ∧ t.item? it.id = (s.item? it.id).map (fun i => { i with started := true }) ∧ s.sameMemory t) ∧
    (s.ownsSurface o.code n = false →
      ∃ t, exec (.dmaCopy o q) s = .next t ∧ t.recorded it Status.layerSource 0 ∧ t.item? it.id = none ∧ s.sameMemory t)) ∧
  (∀ (s : State) (it : Item) (ns off : Nat), s.item? it.id = some it → it.started = true → dType it.desc = 0x08 → it.injected = false →
    (s.inst it.owner).busOff = false → (s.inst it.owner).state ≠ .teardown → s.rd Obj.INJ_ENABLE ≠ 1 →
    (dbit it.desc 64 = true → s.ownsSurface it.owner (dfield it.desc 95 80) = true →
      s.rangePoisoned (dfield it.desc 95 80) (dfield it.desc 191 160) (dfield it.desc 223 192) = false →
      ∃ t, exec (.dmaComplete it.id .done [] ns) s = .next t ∧ t.recorded it Status.ok 0 ∧ t.item? it.id = none ∧ s.sameMemory t) ∧
    (∃ t, exec (.dmaComplete it.id (.hostFault off) [] ns) s = .next t ∧ t.recorded it Status.dmaFault (off / 4096) ∧ t.item? it.id = none))

/-- INST_CREATE (R301 to R303): from the manager, with a key, a number, quota, a free PASID and room, it creates the lowest free instance, ACTIVE with the
share asked and a fresh key of its own, whose number its record holds; from another owner it answers NOT_MANAGER. Resets and removals of instances (R329 to
R332): the manager's control item, a write of INST_CONTROL.RESET and a Function Level Reset each begin with the drain; the drain ends in TEARDOWN; and once
nothing of the instance is left it is ACTIVE again with RESET_DONE and no queue enabled, or gone. -/
def Obligations.InstancesAreMadeAndReset : Prop :=
  (
  (∀ (s : State) (q : Fin 16) (it : Item) (k i : Nat), s.offers .manager q 0x10 it → s.bitternDown = false →
    0 < dfield it.desc 105 96 → dfield it.desc 105 96 ≤ 1000 → s.freeKeySlot = some k →
    ((List.range 64).find? (fun i => decide ((s.inst i).state = .free))) = some i →
    (s.boundTo (dfield it.desc 65 64)).length < s.rd (Obj.PORT_INST_QUOTA (dfield it.desc 65 64)) →
    s.pasidUsed (dfield it.desc 65 64) (dfield it.desc 87 68) = false → ((s.startItem it.id).placeContext i).isSome →
    ∃ t, exec (.instCreate .manager q) s = .next t ∧ t.recorded it Status.ok i ∧ t.item? it.id = none ∧ (t.inst i).state = .active ∧
      (t.inst i).port = dfield it.desc 65 64 ∧ (t.inst i).pasid = dfield it.desc 87 68 ∧ t.rd (Obj.INST_SHARE i) = dfield it.desc 105 96 ∧
      t.keySlot k = ⟨i, 1, wrapAdd 16 (s.keySlot k).generation 1⟩ ∧ (∀ j, j ≠ k → t.keySlot j = s.keySlot j) ∧ s.sameMemory t) ∧
  (∀ (s : State) (o : Owner) (q : Fin 16) (it : Item), o ≠ .manager → s.offers o q 0x10 it → s.bitternDown = false →
    ∃ t, exec (.instCreate o q) s = .next t ∧ t.recorded it Status.notManager 0 ∧ t.item? it.id = none ∧ t.keys = s.keys ∧ s.sameMemory t)) ∧
  (
  (∀ (s : State) (q : Fin 16) (it : Item), s.offers .manager q 0x11 it → controlTarget it.desc < 64 → (s.inst (controlTarget it.desc)).state = .active →
    (dbit it.desc 72 = false →
      ∃ t, exec (.instControlOpReset .manager q) s = .next t ∧ (t.inst (controlTarget it.desc)).state = .draining ∧
        (t.inst (controlTarget it.desc)).removing = false ∧ (t.inst (controlTarget it.desc)).asker = some it.id) ∧
    (dbit it.desc 72 = true →
      ∃ t, exec (.instControlOpRemove .manager q) s = .next t ∧ (t.inst (controlTarget it.desc)).state = .draining ∧
        (t.inst (controlTarget it.desc)).removing = true ∧ (t.inst (controlTarget it.desc)).asker = some it.id)) ∧
  (∀ (s : State) (w : Window), s.windowLive w.code = true → s.resetting w.code = false →
    ∃ t, exec (.instControlReset w) s = .next t ∧ (t.inst w.code).state = .draining ∧ (t.inst w.code).removing = false) ∧
  (∀ (s : State) (hp : Fin 4) (b : Bool) (i : Nat), i ∈ s.boundTo hp.val → s.resetting i = false →
    ∃ t, exec (.functionLevelReset hp b) s = .next t ∧ (t.inst i).state = .draining ∧ (t.inst i).removing = true ∧ (t.inst i).busOff = !b) ∧
  (∀ (s : State) (w : Window), (s.inst w.code).state = .draining → (s.inst w.code).drainUntil ≤ s.dtime ∨ s.itemsOf w.code = [] →
    ∃ t, exec (.drainEnd w) s = .next t ∧ (t.inst w.code).state = .teardown) ∧
  (∀ (s : State) (w : Window), (s.inst w.code).state = .teardown → s.itemsOf w.code = [] → (s.inst w.code).awaitFlip = [] →
    (s.grip.surfaces.any (fun e => decide (e.2.owner = w.code) && s.referred e.1)) = false → s.bitternDown = false → (s.inst w.code).asker = none →
    ((s.inst w.code).removing = false →
      ∃ t, exec (.resetDone w) s = .next t ∧ (t.inst w.code).state = .active ∧ (t.inst w.code).resetDone = true ∧
        (∀ e ∈ (t.inst w.code).queues, e.2.enable = false)) ∧
    ((s.inst w.code).removing = true →
      ∃ t, exec (.resetDone w) s = .next t ∧ (t.inst w.code).state = .free)))

/-- Layer grants within the quota and held by no other instance are taken as written (R323, R324), others are refused with QUOTA_EXCEEDED; positions that stay
granted stay as they are in the shadow. Dirty logs (R328): a swap is taken while SWAP_DONE is 1; at the cut-over the buffers exchange roles, with the position
and time recorded and SWAP_DONE 0; when every bit is in host memory SWAP_DONE is 1 and the old buffer's marks are gone. Nothing but the instance's log
changes. -/
def Obligations.LayerGrantsAndDirtyLogs : Prop :=
  (
  ∀ (s : State) (rq : Requester) (i : Fin 64) (v : Nat), s.accepts rq (Obj.INST_LAYER_GRANTS i.val) v →
    let taken := (grantList v).any (fun p => (List.range 64).any (fun j => !decide (j = i.val) && bit (s.rd (Obj.INST_LAYER_GRANTS j)) (16 * p.1 + p.2)))
    ((grantList v).length ≤ s.rd (Obj.INST_LAYER_QUOTA i.val) → taken = false →
      (∀ p ∈ grantList (s.rd (Obj.INST_LAYER_GRANTS i.val)), p ∈ grantList v) →
      ∃ t, exec (.instLayerGrantsWrite rq i v) s = .next t ∧ t.answered rq Status.ok ∧
        t.rd (Obj.INST_LAYER_GRANTS i.val) = sumNat ((grantList v).map (fun p => 2 ^ (16 * p.1 + p.2))) ∧
        s.objectsBut t [Obj.INST_LAYER_GRANTS i.val] ∧ t.apart = s.apart) ∧
    (s.rd (Obj.INST_LAYER_QUOTA i.val) < (grantList v).length ∨ taken = true →
      exec (.instLayerGrantsWrite rq i v) s = .next (s.answer rq Status.quotaExceeded))) ∧
  (
  ∀ (s : State) (i : Fin 64),
    (((s.inst i.val).dirty.swapDone = true → (s.inst i.val).state ≠ .free →
      ∃ t, exec (.dirtySwap i) s = .next t ∧ (t.inst i.val).dirty = { (s.inst i.val).dirty with swapAsked := true } ∧
        (∀ n, n ≠ i.val → t.inst n = s.inst n) ∧ { t with insts := s.insts } = s) ∧
    ((s.inst i.val).dirty.swapAsked = true →
      ∃ t, exec (.dirtyCutover i) s = .next t ∧ (t.inst i.val).dirty = { (s.inst i.val).dirty with
          swapAsked := false, swapDone := false, activeBuf := !(s.inst i.val).dirty.activeBuf, cutover := s.now, cutoverTime := s.dtime } ∧
        (∀ n, n ≠ i.val → t.inst n = s.inst n) ∧ { t with insts := s.insts } = s) ∧
    ((s.inst i.val).dirty.swapDone = false →
      ∃ t, exec (.dirtySwapDone i) s = .next t ∧ (t.inst i.val).dirty.swapDone = true ∧
        ((s.inst i.val).dirty.activeBuf = true → (t.inst i.val).dirty.marked0 = [] ∧ (t.inst i.val).dirty.marked1 = (s.inst i.val).dirty.marked1) ∧
        ((s.inst i.val).dirty.activeBuf = false → (t.inst i.val).dirty.marked1 = [] ∧ (t.inst i.val).dirty.marked0 = (s.inst i.val).dirty.marked0) ∧
        (∀ n, n ≠ i.val → t.inst n = s.inst n) ∧ { t with insts := s.insts } = s)))

/-! ## The Raster Array (R254 to R299, R318 to R338) -/

/-- Jobs are taken, released and end (R255, R257 to R264, R267, R268, R318, R320): a job that passes its checks waits for its release, and one that fails them
ends with its status before any work begins; a release makes the chosen job resident, next in the order of releases, and a compute job's workgroups enter the
shared queue, 64 to a work item; a job with nothing left completes with OK or with the highest note that applies; a timeout ends a resident job with
JOB_TIMEOUT. -/
def Obligations.JobsAreTakenReleasedAndEnd : Prop :=
  (∀ (s : State) (o : Owner) (q : Fin 16) (it : Item), s.offers o q 0x40 it →
    (s.renderBad o.code it.desc = false →
      ∃ t, exec (.renderJob o q) s = .next t ∧ t = (s.startItem it.id).queueJob it ∧ t.jobs.length = s.jobs.length + 1) ∧
    (s.renderBad o.code it.desc = true →
      ∃ t, exec (.renderJob o q) s = .next t ∧ t.recorded it Status.jobInvalid 0xFFFF ∧ t.item? it.id = none ∧ t.jobs = s.jobs ∧ s.sameMemory t)) ∧
  (∀ (s : State) (o : Owner) (q : Fin 16) (it : Item), s.offers o q 0x41 it →
    (s.computeStatus o.code it.desc = Status.ok →
      ∃ t, exec (.computeJob o q) s = .next t ∧ t = (s.startItem it.id).queueJob it ∧ t.jobs.length = s.jobs.length + 1) ∧
    (s.computeStatus o.code it.desc ≠ Status.ok →
      ∃ t, exec (.computeJob o q) s = .next t ∧ t.recorded it (s.computeStatus o.code it.desc) 0xFFFF ∧ t.item? it.id = none ∧ t.jobs = s.jobs ∧
        s.sameMemory t)) ∧
  (∀ (s : State) (j : Job), s.nextJob = some j → s.rd Obj.INJ_ENABLE ≠ 1 →
    (dType (s.descOf j.item) = 0x40 →
      ∃ t, exec .jobRelease s = .next t ∧ t.raster.releases = s.raster.releases + 1 ∧ s.sameMemory t ∧
        ∃ x ∈ t.jobs, x.item = j.item ∧ x.owner = j.owner ∧ x.resident = true ∧ x.released = s.raster.releases) ∧
    (dType (s.descOf j.item) = 0x41 → groupsBad (s.groups (s.descOf j.item)) = false → ∀ p, s.pipeline? j.owner (dfield (s.descOf j.item) 207 192) = some p →
      ∃ t, exec .jobRelease s = .next t ∧ t.raster.releases = s.raster.releases + 1 ∧ s.sameMemory t ∧
        (∃ x ∈ t.jobs, x.item = j.item ∧ x.owner = j.owner ∧ x.resident = true ∧ x.released = s.raster.releases ∧
          x.left = divUp ((s.groups (s.descOf j.item)).foldl (fun a n => a * n) 1) 64) ∧
        (∀ w ∈ computeItems j.item (s.groups (s.descOf j.item)) p.shared, w ∈ t.raster.work))) ∧
  (∀ (s : State) (j : Nat) (x : Job) (it : Item), s.job? j = some x → s.item? j = some it → it.injected = false → (s.inst it.owner).busOff = false →
    x.resident = true →
    (x.inPass = false → x.left = 0 → x.binned = true ∨ dType it.desc = 0x41 →
      let late := match s.dueAt x with | some p => p.earlier s.now | none => false
      let n := if x.robust then Status.robustAccess else if late then Status.deadlineMissed else if x.passes = 0 then 0 else Status.pbPartial
      ∃ t, exec (.jobComplete j) s = .next t ∧ t.recorded it (if n = 0 then Status.ok else Status.okWithNote) n ∧ t.item? j = none ∧ t.job? j = none) ∧
    (∃ t, exec (.jobTimeout j) s = .next t ∧ t.recorded it Status.jobTimeout 0xFFFF ∧ t.item? j = none ∧ t.job? j = none))

/-- Work on the Fen clusters (R64, R255, R260, R293 to R295, R319, R338): a cluster in service takes the first item that it can hold; an item's end is one
fewer to do, and its time is its owner's; a fault puts the tiles of a cluster back at the head of the queue and fails the jobs of its compute items; a
suspended instance's items are saved and taken back, ahead of what waits, when it resumes; a guard that has stood for OUT_GUARD_MAX is withdrawn, and a victim
of no other guard runs again. -/
def Obligations.ClustersWorkFaultAndYield : Prop :=
  (∀ (s : State) (c : Fin 24) (w : WorkItem), s.raster.work.find? (s.fits c.val) = some w → (s.unit (unitFc c.val)).health.leftOut = false →
    (s.unit (unitFc c.val)).health ≠ .offline → 3 ∉ s.clocks.held → s.rd Obj.INJ_ENABLE ≠ 1 →
    ∃ t, exec (.workItemStart c) s = .next t ∧ t.raster.work = s.raster.work.erase w ∧ t.onCluster c.val = s.onCluster c.val ++ [w] ∧
      (∀ n, n ≠ c.val → t.onCluster n = s.onCluster n) ∧ { t with raster := s.raster } = s) ∧
  (∀ (s : State) (c : Fin 24) (r : WorkResult) (w : WorkItem) (ws : List WorkItem) (j : Job), s.onCluster c.val = w :: ws → s.job? w.job = some j →
    s.rd Obj.INJ_ENABLE ≠ 1 → r.wrongSlot = none → r.poisoned = false → r.writes = [] → r.feedback = [] → r.tiles = [] →
    (∃ t y, exec (.workItemDone c r) s = .next t ∧ t.onCluster c.val = ws ∧ t.job? w.job = some y ∧ y.left = j.left - 1 ∧
        y.robust = (j.robust || r.robust) ∧ y.rendered = j.rendered + ofBool (dType (s.descOf w.job) = 0x40) ∧
        (∀ n, n ≠ c.val → t.onCluster n = s.onCluster n) ∧ s.objectsBut t []) ∧
    (64 ≤ j.owner → ∃ t, exec (.workItemDone c r) s = .next t ∧ t.insts = s.insts)) ∧
  (∀ (s : State) (c : Fin 24), (∀ w ∈ s.onCluster c.val, s.isTile w = true) →
    ∃ t, exec (.clusterFault c) s = .next t ∧ (t.unit (unitFc c.val)).health = .failed ∧ t.onCluster c.val = [] ∧
      t.raster.work = s.onCluster c.val ++ s.raster.work ∧ t.jobs = s.jobs ∧ s.objectsBut t [Obj.LOG_LOST] ∧ s.sameMemory t) ∧
  (∀ (s : State) (c : Fin 24) (w : WorkItem) (j : Job) (it : Item), s.onCluster c.val = [w] → s.isTile w = false → s.job? w.job = some j →
    s.item? w.job = some it → it.injected = false → (s.inst it.owner).busOff = false →
    ∃ t, exec (.clusterFault c) s = .next t ∧ (t.unit (unitFc c.val)).health = .failed ∧ t.onCluster c.val = [] ∧
      t.recorded it Status.clusterFault 0xFFFF ∧ t.job? w.job = none) ∧
  (∀ (s : State) (i : Fin 64) (ns : Nat),
    ((s.inst i.val).suspended = true → (∀ e ∈ s.raster.saved, e.1 ≠ i.val) →
      let mine := fun (w : WorkItem) => match s.job? w.job with | some j => decide (j.owner = i.val) | none => false
      ∃ t, exec (.preemptSaveDone i ns) s = .next t ∧ Tab.get [] t.raster.saved i.val = s.raster.clusters.flatMap (fun e => e.2.filter mine) ∧
        (∀ e ∈ t.raster.clusters, ∀ w ∈ e.2, mine w = false) ∧
        t.rd Obj.RAS_PREEMPT_MAX = Nat.max (s.rd Obj.RAS_PREEMPT_MAX) (ns % 2 ^ 32) ∧
        (60000 < ns → s.log.fifo.length < 256 → t.told Ev.preemptSlow i.val [d8 i.val, d32 (divUp ns 1000)]) ∧
        s.objectsBut t [Obj.RAS_PREEMPT_MAX, Obj.LOG_LOST] ∧ s.sameMemory t) ∧
    ((s.inst i.val).suspended = false →
      ∃ t, exec (.instanceResume i) s = .next t ∧ t.raster.work = Tab.get [] s.raster.saved i.val ++ s.raster.work ∧
        Tab.get [] t.raster.saved i.val = [] ∧ { t with raster := s.raster } = s)) ∧
  (∀ (s : State) (k : Fin 12),
    let late := fun (g : Guard) => g.output = k.val ∧ ∃ n, g.fired = some n ∧ n + s.rd (Obj.OUT_GUARD_MAX k.val) * 1000 ≤ s.dtime
    ∃ t, exec (.guardExpired k) s = .next t ∧ (∀ g, g ∈ t.guards ↔ g ∈ s.guards ∧ ¬late g) ∧
      (∀ g ∈ s.guards, late g → (∀ h ∈ t.guards, h.fired.isSome = true → h.victim ≠ g.victim) → (t.inst g.victim).suspended = false) ∧ s.sameMemory t)

/-- Pipelines and pages (R279, R283, R287 to R289, R291, R292): a CREATE whose image is sound and whose stages are cached takes the lowest free handle at
once, and one whose stages miss waits for their translation; a translation that all stages pass and that fits ends it with a handle and is cached, and one
that a stage fails ends it with the stage's status; a DESTROY completes once no resident job names the handle. Granted pages enter the submitter's pool and
revoked ones leave it once they hold no lists; an invalid grant changes no pool. -/
def Obligations.PipelinesAndPages : Prop :=
  (∀ (s : State) (o : Owner) (q : Fin 16) (it : Item), s.offers o q 0x42 it →
    (dfield it.desc 65 64 = 0 → s.imageBad o.code it.desc = false → (∀ i < s.imageStages it.desc, s.stageBad it.desc i = false) →
      ((∀ i < s.imageStages it.desc, (s.cached o.code (s.stageKey it.desc i)).isSome = true) → ∀ h, s.freeHandle o.code = some h →
        ∃ t p, exec (.pipelineCreate o q) s = .next t ∧ t.recorded it Status.ok h ∧ t.item? it.id = none ∧ t.pipeline? o.code h = some p ∧
          p.graphics = s.imageGraphics it.desc ∧ p.stages = (List.range (s.imageStages it.desc)).map (s.stageKey it.desc) ∧
          t.rd Obj.RAS_XLATE_HITS = wrapAdd 32 (s.rd Obj.RAS_XLATE_HITS) (s.imageStages it.desc) ∧ s.sameMemory t) ∧
      ((∀ i < s.imageStages it.desc, s.cached o.code (s.stageKey it.desc i) = none) → 0 < s.imageStages it.desc →
        ∃ t, exec (.pipelineCreate o q) s = .next t ∧ (t.item? it.id).isSome = true ∧ t.raster.pipelines = s.raster.pipelines ∧
          t.raster.creating = s.raster.creating ++ [⟨it.id, o.code, s.imageGraphics it.desc,
            (List.range (s.imageStages it.desc)).map (s.stageKey it.desc), List.range (s.imageStages it.desc)⟩] ∧
          t.rd Obj.RAS_XLATE_MISSES = wrapAdd 32 (s.rd Obj.RAS_XLATE_MISSES) (s.imageStages it.desc) ∧ s.sameMemory t)) ∧
    (dfield it.desc 65 64 = 0 → s.imageBad o.code it.desc = true →
      ∃ t, exec (.pipelineCreate o q) s = .next t ∧ t.recorded it Status.shaderInvalid 0xFFFF ∧ t.item? it.id = none ∧ t.raster = s.raster ∧ s.sameMemory t) ∧
    (dfield it.desc 65 64 = 1 → s.pipeline? o.code (dfield it.desc 95 80) = none →
      ∃ t, exec (.pipelineDestroy o q) s = .next t ∧ t.recorded it Status.pipelineUnknown 0 ∧ t.item? it.id = none ∧ t.raster = s.raster ∧ s.sameMemory t) ∧
    (dfield it.desc 65 64 = 1 → ∀ p, s.pipeline? o.code (dfield it.desc 95 80) = some p →
      (∀ j ∈ s.jobs, j.resident = true → j.owner = o.code → dfield it.desc 95 80 ∉ j.handles) → dfield it.desc 95 80 < 1024 →
      ∃ t, exec (.pipelineDestroy o q) s = .next t ∧ t.recorded it Status.ok 0 ∧ t.item? it.id = none ∧
        t.pipeline? o.code (dfield it.desc 95 80) = none ∧ s.sameMemory t)) ∧
  (∀ (s : State) (o : Owner) (q : Fin 16) (c : Creating) (it : Item) (bytes shared : Nat), s.raster.creating.head? = some c → s.item? c.item = some it →
    it.owner = o.code → it.queue = q.val → c.owner = o.code → it.injected = false → (s.inst it.owner).busOff = false → s.gafferDown = false →
    c.missing.length = 1 → ∀ h, s.freeHandle o.code = some h →
    (shared ≤ 32768 → s.cacheBytes + bytes ≤ s.rd Obj.RAS_XLATE_CACHE_BYTES →
      ∃ t p, exec (.translationDone o q [.translated bytes] shared) s = .next t ∧ t.recorded it Status.ok h ∧ t.item? c.item = none ∧
        t.pipeline? o.code h = some p ∧ p.stages = c.keys ∧ t.raster.creating = s.raster.creating.erase c ∧ s.sameMemory t) ∧
    (∃ t, exec (.translationDone o q [.invalid] shared) s = .next t ∧ t.recorded it Status.shaderInvalid (c.missing.headD 0) ∧ t.item? c.item = none ∧
      t.raster.cache = s.raster.cache ∧ t.raster.pipelines = s.raster.pipelines ∧ t.raster.creating = s.raster.creating.erase c ∧ s.sameMemory t)) ∧
  (∀ (s : State) (o : Owner) (q : Fin 16) (it : Item), s.offers o q 0x43 it →
    let named := fun (p : PbPage) => p.surface = pbSurface it.desc ∧ dfield it.desc 127 96 ≤ p.page ∧
      p.page < dfield it.desc 127 96 + dfield it.desc 143 128
    (dbit it.desc 80 = false → s.pbInvalid o.code it.desc true = false →
      ∃ t, exec (.pbGrant o q) s = .next t ∧ t.recorded it Status.ok 0 ∧ t.item? it.id = none ∧
        (∀ p ∈ s.pool o.code, p ∈ t.pool o.code) ∧
        (∀ n, dfield it.desc 127 96 ≤ n → n < dfield it.desc 127 96 + dfield it.desc 143 128 →
          ∃ p ∈ t.pool o.code, p.surface = pbSurface it.desc ∧ p.page = n) ∧
        (∀ n, n ≠ o.code → t.pool n = s.pool n) ∧ s.objectsBut t [Obj.LOG_LOST] ∧ s.sameMemory t) ∧
    (dbit it.desc 80 = false → s.pbInvalid o.code it.desc true = true →
      ∃ t, exec (.pbGrant o q) s = .next t ∧ t.recorded it Status.pbGrantInvalid 0 ∧ t.item? it.id = none ∧ t.raster = s.raster) ∧
    (dbit it.desc 80 = true → s.pbInvalid o.code it.desc false = false → (∀ p ∈ s.pool o.code, named p → p.job = none) →
      ∃ t, exec (.pbRevoke o q) s = .next t ∧ t.recorded it Status.ok 0 ∧ t.item? it.id = none ∧ (∀ p ∈ t.pool o.code, ¬named p) ∧ s.sameMemory t))

/-- Binning, tiles and signatures (R255, R257, R265, R266, R273, R277, R278, R281, R283): a primitive that fits is on the lists and the next draw record
follows; one that does not begins a partial pass, whose end frees the job's pages; the end of binning queues every tile. A signature area that is invalidated
holds ones; a tile whose signature is the stored one is not written; tiles are bound and unbound as the descriptor names them. -/
def Obligations.BinningTilesAndSignatures : Prop :=
  (∀ (s : State) (j : Nat) (x : Job), s.job? j = some x → s.bins x = true →
    (x.nextDraw < drawCount (s.descOf j) → s.drawStatus x.owner (s.descOf j) (s.drawRecord (s.descOf j) x.nextDraw) = Status.ok →
      (∃ t y, exec (.binDrawRecord j []) s = .next t ∧ t.job? j = some y ∧ y = { x with nextDraw := x.nextDraw + 1 } ∧ { t with jobs := s.jobs } = s) ∧
      (∀ p, (s.appendPrim x (s.descOf j) p).isSome = true →
        ∃ t y, exec (.binDrawRecord j [p]) s = .next t ∧ t.job? j = some y ∧ y.nextDraw = x.nextDraw + 1 ∧ y.primitives = x.primitives + 1 ∧
          y.used = x.used + x.primCost (s.descOf j) p ∧ s.objectsBut t [] ∧ s.sameMemory t) ∧
      (∀ p ps, s.appendPrim x (s.descOf j) p = none → x.used ≠ 0 →
        ∃ t y, exec (.binDrawRecord j (p :: ps)) s = .next t ∧ t.job? j = some y ∧ y.inPass = true ∧ y.passes = x.passes + 1 ∧ y.nextDraw = x.nextDraw ∧
          y.left = tileCount (s.descOf j) ∧ t.rd Obj.RAS_PB_PARTIAL_COUNT = wrapAdd 32 (s.rd Obj.RAS_PB_PARTIAL_COUNT) 1 ∧ s.sameMemory t)) ∧
    (drawCount (s.descOf j) ≤ x.nextDraw →
      ∃ t y, exec (.binningEnd j) s = .next t ∧ t.job? j = some y ∧ y.binned = true ∧ y.left = tileCount (s.descOf j) ∧
        (∀ w ∈ s.tileItems j (s.descOf j), w ∈ t.raster.work) ∧ s.objectsBut t [] ∧ s.sameMemory t)) ∧
  (∀ (s : State) (j : Nat) (x : Job), s.job? j = some x → x.inPass = true → x.left = 0 →
    ∃ t y, exec (.partialPassEnd j) s = .next t ∧ t.job? j = some y ∧ y.inPass = false ∧ y.used = 0 ∧ y.lists = [] ∧ y.reserve = 0 ∧
      (∀ e ∈ t.raster.pools, ∀ p ∈ e.2, p.job ≠ some j) ∧ s.objectsBut t [] ∧ s.sameMemory t) ∧
  (∀ (s : State) (o : Owner) (q : Fin 16) (it : Item), s.offers o q 0x44 it → s.jobsBefore it = false →
    (s.usable o.code (pbSurface it.desc) = true → dfield it.desc 127 96 + 8 * dfield it.desc 159 128 ≤ (s.surf (pbSurface it.desc)).bytes →
      let r := s.store (pbSurface it.desc) (dfield it.desc 127 96) (List.replicate (8 * dfield it.desc 159 128) 0xFF)
      ∃ t, exec (.sigInvalidate o q) s = .next t ∧ t.recorded it (if r.2 then Status.ok else Status.poisonedRead) 0 ∧ t.item? it.id = none ∧
        t.mem = r.1.mem ∧ s.objectsBut t [Obj.LOG_LOST])) ∧
  (∀ (s : State) (o : Owner) (q : Fin 16) (it : Item), s.offers o q 0x45 it → s.jobsBefore it = false → s.tilesInvalid o.code it.desc = false →
    let n := pbSurface it.desc
    (dbit it.desc 80 = false →
      (s.bindTiles n ((List.range (dfield it.desc 159 128)).map (fun i => dfield it.desc 127 96 + i))).isSome = true →
      ∃ t, exec (.tileBind o q) s = .next t ∧ t.recorded it Status.ok 0 ∧ t.item? it.id = none ∧
        (∀ i < dfield it.desc 159 128, ∃ u ∈ (t.surf n).tiles, u.1 = dfield it.desc 127 96 + i) ∧ (∀ u ∈ (s.surf n).tiles, u ∈ (t.surf n).tiles) ∧
        (∀ m, m ≠ n → t.surf m = s.surf m) ∧ s.objectsBut t [Obj.LOG_LOST]) ∧
    (dbit it.desc 80 = true →
      ∃ t, exec (.tileUnbind o q) s = .next t ∧ t.recorded it Status.ok 0 ∧ t.item? it.id = none ∧
        (∀ u, u ∈ (t.surf n).tiles ↔ u ∈ (s.surf n).tiles ∧ ¬(dfield it.desc 127 96 ≤ u.1 ∧ u.1 < dfield it.desc 127 96 + dfield it.desc 159 128)) ∧
        (∀ m, m ≠ n → t.surf m = s.surf m) ∧ s.objectsBut t [Obj.LOG_LOST] ∧ s.sameMemory t)) ∧
  (∀ (s : State) (j : Job) (d : BitVec 512) (t : Nat) (a : Nat × List (BitVec 8) × List (BitVec 8)), j.inPass = false → j.passes = 0 →
    atSigned (s.attachEntry d a.1) = true → crc64 (if rtSamples d = 1 then a.2.1 else a.2.2) = s.signature (s.attachEntry d a.1) t →
    s.signature (s.attachEntry d a.1) t ≠ 0xFFFFFFFFFFFFFFFF → (s.finishAttachment j d t a).1.mem = s.mem)

/-! ## Device DRAM (R343 to R380) -/

/-- Refresh (R355 to R357, R359, R360, R366): a tREFI raises the debt of a channel by 1, and at 8 a refresh is forced, counted and recorded; the horizontal
blanking of the output that a channel feeds takes as many refreshes as fit while the debt is above 0, the vertical blanking takes the debt down to −8;
per-bank refreshes take the bank pairs in turn in COMPATIBILITY mode, and an all-bank refresh that carries a delay change stands for eight of them; a poll
whose mode register asks for more halves the channel's interval. Margins (R364 to R366): a sweep takes the next lane whose rank is present; its result enters
the lane's report, stale or not, and a lane further off its centre than the threshold is re-centred at the next all-bank stall and counted. -/
def Obligations.RefreshAndMargins : Prop :=
  (
  (∀ (s : State) (m : Fin 8), s.chanActive m.val = true → s.native = true → (s.chan m.val).slotWaits = 0 → s.feedsOutput m.val = true →
    (s.debt m.val < 8 → -100 < s.debt m.val →
      ∃ t, exec (.refiTick m) s = .next t ∧ t.debt m.val = s.debt m.val + 1 ∧ s.objectsBut t [Obj.MC_REFRESH_DEBT m.val] ∧ { t with objs := s.objs } = s) ∧
    (s.debt m.val = 8 →
      ∃ t, exec (.refiTick m) s = .next t ∧ t.debt m.val = 8 ∧ t.rd Obj.MEM_FORCED_REFRESH = wrapAdd 32 (s.rd Obj.MEM_FORCED_REFRESH) 1 ∧
        (s.log.fifo.length < 256 → t.told Ev.refreshForced noOwner [d8 m.val]) ∧ s.sameMemory t)) ∧
  (∀ (s : State) (m : Fin 8), s.native = false → exec (.refiTick m) s = .next s) ∧
  (∀ (s : State) (k : Fin 12) (ns : Nat) b, (s.backing k.val).dram = some b → s.chanActive b.channel = true → s.native = true → b.channel < 8 →
    0 ≤ s.debt b.channel → s.debt b.channel ≤ 8 →
    (∃ t, exec (.horizontalBlankingStart k false ns) s = .next t ∧
      t.debt b.channel = s.debt b.channel - min (s.debt b.channel) (Nat.min 8 (fitting (s.stallNs b.channel) ns)) ∧
      s.objectsBut t [Obj.MC_REFRESH_DEBT b.channel, Obj.TRAIN_RD b.channel] ∧ s.sameMemory t) ∧
    (∃ t, exec (.horizontalBlankingStart k true ns) s = .next t ∧ t.debt b.channel = -8 ∧
      s.objectsBut t [Obj.MC_REFRESH_DEBT b.channel, Obj.TRAIN_RD b.channel] ∧ s.sameMemory t)) ∧
  (∀ (s : State) (m : Fin 8), s.chanActive m.val = true → s.native = false →
    ((s.chan m.val).replaced = 0 →
      ∃ t, exec (.perBankRefresh m) s = .next t ∧ t.chan m.val = { s.chan m.val with pairNext := ((s.chan m.val).pairNext + 1) % 8 } ∧
        (∀ n, n ≠ m.val → t.chan n = s.chan n) ∧ s.objectsBut t [] ∧ s.sameMemory t) ∧
    (0 < (s.chan m.val).replaced →
      ∃ t, exec (.perBankRefresh m) s = .next t ∧ (t.chan m.val).replaced = (s.chan m.val).replaced - 1 ∧
        ((s.chan m.val).replaced = 8 → (t.chan m.val).recentre = []) ∧ s.objectsBut t [Obj.TRAIN_RD m.val] ∧ s.sameMemory t)) ∧
  (∀ (s : State) (m : Fin 8) (mr4 : List Nat), s.chanActive m.val = true → s.rd Obj.INJ_ENABLE ≠ 1 → s.rd Obj.MEM_SPARE_STATE ≠ 2 →
    (s.chan m.val).halved = false →
    let asks := (List.range 2).any (fun r => s.polled (2 * m.val + r) && asksMore (mr4.getD r 0) (s.refiNow m.val))
    ∃ t, exec (.mr4Poll m mr4 [false, false] 0) s = .next t ∧ (t.chan m.val).halved = asks ∧
      t.refiNow m.val = (if asks then s.baseRefi / 2 else s.baseRefi) ∧ (∀ n, n ≠ m.val → t.chan n = s.chan n) ∧
      s.objectsBut t [Obj.LOG_LOST] ∧ s.sameMemory t)) ∧
  (
  (∀ (s : State) (m : Fin 8) (e : Nat), s.chanActive m.val = true → (s.chan m.val).sweep = none → s.nextSweep m.val = some e →
    ∃ t, exec (.marginSweep m) s = .next t ∧ t.chan m.val = { s.chan m.val with sweep := some (e / 4, e % 4), sweepNext := (e + 1) % 8 } ∧
      (∀ n, n ≠ m.val → t.chan n = s.chan n) ∧ { t with dram := s.dram } = s) ∧
  (∀ (s : State) (m : Fin 8) e, (s.chan m.val).sweep = some e → exec (.marginSweep m) s = .next s) ∧
  (∀ (s : State) (m : Fin 8) (res : SweepResult) (r lane : Nat), (s.chan m.val).sweep = some (r, lane) → s.rd Obj.INJ_ENABLE ≠ 1 →
    let at_ := 8 * (4 * r + lane)
    let diff := (Nat.min 64 res.right : Int) - (Nat.min 64 res.left : Int)
    let entry := fun c => marginEntry (bytesAt (s.rd (Obj.MARGIN_REPORT m.val)) at_ 8) res c
    (res.stale = true →
      ∃ t, exec (.sweepDone m res) s = .next t ∧ bytesAt (t.rd (Obj.MARGIN_REPORT m.val)) at_ 8 = entry false ∧ (t.chan m.val).sweep = none ∧
        (t.chan m.val).recentre = (s.chan m.val).recentre ∧ s.objectsBut t [Obj.MARGIN_REPORT m.val] ∧ s.sameMemory t) ∧
    (res.stale = false → s.gafferDown = false → s.rd Obj.MEM_RECENTRE_EN ≠ 1 ∨ diff.natAbs < s.rd Obj.MEM_RECENTRE_THRESHOLD →
      ∃ t, exec (.sweepDone m res) s = .next t ∧ bytesAt (t.rd (Obj.MARGIN_REPORT m.val)) at_ 8 = entry false ∧ (t.chan m.val).sweep = none ∧
        (t.chan m.val).recentre = (s.chan m.val).recentre ∧
        (Nat.min (Nat.min 64 res.left) (Nat.min 64 res.right) < s.rd Obj.MEM_MARGIN_LOW → s.log.fifo.length < 256 →
          t.told Ev.marginLow noOwner [d8 m.val, d8 (2 * m.val + r), d8 lane, d8 (Nat.min 64 res.left), d8 (Nat.min 64 res.right)]) ∧
        s.objectsBut t [Obj.MARGIN_REPORT m.val, Obj.LOG_LOST] ∧ s.sameMemory t) ∧
    (res.stale = false → s.gafferDown = false → s.rd Obj.MEM_RECENTRE_EN = 1 → s.rd Obj.MEM_RECENTRE_THRESHOLD ≤ diff.natAbs →
      ∃ t, exec (.sweepDone m res) s = .next t ∧ bytesAt (t.rd (Obj.MARGIN_REPORT m.val)) at_ 8 = entry true ∧ (t.chan m.val).sweep = none ∧
        (t.chan m.val).recentre = (s.chan m.val).recentre ++ [(r, lane, diff.tdiv 2)] ∧
        t.rd (Obj.TRAIN_RECENTRES m.val) = wrapAdd 32 (s.rd (Obj.TRAIN_RECENTRES m.val)) 1 ∧
        s.objectsBut t [Obj.MARGIN_REPORT m.val, Obj.TRAIN_RECENTRES m.val, Obj.LOG_LOST] ∧ s.sameMemory t)))

/-- Errors of DRAM (R367 to R369, R374): a corrected error is counted for its rank, a rank's minute is recorded once; an uncorrectable error is counted and
its line poisoned once, and a transfer that read it ends with POISONED_READ; a rank that fails while the spare is ready begins a migration to it, at whose end
the spare has taken its place. No byte of memory changes. -/
def Obligations.MemoryErrorsAreCountedAndSpared : Prop :=
  (∀ (s : State) (r : Fin 16), bit s.memConf.ecc r.val = true → s.polled r.val = true →
    (s.rd Obj.MEM_CE_RETIRE_LIMIT = 0 ∨ (s.ce24 r.val).length + 1 ≤ s.rd Obj.MEM_CE_RETIRE_LIMIT →
      ∃ t, exec (.correctedError r true) s = .next t ∧ t.rd Obj.MEM_CE_COUNT = wrapAdd 32 (s.rd Obj.MEM_CE_COUNT) 1 ∧
        (Tab.get {} t.dram.ranks r.val).times = s.ce24 r.val ++ [s.dtime] ∧
        (Tab.get {} t.dram.ranks r.val).minute = (Tab.get {} s.dram.ranks r.val).minute + 1 ∧ s.objectsBut t [Obj.MEM_CE_COUNT] ∧ s.sameMemory t) ∧
    (s.rd Obj.MEM_CE_RETIRE_LIMIT ≠ 0 → s.rd Obj.MEM_CE_RETIRE_LIMIT ≤ (s.ce24 r.val).length → s.rd (Obj.RANK_STATE r.val) = 1 →
      s.rd Obj.MEM_SPARE_STATE = 1 → s.memConf.spare < 16 → s.memConf.spare ≠ r.val →
      ∃ t, exec (.correctedError r true) s = .next t ∧ t.rd (Obj.RANK_STATE r.val) = 3 ∧ t.rd (Obj.RANK_STATE s.memConf.spare) = 7 ∧
        t.rd Obj.MEM_SPARE_STATE = 2 ∧ t.rd Obj.MEM_SPARE_SOURCE = r.val ∧ t.rd Obj.MEM_SPARE_COPY_PTR = 0 ∧
        (s.log.fifo.length < 256 → t.told Ev.rankUe noOwner [d8 r.val, dCase Ev.rankUe 0, d64 0]) ∧ s.sameMemory t)) ∧
  (∀ (s : State),
    ∃ t, exec .ceSummary s = .next t ∧ (∀ r < 16, (Tab.get {} t.dram.ranks r).minute = 0 ∧ (Tab.get {} t.dram.ranks r).times = (Tab.get {} s.dram.ranks r).times) ∧
      (s.log.fifo.length < 200 → ∀ r < 16, (Tab.get {} s.dram.ranks r).minute ≠ 0 →
        t.told Ev.ceSummary noOwner [d8 r, d32 (Tab.get {} s.dram.ranks r).minute]) ∧ s.objectsBut t [Obj.LOG_LOST] ∧ s.sameMemory t) ∧
  (∀ (s : State) (m : Fin 8) (addr : Nat), s.chanActive m.val = true → bit s.memConf.ecc (s.rankAt m.val addr) = true →
    s.rd (Obj.RANK_STATE (s.rankAt m.val addr)) = 7 → addr < s.rankBytes (2 * m.val) + s.rankBytes (2 * m.val + 1) → s.rd Obj.MEM_SPARE_STATE ≠ 2 →
    (∃ t, exec (.uncorrectableError m addr .core true 0) s = .next t ∧ deviceAddr m.val addr / 64 ∈ t.dram.poisoned ∧
      t.rd Obj.MEM_UE_COUNT = wrapAdd 32 (s.rd Obj.MEM_UE_COUNT) 1 ∧
      t.rd Obj.MEM_POISONED_LINES = (if deviceAddr m.val addr / 64 ∈ s.dram.poisoned then s.rd Obj.MEM_POISONED_LINES
        else wrapAdd 32 (s.rd Obj.MEM_POISONED_LINES) 1) ∧ s.objectsBut t [Obj.MEM_UE_COUNT, Obj.MEM_POISONED_LINES, Obj.LOG_LOST] ∧ s.sameMemory t) ∧
    (∀ it : Item, s.item? it.id = some it → s.job? it.id = none → it.started = true → dType it.desc = 0x08 → it.injected = false →
      (s.inst it.owner).busOff = false →
      ∃ t, exec (.uncorrectableError m addr (.item it.id) true 0) s = .next t ∧ t.recorded it Status.poisonedRead 0 ∧ t.item? it.id = none ∧
        s.sameMemory t)) ∧
  (∀ (s : State), s.rd Obj.MEM_SPARE_STATE = 2 → s.rd Obj.MEM_SPARE_SOURCE < 16 → s.memConf.spare < 16 →
    s.memConf.spare ≠ s.rd Obj.MEM_SPARE_SOURCE →
    ∃ t, exec .spareDone s = .next t ∧ t.rd (Obj.RANK_STATE (s.rd Obj.MEM_SPARE_SOURCE)) = 4 ∧ t.rd (Obj.RANK_STATE s.memConf.spare) = 1 ∧
      t.rd Obj.MEM_SPARE_STATE = 3 ∧ bit (t.rd Obj.MEM_RETIRED_RANKS) (s.rd Obj.MEM_SPARE_SOURCE) = true ∧
      t.rd Obj.MEM_SPARE_COPY_PTR = s.rankBytes (s.rd Obj.MEM_SPARE_SOURCE) ∧ t.flash.commit.isSome = true ∧
      s.objectsBut t [Obj.RANK_STATE (s.rd Obj.MEM_SPARE_SOURCE), Obj.RANK_STATE s.memConf.spare, Obj.MEM_SPARE_STATE, Obj.MEM_RETIRED_RANKS,
        Obj.MEM_SPARE_COPY_PTR, Obj.LOG_LOST] ∧ s.sameMemory t)

/-! ## Bittern and the mailboxes (R389 to R417) -/

/-- A Bittern restart (R200, R406, R407, R417): for every cause, Bittern's state is RESTARTING, the cause and the restart are recorded, every output is in
strict commit mode, and every Bittern-owned mailbox is empty with no doorbell pending; a request outside RUNNING is ignored, and the fourth restart within 60
s halts. Measurement and readiness (R403 to R405, R407, R615): the ROM measures the slot of BIT_IMAGE_SLOT; a pass records digest and slot and starts the
firmware, and at a start-up locks the assignment; a failure tries the other slot with dual-image boot, and else halts with its result; BIT_READY makes Bittern
RUNNING. -/
def Obligations.BitternMeasuresRunsAndRestarts : Prop :=
  (
  let few := fun (s : State) => (s.boot.bitRestarts.filter (fun t => Nat.blt s.dtime (t + 60000000000))).length < 3
  let restarted := fun (s t : State) (cause : Nat) =>
    t.rd Obj.BIT_STATE = 4 ∧ t.rd Obj.BIT_LAST_CAUSE = cause ∧ t.rd Obj.BIT_RESTART_COUNT = wrapAdd 32 (s.rd Obj.BIT_RESTART_COUNT) 1 ∧
    t.boot.bitT0 = some s.dtime ∧ bit t.boot.strictHolds 1 = true ∧ (∀ k < 12, t.rd (Obj.OUT_LATCH_MODE k) = 1) ∧
    (∀ m < 16, s.mbBittern m = true → (t.mailbox m).words = [] ∧ (t.mailbox m).pend = 0 ∧ (t.mailbox m).wakeEn = 0) ∧
    (∀ m, s.mbBittern m = false → t.mailbox m = s.mailbox m) ∧ (s.log.fifo.length < 256 → t.told Ev.bitRestartStart 0xC1 [d8 cause]) ∧ s.sameMemory t
  (∀ (s : State) (queued : List (Nat × Nat)), s.bitState ≠ 4 → s.bitState ≠ 5 →
    (few s →
      (∃ t, exec (.lockstepMismatch true queued) s = .next t ∧ restarted s t 4) ∧ (∃ t, exec (.bitSramUe true queued) s = .next t ∧ restarted s t 5) ∧
      (s.bitState = 2 ∨ s.bitState = 3 → ∃ t, exec (.bitWatchdogExpiry true queued) s = .next t ∧ restarted s t 1)) ∧
    (¬few s → ∃ t, exec (.lockstepMismatch true queued) s = .next t ∧ t.rd Obj.BIT_STATE = 5 ∧ t.rd Obj.BIT_BOOT_RESULT = 0x000B)) ∧
  (∀ (s : State) (rq : Requester) (queued : List (Nat × Nat)), s.accepts rq Obj.BIT_RESTART_REQ 1 →
    (s.bitState = 3 → few s → ∃ t, exec (.bitRestartReq rq 1 queued) s = .next t ∧ restarted s t (restartCause rq) ∧ t.answered rq Status.ok) ∧
    (s.bitState ≠ 3 → exec (.bitRestartReq rq 1 queued) s = .next (s.answer rq Status.ok)))) ∧
  (
  (∀ s : State, s.bitState = 4 → s.boot.stage ≠ 1 → s.boot.stage ≠ 3 →
    ∃ t, exec .bitRomStart s = .next t ∧ t.bitState = 1 ∧ t.boot.measuring = s.rd Obj.BIT_IMAGE_SLOT ∧ t.boot.otherMeasured = false ∧
      s.objectsBut t [Obj.BIT_STATE] ∧ s.sameMemory t) ∧
  (∀ (s : State) (image : BootImage), s.bitState = 1 → s.boot.measuring < 2 →
    let restart := s.boot.bitT0.isSome && !decide (s.boot.stage = 2)
    ((s.measureResult image restart).1 = 0 →
      ∃ t, exec (.measurementDone image) s = .next t ∧ t.bitState = 2 ∧ t.rd Obj.BIT_BOOT_RESULT = 0 ∧ t.rd Obj.BIT_MANIFEST_DIGEST = image.digest ∧
        t.rd Obj.BIT_MEASUREMENTS = measurements image.entries ∧ t.rd Obj.BIT_IMAGE_SLOT = s.boot.measuring ∧
        (restart = false → t.rd Obj.BIT_ASSIGN_LOCK = 1 ∧ t.boot.stage = 4 ∧ (t.keySlot 1).owner = 0xC0 ∧ (t.keySlot 1).state = 1)) ∧
    ((s.measureResult image restart).1 ≠ 0 → s.strapBoot = 1 → s.boot.otherMeasured = false →
      ∃ t, exec (.measurementDone image) s = .next t ∧ t.bitState = 1 ∧ t.boot.measuring = 1 - s.boot.measuring ∧ t.boot.otherMeasured = true ∧
        t.rd Obj.BIT_BOOT_RESULT = (s.measureResult image restart).1 ∧ s.sameMemory t) ∧
    ((s.measureResult image restart).1 ≠ 0 → s.strapBoot ≠ 1 ∨ s.boot.otherMeasured = true →
      ∃ t, exec (.measurementDone image) s = .next t ∧ t.bitState = 5 ∧ t.rd Obj.BIT_BOOT_RESULT = (s.measureResult image restart).1 ∧
        (restart = false → t.boot.stage = 7))) ∧
  (∀ (s : State) (rq : Requester), s.accepts rq Obj.BIT_READY 1 → s.ldp.blobs = [] →
    (s.bitState = 2 → ∀ t0, s.boot.bitT0 = some t0 →
      ∃ t, exec (.bitReady rq 1) s = .next t ∧ t.bitState = 3 ∧ t.boot.bitT0 = none ∧ t.answered rq Status.ok ∧
        t.rd Obj.BIT_LAST_DURATION = (s.dtime - t0) / 1000 % 2 ^ 32 ∧ s.objectsBut t [Obj.BIT_STATE, Obj.BIT_LAST_DURATION, Obj.LOG_LOST] ∧ s.sameMemory t) ∧
    (s.bitState ≠ 2 → exec (.bitReady rq 1) s = .next (s.answer rq Status.ok))))

/-- R412: a PUSH that finds COUNT at 16 replaces the most recently written word, increments PUSHED and sets COLLISION, and MB_COLLISION names the mailbox and
the number of the replaced word. -/
def Obligations.PushIntoAFullMailbox : Prop :=
  ∀ (s : State) (rq : Requester) (m : Fin 16) (w : BitVec 32), s.isEnd rq (s.mbSender m.val) = true → s.mbServed m.val = true →
    (isHost rq = true → s.barServed = true) → s.guardOf m.val = none → (s.mailbox m.val).words.length = 16 →
    ∃ t, exec (.mbPush rq m w false) s = .next t ∧ (t.mailbox m.val).words = (s.mailbox m.val).words.dropLast ++ [w.toNat] ∧
      (t.mailbox m.val).pushed = wrapAdd 16 (s.mailbox m.val).pushed 1 ∧ (t.mailbox m.val).collision = true ∧
      (s.log.fifo.length < 200 → t.told Ev.mbCollision noOwner [d8 m.val, d16 (s.mailbox m.val).pushed]) ∧
      (∀ n, n ≠ m.val → t.mailbox n = s.mailbox n) ∧ s.objectsBut t [Obj.LOG_LOST] ∧ s.sameMemory t

/-- Mailbox registers written by the end that may (R410, R411, R413, R414): a PUSH appends its word while fewer than 16 are held; RELEASE drops the oldest
words; RING sets doorbell bits; DOORBELL sets MASK and clears the PENDING bits written 1. From the wrong end nothing but a refusal comes of it. -/
def Obligations.MailboxRegisterWrites : Prop :=
  (∀ (s : State) (rq : Requester) (m : Fin 16) (w : BitVec 32), (isHost rq = true → s.barServed = true) →
    (s.isEnd rq (s.mbSender m.val) = true → s.mbServed m.val = true → s.guardOf m.val = none → (s.mailbox m.val).words.length < 16 →
      ∃ t, exec (.mbPush rq m w false) s = .next t ∧
        t.mailbox m.val = { s.mailbox m.val with words := (s.mailbox m.val).words ++ [w.toNat], pushed := wrapAdd 16 (s.mailbox m.val).pushed 1 } ∧
        (∀ n, n ≠ m.val → t.mailbox n = s.mailbox n) ∧ s.objectsBut t [Obj.LOG_LOST] ∧ s.sameMemory t) ∧
    (s.isEnd rq (s.mbSender m.val) = true → s.mbUnused m.val = false → ¬(s.mbBittern m.val = true ∧ s.bitternDown = true) → s.receiverUp m.val = true →
      ∃ t, exec (.mbRing rq m w) s = .next t ∧ t.mailbox m.val = { s.mailbox m.val with pend := (s.mailbox m.val).pend ||| w.toNat } ∧
        (∀ n, n ≠ m.val → t.mailbox n = s.mailbox n) ∧ s.objectsBut t [Obj.LOG_LOST] ∧ s.sameMemory t) ∧
    (s.isEnd rq (s.mbSender m.val) = false → s.mbBittern m.val = false →
      ∃ t, exec (.mbPush rq m w false) s = .next t ∧ { t with io := s.io } = s) ∧
    (s.isEnd rq (s.mbSender m.val) = false → s.mbBittern m.val = true → requesterNormal rq = true →
      ∃ t, exec (.mbPush rq m w false) s = .next t ∧ t.answered rq Status.ownerLocked ∧ t.apart = s.apart)) ∧
  (∀ (s : State) (rq : Requester) (m : Fin 16) (n : Nat) (v : BitVec 64), (isHost rq = true → s.barServed = true) →
    s.isEnd rq (s.mbReceiver m.val) = true → s.mbServed m.val = true →
    (∃ t, exec (.mbRelease rq m n) s = .next t ∧
      t.mailbox m.val = { s.mailbox m.val with words := (s.mailbox m.val).words.drop (n % 32) } ∧
      (∀ k, k ≠ m.val → t.mailbox k = s.mailbox k) ∧ { t with mailboxes := s.mailboxes } = s) ∧
    (∃ t, exec (.doorbellWrite rq m v) s = .next t ∧
      t.mailbox m.val = { s.mailbox m.val with mask := field v.toNat 31 0, pend := (s.mailbox m.val).pend &&& (2 ^ 32 - 1 - field v.toNat 63 32) } ∧
      (∀ k, k ≠ m.val → t.mailbox k = s.mailbox k) ∧ { t with mailboxes := s.mailboxes, io := s.io } = s))

/-! ## Continuity (R418 to R441) -/

/-- Units are switched (R432, R438 to R440): an enable that R439 does not refuse puts the unit in SYNC with a fail run of 0; a disable turns it off; RESTORE
ends TRIPPED and withdraws the unit's override; an armed fault waits for the next item, and is refused unless injection is on. Another unit is not touched.
Items of streams and layers (R422 to R425, R428, R429, R431, R433): the check value of the region's pixels, or of the crop's bytes, is computed under the
unit's polynomial and compared with its reference; an item that passes is counted and ends the fail run; one that does not match raises it, and at the limit
the unit is TRIPPED. An item of an output that is stopped gives NO_DATA. -/
def Obligations.ContinuityUnitsSwitchAndJudge : Prop :=
  (
  ∀ (s : State) (rq : Requester) (u : Fin 32),
    (s.accepts rq (Obj.CU_CONTROL u.val) 1 → s.cuEnabled u.val = false →
      (s.cuConfigBad u.val = false →
        ∃ t, exec (.cuEnable rq u 1) s = .next t ∧ t.cuEnabled u.val = true ∧ t.rd (Obj.CU_STATE u.val) = 1 ∧ t.rd (Obj.CU_FAIL_RUN u.val) = 0 ∧
          t.answered rq Status.ok ∧ (t.cu u.val).pred = none ∧ (t.cu u.val).staging = [] ∧ (∀ n, n ≠ u.val → t.cu n = s.cu n) ∧
          s.objectsBut t [Obj.CU_CONTROL u.val, Obj.CU_STATE u.val, Obj.CU_STATUS u.val, Obj.CU_FAIL_RUN u.val] ∧ s.sameMemory t) ∧
      (s.cuConfigBad u.val = true → exec (.cuEnable rq u 1) s = .next (s.answer rq Status.cuConfigInvalid))) ∧
    (s.accepts rq (Obj.CU_CONTROL u.val) 0 → s.cuEnabled u.val = true → s.rd (Obj.CU_STATE u.val) ≠ cuTripped →
      ∃ t, exec (.cuDisable rq u 0) s = .next t ∧ t.cuEnabled u.val = false ∧ t.rd (Obj.CU_STATE u.val) = 0 ∧ t.answered rq Status.ok ∧
        (t.cu u.val).staging = [] ∧ (∀ n, n ≠ u.val → t.cu n = s.cu n) ∧
        s.objectsBut t [Obj.CU_CONTROL u.val, Obj.CU_STATE u.val, Obj.CU_STATUS u.val] ∧ s.sameMemory t) ∧
    (s.accepts rq (Obj.CU_CONTROL u.val) 3 → s.cuEnabled u.val = true → s.rd (Obj.CU_STATE u.val) = cuTripped →
      ∃ t, exec (.cuRestore rq u 3) s = .next t ∧ t.rd (Obj.CU_STATE u.val) = cuSync ∧ t.rd (Obj.CU_FAIL_RUN u.val) = 0 ∧ t.answered rq Status.ok ∧
        ((s.out (s.governor (s.cuOutput u.val))).critOverride.map Prod.fst = some u.val →
          (t.out (s.governor (s.cuOutput u.val))).critOverride = none) ∧ s.sameMemory t) ∧
    (∀ v : Fin 256, s.accepts rq (Obj.CU_INJECT u.val) v.val →
      (s.rd Obj.INJ_ENABLE ≠ 0 →
        ∃ t, exec (.cuInject rq u v) s = .next t ∧ t.cu u.val = { s.cu u.val with inject := v.val } ∧ (∀ n, n ≠ u.val → t.cu n = s.cu n) ∧
          t.answered rq Status.ok ∧ { t with cus := s.cus, io := s.io } = s) ∧
      (s.rd Obj.INJ_ENABLE = 0 → exec (.cuInject rq u v) s = .next (s.answer rq Status.accessDenied)))) ∧
  (
  let judged := fun (s t : State) (u value : Nat) =>
    t.rd (Obj.CU_LAST_VALUE u) = value ∧
    (value = s.rd (Obj.CU_REF u) → t.rd (Obj.CU_LAST_RESULT u) = 0 ∧ t.rd (Obj.CU_PASS_COUNT u) = wrapAdd 32 (s.rd (Obj.CU_PASS_COUNT u)) 1 ∧
      t.rd (Obj.CU_FAIL_RUN u) = 0 ∧ t.rd (Obj.CU_STATE u) = cuActive) ∧
    (value ≠ s.rd (Obj.CU_REF u) → t.rd (Obj.CU_LAST_RESULT u) = 3 ∧ t.rd (Obj.CU_FAIL_COUNT u) = wrapAdd 32 (s.rd (Obj.CU_FAIL_COUNT u)) 1 ∧
      t.rd (Obj.CU_FAIL_RUN u) = satAdd 8 (s.rd (Obj.CU_FAIL_RUN u)) 1 ∧ bit (t.rd (Obj.CU_STATUS u)) 0 = true ∧
      t.rd (Obj.CU_STATE u) = if s.rd (Obj.CU_FAIL_LIMIT u) ≤ satAdd 8 (s.rd (Obj.CU_FAIL_RUN u)) 1 then cuTripped else cuSync) ∧ s.sameMemory t
  ∀ (s : State) (u : Fin 32), s.cuEnabled u.val = true → s.cuOutput u.val ≤ 11 → s.cuAlive u.val = false →
    let g := s.governor (s.cuOutput u.val)
    (s.cuSnoop u.val = 0 → (s.out g).phase = .stopped → ∀ px,
      ∃ t, exec (.cuStreamJudge u px false false) s = .next t ∧ t.rd (Obj.CU_LAST_RESULT u.val) = 6 ∧ (t.cu u.val).idle = true ∧
        s.objectsBut t [Obj.CU_LAST_RESULT u.val] ∧ s.sameMemory t) ∧
    ((s.out g).phase ≠ .stopped → (s.cu u.val).idle = false → (s.cu u.val).inject = 0 → s.rd (Obj.CU_STATE u.val) ≠ cuTripped →
      (s.cuSnoop u.val = 0 → (s.cu u.val).after ≠ some (s.out g).startedFrames → ∀ px c, (s.out g).showing = some c → c.refs = [] → c.overridden = none →
        ∃ t, exec (.cuStreamJudge u (some px) false false) s = .next t ∧
          judged s t u.val (checkValue (s.cuPoly u.val) (px.flatMap (snoopBytes (s.targetDepth (s.cuOutput u.val)))))) ∧
      (s.cuSnoop u.val = 1 → (s.cu u.val).after = none → ∀ c, (s.out g).comps.getLast? = some c → c.refs = [] →
        ∀ l, c.layers.find? (fun l => decide (l.1 = s.cuPosition u.val)) = some l → lySource l.2.1 = 1 →
        ∃ t, exec (.cuLayerJudge u false false) s = .next t ∧ judged s t u.val (checkValue (s.cuPoly u.val)
          ((cropRows l.2.1).flatMap (fun row => (List.range row.2).map (fun i => s.surfByte (lySurface l.2.1) (row.1 + i))))))))

/-- Messages (R434 to R437): a word pushed into a guarded mailbox is staged and not yet there; the last word of a message that passes appends all of it; a
message whose words stop coming is discarded as ALIVE_INVALID; and when no message has come for the unit's time the result is FROZEN, nothing is appended, and
the unit is TRIPPED. -/
def Obligations.MessagesAreStagedAndJudged : Prop :=
  (∀ (s : State) (rq : Requester) (m : Fin 16) (w : BitVec 32), s.isEnd rq (s.mbSender m.val) = true → s.mbServed m.val = true →
    (isHost rq = true → s.barServed = true) → ∀ u, s.guardOf m.val = some u →
    ((s.cu u).staging = [] → field w.toNat 7 0 + 1 + trailerWords (s.cuPoly u) ≤ 16 →
      ∃ t, exec (.mbPush rq m w false) s = .next t ∧ (t.cu u).staging = [w.toNat] ∧ (t.cu u).firstWord = (s.mailbox m.val).pushed ∧
        (t.mailbox m.val).words = (s.mailbox m.val).words ∧ (t.mailbox m.val).pushed = wrapAdd 16 (s.mailbox m.val).pushed 1 ∧
        (∀ n, n ≠ m.val → t.mailbox n = s.mailbox n) ∧ s.sameMemory t) ∧
    ((s.cu u).staging ≠ [] → s.dtime ≤ (s.cu u).lastWord + 1000000 → (s.cu u).inject = 0 → (s.cu u).pred = none →
      let words := (s.cu u).staging ++ [w.toNat]
      let n := words.length - trailerWords (s.cuPoly u)
      let check := packItems 4 (words.drop n)
      words.length = field (words.headD 0) 7 0 + 1 + trailerWords (s.cuPoly u) → words.length ≤ 16 → field (words.headD 0) 31 24 = 0 →
      check < 2 ^ checkWidth (s.cuPoly u) → checkValue (s.cuPoly u) ((words.take n).flatMap (fun w => unpackItems 1 4 w)) = check →
      (s.mailbox m.val).words.length + words.length ≤ 16 →
      ∃ t, exec (.mbPush rq m w false) s = .next t ∧ (t.cu u).staging = [] ∧ (t.mailbox m.val).words = (s.mailbox m.val).words ++ words ∧
        (t.mailbox m.val).pushed = wrapAdd 16 (s.mailbox m.val).pushed 1 ∧ t.rd (Obj.CU_LAST_RESULT u) = 0 ∧
        t.rd (Obj.CU_PASS_COUNT u) = wrapAdd 32 (s.rd (Obj.CU_PASS_COUNT u)) 1 ∧ (t.cu u).pred = some (field (words.headD 0) 15 8) ∧ s.sameMemory t)) ∧
  (∀ (s : State) (u : Fin 32), s.cuEnabled u.val = true → s.cuSnoop u.val = 2 →
    ((s.cu u.val).staging ≠ [] →
      ∃ t, exec (.cuWordGapTimeout u) s = .next t ∧ (t.cu u.val).staging = [] ∧ t.rd (Obj.CU_LAST_RESULT u.val) = 4 ∧
        t.rd (Obj.CU_FAIL_COUNT u.val) = wrapAdd 32 (s.rd (Obj.CU_FAIL_COUNT u.val)) 1 ∧ bit (t.rd (Obj.CU_STATUS u.val)) 7 = true ∧
        (∀ n, (t.mailbox n).words = (s.mailbox n).words) ∧ s.sameMemory t) ∧
    (s.rd (Obj.CU_MSG_TIMEOUT u.val) ≠ 0 → s.rd (Obj.CU_STATE u.val) ≠ cuTripped →
      ∃ t, exec (.cuMsgTimeout u) s = .next t ∧ t.rd (Obj.CU_LAST_RESULT u.val) = 1 ∧ t.rd (Obj.CU_STATE u.val) = cuTripped ∧
        bit (t.rd (Obj.CU_STATUS u.val)) 3 = true ∧
        (s.log.fifo.length < 256 → t.told Ev.frozen noOwner [d8 u.val, d32 (s.rd (Obj.CU_MSG_TIMEOUT u.val))]) ∧
        (∀ n, (t.mailbox n).words = (s.mailbox n).words) ∧ s.sameMemory t))

/-! ## Touch and keys (R442 to R480) -/

/-- Touch units are switched (R460, R474, R478, R480): an enable that nothing refuses enters BASELINING; a disable lets a window that runs end first, and a
unit without one is OFF at once; a self-started window opens on an idle front end that scans for an ACTIVE panel. -/
def Obligations.TouchUnitsAreSwitched : Prop :=
  (∀ (s : State) (rq : Requester) (p : Fin 2),
    (s.accepts rq (Obj.RF_CONTROL p.val) 1 → bit (s.rd (Obj.RF_CONTROL p.val)) 0 = false → geometryBad (s.rd (Obj.RF_GEOMETRY p.val)) = false →
      (∀ k, s.panel p.val = some k → s.pairOdd k = false) → s.touchBell p.val (s.rd (Obj.RF_DOORBELL p.val)) = false →
      (s.scanBudgetBroken p.val = false →
        ∃ t, exec (.rfEnable rq p 1) s = .next t ∧ t.rd (Obj.RF_CONTROL p.val) = 1 ∧ t.rd (Obj.RF_STATE p.val) = touchBaselining ∧
          t.answered rq Status.ok ∧ (t.front p.val).scans = 0 ∧ (t.front p.val).contacts = [] ∧ (∀ n, n ≠ p.val → t.front n = s.front n) ∧
          s.objectsBut t [Obj.RF_CONTROL p.val, Obj.RF_STATE p.val, Obj.RF_STATUS p.val] ∧ s.sameMemory t) ∧
      (s.scanBudgetBroken p.val = true → exec (.rfEnable rq p 1) s = .next (s.answer rq Status.scanBudget))) ∧
    (s.accepts rq (Obj.RF_CONTROL p.val) 0 → s.rd (Obj.RF_STATE p.val) ≠ touchOff →
      ((s.front p.val).window.isSome = true →
        ∃ t, exec (.rfDisable rq p 0) s = .next t ∧ t.rd (Obj.RF_CONTROL p.val) = 0 ∧ t.front p.val = { s.front p.val with ending := true } ∧
          t.answered rq Status.ok ∧ s.objectsBut t [Obj.RF_CONTROL p.val] ∧ s.sameMemory t) ∧
      ((s.front p.val).window = none → (s.front p.val).contacts = [] →
        ∃ t, exec (.rfDisable rq p 0) s = .next t ∧ t.rd (Obj.RF_CONTROL p.val) = 0 ∧ t.rd (Obj.RF_STATE p.val) = touchOff ∧ t.answered rq Status.ok ∧
          s.objectsBut t [Obj.RF_CONTROL p.val, Obj.RF_STATE p.val, Obj.RF_STATUS p.val] ∧ s.sameMemory t)) ∧
    (s.scans p.val = true → s.windowRuns p.val = false → s.panelState p.val = .active → s.dailies.running = [] →
      ∃ t, exec (.selfStartedWindow p) s = .next t ∧ t.windowRuns p.val = true ∧ (∀ n, n ≠ p.val → t.front n = s.front n) ∧ s.objectsBut t [] ∧
        { t with fronts := s.fronts } = s)) ∧
  (∀ (s : State) (rq : Requester), s.accepts rq Obj.KB_ENABLE 1 → s.rd Obj.KB_ENABLE ≠ 1 → s.touchBell 2 (s.rd Obj.KB_DOORBELL) = false →
    ∃ t, exec (.kbEnable rq 1) s = .next t ∧ t.rd Obj.KB_ENABLE = 1 ∧ t.rd Obj.KB_STATE = touchBaselining ∧ t.keyBank = {} ∧ t.answered rq Status.ok ∧
      s.objectsBut t [Obj.KB_ENABLE, Obj.KB_STATE] ∧ s.sameMemory t) ∧
  (∀ (s : State) (rq : Requester), s.accepts rq Obj.KB_ENABLE 0 → s.rd Obj.KB_STATE ≠ touchOff → s.keyBank.window = none →
    (∀ k ∈ s.keyBank.keys, k.pressed = false) →
    ∃ t, exec (.kbEnable rq 0) s = .next t ∧ t.rd Obj.KB_ENABLE = 0 ∧ t.rd Obj.KB_STATE = touchOff ∧ t.answered rq Status.ok ∧
      s.objectsBut t [Obj.KB_ENABLE, Obj.KB_STATE] ∧ s.sameMemory t)

/-- Scans (R445, R451, R454, R460 to R462, R474, R477): in BASELINING each scan adds its measurements, after cancellation, and after the fourth the baselines
are their means and the unit is RUNNING; a scan in RUNNING ends its window and is counted; nodes or keys still SUSPECT are accepted; a listen sample enters
its band; and two wake scans over the threshold in one group wake the power controller. -/
def Obligations.ScansCompleteAndUnitsRun : Prop :=
  (∀ (s : State) (p : Fin 2) (run : ScanRun) (counts selfCounts : List Nat) (pixels : ScanPixels), (s.front p.val).window = some run →
    let x := s.front p.val
    let sum := if x.sum = [] then s.cancelled p.val counts pixels else List.zipWith (fun u v => u + v) x.sum (s.cancelled p.val counts pixels)
    (x.ending = false → s.rd (Obj.RF_STATE p.val) = touchBaselining →
      ∃ t, exec (.scanComplete p counts selfCounts pixels) s = .next t ∧ t.windowRuns p.val = false ∧ (t.front p.val).scans = x.scans + 1 ∧
        (x.scans + 1 < 4 → t.rd (Obj.RF_STATE p.val) = touchBaselining ∧ (t.front p.val).sum = sum) ∧
        (4 ≤ x.scans + 1 → t.rd (Obj.RF_STATE p.val) = touchRunning ∧ (t.front p.val).base = sum.map (fun v => v / 4)) ∧ s.sameMemory t) ∧
    (x.ending = false → s.rd (Obj.RF_STATE p.val) = touchRunning →
      ∃ t, exec (.scanComplete p counts selfCounts pixels) s = .next t ∧ t.windowRuns p.val = false ∧ (t.front p.val).scans = x.scans + 1 ∧
        t.rd (Obj.RF_STATE p.val) = touchRunning ∧ s.sameMemory t) ∧
    (x.ending = true → x.contacts = [] →
      ∃ t, exec (.scanComplete p counts selfCounts pixels) s = .next t ∧ t.windowRuns p.val = false ∧ t.rd (Obj.RF_STATE p.val) = touchOff ∧
        s.objectsBut t [Obj.RF_STATE p.val, Obj.RF_STATUS p.val] ∧ s.sameMemory t)) ∧
  (∀ (s : State) (run : ScanRun) (counts : List Nat), s.keyBank.window = some run → s.keyBank.ending = false →
    (s.rd Obj.KB_STATE = touchBaselining →
      ∃ t, exec (.keyScanComplete counts) s = .next t ∧ t.windowRuns 2 = false ∧ t.keyBank.scans = s.keyBank.scans + 1 ∧
        (s.keyBank.scans + 1 < 4 → t.rd Obj.KB_STATE = touchBaselining ∧ ∀ i < 24, ∀ k, s.keyBank.keys[i]? = some k →
          t.keyBank.keys[i]? = some { k with sum := k.sum + 256 * (counts.getD i 0 : Int) }) ∧
        (4 ≤ s.keyBank.scans + 1 → t.rd Obj.KB_STATE = touchRunning ∧ ∀ i < 24, ∀ k, s.keyBank.keys[i]? = some k →
          (t.keyBank.keys[i]?.map Key.base) = some ((k.sum + 256 * (counts.getD i 0 : Int)) / 4)) ∧ s.sameMemory t) ∧
    (s.rd Obj.KB_STATE = touchRunning →
      ∃ t, exec (.keyScanComplete counts) s = .next t ∧ t.windowRuns 2 = false ∧ t.keyBank.scans = s.keyBank.scans + 1 ∧ t.keyBank.keys.length = 24 ∧
        t.rd Obj.KB_STATE = touchRunning ∧ s.sameMemory t)) ∧
  (∀ (s : State) (p : Fin 2), s.rd (Obj.RF_STATE p.val) = touchRunning → countTrue (s.front p.val).suspect ≠ 0 →
    ∃ t, exec (.suspectAccepted ⟨p.val, by omega⟩) s = .next t ∧ countTrue (t.front p.val).suspect = 0 ∧ (t.front p.val).base = (s.front p.val).base ∧
      bit (t.rd (Obj.RF_STATUS p.val)) 0 = false ∧ (s.log.fifo.length < 256 → t.told Ev.suspectAccepted noOwner [d8 p.val, d32 (countTrue (s.front p.val).suspect)]) ∧
      s.objectsBut t [Obj.RF_STATUS p.val, Obj.LOG_LOST] ∧ s.sameMemory t) ∧
  (∀ (s : State) (p : Fin 2) (sample : Int) (k : Nat), s.panel p.val = some k → s.scans p.val = true → (s.out k).state = .active →
    (s.front p.val).listen ≠ [] → (s.front p.val).band ≠ 31 →
    ∃ t, exec (.listenSample p sample) s = .next t ∧ (t.front p.val).band = ((s.front p.val).band + 1) % 32 ∧
      (t.front p.val).listen = modifyAt (s.front p.val).listen (s.front p.val).band (fun l => (sample :: l).take 4) ∧
      t.rd (Obj.RF_NOISE p.val) = packItems 2 ((t.front p.val).listen.map bandNoise) ∧ s.objectsBut t [Obj.RF_NOISE p.val] ∧ s.sameMemory t) ∧
  (∀ (s : State) (p : Fin 2) (groups : List Int) (g : Nat), s.rd (Obj.RF_STATE p.val) = touchWake → g < 4 →
    (s.rd Obj.TOUCH_WAKE_THRESHOLD : Int) ≤ groups.getD g 0 → 1 ≤ (s.front p.val).wakeRuns.getD g 0 → s.rd Obj.PWR_STATE ≠ 0 → s.power.sag = none →
    s.power.exitCause = none →
    ∃ t, exec (.wakeScan p groups) s = .next t ∧ t.power.exitCause = some wakeTouch ∧ t.power.exitFrom = s.dtime ∧ t.power.target = 0 ∧
      (t.front p.val).wakeRuns = [] ∧ s.objectsBut t [Obj.LOG_LOST] ∧ s.sameMemory t)

/-! ## Haptics (R481 to R498) -/

/-- Channels are switched and calibrated (R485 to R487, R498): an enable of a calibrated channel makes it IDLE, and one that needs a sweep starts it; a
disable aborts what plays; a rated voltage that the supply does not reach is refused; a sweep ends with the resonance it found, or leaves it as it was and
records why. -/
def Obligations.HapticChannelsAreSwitched : Prop :=
  ∀ (s : State) (rq : Requester) (c : Fin 8),
    let fits := s.rd (Obj.HAP_RATED_MV c.val) ≠ 0 ∧ s.rd (Obj.HAP_RATED_MV c.val) ≤ s.rd Obj.HAP_SUPPLY_MV
    (s.accepts rq (Obj.HAP_CONTROL c.val) 1 → bit (s.rd (Obj.HAP_CONTROL c.val)) 0 = false →
      (fits → s.rd (Obj.HAP_RES_HZ c.val) ≠ 0 → (s.hap c.val).calDone = true → (s.hap c.val).play = none → (s.hap c.val).calibrating = false →
        ∃ t, exec (.hapEnable rq c 1) s = .next t ∧ t.rd (Obj.HAP_CONTROL c.val) = 1 ∧ t.rd (Obj.HAP_STATE c.val) = 1 ∧ t.answered rq Status.ok ∧
          (∀ n, n ≠ c.val → t.hap n = s.hap n) ∧
          s.objectsBut t [Obj.HAP_CONTROL c.val, Obj.HAP_STATE c.val, Obj.HAP_NOW c.val, Obj.HAP_STATUS c.val] ∧ s.sameMemory t) ∧
      (fits → s.rd (Obj.HAP_RES_HZ c.val) = 0 →
        ∃ t, exec (.hapEnable rq c 1) s = .next t ∧ t.rd (Obj.HAP_CONTROL c.val) = 1 ∧ t.rd (Obj.HAP_STATE c.val) = 2 ∧ (t.hap c.val).calibrating = true ∧
          t.answered rq Status.ok ∧ (∀ n, n ≠ c.val → t.hap n = s.hap n) ∧ s.sameMemory t) ∧
      (¬fits → exec (.hapEnable rq c 1) s = .next (s.answer rq Status.hapConfigInvalid))) ∧
    (s.accepts rq (Obj.HAP_CONTROL c.val) 0 →
      ∃ t, exec (.hapEnable rq c 0) s = .next t ∧ t.rd (Obj.HAP_CONTROL c.val) = 0 ∧ t.rd (Obj.HAP_STATE c.val) = 0 ∧ t.answered rq Status.ok ∧
        (bit (s.rd (Obj.HAP_CONTROL c.val)) 0 = true → (t.hap c.val).play = none ∧ (t.hap c.val).queued = none) ∧
        (∀ n, n ≠ c.val → t.hap n = s.hap n) ∧ s.sameMemory t) ∧
    (s.accepts rq (Obj.HAP_CONTROL c.val) 3 → bit (s.rd (Obj.HAP_CONTROL c.val)) 0 = true → fits → (s.hap c.val).play = none →
      (s.hap c.val).calibrating = false →
      ∃ t, exec (.calibrate rq c 3) s = .next t ∧ (t.hap c.val).calibrating = true ∧ t.rd (Obj.HAP_STATE c.val) = 2 ∧ t.answered rq Status.ok ∧
        (∀ n, n ≠ c.val → t.hap n = s.hap n) ∧ s.sameMemory t) ∧
    (∀ coarse best peak, (s.hap c.val).calibrating = true →
      (s.rd Obj.HAP_CAL_MIN_MV ≤ peak → coarse ≠ 800 → coarse ≠ 3200 →
        ∃ t, exec (.calDone c coarse best peak) s = .next t ∧ (t.hap c.val).calibrating = false ∧ t.rd (Obj.HAP_RES_HZ c.val) = best ∧
          t.rd (Obj.HAP_RES_BEMF_MV c.val) = peak ∧ (s.log.fifo.length < 256 → t.told Ev.calDone noOwner [d8 c.val, d32 best, d32 peak]) ∧
          (∀ n, n ≠ c.val → t.hap n = s.hap n) ∧ s.sameMemory t) ∧
      (peak < s.rd Obj.HAP_CAL_MIN_MV →
        ∃ t, exec (.calDone c coarse best peak) s = .next t ∧ (t.hap c.val).calibrating = false ∧
          t.rd (Obj.HAP_RES_HZ c.val) = s.rd (Obj.HAP_RES_HZ c.val) ∧ bit (t.rd (Obj.HAP_STATUS c.val)) 2 = true ∧
          (s.log.fifo.length < 256 → t.told Ev.calFailed noOwner [d8 c.val, dCase Ev.calFailed 0]) ∧ s.sameMemory t))

/-- Effects (R484, R488, R490, R491, R493, R496): a trigger of an idle channel starts its effect, of a critical one at once; a trigger that may not be is
refused with its status; each half-cycle counts, and the overdrive is followed by the sustain, the sustain by the braking, and a pulse by its gap and the next
pulse. -/
def Obligations.EffectsPlay : Prop :=
  (∀ (s : State) (rq : Requester) (c : Fin 8) (v : Fin 256), s.accepts rq (Obj.HAP_PLAY c.val) v.val → isHost rq = false ∨ rq = .manager →
    (s.triggerStatus c.val v.val false = Status.ok → v.val ≠ 0 → (s.hap c.val).play = none → 0 < efOd (s.effect v.val) → s.rd Obj.INJ_ENABLE ≠ 1 →
      ∃ t p, exec (.hapPlay rq c v) s = .next t ∧ (t.hap c.val).play = some p ∧ p.effect = v.val ∧ p.phase = .overdrive ∧ p.half = 0 ∧
        p.source = triggerSource rq ∧ p.critical = false ∧ t.answered rq Status.ok ∧ (∀ n, n ≠ c.val → t.hap n = s.hap n) ∧ s.sameMemory t) ∧
    (s.triggerStatus c.val v.val false ≠ Status.ok →
      exec (.hapPlay rq c v) s = .next (s.answer rq (s.triggerStatus c.val v.val false)))) ∧
  (∀ (s : State) (i : Fin 64) (c : Fin 8) (v : Fin 256), s.accepts (.guest i) (Obj.HAP_PLAY c.val) v.val → s.rd (Obj.HAP_INST_GRANT c.val) ≠ i.val →
    ∃ t, exec (.hapPlay (.guest i) c v) s = .next t ∧ t.answered (.guest i) Status.ownerLocked ∧ t.apart = s.apart ∧ s.objectsBut t [Obj.LOG_LOST]) ∧
  (∀ (s : State) (rq : Requester) (c : Fin 8) (v : Fin 256), s.accepts rq (Obj.HAP_CRIT_PLAY c.val) v.val → s.effectOk v.val = true →
    (s.critChannel c.val = true → s.triggerStatus c.val v.val true = Status.ok → v.val ≠ 0 → (s.hap c.val).calibrating = false →
      0 < efOd (s.effect v.val) → s.rd Obj.INJ_ENABLE ≠ 1 →
      ∃ t p, exec (.hapCritPlay rq c v) s = .next t ∧ (t.hap c.val).play = some p ∧ p.effect = v.val ∧ p.critical = true ∧ p.phase = .overdrive ∧
        t.answered rq Status.ok ∧ s.sameMemory t) ∧
    (s.critChannel c.val = false → exec (.hapCritPlay rq c v) s = .next (s.answer rq Status.hapNotCritical))) ∧
  (∀ (s : State) (c : Fin 8) (p : HapPlay) (peak : Nat), (s.hap c.val).play = some p → p.cut = false →
    (p.phase = .overdrive → p.half + 1 < efOd p.desc →
      ∃ t q, exec (.halfCycleEnd c peak none) s = .next t ∧ (t.hap c.val).play = some q ∧ q.effect = p.effect ∧ q.phase = .overdrive ∧ q.half = p.half + 1 ∧
        s.sameMemory t) ∧
    (p.phase = .overdrive → efOd p.desc ≤ p.half + 1 → 0 < efSus p.desc →
      ∃ t q, exec (.halfCycleEnd c peak none) s = .next t ∧ (t.hap c.val).play = some q ∧ q.effect = p.effect ∧ q.phase = .sustain ∧ q.half = 0 ∧
        s.sameMemory t) ∧
    (p.phase = .sustain → efSus p.desc ≤ p.half + 1 → 0 < efBrake p.desc →
      ∃ t q, exec (.halfCycleEnd c peak none) s = .next t ∧ (t.hap c.val).play = some q ∧ q.effect = p.effect ∧ q.phase = .braking ∧ q.half = 0 ∧
        s.sameMemory t) ∧
    (p.phase = .braking → peak < s.rd Obj.HAP_BRAKE_THRESH_MV → p.pulse + 1 < efPulses p.desc →
      ∃ t q, exec (.halfCycleEnd c peak none) s = .next t ∧ (t.hap c.val).play = some q ∧ q.effect = p.effect ∧ q.phase = .gap ∧ q.pulse = p.pulse + 1 ∧
        s.sameMemory t) ∧
    (p.phase = .braking → peak < s.rd Obj.HAP_BRAKE_THRESH_MV → efPulses p.desc ≤ p.pulse + 1 → (s.hap c.val).queued = none →
      ∃ t, exec (.halfCycleEnd c peak none) s = .next t ∧ (t.hap c.val).play = none ∧
        t.rd (Obj.HAP_EFFECTS_DONE c.val) = wrapAdd 32 (s.rd (Obj.HAP_EFFECTS_DONE c.val)) 1 ∧ s.sameMemory t) ∧
    (p.phase = .gap → 0 < efOd p.desc →
      ∃ t q, exec (.pulseGapEnd c) s = .next t ∧ (t.hap c.val).play = some q ∧ q.effect = p.effect ∧ q.phase = .overdrive ∧ q.half = 0 ∧ q.pulse = p.pulse ∧
        s.sameMemory t))

/-! ## Audio and chimes (R499 to R528) -/

/-- Streams, ports and routes (R503, R505 to R507, R511): a stream's source may be chosen while it is OFF, and turning it OFF stops it at its next block
boundary; a route table is checked whole and taken with its reserved bits zero; a slave port that loses its clock stops its streams, and they run on when it
is back; each block of a running stream is counted. Chimes (R409, R522): a valid chime waits on the generator chosen for it and starts at the next block
boundary of its bus's domain; a start of chime 0 does nothing, one of a chime that is not VALID is refused, and one that no generator takes is answered BUSY;
a stop drops a chime that waits and ends one that plays at the next boundary; every chime started ends once. -/
def Obligations.AudioStreamsAndChimes : Prop :=
  (
  (∀ (s : State) (rq : Requester) (u : Fin 64) (v : BitVec 32), s.accepts rq (Obj.AUD_STREAM_CFG u.val) v.toNat →
    let new := s.merged (Obj.AUD_STREAM_CFG u.val) v.toNat
    (s.wr (Obj.AUD_STREAM_CFG u.val) new).bridgesNeeded ≤ 16 →
    (cfgSource new = 0 →
      ∃ t, exec (.audStreamCfgWrite rq u v) s = .next t ∧ t.rd (Obj.AUD_STREAM_CFG u.val) = new ∧ (t.stream u.val).stopping = true ∧
        t.answered rq Status.ok ∧ (∀ n, n ≠ u.val → t.stream n = s.stream n) ∧
        s.objectsBut t [Obj.AUD_STREAM_CFG u.val, Obj.AUD_BRIDGES_FREE] ∧ s.sameMemory t) ∧
    (cfgSource new = 1 → field new 14 13 ≠ 3 → cfgSource (s.rd (Obj.AUD_STREAM_CFG u.val)) = 0 →
      ∃ t, exec (.audStreamCfgWrite rq u v) s = .next t ∧ t.rd (Obj.AUD_STREAM_CFG u.val) = new ∧ t.answered rq Status.ok ∧ t.foley = s.foley ∧
        s.objectsBut t [Obj.AUD_STREAM_CFG u.val, Obj.AUD_BRIDGES_FREE] ∧ s.sameMemory t) ∧
    (cfgSource new = 4 → exec (.audStreamCfgWrite rq u v) s = .next (s.answer rq Status.audConfigInvalid))) ∧
  (∀ (s : State) (rq : Requester) (v : Nat), s.accepts rq Obj.AUD_ROUTE_TABLE v →
    let es := routeEntries (v % 2 ^ 32768)
    let table := packItems 8 (es.map (fun e => setField (setField e 31 17 0) 63 48 0))
    ((∀ e ∈ es, rtStream e < 60 ∧ rtBus e < 14) → (∀ e ∈ es, rtValid e = false) → (s.wr Obj.AUD_ROUTE_TABLE table).bridgesNeeded ≤ 16 →
      ∃ t, exec (.audRouteTableWrite rq v) s = .next t ∧ t.rd Obj.AUD_ROUTE_TABLE = table ∧ t.answered rq Status.ok ∧ t.foley = s.foley ∧
        s.objectsBut t [Obj.AUD_ROUTE_TABLE, Obj.AUD_BRIDGES_FREE] ∧ s.sameMemory t) ∧
    ((∃ e ∈ es, 60 ≤ rtStream e ∨ 14 ≤ rtBus e) →
      ∃ t, exec (.audRouteTableWrite rq v) s = .next t ∧ t.answered rq Status.ownerLocked ∧ t.apart = s.apart ∧ s.objectsBut t [Obj.LOG_LOST])) ∧
  (∀ (s : State) (p : Fin 8),
    (bit (s.rd (Obj.TDM_CONFIG p.val)) 0 = true → s.tdmSlave p.val = true → s.rd (Obj.TDM_STATE p.val) ≠ 2 →
      ∃ t, exec (.tdmClockLost p) s = .next t ∧ t.rd (Obj.TDM_STATE p.val) = 2 ∧ (s.log.fifo.length < 256 → t.told Ev.tdmClockLost noOwner [d8 p.val]) ∧
        (∀ u < 60, (s.stream u).running = true → cfgSource (s.stream u).cfg = 2 → field (s.stream u).cfg 5 3 = p.val →
          (t.stream u).clockLost = true ∧ t.rd (Obj.AUD_STREAM_STATE u) = 4) ∧ s.sameMemory t) ∧
    (∀ blocks, s.rd (Obj.TDM_STATE p.val) = 2 →
      ∃ t, exec (.tdmClockBack p blocks) s = .next t ∧ t.rd (Obj.TDM_STATE p.val) = 1 ∧
        (s.log.fifo.length < 256 → t.told Ev.tdmClockBack noOwner [d8 p.val, d32 blocks]) ∧
        (∀ u < 60, (s.stream u).running = true → cfgSource (s.stream u).cfg = 2 → field (s.stream u).cfg 5 3 = p.val → (t.stream u).clockLost = false) ∧
        s.objectsBut t [Obj.TDM_STATE p.val, Obj.LOG_LOST] ∧ s.sameMemory t)) ∧
  (∀ (s : State) (d : Fin 11) (rate : Nat) (ins : List AudioIn) (outs : List AudioOut), 6 ∉ s.clocks.held → s.rd (Obj.DOM_STATE 15) = 1 →
    s.rd Obj.INJ_ENABLE ≠ 1 → ∀ u < 60, (s.stream u).running = true → (s.stream u).stopping = false → s.rd (Obj.AUD_STREAM_CFG u) = (s.stream u).cfg →
    cfgSource (s.stream u).cfg = 2 → s.streamDomain (s.stream u).cfg = d.val → (s.stream u).clockLost = false →
    ∃ t, exec (.blockBoundary d rate ins outs) s = .next t ∧ (t.stream u).blockSeq = wrapAdd 32 (s.stream u).blockSeq 1 ∧
      (t.stream u).lost = (s.stream u).lost ∧ (t.stream u).running = true) ∧
  (∀ (s : State) (d : Fin 11) (rate : Nat) (ins : List AudioIn) (outs : List AudioOut), s.rd (Obj.DOM_STATE 15) ≠ 1 →
    exec (.blockBoundary d rate ins outs) s = .next s)) ∧
  (
  (∀ (s : State) (rq : Requester) (v : Fin 256), s.accepts rq Obj.CHIME_PLAY v.val →
    (v.val = 0 → exec (.chimePlay rq v) s = .next (s.answer rq Status.ok)) ∧
    (v.val ≠ 0 → chValid (s.chimeEntry v.val) = false → exec (.chimePlay rq v) s = .next (s.answer rq Status.audConfigInvalid)) ∧
    (v.val ≠ 0 → chValid (s.chimeEntry v.val) = true → s.chooseGen v.val (chPriority (s.chimeEntry v.val)) = none →
      ∃ t, exec (.chimePlay rq v) s = .next t ∧ t.answered rq Status.chimeBusy ∧
        (s.log.fifo.length < 256 → t.told Ev.chimeRefused noOwner [d8 v.val, dCase Ev.chimeRefused 0]) ∧ t.apart = s.apart ∧ s.objectsBut t [Obj.LOG_LOST]) ∧
    (v.val ≠ 0 → chValid (s.chimeEntry v.val) = true → ∀ g, s.chooseGen v.val (chPriority (s.chimeEntry v.val)) = some g → s.rd Obj.PWR_STATE < 3 →
      ∃ t, exec (.chimePlay rq v) s = .next t ∧ (t.gen g).next = some ⟨v.val, s.chimeEntry v.val, 0, s.order, 0⟩ ∧ (t.gen g).now = (s.gen g).now ∧
        t.answered rq Status.ok ∧ (∀ n, n ≠ g → t.gen n = s.gen n) ∧ s.objectsBut t [Obj.CHIME_NOW] ∧ s.sameMemory t)) ∧
  (∀ (s : State) (rq : Requester) (v : Fin 256), s.accepts rq Obj.CHIME_STOP v.val →
    ∃ t, exec (.chimeStop rq v) s = .next t ∧ t.answered rq Status.ok ∧
      (∀ g < 4, ∀ r, (s.gen g).now = some r → v.val = 0 ∨ r.chime = v.val → (t.gen g).now = some r ∧ (t.gen g).stopping = true) ∧
      (∀ g < 4, ∀ r, (t.gen g).next = some r → v.val ≠ 0 ∧ r.chime ≠ v.val) ∧ s.objectsBut t [Obj.CHIME_NOW] ∧ s.sameMemory t) ∧
  (∀ (s : State) (g : Fin 4) (r : ChimeRun), (s.gen g.val).now = some r →
    ∃ t, exec (.chimeEnd g) s = .next t ∧ (t.gen g.val).now = none ∧ (t.gen g.val).next = (s.gen g.val).next ∧
      (s.log.fifo.length < 256 → t.told Ev.chimeEnd noOwner [d8 r.chime, d8 (60 + g.val), dCase Ev.chimeEnd 0]) ∧ (∀ n, n ≠ g.val → t.gen n = s.gen n) ∧
      s.objectsBut t [Obj.CHIME_NOW, Obj.LOG_LOST] ∧ s.sameMemory t) ∧
  (∀ (s : State) (d : Fin 11) (rate : Nat) (ins : List AudioIn) (outs : List AudioOut) (g : Fin 4) (r : ChimeRun), 6 ∉ s.clocks.held →
    s.rd (Obj.DOM_STATE 15) = 1 → (s.gen g.val).next = some r → (s.gen g.val).now = none → s.bitternDown = false →
    field (s.rd (Obj.AUD_BUS_CFG (chBus r.desc))) 5 4 = d.val →
    ∃ t, exec (.blockBoundary d rate ins outs) s = .next t ∧ (t.gen g.val).now = some { r with played := r.played + 32 } ∧ (t.gen g.val).next = none))

/-! ## LDP and the dictionary (R529 to R572) -/

/-- Requests that read (R544, R545, R549, R552 to R554, R563): each is answered with its status and body, and changes no other object and no byte of memory; a
subscription is held from then on and its notification carries the object's value; CLOSE is answered before its session is free. -/
def Obligations.ReadingRequestsAreAnswered : Prop :=
  ∀ (s : State) (c : LdpChannel), s.canReply c.number = true →
    let ch := c.number
    (∀ x, s.nextTxn ch 0x01 = some x →
      let r := s.ldpReadNow c.requester ch (256 * takeLe x.body 0 2 + at8 x.body 2) (takeLe x.body 4 2) (takeLe x.body 6 2)
      ∃ t, exec (.ldpRead c) s = .next t ∧ s.replied t ch x r.1 r.2 ∧ s.objectsBut t [Obj.SESS_OUTSTANDING ch, Obj.LOG_LOST] ∧ s.sameMemory t) ∧
    (∀ x, s.nextTxn ch 0x03 = some x →
      let body := (List.range (at8 x.body 3 + 1 - at8 x.body 2)).flatMap (fun i => s.readRecord c.requester (256 * takeLe x.body 0 2 + at8 x.body 2 + i))
      ∃ t, exec (.ldpReadBlock c) s = .next t ∧
        (if s.largest ch < overhead ch + body.length then s.replied t ch x Status.ldpTooLarge [] else s.replied t ch x Status.ok body) ∧
        s.objectsBut t [Obj.SESS_OUTSTANDING ch, Obj.LOG_LOST] ∧ s.sameMemory t) ∧
    (∀ x, s.nextTxn ch 0x13 = some x →
      ∃ t, exec (.ldpPing c) s = .next t ∧ s.replied t ch x Status.ok [] ∧ s.objectsBut t [Obj.SESS_OUTSTANDING ch, Obj.LOG_LOST] ∧ s.sameMemory t) ∧
    (∀ x, s.nextTxn ch 0x05 = some x → s.readStatus c.requester (256 * takeLe x.body 0 2 + at8 x.body 2) = Status.ok → at8 x.body 3 = 1 →
      10 ≤ takeLe x.body 4 2 → takeLe x.body 4 2 ≤ 60000 → (s.ldp.subs.filter (fun y => decide (y.channel = ch))).length < 32 → s.ldp.subs.length < 256 →
      ∃ t y, exec (.ldpSubscribe c) s = .next t ∧ t.ldp.subs = s.ldp.subs ++ [y] ∧ y.channel = ch ∧ y.addr = 256 * takeLe x.body 0 2 + at8 x.body 2 ∧
        y.mode = 1 ∧ y.interval = takeLe x.body 4 2 ∧ s.replied t ch x Status.ok (leBytes 2 y.id) ∧
        s.objectsBut t [Obj.SESS_OUTSTANDING ch, Obj.LOG_LOST] ∧ s.sameMemory t) ∧
    (∀ x, s.nextTxn ch 0x06 = some x →
      ((∃ y ∈ s.ldp.subs, y.channel = ch ∧ y.id = takeLe x.body 0 2) →
        ∃ t, exec (.ldpUnsubscribe c) s = .next t ∧ s.replied t ch x Status.ok [] ∧
          (∀ y, y ∈ t.ldp.subs ↔ y ∈ s.ldp.subs ∧ ¬(y.channel = ch ∧ y.id = takeLe x.body 0 2)) ∧ s.sameMemory t) ∧
      ((∀ y ∈ s.ldp.subs, ¬(y.channel = ch ∧ y.id = takeLe x.body 0 2)) →
        ∃ t, exec (.ldpUnsubscribe c) s = .next t ∧ s.replied t ch x Status.ldpRange [] ∧ t.ldp.subs = s.ldp.subs ∧ s.sameMemory t)) ∧
    (∀ x, s.nextTxn ch 0x12 = some x →
      ∃ t, exec (.ldpClose c) s = .next t ∧ IoEvent.ldp ch (s.reply ch x Status.ok []) ∈ t.io ∧ (∀ y ∈ t.ldp.subs, y.channel ≠ ch) ∧
        (isSession ch = true → t.session? ch = none ∧ t.rd (Obj.SESS_STATE ch) = 0 ∧ t.txnsOf ch = []) ∧ s.sameMemory t) ∧
    (∀ (n : Fin 8) (x : Session) (y : Subscription) (lost : Nat), ch = n.val → s.ldpServes = true → s.session? n.val = some x →
      s.ldp.subs.head? = some y → y.channel = n.val → y.mode = 1 → y.last + 1000000 * y.interval ≤ s.dtime →
      let m := ldpMessage 0x40 0 x.number x.nextSeq 0 (notifyBody s y (s.readBytes (.field n) y.addr) lost)
      ∃ t, exec (.ldpNotify y.id lost) s = .next t ∧ t.io.head? = some (.ldp n.val (m ++ macOf x.key m)) ∧ s.objectsBut t [] ∧ s.sameMemory t)

/-- Requests that write (R536, R541, R544 to R546, R549 to R551, R556): a WRITE is the write of its object, and its status is the answer; a WRITE_BLOCK writes
its records and a refused one changes nothing; a part is staged and writes nothing; COMMIT snapshots the stored objects, one at a time, and ends with the
image written, or without; a secret is kept by Bittern while it runs, and waits while it restarts. -/
def Obligations.WritingRequestsAreAnswered : Prop :=
  (∀ (s : State) (c : LdpChannel) (x : LdpTxn),
    let ch := c.number
    (s.nextTxn ch 0x02 = some x → x.more = false → takeLe x.body 4 2 = 0 → ∀ r, rowAt (256 * takeLe x.body 0 2 + at8 x.body 2) = some r → r.ty ≠ .octets →
      let w := s.writeAny c.requester (256 * takeLe x.body 0 2 + at8 x.body 2) (at8 x.body 3) (x.body.drop 8).length (ofBytes (x.body.drop 8))
      ∀ st, w.1 = some st → w.2.canReply ch = true → (ch, x) ∈ w.2.ldp.txns →
        ∃ t, exec (.ldpWrite c) s = .next t ∧ w.2.replied t ch x st [] ∧ w.2.objectsBut t [Obj.SESS_OUTSTANDING ch, Obj.LOG_LOST] ∧ w.2.sameMemory t) ∧
    (s.nextTxn ch 0x02 = some x → x.more = true → s.canReply ch = true → takeLe x.body 4 2 = 0 → s.staged ch = none →
      ∀ r, rowAt (256 * takeLe x.body 0 2 + at8 x.body 2) = some r → r.ty = .octets →
      s.writeStatus c.requester (256 * takeLe x.body 0 2 + at8 x.body 2) (at8 x.body 3) (objLength r (256 * takeLe x.body 0 2 + at8 x.body 2)) 0 = Status.ok →
      (x.body.drop 8).length ≤ objLength r (256 * takeLe x.body 0 2 + at8 x.body 2) →
        ∃ t y, exec (.ldpWrite c) s = .next t ∧ s.replied t ch x Status.ok [] ∧ (ch, y) ∈ t.ldp.staging ∧ y.bytes = x.body.drop 8 ∧ y.lastAt = s.dtime ∧
          s.objectsBut t [Obj.SESS_OUTSTANDING ch, Obj.LOG_LOST] ∧ s.sameMemory t) ∧
    (s.nextTxn ch 0x04 = some x →
      let w := s.writeRecords c.requester (takeLe x.body 0 2) ((blockRecords (at8 x.body 2) (x.body.drop 4)).getD []) none
      (w.1 = none → w.2.1 = none → w.2.2.canReply ch = true → (ch, x) ∈ w.2.2.ldp.txns →
        ∃ t, exec (.ldpWriteBlock c) s = .next t ∧ w.2.2.replied t ch x Status.ok [] ∧
          w.2.2.objectsBut t [Obj.SESS_OUTSTANDING ch, Obj.LOG_LOST] ∧ w.2.2.sameMemory t) ∧
      (s.canReply ch = true → ∀ p, w.1 = some p → p.2 ≠ Status.ok →
        ∃ t, exec (.ldpWriteBlock c) s = .next t ∧ s.replied t ch x p.2 (leBytes 1 (p.1 % 256)) ∧
          s.objectsBut t [Obj.SESS_OUTSTANDING ch, Obj.LOG_LOST] ∧ s.sameMemory t)) ∧
    (s.nextTxn ch 0x08 = some x → s.canReply ch = true →
      (s.roleOf c.requester = 1 →
        ∃ t, exec (.restoreDefaults c) s = .next t ∧ s.replied t ch x Status.accessDenied [] ∧ s.objectsBut t [Obj.SESS_OUTSTANDING ch, Obj.LOG_LOST]) ∧
      (s.roleOf c.requester ≠ 1 → objectsIn (takeLe x.body 0 2) (takeLe x.body 2 2) = [] →
        ∃ t, exec (.restoreDefaults c) s = .next t ∧ s.replied t ch x Status.ok (List.replicate 8 0) ∧
          (s.log.fifo.length < 256 → t.told Ev.restoreDone noOwner [d16 (takeLe x.body 0 2), d16 (takeLe x.body 2 2), d32 0, d32 0]) ∧
          s.objectsBut t [Obj.SESS_OUTSTANDING ch, Obj.LOG_LOST] ∧ s.sameMemory t)) ∧
    (s.nextTxn ch 0x07 = some x → (s.txnsOf ch).head? = some x → s.roleOf c.requester ≠ 1 →
      (s.flash.commit = none → s.bitState ≠ 5 →
        ∃ t, exec (.commitRequest c) s = .next t ∧ t.flash = { s.flash with commit := some ⟨c.requester.code, ch, x.tid, s.storedNow⟩ } ∧
          (ch, { x with waits := some 0 }) ∈ t.ldp.txns ∧ s.objectsBut t [] ∧ s.sameMemory t) ∧
      (s.flash.commit.isSome = true → s.canReply ch = true →
        ∃ t, exec (.commitRequest c) s = .next t ∧ s.replied t ch x Status.ldpCommitBusy [] ∧ t.flash = s.flash)) ∧
    (∀ y, s.staged ch = some y → y.lastAt + 5000000000 ≤ s.dtime →
      ∃ t, exec (.stagingTimeout c) s = .next t ∧ t.staged ch = none ∧ { t with ldp := s.ldp } = s)) ∧
  (∀ (s : State) (c : CommitRun), s.flash.commit = some c → s.bitState = 3 → s.ldpServes = true → s.flash.again = false →
    (s.rd Obj.INJ_ENABLE ≠ 1 →
      ∃ t, exec (.commitDone true) s = .next t ∧ t.flash.commit = none ∧ t.flash.generation = (s.flash.generation + 1) % 2 ^ 32 ∧
        t.flash.last = some s.flash.target ∧ (s.flash.target, ⟨t.flash.generation, c.snapshot⟩) ∈ t.flash.copies ∧
        (s.log.fifo.length < 256 → t.told Ev.commitDone noOwner [d32 t.flash.generation, d32 c.snapshot.length, dCase Ev.commitDone (classCode c.requester)]) ∧ s.sameMemory t) ∧
    (∃ t, exec (.commitDone false) s = .next t ∧ t.flash.commit = none ∧ t.flash.generation = s.flash.generation ∧
      (∀ e ∈ t.flash.copies, e.1 ≠ s.flash.target) ∧ (s.log.fifo.length < 256 → t.told Ev.commitFailed noOwner [d16 Status.ldpStoreFailed]) ∧ s.sameMemory t)) ∧
  (∀ (s : State) (rq : Requester) (cred : Fin 8) (blob : Nat), s.accepts rq (Obj.CRED_SECRET cred.val) (blob % 2 ^ 1096) →
    (s.bitState = 3 → byteAt (blob % 2 ^ 1096) 0 = 4 →
      let u := Config.unwrapSecret cred.val (blob % 2 ^ 1096)
      ∃ t, exec (.credSecretWrite rq cred blob) s = .next t ∧ t.answered rq (if u.isSome then Status.ok else Status.credUnwrapFailed) ∧
        Tab.get 0 t.ldp.secrets cred.val = u.elim (Tab.get 0 s.ldp.secrets cred.val) (fun x => x % 2 ^ 256) ∧
        t.rd (Obj.CRED_SECRET cred.val) = u.elim (s.rd (Obj.CRED_SECRET cred.val)) (fun x => Config.wrapSecret cred.val x % 2 ^ 320 * 2 ^ 776) ∧
        s.objectsBut t [Obj.CRED_SECRET cred.val, Obj.LOG_LOST] ∧ s.sameMemory t) ∧
    (s.bitState = 3 → byteAt (blob % 2 ^ 1096) 0 ≠ 4 →
      ∃ t, exec (.credSecretWrite rq cred blob) s = .next t ∧ t.answered rq Status.credUnwrapFailed ∧ t.apart = s.apart ∧ s.objectsBut t [Obj.LOG_LOST]) ∧
    (s.bitState ≠ 3 → s.bitState ≠ 5 →
      ∃ t, exec (.credSecretWrite rq cred blob) s = .next t ∧ t.ldp.blobs = s.ldp.blobs ++ [(rq, cred.val, blob % 2 ^ 1096)] ∧ { t with ldp := s.ldp } = s))

/-- Sessions and what carries them (R543, R557 to R567): an OPEN that may takes a free slot and is answered with nonce_d; a right CONFIRM opens it and a wrong
one frees it; a slot that is not confirmed, and a session that is idle, are freed; datagrams and frames are taken as LDP only where LDP is; a dictionary
window takes one request at a time. -/
def Obligations.SessionsOpenCloseAndCarry : Prop :=
  (∀ (s : State) (nonce : BitVec 128) (a : OpenAsk) (rest : List OpenAsk), s.ldp.opens = a :: rest → s.ldpServes = true →
    (∀ n, s.openStatus (at8 a.body 0) = Status.ok → (List.range 8).find? (fun n => (s.session? n).isNone) = some n →
      ∃ t x, exec (.ldpOpen nonce) s = .next t ∧ t.session? n = some x ∧ x.cred = at8 a.body 0 ∧ x.transport = a.transport ∧ x.nextSeq = 1 ∧
        t.rd (Obj.SESS_STATE n) = 1 ∧ t.rd (Obj.SESS_CRED n) = at8 a.body 0 ∧ t.ldp.opens = rest ∧
        t.io.head? = some (.ldp n (ldpMessage 0x90 a.tid x.number 0 Status.ok (leBytes 16 nonce.toNat))) ∧
        s.objectsBut t [Obj.SESS_STATE n, Obj.SESS_SOURCE n, Obj.SESS_CRED n] ∧ s.sameMemory t) ∧
    (s.openStatus (at8 a.body 0) ≠ Status.ok →
      ∃ t, exec (.ldpOpen nonce) s = .next t ∧ t.ldp = { s.ldp with opens := rest } ∧
        t.io.head? = some (.ldp (0x100 + a.transport) (ldpMessage 0x90 a.tid 0 0 (s.openStatus (at8 a.body 0)) [])) ∧ s.objectsBut t [] ∧ s.sameMemory t)) ∧
  (∀ (s : State) (n : Fin 8) (x : Session) (m : LdpTxn), s.session? n.val = some x → s.nextTxn n.val 0x11 = some m →
    let good := m.body = x.nonceC ++ x.nonceD ∧ m.raw.drop (m.raw.length - 16) = macOf x.key (m.raw.take (m.raw.length - 16))
    let reply := fun (st : Nat) => let r := ldpMessage 0x91 m.tid x.number 0 st []; r ++ macOf x.key r
    (good → s.rd Obj.INJ_ENABLE ≠ 1 →
      ∃ t, exec (.ldpConfirm n) s = .next t ∧ t.rd (Obj.SESS_STATE n.val) = 2 ∧ t.rd (Obj.SESS_OPENED n.val) = s.now.pack ∧
        (t.session? n.val).map Session.since = some s.dtime ∧ t.txnsOf n.val = [] ∧ t.io.head? = some (.ldp n.val (reply Status.ok)) ∧
        (s.log.fifo.length < 256 → t.told Ev.sessionOpen noOwner [d8 n.val, d8 x.transport, d8 x.cred]) ∧ s.sameMemory t) ∧
    (¬good →
      ∃ t, exec (.ldpConfirm n) s = .next t ∧ t.session? n.val = none ∧ t.rd (Obj.SESS_STATE n.val) = 0 ∧
        t.rd Obj.LDP_AUTH_FAILS = wrapAdd 32 (s.rd Obj.LDP_AUTH_FAILS) 1 ∧ t.io.head? = some (.ldp n.val (reply Status.authFailed)) ∧ s.sameMemory t)) ∧
  (∀ (s : State) (n : Fin 8) (x : Session), s.session? n.val = some x →
    (s.rd (Obj.SESS_STATE n.val) = 1 → x.since + 5000000000 < s.dtime →
      ∃ t, exec (.confirmTimeout n) s = .next t ∧ t.session? n.val = none ∧ t.rd (Obj.SESS_STATE n.val) = 0 ∧ t.txnsOf n.val = [] ∧ s.sameMemory t) ∧
    (s.rd (Obj.SESS_STATE n.val) = 2 → x.since + 1000000000 * s.rd Obj.LDP_SESSION_IDLE ≤ s.dtime →
      let started := ((s.txnsOf n.val).filter (fun t => t.waits.isSome)).length
      ∃ t, exec (.sessionIdle n) s = .next t ∧ t.session? n.val = none ∧ t.rd (Obj.SESS_STATE n.val) = 0 ∧ t.txnsOf n.val = [] ∧
        (s.log.fifo.length < 256 → t.told Ev.sessionClose noOwner
          [d8 n.val, dCase Ev.sessionClose closeIdle, d32 ((s.txnsOf n.val).length - started), d32 started]) ∧ s.sameMemory t)) ∧
  (∀ (s : State) (cred : Fin 8), s.lockedOut cred.val = false →
    ∃ t, exec (.authLockoutEnd cred) s = .next t ∧ (∀ e ∈ t.ldp.locked, e.1 ≠ cred.val) ∧ { t with ldp := s.ldp } = s) ∧
  (∀ (s : State) (mac : Fin 2) (ip : BitVec 32) (port : BitVec 16) (bytes : List (BitVec 8)), s.ldpServes = true →
    bit (s.rd Obj.LDP_UDP_ENABLE) mac.val = true → bytes.length ≤ 1472 → s.bitternRes (0x16 + mac.val) = false →
    (formOk bytes 0 = true → at8 bytes 1 = 0x10 → takeLe bytes 4 2 = 0 →
      ∃ t, exec (.udpDatagram mac ip port false bytes) s = .next t ∧
        t.ldp.opens = s.ldp.opens ++ [⟨0, mac.val, ip.toNat, port.toNat, takeLe bytes 2 2, bytes.drop 16⟩] ∧ { t with ldp := s.ldp } = s) ∧
    (formOk bytes 16 = true → at8 bytes 1 ≠ 0x10 → at8 bytes 1 ≠ 0x11 → takeLe bytes 4 2 ≠ 0 →
      s.sessionOf (takeLe bytes 4 2) 0 mac.val ip.toNat port.toNat = none →
      ∃ t, exec (.udpDatagram mac ip port false bytes) s = .next t ∧ t.io.head? = some (.ldp 0x100
        (ldpMessage (at8 bytes 1 % 128 + 0x80) (takeLe bytes 2 2) (takeLe bytes 4 2) 0 Status.sessionUnknown [])) ∧ { t with io := s.io } = s) ∧
    exec (.udpDatagram mac ip port true bytes) s = .next s) ∧
  (∀ (s : State) (mac : Fin 2) (echo : Bool) (ip : BitVec 32), s.ldpServes = true → bit (s.rd Obj.LDP_UDP_ENABLE) mac.val = true →
    s.rd (Obj.LDP_IPV4_ADDR mac.val) = ip.toNat → exec (.arpIcmp mac echo ip) s = .next (s.emit (.ethernet mac.val (ofBool echo)))) ∧
  (∀ (s : State) (ctl : Fin 4) (id : BitVec 32) (bytes : List (BitVec 8)), s.ldpServes = true → s.rd Obj.LDP_CAN_CONTROLLER = ctl.val →
    s.bitternRes ctl.val = false → s.rd Obj.LDP_CAN_REQ_ID = id.toNat → s.rd Obj.PWR_STATE = 0 → s.ldp.can = none →
    at8 bytes 0 = 0x40 → bytes.length = 64 → 63 ≤ takeLe bytes 1 2 → takeLe bytes 1 2 ≤ 4160 →
    ∃ t, exec (.canFrame ctl id bytes) s = .next t ∧ t.ldp.can = some ⟨takeLe bytes 1 2, bytes.drop 3, 1, s.dtime⟩ ∧ { t with ldp := s.ldp } = s) ∧
  (∀ (s : State) (r : CanRx), s.ldp.can = some r → r.lastAt + 100000000 < s.dtime →
    ∃ t, exec .canSegmentLost s = .next t ∧ t.ldp.can = none ∧
      (s.log.fifo.length < 256 → t.told Ev.canSegmentLost noOwner [d8 (s.rd Obj.LDP_CAN_CONTROLLER), d32 r.bytes.length]) ∧
      s.objectsBut t [Obj.LOG_LOST] ∧ s.sameMemory t) ∧
  (∀ (s : State) (w : Window) (v : BitVec 32) (bytes : List (BitVec 8)), s.windowLive w.code = true → s.barServed = true → s.rd Obj.PWR_STATE < 3 →
    let buffer := writeBuffer (s.inst w.code).window.request 0 (bytes.take 8192)
    let n := field v.toNat 12 0
    let m := buffer.take n ++ List.replicate (n - buffer.length) 0
    ((s.inst w.code).window.busy = true →
      ∃ t, exec (.dictGo w v bytes) s = .next t ∧ (t.inst w.code).window.goRefused = true ∧ t.ldp = s.ldp ∧ s.objectsBut t [] ∧ s.sameMemory t) ∧
    ((s.inst w.code).window.busy = false → s.resetting w.code = false → s.ldpServes = true → n ≤ 4160 → formOk m 0 = true →
      at8 m 1 ≠ 0x10 → at8 m 1 ≠ 0x11 →
      ∃ t, exec (.dictGo w v bytes) s = .next t ∧ (t.inst w.code).window.busy = true ∧ (t.inst w.code).window.irq = bit v.toNat 16 ∧
        t.ldp.txns = s.ldp.txns ++ [(windowChannel w.code, { txnOf m 0 with raw := [] })] ∧ s.objectsBut t [] ∧ s.sameMemory t))

/-! ## Clocks, gates and domains (R573 to R592) -/

/-- The crystal, PLLs and monitors (R574, R575, R577, R580 to R582): after its delay the ROM counts the crystal, takes the nominal value it fits and starts
the PLLs, or halts; a PLL locks at the frequency asked, as its range allows; one that feeds no open gate may be stopped; a monitor's window gives its count
and its state. -/
def Obligations.CrystalPllsAndMonitors : Prop :=
  (∀ s : State, s.boot.stage = 1 → s.boot.since + xoDelayMs (s.rd Obj.RST_STRAPS) * 1000000 ≤ s.dtime → s.rd Obj.CLK_SOURCE = 0 →
    ∃ t, exec .xoDelayExpiry s = .next t ∧ t.clocks.counting = true ∧ { t with clocks := s.clocks } = s) ∧
  (∀ (s : State) (khz : Nat), s.clocks.counting = true →
    (∀ f, crystals.find? (crystalOk khz) = some f →
      ∃ t, exec (.xoCountDone khz) s = .next t ∧ t.clocks.counting = false ∧ t.rd Obj.CLK_SOURCE = 1 ∧ t.rd Obj.XO_FREQ_KHZ = f ∧
        t.rd (Obj.CLKMON_STATE 0) = 1 ∧ t.rd (Obj.CLKMON_KHZ 0) = khz ∧ (∀ n < 10, t.rd (Obj.PLL_ENABLE n) = 1 ∧ t.rd (Obj.PLL_STATE n) = 1) ∧
        (s.log.fifo.length < 256 → t.told Ev.xoSelected noOwner [d32 f]) ∧ s.sameMemory t) ∧
    (crystals.find? (crystalOk khz) = none →
      ∃ t, exec (.xoCountDone khz) s = .next t ∧ t.bitState = 5 ∧ t.rd Obj.BIT_BOOT_RESULT = 0x000C ∧ t.boot.stage = 7)) ∧
  (∀ (s : State) (n : Fin 10) (khz : Nat), s.rd (Obj.PLL_STATE n.val) = 1 →
    ∃ t, exec (.pllLocked n khz) s = .next t ∧ t.rd (Obj.PLL_STATE n.val) = 2 ∧ t.rd (Obj.CLKMON_STATE (n.val + 1)) = 1 ∧
      (n.val ≠ 1 → n.val ≠ 2 → t.rd (Obj.PLL_FREQ_KHZ n.val) = clampNat (pllRange n.val).1 (pllRange n.val).2 khz) ∧ s.sameMemory t) ∧
  (∀ (s : State) (rq : Requester) (n : Fin 10),
    (s.accepts rq (Obj.PLL_ENABLE n.val) 1 → s.rd (Obj.PLL_STATE n.val) = 0 →
      ∃ t, exec (.pllEnable rq n 1) s = .next t ∧ t.rd (Obj.PLL_ENABLE n.val) = 1 ∧ t.rd (Obj.PLL_STATE n.val) = 1 ∧ t.answered rq Status.ok ∧
        s.objectsBut t [Obj.PLL_ENABLE n.val, Obj.PLL_STATE n.val] ∧ t.apart = s.apart) ∧
    (s.accepts rq (Obj.PLL_ENABLE n.val) 0 →
      ((∀ g ∈ s.feeds (.pll n.val), s.gateOpen g = false) →
        ∃ t, exec (.pllEnable rq n 0) s = .next t ∧ t.rd (Obj.PLL_ENABLE n.val) = 0 ∧ t.rd (Obj.PLL_STATE n.val) = 0 ∧
          t.rd (Obj.CLKMON_STATE (n.val + 1)) = 0 ∧ t.answered rq Status.ok ∧ t.apart = s.apart) ∧
      ((∃ g ∈ s.feeds (.pll n.val), s.gateOpen g = true) → exec (.pllEnable rq n 0) s = .next (s.answer rq Status.childActive)))) ∧
  (∀ (s : State) (m : Fin 11) (khz : Nat), s.rd (Obj.CLKMON_STATE m.val) ≠ 0 → s.rd (Obj.CLKMON_INJECT m.val) = 0 →
    let expected := if m.val = 0 then s.rd Obj.XO_FREQ_KHZ else s.rd (Obj.PLL_FREQ_KHZ (m.val - 1))
    let r := monitorNext (s.rd (Obj.CLKMON_STATE m.val)) expected khz (Tab.get (0, 0) s.clocks.runs m.val) 0
    ∃ t, exec (.clkmonWindow m khz) s = .next t ∧ t.rd (Obj.CLKMON_STATE m.val) = r.1 ∧ t.rd (Obj.CLKMON_KHZ m.val) = khz ∧
      Tab.get (0, 0) t.clocks.runs m.val = r.2 ∧
      (r.1 = 3 → r.1 ≠ s.rd (Obj.CLKMON_STATE m.val) → s.log.fifo.length < 256 → t.told Ev.clkStopped noOwner [d8 m.val]) ∧ s.sameMemory t) ∧
  (∀ (s : State) (rq : Requester) (m : Fin 11) (v : Fin 256), s.accepts rq (Obj.CLKMON_INJECT m.val) v.val → v.val ≠ 0 →
    (s.rd Obj.INJ_ENABLE = 1 → rangeStatus (Obj.CLKMON_INJECT m.val) v.val = Status.ok →
      ∃ t, exec (.clkmonInject rq m v) s = .next t ∧ t.rd (Obj.CLKMON_INJECT m.val) = s.merged (Obj.CLKMON_INJECT m.val) v.val ∧ t.answered rq Status.ok ∧
        s.objectsBut t [Obj.CLKMON_INJECT m.val] ∧ t.apart = s.apart) ∧
    (s.rd Obj.INJ_ENABLE ≠ 1 → exec (.clkmonInject rq m v) s = .next (s.answer rq Status.accessDenied)))

/-- Multiplexers (R584 to R587): a write begins a switch to a clock that runs, and completes when both clocks have stepped; one that has not after 10 µs is
recorded once; a forced switch connects the new clock at once and holds the blocks below in reset until it is released. -/
def Obligations.MultiplexersSwitch : Prop :=
  (∀ (s : State) (rq : Requester) (x : Fin 19) (v : Fin 256), s.accepts rq (Obj.MUX_SEL x.val) v.val → s.switch? x.val = none →
    (∀ src, muxInput x.val v.val = some src → s.sourceRuns src = true → (7 ≤ x.val → s.gateOpen (muxGate x.val) = false) →
      ∃ t, exec (.muxSel rq x v) s = .next t ∧ t.switch? x.val = some ⟨s.rd (Obj.MUX_SEL x.val), v.val, s.dtime, false, rq⟩ ∧
        t.rd (Obj.MUX_STATUS x.val) = 1 ∧ t.rd (Obj.MUX_SEL x.val) = s.rd (Obj.MUX_SEL x.val) ∧ s.objectsBut t [Obj.MUX_STATUS x.val] ∧ s.sameMemory t) ∧
    (∀ src, muxInput x.val v.val = some src → s.sourceRuns src = false → exec (.muxSel rq x v) s = .next (s.answer rq Status.sourceStopped))) ∧
  (∀ (s : State) (x : Fin 19) (w : MuxSwitch), s.switch? x.val = some w →
    (s.inputRuns x.val w.old = true → s.inputRuns x.val w.new = true →
      ∃ t, exec (.muxSwitchDone x) s = .next t ∧ t.rd (Obj.MUX_SEL x.val) = w.new ∧ t.rd (Obj.MUX_STATUS x.val) = 0 ∧ t.switch? x.val = none ∧ s.sameMemory t) ∧
    (s.inputRuns x.val w.old = false ∨ s.inputRuns x.val w.new = false → exec (.muxSwitchDone x) s = .next s) ∧
    (w.stuck = false → w.since + 10000 ≤ s.dtime →
      ∃ t, exec (.switchStuck x) s = .next t ∧ t.switch? x.val = some { w with stuck := true } ∧
        (s.log.fifo.length < 256 → t.told Ev.switchStuck noOwner [d8 x.val, d8 w.old, d8 w.new]) ∧ s.objectsBut t [Obj.LOG_LOST] ∧ s.sameMemory t)) ∧
  (∀ (s : State) (rq : Requester) (x : Fin 19) (v : Fin 256) (straps : BitVec 16) (queued : List (Nat × Nat)), s.accepts rq (Obj.MUX_FORCE x.val) v.val →
    v.val ≠ 0 →
    (s.switch? x.val = none → exec (.forceSel rq x v straps queued) s = .next (s.answer rq Status.forceNotPending)) ∧
    (∀ w, s.switch? x.val = some w → x.val = 3 ∨ 6 ≤ x.val →
      ∃ t, exec (.forceSel rq x v straps queued) s = .next t ∧ t.rd (Obj.MUX_SEL x.val) = w.new ∧ t.rd (Obj.MUX_STATUS x.val) = 0 ∧ t.switch? x.val = none ∧
        x.val ∈ t.clocks.held ∧ t.answered rq Status.ok)) ∧
  (∀ (s : State) (x : Fin 19), x.val ∈ s.clocks.held →
    ∃ t, exec (.forceSelResetRelease x) s = .next t ∧ x.val ∉ t.clocks.held ∧ (x.val < 7 → { t with clocks := s.clocks } = s))

/-- Gates and domains (R589 to R592, R624): a gate opens with those above it; a close waits until its blocks are idle, and is withdrawn when one is not; a
domain is switched on, off and reset as asked, except those that no request controls, and one with an open gate is neither stopped nor reset. -/
def Obligations.GatesAndDomainsFollowRequests : Prop :=
  (∀ (s : State) (rq : Requester) (g : Fin 128),
    (s.accepts rq (Obj.GATE_CTRL g.val) 1 →
      (gateFixed g.val = true → exec (.gateOpen rq g) s = .next (s.answer rq Status.notControllable)) ∧
      (gateFixed g.val = false → (requesterNormal rq = true → ∀ h ∈ g.val :: gateAncestors g.val 4, s.bitternOwns (Obj.GATE_CTRL h) = false) →
        s.rd (Obj.GATE_STATE g.val) ≠ 2 →
        ∃ t, exec (.gateOpen rq g) s = .next t ∧ (∀ h ∈ g.val :: gateAncestors g.val 4, t.rd (Obj.GATE_CTRL h) = 1) ∧ t.answered rq Status.ok ∧ s.sameMemory t)) ∧
    (s.accepts rq (Obj.GATE_CTRL g.val) 0 → gateFixed g.val = false → s.gateChildren g.val = false →
      (s.rd (Obj.GATE_STATE g.val) ≠ 0 →
        ∃ t, exec (.gateClose rq g) s = .next t ∧ t.rd (Obj.GATE_CTRL g.val) = 0 ∧ t.rd (Obj.GATE_STATE g.val) = 2 ∧
          t.clocks.closing = s.clocks.closing ++ [(g.val, rq)] ∧ s.objectsBut t [Obj.GATE_CTRL g.val, Obj.GATE_STATE g.val] ∧ s.sameMemory t) ∧
      (s.rd (Obj.GATE_STATE g.val) = 0 →
        ∃ t, exec (.gateClose rq g) s = .next t ∧ t.rd (Obj.GATE_CTRL g.val) = 0 ∧ t.answered rq Status.ok ∧ s.objectsBut t [Obj.GATE_CTRL g.val] ∧
          t.apart = s.apart)) ∧
    (s.rd (Obj.GATE_STATE g.val) = 2 →
      (s.gateBusy g.val = false →
        ∃ t, exec (.gateCloseComplete g) s = .next t ∧ t.rd (Obj.GATE_STATE g.val) = 0 ∧ (∀ e ∈ t.clocks.closing, e.1 ≠ g.val) ∧ s.sameMemory t) ∧
      (∀ block, ∃ t, exec (.busyRefused g block) s = .next t ∧ t.rd (Obj.GATE_STATE g.val) = 1 ∧ t.rd (Obj.GATE_CTRL g.val) = 1 ∧
        (∀ e ∈ t.clocks.closing, e.1 ≠ g.val) ∧ (s.log.fifo.length < 256 → t.told Ev.busyRefused noOwner [d8 g.val, d8 block]) ∧ s.sameMemory t))) ∧
  (∀ (s : State) (rq : Requester) (d : Fin 17),
    (s.accepts rq (Obj.DOM_CTRL d.val) 1 →
      (domainFixed d.val = true → exec (.domainOn rq d) s = .next (s.answer rq Status.notControllable)) ∧
      (domainFixed d.val = false → s.domainOn d.val = true →
        ∃ t, exec (.domainOn rq d) s = .next t ∧ t.rd (Obj.DOM_CTRL d.val) = 1 ∧ t.answered rq Status.ok ∧ t.apart = s.apart) ∧
      (domainFixed d.val = false → s.domainOn d.val = false → domainState (s.rd Obj.PWR_STATE) d.val = 1 →
        ∃ t, exec (.domainOn rq d) s = .next t ∧ t.rd (Obj.DOM_CTRL d.val) = 1 ∧ t.rd (Obj.DOM_STATE d.val) = 3 ∧
          t.clocks.domains = s.clocks.domains ++ [(d.val, rq)] ∧ s.objectsBut t [Obj.DOM_CTRL d.val, Obj.DOM_STATE d.val] ∧ s.sameMemory t)) ∧
    (s.rd (Obj.DOM_STATE d.val) = 3 →
      ∃ t, exec (.domainOnComplete d) s = .next t ∧ t.rd (Obj.DOM_STATE d.val) = 1 ∧ (∀ e ∈ t.clocks.domains, e.1 ≠ d.val)) ∧
    (s.accepts rq (Obj.DOM_CTRL d.val) 0 → domainFixed d.val = false →
      (s.domainGates d.val = true → exec (.domainOff rq d) s = .next (s.answer rq Status.childActive)) ∧
      (s.domainGates d.val = false →
        ∃ t, exec (.domainOff rq d) s = .next t ∧ t.rd (Obj.DOM_CTRL d.val) = 0 ∧ t.rd (Obj.DOM_STATE d.val) = 0 ∧ t.answered rq Status.ok)) ∧
    (s.accepts rq (Obj.DOM_CTRL d.val) 2 → domainFixed d.val = false → s.domainGates d.val = false → s.rd (Obj.DOM_CTRL d.val) ≠ 0 →
      ∃ t, exec (.domainReset rq d) s = .next t ∧ t.rd (Obj.DOM_CTRL d.val) = 2 ∧ t.answered rq Status.ok) ∧
    (s.rd (Obj.DOM_CTRL d.val) = 2 → ∃ t, exec (.domainResetRelease d) s = .next t ∧ t.rd (Obj.DOM_CTRL d.val) = 1))

/-! ## Power (R593 to R606) -/

/-- Power states (R595 to R598): a deeper state that the tolerances allow is entered and recorded, with its domains; a wake event begins an exit to S0; its
end is the state aimed at, recorded with what it took. During a SAG none of this moves. -/
def Obligations.PowerStatesAreEnteredAndLeft : Prop :=
  (∀ (s : State) (target : Fin 5), s.boot.stage = 6 → s.power.sag = none → s.power.exitCause = none → s.rd Obj.PWR_STATE < target.val →
    (exitLatency target.val ≤ s.minTolerance.1 →
      ∃ t, exec (.stateEnter target) s = .next t ∧ t.rd Obj.PWR_STATE = target.val ∧
        (∀ d < 17, t.rd (Obj.DOM_STATE d) = if s.rd (Obj.DOM_CTRL d) = 0 then 0 else domainState target.val d) ∧
        (target.val < 3 → s.log.fifo.length < 256 → t.told Ev.stateEnter noOwner [d8 target.val, d32 s.minTolerance.1, d8 s.minTolerance.2])) ∧
    (s.minTolerance.1 < exitLatency target.val → exec (.stateEnter target) s = .next s)) ∧
  (∀ (s : State) (cause : Fin 8), cause.val < 7 → s.rd Obj.PWR_STATE ≠ 0 → s.power.exitCause = none →
    (s.power.sag = none →
      ∃ t, exec (.wakeEvent cause) s = .next t ∧ t.power = { s.power with exitCause := some cause.val, exitFrom := s.dtime, target := 0 } ∧
        { t with power := s.power } = s) ∧
    (s.power.sag.isSome = true → exec (.wakeEvent cause) s = .next s)) ∧
  (∀ (s : State) (cause : Nat), s.power.exitCause = some cause →
    ∃ t, exec .stateExit s = .next t ∧ t.rd Obj.PWR_STATE = s.power.target ∧ t.power.exitCause = none ∧
      (∀ d < 17, t.rd (Obj.DOM_STATE d) = if s.rd (Obj.DOM_CTRL d) = 0 then 0 else domainState s.power.target d) ∧
      (s.rd Obj.PWR_STATE < 3 → s.log.fifo.length < 256 →
        t.told Ev.stateExit noOwner [d8 (s.rd Obj.PWR_STATE), dCase Ev.stateExit cause, d32 ((s.dtime - s.power.exitFrom) / 1000)]))

/-- Limits, temperature and rails (R599 to R606): a power above the limit lowers a ceiling by a step and one calm for 10 ms raises it; a hot die lowers the
clocks and a cooler one frees them; 10 °C above the rated temperature the device holds itself in reset until it has cooled; a SAG is counted, abandons
Dailies, and is recorded with its lowest voltage 1 ms after the last rail has recovered; a brown-out is a power-on reset that names its rail. -/
def Obligations.PowerLimitsTripsAndSags : Prop :=
  (∀ (s : State) (mw : Nat),
    let samples := (mw :: s.power.samples).take 10
    let mean := sumNat samples / Nat.max 1 samples.length
    let limit := s.rd Obj.PWR_LIMIT_W * 1000
    let p := ({ s.power with samples := samples } : Power).limit (Nat.blt limit mean) (Nat.ble (mean * 100) (limit * 95))
    ∃ t, exec (.powerMeasurement mw) s = .next t ∧ t.power.samples = samples ∧ t.power.rasCeiling = p.rasCeiling ∧ t.power.gafCeiling = p.gafCeiling ∧
      t.power.calm = p.calm ∧ t.rd Obj.PWR_DRAWN_MW = mean % 2 ^ 32 ∧ t.rd Obj.RAS_POWER_CEILING = Nat.min p.rasCeiling s.power.hotCeiling ∧ s.sameMemory t) ∧
  (∀ (s : State) (c : Int), s.power.hotUntil ≤ s.dtime → s.rd Obj.INJ_ENABLE ≠ 1 →
    (Config.ratedTj - 5 < c →
      ∃ t, exec (.thermalThrottle c) s = .next t ∧ t.power.hotCeiling = Nat.max 400 (s.power.hotCeiling - 100) ∧ bit (t.rd Obj.PWR_STATUS) 2 = true ∧
        t.rd Obj.PWR_TJ_C = ofSigned 16 c ∧ s.sameMemory t) ∧
    (c < Config.ratedTj - 10 → s.power.hotCeiling < 1800 →
      ∃ t, exec (.thermalThrottle c) s = .next t ∧ t.power.hotCeiling = 1800 ∧ bit (t.rd Obj.PWR_STATUS) 2 = false ∧ s.sameMemory t) ∧
    (Config.ratedTj + 10 ≤ c →
      ∃ t, exec (.thermalTrip c) s = .next t ∧ t.boot.stage = 0 ∧ t.boot.tripped = true ∧ t.mem = [] ∧ t.items = [] ∧ t.pending = s.pending) ∧
    (c < Config.ratedTj + 10 → ∃ t, exec (.thermalTrip c) s = .next t ∧ t.boot = s.boot ∧ t.rd Obj.PWR_TJ_C = ofSigned 16 c ∧ s.sameMemory t)) ∧
  (∀ (s : State) (c : Int) (straps : BitVec 16),
    (s.boot.tripped = true → c ≤ Config.ratedTj - 10 →
      ∃ t, exec (.thermalTripRelease c straps) s = .next t ∧ t.boot.stage = 1 ∧ t.boot.tripped = false ∧ t.rd Obj.RST_LAST_CAUSE = 5 ∧
        t.rd Obj.RST_STRAPS = straps.toNat &&& 0x0F37 ∧ t.mem = []) ∧
    (Config.ratedTj - 10 < c → exec (.thermalTripRelease c straps) s = .next s)) ∧
  (∀ (s : State) (rail : Fin 12) (mv : Nat),
    (mv < s.warnMv rail.val → s.power.sag = none →
      ∃ t g, exec (.sagStart rail mv) s = .next t ∧ t.power.sag = some g ∧ g.rail = rail.val ∧ g.lowest = mv ∧ g.start = s.dtime ∧ g.recovered = none ∧
        t.rd (Obj.SUP_SAG_COUNT rail.val) = wrapAdd 32 (s.rd (Obj.SUP_SAG_COUNT rail.val)) 1 ∧ t.rd (Obj.SUP_STATE rail.val) = 1 ∧
        bit (t.rd Obj.PWR_STATUS) 3 = true ∧ t.dailies.running = [] ∧ s.sameMemory t) ∧
    (s.rd (Obj.SUP_STATE rail.val) = 1 → ∀ g, s.power.sag = some g →
      ∃ t, exec (.railRecovered rail mv) s = .next t ∧ t.rd (Obj.SUP_STATE rail.val) = 0 ∧
        t.power.sag = some { g with lowest := if g.rail = rail.val then Nat.min g.lowest mv else g.lowest,
                                    recovered := if (List.range 12).all (fun r => decide (r = rail.val) || decide (s.rd (Obj.SUP_STATE r) = 0)) then some s.dtime else none } ∧
        s.objectsBut t [Obj.SUP_STATE rail.val] ∧ s.sameMemory t)) ∧
  (∀ (s : State) (g : Sag), s.power.sag = some g → g.rail < 12 → ∀ at_, g.recovered = some at_ →
    (at_ + 1000000 ≤ s.dtime →
      ∃ t, exec .sag s = .next t ∧ t.power.sag = none ∧ bit (t.rd Obj.PWR_STATUS) 3 = false ∧
        t.rd (Obj.SUP_LAST_SAG g.rail) = lastSag g.lowest ((at_ - g.start) / 1000) g.pos g.start ∧
        (s.log.fifo.length < 256 → t.told Ev.sag noOwner [d8 g.rail, d32 g.lowest, d32 ((at_ - g.start) / 1000)]) ∧ s.sameMemory t) ∧
    (s.dtime < at_ + 1000000 → exec .sag s = .next s)) ∧
  (∀ (s : State) (rq : Requester) (rail : Fin 12) (v : Fin 256), s.accepts rq (Obj.SUP_INJECT rail.val) v.val → v.val ≠ 0 →
    (s.rd Obj.INJ_ENABLE = 1 → s.power.sag = none →
      ∃ t g, exec (.supInject rq rail v) s = .next t ∧ t.power.sag = some g ∧ g.rail = rail.val ∧ g.injected = true ∧ g.recovered = some (s.dtime + 100000) ∧
        t.answered rq Status.ok ∧ s.sameMemory t) ∧
    (s.rd Obj.INJ_ENABLE ≠ 1 → exec (.supInject rq rail v) s = .next (s.answer rq Status.accessDenied))) ∧
  (∀ (s : State) (rail : Fin 2), s.rd Obj.PWR_AVS_I2C ≠ 0xFF →
    (s.power.avsHeld = false →
      ∃ t, exec (.avsSettle rail) s = .next t ∧ Tab.get 0 t.power.levels rail.val = s.rd (Obj.SUP_TARGET_MV rail.val) ∧
        (rail.val = 1 → t.power.avsWaits = none) ∧ s.sameMemory t) ∧
    (∃ t, exec (.avsFault rail) s = .next t ∧ t.power = { s.power with avsHeld := true } ∧
      (s.log.fifo.length < 256 → t.told Ev.avsFault noOwner [d8 (s.rd Obj.PWR_AVS_I2C), d8 rail.val]) ∧ s.objectsBut t [Obj.LOG_LOST] ∧ s.sameMemory t)) ∧
  (∀ (s : State) (rail : Fin 12) (straps : BitVec 16),
    ∃ t, exec (.brownOut rail straps) s = .next t ∧ t.rd Obj.PWR_LAST_BROWNOUT = (if rail.val = 4 then 0xFF else rail.val) ∧ t.rd Obj.RST_LAST_CAUSE = 2 ∧
      t.boot.stage = 1 ∧ t.mem = [] ∧ t.pending = s.pending)

/-! ## Resets and start-up (R607 to R624) -/

/-- Resets (R609 to R612, R617, R618): each names its cause and keeps what the persistence table keeps; a power-on or cold reset starts at its first step with
strict commit mode, and memory, items and surfaces are gone; a warm reset counts itself, starts at the measurement, and keeps memory below the watermark. No
command that waits is lost. Start-up and Gaffer's restart (R540, R613 to R615, R619, R620): once Bittern runs the image is loaded and training begins; READY
makes the manager, with its key, and gives the time taken; a port's link, a page's RECOVERY_GO and a file of TFTP are taken where start-up waits for them;
Gaffer restarts for each cause, LDP closes, and it runs again when Bittern has checked its firmware, or resets the device warm where the object store is
wrong. -/
def Obligations.ResetsAndStartUp : Prop :=
  (
  let began := fun (s t : State) (cause straps kind : Nat) =>
    t.rd Obj.RST_LAST_CAUSE = cause ∧ t.rd Obj.RST_LAST_KIND = kind ∧ t.rd Obj.RST_STRAPS = straps &&& 0x0F37 ∧ t.boot.stage = 1 ∧ t.mem = [] ∧
    t.items = [] ∧ t.jobs = [] ∧ t.grip = {} ∧ t.keys = [] ∧ t.ldp.sessions = [] ∧ t.dtime = 0 ∧ bit t.boot.strictHolds 0 = true ∧ t.pending = s.pending ∧
    (∀ a, keptAt kind a = true → a ≠ Obj.RST_LAST_CAUSE → a ≠ Obj.RST_LAST_KIND → a ≠ Obj.RST_STRAPS → a ≠ Obj.LOG_LOST → t.rd a = s.rd a)
  (∀ (s : State) (straps : BitVec 16),
    (∃ t, exec (.powerOnReset straps) s = .next t ∧ began s t 1 straps.toNat kindPowerOn ∧ t.log.mirror.length ≤ 1) ∧
    (s.heldInReset = false → ∃ t, exec (.resetPin straps) s = .next t ∧ began s t 3 straps.toNat kindCold) ∧
    (s.heldInReset = true → exec (.resetPin straps) s = .next s) ∧
    (∀ rq, s.accepts rq Obj.RST_COLD_REQ 1 → s.heldInReset = false →
      ∃ t, exec (.coldRequest rq 1 straps) s = .next t ∧ began s t 6 straps.toNat kindCold)) ∧
  (∀ (s : State) (rq : Requester), s.accepts rq Obj.RST_WARM_REQ 1 → s.heldInReset = false →
    ∃ t, exec (.warmRequest rq 1) s = .next t ∧ t.rd Obj.RST_LAST_KIND = kindWarm ∧ t.rd Obj.RST_LAST_CAUSE = 7 ∧ t.answered rq Status.ok ∧
      t.boot.stage = (if s.bitState = 5 then 7 else if 2 ≤ field (s.rd Obj.RST_STRAPS) 5 4 then 3 else 2) ∧ t.items = [] ∧ t.jobs = [] ∧ t.grip = {} ∧
      t.pending = s.pending ∧ t.memConf = s.memConf ∧ (∀ a, t.byte a = if s.belowWatermark a then s.byte a else State.reset.byte a))) ∧
  (
  (∀ s : State, s.boot.stage = 4 → s.bitState = 3 →
    ∃ t, exec .imageLoaded s = .next t ∧ t.boot.stage = 5 ∧ t.pending = s.pending ∧
      (s.flash.newer = none → s.rd Obj.RST_LAST_KIND = kindWarm → ∀ m < 8, bit s.memConf.channels m = true → t.rd (Obj.MC_STATE m) = 1)) ∧
  (∀ (s : State) (training : List ChannelTraining), s.boot.stage = 5 →
    ∃ t, exec (.ready training) s = .next t ∧ t.boot.stage = 6 ∧ (t.inst 0x40).state = .active ∧ (t.inst 0x40).port = s.boot.mgrPort ∧
      (t.keySlot 2).owner = 0x40 ∧ (t.keySlot 2).state = 1 ∧ t.rd Obj.RST_READY_TIME = (s.dtime - s.boot.since) / 1000 % 2 ^ 32) ∧
  (∀ (s : State) (hp : Fin 4), ∃ t, exec (.hostLinkUp hp) s = .next t ∧ hp.val ∈ t.boot.links ∧ (∀ p ∈ s.boot.links, p ∈ t.boot.links) ∧
    { t with boot := s.boot } = s) ∧
  (∀ (s : State) (length : Nat), s.boot.stage = 3 ∨ s.boot.stage = 7 → field (s.rd Obj.RST_STRAPS) 5 4 = 3 → length ≤ 2 ^ 25 →
    ∃ t, exec (.tftpWrite length) s = .next t ∧ t.bitState = 1 ∧ t.boot.recoveryLength = length ∧ s.objectsBut t [Obj.BIT_STATE] ∧ s.sameMemory t) ∧
  (∀ (s : State) (length : Nat), field (s.rd Obj.RST_STRAPS) 5 4 ≠ 3 → exec (.tftpWrite length) s = .next s) ∧
  (∀ (s : State) (length : BitVec 26), s.boot.stage = 3 ∨ s.boot.stage = 7 → field (s.rd Obj.RST_STRAPS) 5 4 = 2 →
    ∃ t, exec (.recoveryGo 0 length) s = .next t ∧ t.bitState = 1 ∧ t.boot.recoveryLength = length.toNat ∧ s.objectsBut t [Obj.BIT_STATE] ∧ s.sameMemory t) ∧
  (∀ s : State, s.boot.stage = 6 → (s.boot.gafRestarts.filter (fun t => Nat.blt s.dtime (t + 60000000000))).length < 3 →
    let restarted := fun (t : State) (cause : Nat) => t.boot.stage = 8 ∧ t.boot.gafT0 = some s.dtime ∧ t.boot.gafMark = s.nextItem ∧
      t.rd Obj.RST_GAF_RESTARTS = wrapAdd 32 (s.rd Obj.RST_GAF_RESTARTS) 1 ∧ (∀ n < 8, t.session? n = none) ∧
      (s.log.fifo.length < 256 → t.told Ev.gafferRestartStart noOwner [dCase Ev.gafferRestartStart cause]) ∧ s.sameMemory t
    (∃ t, exec (.gafferWatchdogExpiry true) s = .next t ∧ restarted t 1) ∧ (∃ t, exec (.gafferSramUe true) s = .next t ∧ restarted t 4) ∧
    (∀ rq, s.accepts rq Obj.RST_GAF_RESTART_REQ 1 → ∃ t, exec (.rstGafRestartReq rq 1) s = .next t ∧ restarted t 2 ∧ t.answered rq Status.ok)) ∧
  (∀ s : State, s.boot.stage = 6 → 3 ≤ (s.boot.gafRestarts.filter (fun t => Nat.blt s.dtime (t + 60000000000))).length →
    ∃ t, exec (.gafferWatchdogExpiry true) s = .next t ∧ t.rd Obj.RST_LAST_CAUSE = 8 ∧ t.rd Obj.RST_LAST_KIND = kindWarm) ∧
  (∀ s : State, s.boot.stage = 8 → s.bitState = 3 → ∀ copied,
    (∃ t, exec (.gafferRestartDone true copied) s = .next t ∧ t.boot.stage = 6 ∧ t.boot.gafT0 = none ∧ t.boot.guardSkips = []) ∧
    (∃ t, exec (.gafferRestartDone false copied) s = .next t ∧ t.rd Obj.RST_LAST_CAUSE = 8 ∧ t.rd Obj.RST_LAST_KIND = kindWarm)))

/-! ## The Script Log, injection, Dailies and Tally (R633 to R652) -/

/-- Log, injection, Dailies and Tally (R633, R637, R641 to R646, R649, R652): records move into the ring in FIFO order, newest first, and the number lost is
told once; a point is armed only while INJ_ENABLE is 1; a slice is reserved, passes, fails once or for good, and is abandoned past its budget; a round is told
and ends; a counter that wraps is zero, sets its overflow bit and is told, and a write of 1 clears the bits of its group alone. -/
def Obligations.LogInjectionDailiesAndTally : Prop :=
  (∀ s : State, s.gafferRuns = true → s.log.causePending = false → s.log.bounded = true →
    ∃ t, exec .logMove s = .next t ∧ t.log.ring = (s.log.fifo.reverse ++ s.log.ring).take 4096 ∧ t.log.lostPending = 0 ∧
      (s.log.lostPending = 0 → t.log.fifo = []) ∧ (s.log.lostPending ≠ 0 → t.told Ev.logLost noOwner [d32 s.log.lostPending]) ∧ s.sameMemory t) ∧
  (∀ s : State, s.gafferRuns = false → exec .logMove s = .next s) ∧
  (∀ (s : State) (rq : Requester) (p : Fin 31) (v : Fin 256) (queued : List (Nat × Nat)), s.accepts rq (Obj.INJ_ARM p.val) v.val →
    (v.val = 0 → ∃ t, exec (.injArm rq p v queued) s = .next t ∧ t.rd (Obj.INJ_ARM p.val) = 0 ∧ t.answered rq Status.ok ∧
      s.objectsBut t [Obj.INJ_ARM p.val] ∧ s.sameMemory t) ∧
    (v.val ≠ 0 → s.rd Obj.INJ_ENABLE ≠ 1 → exec (.injArm rq p v queued) s = .next (s.answer rq Status.accessDenied)) ∧
    (v.val ≠ 0 → s.rd Obj.INJ_ENABLE = 1 → p.val ≠ 12 → p.val ≠ 13 → p.val ≠ 19 →
      ∃ t, exec (.injArm rq p v queued) s = .next t ∧ t.rd (Obj.INJ_ARM p.val) = v.val ∧ t.answered rq Status.ok ∧
        s.objectsBut t [Obj.INJ_ARM p.val] ∧ s.sameMemory t)) ∧
  (∀ (s : State) (n : Nat), n < 0x330 → (sliceUnit n).isSome = true →
    ∃ t, exec (.dailiesReserve n) s = .next t ∧ n ∈ t.dailies.reserved ∧ (∀ m, m ≠ n → (m ∈ t.dailies.reserved ↔ m ∈ s.dailies.reserved)) ∧
      { t with dailies := s.dailies } = s) ∧
  (∀ (s : State) (n word : Nat), s.gafferDown = false → (s.dailies.running.any (fun r => decide (r.slice = n))) = true →
    (s.rd Obj.INJ_ENABLE ≠ 1 →
      ∃ t, exec (.sliceComplete n true word) s = .next t ∧ Tab.get 0 t.dailies.results n = 1 ∧ n ∉ t.dailies.reserved ∧
        (t.dailies.running.all (fun r => !decide (r.slice = n))) = true ∧ n ∉ t.dailies.once ∧
        (n ∈ s.dailies.once → s.log.fifo.length < 256 → t.told Ev.dailiesTransient noOwner [d16 n]) ∧ s.sameMemory t) ∧
    (∃ t, exec (.sliceComplete n false word) s = .next t ∧ Tab.get 0 t.dailies.results n = (if n ∈ s.dailies.once then 3 else 2) ∧
      n ∉ t.dailies.reserved ∧ (t.dailies.running.all (fun r => !decide (r.slice = n))) = true ∧
      t.rd Obj.DAILIES_FAILS = wrapAdd 32 (s.rd Obj.DAILIES_FAILS) 1 ∧ (n ∈ t.dailies.once ↔ n ∉ s.dailies.once) ∧
      (∀ u, sliceHealth n = some u → (t.unit u).health = if n ∈ s.dailies.once then .failed else .excluded) ∧ s.sameMemory t)) ∧
  (∀ (s : State) (n : Nat) (r : SliceRun), s.dailies.running.find? (fun x => decide (x.slice = n)) = some r →
    (r.start + r.budget * 1000 ≤ s.dtime →
      ∃ t, exec (.dailiesOverrun n) s = .next t ∧ Tab.get 0 t.dailies.results n = 4 ∧ n ∉ t.dailies.reserved ∧
        (t.dailies.running.all (fun x => !decide (x.slice = n))) = true ∧
        (s.log.fifo.length < 256 → t.told Ev.dailiesOverrun noOwner [d16 n, d32 ((s.dtime - r.start) / 1000)]) ∧
        s.objectsBut t [Obj.LOG_LOST] ∧ s.sameMemory t) ∧
    (s.dtime < r.start + r.budget * 1000 → exec (.dailiesOverrun n) s = .next s)) ∧
  (∀ s : State, s.boot.stage = 6 →
    ∃ t, exec .dailiesRound s = .next t ∧ t.rd Obj.DAILIES_ROUNDS = wrapAdd 32 (s.rd Obj.DAILIES_ROUNDS) 1 ∧
      t.dailies = { s.dailies with roundStart := s.dtime, roundFails := 0 } ∧
      (s.log.fifo.length < 256 → t.told Ev.dailiesRound noOwner
        [d32 (t.rd Obj.DAILIES_ROUNDS), d32 ((s.dtime - s.dailies.roundStart) / 1000000000), d32 s.dailies.roundFails]) ∧
      s.objectsBut t [Obj.LOG_LOST, Obj.DAILIES_ROUNDS] ∧ s.sameMemory t) ∧
  (∀ (s : State) (g : Fin 40) (c : Fin 64), c.val < tallyCounters g.val →
    ∃ t, exec (.tallyWrap g c) s = .next t ∧ t.tally = Tab.set s.tally (4096 * g.val + Config.tallyKind g.val c.val) 0 ∧ 64 * g.val + c.val ∈ t.tallyOvf ∧
      (∀ x ∈ s.tallyOvf, x ∈ t.tallyOvf) ∧ (s.log.fifo.length < 256 → t.told Ev.tallyWrap noOwner [d8 g.val, d8 c.val]) ∧
      s.objectsBut t [Obj.LOG_LOST] ∧ s.sameMemory t) ∧
  (∀ (s : State) (rq : Requester) (g : Fin 40), s.accepts rq (Obj.TALLY_OVF_CLEAR g.val) 1 →
    ∃ t, exec (.tallyOvfClear rq g 1) s = .next t ∧ (∀ x, x ∈ t.tallyOvf ↔ x ∈ s.tallyOvf ∧ x / 64 ≠ g.val) ∧ t.answered rq Status.ok ∧
      t.tally = s.tally ∧ s.objectsBut t [] ∧ s.sameMemory t)
end

