-- ==== Sys2Proof/Laws/State.lean ====
section
/-! SUPPORT. One lemma a field and update: what each update of the state leaves as it was, and what it sets. -/
namespace Sys2Proof.Machine.State
open Sys2Proof

variable (s : State)

/-! ## wr -/

@[simp] theorem wr_objs (a v : Nat) : (s.wr a v).objs = Objs.set s.objs a v := rfl
@[simp] theorem wr_clock (a v : Nat) : (s.wr a v).clock = s.clock := rfl
@[simp] theorem wr_dueSlots (a v : Nat) : (s.wr a v).dueSlots = s.dueSlots := rfl
@[simp] theorem wr_log (a v : Nat) : (s.wr a v).log = s.log := rfl
@[simp] theorem wr_io (a v : Nat) : (s.wr a v).io = s.io := rfl
@[simp] theorem wr_freeDrawn (a v : Nat) : (s.wr a v).freeDrawn = s.freeDrawn := rfl
@[simp] theorem wr_order (a v : Nat) : (s.wr a v).order = s.order := rfl
@[simp] theorem wr_items (a v : Nat) : (s.wr a v).items = s.items := rfl
@[simp] theorem wr_nextItem (a v : Nat) : (s.wr a v).nextItem = s.nextItem := rfl
@[simp] theorem wr_insts (a v : Nat) : (s.wr a v).insts = s.insts := rfl
@[simp] theorem wr_guards (a v : Nat) : (s.wr a v).guards = s.guards := rfl
@[simp] theorem wr_outs (a v : Nat) : (s.wr a v).outs = s.outs := rfl
@[simp] theorem wr_shadow (a v : Nat) : (s.wr a v).shadow = s.shadow := rfl
@[simp] theorem wr_colourActive (a v : Nat) : (s.wr a v).colourActive = s.colourActive := rfl
@[simp] theorem wr_lutBanks (a v : Nat) : (s.wr a v).lutBanks = s.lutBanks := rfl
@[simp] theorem wr_substUnchecked (a v : Nat) : (s.wr a v).substUnchecked = s.substUnchecked := rfl
@[simp] theorem wr_grip (a v : Nat) : (s.wr a v).grip = s.grip := rfl
@[simp] theorem wr_jobs (a v : Nat) : (s.wr a v).jobs = s.jobs := rfl
@[simp] theorem wr_mem (a v : Nat) : (s.wr a v).mem = s.mem := rfl
@[simp] theorem wr_memConf (a v : Nat) : (s.wr a v).memConf = s.memConf := rfl
@[simp] theorem wr_dram (a v : Nat) : (s.wr a v).dram = s.dram := rfl
@[simp] theorem wr_keys (a v : Nat) : (s.wr a v).keys = s.keys := rfl
@[simp] theorem wr_raster (a v : Nat) : (s.wr a v).raster = s.raster := rfl
@[simp] theorem wr_ports (a v : Nat) : (s.wr a v).ports = s.ports := rfl
@[simp] theorem wr_tally (a v : Nat) : (s.wr a v).tally = s.tally := rfl
@[simp] theorem wr_tallyOvf (a v : Nat) : (s.wr a v).tallyOvf = s.tallyOvf := rfl
@[simp] theorem wr_refusals (a v : Nat) : (s.wr a v).refusals = s.refusals := rfl
@[simp] theorem wr_mailboxes (a v : Nat) : (s.wr a v).mailboxes = s.mailboxes := rfl
@[simp] theorem wr_boot (a v : Nat) : (s.wr a v).boot = s.boot := rfl
@[simp] theorem wr_flash (a v : Nat) : (s.wr a v).flash = s.flash := rfl
@[simp] theorem wr_power (a v : Nat) : (s.wr a v).power = s.power := rfl
@[simp] theorem wr_dailies (a v : Nat) : (s.wr a v).dailies = s.dailies := rfl
@[simp] theorem wr_haps (a v : Nat) : (s.wr a v).haps = s.haps := rfl
@[simp] theorem wr_foley (a v : Nat) : (s.wr a v).foley = s.foley := rfl
@[simp] theorem wr_fronts (a v : Nat) : (s.wr a v).fronts = s.fronts := rfl
@[simp] theorem wr_keyBank (a v : Nat) : (s.wr a v).keyBank = s.keyBank := rfl
@[simp] theorem wr_cus (a v : Nat) : (s.wr a v).cus = s.cus := rfl
@[simp] theorem wr_ldp (a v : Nat) : (s.wr a v).ldp = s.ldp := rfl
@[simp] theorem wr_clocks (a v : Nat) : (s.wr a v).clocks = s.clocks := rfl
@[simp] theorem wr_pending (a v : Nat) : (s.wr a v).pending = s.pending := rfl

/-! ## wrBit -/

@[simp] theorem wrBit_clock (a i : Nat) (b : Bool) : (s.wrBit a i b).clock = s.clock := rfl
@[simp] theorem wrBit_dueSlots (a i : Nat) (b : Bool) : (s.wrBit a i b).dueSlots = s.dueSlots := rfl
@[simp] theorem wrBit_log (a i : Nat) (b : Bool) : (s.wrBit a i b).log = s.log := rfl
@[simp] theorem wrBit_io (a i : Nat) (b : Bool) : (s.wrBit a i b).io = s.io := rfl
@[simp] theorem wrBit_freeDrawn (a i : Nat) (b : Bool) : (s.wrBit a i b).freeDrawn = s.freeDrawn := rfl
@[simp] theorem wrBit_order (a i : Nat) (b : Bool) : (s.wrBit a i b).order = s.order := rfl
@[simp] theorem wrBit_items (a i : Nat) (b : Bool) : (s.wrBit a i b).items = s.items := rfl
@[simp] theorem wrBit_nextItem (a i : Nat) (b : Bool) : (s.wrBit a i b).nextItem = s.nextItem := rfl
@[simp] theorem wrBit_insts (a i : Nat) (b : Bool) : (s.wrBit a i b).insts = s.insts := rfl
@[simp] theorem wrBit_guards (a i : Nat) (b : Bool) : (s.wrBit a i b).guards = s.guards := rfl
@[simp] theorem wrBit_outs (a i : Nat) (b : Bool) : (s.wrBit a i b).outs = s.outs := rfl
@[simp] theorem wrBit_shadow (a i : Nat) (b : Bool) : (s.wrBit a i b).shadow = s.shadow := rfl
@[simp] theorem wrBit_colourActive (a i : Nat) (b : Bool) : (s.wrBit a i b).colourActive = s.colourActive := rfl
@[simp] theorem wrBit_lutBanks (a i : Nat) (b : Bool) : (s.wrBit a i b).lutBanks = s.lutBanks := rfl
@[simp] theorem wrBit_substUnchecked (a i : Nat) (b : Bool) : (s.wrBit a i b).substUnchecked = s.substUnchecked := rfl
@[simp] theorem wrBit_grip (a i : Nat) (b : Bool) : (s.wrBit a i b).grip = s.grip := rfl
@[simp] theorem wrBit_jobs (a i : Nat) (b : Bool) : (s.wrBit a i b).jobs = s.jobs := rfl
@[simp] theorem wrBit_mem (a i : Nat) (b : Bool) : (s.wrBit a i b).mem = s.mem := rfl
@[simp] theorem wrBit_memConf (a i : Nat) (b : Bool) : (s.wrBit a i b).memConf = s.memConf := rfl
@[simp] theorem wrBit_dram (a i : Nat) (b : Bool) : (s.wrBit a i b).dram = s.dram := rfl
@[simp] theorem wrBit_keys (a i : Nat) (b : Bool) : (s.wrBit a i b).keys = s.keys := rfl
@[simp] theorem wrBit_raster (a i : Nat) (b : Bool) : (s.wrBit a i b).raster = s.raster := rfl
@[simp] theorem wrBit_ports (a i : Nat) (b : Bool) : (s.wrBit a i b).ports = s.ports := rfl
@[simp] theorem wrBit_tally (a i : Nat) (b : Bool) : (s.wrBit a i b).tally = s.tally := rfl
@[simp] theorem wrBit_tallyOvf (a i : Nat) (b : Bool) : (s.wrBit a i b).tallyOvf = s.tallyOvf := rfl
@[simp] theorem wrBit_refusals (a i : Nat) (b : Bool) : (s.wrBit a i b).refusals = s.refusals := rfl
@[simp] theorem wrBit_mailboxes (a i : Nat) (b : Bool) : (s.wrBit a i b).mailboxes = s.mailboxes := rfl
@[simp] theorem wrBit_boot (a i : Nat) (b : Bool) : (s.wrBit a i b).boot = s.boot := rfl
@[simp] theorem wrBit_flash (a i : Nat) (b : Bool) : (s.wrBit a i b).flash = s.flash := rfl
@[simp] theorem wrBit_power (a i : Nat) (b : Bool) : (s.wrBit a i b).power = s.power := rfl
@[simp] theorem wrBit_dailies (a i : Nat) (b : Bool) : (s.wrBit a i b).dailies = s.dailies := rfl
@[simp] theorem wrBit_haps (a i : Nat) (b : Bool) : (s.wrBit a i b).haps = s.haps := rfl
@[simp] theorem wrBit_foley (a i : Nat) (b : Bool) : (s.wrBit a i b).foley = s.foley := rfl
@[simp] theorem wrBit_fronts (a i : Nat) (b : Bool) : (s.wrBit a i b).fronts = s.fronts := rfl
@[simp] theorem wrBit_keyBank (a i : Nat) (b : Bool) : (s.wrBit a i b).keyBank = s.keyBank := rfl
@[simp] theorem wrBit_cus (a i : Nat) (b : Bool) : (s.wrBit a i b).cus = s.cus := rfl
@[simp] theorem wrBit_ldp (a i : Nat) (b : Bool) : (s.wrBit a i b).ldp = s.ldp := rfl
@[simp] theorem wrBit_clocks (a i : Nat) (b : Bool) : (s.wrBit a i b).clocks = s.clocks := rfl
@[simp] theorem wrBit_pending (a i : Nat) (b : Bool) : (s.wrBit a i b).pending = s.pending := rfl

/-! ## count -/

@[simp] theorem count_clock (a : Nat) : (s.count a).clock = s.clock := rfl
@[simp] theorem count_dueSlots (a : Nat) : (s.count a).dueSlots = s.dueSlots := rfl
@[simp] theorem count_log (a : Nat) : (s.count a).log = s.log := rfl
@[simp] theorem count_io (a : Nat) : (s.count a).io = s.io := rfl
@[simp] theorem count_freeDrawn (a : Nat) : (s.count a).freeDrawn = s.freeDrawn := rfl
@[simp] theorem count_order (a : Nat) : (s.count a).order = s.order := rfl
@[simp] theorem count_items (a : Nat) : (s.count a).items = s.items := rfl
@[simp] theorem count_nextItem (a : Nat) : (s.count a).nextItem = s.nextItem := rfl
@[simp] theorem count_insts (a : Nat) : (s.count a).insts = s.insts := rfl
@[simp] theorem count_guards (a : Nat) : (s.count a).guards = s.guards := rfl
@[simp] theorem count_outs (a : Nat) : (s.count a).outs = s.outs := rfl
@[simp] theorem count_shadow (a : Nat) : (s.count a).shadow = s.shadow := rfl
@[simp] theorem count_colourActive (a : Nat) : (s.count a).colourActive = s.colourActive := rfl
@[simp] theorem count_lutBanks (a : Nat) : (s.count a).lutBanks = s.lutBanks := rfl
@[simp] theorem count_substUnchecked (a : Nat) : (s.count a).substUnchecked = s.substUnchecked := rfl
@[simp] theorem count_grip (a : Nat) : (s.count a).grip = s.grip := rfl
@[simp] theorem count_jobs (a : Nat) : (s.count a).jobs = s.jobs := rfl
@[simp] theorem count_mem (a : Nat) : (s.count a).mem = s.mem := rfl
@[simp] theorem count_memConf (a : Nat) : (s.count a).memConf = s.memConf := rfl
@[simp] theorem count_dram (a : Nat) : (s.count a).dram = s.dram := rfl
@[simp] theorem count_keys (a : Nat) : (s.count a).keys = s.keys := rfl
@[simp] theorem count_raster (a : Nat) : (s.count a).raster = s.raster := rfl
@[simp] theorem count_ports (a : Nat) : (s.count a).ports = s.ports := rfl
@[simp] theorem count_tally (a : Nat) : (s.count a).tally = s.tally := rfl
@[simp] theorem count_tallyOvf (a : Nat) : (s.count a).tallyOvf = s.tallyOvf := rfl
@[simp] theorem count_refusals (a : Nat) : (s.count a).refusals = s.refusals := rfl
@[simp] theorem count_mailboxes (a : Nat) : (s.count a).mailboxes = s.mailboxes := rfl
@[simp] theorem count_boot (a : Nat) : (s.count a).boot = s.boot := rfl
@[simp] theorem count_flash (a : Nat) : (s.count a).flash = s.flash := rfl
@[simp] theorem count_power (a : Nat) : (s.count a).power = s.power := rfl
@[simp] theorem count_dailies (a : Nat) : (s.count a).dailies = s.dailies := rfl
@[simp] theorem count_haps (a : Nat) : (s.count a).haps = s.haps := rfl
@[simp] theorem count_foley (a : Nat) : (s.count a).foley = s.foley := rfl
@[simp] theorem count_fronts (a : Nat) : (s.count a).fronts = s.fronts := rfl
@[simp] theorem count_keyBank (a : Nat) : (s.count a).keyBank = s.keyBank := rfl
@[simp] theorem count_cus (a : Nat) : (s.count a).cus = s.cus := rfl
@[simp] theorem count_ldp (a : Nat) : (s.count a).ldp = s.ldp := rfl
@[simp] theorem count_clocks (a : Nat) : (s.count a).clocks = s.clocks := rfl
@[simp] theorem count_pending (a : Nat) : (s.count a).pending = s.pending := rfl

/-! ## emit -/

@[simp] theorem emit_objs (e : IoEvent) : (s.emit e).objs = s.objs := rfl
@[simp] theorem emit_clock (e : IoEvent) : (s.emit e).clock = s.clock := rfl
@[simp] theorem emit_dueSlots (e : IoEvent) : (s.emit e).dueSlots = s.dueSlots := rfl
@[simp] theorem emit_log (e : IoEvent) : (s.emit e).log = s.log := rfl
@[simp] theorem emit_io (e : IoEvent) : (s.emit e).io = e :: s.io := rfl
@[simp] theorem emit_freeDrawn (e : IoEvent) : (s.emit e).freeDrawn = s.freeDrawn := rfl
@[simp] theorem emit_order (e : IoEvent) : (s.emit e).order = s.order := rfl
@[simp] theorem emit_items (e : IoEvent) : (s.emit e).items = s.items := rfl
@[simp] theorem emit_nextItem (e : IoEvent) : (s.emit e).nextItem = s.nextItem := rfl
@[simp] theorem emit_insts (e : IoEvent) : (s.emit e).insts = s.insts := rfl
@[simp] theorem emit_guards (e : IoEvent) : (s.emit e).guards = s.guards := rfl
@[simp] theorem emit_outs (e : IoEvent) : (s.emit e).outs = s.outs := rfl
@[simp] theorem emit_shadow (e : IoEvent) : (s.emit e).shadow = s.shadow := rfl
@[simp] theorem emit_colourActive (e : IoEvent) : (s.emit e).colourActive = s.colourActive := rfl
@[simp] theorem emit_lutBanks (e : IoEvent) : (s.emit e).lutBanks = s.lutBanks := rfl
@[simp] theorem emit_substUnchecked (e : IoEvent) : (s.emit e).substUnchecked = s.substUnchecked := rfl
@[simp] theorem emit_grip (e : IoEvent) : (s.emit e).grip = s.grip := rfl
@[simp] theorem emit_jobs (e : IoEvent) : (s.emit e).jobs = s.jobs := rfl
@[simp] theorem emit_mem (e : IoEvent) : (s.emit e).mem = s.mem := rfl
@[simp] theorem emit_memConf (e : IoEvent) : (s.emit e).memConf = s.memConf := rfl
@[simp] theorem emit_dram (e : IoEvent) : (s.emit e).dram = s.dram := rfl
@[simp] theorem emit_keys (e : IoEvent) : (s.emit e).keys = s.keys := rfl
@[simp] theorem emit_raster (e : IoEvent) : (s.emit e).raster = s.raster := rfl
@[simp] theorem emit_ports (e : IoEvent) : (s.emit e).ports = s.ports := rfl
@[simp] theorem emit_tally (e : IoEvent) : (s.emit e).tally = s.tally := rfl
@[simp] theorem emit_tallyOvf (e : IoEvent) : (s.emit e).tallyOvf = s.tallyOvf := rfl
@[simp] theorem emit_refusals (e : IoEvent) : (s.emit e).refusals = s.refusals := rfl
@[simp] theorem emit_mailboxes (e : IoEvent) : (s.emit e).mailboxes = s.mailboxes := rfl
@[simp] theorem emit_boot (e : IoEvent) : (s.emit e).boot = s.boot := rfl
@[simp] theorem emit_flash (e : IoEvent) : (s.emit e).flash = s.flash := rfl
@[simp] theorem emit_power (e : IoEvent) : (s.emit e).power = s.power := rfl
@[simp] theorem emit_dailies (e : IoEvent) : (s.emit e).dailies = s.dailies := rfl
@[simp] theorem emit_haps (e : IoEvent) : (s.emit e).haps = s.haps := rfl
@[simp] theorem emit_foley (e : IoEvent) : (s.emit e).foley = s.foley := rfl
@[simp] theorem emit_fronts (e : IoEvent) : (s.emit e).fronts = s.fronts := rfl
@[simp] theorem emit_keyBank (e : IoEvent) : (s.emit e).keyBank = s.keyBank := rfl
@[simp] theorem emit_cus (e : IoEvent) : (s.emit e).cus = s.cus := rfl
@[simp] theorem emit_ldp (e : IoEvent) : (s.emit e).ldp = s.ldp := rfl
@[simp] theorem emit_clocks (e : IoEvent) : (s.emit e).clocks = s.clocks := rfl
@[simp] theorem emit_pending (e : IoEvent) : (s.emit e).pending = s.pending := rfl
@[simp] theorem emit_rd (e : IoEvent) (ad : Nat) : (s.emit e).rd ad = s.rd ad := rfl

/-! ## answer -/

@[simp] theorem answer_objs (q : Requester) (c : Nat) : (s.answer q c).objs = s.objs := rfl
@[simp] theorem answer_clock (q : Requester) (c : Nat) : (s.answer q c).clock = s.clock := rfl
@[simp] theorem answer_dueSlots (q : Requester) (c : Nat) : (s.answer q c).dueSlots = s.dueSlots := rfl
@[simp] theorem answer_log (q : Requester) (c : Nat) : (s.answer q c).log = s.log := rfl
@[simp] theorem answer_io (q : Requester) (c : Nat) : (s.answer q c).io = .status q c :: s.io := rfl
@[simp] theorem answer_freeDrawn (q : Requester) (c : Nat) : (s.answer q c).freeDrawn = s.freeDrawn := rfl
@[simp] theorem answer_order (q : Requester) (c : Nat) : (s.answer q c).order = s.order := rfl
@[simp] theorem answer_items (q : Requester) (c : Nat) : (s.answer q c).items = s.items := rfl
@[simp] theorem answer_nextItem (q : Requester) (c : Nat) : (s.answer q c).nextItem = s.nextItem := rfl
@[simp] theorem answer_insts (q : Requester) (c : Nat) : (s.answer q c).insts = s.insts := rfl
@[simp] theorem answer_guards (q : Requester) (c : Nat) : (s.answer q c).guards = s.guards := rfl
@[simp] theorem answer_outs (q : Requester) (c : Nat) : (s.answer q c).outs = s.outs := rfl
@[simp] theorem answer_shadow (q : Requester) (c : Nat) : (s.answer q c).shadow = s.shadow := rfl
@[simp] theorem answer_colourActive (q : Requester) (c : Nat) : (s.answer q c).colourActive = s.colourActive := rfl
@[simp] theorem answer_lutBanks (q : Requester) (c : Nat) : (s.answer q c).lutBanks = s.lutBanks := rfl
@[simp] theorem answer_substUnchecked (q : Requester) (c : Nat) : (s.answer q c).substUnchecked = s.substUnchecked := rfl
@[simp] theorem answer_grip (q : Requester) (c : Nat) : (s.answer q c).grip = s.grip := rfl
@[simp] theorem answer_jobs (q : Requester) (c : Nat) : (s.answer q c).jobs = s.jobs := rfl
@[simp] theorem answer_mem (q : Requester) (c : Nat) : (s.answer q c).mem = s.mem := rfl
@[simp] theorem answer_memConf (q : Requester) (c : Nat) : (s.answer q c).memConf = s.memConf := rfl
@[simp] theorem answer_dram (q : Requester) (c : Nat) : (s.answer q c).dram = s.dram := rfl
@[simp] theorem answer_keys (q : Requester) (c : Nat) : (s.answer q c).keys = s.keys := rfl
@[simp] theorem answer_raster (q : Requester) (c : Nat) : (s.answer q c).raster = s.raster := rfl
@[simp] theorem answer_ports (q : Requester) (c : Nat) : (s.answer q c).ports = s.ports := rfl
@[simp] theorem answer_tally (q : Requester) (c : Nat) : (s.answer q c).tally = s.tally := rfl
@[simp] theorem answer_tallyOvf (q : Requester) (c : Nat) : (s.answer q c).tallyOvf = s.tallyOvf := rfl
@[simp] theorem answer_refusals (q : Requester) (c : Nat) : (s.answer q c).refusals = s.refusals := rfl
@[simp] theorem answer_mailboxes (q : Requester) (c : Nat) : (s.answer q c).mailboxes = s.mailboxes := rfl
@[simp] theorem answer_boot (q : Requester) (c : Nat) : (s.answer q c).boot = s.boot := rfl
@[simp] theorem answer_flash (q : Requester) (c : Nat) : (s.answer q c).flash = s.flash := rfl
@[simp] theorem answer_power (q : Requester) (c : Nat) : (s.answer q c).power = s.power := rfl
@[simp] theorem answer_dailies (q : Requester) (c : Nat) : (s.answer q c).dailies = s.dailies := rfl
@[simp] theorem answer_haps (q : Requester) (c : Nat) : (s.answer q c).haps = s.haps := rfl
@[simp] theorem answer_foley (q : Requester) (c : Nat) : (s.answer q c).foley = s.foley := rfl
@[simp] theorem answer_fronts (q : Requester) (c : Nat) : (s.answer q c).fronts = s.fronts := rfl
@[simp] theorem answer_keyBank (q : Requester) (c : Nat) : (s.answer q c).keyBank = s.keyBank := rfl
@[simp] theorem answer_cus (q : Requester) (c : Nat) : (s.answer q c).cus = s.cus := rfl
@[simp] theorem answer_ldp (q : Requester) (c : Nat) : (s.answer q c).ldp = s.ldp := rfl
@[simp] theorem answer_clocks (q : Requester) (c : Nat) : (s.answer q c).clocks = s.clocks := rfl
@[simp] theorem answer_pending (q : Requester) (c : Nat) : (s.answer q c).pending = s.pending := rfl
@[simp] theorem answer_rd (q : Requester) (c : Nat) (ad : Nat) : (s.answer q c).rd ad = s.rd ad := rfl

/-! ## setInst -/

@[simp] theorem setInst_objs (o : Nat) (x : Inst) : (s.setInst o x).objs = s.objs := rfl
@[simp] theorem setInst_clock (o : Nat) (x : Inst) : (s.setInst o x).clock = s.clock := rfl
@[simp] theorem setInst_dueSlots (o : Nat) (x : Inst) : (s.setInst o x).dueSlots = s.dueSlots := rfl
@[simp] theorem setInst_log (o : Nat) (x : Inst) : (s.setInst o x).log = s.log := rfl
@[simp] theorem setInst_io (o : Nat) (x : Inst) : (s.setInst o x).io = s.io := rfl
@[simp] theorem setInst_freeDrawn (o : Nat) (x : Inst) : (s.setInst o x).freeDrawn = s.freeDrawn := rfl
@[simp] theorem setInst_order (o : Nat) (x : Inst) : (s.setInst o x).order = s.order := rfl
@[simp] theorem setInst_items (o : Nat) (x : Inst) : (s.setInst o x).items = s.items := rfl
@[simp] theorem setInst_nextItem (o : Nat) (x : Inst) : (s.setInst o x).nextItem = s.nextItem := rfl
@[simp] theorem setInst_insts (o : Nat) (x : Inst) : (s.setInst o x).insts = Tab.set s.insts o x := rfl
@[simp] theorem setInst_guards (o : Nat) (x : Inst) : (s.setInst o x).guards = s.guards := rfl
@[simp] theorem setInst_outs (o : Nat) (x : Inst) : (s.setInst o x).outs = s.outs := rfl
@[simp] theorem setInst_shadow (o : Nat) (x : Inst) : (s.setInst o x).shadow = s.shadow := rfl
@[simp] theorem setInst_colourActive (o : Nat) (x : Inst) : (s.setInst o x).colourActive = s.colourActive := rfl
@[simp] theorem setInst_lutBanks (o : Nat) (x : Inst) : (s.setInst o x).lutBanks = s.lutBanks := rfl
@[simp] theorem setInst_substUnchecked (o : Nat) (x : Inst) : (s.setInst o x).substUnchecked = s.substUnchecked := rfl
@[simp] theorem setInst_grip (o : Nat) (x : Inst) : (s.setInst o x).grip = s.grip := rfl
@[simp] theorem setInst_jobs (o : Nat) (x : Inst) : (s.setInst o x).jobs = s.jobs := rfl
@[simp] theorem setInst_mem (o : Nat) (x : Inst) : (s.setInst o x).mem = s.mem := rfl
@[simp] theorem setInst_memConf (o : Nat) (x : Inst) : (s.setInst o x).memConf = s.memConf := rfl
@[simp] theorem setInst_dram (o : Nat) (x : Inst) : (s.setInst o x).dram = s.dram := rfl
@[simp] theorem setInst_keys (o : Nat) (x : Inst) : (s.setInst o x).keys = s.keys := rfl
@[simp] theorem setInst_raster (o : Nat) (x : Inst) : (s.setInst o x).raster = s.raster := rfl
@[simp] theorem setInst_ports (o : Nat) (x : Inst) : (s.setInst o x).ports = s.ports := rfl
@[simp] theorem setInst_tally (o : Nat) (x : Inst) : (s.setInst o x).tally = s.tally := rfl
@[simp] theorem setInst_tallyOvf (o : Nat) (x : Inst) : (s.setInst o x).tallyOvf = s.tallyOvf := rfl
@[simp] theorem setInst_refusals (o : Nat) (x : Inst) : (s.setInst o x).refusals = s.refusals := rfl
@[simp] theorem setInst_mailboxes (o : Nat) (x : Inst) : (s.setInst o x).mailboxes = s.mailboxes := rfl
@[simp] theorem setInst_boot (o : Nat) (x : Inst) : (s.setInst o x).boot = s.boot := rfl
@[simp] theorem setInst_flash (o : Nat) (x : Inst) : (s.setInst o x).flash = s.flash := rfl
@[simp] theorem setInst_power (o : Nat) (x : Inst) : (s.setInst o x).power = s.power := rfl
@[simp] theorem setInst_dailies (o : Nat) (x : Inst) : (s.setInst o x).dailies = s.dailies := rfl
@[simp] theorem setInst_haps (o : Nat) (x : Inst) : (s.setInst o x).haps = s.haps := rfl
@[simp] theorem setInst_foley (o : Nat) (x : Inst) : (s.setInst o x).foley = s.foley := rfl
@[simp] theorem setInst_fronts (o : Nat) (x : Inst) : (s.setInst o x).fronts = s.fronts := rfl
@[simp] theorem setInst_keyBank (o : Nat) (x : Inst) : (s.setInst o x).keyBank = s.keyBank := rfl
@[simp] theorem setInst_cus (o : Nat) (x : Inst) : (s.setInst o x).cus = s.cus := rfl
@[simp] theorem setInst_ldp (o : Nat) (x : Inst) : (s.setInst o x).ldp = s.ldp := rfl
@[simp] theorem setInst_clocks (o : Nat) (x : Inst) : (s.setInst o x).clocks = s.clocks := rfl
@[simp] theorem setInst_pending (o : Nat) (x : Inst) : (s.setInst o x).pending = s.pending := rfl
@[simp] theorem setInst_rd (o : Nat) (x : Inst) (ad : Nat) : (s.setInst o x).rd ad = s.rd ad := rfl

/-! ## modInst -/

@[simp] theorem modInst_objs (o : Nat) (f : Inst → Inst) : (s.modInst o f).objs = s.objs := rfl
@[simp] theorem modInst_clock (o : Nat) (f : Inst → Inst) : (s.modInst o f).clock = s.clock := rfl
@[simp] theorem modInst_dueSlots (o : Nat) (f : Inst → Inst) : (s.modInst o f).dueSlots = s.dueSlots := rfl
@[simp] theorem modInst_log (o : Nat) (f : Inst → Inst) : (s.modInst o f).log = s.log := rfl
@[simp] theorem modInst_io (o : Nat) (f : Inst → Inst) : (s.modInst o f).io = s.io := rfl
@[simp] theorem modInst_freeDrawn (o : Nat) (f : Inst → Inst) : (s.modInst o f).freeDrawn = s.freeDrawn := rfl
@[simp] theorem modInst_order (o : Nat) (f : Inst → Inst) : (s.modInst o f).order = s.order := rfl
@[simp] theorem modInst_items (o : Nat) (f : Inst → Inst) : (s.modInst o f).items = s.items := rfl
@[simp] theorem modInst_nextItem (o : Nat) (f : Inst → Inst) : (s.modInst o f).nextItem = s.nextItem := rfl
@[simp] theorem modInst_insts (o : Nat) (f : Inst → Inst) : (s.modInst o f).insts = Tab.set s.insts o (f (s.inst o)) := rfl
@[simp] theorem modInst_guards (o : Nat) (f : Inst → Inst) : (s.modInst o f).guards = s.guards := rfl
@[simp] theorem modInst_outs (o : Nat) (f : Inst → Inst) : (s.modInst o f).outs = s.outs := rfl
@[simp] theorem modInst_shadow (o : Nat) (f : Inst → Inst) : (s.modInst o f).shadow = s.shadow := rfl
@[simp] theorem modInst_colourActive (o : Nat) (f : Inst → Inst) : (s.modInst o f).colourActive = s.colourActive := rfl
@[simp] theorem modInst_lutBanks (o : Nat) (f : Inst → Inst) : (s.modInst o f).lutBanks = s.lutBanks := rfl
@[simp] theorem modInst_substUnchecked (o : Nat) (f : Inst → Inst) : (s.modInst o f).substUnchecked = s.substUnchecked := rfl
@[simp] theorem modInst_grip (o : Nat) (f : Inst → Inst) : (s.modInst o f).grip = s.grip := rfl
@[simp] theorem modInst_jobs (o : Nat) (f : Inst → Inst) : (s.modInst o f).jobs = s.jobs := rfl
@[simp] theorem modInst_mem (o : Nat) (f : Inst → Inst) : (s.modInst o f).mem = s.mem := rfl
@[simp] theorem modInst_memConf (o : Nat) (f : Inst → Inst) : (s.modInst o f).memConf = s.memConf := rfl
@[simp] theorem modInst_dram (o : Nat) (f : Inst → Inst) : (s.modInst o f).dram = s.dram := rfl
@[simp] theorem modInst_keys (o : Nat) (f : Inst → Inst) : (s.modInst o f).keys = s.keys := rfl
@[simp] theorem modInst_raster (o : Nat) (f : Inst → Inst) : (s.modInst o f).raster = s.raster := rfl
@[simp] theorem modInst_ports (o : Nat) (f : Inst → Inst) : (s.modInst o f).ports = s.ports := rfl
@[simp] theorem modInst_tally (o : Nat) (f : Inst → Inst) : (s.modInst o f).tally = s.tally := rfl
@[simp] theorem modInst_tallyOvf (o : Nat) (f : Inst → Inst) : (s.modInst o f).tallyOvf = s.tallyOvf := rfl
@[simp] theorem modInst_refusals (o : Nat) (f : Inst → Inst) : (s.modInst o f).refusals = s.refusals := rfl
@[simp] theorem modInst_mailboxes (o : Nat) (f : Inst → Inst) : (s.modInst o f).mailboxes = s.mailboxes := rfl
@[simp] theorem modInst_boot (o : Nat) (f : Inst → Inst) : (s.modInst o f).boot = s.boot := rfl
@[simp] theorem modInst_flash (o : Nat) (f : Inst → Inst) : (s.modInst o f).flash = s.flash := rfl
@[simp] theorem modInst_power (o : Nat) (f : Inst → Inst) : (s.modInst o f).power = s.power := rfl
@[simp] theorem modInst_dailies (o : Nat) (f : Inst → Inst) : (s.modInst o f).dailies = s.dailies := rfl
@[simp] theorem modInst_haps (o : Nat) (f : Inst → Inst) : (s.modInst o f).haps = s.haps := rfl
@[simp] theorem modInst_foley (o : Nat) (f : Inst → Inst) : (s.modInst o f).foley = s.foley := rfl
@[simp] theorem modInst_fronts (o : Nat) (f : Inst → Inst) : (s.modInst o f).fronts = s.fronts := rfl
@[simp] theorem modInst_keyBank (o : Nat) (f : Inst → Inst) : (s.modInst o f).keyBank = s.keyBank := rfl
@[simp] theorem modInst_cus (o : Nat) (f : Inst → Inst) : (s.modInst o f).cus = s.cus := rfl
@[simp] theorem modInst_ldp (o : Nat) (f : Inst → Inst) : (s.modInst o f).ldp = s.ldp := rfl
@[simp] theorem modInst_clocks (o : Nat) (f : Inst → Inst) : (s.modInst o f).clocks = s.clocks := rfl
@[simp] theorem modInst_pending (o : Nat) (f : Inst → Inst) : (s.modInst o f).pending = s.pending := rfl
@[simp] theorem modInst_rd (o : Nat) (f : Inst → Inst) (ad : Nat) : (s.modInst o f).rd ad = s.rd ad := rfl

/-! ## modItem -/

@[simp] theorem modItem_objs (n : Nat) (f : Item → Item) : (s.modItem n f).objs = s.objs := rfl
@[simp] theorem modItem_clock (n : Nat) (f : Item → Item) : (s.modItem n f).clock = s.clock := rfl
@[simp] theorem modItem_dueSlots (n : Nat) (f : Item → Item) : (s.modItem n f).dueSlots = s.dueSlots := rfl
@[simp] theorem modItem_log (n : Nat) (f : Item → Item) : (s.modItem n f).log = s.log := rfl
@[simp] theorem modItem_io (n : Nat) (f : Item → Item) : (s.modItem n f).io = s.io := rfl
@[simp] theorem modItem_freeDrawn (n : Nat) (f : Item → Item) : (s.modItem n f).freeDrawn = s.freeDrawn := rfl
@[simp] theorem modItem_order (n : Nat) (f : Item → Item) : (s.modItem n f).order = s.order := rfl
@[simp] theorem modItem_nextItem (n : Nat) (f : Item → Item) : (s.modItem n f).nextItem = s.nextItem := rfl
@[simp] theorem modItem_insts (n : Nat) (f : Item → Item) : (s.modItem n f).insts = s.insts := rfl
@[simp] theorem modItem_guards (n : Nat) (f : Item → Item) : (s.modItem n f).guards = s.guards := rfl
@[simp] theorem modItem_outs (n : Nat) (f : Item → Item) : (s.modItem n f).outs = s.outs := rfl
@[simp] theorem modItem_shadow (n : Nat) (f : Item → Item) : (s.modItem n f).shadow = s.shadow := rfl
@[simp] theorem modItem_colourActive (n : Nat) (f : Item → Item) : (s.modItem n f).colourActive = s.colourActive := rfl
@[simp] theorem modItem_lutBanks (n : Nat) (f : Item → Item) : (s.modItem n f).lutBanks = s.lutBanks := rfl
@[simp] theorem modItem_substUnchecked (n : Nat) (f : Item → Item) : (s.modItem n f).substUnchecked = s.substUnchecked := rfl
@[simp] theorem modItem_grip (n : Nat) (f : Item → Item) : (s.modItem n f).grip = s.grip := rfl
@[simp] theorem modItem_jobs (n : Nat) (f : Item → Item) : (s.modItem n f).jobs = s.jobs := rfl
@[simp] theorem modItem_mem (n : Nat) (f : Item → Item) : (s.modItem n f).mem = s.mem := rfl
@[simp] theorem modItem_memConf (n : Nat) (f : Item → Item) : (s.modItem n f).memConf = s.memConf := rfl
@[simp] theorem modItem_dram (n : Nat) (f : Item → Item) : (s.modItem n f).dram = s.dram := rfl
@[simp] theorem modItem_keys (n : Nat) (f : Item → Item) : (s.modItem n f).keys = s.keys := rfl
@[simp] theorem modItem_raster (n : Nat) (f : Item → Item) : (s.modItem n f).raster = s.raster := rfl
@[simp] theorem modItem_ports (n : Nat) (f : Item → Item) : (s.modItem n f).ports = s.ports := rfl
@[simp] theorem modItem_tally (n : Nat) (f : Item → Item) : (s.modItem n f).tally = s.tally := rfl
@[simp] theorem modItem_tallyOvf (n : Nat) (f : Item → Item) : (s.modItem n f).tallyOvf = s.tallyOvf := rfl
@[simp] theorem modItem_refusals (n : Nat) (f : Item → Item) : (s.modItem n f).refusals = s.refusals := rfl
@[simp] theorem modItem_mailboxes (n : Nat) (f : Item → Item) : (s.modItem n f).mailboxes = s.mailboxes := rfl
@[simp] theorem modItem_boot (n : Nat) (f : Item → Item) : (s.modItem n f).boot = s.boot := rfl
@[simp] theorem modItem_flash (n : Nat) (f : Item → Item) : (s.modItem n f).flash = s.flash := rfl
@[simp] theorem modItem_power (n : Nat) (f : Item → Item) : (s.modItem n f).power = s.power := rfl
@[simp] theorem modItem_dailies (n : Nat) (f : Item → Item) : (s.modItem n f).dailies = s.dailies := rfl
@[simp] theorem modItem_haps (n : Nat) (f : Item → Item) : (s.modItem n f).haps = s.haps := rfl
@[simp] theorem modItem_foley (n : Nat) (f : Item → Item) : (s.modItem n f).foley = s.foley := rfl
@[simp] theorem modItem_fronts (n : Nat) (f : Item → Item) : (s.modItem n f).fronts = s.fronts := rfl
@[simp] theorem modItem_keyBank (n : Nat) (f : Item → Item) : (s.modItem n f).keyBank = s.keyBank := rfl
@[simp] theorem modItem_cus (n : Nat) (f : Item → Item) : (s.modItem n f).cus = s.cus := rfl
@[simp] theorem modItem_ldp (n : Nat) (f : Item → Item) : (s.modItem n f).ldp = s.ldp := rfl
@[simp] theorem modItem_clocks (n : Nat) (f : Item → Item) : (s.modItem n f).clocks = s.clocks := rfl
@[simp] theorem modItem_pending (n : Nat) (f : Item → Item) : (s.modItem n f).pending = s.pending := rfl
@[simp] theorem modItem_rd (n : Nat) (f : Item → Item) (ad : Nat) : (s.modItem n f).rd ad = s.rd ad := rfl

/-! ## setOut -/

@[simp] theorem setOut_objs (k : Nat) (x : Output) : (s.setOut k x).objs = s.objs := rfl
@[simp] theorem setOut_clock (k : Nat) (x : Output) : (s.setOut k x).clock = s.clock := rfl
@[simp] theorem setOut_dueSlots (k : Nat) (x : Output) : (s.setOut k x).dueSlots = s.dueSlots := rfl
@[simp] theorem setOut_log (k : Nat) (x : Output) : (s.setOut k x).log = s.log := rfl
@[simp] theorem setOut_io (k : Nat) (x : Output) : (s.setOut k x).io = s.io := rfl
@[simp] theorem setOut_freeDrawn (k : Nat) (x : Output) : (s.setOut k x).freeDrawn = s.freeDrawn := rfl
@[simp] theorem setOut_order (k : Nat) (x : Output) : (s.setOut k x).order = s.order := rfl
@[simp] theorem setOut_items (k : Nat) (x : Output) : (s.setOut k x).items = s.items := rfl
@[simp] theorem setOut_nextItem (k : Nat) (x : Output) : (s.setOut k x).nextItem = s.nextItem := rfl
@[simp] theorem setOut_insts (k : Nat) (x : Output) : (s.setOut k x).insts = s.insts := rfl
@[simp] theorem setOut_guards (k : Nat) (x : Output) : (s.setOut k x).guards = s.guards := rfl
@[simp] theorem setOut_outs (k : Nat) (x : Output) : (s.setOut k x).outs = Tab.set s.outs k x := rfl
@[simp] theorem setOut_shadow (k : Nat) (x : Output) : (s.setOut k x).shadow = s.shadow := rfl
@[simp] theorem setOut_colourActive (k : Nat) (x : Output) : (s.setOut k x).colourActive = s.colourActive := rfl
@[simp] theorem setOut_lutBanks (k : Nat) (x : Output) : (s.setOut k x).lutBanks = s.lutBanks := rfl
@[simp] theorem setOut_substUnchecked (k : Nat) (x : Output) : (s.setOut k x).substUnchecked = s.substUnchecked := rfl
@[simp] theorem setOut_grip (k : Nat) (x : Output) : (s.setOut k x).grip = s.grip := rfl
@[simp] theorem setOut_jobs (k : Nat) (x : Output) : (s.setOut k x).jobs = s.jobs := rfl
@[simp] theorem setOut_mem (k : Nat) (x : Output) : (s.setOut k x).mem = s.mem := rfl
@[simp] theorem setOut_memConf (k : Nat) (x : Output) : (s.setOut k x).memConf = s.memConf := rfl
@[simp] theorem setOut_dram (k : Nat) (x : Output) : (s.setOut k x).dram = s.dram := rfl
@[simp] theorem setOut_keys (k : Nat) (x : Output) : (s.setOut k x).keys = s.keys := rfl
@[simp] theorem setOut_raster (k : Nat) (x : Output) : (s.setOut k x).raster = s.raster := rfl
@[simp] theorem setOut_ports (k : Nat) (x : Output) : (s.setOut k x).ports = s.ports := rfl
@[simp] theorem setOut_tally (k : Nat) (x : Output) : (s.setOut k x).tally = s.tally := rfl
@[simp] theorem setOut_tallyOvf (k : Nat) (x : Output) : (s.setOut k x).tallyOvf = s.tallyOvf := rfl
@[simp] theorem setOut_refusals (k : Nat) (x : Output) : (s.setOut k x).refusals = s.refusals := rfl
@[simp] theorem setOut_mailboxes (k : Nat) (x : Output) : (s.setOut k x).mailboxes = s.mailboxes := rfl
@[simp] theorem setOut_boot (k : Nat) (x : Output) : (s.setOut k x).boot = s.boot := rfl
@[simp] theorem setOut_flash (k : Nat) (x : Output) : (s.setOut k x).flash = s.flash := rfl
@[simp] theorem setOut_power (k : Nat) (x : Output) : (s.setOut k x).power = s.power := rfl
@[simp] theorem setOut_dailies (k : Nat) (x : Output) : (s.setOut k x).dailies = s.dailies := rfl
@[simp] theorem setOut_haps (k : Nat) (x : Output) : (s.setOut k x).haps = s.haps := rfl
@[simp] theorem setOut_foley (k : Nat) (x : Output) : (s.setOut k x).foley = s.foley := rfl
@[simp] theorem setOut_fronts (k : Nat) (x : Output) : (s.setOut k x).fronts = s.fronts := rfl
@[simp] theorem setOut_keyBank (k : Nat) (x : Output) : (s.setOut k x).keyBank = s.keyBank := rfl
@[simp] theorem setOut_cus (k : Nat) (x : Output) : (s.setOut k x).cus = s.cus := rfl
@[simp] theorem setOut_ldp (k : Nat) (x : Output) : (s.setOut k x).ldp = s.ldp := rfl
@[simp] theorem setOut_clocks (k : Nat) (x : Output) : (s.setOut k x).clocks = s.clocks := rfl
@[simp] theorem setOut_pending (k : Nat) (x : Output) : (s.setOut k x).pending = s.pending := rfl
@[simp] theorem setOut_rd (k : Nat) (x : Output) (ad : Nat) : (s.setOut k x).rd ad = s.rd ad := rfl

/-! ## modOut -/

@[simp] theorem modOut_objs (k : Nat) (f : Output → Output) : (s.modOut k f).objs = s.objs := rfl
@[simp] theorem modOut_clock (k : Nat) (f : Output → Output) : (s.modOut k f).clock = s.clock := rfl
@[simp] theorem modOut_dueSlots (k : Nat) (f : Output → Output) : (s.modOut k f).dueSlots = s.dueSlots := rfl
@[simp] theorem modOut_log (k : Nat) (f : Output → Output) : (s.modOut k f).log = s.log := rfl
@[simp] theorem modOut_io (k : Nat) (f : Output → Output) : (s.modOut k f).io = s.io := rfl
@[simp] theorem modOut_freeDrawn (k : Nat) (f : Output → Output) : (s.modOut k f).freeDrawn = s.freeDrawn := rfl
@[simp] theorem modOut_order (k : Nat) (f : Output → Output) : (s.modOut k f).order = s.order := rfl
@[simp] theorem modOut_items (k : Nat) (f : Output → Output) : (s.modOut k f).items = s.items := rfl
@[simp] theorem modOut_nextItem (k : Nat) (f : Output → Output) : (s.modOut k f).nextItem = s.nextItem := rfl
@[simp] theorem modOut_insts (k : Nat) (f : Output → Output) : (s.modOut k f).insts = s.insts := rfl
@[simp] theorem modOut_guards (k : Nat) (f : Output → Output) : (s.modOut k f).guards = s.guards := rfl
@[simp] theorem modOut_outs (k : Nat) (f : Output → Output) : (s.modOut k f).outs = Tab.set s.outs k (f (s.out k)) := rfl
@[simp] theorem modOut_shadow (k : Nat) (f : Output → Output) : (s.modOut k f).shadow = s.shadow := rfl
@[simp] theorem modOut_colourActive (k : Nat) (f : Output → Output) : (s.modOut k f).colourActive = s.colourActive := rfl
@[simp] theorem modOut_lutBanks (k : Nat) (f : Output → Output) : (s.modOut k f).lutBanks = s.lutBanks := rfl
@[simp] theorem modOut_substUnchecked (k : Nat) (f : Output → Output) : (s.modOut k f).substUnchecked = s.substUnchecked := rfl
@[simp] theorem modOut_grip (k : Nat) (f : Output → Output) : (s.modOut k f).grip = s.grip := rfl
@[simp] theorem modOut_jobs (k : Nat) (f : Output → Output) : (s.modOut k f).jobs = s.jobs := rfl
@[simp] theorem modOut_mem (k : Nat) (f : Output → Output) : (s.modOut k f).mem = s.mem := rfl
@[simp] theorem modOut_memConf (k : Nat) (f : Output → Output) : (s.modOut k f).memConf = s.memConf := rfl
@[simp] theorem modOut_dram (k : Nat) (f : Output → Output) : (s.modOut k f).dram = s.dram := rfl
@[simp] theorem modOut_keys (k : Nat) (f : Output → Output) : (s.modOut k f).keys = s.keys := rfl
@[simp] theorem modOut_raster (k : Nat) (f : Output → Output) : (s.modOut k f).raster = s.raster := rfl
@[simp] theorem modOut_ports (k : Nat) (f : Output → Output) : (s.modOut k f).ports = s.ports := rfl
@[simp] theorem modOut_tally (k : Nat) (f : Output → Output) : (s.modOut k f).tally = s.tally := rfl
@[simp] theorem modOut_tallyOvf (k : Nat) (f : Output → Output) : (s.modOut k f).tallyOvf = s.tallyOvf := rfl
@[simp] theorem modOut_refusals (k : Nat) (f : Output → Output) : (s.modOut k f).refusals = s.refusals := rfl
@[simp] theorem modOut_mailboxes (k : Nat) (f : Output → Output) : (s.modOut k f).mailboxes = s.mailboxes := rfl
@[simp] theorem modOut_boot (k : Nat) (f : Output → Output) : (s.modOut k f).boot = s.boot := rfl
@[simp] theorem modOut_flash (k : Nat) (f : Output → Output) : (s.modOut k f).flash = s.flash := rfl
@[simp] theorem modOut_power (k : Nat) (f : Output → Output) : (s.modOut k f).power = s.power := rfl
@[simp] theorem modOut_dailies (k : Nat) (f : Output → Output) : (s.modOut k f).dailies = s.dailies := rfl
@[simp] theorem modOut_haps (k : Nat) (f : Output → Output) : (s.modOut k f).haps = s.haps := rfl
@[simp] theorem modOut_foley (k : Nat) (f : Output → Output) : (s.modOut k f).foley = s.foley := rfl
@[simp] theorem modOut_fronts (k : Nat) (f : Output → Output) : (s.modOut k f).fronts = s.fronts := rfl
@[simp] theorem modOut_keyBank (k : Nat) (f : Output → Output) : (s.modOut k f).keyBank = s.keyBank := rfl
@[simp] theorem modOut_cus (k : Nat) (f : Output → Output) : (s.modOut k f).cus = s.cus := rfl
@[simp] theorem modOut_ldp (k : Nat) (f : Output → Output) : (s.modOut k f).ldp = s.ldp := rfl
@[simp] theorem modOut_clocks (k : Nat) (f : Output → Output) : (s.modOut k f).clocks = s.clocks := rfl
@[simp] theorem modOut_pending (k : Nat) (f : Output → Output) : (s.modOut k f).pending = s.pending := rfl
@[simp] theorem modOut_rd (k : Nat) (f : Output → Output) (ad : Nat) : (s.modOut k f).rd ad = s.rd ad := rfl

/-! ## setBacking -/

@[simp] theorem setBacking_objs (k : Nat) (b : Backing) : (s.setBacking k b).objs = s.objs := rfl
@[simp] theorem setBacking_clock (k : Nat) (b : Backing) : (s.setBacking k b).clock = s.clock := rfl
@[simp] theorem setBacking_dueSlots (k : Nat) (b : Backing) : (s.setBacking k b).dueSlots = s.dueSlots := rfl
@[simp] theorem setBacking_log (k : Nat) (b : Backing) : (s.setBacking k b).log = s.log := rfl
@[simp] theorem setBacking_io (k : Nat) (b : Backing) : (s.setBacking k b).io = s.io := rfl
@[simp] theorem setBacking_freeDrawn (k : Nat) (b : Backing) : (s.setBacking k b).freeDrawn = s.freeDrawn := rfl
@[simp] theorem setBacking_order (k : Nat) (b : Backing) : (s.setBacking k b).order = s.order := rfl
@[simp] theorem setBacking_items (k : Nat) (b : Backing) : (s.setBacking k b).items = s.items := rfl
@[simp] theorem setBacking_nextItem (k : Nat) (b : Backing) : (s.setBacking k b).nextItem = s.nextItem := rfl
@[simp] theorem setBacking_insts (k : Nat) (b : Backing) : (s.setBacking k b).insts = s.insts := rfl
@[simp] theorem setBacking_guards (k : Nat) (b : Backing) : (s.setBacking k b).guards = s.guards := rfl
@[simp] theorem setBacking_outs (k : Nat) (b : Backing) : (s.setBacking k b).outs = s.outs := rfl
@[simp] theorem setBacking_shadow (k : Nat) (b : Backing) : (s.setBacking k b).shadow = s.shadow := rfl
@[simp] theorem setBacking_colourActive (k : Nat) (b : Backing) : (s.setBacking k b).colourActive = s.colourActive := rfl
@[simp] theorem setBacking_lutBanks (k : Nat) (b : Backing) : (s.setBacking k b).lutBanks = s.lutBanks := rfl
@[simp] theorem setBacking_substUnchecked (k : Nat) (b : Backing) : (s.setBacking k b).substUnchecked = s.substUnchecked := rfl
@[simp] theorem setBacking_jobs (k : Nat) (b : Backing) : (s.setBacking k b).jobs = s.jobs := rfl
@[simp] theorem setBacking_mem (k : Nat) (b : Backing) : (s.setBacking k b).mem = s.mem := rfl
@[simp] theorem setBacking_memConf (k : Nat) (b : Backing) : (s.setBacking k b).memConf = s.memConf := rfl
@[simp] theorem setBacking_dram (k : Nat) (b : Backing) : (s.setBacking k b).dram = s.dram := rfl
@[simp] theorem setBacking_keys (k : Nat) (b : Backing) : (s.setBacking k b).keys = s.keys := rfl
@[simp] theorem setBacking_raster (k : Nat) (b : Backing) : (s.setBacking k b).raster = s.raster := rfl
@[simp] theorem setBacking_ports (k : Nat) (b : Backing) : (s.setBacking k b).ports = s.ports := rfl
@[simp] theorem setBacking_tally (k : Nat) (b : Backing) : (s.setBacking k b).tally = s.tally := rfl
@[simp] theorem setBacking_tallyOvf (k : Nat) (b : Backing) : (s.setBacking k b).tallyOvf = s.tallyOvf := rfl
@[simp] theorem setBacking_refusals (k : Nat) (b : Backing) : (s.setBacking k b).refusals = s.refusals := rfl
@[simp] theorem setBacking_mailboxes (k : Nat) (b : Backing) : (s.setBacking k b).mailboxes = s.mailboxes := rfl
@[simp] theorem setBacking_boot (k : Nat) (b : Backing) : (s.setBacking k b).boot = s.boot := rfl
@[simp] theorem setBacking_flash (k : Nat) (b : Backing) : (s.setBacking k b).flash = s.flash := rfl
@[simp] theorem setBacking_power (k : Nat) (b : Backing) : (s.setBacking k b).power = s.power := rfl
@[simp] theorem setBacking_dailies (k : Nat) (b : Backing) : (s.setBacking k b).dailies = s.dailies := rfl
@[simp] theorem setBacking_haps (k : Nat) (b : Backing) : (s.setBacking k b).haps = s.haps := rfl
@[simp] theorem setBacking_foley (k : Nat) (b : Backing) : (s.setBacking k b).foley = s.foley := rfl
@[simp] theorem setBacking_fronts (k : Nat) (b : Backing) : (s.setBacking k b).fronts = s.fronts := rfl
@[simp] theorem setBacking_keyBank (k : Nat) (b : Backing) : (s.setBacking k b).keyBank = s.keyBank := rfl
@[simp] theorem setBacking_cus (k : Nat) (b : Backing) : (s.setBacking k b).cus = s.cus := rfl
@[simp] theorem setBacking_ldp (k : Nat) (b : Backing) : (s.setBacking k b).ldp = s.ldp := rfl
@[simp] theorem setBacking_clocks (k : Nat) (b : Backing) : (s.setBacking k b).clocks = s.clocks := rfl
@[simp] theorem setBacking_pending (k : Nat) (b : Backing) : (s.setBacking k b).pending = s.pending := rfl
@[simp] theorem setBacking_rd (k : Nat) (b : Backing) (ad : Nat) : (s.setBacking k b).rd ad = s.rd ad := rfl

/-! ## setUnit -/

@[simp] theorem setUnit_objs (n : Nat) (u : Unit) : (s.setUnit n u).objs = s.objs := rfl
@[simp] theorem setUnit_clock (n : Nat) (u : Unit) : (s.setUnit n u).clock = s.clock := rfl
@[simp] theorem setUnit_dueSlots (n : Nat) (u : Unit) : (s.setUnit n u).dueSlots = s.dueSlots := rfl
@[simp] theorem setUnit_log (n : Nat) (u : Unit) : (s.setUnit n u).log = s.log := rfl
@[simp] theorem setUnit_io (n : Nat) (u : Unit) : (s.setUnit n u).io = s.io := rfl
@[simp] theorem setUnit_freeDrawn (n : Nat) (u : Unit) : (s.setUnit n u).freeDrawn = s.freeDrawn := rfl
@[simp] theorem setUnit_order (n : Nat) (u : Unit) : (s.setUnit n u).order = s.order := rfl
@[simp] theorem setUnit_items (n : Nat) (u : Unit) : (s.setUnit n u).items = s.items := rfl
@[simp] theorem setUnit_nextItem (n : Nat) (u : Unit) : (s.setUnit n u).nextItem = s.nextItem := rfl
@[simp] theorem setUnit_insts (n : Nat) (u : Unit) : (s.setUnit n u).insts = s.insts := rfl
@[simp] theorem setUnit_guards (n : Nat) (u : Unit) : (s.setUnit n u).guards = s.guards := rfl
@[simp] theorem setUnit_outs (n : Nat) (u : Unit) : (s.setUnit n u).outs = s.outs := rfl
@[simp] theorem setUnit_shadow (n : Nat) (u : Unit) : (s.setUnit n u).shadow = s.shadow := rfl
@[simp] theorem setUnit_colourActive (n : Nat) (u : Unit) : (s.setUnit n u).colourActive = s.colourActive := rfl
@[simp] theorem setUnit_lutBanks (n : Nat) (u : Unit) : (s.setUnit n u).lutBanks = s.lutBanks := rfl
@[simp] theorem setUnit_substUnchecked (n : Nat) (u : Unit) : (s.setUnit n u).substUnchecked = s.substUnchecked := rfl
@[simp] theorem setUnit_jobs (n : Nat) (u : Unit) : (s.setUnit n u).jobs = s.jobs := rfl
@[simp] theorem setUnit_mem (n : Nat) (u : Unit) : (s.setUnit n u).mem = s.mem := rfl
@[simp] theorem setUnit_memConf (n : Nat) (u : Unit) : (s.setUnit n u).memConf = s.memConf := rfl
@[simp] theorem setUnit_dram (n : Nat) (u : Unit) : (s.setUnit n u).dram = s.dram := rfl
@[simp] theorem setUnit_keys (n : Nat) (u : Unit) : (s.setUnit n u).keys = s.keys := rfl
@[simp] theorem setUnit_raster (n : Nat) (u : Unit) : (s.setUnit n u).raster = s.raster := rfl
@[simp] theorem setUnit_ports (n : Nat) (u : Unit) : (s.setUnit n u).ports = s.ports := rfl
@[simp] theorem setUnit_tally (n : Nat) (u : Unit) : (s.setUnit n u).tally = s.tally := rfl
@[simp] theorem setUnit_tallyOvf (n : Nat) (u : Unit) : (s.setUnit n u).tallyOvf = s.tallyOvf := rfl
@[simp] theorem setUnit_refusals (n : Nat) (u : Unit) : (s.setUnit n u).refusals = s.refusals := rfl
@[simp] theorem setUnit_mailboxes (n : Nat) (u : Unit) : (s.setUnit n u).mailboxes = s.mailboxes := rfl
@[simp] theorem setUnit_boot (n : Nat) (u : Unit) : (s.setUnit n u).boot = s.boot := rfl
@[simp] theorem setUnit_flash (n : Nat) (u : Unit) : (s.setUnit n u).flash = s.flash := rfl
@[simp] theorem setUnit_power (n : Nat) (u : Unit) : (s.setUnit n u).power = s.power := rfl
@[simp] theorem setUnit_dailies (n : Nat) (u : Unit) : (s.setUnit n u).dailies = s.dailies := rfl
@[simp] theorem setUnit_haps (n : Nat) (u : Unit) : (s.setUnit n u).haps = s.haps := rfl
@[simp] theorem setUnit_foley (n : Nat) (u : Unit) : (s.setUnit n u).foley = s.foley := rfl
@[simp] theorem setUnit_fronts (n : Nat) (u : Unit) : (s.setUnit n u).fronts = s.fronts := rfl
@[simp] theorem setUnit_keyBank (n : Nat) (u : Unit) : (s.setUnit n u).keyBank = s.keyBank := rfl
@[simp] theorem setUnit_cus (n : Nat) (u : Unit) : (s.setUnit n u).cus = s.cus := rfl
@[simp] theorem setUnit_ldp (n : Nat) (u : Unit) : (s.setUnit n u).ldp = s.ldp := rfl
@[simp] theorem setUnit_clocks (n : Nat) (u : Unit) : (s.setUnit n u).clocks = s.clocks := rfl
@[simp] theorem setUnit_pending (n : Nat) (u : Unit) : (s.setUnit n u).pending = s.pending := rfl
@[simp] theorem setUnit_rd (n : Nat) (u : Unit) (ad : Nat) : (s.setUnit n u).rd ad = s.rd ad := rfl

/-! ## setSurf -/

@[simp] theorem setSurf_objs (n : Nat) (x : Surface) : (s.setSurf n x).objs = s.objs := rfl
@[simp] theorem setSurf_clock (n : Nat) (x : Surface) : (s.setSurf n x).clock = s.clock := rfl
@[simp] theorem setSurf_dueSlots (n : Nat) (x : Surface) : (s.setSurf n x).dueSlots = s.dueSlots := rfl
@[simp] theorem setSurf_log (n : Nat) (x : Surface) : (s.setSurf n x).log = s.log := rfl
@[simp] theorem setSurf_io (n : Nat) (x : Surface) : (s.setSurf n x).io = s.io := rfl
@[simp] theorem setSurf_freeDrawn (n : Nat) (x : Surface) : (s.setSurf n x).freeDrawn = s.freeDrawn := rfl
@[simp] theorem setSurf_order (n : Nat) (x : Surface) : (s.setSurf n x).order = s.order := rfl
@[simp] theorem setSurf_items (n : Nat) (x : Surface) : (s.setSurf n x).items = s.items := rfl
@[simp] theorem setSurf_nextItem (n : Nat) (x : Surface) : (s.setSurf n x).nextItem = s.nextItem := rfl
@[simp] theorem setSurf_insts (n : Nat) (x : Surface) : (s.setSurf n x).insts = s.insts := rfl
@[simp] theorem setSurf_guards (n : Nat) (x : Surface) : (s.setSurf n x).guards = s.guards := rfl
@[simp] theorem setSurf_outs (n : Nat) (x : Surface) : (s.setSurf n x).outs = s.outs := rfl
@[simp] theorem setSurf_shadow (n : Nat) (x : Surface) : (s.setSurf n x).shadow = s.shadow := rfl
@[simp] theorem setSurf_colourActive (n : Nat) (x : Surface) : (s.setSurf n x).colourActive = s.colourActive := rfl
@[simp] theorem setSurf_lutBanks (n : Nat) (x : Surface) : (s.setSurf n x).lutBanks = s.lutBanks := rfl
@[simp] theorem setSurf_substUnchecked (n : Nat) (x : Surface) : (s.setSurf n x).substUnchecked = s.substUnchecked := rfl
@[simp] theorem setSurf_jobs (n : Nat) (x : Surface) : (s.setSurf n x).jobs = s.jobs := rfl
@[simp] theorem setSurf_mem (n : Nat) (x : Surface) : (s.setSurf n x).mem = s.mem := rfl
@[simp] theorem setSurf_memConf (n : Nat) (x : Surface) : (s.setSurf n x).memConf = s.memConf := rfl
@[simp] theorem setSurf_dram (n : Nat) (x : Surface) : (s.setSurf n x).dram = s.dram := rfl
@[simp] theorem setSurf_keys (n : Nat) (x : Surface) : (s.setSurf n x).keys = s.keys := rfl
@[simp] theorem setSurf_raster (n : Nat) (x : Surface) : (s.setSurf n x).raster = s.raster := rfl
@[simp] theorem setSurf_ports (n : Nat) (x : Surface) : (s.setSurf n x).ports = s.ports := rfl
@[simp] theorem setSurf_tally (n : Nat) (x : Surface) : (s.setSurf n x).tally = s.tally := rfl
@[simp] theorem setSurf_tallyOvf (n : Nat) (x : Surface) : (s.setSurf n x).tallyOvf = s.tallyOvf := rfl
@[simp] theorem setSurf_refusals (n : Nat) (x : Surface) : (s.setSurf n x).refusals = s.refusals := rfl
@[simp] theorem setSurf_mailboxes (n : Nat) (x : Surface) : (s.setSurf n x).mailboxes = s.mailboxes := rfl
@[simp] theorem setSurf_boot (n : Nat) (x : Surface) : (s.setSurf n x).boot = s.boot := rfl
@[simp] theorem setSurf_flash (n : Nat) (x : Surface) : (s.setSurf n x).flash = s.flash := rfl
@[simp] theorem setSurf_power (n : Nat) (x : Surface) : (s.setSurf n x).power = s.power := rfl
@[simp] theorem setSurf_dailies (n : Nat) (x : Surface) : (s.setSurf n x).dailies = s.dailies := rfl
@[simp] theorem setSurf_haps (n : Nat) (x : Surface) : (s.setSurf n x).haps = s.haps := rfl
@[simp] theorem setSurf_foley (n : Nat) (x : Surface) : (s.setSurf n x).foley = s.foley := rfl
@[simp] theorem setSurf_fronts (n : Nat) (x : Surface) : (s.setSurf n x).fronts = s.fronts := rfl
@[simp] theorem setSurf_keyBank (n : Nat) (x : Surface) : (s.setSurf n x).keyBank = s.keyBank := rfl
@[simp] theorem setSurf_cus (n : Nat) (x : Surface) : (s.setSurf n x).cus = s.cus := rfl
@[simp] theorem setSurf_ldp (n : Nat) (x : Surface) : (s.setSurf n x).ldp = s.ldp := rfl
@[simp] theorem setSurf_clocks (n : Nat) (x : Surface) : (s.setSurf n x).clocks = s.clocks := rfl
@[simp] theorem setSurf_pending (n : Nat) (x : Surface) : (s.setSurf n x).pending = s.pending := rfl
@[simp] theorem setSurf_rd (n : Nat) (x : Surface) (ad : Nat) : (s.setSurf n x).rd ad = s.rd ad := rfl

/-! ## modSurf -/

@[simp] theorem modSurf_objs (n : Nat) (f : Surface → Surface) : (s.modSurf n f).objs = s.objs := rfl
@[simp] theorem modSurf_clock (n : Nat) (f : Surface → Surface) : (s.modSurf n f).clock = s.clock := rfl
@[simp] theorem modSurf_dueSlots (n : Nat) (f : Surface → Surface) : (s.modSurf n f).dueSlots = s.dueSlots := rfl
@[simp] theorem modSurf_log (n : Nat) (f : Surface → Surface) : (s.modSurf n f).log = s.log := rfl
@[simp] theorem modSurf_io (n : Nat) (f : Surface → Surface) : (s.modSurf n f).io = s.io := rfl
@[simp] theorem modSurf_freeDrawn (n : Nat) (f : Surface → Surface) : (s.modSurf n f).freeDrawn = s.freeDrawn := rfl
@[simp] theorem modSurf_order (n : Nat) (f : Surface → Surface) : (s.modSurf n f).order = s.order := rfl
@[simp] theorem modSurf_items (n : Nat) (f : Surface → Surface) : (s.modSurf n f).items = s.items := rfl
@[simp] theorem modSurf_nextItem (n : Nat) (f : Surface → Surface) : (s.modSurf n f).nextItem = s.nextItem := rfl
@[simp] theorem modSurf_insts (n : Nat) (f : Surface → Surface) : (s.modSurf n f).insts = s.insts := rfl
@[simp] theorem modSurf_guards (n : Nat) (f : Surface → Surface) : (s.modSurf n f).guards = s.guards := rfl
@[simp] theorem modSurf_outs (n : Nat) (f : Surface → Surface) : (s.modSurf n f).outs = s.outs := rfl
@[simp] theorem modSurf_shadow (n : Nat) (f : Surface → Surface) : (s.modSurf n f).shadow = s.shadow := rfl
@[simp] theorem modSurf_colourActive (n : Nat) (f : Surface → Surface) : (s.modSurf n f).colourActive = s.colourActive := rfl
@[simp] theorem modSurf_lutBanks (n : Nat) (f : Surface → Surface) : (s.modSurf n f).lutBanks = s.lutBanks := rfl
@[simp] theorem modSurf_substUnchecked (n : Nat) (f : Surface → Surface) : (s.modSurf n f).substUnchecked = s.substUnchecked := rfl
@[simp] theorem modSurf_jobs (n : Nat) (f : Surface → Surface) : (s.modSurf n f).jobs = s.jobs := rfl
@[simp] theorem modSurf_mem (n : Nat) (f : Surface → Surface) : (s.modSurf n f).mem = s.mem := rfl
@[simp] theorem modSurf_memConf (n : Nat) (f : Surface → Surface) : (s.modSurf n f).memConf = s.memConf := rfl
@[simp] theorem modSurf_dram (n : Nat) (f : Surface → Surface) : (s.modSurf n f).dram = s.dram := rfl
@[simp] theorem modSurf_keys (n : Nat) (f : Surface → Surface) : (s.modSurf n f).keys = s.keys := rfl
@[simp] theorem modSurf_raster (n : Nat) (f : Surface → Surface) : (s.modSurf n f).raster = s.raster := rfl
@[simp] theorem modSurf_ports (n : Nat) (f : Surface → Surface) : (s.modSurf n f).ports = s.ports := rfl
@[simp] theorem modSurf_tally (n : Nat) (f : Surface → Surface) : (s.modSurf n f).tally = s.tally := rfl
@[simp] theorem modSurf_tallyOvf (n : Nat) (f : Surface → Surface) : (s.modSurf n f).tallyOvf = s.tallyOvf := rfl
@[simp] theorem modSurf_refusals (n : Nat) (f : Surface → Surface) : (s.modSurf n f).refusals = s.refusals := rfl
@[simp] theorem modSurf_mailboxes (n : Nat) (f : Surface → Surface) : (s.modSurf n f).mailboxes = s.mailboxes := rfl
@[simp] theorem modSurf_boot (n : Nat) (f : Surface → Surface) : (s.modSurf n f).boot = s.boot := rfl
@[simp] theorem modSurf_flash (n : Nat) (f : Surface → Surface) : (s.modSurf n f).flash = s.flash := rfl
@[simp] theorem modSurf_power (n : Nat) (f : Surface → Surface) : (s.modSurf n f).power = s.power := rfl
@[simp] theorem modSurf_dailies (n : Nat) (f : Surface → Surface) : (s.modSurf n f).dailies = s.dailies := rfl
@[simp] theorem modSurf_haps (n : Nat) (f : Surface → Surface) : (s.modSurf n f).haps = s.haps := rfl
@[simp] theorem modSurf_foley (n : Nat) (f : Surface → Surface) : (s.modSurf n f).foley = s.foley := rfl
@[simp] theorem modSurf_fronts (n : Nat) (f : Surface → Surface) : (s.modSurf n f).fronts = s.fronts := rfl
@[simp] theorem modSurf_keyBank (n : Nat) (f : Surface → Surface) : (s.modSurf n f).keyBank = s.keyBank := rfl
@[simp] theorem modSurf_cus (n : Nat) (f : Surface → Surface) : (s.modSurf n f).cus = s.cus := rfl
@[simp] theorem modSurf_ldp (n : Nat) (f : Surface → Surface) : (s.modSurf n f).ldp = s.ldp := rfl
@[simp] theorem modSurf_clocks (n : Nat) (f : Surface → Surface) : (s.modSurf n f).clocks = s.clocks := rfl
@[simp] theorem modSurf_pending (n : Nat) (f : Surface → Surface) : (s.modSurf n f).pending = s.pending := rfl
@[simp] theorem modSurf_rd (n : Nat) (f : Surface → Surface) (ad : Nat) : (s.modSurf n f).rd ad = s.rd ad := rfl

/-! ## setAreas -/

@[simp] theorem setAreas_objs (l : List Area) : (s.setAreas l).objs = s.objs := rfl
@[simp] theorem setAreas_clock (l : List Area) : (s.setAreas l).clock = s.clock := rfl
@[simp] theorem setAreas_dueSlots (l : List Area) : (s.setAreas l).dueSlots = s.dueSlots := rfl
@[simp] theorem setAreas_log (l : List Area) : (s.setAreas l).log = s.log := rfl
@[simp] theorem setAreas_io (l : List Area) : (s.setAreas l).io = s.io := rfl
@[simp] theorem setAreas_freeDrawn (l : List Area) : (s.setAreas l).freeDrawn = s.freeDrawn := rfl
@[simp] theorem setAreas_order (l : List Area) : (s.setAreas l).order = s.order := rfl
@[simp] theorem setAreas_items (l : List Area) : (s.setAreas l).items = s.items := rfl
@[simp] theorem setAreas_nextItem (l : List Area) : (s.setAreas l).nextItem = s.nextItem := rfl
@[simp] theorem setAreas_insts (l : List Area) : (s.setAreas l).insts = s.insts := rfl
@[simp] theorem setAreas_guards (l : List Area) : (s.setAreas l).guards = s.guards := rfl
@[simp] theorem setAreas_outs (l : List Area) : (s.setAreas l).outs = s.outs := rfl
@[simp] theorem setAreas_shadow (l : List Area) : (s.setAreas l).shadow = s.shadow := rfl
@[simp] theorem setAreas_colourActive (l : List Area) : (s.setAreas l).colourActive = s.colourActive := rfl
@[simp] theorem setAreas_lutBanks (l : List Area) : (s.setAreas l).lutBanks = s.lutBanks := rfl
@[simp] theorem setAreas_substUnchecked (l : List Area) : (s.setAreas l).substUnchecked = s.substUnchecked := rfl
@[simp] theorem setAreas_jobs (l : List Area) : (s.setAreas l).jobs = s.jobs := rfl
@[simp] theorem setAreas_mem (l : List Area) : (s.setAreas l).mem = s.mem := rfl
@[simp] theorem setAreas_memConf (l : List Area) : (s.setAreas l).memConf = s.memConf := rfl
@[simp] theorem setAreas_dram (l : List Area) : (s.setAreas l).dram = s.dram := rfl
@[simp] theorem setAreas_keys (l : List Area) : (s.setAreas l).keys = s.keys := rfl
@[simp] theorem setAreas_raster (l : List Area) : (s.setAreas l).raster = s.raster := rfl
@[simp] theorem setAreas_ports (l : List Area) : (s.setAreas l).ports = s.ports := rfl
@[simp] theorem setAreas_tally (l : List Area) : (s.setAreas l).tally = s.tally := rfl
@[simp] theorem setAreas_tallyOvf (l : List Area) : (s.setAreas l).tallyOvf = s.tallyOvf := rfl
@[simp] theorem setAreas_refusals (l : List Area) : (s.setAreas l).refusals = s.refusals := rfl
@[simp] theorem setAreas_mailboxes (l : List Area) : (s.setAreas l).mailboxes = s.mailboxes := rfl
@[simp] theorem setAreas_boot (l : List Area) : (s.setAreas l).boot = s.boot := rfl
@[simp] theorem setAreas_flash (l : List Area) : (s.setAreas l).flash = s.flash := rfl
@[simp] theorem setAreas_power (l : List Area) : (s.setAreas l).power = s.power := rfl
@[simp] theorem setAreas_dailies (l : List Area) : (s.setAreas l).dailies = s.dailies := rfl
@[simp] theorem setAreas_haps (l : List Area) : (s.setAreas l).haps = s.haps := rfl
@[simp] theorem setAreas_foley (l : List Area) : (s.setAreas l).foley = s.foley := rfl
@[simp] theorem setAreas_fronts (l : List Area) : (s.setAreas l).fronts = s.fronts := rfl
@[simp] theorem setAreas_keyBank (l : List Area) : (s.setAreas l).keyBank = s.keyBank := rfl
@[simp] theorem setAreas_cus (l : List Area) : (s.setAreas l).cus = s.cus := rfl
@[simp] theorem setAreas_ldp (l : List Area) : (s.setAreas l).ldp = s.ldp := rfl
@[simp] theorem setAreas_clocks (l : List Area) : (s.setAreas l).clocks = s.clocks := rfl
@[simp] theorem setAreas_pending (l : List Area) : (s.setAreas l).pending = s.pending := rfl
@[simp] theorem setAreas_rd (l : List Area) (ad : Nat) : (s.setAreas l).rd ad = s.rd ad := rfl

/-! ## setByte -/

@[simp] theorem setByte_objs (a : Nat) (v : BitVec 8) : (s.setByte a v).objs = s.objs := rfl
@[simp] theorem setByte_clock (a : Nat) (v : BitVec 8) : (s.setByte a v).clock = s.clock := rfl
@[simp] theorem setByte_dueSlots (a : Nat) (v : BitVec 8) : (s.setByte a v).dueSlots = s.dueSlots := rfl
@[simp] theorem setByte_log (a : Nat) (v : BitVec 8) : (s.setByte a v).log = s.log := rfl
@[simp] theorem setByte_io (a : Nat) (v : BitVec 8) : (s.setByte a v).io = s.io := rfl
@[simp] theorem setByte_freeDrawn (a : Nat) (v : BitVec 8) : (s.setByte a v).freeDrawn = s.freeDrawn := rfl
@[simp] theorem setByte_order (a : Nat) (v : BitVec 8) : (s.setByte a v).order = s.order := rfl
@[simp] theorem setByte_items (a : Nat) (v : BitVec 8) : (s.setByte a v).items = s.items := rfl
@[simp] theorem setByte_nextItem (a : Nat) (v : BitVec 8) : (s.setByte a v).nextItem = s.nextItem := rfl
@[simp] theorem setByte_insts (a : Nat) (v : BitVec 8) : (s.setByte a v).insts = s.insts := rfl
@[simp] theorem setByte_guards (a : Nat) (v : BitVec 8) : (s.setByte a v).guards = s.guards := rfl
@[simp] theorem setByte_outs (a : Nat) (v : BitVec 8) : (s.setByte a v).outs = s.outs := rfl
@[simp] theorem setByte_shadow (a : Nat) (v : BitVec 8) : (s.setByte a v).shadow = s.shadow := rfl
@[simp] theorem setByte_colourActive (a : Nat) (v : BitVec 8) : (s.setByte a v).colourActive = s.colourActive := rfl
@[simp] theorem setByte_lutBanks (a : Nat) (v : BitVec 8) : (s.setByte a v).lutBanks = s.lutBanks := rfl
@[simp] theorem setByte_substUnchecked (a : Nat) (v : BitVec 8) : (s.setByte a v).substUnchecked = s.substUnchecked := rfl
@[simp] theorem setByte_grip (a : Nat) (v : BitVec 8) : (s.setByte a v).grip = s.grip := rfl
@[simp] theorem setByte_jobs (a : Nat) (v : BitVec 8) : (s.setByte a v).jobs = s.jobs := rfl
@[simp] theorem setByte_mem (a : Nat) (v : BitVec 8) : (s.setByte a v).mem = Memory.set s.mem a v := rfl
@[simp] theorem setByte_memConf (a : Nat) (v : BitVec 8) : (s.setByte a v).memConf = s.memConf := rfl
@[simp] theorem setByte_dram (a : Nat) (v : BitVec 8) : (s.setByte a v).dram = s.dram := rfl
@[simp] theorem setByte_keys (a : Nat) (v : BitVec 8) : (s.setByte a v).keys = s.keys := rfl
@[simp] theorem setByte_raster (a : Nat) (v : BitVec 8) : (s.setByte a v).raster = s.raster := rfl
@[simp] theorem setByte_ports (a : Nat) (v : BitVec 8) : (s.setByte a v).ports = s.ports := rfl
@[simp] theorem setByte_tally (a : Nat) (v : BitVec 8) : (s.setByte a v).tally = s.tally := rfl
@[simp] theorem setByte_tallyOvf (a : Nat) (v : BitVec 8) : (s.setByte a v).tallyOvf = s.tallyOvf := rfl
@[simp] theorem setByte_refusals (a : Nat) (v : BitVec 8) : (s.setByte a v).refusals = s.refusals := rfl
@[simp] theorem setByte_mailboxes (a : Nat) (v : BitVec 8) : (s.setByte a v).mailboxes = s.mailboxes := rfl
@[simp] theorem setByte_boot (a : Nat) (v : BitVec 8) : (s.setByte a v).boot = s.boot := rfl
@[simp] theorem setByte_flash (a : Nat) (v : BitVec 8) : (s.setByte a v).flash = s.flash := rfl
@[simp] theorem setByte_power (a : Nat) (v : BitVec 8) : (s.setByte a v).power = s.power := rfl
@[simp] theorem setByte_dailies (a : Nat) (v : BitVec 8) : (s.setByte a v).dailies = s.dailies := rfl
@[simp] theorem setByte_haps (a : Nat) (v : BitVec 8) : (s.setByte a v).haps = s.haps := rfl
@[simp] theorem setByte_foley (a : Nat) (v : BitVec 8) : (s.setByte a v).foley = s.foley := rfl
@[simp] theorem setByte_fronts (a : Nat) (v : BitVec 8) : (s.setByte a v).fronts = s.fronts := rfl
@[simp] theorem setByte_keyBank (a : Nat) (v : BitVec 8) : (s.setByte a v).keyBank = s.keyBank := rfl
@[simp] theorem setByte_cus (a : Nat) (v : BitVec 8) : (s.setByte a v).cus = s.cus := rfl
@[simp] theorem setByte_ldp (a : Nat) (v : BitVec 8) : (s.setByte a v).ldp = s.ldp := rfl
@[simp] theorem setByte_clocks (a : Nat) (v : BitVec 8) : (s.setByte a v).clocks = s.clocks := rfl
@[simp] theorem setByte_pending (a : Nat) (v : BitVec 8) : (s.setByte a v).pending = s.pending := rfl
@[simp] theorem setByte_rd (a : Nat) (v : BitVec 8) (ad : Nat) : (s.setByte a v).rd ad = s.rd ad := rfl

/-! ## modDram -/

@[simp] theorem modDram_objs (f : Dram → Dram) : (s.modDram f).objs = s.objs := rfl
@[simp] theorem modDram_clock (f : Dram → Dram) : (s.modDram f).clock = s.clock := rfl
@[simp] theorem modDram_dueSlots (f : Dram → Dram) : (s.modDram f).dueSlots = s.dueSlots := rfl
@[simp] theorem modDram_log (f : Dram → Dram) : (s.modDram f).log = s.log := rfl
@[simp] theorem modDram_io (f : Dram → Dram) : (s.modDram f).io = s.io := rfl
@[simp] theorem modDram_freeDrawn (f : Dram → Dram) : (s.modDram f).freeDrawn = s.freeDrawn := rfl
@[simp] theorem modDram_order (f : Dram → Dram) : (s.modDram f).order = s.order := rfl
@[simp] theorem modDram_items (f : Dram → Dram) : (s.modDram f).items = s.items := rfl
@[simp] theorem modDram_nextItem (f : Dram → Dram) : (s.modDram f).nextItem = s.nextItem := rfl
@[simp] theorem modDram_insts (f : Dram → Dram) : (s.modDram f).insts = s.insts := rfl
@[simp] theorem modDram_guards (f : Dram → Dram) : (s.modDram f).guards = s.guards := rfl
@[simp] theorem modDram_outs (f : Dram → Dram) : (s.modDram f).outs = s.outs := rfl
@[simp] theorem modDram_shadow (f : Dram → Dram) : (s.modDram f).shadow = s.shadow := rfl
@[simp] theorem modDram_colourActive (f : Dram → Dram) : (s.modDram f).colourActive = s.colourActive := rfl
@[simp] theorem modDram_lutBanks (f : Dram → Dram) : (s.modDram f).lutBanks = s.lutBanks := rfl
@[simp] theorem modDram_substUnchecked (f : Dram → Dram) : (s.modDram f).substUnchecked = s.substUnchecked := rfl
@[simp] theorem modDram_grip (f : Dram → Dram) : (s.modDram f).grip = s.grip := rfl
@[simp] theorem modDram_jobs (f : Dram → Dram) : (s.modDram f).jobs = s.jobs := rfl
@[simp] theorem modDram_mem (f : Dram → Dram) : (s.modDram f).mem = s.mem := rfl
@[simp] theorem modDram_memConf (f : Dram → Dram) : (s.modDram f).memConf = s.memConf := rfl
@[simp] theorem modDram_dram (f : Dram → Dram) : (s.modDram f).dram = f s.dram := rfl
@[simp] theorem modDram_keys (f : Dram → Dram) : (s.modDram f).keys = s.keys := rfl
@[simp] theorem modDram_raster (f : Dram → Dram) : (s.modDram f).raster = s.raster := rfl
@[simp] theorem modDram_ports (f : Dram → Dram) : (s.modDram f).ports = s.ports := rfl
@[simp] theorem modDram_tally (f : Dram → Dram) : (s.modDram f).tally = s.tally := rfl
@[simp] theorem modDram_tallyOvf (f : Dram → Dram) : (s.modDram f).tallyOvf = s.tallyOvf := rfl
@[simp] theorem modDram_refusals (f : Dram → Dram) : (s.modDram f).refusals = s.refusals := rfl
@[simp] theorem modDram_mailboxes (f : Dram → Dram) : (s.modDram f).mailboxes = s.mailboxes := rfl
@[simp] theorem modDram_boot (f : Dram → Dram) : (s.modDram f).boot = s.boot := rfl
@[simp] theorem modDram_flash (f : Dram → Dram) : (s.modDram f).flash = s.flash := rfl
@[simp] theorem modDram_power (f : Dram → Dram) : (s.modDram f).power = s.power := rfl
@[simp] theorem modDram_dailies (f : Dram → Dram) : (s.modDram f).dailies = s.dailies := rfl
@[simp] theorem modDram_haps (f : Dram → Dram) : (s.modDram f).haps = s.haps := rfl
@[simp] theorem modDram_foley (f : Dram → Dram) : (s.modDram f).foley = s.foley := rfl
@[simp] theorem modDram_fronts (f : Dram → Dram) : (s.modDram f).fronts = s.fronts := rfl
@[simp] theorem modDram_keyBank (f : Dram → Dram) : (s.modDram f).keyBank = s.keyBank := rfl
@[simp] theorem modDram_cus (f : Dram → Dram) : (s.modDram f).cus = s.cus := rfl
@[simp] theorem modDram_ldp (f : Dram → Dram) : (s.modDram f).ldp = s.ldp := rfl
@[simp] theorem modDram_clocks (f : Dram → Dram) : (s.modDram f).clocks = s.clocks := rfl
@[simp] theorem modDram_pending (f : Dram → Dram) : (s.modDram f).pending = s.pending := rfl
@[simp] theorem modDram_rd (f : Dram → Dram) (ad : Nat) : (s.modDram f).rd ad = s.rd ad := rfl

/-! ## modChan -/

@[simp] theorem modChan_objs (m : Nat) (f : MemChan → MemChan) : (s.modChan m f).objs = s.objs := rfl
@[simp] theorem modChan_clock (m : Nat) (f : MemChan → MemChan) : (s.modChan m f).clock = s.clock := rfl
@[simp] theorem modChan_dueSlots (m : Nat) (f : MemChan → MemChan) : (s.modChan m f).dueSlots = s.dueSlots := rfl
@[simp] theorem modChan_log (m : Nat) (f : MemChan → MemChan) : (s.modChan m f).log = s.log := rfl
@[simp] theorem modChan_io (m : Nat) (f : MemChan → MemChan) : (s.modChan m f).io = s.io := rfl
@[simp] theorem modChan_freeDrawn (m : Nat) (f : MemChan → MemChan) : (s.modChan m f).freeDrawn = s.freeDrawn := rfl
@[simp] theorem modChan_order (m : Nat) (f : MemChan → MemChan) : (s.modChan m f).order = s.order := rfl
@[simp] theorem modChan_items (m : Nat) (f : MemChan → MemChan) : (s.modChan m f).items = s.items := rfl
@[simp] theorem modChan_nextItem (m : Nat) (f : MemChan → MemChan) : (s.modChan m f).nextItem = s.nextItem := rfl
@[simp] theorem modChan_insts (m : Nat) (f : MemChan → MemChan) : (s.modChan m f).insts = s.insts := rfl
@[simp] theorem modChan_guards (m : Nat) (f : MemChan → MemChan) : (s.modChan m f).guards = s.guards := rfl
@[simp] theorem modChan_outs (m : Nat) (f : MemChan → MemChan) : (s.modChan m f).outs = s.outs := rfl
@[simp] theorem modChan_shadow (m : Nat) (f : MemChan → MemChan) : (s.modChan m f).shadow = s.shadow := rfl
@[simp] theorem modChan_colourActive (m : Nat) (f : MemChan → MemChan) : (s.modChan m f).colourActive = s.colourActive := rfl
@[simp] theorem modChan_lutBanks (m : Nat) (f : MemChan → MemChan) : (s.modChan m f).lutBanks = s.lutBanks := rfl
@[simp] theorem modChan_substUnchecked (m : Nat) (f : MemChan → MemChan) : (s.modChan m f).substUnchecked = s.substUnchecked := rfl
@[simp] theorem modChan_grip (m : Nat) (f : MemChan → MemChan) : (s.modChan m f).grip = s.grip := rfl
@[simp] theorem modChan_jobs (m : Nat) (f : MemChan → MemChan) : (s.modChan m f).jobs = s.jobs := rfl
@[simp] theorem modChan_mem (m : Nat) (f : MemChan → MemChan) : (s.modChan m f).mem = s.mem := rfl
@[simp] theorem modChan_memConf (m : Nat) (f : MemChan → MemChan) : (s.modChan m f).memConf = s.memConf := rfl
@[simp] theorem modChan_keys (m : Nat) (f : MemChan → MemChan) : (s.modChan m f).keys = s.keys := rfl
@[simp] theorem modChan_raster (m : Nat) (f : MemChan → MemChan) : (s.modChan m f).raster = s.raster := rfl
@[simp] theorem modChan_ports (m : Nat) (f : MemChan → MemChan) : (s.modChan m f).ports = s.ports := rfl
@[simp] theorem modChan_tally (m : Nat) (f : MemChan → MemChan) : (s.modChan m f).tally = s.tally := rfl
@[simp] theorem modChan_tallyOvf (m : Nat) (f : MemChan → MemChan) : (s.modChan m f).tallyOvf = s.tallyOvf := rfl
@[simp] theorem modChan_refusals (m : Nat) (f : MemChan → MemChan) : (s.modChan m f).refusals = s.refusals := rfl
@[simp] theorem modChan_mailboxes (m : Nat) (f : MemChan → MemChan) : (s.modChan m f).mailboxes = s.mailboxes := rfl
@[simp] theorem modChan_boot (m : Nat) (f : MemChan → MemChan) : (s.modChan m f).boot = s.boot := rfl
@[simp] theorem modChan_flash (m : Nat) (f : MemChan → MemChan) : (s.modChan m f).flash = s.flash := rfl
@[simp] theorem modChan_power (m : Nat) (f : MemChan → MemChan) : (s.modChan m f).power = s.power := rfl
@[simp] theorem modChan_dailies (m : Nat) (f : MemChan → MemChan) : (s.modChan m f).dailies = s.dailies := rfl
@[simp] theorem modChan_haps (m : Nat) (f : MemChan → MemChan) : (s.modChan m f).haps = s.haps := rfl
@[simp] theorem modChan_foley (m : Nat) (f : MemChan → MemChan) : (s.modChan m f).foley = s.foley := rfl
@[simp] theorem modChan_fronts (m : Nat) (f : MemChan → MemChan) : (s.modChan m f).fronts = s.fronts := rfl
@[simp] theorem modChan_keyBank (m : Nat) (f : MemChan → MemChan) : (s.modChan m f).keyBank = s.keyBank := rfl
@[simp] theorem modChan_cus (m : Nat) (f : MemChan → MemChan) : (s.modChan m f).cus = s.cus := rfl
@[simp] theorem modChan_ldp (m : Nat) (f : MemChan → MemChan) : (s.modChan m f).ldp = s.ldp := rfl
@[simp] theorem modChan_clocks (m : Nat) (f : MemChan → MemChan) : (s.modChan m f).clocks = s.clocks := rfl
@[simp] theorem modChan_pending (m : Nat) (f : MemChan → MemChan) : (s.modChan m f).pending = s.pending := rfl
@[simp] theorem modChan_rd (m : Nat) (f : MemChan → MemChan) (ad : Nat) : (s.modChan m f).rd ad = s.rd ad := rfl

/-! ## loadKey -/

@[simp] theorem loadKey_objs (n o : Nat) : (s.loadKey n o).objs = s.objs := rfl
@[simp] theorem loadKey_clock (n o : Nat) : (s.loadKey n o).clock = s.clock := rfl
@[simp] theorem loadKey_dueSlots (n o : Nat) : (s.loadKey n o).dueSlots = s.dueSlots := rfl
@[simp] theorem loadKey_log (n o : Nat) : (s.loadKey n o).log = s.log := rfl
@[simp] theorem loadKey_io (n o : Nat) : (s.loadKey n o).io = s.io := rfl
@[simp] theorem loadKey_freeDrawn (n o : Nat) : (s.loadKey n o).freeDrawn = s.freeDrawn := rfl
@[simp] theorem loadKey_order (n o : Nat) : (s.loadKey n o).order = s.order := rfl
@[simp] theorem loadKey_items (n o : Nat) : (s.loadKey n o).items = s.items := rfl
@[simp] theorem loadKey_nextItem (n o : Nat) : (s.loadKey n o).nextItem = s.nextItem := rfl
@[simp] theorem loadKey_insts (n o : Nat) : (s.loadKey n o).insts = s.insts := rfl
@[simp] theorem loadKey_guards (n o : Nat) : (s.loadKey n o).guards = s.guards := rfl
@[simp] theorem loadKey_outs (n o : Nat) : (s.loadKey n o).outs = s.outs := rfl
@[simp] theorem loadKey_shadow (n o : Nat) : (s.loadKey n o).shadow = s.shadow := rfl
@[simp] theorem loadKey_colourActive (n o : Nat) : (s.loadKey n o).colourActive = s.colourActive := rfl
@[simp] theorem loadKey_lutBanks (n o : Nat) : (s.loadKey n o).lutBanks = s.lutBanks := rfl
@[simp] theorem loadKey_substUnchecked (n o : Nat) : (s.loadKey n o).substUnchecked = s.substUnchecked := rfl
@[simp] theorem loadKey_grip (n o : Nat) : (s.loadKey n o).grip = s.grip := rfl
@[simp] theorem loadKey_jobs (n o : Nat) : (s.loadKey n o).jobs = s.jobs := rfl
@[simp] theorem loadKey_mem (n o : Nat) : (s.loadKey n o).mem = s.mem := rfl
@[simp] theorem loadKey_memConf (n o : Nat) : (s.loadKey n o).memConf = s.memConf := rfl
@[simp] theorem loadKey_dram (n o : Nat) : (s.loadKey n o).dram = s.dram := rfl
@[simp] theorem loadKey_raster (n o : Nat) : (s.loadKey n o).raster = s.raster := rfl
@[simp] theorem loadKey_ports (n o : Nat) : (s.loadKey n o).ports = s.ports := rfl
@[simp] theorem loadKey_tally (n o : Nat) : (s.loadKey n o).tally = s.tally := rfl
@[simp] theorem loadKey_tallyOvf (n o : Nat) : (s.loadKey n o).tallyOvf = s.tallyOvf := rfl
@[simp] theorem loadKey_refusals (n o : Nat) : (s.loadKey n o).refusals = s.refusals := rfl
@[simp] theorem loadKey_mailboxes (n o : Nat) : (s.loadKey n o).mailboxes = s.mailboxes := rfl
@[simp] theorem loadKey_boot (n o : Nat) : (s.loadKey n o).boot = s.boot := rfl
@[simp] theorem loadKey_flash (n o : Nat) : (s.loadKey n o).flash = s.flash := rfl
@[simp] theorem loadKey_power (n o : Nat) : (s.loadKey n o).power = s.power := rfl
@[simp] theorem loadKey_dailies (n o : Nat) : (s.loadKey n o).dailies = s.dailies := rfl
@[simp] theorem loadKey_haps (n o : Nat) : (s.loadKey n o).haps = s.haps := rfl
@[simp] theorem loadKey_foley (n o : Nat) : (s.loadKey n o).foley = s.foley := rfl
@[simp] theorem loadKey_fronts (n o : Nat) : (s.loadKey n o).fronts = s.fronts := rfl
@[simp] theorem loadKey_keyBank (n o : Nat) : (s.loadKey n o).keyBank = s.keyBank := rfl
@[simp] theorem loadKey_cus (n o : Nat) : (s.loadKey n o).cus = s.cus := rfl
@[simp] theorem loadKey_ldp (n o : Nat) : (s.loadKey n o).ldp = s.ldp := rfl
@[simp] theorem loadKey_clocks (n o : Nat) : (s.loadKey n o).clocks = s.clocks := rfl
@[simp] theorem loadKey_pending (n o : Nat) : (s.loadKey n o).pending = s.pending := rfl
@[simp] theorem loadKey_rd (n o : Nat) (ad : Nat) : (s.loadKey n o).rd ad = s.rd ad := rfl

/-! ## retireKey -/

@[simp] theorem retireKey_objs (n : Nat) : (s.retireKey n).objs = s.objs := rfl
@[simp] theorem retireKey_clock (n : Nat) : (s.retireKey n).clock = s.clock := rfl
@[simp] theorem retireKey_dueSlots (n : Nat) : (s.retireKey n).dueSlots = s.dueSlots := rfl
@[simp] theorem retireKey_log (n : Nat) : (s.retireKey n).log = s.log := rfl
@[simp] theorem retireKey_io (n : Nat) : (s.retireKey n).io = s.io := rfl
@[simp] theorem retireKey_freeDrawn (n : Nat) : (s.retireKey n).freeDrawn = s.freeDrawn := rfl
@[simp] theorem retireKey_order (n : Nat) : (s.retireKey n).order = s.order := rfl
@[simp] theorem retireKey_items (n : Nat) : (s.retireKey n).items = s.items := rfl
@[simp] theorem retireKey_nextItem (n : Nat) : (s.retireKey n).nextItem = s.nextItem := rfl
@[simp] theorem retireKey_insts (n : Nat) : (s.retireKey n).insts = s.insts := rfl
@[simp] theorem retireKey_guards (n : Nat) : (s.retireKey n).guards = s.guards := rfl
@[simp] theorem retireKey_outs (n : Nat) : (s.retireKey n).outs = s.outs := rfl
@[simp] theorem retireKey_shadow (n : Nat) : (s.retireKey n).shadow = s.shadow := rfl
@[simp] theorem retireKey_colourActive (n : Nat) : (s.retireKey n).colourActive = s.colourActive := rfl
@[simp] theorem retireKey_lutBanks (n : Nat) : (s.retireKey n).lutBanks = s.lutBanks := rfl
@[simp] theorem retireKey_substUnchecked (n : Nat) : (s.retireKey n).substUnchecked = s.substUnchecked := rfl
@[simp] theorem retireKey_grip (n : Nat) : (s.retireKey n).grip = s.grip := rfl
@[simp] theorem retireKey_jobs (n : Nat) : (s.retireKey n).jobs = s.jobs := rfl
@[simp] theorem retireKey_mem (n : Nat) : (s.retireKey n).mem = s.mem := rfl
@[simp] theorem retireKey_memConf (n : Nat) : (s.retireKey n).memConf = s.memConf := rfl
@[simp] theorem retireKey_dram (n : Nat) : (s.retireKey n).dram = s.dram := rfl
@[simp] theorem retireKey_raster (n : Nat) : (s.retireKey n).raster = s.raster := rfl
@[simp] theorem retireKey_ports (n : Nat) : (s.retireKey n).ports = s.ports := rfl
@[simp] theorem retireKey_tally (n : Nat) : (s.retireKey n).tally = s.tally := rfl
@[simp] theorem retireKey_tallyOvf (n : Nat) : (s.retireKey n).tallyOvf = s.tallyOvf := rfl
@[simp] theorem retireKey_refusals (n : Nat) : (s.retireKey n).refusals = s.refusals := rfl
@[simp] theorem retireKey_mailboxes (n : Nat) : (s.retireKey n).mailboxes = s.mailboxes := rfl
@[simp] theorem retireKey_boot (n : Nat) : (s.retireKey n).boot = s.boot := rfl
@[simp] theorem retireKey_flash (n : Nat) : (s.retireKey n).flash = s.flash := rfl
@[simp] theorem retireKey_power (n : Nat) : (s.retireKey n).power = s.power := rfl
@[simp] theorem retireKey_dailies (n : Nat) : (s.retireKey n).dailies = s.dailies := rfl
@[simp] theorem retireKey_haps (n : Nat) : (s.retireKey n).haps = s.haps := rfl
@[simp] theorem retireKey_foley (n : Nat) : (s.retireKey n).foley = s.foley := rfl
@[simp] theorem retireKey_fronts (n : Nat) : (s.retireKey n).fronts = s.fronts := rfl
@[simp] theorem retireKey_keyBank (n : Nat) : (s.retireKey n).keyBank = s.keyBank := rfl
@[simp] theorem retireKey_cus (n : Nat) : (s.retireKey n).cus = s.cus := rfl
@[simp] theorem retireKey_ldp (n : Nat) : (s.retireKey n).ldp = s.ldp := rfl
@[simp] theorem retireKey_clocks (n : Nat) : (s.retireKey n).clocks = s.clocks := rfl
@[simp] theorem retireKey_pending (n : Nat) : (s.retireKey n).pending = s.pending := rfl
@[simp] theorem retireKey_rd (n : Nat) (ad : Nat) : (s.retireKey n).rd ad = s.rd ad := rfl

/-! ## setPort -/

@[simp] theorem setPort_objs (p : Nat) (x : Port) : (s.setPort p x).objs = s.objs := rfl
@[simp] theorem setPort_clock (p : Nat) (x : Port) : (s.setPort p x).clock = s.clock := rfl
@[simp] theorem setPort_dueSlots (p : Nat) (x : Port) : (s.setPort p x).dueSlots = s.dueSlots := rfl
@[simp] theorem setPort_log (p : Nat) (x : Port) : (s.setPort p x).log = s.log := rfl
@[simp] theorem setPort_io (p : Nat) (x : Port) : (s.setPort p x).io = s.io := rfl
@[simp] theorem setPort_freeDrawn (p : Nat) (x : Port) : (s.setPort p x).freeDrawn = s.freeDrawn := rfl
@[simp] theorem setPort_order (p : Nat) (x : Port) : (s.setPort p x).order = s.order := rfl
@[simp] theorem setPort_items (p : Nat) (x : Port) : (s.setPort p x).items = s.items := rfl
@[simp] theorem setPort_nextItem (p : Nat) (x : Port) : (s.setPort p x).nextItem = s.nextItem := rfl
@[simp] theorem setPort_insts (p : Nat) (x : Port) : (s.setPort p x).insts = s.insts := rfl
@[simp] theorem setPort_guards (p : Nat) (x : Port) : (s.setPort p x).guards = s.guards := rfl
@[simp] theorem setPort_outs (p : Nat) (x : Port) : (s.setPort p x).outs = s.outs := rfl
@[simp] theorem setPort_shadow (p : Nat) (x : Port) : (s.setPort p x).shadow = s.shadow := rfl
@[simp] theorem setPort_colourActive (p : Nat) (x : Port) : (s.setPort p x).colourActive = s.colourActive := rfl
@[simp] theorem setPort_lutBanks (p : Nat) (x : Port) : (s.setPort p x).lutBanks = s.lutBanks := rfl
@[simp] theorem setPort_substUnchecked (p : Nat) (x : Port) : (s.setPort p x).substUnchecked = s.substUnchecked := rfl
@[simp] theorem setPort_grip (p : Nat) (x : Port) : (s.setPort p x).grip = s.grip := rfl
@[simp] theorem setPort_jobs (p : Nat) (x : Port) : (s.setPort p x).jobs = s.jobs := rfl
@[simp] theorem setPort_mem (p : Nat) (x : Port) : (s.setPort p x).mem = s.mem := rfl
@[simp] theorem setPort_memConf (p : Nat) (x : Port) : (s.setPort p x).memConf = s.memConf := rfl
@[simp] theorem setPort_dram (p : Nat) (x : Port) : (s.setPort p x).dram = s.dram := rfl
@[simp] theorem setPort_keys (p : Nat) (x : Port) : (s.setPort p x).keys = s.keys := rfl
@[simp] theorem setPort_raster (p : Nat) (x : Port) : (s.setPort p x).raster = s.raster := rfl
@[simp] theorem setPort_ports (p : Nat) (x : Port) : (s.setPort p x).ports = Tab.set s.ports p x := rfl
@[simp] theorem setPort_tally (p : Nat) (x : Port) : (s.setPort p x).tally = s.tally := rfl
@[simp] theorem setPort_tallyOvf (p : Nat) (x : Port) : (s.setPort p x).tallyOvf = s.tallyOvf := rfl
@[simp] theorem setPort_refusals (p : Nat) (x : Port) : (s.setPort p x).refusals = s.refusals := rfl
@[simp] theorem setPort_mailboxes (p : Nat) (x : Port) : (s.setPort p x).mailboxes = s.mailboxes := rfl
@[simp] theorem setPort_boot (p : Nat) (x : Port) : (s.setPort p x).boot = s.boot := rfl
@[simp] theorem setPort_flash (p : Nat) (x : Port) : (s.setPort p x).flash = s.flash := rfl
@[simp] theorem setPort_power (p : Nat) (x : Port) : (s.setPort p x).power = s.power := rfl
@[simp] theorem setPort_dailies (p : Nat) (x : Port) : (s.setPort p x).dailies = s.dailies := rfl
@[simp] theorem setPort_haps (p : Nat) (x : Port) : (s.setPort p x).haps = s.haps := rfl
@[simp] theorem setPort_foley (p : Nat) (x : Port) : (s.setPort p x).foley = s.foley := rfl
@[simp] theorem setPort_fronts (p : Nat) (x : Port) : (s.setPort p x).fronts = s.fronts := rfl
@[simp] theorem setPort_keyBank (p : Nat) (x : Port) : (s.setPort p x).keyBank = s.keyBank := rfl
@[simp] theorem setPort_cus (p : Nat) (x : Port) : (s.setPort p x).cus = s.cus := rfl
@[simp] theorem setPort_ldp (p : Nat) (x : Port) : (s.setPort p x).ldp = s.ldp := rfl
@[simp] theorem setPort_clocks (p : Nat) (x : Port) : (s.setPort p x).clocks = s.clocks := rfl
@[simp] theorem setPort_pending (p : Nat) (x : Port) : (s.setPort p x).pending = s.pending := rfl
@[simp] theorem setPort_rd (p : Nat) (x : Port) (ad : Nat) : (s.setPort p x).rd ad = s.rd ad := rfl

/-! ## modPort -/

@[simp] theorem modPort_objs (p : Nat) (f : Port → Port) : (s.modPort p f).objs = s.objs := rfl
@[simp] theorem modPort_clock (p : Nat) (f : Port → Port) : (s.modPort p f).clock = s.clock := rfl
@[simp] theorem modPort_dueSlots (p : Nat) (f : Port → Port) : (s.modPort p f).dueSlots = s.dueSlots := rfl
@[simp] theorem modPort_log (p : Nat) (f : Port → Port) : (s.modPort p f).log = s.log := rfl
@[simp] theorem modPort_io (p : Nat) (f : Port → Port) : (s.modPort p f).io = s.io := rfl
@[simp] theorem modPort_freeDrawn (p : Nat) (f : Port → Port) : (s.modPort p f).freeDrawn = s.freeDrawn := rfl
@[simp] theorem modPort_order (p : Nat) (f : Port → Port) : (s.modPort p f).order = s.order := rfl
@[simp] theorem modPort_items (p : Nat) (f : Port → Port) : (s.modPort p f).items = s.items := rfl
@[simp] theorem modPort_nextItem (p : Nat) (f : Port → Port) : (s.modPort p f).nextItem = s.nextItem := rfl
@[simp] theorem modPort_insts (p : Nat) (f : Port → Port) : (s.modPort p f).insts = s.insts := rfl
@[simp] theorem modPort_guards (p : Nat) (f : Port → Port) : (s.modPort p f).guards = s.guards := rfl
@[simp] theorem modPort_outs (p : Nat) (f : Port → Port) : (s.modPort p f).outs = s.outs := rfl
@[simp] theorem modPort_shadow (p : Nat) (f : Port → Port) : (s.modPort p f).shadow = s.shadow := rfl
@[simp] theorem modPort_colourActive (p : Nat) (f : Port → Port) : (s.modPort p f).colourActive = s.colourActive := rfl
@[simp] theorem modPort_lutBanks (p : Nat) (f : Port → Port) : (s.modPort p f).lutBanks = s.lutBanks := rfl
@[simp] theorem modPort_substUnchecked (p : Nat) (f : Port → Port) : (s.modPort p f).substUnchecked = s.substUnchecked := rfl
@[simp] theorem modPort_grip (p : Nat) (f : Port → Port) : (s.modPort p f).grip = s.grip := rfl
@[simp] theorem modPort_jobs (p : Nat) (f : Port → Port) : (s.modPort p f).jobs = s.jobs := rfl
@[simp] theorem modPort_mem (p : Nat) (f : Port → Port) : (s.modPort p f).mem = s.mem := rfl
@[simp] theorem modPort_memConf (p : Nat) (f : Port → Port) : (s.modPort p f).memConf = s.memConf := rfl
@[simp] theorem modPort_dram (p : Nat) (f : Port → Port) : (s.modPort p f).dram = s.dram := rfl
@[simp] theorem modPort_keys (p : Nat) (f : Port → Port) : (s.modPort p f).keys = s.keys := rfl
@[simp] theorem modPort_raster (p : Nat) (f : Port → Port) : (s.modPort p f).raster = s.raster := rfl
@[simp] theorem modPort_ports (p : Nat) (f : Port → Port) : (s.modPort p f).ports = Tab.set s.ports p (f (s.port p)) := rfl
@[simp] theorem modPort_tally (p : Nat) (f : Port → Port) : (s.modPort p f).tally = s.tally := rfl
@[simp] theorem modPort_tallyOvf (p : Nat) (f : Port → Port) : (s.modPort p f).tallyOvf = s.tallyOvf := rfl
@[simp] theorem modPort_refusals (p : Nat) (f : Port → Port) : (s.modPort p f).refusals = s.refusals := rfl
@[simp] theorem modPort_mailboxes (p : Nat) (f : Port → Port) : (s.modPort p f).mailboxes = s.mailboxes := rfl
@[simp] theorem modPort_boot (p : Nat) (f : Port → Port) : (s.modPort p f).boot = s.boot := rfl
@[simp] theorem modPort_flash (p : Nat) (f : Port → Port) : (s.modPort p f).flash = s.flash := rfl
@[simp] theorem modPort_power (p : Nat) (f : Port → Port) : (s.modPort p f).power = s.power := rfl
@[simp] theorem modPort_dailies (p : Nat) (f : Port → Port) : (s.modPort p f).dailies = s.dailies := rfl
@[simp] theorem modPort_haps (p : Nat) (f : Port → Port) : (s.modPort p f).haps = s.haps := rfl
@[simp] theorem modPort_foley (p : Nat) (f : Port → Port) : (s.modPort p f).foley = s.foley := rfl
@[simp] theorem modPort_fronts (p : Nat) (f : Port → Port) : (s.modPort p f).fronts = s.fronts := rfl
@[simp] theorem modPort_keyBank (p : Nat) (f : Port → Port) : (s.modPort p f).keyBank = s.keyBank := rfl
@[simp] theorem modPort_cus (p : Nat) (f : Port → Port) : (s.modPort p f).cus = s.cus := rfl
@[simp] theorem modPort_ldp (p : Nat) (f : Port → Port) : (s.modPort p f).ldp = s.ldp := rfl
@[simp] theorem modPort_clocks (p : Nat) (f : Port → Port) : (s.modPort p f).clocks = s.clocks := rfl
@[simp] theorem modPort_pending (p : Nat) (f : Port → Port) : (s.modPort p f).pending = s.pending := rfl
@[simp] theorem modPort_rd (p : Nat) (f : Port → Port) (ad : Nat) : (s.modPort p f).rd ad = s.rd ad := rfl

/-! ## setMailbox -/

@[simp] theorem setMailbox_objs (m : Nat) (b : Mailbox) : (s.setMailbox m b).objs = s.objs := rfl
@[simp] theorem setMailbox_clock (m : Nat) (b : Mailbox) : (s.setMailbox m b).clock = s.clock := rfl
@[simp] theorem setMailbox_dueSlots (m : Nat) (b : Mailbox) : (s.setMailbox m b).dueSlots = s.dueSlots := rfl
@[simp] theorem setMailbox_log (m : Nat) (b : Mailbox) : (s.setMailbox m b).log = s.log := rfl
@[simp] theorem setMailbox_io (m : Nat) (b : Mailbox) : (s.setMailbox m b).io = s.io := rfl
@[simp] theorem setMailbox_freeDrawn (m : Nat) (b : Mailbox) : (s.setMailbox m b).freeDrawn = s.freeDrawn := rfl
@[simp] theorem setMailbox_order (m : Nat) (b : Mailbox) : (s.setMailbox m b).order = s.order := rfl
@[simp] theorem setMailbox_items (m : Nat) (b : Mailbox) : (s.setMailbox m b).items = s.items := rfl
@[simp] theorem setMailbox_nextItem (m : Nat) (b : Mailbox) : (s.setMailbox m b).nextItem = s.nextItem := rfl
@[simp] theorem setMailbox_insts (m : Nat) (b : Mailbox) : (s.setMailbox m b).insts = s.insts := rfl
@[simp] theorem setMailbox_guards (m : Nat) (b : Mailbox) : (s.setMailbox m b).guards = s.guards := rfl
@[simp] theorem setMailbox_outs (m : Nat) (b : Mailbox) : (s.setMailbox m b).outs = s.outs := rfl
@[simp] theorem setMailbox_shadow (m : Nat) (b : Mailbox) : (s.setMailbox m b).shadow = s.shadow := rfl
@[simp] theorem setMailbox_colourActive (m : Nat) (b : Mailbox) : (s.setMailbox m b).colourActive = s.colourActive := rfl
@[simp] theorem setMailbox_lutBanks (m : Nat) (b : Mailbox) : (s.setMailbox m b).lutBanks = s.lutBanks := rfl
@[simp] theorem setMailbox_substUnchecked (m : Nat) (b : Mailbox) : (s.setMailbox m b).substUnchecked = s.substUnchecked := rfl
@[simp] theorem setMailbox_grip (m : Nat) (b : Mailbox) : (s.setMailbox m b).grip = s.grip := rfl
@[simp] theorem setMailbox_jobs (m : Nat) (b : Mailbox) : (s.setMailbox m b).jobs = s.jobs := rfl
@[simp] theorem setMailbox_mem (m : Nat) (b : Mailbox) : (s.setMailbox m b).mem = s.mem := rfl
@[simp] theorem setMailbox_memConf (m : Nat) (b : Mailbox) : (s.setMailbox m b).memConf = s.memConf := rfl
@[simp] theorem setMailbox_dram (m : Nat) (b : Mailbox) : (s.setMailbox m b).dram = s.dram := rfl
@[simp] theorem setMailbox_keys (m : Nat) (b : Mailbox) : (s.setMailbox m b).keys = s.keys := rfl
@[simp] theorem setMailbox_raster (m : Nat) (b : Mailbox) : (s.setMailbox m b).raster = s.raster := rfl
@[simp] theorem setMailbox_ports (m : Nat) (b : Mailbox) : (s.setMailbox m b).ports = s.ports := rfl
@[simp] theorem setMailbox_tally (m : Nat) (b : Mailbox) : (s.setMailbox m b).tally = s.tally := rfl
@[simp] theorem setMailbox_tallyOvf (m : Nat) (b : Mailbox) : (s.setMailbox m b).tallyOvf = s.tallyOvf := rfl
@[simp] theorem setMailbox_refusals (m : Nat) (b : Mailbox) : (s.setMailbox m b).refusals = s.refusals := rfl
@[simp] theorem setMailbox_mailboxes (m : Nat) (b : Mailbox) : (s.setMailbox m b).mailboxes = Tab.set s.mailboxes m b := rfl
@[simp] theorem setMailbox_boot (m : Nat) (b : Mailbox) : (s.setMailbox m b).boot = s.boot := rfl
@[simp] theorem setMailbox_flash (m : Nat) (b : Mailbox) : (s.setMailbox m b).flash = s.flash := rfl
@[simp] theorem setMailbox_power (m : Nat) (b : Mailbox) : (s.setMailbox m b).power = s.power := rfl
@[simp] theorem setMailbox_dailies (m : Nat) (b : Mailbox) : (s.setMailbox m b).dailies = s.dailies := rfl
@[simp] theorem setMailbox_haps (m : Nat) (b : Mailbox) : (s.setMailbox m b).haps = s.haps := rfl
@[simp] theorem setMailbox_foley (m : Nat) (b : Mailbox) : (s.setMailbox m b).foley = s.foley := rfl
@[simp] theorem setMailbox_fronts (m : Nat) (b : Mailbox) : (s.setMailbox m b).fronts = s.fronts := rfl
@[simp] theorem setMailbox_keyBank (m : Nat) (b : Mailbox) : (s.setMailbox m b).keyBank = s.keyBank := rfl
@[simp] theorem setMailbox_cus (m : Nat) (b : Mailbox) : (s.setMailbox m b).cus = s.cus := rfl
@[simp] theorem setMailbox_ldp (m : Nat) (b : Mailbox) : (s.setMailbox m b).ldp = s.ldp := rfl
@[simp] theorem setMailbox_clocks (m : Nat) (b : Mailbox) : (s.setMailbox m b).clocks = s.clocks := rfl
@[simp] theorem setMailbox_pending (m : Nat) (b : Mailbox) : (s.setMailbox m b).pending = s.pending := rfl
@[simp] theorem setMailbox_rd (m : Nat) (b : Mailbox) (ad : Nat) : (s.setMailbox m b).rd ad = s.rd ad := rfl

/-! ## modBoot -/

@[simp] theorem modBoot_objs (f : Boot → Boot) : (s.modBoot f).objs = s.objs := rfl
@[simp] theorem modBoot_clock (f : Boot → Boot) : (s.modBoot f).clock = s.clock := rfl
@[simp] theorem modBoot_dueSlots (f : Boot → Boot) : (s.modBoot f).dueSlots = s.dueSlots := rfl
@[simp] theorem modBoot_log (f : Boot → Boot) : (s.modBoot f).log = s.log := rfl
@[simp] theorem modBoot_io (f : Boot → Boot) : (s.modBoot f).io = s.io := rfl
@[simp] theorem modBoot_freeDrawn (f : Boot → Boot) : (s.modBoot f).freeDrawn = s.freeDrawn := rfl
@[simp] theorem modBoot_order (f : Boot → Boot) : (s.modBoot f).order = s.order := rfl
@[simp] theorem modBoot_items (f : Boot → Boot) : (s.modBoot f).items = s.items := rfl
@[simp] theorem modBoot_nextItem (f : Boot → Boot) : (s.modBoot f).nextItem = s.nextItem := rfl
@[simp] theorem modBoot_insts (f : Boot → Boot) : (s.modBoot f).insts = s.insts := rfl
@[simp] theorem modBoot_guards (f : Boot → Boot) : (s.modBoot f).guards = s.guards := rfl
@[simp] theorem modBoot_outs (f : Boot → Boot) : (s.modBoot f).outs = s.outs := rfl
@[simp] theorem modBoot_shadow (f : Boot → Boot) : (s.modBoot f).shadow = s.shadow := rfl
@[simp] theorem modBoot_colourActive (f : Boot → Boot) : (s.modBoot f).colourActive = s.colourActive := rfl
@[simp] theorem modBoot_lutBanks (f : Boot → Boot) : (s.modBoot f).lutBanks = s.lutBanks := rfl
@[simp] theorem modBoot_substUnchecked (f : Boot → Boot) : (s.modBoot f).substUnchecked = s.substUnchecked := rfl
@[simp] theorem modBoot_grip (f : Boot → Boot) : (s.modBoot f).grip = s.grip := rfl
@[simp] theorem modBoot_jobs (f : Boot → Boot) : (s.modBoot f).jobs = s.jobs := rfl
@[simp] theorem modBoot_mem (f : Boot → Boot) : (s.modBoot f).mem = s.mem := rfl
@[simp] theorem modBoot_memConf (f : Boot → Boot) : (s.modBoot f).memConf = s.memConf := rfl
@[simp] theorem modBoot_dram (f : Boot → Boot) : (s.modBoot f).dram = s.dram := rfl
@[simp] theorem modBoot_keys (f : Boot → Boot) : (s.modBoot f).keys = s.keys := rfl
@[simp] theorem modBoot_raster (f : Boot → Boot) : (s.modBoot f).raster = s.raster := rfl
@[simp] theorem modBoot_ports (f : Boot → Boot) : (s.modBoot f).ports = s.ports := rfl
@[simp] theorem modBoot_tally (f : Boot → Boot) : (s.modBoot f).tally = s.tally := rfl
@[simp] theorem modBoot_tallyOvf (f : Boot → Boot) : (s.modBoot f).tallyOvf = s.tallyOvf := rfl
@[simp] theorem modBoot_refusals (f : Boot → Boot) : (s.modBoot f).refusals = s.refusals := rfl
@[simp] theorem modBoot_mailboxes (f : Boot → Boot) : (s.modBoot f).mailboxes = s.mailboxes := rfl
@[simp] theorem modBoot_boot (f : Boot → Boot) : (s.modBoot f).boot = f s.boot := rfl
@[simp] theorem modBoot_flash (f : Boot → Boot) : (s.modBoot f).flash = s.flash := rfl
@[simp] theorem modBoot_power (f : Boot → Boot) : (s.modBoot f).power = s.power := rfl
@[simp] theorem modBoot_dailies (f : Boot → Boot) : (s.modBoot f).dailies = s.dailies := rfl
@[simp] theorem modBoot_haps (f : Boot → Boot) : (s.modBoot f).haps = s.haps := rfl
@[simp] theorem modBoot_foley (f : Boot → Boot) : (s.modBoot f).foley = s.foley := rfl
@[simp] theorem modBoot_fronts (f : Boot → Boot) : (s.modBoot f).fronts = s.fronts := rfl
@[simp] theorem modBoot_keyBank (f : Boot → Boot) : (s.modBoot f).keyBank = s.keyBank := rfl
@[simp] theorem modBoot_cus (f : Boot → Boot) : (s.modBoot f).cus = s.cus := rfl
@[simp] theorem modBoot_ldp (f : Boot → Boot) : (s.modBoot f).ldp = s.ldp := rfl
@[simp] theorem modBoot_clocks (f : Boot → Boot) : (s.modBoot f).clocks = s.clocks := rfl
@[simp] theorem modBoot_pending (f : Boot → Boot) : (s.modBoot f).pending = s.pending := rfl
@[simp] theorem modBoot_rd (f : Boot → Boot) (ad : Nat) : (s.modBoot f).rd ad = s.rd ad := rfl

/-! ## modClocks -/

@[simp] theorem modClocks_objs (f : ClockState → ClockState) : (s.modClocks f).objs = s.objs := rfl
@[simp] theorem modClocks_clock (f : ClockState → ClockState) : (s.modClocks f).clock = s.clock := rfl
@[simp] theorem modClocks_dueSlots (f : ClockState → ClockState) : (s.modClocks f).dueSlots = s.dueSlots := rfl
@[simp] theorem modClocks_log (f : ClockState → ClockState) : (s.modClocks f).log = s.log := rfl
@[simp] theorem modClocks_io (f : ClockState → ClockState) : (s.modClocks f).io = s.io := rfl
@[simp] theorem modClocks_freeDrawn (f : ClockState → ClockState) : (s.modClocks f).freeDrawn = s.freeDrawn := rfl
@[simp] theorem modClocks_order (f : ClockState → ClockState) : (s.modClocks f).order = s.order := rfl
@[simp] theorem modClocks_items (f : ClockState → ClockState) : (s.modClocks f).items = s.items := rfl
@[simp] theorem modClocks_nextItem (f : ClockState → ClockState) : (s.modClocks f).nextItem = s.nextItem := rfl
@[simp] theorem modClocks_insts (f : ClockState → ClockState) : (s.modClocks f).insts = s.insts := rfl
@[simp] theorem modClocks_guards (f : ClockState → ClockState) : (s.modClocks f).guards = s.guards := rfl
@[simp] theorem modClocks_outs (f : ClockState → ClockState) : (s.modClocks f).outs = s.outs := rfl
@[simp] theorem modClocks_shadow (f : ClockState → ClockState) : (s.modClocks f).shadow = s.shadow := rfl
@[simp] theorem modClocks_colourActive (f : ClockState → ClockState) : (s.modClocks f).colourActive = s.colourActive := rfl
@[simp] theorem modClocks_lutBanks (f : ClockState → ClockState) : (s.modClocks f).lutBanks = s.lutBanks := rfl
@[simp] theorem modClocks_substUnchecked (f : ClockState → ClockState) : (s.modClocks f).substUnchecked = s.substUnchecked := rfl
@[simp] theorem modClocks_grip (f : ClockState → ClockState) : (s.modClocks f).grip = s.grip := rfl
@[simp] theorem modClocks_jobs (f : ClockState → ClockState) : (s.modClocks f).jobs = s.jobs := rfl
@[simp] theorem modClocks_mem (f : ClockState → ClockState) : (s.modClocks f).mem = s.mem := rfl
@[simp] theorem modClocks_memConf (f : ClockState → ClockState) : (s.modClocks f).memConf = s.memConf := rfl
@[simp] theorem modClocks_dram (f : ClockState → ClockState) : (s.modClocks f).dram = s.dram := rfl
@[simp] theorem modClocks_keys (f : ClockState → ClockState) : (s.modClocks f).keys = s.keys := rfl
@[simp] theorem modClocks_raster (f : ClockState → ClockState) : (s.modClocks f).raster = s.raster := rfl
@[simp] theorem modClocks_ports (f : ClockState → ClockState) : (s.modClocks f).ports = s.ports := rfl
@[simp] theorem modClocks_tally (f : ClockState → ClockState) : (s.modClocks f).tally = s.tally := rfl
@[simp] theorem modClocks_tallyOvf (f : ClockState → ClockState) : (s.modClocks f).tallyOvf = s.tallyOvf := rfl
@[simp] theorem modClocks_refusals (f : ClockState → ClockState) : (s.modClocks f).refusals = s.refusals := rfl
@[simp] theorem modClocks_mailboxes (f : ClockState → ClockState) : (s.modClocks f).mailboxes = s.mailboxes := rfl
@[simp] theorem modClocks_boot (f : ClockState → ClockState) : (s.modClocks f).boot = s.boot := rfl
@[simp] theorem modClocks_flash (f : ClockState → ClockState) : (s.modClocks f).flash = s.flash := rfl
@[simp] theorem modClocks_power (f : ClockState → ClockState) : (s.modClocks f).power = s.power := rfl
@[simp] theorem modClocks_dailies (f : ClockState → ClockState) : (s.modClocks f).dailies = s.dailies := rfl
@[simp] theorem modClocks_haps (f : ClockState → ClockState) : (s.modClocks f).haps = s.haps := rfl
@[simp] theorem modClocks_foley (f : ClockState → ClockState) : (s.modClocks f).foley = s.foley := rfl
@[simp] theorem modClocks_fronts (f : ClockState → ClockState) : (s.modClocks f).fronts = s.fronts := rfl
@[simp] theorem modClocks_keyBank (f : ClockState → ClockState) : (s.modClocks f).keyBank = s.keyBank := rfl
@[simp] theorem modClocks_cus (f : ClockState → ClockState) : (s.modClocks f).cus = s.cus := rfl
@[simp] theorem modClocks_ldp (f : ClockState → ClockState) : (s.modClocks f).ldp = s.ldp := rfl
@[simp] theorem modClocks_clocks (f : ClockState → ClockState) : (s.modClocks f).clocks = f s.clocks := rfl
@[simp] theorem modClocks_pending (f : ClockState → ClockState) : (s.modClocks f).pending = s.pending := rfl
@[simp] theorem modClocks_rd (f : ClockState → ClockState) (ad : Nat) : (s.modClocks f).rd ad = s.rd ad := rfl

/-! ## modPower -/

@[simp] theorem modPower_objs (f : Power → Power) : (s.modPower f).objs = s.objs := rfl
@[simp] theorem modPower_clock (f : Power → Power) : (s.modPower f).clock = s.clock := rfl
@[simp] theorem modPower_dueSlots (f : Power → Power) : (s.modPower f).dueSlots = s.dueSlots := rfl
@[simp] theorem modPower_log (f : Power → Power) : (s.modPower f).log = s.log := rfl
@[simp] theorem modPower_io (f : Power → Power) : (s.modPower f).io = s.io := rfl
@[simp] theorem modPower_freeDrawn (f : Power → Power) : (s.modPower f).freeDrawn = s.freeDrawn := rfl
@[simp] theorem modPower_order (f : Power → Power) : (s.modPower f).order = s.order := rfl
@[simp] theorem modPower_items (f : Power → Power) : (s.modPower f).items = s.items := rfl
@[simp] theorem modPower_nextItem (f : Power → Power) : (s.modPower f).nextItem = s.nextItem := rfl
@[simp] theorem modPower_insts (f : Power → Power) : (s.modPower f).insts = s.insts := rfl
@[simp] theorem modPower_guards (f : Power → Power) : (s.modPower f).guards = s.guards := rfl
@[simp] theorem modPower_outs (f : Power → Power) : (s.modPower f).outs = s.outs := rfl
@[simp] theorem modPower_shadow (f : Power → Power) : (s.modPower f).shadow = s.shadow := rfl
@[simp] theorem modPower_colourActive (f : Power → Power) : (s.modPower f).colourActive = s.colourActive := rfl
@[simp] theorem modPower_lutBanks (f : Power → Power) : (s.modPower f).lutBanks = s.lutBanks := rfl
@[simp] theorem modPower_substUnchecked (f : Power → Power) : (s.modPower f).substUnchecked = s.substUnchecked := rfl
@[simp] theorem modPower_grip (f : Power → Power) : (s.modPower f).grip = s.grip := rfl
@[simp] theorem modPower_jobs (f : Power → Power) : (s.modPower f).jobs = s.jobs := rfl
@[simp] theorem modPower_mem (f : Power → Power) : (s.modPower f).mem = s.mem := rfl
@[simp] theorem modPower_memConf (f : Power → Power) : (s.modPower f).memConf = s.memConf := rfl
@[simp] theorem modPower_dram (f : Power → Power) : (s.modPower f).dram = s.dram := rfl
@[simp] theorem modPower_keys (f : Power → Power) : (s.modPower f).keys = s.keys := rfl
@[simp] theorem modPower_raster (f : Power → Power) : (s.modPower f).raster = s.raster := rfl
@[simp] theorem modPower_ports (f : Power → Power) : (s.modPower f).ports = s.ports := rfl
@[simp] theorem modPower_tally (f : Power → Power) : (s.modPower f).tally = s.tally := rfl
@[simp] theorem modPower_tallyOvf (f : Power → Power) : (s.modPower f).tallyOvf = s.tallyOvf := rfl
@[simp] theorem modPower_refusals (f : Power → Power) : (s.modPower f).refusals = s.refusals := rfl
@[simp] theorem modPower_mailboxes (f : Power → Power) : (s.modPower f).mailboxes = s.mailboxes := rfl
@[simp] theorem modPower_boot (f : Power → Power) : (s.modPower f).boot = s.boot := rfl
@[simp] theorem modPower_flash (f : Power → Power) : (s.modPower f).flash = s.flash := rfl
@[simp] theorem modPower_power (f : Power → Power) : (s.modPower f).power = f s.power := rfl
@[simp] theorem modPower_dailies (f : Power → Power) : (s.modPower f).dailies = s.dailies := rfl
@[simp] theorem modPower_haps (f : Power → Power) : (s.modPower f).haps = s.haps := rfl
@[simp] theorem modPower_foley (f : Power → Power) : (s.modPower f).foley = s.foley := rfl
@[simp] theorem modPower_fronts (f : Power → Power) : (s.modPower f).fronts = s.fronts := rfl
@[simp] theorem modPower_keyBank (f : Power → Power) : (s.modPower f).keyBank = s.keyBank := rfl
@[simp] theorem modPower_cus (f : Power → Power) : (s.modPower f).cus = s.cus := rfl
@[simp] theorem modPower_ldp (f : Power → Power) : (s.modPower f).ldp = s.ldp := rfl
@[simp] theorem modPower_clocks (f : Power → Power) : (s.modPower f).clocks = s.clocks := rfl
@[simp] theorem modPower_pending (f : Power → Power) : (s.modPower f).pending = s.pending := rfl
@[simp] theorem modPower_rd (f : Power → Power) (ad : Nat) : (s.modPower f).rd ad = s.rd ad := rfl

/-! ## modLdp -/

@[simp] theorem modLdp_objs (f : Ldp → Ldp) : (s.modLdp f).objs = s.objs := rfl
@[simp] theorem modLdp_clock (f : Ldp → Ldp) : (s.modLdp f).clock = s.clock := rfl
@[simp] theorem modLdp_dueSlots (f : Ldp → Ldp) : (s.modLdp f).dueSlots = s.dueSlots := rfl
@[simp] theorem modLdp_log (f : Ldp → Ldp) : (s.modLdp f).log = s.log := rfl
@[simp] theorem modLdp_io (f : Ldp → Ldp) : (s.modLdp f).io = s.io := rfl
@[simp] theorem modLdp_freeDrawn (f : Ldp → Ldp) : (s.modLdp f).freeDrawn = s.freeDrawn := rfl
@[simp] theorem modLdp_order (f : Ldp → Ldp) : (s.modLdp f).order = s.order := rfl
@[simp] theorem modLdp_items (f : Ldp → Ldp) : (s.modLdp f).items = s.items := rfl
@[simp] theorem modLdp_nextItem (f : Ldp → Ldp) : (s.modLdp f).nextItem = s.nextItem := rfl
@[simp] theorem modLdp_insts (f : Ldp → Ldp) : (s.modLdp f).insts = s.insts := rfl
@[simp] theorem modLdp_guards (f : Ldp → Ldp) : (s.modLdp f).guards = s.guards := rfl
@[simp] theorem modLdp_outs (f : Ldp → Ldp) : (s.modLdp f).outs = s.outs := rfl
@[simp] theorem modLdp_shadow (f : Ldp → Ldp) : (s.modLdp f).shadow = s.shadow := rfl
@[simp] theorem modLdp_colourActive (f : Ldp → Ldp) : (s.modLdp f).colourActive = s.colourActive := rfl
@[simp] theorem modLdp_lutBanks (f : Ldp → Ldp) : (s.modLdp f).lutBanks = s.lutBanks := rfl
@[simp] theorem modLdp_substUnchecked (f : Ldp → Ldp) : (s.modLdp f).substUnchecked = s.substUnchecked := rfl
@[simp] theorem modLdp_grip (f : Ldp → Ldp) : (s.modLdp f).grip = s.grip := rfl
@[simp] theorem modLdp_jobs (f : Ldp → Ldp) : (s.modLdp f).jobs = s.jobs := rfl
@[simp] theorem modLdp_mem (f : Ldp → Ldp) : (s.modLdp f).mem = s.mem := rfl
@[simp] theorem modLdp_memConf (f : Ldp → Ldp) : (s.modLdp f).memConf = s.memConf := rfl
@[simp] theorem modLdp_dram (f : Ldp → Ldp) : (s.modLdp f).dram = s.dram := rfl
@[simp] theorem modLdp_keys (f : Ldp → Ldp) : (s.modLdp f).keys = s.keys := rfl
@[simp] theorem modLdp_raster (f : Ldp → Ldp) : (s.modLdp f).raster = s.raster := rfl
@[simp] theorem modLdp_ports (f : Ldp → Ldp) : (s.modLdp f).ports = s.ports := rfl
@[simp] theorem modLdp_tally (f : Ldp → Ldp) : (s.modLdp f).tally = s.tally := rfl
@[simp] theorem modLdp_tallyOvf (f : Ldp → Ldp) : (s.modLdp f).tallyOvf = s.tallyOvf := rfl
@[simp] theorem modLdp_refusals (f : Ldp → Ldp) : (s.modLdp f).refusals = s.refusals := rfl
@[simp] theorem modLdp_mailboxes (f : Ldp → Ldp) : (s.modLdp f).mailboxes = s.mailboxes := rfl
@[simp] theorem modLdp_boot (f : Ldp → Ldp) : (s.modLdp f).boot = s.boot := rfl
@[simp] theorem modLdp_flash (f : Ldp → Ldp) : (s.modLdp f).flash = s.flash := rfl
@[simp] theorem modLdp_power (f : Ldp → Ldp) : (s.modLdp f).power = s.power := rfl
@[simp] theorem modLdp_dailies (f : Ldp → Ldp) : (s.modLdp f).dailies = s.dailies := rfl
@[simp] theorem modLdp_haps (f : Ldp → Ldp) : (s.modLdp f).haps = s.haps := rfl
@[simp] theorem modLdp_foley (f : Ldp → Ldp) : (s.modLdp f).foley = s.foley := rfl
@[simp] theorem modLdp_fronts (f : Ldp → Ldp) : (s.modLdp f).fronts = s.fronts := rfl
@[simp] theorem modLdp_keyBank (f : Ldp → Ldp) : (s.modLdp f).keyBank = s.keyBank := rfl
@[simp] theorem modLdp_cus (f : Ldp → Ldp) : (s.modLdp f).cus = s.cus := rfl
@[simp] theorem modLdp_ldp (f : Ldp → Ldp) : (s.modLdp f).ldp = f s.ldp := rfl
@[simp] theorem modLdp_clocks (f : Ldp → Ldp) : (s.modLdp f).clocks = s.clocks := rfl
@[simp] theorem modLdp_pending (f : Ldp → Ldp) : (s.modLdp f).pending = s.pending := rfl
@[simp] theorem modLdp_rd (f : Ldp → Ldp) (ad : Nat) : (s.modLdp f).rd ad = s.rd ad := rfl

/-! ## setSession -/

@[simp] theorem setSession_objs (n : Nat) (x : Session) : (s.setSession n x).objs = s.objs := rfl
@[simp] theorem setSession_clock (n : Nat) (x : Session) : (s.setSession n x).clock = s.clock := rfl
@[simp] theorem setSession_dueSlots (n : Nat) (x : Session) : (s.setSession n x).dueSlots = s.dueSlots := rfl
@[simp] theorem setSession_log (n : Nat) (x : Session) : (s.setSession n x).log = s.log := rfl
@[simp] theorem setSession_io (n : Nat) (x : Session) : (s.setSession n x).io = s.io := rfl
@[simp] theorem setSession_freeDrawn (n : Nat) (x : Session) : (s.setSession n x).freeDrawn = s.freeDrawn := rfl
@[simp] theorem setSession_order (n : Nat) (x : Session) : (s.setSession n x).order = s.order := rfl
@[simp] theorem setSession_items (n : Nat) (x : Session) : (s.setSession n x).items = s.items := rfl
@[simp] theorem setSession_nextItem (n : Nat) (x : Session) : (s.setSession n x).nextItem = s.nextItem := rfl
@[simp] theorem setSession_insts (n : Nat) (x : Session) : (s.setSession n x).insts = s.insts := rfl
@[simp] theorem setSession_guards (n : Nat) (x : Session) : (s.setSession n x).guards = s.guards := rfl
@[simp] theorem setSession_outs (n : Nat) (x : Session) : (s.setSession n x).outs = s.outs := rfl
@[simp] theorem setSession_shadow (n : Nat) (x : Session) : (s.setSession n x).shadow = s.shadow := rfl
@[simp] theorem setSession_colourActive (n : Nat) (x : Session) : (s.setSession n x).colourActive = s.colourActive := rfl
@[simp] theorem setSession_lutBanks (n : Nat) (x : Session) : (s.setSession n x).lutBanks = s.lutBanks := rfl
@[simp] theorem setSession_substUnchecked (n : Nat) (x : Session) : (s.setSession n x).substUnchecked = s.substUnchecked := rfl
@[simp] theorem setSession_grip (n : Nat) (x : Session) : (s.setSession n x).grip = s.grip := rfl
@[simp] theorem setSession_jobs (n : Nat) (x : Session) : (s.setSession n x).jobs = s.jobs := rfl
@[simp] theorem setSession_mem (n : Nat) (x : Session) : (s.setSession n x).mem = s.mem := rfl
@[simp] theorem setSession_memConf (n : Nat) (x : Session) : (s.setSession n x).memConf = s.memConf := rfl
@[simp] theorem setSession_dram (n : Nat) (x : Session) : (s.setSession n x).dram = s.dram := rfl
@[simp] theorem setSession_keys (n : Nat) (x : Session) : (s.setSession n x).keys = s.keys := rfl
@[simp] theorem setSession_raster (n : Nat) (x : Session) : (s.setSession n x).raster = s.raster := rfl
@[simp] theorem setSession_ports (n : Nat) (x : Session) : (s.setSession n x).ports = s.ports := rfl
@[simp] theorem setSession_tally (n : Nat) (x : Session) : (s.setSession n x).tally = s.tally := rfl
@[simp] theorem setSession_tallyOvf (n : Nat) (x : Session) : (s.setSession n x).tallyOvf = s.tallyOvf := rfl
@[simp] theorem setSession_refusals (n : Nat) (x : Session) : (s.setSession n x).refusals = s.refusals := rfl
@[simp] theorem setSession_mailboxes (n : Nat) (x : Session) : (s.setSession n x).mailboxes = s.mailboxes := rfl
@[simp] theorem setSession_boot (n : Nat) (x : Session) : (s.setSession n x).boot = s.boot := rfl
@[simp] theorem setSession_flash (n : Nat) (x : Session) : (s.setSession n x).flash = s.flash := rfl
@[simp] theorem setSession_power (n : Nat) (x : Session) : (s.setSession n x).power = s.power := rfl
@[simp] theorem setSession_dailies (n : Nat) (x : Session) : (s.setSession n x).dailies = s.dailies := rfl
@[simp] theorem setSession_haps (n : Nat) (x : Session) : (s.setSession n x).haps = s.haps := rfl
@[simp] theorem setSession_foley (n : Nat) (x : Session) : (s.setSession n x).foley = s.foley := rfl
@[simp] theorem setSession_fronts (n : Nat) (x : Session) : (s.setSession n x).fronts = s.fronts := rfl
@[simp] theorem setSession_keyBank (n : Nat) (x : Session) : (s.setSession n x).keyBank = s.keyBank := rfl
@[simp] theorem setSession_cus (n : Nat) (x : Session) : (s.setSession n x).cus = s.cus := rfl
@[simp] theorem setSession_clocks (n : Nat) (x : Session) : (s.setSession n x).clocks = s.clocks := rfl
@[simp] theorem setSession_pending (n : Nat) (x : Session) : (s.setSession n x).pending = s.pending := rfl
@[simp] theorem setSession_rd (n : Nat) (x : Session) (ad : Nat) : (s.setSession n x).rd ad = s.rd ad := rfl

/-! ## modDailies -/

@[simp] theorem modDailies_objs (f : Dailies → Dailies) : (s.modDailies f).objs = s.objs := rfl
@[simp] theorem modDailies_clock (f : Dailies → Dailies) : (s.modDailies f).clock = s.clock := rfl
@[simp] theorem modDailies_dueSlots (f : Dailies → Dailies) : (s.modDailies f).dueSlots = s.dueSlots := rfl
@[simp] theorem modDailies_log (f : Dailies → Dailies) : (s.modDailies f).log = s.log := rfl
@[simp] theorem modDailies_io (f : Dailies → Dailies) : (s.modDailies f).io = s.io := rfl
@[simp] theorem modDailies_freeDrawn (f : Dailies → Dailies) : (s.modDailies f).freeDrawn = s.freeDrawn := rfl
@[simp] theorem modDailies_order (f : Dailies → Dailies) : (s.modDailies f).order = s.order := rfl
@[simp] theorem modDailies_items (f : Dailies → Dailies) : (s.modDailies f).items = s.items := rfl
@[simp] theorem modDailies_nextItem (f : Dailies → Dailies) : (s.modDailies f).nextItem = s.nextItem := rfl
@[simp] theorem modDailies_insts (f : Dailies → Dailies) : (s.modDailies f).insts = s.insts := rfl
@[simp] theorem modDailies_guards (f : Dailies → Dailies) : (s.modDailies f).guards = s.guards := rfl
@[simp] theorem modDailies_outs (f : Dailies → Dailies) : (s.modDailies f).outs = s.outs := rfl
@[simp] theorem modDailies_shadow (f : Dailies → Dailies) : (s.modDailies f).shadow = s.shadow := rfl
@[simp] theorem modDailies_colourActive (f : Dailies → Dailies) : (s.modDailies f).colourActive = s.colourActive := rfl
@[simp] theorem modDailies_lutBanks (f : Dailies → Dailies) : (s.modDailies f).lutBanks = s.lutBanks := rfl
@[simp] theorem modDailies_substUnchecked (f : Dailies → Dailies) : (s.modDailies f).substUnchecked = s.substUnchecked := rfl
@[simp] theorem modDailies_grip (f : Dailies → Dailies) : (s.modDailies f).grip = s.grip := rfl
@[simp] theorem modDailies_jobs (f : Dailies → Dailies) : (s.modDailies f).jobs = s.jobs := rfl
@[simp] theorem modDailies_mem (f : Dailies → Dailies) : (s.modDailies f).mem = s.mem := rfl
@[simp] theorem modDailies_memConf (f : Dailies → Dailies) : (s.modDailies f).memConf = s.memConf := rfl
@[simp] theorem modDailies_dram (f : Dailies → Dailies) : (s.modDailies f).dram = s.dram := rfl
@[simp] theorem modDailies_keys (f : Dailies → Dailies) : (s.modDailies f).keys = s.keys := rfl
@[simp] theorem modDailies_raster (f : Dailies → Dailies) : (s.modDailies f).raster = s.raster := rfl
@[simp] theorem modDailies_ports (f : Dailies → Dailies) : (s.modDailies f).ports = s.ports := rfl
@[simp] theorem modDailies_tally (f : Dailies → Dailies) : (s.modDailies f).tally = s.tally := rfl
@[simp] theorem modDailies_tallyOvf (f : Dailies → Dailies) : (s.modDailies f).tallyOvf = s.tallyOvf := rfl
@[simp] theorem modDailies_refusals (f : Dailies → Dailies) : (s.modDailies f).refusals = s.refusals := rfl
@[simp] theorem modDailies_mailboxes (f : Dailies → Dailies) : (s.modDailies f).mailboxes = s.mailboxes := rfl
@[simp] theorem modDailies_boot (f : Dailies → Dailies) : (s.modDailies f).boot = s.boot := rfl
@[simp] theorem modDailies_flash (f : Dailies → Dailies) : (s.modDailies f).flash = s.flash := rfl
@[simp] theorem modDailies_power (f : Dailies → Dailies) : (s.modDailies f).power = s.power := rfl
@[simp] theorem modDailies_dailies (f : Dailies → Dailies) : (s.modDailies f).dailies = f s.dailies := rfl
@[simp] theorem modDailies_haps (f : Dailies → Dailies) : (s.modDailies f).haps = s.haps := rfl
@[simp] theorem modDailies_foley (f : Dailies → Dailies) : (s.modDailies f).foley = s.foley := rfl
@[simp] theorem modDailies_fronts (f : Dailies → Dailies) : (s.modDailies f).fronts = s.fronts := rfl
@[simp] theorem modDailies_keyBank (f : Dailies → Dailies) : (s.modDailies f).keyBank = s.keyBank := rfl
@[simp] theorem modDailies_cus (f : Dailies → Dailies) : (s.modDailies f).cus = s.cus := rfl
@[simp] theorem modDailies_ldp (f : Dailies → Dailies) : (s.modDailies f).ldp = s.ldp := rfl
@[simp] theorem modDailies_clocks (f : Dailies → Dailies) : (s.modDailies f).clocks = s.clocks := rfl
@[simp] theorem modDailies_pending (f : Dailies → Dailies) : (s.modDailies f).pending = s.pending := rfl
@[simp] theorem modDailies_rd (f : Dailies → Dailies) (ad : Nat) : (s.modDailies f).rd ad = s.rd ad := rfl

/-! ## modRaster -/

@[simp] theorem modRaster_objs (f : Raster → Raster) : (s.modRaster f).objs = s.objs := rfl
@[simp] theorem modRaster_clock (f : Raster → Raster) : (s.modRaster f).clock = s.clock := rfl
@[simp] theorem modRaster_dueSlots (f : Raster → Raster) : (s.modRaster f).dueSlots = s.dueSlots := rfl
@[simp] theorem modRaster_log (f : Raster → Raster) : (s.modRaster f).log = s.log := rfl
@[simp] theorem modRaster_io (f : Raster → Raster) : (s.modRaster f).io = s.io := rfl
@[simp] theorem modRaster_freeDrawn (f : Raster → Raster) : (s.modRaster f).freeDrawn = s.freeDrawn := rfl
@[simp] theorem modRaster_order (f : Raster → Raster) : (s.modRaster f).order = s.order := rfl
@[simp] theorem modRaster_items (f : Raster → Raster) : (s.modRaster f).items = s.items := rfl
@[simp] theorem modRaster_nextItem (f : Raster → Raster) : (s.modRaster f).nextItem = s.nextItem := rfl
@[simp] theorem modRaster_insts (f : Raster → Raster) : (s.modRaster f).insts = s.insts := rfl
@[simp] theorem modRaster_guards (f : Raster → Raster) : (s.modRaster f).guards = s.guards := rfl
@[simp] theorem modRaster_outs (f : Raster → Raster) : (s.modRaster f).outs = s.outs := rfl
@[simp] theorem modRaster_shadow (f : Raster → Raster) : (s.modRaster f).shadow = s.shadow := rfl
@[simp] theorem modRaster_colourActive (f : Raster → Raster) : (s.modRaster f).colourActive = s.colourActive := rfl
@[simp] theorem modRaster_lutBanks (f : Raster → Raster) : (s.modRaster f).lutBanks = s.lutBanks := rfl
@[simp] theorem modRaster_substUnchecked (f : Raster → Raster) : (s.modRaster f).substUnchecked = s.substUnchecked := rfl
@[simp] theorem modRaster_grip (f : Raster → Raster) : (s.modRaster f).grip = s.grip := rfl
@[simp] theorem modRaster_jobs (f : Raster → Raster) : (s.modRaster f).jobs = s.jobs := rfl
@[simp] theorem modRaster_mem (f : Raster → Raster) : (s.modRaster f).mem = s.mem := rfl
@[simp] theorem modRaster_memConf (f : Raster → Raster) : (s.modRaster f).memConf = s.memConf := rfl
@[simp] theorem modRaster_dram (f : Raster → Raster) : (s.modRaster f).dram = s.dram := rfl
@[simp] theorem modRaster_keys (f : Raster → Raster) : (s.modRaster f).keys = s.keys := rfl
@[simp] theorem modRaster_raster (f : Raster → Raster) : (s.modRaster f).raster = f s.raster := rfl
@[simp] theorem modRaster_ports (f : Raster → Raster) : (s.modRaster f).ports = s.ports := rfl
@[simp] theorem modRaster_tally (f : Raster → Raster) : (s.modRaster f).tally = s.tally := rfl
@[simp] theorem modRaster_tallyOvf (f : Raster → Raster) : (s.modRaster f).tallyOvf = s.tallyOvf := rfl
@[simp] theorem modRaster_refusals (f : Raster → Raster) : (s.modRaster f).refusals = s.refusals := rfl
@[simp] theorem modRaster_mailboxes (f : Raster → Raster) : (s.modRaster f).mailboxes = s.mailboxes := rfl
@[simp] theorem modRaster_boot (f : Raster → Raster) : (s.modRaster f).boot = s.boot := rfl
@[simp] theorem modRaster_flash (f : Raster → Raster) : (s.modRaster f).flash = s.flash := rfl
@[simp] theorem modRaster_power (f : Raster → Raster) : (s.modRaster f).power = s.power := rfl
@[simp] theorem modRaster_dailies (f : Raster → Raster) : (s.modRaster f).dailies = s.dailies := rfl
@[simp] theorem modRaster_haps (f : Raster → Raster) : (s.modRaster f).haps = s.haps := rfl
@[simp] theorem modRaster_foley (f : Raster → Raster) : (s.modRaster f).foley = s.foley := rfl
@[simp] theorem modRaster_fronts (f : Raster → Raster) : (s.modRaster f).fronts = s.fronts := rfl
@[simp] theorem modRaster_keyBank (f : Raster → Raster) : (s.modRaster f).keyBank = s.keyBank := rfl
@[simp] theorem modRaster_cus (f : Raster → Raster) : (s.modRaster f).cus = s.cus := rfl
@[simp] theorem modRaster_ldp (f : Raster → Raster) : (s.modRaster f).ldp = s.ldp := rfl
@[simp] theorem modRaster_clocks (f : Raster → Raster) : (s.modRaster f).clocks = s.clocks := rfl
@[simp] theorem modRaster_pending (f : Raster → Raster) : (s.modRaster f).pending = s.pending := rfl
@[simp] theorem modRaster_rd (f : Raster → Raster) (ad : Nat) : (s.modRaster f).rd ad = s.rd ad := rfl

/-! ## modJob -/

@[simp] theorem modJob_objs (j : Nat) (f : Job → Job) : (s.modJob j f).objs = s.objs := rfl
@[simp] theorem modJob_clock (j : Nat) (f : Job → Job) : (s.modJob j f).clock = s.clock := rfl
@[simp] theorem modJob_dueSlots (j : Nat) (f : Job → Job) : (s.modJob j f).dueSlots = s.dueSlots := rfl
@[simp] theorem modJob_log (j : Nat) (f : Job → Job) : (s.modJob j f).log = s.log := rfl
@[simp] theorem modJob_io (j : Nat) (f : Job → Job) : (s.modJob j f).io = s.io := rfl
@[simp] theorem modJob_freeDrawn (j : Nat) (f : Job → Job) : (s.modJob j f).freeDrawn = s.freeDrawn := rfl
@[simp] theorem modJob_order (j : Nat) (f : Job → Job) : (s.modJob j f).order = s.order := rfl
@[simp] theorem modJob_items (j : Nat) (f : Job → Job) : (s.modJob j f).items = s.items := rfl
@[simp] theorem modJob_nextItem (j : Nat) (f : Job → Job) : (s.modJob j f).nextItem = s.nextItem := rfl
@[simp] theorem modJob_insts (j : Nat) (f : Job → Job) : (s.modJob j f).insts = s.insts := rfl
@[simp] theorem modJob_guards (j : Nat) (f : Job → Job) : (s.modJob j f).guards = s.guards := rfl
@[simp] theorem modJob_outs (j : Nat) (f : Job → Job) : (s.modJob j f).outs = s.outs := rfl
@[simp] theorem modJob_shadow (j : Nat) (f : Job → Job) : (s.modJob j f).shadow = s.shadow := rfl
@[simp] theorem modJob_colourActive (j : Nat) (f : Job → Job) : (s.modJob j f).colourActive = s.colourActive := rfl
@[simp] theorem modJob_lutBanks (j : Nat) (f : Job → Job) : (s.modJob j f).lutBanks = s.lutBanks := rfl
@[simp] theorem modJob_substUnchecked (j : Nat) (f : Job → Job) : (s.modJob j f).substUnchecked = s.substUnchecked := rfl
@[simp] theorem modJob_grip (j : Nat) (f : Job → Job) : (s.modJob j f).grip = s.grip := rfl
@[simp] theorem modJob_mem (j : Nat) (f : Job → Job) : (s.modJob j f).mem = s.mem := rfl
@[simp] theorem modJob_memConf (j : Nat) (f : Job → Job) : (s.modJob j f).memConf = s.memConf := rfl
@[simp] theorem modJob_dram (j : Nat) (f : Job → Job) : (s.modJob j f).dram = s.dram := rfl
@[simp] theorem modJob_keys (j : Nat) (f : Job → Job) : (s.modJob j f).keys = s.keys := rfl
@[simp] theorem modJob_raster (j : Nat) (f : Job → Job) : (s.modJob j f).raster = s.raster := rfl
@[simp] theorem modJob_ports (j : Nat) (f : Job → Job) : (s.modJob j f).ports = s.ports := rfl
@[simp] theorem modJob_tally (j : Nat) (f : Job → Job) : (s.modJob j f).tally = s.tally := rfl
@[simp] theorem modJob_tallyOvf (j : Nat) (f : Job → Job) : (s.modJob j f).tallyOvf = s.tallyOvf := rfl
@[simp] theorem modJob_refusals (j : Nat) (f : Job → Job) : (s.modJob j f).refusals = s.refusals := rfl
@[simp] theorem modJob_mailboxes (j : Nat) (f : Job → Job) : (s.modJob j f).mailboxes = s.mailboxes := rfl
@[simp] theorem modJob_boot (j : Nat) (f : Job → Job) : (s.modJob j f).boot = s.boot := rfl
@[simp] theorem modJob_flash (j : Nat) (f : Job → Job) : (s.modJob j f).flash = s.flash := rfl
@[simp] theorem modJob_power (j : Nat) (f : Job → Job) : (s.modJob j f).power = s.power := rfl
@[simp] theorem modJob_dailies (j : Nat) (f : Job → Job) : (s.modJob j f).dailies = s.dailies := rfl
@[simp] theorem modJob_haps (j : Nat) (f : Job → Job) : (s.modJob j f).haps = s.haps := rfl
@[simp] theorem modJob_foley (j : Nat) (f : Job → Job) : (s.modJob j f).foley = s.foley := rfl
@[simp] theorem modJob_fronts (j : Nat) (f : Job → Job) : (s.modJob j f).fronts = s.fronts := rfl
@[simp] theorem modJob_keyBank (j : Nat) (f : Job → Job) : (s.modJob j f).keyBank = s.keyBank := rfl
@[simp] theorem modJob_cus (j : Nat) (f : Job → Job) : (s.modJob j f).cus = s.cus := rfl
@[simp] theorem modJob_ldp (j : Nat) (f : Job → Job) : (s.modJob j f).ldp = s.ldp := rfl
@[simp] theorem modJob_clocks (j : Nat) (f : Job → Job) : (s.modJob j f).clocks = s.clocks := rfl
@[simp] theorem modJob_pending (j : Nat) (f : Job → Job) : (s.modJob j f).pending = s.pending := rfl
@[simp] theorem modJob_rd (j : Nat) (f : Job → Job) (ad : Nat) : (s.modJob j f).rd ad = s.rd ad := rfl

/-! ## setPool -/

@[simp] theorem setPool_objs (o : Nat) (l : List PbPage) : (s.setPool o l).objs = s.objs := rfl
@[simp] theorem setPool_clock (o : Nat) (l : List PbPage) : (s.setPool o l).clock = s.clock := rfl
@[simp] theorem setPool_dueSlots (o : Nat) (l : List PbPage) : (s.setPool o l).dueSlots = s.dueSlots := rfl
@[simp] theorem setPool_log (o : Nat) (l : List PbPage) : (s.setPool o l).log = s.log := rfl
@[simp] theorem setPool_io (o : Nat) (l : List PbPage) : (s.setPool o l).io = s.io := rfl
@[simp] theorem setPool_freeDrawn (o : Nat) (l : List PbPage) : (s.setPool o l).freeDrawn = s.freeDrawn := rfl
@[simp] theorem setPool_order (o : Nat) (l : List PbPage) : (s.setPool o l).order = s.order := rfl
@[simp] theorem setPool_items (o : Nat) (l : List PbPage) : (s.setPool o l).items = s.items := rfl
@[simp] theorem setPool_nextItem (o : Nat) (l : List PbPage) : (s.setPool o l).nextItem = s.nextItem := rfl
@[simp] theorem setPool_insts (o : Nat) (l : List PbPage) : (s.setPool o l).insts = s.insts := rfl
@[simp] theorem setPool_guards (o : Nat) (l : List PbPage) : (s.setPool o l).guards = s.guards := rfl
@[simp] theorem setPool_outs (o : Nat) (l : List PbPage) : (s.setPool o l).outs = s.outs := rfl
@[simp] theorem setPool_shadow (o : Nat) (l : List PbPage) : (s.setPool o l).shadow = s.shadow := rfl
@[simp] theorem setPool_colourActive (o : Nat) (l : List PbPage) : (s.setPool o l).colourActive = s.colourActive := rfl
@[simp] theorem setPool_lutBanks (o : Nat) (l : List PbPage) : (s.setPool o l).lutBanks = s.lutBanks := rfl
@[simp] theorem setPool_substUnchecked (o : Nat) (l : List PbPage) : (s.setPool o l).substUnchecked = s.substUnchecked := rfl
@[simp] theorem setPool_grip (o : Nat) (l : List PbPage) : (s.setPool o l).grip = s.grip := rfl
@[simp] theorem setPool_jobs (o : Nat) (l : List PbPage) : (s.setPool o l).jobs = s.jobs := rfl
@[simp] theorem setPool_mem (o : Nat) (l : List PbPage) : (s.setPool o l).mem = s.mem := rfl
@[simp] theorem setPool_memConf (o : Nat) (l : List PbPage) : (s.setPool o l).memConf = s.memConf := rfl
@[simp] theorem setPool_dram (o : Nat) (l : List PbPage) : (s.setPool o l).dram = s.dram := rfl
@[simp] theorem setPool_keys (o : Nat) (l : List PbPage) : (s.setPool o l).keys = s.keys := rfl
@[simp] theorem setPool_ports (o : Nat) (l : List PbPage) : (s.setPool o l).ports = s.ports := rfl
@[simp] theorem setPool_tally (o : Nat) (l : List PbPage) : (s.setPool o l).tally = s.tally := rfl
@[simp] theorem setPool_tallyOvf (o : Nat) (l : List PbPage) : (s.setPool o l).tallyOvf = s.tallyOvf := rfl
@[simp] theorem setPool_refusals (o : Nat) (l : List PbPage) : (s.setPool o l).refusals = s.refusals := rfl
@[simp] theorem setPool_mailboxes (o : Nat) (l : List PbPage) : (s.setPool o l).mailboxes = s.mailboxes := rfl
@[simp] theorem setPool_boot (o : Nat) (l : List PbPage) : (s.setPool o l).boot = s.boot := rfl
@[simp] theorem setPool_flash (o : Nat) (l : List PbPage) : (s.setPool o l).flash = s.flash := rfl
@[simp] theorem setPool_power (o : Nat) (l : List PbPage) : (s.setPool o l).power = s.power := rfl
@[simp] theorem setPool_dailies (o : Nat) (l : List PbPage) : (s.setPool o l).dailies = s.dailies := rfl
@[simp] theorem setPool_haps (o : Nat) (l : List PbPage) : (s.setPool o l).haps = s.haps := rfl
@[simp] theorem setPool_foley (o : Nat) (l : List PbPage) : (s.setPool o l).foley = s.foley := rfl
@[simp] theorem setPool_fronts (o : Nat) (l : List PbPage) : (s.setPool o l).fronts = s.fronts := rfl
@[simp] theorem setPool_keyBank (o : Nat) (l : List PbPage) : (s.setPool o l).keyBank = s.keyBank := rfl
@[simp] theorem setPool_cus (o : Nat) (l : List PbPage) : (s.setPool o l).cus = s.cus := rfl
@[simp] theorem setPool_ldp (o : Nat) (l : List PbPage) : (s.setPool o l).ldp = s.ldp := rfl
@[simp] theorem setPool_clocks (o : Nat) (l : List PbPage) : (s.setPool o l).clocks = s.clocks := rfl
@[simp] theorem setPool_pending (o : Nat) (l : List PbPage) : (s.setPool o l).pending = s.pending := rfl
@[simp] theorem setPool_rd (o : Nat) (l : List PbPage) (ad : Nat) : (s.setPool o l).rd ad = s.rd ad := rfl

/-! ## modFoley -/

@[simp] theorem modFoley_objs (f : Foley → Foley) : (s.modFoley f).objs = s.objs := rfl
@[simp] theorem modFoley_clock (f : Foley → Foley) : (s.modFoley f).clock = s.clock := rfl
@[simp] theorem modFoley_dueSlots (f : Foley → Foley) : (s.modFoley f).dueSlots = s.dueSlots := rfl
@[simp] theorem modFoley_log (f : Foley → Foley) : (s.modFoley f).log = s.log := rfl
@[simp] theorem modFoley_io (f : Foley → Foley) : (s.modFoley f).io = s.io := rfl
@[simp] theorem modFoley_freeDrawn (f : Foley → Foley) : (s.modFoley f).freeDrawn = s.freeDrawn := rfl
@[simp] theorem modFoley_order (f : Foley → Foley) : (s.modFoley f).order = s.order := rfl
@[simp] theorem modFoley_items (f : Foley → Foley) : (s.modFoley f).items = s.items := rfl
@[simp] theorem modFoley_nextItem (f : Foley → Foley) : (s.modFoley f).nextItem = s.nextItem := rfl
@[simp] theorem modFoley_insts (f : Foley → Foley) : (s.modFoley f).insts = s.insts := rfl
@[simp] theorem modFoley_guards (f : Foley → Foley) : (s.modFoley f).guards = s.guards := rfl
@[simp] theorem modFoley_outs (f : Foley → Foley) : (s.modFoley f).outs = s.outs := rfl
@[simp] theorem modFoley_shadow (f : Foley → Foley) : (s.modFoley f).shadow = s.shadow := rfl
@[simp] theorem modFoley_colourActive (f : Foley → Foley) : (s.modFoley f).colourActive = s.colourActive := rfl
@[simp] theorem modFoley_lutBanks (f : Foley → Foley) : (s.modFoley f).lutBanks = s.lutBanks := rfl
@[simp] theorem modFoley_substUnchecked (f : Foley → Foley) : (s.modFoley f).substUnchecked = s.substUnchecked := rfl
@[simp] theorem modFoley_grip (f : Foley → Foley) : (s.modFoley f).grip = s.grip := rfl
@[simp] theorem modFoley_jobs (f : Foley → Foley) : (s.modFoley f).jobs = s.jobs := rfl
@[simp] theorem modFoley_mem (f : Foley → Foley) : (s.modFoley f).mem = s.mem := rfl
@[simp] theorem modFoley_memConf (f : Foley → Foley) : (s.modFoley f).memConf = s.memConf := rfl
@[simp] theorem modFoley_dram (f : Foley → Foley) : (s.modFoley f).dram = s.dram := rfl
@[simp] theorem modFoley_keys (f : Foley → Foley) : (s.modFoley f).keys = s.keys := rfl
@[simp] theorem modFoley_raster (f : Foley → Foley) : (s.modFoley f).raster = s.raster := rfl
@[simp] theorem modFoley_ports (f : Foley → Foley) : (s.modFoley f).ports = s.ports := rfl
@[simp] theorem modFoley_tally (f : Foley → Foley) : (s.modFoley f).tally = s.tally := rfl
@[simp] theorem modFoley_tallyOvf (f : Foley → Foley) : (s.modFoley f).tallyOvf = s.tallyOvf := rfl
@[simp] theorem modFoley_refusals (f : Foley → Foley) : (s.modFoley f).refusals = s.refusals := rfl
@[simp] theorem modFoley_mailboxes (f : Foley → Foley) : (s.modFoley f).mailboxes = s.mailboxes := rfl
@[simp] theorem modFoley_boot (f : Foley → Foley) : (s.modFoley f).boot = s.boot := rfl
@[simp] theorem modFoley_flash (f : Foley → Foley) : (s.modFoley f).flash = s.flash := rfl
@[simp] theorem modFoley_power (f : Foley → Foley) : (s.modFoley f).power = s.power := rfl
@[simp] theorem modFoley_dailies (f : Foley → Foley) : (s.modFoley f).dailies = s.dailies := rfl
@[simp] theorem modFoley_haps (f : Foley → Foley) : (s.modFoley f).haps = s.haps := rfl
@[simp] theorem modFoley_foley (f : Foley → Foley) : (s.modFoley f).foley = f s.foley := rfl
@[simp] theorem modFoley_fronts (f : Foley → Foley) : (s.modFoley f).fronts = s.fronts := rfl
@[simp] theorem modFoley_keyBank (f : Foley → Foley) : (s.modFoley f).keyBank = s.keyBank := rfl
@[simp] theorem modFoley_cus (f : Foley → Foley) : (s.modFoley f).cus = s.cus := rfl
@[simp] theorem modFoley_ldp (f : Foley → Foley) : (s.modFoley f).ldp = s.ldp := rfl
@[simp] theorem modFoley_clocks (f : Foley → Foley) : (s.modFoley f).clocks = s.clocks := rfl
@[simp] theorem modFoley_pending (f : Foley → Foley) : (s.modFoley f).pending = s.pending := rfl
@[simp] theorem modFoley_rd (f : Foley → Foley) (ad : Nat) : (s.modFoley f).rd ad = s.rd ad := rfl

/-! ## setStream -/

@[simp] theorem setStream_objs (u : Nat) (x : AudStream) : (s.setStream u x).objs = s.objs := rfl
@[simp] theorem setStream_clock (u : Nat) (x : AudStream) : (s.setStream u x).clock = s.clock := rfl
@[simp] theorem setStream_dueSlots (u : Nat) (x : AudStream) : (s.setStream u x).dueSlots = s.dueSlots := rfl
@[simp] theorem setStream_log (u : Nat) (x : AudStream) : (s.setStream u x).log = s.log := rfl
@[simp] theorem setStream_io (u : Nat) (x : AudStream) : (s.setStream u x).io = s.io := rfl
@[simp] theorem setStream_freeDrawn (u : Nat) (x : AudStream) : (s.setStream u x).freeDrawn = s.freeDrawn := rfl
@[simp] theorem setStream_order (u : Nat) (x : AudStream) : (s.setStream u x).order = s.order := rfl
@[simp] theorem setStream_items (u : Nat) (x : AudStream) : (s.setStream u x).items = s.items := rfl
@[simp] theorem setStream_nextItem (u : Nat) (x : AudStream) : (s.setStream u x).nextItem = s.nextItem := rfl
@[simp] theorem setStream_insts (u : Nat) (x : AudStream) : (s.setStream u x).insts = s.insts := rfl
@[simp] theorem setStream_guards (u : Nat) (x : AudStream) : (s.setStream u x).guards = s.guards := rfl
@[simp] theorem setStream_outs (u : Nat) (x : AudStream) : (s.setStream u x).outs = s.outs := rfl
@[simp] theorem setStream_shadow (u : Nat) (x : AudStream) : (s.setStream u x).shadow = s.shadow := rfl
@[simp] theorem setStream_colourActive (u : Nat) (x : AudStream) : (s.setStream u x).colourActive = s.colourActive := rfl
@[simp] theorem setStream_lutBanks (u : Nat) (x : AudStream) : (s.setStream u x).lutBanks = s.lutBanks := rfl
@[simp] theorem setStream_substUnchecked (u : Nat) (x : AudStream) : (s.setStream u x).substUnchecked = s.substUnchecked := rfl
@[simp] theorem setStream_grip (u : Nat) (x : AudStream) : (s.setStream u x).grip = s.grip := rfl
@[simp] theorem setStream_jobs (u : Nat) (x : AudStream) : (s.setStream u x).jobs = s.jobs := rfl
@[simp] theorem setStream_mem (u : Nat) (x : AudStream) : (s.setStream u x).mem = s.mem := rfl
@[simp] theorem setStream_memConf (u : Nat) (x : AudStream) : (s.setStream u x).memConf = s.memConf := rfl
@[simp] theorem setStream_dram (u : Nat) (x : AudStream) : (s.setStream u x).dram = s.dram := rfl
@[simp] theorem setStream_keys (u : Nat) (x : AudStream) : (s.setStream u x).keys = s.keys := rfl
@[simp] theorem setStream_raster (u : Nat) (x : AudStream) : (s.setStream u x).raster = s.raster := rfl
@[simp] theorem setStream_ports (u : Nat) (x : AudStream) : (s.setStream u x).ports = s.ports := rfl
@[simp] theorem setStream_tally (u : Nat) (x : AudStream) : (s.setStream u x).tally = s.tally := rfl
@[simp] theorem setStream_tallyOvf (u : Nat) (x : AudStream) : (s.setStream u x).tallyOvf = s.tallyOvf := rfl
@[simp] theorem setStream_refusals (u : Nat) (x : AudStream) : (s.setStream u x).refusals = s.refusals := rfl
@[simp] theorem setStream_mailboxes (u : Nat) (x : AudStream) : (s.setStream u x).mailboxes = s.mailboxes := rfl
@[simp] theorem setStream_boot (u : Nat) (x : AudStream) : (s.setStream u x).boot = s.boot := rfl
@[simp] theorem setStream_flash (u : Nat) (x : AudStream) : (s.setStream u x).flash = s.flash := rfl
@[simp] theorem setStream_power (u : Nat) (x : AudStream) : (s.setStream u x).power = s.power := rfl
@[simp] theorem setStream_dailies (u : Nat) (x : AudStream) : (s.setStream u x).dailies = s.dailies := rfl
@[simp] theorem setStream_haps (u : Nat) (x : AudStream) : (s.setStream u x).haps = s.haps := rfl
@[simp] theorem setStream_fronts (u : Nat) (x : AudStream) : (s.setStream u x).fronts = s.fronts := rfl
@[simp] theorem setStream_keyBank (u : Nat) (x : AudStream) : (s.setStream u x).keyBank = s.keyBank := rfl
@[simp] theorem setStream_cus (u : Nat) (x : AudStream) : (s.setStream u x).cus = s.cus := rfl
@[simp] theorem setStream_ldp (u : Nat) (x : AudStream) : (s.setStream u x).ldp = s.ldp := rfl
@[simp] theorem setStream_clocks (u : Nat) (x : AudStream) : (s.setStream u x).clocks = s.clocks := rfl
@[simp] theorem setStream_pending (u : Nat) (x : AudStream) : (s.setStream u x).pending = s.pending := rfl
@[simp] theorem setStream_rd (u : Nat) (x : AudStream) (ad : Nat) : (s.setStream u x).rd ad = s.rd ad := rfl

/-! ## setBus -/

@[simp] theorem setBus_objs (b : Nat) (x : AudBus) : (s.setBus b x).objs = s.objs := rfl
@[simp] theorem setBus_clock (b : Nat) (x : AudBus) : (s.setBus b x).clock = s.clock := rfl
@[simp] theorem setBus_dueSlots (b : Nat) (x : AudBus) : (s.setBus b x).dueSlots = s.dueSlots := rfl
@[simp] theorem setBus_log (b : Nat) (x : AudBus) : (s.setBus b x).log = s.log := rfl
@[simp] theorem setBus_io (b : Nat) (x : AudBus) : (s.setBus b x).io = s.io := rfl
@[simp] theorem setBus_freeDrawn (b : Nat) (x : AudBus) : (s.setBus b x).freeDrawn = s.freeDrawn := rfl
@[simp] theorem setBus_order (b : Nat) (x : AudBus) : (s.setBus b x).order = s.order := rfl
@[simp] theorem setBus_items (b : Nat) (x : AudBus) : (s.setBus b x).items = s.items := rfl
@[simp] theorem setBus_nextItem (b : Nat) (x : AudBus) : (s.setBus b x).nextItem = s.nextItem := rfl
@[simp] theorem setBus_insts (b : Nat) (x : AudBus) : (s.setBus b x).insts = s.insts := rfl
@[simp] theorem setBus_guards (b : Nat) (x : AudBus) : (s.setBus b x).guards = s.guards := rfl
@[simp] theorem setBus_outs (b : Nat) (x : AudBus) : (s.setBus b x).outs = s.outs := rfl
@[simp] theorem setBus_shadow (b : Nat) (x : AudBus) : (s.setBus b x).shadow = s.shadow := rfl
@[simp] theorem setBus_colourActive (b : Nat) (x : AudBus) : (s.setBus b x).colourActive = s.colourActive := rfl
@[simp] theorem setBus_lutBanks (b : Nat) (x : AudBus) : (s.setBus b x).lutBanks = s.lutBanks := rfl
@[simp] theorem setBus_substUnchecked (b : Nat) (x : AudBus) : (s.setBus b x).substUnchecked = s.substUnchecked := rfl
@[simp] theorem setBus_grip (b : Nat) (x : AudBus) : (s.setBus b x).grip = s.grip := rfl
@[simp] theorem setBus_jobs (b : Nat) (x : AudBus) : (s.setBus b x).jobs = s.jobs := rfl
@[simp] theorem setBus_mem (b : Nat) (x : AudBus) : (s.setBus b x).mem = s.mem := rfl
@[simp] theorem setBus_memConf (b : Nat) (x : AudBus) : (s.setBus b x).memConf = s.memConf := rfl
@[simp] theorem setBus_dram (b : Nat) (x : AudBus) : (s.setBus b x).dram = s.dram := rfl
@[simp] theorem setBus_keys (b : Nat) (x : AudBus) : (s.setBus b x).keys = s.keys := rfl
@[simp] theorem setBus_raster (b : Nat) (x : AudBus) : (s.setBus b x).raster = s.raster := rfl
@[simp] theorem setBus_ports (b : Nat) (x : AudBus) : (s.setBus b x).ports = s.ports := rfl
@[simp] theorem setBus_tally (b : Nat) (x : AudBus) : (s.setBus b x).tally = s.tally := rfl
@[simp] theorem setBus_tallyOvf (b : Nat) (x : AudBus) : (s.setBus b x).tallyOvf = s.tallyOvf := rfl
@[simp] theorem setBus_refusals (b : Nat) (x : AudBus) : (s.setBus b x).refusals = s.refusals := rfl
@[simp] theorem setBus_mailboxes (b : Nat) (x : AudBus) : (s.setBus b x).mailboxes = s.mailboxes := rfl
@[simp] theorem setBus_boot (b : Nat) (x : AudBus) : (s.setBus b x).boot = s.boot := rfl
@[simp] theorem setBus_flash (b : Nat) (x : AudBus) : (s.setBus b x).flash = s.flash := rfl
@[simp] theorem setBus_power (b : Nat) (x : AudBus) : (s.setBus b x).power = s.power := rfl
@[simp] theorem setBus_dailies (b : Nat) (x : AudBus) : (s.setBus b x).dailies = s.dailies := rfl
@[simp] theorem setBus_haps (b : Nat) (x : AudBus) : (s.setBus b x).haps = s.haps := rfl
@[simp] theorem setBus_fronts (b : Nat) (x : AudBus) : (s.setBus b x).fronts = s.fronts := rfl
@[simp] theorem setBus_keyBank (b : Nat) (x : AudBus) : (s.setBus b x).keyBank = s.keyBank := rfl
@[simp] theorem setBus_cus (b : Nat) (x : AudBus) : (s.setBus b x).cus = s.cus := rfl
@[simp] theorem setBus_ldp (b : Nat) (x : AudBus) : (s.setBus b x).ldp = s.ldp := rfl
@[simp] theorem setBus_clocks (b : Nat) (x : AudBus) : (s.setBus b x).clocks = s.clocks := rfl
@[simp] theorem setBus_pending (b : Nat) (x : AudBus) : (s.setBus b x).pending = s.pending := rfl
@[simp] theorem setBus_rd (b : Nat) (x : AudBus) (ad : Nat) : (s.setBus b x).rd ad = s.rd ad := rfl

/-! ## setCu -/

@[simp] theorem setCu_objs (u : Nat) (x : CuUnit) : (s.setCu u x).objs = s.objs := rfl
@[simp] theorem setCu_clock (u : Nat) (x : CuUnit) : (s.setCu u x).clock = s.clock := rfl
@[simp] theorem setCu_dueSlots (u : Nat) (x : CuUnit) : (s.setCu u x).dueSlots = s.dueSlots := rfl
@[simp] theorem setCu_log (u : Nat) (x : CuUnit) : (s.setCu u x).log = s.log := rfl
@[simp] theorem setCu_io (u : Nat) (x : CuUnit) : (s.setCu u x).io = s.io := rfl
@[simp] theorem setCu_freeDrawn (u : Nat) (x : CuUnit) : (s.setCu u x).freeDrawn = s.freeDrawn := rfl
@[simp] theorem setCu_order (u : Nat) (x : CuUnit) : (s.setCu u x).order = s.order := rfl
@[simp] theorem setCu_items (u : Nat) (x : CuUnit) : (s.setCu u x).items = s.items := rfl
@[simp] theorem setCu_nextItem (u : Nat) (x : CuUnit) : (s.setCu u x).nextItem = s.nextItem := rfl
@[simp] theorem setCu_insts (u : Nat) (x : CuUnit) : (s.setCu u x).insts = s.insts := rfl
@[simp] theorem setCu_guards (u : Nat) (x : CuUnit) : (s.setCu u x).guards = s.guards := rfl
@[simp] theorem setCu_outs (u : Nat) (x : CuUnit) : (s.setCu u x).outs = s.outs := rfl
@[simp] theorem setCu_shadow (u : Nat) (x : CuUnit) : (s.setCu u x).shadow = s.shadow := rfl
@[simp] theorem setCu_colourActive (u : Nat) (x : CuUnit) : (s.setCu u x).colourActive = s.colourActive := rfl
@[simp] theorem setCu_lutBanks (u : Nat) (x : CuUnit) : (s.setCu u x).lutBanks = s.lutBanks := rfl
@[simp] theorem setCu_substUnchecked (u : Nat) (x : CuUnit) : (s.setCu u x).substUnchecked = s.substUnchecked := rfl
@[simp] theorem setCu_grip (u : Nat) (x : CuUnit) : (s.setCu u x).grip = s.grip := rfl
@[simp] theorem setCu_jobs (u : Nat) (x : CuUnit) : (s.setCu u x).jobs = s.jobs := rfl
@[simp] theorem setCu_mem (u : Nat) (x : CuUnit) : (s.setCu u x).mem = s.mem := rfl
@[simp] theorem setCu_memConf (u : Nat) (x : CuUnit) : (s.setCu u x).memConf = s.memConf := rfl
@[simp] theorem setCu_dram (u : Nat) (x : CuUnit) : (s.setCu u x).dram = s.dram := rfl
@[simp] theorem setCu_keys (u : Nat) (x : CuUnit) : (s.setCu u x).keys = s.keys := rfl
@[simp] theorem setCu_raster (u : Nat) (x : CuUnit) : (s.setCu u x).raster = s.raster := rfl
@[simp] theorem setCu_ports (u : Nat) (x : CuUnit) : (s.setCu u x).ports = s.ports := rfl
@[simp] theorem setCu_tally (u : Nat) (x : CuUnit) : (s.setCu u x).tally = s.tally := rfl
@[simp] theorem setCu_tallyOvf (u : Nat) (x : CuUnit) : (s.setCu u x).tallyOvf = s.tallyOvf := rfl
@[simp] theorem setCu_refusals (u : Nat) (x : CuUnit) : (s.setCu u x).refusals = s.refusals := rfl
@[simp] theorem setCu_mailboxes (u : Nat) (x : CuUnit) : (s.setCu u x).mailboxes = s.mailboxes := rfl
@[simp] theorem setCu_boot (u : Nat) (x : CuUnit) : (s.setCu u x).boot = s.boot := rfl
@[simp] theorem setCu_flash (u : Nat) (x : CuUnit) : (s.setCu u x).flash = s.flash := rfl
@[simp] theorem setCu_power (u : Nat) (x : CuUnit) : (s.setCu u x).power = s.power := rfl
@[simp] theorem setCu_dailies (u : Nat) (x : CuUnit) : (s.setCu u x).dailies = s.dailies := rfl
@[simp] theorem setCu_haps (u : Nat) (x : CuUnit) : (s.setCu u x).haps = s.haps := rfl
@[simp] theorem setCu_foley (u : Nat) (x : CuUnit) : (s.setCu u x).foley = s.foley := rfl
@[simp] theorem setCu_fronts (u : Nat) (x : CuUnit) : (s.setCu u x).fronts = s.fronts := rfl
@[simp] theorem setCu_keyBank (u : Nat) (x : CuUnit) : (s.setCu u x).keyBank = s.keyBank := rfl
@[simp] theorem setCu_cus (u : Nat) (x : CuUnit) : (s.setCu u x).cus = Tab.set s.cus u x := rfl
@[simp] theorem setCu_ldp (u : Nat) (x : CuUnit) : (s.setCu u x).ldp = s.ldp := rfl
@[simp] theorem setCu_clocks (u : Nat) (x : CuUnit) : (s.setCu u x).clocks = s.clocks := rfl
@[simp] theorem setCu_pending (u : Nat) (x : CuUnit) : (s.setCu u x).pending = s.pending := rfl
@[simp] theorem setCu_rd (u : Nat) (x : CuUnit) (ad : Nat) : (s.setCu u x).rd ad = s.rd ad := rfl

/-! ## setFront -/

@[simp] theorem setFront_objs (p : Nat) (x : FrontEnd) : (s.setFront p x).objs = s.objs := rfl
@[simp] theorem setFront_clock (p : Nat) (x : FrontEnd) : (s.setFront p x).clock = s.clock := rfl
@[simp] theorem setFront_dueSlots (p : Nat) (x : FrontEnd) : (s.setFront p x).dueSlots = s.dueSlots := rfl
@[simp] theorem setFront_log (p : Nat) (x : FrontEnd) : (s.setFront p x).log = s.log := rfl
@[simp] theorem setFront_io (p : Nat) (x : FrontEnd) : (s.setFront p x).io = s.io := rfl
@[simp] theorem setFront_freeDrawn (p : Nat) (x : FrontEnd) : (s.setFront p x).freeDrawn = s.freeDrawn := rfl
@[simp] theorem setFront_order (p : Nat) (x : FrontEnd) : (s.setFront p x).order = s.order := rfl
@[simp] theorem setFront_items (p : Nat) (x : FrontEnd) : (s.setFront p x).items = s.items := rfl
@[simp] theorem setFront_nextItem (p : Nat) (x : FrontEnd) : (s.setFront p x).nextItem = s.nextItem := rfl
@[simp] theorem setFront_insts (p : Nat) (x : FrontEnd) : (s.setFront p x).insts = s.insts := rfl
@[simp] theorem setFront_guards (p : Nat) (x : FrontEnd) : (s.setFront p x).guards = s.guards := rfl
@[simp] theorem setFront_outs (p : Nat) (x : FrontEnd) : (s.setFront p x).outs = s.outs := rfl
@[simp] theorem setFront_shadow (p : Nat) (x : FrontEnd) : (s.setFront p x).shadow = s.shadow := rfl
@[simp] theorem setFront_colourActive (p : Nat) (x : FrontEnd) : (s.setFront p x).colourActive = s.colourActive := rfl
@[simp] theorem setFront_lutBanks (p : Nat) (x : FrontEnd) : (s.setFront p x).lutBanks = s.lutBanks := rfl
@[simp] theorem setFront_substUnchecked (p : Nat) (x : FrontEnd) : (s.setFront p x).substUnchecked = s.substUnchecked := rfl
@[simp] theorem setFront_grip (p : Nat) (x : FrontEnd) : (s.setFront p x).grip = s.grip := rfl
@[simp] theorem setFront_jobs (p : Nat) (x : FrontEnd) : (s.setFront p x).jobs = s.jobs := rfl
@[simp] theorem setFront_mem (p : Nat) (x : FrontEnd) : (s.setFront p x).mem = s.mem := rfl
@[simp] theorem setFront_memConf (p : Nat) (x : FrontEnd) : (s.setFront p x).memConf = s.memConf := rfl
@[simp] theorem setFront_dram (p : Nat) (x : FrontEnd) : (s.setFront p x).dram = s.dram := rfl
@[simp] theorem setFront_keys (p : Nat) (x : FrontEnd) : (s.setFront p x).keys = s.keys := rfl
@[simp] theorem setFront_raster (p : Nat) (x : FrontEnd) : (s.setFront p x).raster = s.raster := rfl
@[simp] theorem setFront_ports (p : Nat) (x : FrontEnd) : (s.setFront p x).ports = s.ports := rfl
@[simp] theorem setFront_tally (p : Nat) (x : FrontEnd) : (s.setFront p x).tally = s.tally := rfl
@[simp] theorem setFront_tallyOvf (p : Nat) (x : FrontEnd) : (s.setFront p x).tallyOvf = s.tallyOvf := rfl
@[simp] theorem setFront_refusals (p : Nat) (x : FrontEnd) : (s.setFront p x).refusals = s.refusals := rfl
@[simp] theorem setFront_mailboxes (p : Nat) (x : FrontEnd) : (s.setFront p x).mailboxes = s.mailboxes := rfl
@[simp] theorem setFront_boot (p : Nat) (x : FrontEnd) : (s.setFront p x).boot = s.boot := rfl
@[simp] theorem setFront_flash (p : Nat) (x : FrontEnd) : (s.setFront p x).flash = s.flash := rfl
@[simp] theorem setFront_power (p : Nat) (x : FrontEnd) : (s.setFront p x).power = s.power := rfl
@[simp] theorem setFront_dailies (p : Nat) (x : FrontEnd) : (s.setFront p x).dailies = s.dailies := rfl
@[simp] theorem setFront_haps (p : Nat) (x : FrontEnd) : (s.setFront p x).haps = s.haps := rfl
@[simp] theorem setFront_foley (p : Nat) (x : FrontEnd) : (s.setFront p x).foley = s.foley := rfl
@[simp] theorem setFront_fronts (p : Nat) (x : FrontEnd) : (s.setFront p x).fronts = Tab.set s.fronts p x := rfl
@[simp] theorem setFront_keyBank (p : Nat) (x : FrontEnd) : (s.setFront p x).keyBank = s.keyBank := rfl
@[simp] theorem setFront_cus (p : Nat) (x : FrontEnd) : (s.setFront p x).cus = s.cus := rfl
@[simp] theorem setFront_ldp (p : Nat) (x : FrontEnd) : (s.setFront p x).ldp = s.ldp := rfl
@[simp] theorem setFront_clocks (p : Nat) (x : FrontEnd) : (s.setFront p x).clocks = s.clocks := rfl
@[simp] theorem setFront_pending (p : Nat) (x : FrontEnd) : (s.setFront p x).pending = s.pending := rfl
@[simp] theorem setFront_rd (p : Nat) (x : FrontEnd) (ad : Nat) : (s.setFront p x).rd ad = s.rd ad := rfl

/-! ## setKeys -/

@[simp] theorem setKeys_objs (k : KeyBank) : (s.setKeys k).objs = s.objs := rfl
@[simp] theorem setKeys_clock (k : KeyBank) : (s.setKeys k).clock = s.clock := rfl
@[simp] theorem setKeys_dueSlots (k : KeyBank) : (s.setKeys k).dueSlots = s.dueSlots := rfl
@[simp] theorem setKeys_log (k : KeyBank) : (s.setKeys k).log = s.log := rfl
@[simp] theorem setKeys_io (k : KeyBank) : (s.setKeys k).io = s.io := rfl
@[simp] theorem setKeys_freeDrawn (k : KeyBank) : (s.setKeys k).freeDrawn = s.freeDrawn := rfl
@[simp] theorem setKeys_order (k : KeyBank) : (s.setKeys k).order = s.order := rfl
@[simp] theorem setKeys_items (k : KeyBank) : (s.setKeys k).items = s.items := rfl
@[simp] theorem setKeys_nextItem (k : KeyBank) : (s.setKeys k).nextItem = s.nextItem := rfl
@[simp] theorem setKeys_insts (k : KeyBank) : (s.setKeys k).insts = s.insts := rfl
@[simp] theorem setKeys_guards (k : KeyBank) : (s.setKeys k).guards = s.guards := rfl
@[simp] theorem setKeys_outs (k : KeyBank) : (s.setKeys k).outs = s.outs := rfl
@[simp] theorem setKeys_shadow (k : KeyBank) : (s.setKeys k).shadow = s.shadow := rfl
@[simp] theorem setKeys_colourActive (k : KeyBank) : (s.setKeys k).colourActive = s.colourActive := rfl
@[simp] theorem setKeys_lutBanks (k : KeyBank) : (s.setKeys k).lutBanks = s.lutBanks := rfl
@[simp] theorem setKeys_substUnchecked (k : KeyBank) : (s.setKeys k).substUnchecked = s.substUnchecked := rfl
@[simp] theorem setKeys_grip (k : KeyBank) : (s.setKeys k).grip = s.grip := rfl
@[simp] theorem setKeys_jobs (k : KeyBank) : (s.setKeys k).jobs = s.jobs := rfl
@[simp] theorem setKeys_mem (k : KeyBank) : (s.setKeys k).mem = s.mem := rfl
@[simp] theorem setKeys_memConf (k : KeyBank) : (s.setKeys k).memConf = s.memConf := rfl
@[simp] theorem setKeys_dram (k : KeyBank) : (s.setKeys k).dram = s.dram := rfl
@[simp] theorem setKeys_keys (k : KeyBank) : (s.setKeys k).keys = s.keys := rfl
@[simp] theorem setKeys_raster (k : KeyBank) : (s.setKeys k).raster = s.raster := rfl
@[simp] theorem setKeys_ports (k : KeyBank) : (s.setKeys k).ports = s.ports := rfl
@[simp] theorem setKeys_tally (k : KeyBank) : (s.setKeys k).tally = s.tally := rfl
@[simp] theorem setKeys_tallyOvf (k : KeyBank) : (s.setKeys k).tallyOvf = s.tallyOvf := rfl
@[simp] theorem setKeys_refusals (k : KeyBank) : (s.setKeys k).refusals = s.refusals := rfl
@[simp] theorem setKeys_mailboxes (k : KeyBank) : (s.setKeys k).mailboxes = s.mailboxes := rfl
@[simp] theorem setKeys_boot (k : KeyBank) : (s.setKeys k).boot = s.boot := rfl
@[simp] theorem setKeys_flash (k : KeyBank) : (s.setKeys k).flash = s.flash := rfl
@[simp] theorem setKeys_power (k : KeyBank) : (s.setKeys k).power = s.power := rfl
@[simp] theorem setKeys_dailies (k : KeyBank) : (s.setKeys k).dailies = s.dailies := rfl
@[simp] theorem setKeys_haps (k : KeyBank) : (s.setKeys k).haps = s.haps := rfl
@[simp] theorem setKeys_foley (k : KeyBank) : (s.setKeys k).foley = s.foley := rfl
@[simp] theorem setKeys_fronts (k : KeyBank) : (s.setKeys k).fronts = s.fronts := rfl
@[simp] theorem setKeys_keyBank (k : KeyBank) : (s.setKeys k).keyBank = k := rfl
@[simp] theorem setKeys_cus (k : KeyBank) : (s.setKeys k).cus = s.cus := rfl
@[simp] theorem setKeys_ldp (k : KeyBank) : (s.setKeys k).ldp = s.ldp := rfl
@[simp] theorem setKeys_clocks (k : KeyBank) : (s.setKeys k).clocks = s.clocks := rfl
@[simp] theorem setKeys_pending (k : KeyBank) : (s.setKeys k).pending = s.pending := rfl
@[simp] theorem setKeys_rd (k : KeyBank) (ad : Nat) : (s.setKeys k).rd ad = s.rd ad := rfl

end Sys2Proof.Machine.State
end

