-- ==== Sys2Proof/Laws/Tables.lean ====
section
/-! SUPPORT. Tables, the object store and memory: a read after a write, and the canonical forms that every operation keeps. -/
namespace Sys2Proof.Machine
open Sys2Proof

/-! ## Keyed tables -/

theorem Tab.get_set {α : Type} (d : α) (t : Tab α) (k j : Nat) (v : α) :
    Tab.get d (Tab.set t k v) j = if j = k then v else Tab.get d t j := by
  induction t with
  | nil => simp [Tab.set, Tab.get]
  | cons e t ih =>
    obtain ⟨k', v'⟩ := e
    unfold Tab.set
    split
    · simp [Tab.get]
    · split
      · subst_vars; simp only [Tab.get]; split <;> rfl
      · simp only [Tab.get, ih]; split <;> simp_all <;> intro h <;> omega

@[simp] theorem Tab.get_set_same {α : Type} (d : α) (t : Tab α) (k : Nat) (v : α) : Tab.get d (Tab.set t k v) k = v := by
  simp [Tab.get_set]

theorem Tab.get_set_other {α : Type} (d : α) (t : Tab α) (k j : Nat) (v : α) (h : j ≠ k) : Tab.get d (Tab.set t k v) j = Tab.get d t j := by
  simp [Tab.get_set, h]

/-- Keys rise strictly exactly when the list of keys is sorted. -/
theorem Tab.rising_iff {α : Type} (t : Tab α) : Tab.rising t = true ↔ (t.map Prod.fst).Pairwise (· < ·) := by
  induction t with
  | nil => simp [Tab.rising]
  | cons e t ih =>
    cases t with
    | nil => simp [Tab.rising]
    | cons e' t =>
      simp only [Tab.rising, Bool.and_eq_true, decide_eq_true_eq, ih, List.map_cons, List.pairwise_cons, List.mem_cons]
      constructor
      · rintro ⟨h, h', h''⟩
        exact ⟨fun a ha => ha.elim (fun x => x ▸ h) (fun x => Nat.lt_trans h (h' a x)), h', h''⟩
      · rintro ⟨h, h', h''⟩
        exact ⟨h _ (Or.inl rfl), h', h''⟩

/-- The keys after a set. -/
theorem Tab.mem_set {α : Type} (t : Tab α) (k : Nat) (v : α) (e : Nat × α) (h : e ∈ Tab.set t k v) : e = (k, v) ∨ e ∈ t := by
  induction t with
  | nil => simpa [Tab.set] using h
  | cons x t ih =>
    unfold Tab.set at h
    split at h
    · simpa using h
    · split at h
      · rcases List.mem_cons.1 h with h | h
        · exact Or.inl h
        · exact Or.inr (List.mem_cons_of_mem _ h)
      · rcases List.mem_cons.1 h with h | h
        · exact Or.inr (h ▸ List.mem_cons_self)
        · exact (ih h).imp id (List.mem_cons_of_mem _)

theorem Tab.rising_set {α : Type} (t : Tab α) (k : Nat) (v : α) (h : Tab.rising t = true) : Tab.rising (Tab.set t k v) = true := by
  rw [Tab.rising_iff] at *
  induction t with
  | nil => simp [Tab.set]
  | cons x t ih =>
    obtain ⟨k', v'⟩ := x
    simp only [List.map_cons, List.pairwise_cons] at h
    unfold Tab.set
    split
    · rename_i hk
      simp only [List.map_cons, List.pairwise_cons, List.mem_cons]
      exact ⟨fun a ha => ha.elim (fun x => x ▸ hk) (fun x => Nat.lt_trans hk (h.1 a x)), h⟩
    · split
      · subst_vars; simpa using h
      · simp only [List.map_cons, List.pairwise_cons]
        refine ⟨fun a ha => ?_, ih h.2⟩
        obtain ⟨e, he, rfl⟩ := List.mem_map.1 ha
        rcases Tab.mem_set t k v e he with rfl | he
        · show k' < k; omega
        · exact h.1 _ (List.mem_map_of_mem he)

theorem Tab.rising_filter {α : Type} (t : Tab α) (p : Nat × α → Bool) (h : Tab.rising t = true) : Tab.rising (List.filter p t) = true := by
  rw [Tab.rising_iff] at *
  exact h.sublist ((List.filter_sublist).map _)

/-! ## Dictionary objects -/

theorem Objs.get_set_tab (l : List (Nat × Nat)) (a x v : Nat) : Objs.get (Tab.set l a v) x = if x = a then v else Objs.get l x := by
  induction l with
  | nil => simp [Tab.set, Objs.get]
  | cons e t ih =>
    obtain ⟨k', v'⟩ := e
    unfold Tab.set
    split
    · simp [Objs.get]
    · split
      · subst_vars; simp only [Objs.get]; split <;> rfl
      · simp only [Objs.get, ih]; split <;> simp_all <;> intro h <;> omega

theorem Objs.get_drop (l : List (Nat × Nat)) (a x : Nat) : Objs.get (Tab.drop l a) x = if x = a then defaultOf a else Objs.get l x := by
  unfold Tab.drop
  induction l with
  | nil => simp only [List.filter_nil, Objs.get]; split <;> simp_all
  | cons e t ih =>
    obtain ⟨k', v'⟩ := e
    simp only [List.filter_cons]
    split
    · simp only [Objs.get, ih]; split <;> simp_all
    · simp only [Objs.get, ih]; split <;> simp_all

/-- An object after a write of an object (R530). -/
theorem State.rd_wr (s : State) (a v x : Nat) : (s.wr a v).rd x = if x = a then v else s.rd x := by
  show Objs.get (Objs.set s.objs a v) x = _
  unfold Objs.set State.rd
  split
  · rw [Objs.get_drop]; split <;> simp_all
  · rw [Objs.get_set_tab]

@[simp] theorem State.rd_wr_same (s : State) (a v : Nat) : (s.wr a v).rd a = v := by simp [State.rd_wr]
theorem State.rd_wr_other (s : State) (a v x : Nat) (h : x ≠ a) : (s.wr a v).rd x = s.rd x := by simp [State.rd_wr, h]
theorem State.rd_wrBit (s : State) (a i x : Nat) (b : Bool) : (s.wrBit a i b).rd x = if x = a then setBit (s.rd a) i b else s.rd x := State.rd_wr ..
theorem State.rd_count (s : State) (a x : Nat) : (s.count a).rd x = if x = a then wrapAdd 32 (s.rd a) 1 else s.rd x := State.rd_wr ..

/-- The canonical form of the object store. -/
theorem Objs.wf_iff (l : List (Nat × Nat)) : Objs.wf l = true ↔ Tab.rising l = true ∧ ∀ e ∈ l, e.2 ≠ defaultOf e.1 := by
  simp [Objs.wf]

theorem Objs.wf_filter (l : List (Nat × Nat)) (p : Nat × Nat → Bool) (h : Objs.wf l = true) : Objs.wf (List.filter p l) = true := by
  rw [Objs.wf_iff] at *
  exact ⟨Tab.rising_filter l p h.1, fun e he => h.2 e (List.mem_filter.1 he).1⟩

theorem Objs.wf_set (l : List (Nat × Nat)) (a v : Nat) (h : Objs.wf l = true) : Objs.wf (Objs.set l a v) = true := by
  unfold Objs.set
  split
  · exact Objs.wf_filter l _ h
  · rename_i hv
    rw [Objs.wf_iff] at *
    refine ⟨Tab.rising_set l a v h.1, fun e he => ?_⟩
    rcases Tab.mem_set l a v e he with rfl | he
    · exact hv
    · exact h.2 e he

/-! ## Memory -/

theorem Memory.get_set (m : List Host.Cell) (a x : Nat) (v : BitVec 8) : Memory.get (Memory.set m a v) x = if x = a then some v else Memory.get m x := by
  induction m with
  | nil => simp [Memory.set, Memory.get]
  | cons e t ih =>
    obtain ⟨k', v'⟩ := e
    unfold Memory.set
    split
    · simp [Memory.get]
    · split
      · subst_vars; simp only [Memory.get]; split <;> rfl
      · simp only [Memory.get, ih]; split <;> simp_all <;> intro h <;> omega

theorem Memory.get_drop (m : List Host.Cell) (p : Nat → Bool) (x : Nat) : Memory.get (Memory.drop m p) x = if p x then none else Memory.get m x := by
  unfold Memory.drop
  induction m with
  | nil => simp [Memory.get]
  | cons e t ih =>
    obtain ⟨k', v'⟩ := e
    simp only [List.filter_cons]
    by_cases hk : x = k'
    · subst hk; split <;> simp_all [Memory.get]
    · split <;> simp_all [Memory.get]

/-- A byte after a write of a byte. -/
theorem State.byte_setByte (s : State) (a x : Nat) (v : BitVec 8) : (s.setByte a v).byte x = if x = a then v.toNat else s.byte x := by
  show (match Memory.get (Memory.set s.mem a v) x with | some v => v.toNat | none => Config.freeByte x % 256) = _
  rw [Memory.get_set]
  by_cases h : x = a
  · simp [h]
  · simp only [h, if_false]; rfl

theorem Memory.wf_eq (m : List Host.Cell) : Memory.wf m = Tab.rising m := by
  induction m with
  | nil => rfl
  | cons e t ih =>
    cases t with
    | nil => rfl
    | cons e' t => simp only [Memory.wf, Tab.rising, ih]

theorem Memory.set_eq (m : List Host.Cell) (a : Nat) (v : BitVec 8) : Memory.set m a v = Tab.set m a v := by
  induction m with
  | nil => rfl
  | cons e t ih => simp only [Memory.set, Tab.set, ih]

theorem Memory.wf_set (m : List Host.Cell) (a : Nat) (v : BitVec 8) (h : Memory.wf m = true) : Memory.wf (Memory.set m a v) = true := by
  rw [Memory.wf_eq] at *
  rw [Memory.set_eq]
  exact Tab.rising_set m a v h

theorem Memory.wf_drop (m : List Host.Cell) (p : Nat → Bool) (h : Memory.wf m = true) : Memory.wf (Memory.drop m p) = true := by
  rw [Memory.wf_eq] at *
  exact Tab.rising_filter m _ h

theorem Memory.wf_foldl {α : Type} (l : List α) (f : List Host.Cell → α → List Host.Cell) (m : List Host.Cell)
    (hf : ∀ m x, Memory.wf m = true → Memory.wf (f m x) = true) (h : Memory.wf m = true) : Memory.wf (l.foldl f m) = true := by
  induction l generalizing m with
  | nil => exact h
  | cons x l ih => exact ih _ (hf m x h)

theorem Memory.wf_copy (m : List Host.Cell) (src dst : Placement) (bytes : Nat) (h : Memory.wf m = true) : Memory.wf (Memory.copy m src dst bytes) = true := by
  refine Memory.wf_foldl _ _ _ (fun m x hm => ?_) (Memory.wf_drop _ _ h)
  split
  · split
    · exact Memory.wf_set _ _ _ hm
    · exact hm
  · exact hm

theorem Memory.wf_unreel (m : List Host.Cell) (slices : List Nat) (dst : Placement) (bytes : Nat) (h : Memory.wf m = true) :
    Memory.wf (Memory.unreel m slices dst bytes) = true := by
  refine Memory.wf_foldl _ _ _ (fun m x hm => ?_) (Memory.wf_drop _ _ h)
  split
  · split
    · exact Memory.wf_set _ _ _ hm
    · exact hm
  · exact hm

end Sys2Proof.Machine
end

