-- ==== Sys2Proof/Laws/Ops.lean ====
section
/-! SUPPORT. The shared operations of Ops.lean and Operands.lean: what a record, a count, an injection point and a request can do to the state. -/
namespace Sys2Proof.Machine
open Sys2Proof

/-! ## What counts and records leave alone -/

@[simp] theorem State.apart_wr (s : State) (a v : Nat) : (s.wr a v).apart = s.apart := rfl
@[simp] theorem State.apart_wrBit (s : State) (a i : Nat) (b : Bool) : (s.wrBit a i b).apart = s.apart := rfl
@[simp] theorem State.apart_count (s : State) (a : Nat) : (s.count a).apart = s.apart := rfl
@[simp] theorem State.apart_emit (s : State) (e : IoEvent) : (s.emit e).apart = s.apart := rfl
@[simp] theorem State.apart_answer (s : State) (q : Requester) (c : Nat) : (s.answer q c).apart = s.apart := rfl

/-- A record reaches the FIFO while it has room; else LOG_LOST counts it (R633). -/
theorem State.logRaw_cases (s : State) (code source : Nat) (i : Bool) (p : Spos) (t : Nat) (ds : List Detail) :
    (s.log.fifo.length < 256 ∧ s.logRaw code source i p t ds =
      { s with log := { s.log with fifo := s.log.fifo ++ [⟨code, severityOf code, i, source, p, t, packDetail 0 ds⟩],
                                    mirror := ((⟨code, severityOf code, i, source, p, t, packDetail 0 ds⟩ : LogRecord) :: s.log.mirror).take 64 } }) ∨
    (256 ≤ s.log.fifo.length ∧ s.logRaw code source i p t ds =
      ({ s with log := { s.log with lostPending := s.log.lostPending + 1 } } : State).count Obj.LOG_LOST) := by
  by_cases h : s.log.fifo.length < 256
  · exact Or.inl ⟨h, by simp [State.logRaw, Log.enter, h]⟩
  · exact Or.inr ⟨Nat.le_of_not_lt h, by simp [State.logRaw, Log.enter, h]⟩

@[simp] theorem State.apart_logRaw (s : State) (code source : Nat) (i : Bool) (p : Spos) (t : Nat) (ds : List Detail) :
    (s.logRaw code source i p t ds).apart = s.apart := by
  rcases s.logRaw_cases code source i p t ds with ⟨_, h⟩ | ⟨_, h⟩ <;> rw [h] <;> rfl

@[simp] theorem State.io_logRaw (s : State) (code source : Nat) (i : Bool) (p : Spos) (t : Nat) (ds : List Detail) :
    (s.logRaw code source i p t ds).io = s.io := by
  rcases s.logRaw_cases code source i p t ds with ⟨_, h⟩ | ⟨_, h⟩ <;> rw [h] <;> rfl

@[simp] theorem State.refusals_logRaw (s : State) (code source : Nat) (i : Bool) (p : Spos) (t : Nat) (ds : List Detail) :
    (s.logRaw code source i p t ds).refusals = s.refusals := by
  rcases s.logRaw_cases code source i p t ds with ⟨_, h⟩ | ⟨_, h⟩ <;> rw [h] <;> rfl

theorem State.rd_logRaw (s : State) (code source : Nat) (i : Bool) (p : Spos) (t : Nat) (ds : List Detail) (a : Nat) (ha : a ≠ Obj.LOG_LOST) :
    (s.logRaw code source i p t ds).rd a = s.rd a := by
  rcases s.logRaw_cases code source i p t ds with ⟨_, h⟩ | ⟨_, h⟩ <;> rw [h]
  · rfl
  · rw [State.rd_count, if_neg ha]; rfl

/-- Records that stand in the FIFO stay there. -/
theorem State.fifo_logRaw (s : State) (code source : Nat) (i : Bool) (p : Spos) (t : Nat) (ds : List Detail) :
    ∀ r ∈ s.log.fifo, r ∈ (s.logRaw code source i p t ds).log.fifo := by
  intro r hr
  rcases s.logRaw_cases code source i p t ds with ⟨_, h⟩ | ⟨_, h⟩ <;> rw [h]
  · exact List.mem_append_left _ hr
  · exact hr

/-- A record that stands in the FIFO is told after anything that keeps it there. -/
theorem State.told_of (s t : State) (code source : Nat) (ds : List Detail) (h : s.told code source ds = true)
    (hk : ∀ r ∈ s.log.fifo, r ∈ t.log.fifo) : t.told code source ds = true := by
  simp only [State.told, List.any_eq_true] at *
  obtain ⟨r, hr, h'⟩ := h
  exact ⟨r, hk r hr, h'⟩

theorem State.told_logRaw (s : State) (code source : Nat) (i : Bool) (p : Spos) (t : Nat) (ds : List Detail) (h : s.log.fifo.length < 256) :
    (s.logRaw code source i p t ds).told code source ds = true := by
  rcases s.logRaw_cases code source i p t ds with ⟨_, h'⟩ | ⟨h', _⟩
  · rw [h']; simp [State.told]
  · omega

/-- What Tally counts touches neither objects but LOG_LOST nor anything apart. -/
theorem State.tallyCount_cases (s : State) (g kind owner : Nat) :
    s.tallyCount g kind owner = s ∨ (∃ t, s.tallyCount g kind owner = { s with tally := t }) ∨
    (∃ t o d, s.tallyCount g kind owner = ({ s with tally := t, tallyOvf := o } : State).logRaw Ev.tallyWrap noOwner false s.now s.dtime d) := by
  unfold State.tallyCount
  split
  · dsimp only
    split
    · exact Or.inr (Or.inr ⟨_, _, _, rfl⟩)
    · exact Or.inr (Or.inl ⟨_, rfl⟩)
  · exact Or.inl rfl

@[simp] theorem State.apart_tallyCount (s : State) (g kind owner : Nat) : (s.tallyCount g kind owner).apart = s.apart := by
  rcases s.tallyCount_cases g kind owner with h | ⟨t, h⟩ | ⟨t, o, d, h⟩ <;> rw [h]
  · rfl
  · rw [State.apart_logRaw]; rfl

@[simp] theorem State.io_tallyCount (s : State) (g kind owner : Nat) : (s.tallyCount g kind owner).io = s.io := by
  rcases s.tallyCount_cases g kind owner with h | ⟨t, h⟩ | ⟨t, o, d, h⟩ <;> rw [h]
  · rw [State.io_logRaw]

@[simp] theorem State.refusals_tallyCount (s : State) (g kind owner : Nat) : (s.tallyCount g kind owner).refusals = s.refusals := by
  rcases s.tallyCount_cases g kind owner with h | ⟨t, h⟩ | ⟨t, o, d, h⟩ <;> rw [h]
  · rw [State.refusals_logRaw]

theorem State.rd_tallyCount (s : State) (g kind owner a : Nat) (ha : a ≠ Obj.LOG_LOST) : (s.tallyCount g kind owner).rd a = s.rd a := by
  rcases s.tallyCount_cases g kind owner with h | ⟨t, h⟩ | ⟨t, o, d, h⟩ <;> rw [h]
  · rfl
  · rw [State.rd_logRaw _ _ _ _ _ _ _ _ ha]; rfl

theorem State.fifo_tallyCount (s : State) (g kind owner : Nat) : ∀ r ∈ s.log.fifo, r ∈ (s.tallyCount g kind owner).log.fifo := by
  intro r hr
  rcases s.tallyCount_cases g kind owner with h | ⟨t, h⟩ | ⟨t, o, d, h⟩ <;> rw [h]
  · exact hr
  · exact hr
  · exact State.fifo_logRaw _ _ _ _ _ _ _ r hr

theorem State.tallyRecord_cases (s : State) (code source : Nat) :
    s.tallyRecord code source = s ∨ ∃ g k, s.tallyRecord code source = s.tallyCount g k source := by
  unfold State.tallyRecord
  split
  · exact Or.inr ⟨_, _, rfl⟩
  · exact Or.inl rfl

@[simp] theorem State.apart_tallyRecord (s : State) (code source : Nat) : (s.tallyRecord code source).apart = s.apart := by
  rcases s.tallyRecord_cases code source with h | ⟨g, k, h⟩ <;> rw [h]; simp
@[simp] theorem State.io_tallyRecord (s : State) (code source : Nat) : (s.tallyRecord code source).io = s.io := by
  rcases s.tallyRecord_cases code source with h | ⟨g, k, h⟩ <;> rw [h]; simp
@[simp] theorem State.refusals_tallyRecord (s : State) (code source : Nat) : (s.tallyRecord code source).refusals = s.refusals := by
  rcases s.tallyRecord_cases code source with h | ⟨g, k, h⟩ <;> rw [h]; simp
theorem State.rd_tallyRecord (s : State) (code source a : Nat) (ha : a ≠ Obj.LOG_LOST) : (s.tallyRecord code source).rd a = s.rd a := by
  rcases s.tallyRecord_cases code source with h | ⟨g, k, h⟩ <;> rw [h]
  exact State.rd_tallyCount _ _ _ _ _ ha
theorem State.fifo_tallyRecord (s : State) (code source : Nat) : ∀ r ∈ s.log.fifo, r ∈ (s.tallyRecord code source).log.fifo := by
  rcases s.tallyRecord_cases code source with h | ⟨g, k, h⟩ <;> rw [h]
  · exact fun _ h => h
  · exact State.fifo_tallyCount _ _ _ _

/-! ## A record of an event (R629 to R633) -/

@[simp] theorem State.apart_logAt (s : State) (code source : Nat) (i : Bool) (p : Spos) (t : Nat) (ds : List Detail) :
    (s.logAt code source i p t ds).apart = s.apart := by simp [State.logAt]
@[simp] theorem State.io_logAt (s : State) (code source : Nat) (i : Bool) (p : Spos) (t : Nat) (ds : List Detail) :
    (s.logAt code source i p t ds).io = s.io := by simp [State.logAt]
@[simp] theorem State.refusals_logAt (s : State) (code source : Nat) (i : Bool) (p : Spos) (t : Nat) (ds : List Detail) :
    (s.logAt code source i p t ds).refusals = s.refusals := by simp [State.logAt]
theorem State.rd_logAt (s : State) (code source : Nat) (i : Bool) (p : Spos) (t : Nat) (ds : List Detail) (a : Nat) (ha : a ≠ Obj.LOG_LOST) :
    (s.logAt code source i p t ds).rd a = s.rd a := by
  rw [State.logAt, State.rd_tallyRecord _ _ _ _ ha, State.rd_logRaw _ _ _ _ _ _ _ _ ha]
theorem State.fifo_logAt (s : State) (code source : Nat) (i : Bool) (p : Spos) (t : Nat) (ds : List Detail) :
    ∀ r ∈ s.log.fifo, r ∈ (s.logAt code source i p t ds).log.fifo :=
  fun r h => State.fifo_tallyRecord _ _ _ r (State.fifo_logRaw _ _ _ _ _ _ _ r h)
theorem State.told_logAt (s : State) (code source : Nat) (i : Bool) (p : Spos) (t : Nat) (ds : List Detail) (h : s.log.fifo.length < 256) :
    (s.logAt code source i p t ds).told code source ds = true := by
  exact State.told_of _ _ _ _ _ (State.told_logRaw s code source i p t ds h) (State.fifo_tallyRecord _ _ _)

@[simp] theorem State.apart_logEvent (s : State) (code source : Nat) (ds : List Detail) : (s.logEvent code source ds).apart = s.apart :=
  State.apart_logAt ..
@[simp] theorem State.io_logEvent (s : State) (code source : Nat) (ds : List Detail) : (s.logEvent code source ds).io = s.io := State.io_logAt ..
@[simp] theorem State.refusals_logEvent (s : State) (code source : Nat) (ds : List Detail) : (s.logEvent code source ds).refusals = s.refusals :=
  State.refusals_logAt ..
theorem State.rd_logEvent (s : State) (code source : Nat) (ds : List Detail) (a : Nat) (ha : a ≠ Obj.LOG_LOST) :
    (s.logEvent code source ds).rd a = s.rd a := State.rd_logAt _ _ _ _ _ _ _ _ ha
theorem State.fifo_logEvent (s : State) (code source : Nat) (ds : List Detail) : ∀ r ∈ s.log.fifo, r ∈ (s.logEvent code source ds).log.fifo :=
  fun r h => State.fifo_logAt _ _ _ _ _ _ _ r h
theorem State.told_logEvent (s : State) (code source : Nat) (ds : List Detail) (h : s.log.fifo.length < 256) :
    (s.logEvent code source ds).told code source ds = true := State.told_logAt _ _ _ _ _ _ _ h

@[simp] theorem State.apart_logInjected (s : State) (code source : Nat) (i : Bool) (ds : List Detail) : (s.logInjected code source i ds).apart = s.apart :=
  State.apart_logAt ..
@[simp] theorem State.io_logInjected (s : State) (code source : Nat) (i : Bool) (ds : List Detail) : (s.logInjected code source i ds).io = s.io :=
  State.io_logAt ..
@[simp] theorem State.refusals_logInjected (s : State) (code source : Nat) (i : Bool) (ds : List Detail) :
    (s.logInjected code source i ds).refusals = s.refusals := State.refusals_logAt ..
theorem State.rd_logInjected (s : State) (code source : Nat) (i : Bool) (ds : List Detail) (a : Nat) (ha : a ≠ Obj.LOG_LOST) :
    (s.logInjected code source i ds).rd a = s.rd a := State.rd_logAt _ _ _ _ _ _ _ _ ha
theorem State.told_logInjected (s : State) (code source : Nat) (i : Bool) (ds : List Detail) (h : s.log.fifo.length < 256) :
    (s.logInjected code source i ds).told code source ds = true := State.told_logAt _ _ _ _ _ _ _ h

/-! ## Memory that nothing but bytes holds -/

theorem State.byte_of_mem (s t : State) (h : t.mem = s.mem) (a : Nat) : t.byte a = s.byte a := by simp only [State.byte, h]

theorem State.mem_of_apart (s t : State) (h : t.apart = s.apart) : t.mem = s.mem := by
  have e : t.apart.mem = s.apart.mem := congrArg State.mem h
  exact e
theorem State.pending_of_apart (s t : State) (h : t.apart = s.apart) : t.pending = s.pending := by
  have e : t.apart.pending = s.apart.pending := congrArg State.pending h
  exact e
theorem State.clock_of_apart (s t : State) (h : t.apart = s.apart) : t.clock = s.clock := by
  have e : t.apart.clock = s.apart.clock := congrArg State.clock h
  exact e

theorem State.sameMemory_of_apart (s t : State) (h : t.apart = s.apart) : s.sameMemory t :=
  fun a => State.byte_of_mem s t (State.mem_of_apart s t h) a

/-! ## Injection (R636 to R638) -/

@[simp] theorem State.apart_inject (s : State) (d target : Nat) : (s.inject d target).2.apart = s.apart := by
  unfold State.inject
  dsimp only
  split
  · split <;> simp
  · rfl

@[simp] theorem State.io_inject (s : State) (d target : Nat) : (s.inject d target).2.io = s.io := by
  unfold State.inject
  dsimp only
  split
  · split <;> simp
  · rfl

/-- A point that is not armed for a unit does nothing (R637). -/
theorem State.inject_off (s : State) (d target : Nat) (h : s.rd (Obj.INJ_ARM d) = 0 ∨ s.rd Obj.INJ_ENABLE ≠ 1) : s.inject d target = (none, s) := by
  unfold State.inject
  dsimp only
  rw [if_neg]
  rintro ⟨h1, h2, _⟩
  exact h.elim h2 (fun x => x h1)

/-! ## Refusals and requests (R401, R536) -/

@[simp] theorem State.apart_ownerRefused (s : State) (source resource kind : Nat) : (s.ownerRefused source resource kind).apart = s.apart := by
  unfold State.ownerRefused
  dsimp only
  split
  · rfl
  · show (State.apart (s.logEvent _ _ _)) = _
    simp

@[simp] theorem State.io_ownerRefused (s : State) (source resource kind : Nat) : (s.ownerRefused source resource kind).io = s.io := by
  unfold State.ownerRefused
  dsimp only
  split
  · rfl
  · show (State.io (s.logEvent _ _ _)) = _
    simp

theorem State.rd_ownerRefused (s : State) (source resource kind a : Nat) (ha : a ≠ Obj.LOG_LOST) : (s.ownerRefused source resource kind).rd a = s.rd a := by
  unfold State.ownerRefused
  dsimp only
  split
  · rfl
  · exact State.rd_logEvent _ _ _ _ _ ha

theorem State.accepts_iff (s : State) (rq : Requester) (addr v : Nat) :
    s.accepts rq addr v = true ↔ ∃ r, rowAt addr = some r ∧ s.writeStatus rq addr r.ty.code (objLength r addr) v = Status.ok := by
  unfold State.accepts
  split <;> simp_all

/-- A write that passes the checks before the object's own ends with what the object answers, as the last thing sent. -/
theorem State.ownRequest_accepted (s : State) (rq : Requester) (addr v : Nat) (own : State → Nat × State) (h : s.accepts rq addr v = true)
    (hl : (own s).1 ≠ Status.ownerLocked) : s.ownRequest rq addr v own = (own s).2.answer rq (own s).1 := by
  obtain ⟨r, hr, hs⟩ := (s.accepts_iff rq addr v).1 h
  unfold State.ownRequest
  rw [hr]
  unfold State.request
  simp [hs, hl]

/-- As above, where the object answers OWNER_LOCKED: the refusal is logged first. -/
theorem State.ownRequest_locked (s : State) (rq : Requester) (addr v : Nat) (own : State → Nat × State) (h : s.accepts rq addr v = true)
    (hl : (own s).1 = Status.ownerLocked) :
    s.ownRequest rq addr v own = ((own s).2.ownerRefused rq.code (refusedResource addr) 0).answer rq Status.ownerLocked := by
  obtain ⟨r, hr, hs⟩ := (s.accepts_iff rq addr v).1 h
  unfold State.ownRequest
  rw [hr]
  unfold State.request
  simp [hs, hl]

/-- A write that does not pass them changes nothing but the log and the count of refusals. -/
theorem State.ownRequest_refused (s : State) (rq : Requester) (addr v : Nat) (own : State → Nat × State) (h : s.accepts rq addr v = false) :
    (s.ownRequest rq addr v own).apart = s.apart ∧ ∀ a, a ≠ Obj.LOG_LOST → (s.ownRequest rq addr v own).rd a = s.rd a := by
  unfold State.ownRequest
  split
  · rename_i r hr
    unfold State.request
    have hs : s.writeStatus rq addr r.ty.code (objLength r addr) v ≠ Status.ok := fun hs => by
      have := (s.accepts_iff rq addr v).2 ⟨r, hr, hs⟩
      simp [h] at this
    simp only [if_neg hs]
    split
    · exact ⟨by simp, fun a ha => by rw [State.answer_rd, State.rd_ownerRefused _ _ _ _ _ ha]⟩
    · exact ⟨by simp, fun a _ => by rw [State.answer_rd]⟩
  · exact ⟨by simp, fun a _ => by rw [State.answer_rd]⟩

/-- A later write that passes the checks and whose object answers at once. -/
theorem State.requestLater_accepted (s : State) (rq : Requester) (addr v c : Nat) (own : State → Option Nat × State) (h : s.accepts rq addr v = true)
    (hc : (own s).1 = some c) (hl : c ≠ Status.ownerLocked) : s.requestLater rq addr v own = (own s).2.answer rq c := by
  obtain ⟨r, hr, hs⟩ := (s.accepts_iff rq addr v).1 h
  unfold State.requestLater
  rw [hr]
  simp [hs, hc, hl]

/-- A later write that passes the checks and has not completed. -/
theorem State.requestLater_waits (s : State) (rq : Requester) (addr v : Nat) (own : State → Option Nat × State) (h : s.accepts rq addr v = true)
    (hc : (own s).1 = none) : s.requestLater rq addr v own = (own s).2 := by
  obtain ⟨r, hr, hs⟩ := (s.accepts_iff rq addr v).1 h
  unfold State.requestLater
  rw [hr]
  simp [hs, hc]

/-! ## Loops -/

/-- What every turn of a loop keeps, the loop keeps. -/
theorem State.each_keeps {α : Type} (P : State → Prop) (l : List α) (f : State → α → State) (s : State) (hf : ∀ s x, P s → P (f s x)) (h : P s) :
    P (s.each l f) := by
  induction l generalizing s with
  | nil => exact h
  | cons x l ih => exact ih _ (hf s x h)

end Sys2Proof.Machine
end

