-- ==== Sys2Proof/Laws/Frames.lean ====
section
/-! SUPPORT. One lemma a field: what a record, a count, a refusal and an injection point leave as it was. -/
namespace Sys2Proof.Machine.State
open Sys2Proof

theorem ext_clock {s t : State} (h : t.apart = s.apart) : t.clock = s.clock := by
  have e : t.apart.clock = s.apart.clock := congrArg State.clock h
  exact e
theorem ext_dueSlots {s t : State} (h : t.apart = s.apart) : t.dueSlots = s.dueSlots := by
  have e : t.apart.dueSlots = s.apart.dueSlots := congrArg State.dueSlots h
  exact e
theorem ext_freeDrawn {s t : State} (h : t.apart = s.apart) : t.freeDrawn = s.freeDrawn := by
  have e : t.apart.freeDrawn = s.apart.freeDrawn := congrArg State.freeDrawn h
  exact e
theorem ext_order {s t : State} (h : t.apart = s.apart) : t.order = s.order := by
  have e : t.apart.order = s.apart.order := congrArg State.order h
  exact e
theorem ext_items {s t : State} (h : t.apart = s.apart) : t.items = s.items := by
  have e : t.apart.items = s.apart.items := congrArg State.items h
  exact e
theorem ext_nextItem {s t : State} (h : t.apart = s.apart) : t.nextItem = s.nextItem := by
  have e : t.apart.nextItem = s.apart.nextItem := congrArg State.nextItem h
  exact e
theorem ext_insts {s t : State} (h : t.apart = s.apart) : t.insts = s.insts := by
  have e : t.apart.insts = s.apart.insts := congrArg State.insts h
  exact e
theorem ext_guards {s t : State} (h : t.apart = s.apart) : t.guards = s.guards := by
  have e : t.apart.guards = s.apart.guards := congrArg State.guards h
  exact e
theorem ext_outs {s t : State} (h : t.apart = s.apart) : t.outs = s.outs := by
  have e : t.apart.outs = s.apart.outs := congrArg State.outs h
  exact e
theorem ext_shadow {s t : State} (h : t.apart = s.apart) : t.shadow = s.shadow := by
  have e : t.apart.shadow = s.apart.shadow := congrArg State.shadow h
  exact e
theorem ext_colourActive {s t : State} (h : t.apart = s.apart) : t.colourActive = s.colourActive := by
  have e : t.apart.colourActive = s.apart.colourActive := congrArg State.colourActive h
  exact e
theorem ext_lutBanks {s t : State} (h : t.apart = s.apart) : t.lutBanks = s.lutBanks := by
  have e : t.apart.lutBanks = s.apart.lutBanks := congrArg State.lutBanks h
  exact e
theorem ext_substUnchecked {s t : State} (h : t.apart = s.apart) : t.substUnchecked = s.substUnchecked := by
  have e : t.apart.substUnchecked = s.apart.substUnchecked := congrArg State.substUnchecked h
  exact e
theorem ext_grip {s t : State} (h : t.apart = s.apart) : t.grip = s.grip := by
  have e : t.apart.grip = s.apart.grip := congrArg State.grip h
  exact e
theorem ext_jobs {s t : State} (h : t.apart = s.apart) : t.jobs = s.jobs := by
  have e : t.apart.jobs = s.apart.jobs := congrArg State.jobs h
  exact e
theorem ext_mem {s t : State} (h : t.apart = s.apart) : t.mem = s.mem := by
  have e : t.apart.mem = s.apart.mem := congrArg State.mem h
  exact e
theorem ext_memConf {s t : State} (h : t.apart = s.apart) : t.memConf = s.memConf := by
  have e : t.apart.memConf = s.apart.memConf := congrArg State.memConf h
  exact e
theorem ext_dram {s t : State} (h : t.apart = s.apart) : t.dram = s.dram := by
  have e : t.apart.dram = s.apart.dram := congrArg State.dram h
  exact e
theorem ext_keys {s t : State} (h : t.apart = s.apart) : t.keys = s.keys := by
  have e : t.apart.keys = s.apart.keys := congrArg State.keys h
  exact e
theorem ext_raster {s t : State} (h : t.apart = s.apart) : t.raster = s.raster := by
  have e : t.apart.raster = s.apart.raster := congrArg State.raster h
  exact e
theorem ext_ports {s t : State} (h : t.apart = s.apart) : t.ports = s.ports := by
  have e : t.apart.ports = s.apart.ports := congrArg State.ports h
  exact e
theorem ext_mailboxes {s t : State} (h : t.apart = s.apart) : t.mailboxes = s.mailboxes := by
  have e : t.apart.mailboxes = s.apart.mailboxes := congrArg State.mailboxes h
  exact e
theorem ext_boot {s t : State} (h : t.apart = s.apart) : t.boot = s.boot := by
  have e : t.apart.boot = s.apart.boot := congrArg State.boot h
  exact e
theorem ext_flash {s t : State} (h : t.apart = s.apart) : t.flash = s.flash := by
  have e : t.apart.flash = s.apart.flash := congrArg State.flash h
  exact e
theorem ext_power {s t : State} (h : t.apart = s.apart) : t.power = s.power := by
  have e : t.apart.power = s.apart.power := congrArg State.power h
  exact e
theorem ext_dailies {s t : State} (h : t.apart = s.apart) : t.dailies = s.dailies := by
  have e : t.apart.dailies = s.apart.dailies := congrArg State.dailies h
  exact e
theorem ext_haps {s t : State} (h : t.apart = s.apart) : t.haps = s.haps := by
  have e : t.apart.haps = s.apart.haps := congrArg State.haps h
  exact e
theorem ext_foley {s t : State} (h : t.apart = s.apart) : t.foley = s.foley := by
  have e : t.apart.foley = s.apart.foley := congrArg State.foley h
  exact e
theorem ext_fronts {s t : State} (h : t.apart = s.apart) : t.fronts = s.fronts := by
  have e : t.apart.fronts = s.apart.fronts := congrArg State.fronts h
  exact e
theorem ext_keyBank {s t : State} (h : t.apart = s.apart) : t.keyBank = s.keyBank := by
  have e : t.apart.keyBank = s.apart.keyBank := congrArg State.keyBank h
  exact e
theorem ext_cus {s t : State} (h : t.apart = s.apart) : t.cus = s.cus := by
  have e : t.apart.cus = s.apart.cus := congrArg State.cus h
  exact e
theorem ext_ldp {s t : State} (h : t.apart = s.apart) : t.ldp = s.ldp := by
  have e : t.apart.ldp = s.apart.ldp := congrArg State.ldp h
  exact e
theorem ext_clocks {s t : State} (h : t.apart = s.apart) : t.clocks = s.clocks := by
  have e : t.apart.clocks = s.apart.clocks := congrArg State.clocks h
  exact e
theorem ext_pending {s t : State} (h : t.apart = s.apart) : t.pending = s.pending := by
  have e : t.apart.pending = s.apart.pending := congrArg State.pending h
  exact e

variable (s : State)

@[simp] theorem logEvent_clock (c o : Nat) (ds : List Detail) : (s.logEvent c o ds).clock = s.clock := (State.ext_clock (apart_logEvent ..))
@[simp] theorem logEvent_dueSlots (c o : Nat) (ds : List Detail) : (s.logEvent c o ds).dueSlots = s.dueSlots := (State.ext_dueSlots (apart_logEvent ..))
@[simp] theorem logEvent_freeDrawn (c o : Nat) (ds : List Detail) : (s.logEvent c o ds).freeDrawn = s.freeDrawn := (State.ext_freeDrawn (apart_logEvent ..))
@[simp] theorem logEvent_order (c o : Nat) (ds : List Detail) : (s.logEvent c o ds).order = s.order := (State.ext_order (apart_logEvent ..))
@[simp] theorem logEvent_items (c o : Nat) (ds : List Detail) : (s.logEvent c o ds).items = s.items := (State.ext_items (apart_logEvent ..))
@[simp] theorem logEvent_nextItem (c o : Nat) (ds : List Detail) : (s.logEvent c o ds).nextItem = s.nextItem := (State.ext_nextItem (apart_logEvent ..))
@[simp] theorem logEvent_insts (c o : Nat) (ds : List Detail) : (s.logEvent c o ds).insts = s.insts := (State.ext_insts (apart_logEvent ..))
@[simp] theorem logEvent_guards (c o : Nat) (ds : List Detail) : (s.logEvent c o ds).guards = s.guards := (State.ext_guards (apart_logEvent ..))
@[simp] theorem logEvent_outs (c o : Nat) (ds : List Detail) : (s.logEvent c o ds).outs = s.outs := (State.ext_outs (apart_logEvent ..))
@[simp] theorem logEvent_shadow (c o : Nat) (ds : List Detail) : (s.logEvent c o ds).shadow = s.shadow := (State.ext_shadow (apart_logEvent ..))
@[simp] theorem logEvent_colourActive (c o : Nat) (ds : List Detail) : (s.logEvent c o ds).colourActive = s.colourActive := (State.ext_colourActive (apart_logEvent ..))
@[simp] theorem logEvent_lutBanks (c o : Nat) (ds : List Detail) : (s.logEvent c o ds).lutBanks = s.lutBanks := (State.ext_lutBanks (apart_logEvent ..))
@[simp] theorem logEvent_substUnchecked (c o : Nat) (ds : List Detail) : (s.logEvent c o ds).substUnchecked = s.substUnchecked := (State.ext_substUnchecked (apart_logEvent ..))
@[simp] theorem logEvent_grip (c o : Nat) (ds : List Detail) : (s.logEvent c o ds).grip = s.grip := (State.ext_grip (apart_logEvent ..))
@[simp] theorem logEvent_jobs (c o : Nat) (ds : List Detail) : (s.logEvent c o ds).jobs = s.jobs := (State.ext_jobs (apart_logEvent ..))
@[simp] theorem logEvent_mem (c o : Nat) (ds : List Detail) : (s.logEvent c o ds).mem = s.mem := (State.ext_mem (apart_logEvent ..))
@[simp] theorem logEvent_memConf (c o : Nat) (ds : List Detail) : (s.logEvent c o ds).memConf = s.memConf := (State.ext_memConf (apart_logEvent ..))
@[simp] theorem logEvent_dram (c o : Nat) (ds : List Detail) : (s.logEvent c o ds).dram = s.dram := (State.ext_dram (apart_logEvent ..))
@[simp] theorem logEvent_keys (c o : Nat) (ds : List Detail) : (s.logEvent c o ds).keys = s.keys := (State.ext_keys (apart_logEvent ..))
@[simp] theorem logEvent_raster (c o : Nat) (ds : List Detail) : (s.logEvent c o ds).raster = s.raster := (State.ext_raster (apart_logEvent ..))
@[simp] theorem logEvent_ports (c o : Nat) (ds : List Detail) : (s.logEvent c o ds).ports = s.ports := (State.ext_ports (apart_logEvent ..))
@[simp] theorem logEvent_mailboxes (c o : Nat) (ds : List Detail) : (s.logEvent c o ds).mailboxes = s.mailboxes := (State.ext_mailboxes (apart_logEvent ..))
@[simp] theorem logEvent_boot (c o : Nat) (ds : List Detail) : (s.logEvent c o ds).boot = s.boot := (State.ext_boot (apart_logEvent ..))
@[simp] theorem logEvent_flash (c o : Nat) (ds : List Detail) : (s.logEvent c o ds).flash = s.flash := (State.ext_flash (apart_logEvent ..))
@[simp] theorem logEvent_power (c o : Nat) (ds : List Detail) : (s.logEvent c o ds).power = s.power := (State.ext_power (apart_logEvent ..))
@[simp] theorem logEvent_dailies (c o : Nat) (ds : List Detail) : (s.logEvent c o ds).dailies = s.dailies := (State.ext_dailies (apart_logEvent ..))
@[simp] theorem logEvent_haps (c o : Nat) (ds : List Detail) : (s.logEvent c o ds).haps = s.haps := (State.ext_haps (apart_logEvent ..))
@[simp] theorem logEvent_foley (c o : Nat) (ds : List Detail) : (s.logEvent c o ds).foley = s.foley := (State.ext_foley (apart_logEvent ..))
@[simp] theorem logEvent_fronts (c o : Nat) (ds : List Detail) : (s.logEvent c o ds).fronts = s.fronts := (State.ext_fronts (apart_logEvent ..))
@[simp] theorem logEvent_keyBank (c o : Nat) (ds : List Detail) : (s.logEvent c o ds).keyBank = s.keyBank := (State.ext_keyBank (apart_logEvent ..))
@[simp] theorem logEvent_cus (c o : Nat) (ds : List Detail) : (s.logEvent c o ds).cus = s.cus := (State.ext_cus (apart_logEvent ..))
@[simp] theorem logEvent_ldp (c o : Nat) (ds : List Detail) : (s.logEvent c o ds).ldp = s.ldp := (State.ext_ldp (apart_logEvent ..))
@[simp] theorem logEvent_clocks (c o : Nat) (ds : List Detail) : (s.logEvent c o ds).clocks = s.clocks := (State.ext_clocks (apart_logEvent ..))
@[simp] theorem logEvent_pending (c o : Nat) (ds : List Detail) : (s.logEvent c o ds).pending = s.pending := (State.ext_pending (apart_logEvent ..))

@[simp] theorem logInjected_clock (c o : Nat) (i : Bool) (ds : List Detail) : (s.logInjected c o i ds).clock = s.clock := (State.ext_clock (apart_logInjected ..))
@[simp] theorem logInjected_dueSlots (c o : Nat) (i : Bool) (ds : List Detail) : (s.logInjected c o i ds).dueSlots = s.dueSlots := (State.ext_dueSlots (apart_logInjected ..))
@[simp] theorem logInjected_freeDrawn (c o : Nat) (i : Bool) (ds : List Detail) : (s.logInjected c o i ds).freeDrawn = s.freeDrawn := (State.ext_freeDrawn (apart_logInjected ..))
@[simp] theorem logInjected_order (c o : Nat) (i : Bool) (ds : List Detail) : (s.logInjected c o i ds).order = s.order := (State.ext_order (apart_logInjected ..))
@[simp] theorem logInjected_items (c o : Nat) (i : Bool) (ds : List Detail) : (s.logInjected c o i ds).items = s.items := (State.ext_items (apart_logInjected ..))
@[simp] theorem logInjected_nextItem (c o : Nat) (i : Bool) (ds : List Detail) : (s.logInjected c o i ds).nextItem = s.nextItem := (State.ext_nextItem (apart_logInjected ..))
@[simp] theorem logInjected_insts (c o : Nat) (i : Bool) (ds : List Detail) : (s.logInjected c o i ds).insts = s.insts := (State.ext_insts (apart_logInjected ..))
@[simp] theorem logInjected_guards (c o : Nat) (i : Bool) (ds : List Detail) : (s.logInjected c o i ds).guards = s.guards := (State.ext_guards (apart_logInjected ..))
@[simp] theorem logInjected_outs (c o : Nat) (i : Bool) (ds : List Detail) : (s.logInjected c o i ds).outs = s.outs := (State.ext_outs (apart_logInjected ..))
@[simp] theorem logInjected_shadow (c o : Nat) (i : Bool) (ds : List Detail) : (s.logInjected c o i ds).shadow = s.shadow := (State.ext_shadow (apart_logInjected ..))
@[simp] theorem logInjected_colourActive (c o : Nat) (i : Bool) (ds : List Detail) : (s.logInjected c o i ds).colourActive = s.colourActive := (State.ext_colourActive (apart_logInjected ..))
@[simp] theorem logInjected_lutBanks (c o : Nat) (i : Bool) (ds : List Detail) : (s.logInjected c o i ds).lutBanks = s.lutBanks := (State.ext_lutBanks (apart_logInjected ..))
@[simp] theorem logInjected_substUnchecked (c o : Nat) (i : Bool) (ds : List Detail) : (s.logInjected c o i ds).substUnchecked = s.substUnchecked := (State.ext_substUnchecked (apart_logInjected ..))
@[simp] theorem logInjected_grip (c o : Nat) (i : Bool) (ds : List Detail) : (s.logInjected c o i ds).grip = s.grip := (State.ext_grip (apart_logInjected ..))
@[simp] theorem logInjected_jobs (c o : Nat) (i : Bool) (ds : List Detail) : (s.logInjected c o i ds).jobs = s.jobs := (State.ext_jobs (apart_logInjected ..))
@[simp] theorem logInjected_mem (c o : Nat) (i : Bool) (ds : List Detail) : (s.logInjected c o i ds).mem = s.mem := (State.ext_mem (apart_logInjected ..))
@[simp] theorem logInjected_memConf (c o : Nat) (i : Bool) (ds : List Detail) : (s.logInjected c o i ds).memConf = s.memConf := (State.ext_memConf (apart_logInjected ..))
@[simp] theorem logInjected_dram (c o : Nat) (i : Bool) (ds : List Detail) : (s.logInjected c o i ds).dram = s.dram := (State.ext_dram (apart_logInjected ..))
@[simp] theorem logInjected_keys (c o : Nat) (i : Bool) (ds : List Detail) : (s.logInjected c o i ds).keys = s.keys := (State.ext_keys (apart_logInjected ..))
@[simp] theorem logInjected_raster (c o : Nat) (i : Bool) (ds : List Detail) : (s.logInjected c o i ds).raster = s.raster := (State.ext_raster (apart_logInjected ..))
@[simp] theorem logInjected_ports (c o : Nat) (i : Bool) (ds : List Detail) : (s.logInjected c o i ds).ports = s.ports := (State.ext_ports (apart_logInjected ..))
@[simp] theorem logInjected_mailboxes (c o : Nat) (i : Bool) (ds : List Detail) : (s.logInjected c o i ds).mailboxes = s.mailboxes := (State.ext_mailboxes (apart_logInjected ..))
@[simp] theorem logInjected_boot (c o : Nat) (i : Bool) (ds : List Detail) : (s.logInjected c o i ds).boot = s.boot := (State.ext_boot (apart_logInjected ..))
@[simp] theorem logInjected_flash (c o : Nat) (i : Bool) (ds : List Detail) : (s.logInjected c o i ds).flash = s.flash := (State.ext_flash (apart_logInjected ..))
@[simp] theorem logInjected_power (c o : Nat) (i : Bool) (ds : List Detail) : (s.logInjected c o i ds).power = s.power := (State.ext_power (apart_logInjected ..))
@[simp] theorem logInjected_dailies (c o : Nat) (i : Bool) (ds : List Detail) : (s.logInjected c o i ds).dailies = s.dailies := (State.ext_dailies (apart_logInjected ..))
@[simp] theorem logInjected_haps (c o : Nat) (i : Bool) (ds : List Detail) : (s.logInjected c o i ds).haps = s.haps := (State.ext_haps (apart_logInjected ..))
@[simp] theorem logInjected_foley (c o : Nat) (i : Bool) (ds : List Detail) : (s.logInjected c o i ds).foley = s.foley := (State.ext_foley (apart_logInjected ..))
@[simp] theorem logInjected_fronts (c o : Nat) (i : Bool) (ds : List Detail) : (s.logInjected c o i ds).fronts = s.fronts := (State.ext_fronts (apart_logInjected ..))
@[simp] theorem logInjected_keyBank (c o : Nat) (i : Bool) (ds : List Detail) : (s.logInjected c o i ds).keyBank = s.keyBank := (State.ext_keyBank (apart_logInjected ..))
@[simp] theorem logInjected_cus (c o : Nat) (i : Bool) (ds : List Detail) : (s.logInjected c o i ds).cus = s.cus := (State.ext_cus (apart_logInjected ..))
@[simp] theorem logInjected_ldp (c o : Nat) (i : Bool) (ds : List Detail) : (s.logInjected c o i ds).ldp = s.ldp := (State.ext_ldp (apart_logInjected ..))
@[simp] theorem logInjected_clocks (c o : Nat) (i : Bool) (ds : List Detail) : (s.logInjected c o i ds).clocks = s.clocks := (State.ext_clocks (apart_logInjected ..))
@[simp] theorem logInjected_pending (c o : Nat) (i : Bool) (ds : List Detail) : (s.logInjected c o i ds).pending = s.pending := (State.ext_pending (apart_logInjected ..))

@[simp] theorem logAt_clock (c o : Nat) (i : Bool) (p : Spos) (n : Nat) (ds : List Detail) : (s.logAt c o i p n ds).clock = s.clock := (State.ext_clock (apart_logAt ..))
@[simp] theorem logAt_dueSlots (c o : Nat) (i : Bool) (p : Spos) (n : Nat) (ds : List Detail) : (s.logAt c o i p n ds).dueSlots = s.dueSlots := (State.ext_dueSlots (apart_logAt ..))
@[simp] theorem logAt_freeDrawn (c o : Nat) (i : Bool) (p : Spos) (n : Nat) (ds : List Detail) : (s.logAt c o i p n ds).freeDrawn = s.freeDrawn := (State.ext_freeDrawn (apart_logAt ..))
@[simp] theorem logAt_order (c o : Nat) (i : Bool) (p : Spos) (n : Nat) (ds : List Detail) : (s.logAt c o i p n ds).order = s.order := (State.ext_order (apart_logAt ..))
@[simp] theorem logAt_items (c o : Nat) (i : Bool) (p : Spos) (n : Nat) (ds : List Detail) : (s.logAt c o i p n ds).items = s.items := (State.ext_items (apart_logAt ..))
@[simp] theorem logAt_nextItem (c o : Nat) (i : Bool) (p : Spos) (n : Nat) (ds : List Detail) : (s.logAt c o i p n ds).nextItem = s.nextItem := (State.ext_nextItem (apart_logAt ..))
@[simp] theorem logAt_insts (c o : Nat) (i : Bool) (p : Spos) (n : Nat) (ds : List Detail) : (s.logAt c o i p n ds).insts = s.insts := (State.ext_insts (apart_logAt ..))
@[simp] theorem logAt_guards (c o : Nat) (i : Bool) (p : Spos) (n : Nat) (ds : List Detail) : (s.logAt c o i p n ds).guards = s.guards := (State.ext_guards (apart_logAt ..))
@[simp] theorem logAt_outs (c o : Nat) (i : Bool) (p : Spos) (n : Nat) (ds : List Detail) : (s.logAt c o i p n ds).outs = s.outs := (State.ext_outs (apart_logAt ..))
@[simp] theorem logAt_shadow (c o : Nat) (i : Bool) (p : Spos) (n : Nat) (ds : List Detail) : (s.logAt c o i p n ds).shadow = s.shadow := (State.ext_shadow (apart_logAt ..))
@[simp] theorem logAt_colourActive (c o : Nat) (i : Bool) (p : Spos) (n : Nat) (ds : List Detail) : (s.logAt c o i p n ds).colourActive = s.colourActive := (State.ext_colourActive (apart_logAt ..))
@[simp] theorem logAt_lutBanks (c o : Nat) (i : Bool) (p : Spos) (n : Nat) (ds : List Detail) : (s.logAt c o i p n ds).lutBanks = s.lutBanks := (State.ext_lutBanks (apart_logAt ..))
@[simp] theorem logAt_substUnchecked (c o : Nat) (i : Bool) (p : Spos) (n : Nat) (ds : List Detail) : (s.logAt c o i p n ds).substUnchecked = s.substUnchecked := (State.ext_substUnchecked (apart_logAt ..))
@[simp] theorem logAt_grip (c o : Nat) (i : Bool) (p : Spos) (n : Nat) (ds : List Detail) : (s.logAt c o i p n ds).grip = s.grip := (State.ext_grip (apart_logAt ..))
@[simp] theorem logAt_jobs (c o : Nat) (i : Bool) (p : Spos) (n : Nat) (ds : List Detail) : (s.logAt c o i p n ds).jobs = s.jobs := (State.ext_jobs (apart_logAt ..))
@[simp] theorem logAt_mem (c o : Nat) (i : Bool) (p : Spos) (n : Nat) (ds : List Detail) : (s.logAt c o i p n ds).mem = s.mem := (State.ext_mem (apart_logAt ..))
@[simp] theorem logAt_memConf (c o : Nat) (i : Bool) (p : Spos) (n : Nat) (ds : List Detail) : (s.logAt c o i p n ds).memConf = s.memConf := (State.ext_memConf (apart_logAt ..))
@[simp] theorem logAt_dram (c o : Nat) (i : Bool) (p : Spos) (n : Nat) (ds : List Detail) : (s.logAt c o i p n ds).dram = s.dram := (State.ext_dram (apart_logAt ..))
@[simp] theorem logAt_keys (c o : Nat) (i : Bool) (p : Spos) (n : Nat) (ds : List Detail) : (s.logAt c o i p n ds).keys = s.keys := (State.ext_keys (apart_logAt ..))
@[simp] theorem logAt_raster (c o : Nat) (i : Bool) (p : Spos) (n : Nat) (ds : List Detail) : (s.logAt c o i p n ds).raster = s.raster := (State.ext_raster (apart_logAt ..))
@[simp] theorem logAt_ports (c o : Nat) (i : Bool) (p : Spos) (n : Nat) (ds : List Detail) : (s.logAt c o i p n ds).ports = s.ports := (State.ext_ports (apart_logAt ..))
@[simp] theorem logAt_mailboxes (c o : Nat) (i : Bool) (p : Spos) (n : Nat) (ds : List Detail) : (s.logAt c o i p n ds).mailboxes = s.mailboxes := (State.ext_mailboxes (apart_logAt ..))
@[simp] theorem logAt_boot (c o : Nat) (i : Bool) (p : Spos) (n : Nat) (ds : List Detail) : (s.logAt c o i p n ds).boot = s.boot := (State.ext_boot (apart_logAt ..))
@[simp] theorem logAt_flash (c o : Nat) (i : Bool) (p : Spos) (n : Nat) (ds : List Detail) : (s.logAt c o i p n ds).flash = s.flash := (State.ext_flash (apart_logAt ..))
@[simp] theorem logAt_power (c o : Nat) (i : Bool) (p : Spos) (n : Nat) (ds : List Detail) : (s.logAt c o i p n ds).power = s.power := (State.ext_power (apart_logAt ..))
@[simp] theorem logAt_dailies (c o : Nat) (i : Bool) (p : Spos) (n : Nat) (ds : List Detail) : (s.logAt c o i p n ds).dailies = s.dailies := (State.ext_dailies (apart_logAt ..))
@[simp] theorem logAt_haps (c o : Nat) (i : Bool) (p : Spos) (n : Nat) (ds : List Detail) : (s.logAt c o i p n ds).haps = s.haps := (State.ext_haps (apart_logAt ..))
@[simp] theorem logAt_foley (c o : Nat) (i : Bool) (p : Spos) (n : Nat) (ds : List Detail) : (s.logAt c o i p n ds).foley = s.foley := (State.ext_foley (apart_logAt ..))
@[simp] theorem logAt_fronts (c o : Nat) (i : Bool) (p : Spos) (n : Nat) (ds : List Detail) : (s.logAt c o i p n ds).fronts = s.fronts := (State.ext_fronts (apart_logAt ..))
@[simp] theorem logAt_keyBank (c o : Nat) (i : Bool) (p : Spos) (n : Nat) (ds : List Detail) : (s.logAt c o i p n ds).keyBank = s.keyBank := (State.ext_keyBank (apart_logAt ..))
@[simp] theorem logAt_cus (c o : Nat) (i : Bool) (p : Spos) (n : Nat) (ds : List Detail) : (s.logAt c o i p n ds).cus = s.cus := (State.ext_cus (apart_logAt ..))
@[simp] theorem logAt_ldp (c o : Nat) (i : Bool) (p : Spos) (n : Nat) (ds : List Detail) : (s.logAt c o i p n ds).ldp = s.ldp := (State.ext_ldp (apart_logAt ..))
@[simp] theorem logAt_clocks (c o : Nat) (i : Bool) (p : Spos) (n : Nat) (ds : List Detail) : (s.logAt c o i p n ds).clocks = s.clocks := (State.ext_clocks (apart_logAt ..))
@[simp] theorem logAt_pending (c o : Nat) (i : Bool) (p : Spos) (n : Nat) (ds : List Detail) : (s.logAt c o i p n ds).pending = s.pending := (State.ext_pending (apart_logAt ..))

@[simp] theorem tallyCount_clock (g k o : Nat) : (s.tallyCount g k o).clock = s.clock := (State.ext_clock (apart_tallyCount ..))
@[simp] theorem tallyCount_dueSlots (g k o : Nat) : (s.tallyCount g k o).dueSlots = s.dueSlots := (State.ext_dueSlots (apart_tallyCount ..))
@[simp] theorem tallyCount_freeDrawn (g k o : Nat) : (s.tallyCount g k o).freeDrawn = s.freeDrawn := (State.ext_freeDrawn (apart_tallyCount ..))
@[simp] theorem tallyCount_order (g k o : Nat) : (s.tallyCount g k o).order = s.order := (State.ext_order (apart_tallyCount ..))
@[simp] theorem tallyCount_items (g k o : Nat) : (s.tallyCount g k o).items = s.items := (State.ext_items (apart_tallyCount ..))
@[simp] theorem tallyCount_nextItem (g k o : Nat) : (s.tallyCount g k o).nextItem = s.nextItem := (State.ext_nextItem (apart_tallyCount ..))
@[simp] theorem tallyCount_insts (g k o : Nat) : (s.tallyCount g k o).insts = s.insts := (State.ext_insts (apart_tallyCount ..))
@[simp] theorem tallyCount_guards (g k o : Nat) : (s.tallyCount g k o).guards = s.guards := (State.ext_guards (apart_tallyCount ..))
@[simp] theorem tallyCount_outs (g k o : Nat) : (s.tallyCount g k o).outs = s.outs := (State.ext_outs (apart_tallyCount ..))
@[simp] theorem tallyCount_shadow (g k o : Nat) : (s.tallyCount g k o).shadow = s.shadow := (State.ext_shadow (apart_tallyCount ..))
@[simp] theorem tallyCount_colourActive (g k o : Nat) : (s.tallyCount g k o).colourActive = s.colourActive := (State.ext_colourActive (apart_tallyCount ..))
@[simp] theorem tallyCount_lutBanks (g k o : Nat) : (s.tallyCount g k o).lutBanks = s.lutBanks := (State.ext_lutBanks (apart_tallyCount ..))
@[simp] theorem tallyCount_substUnchecked (g k o : Nat) : (s.tallyCount g k o).substUnchecked = s.substUnchecked := (State.ext_substUnchecked (apart_tallyCount ..))
@[simp] theorem tallyCount_grip (g k o : Nat) : (s.tallyCount g k o).grip = s.grip := (State.ext_grip (apart_tallyCount ..))
@[simp] theorem tallyCount_jobs (g k o : Nat) : (s.tallyCount g k o).jobs = s.jobs := (State.ext_jobs (apart_tallyCount ..))
@[simp] theorem tallyCount_mem (g k o : Nat) : (s.tallyCount g k o).mem = s.mem := (State.ext_mem (apart_tallyCount ..))
@[simp] theorem tallyCount_memConf (g k o : Nat) : (s.tallyCount g k o).memConf = s.memConf := (State.ext_memConf (apart_tallyCount ..))
@[simp] theorem tallyCount_dram (g k o : Nat) : (s.tallyCount g k o).dram = s.dram := (State.ext_dram (apart_tallyCount ..))
@[simp] theorem tallyCount_keys (g k o : Nat) : (s.tallyCount g k o).keys = s.keys := (State.ext_keys (apart_tallyCount ..))
@[simp] theorem tallyCount_raster (g k o : Nat) : (s.tallyCount g k o).raster = s.raster := (State.ext_raster (apart_tallyCount ..))
@[simp] theorem tallyCount_ports (g k o : Nat) : (s.tallyCount g k o).ports = s.ports := (State.ext_ports (apart_tallyCount ..))
@[simp] theorem tallyCount_mailboxes (g k o : Nat) : (s.tallyCount g k o).mailboxes = s.mailboxes := (State.ext_mailboxes (apart_tallyCount ..))
@[simp] theorem tallyCount_boot (g k o : Nat) : (s.tallyCount g k o).boot = s.boot := (State.ext_boot (apart_tallyCount ..))
@[simp] theorem tallyCount_flash (g k o : Nat) : (s.tallyCount g k o).flash = s.flash := (State.ext_flash (apart_tallyCount ..))
@[simp] theorem tallyCount_power (g k o : Nat) : (s.tallyCount g k o).power = s.power := (State.ext_power (apart_tallyCount ..))
@[simp] theorem tallyCount_dailies (g k o : Nat) : (s.tallyCount g k o).dailies = s.dailies := (State.ext_dailies (apart_tallyCount ..))
@[simp] theorem tallyCount_haps (g k o : Nat) : (s.tallyCount g k o).haps = s.haps := (State.ext_haps (apart_tallyCount ..))
@[simp] theorem tallyCount_foley (g k o : Nat) : (s.tallyCount g k o).foley = s.foley := (State.ext_foley (apart_tallyCount ..))
@[simp] theorem tallyCount_fronts (g k o : Nat) : (s.tallyCount g k o).fronts = s.fronts := (State.ext_fronts (apart_tallyCount ..))
@[simp] theorem tallyCount_keyBank (g k o : Nat) : (s.tallyCount g k o).keyBank = s.keyBank := (State.ext_keyBank (apart_tallyCount ..))
@[simp] theorem tallyCount_cus (g k o : Nat) : (s.tallyCount g k o).cus = s.cus := (State.ext_cus (apart_tallyCount ..))
@[simp] theorem tallyCount_ldp (g k o : Nat) : (s.tallyCount g k o).ldp = s.ldp := (State.ext_ldp (apart_tallyCount ..))
@[simp] theorem tallyCount_clocks (g k o : Nat) : (s.tallyCount g k o).clocks = s.clocks := (State.ext_clocks (apart_tallyCount ..))
@[simp] theorem tallyCount_pending (g k o : Nat) : (s.tallyCount g k o).pending = s.pending := (State.ext_pending (apart_tallyCount ..))

@[simp] theorem tallyWrap_clock (g k c : Nat) : (s.tallyWrap g k c).clock = s.clock := (State.ext_clock (apart_logRaw ..))
@[simp] theorem tallyWrap_dueSlots (g k c : Nat) : (s.tallyWrap g k c).dueSlots = s.dueSlots := (State.ext_dueSlots (apart_logRaw ..))
@[simp] theorem tallyWrap_freeDrawn (g k c : Nat) : (s.tallyWrap g k c).freeDrawn = s.freeDrawn := (State.ext_freeDrawn (apart_logRaw ..))
@[simp] theorem tallyWrap_order (g k c : Nat) : (s.tallyWrap g k c).order = s.order := (State.ext_order (apart_logRaw ..))
@[simp] theorem tallyWrap_items (g k c : Nat) : (s.tallyWrap g k c).items = s.items := (State.ext_items (apart_logRaw ..))
@[simp] theorem tallyWrap_nextItem (g k c : Nat) : (s.tallyWrap g k c).nextItem = s.nextItem := (State.ext_nextItem (apart_logRaw ..))
@[simp] theorem tallyWrap_insts (g k c : Nat) : (s.tallyWrap g k c).insts = s.insts := (State.ext_insts (apart_logRaw ..))
@[simp] theorem tallyWrap_guards (g k c : Nat) : (s.tallyWrap g k c).guards = s.guards := (State.ext_guards (apart_logRaw ..))
@[simp] theorem tallyWrap_outs (g k c : Nat) : (s.tallyWrap g k c).outs = s.outs := (State.ext_outs (apart_logRaw ..))
@[simp] theorem tallyWrap_shadow (g k c : Nat) : (s.tallyWrap g k c).shadow = s.shadow := (State.ext_shadow (apart_logRaw ..))
@[simp] theorem tallyWrap_colourActive (g k c : Nat) : (s.tallyWrap g k c).colourActive = s.colourActive := (State.ext_colourActive (apart_logRaw ..))
@[simp] theorem tallyWrap_lutBanks (g k c : Nat) : (s.tallyWrap g k c).lutBanks = s.lutBanks := (State.ext_lutBanks (apart_logRaw ..))
@[simp] theorem tallyWrap_substUnchecked (g k c : Nat) : (s.tallyWrap g k c).substUnchecked = s.substUnchecked := (State.ext_substUnchecked (apart_logRaw ..))
@[simp] theorem tallyWrap_grip (g k c : Nat) : (s.tallyWrap g k c).grip = s.grip := (State.ext_grip (apart_logRaw ..))
@[simp] theorem tallyWrap_jobs (g k c : Nat) : (s.tallyWrap g k c).jobs = s.jobs := (State.ext_jobs (apart_logRaw ..))
@[simp] theorem tallyWrap_mem (g k c : Nat) : (s.tallyWrap g k c).mem = s.mem := (State.ext_mem (apart_logRaw ..))
@[simp] theorem tallyWrap_memConf (g k c : Nat) : (s.tallyWrap g k c).memConf = s.memConf := (State.ext_memConf (apart_logRaw ..))
@[simp] theorem tallyWrap_dram (g k c : Nat) : (s.tallyWrap g k c).dram = s.dram := (State.ext_dram (apart_logRaw ..))
@[simp] theorem tallyWrap_keys (g k c : Nat) : (s.tallyWrap g k c).keys = s.keys := (State.ext_keys (apart_logRaw ..))
@[simp] theorem tallyWrap_raster (g k c : Nat) : (s.tallyWrap g k c).raster = s.raster := (State.ext_raster (apart_logRaw ..))
@[simp] theorem tallyWrap_ports (g k c : Nat) : (s.tallyWrap g k c).ports = s.ports := (State.ext_ports (apart_logRaw ..))
@[simp] theorem tallyWrap_mailboxes (g k c : Nat) : (s.tallyWrap g k c).mailboxes = s.mailboxes := (State.ext_mailboxes (apart_logRaw ..))
@[simp] theorem tallyWrap_boot (g k c : Nat) : (s.tallyWrap g k c).boot = s.boot := (State.ext_boot (apart_logRaw ..))
@[simp] theorem tallyWrap_flash (g k c : Nat) : (s.tallyWrap g k c).flash = s.flash := (State.ext_flash (apart_logRaw ..))
@[simp] theorem tallyWrap_power (g k c : Nat) : (s.tallyWrap g k c).power = s.power := (State.ext_power (apart_logRaw ..))
@[simp] theorem tallyWrap_dailies (g k c : Nat) : (s.tallyWrap g k c).dailies = s.dailies := (State.ext_dailies (apart_logRaw ..))
@[simp] theorem tallyWrap_haps (g k c : Nat) : (s.tallyWrap g k c).haps = s.haps := (State.ext_haps (apart_logRaw ..))
@[simp] theorem tallyWrap_foley (g k c : Nat) : (s.tallyWrap g k c).foley = s.foley := (State.ext_foley (apart_logRaw ..))
@[simp] theorem tallyWrap_fronts (g k c : Nat) : (s.tallyWrap g k c).fronts = s.fronts := (State.ext_fronts (apart_logRaw ..))
@[simp] theorem tallyWrap_keyBank (g k c : Nat) : (s.tallyWrap g k c).keyBank = s.keyBank := (State.ext_keyBank (apart_logRaw ..))
@[simp] theorem tallyWrap_cus (g k c : Nat) : (s.tallyWrap g k c).cus = s.cus := (State.ext_cus (apart_logRaw ..))
@[simp] theorem tallyWrap_ldp (g k c : Nat) : (s.tallyWrap g k c).ldp = s.ldp := (State.ext_ldp (apart_logRaw ..))
@[simp] theorem tallyWrap_clocks (g k c : Nat) : (s.tallyWrap g k c).clocks = s.clocks := (State.ext_clocks (apart_logRaw ..))
@[simp] theorem tallyWrap_pending (g k c : Nat) : (s.tallyWrap g k c).pending = s.pending := (State.ext_pending (apart_logRaw ..))

@[simp] theorem ownerRefused_clock (o r k : Nat) : (s.ownerRefused o r k).clock = s.clock := (State.ext_clock (apart_ownerRefused ..))
@[simp] theorem ownerRefused_dueSlots (o r k : Nat) : (s.ownerRefused o r k).dueSlots = s.dueSlots := (State.ext_dueSlots (apart_ownerRefused ..))
@[simp] theorem ownerRefused_freeDrawn (o r k : Nat) : (s.ownerRefused o r k).freeDrawn = s.freeDrawn := (State.ext_freeDrawn (apart_ownerRefused ..))
@[simp] theorem ownerRefused_order (o r k : Nat) : (s.ownerRefused o r k).order = s.order := (State.ext_order (apart_ownerRefused ..))
@[simp] theorem ownerRefused_items (o r k : Nat) : (s.ownerRefused o r k).items = s.items := (State.ext_items (apart_ownerRefused ..))
@[simp] theorem ownerRefused_nextItem (o r k : Nat) : (s.ownerRefused o r k).nextItem = s.nextItem := (State.ext_nextItem (apart_ownerRefused ..))
@[simp] theorem ownerRefused_insts (o r k : Nat) : (s.ownerRefused o r k).insts = s.insts := (State.ext_insts (apart_ownerRefused ..))
@[simp] theorem ownerRefused_guards (o r k : Nat) : (s.ownerRefused o r k).guards = s.guards := (State.ext_guards (apart_ownerRefused ..))
@[simp] theorem ownerRefused_outs (o r k : Nat) : (s.ownerRefused o r k).outs = s.outs := (State.ext_outs (apart_ownerRefused ..))
@[simp] theorem ownerRefused_shadow (o r k : Nat) : (s.ownerRefused o r k).shadow = s.shadow := (State.ext_shadow (apart_ownerRefused ..))
@[simp] theorem ownerRefused_colourActive (o r k : Nat) : (s.ownerRefused o r k).colourActive = s.colourActive := (State.ext_colourActive (apart_ownerRefused ..))
@[simp] theorem ownerRefused_lutBanks (o r k : Nat) : (s.ownerRefused o r k).lutBanks = s.lutBanks := (State.ext_lutBanks (apart_ownerRefused ..))
@[simp] theorem ownerRefused_substUnchecked (o r k : Nat) : (s.ownerRefused o r k).substUnchecked = s.substUnchecked := (State.ext_substUnchecked (apart_ownerRefused ..))
@[simp] theorem ownerRefused_grip (o r k : Nat) : (s.ownerRefused o r k).grip = s.grip := (State.ext_grip (apart_ownerRefused ..))
@[simp] theorem ownerRefused_jobs (o r k : Nat) : (s.ownerRefused o r k).jobs = s.jobs := (State.ext_jobs (apart_ownerRefused ..))
@[simp] theorem ownerRefused_mem (o r k : Nat) : (s.ownerRefused o r k).mem = s.mem := (State.ext_mem (apart_ownerRefused ..))
@[simp] theorem ownerRefused_memConf (o r k : Nat) : (s.ownerRefused o r k).memConf = s.memConf := (State.ext_memConf (apart_ownerRefused ..))
@[simp] theorem ownerRefused_dram (o r k : Nat) : (s.ownerRefused o r k).dram = s.dram := (State.ext_dram (apart_ownerRefused ..))
@[simp] theorem ownerRefused_keys (o r k : Nat) : (s.ownerRefused o r k).keys = s.keys := (State.ext_keys (apart_ownerRefused ..))
@[simp] theorem ownerRefused_raster (o r k : Nat) : (s.ownerRefused o r k).raster = s.raster := (State.ext_raster (apart_ownerRefused ..))
@[simp] theorem ownerRefused_ports (o r k : Nat) : (s.ownerRefused o r k).ports = s.ports := (State.ext_ports (apart_ownerRefused ..))
@[simp] theorem ownerRefused_mailboxes (o r k : Nat) : (s.ownerRefused o r k).mailboxes = s.mailboxes := (State.ext_mailboxes (apart_ownerRefused ..))
@[simp] theorem ownerRefused_boot (o r k : Nat) : (s.ownerRefused o r k).boot = s.boot := (State.ext_boot (apart_ownerRefused ..))
@[simp] theorem ownerRefused_flash (o r k : Nat) : (s.ownerRefused o r k).flash = s.flash := (State.ext_flash (apart_ownerRefused ..))
@[simp] theorem ownerRefused_power (o r k : Nat) : (s.ownerRefused o r k).power = s.power := (State.ext_power (apart_ownerRefused ..))
@[simp] theorem ownerRefused_dailies (o r k : Nat) : (s.ownerRefused o r k).dailies = s.dailies := (State.ext_dailies (apart_ownerRefused ..))
@[simp] theorem ownerRefused_haps (o r k : Nat) : (s.ownerRefused o r k).haps = s.haps := (State.ext_haps (apart_ownerRefused ..))
@[simp] theorem ownerRefused_foley (o r k : Nat) : (s.ownerRefused o r k).foley = s.foley := (State.ext_foley (apart_ownerRefused ..))
@[simp] theorem ownerRefused_fronts (o r k : Nat) : (s.ownerRefused o r k).fronts = s.fronts := (State.ext_fronts (apart_ownerRefused ..))
@[simp] theorem ownerRefused_keyBank (o r k : Nat) : (s.ownerRefused o r k).keyBank = s.keyBank := (State.ext_keyBank (apart_ownerRefused ..))
@[simp] theorem ownerRefused_cus (o r k : Nat) : (s.ownerRefused o r k).cus = s.cus := (State.ext_cus (apart_ownerRefused ..))
@[simp] theorem ownerRefused_ldp (o r k : Nat) : (s.ownerRefused o r k).ldp = s.ldp := (State.ext_ldp (apart_ownerRefused ..))
@[simp] theorem ownerRefused_clocks (o r k : Nat) : (s.ownerRefused o r k).clocks = s.clocks := (State.ext_clocks (apart_ownerRefused ..))
@[simp] theorem ownerRefused_pending (o r k : Nat) : (s.ownerRefused o r k).pending = s.pending := (State.ext_pending (apart_ownerRefused ..))

@[simp] theorem inject_clock (d n : Nat) : (s.inject d n).2.clock = s.clock := (State.ext_clock (apart_inject ..))
@[simp] theorem inject_dueSlots (d n : Nat) : (s.inject d n).2.dueSlots = s.dueSlots := (State.ext_dueSlots (apart_inject ..))
@[simp] theorem inject_freeDrawn (d n : Nat) : (s.inject d n).2.freeDrawn = s.freeDrawn := (State.ext_freeDrawn (apart_inject ..))
@[simp] theorem inject_order (d n : Nat) : (s.inject d n).2.order = s.order := (State.ext_order (apart_inject ..))
@[simp] theorem inject_items (d n : Nat) : (s.inject d n).2.items = s.items := (State.ext_items (apart_inject ..))
@[simp] theorem inject_nextItem (d n : Nat) : (s.inject d n).2.nextItem = s.nextItem := (State.ext_nextItem (apart_inject ..))
@[simp] theorem inject_insts (d n : Nat) : (s.inject d n).2.insts = s.insts := (State.ext_insts (apart_inject ..))
@[simp] theorem inject_guards (d n : Nat) : (s.inject d n).2.guards = s.guards := (State.ext_guards (apart_inject ..))
@[simp] theorem inject_outs (d n : Nat) : (s.inject d n).2.outs = s.outs := (State.ext_outs (apart_inject ..))
@[simp] theorem inject_shadow (d n : Nat) : (s.inject d n).2.shadow = s.shadow := (State.ext_shadow (apart_inject ..))
@[simp] theorem inject_colourActive (d n : Nat) : (s.inject d n).2.colourActive = s.colourActive := (State.ext_colourActive (apart_inject ..))
@[simp] theorem inject_lutBanks (d n : Nat) : (s.inject d n).2.lutBanks = s.lutBanks := (State.ext_lutBanks (apart_inject ..))
@[simp] theorem inject_substUnchecked (d n : Nat) : (s.inject d n).2.substUnchecked = s.substUnchecked := (State.ext_substUnchecked (apart_inject ..))
@[simp] theorem inject_grip (d n : Nat) : (s.inject d n).2.grip = s.grip := (State.ext_grip (apart_inject ..))
@[simp] theorem inject_jobs (d n : Nat) : (s.inject d n).2.jobs = s.jobs := (State.ext_jobs (apart_inject ..))
@[simp] theorem inject_mem (d n : Nat) : (s.inject d n).2.mem = s.mem := (State.ext_mem (apart_inject ..))
@[simp] theorem inject_memConf (d n : Nat) : (s.inject d n).2.memConf = s.memConf := (State.ext_memConf (apart_inject ..))
@[simp] theorem inject_dram (d n : Nat) : (s.inject d n).2.dram = s.dram := (State.ext_dram (apart_inject ..))
@[simp] theorem inject_keys (d n : Nat) : (s.inject d n).2.keys = s.keys := (State.ext_keys (apart_inject ..))
@[simp] theorem inject_raster (d n : Nat) : (s.inject d n).2.raster = s.raster := (State.ext_raster (apart_inject ..))
@[simp] theorem inject_ports (d n : Nat) : (s.inject d n).2.ports = s.ports := (State.ext_ports (apart_inject ..))
@[simp] theorem inject_mailboxes (d n : Nat) : (s.inject d n).2.mailboxes = s.mailboxes := (State.ext_mailboxes (apart_inject ..))
@[simp] theorem inject_boot (d n : Nat) : (s.inject d n).2.boot = s.boot := (State.ext_boot (apart_inject ..))
@[simp] theorem inject_flash (d n : Nat) : (s.inject d n).2.flash = s.flash := (State.ext_flash (apart_inject ..))
@[simp] theorem inject_power (d n : Nat) : (s.inject d n).2.power = s.power := (State.ext_power (apart_inject ..))
@[simp] theorem inject_dailies (d n : Nat) : (s.inject d n).2.dailies = s.dailies := (State.ext_dailies (apart_inject ..))
@[simp] theorem inject_haps (d n : Nat) : (s.inject d n).2.haps = s.haps := (State.ext_haps (apart_inject ..))
@[simp] theorem inject_foley (d n : Nat) : (s.inject d n).2.foley = s.foley := (State.ext_foley (apart_inject ..))
@[simp] theorem inject_fronts (d n : Nat) : (s.inject d n).2.fronts = s.fronts := (State.ext_fronts (apart_inject ..))
@[simp] theorem inject_keyBank (d n : Nat) : (s.inject d n).2.keyBank = s.keyBank := (State.ext_keyBank (apart_inject ..))
@[simp] theorem inject_cus (d n : Nat) : (s.inject d n).2.cus = s.cus := (State.ext_cus (apart_inject ..))
@[simp] theorem inject_ldp (d n : Nat) : (s.inject d n).2.ldp = s.ldp := (State.ext_ldp (apart_inject ..))
@[simp] theorem inject_clocks (d n : Nat) : (s.inject d n).2.clocks = s.clocks := (State.ext_clocks (apart_inject ..))
@[simp] theorem inject_pending (d n : Nat) : (s.inject d n).2.pending = s.pending := (State.ext_pending (apart_inject ..))

end Sys2Proof.Machine.State
end

