-- ==== Sys2Proof/Tests/Slice0.lean ====
section
/-! SUPPORT. The model's own tests: a command that each check of well-formedness refuses; numbers that the manual works out itself; and for every statement
with hypotheses, states and operands that meet the hypotheses of each of its clauses. -/
namespace Sys2Proof.Tests
open Sys2Proof Sys2Proof.Machine
set_option maxRecDepth 100000
set_option Elab.async false

/-! ## Well-formedness -/

/-- Each check refuses a command: a value too long, an offset not aligned, a reserved identifier or length, a number out of its range. -/
theorem test_illFormed_commands_are_refused :
    ([.registerWrite .manager (.object 0x7D0101 2 1) 256, .registerWrite .manager (.object 0x7D0101 2 4097) 0,
      .registerWrite .manager (.window .manager 0x1002 false) 0, .registerWrite .manager (.window .manager 0x1000 false) (2 ^ 32),
      .registerWrite .manager (.window .manager 0x1004 true) 0, .registerWrite .manager (.window .manager 0x1000 true) (2 ^ 64),
      .registerWrite .manager (.mailbox 3 4096 false) 0, .registerWrite .manager (.mailbox 3 6 false) 0, .registerWrite .manager (.mailbox 3 4 false) (2 ^ 32),
      .registerWrite .manager (.boot 0 2 false) 0, .registerWrite .manager (.boot 0 0 false) (2 ^ 32),
      .latchOutput 0 65536 [], .critRectsWrite .manager 0 (2 ^ 512), .substTableWrite .bittern (2 ^ 8192), .lineFetch 0 65536 [] none none,
      .colourShadowWrite .manager 0x2D0001 (2 ^ 32768), .decisionPoint 0 65536 [], .instLayerGrantsWrite .manager 0 (2 ^ 192),
      .uncorrectableError 0 (2 ^ 34) .core true 0, .lockstepMismatch true [(40, 0)], .bitSramUe true [(40, 0)], .bitWatchdogExpiry true [(40, 0)],
      .bitRestartReq .gaffer 1 [(40, 0)], .mbRelease .manager 0 32, .audRouteTableWrite .manager (2 ^ 32768), .ldpNotify 65536 0,
      .udpDatagram 0 0 0 false (List.replicate 65508 0), .canFrame 0 0x800 [], .canFrame 0 0xA0000000 [], .canFrame 0 1 (List.replicate 9 0),
      .dictGo .manager 0 (List.replicate 8193 0), .credSecretWrite .manager 0 (2 ^ 1096), .forceSel .gaffer 0 1 0 [(40, 0)], .ready [], .tftpWrite (2 ^ 25 + 1),
      .injArm .gaffer 0 1 [(40, 0)], .dailiesReserve 1024, .sliceComplete 1024 true 0, .dailiesOverrun 1024] : List Instr).all (fun c => !c.wellFormed) = true := by
  decide +kernel

/-- And the largest that each admits is well formed. -/
theorem test_wellFormed_commands_are_admitted :
    ([.registerWrite .manager (.object 0x7D0101 2 1) 255, .registerWrite .manager (.window .manager 0x1000 true) (2 ^ 64 - 1),
      .latchOutput 0 65535 [], .lineFetch 0 65535 [] none none, .mbRelease .manager 0 31, .ldpNotify 65535 0, .canFrame 0 0x7FF [], .canFrame 0 0x9FFFFFFF [],
      .canFrame 0 1 (List.replicate 64 0), .tftpWrite (2 ^ 25), .dailiesReserve 1023] : List Instr).all Instr.wellFormed = true := by
  decide +kernel

/-- No word stands for a command (log entry 81). -/
theorem test_no_word_decodes (nbits w : Nat) : decodeTableWord nbits w = none := rfl

/-! ## Numbers that the manual works out -/

/-- The check values of "123456789" (R425's table). -/
theorem test_check_values :
    (List.range 5).map (fun p => checkValue p [0x31, 0x32, 0x33, 0x34, 0x35, 0x36, 0x37, 0x38, 0x39]) =
      [0x4B, 0x29B1, 0xCBF43926, 0xE3069283, 0x6C40DF5F0B497347] := by
  decide +kernel

/-- Offset 1,000,000 of surface 812 lies on MC0 at channel address 1,073,992,256, in ownership block 512 (the example under R350). -/
theorem test_surface_812 :
    (⟨0x0F, 1, 0x10000⟩ : Placement).addr 1000000 = deviceAddr 0 1073992256 ∧ deviceAddr 0 1073992256 / 2 ^ 21 = 512 := by
  decide +kernel

/-! ## States that meet the statements' hypotheses -/

/-- The state with objects written. -/
def W.reg (s : State) (l : List (Nat × Nat)) : State := s.each l (fun s p => s.wr p.1 p.2)
/-- 1920 × 1080 at 60 Hz, 8 bits, with frames of up to 2,250 lines. -/
def W.timing : Nat :=
  148500 + 1920 * 2 ^ 32 + 2200 * 2 ^ 48 + 88 * 2 ^ 64 + 44 * 2 ^ 80 + 1080 * 2 ^ 96 + 4 * 2 ^ 112 + 5 * 2 ^ 128 + 36 * 2 ^ 144 + 2250 * 2 ^ 160 +
    8 * 2 ^ 184 + 2 ^ 192
/-- Gaffer and Bittern run. -/
def W.run : State := { W.reg State.reset [(Obj.BIT_STATE, 3)] with boot := { stage := 6 }, log := {} }
/-- Output 0 runs, in its active lines. -/
def W.live : State :=
  (W.reg W.run [(Obj.OUT_TIMING 0, W.timing), (Obj.OUT_VT_MIN 0, 1125), (Obj.OUT_VT_MAX 0, 2250), (Obj.OUT_STATE 0, 3), (Obj.REEL_OUT_STATUS 0, 0)]).modOut 0 (fun o =>
    { o with state := .active, phase := .activeLines, frameLines := 1125, strict := false,
             intent := some ⟨0, 0, 0, 0, 60000, 60000, 0⟩ })
/-- Sprocket is locked to it. -/
def W.locked : State := let s := W.live.setCoasting false; { s with clock := { s.clock with everLocked := true } }
def W.coastLast : State := { W.run with clock := { W.run.clock with pos := ⟨3, 1124, 0⟩ } }
def W.coastAwait : State := { W.live with clock := { W.live.clock with everLocked := true } }
def W.holdover : State := W.reg W.run [(Obj.DTIME_SYNC_STATE, 2), (Obj.DTIME_SYNC_PORT, 2)]
/-- Slot 40 raises a doorbell of mailbox 0; slot 7 is armed. -/
def W.slots : State := W.reg W.run [(Obj.SLOT_ACTION 40, 0), (Obj.SLOT_OWNER 40, 0x41), (Obj.SLOT_POSITION 40, 0x0000000500000000), (Obj.SLOT_CONTROL 7, 5),
  (Obj.SLOT_OWNER 7, 0x41), (Obj.SLOT_STATE 7, 1)]
/-- A slot due in this tick, with an action and an argument. -/
def W.due (s : State) (n action arg : Nat) : State :=
  { W.reg s [(Obj.SLOT_ACTION n, action), (Obj.SLOT_ARG n, arg), (Obj.SLOT_CONTROL n, 1), (Obj.SLOT_STATE n, 1), (Obj.SLOT_OWNER n, 0x41)] with
    dueSlots := [⟨n, 0, false, false⟩] }
def W.dueNone : State := W.due W.run 3 0 0
def W.dueRepeat : State := W.reg (W.due W.run 3 0 0) [(Obj.SLOT_CONTROL 3, 5)]
def W.duePreempt : State :=
  { (W.due W.run 3 1 5).modInst 5 (fun i => { i with state := .active }) with jobs := [{ item := 0, owner := 5, queue := 0, resident := true }] }
def W.dueRefresh : State := W.due W.run 3 2 1
def W.dueRefreshWaits : State := (W.due W.run 3 2 1).setDebt 1 (-8)
def W.dueTouch : State := W.reg (W.due W.run 3 3 1) [(touchStateObj 1, touchRunning)]
def W.dueDoorbell : State := W.reg (W.due W.run 3 7 0x105) [(Obj.BIT_ASSIGN_TABLE, 6 * 2 ^ (8 * 0x79))]
def W.dueSlice : State := W.due W.run 200 4 0x310
def W.dueNoSlice : State := W.due W.run 200 4 0x3FF
def W.dueHaptic : State := W.reg (W.due W.run 3 6 0x102) [(Obj.HAP_CONTROL 2, 1), (Obj.HAP_RES_HZ 2, 1700)]
def W.dueLatch : State := (W.due W.live 3 5 0).modOut 0 (fun o => { o with phase := .blanking })

/-- A descriptor of a TYPE with fields by their lowest bit. -/
def W.d (type : Nat) (fs : List (Nat × Nat)) : BitVec 512 := BitVec.ofNat 512 (type + sumNat (fs.map (fun p => p.2 * 2 ^ p.1)))
/-- An item of an owner that has not started. -/
def W.offer (s : State) (owner : Nat) (d : BitVec 512) : State :=
  { s.modInst owner (fun i => { i with state := .active }) with items := [⟨0, owner, 0, d, false, false⟩], nextItem := 1 }
/-- Eight channels with one rank of inline ECC each carry traffic, and every unit serves. -/
def W.memory : State :=
  { (List.range 92).foldl (fun s n => s.setUnit n { health := .ok, ratio := 256 }) (W.reg W.run ((List.range 16).map (fun r => (Obj.RANK_STATE r, 1)))) with
    memConf := { channels := 0xFF, rate := 6400, sizes := List.replicate 16 3, ecc := 0xFFFF } }
def W.newSurface : State := W.offer W.memory 0x40 (W.d 0x20 [(64, 256), (80, 256), (96, 0x10), (112, 0xFFFF), (160, 1)])
def W.newReelSurface : State := W.offer W.memory 0x40 (W.d 0x20 [(64, 256), (80, 256), (96, 0x10), (112, 0xFFFF), (160, 1), (184, 1), (192, 2000)])
def W.badSurface : State := W.offer W.memory 5 (W.d 0x20 [(64, 0), (80, 256), (112, 0xFFFF)])
/-- Bytes of a surface lie in DRAM. -/
def W.surface : State := { W.memory.setSurf 7 { state := .placed, owner := 0x40, width := 64, height := 64, place := ⟨1, 0, 2 ^ 21⟩, sizePages := 4, engines := 1 } with
  mem := [(deviceAddr 0 (2 ^ 21), 0x5A)] }
def W.revise : State := W.offer W.surface 0x40 (W.d 0x20 [(112, 7), (160, 2), (192, 50)])
def W.reviseMigrating : State := (W.revise).modSurf 7 (fun x => { x with state := .migrating, migration := some { target := ⟨2, 0, 2 ^ 21⟩ } })
def W.release : State := W.offer W.surface 0x40 (W.d 0x20 [(112, 7), (186, 1)])
def W.releaseUsed : State := { W.release with jobs := [{ item := 9, owner := 0x40, queue := 1, resident := true, uses := [7] }] }
def W.releaseWaits : State := (W.offer W.surface 0x40 (W.d 0x20 [(112, 7), (186, 1)])).modSurf 7 (fun x => { x with state := .releasing, releaseItem := some 0 })
def W.intentGuest : State := W.offer W.memory 5 (W.d 0x21 [(64, 1), (112, 60000), (128, 60000)])
/-- Output 1 has a panel mode. -/
def W.intent : State := W.offer (W.reg W.memory [(Obj.OUT_PANEL_MODES 1, W.timing)]) 0x40 (W.d 0x21 [(64, 1), (112, 60000), (128, 60000)])
def W.copying : State := W.surface.modSurf 7 (fun x => { x with state := .migrating, migration := some { target := ⟨2, 0, 2 ^ 21⟩ } })
def W.copied : State := W.surface.modSurf 7 (fun x =>
  { x with state := .migrating, migration := some { target := ⟨2, 0, 2 ^ 21⟩, copyDone := true, cutover := true, copied := 16384, users := [4] } })
/-- Output 0 runs with critical rectangles and Reel buffers. -/
def W.rects : State :=
  (W.live.setBacking 0 { now := { buffers := [List.range 64], rects := [List.range 16] } }).modOut 0 (fun o =>
    { o with intent := some ⟨0, 0, 0, 0, 60000, 60000, 2⟩ })
def W.racing : State := W.live.modOut 0 (fun o =>
  { o with racing := true, comps := [⟨4, 9, [], 0, [], false, false, false, false, false, false, false, true, [], [], 5, [], none, false⟩],
           showing := some ⟨4, 9, [], 0, [], false, false, false, false, false, false, false, true, [], [], 5, [], none, false⟩ })
def W.fed : State := W.live.setBacking 0 { dram := some ⟨0, 8, 16⟩ }
def W.layerOff : State := W.offer W.live 0x40 (W.d 0x30 [(64, 0), (68, 3)])
def W.layerBad : State := W.offer W.live 0x40 (W.d 0x30 [(64, 12), (68, 3)])
def W.layerForbidden : State := W.offer W.live 5 (W.d 0x30 [(64, 0), (68, 3)])
def W.swapAsked : State := W.live.modOut 0 (fun o => { o with swapAsked := some 3 })
def W.commit : State := W.offer W.live 0x40 (W.d 0x31 [(64, 0), (96, 77)])
def W.commitStopped : State := W.offer W.live 0x40 (W.d 0x31 [(64, 3), (96, 77)])
def W.commitGuest : State := W.offer W.live 5 (W.d 0x31 [(64, 0), (96, 77)])
/-- A substitute image below the region, and a rectangle outside the frame. -/
def W.written : State := W.reg W.rects [(Obj.SUBST_TABLE, 2 ^ 128 - 1), (Obj.CRIT_RECTS 3, 2 ^ 63)]
/-- A matrix with a coefficient outside its range is at hand. -/
def W.colour : State := W.reg W.live [(0x2D0003, 2 ^ 31 + 2 ^ 30), (0x2D0013, 5), (0x2E0005, 1), (0x2E0001, 1), (0x2E0109, 1)]

/-- A composition, complete or not, of one part on engine 2. -/
def W.comp (done : Bool) : Composition :=
  { id := 4, seq := 9, commits := [⟨0, 0x40, 9, 3, 0, false, 0⟩], buffer := 1, parts := [⟨some 2, 0, 1000, 0, done⟩], complete := done }
/-- Output 0 in blanking, in strict commit mode. -/
def W.strict : State := (W.reg W.live [(Obj.OUT_LATCH_MODE 0, 1)]).modOut 0 (fun o => { o with phase := .blanking, strict := true, startedFrames := 5 })
def W.strictReady : State := W.strict.modOut 0 (fun o => { o with comps := [W.comp true] })
def W.goes : State := W.live.modOut 0 (fun o => { o with phase := .going false, startedFrames := 3 })
def W.goesShows : State := W.live.modOut 0 (fun o => { o with phase := .going true, comps := [W.comp true] })
def W.holds : State := W.live.modOut 0 (fun o => { o with state := .holdEntry })
def W.composes : State := W.live.modOut 0 (fun o => { o with comps := [W.comp false] })
def W.strictHeld : State := { W.live with boot := { W.live.boot with strictHolds := 2 } }
/-- Port 0 carries output 0 and has a sink; port 13 carries none. -/
def W.sink : SinkReport := { maxLanes := 4, maxRate := 3 }
def W.plugged : State := (((W.live.setPs 0 psPresent true).setPs 13 psPresent true).modPort 0 (fun p => { p with level := true, sink := W.sink })).modPort 13
  (fun p => { p with level := false })
def W.pulled : State := W.plugged.modPort 0 (fun p => { p with level := false })
def W.waiting : State := W.live.modPort 13 (fun p => { p with level := true })
def W.configs : List LinkConfig := [⟨4, 3, 0⟩, ⟨2, 3, 0⟩]
def W.training : State := ((W.plugged.setPs 0 psTraining true).modPort 0 (fun p => { p with candidates := W.configs, rerun := W.configs })).setPs 12 psTraining true
  |>.modPort 12 (fun p => { p with candidates := [⟨1, 1, 0⟩] })
def W.exhausted : State := (W.plugged.setPs 0 psExhausted true).modPort 0 (fun p => { p with rerun := W.configs })
def W.linked : State := (W.plugged.setPs 0 psLinkUp true).modPort 0 (fun p => { p with link := some ⟨4, 3, 0⟩, rerun := W.configs })
/-- Queue 0 of the manager and of instance 5 offers three descriptors. -/
def W.queues : State :=
  let q : Queue := { base := 64, enable := true, sizeLog2 := 4, head := 2, tail := 5 }
  (W.run.modInst 0x40 (fun i => { i with state := .active, crConfig := 8, queues := [(0, q)] })).modInst 5 (fun i =>
    { i with state := .active, crConfig := 8, queues := [(0, q), (1, { q with enable := false })] })
def W.queuesDraining : State := W.queues.modInst 5 (fun i => { i with state := .draining })
def W.slotItem (owner : Nat) (fs : List (Nat × Nat)) : State := W.offer (W.reg W.queues [(Obj.INST_DB_GRANT 5, 2)]) owner (W.d 0x03 fs)
def W.slotRequest : State := W.slotItem 5 [(64, 0x500000000), (128, 1), (136, 3)]
def W.slotRequestManager : State := W.slotItem 0x40 [(64, 0x500000000), (128, 1), (136, 3)]
def W.slotQuota : State := W.reg W.slotRequest ((List.range 4).flatMap (fun n => [(Obj.SLOT_CONTROL n, 1), (Obj.SLOT_OWNER n, 5)]))
def W.slotCancel : State := W.reg (W.slotItem 5 [(146, 1), (152, 2)]) [(Obj.SLOT_CONTROL 2, 1), (Obj.SLOT_OWNER 2, 5), (Obj.SLOT_STATE 2, 1)]
def W.slotCancelOther : State := W.reg (W.slotItem 5 [(146, 1), (152, 2)]) [(Obj.SLOT_CONTROL 2, 1), (Obj.SLOT_OWNER 2, 6)]
def W.nop : State := W.offer W.queues 5 (W.d 0x01 [])
def W.fence : State := W.offer W.queues 5 (W.d 0x02 [])
def W.fenceRings : State := W.offer (W.reg W.queues [(Obj.INST_DB_GRANT 5, 2)]) 5 (W.d 0x02 [(64, 1), (68, 1), (72, 7)])
def W.fenceForbidden : State := W.offer W.queues 5 (W.d 0x02 [(64, 1), (68, 1), (72, 7)])
def W.fenceRuns : State := W.fence.startItem 0
/-- Mailboxes 0 to 5: Gaffer to Bittern and back, host to Bittern and back, Gaffer to the host and back. -/
def W.assigned : Nat := sumNat ((List.range 6).map (fun m => [9, 6, 11, 14, 13, 7].getD m 0 * 2 ^ (8 * (0x78 + m))))
def W.fenceRunsRings : State := W.reg (W.fenceRings.startItem 0) [(Obj.BIT_ASSIGN_TABLE, W.assigned)]
def W.enabled : State := W.reg W.run [(Obj.OUT_ENABLE 2, 1)]
def W.disabled : State := W.reg W.run [(Obj.OUT_ENABLE 5, 0)]

/-- Bytes of surface 7 from an offset. -/
def W.put (s : State) (o n v : Nat) : State := (s.store 7 o ((List.range n).map (fun i => BitVec.ofNat 8 (v / 256 ^ i)))).1
def W.dma : State := W.offer W.surface 0x40 (W.d 0x08 [(64, 1), (80, 7), (160, 64), (192, 64)])
def W.dmaOutside : State := W.offer W.surface 0x40 (W.d 0x08 [(64, 1), (80, 8), (160, 64), (192, 64)])
def W.dmaRuns : State := W.dma.startItem 0
def W.create : State := W.offer W.memory 0x40 (W.d 0x10 [(64, 1), (68, 9), (96, 250)])
def W.createGuest : State := W.offer W.memory 5 (W.d 0x10 [(64, 1), (68, 9), (96, 250)])
def W.control (op : Nat) : State :=
  (W.offer W.memory 0x40 (W.d 0x11 [(64, 5), (72, op)])).modInst 5 (fun i => { i with state := .active, port := 1, pasid := 9 })
def W.controlReset : State := W.control 0
def W.controlRemove : State := W.control 1
def W.bound : State := W.memory.modInst 5 (fun i => { i with state := .active, port := 1, pasid := 9 })
def W.draining : State := W.bound.modInst 5 (fun i => { i with state := .draining, drainUntil := 0 })
def W.teardown : State := W.bound.modInst 5 (fun i => { i with state := .teardown, queues := [(0, { enable := true })] })
def W.removing : State := W.teardown.modInst 5 (fun i => { i with removing := true })
def W.layers : State := W.reg W.bound [(Obj.INST_LAYER_QUOTA 5, 2), (Obj.INST_LAYER_GRANTS 5, 4), (Obj.INST_LAYER_GRANTS 6, 8)]
def W.dirty : State := W.bound.modInst 5 (fun i => { i with dirty := { enable := true, swapDone := true, marked0 := [3], marked1 := [4] } })
def W.dirtyAsked : State := W.dirty.modInst 5 (fun i => { i with dirty := { i.dirty with swapAsked := true } })
def W.dirtySwapped : State := W.dirty.modInst 5 (fun i => { i with dirty := { i.dirty with swapDone := false, activeBuf := true } })
/-- Surface 7 of the manager has 64 pages. -/
def W.big : State := (W.memory.setSurf 7 { state := .placed, owner := 0x40, format := 0xFF, place := ⟨1, 0, 2 ^ 21⟩, sizePages := 64 }).modInst 0x40 (fun i =>
  { i with state := .active })
/-- A render job of one tile without attachments, two draws. -/
def W.renderD : BitVec 512 := W.d 0x40 [(192, 7), (208, 2), (256, 4096), (288, 32), (304, 32), (352, 0xFFFFFFFF)]
def W.render : State := W.offer W.big 0x40 W.renderD
def W.renderBad : State := W.offer W.big 0x40 (W.d 0x40 [(192, 8), (208, 2)])
def W.computeD : BitVec 512 := W.d 0x41 [(192, 3), (208, 7), (288, 10), (320, 10), (352, 1), (384, 0xFFFFFFFF), (416, 0xFFFFFFFF)]
def W.pipes : State := W.big.modRaster (fun r => { r with pipelines := [(1024 * 0x40 + 3, ⟨false, [1], 0, []⟩), (1024 * 0x40 + 4, ⟨true, [2], 0, []⟩)] })
def W.compute : State := W.offer W.pipes 0x40 W.computeD
def W.computeUnknown : State := W.offer W.big 0x40 W.computeD
def W.jobOf (j : Nat) : Job := { item := j, owner := 0x40, queue := 0, resident := true, uses := [7] }
def W.withJob (s : State) (j : Job) : State := { s.startItem 0 with jobs := [j] }
def W.renderWaits : State := W.withJob W.render { W.jobOf 0 with resident := false }
def W.computeWaits : State := W.withJob W.compute { W.jobOf 0 with resident := false }
def W.renderEnds : State := W.withJob W.render { W.jobOf 0 with binned := true }
def W.computeEnds : State := W.withJob W.compute (W.jobOf 0)
/-- Draw records of pipeline 4 without resources. -/
def W.draws : State := W.put (W.put W.pipes 0 128 (4 + 0xFFFFFFFF * 2 ^ 864)) 128 128 (4 + 0xFFFFFFFF * 2 ^ 864)
def W.bins : State := (W.withJob (W.offer W.draws 0x40 W.renderD) (W.jobOf 0)).setPool 0x40 [⟨7, 0, none⟩]
def W.binsFull : State := (W.withJob (W.offer W.draws 0x40 W.renderD) { W.jobOf 0 with used := 65536 * 600 })
def W.binned : State := (W.withJob (W.offer W.draws 0x40 W.renderD) { W.jobOf 0 with nextDraw := 2 })
def W.inPass : State := (W.withJob W.render { W.jobOf 0 with inPass := true, used := 80 }).setPool 0x40 [⟨7, 0, some 0⟩]
def W.tiles : State := (W.withJob W.render { W.jobOf 0 with binned := true, left := 1 }).modRaster (fun r => { r with work := [⟨0, 0, 0⟩] })
def W.onTile : State := (W.withJob W.render { W.jobOf 0 with binned := true, left := 1 }).modRaster (fun r => { r with clusters := [(3, [⟨0, 0, 0⟩])] })
def W.onCompute : State := (W.withJob W.compute { W.jobOf 0 with left := 2 }).modRaster (fun r => { r with clusters := [(3, [⟨0, 0, 0⟩])], work := [⟨0, 1, 0⟩] })
def W.suspended : State :=
  let s := (W.withJob W.render { W.jobOf 0 with owner := 5, left := 1 }).modRaster (fun r => { r with clusters := [(3, [⟨0, 0, 0⟩])] })
  s.modInst 5 (fun i => { i with state := .active, suspended := true })
def W.resumes : State := W.bound.modRaster (fun r => { r with saved := [(5, [⟨0, 0, 0⟩])] })
def W.guarded : State := let s := W.bound.modInst 5 (fun i => { i with suspended := true })
  { s with guards := [{ output := 0, victim := 5, slot := 9, fired := some 0 }], clock := { s.clock with dtime := 10 ^ 9 } }
/-- A graphics image of one vertex stage at the start of surface 7. -/
def W.imageAt : State := W.put (W.put (W.put W.big 0 128 0x100) 128 32 (160 * 2 ^ 32 + 4 * 2 ^ 64 + 164 * 2 ^ 96)) 160 68 (0x6D * 2 ^ 32)
def W.pipeCreate : State := W.offer W.imageAt 0x40 (W.d 0x42 [(96, 7), (128, 0), (160, 512)])
def W.pipeCached : State := W.pipeCreate.modRaster (fun r => { r with cache := [⟨0x40, W.pipeCreate.stageKey (W.d 0x42 [(96, 7), (128, 0), (160, 512)]) 0, 100, 0⟩] })
def W.pipeBad : State := W.offer W.big 0x40 (W.d 0x42 [(96, 7), (128, 32), (160, 512)])
def W.pipeDestroy : State := W.offer W.pipes 0x40 (W.d 0x42 [(64, 1), (80, 3)])
def W.pipeDestroyUnknown : State := W.offer W.pipes 0x40 (W.d 0x42 [(64, 1), (80, 9)])
def W.translating : State := (W.pipeCreate.startItem 0).modRaster (fun r => { r with creating := [⟨0, 0x40, true, [11], [0]⟩] })
def W.grant : State := W.offer W.big 0x40 (W.d 0x43 [(64, 7), (96, 1), (128, 2)])
def W.grantBad : State := W.offer W.big 0x40 (W.d 0x43 [(64, 7), (96, 3), (128, 2)])
def W.revoke : State := (W.offer W.big 0x40 (W.d 0x43 [(64, 7), (80, 1), (96, 1), (128, 2)])).setPool 0x40 [⟨7, 1, none⟩, ⟨7, 3, some 4⟩]
def W.signatures : State := W.offer W.big 0x40 (W.d 0x44 [(64, 7), (96, 64), (128, 3)])
def W.sparse : State := W.memory.setSurf 7 { state := .placed, owner := 0x40, format := 2, sparse := true, place := ⟨0xFF, 2, 0⟩, sizePages := 64, tiles := [(3, 1, 80)] }
def W.bind : State := W.offer W.sparse 0x40 (W.d 0x45 [(64, 7), (96, 1), (128, 2)])
def W.unbind : State := W.offer W.sparse 0x40 (W.d 0x45 [(64, 7), (80, 1), (96, 3), (128, 1)])
/-- A signed attachment in surface 7 whose tile 0 has a signature. -/
def W.signed : State := W.put (W.put W.render 4096 32 (7 + 2 * 2 ^ 16 + 2 ^ 26 + 2 ^ 28)) 0 8 (crc64 [])

/-- Channels 1 and 2 are ACTIVE, and channel 1 feeds output 0. -/
def W.active : State := (W.reg W.memory [(Obj.MC_STATE 1, 2), (Obj.MC_STATE 2, 2), (Obj.MC_REFRESH_DEBT 1, 3)]).setBacking 0 { dram := some ⟨1, 8, 16⟩ }
def W.activeFull : State := W.reg W.active [(Obj.MC_REFRESH_DEBT 1, 8)]
def W.compat : State := { W.active with memConf := { W.active.memConf with mode := 1 } }
def W.compatReplaced : State := W.compat.modChan 1 (fun c => { c with replaced := 8, recentre := [(0, 1, 3)] })
def W.sweeping : State := W.active.modChan 1 (fun c => { c with sweep := some (0, 2) })
def W.sweepingRecentre : State := W.reg W.sweeping [(Obj.MEM_RECENTRE_EN, 1), (Obj.MEM_RECENTRE_THRESHOLD, 4)]
def W.errorLimit : State :=
  let s := { W.active with memConf := { W.active.memConf with spare := 15 } }
  { W.reg s [(Obj.MEM_CE_RETIRE_LIMIT, 1), (Obj.MEM_SPARE_STATE, 1), (Obj.RANK_STATE 2, 1), (Obj.RANK_STATE 15, 6)] with
    dram := { s.dram with ranks := [(2, { times := [0], minute := 1 })] } }
def W.failedRank : State := W.reg W.active [(Obj.RANK_STATE 2, 7)]
def W.failedRankRead : State := { W.failedRank with items := [⟨0, 0x40, 0, W.d 0x08 [(64, 1), (80, 7)], true, false⟩] }
def W.spareCopied : State := W.reg W.errorLimit [(Obj.MEM_SPARE_STATE, 2), (Obj.MEM_SPARE_SOURCE, 2), (Obj.RANK_STATE 2, 3), (Obj.RANK_STATE 15, 7)]
def W.assign (s : State) : State := W.reg s [(Obj.BIT_ASSIGN_TABLE, W.assigned)]
/-- Mailbox 2 of Bittern's, from the host, holds words. -/
def W.boxes : State := ((W.assign W.run).setMailbox 2 { words := [1, 2], pushed := 2, pend := 4 }).setMailbox 5 { words := List.range 16, pushed := 40 }
def W.boxesFull : State := (W.assign W.run).setMailbox 0 { words := List.range 16, pushed := 40 }
def W.threeRestarts : State := { W.boxes with boot := { W.boxes.boot with bitRestarts := [0, 0, 0] } }
def W.bitRestarting : State := { W.reg W.boxes [(Obj.BIT_STATE, 4)] with boot := { W.boxes.boot with bitT0 := some 0 } }
def W.bitDead : State := W.reg W.boxes [(Obj.BIT_STATE, 2)]
/-- The ROM measures slot 0, with the assignment in force locked; a sound image. -/
def W.image : BootImage :=
  { header := true, readable := true, keyHash := 7, signed := true, version := 1, digest := 99,
    entries := [(1, 4096, 11, true), (2, 4096, 22, true), (3, 1024, 33, true)], gafferSigned := true, assignment := 0 }
def W.measuring : State := { W.reg W.run [(Obj.BIT_STATE, 1), (Obj.BIT_ROOT_KEY_HASH, 7), (Obj.BIT_ASSIGN_LOCK, 1), (Obj.BIT_ASSIGN_TABLE, tableOf 0), (Obj.REEL_BITTERN_SLICES, 0), (Obj.MEM_WATERMARK, 0)] with boot := { stage := 2 } }
def W.measuringDual : State := W.reg W.measuring [(Obj.RST_STRAPS, 0x10)]
def W.started : State := { W.reg W.run [(Obj.BIT_STATE, 2)] with boot := { W.run.boot with bitT0 := some 0 } }

/-- Unit 4 is to watch a rectangle of output 0. -/
def W.unit : State := W.reg W.rects [(Obj.CU_CONFIG 4, 4), (Obj.CU_REGION 4, 0x0001000200000000), (Obj.CRIT_RECTS 0, 0x0010001000000000), (Obj.CU_DOORBELL 4, 0)]
def W.unitBad : State := W.reg W.rects [(Obj.CU_CONFIG 4, 3)]
def W.unitOn : State := W.reg W.unit [(Obj.CU_CONTROL 4, 1), (Obj.CU_STATE 4, 1), (Obj.CU_FAIL_RUN 4, 1), (Obj.CU_FAIL_LIMIT 4, 2)]
def W.unitTripped : State := (W.reg W.unitOn [(Obj.CU_STATE 4, 3)]).modOut 0 (fun o => { o with critOverride := some (4, 2) })
def W.unitInjects : State := W.reg W.unitOn [(Obj.INJ_ENABLE, 1)]
def W.unitStopped : State := W.unitOn.modOut 0 (fun o => { o with phase := .stopped })
/-- A composition is shown, with a layer from surface 7. -/
def W.shownComp : Composition :=
  { id := 4, seq := 9, commits := [], buffer := 1, parts := [], complete := true, shown := true,
    layers := [(2, W.d 0x30 [(64, 0), (68, 2), (72, 1), (96, 2), (112, 7), (160, 64), (256, 2), (272, 1)], 0x40)] }
def W.unitShown : State := W.unitOn.modOut 0 (fun o => { o with showing := some W.shownComp, comps := [W.shownComp] })
def W.unitMatches : State := W.reg W.unitShown [(Obj.CU_REF 4, checkValue 1 [1, 2, 3])]
def W.unitLayer : State := (W.reg W.unitShown [(Obj.CU_CONFIG 4, 0x2005)]).setSurf 7 { state := .placed, owner := 0x40, place := ⟨1, 0, 2 ^ 21⟩, sizePages := 4 }
/-- Unit 6 guards mailbox 5, from the host to Gaffer, with CRC-16. -/
def W.guards : State := W.reg (W.assign W.run) [(Obj.CU_CONFIG 6, 0x50006), (Obj.CU_CONTROL 6, 1), (Obj.CU_STATE 6, 2), (Obj.CU_MSG_TIMEOUT 6, 50)]
def W.staged : State := W.guards.setCu 6 { staging := [0x00000501, 0xABCD] }
def W.touch : State := W.reg W.live [(Obj.RF_GEOMETRY 0, 10 + 8 * 2 ^ 8 + 1920 * 2 ^ 16 + 1080 * 2 ^ 32), (Obj.RF_PANEL_OUTPUT 0, 0), (Obj.RF_GEOMETRY 1, 8 + 6 * 2 ^ 8 + 1920 * 2 ^ 16 + 1080 * 2 ^ 32),
  (Obj.RF_PANEL_OUTPUT 1, 0)]
def W.touchFits : State := W.reg W.touch [(Obj.RF_PANEL_OUTPUT 1, 4)]
def W.touchNoBudget : State := W.reg W.touch [(Obj.RF_SCANS_PER_FRAME 1, 60)]
def W.touchRuns : State := (W.reg W.touch [(Obj.RF_CONTROL 1, 1), (Obj.RF_STATE 1, touchRunning)]).setFront 1 { base := [0, 0], suspect := [true, false], listen := List.replicate 32 [], band := 3 }
def W.touchScans : State := (W.reg W.touchRuns [(Obj.KB_ENABLE, 1), (Obj.KB_STATE, touchRunning)]).setFront 1 { window := some ⟨{}, 0, 0, false⟩ }
  |>.setKeys { window := some ⟨{}, 0, 0, false⟩ }
def W.touchBaselines : State := (W.reg W.touchScans [(Obj.RF_STATE 1, touchBaselining), (Obj.KB_STATE, touchBaselining)]).setFront 1 { window := some ⟨{}, 0, 0, false⟩, scans := 3 }
  |>.setKeys { window := some ⟨{}, 0, 0, false⟩, scans := 3 }
def W.touchBaselinesFirst : State := (W.touchBaselines.setFront 1 { window := some ⟨{}, 0, 0, false⟩ }).setKeys { window := some ⟨{}, 0, 0, false⟩ }
def W.touchEnds : State := W.touchScans.setFront 1 { window := some ⟨{}, 0, 0, false⟩, ending := true }
def W.touchSleeps : State := (W.reg W.touchRuns [(Obj.RF_STATE 1, touchWake), (Obj.PWR_STATE, 2), (Obj.TOUCH_WAKE_THRESHOLD, 40)]).setFront 1 { wakeRuns := [0, 1, 0, 0] }
def W.keysOn : State := W.reg W.run [(Obj.KB_ENABLE, 1), (Obj.KB_STATE, touchRunning)]
def W.haptic : State := (W.reg W.run [(Obj.HAP_RATED_MV 2, 2000), (Obj.HAP_SUPPLY_MV, 5000), (Obj.HAP_RES_HZ 2, 1700), (Obj.HAP_CAL_MIN_MV, 50),
  (Obj.HAP_BRAKE_THRESH_MV, 30)]).setHap 2 { calDone := true }
def W.hapticRaw : State := W.reg W.haptic [(Obj.HAP_RES_HZ 2, 0)]
def W.hapticWeak : State := W.reg W.haptic [(Obj.HAP_SUPPLY_MV, 1000)]
def W.hapticOn : State := W.reg W.haptic [(Obj.HAP_CONTROL 2, 1), (Obj.HAP_STATE 2, 1)]
def W.hapticSweeps : State := W.hapticOn.setHap 2 { calibrating := true }
def W.hapticCritical : State := W.reg W.hapticOn [(Obj.BIT_ASSIGN_TABLE, setBytes (W.hapticOn.rd Obj.BIT_ASSIGN_TABLE) 0x72 1 1)]
/-- Effect 101 in a phase. -/
def W.play (phase : HapPhase) (half : Nat) : State :=
  W.hapticOn.setHap 2 { calDone := true, play := some { effect := 101, desc := romEffect 101, source := 0, critical := false, phase := phase, half := half } }
def W.playOver : State := W.play .overdrive 0
def W.playOverEnds : State := W.play .overdrive 1
def W.playSusEnds : State := W.play .sustain 39
def W.playBrake : State := W.play .braking 0
def W.playTwo (phase : HapPhase) : State :=
  W.hapticOn.setHap 2 { calDone := true, play := some { effect := 102, desc := romEffect 102, source := 0, critical := false, phase := phase } }
def W.playBrakeGap : State := W.playTwo .braking
def W.playGap : State := W.playTwo .gap

/-- Stream 2 runs from TDM port 1, a slave, in domain 4. -/
def W.audio : State :=
  (W.reg W.run [(Obj.DOM_STATE 15, 1), (Obj.TDM_CONFIG 1, 1), (Obj.TDM_STATE 1, 1), (Obj.AUD_STREAM_CFG 2, 0x800A), (Obj.AUD_STREAM_STATE 2, 1)]).setStream 2
    { cfg := 0x800A, running := true }
def W.audioLost : State := (W.reg W.audio [(Obj.TDM_STATE 1, 2)]).setStream 2 { cfg := 0x800A, running := true, clockLost := true }
def W.audioOff : State := W.reg W.audio [(Obj.DOM_STATE 15, 0)]
/-- Chime 1 is valid, of priority 2, on bus 14. -/
def W.chimes : State := W.reg W.audio [(Obj.CHIME_TABLE, 0x28), (Obj.AUD_BUS_CFG 14, 3)]
def W.chimeNext : State := W.chimes.setGen 0 { next := some ⟨1, 0x28, 0, 0, 0⟩ }
def W.chimePlays : State := W.chimes.setGen 0 { now := some ⟨1, 0x28, 0, 0, 64⟩ }
def W.chimesFull : State :=
  W.chimes.each (List.range 4) (fun s g => s.setGen g { now := some ⟨2 + g, 0x78, 0, g, 64⟩ })
/-- Session 3 is open on UDP, credential 1 of ROLE 3. -/
def W.session : State :=
  let s := W.reg W.run [(Obj.SESS_STATE 3, 2), (Obj.SESS_CRED 3, 1), (Obj.CRED_ROLE 1, 3), (Obj.LDP_SESSION_IDLE, 60), (Obj.LDP_UDP_ENABLE, 3)]
  { s with ldp := { sessions := [(3, ⟨0x155, 0, 1, 0x0A000001, 4660, 1, [], [], 5, 0, 0, [], 1, [], none⟩)], lastNumber := 0x155 } }
/-- A request of session 3, or of the manager's window, waits. -/
def W.asks (s : State) (ch op : Nat) (more : Bool) (body : List (BitVec 8)) : State :=
  { s with ldp := { s.ldp with txns := [(ch, ⟨op, 7, 1, more, body, [], none⟩)] } }
def W.manager : State := W.session.modInst 0x40 (fun i => { i with state := .active })
def W.asksRead : State := W.asks W.session 3 0x01 false [0x00, 0x78, 0x02, 0, 0, 0, 4, 0]
def W.asksReadBlock : State := W.asks W.manager 72 0x03 false [0x00, 0x78, 0x01, 0x05]
def W.asksReadLarge : State := W.asks W.session 3 0x03 false [0x18, 0x11, 0x00, 0xFF]
def W.asksPing : State := W.asks W.session 3 0x13 false []
def W.asksSubscribe : State := W.asks W.session 3 0x05 false [0x00, 0x78, 0x02, 1, 100, 0]
def W.subscribed : State := { W.session with ldp := { W.session.ldp with subs := [⟨4, 3, 0x780002, 1, 100, 0, 0⟩] }, clock := { W.session.clock with dtime := 100000000 } }
def W.asksUnsubscribe : State := W.asks W.subscribed 3 0x06 false [4, 0]
def W.asksUnsubscribeOther : State := W.asks W.subscribed 3 0x06 false [5, 0]
def W.asksClose : State := W.asks W.subscribed 3 0x12 false []
def W.asksCloseWindow : State := W.asks W.manager 72 0x12 false []
def W.asksWrite : State := W.asks W.manager 72 0x02 false ([0x10, 0x10, 0x06, 0x04, 0, 0, 4, 0] ++ leBytes 4 9)
def W.asksWriteField : State := W.asks W.session 3 0x02 false ([0x10, 0x10, 0x06, 0x04, 0, 0, 4, 0] ++ leBytes 4 9)
def W.asksStage : State := W.asks W.manager 72 0x02 true ([0x00, 0x2D, 0x04, 0x0E, 0, 0, 8, 0] ++ leBytes 8 9)
def W.asksWriteBlock : State := W.asks W.manager 72 0x04 false [0x10, 0x10, 1, 0, 6, 4, 4, 0, 9, 0, 0, 0]
def W.asksWriteBlockBad : State := W.asks W.manager 72 0x04 false [0x00, 0x78, 1, 0, 2, 2, 1, 0, 9, 0, 0, 0]
def W.asksRestoreNone : State := W.asks W.manager 72 0x08 false [0xF0, 0xFF, 0xF0, 0xFF]
def W.asksRestoreView : State := W.asks (W.reg W.session [(Obj.CRED_ROLE 1, 1)]) 3 0x08 false [0xF0, 0xFF, 0xF0, 0xFF]
def W.asksCommit : State := W.asks W.manager 72 0x07 false []
def W.commits : State := { W.manager with flash := { commit := some ⟨0x40, 72, 7, [⟨0x7D0101, 2, 4, 9⟩]⟩ } }
def W.asksCommitBusy : State := W.asks W.commits 72 0x07 false []
def W.stages : State := { W.manager with ldp := { W.manager.ldp with staging := [(72, ⟨0x8E0001, 3, leBytes 8 9, 0⟩)] }, clock := { W.run.clock with dtime := 5000000000 } }
def W.bitRestart : State := W.reg W.manager [(Obj.BIT_STATE, 4)]
def W.opens : State := { W.session with ldp := { W.session.ldp with opens := [⟨0, 1, 0x0A000002, 99, 8, [1] ++ leBytes 16 77⟩] } }
def W.opensBad : State := { W.session with ldp := { W.session.ldp with opens := [⟨0, 1, 0x0A000002, 99, 8, [5] ++ leBytes 16 77⟩] } }
/-- Session 3 waits for its CONFIRM, and the CONFIRM that waits. -/
def W.confirmSession : Session := ⟨0x155, 0, 1, 0x0A000001, 4660, 1, leBytes 16 1, leBytes 16 2, 5, 0, 0, [], 1, [], none⟩
def W.confirmTxn : LdpTxn :=
  let raw := ldpMessage 0x11 9 0x155 0 0 (leBytes 16 1 ++ leBytes 16 2)
  ⟨0x11, 9, 0, false, leBytes 16 1 ++ leBytes 16 2, raw ++ macOf 5 raw, none⟩
def W.confirms : State :=
  let s := W.reg W.session [(Obj.SESS_STATE 3, 1)]
  { s with ldp := { s.ldp with sessions := [(3, W.confirmSession)], txns := [(3, W.confirmTxn)] } }
def W.confirmsBad : State := { W.confirms with ldp := { W.confirms.ldp with txns := [(3, ⟨0x11, 9, 0, false, leBytes 16 1 ++ leBytes 16 3, [], none⟩)] } }
def W.confirmLate : State := { W.confirms with clock := { W.confirms.clock with dtime := 6000000000 } }
def W.idles : State := { W.asksPing with clock := { W.run.clock with dtime := 60000000000 } }
def W.canLdp : State := W.reg W.session [(Obj.LDP_CAN_CONTROLLER, 2), (Obj.LDP_CAN_REQ_ID, 5)]
def W.canArrives : State := { W.canLdp with ldp := { W.canLdp.ldp with can := some ⟨200, [1, 2], 1, 0⟩ }, clock := { W.run.clock with dtime := 200000000 } }
def W.windowBusy : State := W.manager.modInst 0x40 (fun i => { i with window := { i.window with busy := true } })

def W.xoWait : State := { W.reg State.reset [(Obj.RST_STRAPS, 0)] with clock := { State.reset.clock with dtime := 2000000 } }
def W.counting : State := { W.reg W.xoWait [(Obj.XO_FREQ_KHZ, 25000)] with clocks := { counting := true } }
def W.tree : State :=
  W.reg W.run ((List.range 10).map (fun n => (Obj.PLL_STATE n, 2)) ++ (List.range 10).map (fun n => (Obj.PLL_ENABLE n, 1)) ++
    (List.range 11).map (fun n => (Obj.CLKMON_STATE n, 1)) ++ [(Obj.XO_FREQ_KHZ, 25000), (Obj.PLL_FREQ_KHZ 2, 1800000), (Obj.MUX_SEL 4, 1), (Obj.MUX_SEL 3, 1)])
def W.pllStarts : State := W.reg W.tree [(Obj.PLL_STATE 3, 1), (Obj.PLL_STATE 4, 0), (Obj.PLL_ENABLE 4, 0), (Obj.CLKMON_STATE 5, 0), (Obj.GATE_STATE 7, 1)]
def W.monitorOut : State := { W.reg W.tree [(Obj.PLL_FREQ_KHZ 2, 1800000)] with clocks := { runs := [(3, (2, 0))] } }
def W.monitorStops : State := { W.monitorOut with clocks := { runs := [(3, (2, 2))] } }
def W.injectClk : State := W.reg W.tree [(Obj.INJ_ENABLE, 1)]
def W.switches (x : Nat) : State := { W.tree with clocks := { switches := [(x, ⟨1, 0, 0, false, .manager⟩)] } }
def W.switch4 : State := W.switches 4
def W.switch3 : State := { W.switches 3 with clock := { W.run.clock with dtime := 20000 } }
def W.switch7 : State := W.reg (W.switches 7) [(Obj.CLKMON_STATE 6, 3)]
def W.held : State := { W.tree with clocks := { held := [3, 7, 4] } }
def W.gates : State :=
  W.reg W.tree [(Obj.GATE_CTRL 7, 1), (Obj.GATE_STATE 7, 1), (Obj.GATE_CTRL 8, 1), (Obj.GATE_STATE 8, 1), (Obj.GATE_CTRL 14, 1), (Obj.GATE_STATE 14, 1),
    (Obj.DOM_CTRL 3, 1), (Obj.DOM_STATE 3, 1)]
def W.gateCloses : State := { W.reg W.gates [(Obj.GATE_CTRL 14, 0), (Obj.GATE_STATE 14, 2)] with clocks := { closing := [(14, .manager)] } }
def W.gateClosesBusy : State := { W.gateCloses with raster := { clusters := [(0, [⟨0, 0, 0⟩])] } }
def W.gatesShut : State :=
  W.reg W.gates ((List.range 8).map (fun n => (Obj.GATE_STATE (104 + n), 0)) ++ (List.range 8).map (fun n => (Obj.GATE_CTRL (104 + n), 0)) ++
    [(Obj.GATE_CTRL 66, 0), (Obj.GATE_STATE 66, 0), (Obj.DOM_CTRL 16, 1), (Obj.DOM_STATE 16, 1)])
def W.domainResets : State := W.reg W.gatesShut [(Obj.DOM_CTRL 16, 2)]
def W.domains : State := W.reg W.tree [(Obj.DOM_CTRL 5, 1), (Obj.DOM_STATE 5, 1), (Obj.DOM_CTRL 6, 2), (Obj.DOM_STATE 6, 0), (Obj.DOM_CTRL 15, 0), (Obj.DOM_STATE 15, 0)]
def W.domainStarts : State := { W.reg W.domains [(Obj.DOM_CTRL 15, 1), (Obj.DOM_STATE 15, 3)] with clocks := { domains := [(15, .manager)] } }
def W.deeper : State := W.reg W.tree [(Obj.PWR_STATE, 0)]
def W.asleep : State := W.reg W.tree [(Obj.PWR_STATE, 2)]
def W.wakes : State := { W.asleep with power := { exitCause := some 3, exitFrom := 0, target := 0 } }
def W.sagAsleep : State := { W.asleep with power := { sag := some { rail := 4, lowest := 700, pos := {}, start := 0 } } }
def W.tight : State := W.reg W.tree [(Obj.PWR_MGR_TOL, 5)]
def W.limited : State := { W.reg W.tree [(Obj.PWR_LIMIT_W, 10)] with power := { samples := [20000, 20000], calm := 9, rasCeiling := 1500 } }
def W.hot : State := { W.tree with power := { hotCeiling := 1500 } }
def W.tripped : State := { W.tree with boot := { stage := 0, tripped := true } }
def W.sags : State := { W.reg W.tree [(Obj.SUP_STATE 4, 1)] with power := { sag := some { rail := 4, lowest := 700, pos := {}, start := 0 } } }
def W.sagOver : State :=
  { W.tree with power := { sag := some { rail := 4, lowest := 700, pos := {}, start := 0, recovered := some 5000 } }, clock := { W.run.clock with dtime := 3000000 } }
def W.sagRecovers : State := { W.sagOver with clock := { W.run.clock with dtime := 6000 } }
def W.avs : State := { W.reg W.tree [(Obj.PWR_AVS_I2C, 3), (Obj.SUP_TARGET_MV 1, 850)] with power := { avsWaits := some 1700 } }
def W.avsHeld : State := { W.avs with power := { W.avs.power with avsHeld := true } }
def W.full : State := { W.reg W.live [(Obj.RST_STRAPS, 0x37), (Obj.INJ_ENABLE, 1)] with mem := [(2 ^ 37 + 5, 9)], boot := { stage := 6, gafRestarts := [1], links := [0], tripped := false } }
def W.imageWaits : State := { W.reg W.measuring [(Obj.BIT_STATE, 3)] with boot := { stage := 4 }, memConf := { channels := 3 } }
def W.imageWarm : State := W.reg W.imageWaits [(Obj.RST_LAST_KIND, 2)]
def W.trains : State := { W.imageWaits with boot := { stage := 5, mgrPort := 1 } }
def W.recovery2 : State := { W.reg W.run [(Obj.RST_STRAPS, 0x20)] with boot := { stage := 3 } }
def W.recovery3 : State := { W.reg W.run [(Obj.RST_STRAPS, 0x30), (Obj.BIT_STATE, 0)] with boot := { stage := 7 } }
def W.thrice : State := { W.full with boot := { W.full.boot with gafRestarts := [0, 0, 0] } }
def W.gafRestarting : State := { W.full with boot := { W.full.boot with stage := 8, gafT0 := some 0, gafMark := 0 } }
def W.logs : State := { W.run with log := { causePending := false, fifo := [⟨1, 0, false, 0, {}, 0, 0⟩, ⟨2, 0, false, 0, {}, 0, 0⟩], ring := [⟨3, 0, false, 0, {}, 0, 0⟩] } }
def W.logsLost : State := { W.logs with log := { W.logs.log with lostPending := 4 } }
def W.slices : State :=
  { W.run with dailies := { reserved := [0x10, 0x11], running := [⟨0x10, 0, 500⟩, ⟨0x200, 0, 500⟩], once := [0x200], roundFails := 1 }, clock := { W.run.clock with dtime := 100000 } }
def W.sliceLate : State := { W.slices with clock := { W.run.clock with dtime := 600000 } }
def W.overflow : State := { W.run with tallyOvf := [3, 66, 70], tally := [(4096 * 1 + 5, 7)] }
def W.injectOn : State := W.reg W.run [(Obj.INJ_ENABLE, 1)]
def W.plain : State := W.reg (W.run.modInst 0x40 (fun i => { i with state := .active })) [(Obj.DTIME_SYNC_PORT, 3), (Obj.DTIME_SLEW_LIMIT, 200), (Obj.GRIP_AGGRESSIVENESS, 2), (Obj.HAP_BRAKE_THRESH_MV, 40), (Obj.LDP_SESSION_IDLE, 77)]

/-! ## Witnesses -/

/-- What EmptyQueueTicks assumes, clause by clause, holds of these. -/
theorem witness_EmptyQueueTicks :
    (W.run.pending = []) := by
  decide +kernel

/-- What ResetValues assumes, clause by clause, holds of these. -/
theorem witness_ResetValues :
    (3 ≠ Obj.RST_LAST_CAUSE) := by
  decide +kernel

/-- What RegisterWriteChecksInOrder assumes, clause by clause, holds of these. -/
theorem witness_RegisterWriteChecksInOrder :
    (rowAt 0 = none ∧ (¬(0 = 0 ∧ indexUsed 0 = true))) ∧
    (rowAt 7344129 = some { name := "PLL_STATE", index := 28688, count := 10, sub := 1, subCount := 1, ty := ObjType.enum8, len := 1, rights := { bittern := Right.ro, gaffer := Right.ro, manager := Right.ro, guest := Right.ro, field := Right.ro }, default := 0, pers := Persistence.volatile, accepts := Accepts.any } ∧
      (requesterNormal (Requester.guest 0) = true ∧ W.hot.bitternOwns 7344129 = true)) ∧
    (rowAt 7447297 = some { name := "MUX_SEL", index := 29088, count := 19, sub := 1, subCount := 1, ty := ObjType.u8, len := 1, rights := { bittern := Right.ro, gaffer := Right.rw, manager := Right.ro, guest := Right.ro, field := Right.ro }, default := 0, pers := Persistence.volatile, accepts := Accepts.any } ∧
      (¬(requesterNormal (Requester.field 0) = true ∧ W.hot.bitternOwns 7447297 = true)) ∧
      W.hot.narrow (Requester.field 0) 7447297 ((W.hot.rightsAt { name := "MUX_SEL", index := 29088, count := 19, sub := 1, subCount := 1, ty := ObjType.u8, len := 1, rights := { bittern := Right.ro, gaffer := Right.rw, manager := Right.ro, guest := Right.ro, field := Right.ro }, default := 0, pers := Persistence.volatile, accepts := Accepts.any } 7447297).of (Requester.field 0)) = Right.ro) ∧
    (rowAt 7447553 = some { name := "MUX_SEL", index := 29088, count := 19, sub := 1, subCount := 1, ty := ObjType.u8, len := 1, rights := { bittern := Right.ro, gaffer := Right.rw, manager := Right.ro, guest := Right.ro, field := Right.ro }, default := 0, pers := Persistence.volatile, accepts := Accepts.any } ∧
      (¬(requesterNormal Requester.gaffer = true ∧ W.avs.bitternOwns 7447553 = true)) ∧
      W.avs.narrow Requester.gaffer 7447553 ((W.avs.rightsAt { name := "MUX_SEL", index := 29088, count := 19, sub := 1, subCount := 1, ty := ObjType.u8, len := 1, rights := { bittern := Right.ro, gaffer := Right.rw, manager := Right.ro, guest := Right.ro, field := Right.ro }, default := 0, pers := Persistence.volatile, accepts := Accepts.any } 7447553).of Requester.gaffer) ≠ Right.ro ∧
      54 ≠ 2) ∧
    (rowAt 7447297 = some { name := "MUX_SEL", index := 29088, count := 19, sub := 1, subCount := 1, ty := ObjType.u8, len := 1, rights := { bittern := Right.ro, gaffer := Right.rw, manager := Right.ro, guest := Right.ro, field := Right.ro }, default := 0, pers := Persistence.volatile, accepts := Accepts.any } ∧
      (¬(requesterNormal Requester.gaffer = true ∧ W.switch7.bitternOwns 7447297 = true)) ∧
      W.switch7.narrow Requester.gaffer 7447297 ((W.switch7.rightsAt { name := "MUX_SEL", index := 29088, count := 19, sub := 1, subCount := 1, ty := ObjType.u8, len := 1, rights := { bittern := Right.ro, gaffer := Right.rw, manager := Right.ro, guest := Right.ro, field := Right.ro }, default := 0, pers := Persistence.volatile, accepts := Accepts.any } 7447297).of Requester.gaffer) ≠ Right.ro ∧
      ObjType.u8 ≠ ObjType.str ∧ 2 ≠ 1) ∧
    (rowAt 7346435 = some { name := "PLL_ENABLE", index := 28688, count := 10, sub := 3, subCount := 1, ty := ObjType.bool, len := 1, rights := { bittern := Right.ro, gaffer := Right.rw, manager := Right.ro, guest := Right.ro, field := Right.ro }, default := 0, pers := Persistence.volatile, accepts := Accepts.any } ∧
      (¬(requesterNormal Requester.gaffer = true ∧ W.tree.bitternOwns 7346435 = true)) ∧
      W.tree.narrow Requester.gaffer 7346435 ((W.tree.rightsAt { name := "PLL_ENABLE", index := 28688, count := 10, sub := 3, subCount := 1, ty := ObjType.bool, len := 1, rights := { bittern := Right.ro, gaffer := Right.rw, manager := Right.ro, guest := Right.ro, field := Right.ro }, default := 0, pers := Persistence.volatile, accepts := Accepts.any } 7346435).of Requester.gaffer) ≠ Right.ro ∧
      ObjType.bool ≠ ObjType.str ∧
      encodingOk { name := "PLL_ENABLE", index := 28688, count := 10, sub := 3, subCount := 1, ty := ObjType.bool, len := 1, rights := { bittern := Right.ro, gaffer := Right.rw, manager := Right.ro, guest := Right.ro, field := Right.ro }, default := 0, pers := Persistence.volatile, accepts := Accepts.any } 2 = false) := by
  refine ⟨?_, ?_, ?_, ?_, ?_, ?_⟩ <;> decide +kernel

/-- What ObjectAndRegisterWrites assumes, clause by clause, holds of these. -/
theorem witness_ObjectAndRegisterWrites :
    (2162949 ∈ [Obj.DTIME_SYNC_PORT, Obj.DTIME_SLEW_LIMIT, Obj.GRIP_AGGRESSIVENESS, Obj.HAP_BRAKE_THRESH_MV, Obj.LDP_SESSION_IDLE] ∧
      rowAt 2162949 = some { name := "DTIME_SLEW_LIMIT", index := 8449, count := 1, sub := 5, subCount := 1, ty := ObjType.u16, len := 2, rights := { bittern := Right.ro, gaffer := Right.rw, manager := Right.ro, guest := Right.ro, field := Right.rw }, default := 500, pers := Persistence.stored, accepts := Accepts.range 1 1000 } ∧
      W.plain.writeStatus Requester.gaffer 2162949 3 2 1 = Status.ok ∧ Accepts.holds ObjType.u16 (Accepts.range 1 1000) 1 = true) ∧
    (1053185 ∈ [Obj.DTIME_SYNC_PORT, Obj.DTIME_SLEW_LIMIT, Obj.GRIP_AGGRESSIVENESS, Obj.HAP_BRAKE_THRESH_MV, Obj.LDP_SESSION_IDLE] ∧
      rowAt 1053185 = some { name := "LDP_SESSION_IDLE", index := 4114, count := 1, sub := 1, subCount := 1, ty := ObjType.u16, len := 2, rights := { bittern := Right.ro, gaffer := Right.rw, manager := Right.rw, guest := Right.ro, field := Right.rw }, default := 30, pers := Persistence.stored, accepts := Accepts.range 5 3600 } ∧
      W.plain.writeStatus Requester.gaffer 1053185 3 2 1 = Status.ok ∧ Accepts.holds ObjType.u16 (Accepts.range 5 3600) 1 = false) ∧
    (W.plain.barServed = true ∧ W.plain.hostWake = W.plain ∧ W.plain.windowLive 64 = true ∧ ((W.plain.inst 64).queue 1).enable = false ∧
      2 < 18446744073709551616) := by
  decide +kernel

/-- What TheLeadMovesThePosition assumes, clause by clause, holds of these. -/
theorem witness_TheLeadMovesThePosition :
    (W.locked.coasting = false ∧ W.locked.clock.stopped = false ∧ W.locked.clock.pos.line ≠ 65535) ∧
    (W.run.coasting = true ∧ W.run.clock.stopped = false ∧ 1 < W.run.coastLines) ∧
    (W.coastLast.coasting = true ∧ W.coastLast.clock.stopped = false ∧ W.coastLast.coastLines ≤ 1125) ∧
    (W.run.accepts Requester.gaffer Obj.SPK_LEAD_OUTPUT 16 = true ∧ 12 ≤ 16 ∧ 16 ≠ 255) ∧
    (W.run.accepts Requester.gaffer Obj.SPK_LEAD_OUTPUT 1 = true ∧ (1 < 12 ∨ 1 = 255) ∧ W.run.leadUnfit (W.run.leadNamed 1) = true) ∧
    (W.live.accepts (Requester.field 0) Obj.SPK_LEAD_OUTPUT 0 = true ∧ (0 < 12 ∨ 0 = 255) ∧ W.live.leadUnfit (W.live.leadNamed 0) = false) := by
  refine ⟨?_, ?_, ?_, ?_, ?_, ?_⟩ <;> decide +kernel

/-- What RelockSetsStatusAndCounts assumes, clause by clause, holds of these. -/
theorem witness_RelockSetsStatusAndCounts :
    (W.live.coasting = true ∧ W.live.leadRuns = true ∧ W.live.clock.stopped = false) := by
  decide +kernel

/-- What SyncLossHoldsOver assumes, clause by clause, holds of these. -/
theorem witness_SyncLossHoldsOver :
    ((W.holdover.rd Obj.DTIME_SYNC_STATE = 1 ∨ W.holdover.rd Obj.DTIME_SYNC_STATE = 2)) := by
  decide +kernel

/-- What SyncMessagesStepOrSlew assumes, clause by clause, holds of these. -/
theorem witness_SyncMessagesStepOrSlew :
    (W.holdover.rd Obj.DTIME_SYNC_PORT = 2) ∧
    (W.run.rd Obj.DTIME_SYNC_PORT ≠ 1) := by
  decide +kernel

/-- What SlotsArmAndFire assumes, clause by clause, holds of these. -/
theorem witness_SlotsArmAndFire :
    (W.run.accepts Requester.gaffer (Obj.SLOT_CONTROL 22) 7 = true ∧ W.run.armed 22 = false ∧ W.run.armStatus 22 true = Status.ok) ∧
    (W.coastLast.accepts Requester.gaffer (Obj.SLOT_CONTROL 0) 5 = true ∧ W.coastLast.armed 0 = false ∧ W.coastLast.armStatus 0 false ≠ Status.ok ∧
      W.coastLast.armStatus 0 false ≠ Status.ownerLocked) ∧
    (W.dueNone.accepts Requester.gaffer (Obj.SLOT_CONTROL 3) 0 = true ∧ W.dueNone.armed 3 = true) ∧
    (W.dueNone.nextDue = some { slot := 3, tick := 0 } ∧ W.dueNone.rd (Obj.SLOT_ACTION 3) = 0 ∧ 0 ≤ W.dueNone.clock.ticks ∧
      W.dueNone.clock.lastFire ≠ some W.dueNone.clock.ticks) ∧
    (W.dueNone.nextDue = some { slot := 3, tick := 0 } ∧ 3 ≠ 0) ∧
    (W.run.nextDue = none) := by
  refine ⟨?_, ?_, ?_, ?_, ?_, ?_⟩ <;> decide +kernel

/-- What SlotActionsTakeEffect assumes, clause by clause, holds of these. -/
theorem witness_SlotActionsTakeEffect :
    (W.duePreempt.dueNow 3 1 = true ∧ W.duePreempt.guards = [] ∧ W.duePreempt.hasResident (field (W.duePreempt.rd (Obj.SLOT_ARG 3)) 5 0) = true ∧
      (W.duePreempt.inst (field (W.duePreempt.rd (Obj.SLOT_ARG 3)) 5 0)).suspended = false) ∧
    (W.dueRefresh.dueNow 3 2 = true ∧ -8 < W.dueRefresh.debt (field (W.dueRefresh.rd (Obj.SLOT_ARG 3)) 2 0) ∧
      W.dueRefresh.debt (field (W.dueRefresh.rd (Obj.SLOT_ARG 3)) 2 0) ≤ 8) ∧
    (W.dueRefreshWaits.dueNow 3 2 = true ∧ W.dueRefreshWaits.debt (field (W.dueRefreshWaits.rd (Obj.SLOT_ARG 3)) 2 0) ≤ -8) ∧
    (W.dueTouch.dueNow 3 3 = true ∧ W.dueTouch.rd (Obj.SLOT_ARG 3) < 2 ∧ W.dueTouch.scans (W.dueTouch.rd (Obj.SLOT_ARG 3)) = true ∧
      W.dueTouch.windowRuns (W.dueTouch.rd (Obj.SLOT_ARG 3)) = false) ∧
    (W.dueDoorbell.dueNow 3 7 = true ∧ W.dueDoorbell.mbUnused (field (W.dueDoorbell.rd (Obj.SLOT_ARG 3)) 11 8) = false ∧
      (¬(W.dueDoorbell.mbReceiver (field (W.dueDoorbell.rd (Obj.SLOT_ARG 3)) 11 8) = MbEnd.bittern ∧ W.dueDoorbell.bitternDown = true)) ∧
      W.dueDoorbell.receiverUp (field (W.dueDoorbell.rd (Obj.SLOT_ARG 3)) 11 8) = true) ∧
    (W.dueSlice.dueNow 200 4 = true ∧ sliceUnit (field (W.dueSlice.rd (Obj.SLOT_ARG 200)) 11 0) = some (SliceUnit.aon 0) ∧
      W.dueSlice.unitIdle (field (W.dueSlice.rd (Obj.SLOT_ARG 200)) 11 0) (SliceUnit.aon 0) = true ∧ W.dueSlice.dailies.running = [] ∧
      sliceStrict (field (W.dueSlice.rd (Obj.SLOT_ARG 200)) 11 0) = false) ∧
    (W.dueNoSlice.dueNow 200 4 = true ∧ sliceUnit (field (W.dueNoSlice.rd (Obj.SLOT_ARG 200)) 11 0) = none) ∧
    (W.dueHaptic.dueNow 3 6 = true ∧ field (W.dueHaptic.rd (Obj.SLOT_ARG 3)) 15 8 ≠ 0 ∧
      W.dueHaptic.triggerStatus (field (W.dueHaptic.rd (Obj.SLOT_ARG 3)) 2 0) (field (W.dueHaptic.rd (Obj.SLOT_ARG 3)) 15 8) false = Status.ok ∧
      (W.dueHaptic.hap (field (W.dueHaptic.rd (Obj.SLOT_ARG 3)) 2 0)).play = none ∧
      0 < efOd (W.dueHaptic.effect (field (W.dueHaptic.rd (Obj.SLOT_ARG 3)) 15 8))) ∧
    (W.dueLatch.dueNow 3 5 = true ∧ field (W.dueLatch.rd (Obj.SLOT_ARG 3)) 3 0 ≤ 11 ∧
      (W.dueLatch.out (W.dueLatch.governor (field (W.dueLatch.rd (Obj.SLOT_ARG 3)) 3 0))).strict = false ∧
      (W.dueLatch.out (W.dueLatch.governor (field (W.dueLatch.rd (Obj.SLOT_ARG 3)) 3 0))).phase = RasterPhase.blanking ∧
      W.dueLatch.firstDecision (W.dueLatch.governor (field (W.dueLatch.rd (Obj.SLOT_ARG 3)) 3 0)) < 2208 ∧
      2208 = W.dueLatch.lastDecision (W.dueLatch.governor (field (W.dueLatch.rd (Obj.SLOT_ARG 3)) 3 0)) ∧
      (W.dueLatch.out (W.dueLatch.governor (field (W.dueLatch.rd (Obj.SLOT_ARG 3)) 3 0))).comps = [] ∧
      (W.dueLatch.out (W.dueLatch.governor (field (W.dueLatch.rd (Obj.SLOT_ARG 3)) 3 0))).pending = [] ∧
      (W.dueLatch.out (W.dueLatch.governor (field (W.dueLatch.rd (Obj.SLOT_ARG 3)) 3 0))).recompose = none ∧
      (W.dueLatch.out (W.dueLatch.governor (field (W.dueLatch.rd (Obj.SLOT_ARG 3)) 3 0))).overrideAsked = false) := by
  refine ⟨?_, ?_, ?_, ?_, ?_, ?_, ?_, ?_, ?_⟩ <;> decide +kernel

/-- What SurfaceAndOutputIntents assumes, clause by clause, holds of these. -/
theorem witness_SurfaceAndOutputIntents :
    (W.newSurface.offers Owner.manager 0 32 { id := 0, owner := 64, queue := 0, desc := 1461501637671180094095724851312446326026444734496#512 } = true ∧
      dbit (1461501637671180094095724851312446326026444734496#512) 186 = false ∧
      W.newSurface.newSurfaceInvalid (1461501637671180094095724851312446326026444734496#512) 64 = false ∧ (¬(0 = 3 ∧ W.newSurface.eccOff = true)) ∧
      W.newSurface.grip.surfaces.length < 16384 ∧
      ((W.newSurface.startItem 0).placeNew (lowestFree W.newSurface.grip.surfaces 0) (intentSurface (1461501637671180094095724851312446326026444734496#512) 64)).isSome = true) ∧
    (W.badSurface.offers (Owner.guest 5) 0 32 { id := 0, owner := 5, queue := 0, desc := 340277174624389413645567422004163772448#512 } = true ∧
      dbit (340277174624389413645567422004163772448#512) 186 = false ∧
      W.badSurface.newSurfaceInvalid (340277174624389413645567422004163772448#512) 5 = true) ∧
    (W.intent.offers Owner.manager 0 33 { id := 0, owner := 64, queue := 0, desc := 20417253553067819897460206722429919602671649#512 } = true ∧
      W.intent.heldByNone 0 = true) := by
  decide +kernel

/-- What SurfaceRevisionsReleasesAndEnds assumes, clause by clause, holds of these. -/
theorem witness_SurfaceRevisionsReleasesAndEnds :
    (W.revise.offers Owner.manager 0 32 { id := 0, owner := 64, queue := 0, desc := 313855086772257041466451313342868700214343737975987895271456#512 } = true ∧
      W.revise.ownsSurface 64 7 = true ∧ W.revise.releasing 7 = false ∧ 7 ≠ 65535 ∧
      dbit (313855086772257041466451313342868700214343737975987895271456#512) 186 = false ∧ W.revise.critInvalid 64 0 2 = false ∧ (¬(0 = 3 ∧
      W.revise.eccOff = true))) ∧
    (W.releaseUsed.offers Owner.manager 0 32 { id := 0, owner := 64, queue := 0, desc := 98079714615416886934970555815629531544999017294055079968#512 } = true ∧
      W.releaseUsed.ownsSurface 64 7 = true ∧ W.releaseUsed.releasing 7 = false ∧ 7 ≠ 65535 ∧
      dbit (98079714615416886934970555815629531544999017294055079968#512) 186 = true ∧ W.releaseUsed.referred 7 = true) ∧
    (W.release.offers Owner.manager 0 32 { id := 0, owner := 64, queue := 0, desc := 98079714615416886934970555815629531544999017294055079968#512 } = true ∧
      W.release.ownsSurface 64 7 = true ∧ W.release.releasing 7 = false ∧ 7 ≠ 65535 ∧
      dbit (98079714615416886934970555815629531544999017294055079968#512) 186 = true ∧ W.release.referred 7 = false ∧
      (W.release.surf 7).reelSlices = []) ∧
    (W.releaseWaits.releasing 7 = true ∧ W.releaseWaits.referred 7 = false ∧ (W.releaseWaits.surf 7).reelSlices = [] ∧
      (W.releaseWaits.surf 7).releaseItem = some 0 ∧
      W.releaseWaits.item? 0 = some { id := 0, owner := 64, queue := 0, desc := 98079714615416886934970555815629531544999017294055079968#512 } ∧
      (W.releaseWaits.inst 64).busOff = false) := by
  decide +kernel

/-- What OutputIntentsOfInstancesAreRefused assumes, clause by clause, holds of these. -/
theorem witness_OutputIntentsOfInstancesAreRefused :
    (Owner.guest 5 ≠ Owner.manager ∧ Owner.guest 5 ≠ Owner.gaffer ∧
      W.intentGuest.offers (Owner.guest 5) 0 33 { id := 0, owner := 5, queue := 0, desc := 20417253553067819897460206722429919602671649#512 } = true) := by
  decide +kernel

/-- What EpochsAndMigrations assumes, clause by clause, holds of these. -/
theorem witness_EpochsAndMigrations :
    (W.fed.unsampled 3 = false ∧ (W.fed.unit 3).health ≠ Health.offline ∧ (W.fed.unit 3).health ≠ Health.failed) ∧
    ((W.copying.surf 7).migration = some { target := { channels := 2, granule := 0, base := 2097152 } } ∧ (W.copying.surf 7).copying = true ∧
      W.copying.gafferDown = false ∧ (W.copying.surf 7).sparse = false) ∧
    ((W.copied.surf 7).migration = some { target := { channels := 2, granule := 0, base := 2097152 }, copied := 16384, copyDone := true, cutover := true, users := [4] } ∧
      W.copied.oldUsed { target := { channels := 2, granule := 0, base := 2097152 }, copied := 16384, copyDone := true, cutover := true, users := [4] } = false ∧
      (W.copied.surf 7).state ≠ SurfState.releasing) := by
  decide +kernel

/-- What ReelWritesAndFetches assumes, clause by clause, holds of these. -/
theorem witness_ReelWritesAndFetches :
    (W.fed.accepts Requester.bittern (Obj.CRIT_RECTS 2) 2 = true ∧ W.fed.critRectsInvalid 2 2 = false) ∧
    (W.written.accepts Requester.bittern (Obj.CRIT_RECTS 2) 340282366920938463463374607431768211455 = true ∧
      W.written.critRectsInvalid 2 340282366920938463463374607431768211455 = true) ∧
    (W.fed.accepts Requester.bittern Obj.SUBST_TABLE 0 = true ∧ ((List.range 64).any fun i ↦ W.fed.substBad (substEntry 0 i)) = false) ∧
    (W.written.accepts Requester.bittern Obj.SUBST_TABLE 340282366920938463463374607431768211455 = true ∧
      ((List.range 64).any fun i ↦ W.written.substBad (substEntry 340282366920938463463374607431768211455 i)) = true) ∧
    (W.fed.accepts (Requester.field 0) (Obj.REEL_SCAN_MODE 2) 0 = true ∧ 0 < 2) ∧
    (W.rects.paired 0 = false ∧ (W.rects.out 0).phase ≠ RasterPhase.stopped ∧ bit (W.rects.rd (Obj.REEL_OUT_STATUS 0)) rosEmpty = false ∧
      0 < timVActive (W.rects.timing 0) ∧ W.rects.rd Obj.INJ_ENABLE ≠ 1 ∧ (W.rects.out 0).racingNow = false ∧ W.rects.dramFed 0 = false) ∧
    (W.racing.paired 0 = false ∧ (W.racing.out 0).phase ≠ RasterPhase.stopped ∧ bit (W.racing.rd (Obj.REEL_OUT_STATUS 0)) rosEmpty = false ∧
      2 < timVActive (W.racing.timing 0) ∧ W.racing.rd Obj.INJ_ENABLE ≠ 1 ∧ (W.racing.out 0).racingNow = true ∧ W.racing.dramFed 0 = false ∧ 0 ≤ 2 ∧
      (W.racing.out 0).slipLine = none) ∧
    (W.fed.paired 0 = false ∧ (W.fed.out 0).phase ≠ RasterPhase.stopped ∧ bit (W.fed.rd (Obj.REEL_OUT_STATUS 0)) rosEmpty = false ∧
      0 < timVActive (W.fed.timing 0) ∧ W.fed.rd Obj.INJ_ENABLE ≠ 1 ∧ (W.fed.out 0).racingNow = false ∧ W.fed.dramFed 0 = true ∧
      W.fed.log.fifo.length < 256) := by
  refine ⟨?_, ?_, ?_, ?_, ?_, ?_, ?_, ?_⟩ <;> decide +kernel

/-- What ShadowedDescriptorsAndColour assumes, clause by clause, holds of these. -/
theorem witness_ShadowedDescriptorsAndColour :
    (W.layerOff.offers Owner.manager 0 48 { id := 0, owner := 64, queue := 0, desc := 885443715538058477616#512 } = true ∧
      W.layerOff.substUnchecked = false ∧ (W.layerOff.startItem 0).layerStatus (885443715538058477616#512) 64 = Status.ok) ∧
    (W.layerBad.offers Owner.manager 0 48 { id := 0, owner := 64, queue := 0, desc := 1106804644422573097008#512 } = true ∧
      W.layerBad.substUnchecked = false ∧ (W.layerBad.startItem 0).layerStatus (1106804644422573097008#512) 64 ≠ Status.ok) ∧
    (isColourShadow 3014921 = true ∧ (Requester.gaffer = Requester.gaffer ∨ Requester.gaffer = Requester.manager) ∧
      W.colour.accepts Requester.gaffer 3014921 1 = true ∧ (¬(11777 < 11776 ∧ 9 = 3 ∧ matrixBad 1 = true)) ∧ 0 = Status.ok) ∧
    (isColourShadow 2949123 = true ∧ (Requester.gaffer = Requester.gaffer ∨ Requester.gaffer = Requester.manager) ∧
      W.colour.accepts Requester.gaffer 2949123 3014661 = true ∧ 11520 < 11776 ∧ matrixBad 3014661 = true) ∧
    (W.fed.accepts Requester.gaffer (Obj.OUT_LUT3D_SWAP 3) 1 = true ∧ (W.fed.out 3).swapAsked = none) ∧
    (W.swapAsked.accepts Requester.gaffer (Obj.OUT_LUT3D_SWAP 0) 1 = true ∧ (W.swapAsked.out 0).swapAsked.isSome = true) := by
  refine ⟨?_, ?_, ?_, ?_, ?_, ?_⟩ <;> decide +kernel

/-- What CommitsArePendingUntilTheLatch assumes, clause by clause, holds of these. -/
theorem witness_CommitsArePendingUntilTheLatch :
    (W.commitGuest.offers (Owner.guest 5) 0 49 { id := 0, owner := 5, queue := 0, desc := 6100568513598353994702884175921#512 } = true ∧ 0 ≤ 11 ∧
      W.commitGuest.mayCommit 5 0 = false) ∧
    (W.commitStopped.offers Owner.manager 0 49 { id := 0, owner := 64, queue := 0, desc := 6100568513653694226924012830769#512 } = true ∧ 3 ≤ 11 ∧
      W.commitStopped.mayCommit 64 3 = true ∧ W.commitStopped.pairOdd 3 = false ∧ (W.commitStopped.out 3).state.running = false) ∧
    (W.commit.offers Owner.manager 0 49 { id := 0, owner := 64, queue := 0, desc := 6100568513598353994702884175921#512 } = true ∧ 0 ≤ 11 ∧
      W.commit.mayCommit 64 0 = true ∧ W.commit.pairOdd 0 = false ∧ (W.commit.out 0).state.running = true ∧
      (W.commit.out 0).state ≠ OutState.glassHold) := by
  decide +kernel

/-- What LatchPointsAndStrictDecisions assumes, clause by clause, holds of these. -/
theorem witness_LatchPointsAndStrictDecisions :
    (W.holds.pairOdd 0 = false ∧ (W.holds.out 0).phase = RasterPhase.activeLines) ∧
    (W.strict.pairOdd 0 = false ∧ (W.strict.out 0).phase = RasterPhase.blanking ∧ (W.strict.out 0).strict = true ∧ 1083 = W.strict.firstDecision 0 ∧
      (W.strict.out 0).oldest = none) ∧
    (W.strictReady.pairOdd 0 = false ∧ (W.strictReady.out 0).phase = RasterPhase.blanking ∧ (W.strictReady.out 0).strict = true ∧
      1083 = W.strictReady.firstDecision 0 ∧
      (W.strictReady.out 0).oldest = some { id := 4, seq := 9, commits := [{ item := 0, owner := 64, seq := 9, order := 3, acceptedAt := 0 }], buffer := 1, parts := [{ engine := some 2, half := 0, estimateNs := 1000, startedAt := 0, done := true }], complete := true }) ∧
    (W.strict.pairOdd 0 = false ∧ (W.strict.out 0).phase = RasterPhase.blanking ∧ (W.strict.out 0).strict = true ∧ 0 ≠ W.strict.firstDecision 0) := by
  decide +kernel

/-- What FramesStartShowAndStop assumes, clause by clause, holds of these. -/
theorem witness_FramesStartShowAndStop :
    (W.goes.paired 0 = false ∧ (W.goes.out 0).phase = RasterPhase.going false) ∧
    (W.goesShows.paired 0 = false ∧ (W.goesShows.out 0).phase = RasterPhase.going true ∧
      (W.goesShows.out 0).oldest = some { id := 4, seq := 9, commits := [{ item := 0, owner := 64, seq := 9, order := 3, acceptedAt := 0 }], buffer := 1, parts := [{ engine := some 2, half := 0, estimateNs := 1000, startedAt := 0, done := true }], complete := true }) ∧
    (W.nop.paired 3 = false ∧ (∀ (b : Bool), (W.nop.out 3).phase ≠ RasterPhase.going b)) ∧
    (W.holds.paired 0 = false ∧ (W.holds.out 0).state = OutState.holdEntry ∧ (W.holds.out 0).phase = RasterPhase.activeLines ∧
      (W.holds.out 0).pending = []) := by
  decide +kernel

/-- What EnginesFinishAndFail assumes, clause by clause, holds of these. -/
theorem witness_EnginesFinishAndFail :
    (W.composes.workOf 2 = some (0,
      { id := 4, seq := 9, commits := [{ item := 0, owner := 64, seq := 9, order := 3, acceptedAt := 0 }], buffer := 1, parts := [{ engine := some 2, half := 0, estimateNs := 1000, startedAt := 0 }] }) ∧
      (∀ (p : Part), p ∈ [{ engine := some 2, half := 0, estimateNs := 1000, startedAt := 0 }] → p.engine = some 2 ∨ p.done = true) ∧
      { id := 4, seq := 9, commits := [{ item := 0, owner := 64, seq := 9, order := 3, acceptedAt := 0 }], buffer := 1, parts := [{ engine := some 2, half := 0, estimateNs := 1000, startedAt := 0 }] } ∈ (W.composes.out 0).comps ∧
      (W.composes.out 0).splitEnding = false) ∧
    (W.nop.workOf 3 = none) ∧
    (W.nop.workOf 9 = none) := by
  decide +kernel

/-- What OutputWritesAndRouting assumes, clause by clause, holds of these. -/
theorem witness_OutputWritesAndRouting :
    (W.nop.accepts Requester.gaffer (Obj.OUT_LATCH_MODE 8) 0 = true ∧ W.nop.paired 8 = false ∧ (0 ≠ 0 ∨ Requester.gaffer = Requester.gaffer ∧
      bit W.nop.boot.strictHolds 1 = false ∧ bit W.nop.boot.strictHolds 2 = false)) ∧
    (W.nop.accepts Requester.manager (Obj.OUT_LATCH_MODE 1) 0 = true ∧ W.nop.paired 1 = false ∧ Requester.manager ≠ Requester.gaffer) ∧
    (W.strictHeld.accepts Requester.gaffer (Obj.OUT_LATCH_MODE 8) 0 = true ∧ W.strictHeld.paired 8 = false ∧
      (bit W.strictHeld.boot.strictHolds 1 = true ∨ bit W.strictHeld.boot.strictHolds 2 = true)) ∧
    (W.nop.accepts Requester.gaffer Obj.OUT_PAIR_LOCK 5 = true ∧ (∀ (n : Nat), n < 6 → (W.nop.out (2 * n)).state.running = false ∧
      (W.nop.out (2 * n + 1)).state.running = false ∧ (W.nop.out (2 * n + 1)).intent = none ∧ W.nop.pairWatched n = false)) ∧
    (W.goes.accepts Requester.gaffer Obj.OUT_PAIR_LOCK 1281 = true ∧ 0 < 6 ∧
      bit (W.goes.merged Obj.OUT_PAIR_LOCK 1281) 0 ≠ bit (W.goes.rd Obj.OUT_PAIR_LOCK) 0 ∧ (W.goes.out 0).state.running = true) ∧
    (W.disabled.accepts Requester.manager (Obj.OUT_ENABLE 5) 1 = true ∧ W.disabled.rd (Obj.OUT_ENABLE 5) = 0 ∧
      (W.disabled.out (W.disabled.governor 5)).intent = none) ∧
    (W.nop.accepts Requester.gaffer (Obj.OUT_ENABLE 3) 0 = true ∧ W.nop.rd (Obj.OUT_ENABLE 3) ≠ 0 ∧ (W.nop.out 3).state = OutState.off) ∧
    (W.goes.accepts Requester.gaffer (Obj.OUT_PORT 0) 2 = true ∧ (W.goes.out 0).state.running = true) ∧
    (W.nop.accepts Requester.gaffer (Obj.OUT_PORT 6) 1 = true ∧ (W.nop.out 6).state.running = false ∧ 1 < 14 ∧ (∃ j, j < 12 ∧ j ≠ 6 ∧
      W.nop.rd (Obj.OUT_PORT j) = 1)) ∧
    (W.goes.accepts Requester.gaffer (Obj.OUT_PORT 3) 3 = true ∧ (W.goes.out 3).state.running = false ∧ (3 = 255 ∨ 3 < 14 ∧ (∀ (j : Nat), j < 12 →
      j ≠ 3 → W.goes.rd (Obj.OUT_PORT j) ≠ 3) ∧ W.goes.attached 3 = false)) := by
  refine ⟨?_, ?_, ?_, ?_, ?_, ?_, ?_, ?_, ?_, ?_⟩ <;> decide +kernel

/-- What AttachLevelsAndSinkInterrupts assumes, clause by clause, holds of these. -/
theorem witness_AttachLevelsAndSinkInterrupts :
    (W.nop.outputOf 13 = none) ∧
    (W.pulled.attached 0 = true ∧ W.pulled.attachLevel 0 = false ∧ W.pulled.outputOf 0 = some 0 ∧ (W.pulled.out 0).state = OutState.active ∧
      W.pulled.paired 0 = false) ∧
    (W.pulled.attached 13 = true ∧ W.pulled.attachLevel 13 = false ∧ W.pulled.outputOf 13 = none) ∧
    (W.pulled.attached 0 = true ∧ W.pulled.attachLevel 0 = false ∧ W.pulled.outputOf 0 = some 0 ∧ (W.pulled.out 0).state.running = true ∧
      W.pulled.paired 0 = false) ∧
    (W.waiting.attached 13 = false ∧ W.waiting.attachLevel 13 = true ∧ W.waiting.outputOf 13 = none) ∧
    (W.pulled.isDp 0 = true ∧ W.pulled.attached 0 = true) := by
  refine ⟨?_, ?_, ?_, ?_, ?_, ?_⟩ <;> decide +kernel

/-- What LinkTraining assumes, clause by clause, holds of these. -/
theorem witness_LinkTraining :
    (W.training.ps 12 psTraining = true ∧ W.training.portKind 12 ≠ 2 ∧ W.training.portKind 12 ≠ 3 ∧
      (W.training.port 12).candidates = [{ lanes := 1, rate := 1, dsc := 0 }]) ∧
    (W.training.ps 12 psTraining = true ∧ (W.training.port 12).candidates = [{ lanes := 1, rate := 1, dsc := 0 }] ∧ W.training.outputOf 12 = none) ∧
    (W.exhausted.ps 0 psTraining = false ∧ W.exhausted.ps 0 psLinkUp = false ∧ (W.exhausted.port 0).rerun ≠ [] ∧ W.exhausted.outputOf 0 = some 0 ∧
      W.exhausted.candidates 0 (W.exhausted.timing 0) ≠ []) ∧
    (W.linked.outputOf 0 = some 0 ∧ (W.linked.port 0).link = some { lanes := 4, rate := 3, dsc := 0 } ∧ W.linked.ps 0 psLinkUp = true ∧
      W.linked.portKind 0 ≠ 2 ∧ W.linked.portKind 0 ≠ 3 ∧ (W.linked.out 0).state.running = true ∧ (W.linked.out 0).state ≠ OutState.glassHold) ∧
    (W.goes.accepts Requester.gaffer (Obj.PORT_RETRAIN 0) 1 = true ∧ W.goes.outputOf 0 = some 0 ∧ (W.goes.out 0).state.running = true ∧
      W.goes.ps 0 psMismatch = false ∧ (W.goes.out 0).state ≠ OutState.glassHold) := by
  decide +kernel

/-- What QueueDisableAndResume assumes, clause by clause, holds of these. -/
theorem witness_QueueDisableAndResume :
    (W.nop.windowLive 64 = true ∧ ((W.nop.inst 64).queue 4).sizeLog2 = 0) := by
  decide +kernel

/-- What DoorbellsAndSlotRequests assumes, clause by clause, holds of these. -/
theorem witness_DoorbellsAndSlotRequests :
    (W.nop.windowLive 64 = true ∧ W.nop.resetting 64 = false ∧ ((W.nop.inst 64).queue 0).enable = true ∧
      wrapAdd 32 5 (4294967296 - ((W.nop.inst 64).queue 0).tail) < 2147483648 ∧
      wrapAdd 32 5 (4294967296 - ((W.nop.inst 64).queue 0).head) ≤ 2 ^ ((W.nop.inst 64).queue 0).sizeLog2 ∧
      wrapAdd 32 5 (4294967296 - ((W.nop.inst 64).queue 0).tail) ≤ 2 ^ ((W.nop.inst 64).queue 0).sizeLog2) ∧
    (W.queuesDraining.windowLive 5 = true ∧ W.queuesDraining.resetting 5 = true) ∧
    (W.nop.windowLive 64 = true ∧ W.nop.resetting 64 = false ∧ ((W.nop.inst 64).queue 13).enable = false) ∧
    (W.slotRequest.offers (Owner.guest 5) 0 3 { id := 0, owner := 5, queue := 0, desc := 261677140162597819215906394802997474361347#512 } = true ∧
      dbit (261677140162597819215906394802997474361347#512) 146 = false ∧ W.slotRequest.freeSlot = some 0 ∧ (5 < 64 →
      W.slotRequest.slotsArmedFor 5 < 4 ∧ bit (W.slotRequest.rd (Obj.INST_DB_GRANT 5)) 1 = true) ∧
      ((W.slotRequest.startItem 0).armFor 0 5 7 259 21474836480 1).fst = Status.ok) ∧
    (W.slotQuota.offers (Owner.guest 5) 0 3 { id := 0, owner := 5, queue := 0, desc := 261677140162597819215906394802997474361347#512 } = true ∧
      dbit (261677140162597819215906394802997474361347#512) 146 = false ∧ 4 ≤ W.slotQuota.slotsArmedFor 5) ∧
    (W.slotCancel.offers (Owner.guest 5) 0 3 { id := 0, owner := 5, queue := 0, desc := 11507184522441801541032430628686554537085894659#512 } = true ∧
      dbit (11507184522441801541032430628686554537085894659#512) 146 = true ∧ W.slotCancel.rd (Obj.SLOT_OWNER 2) = 5 ∧ W.slotCancel.armed 2 = true) ∧
    (W.slotCancelOther.offers (Owner.guest 5) 0 3 { id := 0, owner := 5, queue := 0, desc := 11507184522441801541032430628686554537085894659#512 } = true ∧
      dbit (11507184522441801541032430628686554537085894659#512) 146 = true ∧ W.slotCancelOther.rd (Obj.SLOT_OWNER 2) ≠ 5) := by
  refine ⟨?_, ?_, ?_, ?_, ?_, ?_, ?_⟩ <;> decide +kernel

/-- What FetchesNopsAndFences assumes, clause by clause, holds of these. -/
theorem witness_FetchesNopsAndFences :
    (W.holds.mayFetch 192 6 = true ∧ headerInvalid 257#512 = false ∧ W.holds.item? W.holds.nextItem = none) ∧
    (W.goes.mayFetch 192 3 = true ∧
      headerInvalid 846151640051518610506861969047209039494071117162841771988727943842802863852629378102531084002496249189077219794894604151554053#512 = true ∧
      W.goes.item? W.goes.nextItem = none ∧ (W.goes.inst 192).busOff = false) ∧
    (W.nop.mayFetch 5 2 = false) ∧
    (W.nop.offers (Owner.guest 5) 0 1 { id := 0, owner := 5, queue := 0, desc := 1#512 } = true) ∧
    (W.fence.offers (Owner.guest 5) 0 2 { id := 0, owner := 5, queue := 0, desc := 2#512 } = true ∧
      (dbit (2#512) 64 = false ∨ 64 ≤ 5 ∨ bit (W.fence.rd (Obj.INST_DB_GRANT 5)) 0 = true)) ∧
    (W.fenceForbidden.offers (Owner.guest 5) 0 2 { id := 0, owner := 5, queue := 0, desc := 33370160029340578873346#512 } = true ∧
      dbit (33370160029340578873346#512) 64 = true ∧ 5 < 64 ∧ bit (W.fenceForbidden.rd (Obj.INST_DB_GRANT 5)) 1 = false) ∧
    ((List.filter (fun i ↦ decide (i.owner = 5) && decide (i.queue = 0)) W.fenceRuns.items).head? = some { id := 0, owner := 5, queue := 0, desc := 2#512, started := true } ∧
      W.fenceRuns.item? 0 = some { id := 0, owner := 5, queue := 0, desc := 2#512, started := true } ∧ (W.fenceRuns.inst 5).busOff = false ∧
      dbit (2#512) 64 = false) ∧
    ((List.filter (fun i ↦ decide (i.owner = 5) && decide (i.queue = 0)) W.fenceRunsRings.items).head? = some { id := 0, owner := 5, queue := 0, desc := 33370160029340578873346#512, started := true } ∧
      W.fenceRunsRings.item? 0 = some { id := 0, owner := 5, queue := 0, desc := 33370160029340578873346#512, started := true } ∧
      (W.fenceRunsRings.inst 5).busOff = false ∧ dbit (33370160029340578873346#512) 64 = true ∧ (W.fenceRunsRings.ring 1 128).fst = Status.ok ∧
      W.fenceRunsRings.receiverUp 1 = true) := by
  refine ⟨?_, ?_, ?_, ?_, ?_, ?_, ?_, ?_⟩ <;> decide +kernel

/-- What DmaTransfers assumes, clause by clause, holds of these. -/
theorem witness_DmaTransfers :
    (W.dma.offers Owner.manager 0 8 { id := 0, owner := 64, queue := 0, desc := 401734511158283673674668309850326488386892045750155824070664#512 } = true ∧
      W.dma.ownsSurface 64 7 = true ∧ 0 < 64 ∧ 64 ≤ 268435456 ∧ 128 ≤ (W.dma.surf 7).bytes ∧ W.dma.releasing 7 = false ∧
      (W.dma.inst 64).suspended = false ∧ (∀ (x : Nat), x ∈ W.dma.dmaWaiting → (W.dma.inst x).dmaBalance ≤ (W.dma.inst 64).dmaBalance)) ∧
    (W.dmaOutside.offers Owner.manager 0 8 { id := 0, owner := 64, queue := 0, desc := 401734511158283673674668309850326489595817865364784998776840#512 } = true ∧
      W.dmaOutside.ownsSurface 64 8 = false) ∧
    (W.dmaRuns.item? 0 = some { id := 0, owner := 64, queue := 0, desc := 401734511158283673674668309850326488386892045750155824070664#512, started := true } ∧
      (W.dmaRuns.inst 64).busOff = false ∧ (W.dmaRuns.inst 64).state ≠ InstState.teardown ∧ W.dmaRuns.rd Obj.INJ_ENABLE ≠ 1 ∧
      dbit (401734511158283673674668309850326488386892045750155824070664#512) 64 = true ∧ W.dmaRuns.ownsSurface 64 7 = true ∧
      W.dmaRuns.rangePoisoned 7 64 64 = false) := by
  decide +kernel

/-- What InstancesAreMadeAndReset assumes, clause by clause, holds of these. -/
theorem witness_InstancesAreMadeAndReset :
    (Owner.guest 5 ≠ Owner.manager ∧
      W.createGuest.offers (Owner.guest 5) 0 16 { id := 0, owner := 5, queue := 0, desc := 19807040631240862289073872568336#512 } = true ∧
      W.createGuest.bitternDown = false) ∧
    (W.controlReset.offers Owner.manager 0 17 { id := 0, owner := 64, queue := 0, desc := 92233720368547758097#512 } = true ∧ 5 < 64 ∧
      (W.controlReset.inst 5).state = InstState.active ∧ dbit (92233720368547758097#512) 72 = false) ∧
    (W.controlRemove.offers Owner.manager 0 17 { id := 0, owner := 64, queue := 0, desc := 4814600203238192971793#512 } = true ∧ 5 < 64 ∧
      (W.controlRemove.inst 5).state = InstState.active ∧ dbit (4814600203238192971793#512) 72 = true) ∧
    (W.dma.windowLive 64 = true ∧ W.dma.resetting 64 = false) ∧
    (5 ∈ W.dirty.boundTo 1 ∧ W.dirty.resetting 5 = false) ∧
    ((W.draining.inst 5).state = InstState.draining ∧ ((W.draining.inst 5).drainUntil ≤ W.draining.dtime ∨ W.draining.itemsOf 5 = [])) ∧
    ((W.teardown.inst 5).state = InstState.teardown ∧ W.teardown.itemsOf 5 = [] ∧ (W.teardown.inst 5).awaitFlip = [] ∧
      (W.teardown.grip.surfaces.any fun e ↦ decide (e.snd.owner = 5) && W.teardown.referred e.fst) = false ∧ W.teardown.bitternDown = false ∧
      (W.teardown.inst 5).asker = none ∧ (W.teardown.inst 5).removing = false) ∧
    ((W.removing.inst 5).state = InstState.teardown ∧ W.removing.itemsOf 5 = [] ∧ (W.removing.inst 5).awaitFlip = [] ∧
      (W.removing.grip.surfaces.any fun e ↦ decide (e.snd.owner = 5) && W.removing.referred e.fst) = false ∧ W.removing.bitternDown = false ∧
      (W.removing.inst 5).asker = none ∧ (W.removing.inst 5).removing = true) := by
  refine ⟨?_, ?_, ?_, ?_, ?_, ?_, ?_, ?_⟩ <;> decide +kernel

/-- What LayerGrantsAndDirtyLogs assumes, clause by clause, holds of these. -/
theorem witness_LayerGrantsAndDirtyLogs :
    (W.big.accepts Requester.gaffer (Obj.INST_LAYER_GRANTS 27) 0 = true ∧ 0 ≤ W.big.rd (Obj.INST_LAYER_QUOTA 27) ∧
      ((grantList 0).any fun p ↦ (List.range 64).any fun j ↦ !decide (j = 27) && bit (W.big.rd (Obj.INST_LAYER_GRANTS j)) (16 * p.fst + p.snd)) = false ∧
      (∀ (p : Nat × Nat), p ∈ grantList (W.big.rd (Obj.INST_LAYER_GRANTS 27)) → p ∈ grantList 0)) ∧
    (W.dma.accepts Requester.gaffer (Obj.INST_LAYER_GRANTS 3) 46 = true ∧
      (W.dma.rd (Obj.INST_LAYER_QUOTA 3) < 4 ∨ ((grantList 46).any fun p ↦ (List.range 64).any fun j ↦ !decide (j = 3) && bit (W.dma.rd (Obj.INST_LAYER_GRANTS j)) (16 * p.fst + p.snd)) = true)) ∧
    ((W.bound.inst 5).dirty.swapDone = true ∧ (W.bound.inst 5).state ≠ InstState.free) ∧
    ((W.dirtyAsked.inst 5).dirty.swapAsked = true) ∧
    ((W.dirtySwapped.inst 5).dirty.swapDone = false) := by
  decide +kernel

/-- What JobsAreTakenReleasedAndEnd assumes, clause by clause, holds of these. -/
theorem witness_JobsAreTakenReleasedAndEnd :
    (W.render.offers Owner.manager 0 64 { id := 0, owner := 64, queue := 0, desc := 39402006187220484748319797032034557520145131016491021531334867112663918608650270764166700188310337562474118081675328#512 } = true ∧
      W.render.renderBad 64 39402006187220484748319797032034557520145131016491021531334867112663918608650270764166700188310337562474118081675328#512 = false) ∧
    (W.renderBad.offers Owner.manager 0 64 { id := 0, owner := 64, queue := 0, desc := 822802495474486114523595277594060913822696751660345643950407744#512 } = true ∧
      W.renderBad.renderBad 64 822802495474486114523595277594060913822696751660345643950407744#512 = true) ∧
    (W.compute.offers Owner.manager 0 65 { id := 0, owner := 64, queue := 0, desc := 726838724295606890509921801700784049626682476997800063245666891156609447909269814658783507320745516549962038329435408900621583972827201#512 } = true ∧
      W.compute.computeStatus 64 726838724295606890509921801700784049626682476997800063245666891156609447909269814658783507320745516549962038329435408900621583972827201#512 = Status.ok) ∧
    (W.computeUnknown.offers Owner.manager 0 65 { id := 0, owner := 64, queue := 0, desc := 726838724295606890509921801700784049626682476997800063245666891156609447909269814658783507320745516549962038329435408900621583972827201#512 } = true ∧
      W.computeUnknown.computeStatus 64 726838724295606890509921801700784049626682476997800063245666891156609447909269814658783507320745516549962038329435408900621583972827201#512 ≠ Status.ok) ∧
    (W.renderWaits.nextJob = some { item := 0, owner := 64, queue := 0, uses := [7], start := { frame := 0#32, line := 0#16, frac := 0#16 } } ∧
      W.renderWaits.rd Obj.INJ_ENABLE ≠ 1 ∧ dType (W.renderWaits.descOf 0) = 64) ∧
    (W.computeWaits.nextJob = some { item := 0, owner := 64, queue := 0, uses := [7], start := { frame := 0#32, line := 0#16, frac := 0#16 } } ∧
      W.computeWaits.rd Obj.INJ_ENABLE ≠ 1 ∧ dType (W.computeWaits.descOf 0) = 65 ∧
      groupsBad (W.computeWaits.groups (W.computeWaits.descOf 0)) = false ∧
      W.computeWaits.pipeline? 64 (dfield (W.computeWaits.descOf 0) 207 192) = some { graphics := false, stages := [1], shared := 0 }) ∧
    (W.renderEnds.job? 0 = some { item := 0, owner := 64, queue := 0, resident := true, uses := [7], start := { frame := 0#32, line := 0#16, frac := 0#16 }, binned := true } ∧
      W.renderEnds.item? 0 = some { id := 0, owner := 64, queue := 0, desc := 39402006187220484748319797032034557520145131016491021531334867112663918608650270764166700188310337562474118081675328#512, started := true } ∧
      (W.renderEnds.inst 64).busOff = false ∧ (true = true ∨ 64 = 65)) ∧
    (W.bins.job? 0 = some { item := 0, owner := 64, queue := 0, resident := true, uses := [7], start := { frame := 0#32, line := 0#16, frac := 0#16 } } ∧
      W.bins.item? 0 = some { id := 0, owner := 64, queue := 0, desc := 39402006187220484748319797032034557520145131016491021531334867112663918608650270764166700188310337562474118081675328#512, started := true } ∧
      (W.bins.inst 64).busOff = false) := by
  refine ⟨?_, ?_, ?_, ?_, ?_, ?_, ?_, ?_⟩ <;> decide +kernel

/-- What ClustersWorkFaultAndYield assumes, clause by clause, holds of these. -/
theorem witness_ClustersWorkFaultAndYield :
    (List.find? (W.tiles.fits 3) W.tiles.raster.work = some { job := 0, index := 0, bytes := 0 } ∧ (W.tiles.unit 23).health.leftOut = false ∧
      (W.tiles.unit 23).health ≠ Health.offline ∧ (¬3 ∈ W.tiles.clocks.held) ∧ W.tiles.rd Obj.INJ_ENABLE ≠ 1) ∧
    (W.onTile.onCluster 3 = [{ job := 0, index := 0, bytes := 0 }] ∧
      W.onTile.job? 0 = some { item := 0, owner := 64, queue := 0, resident := true, uses := [7], start := { frame := 0#32, line := 0#16, frac := 0#16 }, binned := true, left := 1 } ∧
      W.onTile.rd Obj.INJ_ENABLE ≠ 1 ∧ 64 ≤ 64) ∧
    ((∀ (w : WorkItem), w ∈ W.dma.onCluster 1 → W.dma.isTile w = true)) ∧
    (W.onCompute.onCluster 3 = [{ job := 0, index := 0, bytes := 0 }] ∧ W.onCompute.isTile { job := 0, index := 0, bytes := 0 } = false ∧
      W.onCompute.job? 0 = some { item := 0, owner := 64, queue := 0, resident := true, uses := [7], start := { frame := 0#32, line := 0#16, frac := 0#16 }, left := 2 } ∧
      W.onCompute.item? 0 = some { id := 0, owner := 64, queue := 0, desc := 726838724295606890509921801700784049626682476997800063245666891156609447909269814658783507320745516549962038329435408900621583972827201#512, started := true } ∧
      (W.onCompute.inst 64).busOff = false) ∧
    ((W.guarded.inst 5).suspended = true ∧ (∀ (e : Nat × List WorkItem), e ∈ W.guarded.raster.saved → e.fst ≠ 5)) ∧
    ((W.dma.inst 2).suspended = false) := by
  refine ⟨?_, ?_, ?_, ?_, ?_, ?_⟩ <;> decide +kernel

/-- What PipelinesAndPages assumes, clause by clause, holds of these. -/
theorem witness_PipelinesAndPages :
    (W.pipeCreate.offers Owner.manager 0 66 { id := 0, owner := 64, queue := 0, desc := 748288838313422294120841231488336756426992269656130#512 } = true ∧
      W.pipeCreate.imageBad 64 748288838313422294120841231488336756426992269656130#512 = false ∧ (∀ (i : Nat),
      i < W.pipeCreate.imageStages 748288838313422294120841231488336756426992269656130#512 →
      W.pipeCreate.stageBad (748288838313422294120841231488336756426992269656130#512) i = false) ∧ (∀ (i : Nat),
      i < W.pipeCreate.imageStages 748288838313422294120841231488336756426992269656130#512 →
      W.pipeCreate.cached 64 (W.pipeCreate.stageKey (748288838313422294120841231488336756426992269656130#512) i) = none) ∧
      0 < W.pipeCreate.imageStages 748288838313422294120841231488336756426992269656130#512) ∧
    (W.pipeBad.offers Owner.manager 0 66 { id := 0, owner := 64, queue := 0, desc := 748288838324311329862311262319164743864808852422722#512 } = true ∧
      W.pipeBad.imageBad 64 748288838324311329862311262319164743864808852422722#512 = true) ∧
    (W.pipeDestroyUnknown.offers Owner.manager 0 66 { id := 0, owner := 64, queue := 0, desc := 10880350823275736281907266#512 } = true ∧
      W.pipeDestroyUnknown.pipeline? 64 9 = none) ∧
    (W.pipeDestroy.offers Owner.manager 0 66 { id := 0, owner := 64, queue := 0, desc := 3626795905587961233670210#512 } = true ∧
      W.pipeDestroy.pipeline? 64 3 = some { graphics := false, stages := [1], shared := 0 } ∧ (∀ (j : Job), j ∈ W.pipeDestroy.jobs →
      j.resident = true → j.owner = 64 → ¬3 ∈ j.handles) ∧ 3 < 1024) ∧
    (W.translating.raster.creating.head? = some { item := 0, owner := 64, graphics := true, keys := [11], missing := [0] } ∧
      W.translating.item? 0 = some { id := 0, owner := 64, queue := 0, desc := 748288838313422294120841231488336756426992269656130#512, started := true } ∧
      (W.translating.inst 64).busOff = false ∧ W.translating.gafferDown = false ∧ W.translating.freeHandle 64 = some 0 ∧ 0 ≤ 32768 ∧
      W.translating.cacheBytes + 1 ≤ W.translating.rd Obj.RAS_XLATE_CACHE_BYTES) ∧
    (W.grant.offers Owner.manager 0 67 { id := 0, owner := 64, queue := 0, desc := 680564733921105089570140760973047234627#512 } = true ∧
      dbit (680564733921105089570140760973047234627#512) 80 = false ∧
      W.grant.pbInvalid 64 (680564733921105089570140760973047234627#512) true = false) ∧
    (W.grantBad.offers Owner.manager 0 67 { id := 0, owner := 64, queue := 0, desc := 680564734079561414598669436160135135299#512 } = true ∧
      dbit (680564734079561414598669436160135135299#512) 80 = false ∧
      W.grantBad.pbInvalid 64 (680564734079561414598669436160135135299#512) true = true) ∧
    (W.revoke.offers Owner.manager 0 67 { id := 0, owner := 64, queue := 0, desc := 680564733921106298495960375602221940803#512 } = true ∧
      dbit (680564733921106298495960375602221940803#512) 80 = true ∧
      W.revoke.pbInvalid 64 (680564733921106298495960375602221940803#512) false = false ∧ (∀ (p : PbPage), p ∈ W.revoke.pool 64 → p.surface = 7 ∧
      1 ≤ p.page ∧ p.page < 3 → p.job = none)) := by
  refine ⟨?_, ?_, ?_, ?_, ?_, ?_, ?_, ?_⟩ <;> decide +kernel

/-- What RefreshAndMargins assumes, clause by clause, holds of these. -/
theorem witness_RefreshAndMargins :
    (W.active.chanActive 1 = true ∧ W.active.native = true ∧ (W.active.chan 1).slotWaits = 0 ∧ W.active.feedsOutput 1 = true ∧ W.active.debt 1 < 8 ∧
      -100 < W.active.debt 1) ∧
    (W.activeFull.chanActive 1 = true ∧ W.activeFull.native = true ∧ (W.activeFull.chan 1).slotWaits = 0 ∧ W.activeFull.feedsOutput 1 = true ∧
      W.activeFull.debt 1 = 8) ∧
    ((W.active.backing 0).dram = some { channel := 1, base := 8, units := 16 } ∧ W.active.chanActive 1 = true ∧ W.active.native = true ∧ 1 < 8 ∧
      0 ≤ W.active.debt 1 ∧ W.active.debt 1 ≤ 8) ∧
    (W.compat.chanActive 2 = true ∧ W.compat.native = false ∧ (W.compat.chan 2).replaced = 0) ∧
    (W.compatReplaced.chanActive 1 = true ∧ W.compatReplaced.native = false ∧ 0 < (W.compatReplaced.chan 1).replaced) ∧
    (W.active.chanActive 2 = true ∧ W.active.rd Obj.INJ_ENABLE ≠ 1 ∧ W.active.rd Obj.MEM_SPARE_STATE ≠ 2 ∧ (W.active.chan 2).halved = false) ∧
    (W.active.chanActive 1 = true ∧ (W.active.chan 1).sweep = none ∧ W.active.nextSweep 1 = some 0) ∧
    ((W.sweepingRecentre.chan 1).sweep = some (0, 2) ∧ W.sweepingRecentre.rd Obj.INJ_ENABLE ≠ 1 ∧ W.sweepingRecentre.gafferDown = false ∧
      (W.sweepingRecentre.rd Obj.MEM_RECENTRE_EN ≠ 1 ∨ 1 < W.sweepingRecentre.rd Obj.MEM_RECENTRE_THRESHOLD)) ∧
    ((W.sweeping.chan 1).sweep = some (0, 2) ∧ W.sweeping.rd Obj.INJ_ENABLE ≠ 1 ∧ W.sweeping.gafferDown = false ∧
      W.sweeping.rd Obj.MEM_RECENTRE_EN = 1 ∧ W.sweeping.rd Obj.MEM_RECENTRE_THRESHOLD ≤ 20) := by
  refine ⟨?_, ?_, ?_, ?_, ?_, ?_, ?_, ?_, ?_⟩ <;> decide +kernel

/-- What MemoryErrorsAreCountedAndSpared assumes, clause by clause, holds of these. -/
theorem witness_MemoryErrorsAreCountedAndSpared :
    (bit W.active.memConf.ecc 1 = true ∧ W.active.polled 1 = true ∧
      (W.active.rd Obj.MEM_CE_RETIRE_LIMIT = 0 ∨ (W.active.ce24 1).length + 1 ≤ W.active.rd Obj.MEM_CE_RETIRE_LIMIT)) ∧
    (bit W.errorLimit.memConf.ecc 2 = true ∧ W.errorLimit.polled 2 = true ∧ W.errorLimit.rd Obj.MEM_CE_RETIRE_LIMIT ≠ 0 ∧
      W.errorLimit.rd Obj.MEM_CE_RETIRE_LIMIT ≤ (W.errorLimit.ce24 2).length ∧ W.errorLimit.rd (Obj.RANK_STATE 2) = 1 ∧
      W.errorLimit.rd Obj.MEM_SPARE_STATE = 1 ∧ W.errorLimit.memConf.spare < 16 ∧ W.errorLimit.memConf.spare ≠ 2) ∧
    (W.failedRank.chanActive 1 = true ∧ bit W.failedRank.memConf.ecc (W.failedRank.rankAt 1 3) = true ∧
      W.failedRank.rd (Obj.RANK_STATE (W.failedRank.rankAt 1 3)) = 7 ∧ 3 < W.failedRank.rankBytes 2 + W.failedRank.rankBytes 3 ∧
      W.failedRank.rd Obj.MEM_SPARE_STATE ≠ 2) ∧
    (W.failedRankRead.chanActive 1 = true ∧ bit W.failedRankRead.memConf.ecc (W.failedRankRead.rankAt 1 3) = true ∧
      W.failedRankRead.rd (Obj.RANK_STATE (W.failedRankRead.rankAt 1 3)) = 7 ∧ 3 < W.failedRankRead.rankBytes 2 + W.failedRankRead.rankBytes 3 ∧
      W.failedRankRead.rd Obj.MEM_SPARE_STATE ≠ 2 ∧
      W.failedRankRead.item? 0 = some { id := 0, owner := 64, queue := 0, desc := 8462499184046477932494856#512, started := true } ∧
      W.failedRankRead.job? 0 = none ∧ (W.failedRankRead.inst 64).busOff = false) ∧
    (W.spareCopied.rd Obj.MEM_SPARE_STATE = 2 ∧ W.spareCopied.rd Obj.MEM_SPARE_SOURCE < 16 ∧ W.spareCopied.memConf.spare < 16 ∧
      W.spareCopied.memConf.spare ≠ W.spareCopied.rd Obj.MEM_SPARE_SOURCE) := by
  decide +kernel

/-- What BitternMeasuresRunsAndRestarts assumes, clause by clause, holds of these. -/
theorem witness_BitternMeasuresRunsAndRestarts :
    (State.reset.bitState ≠ 4 ∧ State.reset.bitState ≠ 5 ∧
      (List.filter (fun t ↦ State.reset.dtime.blt (t + 60000000000)) State.reset.boot.bitRestarts).length < 3) ∧
    (W.boxes.bitState ≠ 4 ∧ W.boxes.bitState ≠ 5 ∧ (List.filter (fun t ↦ W.boxes.dtime.blt (t + 60000000000)) W.boxes.boot.bitRestarts).length < 3 ∧
      (W.boxes.bitState = 2 ∨ W.boxes.bitState = 3)) ∧
    (W.threeRestarts.bitState ≠ 4 ∧ W.threeRestarts.bitState ≠ 5 ∧
      (¬(List.filter (fun t ↦ W.threeRestarts.dtime.blt (t + 60000000000)) W.threeRestarts.boot.bitRestarts).length < 3)) ∧
    (W.boxes.accepts Requester.gaffer Obj.BIT_RESTART_REQ 1 = true ∧ W.boxes.bitState = 3 ∧
      (List.filter (fun t ↦ W.boxes.dtime.blt (t + 60000000000)) W.boxes.boot.bitRestarts).length < 3) ∧
    (State.reset.accepts Requester.gaffer Obj.BIT_RESTART_REQ 1 = true ∧ State.reset.bitState ≠ 3) ∧
    (W.bitRestarting.bitState = 4 ∧ W.bitRestarting.boot.stage ≠ 1 ∧ W.bitRestarting.boot.stage ≠ 3) ∧
    (W.measuring.bitState = 1 ∧ W.measuring.boot.measuring < 2 ∧
      (W.measuring.measureResult { keyHash := 7, version := 1, digest := 99, entries := [(1, 4096, 11, true), (2, 4096, 22, true), (3, 1024, 33, true)] } (W.measuring.boot.bitT0.isSome && !decide (W.measuring.boot.stage = 2))).fst = 0) ∧
    (W.measuringDual.bitState = 1 ∧ W.measuringDual.boot.measuring < 2 ∧
      (W.measuringDual.measureResult { readable := false, keyHash := 3, signed := false, version := 5, digest := 3, assignment := 3 } (W.measuringDual.boot.bitT0.isSome && !decide (W.measuringDual.boot.stage = 2))).fst ≠ 0 ∧
      W.measuringDual.strapBoot = 1 ∧ W.measuringDual.boot.otherMeasured = false) ∧
    (W.measuring.bitState = 1 ∧ W.measuring.boot.measuring < 2 ∧
      (W.measuring.measureResult { keyHash := 2, signed := false, version := 3, digest := 1, assignment := 3 } (W.measuring.boot.bitT0.isSome && !decide (W.measuring.boot.stage = 2))).fst ≠ 0 ∧
      (W.measuring.strapBoot ≠ 1 ∨ W.measuring.boot.otherMeasured = true)) ∧
    (W.started.accepts Requester.bittern Obj.BIT_READY 1 = true ∧ W.started.ldp.blobs = [] ∧ W.started.bitState = 2 ∧ W.started.boot.bitT0 = some 0) ∧
    (State.reset.accepts Requester.bittern Obj.BIT_READY 1 = true ∧ State.reset.ldp.blobs = [] ∧ State.reset.bitState ≠ 2) := by
  refine ⟨?_, ?_, ?_, ?_, ?_, ?_, ?_, ?_, ?_, ?_, ?_⟩ <;> decide +kernel

/-- What PushIntoAFullMailbox assumes, clause by clause, holds of these. -/
theorem witness_PushIntoAFullMailbox :
    (W.boxes.isEnd (Requester.guest 5) (W.boxes.mbSender 5) = true ∧ W.boxes.mbServed 5 = true ∧ (isHost (Requester.guest 5) = true →
      W.boxes.barServed = true) ∧ W.boxes.guardOf 5 = none ∧ (W.boxes.mailbox 5).words.length = 16) := by
  decide +kernel

/-- What MailboxRegisterWrites assumes, clause by clause, holds of these. -/
theorem witness_MailboxRegisterWrites :
    ((isHost Requester.gaffer = true → W.boxes.barServed = true) ∧ W.boxes.isEnd Requester.gaffer (W.boxes.mbSender 4) = true ∧
      W.boxes.mbServed 4 = true ∧ W.boxes.guardOf 4 = none ∧ (W.boxes.mailbox 4).words.length < 16) ∧
    ((isHost Requester.gaffer = true → W.boxes.barServed = true) ∧ W.boxes.isEnd Requester.gaffer (W.boxes.mbSender 4) = true ∧
      W.boxes.mbUnused 4 = false ∧ (¬(W.boxes.mbBittern 4 = true ∧ W.boxes.bitternDown = true)) ∧ W.boxes.receiverUp 4 = true) ∧
    ((isHost Requester.gaffer = true → State.reset.barServed = true) ∧ State.reset.isEnd Requester.gaffer (State.reset.mbSender 7) = false ∧
      State.reset.mbBittern 7 = false) ∧
    ((isHost Requester.gaffer = true → W.boxes.barServed = true) ∧ W.boxes.isEnd Requester.gaffer (W.boxes.mbSender 1) = false ∧
      W.boxes.mbBittern 1 = true ∧ requesterNormal Requester.gaffer = true) ∧
    ((isHost Requester.gaffer = true → W.boxes.barServed = true) ∧ W.boxes.isEnd Requester.gaffer (W.boxes.mbReceiver 1) = true ∧
      W.boxes.mbServed 1 = true) := by
  decide +kernel

/-- What ContinuityUnitsSwitchAndJudge assumes, clause by clause, holds of these. -/
theorem witness_ContinuityUnitsSwitchAndJudge :
    (W.unit.accepts Requester.gaffer (Obj.CU_CONTROL 6) 1 = true ∧ W.unit.cuEnabled 6 = false ∧ W.unit.cuConfigBad 6 = false) ∧
    (State.reset.accepts Requester.gaffer (Obj.CU_CONTROL 6) 1 = true ∧ State.reset.cuEnabled 6 = false ∧ State.reset.cuConfigBad 6 = true) ∧
    (W.unitOn.accepts Requester.gaffer (Obj.CU_CONTROL 4) 0 = true ∧ W.unitOn.cuEnabled 4 = true ∧ W.unitOn.rd (Obj.CU_STATE 4) ≠ cuTripped) ∧
    (W.unitTripped.accepts Requester.gaffer (Obj.CU_CONTROL 4) 3 = true ∧ W.unitTripped.cuEnabled 4 = true ∧
      W.unitTripped.rd (Obj.CU_STATE 4) = cuTripped) ∧
    (W.unitInjects.accepts Requester.gaffer (Obj.CU_INJECT 6) 2 = true ∧ W.unitInjects.rd Obj.INJ_ENABLE ≠ 0) ∧
    (State.reset.accepts Requester.gaffer (Obj.CU_INJECT 4) 2 = true ∧ State.reset.rd Obj.INJ_ENABLE = 0) ∧
    (W.unitStopped.cuEnabled 4 = true ∧ W.unitStopped.cuOutput 4 ≤ 11 ∧ W.unitStopped.cuAlive 4 = false ∧ W.unitStopped.cuSnoop 4 = 0 ∧
      (W.unitStopped.out (W.unitStopped.governor (W.unitStopped.cuOutput 4))).phase = RasterPhase.stopped) ∧
    (W.unitShown.cuEnabled 4 = true ∧ W.unitShown.cuOutput 4 ≤ 11 ∧ W.unitShown.cuAlive 4 = false ∧
      (W.unitShown.out (W.unitShown.governor (W.unitShown.cuOutput 4))).phase ≠ RasterPhase.stopped ∧ (W.unitShown.cu 4).idle = false ∧
      (W.unitShown.cu 4).inject = 0 ∧ W.unitShown.rd (Obj.CU_STATE 4) ≠ cuTripped ∧ W.unitShown.cuSnoop 4 = 0 ∧
      (W.unitShown.cu 4).after ≠ some (W.unitShown.out (W.unitShown.governor (W.unitShown.cuOutput 4))).startedFrames ∧
      (W.unitShown.out (W.unitShown.governor (W.unitShown.cuOutput 4))).showing = some { id := 4, seq := 9, commits := [], buffer := 1, parts := [], complete := true, shown := true, layers := [(2, 7588781944435228815669995215499481640992397432839862558313339117414550559768182832#512, 64)] }) ∧
    (W.unitLayer.cuEnabled 4 = true ∧ W.unitLayer.cuOutput 4 ≤ 11 ∧ W.unitLayer.cuAlive 4 = false ∧
      (W.unitLayer.out (W.unitLayer.governor (W.unitLayer.cuOutput 4))).phase ≠ RasterPhase.stopped ∧ (W.unitLayer.cu 4).idle = false ∧
      (W.unitLayer.cu 4).inject = 0 ∧ W.unitLayer.rd (Obj.CU_STATE 4) ≠ cuTripped ∧ W.unitLayer.cuSnoop 4 = 1 ∧ (W.unitLayer.cu 4).after = none ∧
      (W.unitLayer.out (W.unitLayer.governor (W.unitLayer.cuOutput 4))).comps.getLast? = some { id := 4, seq := 9, commits := [], buffer := 1, parts := [], complete := true, shown := true, layers := [(2, 7588781944435228815669995215499481640992397432839862558313339117414550559768182832#512, 64)] } ∧
      List.find? (fun l ↦ decide (l.fst = W.unitLayer.cuPosition 4)) [(2, 7588781944435228815669995215499481640992397432839862558313339117414550559768182832#512, 64)] = some (2,
      7588781944435228815669995215499481640992397432839862558313339117414550559768182832#512, 64)) := by
  refine ⟨?_, ?_, ?_, ?_, ?_, ?_, ?_, ?_, ?_⟩ <;> decide +kernel

/-- What MessagesAreStagedAndJudged assumes, clause by clause, holds of these. -/
theorem witness_MessagesAreStagedAndJudged :
    (W.guards.isEnd Requester.manager (W.guards.mbSender 5) = true ∧ W.guards.mbServed 5 = true ∧ (isHost Requester.manager = true →
      W.guards.barServed = true) ∧ W.guards.guardOf 5 = some 6 ∧ (W.guards.cu 6).staging = [] ∧ 5 + trailerWords (W.guards.cuPoly 6) ≤ 16) ∧
    (W.staged.isEnd Requester.manager (W.staged.mbSender 5) = true ∧ W.staged.mbServed 5 = true ∧ (isHost Requester.manager = true →
      W.staged.barServed = true) ∧ W.staged.guardOf 5 = some 6 ∧ (W.staged.cu 6).staging ≠ [] ∧ W.staged.dtime ≤ (W.staged.cu 6).lastWord + 1000000 ∧
      (W.staged.cu 6).inject = 0 ∧ (W.staged.cu 6).pred = none ∧
      ((W.staged.cu 6).staging ++ [51205]).length = field (((W.staged.cu 6).staging ++ [51205]).headD 0) 7 0 + 1 + trailerWords (W.staged.cuPoly 6) ∧
      ((W.staged.cu 6).staging ++ [51205]).length ≤ 16 ∧ field (((W.staged.cu 6).staging ++ [51205]).headD 0) 31 24 = 0 ∧
      packItems 4 (List.drop (((W.staged.cu 6).staging ++ [51205]).length - trailerWords (W.staged.cuPoly 6)) ((W.staged.cu 6).staging ++ [51205])) < 2 ^ checkWidth (W.staged.cuPoly 6) ∧
      checkValue (W.staged.cuPoly 6) (List.flatMap (fun w ↦ unpackItems 1 4 w) (List.take (((W.staged.cu 6).staging ++ [51205]).length - trailerWords (W.staged.cuPoly 6)) ((W.staged.cu 6).staging ++ [51205]))) = packItems 4 (List.drop (((W.staged.cu 6).staging ++ [51205]).length - trailerWords (W.staged.cuPoly 6)) ((W.staged.cu 6).staging ++ [51205])) ∧
      (W.staged.mailbox 5).words.length + ((W.staged.cu 6).staging ++ [51205]).length ≤ 16) ∧
    (W.staged.cuEnabled 6 = true ∧ W.staged.cuSnoop 6 = 2 ∧ (W.staged.cu 6).staging ≠ []) ∧
    (W.guards.cuEnabled 6 = true ∧ W.guards.cuSnoop 6 = 2 ∧ W.guards.rd (Obj.CU_MSG_TIMEOUT 6) ≠ 0 ∧ W.guards.rd (Obj.CU_STATE 6) ≠ cuTripped) := by
  decide +kernel

/-- What TouchUnitsAreSwitched assumes, clause by clause, holds of these. -/
theorem witness_TouchUnitsAreSwitched :
    (W.touchFits.accepts (Requester.field 0) (Obj.RF_CONTROL 1) 1 = true ∧ bit (W.touchFits.rd (Obj.RF_CONTROL 1)) 0 = false ∧
      geometryBad (W.touchFits.rd (Obj.RF_GEOMETRY 1)) = false ∧ (∀ (k : Nat), W.touchFits.panel 1 = some k → W.touchFits.pairOdd k = false) ∧
      W.touchFits.touchBell 1 (W.touchFits.rd (Obj.RF_DOORBELL 1)) = false ∧ W.touchFits.scanBudgetBroken 1 = false) ∧
    (W.touch.accepts Requester.gaffer (Obj.RF_CONTROL 1) 1 = true ∧ bit (W.touch.rd (Obj.RF_CONTROL 1)) 0 = false ∧
      geometryBad (W.touch.rd (Obj.RF_GEOMETRY 1)) = false ∧ (∀ (k : Nat), W.touch.panel 1 = some k → W.touch.pairOdd k = false) ∧
      W.touch.touchBell 1 (W.touch.rd (Obj.RF_DOORBELL 1)) = false ∧ W.touch.scanBudgetBroken 1 = true) ∧
    (W.touchEnds.accepts Requester.gaffer (Obj.RF_CONTROL 1) 0 = true ∧ W.touchEnds.rd (Obj.RF_STATE 1) ≠ touchOff ∧
      (W.touchEnds.front 1).window.isSome = true) ∧
    (W.touchRuns.accepts (Requester.field 1) (Obj.RF_CONTROL 1) 0 = true ∧ W.touchRuns.rd (Obj.RF_STATE 1) ≠ touchOff ∧
      (W.touchRuns.front 1).window = none ∧ (W.touchRuns.front 1).contacts = []) ∧
    (W.touchRuns.scans 1 = true ∧ W.touchRuns.windowRuns 1 = false ∧ W.touchRuns.panelState 1 = OutState.active ∧ W.touchRuns.dailies.running = []) ∧
    (W.unit.accepts Requester.gaffer Obj.KB_ENABLE 1 = true ∧ W.unit.rd Obj.KB_ENABLE ≠ 1 ∧ W.unit.touchBell 2 (W.unit.rd Obj.KB_DOORBELL) = false) ∧
    (W.keysOn.accepts Requester.gaffer Obj.KB_ENABLE 0 = true ∧ W.keysOn.rd Obj.KB_STATE ≠ touchOff ∧ W.keysOn.keyBank.window = none ∧ (∀ (k : Key),
      k ∈ W.keysOn.keyBank.keys → k.pressed = false)) := by
  refine ⟨?_, ?_, ?_, ?_, ?_, ?_, ?_⟩ <;> decide +kernel

/-- What ScansCompleteAndUnitsRun assumes, clause by clause, holds of these. -/
theorem witness_ScansCompleteAndUnitsRun :
    ((W.touchBaselines.front 1).window = some { pos := { frame := 0#32, line := 0#16, frac := 0#16 }, time := 0 } ∧
      (W.touchBaselines.front 1).ending = false ∧ W.touchBaselines.rd (Obj.RF_STATE 1) = touchBaselining) ∧
    ((W.touchScans.front 1).window = some { pos := { frame := 0#32, line := 0#16, frac := 0#16 }, time := 0 } ∧
      (W.touchScans.front 1).ending = false ∧ W.touchScans.rd (Obj.RF_STATE 1) = touchRunning) ∧
    ((W.touchEnds.front 1).window = some { pos := { frame := 0#32, line := 0#16, frac := 0#16 }, time := 0 } ∧ (W.touchEnds.front 1).ending = true ∧
      (W.touchEnds.front 1).contacts = []) ∧
    (W.touchBaselines.keyBank.window = some { pos := { frame := 0#32, line := 0#16, frac := 0#16 }, time := 0 } ∧
      W.touchBaselines.keyBank.ending = false ∧ W.touchBaselines.rd Obj.KB_STATE = touchBaselining) ∧
    (W.touchEnds.keyBank.window = some { pos := { frame := 0#32, line := 0#16, frac := 0#16 }, time := 0 } ∧ W.touchEnds.keyBank.ending = false ∧
      W.touchEnds.rd Obj.KB_STATE = touchRunning) ∧
    (W.touchRuns.rd (Obj.RF_STATE 1) = touchRunning ∧ countTrue (W.touchRuns.front 1).suspect ≠ 0) ∧
    (W.touchRuns.panel 1 = some 0 ∧ W.touchRuns.scans 1 = true ∧ (W.touchRuns.out 0).state = OutState.active ∧ (W.touchRuns.front 1).listen ≠ [] ∧
      (W.touchRuns.front 1).band ≠ 31) ∧
    (W.touchSleeps.rd (Obj.RF_STATE 1) = touchWake ∧ 1 < 4 ∧ ↑(W.touchSleeps.rd Obj.TOUCH_WAKE_THRESHOLD) ≤ [0, 72, 825].getD 1 0 ∧
      1 ≤ (W.touchSleeps.front 1).wakeRuns.getD 1 0 ∧ W.touchSleeps.rd Obj.PWR_STATE ≠ 0 ∧ W.touchSleeps.power.sag = none ∧
      W.touchSleeps.power.exitCause = none) := by
  refine ⟨?_, ?_, ?_, ?_, ?_, ?_, ?_, ?_⟩ <;> decide +kernel

/-- What HapticChannelsAreSwitched assumes, clause by clause, holds of these. -/
theorem witness_HapticChannelsAreSwitched :
    (W.haptic.accepts Requester.gaffer (Obj.HAP_CONTROL 2) 1 = true ∧ bit (W.haptic.rd (Obj.HAP_CONTROL 2)) 0 = false ∧
      (W.haptic.rd (Obj.HAP_RATED_MV 2) ≠ 0 ∧ W.haptic.rd (Obj.HAP_RATED_MV 2) ≤ W.haptic.rd Obj.HAP_SUPPLY_MV) ∧
      W.haptic.rd (Obj.HAP_RES_HZ 2) ≠ 0 ∧ (W.haptic.hap 2).calDone = true ∧ (W.haptic.hap 2).play = none ∧ (W.haptic.hap 2).calibrating = false) ∧
    (W.hapticRaw.accepts (Requester.field 0) (Obj.HAP_CONTROL 2) 1 = true ∧ bit (W.hapticRaw.rd (Obj.HAP_CONTROL 2)) 0 = false ∧
      (W.hapticRaw.rd (Obj.HAP_RATED_MV 2) ≠ 0 ∧ W.hapticRaw.rd (Obj.HAP_RATED_MV 2) ≤ W.hapticRaw.rd Obj.HAP_SUPPLY_MV) ∧
      W.hapticRaw.rd (Obj.HAP_RES_HZ 2) = 0) ∧
    (W.unit.accepts Requester.gaffer (Obj.HAP_CONTROL 4) 1 = true ∧ bit (W.unit.rd (Obj.HAP_CONTROL 4)) 0 = false ∧
      (¬(W.unit.rd (Obj.HAP_RATED_MV 4) ≠ 0 ∧ W.unit.rd (Obj.HAP_RATED_MV 4) ≤ W.unit.rd Obj.HAP_SUPPLY_MV))) ∧
    (W.unit.accepts Requester.gaffer (Obj.HAP_CONTROL 4) 0 = true) ∧
    (W.hapticOn.accepts Requester.gaffer (Obj.HAP_CONTROL 2) 3 = true ∧ bit (W.hapticOn.rd (Obj.HAP_CONTROL 2)) 0 = true ∧
      (W.hapticOn.rd (Obj.HAP_RATED_MV 2) ≠ 0 ∧ W.hapticOn.rd (Obj.HAP_RATED_MV 2) ≤ W.hapticOn.rd Obj.HAP_SUPPLY_MV) ∧
      (W.hapticOn.hap 2).play = none ∧ (W.hapticOn.hap 2).calibrating = false) ∧
    ((W.hapticSweeps.hap 2).calibrating = true ∧ W.hapticSweeps.rd Obj.HAP_CAL_MIN_MV ≤ 60 ∧ 3 ≠ 800 ∧ 3 ≠ 3200) ∧
    ((W.hapticSweeps.hap 2).calibrating = true ∧ 0 < W.hapticSweeps.rd Obj.HAP_CAL_MIN_MV) := by
  refine ⟨?_, ?_, ?_, ?_, ?_, ?_, ?_⟩ <;> decide +kernel

/-- What EffectsPlay assumes, clause by clause, holds of these. -/
theorem witness_EffectsPlay :
    (W.hapticOn.accepts Requester.gaffer (Obj.HAP_PLAY 2) 3 = true ∧ (isHost Requester.gaffer = false ∨ Requester.gaffer = Requester.manager) ∧
      W.hapticOn.triggerStatus 2 3 false = Status.ok ∧ 3 ≠ 0 ∧ (W.hapticOn.hap 2).play = none ∧ 0 < efOd (W.hapticOn.effect 3) ∧
      W.hapticOn.rd Obj.INJ_ENABLE ≠ 1) ∧
    (W.unit.accepts Requester.gaffer (Obj.HAP_PLAY 0) 2 = true ∧ (isHost Requester.gaffer = false ∨ Requester.gaffer = Requester.manager) ∧
      W.unit.triggerStatus 0 2 false ≠ Status.ok) ∧
    (W.unit.accepts (Requester.guest 3) (Obj.HAP_PLAY 6) 1 = true ∧ W.unit.rd (Obj.HAP_INST_GRANT 6) ≠ 3) ∧
    (W.hapticCritical.accepts Requester.bittern (Obj.HAP_CRIT_PLAY 2) 44 = true ∧ W.hapticCritical.effectOk 44 = true ∧
      W.hapticCritical.critChannel 2 = true ∧ W.hapticCritical.triggerStatus 2 44 true = Status.ok ∧ 44 ≠ 0 ∧
      (W.hapticCritical.hap 2).calibrating = false ∧ 0 < efOd (W.hapticCritical.effect 44) ∧ W.hapticCritical.rd Obj.INJ_ENABLE ≠ 1) ∧
    (W.unit.accepts Requester.bittern (Obj.HAP_CRIT_PLAY 6) 45 = true ∧ W.unit.effectOk 45 = true ∧ W.unit.critChannel 6 = false) ∧
    ((W.playOver.hap 2).play = some { effect := 101, desc := 1760868549576714, source := 0, critical := false } ∧ 1 < 2) ∧
    ((W.playOverEnds.hap 2).play = some { effect := 101, desc := 1760868549576714, source := 0, critical := false, half := 1 } ∧ 2 ≤ 2 ∧ 0 < 40) ∧
    ((W.playSusEnds.hap 2).play = some { effect := 101, desc := 1760868549576714, source := 0, critical := false, phase := HapPhase.sustain, half := 39 } ∧
      40 ≤ 40 ∧ 0 < 8) ∧
    ((W.playBrakeGap.hap 2).play = some { effect := 102, desc := 1761968061204490, source := 0, critical := false, phase := HapPhase.braking } ∧
      2 < W.playBrakeGap.rd Obj.HAP_BRAKE_THRESH_MV ∧ 1 < 2) ∧
    ((W.playBrake.hap 2).play = some { effect := 101, desc := 1760868549576714, source := 0, critical := false, phase := HapPhase.braking } ∧
      3 < W.playBrake.rd Obj.HAP_BRAKE_THRESH_MV ∧ 1 ≤ 1 ∧ (W.playBrake.hap 2).queued = none) ∧
    ((W.playGap.hap 2).play = some { effect := 102, desc := 1761968061204490, source := 0, critical := false, phase := HapPhase.gap } ∧ 0 < 2) := by
  refine ⟨?_, ?_, ?_, ?_, ?_, ?_, ?_, ?_, ?_, ?_, ?_⟩ <;> decide +kernel

/-- What AudioStreamsAndChimes assumes, clause by clause, holds of these. -/
theorem witness_AudioStreamsAndChimes :
    (W.opens.accepts Requester.gaffer (Obj.AUD_STREAM_CFG 3) 16 = true ∧
      (W.opens.wr (Obj.AUD_STREAM_CFG 3) (W.opens.merged (Obj.AUD_STREAM_CFG 3) 16)).bridgesNeeded ≤ 16 ∧
      cfgSource (W.opens.merged (Obj.AUD_STREAM_CFG 3) 16) = 0) ∧
    (W.audio.accepts Requester.gaffer (Obj.AUD_STREAM_CFG 0) 1 = true ∧
      (W.audio.wr (Obj.AUD_STREAM_CFG 0) (W.audio.merged (Obj.AUD_STREAM_CFG 0) 1)).bridgesNeeded ≤ 16 ∧
      cfgSource (W.audio.merged (Obj.AUD_STREAM_CFG 0) 1) = 1 ∧ field (W.audio.merged (Obj.AUD_STREAM_CFG 0) 1) 14 13 ≠ 3 ∧
      cfgSource (W.audio.rd (Obj.AUD_STREAM_CFG 0)) = 0) ∧
    (State.reset.accepts Requester.manager (Obj.AUD_STREAM_CFG 0) 4 = true ∧
      (State.reset.wr (Obj.AUD_STREAM_CFG 0) (State.reset.merged (Obj.AUD_STREAM_CFG 0) 4)).bridgesNeeded ≤ 16 ∧
      cfgSource (State.reset.merged (Obj.AUD_STREAM_CFG 0) 4) = 4) ∧
    (State.reset.accepts Requester.gaffer Obj.AUD_ROUTE_TABLE 1 = true ∧ (∀ (e : Nat), e ∈ routeEntries 1 → rtStream e < 60 ∧ rtBus e < 14) ∧
      (∀ (e : Nat), e ∈ routeEntries 1 → rtValid e = false) ∧ (State.reset.wr Obj.AUD_ROUTE_TABLE 1).bridgesNeeded ≤ 16) ∧
    (State.reset.accepts Requester.gaffer Obj.AUD_ROUTE_TABLE 63 = true ∧ (∃ e, e ∈ routeEntries 63 ∧ (60 ≤ rtStream e ∨ 14 ≤ rtBus e))) ∧
    (bit (W.audio.rd (Obj.TDM_CONFIG 1)) 0 = true ∧ W.audio.tdmSlave 1 = true ∧ W.audio.rd (Obj.TDM_STATE 1) ≠ 2) ∧
    (W.audioLost.rd (Obj.TDM_STATE 1) = 2) ∧
    ((¬6 ∈ W.audio.clocks.held) ∧ W.audio.rd (Obj.DOM_STATE 15) = 1 ∧ W.audio.rd Obj.INJ_ENABLE ≠ 1 ∧ 2 < 60 ∧ (W.audio.stream 2).running = true ∧
      (W.audio.stream 2).stopping = false ∧ W.audio.rd (Obj.AUD_STREAM_CFG 2) = (W.audio.stream 2).cfg ∧ cfgSource (W.audio.stream 2).cfg = 2 ∧
      W.audio.streamDomain (W.audio.stream 2).cfg = 4 ∧ (W.audio.stream 2).clockLost = false) ∧
    (W.audioOff.rd (Obj.DOM_STATE 15) ≠ 1) ∧
    (State.reset.accepts Requester.bittern Obj.CHIME_PLAY 0 = true) ∧
    (State.reset.accepts Requester.bittern Obj.CHIME_PLAY 2 = true ∧ 2 ≠ 0 ∧ chValid (State.reset.chimeEntry 2) = false) ∧
    (W.chimesFull.accepts Requester.bittern Obj.CHIME_PLAY 1 = true ∧ 1 ≠ 0 ∧ chValid (W.chimesFull.chimeEntry 1) = true ∧
      W.chimesFull.chooseGen 1 (chPriority (W.chimesFull.chimeEntry 1)) = none) ∧
    (W.chimes.accepts Requester.bittern Obj.CHIME_PLAY 1 = true ∧ 1 ≠ 0 ∧ chValid (W.chimes.chimeEntry 1) = true ∧
      W.chimes.chooseGen 1 (chPriority (W.chimes.chimeEntry 1)) = some 0 ∧ W.chimes.rd Obj.PWR_STATE < 3) ∧
    (State.reset.accepts Requester.bittern Obj.CHIME_STOP 1 = true) ∧
    ((W.chimePlays.gen 0).now = some { chime := 1, desc := 40, source := 0, played := 64 }) ∧
    ((¬6 ∈ W.chimeNext.clocks.held) ∧ W.chimeNext.rd (Obj.DOM_STATE 15) = 1 ∧
      (W.chimeNext.gen 0).next = some { chime := 1, desc := 40, source := 0 } ∧ (W.chimeNext.gen 0).now = none ∧ W.chimeNext.bitternDown = false ∧
      field (W.chimeNext.rd (Obj.AUD_BUS_CFG 14)) 5 4 = 0) := by
  refine ⟨?_, ?_, ?_, ?_, ?_, ?_, ?_, ?_, ?_, ?_, ?_, ?_, ?_, ?_, ?_, ?_⟩ <;> decide +kernel

/-- What ReadingRequestsAreAnswered assumes, clause by clause, holds of these. -/
theorem witness_ReadingRequestsAreAnswered :
    (W.asksRead.canReply 3 = true ∧
      W.asksRead.nextTxn 3 1 = some { op := 1, tid := 7, seq := 1, more := false, body := [0#8, 120#8, 2#8, 0#8, 0#8, 0#8, 4#8, 0#8] }) ∧
    (W.asksReadLarge.canReply 3 = true ∧
      W.asksReadLarge.nextTxn 3 3 = some { op := 3, tid := 7, seq := 1, more := false, body := [24#8, 17#8, 0#8, 255#8] }) ∧
    (W.idles.canReply 3 = true ∧ W.idles.nextTxn 3 19 = some { op := 19, tid := 7, seq := 1, more := false, body := [] }) ∧
    (W.asksSubscribe.canReply 3 = true ∧
      W.asksSubscribe.nextTxn 3 5 = some { op := 5, tid := 7, seq := 1, more := false, body := [0#8, 120#8, 2#8, 1#8, 100#8, 0#8] } ∧
      W.asksSubscribe.readStatus (Requester.field 3) 7864322 = Status.ok ∧ 10 ≤ 100 ∧ 100 ≤ 60000 ∧
      (List.filter (fun y ↦ decide (y.channel = 3)) W.asksSubscribe.ldp.subs).length < 32 ∧ W.asksSubscribe.ldp.subs.length < 256) ∧
    (W.asksUnsubscribe.canReply 3 = true ∧ W.asksUnsubscribe.nextTxn 3 6 = some { op := 6, tid := 7, seq := 1, more := false, body := [4#8, 0#8] } ∧
      (∃ y, y ∈ W.asksUnsubscribe.ldp.subs ∧ y.channel = 3 ∧ y.id = 4)) ∧
    (W.asksUnsubscribeOther.canReply 3 = true ∧
      W.asksUnsubscribeOther.nextTxn 3 6 = some { op := 6, tid := 7, seq := 1, more := false, body := [5#8, 0#8] } ∧ (∀ (y : Subscription),
      y ∈ W.asksUnsubscribeOther.ldp.subs → ¬(y.channel = 3 ∧ y.id = 5))) ∧
    (W.asksClose.canReply 3 = true ∧ W.asksClose.nextTxn 3 18 = some { op := 18, tid := 7, seq := 1, more := false, body := [] }) ∧
    (W.asksClose.canReply 3 = true ∧ W.asksClose.ldpServes = true ∧
      W.asksClose.session? 3 = some { number := 341, transport := 0, unit := 1, ip := 167772161, udpPort := 4660, cred := 1, nonceC := [], nonceD := [], key := 5, since := 0 } ∧
      W.asksClose.ldp.subs.head? = some { id := 4, channel := 3, addr := 7864322, mode := 1, interval := 100, last := 0, value := 0 } ∧
      100000000 ≤ W.asksClose.dtime) := by
  refine ⟨?_, ?_, ?_, ?_, ?_, ?_, ?_, ?_⟩ <;> decide +kernel

/-- What WritingRequestsAreAnswered assumes, clause by clause, holds of these. -/
theorem witness_WritingRequestsAreAnswered :
    (W.asksWriteField.nextTxn 3 2 = some { op := 2, tid := 7, seq := 1, more := false, body := [16#8, 16#8, 6#8, 4#8, 0#8, 0#8, 4#8, 0#8, 9#8, 0#8, 0#8, 0#8] } ∧
      rowAt 1052678 = some { name := "LDP_IPV4_GATEWAY", index := 4112, count := 1, sub := 6, subCount := 2, ty := ObjType.u32, len := 4, rights := { bittern := Right.ro, gaffer := Right.rw, manager := Right.rw, guest := Right.ro, field := Right.rw }, default := 0, pers := Persistence.stored, accepts := Accepts.any } ∧
      ObjType.u32 ≠ ObjType.octets ∧ (W.asksWriteField.writeAny (Requester.field 3) 1052678 4 4 9).fst = some 0 ∧
      (W.asksWriteField.writeAny (Requester.field 3) 1052678 4 4 9).snd.canReply 3 = true ∧ (3,
      { op := 2, tid := 7, seq := 1, more := false, body := [16#8, 16#8, 6#8, 4#8, 0#8, 0#8, 4#8, 0#8, 9#8, 0#8, 0#8, 0#8] }) ∈ (W.asksWriteField.writeAny (Requester.field 3) 1052678 4 4 9).snd.ldp.txns) ∧
    (W.asksStage.nextTxn 72 2 = some { op := 2, tid := 7, seq := 1, more := true, body := [0#8, 45#8, 4#8, 14#8, 0#8, 0#8, 8#8, 0#8, 9#8, 0#8, 0#8, 0#8, 0#8, 0#8, 0#8, 0#8] } ∧
      W.asksStage.canReply 72 = true ∧ W.asksStage.staged 72 = none ∧
      rowAt 2949124 = some { name := "LAYER_PALETTE", index := 11520, count := 192, sub := 4, subCount := 1, ty := ObjType.octets, len := 1024, rights := { bittern := Right.rw, gaffer := Right.rw, manager := Right.rw, guest := Right.rw, field := Right.rw }, default := 0, pers := Persistence.volatile, accepts := Accepts.any } ∧
      W.asksStage.writeStatus Requester.manager 2949124 14 1024 0 = Status.ok ∧ 8 ≤ 1024) ∧
    (W.asksWriteBlock.nextTxn 72 4 = some { op := 4, tid := 7, seq := 1, more := false, body := [16#8, 16#8, 1#8, 0#8, 6#8, 4#8, 4#8, 0#8, 9#8, 0#8, 0#8, 0#8] } ∧
      (W.asksWriteBlock.writeRecords Requester.manager 4112 ((blockRecords 1 [6#8, 4#8, 4#8, 0#8, 9#8, 0#8, 0#8, 0#8]).getD []) none).fst = none ∧
      (W.asksWriteBlock.writeRecords Requester.manager 4112 ((blockRecords 1 [6#8, 4#8, 4#8, 0#8, 9#8, 0#8, 0#8, 0#8]).getD []) none).snd.fst = none ∧
      (W.asksWriteBlock.writeRecords Requester.manager 4112 ((blockRecords 1 [6#8, 4#8, 4#8, 0#8, 9#8, 0#8, 0#8, 0#8]).getD []) none).snd.snd.canReply 72 = true ∧
      (72,
      { op := 4, tid := 7, seq := 1, more := false, body := [16#8, 16#8, 1#8, 0#8, 6#8, 4#8, 4#8, 0#8, 9#8, 0#8, 0#8, 0#8] }) ∈ (W.asksWriteBlock.writeRecords Requester.manager 4112 ((blockRecords 1 [6#8, 4#8, 4#8, 0#8, 9#8, 0#8, 0#8, 0#8]).getD []) none).snd.snd.ldp.txns) ∧
    (W.asksWriteBlockBad.nextTxn 72 4 = some { op := 4, tid := 7, seq := 1, more := false, body := [0#8, 120#8, 1#8, 0#8, 2#8, 2#8, 1#8, 0#8, 9#8, 0#8, 0#8, 0#8] } ∧
      W.asksWriteBlockBad.canReply 72 = true ∧
      (W.asksWriteBlockBad.writeRecords Requester.manager 30720 ((blockRecords 1 [2#8, 2#8, 1#8, 0#8, 9#8, 0#8, 0#8, 0#8]).getD []) none).fst = some (7864322,
      1312) ∧ 1312 ≠ Status.ok) ∧
    (W.asksRestoreView.nextTxn 3 8 = some { op := 8, tid := 7, seq := 1, more := false, body := [240#8, 255#8, 240#8, 255#8] } ∧
      W.asksRestoreView.canReply 3 = true ∧ W.asksRestoreView.roleOf (Requester.field 3) = 1) ∧
    (W.asksRestoreNone.nextTxn 72 8 = some { op := 8, tid := 7, seq := 1, more := false, body := [240#8, 255#8, 240#8, 255#8] } ∧
      W.asksRestoreNone.canReply 72 = true ∧ W.asksRestoreNone.roleOf Requester.manager ≠ 1 ∧ objectsIn 65520 65520 = []) ∧
    (W.asksCommit.nextTxn 72 7 = some { op := 7, tid := 7, seq := 1, more := false, body := [] } ∧
      (W.asksCommit.txnsOf 72).head? = some { op := 7, tid := 7, seq := 1, more := false, body := [] } ∧ W.asksCommit.roleOf Requester.manager ≠ 1 ∧
      W.asksCommit.flash.commit = none ∧ W.asksCommit.bitState ≠ 5) ∧
    (W.asksCommitBusy.nextTxn 72 7 = some { op := 7, tid := 7, seq := 1, more := false, body := [] } ∧
      (W.asksCommitBusy.txnsOf 72).head? = some { op := 7, tid := 7, seq := 1, more := false, body := [] } ∧
      W.asksCommitBusy.roleOf Requester.manager ≠ 1 ∧ W.asksCommitBusy.flash.commit.isSome = true ∧ W.asksCommitBusy.canReply 72 = true) ∧
    (W.stages.staged 72 = some { addr := 9306113, type := 3, bytes := [9#8, 0#8, 0#8, 0#8, 0#8, 0#8, 0#8, 0#8], lastAt := 0 } ∧
      5000000000 ≤ W.stages.dtime) ∧
    (W.commits.flash.commit = some { requester := 64, channel := 72, tid := 7, snapshot := [{ addr := 8192257, type := 2, length := 4, value := 9 }] } ∧
      W.commits.bitState = 3 ∧ W.commits.ldpServes = true ∧ W.commits.flash.again = false ∧ W.commits.rd Obj.INJ_ENABLE ≠ 1) ∧
    (W.audio.accepts Requester.bittern (Obj.CRED_SECRET 3) 4 = true ∧ W.audio.bitState = 3) ∧
    (W.audio.accepts Requester.manager (Obj.CRED_SECRET 1) 3 = true ∧ W.audio.bitState = 3 ∧ 3 ≠ 4) ∧
    (State.reset.accepts Requester.bittern (Obj.CRED_SECRET 0) 3 = true ∧ State.reset.bitState ≠ 3 ∧ State.reset.bitState ≠ 5) := by
  refine ⟨?_, ?_, ?_, ?_, ?_, ?_, ?_, ?_, ?_, ?_, ?_, ?_, ?_⟩ <;> decide +kernel

/-- What SessionsOpenCloseAndCarry assumes, clause by clause, holds of these. -/
theorem witness_SessionsOpenCloseAndCarry :
    (W.opens.ldp.opens = [{ transport := 0, unit := 1, ip := 167772162, udpPort := 99, tid := 8, body := [1#8, 77#8, 0#8, 0#8, 0#8, 0#8, 0#8, 0#8, 0#8, 0#8, 0#8, 0#8, 0#8, 0#8, 0#8, 0#8, 0#8] }] ∧
      W.opens.ldpServes = true ∧ W.opens.openStatus 1 = Status.ok ∧ List.find? (fun n ↦ (W.opens.session? n).isNone) (List.range 8) = some 0) ∧
    (W.opensBad.ldp.opens = [{ transport := 0, unit := 1, ip := 167772162, udpPort := 99, tid := 8, body := [5#8, 77#8, 0#8, 0#8, 0#8, 0#8, 0#8, 0#8, 0#8, 0#8, 0#8, 0#8, 0#8, 0#8, 0#8, 0#8, 0#8] }] ∧
      W.opensBad.ldpServes = true ∧ W.opensBad.openStatus 5 ≠ Status.ok) ∧
    (W.confirmsBad.session? 3 = some { number := 341, transport := 0, unit := 1, ip := 167772161, udpPort := 4660, cred := 1, nonceC := [1#8, 0#8, 0#8, 0#8, 0#8, 0#8, 0#8, 0#8, 0#8, 0#8, 0#8, 0#8, 0#8, 0#8, 0#8, 0#8], nonceD := [2#8, 0#8, 0#8, 0#8, 0#8, 0#8, 0#8, 0#8, 0#8, 0#8, 0#8, 0#8, 0#8, 0#8, 0#8, 0#8], key := 5, since := 0 } ∧
      W.confirmsBad.nextTxn 3 17 = some { op := 17, tid := 9, seq := 0, more := false, body := [1#8, 0#8, 0#8, 0#8, 0#8, 0#8, 0#8, 0#8, 0#8, 0#8, 0#8, 0#8, 0#8, 0#8, 0#8, 0#8, 3#8, 0#8, 0#8, 0#8, 0#8, 0#8, 0#8, 0#8, 0#8, 0#8, 0#8, 0#8, 0#8, 0#8, 0#8, 0#8] } ∧
      (¬([1#8, 0#8, 0#8, 0#8, 0#8, 0#8, 0#8, 0#8, 0#8, 0#8, 0#8, 0#8, 0#8, 0#8, 0#8, 0#8, 3#8, 0#8, 0#8, 0#8, 0#8, 0#8, 0#8, 0#8, 0#8, 0#8, 0#8, 0#8, 0#8, 0#8, 0#8, 0#8] = [1#8, 0#8, 0#8, 0#8, 0#8, 0#8, 0#8, 0#8, 0#8, 0#8, 0#8, 0#8, 0#8, 0#8, 0#8, 0#8, 2#8, 0#8, 0#8, 0#8, 0#8, 0#8, 0#8, 0#8, 0#8, 0#8, 0#8, 0#8, 0#8, 0#8, 0#8, 0#8] ∧
      [] = macOf 5 []))) ∧
    (W.confirmLate.session? 3 = some { number := 341, transport := 0, unit := 1, ip := 167772161, udpPort := 4660, cred := 1, nonceC := [1#8, 0#8, 0#8, 0#8, 0#8, 0#8, 0#8, 0#8, 0#8, 0#8, 0#8, 0#8, 0#8, 0#8, 0#8, 0#8], nonceD := [2#8, 0#8, 0#8, 0#8, 0#8, 0#8, 0#8, 0#8, 0#8, 0#8, 0#8, 0#8, 0#8, 0#8, 0#8, 0#8], key := 5, since := 0 } ∧
      W.confirmLate.rd (Obj.SESS_STATE 3) = 1 ∧ 5000000000 < W.confirmLate.dtime) ∧
    (W.idles.session? 3 = some { number := 341, transport := 0, unit := 1, ip := 167772161, udpPort := 4660, cred := 1, nonceC := [], nonceD := [], key := 5, since := 0 } ∧
      W.idles.rd (Obj.SESS_STATE 3) = 2 ∧ 0 + 1000000000 * W.idles.rd Obj.LDP_SESSION_IDLE ≤ W.idles.dtime) ∧
    (State.reset.lockedOut 1 = false) ∧
    (W.opens.ldpServes = true ∧ bit (W.opens.rd Obj.LDP_UDP_ENABLE) 0 = true ∧ 36 ≤ 1472 ∧ W.opens.bitternRes 22 = false ∧
      formOk [1#8, 16#8, 4#8, 0#8, 0#8, 0#8, 20#8, 0#8, 0#8, 0#8, 0#8, 0#8, 0#8, 0#8, 0#8, 0#8, 1#8, 0#8, 0#8, 0#8, 9#8, 0#8, 0#8, 0#8, 0#8, 0#8, 0#8, 0#8, 0#8, 0#8, 0#8, 0#8, 0#8, 0#8, 0#8, 0#8] 0 = true) ∧
    (W.opens.ldpServes = true ∧ bit (W.opens.rd Obj.LDP_UDP_ENABLE) 1 = true ∧ 32 ≤ 1472 ∧ W.opens.bitternRes 23 = false ∧
      formOk [1#8, 19#8, 4#8, 0#8, 9#8, 0#8, 0#8, 0#8, 1#8, 0#8, 0#8, 0#8, 0#8, 0#8, 0#8, 0#8, 0#8, 0#8, 0#8, 0#8, 0#8, 0#8, 0#8, 0#8, 0#8, 0#8, 0#8, 0#8, 0#8, 0#8, 0#8, 0#8] 16 = true ∧
      19 ≠ 16 ∧ 19 ≠ 17 ∧ 9 ≠ 0 ∧ W.opens.sessionOf 9 0 1 5 14340 = none) ∧
    (W.idles.ldpServes = true ∧ bit (W.idles.rd Obj.LDP_UDP_ENABLE) 1 = true ∧ 0 ≤ 1472 ∧ W.idles.bitternRes 23 = false) ∧
    (W.stages.ldpServes = true ∧ bit (W.stages.rd Obj.LDP_UDP_ENABLE) 1 = true ∧ W.stages.rd (Obj.LDP_IPV4_ADDR 1) = 0) ∧
    (W.canLdp.ldpServes = true ∧ W.canLdp.rd Obj.LDP_CAN_CONTROLLER = 2 ∧ W.canLdp.bitternRes 2 = false ∧ W.canLdp.rd Obj.LDP_CAN_REQ_ID = 5 ∧
      W.canLdp.rd Obj.PWR_STATE = 0 ∧ W.canLdp.ldp.can = none ∧ 63 ≤ 100 ∧ 100 ≤ 4160) ∧
    (W.canArrives.ldp.can = some { total := 200, bytes := [1#8, 2#8], next := 1, lastAt := 0 } ∧ 100000000 < W.canArrives.dtime) ∧
    (W.windowBusy.windowLive 64 = true ∧ W.windowBusy.barServed = true ∧ W.windowBusy.rd Obj.PWR_STATE < 3 ∧
      (W.windowBusy.inst 64).window.busy = true) ∧
    (W.stages.windowLive 64 = true ∧ W.stages.barServed = true ∧ W.stages.rd Obj.PWR_STATE < 3 ∧ (W.stages.inst 64).window.busy = false ∧
      W.stages.resetting 64 = false ∧ W.stages.ldpServes = true ∧ 16 ≤ 4160 ∧
      formOk (List.take 16 (writeBuffer (W.stages.inst 64).window.request 0 [1#8, 19#8, 4#8, 0#8, 0#8, 0#8, 0#8, 0#8, 1#8, 0#8, 0#8, 0#8, 0#8, 0#8, 0#8, 0#8]) ++ List.replicate (16 - (writeBuffer (W.stages.inst 64).window.request 0 [1#8, 19#8, 4#8, 0#8, 0#8, 0#8, 0#8, 0#8, 1#8, 0#8, 0#8, 0#8, 0#8, 0#8, 0#8, 0#8]).length) 0) 0 = true ∧
      at8 (List.take 16 (writeBuffer (W.stages.inst 64).window.request 0 [1#8, 19#8, 4#8, 0#8, 0#8, 0#8, 0#8, 0#8, 1#8, 0#8, 0#8, 0#8, 0#8, 0#8, 0#8, 0#8]) ++ List.replicate (16 - (writeBuffer (W.stages.inst 64).window.request 0 [1#8, 19#8, 4#8, 0#8, 0#8, 0#8, 0#8, 0#8, 1#8, 0#8, 0#8, 0#8, 0#8, 0#8, 0#8, 0#8]).length) 0) 1 ≠ 16 ∧
      at8 (List.take 16 (writeBuffer (W.stages.inst 64).window.request 0 [1#8, 19#8, 4#8, 0#8, 0#8, 0#8, 0#8, 0#8, 1#8, 0#8, 0#8, 0#8, 0#8, 0#8, 0#8, 0#8]) ++ List.replicate (16 - (writeBuffer (W.stages.inst 64).window.request 0 [1#8, 19#8, 4#8, 0#8, 0#8, 0#8, 0#8, 0#8, 1#8, 0#8, 0#8, 0#8, 0#8, 0#8, 0#8, 0#8]).length) 0) 1 ≠ 17) := by
  refine ⟨?_, ?_, ?_, ?_, ?_, ?_, ?_, ?_, ?_, ?_, ?_, ?_, ?_, ?_⟩ <;> decide +kernel

/-- What CrystalPllsAndMonitors assumes, clause by clause, holds of these. -/
theorem witness_CrystalPllsAndMonitors :
    (W.xoWait.boot.stage = 1 ∧ W.xoWait.boot.since + xoDelayMs (W.xoWait.rd Obj.RST_STRAPS) * 1000000 ≤ W.xoWait.dtime ∧
      W.xoWait.rd Obj.CLK_SOURCE = 0) ∧
    (W.counting.clocks.counting = true ∧ List.find? (crystalOk 25000) crystals = some 25000) ∧
    (W.counting.clocks.counting = true ∧ List.find? (crystalOk 3) crystals = none) ∧
    (W.pllStarts.rd (Obj.PLL_STATE 3) = 1) ∧
    (W.full.accepts Requester.gaffer (Obj.PLL_ENABLE 7) 1 = true ∧ W.full.rd (Obj.PLL_STATE 7) = 0) ∧
    (W.hot.accepts Requester.gaffer (Obj.PLL_ENABLE 1) 0 = true ∧ (∀ (g : Nat), g ∈ W.hot.feeds (ClockSource.pll 1) → W.hot.gateOpen g = false)) ∧
    (W.hot.accepts Requester.gaffer (Obj.PLL_ENABLE 7) 0 = true ∧ (∃ g, g ∈ W.hot.feeds (ClockSource.pll 7) ∧ W.hot.gateOpen g = true)) ∧
    (W.hot.rd (Obj.CLKMON_STATE 1) ≠ 0 ∧ W.hot.rd (Obj.CLKMON_INJECT 1) = 0) ∧
    (W.full.accepts Requester.gaffer (Obj.CLKMON_INJECT 0) 1 = true ∧ 1 ≠ 0 ∧ W.full.rd Obj.INJ_ENABLE = 1 ∧ 0 = Status.ok) ∧
    (W.held.accepts Requester.gaffer (Obj.CLKMON_INJECT 1) 2 = true ∧ 2 ≠ 0 ∧ W.held.rd Obj.INJ_ENABLE ≠ 1) := by
  refine ⟨?_, ?_, ?_, ?_, ?_, ?_, ?_, ?_, ?_, ?_⟩ <;> decide +kernel

/-- What MultiplexersSwitch assumes, clause by clause, holds of these. -/
theorem witness_MultiplexersSwitch :
    (W.hot.accepts Requester.gaffer (Obj.MUX_SEL 3) 0 = true ∧ W.hot.switch? 3 = none ∧ muxInput 3 0 = some ClockSource.rc ∧
      W.hot.sourceRuns ClockSource.rc = true ∧ (7 ≤ 3 → W.hot.gateOpen 7 = false)) ∧
    (W.full.accepts Requester.gaffer (Obj.MUX_SEL 9) 0 = true ∧ W.full.switch? 9 = none ∧ muxInput 9 0 = some (ClockSource.pll 5) ∧
      W.full.sourceRuns (ClockSource.pll 5) = false) ∧
    (W.switch3.switch? 3 = some { old := 1, new := 0, since := 0, who := Requester.manager } ∧ W.switch3.inputRuns 3 1 = true ∧
      W.switch3.inputRuns 3 0 = true) ∧
    (W.switch7.switch? 7 = some { old := 1, new := 0, since := 0, who := Requester.manager } ∧
      (W.switch7.inputRuns 7 1 = false ∨ W.switch7.inputRuns 7 0 = false)) ∧
    (W.switch3.switch? 3 = some { old := 1, new := 0, since := 0, who := Requester.manager } ∧ 10000 ≤ W.switch3.dtime) ∧
    (W.hot.accepts Requester.gaffer (Obj.MUX_FORCE 8) 1 = true ∧ 1 ≠ 0 ∧ W.hot.switch? 8 = none) ∧
    (W.switch3.accepts Requester.gaffer (Obj.MUX_FORCE 3) 1 = true ∧ 1 ≠ 0 ∧
      W.switch3.switch? 3 = some { old := 1, new := 0, since := 0, who := Requester.manager } ∧ (3 = 3 ∨ 6 ≤ 3)) ∧
    (7 ∈ W.held.clocks.held) := by
  refine ⟨?_, ?_, ?_, ?_, ?_, ?_, ?_, ?_⟩ <;> decide +kernel

/-- What GatesAndDomainsFollowRequests assumes, clause by clause, holds of these. -/
theorem witness_GatesAndDomainsFollowRequests :
    (W.hot.accepts Requester.gaffer (Obj.GATE_CTRL 2) 1 = true ∧ gateFixed 2 = true) ∧
    (W.hot.accepts Requester.gaffer (Obj.GATE_CTRL 35) 1 = true ∧ gateFixed 35 = false ∧ (requesterNormal Requester.gaffer = true → ∀ (h : Nat),
      h ∈ 35 :: gateAncestors 35 4 → W.hot.bitternOwns (Obj.GATE_CTRL h) = false) ∧ W.hot.rd (Obj.GATE_STATE 35) ≠ 2) ∧
    (W.hot.accepts Requester.gaffer (Obj.GATE_CTRL 35) 0 = true ∧ gateFixed 35 = false ∧ W.hot.gateChildren 35 = false ∧
      W.hot.rd (Obj.GATE_STATE 35) ≠ 0) ∧
    (W.gatesShut.accepts Requester.gaffer (Obj.GATE_CTRL 105) 0 = true ∧ gateFixed 105 = false ∧ W.gatesShut.gateChildren 105 = false ∧
      W.gatesShut.rd (Obj.GATE_STATE 105) = 0) ∧
    (W.gateCloses.rd (Obj.GATE_STATE 14) = 2 ∧ W.gateCloses.gateBusy 14 = false) ∧
    (W.hot.accepts Requester.gaffer (Obj.DOM_CTRL 2) 1 = true ∧ domainFixed 2 = true) ∧
    (W.hot.accepts Requester.gaffer (Obj.DOM_CTRL 3) 1 = true ∧ domainFixed 3 = false ∧ W.hot.domainOn 3 = true) ∧
    (W.domains.accepts Requester.gaffer (Obj.DOM_CTRL 6) 1 = true ∧ domainFixed 6 = false ∧ W.domains.domainOn 6 = false ∧
      domainState (W.domains.rd Obj.PWR_STATE) 6 = 1) ∧
    (W.domainStarts.rd (Obj.DOM_STATE 15) = 3) ∧
    (W.hot.accepts Requester.gaffer (Obj.DOM_CTRL 3) 0 = true ∧ domainFixed 3 = false ∧ W.hot.domainGates 3 = true) ∧
    (W.gatesShut.accepts Requester.gaffer (Obj.DOM_CTRL 16) 0 = true ∧ domainFixed 16 = false ∧ W.gatesShut.domainGates 16 = false) ∧
    (W.gatesShut.accepts Requester.gaffer (Obj.DOM_CTRL 16) 2 = true ∧ domainFixed 16 = false ∧ W.gatesShut.domainGates 16 = false ∧
      W.gatesShut.rd (Obj.DOM_CTRL 16) ≠ 0) ∧
    (W.domains.rd (Obj.DOM_CTRL 6) = 2) := by
  refine ⟨?_, ?_, ?_, ?_, ?_, ?_, ?_, ?_, ?_, ?_, ?_, ?_, ?_⟩ <;> decide +kernel

/-- What PowerStatesAreEnteredAndLeft assumes, clause by clause, holds of these. -/
theorem witness_PowerStatesAreEnteredAndLeft :
    (W.hot.boot.stage = 6 ∧ W.hot.power.sag = none ∧ W.hot.power.exitCause = none ∧ W.hot.rd Obj.PWR_STATE < 4 ∧ 60000 ≤ W.hot.minTolerance.fst) ∧
    (W.full.boot.stage = 6 ∧ W.full.power.sag = none ∧ W.full.power.exitCause = none ∧ W.full.rd Obj.PWR_STATE < 4 ∧ W.full.minTolerance.fst < 60000) ∧
    (0 < 7 ∧ W.asleep.rd Obj.PWR_STATE ≠ 0 ∧ W.asleep.power.exitCause = none ∧ W.asleep.power.sag = none) ∧
    (0 < 7 ∧ W.sagAsleep.rd Obj.PWR_STATE ≠ 0 ∧ W.sagAsleep.power.exitCause = none ∧ W.sagAsleep.power.sag.isSome = true) ∧
    (W.wakes.power.exitCause = some 3) := by
  decide +kernel

/-- What PowerLimitsTripsAndSags assumes, clause by clause, holds of these. -/
theorem witness_PowerLimitsTripsAndSags :
    (5 < W.hot.warnMv 0 ∧ W.hot.power.sag = none) ∧
    (W.sags.rd (Obj.SUP_STATE 4) = 1 ∧
      W.sags.power.sag = some { rail := 4, lowest := 700, pos := { frame := 0#32, line := 0#16, frac := 0#16 }, start := 0 }) ∧
    (W.sagOver.power.sag = some { rail := 4, lowest := 700, pos := { frame := 0#32, line := 0#16, frac := 0#16 }, start := 0, recovered := some 5000 } ∧
      4 < 12 ∧ 1005000 ≤ W.sagOver.dtime) ∧
    (W.sagRecovers.power.sag = some { rail := 4, lowest := 700, pos := { frame := 0#32, line := 0#16, frac := 0#16 }, start := 0, recovered := some 5000 } ∧
      4 < 12 ∧ W.sagRecovers.dtime < 1005000) ∧
    (W.full.accepts Requester.gaffer (Obj.SUP_INJECT 1) 1 = true ∧ 1 ≠ 0 ∧ W.full.rd Obj.INJ_ENABLE = 1 ∧ W.full.power.sag = none) ∧
    (W.held.accepts Requester.gaffer (Obj.SUP_INJECT 3) 1 = true ∧ 1 ≠ 0 ∧ W.held.rd Obj.INJ_ENABLE ≠ 1) ∧
    (W.avs.rd Obj.PWR_AVS_I2C ≠ 255 ∧ W.avs.power.avsHeld = false) := by
  refine ⟨?_, ?_, ?_, ?_, ?_, ?_, ?_⟩ <;> decide +kernel

/-- What ResetsAndStartUp assumes, clause by clause, holds of these. -/
theorem witness_ResetsAndStartUp :
    (W.tripped.heldInReset = true) ∧
    (W.hot.accepts (Requester.field 0) Obj.RST_COLD_REQ 1 = true ∧ W.hot.heldInReset = false) ∧
    (W.hot.accepts Requester.gaffer Obj.RST_WARM_REQ 1 = true ∧ W.hot.heldInReset = false) ∧
    (W.imageWarm.boot.stage = 4 ∧ W.imageWarm.bitState = 3) ∧
    (W.trains.boot.stage = 5) ∧
    ((W.recovery3.boot.stage = 3 ∨ W.recovery3.boot.stage = 7) ∧ field (W.recovery3.rd Obj.RST_STRAPS) 5 4 = 3 ∧ 0 ≤ 33554432) ∧
    (field (W.hot.rd Obj.RST_STRAPS) 5 4 ≠ 3) ∧
    ((W.recovery2.boot.stage = 3 ∨ W.recovery2.boot.stage = 7) ∧ field (W.recovery2.rd Obj.RST_STRAPS) 5 4 = 2) ∧
    (W.hot.boot.stage = 6 ∧ (List.filter (fun t ↦ W.hot.dtime.blt (t + 60000000000)) W.hot.boot.gafRestarts).length < 3 ∧
      W.hot.accepts Requester.gaffer Obj.RST_GAF_RESTART_REQ 1 = true) ∧
    (W.thrice.boot.stage = 6 ∧ 3 ≤ (List.filter (fun t ↦ W.thrice.dtime.blt (t + 60000000000)) W.thrice.boot.gafRestarts).length) ∧
    (W.gafRestarting.boot.stage = 8 ∧ W.gafRestarting.bitState = 3) := by
  refine ⟨?_, ?_, ?_, ?_, ?_, ?_, ?_, ?_, ?_, ?_, ?_⟩ <;> decide +kernel

/-- What LogInjectionDailiesAndTally assumes, clause by clause, holds of these. -/
theorem witness_LogInjectionDailiesAndTally :
    (W.logs.gafferRuns = true ∧ W.logs.log.causePending = false ∧ W.logs.log.bounded = true) ∧
    (State.reset.gafferRuns = false) ∧
    (W.tree.accepts Requester.gaffer (Obj.INJ_ARM 0) 0 = true) ∧
    (W.hot.accepts Requester.gaffer (Obj.INJ_ARM 5) 2 = true ∧ 2 ≠ 0 ∧ W.hot.rd Obj.INJ_ENABLE ≠ 1) ∧
    (W.full.accepts Requester.gaffer (Obj.INJ_ARM 2) 2 = true ∧ 2 ≠ 0 ∧ W.full.rd Obj.INJ_ENABLE = 1 ∧ 2 ≠ 12 ∧ 2 ≠ 13 ∧ 2 ≠ 19) ∧
    (0 < 816 ∧ (sliceUnit 0).isSome = true) ∧
    (W.slices.gafferDown = false ∧ (W.slices.dailies.running.any fun r ↦ decide (r.slice = 512)) = true ∧ W.slices.rd Obj.INJ_ENABLE ≠ 1) ∧
    (List.find? (fun x ↦ decide (x.slice = 16)) W.sliceLate.dailies.running = some { slice := 16, start := 0, budget := 500 } ∧
      500000 ≤ W.sliceLate.dtime) ∧
    (List.find? (fun x ↦ decide (x.slice = 16)) W.slices.dailies.running = some { slice := 16, start := 0, budget := 500 } ∧ W.slices.dtime < 500000) ∧
    (W.hot.boot.stage = 6) ∧
    (1 < 42) ∧
    (W.avs.accepts Requester.gaffer (Obj.TALLY_OVF_CLEAR 2) 1 = true) := by
  refine ⟨?_, ?_, ?_, ?_, ?_, ?_, ?_, ?_, ?_, ?_, ?_, ?_⟩ <;> decide +kernel

/-- StepKeepsStateSound: a sound state, and the state after its step. -/
theorem witness_StepKeepsStateSound : ∃ t, W.run.sound = true ∧ step { W.run with pending := [.logMove] } = .next t :=
  ⟨_, by decide +kernel, rfl⟩

/-- INST_CREATE of InstancesAreMadeAndReset, whichever number of key slots the part has. -/
theorem witness_InstancesAreMadeAndReset_create :
    W.create.offers .manager 0 16 { id := 0, owner := 64, queue := 0, desc := W.d 0x10 [(64, 1), (68, 9), (96, 250)] } = true ∧
    W.create.bitternDown = false ∧ W.create.freeKeySlot = some 3 ∧
    (List.range 64).find? (fun i => decide ((W.create.inst i).state = .free)) = some 0 ∧
    (W.create.boundTo 1).length < W.create.rd (Obj.PORT_INST_QUOTA 1) ∧ W.create.pasidUsed 1 9 = false ∧
    ((W.create.startItem 0).placeContext 0).isSome = true := by
  refine ⟨by decide +kernel, by decide +kernel, ?_, by decide +kernel, by decide +kernel, by decide +kernel, by decide +kernel⟩
  unfold State.freeKeySlot keySlots
  cases Config.suffixS <;> decide +kernel

/-- The descriptor of the PIPELINE request in `W.pipeCached`. -/
def W.pipeD : BitVec 512 := W.d 0x42 [(96, 7), (128, 0), (160, 512)]
theorem surfBytes_modRaster (s : State) (f : Raster → Raster) (n o k : Nat) : (s.modRaster f).surfBytes n o k = s.surfBytes n o k := by
  induction k generalizing o with
  | zero => rfl
  | succ k ih => simp only [State.surfBytes, ih]; rfl
theorem stageKey_modRaster (s : State) (f : Raster → Raster) (d : BitVec 512) (i : Nat) : (s.modRaster f).stageKey d i = s.stageKey d i := by
  simp only [State.stageKey, State.entryName, State.stageEntry, State.image, surfBytes_modRaster]
/-- A CREATE of PipelinesAndPages whose stages are all cached, whatever their hashes. -/
theorem witness_PipelinesAndPages_cached :
    W.pipeCached.offers .manager 0 0x42 { id := 0, owner := 64, queue := 0, desc := W.pipeD } = true ∧ W.pipeCached.imageBad 64 W.pipeD = false ∧
    (∀ i, i < W.pipeCached.imageStages W.pipeD → W.pipeCached.stageBad W.pipeD i = false) ∧
    (∀ i, i < W.pipeCached.imageStages W.pipeD → (W.pipeCached.cached 64 (W.pipeCached.stageKey W.pipeD i)).isSome = true) ∧
    W.pipeCached.freeHandle 64 = some 0 := by
  refine ⟨by decide +kernel, by decide +kernel, by decide +kernel, ?_, by decide +kernel⟩
  have h1 : W.pipeCached.imageStages W.pipeD = 1 := by decide +kernel
  intro i hi
  obtain rfl : i = 0 := by omega
  have h2 : W.pipeCached.stageKey W.pipeD 0 = W.pipeCreate.stageKey W.pipeD 0 := stageKey_modRaster _ _ _ _
  rw [h2]
  have h3 : W.pipeCached.raster.cache = [⟨0x40, W.pipeCreate.stageKey W.pipeD 0, 100, 0⟩] := rfl
  simp [State.cached, h3]

/-- A right CONFIRM of SessionsOpenCloseAndCarry, whatever the hash function is. -/
theorem witness_SessionsOpenCloseAndCarry_confirm :
    W.confirms.session? 3 = some W.confirmSession ∧ W.confirms.nextTxn 3 0x11 = some W.confirmTxn ∧
    W.confirmTxn.body = W.confirmSession.nonceC ++ W.confirmSession.nonceD ∧
    W.confirmTxn.raw.drop (W.confirmTxn.raw.length - 16) = macOf W.confirmSession.key (W.confirmTxn.raw.take (W.confirmTxn.raw.length - 16)) ∧
    W.confirms.rd Obj.INJ_ENABLE ≠ 1 :=
  ⟨rfl, rfl, rfl, rfl, by decide +kernel⟩

/-- The temperatures of PowerLimitsTripsAndSags, whatever the rated one is. -/
theorem witness_PowerLimitsTripsAndSags_temperatures :
    W.hot.power.hotUntil ≤ W.hot.dtime ∧ W.hot.rd Obj.INJ_ENABLE ≠ 1 ∧ Config.ratedTj - 5 < Config.ratedTj - 4 ∧
    Config.ratedTj - 11 < Config.ratedTj - 10 ∧ W.hot.power.hotCeiling < 1800 ∧ Config.ratedTj + 10 ≤ Config.ratedTj + 10 ∧
    Config.ratedTj + 9 < Config.ratedTj + 10 ∧ W.tripped.boot.tripped = true ∧ Config.ratedTj - 10 ≤ Config.ratedTj - 10 ∧
    Config.ratedTj - 10 < Config.ratedTj - 9 := by
  refine ⟨by decide +kernel, by decide +kernel, by omega, by omega, by decide +kernel, by omega, by omega, by decide +kernel, by omega, by omega⟩

end Sys2Proof.Tests
end

section
/-!
SUPPORT. O6: every command answers a next state and leaves the queue of waiting commands alone. `step` takes the command from
the queue before `exec` runs it, and no operation touches the queue. So each function of the model that makes a state gets one
lemma, in the model's order: the state it makes has the queue it was given. A later function's proof cites the lemmas of the
functions it calls, and a command's lemma those of its operations. The rules for the fields of the state are those of
Laws/State.lean.

`simp -implicitDefEqProofs` stands where a proof rewrites under a field update of the state: the rules used there hold by
`rfl`, and without their explicit proofs the kernel would compare the two states field by field.
-/
namespace Sys2Proof.Machine
open Sys2Proof

/-- The outcome `o` of a command run in `s` is a next state, and its queue is that of `s`. -/
def KeepsQueue (s : State) (o : Out) : Prop := ∃ t, o = .next t ∧ t.pending = s.pending

@[simp] theorem keepsQueue_next (s t : State) : KeepsQueue s (.next t) ↔ t.pending = s.pending := by simp [KeepsQueue]

@[simp] theorem keepsQueue_ite (c : Prop) [Decidable c] (s : State) (o p : Out) :
    KeepsQueue s (if c then o else p) ↔ if c then KeepsQueue s o else KeepsQueue s p := by split <;> rfl

namespace State

/-! Choices, loops and requests: what keeps the queue step by step keeps it. -/

@[simp] theorem pending_ite (c : Prop) [Decidable c] (s t : State) :
    (if c then s else t).pending = if c then s.pending else t.pending := apply_ite ..

@[simp] theorem pending_snd_ite {α : Type} (c : Prop) [Decidable c] (p q : α × State) :
    (if c then p else q).2.pending = if c then p.2.pending else q.2.pending := by split <;> rfl

@[simp] theorem pending_fst_ite {α : Type} (c : Prop) [Decidable c] (p q : State × α) :
    (if c then p else q).1.pending = if c then p.1.pending else q.1.pending := by split <;> rfl

@[simp] theorem each_pending {α : Type} (l : List α) (f : State → α → State) (s : State) (hf : ∀ t x, (f t x).pending = t.pending) :
    (s.each l f).pending = s.pending :=
  State.each_keeps (fun t => t.pending = s.pending) l f s (fun t x h => (hf t x).trans h) rfl

@[simp] theorem whenB_pending (s : State) (b : Bool) (f : State → State) (hf : ∀ t, (f t).pending = t.pending) :
    (s.whenB b f).pending = s.pending := by simp [whenB, hf]

@[simp] theorem request_pending (s : State) (rq : Requester) (addr type len v : Nat) (own : State → Nat × State)
    (h : ∀ t, (own t).2.pending = t.pending) : (s.request rq addr type len v own).pending = s.pending := by
  simp [request, h]

@[simp] theorem ownRequest_pending (s : State) (rq : Requester) (addr v : Nat) (own : State → Nat × State)
    (h : ∀ t, (own t).2.pending = t.pending) : (s.ownRequest rq addr v own).pending = s.pending := by
  unfold ownRequest; split <;> simp [h]

@[simp] theorem requestLater_pending (s : State) (rq : Requester) (addr v : Nat) (own : State → Option Nat × State)
    (h : ∀ t, (own t).2.pending = t.pending) : (s.requestLater rq addr v own).pending = s.pending := by
  unfold requestLater
  split
  · simp
  · dsimp only
    split
    · split <;> simp [h]
    · simp

/-! Ops: the log, objects and requests. -/

@[simp] theorem fresh_pending (s : State) : s.fresh.2.pending = s.pending := rfl

@[simp] theorem nextOrder_pending (s : State) : s.nextOrder.2.pending = s.pending := rfl

theorem pending_of_inject {s t : State} {d n : Nat} {p : Option Nat} (h : s.inject d n = (p, t)) : t.pending = s.pending := by
  rw [← inject_pending s d n, h]

@[simp] theorem tallyRecord_pending (s : State) (code source : Nat) : (s.tallyRecord code source).pending = s.pending := by
  unfold tallyRecord
  split <;> simp

/-! Operands: requests and plain writes. -/

@[simp] theorem plainWrite_pending (s : State) (addr v : Nat) : (s.plainWrite addr v).2.pending = s.pending := by
  simp [plainWrite]

/-! Flags: status and flag fields. -/

@[simp] theorem setCoasting_pending (s : State) (on : Bool) : (s.setCoasting on).pending = s.pending := by
  simp [setCoasting]

/-! Sprocket: the line clock, device time and the trigger slots (R11 to R55). -/

@[simp] theorem markReached_pending (s : State) (c : Clock) : (s.markReached c).pending = s.pending := rfl

@[simp] theorem markJumped_pending (s : State) (last : Spos) (tick : Nat) : (s.markJumped last tick).pending = s.pending := rfl

@[simp] theorem tick_pending (s : State) : s.tick.pending = s.pending := by
  simp [tick]

@[simp] theorem nextLine_pending (s : State) (ps : Nat) : (s.nextLine ps).pending = s.pending := rfl

@[simp] theorem endFrameCount_pending (s : State) : s.endFrameCount.pending = s.pending := by
  simp [endFrameCount]

@[simp] theorem newFrame_pending (s : State) (c : Clock) (last : Spos) : (s.newFrame c last).pending = s.pending := by
  simp [newFrame]

@[simp] theorem nextFrame_pending (s : State) (ps : Nat) : (s.nextFrame ps).pending = s.pending := by
  simp [nextFrame]

@[simp] theorem coastStart_pending (s : State) (cause : Nat) : (s.coastStart cause).pending = s.pending := by
  simp [coastStart]

@[simp] theorem coastIfLead_pending (s : State) (k cause : Nat) : (s.coastIfLead k cause).pending = s.pending := by
  simp [coastIfLead]

@[simp] theorem writeLead_pending (s : State) (v : Nat) : (s.writeLead v).2.pending = s.pending := by
  simp [writeLead]

@[simp] theorem relock_pending (s : State) : s.relock.pending = s.pending := by
  simp [relock]

@[simp] theorem s4Stop_pending (s : State) : s.s4Stop.pending = s.pending := rfl

@[simp] theorem s4Resume_pending (s : State) : s.s4Resume.pending = s.pending := by
  simp [s4Resume]

@[simp] theorem warmCoast_pending (s : State) : s.warmCoast.pending = s.pending := by
  simp [warmCoast]

@[simp] theorem syncLost_pending (s : State) : s.syncLost.pending = s.pending := by
  simp [syncLost]

@[simp] theorem writeSlotControl_pending (s : State) (n v : Nat) : (s.writeSlotControl n v).2.pending = s.pending := by
  simp [writeSlotControl]

@[simp] theorem writeSlotField_pending (s : State) (n addr v : Nat) : (s.writeSlotField n addr v).2.pending = s.pending := by
  simp [writeSlotField]

@[simp] theorem slotFiredWith_pending (s : State) (d : DueSlot) (outcome : Nat) : (s.slotFiredWith d outcome).pending = s.pending := by
  simp -implicitDefEqProofs [slotFiredWith]

@[simp] theorem slotTally_pending (s : State) (d : DueSlot) (a outcome owner : Nat) : (s.slotTally d a outcome owner).pending = s.pending := by
  simp [slotTally]

@[simp] theorem fire_pending (s : State) (n action : Nat) (act : State → Nat → State × Nat) (h : ∀ t a, (act t a).1.pending = t.pending) :
    (s.fire n action act).pending = s.pending := by
  unfold fire; split <;> simp -implicitDefEqProofs [h]

/-! Mailboxes and doorbells (R395, R409 to R417). -/

@[simp] theorem notifyMb_pending (s : State) (m bits : Nat) : (s.notifyMb m bits).pending = s.pending := by
  unfold notifyMb
  split
  · simp
  · split <;> simp

@[simp] theorem setPend_pending (s : State) (m bits : Nat) : (s.setPend m bits).pending = s.pending := by
  simp [setPend]

@[simp] theorem wake_pending (s : State) (cause : Nat) : (s.wake cause).pending = s.pending := by
  unfold wake
  split
  · simp
  · split <;> simp

@[simp] theorem ring_pending (s : State) (m bits : Nat) : (s.ring m bits).2.pending = s.pending := by
  simp [ring]

@[simp] theorem ringObject_pending (s : State) (v : Nat) : (s.ringObject v).pending = s.pending := by
  simp [ringObject]

@[simp] theorem releaseHeld_pending (s : State) : s.releaseHeld.pending = s.pending := by
  simp [releaseHeld]

@[simp] theorem mbError_pending (s : State) (rq : Requester) (e : MbEnd) : (s.mbError rq e).pending = s.pending := by
  unfold mbError
  split <;> simp

@[simp] theorem mbWrite_pending (s : State) (rq : Requester) (m : Nat) (e : MbEnd) (served : Bool) (f : State → State)
    (h : ∀ t, (f t).pending = t.pending) : (s.mbWrite rq m e served f).pending = s.pending := by
  simp -implicitDefEqProofs [mbWrite, h]

@[simp] theorem pushWord_pending (s : State) (m word : Nat) : (s.pushWord m word).pending = s.pending := by
  simp [pushWord]

@[simp] theorem releaseWords_pending (s : State) (m n : Nat) : (s.releaseWords m n).pending = s.pending := by
  simp [releaseWords]

@[simp] theorem doorbellWrite_pending (s : State) (m v : Nat) : (s.doorbellWrite m v).pending = s.pending := by
  simp [doorbellWrite]

@[simp] theorem discardBittern_pending (s : State) : s.discardBittern.pending = s.pending := by
  simp [discardBittern]

/-! Queues, descriptors and completions (R304 to R317, R326 to R328). -/

@[simp] theorem startItem_pending (s : State) (id : Nat) : (s.startItem id).pending = s.pending := by
  simp [startItem]

@[simp] theorem ioWrite_pending (s : State) (o addr n : Nat) : (s.ioWrite o addr n).pending = s.pending := by
  simp [ioWrite]

@[simp] theorem writeRecord_pending (s : State) (it : Item) (status detail : Nat) (pos : Spos) (time : Nat) :
    (s.writeRecord it status detail pos time).pending = s.pending := by
  simp [writeRecord]

@[simp] theorem completeAt_pending (s : State) (id status detail : Nat) (pos : Spos) (time : Nat) :
    (s.completeAt id status detail pos time).pending = s.pending := by
  unfold completeAt
  split <;> simp

@[simp] theorem complete_pending (s : State) (id status detail : Nat) : (s.complete id status detail).pending = s.pending := by
  simp [complete]

@[simp] theorem finish_pending (s : State) (id status : Nat) : (s.finish id status).pending = s.pending := by
  simp [finish]

@[simp] theorem onItem_pending (s : State) (o q type : Nat) (f : State → Item → State) (h : ∀ t it, (f t it).pending = t.pending) :
    (s.onItem o q type f).pending = s.pending := by
  unfold onItem; split <;> simp -implicitDefEqProofs [h]

@[simp] theorem onItemIf_pending (s : State) (o q type : Nat) (p : BitVec 512 → Bool) (f : State → Item → State)
    (h : ∀ t it, (f t it).pending = t.pending) : (s.onItemIf o q type p f).pending = s.pending := by
  unfold onItemIf; split <;> simp -implicitDefEqProofs [h]

@[simp] theorem armFor_pending (s : State) (n owner action arg pos ctl : Nat) : (s.armFor n owner action arg pos ctl).2.pending = s.pending := by
  simp [armFor]

/-! Memory: bytes of surfaces. -/

@[simp] theorem surfWrite_pending (s : State) (n o : Nat) (v : BitVec 8) : (s.surfWrite n o v).pending = s.pending := by
  unfold surfWrite
  refine each_pending _ _ _ fun t x => ?_
  simp

@[simp] theorem surfWriteList_pending (s : State) (n o : Nat) (bytes : List (BitVec 8)) :
    (s.surfWriteList n o bytes).pending = s.pending := by
  induction bytes generalizing s o with
  | nil => rfl
  | cons v vs ih => exact (ih ..).trans (surfWrite_pending ..)

@[simp] theorem storeLine_pending (s : State) (n o : Nat) (bytes : List (BitVec 8)) : (s.storeLine n o bytes).1.pending = s.pending := by
  unfold storeLine
  split
  · split
    · split <;> simp
    · simp
  · simp

@[simp] theorem storeLines_pending (s : State) (n fuel o : Nat) (bytes : List (BitVec 8)) : (s.storeLines n fuel o bytes).1.pending = s.pending := by
  induction fuel generalizing s o bytes with
  | zero => rfl
  | succ fuel ih =>
    cases bytes with
    | nil => rfl
    | cons b bs => exact (ih ..).trans (storeLine_pending ..)

@[simp] theorem store_pending (s : State) (n o : Nat) (bytes : List (BitVec 8)) : (s.store n o bytes).1.pending = s.pending := by
  simp [store]

@[simp] theorem forgetBytes_pending (s : State) (n : Nat) (p : Nat → Bool) : (s.forgetBytes n p).pending = s.pending := rfl

/-! Backing of outputs (R72 to R76, R110 to R112). -/

@[simp] theorem evict_pending (s : State) (n : Nat) : (s.evict n).pending = s.pending := by
  unfold evict
  dsimp only
  split <;> simp

@[simp] theorem evictUntil_pending (s : State) (want : Nat) (l : List Nat) : (s.evictUntil want l).pending = s.pending := by
  induction l generalizing s with
  | nil => rfl
  | cons n l ih => simp [evictUntil, ih]

/-- The moves of R72's second step only mark outputs as moving. -/
theorem movesRun_pending (m m' : Moves) (needs : List Need) (l : List Mover) (h : m.run needs l = some m') :
    m'.s.pending = m.s.pending := by
  induction l generalizing m with
  | nil =>
    unfold Moves.run at h
    split at h
    · rw [← Option.some.inj h]
    · simp at h
  | cons c l ih =>
    unfold Moves.run at h
    dsimp only at h
    split at h
    · rw [← Option.some.inj h]
    · split at h
      · simp at h
      · split at h
        · simp at h
        · exact (ih _ h).trans (setBacking_pending ..)

theorem backOutput_pending (s : State) (needs : List Need) (format priority latency : Nat) (next : Bool) (r : State × List Nat × List Nat)
    (h : s.backOutput needs format priority latency next = some r) : r.1.pending = s.pending := by
  unfold backOutput at h
  dsimp only at h
  split at h
  · simp at h
  next m hm =>
    split at h
    · simp at h
    · obtain rfl := Option.some.inj h
      refine (each_pending _ _ _ fun t x => ?_).trans ((movesRun_pending _ _ _ _ hm).trans (evictUntil_pending ..))
      simp

@[simp] theorem markDramFed_pending (s : State) (k : Nat) (b : Bool) : (s.markDramFed k b).pending = s.pending := by
  simp [markDramFed]

@[simp] theorem switchDram_pending (s : State) (k : Nat) : (s.switchDram k).pending = s.pending := by
  unfold switchDram
  dsimp only
  split <;> simp

@[simp] theorem returnEach_pending (s : State) (l : List Nat) : (s.returnEach l).pending = s.pending := by
  induction l generalizing s with
  | nil => rfl
  | cons k l ih =>
    unfold returnEach
    dsimp only
    split
    · split <;> simp [ih]
    · exact ih s

@[simp] theorem reelReturn_pending (s : State) : s.reelReturn.pending = s.pending := by
  simp [reelReturn]

@[simp] theorem leaveDram_pending (s : State) (k : Nat) : (s.leaveDram k).pending = s.pending := by
  unfold leaveDram
  dsimp only
  split <;> simp

@[simp] theorem freeBacking_pending (s : State) (k : Nat) : (s.freeBacking k).pending = s.pending := by
  simp [freeBacking]

@[simp] theorem takeNextHold_pending (s : State) (k : Nat) : (s.takeNextHold k).pending = s.pending := by
  unfold takeNextHold
  dsimp only
  split <;> simp

@[simp] theorem reassignBuffer_pending (s : State) (k i : Nat) : (s.reassignBuffer k i).pending = s.pending := by
  unfold reassignBuffer
  dsimp only
  split <;> simp

/-! Grip: surfaces, unit health and migrations (R56 to R94). -/

theorem placeNew_pending (s : State) (n : Nat) (x : Surface) (t : State) (h : s.placeNew n x = some t) : t.pending = s.pending := by
  unfold placeNew at h
  split at h
  · simp [← Option.some.inj h]
  · split at h
    · simp [← Option.some.inj h]
    · simp at h

@[simp] theorem forgetSurface_pending (s : State) (x : Surface) : (s.forgetSurface x).pending = s.pending := rfl

@[simp] theorem freeSurface_pending (s : State) (n : Nat) : (s.freeSurface n).pending = s.pending := by
  simp [freeSurface]

@[simp] theorem releaseIfFree_pending (s : State) (n : Nat) : (s.releaseIfFree n).pending = s.pending := by
  unfold releaseIfFree
  dsimp only
  split
  · simp
  · split <;> simp

@[simp] theorem release_pending (s : State) (n : Nat) (item : Option Nat) : (s.release n item).pending = s.pending := by
  simp [release]

@[simp] theorem setHealth_pending (s : State) (n : Nat) (h : Health) : (s.setHealth n h).pending = s.pending := by
  simp [setHealth]

@[simp] theorem failUnit_pending (s : State) (n : Nat) : (s.failUnit n).pending = s.pending := by
  simp [failUnit]

@[simp] theorem sample_pending (s : State) (n v : Nat) : (s.sample n v).pending = s.pending := by
  simp [sample]

@[simp] theorem judgeSlow_pending (s : State) (n ratio : Nat) : (s.judgeSlow n ratio).pending = s.pending := by
  simp [judgeSlow]

@[simp] theorem judge_pending (s : State) (t : Thresholds) (n : Nat) : (s.judge t n).pending = s.pending := by
  unfold judge
  dsimp only
  split <;> simp

@[simp] theorem startMigration_pending (s : State) (n : Nat) : (s.startMigration n).pending = s.pending := by
  unfold startMigration
  dsimp only
  split
  · simp
  · split <;> simp

@[simp] theorem restartCopies_pending (s : State) : s.restartCopies.pending = s.pending := by
  unfold restartCopies
  refine each_pending _ _ _ fun t x => ?_
  split <;> simp

@[simp] theorem moveDramBuffers_pending (s : State) : s.moveDramBuffers.pending = s.pending := by
  unfold moveDramBuffers
  refine each_pending _ _ _ fun t x => ?_
  split <;> simp

@[simp] theorem startMigrations_pending (s : State) : s.startMigrations.pending = s.pending := by
  simp [startMigrations]

@[simp] theorem fenceRanks_pending (s : State) : s.fenceRanks.pending = s.pending := by
  simp [fenceRanks]

@[simp] theorem moveTiles_pending (s : State) (n : Nat) : (s.moveTiles n).pending = s.pending := by
  unfold moveTiles
  refine each_pending _ _ _ fun t x => ?_
  dsimp only
  split
  · simp
  · split <;> simp

@[simp] theorem copyDone_pending (s : State) (n : Nat) : (s.copyDone n).pending = s.pending := by
  unfold copyDone
  dsimp only
  split <;> simp

@[simp] theorem cutover_pending (s : State) (n : Nat) : (s.cutover n).pending = s.pending := by
  unfold cutover
  dsimp only
  split <;> simp

@[simp] theorem cutoverAtLatch_pending (s : State) (k : Nat) : (s.cutoverAtLatch k).pending = s.pending := by
  simp [cutoverAtLatch]

@[simp] theorem cutoverAtStart_pending (s : State) (uses : List Nat) : (s.cutoverAtStart uses).pending = s.pending := by
  simp [cutoverAtStart]

@[simp] theorem balance_pending (s : State) (t : Thresholds) (util : List (Fin 8 × Nat)) : (s.balance t util).pending = s.pending := by
  unfold balance
  dsimp only
  split
  · split
    · simp
    · split <;> simp
  · simp

@[simp] theorem credit_pending (s : State) (durationNs : Nat) : (s.credit durationNs).pending = s.pending := by
  simp -implicitDefEqProofs [credit]

@[simp] theorem measure_pending (s : State) (rates : List (Fin 16384 × Nat)) : (s.measure rates).pending = s.pending := by
  unfold measure
  refine each_pending _ _ _ fun t x => ?_
  simp

/-! The Reel (R95 to R136). -/

@[simp] theorem writeCritRects_pending (s : State) (k v : Nat) : (s.writeCritRects k v).2.pending = s.pending := by
  simp [writeCritRects]

@[simp] theorem latchCritRects_pending (s : State) (k : Nat) : (s.latchCritRects k).pending = s.pending := by
  simp [latchCritRects]

@[simp] theorem writeSubstTable_pending (s : State) (v : Nat) : (s.writeSubstTable v).2.pending = s.pending := by
  simp -implicitDefEqProofs [writeSubstTable]

@[simp] theorem substCheckFails_pending (s : State) (i : Nat) : (s.substCheckFails i).pending = s.pending := by
  simp -implicitDefEqProofs [substCheckFails]

@[simp] theorem writeScanMode_pending (s : State) (k v : Nat) : (s.writeScanMode k v).2.pending = s.pending := by
  simp [writeScanMode]

@[simp] theorem latchScanMode_pending (s : State) (k : Nat) : (s.latchScanMode k).pending = s.pending := by
  simp [latchScanMode]

@[simp] theorem reelUe_pending (s : State) (slice owner : Nat) (injected fails : Bool) :
    (s.reelUe slice owner injected fails).pending = s.pending := by
  simp [reelUe]

@[simp] theorem scanUe_pending (s : State) (k slice : Nat) (injected fails : Bool) : (s.scanUe k slice injected fails).pending = s.pending := by
  simp [scanUe]

@[simp] theorem slip_pending (s : State) (k y : Nat) (injected : Bool) : (s.slip k y injected).pending = s.pending := by
  simp -implicitDefEqProofs [slip]

@[simp] theorem abandon_pending (s : State) (k lines : Nat) : (s.abandon k lines).pending = s.pending := by
  simp -implicitDefEqProofs [abandon]

@[simp] theorem raceFetch_pending (s : State) (k y lines : Nat) : (s.raceFetch k y lines).pending = s.pending := by
  simp -implicitDefEqProofs [raceFetch]

@[simp] theorem reelFetch_pending (s : State) (k y : Nat) (badWord : Option (Fin 3072)) : (s.reelFetch k y badWord).pending = s.pending := by
  unfold reelFetch
  split
  · dsimp only
    split <;> simp
  · dsimp only
    split <;> simp

/-! Matte layers and colour (R137 to R177). -/

@[simp] theorem checkSubst_pending (s : State) (d : BitVec 512) (owner : Nat) (ok : Bool) : (s.checkSubst d owner ok).pending = s.pending := by
  simp [checkSubst]

@[simp] theorem markColour_pending (s : State) (k : Nat) : (s.markColour k).pending = s.pending := by
  simp [markColour]

@[simp] theorem writeColour_pending (s : State) (rq : Requester) (addr v : Nat) : (s.writeColour rq addr v).2.pending = s.pending := by
  simp [writeColour]

@[simp] theorem writeLutSwap_pending (s : State) (k v : Nat) : (s.writeLutSwap k v).2.pending = s.pending := by
  simp [writeLutSwap]

@[simp] theorem writeLutBlock_pending (s : State) (k j v : Nat) : (s.writeLutBlock k j v).2.pending = s.pending := by
  simp [writeLutBlock]

@[simp] theorem latchColour_pending (s : State) (k n : Nat) : (s.latchColour k n).pending = s.pending := by
  unfold latchColour
  dsimp only
  split <;> simp

/-! Compositions. -/

@[simp] theorem idleEngine_pending (s : State) (e : Nat) : (s.idleEngine e).pending = s.pending := by
  simp [idleEngine]

@[simp] theorem unbindLayers_pending (s : State) (e : Nat) : (s.unbindLayers e).pending = s.pending := rfl

@[simp] theorem bindLayers_pending (s : State) (k : Nat) (c : Composition) (half e : Nat) : (s.bindLayers k c half e).pending = s.pending := by
  simp [bindLayers]

@[simp] theorem startEngine_pending (s : State) (k : Nat) (c : Composition) (half e : Nat) : (s.startEngine k c half e).pending = s.pending := by
  simp [startEngine]

@[simp] theorem modComp_pending (s : State) (k id : Nat) (f : Composition → Composition) : (s.modComp k id f).pending = s.pending := by
  simp [modComp]

@[simp] theorem assign_pending (s : State) (k id half e : Nat) : (s.assign k id half e).pending = s.pending := by
  unfold assign
  dsimp only
  split <;> simp

@[simp] theorem giveEngines_pending (s : State) : s.giveEngines.pending = s.pending := by
  unfold giveEngines
  refine each_pending _ _ _ fun t k => each_pending _ _ _ fun t c => each_pending _ _ _ fun t p => ?_
  split
  · rfl
  · split <;> simp

@[simp] theorem releaseSplit_pending (s : State) (k : Nat) : (s.releaseSplit k).pending = s.pending := by
  unfold releaseSplit
  dsimp only
  split <;> simp

@[simp] theorem endSplit_pending (s : State) : s.endSplit.2.pending = s.pending := by
  unfold endSplit
  split <;> simp

@[simp] theorem bindHalf_pending (s : State) (k half : Nat) : (s.bindHalf k half).pending = s.pending := by
  unfold bindHalf
  split
  · simp
  · dsimp only
    split
    · simp
    · split
      · split <;> simp
      · simp

@[simp] theorem releaseEngines_pending (s : State) (k : Nat) : (s.releaseEngines k).pending = s.pending := by
  simp -implicitDefEqProofs [releaseEngines]

@[simp] theorem decideSplit_pending (s : State) (k est : Nat) : (s.decideSplit k est).pending = s.pending := by
  unfold decideSplit
  extract_lets x thr period
  clear_value x thr period
  split
  · simp
  · split
    · split <;> simp
    · split
      · simp
      · split <;> simp

@[simp] theorem rejectPart_pending (s : State) (k : Nat) (f : Nat × Nat) (cs : List Commit) : (s.rejectPart k f cs).pending = s.pending := by
  simp [rejectPart]

@[simp] theorem markSolid_pending (s : State) (k : Nat) (ls : List (Nat × BitVec 512 × Nat)) : (s.markSolid k ls).pending = s.pending := by
  unfold markSolid
  split <;> simp

@[simp] theorem injectEngine_pending (s : State) (k e : Nat) : (s.injectEngine k e).pending = s.pending := by
  unfold injectEngine
  dsimp only
  split <;> simp

@[simp] theorem startComposition_pending (s : State) (k : Nat) (c : Composition) (atLatchPoint : Bool) :
    (s.startComposition k c atLatchPoint).pending = s.pending := by
  simp [startComposition]

@[simp] theorem latchInto_pending (s : State) (k : Nat) (cs : List Commit) (buffer : Nat) (atLatchPoint heldAnyway : Bool) :
    (s.latchInto k cs buffer atLatchPoint heldAnyway).pending = s.pending := by
  unfold latchInto
  extract_lets x prev shadow stale failN failC bad s₁ s₂ good keep layers s₃ staleNow frame s₄ s₅ last s₆ late s₇ noted s₈ o c
  clear_value failN failC
  have h₁ : s₁.pending = s.pending := by simp only [s₁]; split <;> simp
  have h₂ : s₂.pending = s₁.pending := by simp only [s₂]; split <;> simp
  have h₃ : s₃.pending = s.pending := by simp [s₃, h₂, h₁]
  have h₄ : s₄.pending = s₃.pending := each_pending _ _ _ fun t z => by simp
  have h₅ : s₅.pending = s₄.pending := by simp [s₅]
  have h₆ : s₆.pending = s₅.pending := by simp only [s₆]; split <;> simp
  have h₇ : s₇.pending = s₆.pending := each_pending _ _ _ fun t d => by simp
  have h₈ : s₈.pending = s₇.pending := markSolid_pending ..
  have hq : o.2.pending = s₈.pending := rfl
  simp [hq, h₈, h₇, h₆, h₅, h₄, h₃]

@[simp] theorem latchOpportunity_pending (s : State) (k line : Nat) (atLatchPoint : Bool) :
    (s.latchOpportunity k line atLatchPoint).pending = s.pending := by
  unfold latchOpportunity
  split <;> simp

@[simp] theorem closeGuards_pending (s : State) (f : Guard → Bool) : (s.closeGuards f).pending = s.pending := by
  simp [closeGuards]

@[simp] theorem compositionDone_pending (s : State) (k : Nat) (c : Composition) : (s.compositionDone k c).pending = s.pending := by
  simp [compositionDone]

@[simp] theorem engineFaults_pending (s : State) (e : Nat) : (s.engineFaults e).pending = s.pending := by
  unfold engineFaults
  split <;> simp

/-! Guards of outputs (R293, R336 to R338). -/

@[simp] theorem dropSlot_pending (s : State) (n : Nat) : (s.dropSlot n).pending = s.pending := by
  simp [dropSlot]

@[simp] theorem armVictim_pending (s : State) (k : Nat) (pos : Spos) (i : Nat) : (s.armVictim k pos i).pending = s.pending := by
  unfold armVictim
  split
  · simp
  · split <;> simp

@[simp] theorem reconsider_pending (s : State) (k : Nat) : (s.reconsider k).pending = s.pending := by
  unfold reconsider
  split <;> simp

@[simp] theorem reconsiderAll_pending (s : State) : s.reconsiderAll.pending = s.pending := by
  simp [reconsiderAll]

@[simp] theorem skipGuard_pending (s : State) (k : Nat) : (s.skipGuard k).pending = s.pending := by
  simp [skipGuard]

@[simp] theorem armGuard_pending (s : State) (k : Nat) : (s.armGuard k).pending = s.pending := by
  simp [armGuard]

@[simp] theorem rearmGuards_pending (s : State) : s.rearmGuards.pending = s.pending := by
  unfold rearmGuards
  refine each_pending _ _ _ fun t x => ?_
  split <;> simp

@[simp] theorem guardExpires_pending (s : State) (k : Nat) : (s.guardExpires k).pending = s.pending := by
  simp [guardExpires]

/-! Display-port links (R221 to R248). -/

@[simp] theorem setPs_pending (s : State) (p b : Nat) (v : Bool) : (s.setPs p b v).pending = s.pending := by
  simp [setPs]

@[simp] theorem train_pending (s : State) (p : Nat) (list again : List LinkConfig) : (s.train p list again).pending = s.pending := by
  simp [train]

@[simp] theorem startTraining_pending (s : State) (p k : Nat) : (s.startTraining p k).pending = s.pending := by
  simp [startTraining]

@[simp] theorem stopLink_pending (s : State) (p : Nat) : (s.stopLink p).pending = s.pending := by
  simp [stopLink]

@[simp] theorem writeLaneMap_pending (s : State) (p v : Nat) : (s.writeLaneMap p v).2.pending = s.pending := by
  simp [writeLaneMap]

@[simp] theorem writeMaxLanes_pending (s : State) (p v : Nat) : (s.writeMaxLanes p v).2.pending = s.pending := by
  simp [writeMaxLanes]

@[simp] theorem writeMaxRate_pending (s : State) (p v : Nat) : (s.writeMaxRate p v).2.pending = s.pending := by
  simp [writeMaxRate]

@[simp] theorem writePortConfig_pending (s : State) (p v : Nat) : (s.writePortConfig p v).2.pending = s.pending := by
  simp [writePortConfig]

@[simp] theorem writeSeq_pending (s : State) (addr v : Nat) : (s.writeSeq addr v).2.pending = s.pending := by
  simp [writeSeq]

@[simp] theorem writePort_pending (s : State) (addr v : Nat) : (s.writePort addr v).2.pending = s.pending := by
  unfold writePort
  dsimp only
  split
  · simp
  · split <;> simp

@[simp] theorem writePanelModes_pending (s : State) (k v : Nat) : (s.writePanelModes k v).2.pending = s.pending := by
  simp -implicitDefEqProofs [writePanelModes]

@[simp] theorem fillSinkModes_pending (s : State) (p k : Nat) : (s.fillSinkModes p k).pending = s.pending := by
  simp [fillSinkModes]

/-! Output channels (R178 to R218). -/

@[simp] theorem enter_pending (s : State) (k : Nat) (x : OutState) : (s.enter k x).pending = s.pending := by
  simp [enter]

@[simp] theorem enterAll_pending (s : State) (g : Nat) (x : OutState) : (s.enterAll g x).pending = s.pending := by
  simp [enterAll]

@[simp] theorem setTotals_pending (s : State) (k t : Nat) (i : OutIntent) : (s.setTotals k t i).pending = s.pending := by
  simp [setTotals]

@[simp] theorem setTiming_pending (s : State) (g : Nat) (i : OutIntent) : (s.setTiming g i).pending = s.pending := by
  simp [setTiming]

@[simp] theorem endShown_pending (s : State) (g : Nat) : (s.endShown g).pending = s.pending := by
  unfold endShown
  split <;> simp

@[simp] theorem latchIntent_pending (s : State) (g : Nat) : (s.latchIntent g).pending = s.pending := by
  unfold latchIntent
  split <;> simp

@[simp] theorem latchMode_pending (s : State) (g : Nat) : (s.latchMode g).pending = s.pending := by
  simp [latchMode]

@[simp] theorem latchReturn_pending (s : State) (g : Nat) : (s.latchReturn g).pending = s.pending := by
  simp [latchReturn]

@[simp] theorem latchPoint_pending (s : State) (g : Nat) : (s.latchPoint g).pending = s.pending := by
  unfold latchPoint
  dsimp only
  split <;> simp

@[simp] theorem startPixel_pending (s : State) (g : Nat) : (s.startPixel g).pending = s.pending := by
  unfold startPixel
  dsimp only
  split
  · refine each_pending _ _ _ fun t x => ?_
    simp
  · refine each_pending _ _ _ fun t x => ?_
    simp

@[simp] theorem idlePlls_pending (s : State) : s.idlePlls.pending = s.pending := by
  simp [idlePlls]

@[simp] theorem stopPixel_pending (s : State) (k : Nat) : (s.stopPixel k).pending = s.pending := by
  simp [stopPixel]

@[simp] theorem tryRaster_pending (s : State) (k : Nat) : (s.tryRaster k).pending = s.pending := by
  simp -implicitDefEqProofs [tryRaster]

@[simp] theorem finishIntents_pending (s : State) : s.finishIntents.pending = s.pending := by
  unfold finishIntents
  refine each_pending _ _ _ fun t x => ?_
  dsimp only
  split <;> simp

theorem allocate_pending (s : State) (g : Nat) (i : OutIntent) (t : State) (h : s.allocate g i = some t) : t.pending = s.pending := by
  unfold allocate at h
  dsimp only at h
  split at h
  · rw [← Option.some.inj h]
  · split at h
    · simp at h
    next hb => simpa [← Option.some.inj h] using backOutput_pending _ _ _ _ _ _ _ hb

@[simp] theorem startOutput_pending (s : State) (k : Nat) : (s.startOutput k).pending = s.pending := by
  unfold startOutput
  dsimp only
  split
  · split
    · rfl
    · split
      · simp
      · split
        · simp
        next h => simp [allocate_pending _ _ _ _ h]
  · rfl

@[simp] theorem startAll_pending (s : State) (g : Nat) : (s.startAll g).pending = s.pending := by
  simp [startAll]

@[simp] theorem endStopped_pending (s : State) (g : Nat) : (s.endStopped g).pending = s.pending := by
  simp [endStopped]

@[simp] theorem endRaster_pending (s : State) (g : Nat) : (s.endRaster g).pending = s.pending := by
  simp -implicitDefEqProofs [endRaster]

@[simp] theorem stopMember_pending (s : State) (k named cause : Nat) (next : OutState) : (s.stopMember k named cause next).pending = s.pending := by
  unfold stopMember
  split <;> simp -implicitDefEqProofs

@[simp] theorem stopOutput_pending (s : State) (k cause : Nat) (next : OutState) : (s.stopOutput k cause next).pending = s.pending := by
  simp [stopOutput]

@[simp] theorem wakeOutput_pending (s : State) (g from_ : Nat) : (s.wakeOutput g from_).pending = s.pending := by
  simp [wakeOutput]

@[simp] theorem go_pending (s : State) (g line : Nat) (shows : Bool) : (s.go g line shows).pending = s.pending := by
  simp [go]

@[simp] theorem goRepeat_pending (s : State) (g line : Nat) : (s.goRepeat g line).pending = s.pending := by
  simp -implicitDefEqProofs [goRepeat]

@[simp] theorem decision_pending (s : State) (g line : Nat) (progress : List (Bool × Nat)) : (s.decision g line progress).pending = s.pending := by
  unfold decision
  dsimp only
  split <;> simp

@[simp] theorem countFrame_pending (s : State) (g : Nat) : (s.countFrame g).pending = s.pending := by
  simp [countFrame]

@[simp] theorem endLead_pending (s : State) (g : Nat) : (s.endLead g).pending = s.pending := by
  unfold endLead
  split
  · refine each_pending _ _ _ fun t x => ?_
    simp
  · simp

@[simp] theorem exchange_pending (s : State) (g : Nat) (c : Composition) : (s.exchange g c).pending = s.pending := by
  unfold exchange
  refine each_pending _ _ _ fun t x => ?_
  split
  · dsimp only
    split <;> simp
  · dsimp only
    split <;> simp

@[simp] theorem flipWithout_pending (s : State) (g : Nat) (c : Composition) : (s.flipWithout g c).pending = s.pending := rfl

@[simp] theorem endWake_pending (s : State) (g : Nat) : (s.endWake g).pending = s.pending := by
  unfold endWake
  split
  · rfl
  · extract_lets us s₁ s₂
    have h : s₂.pending = s.pending := by simp [s₂, s₁]
    clear_value s₂ us
    split
    · simp [h]
    · exact h

@[simp] theorem portFrame_pending (s : State) (k : Nat) : (s.portFrame k).pending = s.pending := by
  unfold portFrame
  split
  · simp -implicitDefEqProofs
  · split <;> simp -implicitDefEqProofs

@[simp] theorem showFrame_pending (s : State) (g : Nat) (c : Composition) : (s.showFrame g c).pending = s.pending := by
  simp -implicitDefEqProofs [showFrame]

@[simp] theorem repeatFrame_pending (s : State) (g : Nat) : (s.repeatFrame g).pending = s.pending := by
  simp -implicitDefEqProofs [repeatFrame]

@[simp] theorem frameStart_pending (s : State) (g : Nat) : (s.frameStart g).pending = s.pending := by
  unfold frameStart
  split
  · dsimp only
    split <;> simp
  · simp

@[simp] theorem strictAll_pending (s : State) (cause : Nat) : (s.strictAll cause).pending = s.pending := by
  simp -implicitDefEqProofs [strictAll]

@[simp] theorem writeLatchMode_pending (s : State) (rq : Requester) (k v : Nat) : (s.writeLatchMode rq k v).2.pending = s.pending := by
  simp -implicitDefEqProofs [writeLatchMode]

@[simp] theorem writePairLock_pending (s : State) (v : Nat) : (s.writePairLock v).2.pending = s.pending := by
  simp -implicitDefEqProofs [writePairLock]

@[simp] theorem writeEnable_pending (s : State) (k v : Nat) : (s.writeEnable k v).2.pending = s.pending := by
  unfold writeEnable
  split
  · simp
  · dsimp only
    split
    · simp
    · split <;> simp

@[simp] theorem settleMoves_pending (s : State) (k item : Nat) (moved own : List Nat) : (s.settleMoves k item moved own).pending = s.pending := by
  unfold settleMoves
  split <;> simp

/-- Taking an intent while the output runs, or starting it anew, ends in `backOutput` of a state with the same queue. -/
theorem takeIntent_pending (s : State) (k : Nat) (i : OutIntent) (r : State × List Nat × List Nat) :
    s.takeIntent k i = some r → r.1.pending = s.pending := by
  unfold takeIntent
  dsimp only
  refine iteInduction (motive := fun o => o = some r → r.1.pending = s.pending) (fun _ => ?_) (fun _ => ?_)
  · refine iteInduction (motive := fun o => o = some r → r.1.pending = s.pending) (fun _ h => ?_) (fun _ h => ?_)
    · simpa using backOutput_pending _ _ _ _ _ _ _ h
    · simp [← Option.some.inj h]
  · intro h
    split at h
    · simp at h
    next hb =>
      obtain rfl := Option.some.inj h
      refine (each_pending _ _ _ fun t m => by simp).trans ((backOutput_pending _ _ _ _ _ _ _ hb).trans ?_)
      simp only [setTiming_pending, modOut_pending]
      refine (each_pending _ _ _ fun t m => ?_).trans (by simp)
      simp only [pending_ite, enter_pending]
      split
      · split <;> simp
      · simp

theorem judgeIntent_pending (s : State) (owner k : Nat) (i : OutIntent) (scanStatus : State → Nat → OutIntent → Nat) (r : State × List Nat × List Nat)
    (h : (s.judgeIntent owner k i scanStatus).2 = some r) : r.1.pending = s.pending := by
  unfold judgeIntent at h
  dsimp only at h
  split at h
  · simp at h
  · split at h
    · simp at h
    · split at h
      · simp at h
      · split at h
        · simp at h
        next ht => exact takeIntent_pending _ _ _ _ (ht.trans h)

@[simp] theorem outputIntent_pending (s : State) (it : Item) (owner : Nat) (scanStatus : State → Nat → OutIntent → Nat) :
    (s.outputIntent it owner scanStatus).pending = s.pending := by
  unfold outputIntent
  dsimp only
  split
  next h => simpa using judgeIntent_pending _ _ _ _ _ _ (congrArg Prod.snd h)
  · simp

/-! The display ports' commands. -/

@[simp] theorem plugged_pending (s : State) (k p : Nat) : (s.plugged k p).pending = s.pending := by
  simp [plugged]

@[simp] theorem writeOutPort_pending (s : State) (k v : Nat) : (s.writeOutPort k v).2.pending = s.pending := by
  unfold writeOutPort
  split
  · simp
  · split
    · simp
    · split
      · simp
      · split
        · simp
        · split <;> simp

@[simp] theorem linkLost_pending (s : State) (p : Nat) (injected : Bool) : (s.linkLost p injected).pending = s.pending := by
  unfold linkLost
  split <;> simp

@[simp] theorem writeRetrain_pending (s : State) (p v : Nat) : (s.writeRetrain p v).2.pending = s.pending := by
  unfold writeRetrain
  split <;> simp

/-! Jobs of the Raster Array. -/

@[simp] theorem addWork_pending (s : State) (j : Job) (new : List WorkItem) : (s.addWork j new).pending = s.pending := by
  simp [addWork]

@[simp] theorem freePages_pending (s : State) (j : Nat) : (s.freePages j).pending = s.pending := by
  simp [freePages]

@[simp] theorem settleRevokes_pending (s : State) : s.settleRevokes.pending = s.pending := by
  simp [settleRevokes]

@[simp] theorem settleDestroys_pending (s : State) : s.settleDestroys.pending = s.pending := by
  simp [settleDestroys]

@[simp] theorem writeReport_pending (s : State) (j : Job) : (s.writeReport j).pending = s.pending := by
  simp [writeReport]

@[simp] theorem loseTargets_pending (s : State) (d : BitVec 512) : (s.loseTargets d).pending = s.pending := by
  simp [loseTargets]

@[simp] theorem endJob_pending (s : State) (j : Job) (status detail : Nat) : (s.endJob j status detail).pending = s.pending := by
  simp [endJob]

@[simp] theorem failJob_pending (s : State) (j : Job) (status detail : Nat) : (s.failJob j status detail).pending = s.pending := by
  simp [failJob]

@[simp] theorem finishJob_pending (s : State) (j : Job) : (s.finishJob j).pending = s.pending := by
  simp [finishJob]

@[simp] theorem queueJob_pending (s : State) (it : Item) : (s.queueJob it).pending = s.pending := rfl

@[simp] theorem refuseJob_pending (s : State) (it : Item) (status : Nat) : (s.refuseJob it status).pending = s.pending := by
  simp [refuseJob]

@[simp] theorem injectTimeout_pending (s : State) (j : Job) : (s.injectTimeout j).2.pending = s.pending := by
  unfold injectTimeout
  dsimp only
  split <;> simp

/-! Resident jobs of the Raster Array. -/

theorem appendPrim_pending (s : State) (j : Job) (d : BitVec 512) (p : Nat × List Nat) (t : State) (h : s.appendPrim j d p = some t) :
    t.pending = s.pending := by
  unfold appendPrim at h
  dsimp only at h
  split at h
  · simp [← Option.some.inj h]
  · simp at h

@[simp] theorem queueTiles_pending (s : State) (j : Job) (d : BitVec 512) : (s.queueTiles j d).pending = s.pending := by
  simp [queueTiles]

@[simp] theorem partialPass_pending (s : State) (j : Job) (d : BitVec 512) : (s.partialPass j d).pending = s.pending := by
  simp [partialPass]

@[simp] theorem pbExhausted_pending (s : State) (j : Job) : (s.pbExhausted j).pending = s.pending := by
  simp [pbExhausted]

@[simp] theorem binPrims_pending (s : State) (item : Nat) (d : BitVec 512) (l : List (Nat × List Nat)) :
    (s.binPrims item d l).pending = s.pending := by
  induction l generalizing s with
  | nil => exact modJob_pending ..
  | cons p l ih =>
    unfold binPrims
    split
    · rfl
    · split
      next h => exact (ih _).trans (appendPrim_pending _ _ _ _ _ h)
      · split <;> simp

@[simp] theorem clusterFails_pending (s : State) (c : Nat) (injected : Bool) : (s.clusterFails c injected).pending = s.pending := by
  unfold clusterFails
  refine (each_pending _ _ _ fun t w => ?_).trans ?_
  · split <;> simp
  · simp

@[simp] theorem storeTile_pending (s : State) (d : BitVec 512) (t n base stride px : Nat) (bytes : List (BitVec 8)) :
    (s.storeTile d t n base stride px bytes).1.pending = s.pending :=
  List.foldlRecOn (motive := fun a : State × Bool => a.1.pending = s.pending) _ _ rfl fun _ h _ _ => (store_pending ..).trans h

@[simp] theorem finishAttachment_pending (s : State) (j : Job) (d : BitVec 512) (t : Nat) (a : Nat × List (BitVec 8) × List (BitVec 8)) :
    (s.finishAttachment j d t a).1.pending = s.pending := by
  simp [finishAttachment]

@[simp] theorem loseScratch_pending (s : State) (d : BitVec 512) : (s.loseScratch d).pending = s.pending := by
  simp [loseScratch]

@[simp] theorem shaderWrites_pending (s : State) (owner : Nat) (ws : List (Nat × Nat × List (BitVec 8))) :
    (s.shaderWrites owner ws).1.pending = s.pending :=
  List.foldlRecOn (motive := fun a : State × Bool => a.1.pending = s.pending) _ _ rfl fun _ h _ _ => by simp [h]

@[simp] theorem setFeedback_pending (s : State) (owner : Nat) (fs : List (Nat × Nat × Nat)) : (s.setFeedback owner fs).pending = s.pending := by
  simp [setFeedback]

@[simp] theorem debit_pending (s : State) (owner ns : Nat) : (s.debit owner ns).pending = s.pending := by
  simp [debit]

@[simp] theorem ownerMismatch_pending (s : State) (owner addr slot : Nat) (injected : Bool) :
    (s.ownerMismatch owner addr slot injected).pending = s.pending := by
  simp [ownerMismatch]

@[simp] theorem itemDone_pending (s : State) (j : Job) (d : BitVec 512) (w : WorkItem) (r : WorkResult) :
    (s.itemDone j d w r).1.pending = s.pending := by
  unfold itemDone
  dsimp only
  split
  · refine List.foldlRecOn (motive := fun a : State × Bool => a.1.pending = s.pending) _ _ ?_ fun _ h _ _ => ?_
    · simp
    · simp [h]
  · simp

@[simp] theorem afterJobs_pending (s : State) (o q type : Nat) (p : BitVec 512 → Bool) (f : State → Item → State)
    (h : ∀ t it, (f t it).pending = t.pending) : (s.afterJobs o q type p f).pending = s.pending := by
  unfold afterJobs; split <;> simp -implicitDefEqProofs [h]

theorem bindTiles_pending (s : State) (n : Nat) (l : List Nat) (t : State) (h : s.bindTiles n l = some t) : t.pending = s.pending := by
  induction l generalizing s with
  | nil => rw [← Option.some.inj h]
  | cons x l ih =>
    unfold bindTiles at h
    dsimp only at h
    split at h
    · exact ih _ h
    · split at h
      · simp at h
      · exact (ih _ h).trans rfl

/-! Pipelines and the translation cache (R287 to R292). -/

@[simp] theorem touch_pending (s : State) (owner key : Nat) : (s.touch owner key).pending = s.pending := by
  unfold touch
  split <;> simp

@[simp] theorem createPipeline_pending (s : State) (item owner : Nat) (graphics : Bool) (keys : List Nat) :
    (s.createPipeline item owner graphics keys).pending = s.pending := by
  unfold createPipeline
  split
  · simp
  · exact (complete_pending ..).trans ((modRaster_pending ..).trans (each_pending _ _ _ fun t k => touch_pending ..))

@[simp] theorem evictFor_pending (s : State) (c : Creating) (need : Nat) (l : List Translation) :
    (s.evictFor c need l).2.pending = s.pending := by
  induction l generalizing s with
  | nil => rfl
  | cons t l ih => simp [evictFor, ih]

@[simp] theorem logEvicted_pending (s : State) (ts : List Translation) : (s.logEvicted ts).pending = s.pending := by
  simp [logEvicted]

/-! Device DRAM (R342 to R389). -/

@[simp] theorem setDebt_pending (s : State) (m : Nat) (d : Int) : (s.setDebt m d).pending = s.pending := by
  simp [setDebt]

@[simp] theorem applyRecentre_pending (s : State) (m : Nat) : (s.applyRecentre m).pending = s.pending := by
  simp [applyRecentre]

@[simp] theorem allBank_pending (s : State) (m : Nat) : (s.allBank m).pending = s.pending := by
  simp [allBank]

@[simp] theorem refreshWhile_pending (s : State) (m : Nat) (floor : Int) (n : Nat) : (s.refreshWhile m floor n).pending = s.pending := by
  induction n generalizing s with
  | zero => rfl
  | succ n ih => simp [refreshWhile, ih]

@[simp] theorem refiTick_pending (s : State) (m : Nat) : (s.refiTick m).pending = s.pending := by
  simp [refiTick]

@[simp] theorem selfRefresh_pending (s : State) (m : Nat) : (s.selfRefresh m).pending = s.pending := by
  simp [selfRefresh]

@[simp] theorem leaveSelfRefresh_pending (s : State) (m : Nat) : (s.leaveSelfRefresh m).pending = s.pending := by
  simp [leaveSelfRefresh]

@[simp] theorem copiedTo_pending (s : State) (copied : Nat) : (s.copiedTo copied).pending = s.pending := by
  simp [copiedTo]

@[simp] theorem degrade_pending (s : State) (r : Nat) : (s.degrade r).pending = s.pending := by
  simp [degrade]

@[simp] theorem startSpare_pending (s : State) (r : Nat) : (s.startSpare r).pending = s.pending := by
  simp [startSpare]

@[simp] theorem abandonSpare_pending (s : State) : s.abandonSpare.pending = s.pending := by
  simp [abandonSpare]

@[simp] theorem rankFails_pending (s : State) (r kind addr : Nat) (injected acts : Bool) :
    (s.rankFails r kind addr injected acts).pending = s.pending := by
  simp [rankFails]

@[simp] theorem pollRate_pending (s : State) (m : Nat) (reads : List (Nat × Nat × Bool)) : (s.pollRate m reads).pending = s.pending := by
  simp [pollRate]

@[simp] theorem readBack_pending (s : State) (r : Nat) (differs : Bool) : (s.readBack r differs).pending = s.pending := by
  unfold readBack
  split
  · simp
  · split
    next h => exact pending_of_inject h
    next h => simp [pending_of_inject h]

@[simp] theorem afterSweep_pending (s : State) (m r lane : Nat) (res : SweepResult) (injected : Bool) :
    (s.afterSweep m r lane res injected).pending = s.pending := by
  simp -implicitDefEqProofs [afterSweep]

@[simp] theorem poisonLine_pending (s : State) (m a rank : Nat) : (s.poisonLine m a rank).pending = s.pending := by
  simp -implicitDefEqProofs [poisonLine]

@[simp] theorem poisonedReader_pending (s : State) (reader : DramReader) (injected : Bool) :
    (s.poisonedReader reader injected).pending = s.pending := by
  unfold poisonedReader
  split
  · split
    · dsimp only
      split <;> simp
    · dsimp only
      split <;> simp
  · refine each_pending _ _ _ fun t x => ?_
    simp
  · simp
  · simp
  · simp
  · simp

@[simp] theorem gafferCommit_pending (s : State) : s.gafferCommit.pending = s.pending := by
  simp [gafferCommit]

@[simp] theorem writeMemConf_pending (s : State) (addr v : Nat) : (s.writeMemConf addr v).2.pending = s.pending := by
  simp [writeMemConf]

@[simp] theorem writeSpareRank_pending (s : State) (v : Nat) : (s.writeSpareRank v).2.pending = s.pending := by
  simp [writeSpareRank]

@[simp] theorem writeWatermark_pending (s : State) (v : Nat) : (s.writeWatermark v).2.pending = s.pending := by
  simp [writeWatermark]

/-! LDP's channels as other blocks see them. -/

@[simp] theorem countTxns_pending (s : State) (ch : Nat) : (s.countTxns ch).pending = s.pending := by
  simp [countTxns]

@[simp] theorem clearSlot_pending (s : State) (n : Nat) : (s.clearSlot n).pending = s.pending := by
  simp [clearSlot]

@[simp] theorem freeSession_pending (s : State) (n : Nat) : (s.freeSession n).pending = s.pending := by
  simp [freeSession]

@[simp] theorem closeSession_pending (s : State) (n reason : Nat) : (s.closeSession n reason).pending = s.pending := by
  unfold closeSession
  split <;> simp

@[simp] theorem closeSessions_pending (s : State) (reason : Nat) : (s.closeSessions reason).pending = s.pending := by
  simp [closeSessions]

@[simp] theorem sendOn_pending (s : State) (n op tid status : Nat) (body : List (BitVec 8)) (keep : Option Nat) :
    (s.sendOn n op tid status body keep).pending = s.pending := by
  unfold sendOn
  split <;> simp

@[simp] theorem windowDone_pending (s : State) (o op tid status : Nat) (body : List (BitVec 8)) :
    (s.windowDone o op tid status body).pending = s.pending := by
  simp [windowDone]

@[simp] theorem respond_pending (s : State) (ch : Nat) (t : LdpTxn) (status : Nat) (body : List (BitVec 8)) :
    (s.respond ch t status body).pending = s.pending := by
  simp [respond]

@[simp] theorem answerChannel_pending (s : State) (ch tid status : Nat) (body : List (BitVec 8)) :
    (s.answerChannel ch tid status body).pending = s.pending := by
  unfold answerChannel
  split <;> simp

@[simp] theorem answerLate_pending (s : State) (rq : Requester) (addr code : Nat) : (s.answerLate rq addr code).pending = s.pending := by
  unfold answerLate
  split
  · simp
  · split <;> simp

@[simp] theorem abortWindows_pending (s : State) : s.abortWindows.pending = s.pending := by
  simp [abortWindows]

@[simp] theorem endWindow_pending (s : State) (o : Nat) : (s.endWindow o).pending = s.pending := by
  simp [endWindow]

/-! The Bittern Island (R390 to R409). -/

@[simp] theorem lockAssignment_pending (s : State) (t : Nat) : (s.lockAssignment t).pending = s.pending := by
  simp -implicitDefEqProofs [lockAssignment]

@[simp] theorem authFail_pending (s : State) (source cred status : Nat) (injected : Bool) :
    (s.authFail source cred status injected).pending = s.pending := by
  simp [authFail]

@[simp] theorem unwrapNow_pending (s : State) (rq : Requester) (c v : Nat) : (s.unwrapNow rq c v).2.pending = s.pending := by
  unfold unwrapNow
  split
  · simp -implicitDefEqProofs
  · split <;> simp -implicitDefEqProofs

@[simp] theorem writeSecret_pending (s : State) (rq : Requester) (c v : Nat) : (s.writeSecret rq c v).2.pending = s.pending := by
  simp [writeSecret]

@[simp] theorem takeBlobs_pending (s : State) : s.takeBlobs.pending = s.pending := by
  simp [takeBlobs]

@[simp] theorem failWaiting_pending (s : State) : s.failWaiting.pending = s.pending := by
  unfold failWaiting
  dsimp only
  split <;> simp

@[simp] theorem haltBittern_pending (s : State) (result : Nat) : (s.haltBittern result).pending = s.pending := by
  simp [haltBittern]

@[simp] theorem bitOnRc_pending (s : State) : s.bitOnRc.pending = s.pending := by
  simp [bitOnRc]

@[simp] theorem restartStep1_pending (s : State) (cause : Nat) (injected : Bool) (queued : List (Nat × Nat)) :
    (s.restartStep1 cause injected queued).pending = s.pending := by
  simp -implicitDefEqProofs [restartStep1]

@[simp] theorem restartBittern_pending (s : State) (cause : Nat) (injected : Bool) (queued : List (Nat × Nat)) :
    (s.restartBittern cause injected queued).pending = s.pending := by
  unfold restartBittern
  split
  · simp
  · dsimp only
    split <;> simp

@[simp] theorem bitternFault_pending (s : State) (d target cause : Nat) (genuine : Bool) (queued : List (Nat × Nat)) :
    (s.bitternFault d target cause genuine queued).pending = s.pending := by
  unfold bitternFault
  split
  · simp
  · split
    next h => exact pending_of_inject h
    next h => simp [pending_of_inject h]

@[simp] theorem writeBitRestart_pending (s : State) (rq : Requester) (v : Nat) (queued : List (Nat × Nat)) :
    (s.writeBitRestart rq v queued).2.pending = s.pending := by
  simp [writeBitRestart]

@[simp] theorem measurePass_pending (s : State) (b : BootImage) (restart : Bool) : (s.measurePass b restart).pending = s.pending := by
  unfold measurePass
  extract_lets s₁ s₂ s₃ s₄ s₅ s₆
  have h₃ : s₃.pending = s.pending := by simp [s₃, s₂, s₁]
  have h₄ : s₄.pending = s₃.pending := by unfold s₄; split <;> simp
  have h₅ : s₅.pending = s₄.pending := by unfold s₅; split <;> rfl
  have h₆ : s₆.pending = s₅.pending := by unfold s₆; split <;> simp
  clear_value s₁ s₂ s₃ s₄ s₅ s₆
  split <;> simp [*]

@[simp] theorem measureFail_pending (s : State) (result kind : Nat) (restart : Bool) : (s.measureFail result kind restart).pending = s.pending := by
  simp [measureFail]

@[simp] theorem writeBitReady_pending (s : State) (v : Nat) : (s.writeBitReady v).2.pending = s.pending := by
  unfold writeBitReady
  split
  · simp
  · dsimp only
    split <;> simp

@[simp] theorem writeReelSlices_pending (s : State) (v : Nat) : (s.writeReelSlices v).2.pending = s.pending := by
  simp [writeReelSlices]

/-! Dailies slices. -/

@[simp] theorem sliceResult_pending (s : State) (n r : Nat) : (s.sliceResult n r).pending = s.pending := by
  simp [sliceResult]

@[simp] theorem endSlice_pending (s : State) (n : Nat) : (s.endSlice n).pending = s.pending := by
  simp [endSlice]

@[simp] theorem abandonSlices_pending (s : State) (p : Nat → Bool) (cause : Nat) : (s.abandonSlices p cause).pending = s.pending := by
  simp [abandonSlices]

@[simp] theorem abandonUnit_pending (s : State) (u : SliceUnit) (cause : Nat) : (s.abandonUnit u cause).pending = s.pending := by
  simp [abandonUnit]

/-! Quag haptics (R482 to R500). -/

@[simp] theorem writeRamEffects_pending (s : State) (v : Nat) : (s.writeRamEffects v).2.pending = s.pending := by
  simp [writeRamEffects]

@[simp] theorem setHap_pending (s : State) (c : Nat) (h : Hap) : (s.setHap c h).pending = s.pending := by
  simp [setHap]

@[simp] theorem drive_pending (s : State) (c : Nat) (p : HapPlay) : (s.drive c p).1.pending = s.pending := by
  simp [drive]

@[simp] theorem endEffect_pending (s : State) (c effect source result : Nat) : (s.endEffect c effect source result).pending = s.pending := by
  simp [endEffect]

@[simp] theorem startPulse_pending (s : State) (c : Nat) (p : HapPlay) : (s.startPulse c p).1.pending = s.pending := by
  simp [startPulse]

@[simp] theorem startEffect_pending (s : State) (c : Nat) (q : HapQueued) : (s.startEffect c q).pending = s.pending := by
  unfold startEffect
  dsimp only
  split <;> simp

@[simp] theorem nextEffect_pending (s : State) (c : Nat) : (s.nextEffect c).pending = s.pending := by
  unfold nextEffect
  dsimp only
  split <;> simp

@[simp] theorem finishEffect_pending (s : State) (c : Nat) (p : HapPlay) (result : Nat) : (s.finishEffect c p result).pending = s.pending := by
  simp [finishEffect]

@[simp] theorem dropQueued_pending (s : State) (c : Nat) : (s.dropQueued c).pending = s.pending := by
  unfold dropQueued
  dsimp only
  split <;> simp

@[simp] theorem abortHap_pending (s : State) (c : Nat) : (s.abortHap c).pending = s.pending := by
  unfold abortHap
  extract_lets h s₁ s₂
  have h₂ : s₂.pending = s.pending := by simp only [s₂]; split <;> simp [s₁]
  split <;> simp [h₂]

@[simp] theorem abortSweep_pending (s : State) (c : Nat) : (s.abortSweep c).pending = s.pending := by
  simp [abortSweep]

@[simp] theorem cutEffect_pending (s : State) (c : Nat) (p : HapPlay) : (s.cutEffect c p).pending = s.pending := by
  unfold cutEffect
  dsimp only
  split
  · split <;> simp
  · simp

@[simp] theorem meet_pending (s : State) (c effect source : Nat) (critical : Bool) : (s.meet c effect source critical).pending = s.pending := by
  unfold meet
  split
  · split
    · dsimp only
      split <;> simp
    · dsimp only
      split <;> simp
  · split
    · dsimp only
      split <;> simp
    · dsimp only
      split <;> simp

@[simp] theorem trigger_pending (s : State) (c effect source : Nat) (critical : Bool) :
    (s.trigger c effect source critical).2.pending = s.pending := by
  simp [trigger]

@[simp] theorem writeHapPlay_pending (s : State) (rq : Requester) (c v : Nat) : (s.writeHapPlay rq c v).2.pending = s.pending := by
  unfold writeHapPlay
  split <;> simp

@[simp] theorem writeCritPlay_pending (s : State) (c v : Nat) : (s.writeCritPlay c v).2.pending = s.pending := by
  simp [writeCritPlay]

@[simp] theorem handOver_pending (s : State) (source x y key : Nat) : (s.handOver source x y key).pending = s.pending := by
  unfold handOver
  split <;> simp

@[simp] theorem startSweep_pending (s : State) (c : Nat) : (s.startSweep c).pending = s.pending := by
  simp [startSweep]

@[simp] theorem writeHapControl_pending (s : State) (c v : Nat) : (s.writeHapControl c v).2.pending = s.pending := by
  simp -implicitDefEqProofs [writeHapControl]

@[simp] theorem endPulse_pending (s : State) (c : Nat) (p : HapPlay) : (s.endPulse c p).pending = s.pending := by
  simp [endPulse]

@[simp] theorem toPhase_pending (s : State) (c : Nat) (p : HapPlay) (next : Option HapPlay) : (s.toPhase c p next).pending = s.pending := by
  unfold toPhase
  split <;> simp

/-! Foley (R501 to R526). -/

@[simp] theorem withBridges_pending (s s' : State) (h : s'.pending = s.pending) : (s.withBridges s').2.pending = s.pending := by
  simp -implicitDefEqProofs [withBridges, h]

@[simp] theorem endMissed_pending (s : State) (play : Bool) (unit : Nat) (missed : Option (Nat × Nat)) :
    (s.endMissed play unit missed).pending = s.pending := by
  unfold endMissed
  split <;> simp

@[simp] theorem stopStream_pending (s : State) (u : Nat) : (s.stopStream u).pending = s.pending := by
  simp [stopStream]

@[simp] theorem startStream_pending (s : State) (u : Nat) : (s.startStream u).pending = s.pending := by
  simp [startStream]

@[simp] theorem adoptStream_pending (s : State) (u : Nat) : (s.adoptStream u).pending = s.pending := by
  simp [adoptStream]

@[simp] theorem audDoorbell_pending (s : State) (owner v seq : Nat) : (s.audDoorbell owner v seq).pending = s.pending := by
  simp [audDoorbell]

@[simp] theorem takeBlock_pending (s : State) (u rate : Nat) (x : AudStream) (raw : List Nat) (silent : Bool) :
    (s.takeBlock u rate x raw silent).pending = s.pending := by
  simp [takeBlock]

@[simp] theorem hostBlock_pending (s : State) (u rate : Nat) (x : AudStream) (host : Nat ⊕ Nat) (raw : List Nat) :
    (s.hostBlock u rate x host raw).pending = s.pending := by
  unfold hostBlock
  split
  · simp
  · split
    · simp
    · split
      · dsimp only
        split <;> simp
      · dsimp only
        split <;> simp

@[simp] theorem streamBlock_pending (s : State) (u d rate : Nat) (ins : List AudioIn) : (s.streamBlock u d rate ins).pending = s.pending := by
  unfold streamBlock
  dsimp only
  split
  · split
    · simp
    · split
      · simp
      · split <;> simp
  · split
    · simp
    · split
      · simp
      · split <;> simp

@[simp] theorem setGen_pending (s : State) (g : Nat) (x : Generator) : (s.setGen g x).pending = s.pending := by
  simp [setGen]

@[simp] theorem chimeEnds_pending (s : State) (g : Nat) (r : ChimeRun) (result : Nat) : (s.chimeEnds g r result).pending = s.pending := by
  simp [chimeEnds]

@[simp] theorem playChime_pending (s : State) (n source : Nat) : (s.playChime n source).2.pending = s.pending := by
  unfold playChime
  split
  · simp
  · dsimp only
    split
    · simp
    · split <;> simp

@[simp] theorem stopChime_pending (s : State) (p : Nat → Bool) : (s.stopChime p).pending = s.pending := by
  simp [stopChime]

@[simp] theorem writeChimeStop_pending (s : State) (v : Nat) : (s.writeChimeStop v).2.pending = s.pending := by
  simp [writeChimeStop]

@[simp] theorem genBlock_pending (s : State) (g d : Nat) : (s.genBlock g d).pending = s.pending := by
  unfold genBlock
  extract_lets here x s₁ s₂
  have h₁ : s₁.pending = s.pending := by simp only [s₁]; split <;> simp
  have h₂ : s₂.pending = s₁.pending := by simp only [s₂]; split <;> simp
  clear_value s₂ s₁
  split <;> simp [h₂, h₁]

@[simp] theorem adoptBus_pending (s : State) (b rate : Nat) : (s.adoptBus b rate).pending = s.pending := by
  simp [adoptBus]

@[simp] theorem limitBlock_pending (s : State) (b : Nat) (x : AudBus) (peak : Nat) : (s.limitBlock b x peak).pending = s.pending := by
  simp [limitBlock]

@[simp] theorem capture_pending (s : State) (b : Nat) (x : AudBus) (host : Nat ⊕ Nat) (block : List Int) :
    (s.capture b x host block).pending = s.pending := by
  unfold capture
  dsimp only
  split <;> simp -implicitDefEqProofs

@[simp] theorem busBlock_pending (s : State) (b d rate : Nat) (outs : List AudioOut) : (s.busBlock b d rate outs).pending = s.pending := by
  simp [busBlock]

@[simp] theorem advanceChimes_pending (s : State) (d : Nat) : (s.advanceChimes d).pending = s.pending := by
  unfold advanceChimes
  refine each_pending _ _ _ fun t x => ?_
  split <;> simp

@[simp] theorem tdmLost_pending (s : State) (p : Nat) (injected : Bool) : (s.tdmLost p injected).pending = s.pending := by
  simp [tdmLost]

@[simp] theorem writeStreamCfg_pending (s : State) (u v : Nat) : (s.writeStreamCfg u v).2.pending = s.pending := by
  simp [writeStreamCfg]

@[simp] theorem writeRoutes_pending (s : State) (v : Nat) : (s.writeRoutes v).2.pending = s.pending := by
  simp -implicitDefEqProofs [writeRoutes]

@[simp] theorem writeTdm_pending (s : State) (p v : Nat) : (s.writeTdm p v).2.pending = s.pending := by
  simp -implicitDefEqProofs [writeTdm]

@[simp] theorem writePdm_pending (s : State) (p v : Nat) : (s.writePdm p v).2.pending = s.pending := by
  simp -implicitDefEqProofs [writePdm]

@[simp] theorem writeAudRate_pending (s : State) (addr v : Nat) : (s.writeAudRate addr v).2.pending = s.pending := by
  simp -implicitDefEqProofs [writeAudRate]

@[simp] theorem writeBusCfg_pending (s : State) (b v : Nat) : (s.writeBusCfg b v).2.pending = s.pending := by
  simp -implicitDefEqProofs [writeBusCfg]

@[simp] theorem writeBusDest_pending (s : State) (b v : Nat) : (s.writeBusDest b v).2.pending = s.pending := by
  simp -implicitDefEqProofs [writeBusDest]

@[simp] theorem writeRing_pending (s : State) (addr v : Nat) : (s.writeRing addr v).2.pending = s.pending := by
  simp [writeRing]

@[simp] theorem writeGain_pending (s : State) (addr v : Nat) : (s.writeGain addr v).2.pending = s.pending := by
  simp [writeGain]

@[simp] theorem writeAudDoorbell_pending (s : State) (addr v : Nat) : (s.writeAudDoorbell addr v).2.pending = s.pending := by
  simp [writeAudDoorbell]

@[simp] theorem writeChimes_pending (s : State) (v : Nat) : (s.writeChimes v).2.pending = s.pending := by
  simp [writeChimes]

@[simp] theorem stopInstanceAudio_pending (s : State) (i : Nat) (remove : Bool) : (s.stopInstanceAudio i remove).pending = s.pending := by
  simp [stopInstanceAudio]

/-! Continuity units (R421 to R440). -/

@[simp] theorem setCuState_pending (s : State) (u v : Nat) : (s.setCuState u v).pending = s.pending := by
  simp [setCuState]

@[simp] theorem substitute_pending (s : State) (u : Nat) : (s.substitute u).pending = s.pending := by
  unfold substitute
  dsimp only
  split <;> simp

@[simp] theorem trip_pending (s : State) (u : Nat) (injected : Bool) : (s.trip u injected).pending = s.pending := by
  simp [trip]

@[simp] theorem settleRestores_pending (s : State) (k : Nat) : (s.settleRestores k).pending = s.pending := by
  simp [settleRestores]

@[simp] theorem endOverride_pending (s : State) (u : Nat) : (s.endOverride u).pending = s.pending := by
  simp [endOverride]

@[simp] theorem findingRecords_pending (s : State) (u : Nat) (f : Findings) (j : Judged) (repeats place : Nat) (injected silent : Bool) :
    (s.findingRecords u f j repeats place injected silent).pending = s.pending := by
  simp [findingRecords]

@[simp] theorem judgeItem_pending (s : State) (u : Nat) (j : Judged) (place : Nat) : (s.judgeItem u j place).2.pending = s.pending := by
  simp [judgeItem]

@[simp] theorem noData_pending (s : State) (u : Nat) (idle : Bool) : (s.noData u idle).pending = s.pending := by
  simp [noData]

@[simp] theorem cuResume_pending (s : State) (u : Nat) : (s.cuResume u).pending = s.pending := by
  unfold cuResume
  dsimp only
  split
  · simp
  · split <;> simp

@[simp] theorem readRef_pending (s : State) (v : Nat) (ue corrected : Bool) : (s.readRef v ue corrected).2.pending = s.pending := by
  simp [readRef]

@[simp] theorem discardMessage_pending (s : State) (u result : Nat) : (s.discardMessage u result).pending = s.pending := by
  simp [discardMessage]

@[simp] theorem appendMessage_pending (s : State) (u : Nat) : (s.appendMessage u).pending = s.pending := by
  simp [appendMessage]

@[simp] theorem malformed_pending (s : State) (u : Nat) : (s.malformed u).pending = s.pending := by
  simp [malformed]

@[simp] theorem judgeMessage_pending (s : State) (u : Nat) (stagingUe : Bool) : (s.judgeMessage u stagingUe).pending = s.pending := by
  simp [judgeMessage]

@[simp] theorem stageWord_pending (s : State) (u word : Nat) (stagingUe : Bool) : (s.stageWord u word stagingUe).pending = s.pending := by
  simp [stageWord]

@[simp] theorem cuStart_pending (s : State) (u : Nat) : (s.cuStart u).pending = s.pending := by
  simp [cuStart]

@[simp] theorem cuRestore_pending (s : State) (u : Nat) : (s.cuRestore u).pending = s.pending := by
  simp [cuRestore]

@[simp] theorem cuStop_pending (s : State) (u : Nat) : (s.cuStop u).pending = s.pending := by
  simp [cuStop]

@[simp] theorem writeCuControl_pending (s : State) (u v : Nat) : (s.writeCuControl u v).2.pending = s.pending := by
  simp [writeCuControl]

@[simp] theorem writeCuInject_pending (s : State) (u v : Nat) : (s.writeCuInject u v).2.pending = s.pending := by
  simp [writeCuInject]

/-! Reed touch and the key bank (R443 to R478). -/

@[simp] theorem cutScans_pending (s : State) (k : Nat) (i : OutIntent) : (s.cutScans k i).pending = s.pending := by
  unfold cutScans
  refine each_pending _ _ _ fun t x => ?_
  split <;> simp

@[simp] theorem startWindow_pending (s : State) (u : Nat) : (s.startWindow u).pending = s.pending := by
  simp [startWindow]

@[simp] theorem showBase_pending (s : State) (p : Nat) : (s.showBase p).pending = s.pending := by
  simp -implicitDefEqProofs [showBase]

@[simp] theorem scanReport_pending (s : State) (p seq r : Nat) : (s.scanReport p seq r).pending = s.pending := by
  simp -implicitDefEqProofs [scanReport]

@[simp] theorem frontOff_pending (s : State) (p : Nat) (run : ScanRun) : (s.frontOff p run).pending = s.pending := by
  simp [frontOff]

@[simp] theorem baseline_pending (s : State) (p : Nat) : (s.baseline p).pending = s.pending := by
  simp [baseline]

@[simp] theorem endBaselining_pending (s : State) (p : Nat) (sum selfSum : List Int) (raised : Bool) :
    (s.endBaselining p sum selfSum raised).pending = s.pending := by
  simp [endBaselining]

@[simp] theorem trackBase_pending (s : State) (p : Nat) (mc d : List Int) : (s.trackBase p mc d).pending = s.pending := by
  simp [trackBase]

@[simp] theorem trackSelf_pending (s : State) (p : Nat) (raised : Bool) (m d : List Int) : (s.trackSelf p raised m d).pending = s.pending := by
  simp [trackSelf]

@[simp] theorem fit_pending (s : State) (p : Nat) (counts : List Nat) (base d : List Int) (w : ScanPixels) :
    (s.fit p counts base d w).pending = s.pending := by
  simp [fit]

@[simp] theorem holdContact_pending (s : State) (p : Nat) (c : Contact) : (s.holdContact p c).1.pending = s.pending := by
  simp [holdContact]

@[simp] theorem holdContacts_pending (s : State) (p : Nat) (l : List Contact) : (s.holdContacts p l).1.pending = s.pending := by
  induction l generalizing s with
  | nil => rfl
  | cons c l ih => exact (ih _).trans (holdContact_pending ..)

@[simp] theorem scanContacts_pending (s : State) (p : Nat) (run : ScanRun) (d sd : List Int) : (s.scanContacts p run d sd).pending = s.pending := by
  simp [scanContacts]

@[simp] theorem sweepEnd_pending (s : State) (p v l : Nat) (noise : List Nat) : (s.sweepEnd p v l noise).pending = s.pending := by
  unfold sweepEnd
  dsimp only
  split <;> simp

@[simp] theorem touchFrameStart_pending (s : State) (k : Nat) : (s.touchFrameStart k).pending = s.pending := by
  unfold touchFrameStart
  refine each_pending _ _ _ fun t x => ?_
  dsimp only
  split <;> simp

@[simp] theorem showKeys_pending (s : State) : s.showKeys.pending = s.pending := by
  simp [showKeys]

@[simp] theorem reportKeys_pending (s : State) (r : Nat) : (s.reportKeys r).pending = s.pending := by
  simp [reportKeys]

@[simp] theorem writeRfControl_pending (s : State) (p v : Nat) : (s.writeRfControl p v).2.pending = s.pending := by
  unfold writeRfControl
  split
  · simp
  · dsimp only
    split
    · simp
    · split <;> simp

@[simp] theorem writeKbEnable_pending (s : State) (v : Nat) : (s.writeKbEnable v).2.pending = s.pending := by
  simp [writeKbEnable]

@[simp] theorem touchSleep_pending (s : State) : s.touchSleep.pending = s.pending := by
  simp -implicitDefEqProofs [touchSleep]

@[simp] theorem touchResume_pending (s : State) : s.touchResume.pending = s.pending := by
  simp [touchResume]

@[simp] theorem touchRestart_pending (s : State) : s.touchRestart.pending = s.pending := by
  unfold touchRestart
  refine each_pending _ _ _ fun t x => ?_
  simp

/-! Instances. -/

@[simp] theorem defaultInstance_pending (s : State) (i : Nat) : (s.defaultInstance i).pending = s.pending := rfl

theorem placeContext_pending (s : State) (o : Nat) (t : State) (h : s.placeContext o = some t) : t.pending = s.pending := by
  obtain ⟨p, -, rfl⟩ := Option.map_eq_some_iff.1 h
  simp

@[simp] theorem dropAreas_pending (s : State) (o : Nat) : (s.dropAreas o).pending = s.pending := by
  simp [dropAreas]

@[simp] theorem commitByGaffer_pending (s : State) (k : Nat) : (s.commitByGaffer k).pending = s.pending := by
  simp [commitByGaffer]

@[simp] theorem withdraw_pending (s : State) (ps : List (Nat × Nat)) : (s.withdraw ps).1.pending = s.pending := by
  simp [withdraw]

@[simp] theorem writeGrants_pending (s : State) (i v : Nat) : (s.writeGrants i v).2.pending = s.pending := by
  simp [writeGrants]

@[simp] theorem disarmFor_pending (s : State) (o : Nat) : (s.disarmFor o).pending = s.pending := by
  simp [disarmFor]

@[simp] theorem startReset_pending (s : State) (o : Nat) (remove : Bool) (asker : Option Nat) (drainNs : Nat) :
    (s.startReset o remove asker drainNs).pending = s.pending := by
  simp [startReset]

@[simp] theorem instControl_pending (s : State) (owner : Nat) (it : Item) (remove : Bool) : (s.instControl owner it remove).pending = s.pending := by
  simp [instControl]

@[simp] theorem squashItem_pending (s : State) (o : Nat) (it : Item) : (s.squashItem o it).pending = s.pending := by
  unfold squashItem
  dsimp only
  split <;> simp -implicitDefEqProofs

@[simp] theorem teardown_pending (s : State) (o : Nat) : (s.teardown o).pending = s.pending := by
  simp [teardown]

@[simp] theorem freeInstance_pending (s : State) (o : Nat) : (s.freeInstance o).pending = s.pending := by
  simp [freeInstance]

@[simp] theorem resetDone_pending (s : State) (o : Nat) : (s.resetDone o).pending = s.pending := by
  unfold resetDone
  extract_lets s₁ s₂
  have h₁ : s₁.pending = s.pending := by simp only [s₁]; split <;> simp
  have h₂ : s₂.pending = s₁.pending := by
    simp only [s₂]
    split
    · cases h : s₁.placeContext o with
      | none => rfl
      | some t => exact placeContext_pending _ _ _ h
    · rfl
  simp [h₂, h₁]

@[simp] theorem removeDone_pending (s : State) (o : Nat) : (s.removeDone o).pending = s.pending := by
  unfold removeDone
  split <;> simp

@[simp] theorem flrInstance_pending (s : State) (busMaster : Bool) (o : Nat) : (s.flrInstance busMaster o).pending = s.pending := by
  simp [flrInstance]

@[simp] theorem dmaLost_pending (s : State) (it : Item) : (s.dmaLost it).pending = s.pending := by
  simp [dmaLost]

@[simp] theorem dmaFails_pending (s : State) (it : Item) (status detail : Nat) : (s.dmaFails it status detail).pending = s.pending := by
  simp [dmaFails]

@[simp] theorem dmaMismatch_pending (s : State) (it : Item) (slot : Nat) (injected : Bool) :
    (s.dmaMismatch it slot injected).pending = s.pending := by
  simp [dmaMismatch]

@[simp] theorem dmaMoves_pending (s : State) (it : Item) (data : List (BitVec 8)) : (s.dmaMoves it data).pending = s.pending := by
  simp [dmaMoves]

@[simp] theorem dmaEnds_pending (s : State) (it : Item) (result : TransferResult) (data : List (BitVec 8)) :
    (s.dmaEnds it result data).pending = s.pending := by
  unfold dmaEnds
  split
  · dsimp only
    split
    · simp
    · split <;> simp
  · dsimp only
    split
    · simp
    · split <;> simp

/-! What resets do. -/

@[simp] theorem afterReset_pending (s : State) (kind : Nat) : (s.afterReset kind).pending = s.pending := rfl

@[simp] theorem fullReset_pending (s : State) (kind cause straps : Nat) : (s.fullReset kind cause straps).pending = s.pending := by
  simp [fullReset]

@[simp] theorem warmReset_pending (s : State) (cause : Nat) : (s.warmReset cause).pending = s.pending := by
  simp -implicitDefEqProofs [warmReset]

@[simp] theorem coldReset_pending (s : State) (cause straps : Nat) : (s.coldReset cause straps).pending = s.pending := by
  simp [coldReset]

@[simp] theorem gafferRestart_pending (s : State) (cause : Nat) (injected : Bool) : (s.gafferRestart cause injected).pending = s.pending := by
  simp [gafferRestart]

@[simp] theorem gafferFault_pending (s : State) (d cause : Nat) (genuine : Bool) : (s.gafferFault d cause genuine).pending = s.pending := by
  unfold gafferFault
  split
  · simp
  · split
    next h => exact pending_of_inject h
    next h => simp [pending_of_inject h]

@[simp] theorem failJobs_pending (s : State) (p : Job → Bool) : (s.failJobs p).1.pending = s.pending := by
  unfold failJobs
  refine each_pending _ _ _ fun t x => ?_
  split <;> simp

@[simp] theorem failAudio_pending (s : State) : s.failAudio.1.pending = s.pending := by
  unfold failAudio
  extract_lets gens streams buses s₁ s₂ s₃
  have h₁ : s₁.pending = s.pending := each_pending _ _ _ fun t g => by split <;> simp
  have h₂ : s₂.pending = s₁.pending := each_pending _ _ _ fun t u => setStream_pending ..
  have h₃ : s₃.pending = s₂.pending := each_pending _ _ _ fun t b => setBus_pending ..
  exact h₃.trans (h₂.trans h₁)

@[simp] theorem failRaster_pending (s : State) (k : Nat) : (s.failRaster k).1.pending = s.pending := by
  simp [failRaster]

@[simp] theorem failHaptics_pending (s : State) : s.failHaptics.1.pending = s.pending := by
  simp [failHaptics]

/-! Clocks (R573 to R593, R624). -/

@[simp] theorem showClocks_pending (s : State) : s.showClocks.pending = s.pending := by
  simp [showClocks]

@[simp] theorem clocksReady_pending (s : State) : s.clocksReady.pending = s.pending := by
  simp -implicitDefEqProofs [clocksReady]

@[simp] theorem stopPll_pending (s : State) (n : Nat) : (s.stopPll n).pending = s.pending := by
  simp [stopPll]

@[simp] theorem writePllEnable_pending (s : State) (n v : Nat) : (s.writePllEnable n v).2.pending = s.pending := by
  simp [writePllEnable]

@[simp] theorem crystalLost_pending (s : State) (lost : Bool) : (s.crystalLost lost).pending = s.pending := by
  simp [crystalLost]

@[simp] theorem monitorChange_pending (s : State) (m new khz : Nat) (injected : Bool) : (s.monitorChange m new khz injected).pending = s.pending := by
  simp -implicitDefEqProofs [monitorChange]

@[simp] theorem romClock_pending (s : State) : s.romClock.pending = s.pending := by
  simp [romClock]

@[simp] theorem writeInject_pending (s : State) (addr v : Nat) : (s.writeInject addr v).2.pending = s.pending := by
  simp [writeInject]

@[simp] theorem writeMuxSel_pending (s : State) (rq : Requester) (x v : Nat) : (s.writeMuxSel rq x v).2.pending = s.pending := by
  unfold writeMuxSel
  split
  · simp
  · split <;> simp

@[simp] theorem connect_pending (s : State) (x : Nat) (w : MuxSwitch) : (s.connect x w).pending = s.pending := by
  simp [connect]

@[simp] theorem holdBelow_pending (s : State) (x : Nat) : (s.holdBelow x).pending = s.pending := by
  simp [holdBelow]

@[simp] theorem writeForce_pending (s : State) (x v straps : Nat) (queued : List (Nat × Nat)) :
    (s.writeForce x v straps queued).2.pending = s.pending := by
  unfold writeForce
  split
  · simp
  · split <;> simp

@[simp] theorem showGates_pending (s : State) : s.showGates.pending = s.pending := by
  simp [showGates]

@[simp] theorem answerClosing_pending (s : State) (g code : Nat) : (s.answerClosing g code).pending = s.pending := by
  simp [answerClosing]

@[simp] theorem openGate_pending (s : State) (g : Nat) : (s.openGate g).pending = s.pending := by
  simp [openGate]

@[simp] theorem openGates_pending (s : State) (rq : Requester) (l : List Nat) : (s.openGates rq l).2.pending = s.pending := by
  induction l generalizing s with
  | nil => rfl
  | cons g l ih => simp [openGates, ih]

@[simp] theorem writeGateOpen_pending (s : State) (rq : Requester) (g : Nat) : (s.writeGateOpen rq g).2.pending = s.pending := by
  simp [writeGateOpen]

@[simp] theorem writeGateClose_pending (s : State) (rq : Requester) (g : Nat) : (s.writeGateClose rq g).2.pending = s.pending := by
  simp [writeGateClose]

@[simp] theorem unitsOffline_pending (s : State) (d : Nat) (off : Bool) : (s.unitsOffline d off).pending = s.pending := by
  simp [unitsOffline]

@[simp] theorem domainLoses_pending (s : State) (d : Nat) : (s.domainLoses d).pending = s.pending := by
  simp -implicitDefEqProofs [domainLoses]

@[simp] theorem domainUp_pending (s : State) (d : Nat) : (s.domainUp d).pending = s.pending := by
  simp [domainUp]

@[simp] theorem answerDomain_pending (s : State) (d : Nat) : (s.answerDomain d).pending = s.pending := by
  simp [answerDomain]

@[simp] theorem writeDomainOn_pending (s : State) (rq : Requester) (d : Nat) : (s.writeDomainOn rq d).2.pending = s.pending := by
  unfold writeDomainOn
  split
  · simp
  · split
    · simp
    · dsimp only
      split <;> simp

@[simp] theorem writeDomainOff_pending (s : State) (d : Nat) : (s.writeDomainOff d).2.pending = s.pending := by
  simp [writeDomainOff]

@[simp] theorem writeDomainReset_pending (s : State) (d : Nat) : (s.writeDomainReset d).2.pending = s.pending := by
  simp [writeDomainReset]

/-! Sluice and the supplies (R593 to R605). -/

@[simp] theorem setDomains_pending (s : State) (state : Nat) : (s.setDomains state).pending = s.pending := by
  simp -implicitDefEqProofs [setDomains]

@[simp] theorem reelLost_pending (s : State) : s.reelLost.pending = s.pending := by
  unfold reelLost
  refine each_pending _ _ _ fun t x => ?_
  simp

@[simp] theorem sleepMemory_pending (s : State) : s.sleepMemory.pending = s.pending := by
  simp [sleepMemory]

@[simp] theorem sleepDeep_pending (s : State) : s.sleepDeep.pending = s.pending := by
  simp [sleepDeep]

@[simp] theorem wakeDeep_pending (s : State) : s.wakeDeep.pending = s.pending := by
  simp [wakeDeep]

@[simp] theorem moveClocks_pending (s : State) (f : State → State) (h : ∀ t, (f t).pending = t.pending) :
    (s.moveClocks f).pending = s.pending := by
  simp only [moveClocks, pending_ite, showClocks_pending, modPower_pending, wr_pending, h, ite_self]

@[simp] theorem showLimits_pending (s : State) : s.showLimits.pending = s.pending := by
  simp [showLimits]

@[simp] theorem sensor_pending (s : State) (celsius : Int) : (s.sensor celsius).2.pending = s.pending := by
  simp [sensor]

@[simp] theorem writeSupInject_pending (s : State) (r v : Nat) : (s.writeSupInject r v).2.pending = s.pending := by
  simp [writeSupInject]

@[simp] theorem writeClockLimit_pending (s : State) (addr v : Nat) : (s.writeClockLimit addr v).2.pending = s.pending := by
  simp [writeClockLimit]

/-! The Script Log's ring, injection, Dailies and Tally (R629 to R655). -/

@[simp] theorem toRing_pending (s : State) (r : LogRecord) : (s.toRing r).pending = s.pending := by
  simp [toRing]

@[simp] theorem fireArmed_pending (s : State) (d : Nat) (queued : List (Nat × Nat)) : (s.fireArmed d queued).pending = s.pending := by
  simp [fireArmed]

@[simp] theorem writeInjArm_pending (s : State) (d v : Nat) (queued : List (Nat × Nat)) : (s.writeInjArm d v queued).2.pending = s.pending := by
  simp [writeInjArm]

@[simp] theorem writeInjEnable_pending (s : State) (v : Nat) : (s.writeInjEnable v).2.pending = s.pending := by
  simp [writeInjEnable]

@[simp] theorem startSlice_pending (s : State) (slice : Nat) : (s.startSlice slice).pending = s.pending := by
  simp [startSlice]

@[simp] theorem holdUnit_pending (s : State) (n : Nat) : (s.holdUnit n).pending = s.pending := by
  simp [holdUnit]

@[simp] theorem unholdUnit_pending (s : State) (n : Nat) : (s.unholdUnit n).pending = s.pending := by
  simp [unholdUnit]

@[simp] theorem sliceFails_pending (s : State) (slice word : Nat) (injected escalates : Bool) :
    (s.sliceFails slice word injected escalates).pending = s.pending := by
  unfold sliceFails
  split <;> simp

@[simp] theorem injectSlice_pending (s : State) (l : List (Nat × Nat)) : (s.injectSlice l).2.pending = s.pending := by
  induction l generalizing s with
  | nil => rfl
  | cons p l ih =>
    unfold injectSlice
    split
    next h => exact pending_of_inject h
    next h => exact (ih _).trans (pending_of_inject h)

@[simp] theorem writeOvfClear_pending (s : State) (g v : Nat) : (s.writeOvfClear g v).2.pending = s.pending := by
  simp [writeOvfClear]

@[simp] theorem writeFilter_pending (s : State) (rq : Requester) (g v : Nat) : (s.writeFilter rq g v).2.pending = s.pending := by
  simp [writeFilter]

@[simp] theorem writeGrant_pending (s : State) (i v : Nat) : (s.writeGrant i v).2.pending = s.pending := by
  simp [writeGrant]

/-! Writes of objects and registers. -/

@[simp] theorem writeWarmReq_pending (s : State) (v : Nat) : (s.writeWarmReq v).2.pending = s.pending := by
  simp [writeWarmReq]

@[simp] theorem writeColdReq_pending (s : State) (v straps : Nat) : (s.writeColdReq v straps).2.pending = s.pending := by
  simp [writeColdReq]

@[simp] theorem writeGafRestart_pending (s : State) (v : Nat) : (s.writeGafRestart v).2.pending = s.pending := by
  simp [writeGafRestart]

@[simp] theorem writeProduction_pending (s : State) (addr v : Nat) : (s.writeProduction addr v).2.pending = s.pending := by
  simp [writeProduction]

@[simp] theorem writeIdentity_pending (s : State) (addr v : Nat) : (s.writeIdentity addr v).2.pending = s.pending := by
  simp [writeIdentity]

@[simp] theorem writeDisplay_pending (s : State) (rq : Requester) (addr v : Nat) : (s.writeDisplay rq addr v).2.pending = s.pending := by
  simp [writeDisplay]

@[simp] theorem writeMemory_pending (s : State) (addr v : Nat) : (s.writeMemory addr v).2.pending = s.pending := by
  simp [writeMemory]

@[simp] theorem writeTouch_pending (s : State) (rq : Requester) (addr v : Nat) : (s.writeTouch rq addr v).2.pending = s.pending := by
  unfold writeTouch
  dsimp only
  split
  · simp
  · split
    · simp
    · split
      · simp
      · split
        · simp
        · split
          · split <;> simp
          · split <;> simp

@[simp] theorem writeAudio_pending (s : State) (addr v : Nat) : (s.writeAudio addr v).2.pending = s.pending := by
  unfold writeAudio
  extract_lets x sub
  clear_value x sub
  simp only [pending_snd_ite, writeAudRate_pending, writeTdm_pending, writePdm_pending, writeRoutes_pending, writeChimes_pending,
    playChime_pending, writeChimeStop_pending, plainWrite_pending]
  split
  · rfl
  · split
    · rfl
    · split
      · rfl
      · split
        · split <;> simp
        · split
          · split <;> simp
          · simp

@[simp] theorem writePower_pending (s : State) (rq : Requester) (addr v straps : Nat) (queued : List (Nat × Nat)) :
    (s.writePower rq addr v straps queued).2.pending = s.pending := by
  unfold writePower
  extract_lets x sub answered
  have hr : ∀ r, (answered r).2 = r.2 := fun _ => rfl
  clear_value answered x sub
  rcases v with _ | _ | v <;> simp [hr]

@[simp] theorem writeBittern_pending (s : State) (rq : Requester) (addr v : Nat) (queued : List (Nat × Nat)) :
    (s.writeBittern rq addr v queued).2.pending = s.pending := by
  simp [writeBittern]

@[simp] theorem writeService_pending (s : State) (rq : Requester) (addr v : Nat) (queued : List (Nat × Nat)) :
    (s.writeService rq addr v queued).2.pending = s.pending := by
  simp [writeService]

@[simp] theorem writeOwn_pending (s : State) (rq : Requester) (addr v straps : Nat) (queued : List (Nat × Nat)) :
    (s.writeOwn rq addr v straps queued).2.pending = s.pending := by
  unfold writeOwn
  refine iteInduction (motive := fun r : Option Nat × State => r.2.pending = s.pending) (fun _ => rfl) fun _ => ?_
  split <;> simp

@[simp] theorem writeAny_pending (s : State) (rq : Requester) (addr type len v : Nat) : (s.writeAny rq addr type len v).2.pending = s.pending := by
  simp [writeAny]

@[simp] theorem writeWindow_pending (s : State) (o off v : Nat) (wide : Bool) (go : State → Nat → State)
    (h : ∀ t x, (go t x).pending = t.pending) : (s.writeWindow o off v wide go).pending = s.pending := by
  simp -implicitDefEqProofs [writeWindow, h]

@[simp] theorem writeMailbox_pending (s : State) (rq : Requester) (m off v : Nat) (wide : Bool) :
    (s.writeMailbox rq m off v wide).pending = s.pending := by
  unfold writeMailbox
  split
  · split
    · simp -implicitDefEqProofs
    · refine mbWrite_pending _ _ _ _ _ _ fun t => ?_
      split <;> simp -implicitDefEqProofs
  · simp -implicitDefEqProofs
  · simp -implicitDefEqProofs
  · simp -implicitDefEqProofs
  · simp -implicitDefEqProofs
  · simp -implicitDefEqProofs
  · dsimp only
    split <;> simp -implicitDefEqProofs
  · simp -implicitDefEqProofs

@[simp] theorem writeRecoveryGo_pending (s : State) (port length : Nat) : (s.writeRecoveryGo port length).pending = s.pending := by
  simp [writeRecoveryGo]

@[simp] theorem writeBootBlock_pending (s : State) (port off v : Nat) : (s.writeBootBlock port off v).pending = s.pending := by
  unfold writeBootBlock
  split <;> simp

/-! LDP (R530 to R567). -/

@[simp] theorem bareAnswer_pending (s : State) (transport : Nat) (m : List (BitVec 8)) (status : Nat) :
    (s.bareAnswer transport m status).pending = s.pending := by
  simp [bareAnswer]

@[simp] theorem badMessage_pending (s : State) (n : Nat) (x : Session) (status : Nat) (injected : Bool) :
    (s.badMessage n x status injected).pending = s.pending := by
  unfold badMessage
  dsimp only
  split
  · split <;> simp -implicitDefEqProofs
  · simp -implicitDefEqProofs

@[simp] theorem enqueueTxn_pending (s : State) (ch : Nat) (t : LdpTxn) : (s.enqueueTxn ch t).pending = s.pending := by
  simp [enqueueTxn]

@[simp] theorem acceptRequest_pending (s : State) (n : Nat) (x : Session) (t : LdpTxn) : (s.acceptRequest n x t).pending = s.pending := by
  simp [acceptRequest]

@[simp] theorem openMessage_pending (s : State) (n : Nat) (x : Session) (m : List (BitVec 8)) : (s.openMessage n x m).pending = s.pending := by
  unfold openMessage
  dsimp only
  split
  · split
    · simp
    · split
      · simp
      · split <;> simp
  · split
    · simp
    · split
      · simp
      · split <;> simp

@[simp] theorem arrive_pending (s : State) (transport unit ip udpPort : Nat) (m : List (BitVec 8)) :
    (s.arrive transport unit ip udpPort m).pending = s.pending := by
  unfold arrive
  dsimp only
  split
  · split
    · simp
    · split
      · simp
      · split <;> simp
  · split
    · simp
    · split
      · simp
      · split <;> simp

@[simp] theorem loseSegments_pending (s : State) (ctl : Nat) (injected : Bool) : (s.loseSegments ctl injected).pending = s.pending := by
  unfold loseSegments
  split <;> simp

@[simp] theorem canMessage_pending (s : State) (ctl : Nat) (m : List (BitVec 8)) : (s.canMessage ctl m).pending = s.pending := by
  unfold canMessage
  dsimp only
  split <;> simp

@[simp] theorem canFrame_pending (s : State) (ctl : Nat) (b : List (BitVec 8)) : (s.canFrame ctl b).pending = s.pending := by
  unfold canFrame
  extract_lets old t kind n u
  have ht : t.pending = s.pending := by simp [t]
  clear_value old t
  have hu : u.pending = s.pending := (loseSegments_pending ..).trans ht
  clear_value u
  split
  · simp [hu]
  · split
    · simp [hu]
    · split <;> simp [ht]

@[simp] theorem dictStart_pending (s : State) (o v : Nat) : (s.dictStart o v).pending = s.pending := by
  simp [dictStart]

@[simp] theorem dictGo_pending (s : State) (o v : Nat) : (s.dictGo o v).pending = s.pending := by
  simp [dictGo]

@[simp] theorem onTxn_pending (s : State) (c : LdpChannel) (op : Nat) (f : State → Nat → LdpTxn → State)
    (h : ∀ s ch t, (f s ch t).pending = s.pending) : (s.onTxn c op f).pending = s.pending := by
  unfold onTxn; split <;> simp -implicitDefEqProofs [h]

@[simp] theorem conclude_pending (s : State) (ch : Nat) (t : LdpTxn) (status : Nat) (body : List (BitVec 8)) :
    (s.conclude ch t status body).pending = s.pending := by
  simp [conclude]

@[simp] theorem await_pending (s : State) (ch : Nat) (t : LdpTxn) (addr : Nat) : (s.await ch t addr).pending = s.pending := by
  simp [await]

@[simp] theorem concludeWrite_pending (ch : Nat) (t : LdpTxn) (addr : Nat) (r : Option Nat × State) :
    (concludeWrite ch t addr r).pending = r.2.pending := by
  unfold concludeWrite; split <;> simp -implicitDefEqProofs

@[simp] theorem unstage_pending (s : State) (ch : Nat) : (s.unstage ch).pending = s.pending := by
  simp [unstage]

@[simp] theorem writePart_pending (s : State) (rq : Requester) (ch : Nat) (t : LdpTxn) (addr type offset : Nat) (v : List (BitVec 8)) (size : Nat) :
    (s.writePart rq ch t addr type offset v size).pending = s.pending := by
  simp [writePart]

@[simp] theorem ldpWriteNow_pending (s : State) (rq : Requester) (ch : Nat) (t : LdpTxn) : (s.ldpWriteNow rq ch t).pending = s.pending := by
  unfold ldpWriteNow
  dsimp only
  split <;> simp

@[simp] theorem writeRecords_pending (s : State) (rq : Requester) (x : Nat) (rs : List (Nat × Nat × Nat × Nat)) (w : Option Nat) :
    (s.writeRecords rq x rs w).2.2.pending = s.pending := by
  induction rs generalizing s w with
  | nil => rfl
  | cons r rs ih =>
    unfold writeRecords
    dsimp only
    split
    · simp [ih]
    · split <;> simp [ih]

@[simp] theorem refuseRecord_pending (s : State) (rq : Requester) (addr st : Nat) : (s.refuseRecord rq addr st).pending = s.pending := by
  simp [refuseRecord]

@[simp] theorem writeBlockNow_pending (s : State) (rq : Requester) (ch : Nat) (t : LdpTxn) : (s.writeBlockNow rq ch t).pending = s.pending := by
  have hw := writeRecords_pending s rq (takeLe t.body 0 2) ((blockRecords (at8 t.body 2) (t.body.drop 4)).getD []) none
  unfold writeBlockNow
  dsimp only
  split
  · simp
  next h => rw [h] at hw; simpa using hw
  next h => rw [h] at hw; simpa using hw

@[simp] theorem restoreOne_pending (a : Nat × Nat × Option Nat × State) (rq : Requester) (addr : Nat) :
    (restoreOne a rq addr).2.2.2.pending = a.2.2.2.pending := by
  unfold restoreOne
  split
  · rfl
  · dsimp only
    split
    · rfl
    · split
      · simp
      · rfl

@[simp] theorem restoreNow_pending (s : State) (rq : Requester) (ch : Nat) (t : LdpTxn) : (s.restoreNow rq ch t).pending = s.pending := by
  unfold restoreNow
  extract_lets first last r skipped body
  have hr : r.2.2.2.pending = s.pending :=
    List.foldlRecOn (motive := fun a : Nat × Nat × Option Nat × State => a.2.2.2.pending = s.pending) _ _ rfl
      fun _ h _ _ => (restoreOne_pending ..).trans h
  split
  · simp
  · simp [hr]

@[simp] theorem subscribeNow_pending (s : State) (rq : Requester) (ch : Nat) (t : LdpTxn) : (s.subscribeNow rq ch t).pending = s.pending := by
  simp [subscribeNow]

@[simp] theorem ringNotify_pending (s : State) (o : Nat) (body : List (BitVec 8)) : (s.ringNotify o body).pending = s.pending := by
  simp [ringNotify]

@[simp] theorem notify_pending (s : State) (x : Subscription) (lost : Nat) : (s.notify x lost).pending = s.pending := by
  simp [notify]

@[simp] theorem commitAgain_pending (s : State) : s.commitAgain.pending = s.pending := by
  simp [commitAgain]

@[simp] theorem commitFails_pending (s : State) (c : CommitRun) (status : Nat) (injected : Bool) :
    (s.commitFails c status injected).pending = s.pending := by
  simp [commitFails]

@[simp] theorem commitSucceeds_pending (s : State) (c : CommitRun) : (s.commitSucceeds c).pending = s.pending := by
  simp [commitSucceeds]

@[simp] theorem openSession_pending (s : State) (a : OpenAsk) (n : Nat) (nonceD : List (BitVec 8)) :
    (s.openSession a n nonceD).pending = s.pending := by
  simp -implicitDefEqProofs [openSession]

@[simp] theorem confirmFails_pending (s : State) (cred : Nat) : (s.confirmFails cred).pending = s.pending := by
  simp [confirmFails]

@[simp] theorem confirmNow_pending (s : State) (n : Nat) (x : Session) (t : LdpTxn) : (s.confirmNow n x t).pending = s.pending := by
  simp -implicitDefEqProofs [confirmNow]

/-! Start-up, restarts and recovery. -/

@[simp] theorem skipEntry_pending (s : State) (e : ImageEntry) (reason : Nat) : (s.skipEntry e reason).pending = s.pending := by
  simp [skipEntry]

@[simp] theorem loadSecret_pending (s : State) (e : ImageEntry) : (s.loadSecret e).pending = s.pending := by
  simp [loadSecret]

@[simp] theorem loadEntry_pending (s : State) (e : ImageEntry) : (s.loadEntry e).pending = s.pending := by
  unfold loadEntry
  split <;> simp

@[simp] theorem checkMemory_pending (s : State) (es : List ImageEntry) : (s.checkMemory es).pending = s.pending := by
  simp [checkMemory]

@[simp] theorem loadImage_pending (s : State) (es : List ImageEntry) : (s.loadImage es).pending = s.pending := by
  simp [loadImage]

@[simp] theorem modesInForce_pending (s : State) : s.modesInForce.pending = s.pending := rfl

@[simp] theorem readCold_pending (s : State) : s.readCold.pending = s.pending := by
  simp -implicitDefEqProofs [readCold]

@[simp] theorem startSpareRank_pending (s : State) : s.startSpareRank.pending = s.pending := by
  unfold startSpareRank
  split <;> simp

@[simp] theorem checkLane_pending (s : State) (m r lane : Nat) (margin : Nat × Nat) : (s.checkLane m r lane margin).pending = s.pending := by
  simp [checkLane]

@[simp] theorem startChannel_pending (s : State) (m : Nat) (t : ChannelTraining) : (s.startChannel m t).pending = s.pending := by
  simp [startChannel]

@[simp] theorem startMemory_pending (s : State) (training : List ChannelTraining) : (s.startMemory training).pending = s.pending := by
  simp -implicitDefEqProofs [startMemory]

@[simp] theorem submitBoot_pending (s : State) (k : Nat) : (s.submitBoot k).pending = s.pending := by
  unfold submitBoot
  dsimp only
  split
  · rfl
  · split
    next h => simpa using judgeIntent_pending _ _ _ _ _ _ (congrArg Prod.snd h)
    · simp

@[simp] theorem placeOwn_pending (s : State) : s.placeOwn.pending = s.pending := by
  unfold placeOwn
  refine each_pending _ _ _ fun t x => ?_
  split <;> simp

@[simp] theorem failFirmware_pending (s : State) : s.failFirmware.pending = s.pending := by
  simp [failFirmware]

@[simp] theorem hostWake_pending (s : State) : s.hostWake.pending = s.pending := by
  simp [hostWake]

end State

/-! ### The commands -/

open State

/-! Sprocket: the line clock, device time and the trigger slots (R11 to R55). -/

@[simp] theorem execSpkLeadOutputWrite_keepsQueue (rq : Requester) (v : Fin 256) (s : State) : KeepsQueue s (execSpkLeadOutputWrite rq v s) := by
  simp [execSpkLeadOutputWrite]

@[simp] theorem execLeadLineStart_keepsQueue (periodPs : Nat) (frameStart : Bool) (s : State) :
    KeepsQueue s (execLeadLineStart periodPs frameStart s) := by
  simp [execLeadLineStart]

@[simp] theorem execCoastLineTick_keepsQueue (s : State) : KeepsQueue s (execCoastLineTick s) := by
  simp [execCoastLineTick]

@[simp] theorem execDtimeSyncMessage_keepsQueue (port : Fin 2) (offset ratePpm : Int) (s : State) :
    KeepsQueue s (execDtimeSyncMessage port offset ratePpm s) := by
  simp [execDtimeSyncMessage]

@[simp] theorem execDtimeSyncLoss_keepsQueue (s : State) : KeepsQueue s (execDtimeSyncLoss s) := by
  simp [execDtimeSyncLoss]

@[simp] theorem execSlotArm_keepsQueue (rq : Requester) (n : Fin 256) (fireIfPast repeats : Bool) (s : State) :
    KeepsQueue s (execSlotArm rq n fireIfPast repeats s) := by
  simp [execSlotArm]

@[simp] theorem execSlotDisarm_keepsQueue (rq : Requester) (n : Fin 256) (s : State) : KeepsQueue s (execSlotDisarm rq n s) := by
  simp [execSlotDisarm]

@[simp] theorem execNoneAction_keepsQueue (n : Fin 256) (s : State) : KeepsQueue s (execNoneAction n s) := by
  simp [execNoneAction]

/-! Mailboxes and doorbells (R395, R409 to R417). -/

@[simp] theorem execMbRelease_keepsQueue (rq : Requester) (m : Fin 16) (n : Nat) (s : State) : KeepsQueue s (execMbRelease rq m n s) := by
  simp [execMbRelease]

@[simp] theorem execMbRing_keepsQueue (rq : Requester) (m : Fin 16) (bits : BitVec 32) (s : State) : KeepsQueue s (execMbRing rq m bits s) := by
  simp [execMbRing]

@[simp] theorem execDoorbellWrite_keepsQueue (rq : Requester) (m : Fin 16) (v : BitVec 64) (s : State) :
    KeepsQueue s (execDoorbellWrite rq m v s) := by
  simp [execDoorbellWrite]

@[simp] theorem execRaiseDoorbell_keepsQueue (n : Fin 256) (s : State) : KeepsQueue s (execRaiseDoorbell n s) := by
  simp [execRaiseDoorbell]

/-! Queues, descriptors and completions (R304 to R317, R326 to R328). -/

@[simp] theorem execQueueDoorbell_keepsQueue (w : Window) (q : Fin 16) (t : BitVec 32) (s : State) : KeepsQueue s (execQueueDoorbell w q t s) := by
  simp [execQueueDoorbell]

@[simp] theorem execQueueEnable_keepsQueue (w : Window) (q sizeLog2 : Fin 16) (s : State) : KeepsQueue s (execQueueEnable w q sizeLog2 s) := by
  simp [execQueueEnable]

@[simp] theorem execQueueDisable_keepsQueue (w : Window) (q sizeLog2 : Fin 16) (s : State) : KeepsQueue s (execQueueDisable w q sizeLog2 s) := by
  simp [execQueueDisable]

@[simp] theorem execQueueFetch_keepsQueue (o : Owner) (q : Fin 16) (d : BitVec 512) (s : State) : KeepsQueue s (execQueueFetch o q d s) := by
  simp [execQueueFetch]

@[simp] theorem execNop_keepsQueue (o : Owner) (q : Fin 16) (s : State) : KeepsQueue s (execNop o q s) := by
  simp [execNop]

@[simp] theorem execFence_keepsQueue (o : Owner) (q : Fin 16) (s : State) : KeepsQueue s (execFence o q s) := by
  simp [execFence]

@[simp] theorem execFenceComplete_keepsQueue (o : Owner) (q : Fin 16) (s : State) : KeepsQueue s (execFenceComplete o q s) := by
  unfold execFenceComplete
  split <;> simp

@[simp] theorem execSlotRequest_keepsQueue (o : Owner) (q : Fin 16) (s : State) : KeepsQueue s (execSlotRequest o q s) := by
  unfold execSlotRequest
  refine (keepsQueue_next _ _).2 ?_
  refine onItemIf_pending _ _ _ _ _ _ fun t it => ?_
  split <;> simp

@[simp] theorem execSlotRequestCancel_keepsQueue (o : Owner) (q : Fin 16) (s : State) : KeepsQueue s (execSlotRequestCancel o q s) := by
  simp [execSlotRequestCancel]

@[simp] theorem execDirtySwap_keepsQueue (i : Fin 64) (s : State) : KeepsQueue s (execDirtySwap i s) := by
  simp [execDirtySwap]

@[simp] theorem execDirtyCutover_keepsQueue (i : Fin 64) (s : State) : KeepsQueue s (execDirtyCutover i s) := by
  simp [execDirtyCutover]

@[simp] theorem execDirtySwapDone_keepsQueue (i : Fin 64) (s : State) : KeepsQueue s (execDirtySwapDone i s) := by
  simp [execDirtySwapDone]

/-! Grip: surfaces, unit health and migrations (R56 to R94). -/

@[simp] theorem execSurfaceIntent_keepsQueue (o : Owner) (q : Fin 16) (s : State) : KeepsQueue s (execSurfaceIntent o q s) := by
  refine (keepsQueue_next _ _).2 (onItemIf_pending _ _ _ _ _ _ fun t it => ?_)
  dsimp only
  split
  · simp
  · split
    · simp
    · split
      · simp
      · split
        next h => simp [placeNew_pending _ _ _ _ h]
        · simp

@[simp] theorem execSurfaceRevision_keepsQueue (o : Owner) (q : Fin 16) (s : State) : KeepsQueue s (execSurfaceRevision o q s) := by
  simp [execSurfaceRevision]

@[simp] theorem execSurfaceRelease_keepsQueue (o : Owner) (q : Fin 16) (s : State) : KeepsQueue s (execSurfaceRelease o q s) := by
  simp [execSurfaceRelease]

@[simp] theorem execSurfaceReleaseComplete_keepsQueue (sf : Fin 16384) (s : State) : KeepsQueue s (execSurfaceReleaseComplete sf s) := by
  simp [execSurfaceReleaseComplete]

@[simp] theorem execMigrationCopyDone_keepsQueue (sf : Fin 16384) (s : State) : KeepsQueue s (execMigrationCopyDone sf s) := by
  simp [execMigrationCopyDone]

@[simp] theorem execMigrationOldFreed_keepsQueue (sf : Fin 16384) (s : State) : KeepsQueue s (execMigrationOldFreed sf s) := by
  unfold execMigrationOldFreed
  dsimp only
  split <;> simp

@[simp] theorem execEpochEnd_keepsQueue (samples : List (Fin 92 × Nat)) (rates : List (Fin 16384 × Nat)) (utilisation : List (Fin 8 × Nat))
    (durationNs : Nat) (s : State) :
    KeepsQueue s (execEpochEnd samples rates utilisation durationNs s) := by
  simp [execEpochEnd]

/-! The Reel (R95 to R136). -/

@[simp] theorem execCritRectsWrite_keepsQueue (rq : Requester) (k : Fin 12) (v : Nat) (s : State) : KeepsQueue s (execCritRectsWrite rq k v s) := by
  simp [execCritRectsWrite]

@[simp] theorem execSubstTableWrite_keepsQueue (rq : Requester) (v : Nat) (s : State) : KeepsQueue s (execSubstTableWrite rq v s) := by
  simp [execSubstTableWrite]

@[simp] theorem execReelScanModeWrite_keepsQueue (rq : Requester) (k : Fin 12) (v : Fin 256) (s : State) :
    KeepsQueue s (execReelScanModeWrite rq k v s) := by
  simp [execReelScanModeWrite]

@[simp] theorem execLineFetch_keepsQueue (k : Fin 12) (y : Nat) (linesDone : List Nat) (firstMissing : Option Nat) (badWord : Option (Fin 3072))
    (s : State) :
    KeepsQueue s (execLineFetch k y linesDone firstMissing badWord s) := by
  unfold execLineFetch
  split <;> simp

/-! Matte layers and colour (R137 to R177). -/

@[simp] theorem execLayerDescriptor_keepsQueue (o : Owner) (q : Fin 16) (substOk : Bool) (s : State) :
    KeepsQueue s (execLayerDescriptor o q substOk s) := by
  simp [execLayerDescriptor]

@[simp] theorem execColourShadowWrite_keepsQueue (rq : Requester) (addr : Fin 16777216) (v : Nat) (s : State) :
    KeepsQueue s (execColourShadowWrite rq addr v s) := by
  simp [execColourShadowWrite]

@[simp] theorem execOutLut3dSwap_keepsQueue (rq : Requester) (k : Fin 12) (v : Fin 256) (s : State) : KeepsQueue s (execOutLut3dSwap rq k v s) := by
  simp [execOutLut3dSwap]

/-! Compositions. -/

@[simp] theorem execCompositionComplete_keepsQueue (e : Fin 12) (durationNs : Nat) (s : State) :
    KeepsQueue s (execCompositionComplete e durationNs s) := by
  unfold execCompositionComplete
  split <;> simp

@[simp] theorem execEngineFault_keepsQueue (e : Fin 12) (s : State) : KeepsQueue s (execEngineFault e s) := by
  simp [execEngineFault]

/-! Guards of outputs (R293, R336 to R338). -/

@[simp] theorem execRelock_keepsQueue (s : State) : KeepsQueue s (execRelock s) := by
  simp [execRelock]

@[simp] theorem execPreemptRaster_keepsQueue (n : Fin 256) (s : State) : KeepsQueue s (execPreemptRaster n s) := by
  simp -implicitDefEqProofs [execPreemptRaster]

/-! Output channels (R178 to R218). -/

@[simp] theorem execCommit_keepsQueue (o : Owner) (q : Fin 16) (s : State) : KeepsQueue s (execCommit o q s) := by
  simp [execCommit]

@[simp] theorem execHoldEnter_keepsQueue (k : Fin 12) (s : State) : KeepsQueue s (execHoldEnter k s) := by
  simp [execHoldEnter]

@[simp] theorem execOutLatchModeWrite_keepsQueue (rq : Requester) (k : Fin 12) (v : Fin 256) (s : State) :
    KeepsQueue s (execOutLatchModeWrite rq k v s) := by
  simp [execOutLatchModeWrite]

@[simp] theorem execOutPairLockWrite_keepsQueue (rq : Requester) (v : BitVec 32) (s : State) : KeepsQueue s (execOutPairLockWrite rq v s) := by
  simp [execOutPairLockWrite]

@[simp] theorem execOutEnableWrite_keepsQueue (rq : Requester) (k : Fin 12) (v : Fin 256) (s : State) :
    KeepsQueue s (execOutEnableWrite rq k v s) := by
  simp [execOutEnableWrite]

/-! The display ports' commands. -/

@[simp] theorem execOutPortWrite_keepsQueue (rq : Requester) (k : Fin 12) (v : Fin 256) (s : State) : KeepsQueue s (execOutPortWrite rq k v s) := by
  simp [execOutPortWrite]

@[simp] theorem execAttachEdge_keepsQueue (p : Fin 14) (level : Bool) (s : State) : KeepsQueue s (execAttachEdge p level s) := by
  unfold execAttachEdge
  refine (keepsQueue_next _ _).2 ?_
  split <;> simp

@[simp] theorem execUnplugDebounce_keepsQueue (p : Fin 14) (s : State) : KeepsQueue s (execUnplugDebounce p s) := by
  unfold execUnplugDebounce
  dsimp only
  split
  · simp
  · split <;> simp

@[simp] theorem execHotplugOut_keepsQueue (p : Fin 14) (s : State) : KeepsQueue s (execHotplugOut p s) := by
  unfold execHotplugOut
  dsimp only
  split
  · simp
  · split <;> simp

@[simp] theorem execHotplugIn_keepsQueue (p : Fin 14) (sink : SinkReport) (s : State) : KeepsQueue s (execHotplugIn p sink s) := by
  unfold execHotplugIn
  dsimp only
  split
  · simp
  · split <;> simp

@[simp] theorem execTrainFail_keepsQueue (p : Fin 14) (phase : Fin 7) (s : State) : KeepsQueue s (execTrainFail p phase s) := by
  unfold execTrainFail
  dsimp only
  split
  · simp
  · split <;> simp

@[simp] theorem execLinkUp_keepsQueue (p : Fin 14) (s : State) : KeepsQueue s (execLinkUp p s) := by
  unfold execLinkUp
  dsimp only
  split
  · simp
  · split
    · simp
    · refine (keepsQueue_next _ _).2 ?_
      split <;> simp -implicitDefEqProofs

@[simp] theorem execTrainRetry_keepsQueue (p : Fin 14) (s : State) : KeepsQueue s (execTrainRetry p s) := by
  unfold execTrainRetry
  dsimp only
  split
  · simp
  · split <;> simp

@[simp] theorem execLinkLost_keepsQueue (p : Fin 14) (s : State) : KeepsQueue s (execLinkLost p s) := by
  simp [execLinkLost]

@[simp] theorem execSinkIrq_keepsQueue (p : Fin 14) (vector : Fin 256) (lossOfLock _selfRefreshError : Bool) (s : State) :
    KeepsQueue s (execSinkIrq p vector lossOfLock _selfRefreshError s) := by
  simp [execSinkIrq]

@[simp] theorem execPortRetrain_keepsQueue (rq : Requester) (p : Fin 14) (v : Fin 256) (s : State) : KeepsQueue s (execPortRetrain rq p v s) := by
  simp [execPortRetrain]

/-! Jobs of the Raster Array. -/

@[simp] theorem execRenderJob_keepsQueue (o : Owner) (q : Fin 16) (s : State) : KeepsQueue s (execRenderJob o q s) := by
  simp [execRenderJob]

@[simp] theorem execComputeJob_keepsQueue (o : Owner) (q : Fin 16) (s : State) : KeepsQueue s (execComputeJob o q s) := by
  simp [execComputeJob]

@[simp] theorem execJobRelease_keepsQueue (s : State) : KeepsQueue s (execJobRelease s) := by
  unfold execJobRelease
  split <;> simp

@[simp] theorem execJobTimeout_keepsQueue (j : Nat) (s : State) : KeepsQueue s (execJobTimeout j s) := by
  unfold execJobTimeout
  split <;> simp

@[simp] theorem execJobComplete_keepsQueue (j : Nat) (s : State) : KeepsQueue s (execJobComplete j s) := by
  unfold execJobComplete
  split <;> simp

/-! Resident jobs of the Raster Array. -/

@[simp] theorem execBinDrawRecord_keepsQueue (j : Nat) (prims : List (Nat × List Nat)) (s : State) : KeepsQueue s (execBinDrawRecord j prims s) := by
  unfold execBinDrawRecord
  split <;> simp

@[simp] theorem execPartialPassEnd_keepsQueue (j : Nat) (s : State) : KeepsQueue s (execPartialPassEnd j s) := by
  unfold execPartialPassEnd
  split <;> simp

@[simp] theorem execBinningEnd_keepsQueue (j : Nat) (s : State) : KeepsQueue s (execBinningEnd j s) := by
  unfold execBinningEnd
  split <;> simp

@[simp] theorem execClusterFault_keepsQueue (c : Fin 24) (s : State) : KeepsQueue s (execClusterFault c s) := by
  simp [execClusterFault]

@[simp] theorem execWorkItemStart_keepsQueue (c : Fin 24) (s : State) : KeepsQueue s (execWorkItemStart c s) := by
  unfold execWorkItemStart
  split
  · simp
  · split
    · simp
    · dsimp only
      split
      next h => simp [pending_of_inject h]
      next h => simp [pending_of_inject h]

@[simp] theorem execWorkItemDone_keepsQueue (c : Fin 24) (r : WorkResult) (s : State) : KeepsQueue s (execWorkItemDone c r s) := by
  unfold execWorkItemDone
  split
  · simp
  · dsimp only
    split
    · simp
    · split <;> simp

@[simp] theorem execPreemptSaveDone_keepsQueue (i : Fin 64) (ns : Nat) (s : State) : KeepsQueue s (execPreemptSaveDone i ns s) := by
  simp [execPreemptSaveDone]

@[simp] theorem execInstanceResume_keepsQueue (i : Fin 64) (s : State) : KeepsQueue s (execInstanceResume i s) := by
  simp [execInstanceResume]

@[simp] theorem execGuardExpired_keepsQueue (k : Fin 12) (s : State) : KeepsQueue s (execGuardExpired k s) := by
  simp [execGuardExpired]

@[simp] theorem execPbGrant_keepsQueue (o : Owner) (q : Fin 16) (s : State) : KeepsQueue s (execPbGrant o q s) := by
  simp [execPbGrant]

@[simp] theorem execPbRevoke_keepsQueue (o : Owner) (q : Fin 16) (s : State) : KeepsQueue s (execPbRevoke o q s) := by
  simp [execPbRevoke]

@[simp] theorem execSigInvalidate_keepsQueue (o : Owner) (q : Fin 16) (s : State) : KeepsQueue s (execSigInvalidate o q s) := by
  simp [execSigInvalidate]

@[simp] theorem execTileBind_keepsQueue (o : Owner) (q : Fin 16) (s : State) : KeepsQueue s (execTileBind o q s) := by
  refine (keepsQueue_next _ _).2 (afterJobs_pending _ _ _ _ _ _ fun t it => ?_)
  dsimp only
  split
  · simp
  · split
    · simp
    next h => simp [bindTiles_pending _ _ _ _ h]

@[simp] theorem execTileUnbind_keepsQueue (o : Owner) (q : Fin 16) (s : State) : KeepsQueue s (execTileUnbind o q s) := by
  simp [execTileUnbind]

/-! Pipelines and the translation cache (R287 to R292). -/

@[simp] theorem execPipelineCreate_keepsQueue (o : Owner) (q : Fin 16) (s : State) : KeepsQueue s (execPipelineCreate o q s) := by
  refine (keepsQueue_next _ _).2 (onItemIf_pending _ _ _ _ _ _ fun t it => ?_)
  dsimp only
  split
  · simp
  · split
    · simp
    · split <;> simp -implicitDefEqProofs

@[simp] theorem execTranslationDone_keepsQueue (o : Owner) (q : Fin 16) (results : List StageResult) (shared : Nat) (s : State) :
    KeepsQueue s (execTranslationDone o q results shared s) := by
  unfold execTranslationDone
  split
  · simp
  · split
    · simp
    · dsimp only
      split <;> simp -implicitDefEqProofs

@[simp] theorem execPipelineDestroy_keepsQueue (o : Owner) (q : Fin 16) (s : State) : KeepsQueue s (execPipelineDestroy o q s) := by
  unfold execPipelineDestroy
  refine (keepsQueue_next _ _).2 ?_
  refine onItemIf_pending _ _ _ _ _ _ fun t it => ?_
  dsimp only
  split <;> simp

/-! Device DRAM (R342 to R389). -/

@[simp] theorem execRefiTick_keepsQueue (m : Fin 8) (s : State) : KeepsQueue s (execRefiTick m s) := by
  simp [execRefiTick]

@[simp] theorem execHorizontalBlankingStart_keepsQueue (k : Fin 12) (vertical : Bool) (roomNs : Nat) (s : State) :
    KeepsQueue s (execHorizontalBlankingStart k vertical roomNs s) := by
  unfold execHorizontalBlankingStart
  split <;> simp

@[simp] theorem execRefreshAllBank_keepsQueue (n : Fin 256) (s : State) : KeepsQueue s (execRefreshAllBank n s) := by
  simp [execRefreshAllBank]

@[simp] theorem execPerBankRefresh_keepsQueue (m : Fin 8) (s : State) : KeepsQueue s (execPerBankRefresh m s) := by
  simp [execPerBankRefresh]

@[simp] theorem execMr4Poll_keepsQueue (m : Fin 8) (mr4 : List Nat) (differs : List Bool) (copied : Nat) (s : State) :
    KeepsQueue s (execMr4Poll m mr4 differs copied s) := by
  unfold execMr4Poll
  split
  · simp
  · refine (keepsQueue_next _ _).2 ((each_pending _ _ _ fun t r => by simp).trans ?_)
    rw [pollRate_pending]
    refine List.foldlRecOn (motive := fun a : List (Nat × Nat × Bool) × State => a.2.pending = s.pending) _ _ ?_ fun a h r _ => ?_
    · simp
    · split
      next e => exact (pending_of_inject e).trans h
      next e => exact (pending_of_inject e).trans h

@[simp] theorem execMarginSweep_keepsQueue (m : Fin 8) (s : State) : KeepsQueue s (execMarginSweep m s) := by
  unfold execMarginSweep
  split
  · simp
  · split <;> simp

@[simp] theorem execSweepDone_keepsQueue (m : Fin 8) (result : SweepResult) (s : State) : KeepsQueue s (execSweepDone m result s) := by
  unfold execSweepDone
  split <;> simp -implicitDefEqProofs

@[simp] theorem execCorrectedError_keepsQueue (r : Fin 16) (genuine : Bool) (s : State) : KeepsQueue s (execCorrectedError r genuine s) := by
  simp [execCorrectedError]

@[simp] theorem execCeSummary_keepsQueue (s : State) : KeepsQueue s (execCeSummary s) := by
  simp [execCeSummary]

@[simp] theorem execUncorrectableError_keepsQueue (m : Fin 8) (addr : Nat) (reader : DramReader) (genuine : Bool) (copied : Nat) (s : State) :
    KeepsQueue s (execUncorrectableError m addr reader genuine copied s) := by
  simp [execUncorrectableError]

@[simp] theorem execSpareDone_keepsQueue (s : State) : KeepsQueue s (execSpareDone s) := by
  simp [execSpareDone]

/-! The Bittern Island (R390 to R409). -/

@[simp] theorem execLockstepMismatch_keepsQueue (genuine : Bool) (queued : List (Nat × Nat)) (s : State) :
    KeepsQueue s (execLockstepMismatch genuine queued s) := by
  simp [execLockstepMismatch]

@[simp] theorem execBitSramUe_keepsQueue (genuine : Bool) (queued : List (Nat × Nat)) (s : State) :
    KeepsQueue s (execBitSramUe genuine queued s) := by
  simp [execBitSramUe]

@[simp] theorem execBitWatchdogExpiry_keepsQueue (genuine : Bool) (queued : List (Nat × Nat)) (s : State) :
    KeepsQueue s (execBitWatchdogExpiry genuine queued s) := by
  simp [execBitWatchdogExpiry]

@[simp] theorem execBitRestartReq_keepsQueue (rq : Requester) (v : Fin 256) (queued : List (Nat × Nat)) (s : State) :
    KeepsQueue s (execBitRestartReq rq v queued s) := by
  simp [execBitRestartReq]

@[simp] theorem execBitRomStart_keepsQueue (s : State) : KeepsQueue s (execBitRomStart s) := by
  simp [execBitRomStart]

@[simp] theorem execMeasurementDone_keepsQueue (image : BootImage) (s : State) : KeepsQueue s (execMeasurementDone image s) := by
  simp [execMeasurementDone]

@[simp] theorem execBitReady_keepsQueue (rq : Requester) (v : Fin 256) (s : State) : KeepsQueue s (execBitReady rq v s) := by
  simp [execBitReady]

/-! Quag haptics (R482 to R500). -/

@[simp] theorem execHapPlay_keepsQueue (rq : Requester) (c : Fin 8) (v : Fin 256) (s : State) : KeepsQueue s (execHapPlay rq c v s) := by
  simp [execHapPlay]

@[simp] theorem execHapCritPlay_keepsQueue (rq : Requester) (c : Fin 8) (v : Fin 256) (s : State) : KeepsQueue s (execHapCritPlay rq c v s) := by
  simp [execHapCritPlay]

@[simp] theorem execHapticStart_keepsQueue (n : Fin 256) (s : State) : KeepsQueue s (execHapticStart n s) := by
  simp [execHapticStart]

@[simp] theorem execHapEnable_keepsQueue (rq : Requester) (c : Fin 8) (v : Fin 256) (s : State) : KeepsQueue s (execHapEnable rq c v s) := by
  simp [execHapEnable]

@[simp] theorem execCalibrate_keepsQueue (rq : Requester) (c : Fin 8) (v : Fin 256) (s : State) : KeepsQueue s (execCalibrate rq c v s) := by
  simp [execCalibrate]

@[simp] theorem execCalDone_keepsQueue (c : Fin 8) (coarse best peakMv : Nat) (s : State) : KeepsQueue s (execCalDone c coarse best peakMv s) := by
  simp [execCalDone]

@[simp] theorem execHalfCycleEnd_keepsQueue (c : Fin 8) (peakMv : Nat) (crossing : Option Int) (s : State) :
    KeepsQueue s (execHalfCycleEnd c peakMv crossing s) := by
  unfold execHalfCycleEnd
  split
  · simp
  · split
    · simp
    · dsimp only
      split <;> simp

@[simp] theorem execPulseGapEnd_keepsQueue (c : Fin 8) (s : State) : KeepsQueue s (execPulseGapEnd c s) := by
  unfold execPulseGapEnd
  split
  · simp
  · split
    · simp
    · split <;> simp

/-! Foley (R501 to R526). -/

@[simp] theorem execChimePlay_keepsQueue (rq : Requester) (v : Fin 256) (s : State) : KeepsQueue s (execChimePlay rq v s) := by
  simp [execChimePlay]

@[simp] theorem execChimeStop_keepsQueue (rq : Requester) (v : Fin 256) (s : State) : KeepsQueue s (execChimeStop rq v s) := by
  simp [execChimeStop]

@[simp] theorem execChimeEnd_keepsQueue (g : Fin 4) (s : State) : KeepsQueue s (execChimeEnd g s) := by
  unfold execChimeEnd
  split <;> simp

@[simp] theorem execTdmClockLost_keepsQueue (p : Fin 8) (s : State) : KeepsQueue s (execTdmClockLost p s) := by
  simp [execTdmClockLost]

@[simp] theorem execTdmClockBack_keepsQueue (p : Fin 8) (blocks : Nat) (s : State) : KeepsQueue s (execTdmClockBack p blocks s) := by
  simp [execTdmClockBack]

@[simp] theorem execBlockBoundary_keepsQueue (d : Fin 11) (rateHz : Nat) (ins : List AudioIn) (outs : List AudioOut) (s : State) :
    KeepsQueue s (execBlockBoundary d rateHz ins outs s) := by
  simp [execBlockBoundary]

@[simp] theorem execAudStreamCfgWrite_keepsQueue (rq : Requester) (u : Fin 64) (v : BitVec 32) (s : State) :
    KeepsQueue s (execAudStreamCfgWrite rq u v s) := by
  simp [execAudStreamCfgWrite]

@[simp] theorem execAudRouteTableWrite_keepsQueue (rq : Requester) (v : Nat) (s : State) : KeepsQueue s (execAudRouteTableWrite rq v s) := by
  simp [execAudRouteTableWrite]

/-! Continuity units (R421 to R440). -/

@[simp] theorem execCuStreamJudge_keepsQueue (u : Fin 32) (pixels : Option (List (Nat × Nat × Nat))) (refUe corrected : Bool) (s : State) :
    KeepsQueue s (execCuStreamJudge u pixels refUe corrected s) := by
  unfold execCuStreamJudge
  dsimp only
  split
  · simp
  · split
    · simp
    · split
      · simp
      · split <;> simp

@[simp] theorem execCuLayerJudge_keepsQueue (u : Fin 32) (refUe corrected : Bool) (s : State) :
    KeepsQueue s (execCuLayerJudge u refUe corrected s) := by
  unfold execCuLayerJudge
  dsimp only
  split
  · simp
  · split
    · simp
    · split
      · simp
      · split_ifs
        · simp
        · split
          · simp
          · split <;> simp

@[simp] theorem execMbPush_keepsQueue (rq : Requester) (m : Fin 16) (word : BitVec 32) (stagingUe : Bool) (s : State) :
    KeepsQueue s (execMbPush rq m word stagingUe s) := by
  unfold execMbPush
  refine (keepsQueue_next _ _).2 ?_
  refine mbWrite_pending _ _ _ _ _ _ fun t => ?_
  split <;> simp

@[simp] theorem execCuWordGapTimeout_keepsQueue (u : Fin 32) (s : State) : KeepsQueue s (execCuWordGapTimeout u s) := by
  simp [execCuWordGapTimeout]

@[simp] theorem execCuMsgTimeout_keepsQueue (u : Fin 32) (s : State) : KeepsQueue s (execCuMsgTimeout u s) := by
  simp [execCuMsgTimeout]

@[simp] theorem execCuEnable_keepsQueue (rq : Requester) (u : Fin 32) (v : BitVec 32) (s : State) : KeepsQueue s (execCuEnable rq u v s) := by
  simp [execCuEnable]

@[simp] theorem execCuDisable_keepsQueue (rq : Requester) (u : Fin 32) (v : BitVec 32) (s : State) : KeepsQueue s (execCuDisable rq u v s) := by
  simp [execCuDisable]

@[simp] theorem execCuRestore_keepsQueue (rq : Requester) (u : Fin 32) (v : BitVec 32) (s : State) : KeepsQueue s (execCuRestore rq u v s) := by
  simp [execCuRestore]

@[simp] theorem execCuInject_keepsQueue (rq : Requester) (u : Fin 32) (v : Fin 256) (s : State) : KeepsQueue s (execCuInject rq u v s) := by
  simp [execCuInject]

/-! Reed touch and the key bank (R443 to R478). -/

@[simp] theorem execTouchScan_keepsQueue (n : Fin 256) (s : State) : KeepsQueue s (execTouchScan n s) := by
  simp [execTouchScan]

@[simp] theorem execSelfStartedWindow_keepsQueue (p : Fin 2) (s : State) : KeepsQueue s (execSelfStartedWindow p s) := by
  simp [execSelfStartedWindow]

@[simp] theorem execScanComplete_keepsQueue (p : Fin 2) (counts selfCounts : List Nat) (pixels : ScanPixels) (s : State) :
    KeepsQueue s (execScanComplete p counts selfCounts pixels s) := by
  unfold execScanComplete
  dsimp only
  split <;> simp -implicitDefEqProofs

@[simp] theorem execSuspectAccepted_keepsQueue (u : Fin 3) (s : State) : KeepsQueue s (execSuspectAccepted u s) := by
  simp [execSuspectAccepted]

@[simp] theorem execListenSample_keepsQueue (p : Fin 2) (sample : Int) (s : State) : KeepsQueue s (execListenSample p sample s) := by
  unfold execListenSample
  dsimp only
  split <;> simp

@[simp] theorem execKeyScanComplete_keepsQueue (counts : List Nat) (s : State) : KeepsQueue s (execKeyScanComplete counts s) := by
  unfold execKeyScanComplete
  dsimp only
  split
  · simp
  · simp only [keepsQueue_ite, keepsQueue_next, pending_ite, setKeys_pending, wr_pending, reportKeys_pending, showKeys_pending,
      logEvent_pending, tallyCount_pending, handOver_pending, each_pending, implies_true, ite_self]

@[simp] theorem execRfEnable_keepsQueue (rq : Requester) (p : Fin 2) (v : BitVec 32) (s : State) : KeepsQueue s (execRfEnable rq p v s) := by
  simp [execRfEnable]

@[simp] theorem execRfDisable_keepsQueue (rq : Requester) (p : Fin 2) (v : BitVec 32) (s : State) : KeepsQueue s (execRfDisable rq p v s) := by
  simp [execRfDisable]

@[simp] theorem execKbEnable_keepsQueue (rq : Requester) (v : Fin 256) (s : State) : KeepsQueue s (execKbEnable rq v s) := by
  simp [execKbEnable]

@[simp] theorem execWakeScan_keepsQueue (p : Fin 2) (groups : List Int) (s : State) : KeepsQueue s (execWakeScan p groups s) := by
  unfold execWakeScan
  split
  · simp
  · dsimp only
    split <;> simp

/-! Instances. -/

@[simp] theorem execInstCreate_keepsQueue (o : Owner) (q : Fin 16) (s : State) : KeepsQueue s (execInstCreate o q s) := by
  unfold execInstCreate
  split
  · simp
  · refine (keepsQueue_next _ _).2 (onItem_pending _ _ _ _ _ fun t it => ?_)
    dsimp only
    split
    · simp
    · split
      · simp
      · split
        · split
          · simp
          · split
            · simp
            · split
              · simp
              next h => simp [placeContext_pending _ _ _ h]
        · simp

@[simp] theorem execInstLayerGrantsWrite_keepsQueue (rq : Requester) (i : Fin 64) (v : Nat) (s : State) :
    KeepsQueue s (execInstLayerGrantsWrite rq i v s) := by
  simp [execInstLayerGrantsWrite]

@[simp] theorem execInstControlOpReset_keepsQueue (o : Owner) (q : Fin 16) (s : State) : KeepsQueue s (execInstControlOpReset o q s) := by
  simp [execInstControlOpReset]

@[simp] theorem execInstControlOpRemove_keepsQueue (o : Owner) (q : Fin 16) (s : State) : KeepsQueue s (execInstControlOpRemove o q s) := by
  simp [execInstControlOpRemove]

@[simp] theorem execInstControlReset_keepsQueue (w : Window) (s : State) : KeepsQueue s (execInstControlReset w s) := by
  simp [execInstControlReset]

@[simp] theorem execDrainEnd_keepsQueue (w : Window) (s : State) : KeepsQueue s (execDrainEnd w s) := by
  simp [execDrainEnd]

@[simp] theorem execResetDone_keepsQueue (w : Window) (s : State) : KeepsQueue s (execResetDone w s) := by
  unfold execResetDone
  dsimp only
  split
  · simp
  · refine (keepsQueue_next _ _).2 ?_
    split <;> simp

@[simp] theorem execFunctionLevelReset_keepsQueue (hp : Fin 4) (busMaster : Bool) (s : State) :
    KeepsQueue s (execFunctionLevelReset hp busMaster s) := by
  simp [execFunctionLevelReset]

@[simp] theorem execDmaCopy_keepsQueue (o : Owner) (q : Fin 16) (s : State) : KeepsQueue s (execDmaCopy o q s) := by
  unfold execDmaCopy
  split <;> simp

@[simp] theorem execDmaComplete_keepsQueue (j : Nat) (result : TransferResult) (data : List (BitVec 8)) (engineNs : Nat) (s : State) :
    KeepsQueue s (execDmaComplete j result data engineNs s) := by
  unfold execDmaComplete
  split <;> simp

/-! Clocks (R573 to R593, R624). -/

@[simp] theorem execXoDelayExpiry_keepsQueue (s : State) : KeepsQueue s (execXoDelayExpiry s) := by
  simp [execXoDelayExpiry]

@[simp] theorem execXoCountDone_keepsQueue (khz : Nat) (s : State) : KeepsQueue s (execXoCountDone khz s) := by
  unfold execXoCountDone
  split
  · simp
  · split <;> simp -implicitDefEqProofs

@[simp] theorem execPllLocked_keepsQueue (pll : Fin 10) (khz : Nat) (s : State) : KeepsQueue s (execPllLocked pll khz s) := by
  simp [execPllLocked]

@[simp] theorem execPllEnable_keepsQueue (rq : Requester) (pll : Fin 10) (v : Fin 256) (s : State) : KeepsQueue s (execPllEnable rq pll v s) := by
  simp [execPllEnable]

@[simp] theorem execClkmonWindow_keepsQueue (m : Fin 11) (khz : Nat) (s : State) : KeepsQueue s (execClkmonWindow m khz s) := by
  simp [execClkmonWindow]

@[simp] theorem execClkmonInject_keepsQueue (rq : Requester) (m : Fin 11) (v : Fin 256) (s : State) : KeepsQueue s (execClkmonInject rq m v s) := by
  simp [execClkmonInject]

@[simp] theorem execMuxSel_keepsQueue (rq : Requester) (x : Fin 19) (v : Fin 256) (s : State) : KeepsQueue s (execMuxSel rq x v s) := by
  simp [execMuxSel]

@[simp] theorem execMuxSwitchDone_keepsQueue (x : Fin 19) (s : State) : KeepsQueue s (execMuxSwitchDone x s) := by
  unfold execMuxSwitchDone
  split <;> simp

@[simp] theorem execSwitchStuck_keepsQueue (x : Fin 19) (s : State) : KeepsQueue s (execSwitchStuck x s) := by
  unfold execSwitchStuck
  split <;> simp

@[simp] theorem execForceSel_keepsQueue (rq : Requester) (x : Fin 19) (v : Fin 256) (straps : BitVec 16) (queued : List (Nat × Nat)) (s : State) :
    KeepsQueue s (execForceSel rq x v straps queued s) := by
  simp [execForceSel]

@[simp] theorem execForceSelResetRelease_keepsQueue (x : Fin 19) (s : State) : KeepsQueue s (execForceSelResetRelease x s) := by
  simp [execForceSelResetRelease]

@[simp] theorem execGateOpen_keepsQueue (rq : Requester) (g : Fin 128) (s : State) : KeepsQueue s (execGateOpen rq g s) := by
  simp [execGateOpen]

@[simp] theorem execGateClose_keepsQueue (rq : Requester) (g : Fin 128) (s : State) : KeepsQueue s (execGateClose rq g s) := by
  simp [execGateClose]

@[simp] theorem execGateCloseComplete_keepsQueue (g : Fin 128) (s : State) : KeepsQueue s (execGateCloseComplete g s) := by
  simp [execGateCloseComplete]

@[simp] theorem execBusyRefused_keepsQueue (g : Fin 128) (block : Nat) (s : State) : KeepsQueue s (execBusyRefused g block s) := by
  simp [execBusyRefused]

@[simp] theorem execDomainOn_keepsQueue (rq : Requester) (d : Fin 17) (s : State) : KeepsQueue s (execDomainOn rq d s) := by
  simp [execDomainOn]

@[simp] theorem execDomainOnComplete_keepsQueue (d : Fin 17) (s : State) : KeepsQueue s (execDomainOnComplete d s) := by
  simp [execDomainOnComplete]

@[simp] theorem execDomainOff_keepsQueue (rq : Requester) (d : Fin 17) (s : State) : KeepsQueue s (execDomainOff rq d s) := by
  simp [execDomainOff]

@[simp] theorem execDomainReset_keepsQueue (rq : Requester) (d : Fin 17) (s : State) : KeepsQueue s (execDomainReset rq d s) := by
  simp [execDomainReset]

@[simp] theorem execDomainResetRelease_keepsQueue (d : Fin 17) (s : State) : KeepsQueue s (execDomainResetRelease d s) := by
  simp [execDomainResetRelease]

/-! Sluice and the supplies (R593 to R605). -/

@[simp] theorem execStateEnter_keepsQueue (target : Fin 5) (s : State) : KeepsQueue s (execStateEnter target s) := by
  simp [execStateEnter]

@[simp] theorem execWakeEvent_keepsQueue (cause : Fin 8) (s : State) : KeepsQueue s (execWakeEvent cause s) := by
  simp [execWakeEvent]

@[simp] theorem execStateExit_keepsQueue (s : State) : KeepsQueue s (execStateExit s) := by
  unfold execStateExit
  split <;> simp

@[simp] theorem execPowerMeasurement_keepsQueue (mw : Nat) (s : State) : KeepsQueue s (execPowerMeasurement mw s) := by
  simp -implicitDefEqProofs [execPowerMeasurement]

@[simp] theorem execThermalThrottle_keepsQueue (celsius : Int) (s : State) : KeepsQueue s (execThermalThrottle celsius s) := by
  simp -implicitDefEqProofs [execThermalThrottle]

@[simp] theorem execThermalTrip_keepsQueue (celsius : Int) (s : State) : KeepsQueue s (execThermalTrip celsius s) := by
  simp [execThermalTrip]

@[simp] theorem execThermalTripRelease_keepsQueue (celsius : Int) (straps : BitVec 16) (s : State) :
    KeepsQueue s (execThermalTripRelease celsius straps s) := by
  simp [execThermalTripRelease]

@[simp] theorem execSagStart_keepsQueue (rail : Fin 12) (mv : Nat) (s : State) : KeepsQueue s (execSagStart rail mv s) := by
  unfold execSagStart
  dsimp only
  split
  · simp
  · split <;> simp

@[simp] theorem execRailRecovered_keepsQueue (rail : Fin 12) (mv : Nat) (s : State) : KeepsQueue s (execRailRecovered rail mv s) := by
  unfold execRailRecovered
  dsimp only
  split
  · simp
  · split <;> simp

@[simp] theorem execSag_keepsQueue (s : State) : KeepsQueue s (execSag s) := by
  unfold execSag
  split
  · simp -implicitDefEqProofs
  · split <;> simp -implicitDefEqProofs

@[simp] theorem execSupInject_keepsQueue (rq : Requester) (rail : Fin 12) (v : Fin 256) (s : State) : KeepsQueue s (execSupInject rq rail v s) := by
  simp [execSupInject]

@[simp] theorem execAvsSettle_keepsQueue (rail : Fin 2) (s : State) : KeepsQueue s (execAvsSettle rail s) := by
  simp [execAvsSettle]

@[simp] theorem execAvsFault_keepsQueue (rail : Fin 2) (s : State) : KeepsQueue s (execAvsFault rail s) := by
  simp [execAvsFault]

@[simp] theorem execBrownOut_keepsQueue (rail : Fin 12) (straps : BitVec 16) (s : State) : KeepsQueue s (execBrownOut rail straps s) := by
  simp [execBrownOut]

/-! The Script Log's ring, injection, Dailies and Tally (R629 to R655). -/

@[simp] theorem execLogMove_keepsQueue (s : State) : KeepsQueue s (execLogMove s) := by
  simp [execLogMove]

@[simp] theorem execInjArm_keepsQueue (rq : Requester) (point : Fin 31) (v : Fin 256) (queued : List (Nat × Nat)) (s : State) :
    KeepsQueue s (execInjArm rq point v queued s) := by
  simp [execInjArm]

@[simp] theorem execDailiesReserve_keepsQueue (slice : Nat) (s : State) : KeepsQueue s (execDailiesReserve slice s) := by
  unfold execDailiesReserve
  split <;> simp

@[simp] theorem execDailiesSlice_keepsQueue (n : Fin 256) (s : State) : KeepsQueue s (execDailiesSlice n s) := by
  simp [execDailiesSlice]

@[simp] theorem execSliceComplete_keepsQueue (slice : Nat) (pass : Bool) (word : Nat) (s : State) :
    KeepsQueue s (execSliceComplete slice pass word s) := by
  have hp := injectSlice_pending (s.endSlice slice) (slicePoints slice)
  unfold execSliceComplete
  split
  · simp
  · dsimp only
    split
    · simp
    · split
      next h =>
        rw [h] at hp
        simpa using hp
      next h =>
        rw [h] at hp
        split
        · refine (keepsQueue_next _ _).2 ?_
          split <;> simpa using hp
        · simpa using hp

@[simp] theorem execDailiesOverrun_keepsQueue (slice : Nat) (s : State) : KeepsQueue s (execDailiesOverrun slice s) := by
  unfold execDailiesOverrun
  split <;> simp

@[simp] theorem execDailiesRound_keepsQueue (s : State) : KeepsQueue s (execDailiesRound s) := by
  simp [execDailiesRound]

@[simp] theorem execTallyWrap_keepsQueue (g : Fin 40) (counter : Fin 64) (s : State) : KeepsQueue s (execTallyWrap g counter s) := by
  simp [execTallyWrap]

@[simp] theorem execTallyOvfClear_keepsQueue (rq : Requester) (g : Fin 40) (v : Fin 256) (s : State) : KeepsQueue s (execTallyOvfClear rq g v s) := by
  simp [execTallyOvfClear]

/-! The commands of an output's frame. -/

@[simp] theorem execOutputIntent_keepsQueue (o : Owner) (q : Fin 16) (s : State) : KeepsQueue s (execOutputIntent o q s) := by
  simp [execOutputIntent]

@[simp] theorem execOutputLatchPoint_keepsQueue (k : Fin 12) (s : State) : KeepsQueue s (execOutputLatchPoint k s) := by
  simp [execOutputLatchPoint]

@[simp] theorem execDecisionPoint_keepsQueue (k : Fin 12) (line : Nat) (progress : List (Bool × Nat)) (s : State) :
    KeepsQueue s (execDecisionPoint k line progress s) := by
  simp [execDecisionPoint]

@[simp] theorem execLatchOutput_keepsQueue (n : Fin 256) (line : Nat) (progress : List (Bool × Nat)) (s : State) :
    KeepsQueue s (execLatchOutput n line progress s) := by
  simp [execLatchOutput]

@[simp] theorem execFrameStart_keepsQueue (k : Fin 12) (s : State) : KeepsQueue s (execFrameStart k s) := by
  unfold execFrameStart
  dsimp only
  split
  · simp
  · split <;> simp

/-! LDP (R530 to R567). -/

@[simp] theorem execUdpDatagram_keepsQueue (mac : Fin 2) (ip : BitVec 32) (udpPort : BitVec 16) (fragment : Bool) (bytes : List (BitVec 8))
    (s : State) :
    KeepsQueue s (execUdpDatagram mac ip udpPort fragment bytes s) := by
  simp [execUdpDatagram]

@[simp] theorem execArpIcmp_keepsQueue (mac : Fin 2) (echo : Bool) (ip : BitVec 32) (s : State) : KeepsQueue s (execArpIcmp mac echo ip s) := by
  simp [execArpIcmp]

@[simp] theorem execCanFrame_keepsQueue (ctl : Fin 4) (identifier : BitVec 32) (bytes : List (BitVec 8)) (s : State) :
    KeepsQueue s (execCanFrame ctl identifier bytes s) := by
  simp [execCanFrame]

@[simp] theorem execCanSegmentLost_keepsQueue (s : State) : KeepsQueue s (execCanSegmentLost s) := by
  unfold execCanSegmentLost
  refine (keepsQueue_next _ _).2 ?_
  split <;> simp

@[simp] theorem execDictGo_keepsQueue (w : Window) (v : BitVec 32) (bytes : List (BitVec 8)) (s : State) : KeepsQueue s (execDictGo w v bytes s) := by
  simp [execDictGo]

@[simp] theorem execLdpRead_keepsQueue (c : LdpChannel) (s : State) : KeepsQueue s (execLdpRead c s) := by
  simp [execLdpRead]

@[simp] theorem execLdpReadBlock_keepsQueue (c : LdpChannel) (s : State) : KeepsQueue s (execLdpReadBlock c s) := by
  simp [execLdpReadBlock]

@[simp] theorem execLdpWrite_keepsQueue (c : LdpChannel) (s : State) : KeepsQueue s (execLdpWrite c s) := by
  simp [execLdpWrite]

@[simp] theorem execStagingTimeout_keepsQueue (c : LdpChannel) (s : State) : KeepsQueue s (execStagingTimeout c s) := by
  unfold execStagingTimeout
  refine (keepsQueue_next _ _).2 ?_
  split <;> simp

@[simp] theorem execLdpWriteBlock_keepsQueue (c : LdpChannel) (s : State) : KeepsQueue s (execLdpWriteBlock c s) := by
  simp [execLdpWriteBlock]

@[simp] theorem execRestoreDefaults_keepsQueue (c : LdpChannel) (s : State) : KeepsQueue s (execRestoreDefaults c s) := by
  simp [execRestoreDefaults]

@[simp] theorem execLdpSubscribe_keepsQueue (c : LdpChannel) (s : State) : KeepsQueue s (execLdpSubscribe c s) := by
  simp [execLdpSubscribe]

@[simp] theorem execLdpUnsubscribe_keepsQueue (c : LdpChannel) (s : State) : KeepsQueue s (execLdpUnsubscribe c s) := by
  simp [execLdpUnsubscribe]

@[simp] theorem execLdpNotify_keepsQueue (sub lost : Nat) (s : State) : KeepsQueue s (execLdpNotify sub lost s) := by
  unfold execLdpNotify
  refine (keepsQueue_next _ _).2 ?_
  split <;> simp

@[simp] theorem execCommitRequest_keepsQueue (c : LdpChannel) (s : State) : KeepsQueue s (execCommitRequest c s) := by
  simp [execCommitRequest]

@[simp] theorem execCommitDone_keepsQueue (verified : Bool) (s : State) : KeepsQueue s (execCommitDone verified s) := by
  unfold execCommitDone
  refine (keepsQueue_next _ _).2 ?_
  split
  · simp
  · split
    · simp
    · split
      · simp
      · dsimp only
        split <;> simp

@[simp] theorem execLdpOpen_keepsQueue (nonceD : BitVec 128) (s : State) : KeepsQueue s (execLdpOpen nonceD s) := by
  unfold execLdpOpen
  refine (keepsQueue_next _ _).2 ?_
  split
  · simp
  · split
    · simp
    · dsimp only
      split <;> simp

@[simp] theorem execLdpConfirm_keepsQueue (n : Fin 8) (s : State) : KeepsQueue s (execLdpConfirm n s) := by
  unfold execLdpConfirm
  refine (keepsQueue_next _ _).2 ?_
  split <;> simp

@[simp] theorem execConfirmTimeout_keepsQueue (n : Fin 8) (s : State) : KeepsQueue s (execConfirmTimeout n s) := by
  unfold execConfirmTimeout
  refine (keepsQueue_next _ _).2 ?_
  split <;> simp

@[simp] theorem execAuthLockoutEnd_keepsQueue (cred : Fin 8) (s : State) : KeepsQueue s (execAuthLockoutEnd cred s) := by
  simp [execAuthLockoutEnd]

@[simp] theorem execSessionIdle_keepsQueue (n : Fin 8) (s : State) : KeepsQueue s (execSessionIdle n s) := by
  unfold execSessionIdle
  refine (keepsQueue_next _ _).2 ?_
  split <;> simp

@[simp] theorem execLdpClose_keepsQueue (c : LdpChannel) (s : State) : KeepsQueue s (execLdpClose c s) := by
  simp [execLdpClose]

@[simp] theorem execLdpPing_keepsQueue (c : LdpChannel) (s : State) : KeepsQueue s (execLdpPing c s) := by
  simp [execLdpPing]

@[simp] theorem execCredSecretWrite_keepsQueue (rq : Requester) (cred : Fin 8) (blob : Nat) (s : State) :
    KeepsQueue s (execCredSecretWrite rq cred blob s) := by
  simp [execCredSecretWrite]

/-! Start-up, restarts and recovery. -/

@[simp] theorem execPowerOnReset_keepsQueue (straps : BitVec 16) (s : State) : KeepsQueue s (execPowerOnReset straps s) := by
  simp [execPowerOnReset]

@[simp] theorem execResetPin_keepsQueue (straps : BitVec 16) (s : State) : KeepsQueue s (execResetPin straps s) := by
  simp [execResetPin]

@[simp] theorem execColdRequest_keepsQueue (rq : Requester) (v : Fin 256) (straps : BitVec 16) (s : State) :
    KeepsQueue s (execColdRequest rq v straps s) := by
  simp [execColdRequest]

@[simp] theorem execWarmRequest_keepsQueue (rq : Requester) (v : Fin 256) (s : State) : KeepsQueue s (execWarmRequest rq v s) := by
  simp [execWarmRequest]

@[simp] theorem execImageLoaded_keepsQueue (s : State) : KeepsQueue s (execImageLoaded s) := by
  unfold execImageLoaded
  split
  · simp -implicitDefEqProofs
  · refine (keepsQueue_next _ _).2 ?_
    split <;> simp -implicitDefEqProofs

@[simp] theorem execReady_keepsQueue (training : List ChannelTraining) (s : State) : KeepsQueue s (execReady training s) := by
  simp [execReady]

@[simp] theorem execHostLinkUp_keepsQueue (hp : Fin 4) (s : State) : KeepsQueue s (execHostLinkUp hp s) := by
  simp [execHostLinkUp]

@[simp] theorem execRecoveryGo_keepsQueue (hp : Fin 4) (length : BitVec 26) (s : State) : KeepsQueue s (execRecoveryGo hp length s) := by
  simp [execRecoveryGo]

@[simp] theorem execTftpWrite_keepsQueue (length : Nat) (s : State) : KeepsQueue s (execTftpWrite length s) := by
  simp [execTftpWrite]

@[simp] theorem execGafferWatchdogExpiry_keepsQueue (genuine : Bool) (s : State) : KeepsQueue s (execGafferWatchdogExpiry genuine s) := by
  simp [execGafferWatchdogExpiry]

@[simp] theorem execRstGafRestartReq_keepsQueue (rq : Requester) (v : Fin 256) (s : State) : KeepsQueue s (execRstGafRestartReq rq v s) := by
  simp [execRstGafRestartReq]

@[simp] theorem execGafferSramUe_keepsQueue (genuine : Bool) (s : State) : KeepsQueue s (execGafferSramUe genuine s) := by
  simp [execGafferSramUe]

@[simp] theorem execGafferRestartDone_keepsQueue (storeOk copied : Bool) (s : State) : KeepsQueue s (execGafferRestartDone storeOk copied s) := by
  simp [execGafferRestartDone]

@[simp] theorem execRegisterWrite_keepsQueue (rq : Requester) (target : WriteTarget) (v : Nat) (s : State) :
    KeepsQueue s (execRegisterWrite rq target v s) := by
  unfold execRegisterWrite
  refine (keepsQueue_next _ _).2 ?_
  split
  · dsimp only
    split <;> simp
  · simp
  · simp
  · simp

/-! The dispatch: each of its arms is a command above. -/

theorem exec_keepsQueue (c : Instr) (s : State) : KeepsQueue s (exec c s) := by
  cases c <;> simp [exec]

/-- Settles O6: `exec` runs one of the commands, and the lemma of each says that it answers and keeps the queue (log entry 2). -/
theorem everyCommandAnswersAndKeepsTheQueue : Obligations.EveryCommandAnswersAndKeepsTheQueue := by
  unfold Obligations.EveryCommandAnswersAndKeepsTheQueue
  exact exec_keepsQueue

end Sys2Proof.Machine
end

section
/-!
SUPPORT. O2, O3 and O9 to O13: Sprocket, device time and the trigger slots (R11 to R55). First the rules for what the commands
share: one bit of a value, SPK_STATUS, what a line, a frame, the start of a coast and a re-lock leave alone, and what a write of
SLOT_CONTROL and a firing can do. The statements' proofs cite them.
-/
namespace Sys2Proof.Machine
open Sys2Proof

/-! ## Bits and positions -/

/-- A bit of a value after one bit of it is replaced. -/
theorem bit_setBit (v i j : Nat) (b : Bool) : bit (setBit v i b) j = if j = i then b else bit v j := by
  have parts : setBit v i b = 2 ^ (i + 1) * (v / 2 ^ (i + 1)) + (2 ^ i * ofBool b + v % 2 ^ i) := by
    cases b <;> simp [setBit, setField, ofBool] <;> ring
  have below : v % 2 ^ i < 2 ^ i := Nat.mod_lt _ (Nat.two_pow_pos i)
  have upTo : 2 ^ i * ofBool b + v % 2 ^ i < 2 ^ (i + 1) := by
    cases b <;> simp only [ofBool, cond_true, cond_false, pow_succ] <;> omega
  rw [bit, parts, Nat.testBit_two_pow_mul_add _ upTo, Nat.testBit_two_pow_mul_add _ below, bit]
  rcases Nat.lt_trichotomy j i with h | rfl | h
  · simp [h, h.ne, Nat.lt_succ_of_lt h]
  · cases b <;> simp [ofBool]
  · simp [h.ne', Nat.not_lt.2 (Nat.succ_le_of_lt h), Nat.testBit_div_two_pow, Nat.sub_add_cancel (Nat.succ_le_of_lt h)]

/-- A position is read from its 64-bit form as it was packed (R17). -/
theorem Spos.ofNat_pack (p : Spos) : Spos.ofNat p.pack = p := by
  obtain ⟨frame, line, frac⟩ := p
  have hline := line.isLt
  have hfrac := frac.isLt
  simp only [Spos.ofNat, Spos.pack, Spos.mk.injEq]
  refine ⟨?_, ?_, ?_⟩ <;> apply BitVec.eq_of_toNat_eq <;> simp only [BitVec.toNat_ofNat] <;> omega

namespace State

/-! ## Answers and writes -/

@[simp] theorem answered_answer (s : State) (rq : Requester) (st : Nat) : (s.answer rq st).answered rq st = true := by
  simp [answered, answer, emit]

/-- A write of an object with a command of its own, which passes the checks before the object's, is answered as the object says. -/
theorem ownRequest_answers {s t : State} {rq : Requester} {addr v st : Nat} {own : State → Nat × State} (ha : s.accepts rq addr v = true)
    (hw : own s = (st, t)) (hl : st ≠ Status.ownerLocked) : (.next (s.ownRequest rq addr v own) : Out) = .next (t.answer rq st) := by
  rw [ownRequest_accepted s rq addr v own ha (by rw [hw]; exact hl), hw]

/-! ## SPK_STATUS (R53) -/

theorem spk_wr_other (s : State) (a v b : Nat) (h : a ≠ Obj.SPK_STATUS) : (s.wr a v).spk b = s.spk b := by
  rw [spk, rd_wr_other _ _ _ _ h.symm, spk]

theorem spk_count_other (s : State) (a b : Nat) (h : a ≠ Obj.SPK_STATUS) : (s.count a).spk b = s.spk b := spk_wr_other _ _ _ _ h

theorem spk_wrBit (s : State) (i b : Nat) (on : Bool) : (s.wrBit Obj.SPK_STATUS i on).spk b = if b = i then on else s.spk b := by
  rw [spk, rd_wrBit, if_pos rfl, bit_setBit, spk]

theorem spk_setCoasting (s : State) (on : Bool) (b : Nat) :
    (s.setCoasting on).spk b = if b = spkLocked then !on else if b = spkCoasting then on else s.spk b := by
  simp only [setCoasting, spk_wrBit]

theorem spk_logEvent (s : State) (code source : Nat) (ds : List Detail) (b : Nat) : (s.logEvent code source ds).spk b = s.spk b := by
  rw [spk, rd_logEvent _ _ _ _ _ (by decide), spk]

theorem rd_setCoasting (s : State) (on : Bool) (a : Nat) (h : a ≠ Obj.SPK_STATUS) : (s.setCoasting on).rd a = s.rd a := by
  simp only [setCoasting, rd_wrBit, if_neg h]

@[simp] theorem setCoasting_clock (s : State) (on : Bool) : (s.setCoasting on).clock = s.clock := rfl

/-! ## Lines and frames (R16, R20, R22) -/

theorem now_nextLine (s : State) (ps : Nat) : (s.nextLine ps).now = ⟨s.now.frame, s.now.line + 1, 0⟩ := rfl

theorem nextLine_frame (s : State) (ps : Nat) : { s.nextLine ps with clock := s.clock, dueSlots := s.dueSlots } = s := rfl

theorem endFrameCount_eq (s : State) : ∃ o, s.endFrameCount = { s with objs := o } := by
  unfold endFrameCount
  split <;> exact ⟨_, rfl⟩

/-- The counts when a frame ends that ran to `last` (R16, R22). -/
def framesCounted (s : State) (last : Spos) : State :=
  if last.frame = 0xFFFFFFFF then s.endFrameCount.count Obj.SPK_FRAME_EPOCH else s.endFrameCount

theorem framesCounted_eq (s : State) (last : Spos) : ∃ o, s.framesCounted last = { s with objs := o } := by
  obtain ⟨o, ho⟩ := endFrameCount_eq s
  rw [framesCounted, ho]
  split <;> exact ⟨_, rfl⟩

theorem rd_framesCounted (s : State) (last : Spos) (a : Nat) (h : a ≠ Obj.SPK_FRAME_EPOCH) :
    (s.framesCounted last).rd a = s.endFrameCount.rd a := by
  unfold framesCounted
  split
  · rw [rd_count, if_neg h]
  · rfl

theorem rd_newFrame_eq (s : State) (c : Clock) (last : Spos) (a : Nat) : (s.newFrame c last).rd a = (s.framesCounted last).rd a := rfl

/-- A new frame begins: no object but the counts of frames changes. -/
theorem rd_newFrame (s : State) (c : Clock) (last : Spos) (a : Nat) (hc : a ≠ Obj.SPK_COAST_FRAMES) (he : a ≠ Obj.SPK_FRAME_EPOCH) :
    (s.newFrame c last).rd a = s.rd a := by
  rw [rd_newFrame_eq, rd_framesCounted _ _ _ he, endFrameCount]
  split
  · rw [rd_count, if_neg hc]
  · rfl

/-- A coast frame that ends is counted once (R22). -/
theorem rd_newFrame_coastFrames (s : State) (c : Clock) (last : Spos) (h : s.clock.coastFrame = true) :
    (s.newFrame c last).rd Obj.SPK_COAST_FRAMES = wrapAdd 32 (s.rd Obj.SPK_COAST_FRAMES) 1 := by
  rw [rd_newFrame_eq, rd_framesCounted _ _ _ (by decide), endFrameCount, if_pos h, rd_count, if_pos rfl]

/-- Nothing but the clock, the slots that are due and objects changes. -/
theorem newFrame_frame (s : State) (c : Clock) (last : Spos) (due : List DueSlot) :
    { s.newFrame c last with clock := s.clock, dueSlots := due, objs := s.objs } = { s with dueSlots := due } := by
  obtain ⟨o, ho⟩ := framesCounted_eq s last
  have counted : s.newFrame c last =
      let c := { c with pos := ⟨last.frame + 1, 0, 0⟩, coastFrame := (s.framesCounted last).coasting }
      { ((s.framesCounted last).markJumped last c.ticks).markReached c with clock := c } := rfl
  rw [counted, ho]
  rfl

theorem now_nextFrame (s : State) (ps : Nat) : (s.nextFrame ps).now = ⟨s.now.frame + 1, 0, 0⟩ := rfl

theorem objectsBut_nextFrame (s : State) (ps : Nat) : s.objectsBut (s.nextFrame ps) [Obj.SPK_COAST_FRAMES, Obj.SPK_FRAME_EPOCH] := by
  intro a ha
  simp only [List.mem_cons, List.not_mem_nil, or_false, not_or] at ha
  exact rd_newFrame _ _ _ _ ha.1 ha.2

theorem rd_nextFrame_coastFrames (s : State) (ps : Nat) (h : s.clock.coastFrame = true) :
    (s.nextFrame ps).rd Obj.SPK_COAST_FRAMES = wrapAdd 32 (s.rd Obj.SPK_COAST_FRAMES) 1 := rd_newFrame_coastFrames _ _ _ h

theorem nextFrame_frame (s : State) (ps : Nat) :
    { s.nextFrame ps with clock := s.clock, dueSlots := s.dueSlots, objs := s.objs } = s := by
  unfold nextFrame
  exact newFrame_frame (s.markReached _) _ _ s.dueSlots

/-! ## The lead output and coasting (R12 to R14, R22) -/

@[simp] theorem now_coastStart (s : State) (cause : Nat) : (s.coastStart cause).now = s.now := by
  unfold coastStart now
  split <;> simp

@[simp] theorem dtime_coastStart (s : State) (cause : Nat) : (s.coastStart cause).dtime = s.dtime := by
  unfold coastStart dtime
  split <;> simp

theorem rd_coastStart (s : State) (cause a : Nat) (h : a ≠ Obj.SPK_STATUS) (hl : a ≠ Obj.LOG_LOST) : (s.coastStart cause).rd a = s.rd a := by
  unfold coastStart
  split
  · rfl
  · rw [rd_logEvent _ _ _ _ _ hl, rd_setCoasting _ _ _ h]; rfl

theorem coasting_coastStart (s : State) (cause : Nat) : (s.coastStart cause).coasting = true := by
  unfold coastStart
  split
  next h => exact h
  · rw [coasting, spk_logEvent, spk_setCoasting]; rfl

theorem spk_coastStart (s : State) (cause b : Nat) (hl : b ≠ spkLocked) (hc : b ≠ spkCoasting) : (s.coastStart cause).spk b = s.spk b := by
  unfold coastStart
  split
  · rfl
  · rw [spk_logEvent, spk_setCoasting, if_neg hl, if_neg hc]; rfl

/-- The range of SPK_LEAD_OUTPUT: an output, or 0xFF for the strap's (R12). -/
theorem rangeStatus_leadOutput (v : Nat) :
    rangeStatus Obj.SPK_LEAD_OUTPUT v = if v < 12 ∨ v = 0xFF then Status.ok else Status.ldpRange := by
  have row : ∃ r, rowAt Obj.SPK_LEAD_OUTPUT = some r ∧ r.accepts = .oneOf [0, 1, 2, 3, 4, 5, 6, 7, 8, 9, 0xA, 0xB, 0xFF] := ⟨_, rfl, rfl⟩
  obtain ⟨r, hr, ha⟩ := row
  have outputs : r.accepts.holds r.ty v = true ↔ v < 12 ∨ v = 0xFF := by
    simp only [ha, Accepts.holds, List.contains_iff_mem, List.mem_cons, List.not_mem_nil, or_false]
    omega
  simp only [rangeStatus, hr, outputs]

theorem writeLead_range (s : State) (v : Nat) (h : 12 ≤ v) (h' : v ≠ 0xFF) : s.writeLead v = (Status.ldpRange, s) := by
  have out : rangeStatus Obj.SPK_LEAD_OUTPUT v = Status.ldpRange := by
    rw [rangeStatus_leadOutput, if_neg (by omega)]
  simp [writeLead, out, show Status.ldpRange ≠ Status.ok by decide]

theorem writeLead_unfit (s : State) (v : Nat) (h : v < 12 ∨ v = 0xFF) (hu : s.leadUnfit (s.leadNamed v) = true) :
    s.writeLead v = (Status.leadUnfit, s) := by
  simp [writeLead, rangeStatus_leadOutput, h, hu]

/-- The lead that leads already is written and nothing follows. -/
theorem writeLead_same (s : State) (v : Nat) (h : v < 12 ∨ v = 0xFF) (hu : s.leadUnfit (s.leadNamed v) = false)
    (hn : s.leadNamed v = s.leadOutput) : s.writeLead v = (Status.ok, s.wr Obj.SPK_LEAD_OUTPUT v) := by
  rw [hn] at hu
  simp [writeLead, rangeStatus_leadOutput, h, hu, hn]

/-- The state after a change of lead: it is pending from then on, and Sprocket coasts (R14). -/
def leadChanging (s : State) (v : Nat) : State :=
  ((s.wr Obj.SPK_LEAD_OUTPUT v).wrBit Obj.SPK_STATUS spkLeadPending true).coastStart 3

theorem writeLead_change (s : State) (v : Nat) (h : v < 12 ∨ v = 0xFF) (hu : s.leadUnfit (s.leadNamed v) = false)
    (hn : s.leadNamed v ≠ s.leadOutput) : s.writeLead v = (Status.ok, s.leadChanging v) := by
  simp [writeLead, rangeStatus_leadOutput, h, hu, hn, leadChanging]

theorem objectsBut_wr (s : State) (a v : Nat) : s.objectsBut (s.wr a v) [a] :=
  fun _ hx => rd_wr_other _ _ _ _ (fun h => hx (List.mem_singleton.2 h))

theorem rd_leadChanging_lead (s : State) (v : Nat) : (s.leadChanging v).rd Obj.SPK_LEAD_OUTPUT = v := by
  rw [leadChanging, rd_coastStart _ _ _ (by decide) (by decide), rd_wrBit, if_neg (by decide), rd_wr_same]

theorem spk_leadChanging_pending (s : State) (v : Nat) : (s.leadChanging v).spk spkLeadPending = true := by
  rw [leadChanging, spk_coastStart _ _ _ (by decide) (by decide), spk_wrBit, if_pos rfl]

theorem objectsBut_leadChanging (s : State) (v : Nat) :
    s.objectsBut (s.leadChanging v) [Obj.SPK_LEAD_OUTPUT, Obj.SPK_STATUS, Obj.LOG_LOST] := by
  intro a ha
  simp only [List.mem_cons, List.not_mem_nil, or_false, not_or] at ha
  obtain ⟨hlead, hstatus, hlost⟩ := ha
  rw [leadChanging, rd_coastStart _ _ _ hstatus hlost, rd_wrBit, if_neg hstatus, rd_wr_other _ _ _ _ hlead]

/-! ## The re-lock (R23 to R26) -/

theorem spk_newFrame (s : State) (c : Clock) (last : Spos) (b : Nat) : (s.newFrame c last).spk b = s.spk b := by
  rw [spk, rd_newFrame _ _ _ _ (by decide) (by decide), spk]

/-- The re-lock leaves LOCKED and COASTING as it sets them, though it clears LEAD_CHANGE_PENDING and may set SHORT_COAST after that. -/
theorem spk_relock (s : State) (b : Nat) (hp : b ≠ spkLeadPending) (hs : b ≠ spkShortCoast) : s.relock.spk b = (s.setCoasting false).spk b := by
  unfold relock
  dsimp only
  rw [spk_logEvent, spk_wr_other _ _ _ _ (by decide), spk_count_other _ _ _ (by decide), spk_newFrame]
  split
  · rw [spk_wrBit, if_neg hs, spk_wrBit, if_neg hp]
  · rw [spk_wrBit, if_neg hp]

theorem now_relock (s : State) : s.relock.now = ⟨s.now.frame + 1, 0, 0⟩ := by
  unfold relock
  dsimp only
  rw [now, logEvent_clock]
  rfl

theorem rd_relock_lastRelock (s : State) : s.relock.rd Obj.SPK_LAST_RELOCK = s.relock.now.pack := by
  rw [now_relock]
  unfold relock
  dsimp only
  rw [rd_logEvent _ _ _ _ _ (by decide), rd_wr_same]
  rfl

theorem rd_relock_relockCount (s : State) : s.relock.rd Obj.SPK_RELOCK_COUNT = wrapAdd 32 (s.rd Obj.SPK_RELOCK_COUNT) 1 := by
  unfold relock
  dsimp only
  rw [rd_logEvent _ _ _ _ _ (by decide), rd_wr_other _ _ _ _ (by decide), rd_count, if_pos rfl, rd_newFrame _ _ _ _ (by decide) (by decide)]
  congr 1
  split <;> simp only [rd_wrBit, rd_setCoasting _ _ _ (show Obj.SPK_RELOCK_COUNT ≠ Obj.SPK_STATUS by decide)] <;> rfl

/-! ## Slots and Sprocket

The objects of the slots lie above those of Sprocket and device time (R52, R54), so that what Gaffer does with the slots of its
guards changes none of these. -/

/-- The clock, and the objects below those of the slots, are as they were. -/
def SameSprocket (s t : State) : Prop := t.clock = s.clock ∧ ∀ a, a < Obj.SLOT_POSITION 0 → t.rd a = s.rd a

namespace SameSprocket

variable {s t u : State}

theorem refl (s : State) : SameSprocket s s := ⟨rfl, fun _ _ => rfl⟩

theorem trans (h : SameSprocket s t) (h' : SameSprocket t u) : SameSprocket s u :=
  ⟨h'.1.trans h.1, fun a ha => (h'.2 a ha).trans (h.2 a ha)⟩

theorem ite (c : Prop) [Decidable c] (h : SameSprocket s t) (h' : SameSprocket s u) : SameSprocket s (if c then t else u) := by
  split
  · exact h
  · exact h'

theorem of_fields (hc : t.clock = s.clock) (ho : t.objs = s.objs) : SameSprocket s t :=
  ⟨hc, fun a _ => by rw [rd, ho, rd]⟩

theorem wr (s : State) (a v : Nat) (h : Obj.SLOT_POSITION 0 ≤ a) : SameSprocket s (s.wr a v) :=
  ⟨rfl, fun x hx => rd_wr_other _ _ _ _ (by omega)⟩

theorem logEvent (s : State) (code source : Nat) (ds : List Detail) : SameSprocket s (s.logEvent code source ds) :=
  ⟨logEvent_clock .., fun a ha => rd_logEvent _ _ _ _ _ (by rintro rfl; revert ha; decide)⟩

theorem each {α : Type} (s : State) (l : List α) (f : State → α → State) (hf : ∀ t x, SameSprocket t (f t x)) :
    SameSprocket s (s.each l f) :=
  State.each_keeps (SameSprocket s) l f s (fun t x h => h.trans (hf t x)) (refl s)

theorem modOut (s : State) (k : Nat) (f : Output → Output) : SameSprocket s (s.modOut k f) := of_fields rfl rfl

theorem guards (s : State) (gs : List Guard) : SameSprocket s { s with guards := gs } := of_fields rfl rfl

theorem dueSlots (s : State) (ds : List DueSlot) : SameSprocket s { s with dueSlots := ds } := of_fields rfl rfl

/-- A write of SLOT_CONTROL writes no object but the slot's CONTROL and STATE. -/
theorem writeSlotControl (s : State) (n v : Nat) : SameSprocket s (s.writeSlotControl n v).2 := by
  have control : ∀ m, SameSprocket s (s.wr (Obj.SLOT_CONTROL n) m) := fun m =>
    wr s _ m (by simp only [Obj.SLOT_POSITION, Obj.SLOT_CONTROL]; omega)
  have state : ∀ m x, SameSprocket s ((s.wr (Obj.SLOT_CONTROL n) m).wr (Obj.SLOT_STATE n) x) := fun m x =>
    (control m).trans (wr _ _ x (by simp only [Obj.SLOT_POSITION, Obj.SLOT_STATE]; omega))
  unfold State.writeSlotControl
  dsimp only
  split
  · split
    · exact refl s
    · split
      · exact (state _ _).trans (dueSlots _ _)
      · exact (state _ _).trans (dueSlots _ _)
  · split
    · exact (state _ _).trans (dueSlots _ _)
    · exact control _

theorem armFor (s : State) (n owner action arg pos ctl : Nat) : SameSprocket s (s.armFor n owner action arg pos ctl).2 := by
  have fields : SameSprocket s
      ((((s.wr (Obj.SLOT_POSITION n) pos).wr (Obj.SLOT_ACTION n) action).wr (Obj.SLOT_ARG n) arg).wr (Obj.SLOT_OWNER n) owner) := by
    refine (((wr s _ _ ?_).trans (wr _ _ _ ?_)).trans (wr _ _ _ ?_)).trans (wr _ _ _ ?_) <;>
      simp only [Obj.SLOT_POSITION, Obj.SLOT_ACTION, Obj.SLOT_ARG, Obj.SLOT_OWNER] <;> omega
  unfold State.armFor
  dsimp only
  split
  · exact fields.trans (writeSlotControl _ _ _)
  · exact refl s

theorem dropSlot (s : State) (n : Nat) : SameSprocket s (s.dropSlot n) := by
  unfold State.dropSlot
  split
  · exact refl s
  · exact writeSlotControl _ _ _

theorem dropSlots (s : State) (l : List Guard) : SameSprocket s (s.each l (fun s g => s.dropSlot g.slot)) :=
  each s l _ (fun t g => dropSlot t g.slot)

theorem armVictim (s : State) (k : Nat) (pos : Spos) (i : Nat) : SameSprocket s (s.armVictim k pos i) := by
  unfold State.armVictim
  split
  · exact ite _ ((guards s _).trans ((writeSlotControl _ _ _).trans (armFor ..))) (guards s _)
  · split
    · exact refl s
    · dsimp only
      split
      · exact (armFor ..).trans (guards _ _)
      · exact armFor ..

theorem reconsider (s : State) (k : Nat) : SameSprocket s (s.reconsider k) := by
  unfold State.reconsider
  split
  · exact refl s
  · split
    · exact refl s
    · exact ite _ ((guards s _).trans (dropSlots _ _)) (((guards s _).trans (dropSlots _ _)).trans (each _ _ _ (fun t i => armVictim t k _ i)))

theorem skipGuard (s : State) (k : Nat) : SameSprocket s (s.skipGuard k) := by
  unfold State.skipGuard
  exact ite _ (of_fields rfl rfl) ((modOut s k _).trans (logEvent ..))

/-- Guards armed again at a re-lock leave Sprocket as it is (R26). -/
theorem rearmGuards (s : State) : SameSprocket s s.rearmGuards := by
  refine each s _ _ (fun s k => ?_)
  split
  · exact refl s
  · split
    · exact refl s
    · exact ite _ (((guards s _).trans (dropSlots _ _)).trans (skipGuard _ k)) (((guards s _).trans (dropSlots _ _)).trans (reconsider _ k))

end SameSprocket

/-! ## Arming and disarming (R48, R49) -/

/-- Software writes ARM, FIRE_IF_PAST and REPEAT of a slot's control (R54). -/
theorem bit_merged_slotControl (s : State) (n v i : Nat) (hn : n < 256) (hi : i < 3) : bit (s.merged (Obj.SLOT_CONTROL n) v) i = bit v i := by
  have rows : ∀ n : Fin 256, (rowAt (Obj.SLOT_CONTROL n)).map ObjRow.accepts = some (.bits 7 0x18) := by decide +kernel
  obtain ⟨r, hr, ha⟩ := Option.map_eq_some_iff.1 (rows ⟨n, hn⟩)
  have masks : ∀ i : Fin 3, Nat.testBit (2 ^ 32 - 1 - (7 ||| 0x18)) i = false ∧ Nat.testBit 7 i = true ∧ Nat.testBit 0x18 i = false := by decide
  obtain ⟨hkeep, hrw, hclear⟩ := masks ⟨i, hi⟩
  simp only [merged, hr, mergeWrite, ha, bit, Nat.testBit_or, Nat.testBit_and, hkeep, hrw, hclear, Bool.and_false, Bool.false_and,
    Bool.and_true, Bool.false_or, Bool.or_false]

theorem slotPos_wr_other (s : State) (n a v : Nat) (h : a ≠ Obj.SLOT_POSITION n) : (s.wr a v).slotPos n = s.slotPos n := by
  rw [slotPos, rd_wr_other _ _ _ _ h.symm, slotPos]

/-- Where the objects of one slot lie to each other, and that LOG_LOST is none of them. -/
theorem slot_addresses (n : Nat) : Obj.SLOT_CONTROL n = Obj.SLOT_POSITION n + 4 ∧ Obj.SLOT_STATE n = Obj.SLOT_POSITION n + 5 ∧
    Obj.SLOT_LAST_FIRE n = Obj.SLOT_POSITION n + 6 ∧ Obj.SLOT_POSITION n % 256 = 1 ∧ Obj.LOG_LOST % 256 = 4 := by
  refine ⟨?_, ?_, ?_, ?_, by decide⟩ <;> simp only [Obj.SLOT_CONTROL, Obj.SLOT_STATE, Obj.SLOT_LAST_FIRE, Obj.SLOT_POSITION] <;> omega

/-- The state with a slot's control written and its state set, as arming and disarming leave them. -/
def slotControlled (s : State) (n v st : Nat) : State :=
  (s.wr (Obj.SLOT_CONTROL n) (s.merged (Obj.SLOT_CONTROL n) v)).wr (Obj.SLOT_STATE n) st

theorem bit_slotControlled (s : State) (n v st i : Nat) (hn : n < 256) (hi : i < 3) :
    bit ((s.slotControlled n v st).rd (Obj.SLOT_CONTROL n)) i = bit v i := by
  obtain ⟨hcontrol, hstate, -⟩ := slot_addresses n
  rw [slotControlled, rd_wr_other _ _ _ _ (by omega), rd_wr_same, bit_merged_slotControl _ _ _ _ hn hi]

theorem rd_slotControlled_state (s : State) (n v st : Nat) : (s.slotControlled n v st).rd (Obj.SLOT_STATE n) = st := rd_wr_same ..

theorem objectsBut_slotControlled (s : State) (n v st : Nat) :
    s.objectsBut (s.slotControlled n v st) [Obj.SLOT_CONTROL n, Obj.SLOT_STATE n] := by
  intro a ha
  simp only [List.mem_cons, List.not_mem_nil, or_false, not_or] at ha
  rw [slotControlled, rd_wr_other _ _ _ _ ha.2, rd_wr_other _ _ _ _ ha.1]

theorem slotPos_slotControlled (s : State) (n v st : Nat) : (s.slotControlled n v st).slotPos n = s.slotPos n := by
  obtain ⟨hcontrol, hstate, -⟩ := slot_addresses n
  rw [slotControlled, slotPos_wr_other _ _ _ _ (by omega), slotPos_wr_other _ _ _ _ (by omega)]

theorem writeSlotControl_refused (s : State) (n v : Nat) (hv : bit v 0 = true) (ha : s.armed n = false)
    (h : s.armStatus n (ctlFireIfPast v) ≠ Status.ok) : s.writeSlotControl n v = (s.armStatus n (ctlFireIfPast v), s) := by
  simp [writeSlotControl, hv, ha, h]

/-- A slot that is armed is due at once where its position has passed, else when a position that has been reached says so (R45, R48). -/
theorem writeSlotControl_arms (s : State) (n v : Nat) (hv : bit v 0 = true) (ha : s.armed n = false)
    (h : s.armStatus n (ctlFireIfPast v) = Status.ok) :
    ∃ due, s.writeSlotControl n v = (Status.ok, { s.slotControlled n v slotArmed with dueSlots := s.dueSlots ++ due }) ∧
      ((s.slotPos n).earlier s.now = true → due = [⟨n, s.clock.ticks, false, true⟩]) := by
  have written : s.writeSlotControl n v =
      (if (s.slotPos n).earlier s.now then
        (Status.ok, { s.slotControlled n v slotArmed with dueSlots := s.dueSlots ++ [⟨n, s.clock.ticks, false, true⟩] })
      else (Status.ok, (s.slotControlled n v slotArmed).markReached s.clock)) := by
    rw [← slotPos_slotControlled s n v slotArmed]
    unfold writeSlotControl
    rw [if_pos (by simp [hv, ha]), if_neg (not_not.2 h)]
    rfl
  rw [written]
  split
  next past => exact ⟨_, rfl, fun _ => rfl⟩
  next ahead => exact ⟨_, rfl, fun past => absurd past ahead⟩

theorem writeSlotControl_disarms (s : State) (n v : Nat) (hv : bit v 0 = false) (ha : s.armed n = true) :
    s.writeSlotControl n v =
      (Status.ok, { s.slotControlled n v slotIdle with dueSlots := s.dueSlots.filter (fun d => !decide (d.slot = n)) }) := by
  unfold writeSlotControl
  rw [if_neg (by simp [hv]), if_pos (by simp [hv, ha])]
  rfl

/-! ## Firing (R43 to R51) -/

/-- The state in which a slot's action is performed: the firing of this tick is recorded, and the slot is due no more (R45). -/
def firing (s : State) (n : Nat) : State :=
  { s with
    clock := { s.clock with lastFire := some s.clock.ticks }
    dueSlots := s.dueSlots.filter (fun x => !decide (x.slot = n)) }

/-- A slot that was reached in time fires in this tick when none has fired in it. -/
theorem fire_inTime (s : State) (n action : Nat) (act : State → Nat → State × Nat) (d : DueSlot) (hd : s.nextDue = some d) (hn : d.slot = n)
    (ha : s.rd (Obj.SLOT_ACTION n) = action) (hj : d.jumped = false) (hl : d.late = false) (ht : d.tick ≤ s.clock.ticks)
    (hf : s.clock.lastFire ≠ some s.clock.ticks) :
    s.fire n action act =
      ((act (s.firing n) (s.rd (Obj.SLOT_ARG n))).1.slotFiredWith d (act (s.firing n) (s.rd (Obj.SLOT_ARG n))).2).slotTally d action
        (act (s.firing n) (s.rd (Obj.SLOT_ARG n))).2 (s.rd (Obj.SLOT_OWNER n)) := by
  have next : ¬(d.slot ≠ n ∨ s.rd (Obj.SLOT_ACTION n) ≠ action) := by simp [hn, ha]
  have inTick : ¬(s.clock.lastFire = some s.clock.ticks ∨ s.clock.ticks < d.tick) := by simp [hf, ht]
  simp only [fire, hd, if_neg next, if_neg inTick, hj, hl, Bool.false_eq_true, if_false]
  rfl

theorem fire_other (s : State) (n action : Nat) (act : State → Nat → State × Nat) (d : DueSlot) (hd : s.nextDue = some d) (hn : d.slot ≠ n) :
    s.fire n action act = s := by
  simp [fire, hd, hn]

theorem fire_none (s : State) (n action : Nat) (act : State → Nat → State × Nat) (hd : s.nextDue = none) : s.fire n action act = s := by
  simp [fire, hd]

/-- What every count of Tally keeps, the counts of a firing keep (R51). -/
theorem slotTally_keeps (P : State → Prop) (hP : ∀ t g kind owner, P t → P (t.tallyCount g kind owner)) (s : State) (d : DueSlot)
    (a outcome owner : Nat) (h : P s) : P (s.slotTally d a outcome owner) := by
  have counted : ∀ (c : Prop) [Decidable c] (t : State) (kind : Nat), P t → P (if c then t.tallyCount 0 kind owner else t) := by
    intro c _ t kind ht
    split
    · exact hP _ _ _ _ ht
    · exact ht
  exact counted _ _ _ (counted _ _ _ (counted _ _ _ (counted _ _ _ (hP _ _ _ _ h))))

@[simp] theorem apart_slotTally (s : State) (d : DueSlot) (a outcome owner : Nat) : (s.slotTally d a outcome owner).apart = s.apart :=
  slotTally_keeps (fun t => t.apart = s.apart) (fun t g kind o h => (apart_tallyCount t g kind o).trans h) s d a outcome owner rfl

theorem rd_slotTally (s : State) (d : DueSlot) (a outcome owner x : Nat) (hx : x ≠ Obj.LOG_LOST) :
    (s.slotTally d a outcome owner).rd x = s.rd x :=
  slotTally_keeps (fun t => t.rd x = s.rd x) (fun t g kind o h => (rd_tallyCount t g kind o x hx).trans h) s d a outcome owner rfl

/-- The state and the position of a firing, as they are recorded before the slot's control (R46). -/
def fireRecorded (s : State) (n outcome : Nat) : State := (s.wr (Obj.SLOT_STATE n) outcome).wr (Obj.SLOT_LAST_FIRE n) s.now.pack

/-- A firing records its outcome and position, and then writes the slot's control, with REPEAT its position too (R50). -/
theorem slotFiredWith_cases (s : State) (d : DueSlot) (outcome : Nat) :
    ∃ ctl, s.slotFiredWith d outcome = (s.fireRecorded d.slot outcome).wr (Obj.SLOT_CONTROL d.slot) ctl ∨
      ∃ p, s.slotFiredWith d outcome = ((s.fireRecorded d.slot outcome).wr (Obj.SLOT_CONTROL d.slot) ctl).wr (Obj.SLOT_POSITION d.slot) p := by
  unfold slotFiredWith
  dsimp only
  generalize (if d.late = true then _ else _) = ctl
  by_cases repeats : ctlRepeat ctl = true
  · rw [if_pos repeats]
    exact ⟨_, Or.inr ⟨_, rfl⟩⟩
  · rw [if_neg repeats]
    exact ⟨_, Or.inl rfl⟩

theorem rd_fireRecorded_other (s : State) (n outcome a : Nat) (hs : a ≠ Obj.SLOT_STATE n) (hf : a ≠ Obj.SLOT_LAST_FIRE n) :
    (s.fireRecorded n outcome).rd a = s.rd a := by
  rw [fireRecorded, rd_wr_other _ _ _ _ hf, rd_wr_other _ _ _ _ hs]

/-- What a firing has recorded its control and position do not touch. -/
theorem rd_slotFiredWith (s : State) (d : DueSlot) (outcome a : Nat) (hc : a ≠ Obj.SLOT_CONTROL d.slot) (hp : a ≠ Obj.SLOT_POSITION d.slot) :
    (s.slotFiredWith d outcome).rd a = (s.fireRecorded d.slot outcome).rd a := by
  obtain ⟨ctl, h | ⟨p, h⟩⟩ := slotFiredWith_cases s d outcome <;> rw [h]
  · rw [rd_wr_other _ _ _ _ hc]
  · rw [rd_wr_other _ _ _ _ hp, rd_wr_other _ _ _ _ hc]

theorem rd_slotFiredWith_state (s : State) (d : DueSlot) (outcome : Nat) : (s.slotFiredWith d outcome).rd (Obj.SLOT_STATE d.slot) = outcome := by
  obtain ⟨hcontrol, hstate, hfire, -⟩ := slot_addresses d.slot
  rw [rd_slotFiredWith _ _ _ _ (by omega) (by omega), fireRecorded, rd_wr_other _ _ _ _ (by omega), rd_wr_same]

theorem rd_slotFiredWith_lastFire (s : State) (d : DueSlot) (outcome : Nat) :
    (s.slotFiredWith d outcome).rd (Obj.SLOT_LAST_FIRE d.slot) = s.now.pack := by
  obtain ⟨hcontrol, hstate, hfire, -⟩ := slot_addresses d.slot
  rw [rd_slotFiredWith _ _ _ _ (by omega) (by omega), fireRecorded, rd_wr_same]

@[simp] theorem apart_slotFiredWith (s : State) (d : DueSlot) (outcome : Nat) : (s.slotFiredWith d outcome).apart = s.apart := by
  obtain ⟨ctl, h | ⟨p, h⟩⟩ := slotFiredWith_cases s d outcome <;> rw [h, fireRecorded]
  · rw [apart_wr, apart_wr, apart_wr]
  · rw [apart_wr, apart_wr, apart_wr, apart_wr]

/-- A slot that fires in time without REPEAT is disarmed (R50). -/
theorem armed_slotFiredWith_once (s : State) (d : DueSlot) (outcome : Nat) (hj : d.jumped = false) (hl : d.late = false)
    (hr : ctlRepeat (s.rd (Obj.SLOT_CONTROL d.slot)) = false) : (s.slotFiredWith d outcome).armed d.slot = false := by
  have fired : s.slotFiredWith d outcome =
      (s.fireRecorded d.slot outcome).wr (Obj.SLOT_CONTROL d.slot) (setBit (s.rd (Obj.SLOT_CONTROL d.slot)) 0 false) := by
    simp only [slotFiredWith, hj, hl, hr, Bool.false_eq_true, if_false]
    rfl
  rw [armed, fired, rd_wr_same, bit_setBit, if_pos rfl]

/-- One with REPEAT is set for the same place in the next frame (R50). -/
theorem slotPos_slotFiredWith_repeat (s : State) (d : DueSlot) (outcome : Nat) (hj : d.jumped = false) (hl : d.late = false)
    (hr : ctlRepeat (s.rd (Obj.SLOT_CONTROL d.slot)) = true) :
    (s.slotFiredWith d outcome).slotPos d.slot = { s.slotPos d.slot with frame := (s.slotPos d.slot).frame + 1 } := by
  have fired : s.slotFiredWith d outcome =
      ((s.fireRecorded d.slot outcome).wr (Obj.SLOT_CONTROL d.slot) (s.rd (Obj.SLOT_CONTROL d.slot))).wr (Obj.SLOT_POSITION d.slot)
        (Spos.pack { s.slotPos d.slot with frame := (s.slotPos d.slot).frame + 1 }) := by
    simp only [slotFiredWith, hj, hl, hr, Bool.or_self, Bool.false_eq_true, if_false, if_true]
    rfl
  rw [slotPos, fired, rd_wr_same, Spos.ofNat_pack]

/-! ## Device time (R30 to R34) -/

/-- Device time gains the 2 ns of a tick while no correction is in force (R30, R32). -/
theorem dtime_pass_one (c : Clock) (hs : c.slew = 0) (h0 : 0 ≤ c.slewRest) (h1 : c.slewRest < 1000000) : (c.pass 1).dtime = c.dtime + 2 := by
  have rest : c.slewRest / 1000000 = 0 := Int.ediv_eq_zero_of_lt h0 h1
  simp [Clock.pass, hs, rest]

/-- A tick changes nothing but the clock and the slots that are due. -/
theorem tick_frame (s : State) : { s.tick with clock := s.clock, dueSlots := s.dueSlots } = s := by
  unfold tick
  dsimp only
  split <;> rfl

theorem tick_clock (s : State) :
    s.tick.clock = { s.clock.pass 1 with pos := { s.clock.pos with frac := s.tick.clock.pos.frac } } ∧
      (s.clock.stopped = true → s.tick.clock.pos = s.clock.pos) := by
  unfold tick
  dsimp only
  split
  next h => exact ⟨rfl, fun _ => rfl⟩
  next h => exact ⟨rfl, fun stopped => absurd stopped h⟩

/-- The state with the offset of a synchronisation message, and the state of synchronisation it leads to. -/
def synced (s : State) (offset : Int) : State :=
  let s := s.wr Obj.DTIME_OFFSET (ofSigned 64 offset)
  s.wr Obj.DTIME_SYNC_STATE (if s.rd Obj.DTIME_SYNC_STATE = 0 then 1 else 2)

theorem rd_synced_offset (s : State) (offset : Int) : (s.synced offset).rd Obj.DTIME_OFFSET = ofSigned 64 offset :=
  (rd_wr_other _ _ _ _ (by decide)).trans (rd_wr_same ..)

theorem rd_synced_state (s : State) (offset : Int) :
    (s.synced offset).rd Obj.DTIME_SYNC_STATE = if s.rd Obj.DTIME_SYNC_STATE = 0 then 1 else 2 := by
  rw [synced, rd_wr_same, rd_wr_other _ _ _ _ (by decide)]

theorem rd_synced_other (s : State) (offset : Int) (a : Nat) (ho : a ≠ Obj.DTIME_OFFSET) (hs : a ≠ Obj.DTIME_SYNC_STATE) :
    (s.synced offset).rd a = s.rd a := by
  rw [synced, rd_wr_other _ _ _ _ hs, rd_wr_other _ _ _ _ ho]

/-- The state after a message on the port of synchronisation, but for the record of a step: an offset beyond the threshold moves device time
forward, and the rate is held within DTIME_SLEW_LIMIT (R31, R32). -/
def disciplined (s : State) (offset ratePpm : Int) : State :=
  { s.synced offset with
    clock := { s.clock with
      dtime := s.clock.dtime + (if Int.ofNat (s.rd Obj.DTIME_STEP_THRESHOLD) < offset then offset.toNat else 0)
      slew := clampInt (-Int.ofNat (s.rd Obj.DTIME_SLEW_LIMIT)) (Int.ofNat (s.rd Obj.DTIME_SLEW_LIMIT)) ratePpm } }

/-- A step of device time is logged. -/
def stepLogged (s : State) (offset ratePpm : Int) : State :=
  if Int.ofNat (s.rd Obj.DTIME_STEP_THRESHOLD) < offset then (s.disciplined offset ratePpm).logEvent Ev.dtimeStep noOwner [d64 offset.toNat]
  else s.disciplined offset ratePpm

theorem stepLogged_clock (s : State) (offset ratePpm : Int) : (s.stepLogged offset ratePpm).clock = (s.disciplined offset ratePpm).clock := by
  unfold stepLogged
  split
  · exact logEvent_clock ..
  · rfl

theorem rd_stepLogged (s : State) (offset ratePpm : Int) (a : Nat) (h : a ≠ Obj.LOG_LOST) :
    (s.stepLogged offset ratePpm).rd a = (s.synced offset).rd a := by
  unfold stepLogged
  split
  · exact rd_logEvent _ _ _ _ _ h
  · rfl

end State

open State

/-! ## The commands

The lead's lines while Sprocket is locked and the lines of a coast (R20, R22), messages of synchronisation (R31), arming and
disarming (R48, R49), and a slot of NONE (R44). -/

theorem exec_leadLineStart_line (s : State) (ps : Nat) (hc : s.coasting = false) (hs : s.clock.stopped = false)
    (hl : s.clock.pos.line ≠ 0xFFFF) : exec (.leadLineStart ps false) s = .next (s.nextLine ps) := by
  show execLeadLineStart ps false s = _
  simp only [execLeadLineStart, hc, hs, decide_eq_false hl, Bool.or_self, Bool.false_eq_true, if_false]

theorem exec_leadLineStart_frame (s : State) (ps : Nat) (hc : s.coasting = false) (hs : s.clock.stopped = false) :
    exec (.leadLineStart ps true) s = .next (s.nextFrame ps) := by
  show execLeadLineStart ps true s = _
  simp [execLeadLineStart, hc, hs]

theorem exec_coastLineTick_line (s : State) (hc : s.coasting = true) (hs : s.clock.stopped = false)
    (hl : s.clock.pos.line.toNat + 1 < s.coastLines) : exec .coastLineTick s = .next (s.nextLine s.coastLinePs) := by
  show execCoastLineTick s = _
  simp [execCoastLineTick, hc, hs, Nat.not_le.2 hl]

theorem exec_coastLineTick_frame (s : State) (hc : s.coasting = true) (hs : s.clock.stopped = false)
    (hl : s.coastLines ≤ s.clock.pos.line.toNat + 1) : exec .coastLineTick s = .next (s.nextFrame s.coastLinePs) := by
  show execCoastLineTick s = _
  simp [execCoastLineTick, hc, hs, hl]

theorem execDtimeSyncMessage_onPort (s : State) (p : Fin 2) (offset ratePpm : Int) (hp : s.rd Obj.DTIME_SYNC_PORT = p.val + 1) :
    execDtimeSyncMessage p offset ratePpm s = .next (s.stepLogged offset ratePpm) := by
  have limit := rd_synced_other s offset Obj.DTIME_SLEW_LIMIT (by decide) (by decide)
  have threshold := rd_synced_other s offset Obj.DTIME_STEP_THRESHOLD (by decide) (by decide)
  rw [stepLogged, disciplined, ← limit, ← threshold]
  unfold execDtimeSyncMessage
  rw [if_neg (not_not.2 hp)]
  by_cases beyond : Int.ofNat ((s.synced offset).rd Obj.DTIME_STEP_THRESHOLD) < offset
  · simp only [if_pos beyond]
    exact if_pos beyond
  · simp only [if_neg beyond]
    exact if_neg beyond

theorem execDtimeSyncMessage_otherPort (s : State) (p : Fin 2) (offset ratePpm : Int) (hp : s.rd Obj.DTIME_SYNC_PORT ≠ p.val + 1) :
    execDtimeSyncMessage p offset ratePpm s = .next s := if_pos hp

/-- The control value that an arming writes: ARM, and the flags (R54). -/
theorem bits_armValue (past rep : Bool) : bit (1 + 2 * ofBool past + 4 * ofBool rep) 0 = true ∧
    ctlFireIfPast (1 + 2 * ofBool past + 4 * ofBool rep) = past ∧ ctlRepeat (1 + 2 * ofBool past + 4 * ofBool rep) = rep := by
  cases past <;> cases rep <;> decide

/-- A write of SLOT_CONTROL that sets or clears ARM: what the slot and the rest of the state hold after its answer. -/
theorem slotControlled_answered (s : State) (rq : Requester) (n v st : Nat) (due : List DueSlot) (hn : n < 256) :
    let t := ({ s.slotControlled n v st with dueSlots := due } : State).answer rq Status.ok
    (∀ i, i < 3 → bit (t.rd (Obj.SLOT_CONTROL n)) i = bit v i) ∧ t.rd (Obj.SLOT_STATE n) = st ∧ t.answered rq Status.ok ∧
      t.dueSlots = due ∧ s.objectsBut t [Obj.SLOT_CONTROL n, Obj.SLOT_STATE n] ∧ { t.apart with dueSlots := s.dueSlots } = s.apart :=
  ⟨fun _ hi => bit_slotControlled _ _ _ _ _ hn hi, rd_slotControlled_state _ _ _ _, answered_answer .., rfl,
    objectsBut_slotControlled _ _ _ _, rfl⟩

/-- A slot of NONE that fires in time: what it leaves (R44, R46, R50). -/
theorem noneAction_inTime (s : State) (n : Nat) (d : DueSlot) (hn : d.slot = n) (hj : d.jumped = false) (hl : d.late = false) (owner : Nat) :
    let t := ((s.firing n).slotFiredWith d slotNoEffect).slotTally d 0 slotNoEffect owner
    t.rd (Obj.SLOT_STATE n) = slotNoEffect ∧ t.rd (Obj.SLOT_LAST_FIRE n) = s.now.pack ∧
      (ctlRepeat (s.rd (Obj.SLOT_CONTROL n)) = false → t.armed n = false) ∧
      (ctlRepeat (s.rd (Obj.SLOT_CONTROL n)) = true → t.slotPos n = { s.slotPos n with frame := (s.slotPos n).frame + 1 }) ∧
      s.objectsBut t [Obj.SLOT_STATE n, Obj.SLOT_LAST_FIRE n, Obj.SLOT_CONTROL n, Obj.SLOT_POSITION n, Obj.LOG_LOST] := by
  subst hn
  obtain ⟨hcontrol, hstate, hfire, hposition, hlost⟩ := slot_addresses d.slot
  refine ⟨?_, ?_, fun hr => ?_, fun hr => ?_, fun a ha => ?_⟩
  · rw [rd_slotTally _ _ _ _ _ _ (by omega), rd_slotFiredWith_state]
  · rw [rd_slotTally _ _ _ _ _ _ (by omega), rd_slotFiredWith_lastFire]; rfl
  · rw [armed, rd_slotTally _ _ _ _ _ _ (by omega)]
    exact armed_slotFiredWith_once (s.firing d.slot) d _ hj hl hr
  · rw [slotPos, rd_slotTally _ _ _ _ _ _ (by omega)]
    exact slotPos_slotFiredWith_repeat (s.firing d.slot) d _ hj hl hr
  · simp only [List.mem_cons, List.not_mem_nil, or_false, not_or] at ha
    obtain ⟨hs, hf, hc, hp, hl⟩ := ha
    rw [rd_slotTally _ _ _ _ _ _ hl, rd_slotFiredWith _ _ _ _ hc hp, rd_fireRecorded_other _ _ _ _ hs hf]
    rfl

/-! ## The statements -/

/-- Settles O2: on an empty queue a step is a tick. -/
theorem emptyQueueTicks : Obligations.EmptyQueueTicks := by
  unfold Obligations.EmptyQueueTicks
  intro s hq
  obtain ⟨hclock, hstopped⟩ := tick_clock s
  refine ⟨s.tick, by simp [step, hq], ?_, fun hs h0 h1 => ?_, hstopped, ?_, ?_, tick_frame s⟩
  · rw [hclock]; rfl
  · rw [hclock]; exact dtime_pass_one s.clock hs h0 h1
  · rw [hclock]
  · rw [hclock]

/-- Settles O3: the object that power-on reset lists is RST_LAST_CAUSE, and the others read their defaults. -/
theorem resetValues : Obligations.ResetValues := by
  unfold Obligations.ResetValues
  have defaults : ∀ a, a ≠ Obj.RST_LAST_CAUSE → State.reset.rd a = defaultOf a := fun a ha => if_neg ha
  refine ⟨rfl, rfl, rfl, ?_, ?_, rfl, ?_, ?_, ?_, ?_, ?_, defaults, rfl, rfl, rfl, fun k => rfl⟩ <;> decide +kernel

/-- Settles O9: a line or a frame begins, and the write of the lead output ends in one of the four ways of `writeLead`. -/
theorem theLeadMovesThePosition : Obligations.TheLeadMovesThePosition := by
  unfold Obligations.TheLeadMovesThePosition
  refine ⟨fun s ps => ⟨fun hc hs hl => ?_, fun hc hs => ?_, fun hc hs hl => ?_, fun hc hs hl => ?_⟩,
    fun s rq v ha => ⟨fun h h' => ?_, fun h hu => ?_, fun h hu => ?_⟩⟩
  · exact ⟨_, exec_leadLineStart_line s ps hc hs hl, now_nextLine .., nextLine_frame ..⟩
  · exact ⟨_, exec_leadLineStart_frame s ps hc hs, now_nextFrame .., objectsBut_nextFrame _ _, nextFrame_frame ..⟩
  · exact ⟨_, exec_coastLineTick_line s hc hs hl, now_nextLine .., nextLine_frame ..⟩
  · exact ⟨_, exec_coastLineTick_frame s hc hs hl, now_nextFrame .., rd_nextFrame_coastFrames _ _, objectsBut_nextFrame _ _, nextFrame_frame ..⟩
  · exact ownRequest_answers ha (writeLead_range s v.val h h') (by decide)
  · exact ownRequest_answers ha (writeLead_unfit s v.val h hu) (by decide)
  · by_cases hn : s.leadNamed v.val = s.leadOutput
    · have kept : s.objectsBut ((s.wr Obj.SPK_LEAD_OUTPUT v.val).answer rq Status.ok) [Obj.SPK_LEAD_OUTPUT] := objectsBut_wr _ _ _
      exact ⟨_, ownRequest_answers ha (writeLead_same s v.val h hu hn) (by decide), rd_wr_same .., answered_answer .., rfl, rfl,
        fun h => absurd hn h, fun _ => ⟨rfl, kept⟩,
        fun a ha => kept a (fun h => List.ne_of_not_mem_cons ha (List.mem_singleton.1 h))⟩
    · exact ⟨_, ownRequest_answers ha (writeLead_change s v.val h hu hn) (by decide), rd_leadChanging_lead .., answered_answer ..,
        now_coastStart .., dtime_coastStart .., fun _ => ⟨coasting_coastStart .., spk_leadChanging_pending ..⟩, fun h => absurd h hn,
        objectsBut_leadChanging _ _⟩

/-- Settles O10: the re-lock sets them, and the guards armed after it leave Sprocket as it is. -/
theorem relockSetsStatusAndCounts : Obligations.RelockSetsStatusAndCounts := by
  unfold Obligations.RelockSetsStatusAndCounts
  intro s hc hl hs
  obtain ⟨hclock, hobjs⟩ := SameSprocket.rearmGuards s.relock
  have hspk : ∀ b, s.relock.rearmGuards.spk b = s.relock.spk b := fun b => by rw [spk, hobjs _ (by decide), spk]
  have hnow : s.relock.rearmGuards.now = s.relock.now := by rw [now, hclock, now]
  have again : execRelock s = .next s.relock.rearmGuards := by simp [execRelock, hc, hl, hs]
  refine ⟨s.relock.rearmGuards, again, ?_, ?_, ?_, ?_, ?_⟩
  · rw [coasting, hspk, spk_relock _ _ (by decide) (by decide), spk_setCoasting]; rfl
  · rw [hspk, spk_relock _ _ (by decide) (by decide), spk_setCoasting]; rfl
  · rw [hobjs _ (by decide), rd_relock_relockCount]
  · rw [hnow, now_relock]
  · rw [hnow, hobjs _ (by decide), rd_relock_lastRelock]

/-- Settles O11: nothing but DTIME_SYNC_STATE is written. -/
theorem syncLossHoldsOver : Obligations.SyncLossHoldsOver := by
  unfold Obligations.SyncLossHoldsOver
  intro s h
  have lost : s.syncLost = s.wr Obj.DTIME_SYNC_STATE 3 := if_pos h
  exact ⟨s.wr Obj.DTIME_SYNC_STATE 3, congrArg Host.Outcome.next lost, rd_wr_same .., rfl,
    objectsBut_wr _ _ _, rfl, rfl, rfl⟩

/-- Settles O12: a message on the port of synchronisation disciplines device time, and a step is logged. -/
theorem syncMessagesStepOrSlew : Obligations.SyncMessagesStepOrSlew := by
  unfold Obligations.SyncMessagesStepOrSlew
  refine fun s p off rate => ⟨fun hp => ?_, fun hp => execDtimeSyncMessage_otherPort s p off rate hp⟩
  have hclock := stepLogged_clock s off rate
  refine ⟨_, execDtimeSyncMessage_onPort s p off rate hp, ?_, ?_, ?_, ?_, ?_, fun a ha => ?_, fun beyond room => ?_⟩
  · rw [dtime, hclock]; rfl
  · rw [hclock]; rfl
  · rw [now, hclock]; rfl
  · rw [rd_stepLogged _ _ _ _ (by decide), rd_synced_offset]
  · rw [rd_stepLogged _ _ _ _ (by decide), rd_synced_state]
  · simp only [List.mem_cons, List.not_mem_nil, or_false, not_or] at ha
    obtain ⟨hoffset, hstate, hlost⟩ := ha
    rw [rd_stepLogged _ _ _ _ hlost, rd_synced_other _ _ _ hoffset hstate]
  · rw [stepLogged, if_pos beyond]
    exact told_logEvent _ _ _ _ room

/-- Settles O13: a write of SLOT_CONTROL arms or disarms, and a slot of NONE fires when it is the next one due. -/
theorem slotsArmAndFire : Obligations.SlotsArmAndFire := by
  unfold Obligations.SlotsArmAndFire
  refine ⟨fun s rq n past rep => ⟨fun hacc ha => ⟨fun hok => ?_, fun hno hlocked => ?_⟩, fun hacc ha => ?_⟩,
    fun s n d => ⟨fun hd hn hj hl hact ht hf => ?_, fun hd hn => ?_, fun hd => ?_⟩⟩
  · obtain ⟨harm, hpast, hrep⟩ := bits_armValue past rep
    obtain ⟨due, hwrite, hdue⟩ := writeSlotControl_arms s n.val _ harm ha (by rw [hpast]; exact hok)
    obtain ⟨hbits, hstate, hanswer, hslots, hobjs, hrest⟩ :=
      slotControlled_answered s rq n.val (1 + 2 * ofBool past + 4 * ofBool rep) slotArmed (s.dueSlots ++ due) n.isLt
    refine ⟨_, ownRequest_answers hacc hwrite (by decide), ?_, hstate, ?_, hanswer, fun earlier => ?_, hobjs, hrest⟩
    · rw [armed, hbits 0 (by decide), harm]
    · rw [ctlRepeat, hbits 2 (by decide)]; exact hrep
    · rw [hslots, hdue earlier]; exact List.mem_append_right _ (List.mem_singleton_self _)
  · obtain ⟨harm, hpast, -⟩ := bits_armValue past rep
    have hwrite := writeSlotControl_refused s n.val _ harm ha (by rw [hpast]; exact hno)
    rw [hpast] at hwrite
    exact ownRequest_answers hacc hwrite hlocked
  · have hwrite := writeSlotControl_disarms s n.val 0 (by decide) ha
    obtain ⟨hbits, hstate, hanswer, hslots, hobjs, hrest⟩ :=
      slotControlled_answered s rq n.val 0 slotIdle (s.dueSlots.filter (fun d => !decide (d.slot = n.val))) n.isLt
    refine ⟨_, ownRequest_answers hacc hwrite (by decide), ?_, hstate, hanswer, fun d hd => ?_, hobjs, hrest⟩
    · rw [armed, hbits 0 (by decide)]; rfl
    · rw [hslots] at hd
      simpa using (List.mem_filter.1 hd).2
  · obtain ⟨hstate, hlast, honce, hrepeat, hobjs⟩ := noneAction_inTime s n.val d hn hj hl (s.rd (Obj.SLOT_OWNER n.val))
    have hrest : (((s.firing n.val).slotFiredWith d slotNoEffect).slotTally d 0 slotNoEffect (s.rd (Obj.SLOT_OWNER n.val))).apart =
        (s.firing n.val).apart := by rw [apart_slotTally, apart_slotFiredWith]
    have fired := fire_inTime s n.val 0 (fun s _ => (s, slotNoEffect)) d hd hn hact hj hl ht hf
    refine ⟨_, congrArg Host.Outcome.next fired, hstate, hlast, fun x hx => ?_, ext_clock hrest, honce, hrepeat, hobjs, ?_⟩
    · rw [ext_dueSlots hrest] at hx
      simpa using (List.mem_filter.1 hx).2
    · rw [hrest]; rfl
  · exact congrArg Host.Outcome.next (fire_other s n.val 0 _ d hd hn)
  · exact congrArg Host.Outcome.next (fire_none s n.val 0 _ hd)

end Sys2Proof.Machine
end

section
/-!
SUPPORT. O15 and O17: the item that a descriptor command runs on, and its end (R307, R313). What a completion leaves alone, what becomes
of the items, and the record that it sends.
-/
namespace Sys2Proof.Machine
open Sys2Proof

namespace State

/-! ## The item a command runs on -/

theorem offers_iff (s : State) (o : Owner) (q : Fin 16) (type : Nat) (it : Item) : s.offers o q type it = true ↔
    s.nextItemOf o.code q.val type = some it ∧ s.item? it.id = some it ∧ it.injected = false ∧ (s.inst o.code).busOff = false := by
  simp [offers, and_assoc]

theorem owner_of_nextItemOf {s : State} {o q type : Nat} {it : Item} (h : s.nextItemOf o q type = some it) : it.owner = o := by
  unfold nextItemOf at h
  split at h
  · simp at h
  next first hfirst =>
    have hmem := List.mem_filter.1 (List.mem_of_head? hfirst)
    split at h
    · obtain rfl := Option.some.inj h
      exact (by simpa using hmem.2 : (first.owner = o ∧ _) ∧ _).1.1
    · simp at h

theorem onItem_eq {s : State} {o q type : Nat} {it : Item} (h : s.nextItemOf o q type = some it) (f : State → Item → State) :
    s.onItem o q type f = f (s.startItem it.id) it := by
  simp [onItem, h]

theorem onItemIf_eq {s : State} {o q type : Nat} {it : Item} (h : s.nextItemOf o q type = some it) (p : BitVec 512 → Bool) (hp : p it.desc = true)
    (f : State → Item → State) : s.onItemIf o q type p f = f (s.startItem it.id) it := by
  simp [onItemIf, h, hp]

theorem item?_congr {s t : State} (h : t.items = s.items) (id : Nat) : t.item? id = s.item? id := by
  rw [item?, item?, h]

theorem item?_startItem {s : State} {it : Item} (h : s.item? it.id = some it) :
    (s.startItem it.id).item? it.id = some { it with started := true } := by
  unfold item? startItem modItem at *
  dsimp only
  generalize s.items = items at *
  induction items with
  | nil => simp at h
  | cons e l ih =>
    by_cases he : e.id = it.id
    · obtain rfl : e = it := by simpa [he] using h
      simp
    · simpa [he] using ih (by simpa [he] using h)

/-! ## Completion (R313, R314) -/

/-- A record changes nothing but the instance whose ring takes it. -/
theorem writeRecord_frame (s : State) (it : Item) (status detail : Nat) (pos : Spos) (time : Nat) :
    { (s.writeRecord it status detail pos time).apart with insts := s.insts } = s.apart := by
  unfold writeRecord ioWrite
  dsimp only
  split
  · split
    · rfl
    · split <;> split <;> rfl
  · rfl

/-- What a change of an instance keeps of its bus mastering, it keeps of everyone's. -/
theorem busOff_setInst (s : State) (n o : Nat) (x : Inst) (h : x.busOff = (s.inst n).busOff) : ((s.setInst n x).inst o).busOff = (s.inst o).busOff := by
  unfold inst
  rw [setInst_insts, Tab.get_set]
  split
  next ho => rw [h, ho]; rfl
  · rfl

theorem busOff_congr {s t : State} (h : t.insts = s.insts) (o : Nat) : (t.inst o).busOff = (s.inst o).busOff := by
  rw [inst, inst, h]

@[simp] theorem inst_emit (s : State) (e : IoEvent) (o : Nat) : (s.emit e).inst o = s.inst o := rfl

@[simp] theorem busOff_ioWrite (s : State) (n addr k o : Nat) : ((s.ioWrite n addr k).inst o).busOff = (s.inst o).busOff := by
  unfold ioWrite
  split
  · exact busOff_setInst _ _ _ _ rfl
  · rfl

@[simp] theorem busOff_writeRecord (s : State) (it : Item) (status detail : Nat) (pos : Spos) (time o : Nat) :
    ((s.writeRecord it status detail pos time).inst o).busOff = (s.inst o).busOff := by
  unfold writeRecord
  dsimp only
  split
  · split
    · exact busOff_setInst _ _ _ _ rfl
    · split
      · rw [inst_emit, busOff_ioWrite, inst_emit]
        exact busOff_setInst _ _ _ _ rfl
      · rw [busOff_ioWrite, inst_emit]
        exact busOff_setInst _ _ _ _ rfl
  · rfl

/-- The items without one that has ended. -/
def withoutItem (s : State) (id : Nat) : State := { s with items := s.items.filter (fun i => !decide (i.id = id)) }

/-- An item that completes is an item no longer, and its record is written; the rest of its completion is only counted. -/
theorem completeAt_item {s : State} {id : Nat} {it : Item} (h : s.item? id = some it) (status detail : Nat) (pos : Spos) (time : Nat) :
    (s.completeAt id status detail pos time).apart = ((s.withoutItem id).writeRecord it status detail pos time).apart ∧
      (s.completeAt id status detail pos time).io = ((s.withoutItem id).writeRecord it status detail pos time).io := by
  unfold completeAt
  rw [h]
  dsimp only
  split
  · exact ⟨by simp only [apart_tallyCount, apart_count]; rfl, by simp only [io_tallyCount, count_io]; rfl⟩
  · exact ⟨by simp only [apart_tallyCount]; rfl, by simp only [io_tallyCount]; rfl⟩

theorem completeAt_noItem {s : State} {id : Nat} (h : s.item? id = none) (status detail : Nat) (pos : Spos) (time : Nat) :
    s.completeAt id status detail pos time = s := by
  rw [completeAt, h]

/-- A completion sends a record, and changes nothing but the items, the instances, objects, the log and the counts of Tally. -/
theorem completeAt_frame (s : State) (id status detail : Nat) (pos : Spos) (time : Nat) :
    { (s.completeAt id status detail pos time).apart with items := s.items, insts := s.insts } = s.apart := by
  cases h : s.item? id with
  | none => rw [completeAt_noItem h]; rfl
  | some it =>
    rw [(completeAt_item h status detail pos time).1]
    exact congrArg (fun t : State => { t with items := s.items }) (writeRecord_frame (s.withoutItem id) it status detail pos time)

@[simp] theorem completeAt_outs (s : State) (id status detail : Nat) (pos : Spos) (time : Nat) :
    (s.completeAt id status detail pos time).outs = s.outs := (congrArg State.outs (completeAt_frame ..) :)

@[simp] theorem completeAt_grip (s : State) (id status detail : Nat) (pos : Spos) (time : Nat) :
    (s.completeAt id status detail pos time).grip = s.grip := (congrArg State.grip (completeAt_frame ..) :)

@[simp] theorem completeAt_mem (s : State) (id status detail : Nat) (pos : Spos) (time : Nat) :
    (s.completeAt id status detail pos time).mem = s.mem := (congrArg State.mem (completeAt_frame ..) :)

@[simp] theorem writeRecord_items (s : State) (it : Item) (status detail : Nat) (pos : Spos) (time : Nat) :
    (s.writeRecord it status detail pos time).items = s.items := (congrArg State.items (writeRecord_frame ..) :)

theorem completeAt_items (s : State) (id status detail : Nat) (pos : Spos) (time : Nat) :
    (s.completeAt id status detail pos time).items = (s.withoutItem id).items := by
  cases h : s.item? id with
  | none =>
    rw [completeAt_noItem h, withoutItem]
    exact (List.filter_eq_self.2 fun i hi => by simpa using List.find?_eq_none.1 h i hi).symm
  | some it => rw [ext_items (completeAt_item h status detail pos time).1, writeRecord_items]

@[simp] theorem busOff_completeAt (s : State) (id status detail : Nat) (pos : Spos) (time o : Nat) :
    ((s.completeAt id status detail pos time).inst o).busOff = (s.inst o).busOff := by
  cases h : s.item? id with
  | none => rw [completeAt_noItem h]
  | some it => rw [busOff_congr (ext_insts (completeAt_item h status detail pos time).1), busOff_writeRecord]; rfl

/-- What has completed is an item no longer; every other item is as it was. -/
theorem item?_completeAt (s : State) (id status detail : Nat) (pos : Spos) (time id' : Nat) :
    (s.completeAt id status detail pos time).item? id' = if id' = id then none else s.item? id' := by
  rw [item?, completeAt_items, withoutItem, List.find?_filter]
  split
  next h => simp [h]
  next h =>
    refine congrArg (List.find? · s.items) (funext fun i => ?_)
    by_cases hi : i.id = id' <;> simp [hi, h]

@[simp] theorem ioWrite_io (s : State) (o addr n : Nat) : (s.ioWrite o addr n).io = s.io := by
  unfold ioWrite
  split <;> rfl

theorem recorded_of_mem {s : State} {it : Item} {status detail : Nat} (pos : Spos) (time : Nat) (phase : Bool)
    (h : IoEvent.completion ⟨it.owner, it.queue, dSeq it.desc, status, detail, pos, time, phase⟩ ∈ s.io) : s.recorded it status detail = true :=
  List.any_eq_true.2 ⟨_, h, by simp⟩

/-- The record of an item whose owner's records are written, and which no injection marks, holds its status and its detail (R313). -/
theorem recorded_writeRecord (s : State) (it : Item) (status detail : Nat) (pos : Spos) (time : Nat) (hi : it.injected = false)
    (hb : (s.inst it.owner).busOff = false) : (s.writeRecord it status detail pos time).recorded it status detail = true := by
  have hstatus : recordStatus it.injected status detail = (status, detail) := by simp [recordStatus, hi]
  unfold writeRecord
  rw [hstatus]
  dsimp only
  split
  · rw [if_neg (by simp [hb])]
    refine recorded_of_mem pos time (!bit (s.inst it.owner).crTail (field (s.inst it.owner).crConfig 4 0)) ?_
    split
    · rw [emit_io, ioWrite_io, emit_io]
      exact List.mem_cons_of_mem _ List.mem_cons_self
    · rw [ioWrite_io, emit_io]
      exact List.mem_cons_self
  · exact recorded_of_mem pos time true List.mem_cons_self

theorem recorded_completeAt {s : State} {id : Nat} {it : Item} (h : s.item? id = some it) (hi : it.injected = false)
    (hb : (s.inst it.owner).busOff = false) (status detail : Nat) (pos : Spos) (time : Nat) :
    (s.completeAt id status detail pos time).recorded it status detail = true := by
  rw [recorded, (completeAt_item h status detail pos time).2]
  exact recorded_writeRecord (s.withoutItem id) it status detail pos time hi hb

/-- An item that a command was offered completes: its record is sent, and it is an item no longer. -/
theorem complete_started {s : State} {o : Owner} {q : Fin 16} {type : Nat} {it : Item} (h : s.offers o q type it = true) (status detail : Nat) :
    ((s.startItem it.id).complete it.id status detail).recorded it status detail = true ∧
      ((s.startItem it.id).complete it.id status detail).item? it.id = none := by
  obtain ⟨hnext, hitem, hinj, hbus⟩ := (offers_iff ..).1 h
  refine ⟨recorded_completeAt (item?_startItem hitem) hinj ?_ status detail _ _, by rw [complete, item?_completeAt, if_pos rfl]⟩
  rw [owner_of_nextItemOf hnext]
  exact hbus

end State

end Sys2Proof.Machine
end

section
/-!
SUPPORT. O15, output intents: an intent that is taken can stop its output, and with that other outputs start, latch and compose. None of it ends an item that no
output holds (R74, R197). `State.ledger` is the part of the state on which the end of an item turns. Most operations on outputs leave it as it is, and get one
lemma each, in the model's order, that says so; the few that complete items or take commits and intents get theirs after them.
-/
namespace Sys2Proof.Machine
open Sys2Proof

/-- The items that an output's commits, pending, composed or shown, and its waiting intent stand for. -/
def Output.held (x : Output) : List Nat :=
  (x.pending ++ x.comps.flatMap Composition.commits ++ x.showing.toList.flatMap Composition.commits).map Commit.item
    ++ x.waitingIntent.toList.map Prod.fst

/-- Is something sent a completion record? -/
def IoEvent.isRecord : IoEvent → Bool
  | .completion _ => true
  | _ => false

/-- What the end of an item turns on: the items, whose bus mastering is off, the records sent, and each output's items and intents. -/
structure Ledger where
  items : List Item
  off : Nat → Bool
  records : List IoEvent
  held : Nat → List Nat
  intents : Nat → Option OutIntent × Option OutIntent

/-- The output keeps its items and its intents. -/
def Output.SameStake (x y : Output) : Prop := y.held = x.held ∧ y.intent = x.intent ∧ y.nextIntent = x.nextIntent

/-- A change of every value of a table, which leaves the default as it is. -/
theorem Tab.get_map {α : Type} (d : α) (f : α → α) (h : f d = d) (t : Tab α) (k : Nat) :
    Tab.get d (t.map fun e => (e.1, f e.2)) k = f (Tab.get d t k) := by
  induction t with
  | nil => exact h.symm
  | cons e t ih =>
    simp only [List.map_cons, Tab.get, ih]
    split <;> rfl

namespace State

/-- The ledger of a state. -/
def ledger (s : State) : Ledger :=
  ⟨s.items, fun o => (s.inst o).busOff, s.io.filter IoEvent.isRecord, fun k => (s.out k).held, fun k => ((s.out k).intent, (s.out k).nextIntent)⟩

/-! ## What the ledger tells -/

theorem item?_of_ledger {s t : State} (h : t.ledger = s.ledger) (id : Nat) : t.item? id = s.item? id :=
  item?_congr (congrArg Ledger.items h) id

theorem busOff_of_ledger {s t : State} (h : t.ledger = s.ledger) (o : Nat) : (t.inst o).busOff = (s.inst o).busOff :=
  congrFun (congrArg Ledger.off h) o

theorem held_of_ledger {s t : State} (h : t.ledger = s.ledger) (k : Nat) : (t.out k).held = (s.out k).held :=
  congrFun (congrArg Ledger.held h) k

theorem intents_of_ledger {s t : State} (h : t.ledger = s.ledger) (k : Nat) :
    (t.out k).intent = (s.out k).intent ∧ (t.out k).nextIntent = (s.out k).nextIntent :=
  Prod.mk.inj (congrFun (congrArg Ledger.intents h) k)

theorem recorded_of_ledger {s t : State} (h : t.ledger = s.ledger) (it : Item) (status detail : Nat) :
    t.recorded it status detail = s.recorded it status detail := by
  have records (u : State) : u.recorded it status detail = (u.ledger.records).any (fun e => match e with
      | .completion c => decide (c.owner = it.owner) && decide (c.queue = it.queue) && decide (c.tag = dSeq it.desc) && decide (c.status = status)
          && decide (c.detail = detail)
      | _ => false) := by
    rw [ledger, List.any_filter]
    exact congrArg (u.io.any ·) (funext fun e => by cases e <;> rfl)
  rw [records, records, h]

/-! ## Outputs -/

theorem out_setOut (s : State) (k j : Nat) (x : Output) : (s.setOut k x).out j = if j = k then x else s.out j :=
  Tab.get_set _ _ _ _ _

theorem ledger_ext {s t : State} (hitems : t.items = s.items) (hoff : ∀ o, (t.inst o).busOff = (s.inst o).busOff)
    (hio : t.io.filter IoEvent.isRecord = s.io.filter IoEvent.isRecord) (hheld : ∀ k, (t.out k).held = (s.out k).held)
    (hint : ∀ k, (t.out k).intent = (s.out k).intent ∧ (t.out k).nextIntent = (s.out k).nextIntent) : t.ledger = s.ledger := by
  simp only [ledger, Ledger.mk.injEq]
  exact ⟨hitems, funext hoff, hio, funext hheld, funext fun k => Prod.ext (hint k).1 (hint k).2⟩

theorem ledger_of_apart {s t : State} (h : t.apart = s.apart) (hio : t.io = s.io) : t.ledger = s.ledger := by
  have houts := ext_outs h
  exact ledger_ext (ext_items h) (busOff_congr (ext_insts h)) (by rw [hio]) (fun k => by rw [out, out, houts])
    (fun k => by rw [out, out, houts]; exact ⟨rfl, rfl⟩)

theorem ledger_setOut (s : State) (k : Nat) (x : Output) (h : (s.out k).SameStake x) : (s.setOut k x).ledger = s.ledger := by
  refine ledger_ext rfl (fun _ => rfl) rfl (fun j => ?_) (fun j => ?_) <;> rw [out_setOut] <;> split
  next hj => rw [hj, h.1]
  next => rfl
  next hj => rw [hj]; exact h.2
  next => exact ⟨rfl, rfl⟩

@[simp] theorem modOut_ledger (s : State) (k : Nat) (f : Output → Output) (h : ∀ x : Output, x.SameStake (f x)) : (s.modOut k f).ledger = s.ledger :=
  ledger_setOut s k _ (h _)

theorem out_mapOuts (s : State) (f : Output → Output) (h : f {} = {}) (k : Nat) :
    ({ s with outs := s.outs.map (fun e => (e.1, f e.2)) } : State).out k = f (s.out k) := Tab.get_map _ f h s.outs k

theorem inst_mapInsts (s : State) (f : Inst → Inst) (h : f {} = {}) (o : Nat) :
    ({ s with insts := s.insts.map (fun e => (e.1, f e.2)) } : State).inst o = f (s.inst o) := Tab.get_map _ f h s.insts o

/-- A switch to DRAM or its end only takes an output off the lists of those waited for. -/
def unawaited (s : State) (k : Nat) : State :=
  { s with outs := s.outs.map (fun e => (e.1, { e.2 with moving := e.2.moving.filter (fun x => !decide (x = k)) })) }

@[simp] theorem unawaited_ledger (s : State) (k : Nat) : (s.unawaited k).ledger = s.ledger := by
  have hout := out_mapOuts s (fun x => { x with moving := x.moving.filter (fun x => !decide (x = k)) }) rfl
  refine ledger_ext rfl (fun _ => rfl) rfl (fun j => ?_) (fun j => ?_)
  · exact (congrArg Output.held (hout j) :)
  · exact ⟨(congrArg Output.intent (hout j) :), (congrArg Output.nextIntent (hout j) :)⟩

/-! ## Choices and loops -/

@[simp] theorem ledger_ite (c : Prop) [Decidable c] (s t : State) : (if c then s else t).ledger = if c then s.ledger else t.ledger := apply_ite ..

theorem each_ledger {α : Type} (l : List α) (f : State → α → State) (s : State) (hf : ∀ t x, (f t x).ledger = t.ledger) :
    (s.each l f).ledger = s.ledger :=
  State.each_keeps (fun t => t.ledger = s.ledger) l f s (fun t x h => (hf t x).trans h) rfl

/-! ## The operations on the state -/

@[simp] theorem wr_ledger (s : State) (a v : Nat) : (s.wr a v).ledger = s.ledger := rfl
@[simp] theorem wrBit_ledger (s : State) (a i : Nat) (b : Bool) : (s.wrBit a i b).ledger = s.ledger := rfl
@[simp] theorem count_ledger (s : State) (a : Nat) : (s.count a).ledger = s.ledger := rfl
@[simp] theorem emitPort_ledger (s : State) (p what : Nat) : (s.emit (.port p what)).ledger = s.ledger := rfl
@[simp] theorem setBacking_ledger (s : State) (k : Nat) (b : Backing) : (s.setBacking k b).ledger = s.ledger := rfl
@[simp] theorem setSurf_ledger (s : State) (n : Nat) (x : Surface) : (s.setSurf n x).ledger = s.ledger := rfl
@[simp] theorem setUnit_ledger (s : State) (n : Nat) (u : Unit) : (s.setUnit n u).ledger = s.ledger := rfl
@[simp] theorem setPort_ledger (s : State) (p : Nat) (x : Port) : (s.setPort p x).ledger = s.ledger := rfl
@[simp] theorem setFront_ledger (s : State) (p : Nat) (x : FrontEnd) : (s.setFront p x).ledger = s.ledger := rfl
@[simp] theorem nextOrder_ledger (s : State) : s.nextOrder.2.ledger = s.ledger := rfl
@[simp] theorem unbindLayers_ledger (s : State) (e : Nat) : (s.unbindLayers e).ledger = s.ledger := rfl

@[simp] theorem logEvent_ledger (s : State) (code source : Nat) (ds : List Detail) : (s.logEvent code source ds).ledger = s.ledger :=
  ledger_of_apart (apart_logEvent ..) (io_logEvent ..)
@[simp] theorem logInjected_ledger (s : State) (code source : Nat) (i : Bool) (ds : List Detail) : (s.logInjected code source i ds).ledger = s.ledger :=
  ledger_of_apart (apart_logInjected ..) (io_logInjected ..)
@[simp] theorem inject_ledger (s : State) (d n : Nat) : (s.inject d n).2.ledger = s.ledger :=
  ledger_of_apart (apart_inject ..) (io_inject ..)

/-! ## Backing of outputs (R72 to R76) -/

@[simp] theorem evict_ledger (s : State) (n : Nat) : (s.evict n).ledger = s.ledger := by
  unfold evict
  dsimp only
  split
  · rfl
  · rw [logEvent_ledger, logEvent_ledger]
    rfl

@[simp] theorem evictUntil_ledger (s : State) (want : Nat) (l : List Nat) : (s.evictUntil want l).ledger = s.ledger := by
  induction l generalizing s with
  | nil => rfl
  | cons n l ih => simp [evictUntil, ih]

theorem movesRun_ledger (m m' : Moves) (needs : List Need) (l : List Mover) (h : m.run needs l = some m') : m'.s.ledger = m.s.ledger := by
  induction l generalizing m with
  | nil =>
    unfold Moves.run at h
    split at h
    · rw [← Option.some.inj h]
    · simp at h
  | cons c l ih =>
    unfold Moves.run at h
    dsimp only at h
    split at h
    · rw [← Option.some.inj h]
    · split at h
      · simp at h
      · split at h
        · simp at h
        · exact (ih _ h).trans (setBacking_ledger ..)

theorem backOutput_ledger {s t : State} {needs : List Need} {format priority latency : Nat} {next : Bool} {moved own : List Nat}
    (h : s.backOutput needs format priority latency next = some (t, moved, own)) : t.ledger = s.ledger := by
  unfold backOutput at h
  dsimp only at h
  split at h
  · simp at h
  next m hm =>
    split at h
    · simp at h
    · obtain rfl := (Prod.mk.inj (Option.some.inj h)).1
      refine (each_ledger _ _ _ fun t x => ?_).trans ((movesRun_ledger _ _ _ _ hm).trans (evictUntil_ledger ..))
      simp

@[simp] theorem markDramFed_ledger (s : State) (k : Nat) (b : Bool) : (s.markDramFed k b).ledger = s.ledger := rfl

@[simp] theorem switchDram_ledger (s : State) (k : Nat) : (s.switchDram k).ledger = s.ledger := by
  unfold switchDram
  dsimp only
  split
  · rfl
  · exact (unawaited_ledger _ k).trans (by simp)

@[simp] theorem returnEach_ledger (s : State) (l : List Nat) : (s.returnEach l).ledger = s.ledger := by
  induction l generalizing s with
  | nil => rfl
  | cons k l ih =>
    unfold returnEach
    dsimp only
    split
    · split <;> simp [ih]
    · exact ih s

@[simp] theorem reelReturn_ledger (s : State) : s.reelReturn.ledger = s.ledger := returnEach_ledger ..

@[simp] theorem leaveDram_ledger (s : State) (k : Nat) : (s.leaveDram k).ledger = s.ledger := by
  unfold leaveDram
  dsimp only
  split <;> simp

@[simp] theorem freeBacking_ledger (s : State) (k : Nat) : (s.freeBacking k).ledger = s.ledger := by
  have freed (u : State) (hu : u.ledger = s.ledger) : (u.unawaited k).ledger = s.ledger := (unawaited_ledger u k).trans hu
  unfold freeBacking
  dsimp only
  split
  · exact freed _ rfl
  · exact (logEvent_ledger ..).trans (freed _ rfl)

@[simp] theorem reassignBuffer_ledger (s : State) (k i : Nat) : (s.reassignBuffer k i).ledger = s.ledger := by
  unfold reassignBuffer
  dsimp only
  split <;> rfl

/-! ## Cut-overs, unit health and what latches with a frame (R76, R84, R89, R107, R122, R171) -/

@[simp] theorem cutover_ledger (s : State) (n : Nat) : (s.cutover n).ledger = s.ledger := by
  unfold cutover
  dsimp only
  split
  · rfl
  · simp

@[simp] theorem cutoverAtLatch_ledger (s : State) (k : Nat) : (s.cutoverAtLatch k).ledger = s.ledger :=
  each_ledger _ _ _ fun t _ => cutover_ledger t _

@[simp] theorem failUnit_ledger (s : State) (n : Nat) : (s.failUnit n).ledger = s.ledger := by
  simp [failUnit, setHealth]

@[simp] theorem latchCritRects_ledger (s : State) (k : Nat) : (s.latchCritRects k).ledger = s.ledger := by
  unfold latchCritRects
  dsimp only
  split
  · exact ledger_setOut _ _ _ ⟨rfl, rfl, rfl⟩
  · rfl

@[simp] theorem latchScanMode_ledger (s : State) (k : Nat) : (s.latchScanMode k).ledger = s.ledger := by
  unfold latchScanMode
  dsimp only
  split
  · rfl
  · split
    · rfl
    · rw [logEvent_ledger, wrBit_ledger]
      refine (ledger_setOut _ _ _ ?_).trans (wrBit_ledger ..)
      split <;> exact ⟨rfl, rfl, rfl⟩

@[simp] theorem markColour_ledger (s : State) (k : Nat) : (s.markColour k).ledger = s.ledger := rfl

@[simp] theorem latchColour_ledger (s : State) (k n : Nat) : (s.latchColour k n).ledger = s.ledger := by
  have taken (l : List (Nat × Nat)) (x : Output) (h : (s.out k).SameStake x) : (({ s with colourActive := l } : State).setOut k x).ledger = s.ledger :=
    ledger_setOut { s with colourActive := l } k x h
  have swapped (t : State) : (t.modOut k fun x => { x with swapAsked := none }).ledger = t.ledger := modOut_ledger _ _ _ fun _ => ⟨rfl, rfl, rfl⟩
  unfold latchColour
  dsimp only
  split
  · split
    · rw [logEvent_ledger, markColour_ledger, wr_ledger, swapped]
      exact taken _ _ ⟨rfl, rfl, rfl⟩
    · rw [markColour_ledger]
      exact taken _ _ ⟨rfl, rfl, rfl⟩
  · rw [markColour_ledger]
    exact taken _ _ ⟨rfl, rfl, rfl⟩

/-! ## Compositions and engines (R77, R78, R137 to R142) -/

@[simp] theorem idleEngine_ledger (s : State) (e : Nat) : (s.idleEngine e).ledger = s.ledger := by
  simp [idleEngine]

@[simp] theorem bindLayers_ledger (s : State) (k : Nat) (c : Composition) (half e : Nat) : (s.bindLayers k c half e).ledger = s.ledger := by
  unfold bindLayers
  refine (each_ledger _ _ _ fun t l => ?_).trans (unbindLayers_ledger s e)
  rfl

@[simp] theorem startEngine_ledger (s : State) (k : Nat) (c : Composition) (half e : Nat) : (s.startEngine k c half e).ledger = s.ledger := by
  simp [startEngine]

/-- A change of a composition that keeps its commits. -/
theorem modComp_ledger (s : State) (k id : Nat) (f : Composition → Composition) (h : ∀ c, (f c).commits = c.commits) :
    (s.modComp k id f).ledger = s.ledger := by
  have kept (c : Composition) : (if c.id = id then f c else c).commits = c.commits := by split <;> simp [h]
  refine modOut_ledger _ _ _ fun x => ⟨?_, rfl, rfl⟩
  simp only [Output.held, Option.toList_map, List.flatMap_map, kept]

@[simp] theorem assign_ledger (s : State) (k id half e : Nat) : (s.assign k id half e).ledger = s.ledger := by
  have bound : (s.modOut k fun x => { x with lastEngine := setAt x.lastEngine half e }).ledger = s.ledger := modOut_ledger _ _ _ fun _ => ⟨rfl, rfl, rfl⟩
  unfold assign
  dsimp only
  split
  · refine (startEngine_ledger ..).trans ((modComp_ledger _ _ _ _ fun c => ?_).trans bound)
    rfl
  · refine (modComp_ledger _ _ _ _ fun c => ?_).trans bound
    rfl

@[simp] theorem giveEngines_ledger (s : State) : s.giveEngines.ledger = s.ledger := by
  unfold giveEngines
  refine each_ledger _ _ _ fun t k => each_ledger _ _ _ fun t c => each_ledger _ _ _ fun t p => ?_
  split
  · rfl
  · split <;> simp

@[simp] theorem releaseSplit_ledger (s : State) (k : Nat) : (s.releaseSplit k).ledger = s.ledger := by
  unfold releaseSplit
  dsimp only
  split
  · rw [logEvent_ledger, idleEngine_ledger, unbindLayers_ledger]
    exact ledger_setOut _ _ _ ⟨rfl, rfl, rfl⟩
  · exact ledger_setOut _ _ _ ⟨rfl, rfl, rfl⟩

@[simp] theorem endSplit_ledger (s : State) : s.endSplit.2.ledger = s.ledger := by
  unfold endSplit
  split
  · rfl
  · split
    · exact modOut_ledger _ _ _ fun _ => ⟨rfl, rfl, rfl⟩
    · exact releaseSplit_ledger ..

/-- An output's engines change, and nothing of what it holds. -/
theorem modEngines_ledger (s : State) (k : Nat) (f : Output → List Nat) : (s.modOut k fun x => { x with lastEngine := f x }).ledger = s.ledger :=
  modOut_ledger _ _ _ fun _ => ⟨rfl, rfl, rfl⟩

@[simp] theorem bindHalf_ledger (s : State) (k half : Nat) : (s.bindHalf k half).ledger = s.ledger := by
  unfold bindHalf
  dsimp only
  split
  · rfl
  · split
    · simp [modEngines_ledger]
    · split
      · split <;> simp [modEngines_ledger]
      · simp [modEngines_ledger]

@[simp] theorem releaseEngines_ledger (s : State) (k : Nat) : (s.releaseEngines k).ledger = s.ledger := by
  unfold releaseEngines
  dsimp only
  rw [giveEngines_ledger]
  exact (each_ledger _ _ _ fun t e => by simp).trans (modOut_ledger _ _ _ fun _ => ⟨rfl, rfl, rfl⟩)

@[simp] theorem decideSplit_ledger (s : State) (k est : Nat) : (s.decideSplit k est).ledger = s.ledger := by
  unfold decideSplit
  extract_lets x thr period
  split
  · rfl
  · split
    · split <;> simp
    · split
      · rfl
      · split
        · rw [logEvent_ledger]
          exact ledger_setOut _ _ _ ⟨rfl, rfl, rfl⟩
        · simp

@[simp] theorem markSolid_ledger (s : State) (k : Nat) (ls : List (Nat × BitVec 512 × Nat)) : (s.markSolid k ls).ledger = s.ledger := by
  unfold markSolid
  split <;> simp

@[simp] theorem injectEngine_ledger (s : State) (k e : Nat) : (s.injectEngine k e).ledger = s.ledger := by
  unfold injectEngine
  dsimp only
  split <;> simp

theorem modInst_ledger (s : State) (n : Nat) (f : Inst → Inst) (h : ∀ x, (f x).busOff = x.busOff) : (s.modInst n f).ledger = s.ledger :=
  ledger_ext rfl (fun _ => busOff_setInst _ _ _ _ (h _)) rfl (fun _ => rfl) fun _ => ⟨rfl, rfl⟩

@[simp] theorem closeGuards_ledger (s : State) (f : Guard → Bool) : (s.closeGuards f).ledger = s.ledger := by
  unfold closeGuards
  dsimp only
  refine (each_ledger _ _ _ fun t g => ?_).trans rfl
  split
  · rfl
  · exact modInst_ledger _ _ _ fun _ => rfl

/-! ## Links and the raster (R20 to R25, R209, R215, R216, R235, R580) -/

@[simp] theorem setPs_ledger (s : State) (p b : Nat) (v : Bool) : (s.setPs p b v).ledger = s.ledger := rfl

@[simp] theorem startTraining_ledger (s : State) (p k : Nat) : (s.startTraining p k).ledger = s.ledger := by
  simp [startTraining, train]

@[simp] theorem stopLink_ledger (s : State) (p : Nat) : (s.stopLink p).ledger = s.ledger := by
  simp [stopLink]

@[simp] theorem setCoasting_ledger (s : State) (on : Bool) : (s.setCoasting on).ledger = s.ledger := rfl

@[simp] theorem coastIfLead_ledger (s : State) (k cause : Nat) : (s.coastIfLead k cause).ledger = s.ledger := by
  have clocked (c : Clock) : ({ s with clock := c } : State).ledger = s.ledger := rfl
  unfold coastIfLead coastStart
  simp only [ledger_ite, logEvent_ledger, setCoasting_ledger, clocked, ite_self]

@[simp] theorem enter_ledger (s : State) (k : Nat) (x : OutState) : (s.enter k x).ledger = s.ledger := by
  unfold enter
  rw [wr_ledger]
  exact modOut_ledger _ _ _ fun _ => ⟨rfl, rfl, rfl⟩

@[simp] theorem setTiming_ledger (s : State) (g : Nat) (i : OutIntent) : (s.setTiming g i).ledger = s.ledger :=
  each_ledger _ _ _ fun _ _ => rfl

@[simp] theorem latchMode_ledger (s : State) (g : Nat) : (s.latchMode g).ledger = s.ledger := by
  have set (b : Bool) : (s.modOut g fun x => { x with strict := b }).ledger = s.ledger := modOut_ledger _ _ _ fun _ => ⟨rfl, rfl, rfl⟩
  simp [latchMode, set]

@[simp] theorem latchReturn_ledger (s : State) (g : Nat) : (s.latchReturn g).ledger = s.ledger := by
  unfold latchReturn
  split
  · refine (each_ledger _ _ _ fun t k => leaveDram_ledger ..).trans (modOut_ledger _ _ _ fun x => ⟨?_, rfl, rfl⟩)
    simp only [Output.held, List.flatMap_map]
  · rfl

@[simp] theorem startPixel_ledger (s : State) (g : Nat) : (s.startPixel g).ledger = s.ledger := by
  unfold startPixel
  dsimp only
  refine (each_ledger _ _ _ fun t k => ?_).trans ?_
  · simp
  · split <;> simp

@[simp] theorem stopPixel_ledger (s : State) (k : Nat) : (s.stopPixel k).ledger = s.ledger := by
  unfold stopPixel idlePlls
  refine (each_ledger _ _ _ fun t p => ?_).trans (wr_ledger ..)
  split <;> simp

@[simp] theorem stopMember_ledger (s : State) (k named cause : Nat) (next : OutState) : (s.stopMember k named cause next).ledger = s.ledger := by
  unfold stopMember
  split <;> simp

theorem allocate_ledger {s t : State} {g : Nat} {i : OutIntent} (h : s.allocate g i = some t) : t.ledger = s.ledger := by
  unfold allocate at h
  dsimp only at h
  split at h
  · rw [← Option.some.inj h]
  · split at h
    · simp at h
    next hb =>
      obtain rfl := Option.some.inj h
      refine (modOut_ledger _ _ _ fun _ => ?_).trans ((each_ledger _ _ _ fun u k => ?_).trans (backOutput_ledger hb))
      · exact ⟨rfl, rfl, rfl⟩
      · simp

@[simp] theorem startOutput_ledger (s : State) (k : Nat) : (s.startOutput k).ledger = s.ledger := by
  unfold startOutput
  dsimp only
  split
  · split
    · rfl
    · split
      · simp
      · split
        · simp
        next h =>
          have ht := (allocate_ledger h).trans (setTiming_ledger ..)
          split
          · rw [logEvent_ledger]
            refine (each_ledger _ _ _ fun u p => setPs_ledger ..).trans ?_
            simpa using ht
          · simpa using ht
  · rfl

@[simp] theorem startAll_ledger (s : State) (g : Nat) : (s.startAll g).ledger = s.ledger := each_ledger _ _ _ fun t k => startOutput_ledger t k

@[simp] theorem cutScans_ledger (s : State) (k : Nat) (i : OutIntent) : (s.cutScans k i).ledger = s.ledger := by
  unfold cutScans
  refine each_ledger _ _ _ fun t p => ?_
  dsimp only
  split
  · rfl
  · simp

end State
end Sys2Proof.Machine
end

section
/-!
SUPPORT. O15, output intents, the second part: an item that no output holds stands through whatever a taken intent sets off, because only the items that outputs
hold are completed there (R74, R197).
-/
namespace Sys2Proof.Machine
open Sys2Proof

theorem Tab.get_default_or_mem {α : Type} (d : α) (t : Tab α) (k : Nat) : Tab.get d t k = d ∨ (k, Tab.get d t k) ∈ t := by
  induction t with
  | nil => exact .inl rfl
  | cons e t ih =>
    unfold Tab.get
    split
    next he => exact .inr (he ▸ List.mem_cons_self)
    · exact ih.imp id (List.mem_cons_of_mem _)

namespace State

/-- An item stands: it has not completed, its owner's records are written, and no output holds it. -/
structure Stands (s : State) (it : Item) : Prop where
  item : s.item? it.id = some it
  on : (s.inst it.owner).busOff = false
  unheld : ∀ k, it.id ∉ (s.out k).held

namespace Stands
variable {s t : State} {it : Item}

theorem of_ledger (h : s.Stands it) (hl : t.ledger = s.ledger) : t.Stands it :=
  ⟨(item?_of_ledger hl _).trans h.item, (busOff_of_ledger hl _).trans h.on, fun k => by rw [held_of_ledger hl]; exact h.unheld k⟩

theorem setOut (h : s.Stands it) (k : Nat) (x : Output) (hx : it.id ∉ x.held) : (s.setOut k x).Stands it := by
  refine ⟨h.item, h.on, fun j => ?_⟩
  rw [out_setOut]
  split
  · exact hx
  · exact h.unheld j

theorem modOut (h : s.Stands it) (k : Nat) (f : Output → Output) (hf : ∀ x : Output, it.id ∉ x.held → it.id ∉ (f x).held) :
    (s.modOut k f).Stands it :=
  h.setOut k _ (hf _ (h.unheld k))

theorem completeAt (h : s.Stands it) (id status detail : Nat) (pos : Spos) (time : Nat) (hid : id ≠ it.id) :
    (s.completeAt id status detail pos time).Stands it := by
  refine ⟨?_, ?_, fun k => ?_⟩
  · rw [item?_completeAt, if_neg hid.symm]
    exact h.item
  · rw [busOff_completeAt]
    exact h.on
  · rw [out, completeAt_outs]
    exact h.unheld k

/-- What every turn of a loop keeps of an item, the loop keeps. -/
theorem each {α : Type} (l : List α) (f : State → α → State) (h : s.Stands it) (hf : ∀ t, ∀ x ∈ l, t.Stands it → (f t x).Stands it) :
    (s.each l f).Stands it := by
  induction l generalizing s with
  | nil => exact h
  | cons x l ih => exact ih (hf s x List.mem_cons_self h) fun t y hy => hf t y (List.mem_cons_of_mem _ hy)

end Stands

/-! ## What outputs hold -/

theorem not_mem_held {x : Output} {id : Nat} : id ∉ x.held ↔ (∀ c ∈ x.pending, c.item ≠ id) ∧
    (∀ d ∈ x.comps, ∀ c ∈ d.commits, c.item ≠ id) ∧ (∀ d, x.showing = some d → ∀ c ∈ d.commits, c.item ≠ id) ∧
    ∀ note, x.waitingIntent ≠ some (id, note) := by
  simp only [Output.held, List.mem_append, List.mem_map, List.mem_flatMap, Option.mem_toList, Prod.exists, not_or, not_exists, not_and]
  grind

/-! ## Latching (R183, R187 to R197) -/

namespace Stands
variable {s : State} {it : Item}

theorem endShown (h : s.Stands it) (g : Nat) : (s.endShown g).Stands it := by
  unfold State.endShown
  split
  · exact h
  next d hd =>
    refine modOut (h.each _ _ fun t c hc ht => ht.completeAt _ _ _ _ _ ((not_mem_held.1 (h.unheld g)).2.2.1 d hd c hc)) g _ fun x hx => ?_
    obtain ⟨hpending, hcomps, -, hwaiting⟩ := not_mem_held.1 hx
    refine not_mem_held.2 ⟨hpending, hcomps, fun e he c hc => ?_, hwaiting⟩
    obtain ⟨e', -, rfl⟩ := Option.map_eq_some_iff.1 he
    exact absurd hc List.not_mem_nil

theorem latchIntent (h : s.Stands it) (g : Nat) : (s.latchIntent g).Stands it := by
  unfold State.latchIntent
  split
  · exact h
  · refine each _ _ (h.modOut g _ fun x hx => ?_) fun t k _ ht => ?_
    · exact hx
    · exact ht.of_ledger rfl

theorem rejectPart (h : s.Stands it) (k : Nat) (f : Nat × Nat) (cs : List Commit) (hcs : ∀ c ∈ cs, c.item ≠ it.id) :
    (s.rejectPart k f cs).Stands it := by
  unfold State.rejectPart
  refine each cs _ (h.of_ledger (logEvent_ledger ..)) fun t c hc ht => ?_
  exact ht.completeAt _ _ _ _ _ (hcs c hc)

theorem startComposition (h : s.Stands it) (k : Nat) (c : Composition) (atLatchPoint : Bool) (hc : ∀ d ∈ c.commits, d.item ≠ it.id) :
    (s.startComposition k c atLatchPoint).Stands it := by
  unfold State.startComposition
  extract_lets s₁ x n s₂ s₃ ests c' s₄ s₅
  have h₃ : s₃.Stands it := by
    refine h.of_ledger ((each_ledger _ _ _ fun t i => bindHalf_ledger ..).trans ((modEngines_ledger ..).trans ?_))
    simp only [s₁]
    split
    · exact decideSplit_ledger ..
    · rfl
  have h₄ : s₄.Stands it := by
    refine h₃.modOut k _ fun x hx => ?_
    obtain ⟨hpending, hcomps, hshowing, hwaiting⟩ := not_mem_held.1 hx
    refine not_mem_held.2 ⟨hpending, fun d hd => ?_, hshowing, hwaiting⟩
    rcases List.mem_append.1 hd with hd | hd
    · exact hcomps d hd
    · obtain rfl := List.mem_singleton.1 hd
      exact hc
  have h₅ : s₅.Stands it := h₄.of_ledger (each_ledger _ _ _ fun t i => by dsimp only; split <;> simp)
  refine h₅.of_ledger (each_ledger _ _ _ fun t i => ?_)
  dsimp only
  split
  · rfl
  · split
    · split <;> simp
    · simp

theorem latchInto (h : s.Stands it) (k : Nat) (cs : List Commit) (buffer : Nat) (atLatchPoint heldAnyway : Bool) (hcs : ∀ c ∈ cs, c.item ≠ it.id) :
    (s.latchInto k cs buffer atLatchPoint heldAnyway).Stands it := by
  unfold State.latchInto
  extract_lets x prev shadow stale failN failC bad s₁ s₂ good keep layers s₃ staleNow frame s₄ s₅ last s₆ late s₇ noted s₈ o c
  clear_value failN failC
  have h₁ : s₁.Stands it := by
    simp only [s₁]
    split
    · exact h.rejectPart _ _ _ fun c hc => hcs c (List.mem_filter.1 hc).1
    · exact h
  have h₂ : s₂.Stands it := by
    simp only [s₂]
    split
    · exact h₁.rejectPart _ _ _ fun c hc => hcs c (List.mem_filter.1 hc).1
    · exact h₁
  have h₃ : s₃.Stands it := by
    refine h₂.modOut k _ fun x hx => ?_
    obtain ⟨hpending, hrest⟩ := not_mem_held.1 hx
    exact not_mem_held.2 ⟨fun c hc => hpending c (List.mem_filter.1 hc).1, hrest⟩
  split
  · exact h₃
  · have h₅ : s₅.ledger = s₃.ledger := by
      have staled : s₄.ledger = s₃.ledger := each_ledger _ _ _ fun t z => by simp
      simp only [s₅]
      split
      · exact (each_ledger _ _ _ fun t c => logEvent_ledger ..).trans staled
      · exact staled
    have h₆ : s₆.ledger = s₅.ledger := by
      simp only [s₆]
      split
      · exact each_ledger _ _ _ fun t m => latchColour_ledger ..
      · rfl
    have h₇ : s₇.ledger = s₆.ledger := each_ledger _ _ _ fun t d => by simp
    have h₈ : s₈.ledger = s₇.ledger := markSolid_ledger ..
    have ho : o.2.ledger = s₈.ledger := rfl
    refine (h₃.of_ledger (ho.trans (h₈.trans (h₇.trans (h₆.trans h₅))))).startComposition k c atLatchPoint fun d hd => ?_
    obtain ⟨e, he, rfl⟩ := List.mem_map.1 hd
    exact hcs e (List.mem_filter.1 he).1

theorem latchOpportunity (h : s.Stands it) (k line : Nat) (atLatchPoint : Bool) : (s.latchOpportunity k line atLatchPoint).Stands it := by
  have hpending := (not_mem_held.1 (h.unheld k)).1
  unfold State.latchOpportunity
  dsimp only
  split
  · exact h
  · split
    · split
      · refine h.setOut k _ ?_
        obtain ⟨-, hrest⟩ := not_mem_held.1 (h.unheld k)
        refine not_mem_held.2 ⟨fun c hc => ?_, hrest⟩
        obtain ⟨d, hd, rfl⟩ := List.mem_map.1 hc
        have hd := hpending d hd
        split <;> exact hd
      · exact h
    · split
      · exact h
      · exact h.latchInto _ _ _ _ _ fun c hc => hpending c (List.mem_filter.1 hc).1

theorem latchPoint (h : s.Stands it) (g : Nat) : (s.latchPoint g).Stands it := by
  unfold State.latchPoint
  extract_lets s₁ s₂ s₃ s₄ s₅ s₆
  have h₁ : s₁.Stands it := (h.endShown g).modOut g (fun x => { x with phase := .blanking }) fun _ hx => hx
  have h₂ : s₂.Stands it := (h₁.latchIntent g).of_ledger (latchMode_ledger ..)
  have h₅ : s₅.ledger = s₂.ledger :=
    (each_ledger _ _ _ fun t k => cutoverAtLatch_ledger ..).trans ((latchReturn_ledger ..).trans (each_ledger _ _ _ fun t k => by simp))
  have h₆ : s₆.ledger = s₅.ledger := by
    simp only [s₆]
    split
    · exact each_ledger _ _ _ fun t k => reassignBuffer_ledger ..
    · rfl
  exact (h₂.of_ledger (h₆.trans h₅)).latchOpportunity _ _ _

/-! ## Starting and stopping (R74, R209, R215) -/

theorem tryRaster (h : s.Stands it) (k : Nat) : (s.tryRaster k).Stands it := by
  unfold State.tryRaster
  extract_lets g x ready held s₁ s₂
  split
  · exact h
  · have h₂ : s₂.ledger = s.ledger := (each_ledger _ _ _ fun t m => by simp).trans (startPixel_ledger ..)
    refine latchPoint (modOut (h.of_ledger h₂) _ _ fun x hx => ?_) _
    exact hx

theorem finishIntents (h : s.Stands it) : s.finishIntents.Stands it := by
  unfold State.finishIntents
  refine h.each _ _ fun t k _ ht => ?_
  dsimp only
  split
  next hw =>
    split
    · obtain ⟨hpending, hcomps, hshowing, hwaiting⟩ := not_mem_held.1 (ht.unheld k)
      refine ((ht.setOut k _ ?_).completeAt _ _ _ _ _ fun he => hwaiting _ (he ▸ hw)).tryRaster k
      exact not_mem_held.2 ⟨hpending, hcomps, hshowing, fun _ => by simp⟩
    · exact ht
  · exact ht

theorem endStopped (h : s.Stands it) (g : Nat) : (s.endStopped g).Stands it := by
  unfold State.endStopped
  refine h.each _ _ fun t c hc ht => ht.completeAt _ _ _ _ _ ?_
  obtain ⟨hpending, hcomps, hshowing, -⟩ := not_mem_held.1 (h.unheld g)
  rcases List.mem_append.1 hc with hc | hc
  · rcases List.mem_append.1 hc with hc | hc
    · split at hc
      next d hd => exact hshowing d hd c hc
      · exact absurd hc List.not_mem_nil
    · obtain ⟨d, hd, hc⟩ := List.mem_flatMap.1 hc
      split at hc
      · exact absurd hc List.not_mem_nil
      · exact hcomps d hd c hc
  · exact hpending c hc

theorem endRaster (h : s.Stands it) (g : Nat) : (s.endRaster g).Stands it := by
  unfold State.endRaster
  extract_lets s₁ s₂ s₃
  have h₂ : s₂.Stands it := (h.endStopped g).of_ledger ((closeGuards_ledger ..).trans (releaseEngines_ledger ..))
  clear_value s₂
  have hinst := inst_mapInsts s₂ (fun x => { x with awaitFlip := x.awaitFlip.filter (fun k => !decide (s₂.governor k = g)) }) rfl it.owner
  have h₃ : s₃.Stands it := ⟨h₂.item, (congrArg Inst.busOff hinst).trans h₂.on, h₂.unheld⟩
  refine h₃.modOut g _ fun x hx => ?_
  obtain ⟨-, -, -, hwaiting⟩ := not_mem_held.1 hx
  exact not_mem_held.2 ⟨fun _ hc => absurd hc List.not_mem_nil, fun _ hd => absurd hd List.not_mem_nil, fun _ hd => by simp at hd, hwaiting⟩

theorem stopOutput (h : s.Stands it) (k cause : Nat) (next : OutState) : (s.stopOutput k cause next).Stands it := by
  unfold State.stopOutput
  dsimp only
  refine finishIntents ((h.endRaster _).of_ledger ((reelReturn_ledger _).trans ((each_ledger _ _ _ fun t m => ?_).trans (stopMember_ledger ..))))
  split <;> simp

/-! ## Taking an intent (R61, R183, R215) -/

end Stands

/-- An intent is in force for an output, or waits there for the latch point. -/
def HasIntent (s : State) (k : Nat) (i : OutIntent) : Prop := (s.out k).intent = some i ∨ (s.out k).nextIntent = some i

theorem HasIntent.of_ledger {s t : State} {k : Nat} {i : OutIntent} (h : s.HasIntent k i) (hl : t.ledger = s.ledger) : t.HasIntent k i := by
  obtain ⟨hintent, hnext⟩ := intents_of_ledger hl k
  rwa [HasIntent, hintent, hnext]

theorem hasIntent_modOut_next (s : State) (k : Nat) (i : OutIntent) : (s.modOut k fun x => { x with nextIntent := some i }).HasIntent k i :=
  .inr (by rw [modOut, out_setOut, if_pos rfl])

theorem hasIntent_modOut_intent (s : State) (k : Nat) (i : OutIntent) :
    (s.modOut k fun x => { x with intent := some i, nextIntent := none }).HasIntent k i :=
  .inl (by rw [modOut, out_setOut, if_pos rfl])

theorem stands_hasIntent_of_ledger {s t : State} {it : Item} {k : Nat} {i : OutIntent} (h : s.Stands it ∧ s.HasIntent k i) (hl : t.ledger = s.ledger) :
    t.Stands it ∧ t.HasIntent k i := ⟨h.1.of_ledger hl, h.2.of_ledger hl⟩

/-- An intent that is taken is in force or waits for the latch point, and an item that no output held stands. -/
theorem takeIntent_stands {s t : State} {it : Item} {k : Nat} {i : OutIntent} {moved own : List Nat} (h : s.Stands it)
    (ht : s.takeIntent k i = some (t, moved, own)) : t.Stands it ∧ t.HasIntent k i := by
  unfold takeIntent at ht
  extract_lets x ms idle same needs renew s₁ s₂ s₃ s₄ at ht
  clear_value idle same renew
  split at ht
  · have h₁ : s₁.Stands it ∧ s₁.HasIntent k i := ⟨h.modOut k _ fun x hx => hx, hasIntent_modOut_next s k i⟩
    split at ht
    · exact stands_hasIntent_of_ledger h₁ (backOutput_ledger ht)
    · obtain rfl := (Prod.mk.inj (Option.some.inj ht)).1
      exact h₁
  · have h₂ : s₂.Stands it := by
      simp only [s₂]
      split
      · exact h
      · exact h.stopOutput ..
    have h₃ : s₃.ledger = s₂.ledger := each_ledger _ _ _ fun u m => by
      dsimp only
      split
      · rw [enter_ledger]
        split <;> simp
      · exact freeBacking_ledger ..
    have taken := (h₂.of_ledger h₃).modOut k (fun x => { x with intent := some i, nextIntent := none }) fun x hx => hx
    have set : s₄.ledger = (s₃.modOut k fun x => { x with intent := some i, nextIntent := none }).ledger := setTiming_ledger ..
    split at ht
    · simp at ht
    next hb =>
      obtain rfl := (Prod.mk.inj (Option.some.inj ht)).1
      refine stands_hasIntent_of_ledger ⟨taken, hasIntent_modOut_intent s₃ k i⟩
        ((each_ledger _ _ _ fun u m => ?_).trans ((backOutput_ledger hb).trans set))
      split
      · exact enter_ledger ..
      · rfl

theorem judgeIntent_accepted {s : State} {owner k st : Nat} {i : OutIntent} {scanStatus : State → Nat → OutIntent → Nat}
    {r : State × List Nat × List Nat}
    (h : s.judgeIntent owner k i scanStatus = (st, some r)) : s.outIntentInvalid owner k i = false ∧ s.takeIntent k i = some r := by
  unfold judgeIntent at h
  dsimp only at h
  split at h
  · simp at h
  next hvalid =>
    split at h
    · simp at h
    · split at h
      · simp at h
      · split at h
        · simp at h
        next ht => exact ⟨by simpa using hvalid, ht.trans (Prod.mk.inj h).2⟩

/-- An item that has not started is held by no output: then it stands when it starts. -/
theorem stands_startItem {s : State} {o : Owner} {q : Fin 16} {type : Nat} {it : Item} (h : s.offers o q type it = true) (hheld : s.heldByNone it.id = true) :
    (s.startItem it.id).Stands { it with started := true } := by
  obtain ⟨hnext, hitem, -, hbus⟩ := (offers_iff ..).1 h
  refine ⟨item?_startItem hitem, ?_, fun k => ?_⟩
  · rw [owner_of_nextItemOf hnext]
    exact hbus
  · rcases Tab.get_default_or_mem {} s.outs k with hnone | hmem
    · rw [show (s.startItem it.id).out k = {} from hnone]
      simp [Output.held]
    · have hout := List.all_eq_true.1 hheld _ hmem
      simp only [Bool.and_eq_true, Bool.not_eq_true', List.any_eq_false, decide_eq_true_eq, decide_eq_false_iff_not] at hout
      obtain ⟨hcommits, hwaiting⟩ := hout
      refine not_mem_held.2 ⟨fun c hc => ?_, fun d hd c hc => ?_, fun d hd c hc => ?_, fun note hnote => ?_⟩
      · exact hcommits c (List.mem_append_left _ (List.mem_append_left _ hc))
      · exact hcommits c (List.mem_append_left _ (List.mem_append_right _ (List.mem_flatMap.2 ⟨d, hd, hc⟩)))
      · refine hcommits c (List.mem_append_right _ ?_)
        rw [show (Tab.get {} s.outs k).showing = some d from hd]
        exact hc
      · exact hwaiting (by rw [show (Tab.get {} s.outs k).waitingIntent = _ from hnote]; rfl)

end State

end Sys2Proof.Machine
end

section
/-!
SUPPORT. O15 and O18: surfaces, the health of units and migrations (R57, R71, R79 to R92). What placing a surface changes, what an epoch's judgement and plans
can do, what the beginning of a migration leaves of a surface, and what the two commands that end one do.
-/
namespace Sys2Proof.Machine
open Sys2Proof

namespace State

/-! ## Surfaces -/

theorem surf_congr {s t : State} (h : t.grip = s.grip) (n : Nat) : t.surf n = s.surf n := by
  rw [surf, surf, h]

theorem surf_setSurf (s : State) (n m : Nat) (x : Surface) : (s.setSurf n x).surf m = if m = n then x else s.surf m := Tab.get_set _ _ _ _ _

/-- A surface is placed in the Reel or in DRAM, and the rest of the state is as it was but for the record of it (R71). -/
theorem placeNew_placed {s t : State} {n : Nat} {x : Surface} (h : s.placeNew n x = some t) :
    ∃ y : Surface, t.apart = (s.setSurf n y).apart ∧ y.owner = x.owner ∧ (y.state = .reel ∨ y.state = .placed) := by
  unfold placeNew at h
  split at h
  · obtain rfl := Option.some.inj h
    exact ⟨_, apart_logEvent .., rfl, .inl rfl⟩
  · split at h
    · obtain rfl := Option.some.inj h
      exact ⟨_, apart_logEvent .., rfl, .inr rfl⟩
    · simp at h

/-! ## Judgements and plans (R79 to R92) -/

theorem unit_setUnit (s : State) (n m : Nat) (u : Unit) : (s.setUnit n u).unit m = if m = n then u else s.unit m := Tab.get_set _ _ _ _ _

/-- Grip judges and plans: units get their health, migrations begin or are abandoned, DRAM buffers are chosen, credit is given. No byte is written, no sample
enters a window, and no object changes but LOG_LOST. -/
structure Plans (s t : State) : Prop where
  mem : t.mem = s.mem
  windows : ∀ n, (t.unit n).samples = (s.unit n).samples ∧ (t.unit n).service = (s.unit n).service
  objs : ∀ a, a ≠ Obj.LOG_LOST → t.rd a = s.rd a

namespace Plans
variable {s t u : State}

theorem refl (s : State) : Plans s s := ⟨rfl, fun _ => ⟨rfl, rfl⟩, fun _ _ => rfl⟩

theorem trans (h : Plans s t) (h' : Plans t u) : Plans s u :=
  ⟨h'.mem.trans h.mem, fun n => ⟨(h'.windows n).1.trans (h.windows n).1, (h'.windows n).2.trans (h.windows n).2⟩,
    fun a ha => (h'.objs a ha).trans (h.objs a ha)⟩

theorem of_fields (hm : t.mem = s.mem) (hu : t.grip.units = s.grip.units) (ho : ∀ a, a ≠ Obj.LOG_LOST → t.rd a = s.rd a) : Plans s t :=
  ⟨hm, fun n => by rw [unit, unit, hu]; exact ⟨rfl, rfl⟩, ho⟩

theorem each {α : Type} (s : State) (l : List α) (f : State → α → State) (hf : ∀ t x, Plans t (f t x)) : Plans s (s.each l f) :=
  State.each_keeps (Plans s) l f s (fun t x h => h.trans (hf t x)) (refl s)

theorem setSurf (s : State) (n : Nat) (x : Surface) : Plans s (s.setSurf n x) := of_fields rfl rfl fun _ _ => rfl

theorem setBacking (s : State) (k : Nat) (b : Backing) : Plans s (s.setBacking k b) := of_fields rfl rfl fun _ _ => rfl

theorem logEvent (s : State) (code source : Nat) (ds : List Detail) : Plans s (s.logEvent code source ds) :=
  of_fields (logEvent_mem ..) (congrArg Grip.units (logEvent_grip ..)) fun a ha => rd_logEvent _ _ _ _ a ha

theorem setUnit (s : State) (n : Nat) (x : Unit) (h : x.samples = (s.unit n).samples ∧ x.service = (s.unit n).service) : Plans s (s.setUnit n x) := by
  refine ⟨rfl, fun m => ?_, fun _ _ => rfl⟩
  rw [unit_setUnit]
  split
  next hm => exact hm ▸ h
  · exact ⟨rfl, rfl⟩

theorem setHealth (s : State) (n : Nat) (x : Health) : Plans s (s.setHealth n x) := setUnit _ _ _ ⟨rfl, rfl⟩

theorem judgeSlow (s : State) (n ratio : Nat) : Plans s (s.judgeSlow n ratio) := by
  unfold State.judgeSlow
  extract_lets s₁ ty
  have slowed : Plans s s₁ := (setHealth ..).trans (logEvent ..)
  refine slowed.trans ?_
  split
  · exact (setHealth ..).trans (logEvent ..)
  · exact refl _

theorem judge (s : State) (t : Thresholds) (n : Nat) : Plans s (s.judge t n) := by
  unfold State.judge
  extract_lets u peer ratio u' s₁
  have judged : Plans s s₁ := setUnit _ _ _ ⟨rfl, rfl⟩
  have recount (k : Nat) : Plans s₁ (s₁.setUnit n { u' with clearRun := k }) := setUnit _ _ _ (by rw [unit_setUnit, if_pos rfl]; exact ⟨rfl, rfl⟩)
  refine judged.trans ?_
  split
  · split
    · exact refl _
    · split
      · exact judgeSlow ..
      · exact setHealth ..
  · split
    · exact judgeSlow ..
    · exact refl _
  · split
    · exact recount _
    · split
      · exact recount _
      · exact (setHealth ..).trans (logEvent ..)
  · split
    · exact recount _
    · split
      · exact recount _
      · exact (setHealth ..).trans (logEvent ..)
  · exact refl _

theorem measure (s : State) (rates : List (Fin 16384 × Nat)) : Plans s (s.measure rates) := each _ _ _ fun t _ => setSurf t _ _

theorem startMigration (s : State) (n : Nat) : Plans s (s.startMigration n) := by
  unfold State.startMigration
  dsimp only
  split
  · exact refl s
  · split
    · exact refl s
    · exact (setSurf ..).trans (logEvent ..)

theorem startMigrations (s : State) : Plans s s.startMigrations := by
  unfold State.startMigrations
  split
  · exact refl s
  · exact each _ _ _ startMigration

theorem restartCopies (s : State) : Plans s s.restartCopies := by
  refine each _ _ _ fun t e => ?_
  split
  · split
    · exact setSurf ..
    · exact refl t
  · exact refl t

theorem moveDramBuffers (s : State) : Plans s s.moveDramBuffers := by
  refine each _ _ _ fun t e => ?_
  split
  · split
    · exact setBacking ..
    · exact refl t
  · exact refl t

theorem balance (s : State) (t : Thresholds) (util : List (Fin 8 × Nat)) : Plans s (s.balance t util) := by
  unfold State.balance
  dsimp only
  split
  · split
    · exact refl s
    · split
      · exact startMigration ..
      · exact refl s
  · exact refl s

end Plans

/-- Credit touches the instances and the Raster Array's cap, and nothing of Grip or of memory (R319, R320). -/
theorem credit_frame (s : State) (durationNs : Nat) : (s.credit durationNs).grip = s.grip ∧ (s.credit durationNs).mem = s.mem := by
  have credited (u : State) (l : List Nat) (f : State → Nat → Inst → Inst) (hu : u.grip = s.grip ∧ u.mem = s.mem) :
      (u.each l fun u i => u.modInst i (f u i)).grip = s.grip ∧ (u.each l fun u i => u.modInst i (f u i)).mem = s.mem :=
    State.each_keeps (fun t => t.grip = s.grip ∧ t.mem = s.mem) l _ u (fun _ _ h => h) hu
  unfold State.credit
  extract_lets c live s₁ due sum capped s₂ s₃ dmas dmaSum t
  exact credited s₃ dmas _ (credited s₂ due _ (credited s live _ ⟨rfl, rfl⟩))

/-! ## Samples (R80) -/

theorem sample_window {s : State} {n : Nat} (v : Nat) (hs : s.unsampled n = false) (ho : (s.unit n).health ≠ .offline) (hf : (s.unit n).health ≠ .failed) :
    ((s.sample n v).unit n).samples = (v :: (s.unit n).samples).take 64 ∧ ((s.sample n v).unit n).service = median ((v :: (s.unit n).samples).take 64) ∧
      (s.sample n v).mem = s.mem ∧ ∀ a, (s.sample n v).rd a = s.rd a := by
  simp [sample, hs, ho, hf, unit_setUnit]

/-! ## What a migration that begins leaves of a surface (R89) -/

/-- A surface that migrates already is left alone. -/
theorem startMigration_migrating (s : State) (n m : Nat) (h : (s.surf m).migration.isSome = true) : (s.startMigration n).surf m = s.surf m := by
  unfold startMigration
  dsimp only
  split
  · rfl
  next hfree =>
    split
    · rfl
    · rw [surf_congr (logEvent_grip ..), surf_setSurf]
      split
      next hm =>
        subst hm
        simp [Surface.movable, Option.isNone_eq_false_iff.2 h] at hfree
      · rfl

/-- A surface lies where it lay. -/
theorem startMigration_place (s : State) (n m : Nat) : ((s.startMigration n).surf m).place = (s.surf m).place := by
  unfold startMigration
  dsimp only
  split
  · rfl
  · split
    · rfl
    · rw [surf_congr (logEvent_grip ..), surf_setSurf]
      split
      next hm => rw [hm]
      · rfl

theorem startMigrations_migrating {s : State} {m : Nat} {x : Surface} (h : s.surf m = x) (hx : x.migration.isSome = true) : s.startMigrations.surf m = x := by
  unfold startMigrations
  split
  · exact h
  · exact State.each_keeps (fun t => t.surf m = x) _ _ s (fun t n ht => (startMigration_migrating t n m (by rw [ht]; exact hx)).trans ht) h

theorem startMigrations_place (s : State) (m : Nat) : (s.startMigrations.surf m).place = (s.surf m).place := by
  unfold startMigrations
  split
  · rfl
  · exact State.each_keeps (fun t => (t.surf m).place = (s.surf m).place) _ _ s (fun t n ht => (startMigration_place t n m).trans ht) rfl

/-! ## The end of a copy and of the old placement (R89) -/

/-- The state at the end of a surface's copy, before the next migration begins. -/
def copied (s : State) (n : Nat) (g : Migration) : State :=
  let x := s.surf n
  let s := s.wr Obj.GRIP_MIGRATED_BYTES (wrapAdd 64 (s.rd Obj.GRIP_MIGRATED_BYTES) x.bytes)
  let s := { s with mem := Memory.copy s.mem x.place g.target x.bytes, dram := { s.dram with poisoned := poisonCopy s.dram.poisoned x.place g.target x.bytes } }
  s.setSurf n { x with migration := some { g with copyDone := true, copied := x.bytes } }

theorem copyDone_eq {s : State} {n : Nat} {g : Migration} (hg : (s.surf n).migration = some g) (hc : (s.surf n).copying = true) (hd : s.gafferDown = false)
    (hs : (s.surf n).sparse = false) : s.copyDone n = (s.copied n g).startMigrations := by
  simp only [copyDone, hg, hc, hd, hs]
  rfl

theorem surf_copied (s : State) (n : Nat) (g : Migration) :
    (s.copied n g).surf n = { s.surf n with migration := some { g with copyDone := true, copied := (s.surf n).bytes } } :=
  (surf_setSurf ..).trans (if_pos rfl)

/-- A DEGRADED rank that is fenced is an object and a record. -/
theorem fenceRanks_frame (s : State) : s.fenceRanks.grip = s.grip ∧ s.fenceRanks.mem = s.mem := by
  refine State.each_keeps (fun t => t.grip = s.grip ∧ t.mem = s.mem) _ _ s (fun t r h => ?_) ⟨rfl, rfl⟩
  dsimp only
  split
  · split <;> simpa using h
  · exact h

/-- The state in which a surface lies at its new placement alone. -/
def moved (s : State) (n : Nat) (g : Migration) : State :=
  let x := s.surf n
  let mem := if x.sparse then s.mem else Memory.drop s.mem (fun a => x.place.covers x.bytes a && !g.target.covers x.bytes a)
  { s.setSurf n { x with place := g.target, migration := none, state := if x.lossy then .lossy else .placed } with mem := mem }

theorem execMigrationOldFreed_eq {s : State} {sf : Fin 16384} {g : Migration} (hg : (s.surf sf.val).migration = some g) (hc : g.cutover = true)
    (hu : s.oldUsed g = false) (hr : (s.surf sf.val).state ≠ .releasing) :
    execMigrationOldFreed sf s = .next (s.moved sf.val g).fenceRanks.startMigrations := by
  simp only [execMigrationOldFreed, hg, hc, hu, hr]
  rfl

theorem place_moved (s : State) (n : Nat) (g : Migration) : ((s.moved n g).surf n).place = g.target :=
  congrArg Surface.place ((surf_setSurf ..).trans (if_pos rfl))

/-- The end of the old placement only drops bytes. -/
theorem get_moved (s : State) (n : Nat) (g : Migration) (a : Nat) (v : BitVec 8) (h : Memory.get (s.moved n g).mem a = some v) :
    Memory.get s.mem a = some v := by
  unfold moved at h
  dsimp only at h
  split at h
  · exact h
  · rw [Memory.get_drop] at h
    split at h
    · simp at h
    · exact h

end State

end Sys2Proof.Machine
end

section
/-!
SUPPORT, and the statements O15, O17 and O18: what the commands on surfaces, output intents, epochs and migrations do, and from that what is
asked of them.
-/
namespace Sys2Proof.Machine
open Sys2Proof

/-! ## Surface intents (R57, R71) -/

/-- A new surface intent without a fault, for which there is a number and room, completes with that number (R57; log entry 15 for the number). -/
theorem execSurfaceIntent_placed {s t : State} {o : Owner} {q : Fin 16} {it : Item} (hnext : s.nextItemOf o.code q.val 0x20 = some it)
    (hnew : dfield it.desc 127 112 = 0xFFFF ∧ dbit it.desc 186 = false) (hvalid : s.newSurfaceInvalid it.desc o.code = false)
    (hecc : ¬(dfield it.desc 111 104 = 3 ∧ s.eccOff = true)) (hroom : s.grip.surfaces.length < 16384)
    (hplace : (s.startItem it.id).placeNew (lowestFree s.grip.surfaces 0) (intentSurface it.desc o.code) = some t) :
    execSurfaceIntent o q s = .next (t.complete it.id Status.ok (lowestFree s.grip.surfaces 0)) := by
  refine congrArg Host.Outcome.next ((State.onItemIf_eq hnext _ (by simp [hnew]) _).trans ?_)
  refine (if_neg (ne_true_of_eq_false hvalid)).trans ((if_neg hecc).trans ((if_neg (Nat.not_le.2 hroom)).trans ?_))
  simp only [show (s.startItem it.id).grip = s.grip from rfl, hplace]

theorem execSurfaceIntent_invalid {s : State} {o : Owner} {q : Fin 16} {it : Item} (hnext : s.nextItemOf o.code q.val 0x20 = some it)
    (hnew : dfield it.desc 127 112 = 0xFFFF ∧ dbit it.desc 186 = false) (hbad : s.newSurfaceInvalid it.desc o.code = true) :
    execSurfaceIntent o q s = .next ((s.startItem it.id).finish it.id Status.intentInvalid) := by
  refine congrArg Host.Outcome.next ((State.onItemIf_eq hnext _ (by simp [hnew]) _).trans ?_)
  exact if_pos (show (s.startItem it.id).newSurfaceInvalid it.desc o.code = true from hbad)

/-! ## Output intents (R61, R62, R74) -/

/-- Owners but the manager and Gaffer submit no output intent (R62). -/
theorem outIntentInvalid_of_owner (s : State) (o : Owner) (k : Nat) (i : OutIntent) (hm : o ≠ .manager) (hg : o ≠ .gaffer) :
    s.outIntentInvalid o.code k i = true := by
  have hcode : o.code ≠ 0x40 ∧ o.code ≠ 0xC0 := by
    cases o with
    | guest i => exact ⟨by simp only [Owner.code]; omega, by simp only [Owner.code]; omega⟩
    | manager => exact absurd rfl hm
    | gaffer => exact absurd rfl hg
    | bittern => exact ⟨by decide, by decide⟩
  simp [State.outIntentInvalid, hcode]

/-- An output intent that is invalid is refused, and nothing else comes of it (R62). -/
theorem execOutputIntent_invalid {s : State} {o : Owner} {q : Fin 16} {it : Item} (h : s.nextItemOf o.code q.val 0x21 = some it)
    (hbad : (s.startItem it.id).outIntentInvalid o.code (dfield it.desc 67 64) (intentOf it.desc) = true) :
    execOutputIntent o q s = .next ((s.startItem it.id).finish it.id Status.intentInvalid) := by
  simp [execOutputIntent, State.onItem_eq h, State.outputIntent, State.judgeIntent, hbad]

/-- An output intent that is taken without a move to DRAM: what the command leaves differs from the state that the intent was taken in only by the end of its
item, as far as items, records and intents go (R74). -/
theorem execOutputIntent_taken {s t : State} {o : Owner} {q : Fin 16} {it : Item} {st : Nat} {own : List Nat} (hnext : s.nextItemOf o.code q.val 0x21 = some it)
    (hj : (s.startItem it.id).judgeIntent o.code (dfield it.desc 67 64) (intentOf it.desc) (fun s k i => s.intentScans k i) = (st, some (t, [], own))) :
    ∃ u, execOutputIntent o q s = .next u ∧ u.ledger = (t.finish it.id Status.ok).ledger := by
  have hdone : (s.startItem it.id).outputIntent it o.code (fun s k i => s.intentScans k i) = (t.finish it.id Status.ok).startAll (dfield it.desc 67 64) := by
    simp [State.outputIntent, hj, State.settleMoves, State.each]
  refine ⟨_, congrArg Host.Outcome.next (State.onItem_eq hnext _), ?_⟩
  dsimp only
  rw [hdone]
  split
  · exact (State.cutScans_ledger ..).trans (State.startAll_ledger ..)
  · exact State.startAll_ledger ..

/-! ## Epochs (R79, R86) -/

/-- What an epoch with one sample does before the mode that was written applies. -/
theorem execEpochEnd_one (s : State) (n : Fin 92) (v ns : Nat) :
    ∃ u, execEpochEnd [(n, v)] [] [] ns s = .next (({ u with grip := { u.grip with aggressiveness := u.rd Obj.GRIP_AGGRESSIVENESS } } : State).credit ns) ∧
      State.Plans (s.sample n.val v) u := by
  unfold execEpochEnd
  extract_lets t s₁ s₂ s₃ s₄ s₅
  have measured : State.Plans s₁ s₂ := State.Plans.measure ..
  have judged : State.Plans s₂ s₃ := State.Plans.each _ _ _ fun t x => by
    split
    · exact State.Plans.refl t
    · exact State.Plans.judge ..
  have planned : State.Plans s₃ s₄ := (State.Plans.restartCopies _).trans ((State.Plans.moveDramBuffers _).trans (State.Plans.startMigrations _))
  have balanced : State.Plans s₄ s₅ := State.Plans.balance ..
  exact ⟨s₅, rfl, measured.trans (judged.trans (planned.trans balanced))⟩

/-! ## The statements -/

/-- Settles O15. A new surface is placed before its item completes, which touches no surface; an output intent's item stands until it completes, since
no output holds it. -/
theorem surfaceAndOutputIntents : Obligations.SurfaceAndOutputIntents := by
  unfold Obligations.SurfaceAndOutputIntents
  refine ⟨fun s o q it hoff hnumber hkeep => ⟨fun hvalid hecc hroom hplace => ?_, fun hbad => ?_⟩, fun s o q it hoff hheld st t own hjudge => ?_⟩
  · obtain ⟨hnext, hitem, hinj, hbus⟩ := (State.offers_iff ..).1 hoff
    obtain ⟨t, ht⟩ := Option.isSome_iff_exists.1 hplace
    obtain ⟨y, hy, howner, hstate⟩ := State.placeNew_placed ht
    have hsurf (m : Nat) : (t.complete it.id Status.ok (lowestFree s.grip.surfaces 0)).surf m = if m = lowestFree s.grip.surfaces 0 then y else s.surf m := by
      rw [State.complete, State.surf_congr (State.completeAt_grip ..), State.surf_congr (State.ext_grip hy), State.surf_setSurf]
      rfl
    refine ⟨_, execSurfaceIntent_placed hnext ⟨hnumber, hkeep⟩ hvalid hecc hroom ht, ?_, ?_, ?_, ?_, fun m hm => ?_, fun a => ?_⟩
    · refine State.recorded_completeAt (it := { it with started := true }) ?_ hinj ?_ ..
      · rw [State.item?_congr (State.ext_items hy)]
        exact State.item?_startItem hitem
      · rw [State.busOff_congr (State.ext_insts hy), State.owner_of_nextItemOf hnext]
        exact hbus
    · rw [State.complete, State.item?_completeAt, if_pos rfl]
    · rw [hsurf, if_pos rfl, howner]
      rfl
    · rwa [hsurf, if_pos rfl]
    · rw [hsurf, if_neg hm]
    · exact State.byte_of_mem _ _ ((State.completeAt_mem ..).trans (State.ext_mem hy)) a
  · obtain ⟨hnext, -⟩ := (State.offers_iff ..).1 hoff
    obtain ⟨hrec, hgone⟩ := State.complete_started hoff Status.intentInvalid 0
    exact ⟨_, execSurfaceIntent_invalid hnext ⟨hnumber, hkeep⟩ hbad, hrec, hgone, State.completeAt_grip ..,
      State.byte_of_mem _ _ (State.completeAt_mem ..)⟩
  · obtain ⟨hnext, -, hinj, -⟩ := (State.offers_iff ..).1 hoff
    obtain ⟨u, hexec, hu⟩ := execOutputIntent_taken hnext hjudge
    obtain ⟨hstands, hintent⟩ := State.takeIntent_stands (State.stands_startItem hoff hheld) (State.judgeIntent_accepted hjudge).2
    refine ⟨u, hexec, ?_, ?_, ?_⟩
    · rw [State.recorded_of_ledger hu]
      exact State.recorded_completeAt hstands.item hinj hstands.on ..
    · rw [State.item?_of_ledger hu, State.finish, State.complete, State.item?_completeAt, if_pos rfl]
    · refine State.HasIntent.of_ledger (s := t.finish it.id Status.ok) ?_ hu
      rwa [State.HasIntent, State.out, State.finish, State.complete, State.completeAt_outs]

/-- Settles O17: the submitter is the first thing that is checked of an output intent. -/
theorem outputIntentsOfInstancesAreRefused : Obligations.OutputIntentsOfInstancesAreRefused := by
  unfold Obligations.OutputIntentsOfInstancesAreRefused
  intro s o q it hm hg hoff
  obtain ⟨hnext, -⟩ := (State.offers_iff ..).1 hoff
  obtain ⟨hrec, hgone⟩ := State.complete_started hoff Status.intentInvalid 0
  exact ⟨_, execOutputIntent_invalid hnext (outIntentInvalid_of_owner _ o _ _ hm hg), hrec, hgone,
    State.completeAt_outs .., State.completeAt_grip ..⟩

/-- Settles O18. Nothing after a sample changes a window; migrations that begin leave a surface that migrates as it is, and every surface where it lies. -/
theorem epochsAndMigrations : Obligations.EpochsAndMigrations := by
  unfold Obligations.EpochsAndMigrations
  refine ⟨fun s n v ns hs ho hf => ?_, fun s sf g hg hc hd hsp => ?_, fun s sf g hg hc hu hr => ?_⟩
  · obtain ⟨u, hexec, plans⟩ := execEpochEnd_one s n v ns
    obtain ⟨hsamples, hservice, hmem, hobjs⟩ := State.sample_window v hs ho hf
    obtain ⟨hgrip, hcredit⟩ := State.credit_frame { u with grip := { u.grip with aggressiveness := u.rd Obj.GRIP_AGGRESSIVENESS } } ns
    obtain ⟨hwindow, hmedian⟩ := plans.windows n.val
    have hunit : (({ u with grip := { u.grip with aggressiveness := u.rd Obj.GRIP_AGGRESSIVENESS } } : State).credit ns).unit n.val = u.unit n.val := by
      rw [State.unit, hgrip]
      rfl
    refine ⟨_, hexec, ?_, ?_, ?_, State.byte_of_mem _ _ (hcredit.trans (plans.mem.trans hmem))⟩
    · rw [hunit, hwindow, hsamples]
    · rw [hunit, hmedian, hservice]
    · rw [hgrip, ← hobjs]
      exact plans.objs _ (by decide)
  · have plans := State.Plans.startMigrations (s.copied sf.val g)
    refine ⟨_, congrArg Host.Outcome.next (State.copyDone_eq hg hc hd hsp), ?_, ?_, plans.mem⟩
    · rw [State.startMigrations_migrating (State.surf_copied s sf.val g) rfl]
    · rw [plans.objs _ (by decide)]
      exact State.rd_wr_same ..
  · obtain ⟨hgrip, hmem⟩ := State.fenceRanks_frame (s.moved sf.val g)
    refine ⟨_, State.execMigrationOldFreed_eq hg hc hu hr, ?_, fun a v hv => ?_⟩
    · rw [State.startMigrations_place, State.surf_congr hgrip, State.place_moved]
    · rw [(State.Plans.startMigrations _).mem, hmem] at hv
      exact State.get_moved s sf.val g a v hv

end Sys2Proof.Machine
end

section
/-!
SUPPORT, and the statement O19: the Reel's objects and the fetches of active lines (R107, R116, R117, R122, R126). What each write leaves after its checks, what
the slip of a RACING frame records, and that the frame's abandonment leaves that record as it is (R119).
-/
namespace Sys2Proof.Machine
open Sys2Proof

namespace State

/-! ## Writes (R107, R122, R126) -/

theorem writeCritRects_taken {s : State} {k v : Nat} (h : s.critRectsInvalid k v = false) :
    s.writeCritRects k v = (Status.ok, (s.wr (Obj.CRIT_RECTS k) v).modOut k (fun x => { x with critRectsPending := true })) := by
  simp [writeCritRects, h]

theorem writeCritRects_refused {s : State} {k v : Nat} (h : s.critRectsInvalid k v = true) :
    s.writeCritRects k v = (Status.critRectInvalid, s) := by
  simp [writeCritRects, h]

theorem writeSubstTable_taken {s : State} {v : Nat} (h : (List.range 64).any (fun i => s.substBad (substEntry v i)) = false) :
    s.writeSubstTable v = (Status.ok, s.wr Obj.SUBST_TABLE (packItems 16 ((List.range 64).map (fun i => substKept (substEntry v i))))) :=
  if_neg (ne_true_of_eq_false h)

theorem writeSubstTable_refused {s : State} {v : Nat} (h : (List.range 64).any (fun i => s.substBad (substEntry v i)) = true) :
    s.writeSubstTable v = (Status.substInvalid, s) := if_pos h

/-- Scan modes 0 and 1 are in the range of every output's object, which holds what is written (R122). -/
theorem scanMode_row (k : Fin 12) : ∃ r, rowAt (Obj.REEL_SCAN_MODE k.val) = some r ∧ r.accepts = .oneOf [0, 1] := by
  have rows : ∀ k : Fin 12, (rowAt (Obj.REEL_SCAN_MODE k.val)).map ObjRow.accepts = some (.oneOf [0, 1]) := by decide +kernel
  exact Option.map_eq_some_iff.1 (rows k)

theorem writeScanMode_taken (s : State) (k : Fin 12) {v : Nat} (h : v < 2) :
    s.writeScanMode k.val v = (Status.ok, (s.wr (Obj.REEL_SCAN_MODE k.val) v).wrBit (Obj.REEL_OUT_STATUS k.val) rosModePending true) := by
  obtain ⟨r, hr, ha⟩ := scanMode_row k
  have inRange : rangeStatus (Obj.REEL_SCAN_MODE k.val) v = Status.ok := by
    have holds : r.accepts.holds r.ty v = true := by
      simp only [ha, Accepts.holds, List.contains_iff_mem, List.mem_cons, List.not_mem_nil, or_false]
      omega
    simp [rangeStatus, hr, holds]
  have kept : s.merged (Obj.REEL_SCAN_MODE k.val) v = v := by simp [merged, hr, mergeWrite, ha]
  simp [writeScanMode, plainWrite, inRange, kept]

/-! ## Fetches (R116 to R119) -/

/-- With injection off nothing is injected (R636). -/
theorem inject_disabled {s : State} (h : s.rd Obj.INJ_ENABLE ≠ 1) (d target : Nat) : s.inject d target = (none, s) :=
  inject_off s d target (.inr h)

/-- A fetch that finds no bad word, with nothing injected, leaves the state as it was (R131). -/
theorem reelFetch_clean {s : State} (h : s.rd Obj.INJ_ENABLE ≠ 1) (k y : Nat) : s.reelFetch k y none = s := by
  unfold reelFetch
  dsimp only
  split
  · rfl
  · simp [inject_disabled h]

theorem governor_unpaired {s : State} {k : Nat} (h : s.paired k = false) : s.governor k = k := by simp [governor, h]

theorem members_unpaired {s : State} {k : Nat} (h : s.paired k = false) : s.members k = [k] := by simp [members, h]

theorem dramFed_congr {s t : State} (h : t.grip = s.grip) (k : Nat) : t.dramFed k = s.dramFed k := by
  rw [dramFed, backing, h, dramFed, backing]

theorem raceFetch_idle {s : State} {k : Nat} (h : (s.out (s.governor k)).racingNow = false) (y lines : Nat) : s.raceFetch k y lines = s := by
  simp [raceFetch, h]

/-- The frame that output `k` scans has slipped since `s`, once: the count, the flag, the position and SLIP of the flip record (R117). Injection and all that
backs outputs are as they were, and so is memory. -/
structure Slipped (s t : State) (k : Nat) : Prop where
  count : t.rd (Obj.REEL_OUT_SLIP_COUNT k) = wrapAdd 32 (s.rd (Obj.REEL_OUT_SLIP_COUNT k)) 1
  flag : bit (t.rd (Obj.REEL_OUT_STATUS k)) rosSlip = true
  position : t.rd (Obj.REEL_OUT_LAST_SLIP k) = s.now.pack
  flip : bit (t.rd (Obj.OUT_FLIP_RECORD k)) 210 = true
  injection : t.rd Obj.INJ_ENABLE = s.rd Obj.INJ_ENABLE
  grip : t.grip = s.grip
  mem : t.mem = s.mem

/-- Where the objects that a slip writes lie to each other, to LOG_LOST and to INJ_ENABLE. -/
theorem slip_addresses (j k : Nat) : Obj.REEL_OUT_SLIP_COUNT k = Obj.REEL_OUT_STATUS k + 3 ∧ Obj.REEL_OUT_LAST_SLIP k = Obj.REEL_OUT_STATUS k + 4 ∧
    Obj.REEL_OUT_STATUS k % 256 = 3 ∧ Obj.OUT_FLIP_RECORD j % 256 = 10 ∧ Obj.LOG_LOST % 256 = 4 ∧ Obj.INJ_ENABLE % 256 = 1 := by
  refine ⟨?_, ?_, ?_, ?_, by decide, by decide⟩ <;>
    simp only [Obj.REEL_OUT_SLIP_COUNT, Obj.REEL_OUT_STATUS, Obj.REEL_OUT_LAST_SLIP, Obj.OUT_FLIP_RECORD] <;> omega

/-- The first slip of a frame is recorded. -/
theorem slipped_slip {s : State} {k : Nat} (h : (s.out k).slipLine = none) (y : Nat) (injected : Bool) : Slipped s (s.slip k y injected) k := by
  obtain ⟨hcount, hlast, hstatus, hflip, hlost, hinj⟩ := slip_addresses k k
  unfold slip
  extract_lets x x' s₁ s₂ s₃
  rw [if_neg (by simp [x, h])]
  have logged (a : Nat) (ha : a ≠ Obj.LOG_LOST) : s₁.rd a = s.rd a := rd_logInjected _ _ _ _ _ _ ha
  have clock : s₂.clock = s.clock := (wrBit_clock s₁ ..).trans ((logInjected_clock ..).trans (setOut_clock s k x'))
  have grip : s₁.grip = s.grip := (logInjected_grip ..).trans (setOut_grip s k x')
  have mem : s₁.mem = s.mem := (logInjected_mem ..).trans (setOut_mem s k x')
  constructor
  case count =>
    rw [rd_wrBit, if_neg (by omega), rd_wr_other _ _ _ _ (by omega), rd_count, if_pos rfl, rd_wrBit, if_neg (by omega), logged _ (by omega)]
  case flag =>
    rw [rd_wrBit, if_neg (by omega), rd_wr_other _ _ _ _ (by omega), rd_count, if_neg (by omega), rd_wrBit, if_pos rfl, bit_setBit, if_pos rfl]
  case position =>
    rw [rd_wrBit, if_neg (by omega), rd_wr_same, now, clock, now]
  case flip =>
    rw [rd_wrBit, if_pos rfl, bit_setBit, if_pos rfl]
  case injection =>
    rw [rd_wrBit, if_neg (by omega), rd_wr_other _ _ _ _ (by omega), rd_count, if_neg (by omega), rd_wrBit, if_neg (by omega), logged _ (by omega)]
  case grip => rw [wrBit_grip, wr_grip, count_grip, wrBit_grip, grip]
  case mem => rw [wrBit_mem, wr_mem, count_mem, wrBit_mem, mem]

/-- What an object's bit shows, it shows after another bit of whatever object is set. -/
theorem bit_wrBit_other (s : State) (a b i j : Nat) (on : Bool) (h : j ≠ i) : bit ((s.wrBit a i on).rd b) j = bit (s.rd b) j := by
  rw [rd_wrBit]
  split
  next hb => rw [bit_setBit, if_neg h, hb]
  · rfl

/-- A slipped frame that is abandoned, of this output or another, has slipped all the same: other bits say that it was abandoned (R119). -/
theorem Slipped.abandon {s t : State} {k : Nat} (h : Slipped s t k) (j lines : Nat) : Slipped s (t.abandon j lines) k := by
  obtain ⟨hcount, hlast, hstatus, hflip, hlost, hinj⟩ := slip_addresses k k
  obtain ⟨-, -, hstatus', hflip', -, -⟩ := slip_addresses j j
  unfold State.abandon
  extract_lets x seq x' s₁
  have logged (a : Nat) (ha : a ≠ Obj.LOG_LOST) : s₁.rd a = t.rd a := rd_logEvent _ _ _ _ _ ha
  have grip : s₁.grip = t.grip := (logEvent_grip ..).trans (setOut_grip t j x')
  have mem : s₁.mem = t.mem := (logEvent_mem ..).trans (setOut_mem t j x')
  constructor
  case count => rw [rd_wrBit, if_neg (by omega), rd_wrBit, if_neg (by omega), logged _ (by omega), h.count]
  case flag => rw [bit_wrBit_other _ _ _ _ _ _ (by decide), bit_wrBit_other _ _ _ _ _ _ (by decide), logged _ (by omega), h.flag]
  case position => rw [rd_wrBit, if_neg (by omega), rd_wrBit, if_neg (by omega), logged _ (by omega), h.position]
  case flip => rw [bit_wrBit_other _ _ _ _ _ _ (by decide), bit_wrBit_other _ _ _ _ _ _ (by decide), logged _ (by omega), h.flip]
  case injection => rw [rd_wrBit, if_neg (by omega), rd_wrBit, if_neg (by omega), logged _ (by omega), h.injection]
  case grip => rw [wrBit_grip, wrBit_grip, grip, h.grip]
  case mem => rw [wrBit_mem, wrBit_mem, mem, h.mem]

/-- A RACING fetch of a line that is not complete slips the frame, whether or not that abandons it (R117, R119). -/
theorem raceFetch_slips {s : State} {k y lines : Nat} (hp : s.paired k = false) (hr : (s.out k).racingNow = true) (hl : lines ≤ y)
    (hs : (s.out k).slipLine = none) : Slipped s (s.raceFetch k y lines) k := by
  unfold raceFetch
  extract_lets g x lead s₁ inj s₂ s₃
  have hg : g = k := governor_unpaired hp
  have hinj : inj = (none, s₁) := if_neg fun h => Nat.not_lt.2 hl h.2
  have hmembers : s₂.members k = [k] := by
    simp only [s₂, hinj]
    exact members_unpaired hp
  have slipped : Slipped s s₃ k := by
    have first : (s₁.out k).slipLine = none := by simp [s₁, x, hg, out_setOut, hs]
    have once : Slipped s₁ (s₁.slip k y false) k := slipped_slip first ..
    have slip : s₃ = s₁.slip k y false := by
      simp only [s₃]
      rw [if_pos (.inl hl), hmembers]
      simp only [s₂, hinj]
      rfl
    rw [slip]
    exact ⟨once.count, once.flag, once.position, once.flip, once.injection, once.grip, once.mem⟩
  rw [if_neg (by simp [x, hg, hr])]
  split
  · exact each_keeps (Slipped s · k) _ _ _ (fun t j h => h.abandon j lines) slipped
  · exact slipped

end State

open State

/-! ## Commands -/

/-- What LINE_FETCH does for an output of its own that scans an active line and has something to show (R116). -/
theorem execLineFetch_active {s : State} {k : Fin 12} {y : Nat} (hp : s.paired k.val = false) (hphase : (s.out k.val).phase ≠ .stopped)
    (hempty : bit (s.rd (Obj.REEL_OUT_STATUS k.val)) rosEmpty = false) (hy : y < timVActive (s.timing k.val)) (done : List Nat)
    (missing : Option Nat) (badWord : Option (Fin 3072)) :
    execLineFetch k y done missing badWord s =
      let t := s.raceFetch k.val y (leastLines done)
      if t.dramFed k.val then
        .next (if missing.isSome then t.logEvent Ev.scanUnderrun noOwner [d8 k.val, d32 (t.rd (Obj.OUT_FRAME_COUNT k.val)), d16 y] else t)
      else .next (t.reelFetch k.val y badWord) := by
  unfold execLineFetch
  rw [governor_unpaired hp]
  dsimp only
  rw [if_neg (by simp [hphase, hempty, hy])]
  cases missing <;> rfl

/-! ## The statement -/

/-- Settles O19. A write that passes its checks changes what the object's own write says; a RACING fetch of a line that is not complete slips the frame, and the
rest of the fetch then finds nothing. -/
theorem reelWritesAndFetches : Obligations.ReelWritesAndFetches := by
  unfold Obligations.ReelWritesAndFetches
  refine ⟨⟨fun s rq k v ha => ⟨fun h => ?_, fun h => ?_⟩, fun s rq v ha => ⟨fun h => ?_, fun h => ?_⟩, fun s rq k v ha hv => ?_⟩,
    fun s k y done hp hphase hempty hy hinj => ⟨fun hidle hreel => ?_, fun hracing hreel hlate hfirst => ?_, fun hidle hdram hroom b => ?_⟩⟩
  · refine ⟨_, ownRequest_answers ha (writeCritRects_taken h) (by decide), rd_wr_same .., (out_setOut ..).trans (if_pos rfl),
      fun j hj => (out_setOut ..).trans (if_neg hj), answered_answer .., objectsBut_wr _ _ _, rfl⟩
  · exact ownRequest_answers ha (writeCritRects_refused h) (by decide)
  · refine ⟨_, ownRequest_answers ha (writeSubstTable_taken h) (by decide), ?_, answered_answer .., fun a hno => ?_, ?_⟩
    · rw [answer_rd, rd_wr_same]
    · rw [answer_rd, rd_wr_other _ _ _ _ fun h => hno (List.mem_singleton.2 h)]
    · rw [apart_answer, apart_wr]
  · exact ownRequest_answers ha (writeSubstTable_refused h) (by decide)
  · have apart : Obj.REEL_SCAN_MODE k.val ≠ Obj.REEL_OUT_STATUS k.val := by
      simp only [Obj.REEL_SCAN_MODE, Obj.REEL_OUT_STATUS]
      omega
    refine ⟨_, ownRequest_answers ha (writeScanMode_taken s k hv) (by decide), ?_, ?_, answered_answer .., fun a hno => ?_, rfl⟩
    · rw [answer_rd, rd_wrBit, if_neg apart, rd_wr_same]
    · rw [answer_rd, rd_wrBit, if_pos rfl, bit_setBit, if_pos rfl]
    · simp only [List.mem_cons, List.not_mem_nil, or_false, not_or] at hno
      rw [answer_rd, rd_wrBit, if_neg hno.2, rd_wr_other _ _ _ _ hno.1]
  · have idle := raceFetch_idle (s := s) (k := k.val) (by rwa [governor_unpaired hp]) y (leastLines done)
    refine (execLineFetch_active hp hphase hempty hy done none none).trans ?_
    simp only [idle, hreel, reelFetch_clean hinj]
    rfl
  · have slipped := raceFetch_slips hp hracing hlate hfirst
    have quiet : (s.raceFetch k.val y (leastLines done)).rd Obj.INJ_ENABLE ≠ 1 := by rwa [slipped.injection]
    have fed : (s.raceFetch k.val y (leastLines done)).dramFed k.val = false := (dramFed_congr slipped.grip _).trans hreel
    refine ⟨s.raceFetch k.val y (leastLines done), (execLineFetch_active hp hphase hempty hy done none none).trans ?_,
      slipped.count, slipped.flag, slipped.position, slipped.flip, byte_of_mem _ _ slipped.mem⟩
    simp only [fed, reelFetch_clean quiet]
    rfl
  · have idle := raceFetch_idle (s := s) (k := k.val) (by rwa [governor_unpaired hp]) y (leastLines done)
    refine ⟨s.logEvent Ev.scanUnderrun noOwner [d8 k.val, d32 (s.rd (Obj.OUT_FRAME_COUNT k.val)), d16 y],
      (execLineFetch_active hp hphase hempty hy done (some b) none).trans ?_, told_logEvent _ _ _ _ hroom, apart_logEvent .., fun a hno => ?_⟩
    · simp only [idle, hdram]
      rfl
    · exact rd_logEvent _ _ _ _ _ fun h => hno (List.mem_singleton.2 h)

end Sys2Proof.Machine
end

section
/-!
SUPPORT. O23, in three parts. A frame start and the entry into GLASS_HOLD set a few fields of one output and one object of it; what follows them on the way (buffers,
guards, ports, and what other outputs then start) leaves these alone. `State.Keeps` says so of one view of one output and of one object: its rules first, and what
moves buffers and slots, which keeps any view.
-/
namespace Sys2Proof.Machine
open Sys2Proof

namespace State

/-- What `view` sees of output `k`, and the object at `a`, are as they were. -/
structure Keeps {β : Type} (view : Output → β) (k a : Nat) (s t : State) : Prop where
  out : view (t.out k) = view (s.out k)
  obj : t.rd a = s.rd a

namespace Keeps
variable {β : Type} {view : Output → β} {k a : Nat} {s t u : State}

theorem refl (s : State) : Keeps view k a s s := ⟨rfl, rfl⟩

theorem trans (h : Keeps view k a s t) (h' : Keeps view k a t u) : Keeps view k a s u := ⟨h'.out.trans h.out, h'.obj.trans h.obj⟩

theorem ite (c : Prop) [Decidable c] (h : Keeps view k a s t) (h' : Keeps view k a s u) : Keeps view k a s (if c then t else u) := by
  split
  · exact h
  · exact h'

theorem each {α : Type} (s : State) (l : List α) (f : State → α → State) (hf : ∀ t x, Keeps view k a t (f t x)) : Keeps view k a s (s.each l f) :=
  State.each_keeps (Keeps view k a s) l f s (fun t x h => h.trans (hf t x)) (refl s)

/-! ## Fields and objects -/

theorem of_outs (houts : t.outs = s.outs) (hobj : t.rd a = s.rd a) : Keeps view k a s t := ⟨by rw [State.out, houts, State.out], hobj⟩

theorem of_fields (houts : t.outs = s.outs) (hobjs : t.objs = s.objs) : Keeps view k a s t := of_outs houts (by rw [rd, hobjs, rd])

theorem wr (s : State) (b v : Nat) (h : a ≠ b) : Keeps view k a s (s.wr b v) := of_outs rfl (rd_wr_other _ _ _ _ h)

theorem wrBit (s : State) (b i : Nat) (on : Bool) (h : a ≠ b) : Keeps view k a s (s.wrBit b i on) := wr s b _ h

theorem setOut (s : State) (j : Nat) (x : Output) (h : j = k → view x = view (s.out k)) : Keeps view k a s (s.setOut j x) := by
  refine ⟨?_, rfl⟩
  rw [out_setOut]
  split
  next hj => exact h hj.symm
  · rfl

theorem modOut (s : State) (j : Nat) (f : Output → Output) (h : ∀ x, view (f x) = view x) : Keeps view k a s (s.modOut j f) :=
  setOut s j _ fun hj => hj ▸ h _

theorem logEvent (h : a ≠ Obj.LOG_LOST) (s : State) (code source : Nat) (ds : List Detail) : Keeps view k a s (s.logEvent code source ds) :=
  of_outs (logEvent_outs ..) (rd_logEvent _ _ _ _ _ h)

theorem setBacking (s : State) (j : Nat) (b : Backing) : Keeps view k a s (s.setBacking j b) := of_fields rfl rfl

theorem setFront (s : State) (p : Nat) (x : FrontEnd) : Keeps view k a s (s.setFront p x) := of_fields rfl rfl

theorem setSurf (s : State) (n : Nat) (x : Surface) : Keeps view k a s (s.setSurf n x) := of_fields rfl rfl

theorem guards (s : State) (gs : List Guard) : Keeps view k a s { s with guards := gs } := of_fields rfl rfl

/-! ## Buffers (R76, R87, R112) -/

theorem reassignBuffer (s : State) (j i : Nat) : Keeps view k a s (s.reassignBuffer j i) := by
  unfold State.reassignBuffer
  dsimp only
  split
  · exact setBacking ..
  · exact refl s

theorem returnEach (h : a ≠ Obj.LOG_LOST) (s : State) (l : List Nat) : Keeps view k a s (s.returnEach l) := by
  induction l generalizing s with
  | nil => exact refl s
  | cons j l ih =>
    unfold State.returnEach
    dsimp only
    split
    · split
      · exact ((setBacking s j _).trans (logEvent h ..)).trans (ih _)
      · exact refl s
    · exact ih s

theorem takeNextHold (h : a ≠ Obj.LOG_LOST) (s : State) (j : Nat) : Keeps view k a s (s.takeNextHold j) := by
  unfold State.takeNextHold
  dsimp only
  split
  · exact refl s
  · exact ((setBacking s j _).trans (ite _ (refl _) (logEvent h ..))).trans (returnEach h ..)

end Keeps

/-! ## Guards (R336, R337) -/

/-- An object whose subindex is above those of the slots is none of them (R54). -/
theorem slot_ne {a : Nat} (h : 6 < a % 256) (n : Nat) : a ≠ Obj.SLOT_POSITION n ∧ a ≠ Obj.SLOT_ACTION n ∧ a ≠ Obj.SLOT_ARG n ∧ a ≠ Obj.SLOT_OWNER n ∧
    a ≠ Obj.SLOT_CONTROL n ∧ a ≠ Obj.SLOT_STATE n := by
  refine ⟨?_, ?_, ?_, ?_, ?_, ?_⟩ <;> rintro rfl <;>
    simp only [Obj.SLOT_POSITION, Obj.SLOT_ACTION, Obj.SLOT_ARG, Obj.SLOT_OWNER, Obj.SLOT_CONTROL, Obj.SLOT_STATE] at h <;> omega

section
variable {β : Type} {view : Output → β} {k a : Nat} (ha : 6 < a % 256)
include ha

theorem keeps_writeSlotControl (s : State) (n v : Nat) : Keeps view k a s (s.writeSlotControl n v).2 := by
  obtain ⟨-, -, -, -, hcontrol, hstate⟩ := slot_ne ha n
  have written (m x : Nat) (due : List DueSlot) :
      Keeps view k a s { (s.wr (Obj.SLOT_CONTROL n) m).wr (Obj.SLOT_STATE n) x with dueSlots := due } :=
    ((Keeps.wr s _ m hcontrol).trans (.wr _ _ x hstate)).trans (.of_fields rfl rfl)
  unfold writeSlotControl
  dsimp only
  split
  · split
    · exact .refl s
    · split
      · exact written ..
      · exact written ..
  · split
    · exact written ..
    · exact .wr _ _ _ hcontrol

theorem keeps_armFor (s : State) (n owner action arg pos ctl : Nat) : Keeps view k a s (s.armFor n owner action arg pos ctl).2 := by
  obtain ⟨hpos, haction, harg, howner, -, -⟩ := slot_ne ha n
  have fields : Keeps view k a s
      ((((s.wr (Obj.SLOT_POSITION n) pos).wr (Obj.SLOT_ACTION n) action).wr (Obj.SLOT_ARG n) arg).wr (Obj.SLOT_OWNER n) owner) :=
    (((Keeps.wr s _ _ hpos).trans (.wr _ _ _ haction)).trans (.wr _ _ _ harg)).trans (.wr _ _ _ howner)
  unfold armFor
  dsimp only
  split
  · exact fields.trans (keeps_writeSlotControl ha ..)
  · exact .refl s

theorem keeps_dropSlot (s : State) (n : Nat) : Keeps view k a s (s.dropSlot n) :=
  .ite _ (.refl s) (keeps_writeSlotControl ha ..)

theorem keeps_armVictim (s : State) (j : Nat) (pos : Spos) (i : Nat) : Keeps view k a s (s.armVictim j pos i) := by
  unfold armVictim
  split
  · exact .ite _ ((Keeps.guards s _).trans ((keeps_writeSlotControl ha ..).trans (keeps_armFor ha ..))) (.guards s _)
  · split
    · exact .refl s
    · exact .ite _ ((keeps_armFor ha ..).trans (.guards _ _)) (keeps_armFor ha ..)

theorem keeps_reconsider (s : State) (j : Nat) : Keeps view k a s (s.reconsider j) := by
  unfold reconsider
  split
  · exact .refl s
  · split
    · exact .refl s
    · extract_lets vs gone s₁ s₂ pos
      have dropped : Keeps view k a s s₂ := (Keeps.guards s _).trans (.each _ _ _ fun t g => keeps_dropSlot ha t g.slot)
      exact .ite _ dropped (dropped.trans (.each _ _ _ fun t i => keeps_armVictim ha t j _ i))

theorem keeps_reconsiderAll (s : State) : Keeps view k a s s.reconsiderAll :=
  .ite _ (.refl s) (.each _ _ _ fun t j => keeps_reconsider ha t j)

/-- The guard of a frame keeps every view that does not see its times. -/
theorem keeps_armGuard (hl : a ≠ Obj.LOG_LOST) (hv : ∀ (x : Output) (g : Option Nat) (n : Nat), view { x with guardTime := g, staleTime := n } = view x)
    (s : State) (j : Nat) : Keeps view k a s (s.armGuard j) := by
  have cleared (t : State) : Keeps view k a t (t.modOut j fun x => { x with guardTime := none }) := .modOut t j _ fun x => hv x none x.staleTime
  have skipped (t : State) : Keeps view k a t (t.skipGuard j) :=
    .ite _ ((cleared t).trans (.of_fields rfl rfl)) ((cleared t).trans (.logEvent hl ..))
  unfold armGuard
  split
  · exact cleared s
  · extract_lets x e now ahead back t s₁
    have timed : Keeps view k a s s₁ := .modOut s j _ fun x => hv x _ _
    exact .ite _ (timed.trans (skipped _)) (timed.trans (keeps_reconsider ha ..))

end

/-- What the touch front ends do at a frame start keeps every output (R452). -/
theorem keeps_touchFrameStart {β : Type} {view : Output → β} {k a : Nat} (hl : a ≠ Obj.LOG_LOST) (s : State) (j : Nat) :
    Keeps view k a s (s.touchFrameStart j) := by
  refine .each _ _ _ fun t p => ?_
  dsimp only
  split
  · exact .ite _ ((Keeps.setFront t p _).trans (.logEvent hl ..)) (.refl t)
  · exact .refl t

end State

end Sys2Proof.Machine
end

section
/-!
SUPPORT. O23, the second part: what a frame start shows (R113, R203, R204). The frame is counted, then a complete composition is shown or the frame is a REPEAT; the
rest of the frame start keeps both and puts the raster in its active lines.
-/
namespace Sys2Proof.Machine
open Sys2Proof

namespace State

/-- What output `k` shows, and its frame counter, are as they were. -/
abbrev FrameKept (k : Fin 12) : State → State → Prop :=
  Keeps (fun x => (x.showing, x.front, x.consecutiveRepeats)) k.val (Obj.OUT_FRAME_COUNT k.val)

theorem frameCount_ne_logLost (k : Nat) : Obj.OUT_FRAME_COUNT k ≠ Obj.LOG_LOST := by
  simp only [Obj.OUT_FRAME_COUNT, Obj.LOG_LOST]
  omega

/-- An object of a unit at another subindex is not the frame counter (R203). -/
theorem frameCount_ne_unit (k : Nat) {b n : Nat} (h : b % 256 ≠ 9) : Obj.OUT_FRAME_COUNT k ≠ b + 256 * n := by
  simp only [Obj.OUT_FRAME_COUNT]
  omega

theorem portOf_lt {s : State} {k p : Nat} (h : s.portOf k = some p) : p < 14 := by
  unfold portOf at h
  dsimp only at h
  split at h
  next hp => exact Option.some.inj h ▸ hp
  · simp at h

namespace FrameKept
variable {k : Fin 12} {s t : State}

theorem showing (h : FrameKept k s t) : (t.out k.val).showing = (s.out k.val).showing := congrArg Prod.fst h.out

theorem front (h : FrameKept k s t) : (t.out k.val).front = (s.out k.val).front := congrArg (fun v => v.2.1) h.out

theorem repeats (h : FrameKept k s t) : (t.out k.val).consecutiveRepeats = (s.out k.val).consecutiveRepeats := congrArg (fun v => v.2.2) h.out

theorem log (s : State) (code source : Nat) (ds : List Detail) : FrameKept k s (s.logEvent code source ds) := .logEvent (frameCount_ne_logLost _) ..

theorem setPs (s : State) {p : Nat} (hp : p < 14) (b : Nat) (v : Bool) : FrameKept k s (s.setPs p b v) := by
  refine .wrBit s _ b v ?_
  simp only [Obj.OUT_FRAME_COUNT, Obj.PORT_STATUS]
  omega

theorem modPort (s : State) (p : Nat) (f : Port → Port) : FrameKept k s (s.modPort p f) := .of_fields rfl rfl

theorem endLead (s : State) (j : Nat) : FrameKept k s (s.endLead j) := by
  unfold State.endLead
  extract_lets s₁
  have lead : FrameKept k s s₁ := by
    simp only [s₁]
    split
    · exact .each _ _ _ fun t m => .wr t (Obj.REEL_OUT_MIN_LEAD m) _ (frameCount_ne_unit _ (by decide))
    · exact .refl s
  exact lead.trans (.modOut _ _ _ fun _ => rfl)

theorem enter (s : State) (j : Nat) (x : OutState) : FrameKept k s (s.enter j x) :=
  (Keeps.modOut s j (fun o => { o with state := x }) fun _ => rfl).trans (.wr _ (Obj.OUT_STATE j) _ (frameCount_ne_unit _ (by decide)))

theorem endWake (s : State) (j : Nat) : FrameKept k s (s.endWake j) := by
  unfold State.endWake
  split
  · exact .refl s
  · extract_lets us s₁ s₂
    have woken : FrameKept k s s₁ := (Keeps.modOut s j (fun x => { x with wakeFrom := none }) fun _ => rfl).trans (.each _ _ _ fun t m => enter t m _)
    have logged : FrameKept k s s₂ := woken.trans (log ..)
    exact .ite _ (logged.trans (log ..)) logged

theorem portFrame (s : State) (j : Nat) : FrameKept k s (s.portFrame j) := by
  unfold State.portFrame
  split
  · exact .refl s
  next p hp =>
    have hp := portOf_lt hp
    extract_lets s₁ mode
    have landed : FrameKept k s s₁ := by
      simp only [s₁]
      split
      · exact ((modPort s p _).trans (setPs _ hp ..)).trans (.wr _ (Obj.PORT_LINK_NOW p) _ (frameCount_ne_unit _ (by decide)))
      · exact .refl s
    exact landed.trans (setPs _ hp ..)

theorem repeatFrame (s : State) (j : Nat) :
    FrameKept k (s.modOut j fun x => { x with showing := none, consecutiveRepeats := x.consecutiveRepeats + 1 }) (s.repeatFrame j) :=
  .each _ _ _ fun t m => .wr t (Obj.OUT_FLIP_RECORD m) _ (frameCount_ne_unit _ (by decide))

end FrameKept

/-! ## The count (R203) -/

theorem rd_countFrame {s : State} {k : Nat} (hp : s.paired k = false) : (s.countFrame k).rd (Obj.OUT_FRAME_COUNT k) =
    if (s.out k).startedFrames = 0 then 0 else wrapAdd 32 (s.rd (Obj.OUT_FRAME_COUNT k)) 1 := by
  unfold countFrame
  extract_lets first s₁
  rw [show s₁.members k = [k] from members_unpaired hp]
  simp only [State.each, first, decide_eq_true_eq]
  split
  · exact rd_wr_same ..
  · exact rd_wr_same ..

theorem comps_countFrame (s : State) (k : Nat) : ((s.countFrame k).out k).comps = (s.out k).comps := by
  refine each_keeps (fun t => (t.out k).comps = (s.out k).comps) _ _ _ (fun t j h => ?_) ?_
  · split <;> exact h
  · rw [modOut, out_setOut, if_pos rfl]

theorem comps_endLead (s : State) (k : Nat) : ((s.endLead k).out k).comps = (s.out k).comps := by
  unfold endLead
  extract_lets s₁
  rw [modOut, out_setOut, if_pos rfl]
  simp only [s₁]
  split
  · exact each_keeps (fun t => (t.out k).comps = (s.out k).comps) _ _ _ (fun _ _ h => h) rfl
  · rfl

/-- The state of a frame start once the frame is counted, and the lead of the last one is recorded (R121, R203). -/
def frameCounted (s : State) (k : Nat) : State := (s.countFrame k).endLead k

theorem oldest_frameCounted (s : State) (k : Nat) : ((s.frameCounted k).out k).oldest = (s.out k).oldest := by
  rw [Output.oldest, frameCounted, comps_endLead, comps_countFrame, Output.oldest]

theorem rd_frameCounted {s : State} {k : Fin 12} (hp : s.paired k.val = false) : (s.frameCounted k.val).rd (Obj.OUT_FRAME_COUNT k.val) =
    if (s.out k.val).startedFrames = 0 then 0 else wrapAdd 32 (s.rd (Obj.OUT_FRAME_COUNT k.val)) 1 :=
  (FrameKept.endLead (k := k) _ _).obj.trans (rd_countFrame hp)

/-! ## What the frame shows (R113, R204) -/

theorem repeatFrame_shows (s : State) (k : Fin 12) : ((s.repeatFrame k.val).out k.val).showing = none ∧
    (s.repeatFrame k.val).rd (Obj.OUT_FRAME_COUNT k.val) = s.rd (Obj.OUT_FRAME_COUNT k.val) := by
  have recorded := FrameKept.repeatFrame (k := k) s k.val
  refine ⟨recorded.showing.trans ?_, recorded.obj⟩
  simp only [modOut, out_setOut, if_pos]

/-- The buffers of an output exchange roles: the buffer of a complete composition is the front one (R110 to R114). -/
theorem exchange_complete (s : State) (k : Fin 12) {c : Composition} (hc : c.complete = true) :
    ((s.exchange k.val c).out k.val).showing = some { c with shown := true } ∧ ((s.exchange k.val c).out k.val).front = c.buffer ∧
      (s.exchange k.val c).rd (Obj.OUT_FRAME_COUNT k.val) = s.rd (Obj.OUT_FRAME_COUNT k.val) := by
  unfold exchange
  extract_lets s₁
  have switched : FrameKept k s s₁ := by
    refine .each _ _ _ fun t j => ?_
    extract_lets t₁ t₂ b t₃
    have taken : FrameKept k t t₁ := .ite _ (.takeNextHold (frameCount_ne_logLost _) ..) (.refl t)
    have same : FrameKept k t₁ t₂ := .modOut _ _ _ fun _ => rfl
    have fed : FrameKept k t₂ t₃ := by
      simp only [t₃]
      split
      · exact .setBacking ..
      · exact .refl _
    exact (taken.trans (same.trans fed)).trans (.wrBit _ (Obj.REEL_OUT_STATUS j) _ _ (frameCount_ne_unit _ (by decide)))
  simp only [modOut, out_setOut, if_pos, hc]
  exact ⟨trivial, trivial, switched.obj⟩

theorem showFrame_shows (s : State) (k : Fin 12) {c : Composition} (hc : c.complete = true) :
    ((s.showFrame k.val c).out k.val).showing = some { c with shown := true } ∧ ((s.showFrame k.val c).out k.val).front = c.buffer ∧
      ((s.showFrame k.val c).out k.val).consecutiveRepeats = 0 ∧
      (s.showFrame k.val c).rd (Obj.OUT_FRAME_COUNT k.val) = s.rd (Obj.OUT_FRAME_COUNT k.val) := by
  obtain ⟨hshowing, hfront, hcount⟩ := exchange_complete s k hc
  unfold showFrame
  extract_lets wake s₁ s₂ s₃ s₄
  have recorded : FrameKept k s₁ s₂ := .each _ _ _ fun t m => .wr t (Obj.OUT_FLIP_RECORD m) _ (frameCount_ne_unit _ (by decide))
  have ended : FrameKept k s₃ (s₄.whenB wake fun s => s.endWake k.val) :=
    Keeps.trans (t := s₄) (.of_fields rfl rfl) (.ite _ (FrameKept.endWake ..) (.refl _))
  have cleared : s₃.out k.val = { s₂.out k.val with consecutiveRepeats := 0 } := (out_setOut ..).trans (if_pos rfl)
  refine ⟨ended.showing.trans ?_, ended.front.trans ?_, ended.repeats.trans ?_, ended.obj.trans (recorded.obj.trans hcount)⟩ <;> rw [cleared]
  · exact recorded.showing.trans hshowing
  · exact recorded.front.trans hfront

/-! ## The rest of a frame start (R87, R216, R336) -/

/-- The state of a frame start once the frame shows what it shows: a composition, or none in a REPEAT. -/
def frameShown (s : State) (k : Nat) (shows : Bool) : State :=
  match shows, ((s.frameCounted k).out k).oldest with
  | true, some c => (s.frameCounted k).showFrame k c
  | _, _ => (s.frameCounted k).repeatFrame k

theorem frameShown_repeat (s : State) (k : Nat) : s.frameShown k false = (s.frameCounted k).repeatFrame k := rfl

theorem frameShown_shows {s : State} {k : Nat} {c : Composition} (h : (s.out k).oldest = some c) :
    s.frameShown k true = (s.frameCounted k).showFrame k c := by
  unfold frameShown
  rw [oldest_frameCounted, h]

/-- What a frame start shows stays shown to its end, and the raster is in its active lines then. -/
theorem frameStart_opens {s : State} {k : Fin 12} {shows : Bool} (h : (s.out k.val).phase = .going shows) :
    FrameKept k (s.frameShown k.val shows) (s.frameStart k.val) ∧ ((s.frameStart k.val).out k.val).phase = .activeLines := by
  unfold frameStart
  split
  next shows' h' =>
    obtain rfl : shows' = shows := RasterPhase.going.inj (h'.symm.trans h)
    extract_lets s₁ s₂ s₃ s₄ s₅
    have hs₂ : s₂ = s.frameShown k.val shows' := rfl
    have prepared : FrameKept k s₂ s₃ := by
      refine .each _ _ _ fun t j => ?_
      extract_lets t₁ t₂
      have started : FrameKept k t₁ t₂ := .ite _ ((FrameKept.enter ..).trans (FrameKept.log ..)) (.refl _)
      exact ((Keeps.reassignBuffer ..).trans started).trans (FrameKept.portFrame ..)
    have opened : FrameKept k s₃ s₄ := .modOut _ _ _ fun _ => rfl
    have kept {β : Type} {view : Output → β} (hv : ∀ (x : Output) (g : Option Nat) (n : Nat), view { x with guardTime := g, staleTime := n } = view x) :
        Keeps view k.val (Obj.OUT_FRAME_COUNT k.val) s₄ (if s₅.governor s₅.leadOutput = k.val then s₅.reconsiderAll else s₅) := by
      have above : 6 < Obj.OUT_FRAME_COUNT k.val % 256 := by
        simp only [Obj.OUT_FRAME_COUNT]
        omega
      have guarded := keeps_armGuard (k := k.val) above (frameCount_ne_logLost _) hv s₄ k.val
      exact .ite _ (guarded.trans (keeps_reconsiderAll above _)) guarded
    refine ⟨hs₂ ▸ (prepared.trans opened).trans (kept fun _ _ _ => rfl), (kept (view := Output.phase) fun _ _ _ => rfl).out.trans ?_⟩
    simp only [s₄, modOut, out_setOut, if_pos]
  next hno => exact absurd h (hno shows)

end State

open State

/-! ## The command -/

/-- A frame start of an output that has gone opens the frame that it shows, for the touch front ends too (R452). -/
theorem execFrameStart_opens {s : State} {k : Fin 12} {shows : Bool} (hp : s.paired k.val = false) (h : (s.out k.val).phase = .going shows) :
    ∃ t, execFrameStart k s = .next t ∧ (t.out k.val).phase = .activeLines ∧ FrameKept k (s.frameShown k.val shows) t := by
  obtain ⟨kept, phase⟩ := frameStart_opens h
  have touched {β : Type} {view : Output → β} : Keeps view k.val (Obj.OUT_FRAME_COUNT k.val) (s.frameStart k.val)
      ((s.frameStart k.val).each (s.members k.val) fun s j => s.touchFrameStart j) :=
    .each _ _ _ fun t j => keeps_touchFrameStart (frameCount_ne_logLost _) t j
  refine ⟨_, ?_, (touched (view := Output.phase)).out.trans phase, kept.trans touched⟩
  unfold execFrameStart
  dsimp only
  rw [if_neg (by simp [pairOdd, hp]), h]

theorem execFrameStart_notGone {s : State} {k : Fin 12} (h : ∀ b, (s.out k.val).phase ≠ .going b) : execFrameStart k s = .next s := by
  unfold execFrameStart
  dsimp only
  split
  · rfl
  · split
    next b hb => exact absurd hb (h b)
    · rfl

end Sys2Proof.Machine
end

section
/-!
SUPPORT. O23, the third part: an output that has stopped stays so while other outputs start (R74, R211, R216). `Rests` says that an output has the state and the
phase it had, and that OUT_STATE says so. Most operations on outputs leave the two alone everywhere: one lemma each, in the model's order. The latch point alone
moves a phase, and only that of its own output; a raster starts there only where the output's state is STARTING.
-/
namespace Sys2Proof.Machine
open Sys2Proof

namespace State

/-- Output `k` has its state and its phase, and its OUT_STATE holds what it held. -/
abbrev Rests (k : Fin 12) : State → State → Prop := Keeps (fun x => (x.state, x.phase)) k.val (Obj.OUT_STATE k.val)

theorem outState_ne_logLost (k : Fin 12) : Obj.OUT_STATE k.val ≠ Obj.LOG_LOST := by
  simp only [Obj.OUT_STATE, Obj.LOG_LOST]
  omega

/-- An object of a unit at another subindex is no OUT_STATE (R218). -/
theorem outState_ne_unit (k : Nat) {b n : Nat} (h : b % 256 ≠ 4) : Obj.OUT_STATE k ≠ b + 256 * n := by
  simp only [Obj.OUT_STATE]
  omega

/-- An object with another subindex is no OUT_STATE. -/
theorem outState_ne (k : Nat) {a : Nat} (h : a % 256 ≠ 4) : Obj.OUT_STATE k ≠ a := by
  rintro rfl
  simp only [Obj.OUT_STATE] at h
  omega

/-- An output is one of those that a commit on it covers (R208). -/
theorem mem_members (s : State) (k : Nat) : k ∈ s.members k := by
  unfold members
  split
  · simp only [List.mem_cons, List.not_mem_nil, or_false]
    omega
  · exact List.mem_singleton_self k

/-! ## Completion (R313) -/

theorem rd_writeRecord (s : State) (it : Item) (status detail : Nat) (pos : Spos) (time a : Nat) :
    (s.writeRecord it status detail pos time).rd a = s.rd a := by
  unfold writeRecord ioWrite
  dsimp only
  split
  · split
    · rfl
    · split <;> split <;> rfl
  · rfl

/-- A completion writes no object but LOG_LOST and the count of squashed items. -/
theorem rd_completeAt (s : State) (id status detail : Nat) (pos : Spos) (time a : Nat) (hl : a ≠ Obj.LOG_LOST) (hs : ∀ o, a ≠ Obj.INST_SQUASHED o) :
    (s.completeAt id status detail pos time).rd a = s.rd a := by
  unfold completeAt
  split
  · rfl
  next it _ =>
    extract_lets s₁ s₂ s₃
    have recorded : s₃.rd a = s.rd a := (rd_tallyCount _ _ _ _ _ hl).trans (rd_writeRecord s₁ ..)
    split
    · rw [rd_tallyCount _ _ _ _ _ hl, rd_count, if_neg (hs _), recorded]
    · exact recorded

namespace Rests
variable {k : Fin 12} {s t : State}

theorem state (h : Rests k s t) : (t.out k.val).state = (s.out k.val).state := congrArg Prod.fst h.out

theorem phase (h : Rests k s t) : (t.out k.val).phase = (s.out k.val).phase := congrArg Prod.snd h.out

theorem log (s : State) (code source : Nat) (ds : List Detail) : Rests k s (s.logEvent code source ds) := .logEvent (outState_ne_logLost k) ..

theorem completeAt (s : State) (id status detail : Nat) (pos : Spos) (time : Nat) : Rests k s (s.completeAt id status detail pos time) :=
  .of_outs (completeAt_outs ..) (rd_completeAt _ _ _ _ _ _ _ (outState_ne_logLost k) fun o => outState_ne_unit _ (by decide))

/-! ## Backing of outputs (R74 to R76) -/

theorem markDramFed (s : State) (j : Nat) (b : Bool) : Rests k s (s.markDramFed j b) := by
  have hmask : Obj.OUT_STATE k.val ≠ Obj.GRIP_DRAM_FED_MASK := by
    simp only [Obj.OUT_STATE, Obj.GRIP_DRAM_FED_MASK]
    omega
  exact (Keeps.wrBit s _ j b hmask).trans (.wrBit _ (Obj.REEL_OUT_STATUS j) _ _ (outState_ne_unit _ (by decide)))

theorem unawaited (s : State) (j : Nat) : Rests k s (s.unawaited j) :=
  ⟨congrArg (fun x => (x.state, x.phase)) (out_mapOuts s (fun x => { x with moving := x.moving.filter (fun x => !decide (x = j)) }) rfl k.val), rfl⟩

theorem switchDram (s : State) (j : Nat) : Rests k s (s.switchDram j) := by
  unfold State.switchDram
  dsimp only
  split
  · exact .refl s
  next d _ =>
    have fed (b : Backing) : Rests k s (((s.setBacking j b).markDramFed j true).logEvent Ev.dramFedEnter noOwner [d8 j, d8 d.channel]) :=
      ((Keeps.setBacking s j b).trans (markDramFed ..)).trans (log ..)
    exact ((fed _).trans (.ite _ (.refl _) (log ..))).trans (unawaited ..)

theorem leaveDram (s : State) (j : Nat) : Rests k s (s.leaveDram j) := by
  unfold State.leaveDram
  dsimp only
  split
  · exact .refl s
  · exact ((Keeps.setBacking s j _).trans (markDramFed ..)).trans (log ..)

/-! ## What latches with a frame (R84, R89, R107, R122, R171) -/

theorem cutover (s : State) (n : Nat) : Rests k s (s.cutover n) := by
  unfold State.cutover
  dsimp only
  split
  · exact .refl s
  · exact .ite _ (.refl s) (Keeps.trans (.setSurf s n _) (log ..))

theorem cutoverAtLatch (s : State) (j : Nat) : Rests k s (s.cutoverAtLatch j) := .each _ _ _ fun t _ => cutover t _

theorem latchCritRects (s : State) (j : Nat) : Rests k s (s.latchCritRects j) :=
  .ite _ (.setOut s j _ fun hj => hj ▸ rfl) (.refl s)

theorem latchScanMode (s : State) (j : Nat) : Rests k s (s.latchScanMode j) := by
  have status (t : State) (i : Nat) (on : Bool) : Rests k t (t.wrBit (Obj.REEL_OUT_STATUS j) i on) :=
    .wrBit t _ _ _ (outState_ne_unit _ (by decide))
  unfold State.latchScanMode
  split
  · exact .refl s
  · extract_lets racing x s₁ x'
    refine .ite _ (status ..) ((((status s _ _).trans (.setOut s₁ j x' fun hj => ?_)).trans (status ..)).trans (log ..))
    subst hj
    simp only [x']
    split <;> rfl

theorem markColour (s : State) (j : Nat) : Rests k s (s.markColour j) :=
  (Keeps.wrBit s (Obj.OUT_COLOUR_STATUS j) _ _ (outState_ne_unit _ (by decide))).trans
    (.wrBit _ (Obj.OUT_COLOUR_STATUS j) _ _ (outState_ne_unit _ (by decide)))

theorem latchColour (s : State) (j n : Nat) : Rests k s (s.latchColour j n) := by
  unfold State.latchColour
  extract_lets x now s₁ s₂
  have taken : Rests k s s₂ := Keeps.trans (t := s₁) (.of_fields rfl rfl) (.setOut s₁ j _ fun hj => hj ▸ rfl)
  have swapped (bank : Nat) : Rests k s₂ ((s₂.modOut j fun x => { x with swapAsked := none }).wr (Obj.OUT_LUT3D_ACTIVE j) bank) :=
    (Keeps.modOut s₂ j (fun x => { x with swapAsked := none }) fun _ => rfl).trans (.wr _ (Obj.OUT_LUT3D_ACTIVE j) bank (outState_ne_unit _ (by decide)))
  split
  · split
    · exact ((taken.trans (swapped _)).trans (markColour ..)).trans (log ..)
    · exact taken.trans (markColour ..)
  · exact taken.trans (markColour ..)

/-! ## Compositions and engines (R77, R78, R137 to R142) -/

theorem idleEngine (s : State) (e : Nat) : Rests k s (s.idleEngine e) :=
  .ite _ (.refl s) ((Keeps.wr s (Obj.ME_STATE e) _ (outState_ne_unit _ (by decide))).trans (.wr _ (Obj.ME_TARGET e) _ (outState_ne_unit _ (by decide))))

theorem unbindLayers (s : State) (e : Nat) : Rests k s (s.unbindLayers e) := .of_fields rfl rfl

theorem bindLayers (s : State) (j : Nat) (c : Composition) (half e : Nat) : Rests k s (s.bindLayers j c half e) :=
  (unbindLayers s e).trans (.each _ _ _ fun _ _ => .of_fields rfl rfl)

theorem startEngine (s : State) (j : Nat) (c : Composition) (half e : Nat) : Rests k s (s.startEngine j c half e) :=
  ((bindLayers s j c half e).trans (.wr _ (Obj.ME_STATE e) _ (outState_ne_unit _ (by decide)))).trans
    (.wr _ (Obj.ME_TARGET e) _ (outState_ne_unit _ (by decide)))

theorem modEngines (s : State) (j : Nat) (f : Output → List Nat) : Rests k s (s.modOut j fun x => { x with lastEngine := f x }) :=
  .modOut s j _ fun _ => rfl

theorem modComp (s : State) (j id : Nat) (f : Composition → Composition) : Rests k s (s.modComp j id f) := .modOut s j _ fun _ => rfl

theorem assign (s : State) (j id half e : Nat) : Rests k s (s.assign j id half e) := by
  unfold State.assign
  extract_lets s₁ s₂
  have assigned : Rests k s s₂ := (modEngines s j fun x => setAt x.lastEngine half e).trans (modComp ..)
  split
  · exact assigned.trans (startEngine ..)
  · exact assigned

theorem releaseSplit (s : State) (j : Nat) : Rests k s (s.releaseSplit j) := by
  unfold State.releaseSplit
  dsimp only
  split
  · exact (((Keeps.setOut s j _ fun hj => hj ▸ rfl).trans (unbindLayers ..)).trans (idleEngine ..)).trans (log ..)
  · exact .setOut s j _ fun hj => hj ▸ rfl

theorem endSplit (s : State) : Rests k s s.endSplit.2 := by
  unfold State.endSplit
  split
  · exact .refl s
  · split
    · exact Keeps.modOut s _ (fun x => { x with splitEnding := true }) fun _ => rfl
    · exact releaseSplit ..

theorem bindHalf (s : State) (j half : Nat) : Rests k s (s.bindHalf j half) := by
  unfold State.bindHalf
  extract_lets x prior moved take r s₁
  have took (t : State) (e : Nat) : Rests k t (take t e) :=
    ((Keeps.ite _ ((unbindLayers ..).trans (idleEngine ..)) (.refl t)).trans (modEngines ..)).trans (.ite _ (.refl _) (log ..))
  have ended : Rests k s r.2 := endSplit s
  split
  · exact .refl s
  · split
    · exact took ..
    · split
      · split
        · exact ended.trans (took ..)
        · exact ended.trans (modEngines ..)
      · exact (ended.trans (log ..)).trans (.ite _ (modEngines ..) (.refl _))

theorem decideSplit (s : State) (j est : Nat) : Rests k s (s.decideSplit j est) := by
  unfold State.decideSplit
  extract_lets x thr period
  split
  · exact .refl s
  · split
    · exact .ite _ (releaseSplit ..) (.refl s)
    · split
      · exact .refl s
      · split
        · exact (Keeps.setOut s j _ fun hj => hj ▸ rfl).trans (log ..)
        · exact log ..

theorem markSolid (s : State) (j : Nat) (ls : List (Nat × BitVec 512 × Nat)) : Rests k s (s.markSolid j ls) := by
  have marked (t : State) (on : Bool) : Rests k t (t.wrBit (Obj.OUT_COLOUR_STATUS j) 2 on) := .wrBit t _ _ _ (outState_ne_unit _ (by decide))
  unfold State.markSolid
  split
  · exact .ite _ ((marked ..).trans (log ..)) (marked ..)
  · exact marked ..

theorem failUnit (s : State) (n : Nat) : Rests k s (s.failUnit n) := .ite _ (.refl s) (.of_fields rfl rfl)

theorem logInjected (s : State) (code source : Nat) (i : Bool) (ds : List Detail) : Rests k s (s.logInjected code source i ds) :=
  .of_outs (logInjected_outs ..) (rd_logInjected _ _ _ _ _ _ (outState_ne_logLost k))

theorem inject (s : State) (d n : Nat) : Rests k s (s.inject d n).2 := by
  unfold State.inject
  extract_lets arm p s₁ s₂
  have counted : Rests k s s₁ := (Keeps.wr s (Obj.INJ_FIRED d) _ (outState_ne_unit _ (by decide))).trans (.wr _ Obj.INJ_TOTAL _ (outState_ne _ (by decide)))
  have disarmed : Rests k s₁ s₂ := .ite _ (.wr _ (Obj.INJ_ARM d) _ (outState_ne_unit _ (by decide))) (.refl _)
  split
  · dsimp only
    exact (counted.trans disarmed).trans (logInjected ..)
  · exact .refl s

theorem injectEngine (s : State) (j e : Nat) : Rests k s (s.injectEngine j e) := by
  unfold State.injectEngine
  dsimp only
  split
  · exact inject ..
  · exact ((inject s 14 e).trans (logInjected ..)).trans (.ite _ (failUnit ..) (.refl _))

/-! ## Latching (R146, R183, R187 to R202) -/

theorem rejectPart (s : State) (j : Nat) (f : Nat × Nat) (cs : List Commit) : Rests k s (s.rejectPart j f cs) :=
  ((Keeps.wr s Obj.MATTE_REJECT_COUNT _ (outState_ne _ (by decide))).trans (log ..)).trans (.each _ _ _ fun _ _ => completeAt ..)

theorem startComposition (s : State) (j : Nat) (c : Composition) (atLatchPoint : Bool) : Rests k s (s.startComposition j c atLatchPoint) := by
  unfold State.startComposition
  extract_lets s₁ x n s₂ s₃ ests c' s₄ s₅
  have split₁ : Rests k s s₁ := .ite _ (decideSplit ..) (.refl s)
  have bound : Rests k s₁ s₃ := (modEngines s₁ j fun x => (List.range n).map (fun h => x.lastEngine.getD h 0xFF)).trans (.each _ _ _ fun t h => bindHalf ..)
  have begun : Rests k s₃ s₄ := .modOut _ _ _ fun _ => rfl
  have injected : Rests k s₄ s₅ := .each _ _ _ fun t h => .ite _ (injectEngine ..) (.refl t)
  refine ((split₁.trans bound).trans (begun.trans injected)).trans (.each _ _ _ fun t h => ?_)
  dsimp only
  split
  · exact .refl t
  · exact .ite _ ((bindHalf ..).trans (.ite _ (assign ..) (.refl _))) (assign ..)

theorem latchInto (s : State) (j : Nat) (cs : List Commit) (buffer : Nat) (atLatchPoint heldAnyway : Bool) :
    Rests k s (s.latchInto j cs buffer atLatchPoint heldAnyway) := by
  unfold State.latchInto
  extract_lets x prev shadow stale failN failC bad s₁ s₂ good keep layers s₃ staleNow frame s₄ s₅ last s₆ late s₇ noted s₈ o c
  clear_value failN failC
  have h₁ : Rests k s s₁ := by
    simp only [s₁]
    split
    · exact rejectPart ..
    · exact .refl s
  have h₂ : Rests k s₁ s₂ := by
    simp only [s₂]
    split
    · exact rejectPart ..
    · exact .refl _
  have h₃ : Rests k s s₃ := (h₁.trans h₂).trans (.modOut _ _ _ fun _ => rfl)
  have h₄ : Rests k s₃ s₄ := .each _ _ _ fun t z => (Keeps.wr t Obj.MATTE_STALE_COUNT _ (outState_ne _ (by decide))).trans (log ..)
  have h₅ : Rests k s₄ s₅ := .ite _ (.each _ _ _ fun t c => log ..) (.refl _)
  have h₆ : Rests k s₅ s₆ := by
    simp only [s₆]
    split
    · exact .each _ _ _ fun t m => latchColour ..
    · exact .refl _
  have h₇ : Rests k s₆ s₇ := .each _ _ _ fun t c => (Keeps.wr t (Obj.OUT_LATE_COUNT j) _ (outState_ne_unit _ (by decide))).trans (log ..)
  have h₈ : Rests k s₇ s₈ := markSolid ..
  have ho : Rests k s₈ o.2 := .of_fields rfl rfl
  exact .ite _ h₃ ((h₃.trans (h₄.trans (h₅.trans (h₆.trans (h₇.trans (h₈.trans ho)))))).trans (startComposition ..))

theorem latchOpportunity (s : State) (j line : Nat) (atLatchPoint : Bool) : Rests k s (s.latchOpportunity j line atLatchPoint) := by
  unfold State.latchOpportunity
  dsimp only
  split
  · exact .refl s
  · split
    · exact .ite _ (.setOut s j _ fun hj => hj ▸ rfl) (.refl s)
    · exact .ite _ (.refl s) (latchInto ..)

theorem endShown (s : State) (j : Nat) : Rests k s (s.endShown j) := by
  unfold State.endShown
  split
  · exact .refl s
  · exact Keeps.trans (.each _ _ _ fun t c => completeAt ..) (.modOut _ _ _ fun _ => rfl)

theorem setTotals (s : State) (j t : Nat) (i : OutIntent) : Rests k s (s.setTotals j t i) :=
  (Keeps.wr s (Obj.OUT_VT_MIN j) _ (outState_ne_unit _ (by decide))).trans (.wr _ (Obj.OUT_VT_MAX j) _ (outState_ne_unit _ (by decide)))

theorem latchIntent (s : State) (j : Nat) : Rests k s (s.latchIntent j) := by
  unfold State.latchIntent
  split
  · exact .refl s
  next i _ =>
    exact (Keeps.modOut s j (fun x => { x with intent := some i, nextIntent := none }) fun _ => rfl).trans (.each _ _ _ fun t m => setTotals ..)

theorem latchMode (s : State) (j : Nat) : Rests k s (s.latchMode j) := by
  unfold State.latchMode
  extract_lets strict was s₁
  have set : Rests k s s₁ := .modOut _ _ _ fun _ => rfl
  exact .ite _ (set.trans (log ..)) set

theorem latchReturn (s : State) (j : Nat) : Rests k s (s.latchReturn j) :=
  .ite _ ((Keeps.modOut s j (fun x => { x with comps := x.comps.map (fun c => { c with toReel := false }) }) fun _ => rfl).trans
    (.each _ _ _ fun _ _ => leaveDram ..)) (.refl s)

/-- A latch point moves the phase of its own output alone. -/
theorem latchPoint (s : State) {j : Nat} (h : j ≠ k.val) : Rests k s (s.latchPoint j) := by
  unfold State.latchPoint
  extract_lets s₁ s₂ s₃ s₄ s₅ s₆
  have h₁ : Rests k s s₁ := (endShown s j).trans (.setOut _ j _ fun hj => absurd hj h)
  have h₂ : Rests k s₁ s₂ := (latchIntent ..).trans (latchMode ..)
  have h₃ : Rests k s₂ s₃ := .each _ _ _ fun t m => ((latchCritRects t m).trans (latchScanMode ..)).trans (switchDram ..)
  have h₄ : Rests k s₃ s₄ := latchReturn ..
  have h₅ : Rests k s₄ s₅ := .each _ _ _ fun t m => cutoverAtLatch ..
  have h₆ : Rests k s₅ s₆ := by
    simp only [s₆]
    split
    · exact .each _ _ _ fun _ _ => .reassignBuffer ..
    · exact .refl _
  exact (h₁.trans (h₂.trans (h₃.trans (h₄.trans (h₅.trans h₆))))).trans (latchOpportunity ..)

/-! ## Starting (R74, R216, R579) -/

theorem startPixel (s : State) (j : Nat) : Rests k s (s.startPixel j) := by
  unfold State.startPixel
  extract_lets f p n s₁
  have locked : Rests k s s₁ := by
    refine .ite _ (.refl s) (Keeps.trans (Keeps.trans (Keeps.trans (.wr s (Obj.PLL_ENABLE n) _ ?_) (.wr _ (Obj.PLL_STATE n) _ ?_))
      (.wr _ (Obj.PLL_FREQ_KHZ n) _ ?_)) (.wr _ (Obj.CLKMON_STATE (n + 1)) _ ?_)) <;>
      exact outState_ne_unit _ (by decide)
  refine locked.trans (.each _ _ _ fun t m => ?_)
  refine Keeps.trans (Keeps.trans (.wr t (Obj.PIX_KHZ m) _ ?_) (.wr _ (Obj.PIX_PLL m) _ ?_)) (.wr _ (Obj.MUX_SEL (7 + m)) _ ?_) <;>
    exact outState_ne_unit _ (by decide)

/-- The raster of an output or a pair starts only where its outputs are STARTING: not that of an output in another state. -/
theorem tryRaster (s : State) (j : Nat) (h : (s.out k.val).state ≠ .starting) : Rests k s (s.tryRaster j) := by
  unfold State.tryRaster
  extract_lets g x ready held s₁ s₂
  split
  · exact .refl s
  next hready =>
    have hg : g ≠ k.val := by
      have all : ready = true := by
        simp only [Bool.or_eq_true, Bool.not_eq_true', not_or, Bool.not_eq_false] at hready
        exact hready.1.1.1
      have starting := List.all_eq_true.1 all g (mem_members s g)
      simp only [Bool.and_eq_true, decide_eq_true_eq] at starting
      exact fun hg => h (hg ▸ starting.1)
    have counted : Rests k s s₂ := (startPixel s g).trans (.each _ _ _ fun t m =>
      (Keeps.wr t (Obj.OUT_REPEAT_COUNT m) _ (outState_ne_unit _ (by decide))).trans (.wr _ (Obj.OUT_LATE_COUNT m) _ (outState_ne_unit _ (by decide))))
    exact (counted.trans (.modOut _ g (fun x => { x with startedFrames := 0, consecutiveRepeats := 0 }) fun _ => rfl)).trans (latchPoint _ hg)

/-- What waited for switches to DRAM starts; an output whose state is not STARTING is not among it (R74). -/
theorem finishIntents (s : State) (h : (s.out k.val).state ≠ .starting) : Rests k s s.finishIntents := by
  refine each_keeps (Rests k s) _ _ _ (fun t j ht => ?_) (.refl s)
  dsimp only
  split
  next item note _ =>
    split
    · have completed : Rests k s ((t.setOut j { t.out j with waitingIntent := none }).complete item Status.okWithNote note) :=
        ht.trans (Keeps.trans (.setOut t j _ fun hj => hj ▸ rfl) (completeAt ..))
      exact completed.trans (tryRaster _ _ (by rwa [completed.state]))
    · exact ht
  · exact ht

theorem coastIfLead (s : State) (j cause : Nat) : Rests k s (s.coastIfLead j cause) := by
  have clocked (c : Clock) : Rests k s { s with clock := c } := .of_fields rfl rfl
  have coasting (t : State) : Rests k t (t.setCoasting true) :=
    (Keeps.wrBit t Obj.SPK_STATUS _ _ (outState_ne _ (by decide))).trans (.wrBit _ Obj.SPK_STATUS _ _ (outState_ne _ (by decide)))
  exact .ite _ (.ite _ (clocked _) (((clocked _).trans (coasting _)).trans (log ..))) (.refl s)

end Rests

/-! ## Entering a state (R218) -/

theorem state_enter (s : State) (j k : Nat) (x : OutState) : ((s.enter j x).out k).state = if k = j then x else (s.out k).state := by
  refine (congrArg Output.state (out_setOut s j k { s.out j with state := x })).trans ?_
  split <;> rfl

theorem phase_enter (s : State) (j k : Nat) (x : OutState) : ((s.enter j x).out k).phase = (s.out k).phase := by
  refine (congrArg Output.phase (out_setOut s j k { s.out j with state := x })).trans ?_
  split
  next h => rw [h]
  · rfl

theorem rd_enter (s : State) (j k : Nat) (x : OutState) :
    (s.enter j x).rd (Obj.OUT_STATE k) = if k = j then x.code else s.rd (Obj.OUT_STATE k) := by
  have same : Obj.OUT_STATE k = Obj.OUT_STATE j ↔ k = j := by
    simp only [Obj.OUT_STATE]
    omega
  simp only [enter, rd_wr, same]
  rfl

/-- An output is in a state, and its object says so. -/
def InState (s : State) (k : Nat) (x : OutState) : Prop := (s.out k).state = x ∧ s.rd (Obj.OUT_STATE k) = x.code

theorem inState_enter (s : State) (k : Nat) (x : OutState) : (s.enter k x).InState k x :=
  ⟨by rw [state_enter, if_pos rfl], by rw [rd_enter, if_pos rfl]⟩

theorem InState.enter {s : State} {k : Nat} {x : OutState} (h : s.InState k x) (j : Nat) : (s.enter j x).InState k x := by
  obtain ⟨hstate, hobj⟩ := h
  rw [InState, state_enter, rd_enter, hstate, hobj]
  simp only [ite_self, and_self]

/-- All the outputs of a list enter a state. -/
theorem inState_enterEach {l : List Nat} {k : Nat} (hk : k ∈ l) (s : State) (x : OutState) : (s.each l fun s m => s.enter m x).InState k x := by
  induction l generalizing s with
  | nil => exact absurd hk List.not_mem_nil
  | cons j l ih =>
    rcases List.mem_cons.1 hk with rfl | hk
    · exact each_keeps (InState · k x) l _ _ (fun t j h => h.enter j) (inState_enter s k x)
    · exact ih hk _

theorem enterAll_enters (s : State) (k : Nat) (x : OutState) : (s.enterAll k x).InState k x ∧ ((s.enterAll k x).out k).phase = (s.out k).phase :=
  ⟨inState_enterEach (mem_members s k) s x,
    each_keeps (fun t => (t.out k).phase = (s.out k).phase) _ _ _ (fun t j h => (phase_enter t j k x).trans h) rfl⟩

end State

open State

/-! ## The command, and the statement -/

/-- After the entry frame an output without pending commits is in GLASS_HOLD with its raster stopped, and stays so while others start (R211). -/
theorem execHoldEnter_holds {s : State} {k : Fin 12} (hp : s.paired k.val = false) (hs : (s.out k.val).state = .holdEntry)
    (hphase : (s.out k.val).phase = .activeLines) (hpending : (s.out k.val).pending = []) :
    ∃ t, execHoldEnter k s = .next t ∧ t.InState k.val .glassHold ∧ (t.out k.val).phase = .stopped := by
  unfold execHoldEnter
  extract_lets g x s₁ s₂ s₃ s₄ s₅ s₆ s₇
  rw [if_neg (by simp [g, x, pairOdd, hp, hs, hphase]), if_pos hpending]
  obtain ⟨⟨hstate, hobj⟩, hstopped⟩ : s₃.InState k.val .glassHold ∧ (s₃.out k.val).phase = (s₂.out k.val).phase := enterAll_enters s₂ k.val .glassHold
  have stopped : (s₂.out k.val).phase = .stopped := by simp only [s₂, g, modOut, out_setOut, if_pos]
  have told : Rests k s₃ s₄ := .each _ _ _ fun t p =>
    (Keeps.wrBit t (Obj.PORT_STATUS p) _ _ (outState_ne_unit _ (by decide))).trans (.of_fields rfl rfl)
  have switched : Rests k s₃ (s₄.each (s₄.members g) fun s m => s.switchDram m) := told.trans (.each _ _ _ fun t m => Rests.switchDram t m)
  have finished : Rests k s₃ s₅ := switched.trans (Rests.finishIntents _ (by rw [switched.state, hstate]; decide))
  have rests : Rests k s₃ s₇ := (finished.trans (Rests.log ..)).trans (.each _ _ _ fun t m => Rests.coastIfLead t m 1)
  exact ⟨s₇, rfl, ⟨rests.state.trans hstate, rests.obj.trans hobj⟩, rests.phase.trans (hstopped.trans stopped)⟩

/-- Settles O23. What a frame start shows and counts stays to its end, and an output that stops stays stopped while others start. -/
theorem framesStartShowAndStop : Obligations.FramesStartShowAndStop := by
  unfold Obligations.FramesStartShowAndStop
  refine ⟨fun s k hp => ⟨fun hgoes => ?_, fun hgoes c holdest hcomplete => ?_, fun hno => execFrameStart_notGone hno⟩, fun s k hp hs hphase hpending => ?_⟩
  · obtain ⟨t, hexec, hphase, hkept⟩ := execFrameStart_opens hp hgoes
    obtain ⟨hshowing, hcount⟩ := repeatFrame_shows (s.frameCounted k.val) k
    rw [frameShown_repeat] at hkept
    exact ⟨t, hexec, hphase, hkept.showing.trans hshowing, hkept.obj.trans (hcount.trans (rd_frameCounted hp))⟩
  · obtain ⟨t, hexec, hphase, hkept⟩ := execFrameStart_opens hp hgoes
    obtain ⟨hshowing, hfront, hrepeats, hcount⟩ := showFrame_shows (s.frameCounted k.val) k hcomplete
    rw [frameShown_shows holdest] at hkept
    exact ⟨t, hexec, hphase, hkept.showing.trans hshowing, hkept.front.trans hfront, hkept.repeats.trans hrepeats,
      hkept.obj.trans (hcount.trans (rd_frameCounted hp))⟩
  · obtain ⟨t, hexec, ⟨hstate, hobj⟩, hstopped⟩ := execHoldEnter_holds hp hs hphase hpending
    exact ⟨t, hexec, hstate, hstopped, hobj⟩

end Sys2Proof.Machine
end

section
/-!
SUPPORT, and the statement O20: what waits for an output's next latch. A layer descriptor stands in the shadow, which its completion leaves alone (R143 to R147);
a colour write and a request to swap LUT banks wait in the output, and OUT_COLOUR_STATUS shows both (R166, R171, R176).
-/
namespace Sys2Proof.Machine
open Sys2Proof

namespace State

/-! ## The layer shadow (R143, R145) -/

/-- The state with a descriptor in the shadow, at its position and with its submitter. -/
def shadowLayer (s : State) (d : BitVec 512) (owner : Nat) : State :=
  { s with shadow := Tab.set s.shadow (16 * lyOutput d + lyZ d) (d, owner) }

@[simp] theorem completeAt_shadow (s : State) (id status detail : Nat) (pos : Spos) (time : Nat) :
    (s.completeAt id status detail pos time).shadow = s.shadow := (congrArg State.shadow (completeAt_frame ..) :)

/-- The images are checked before a critical layer only while some were left unchecked (R128). -/
theorem checkSubst_of_checked {s : State} (h : s.substUnchecked = false) (d : BitVec 512) (owner : Nat) (ok : Bool) : s.checkSubst d owner ok = s := by
  simp [checkSubst, h]

/-! ## OUT_COLOUR_STATUS (R176) -/

theorem bit_markColour_swap (s : State) (k : Nat) : bit ((s.markColour k).rd (Obj.OUT_COLOUR_STATUS k)) 0 = (s.out k).swapAsked.isSome := by
  rw [markColour, bit_wrBit_other _ _ _ _ _ _ (by decide), rd_wrBit, if_pos rfl, bit_setBit, if_pos rfl]

theorem bit_markColour_shadow (s : State) (k : Nat) :
    bit ((s.markColour k).rd (Obj.OUT_COLOUR_STATUS k)) 1 = !decide ((s.out k).shadowWrites = []) := by
  rw [markColour, rd_wrBit, if_pos rfl, bit_setBit, if_pos rfl]

/-! ## The order of writes and commits (R171) -/

theorem fst_nextOrder (s : State) : s.nextOrder.1 = s.order := rfl

theorem rd_nextOrder (s : State) (a : Nat) : s.nextOrder.2.rd a = s.rd a := rfl

/-! ## Colour writes (R163, R171) -/

/-- The state with a value in a colour object, which waits as the newest shadow write of the object's output. -/
def shadowColour (s : State) (addr v : Nat) : State :=
  (s.wr addr v).nextOrder.2.modOut (colourOutput addr) (fun x => { x with shadowWrites := x.shadowWrites ++ [(addr, v, s.order)] })

theorem shadowWrites_shadowColour (s : State) (addr v : Nat) :
    ((s.shadowColour addr v).out (colourOutput addr)).shadowWrites = (s.out (colourOutput addr)).shadowWrites ++ [(addr, v, s.order)] :=
  congrArg Output.shadowWrites ((out_setOut ..).trans (if_pos rfl))

/-- Gaffer and the manager need no grant of a position (R175), so that the manager's write does what Gaffer's does. -/
theorem writeColour_ungranted {rq : Requester} (hrq : rq = .gaffer ∨ rq = .manager) (s : State) (addr v : Nat) :
    s.writeColour rq addr v = s.writeColour .gaffer addr v := by
  rcases hrq with rfl | rfl <;> rfl

theorem plainWrite_inRange {addr v : Nat} (h : rangeStatus addr v = Status.ok) (s : State) :
    s.plainWrite addr v = (Status.ok, s.wr addr (s.merged addr v)) := if_pos h

theorem writeColour_waits {s : State} {rq : Requester} {addr v : Nat} (hrq : rq = .gaffer ∨ rq = .manager)
    (hvalue : ¬(addr / 256 < 0x2E00 ∧ addr % 256 = 3 ∧ matrixBad v = true)) (hrange : rangeStatus addr v = Status.ok) :
    s.writeColour rq addr v = (Status.ok, (s.shadowColour addr (s.merged addr v)).markColour (colourOutput addr)) := by
  rw [writeColour_ungranted hrq]
  simp [writeColour, and_assoc, hvalue, plainWrite_inRange hrange, fst_nextOrder, rd_nextOrder, shadowColour]

theorem writeColour_badMatrix {s : State} {rq : Requester} {addr v : Nat} (hrq : rq = .gaffer ∨ rq = .manager)
    (hvalue : addr / 256 < 0x2E00 ∧ addr % 256 = 3 ∧ matrixBad v = true) : s.writeColour rq addr v = (Status.colourValue, s) := by
  rw [writeColour_ungranted hrq]
  simp [writeColour, hvalue]

/-! ## Swaps of LUT banks (R166) -/

/-- The state with a swap of an output's LUT banks asked now. -/
def askSwap (s : State) (k : Nat) : State :=
  s.nextOrder.2.modOut k (fun x => { x with swapAsked := some s.order })

theorem swapAsked_askSwap (s : State) (k : Nat) : ((s.askSwap k).out k).swapAsked = some s.order :=
  congrArg Output.swapAsked ((out_setOut ..).trans (if_pos rfl))

theorem writeLutSwap_asks {s : State} {k : Nat} (h : (s.out k).swapAsked = none) : s.writeLutSwap k 1 = (Status.ok, (s.askSwap k).markColour k) := by
  simp [writeLutSwap, h, askSwap, fst_nextOrder]

theorem writeLutSwap_again {s : State} {k : Nat} (h : (s.out k).swapAsked.isSome = true) (v : Nat) : s.writeLutSwap k v = (Status.ok, s) :=
  if_pos (.inr h)

end State

open State

/-! ## The commands -/

theorem execLayerDescriptor_shadowed {s : State} {o : Owner} {q : Fin 16} {it : Item} (hnext : s.nextItemOf o.code q.val 0x30 = some it)
    (hchecked : s.substUnchecked = false) (hstatus : (s.startItem it.id).layerStatus it.desc o.code = Status.ok) (ok : Bool) :
    execLayerDescriptor o q ok s = .next (((s.shadowLayer it.desc o.code).startItem it.id).finish it.id Status.ok) := by
  have checked : (s.startItem it.id).checkSubst it.desc o.code ok = s.startItem it.id :=
    checkSubst_of_checked (s := s.startItem it.id) hchecked ..
  refine congrArg Host.Outcome.next ((onItem_eq hnext _).trans ((if_neg (not_not.2 hstatus)).trans ?_))
  rw [checked]
  rfl

theorem execLayerDescriptor_refused {s : State} {o : Owner} {q : Fin 16} {it : Item} (hnext : s.nextItemOf o.code q.val 0x30 = some it)
    (hstatus : (s.startItem it.id).layerStatus it.desc o.code ≠ Status.ok) (ok : Bool) :
    execLayerDescriptor o q ok s = .next ((s.startItem it.id).finish it.id ((s.startItem it.id).layerStatus it.desc o.code)) :=
  congrArg Host.Outcome.next ((onItem_eq hnext _).trans (if_pos hstatus))

theorem execColourShadowWrite_shadowed {addr : Fin 16777216} (h : isColourShadow addr.val = true) (rq : Requester) (v : Nat) (s : State) :
    execColourShadowWrite rq addr v s = .next (s.ownRequest rq addr.val v (fun s => s.writeColour rq addr.val v)) := if_pos h

/-! ## The statement -/

/-- Settles O20. A descriptor that stands in the shadow was there before its item completes, and a completion touches no shadow; what waits in an output is
what OUT_COLOUR_STATUS is then marked with. -/
theorem shadowedDescriptorsAndColour : Obligations.ShadowedDescriptorsAndColour := by
  unfold Obligations.ShadowedDescriptorsAndColour
  refine ⟨fun s o q it ok hoff hchecked => ?_, fun s rq addr v hcolour hrq ha => ⟨fun hvalue hrange => ?_, fun hlayer hmatrix hbad => ?_⟩,
    fun s rq k ha => ⟨fun hnone => ?_, fun hasked => ?_⟩⟩
  · obtain ⟨hnext, -⟩ := (offers_iff ..).1 hoff
    refine ⟨fun hstatus => ?_, fun hstatus => ?_⟩
    · have offered : (s.shadowLayer it.desc o.code).offers o q 0x30 it = true := hoff
      obtain ⟨hrec, hgone⟩ := complete_started offered Status.ok 0
      exact ⟨_, execLayerDescriptor_shadowed hnext hchecked hstatus ok, hrec, hgone, completeAt_shadow .., completeAt_outs ..,
        byte_of_mem _ _ (completeAt_mem ..)⟩
    · obtain ⟨hrec, hgone⟩ := complete_started hoff ((s.startItem it.id).layerStatus it.desc o.code) 0
      exact ⟨_, execLayerDescriptor_refused hnext hstatus ok, hrec, hgone, completeAt_shadow .., completeAt_outs .., byte_of_mem _ _ (completeAt_mem ..)⟩
  · refine ⟨_, (execColourShadowWrite_shadowed hcolour rq v s).trans (ownRequest_answers ha (writeColour_waits hrq hvalue hrange) (by decide)),
      answered_answer .., rfl, shadowWrites_shadowColour .., ?_, rfl, fun _ => rfl⟩
    rw [answer_rd, bit_markColour_shadow, shadowWrites_shadowColour]
    simp
  · exact (execColourShadowWrite_shadowed hcolour rq v s).trans (ownRequest_answers ha (writeColour_badMatrix hrq ⟨hlayer, hmatrix, hbad⟩) (by decide))
  · refine ⟨_, ownRequest_answers ha (writeLutSwap_asks hnone) (by decide), answered_answer .., swapAsked_askSwap .., ?_, rfl⟩
    rw [answer_rd, bit_markColour_swap, swapAsked_askSwap]
    rfl
  · exact ownRequest_answers ha (writeLutSwap_again hasked 1) (by decide)

end Sys2Proof.Machine
end

section
/-!
SUPPORT, and the statement O21: a commit on a running output is pending there, last, and nothing else of the state changes but the order of acceptances and the
item, which stands until the commit ends (R194, R195).
-/
namespace Sys2Proof.Machine
open Sys2Proof

namespace State

/-- The commit that an item of an owner stands for when an output accepts it now: missed at its first latch point when strict commit mode is in force and that
point of the frame has passed (R194, R195, R202). -/
def commitOf (s : State) (it : Item) (owner k : Nat) : Commit :=
  let after := match (s.out k).phase with | .blanking => true | .going _ => true | _ => false
  { item := it.id, owner := owner, seq := dfield it.desc 127 96, order := s.order, acceptedAt := s.clock.ticks, missed := (s.out k).strict && after }

/-- The state with a commit accepted: it is pending on its output, last, and its place among acceptances is taken. -/
def withCommit (s : State) (k : Nat) (c : Commit) : State := s.nextOrder.2.modOut k fun x => { x with pending := x.pending ++ [c] }

theorem out_withCommit (s : State) (k j : Nat) (c : Commit) :
    (s.withCommit k c).out j = if j = k then { s.out k with pending := (s.out k).pending ++ [c] } else s.out j := out_setOut ..

end State

open State

/-! ## The command -/

theorem execCommit_ungranted {s : State} {o : Owner} {q : Fin 16} {it : Item} (hnext : s.nextItemOf o.code q.val 0x31 = some it)
    (hk : dfield it.desc 67 64 ≤ 11) (hmay : s.mayCommit o.code (dfield it.desc 67 64) = false) :
    execCommit o q s = .next ((s.startItem it.id).finish it.id Status.layerNotGranted) := by
  refine congrArg Host.Outcome.next ((onItem_eq hnext _).trans ((if_neg (Nat.not_lt.2 hk)).trans (if_pos ?_)))
  exact congrArg (!·) hmay

/-- What a commit comes to that its submitter may make: its output does not run, or takes it. -/
theorem execCommit_granted {s : State} {o : Owner} {q : Fin 16} {it : Item} (hnext : s.nextItemOf o.code q.val 0x31 = some it)
    (hk : dfield it.desc 67 64 ≤ 11) (hmay : s.mayCommit o.code (dfield it.desc 67 64) = true) (hodd : s.pairOdd (dfield it.desc 67 64) = false) :
    execCommit o q s = .next (
      let k := dfield it.desc 67 64
      if !(s.out k).state.running then (s.startItem it.id).finish it.id Status.outputStopped
      else
        let t := (s.startItem it.id).withCommit k (s.commitOf it o.code k)
        if (s.out k).state = .glassHold then t.wakeOutput k t.dtime else t) := by
  refine congrArg Host.Outcome.next ((onItem_eq hnext _).trans ((if_neg (Nat.not_lt.2 hk)).trans ((if_neg ?_).trans ((if_neg ?_).trans ?_))))
  · exact ne_true_of_eq_false (congrArg (!·) hmay)
  · exact ne_true_of_eq_false hodd
  · rfl

/-! ## The statement -/

/-- Settles O21. What is refused completes with its status; a commit that is taken changes its output's list of pending commits and the order of acceptances, and
its item has only started. -/
theorem commitsArePendingUntilTheLatch : Obligations.CommitsArePendingUntilTheLatch := by
  unfold Obligations.CommitsArePendingUntilTheLatch
  intro s o q it hoff hk
  obtain ⟨hnext, hitem, -⟩ := (offers_iff ..).1 hoff
  refine ⟨fun hmay => ?_, fun hmay hodd hstopped => ?_, fun hmay hodd hruns hawake => ?_⟩
  · obtain ⟨hrec, hgone⟩ := complete_started hoff Status.layerNotGranted 0
    exact ⟨_, execCommit_ungranted hnext hk hmay, hrec, hgone, completeAt_outs ..⟩
  · obtain ⟨hrec, hgone⟩ := complete_started hoff Status.outputStopped 0
    exact ⟨_, (execCommit_granted hnext hk hmay hodd).trans (congrArg Host.Outcome.next (if_pos (congrArg (!·) hstopped))), hrec, hgone, completeAt_outs ..⟩
  · have taken := (execCommit_granted hnext hk hmay hodd).trans (congrArg Host.Outcome.next ((if_neg (by simp [hruns])).trans (if_neg hawake)))
    have houts := out_withCommit (s.startItem it.id) (dfield it.desc 67 64)
    have stands : ((s.startItem it.id).item? it.id).isSome = true := by rw [item?_startItem hitem]; rfl
    exact ⟨_, s.commitOf it o.code (dfield it.desc 67 64), taken, congrArg Output.pending ((houts ..).trans (if_pos rfl)), rfl, rfl, rfl, rfl, rfl, rfl, stands,
      fun j hj => (houts ..).trans (if_neg hj), fun _ _ => rfl, fun _ => rfl⟩

end Sys2Proof.Machine
end

section
/-!
SUPPORT, and the statement O25: writes of the latch mode, the pair lock, the enables and the ports of outputs (R201, R206, R217, R223, R224). Each object's own
checks first, then what the object answers.
-/
namespace Sys2Proof.Machine
open Sys2Proof

namespace State

/-- A loop that writes objects, and nothing else, leaves all but the objects. -/
theorem apart_each {α : Type} (l : List α) (f : State → α → State) (s : State) (hf : ∀ t x, (f t x).apart = t.apart) : (s.each l f).apart = s.apart :=
  each_keeps (fun t => t.apart = s.apart) l f s (fun t x h => (hf t x).trans h) rfl

theorem rd_each {α : Type} (l : List α) (f : State → α → State) (s : State) (a : Nat) (hf : ∀ t x, (f t x).rd a = t.rd a) : (s.each l f).rd a = s.rd a :=
  each_keeps (fun t => t.rd a = s.rd a) l f s (fun t x h => (hf t x).trans h) rfl

/-! ## Latch mode (R201) -/

theorem writeLatchMode_taken {s : State} {rq : Requester} {k v : Nat} (hp : s.paired k = false)
    (hv : v ≠ 0 ∨ (rq = .gaffer ∧ bit s.boot.strictHolds 1 = false ∧ bit s.boot.strictHolds 2 = false)) :
    s.writeLatchMode rq k v = (Status.ok, s.wr (Obj.OUT_LATCH_MODE k) v) := by
  have granted : ¬(v = 0 ∧ rq ≠ .gaffer) := fun h => hv.elim (· h.1) fun hg => h.2 hg.1
  have unheld : ¬(v = 0 ∧ (bit s.boot.strictHolds 1 = true ∨ bit s.boot.strictHolds 2 = true)) := fun h => by
    rcases hv with hv | ⟨-, h1, h2⟩
    · exact hv h.1
    · simp [h1, h2] at h
  rw [writeLatchMode, if_neg (by simp [pairOdd, hp]), if_neg granted, if_neg unheld, members_unpaired hp]
  rfl

theorem writeLatchMode_ungranted {s : State} {rq : Requester} {k : Nat} (hp : s.paired k = false) (hrq : rq ≠ .gaffer) :
    s.writeLatchMode rq k 0 = (Status.intentInvalid, s) := by
  rw [writeLatchMode, if_neg (by simp [pairOdd, hp]), if_pos ⟨rfl, hrq⟩]

theorem writeLatchMode_held {s : State} {k : Nat} (hp : s.paired k = false) (hheld : bit s.boot.strictHolds 1 = true ∨ bit s.boot.strictHolds 2 = true) :
    s.writeLatchMode .gaffer k 0 = (Status.strictHeld, s) := by
  rw [writeLatchMode, if_neg (by simp [pairOdd, hp]), if_neg (by simp), if_pos ⟨rfl, hheld⟩]

/-! ## Pair lock (R206) -/

/-- The pairs whose lock a write would change. -/
def pairsChanged (s : State) (v : Nat) : List Nat :=
  (List.range 6).filter fun n => bit (s.merged Obj.OUT_PAIR_LOCK v) n != bit (s.rd Obj.OUT_PAIR_LOCK) n

/-- Those of them that it would lock. -/
def pairsLocked (s : State) (v : Nat) : List Nat := (s.pairsChanged v).filter fun n => bit (s.merged Obj.OUT_PAIR_LOCK v) n

theorem mem_pairsChanged (s : State) (v n : Nat) :
    n ∈ s.pairsChanged v ↔ n < 6 ∧ bit (s.merged Obj.OUT_PAIR_LOCK v) n ≠ bit (s.rd Obj.OUT_PAIR_LOCK) n := by
  simp [pairsChanged]

theorem writePairLock_running {s : State} {v n : Nat} (hn : n ∈ s.pairsChanged v) (hruns : (s.out (2 * n)).state.running = true) :
    s.writePairLock v = (Status.ldpStoppedOnly, s) := by
  refine if_pos (List.any_eq_true.2 ⟨n, hn, ?_⟩)
  rw [hruns, Bool.true_or]

/-- The state with a pair lock written: an odd member that is locked takes the latch mode of the even one. -/
def withPairLock (s : State) (m : Nat) (locked : List Nat) : State :=
  (s.wr Obj.OUT_PAIR_LOCK m).each locked fun s n => s.wr (Obj.OUT_LATCH_MODE (2 * n + 1)) (s.rd (Obj.OUT_LATCH_MODE (2 * n)))

theorem rd_withPairLock (s : State) (m : Nat) (locked : List Nat) : (s.withPairLock m locked).rd Obj.OUT_PAIR_LOCK = m := by
  refine (rd_each _ _ _ _ fun t n => rd_wr_other _ _ _ _ ?_).trans (rd_wr_same ..)
  simp only [Obj.OUT_PAIR_LOCK, Obj.OUT_LATCH_MODE]
  omega

theorem apart_withPairLock (s : State) (m : Nat) (locked : List Nat) : (s.withPairLock m locked).apart = s.apart :=
  apart_each _ _ _ fun _ _ => rfl

/-- Outputs that do not run and of which no odd member has an intent, and whose halves no unit watches across, lock and unlock freely. -/
theorem writePairLock_taken {s : State} {v : Nat} (hidle : ∀ n < 6, (s.out (2 * n)).state.running = false ∧ (s.out (2 * n + 1)).state.running = false ∧
      (s.out (2 * n + 1)).intent = none ∧ s.pairWatched n = false) :
    ∃ t, s.writePairLock v = (Status.ok, t) ∧ t.rd Obj.OUT_PAIR_LOCK = s.merged Obj.OUT_PAIR_LOCK v ∧ t.apart = s.apart := by
  have stopped : ¬((s.pairsChanged v).any fun n => (s.out (2 * n)).state.running || (s.out (2 * n + 1)).state.running) = true := by
    rw [List.any_eq_true]
    rintro ⟨n, hn, hruns⟩
    obtain ⟨heven, hodd, -⟩ := hidle n ((mem_pairsChanged ..).1 hn).1
    simp [heven, hodd] at hruns
  have fit : ¬((s.pairsChanged v).any fun n =>
      bit (s.merged Obj.OUT_PAIR_LOCK v) n && ((s.out (2 * n + 1)).intent.isSome || s.pairWatched n)) = true := by
    rw [List.any_eq_true]
    rintro ⟨n, hn, hbad⟩
    obtain ⟨-, -, hintent, hwatched⟩ := hidle n ((mem_pairsChanged ..).1 hn).1
    simp [hintent, hwatched] at hbad
  refine ⟨_, (if_neg stopped).trans (if_neg fit), ?_⟩
  obtain ⟨written, apart⟩ := And.intro (s.rd_withPairLock (s.merged Obj.OUT_PAIR_LOCK v) (s.pairsLocked v)) (s.apart_withPairLock _ (s.pairsLocked v))
  split
  · exact ⟨written, apart⟩
  · exact ⟨(rd_logEvent _ _ _ _ _ (by decide)).trans written, (apart_logEvent ..).trans apart⟩

/-! ## Enable (R217) -/

theorem writeEnable_idle {s : State} {k : Nat} (hoff : s.rd (Obj.OUT_ENABLE k) = 0) (hnone : (s.out (s.governor k)).intent = none) :
    s.writeEnable k 1 = (Status.ok, s.wr (Obj.OUT_ENABLE k) 1) := by
  simp [writeEnable, hoff, hnone]

theorem writeEnable_disables {s : State} {k : Nat} (hon : s.rd (Obj.OUT_ENABLE k) ≠ 0) (hoff : (s.out k).state = .off) :
    s.writeEnable k 0 = (Status.ok, s.wr (Obj.OUT_ENABLE k) 0) := by
  have off : ((s.wr (Obj.OUT_ENABLE k) 0).out k).state = .off := hoff
  rw [writeEnable, if_neg (Ne.symm hon), if_pos rfl]
  exact congrArg (Prod.mk Status.ok) (if_pos off)

/-! ## Routing (R223, R224) -/

theorem writeOutPort_busy {s : State} {k : Nat} (hruns : (s.out k).state.running = true) (v : Nat) : s.writeOutPort k v = (Status.portBusy, s) := if_pos hruns

theorem writeOutPort_conflict {s : State} {k v : Nat} (hstopped : (s.out k).state.running = false) (hv : v < 14)
    (htaken : ∃ j < 12, j ≠ k ∧ s.rd (Obj.OUT_PORT j) = v) : s.writeOutPort k v = (Status.routeConflict, s) := by
  refine (if_neg (ne_true_of_eq_false hstopped)).trans (if_pos ⟨hv, ?_⟩)
  simpa [and_assoc] using htaken

/-- The end of a link leaves the attach bit of every port alone. -/
theorem attached_stopLink (s : State) (p q : Nat) : (s.stopLink p).attached q = s.attached q := by
  have status : Obj.PORT_STATUS q ≠ Obj.PORT_LINK_NOW p := by
    simp only [Obj.PORT_STATUS, Obj.PORT_LINK_NOW]
    omega
  unfold stopLink attached ps setPs
  dsimp only
  rw [emit_rd, rd_wr_other _ _ _ _ status]
  iterate 6 rw [bit_wrBit_other _ _ _ _ _ _ (by decide)]
  rfl

/-- The state in which the link of an output's port, if it has one, has ended. -/
def unlinked (s : State) (k : Nat) : State :=
  match s.portOf k with
  | some p => s.stopLink p
  | none => s

theorem attached_unlinked (s : State) (k q : Nat) : (s.unlinked k).attached q = s.attached q := by
  unfold unlinked
  split
  · exact attached_stopLink ..
  · rfl

theorem unlinked_outs (s : State) (k : Nat) : (s.unlinked k).outs = s.outs := by
  unfold unlinked
  split <;> simp [stopLink, setPs]

theorem unlinked_mem (s : State) (k : Nat) : (s.unlinked k).mem = s.mem := by
  unfold unlinked
  split <;> simp [stopLink, setPs]

/-- A stopped output takes no port, or one that no other output holds and where nothing is attached: its old link ends, and nothing starts. -/
theorem writeOutPort_taken {s : State} {k v : Nat} (hk : k < 12) (hstopped : (s.out k).state.running = false)
    (hv : v = 0xFF ∨ (v < 14 ∧ (∀ j < 12, j ≠ k → s.rd (Obj.OUT_PORT j) ≠ v) ∧ s.attached v = false)) :
    s.writeOutPort k v = (Status.ok, if v = s.rd (Obj.OUT_PORT k) then s else (s.unlinked k).wr (Obj.OUT_PORT k) v) := by
  have free : ¬(v < 14 ∧ ((List.range 12).any fun j => !decide (j = k) && decide (s.rd (Obj.OUT_PORT j) = v)) = true) := by
    rintro ⟨hlt, htaken⟩
    obtain ⟨j, hj, hne, hport⟩ : ∃ j < 12, j ≠ k ∧ s.rd (Obj.OUT_PORT j) = v := by simpa [and_assoc] using htaken
    rcases hv with rfl | ⟨-, hfree, -⟩
    · omega
    · exact hfree j hj hne hport
  have named : ¬(14 ≤ v ∧ v ≠ 0xFF) := by omega
  have bare : ¬(v < 14 ∧ ((s.unlinked k).wr (Obj.OUT_PORT k) v).attached v = true) := by
    rintro ⟨hlt, hattached⟩
    have status : Obj.PORT_STATUS v ≠ Obj.OUT_PORT k := by
      simp only [Obj.PORT_STATUS, Obj.OUT_PORT]
      omega
    rw [attached, ps, rd_wr_other _ _ _ _ status] at hattached
    rcases hv with rfl | ⟨-, -, hbare⟩
    · omega
    · exact absurd ((attached_unlinked s k v).symm.trans hattached) (ne_true_of_eq_false hbare)
  refine (if_neg (ne_true_of_eq_false hstopped)).trans ((if_neg free).trans ((if_neg named).trans ?_))
  split
  · rfl
  · exact congrArg (Prod.mk Status.ok) (if_neg bare)

end State

open State

/-! ## The statement -/

/-- Settles O25. A write that passes the checks before the object's own is answered as the object says; a port that is taken ends the link of the old one, which
touches no output. -/
theorem outputWritesAndRouting : Obligations.OutputWritesAndRouting := by
  unfold Obligations.OutputWritesAndRouting
  refine ⟨⟨fun s rq k v ha hp => ⟨fun hv => ?_, fun hv hrq => ?_, fun hv hrq hheld => ?_⟩, fun s rq v ha => ⟨fun hidle => ?_, fun n hn hchanged hruns => ?_⟩,
    fun s rq k => ⟨fun ha hoff hnone => ?_, fun ha hon hoff => ?_⟩⟩,
    fun s rq k v ha => ⟨fun hruns => ?_, fun hstopped hv htaken => ?_, fun hstopped hv => ?_⟩⟩
  · exact ⟨_, ownRequest_answers ha (writeLatchMode_taken hp hv) (by decide), rd_wr_same .., answered_answer .., objectsBut_wr s _ _, rfl⟩
  · refine ownRequest_answers ha ?_ (by decide)
    rw [hv]
    exact writeLatchMode_ungranted hp hrq
  · subst hrq
    refine ownRequest_answers ha ?_ (by decide)
    rw [hv]
    exact writeLatchMode_held hp hheld
  · obtain ⟨t, hwrite, hlock, hapart⟩ := writePairLock_taken hidle
    exact ⟨_, ownRequest_answers ha hwrite (by decide), hlock, answered_answer .., hapart⟩
  · exact ownRequest_answers ha (writePairLock_running ((mem_pairsChanged ..).2 ⟨hn, hchanged⟩) hruns) (by decide)
  · exact ⟨_, ownRequest_answers ha (writeEnable_idle hoff hnone) (by decide), rd_wr_same .., answered_answer .., objectsBut_wr s _ _, rfl⟩
  · exact ⟨_, ownRequest_answers ha (writeEnable_disables hon hoff) (by decide), rd_wr_same .., answered_answer .., objectsBut_wr s _ _, rfl⟩
  · exact ownRequest_answers ha (writeOutPort_busy hruns _) (by decide)
  · exact ownRequest_answers ha (writeOutPort_conflict hstopped hv htaken) (by decide)
  · refine ⟨_, ownRequest_answers ha (writeOutPort_taken k.isLt hstopped hv) (by decide), ?_, answered_answer .., ?_, ?_⟩
    · rw [answer_rd]
      split
      next h => exact h.symm
      · exact rd_wr_same ..
    · rw [answer_outs]
      split
      · rfl
      · exact unlinked_outs ..
    · refine byte_of_mem _ _ ?_
      rw [answer_mem]
      split
      · rfl
      · exact unlinked_mem ..

end Sys2Proof.Machine
end

section
/-!
SUPPORT. O22, the first part: where the raster of each output is, and whether strict commit mode is in force there (R187, R199). Of all that a latch point does, only
its own output's entry into blanking and its latch mode change these: one lemma an operation, in the model's order, as for the ledger. An output whose raster runs
keeps both while other outputs start.
-/
namespace Sys2Proof.Machine
open Sys2Proof

/-- The phase of each output of a table, and whether strict commit mode is in force there. -/
def modesOf (outs : Tab Output) : Nat → RasterPhase × Bool := fun k => ((Tab.get {} outs k).phase, (Tab.get {} outs k).strict)

theorem modesOf_set (outs : Tab Output) (k : Nat) (x : Output) : modesOf (Tab.set outs k x) = Function.update (modesOf outs) k (x.phase, x.strict) := by
  funext j
  simp only [modesOf, Tab.get_set, Function.update_apply]
  split <;> rfl

namespace State

theorem modesOf_apply (s : State) (k : Nat) : modesOf s.outs k = ((s.out k).phase, (s.out k).strict) := rfl

/-- An output set keeps every mode when it keeps its own. -/
theorem setOut_modes (s : State) (k : Nat) (x : Output) (h : x.phase = (s.out k).phase ∧ x.strict = (s.out k).strict := by exact ⟨rfl, rfl⟩) :
    modesOf (s.setOut k x).outs = modesOf s.outs := by
  rw [setOut_outs, modesOf_set, h.1, h.2, ← modesOf_apply, Function.update_eq_self]

theorem modOut_modes (s : State) (k : Nat) (f : Output → Output) (h : ∀ x, (f x).phase = x.phase ∧ (f x).strict = x.strict := by exact fun _ => ⟨rfl, rfl⟩) :
    modesOf (s.modOut k f).outs = modesOf s.outs := setOut_modes s k (f (s.out k)) (h _)

theorem each_modes {α : Type} (l : List α) (f : State → α → State) (s : State) (hf : ∀ t x, modesOf (f t x).outs = modesOf t.outs) :
    modesOf (s.each l f).outs = modesOf s.outs :=
  each_keeps (fun t => modesOf t.outs = modesOf s.outs) l f s (fun t x h => (hf t x).trans h) rfl

@[simp] theorem modes_ite (c : Prop) [Decidable c] (s t : State) : modesOf (if c then s else t).outs = if c then modesOf s.outs else modesOf t.outs := by
  split <;> rfl

/-! ## Backing, and what latches with a frame (R74, R76, R84, R89, R107, R122, R171) -/

@[simp] theorem markDramFed_modes (s : State) (k : Nat) (b : Bool) : modesOf (s.markDramFed k b).outs = modesOf s.outs := rfl

@[simp] theorem unawaited_modes (s : State) (k : Nat) : modesOf (s.unawaited k).outs = modesOf s.outs := by
  have hout := out_mapOuts s (fun x => { x with moving := x.moving.filter (fun x => !decide (x = k)) }) rfl
  exact funext fun j => (congrArg (fun x : Output => (x.phase, x.strict)) (hout j) :)

@[simp] theorem switchDram_modes (s : State) (k : Nat) : modesOf (s.switchDram k).outs = modesOf s.outs := by
  unfold switchDram
  dsimp only
  split
  · rfl
  · exact (unawaited_modes _ k).trans (by simp)

@[simp] theorem leaveDram_modes (s : State) (k : Nat) : modesOf (s.leaveDram k).outs = modesOf s.outs := by
  unfold leaveDram
  dsimp only
  split <;> simp

@[simp] theorem reassignBuffer_modes (s : State) (k i : Nat) : modesOf (s.reassignBuffer k i).outs = modesOf s.outs := by
  unfold reassignBuffer
  dsimp only
  split <;> rfl

@[simp] theorem cutoverAtLatch_modes (s : State) (k : Nat) : modesOf (s.cutoverAtLatch k).outs = modesOf s.outs := by
  refine each_modes _ _ _ fun t e => ?_
  unfold cutover
  dsimp only
  split
  · rfl
  · simp

@[simp] theorem latchCritRects_modes (s : State) (k : Nat) : modesOf (s.latchCritRects k).outs = modesOf s.outs := by
  unfold latchCritRects
  dsimp only
  split
  · exact setOut_modes _ _ _
  · rfl

@[simp] theorem latchScanMode_modes (s : State) (k : Nat) : modesOf (s.latchScanMode k).outs = modesOf s.outs := by
  unfold latchScanMode
  split
  · rfl
  · extract_lets racing x s₁ x'
    have kept : x'.phase = x.phase ∧ x'.strict = x.strict := by
      simp only [x']
      split <;> exact ⟨rfl, rfl⟩
    split
    · rfl
    · rw [logEvent_outs]
      exact setOut_modes s₁ k x' kept

@[simp] theorem latchColour_modes (s : State) (k n : Nat) : modesOf (s.latchColour k n).outs = modesOf s.outs := by
  unfold latchColour
  extract_lets x now s₁ s₂
  have taken : modesOf s₂.outs = modesOf s.outs := setOut_modes s₁ k _
  have swapped : modesOf (s₂.modOut k fun x => { x with swapAsked := none }).outs = modesOf s.outs :=
    (modOut_modes _ _ _).trans taken
  split
  · split
    · rw [logEvent_outs]
      exact swapped
    · exact taken
  · exact taken

/-! ## Compositions and engines (R77, R78, R137 to R142) -/

@[simp] theorem idleEngine_modes (s : State) (e : Nat) : modesOf (s.idleEngine e).outs = modesOf s.outs := by
  simp [idleEngine]

@[simp] theorem unbindLayers_modes (s : State) (e : Nat) : modesOf (s.unbindLayers e).outs = modesOf s.outs := rfl

@[simp] theorem startEngine_modes (s : State) (k : Nat) (c : Composition) (half e : Nat) : modesOf (s.startEngine k c half e).outs = modesOf s.outs :=
  each_modes c.layers _ (s.unbindLayers e) fun _ _ => by rfl

/-- An output's engines change, and nothing of its modes. -/
theorem modEngines_modes (s : State) (k : Nat) (f : Output → List Nat) :
    modesOf (s.modOut k fun x => { x with lastEngine := f x }).outs = modesOf s.outs := modOut_modes _ _ _

theorem assign_modes (s : State) (k id half e : Nat) : modesOf (s.assign k id half e).outs = modesOf s.outs := by
  unfold assign
  extract_lets s₁ s₂
  have assigned : modesOf s₂.outs = modesOf s.outs := (modOut_modes _ _ _).trans (modEngines_modes s k _)
  split
  · exact (startEngine_modes ..).trans assigned
  · exact assigned

@[simp] theorem releaseSplit_modes (s : State) (k : Nat) : modesOf (s.releaseSplit k).outs = modesOf s.outs := by
  unfold releaseSplit
  dsimp only
  split
  · rw [logEvent_outs, idleEngine_modes, unbindLayers_modes]
    exact setOut_modes _ _ _
  · exact setOut_modes _ _ _

@[simp] theorem endSplit_modes (s : State) : modesOf s.endSplit.2.outs = modesOf s.outs := by
  unfold endSplit
  split
  · rfl
  · split
    · exact modOut_modes _ _ _
    · exact releaseSplit_modes ..

@[simp] theorem bindHalf_modes (s : State) (k half : Nat) : modesOf (s.bindHalf k half).outs = modesOf s.outs := by
  unfold bindHalf
  dsimp only
  split
  · rfl
  · split
    · simp [-modOut_outs, modEngines_modes]
    · split
      · split <;> simp [-modOut_outs, modEngines_modes]
      · simp [-modOut_outs, modEngines_modes]

@[simp] theorem decideSplit_modes (s : State) (k est : Nat) : modesOf (s.decideSplit k est).outs = modesOf s.outs := by
  unfold decideSplit
  extract_lets x thr period
  split
  · rfl
  · split
    · split <;> simp
    · split
      · rfl
      · split
        · rw [logEvent_outs]
          exact setOut_modes _ _ _
        · simp

@[simp] theorem markSolid_modes (s : State) (k : Nat) (ls : List (Nat × BitVec 512 × Nat)) : modesOf (s.markSolid k ls).outs = modesOf s.outs := by
  unfold markSolid
  split <;> simp

@[simp] theorem injectEngine_modes (s : State) (k e : Nat) : modesOf (s.injectEngine k e).outs = modesOf s.outs := by
  unfold injectEngine
  dsimp only
  split <;> simp [failUnit, setHealth]

/-! ## Latching (R146, R183, R187 to R202) -/

@[simp] theorem rejectPart_modes (s : State) (k : Nat) (f : Nat × Nat) (cs : List Commit) : modesOf (s.rejectPart k f cs).outs = modesOf s.outs :=
  (each_modes _ _ _ fun t c => by simp [complete]).trans (by simp)

theorem startComposition_modes (s : State) (k : Nat) (c : Composition) (atLatchPoint : Bool) :
    modesOf (s.startComposition k c atLatchPoint).outs = modesOf s.outs := by
  unfold startComposition
  extract_lets s₁ x n s₂ s₃ ests c' s₄ s₅
  have split₁ : modesOf s₁.outs = modesOf s.outs := by simp [s₁]
  have bound : modesOf s₃.outs = modesOf s₁.outs := (each_modes _ _ _ fun t h => bindHalf_modes ..).trans (modEngines_modes ..)
  have begun : modesOf s₄.outs = modesOf s₃.outs := modOut_modes _ _ _
  have injected : modesOf s₅.outs = modesOf s₄.outs := each_modes _ _ _ fun t h => by simp
  refine (each_modes _ _ _ fun t h => ?_).trans (injected.trans (begun.trans (bound.trans split₁)))
  dsimp only
  split
  · rfl
  · split
    · split
      · exact (assign_modes ..).trans (bindHalf_modes ..)
      · exact bindHalf_modes ..
    · exact assign_modes ..

theorem latchInto_modes (s : State) (k : Nat) (cs : List Commit) (buffer : Nat) (atLatchPoint heldAnyway : Bool) :
    modesOf (s.latchInto k cs buffer atLatchPoint heldAnyway).outs = modesOf s.outs := by
  unfold latchInto
  extract_lets x prev shadow stale failN failC bad s₁ s₂ good keep layers s₃ staleNow frame s₄ s₅ last s₆ late s₇ noted s₈ o c
  clear_value failN failC
  have h₁ : modesOf s₁.outs = modesOf s.outs := by simp only [s₁]; split <;> simp
  have h₂ : modesOf s₂.outs = modesOf s₁.outs := by simp only [s₂]; split <;> simp
  have h₃ : modesOf s₃.outs = modesOf s.outs := (modOut_modes _ _ _).trans (h₂.trans h₁)
  have h₄ : modesOf s₄.outs = modesOf s₃.outs := each_modes _ _ _ fun t z => by simp
  have h₅ : modesOf s₅.outs = modesOf s₄.outs := by
    simp only [s₅]
    split
    · exact each_modes _ _ _ fun t c => by simp
    · rfl
  have h₆ : modesOf s₆.outs = modesOf s₅.outs := by
    simp only [s₆]
    split
    · exact each_modes _ _ _ fun t m => latchColour_modes ..
    · rfl
  have h₇ : modesOf s₇.outs = modesOf s₆.outs := each_modes _ _ _ fun t d => by simp
  have h₈ : modesOf s₈.outs = modesOf s₇.outs := markSolid_modes ..
  split
  · exact h₃
  · exact (startComposition_modes ..).trans (h₈.trans (h₇.trans (h₆.trans (h₅.trans (h₄.trans h₃)))))

theorem latchOpportunity_modes (s : State) (k line : Nat) (atLatchPoint : Bool) : modesOf (s.latchOpportunity k line atLatchPoint).outs = modesOf s.outs := by
  unfold latchOpportunity
  dsimp only
  split
  · rfl
  · split
    · split
      · exact setOut_modes _ _ _
      · rfl
    · split
      · rfl
      · exact latchInto_modes ..

@[simp] theorem endShown_modes (s : State) (g : Nat) : modesOf (s.endShown g).outs = modesOf s.outs := by
  unfold endShown
  split
  · rfl
  · exact (modOut_modes _ _ _).trans (each_modes _ _ _ fun t c => by simp)

@[simp] theorem latchIntent_modes (s : State) (g : Nat) : modesOf (s.latchIntent g).outs = modesOf s.outs := by
  unfold latchIntent
  split
  · rfl
  · exact (each_modes _ _ _ fun t m => by rfl).trans (modOut_modes _ _ _)

@[simp] theorem latchReturn_modes (s : State) (g : Nat) : modesOf (s.latchReturn g).outs = modesOf s.outs := by
  unfold latchReturn
  split
  · exact (each_modes _ _ _ fun t k => leaveDram_modes ..).trans (modOut_modes _ _ _)
  · rfl

/-! ## The latch point (R187, R199) -/

theorem latchMode_modes (s : State) (g : Nat) :
    modesOf (s.latchMode g).outs = Function.update (modesOf s.outs) g ((s.out g).phase, decide (s.rd (Obj.OUT_LATCH_MODE g) = 1)) := by
  unfold latchMode
  extract_lets strict was s₁
  have set : modesOf s₁.outs = Function.update (modesOf s.outs) g ((s.out g).phase, strict) := modesOf_set ..
  rw [modes_ite, logEvent_outs, ite_self, set]

/-- An object of a unit at another subindex is no OUT_LATCH_MODE (R201). -/
theorem latchMode_ne_unit (k : Nat) {b n : Nat} (h : b % 256 ≠ 3) : Obj.OUT_LATCH_MODE k ≠ b + 256 * n := by
  simp only [Obj.OUT_LATCH_MODE]
  omega

theorem rd_endShown_latchMode (s : State) (g k : Nat) : (s.endShown g).rd (Obj.OUT_LATCH_MODE k) = s.rd (Obj.OUT_LATCH_MODE k) := by
  have unlogged : Obj.OUT_LATCH_MODE k ≠ Obj.LOG_LOST := by
    simp only [Obj.OUT_LATCH_MODE, Obj.LOG_LOST]
    omega
  unfold endShown
  split
  · rfl
  · exact rd_each _ _ _ _ fun t c => rd_completeAt _ _ _ _ _ _ _ unlogged fun o => latchMode_ne_unit k (by decide)

theorem rd_latchIntent_latchMode (s : State) (g k : Nat) : (s.latchIntent g).rd (Obj.OUT_LATCH_MODE k) = s.rd (Obj.OUT_LATCH_MODE k) := by
  unfold latchIntent
  split
  · rfl
  · refine rd_each _ _ (s.modOut g _) _ fun t m => ?_
    rw [setTotals, rd_wr_other _ (Obj.OUT_VT_MAX m) _ _ (latchMode_ne_unit k (by decide)),
      rd_wr_other _ (Obj.OUT_VT_MIN m) _ _ (latchMode_ne_unit k (by decide))]

/-- A latch point puts its own output into blanking and the latch mode written there in force, and leaves the phase and the mode of every other. -/
theorem latchPoint_modes (s : State) (g : Nat) :
    modesOf (s.latchPoint g).outs = Function.update (modesOf s.outs) g (.blanking, decide (s.rd (Obj.OUT_LATCH_MODE g) = 1)) := by
  unfold latchPoint
  extract_lets s₁ s₂ s₃ s₄ s₅ s₆
  have h₁ : modesOf s₁.outs = Function.update (modesOf s.outs) g (.blanking, ((s.endShown g).out g).strict) :=
    (modesOf_set ..).trans (by rw [endShown_modes])
  have written : (s₁.latchIntent g).rd (Obj.OUT_LATCH_MODE g) = s.rd (Obj.OUT_LATCH_MODE g) :=
    (rd_latchIntent_latchMode ..).trans (rd_endShown_latchMode ..)
  have phase : ((s₁.latchIntent g).out g).phase = .blanking := by
    have own := congrFun ((latchIntent_modes s₁ g).trans h₁) g
    rw [Function.update_self, modesOf_apply] at own
    exact congrArg Prod.fst own
  have h₂ : modesOf s₂.outs = Function.update (modesOf s.outs) g (.blanking, decide (s.rd (Obj.OUT_LATCH_MODE g) = 1)) := by
    rw [show s₂ = (s₁.latchIntent g).latchMode g from rfl, latchMode_modes, latchIntent_modes, h₁, Function.update_idem, phase, written]
  have h₃ : modesOf s₃.outs = modesOf s₂.outs := each_modes _ _ _ fun t m => by simp
  have h₄ : modesOf s₄.outs = modesOf s₃.outs := latchReturn_modes ..
  have h₅ : modesOf s₅.outs = modesOf s₄.outs := each_modes _ _ _ fun t m => cutoverAtLatch_modes ..
  have h₆ : modesOf s₆.outs = modesOf s₅.outs := by
    simp only [s₆]
    split
    · exact each_modes _ _ _ fun t m => reassignBuffer_modes ..
    · rfl
  rw [latchOpportunity_modes, h₆, h₅, h₄, h₃, h₂]

/-! ## Starting (R74, R216) -/

@[simp] theorem startPixel_modes (s : State) (g : Nat) : modesOf (s.startPixel g).outs = modesOf s.outs := by
  unfold startPixel
  extract_lets f p n s₁
  refine (each_modes _ _ _ fun t m => by rfl).trans ?_
  simp only [s₁]
  split <;> rfl

/-- A raster starts where none runs: an output whose raster runs keeps its phase and its mode. -/
theorem tryRaster_mode (s : State) (j k : Nat) (h : (modesOf s.outs k).1 ≠ .stopped) : modesOf (s.tryRaster j).outs k = modesOf s.outs k := by
  unfold tryRaster
  extract_lets g x ready held s₁ s₂
  split
  · rfl
  next hready =>
    have hg : k ≠ g := by
      rintro rfl
      simp only [Bool.or_eq_true, Bool.not_eq_true', not_or, Bool.not_eq_false, decide_eq_true_eq] at hready
      exact h hready.1.2
    have counted : modesOf s₂.outs = modesOf s.outs := (each_modes _ _ _ fun t m => by rfl).trans (startPixel_modes s g)
    rw [latchPoint_modes, Function.update_of_ne hg, modOut_modes _ _ _, counted]

theorem finishIntents_mode (s : State) (k : Nat) (h : (modesOf s.outs k).1 ≠ .stopped) : modesOf s.finishIntents.outs k = modesOf s.outs k := by
  refine each_keeps (fun t => modesOf t.outs k = modesOf s.outs k) _ _ _ (fun t j ht => ?_) rfl
  dsimp only
  split
  · split
    next item note _ _ =>
      have completed : modesOf ((t.setOut j { t.out j with waitingIntent := none }).complete item Status.okWithNote note).outs = modesOf t.outs := by
        rw [complete, completeAt_outs]
        exact setOut_modes _ _ _
      rw [tryRaster_mode _ _ _ (by rwa [completed, ht]), completed, ht]
    · exact ht
  · exact ht

/-! ## Overrides that end (R432) -/

/-- The end of overrides leaves every output alone. -/
theorem settleRestores_outs (s : State) (k : Nat) : (s.settleRestores k).outs = s.outs :=
  each_keeps (fun t => t.outs = s.outs) _ _ _ (fun t u h => by simp [h]) rfl

end State
end Sys2Proof.Machine
end
section
/-!
SUPPORT, and the statement O22. A latch point and a decision reach the end of their commands with the modes and the go that they set: what follows starts other
outputs, tells ports, and ends overrides (R186, R187, R191, R199, R432).
-/
namespace Sys2Proof.Machine
open Sys2Proof

namespace State

/-! ## The go of an output (R186, R191) -/

/-- Where the raster of output `k` is and how long its frame is, and its count of REPEAT frames, are as they were. -/
abbrev GoKept (k : Nat) : State → State → Prop := Keeps (fun x => (x.phase, x.frameLines)) k (Obj.OUT_REPEAT_COUNT k)

/-- An output goes at a line, with a frame as long as R186 says. -/
def GoesAt (s : State) (k line : Nat) (shows : Bool) (t : State) : Prop :=
  (t.out k).phase = .going shows ∧ (t.out k).frameLines = line + 1 + timVSync (s.timing k) + timVBp (s.timing k)

/-- An object of a unit at another subindex is no count of REPEAT frames (R191). -/
theorem repeatCount_ne_unit (k : Nat) {b n : Nat} (h : b % 256 ≠ 11) : Obj.OUT_REPEAT_COUNT k ≠ b + 256 * n := by
  simp only [Obj.OUT_REPEAT_COUNT]
  omega

theorem repeatCount_ne_logLost (k : Nat) : Obj.OUT_REPEAT_COUNT k ≠ Obj.LOG_LOST := by
  simp only [Obj.OUT_REPEAT_COUNT, Obj.LOG_LOST]
  omega

theorem go_goes (s : State) (k line : Nat) (shows : Bool) : s.GoesAt k line shows (s.go k line shows) := by
  have own : (s.go k line shows).out k =
      { s.out k with phase := .going shows, frameLines := line + 1 + timVSync (s.timing k) + timVBp (s.timing k) } := (out_setOut ..).trans (if_pos rfl)
  exact ⟨congrArg Output.phase own, congrArg Output.frameLines own⟩

theorem GoesAt.kept {s t u : State} {k line : Nat} {shows : Bool} (h : s.GoesAt k line shows t) (hk : GoKept k t u) : s.GoesAt k line shows u :=
  ⟨(congrArg Prod.fst hk.out).trans h.1, (congrArg Prod.snd hk.out).trans h.2⟩

theorem goKept_enter (k : Nat) (s : State) (j : Nat) (x : OutState) : GoKept k s (s.enter j x) :=
  (Keeps.modOut s j (fun o => { o with state := x }) fun _ => rfl).trans (.wr _ (Obj.OUT_STATE j) _ (repeatCount_ne_unit k (by decide)))

/-- Overrides that end keep the go of every output. -/
theorem goKept_settleRestores (k : Nat) (s : State) (j : Nat) : GoKept k s (s.settleRestores j) :=
  .each _ _ _ fun t u => Keeps.trans (Keeps.trans (t := t.setCu u { t.cu u with restoring := false }) (.of_fields rfl rfl)
    (.wrBit _ (Obj.CU_STATUS u) 6 false (repeatCount_ne_unit k (by decide)))) (.logEvent (repeatCount_ne_logLost k) ..)

/-- A loop whose turns leave memory alone leaves it alone. -/
theorem mem_each {α : Type} (l : List α) (f : State → α → State) (s : State) (hf : ∀ t x, (f t x).mem = t.mem) : (s.each l f).mem = s.mem :=
  each_keeps (fun t => t.mem = s.mem) l f s (fun t x h => (hf t x).trans h) rfl

theorem settleRestores_mem (s : State) (k : Nat) : (s.settleRestores k).mem = s.mem := mem_each _ _ _ fun t u => by simp

/-- Guards that close leave outputs, objects and memory alone. -/
theorem closeGuards_leaves (s : State) (f : Guard → Bool) :
    (s.closeGuards f).outs = s.outs ∧ (s.closeGuards f).objs = s.objs ∧ (s.closeGuards f).mem = s.mem := by
  refine each_keeps (fun t => t.outs = s.outs ∧ t.objs = s.objs ∧ t.mem = s.mem) _ _ _ (fun t g h => ?_) ⟨rfl, rfl, rfl⟩
  split
  · exact h
  · exact h

/-! ## A REPEAT (R191) -/

/-- The first output of those that a decision on it covers is that output. -/
theorem members_head {s : State} {k : Nat} (hodd : s.pairOdd k = false) : s.members k = [k] ∨ s.members k = [k, k + 1] := by
  unfold members
  split
  next hp =>
    have even : k / 2 * 2 = k := by
      have : ¬k % 2 = 1 := by simpa [pairOdd, hp] using hodd
      omega
    exact .inr (by rw [even])
  · exact .inl rfl

/-- Each of the outputs that a REPEAT covers counts it once. -/
theorem rd_repeatsCounted {s : State} {k : Nat} (hodd : s.pairOdd k = false) :
    (s.each (s.members k) fun t j => t.count (Obj.OUT_REPEAT_COUNT j)).rd (Obj.OUT_REPEAT_COUNT k) = wrapAdd 32 (s.rd (Obj.OUT_REPEAT_COUNT k)) 1 := by
  have other : Obj.OUT_REPEAT_COUNT k ≠ Obj.OUT_REPEAT_COUNT (k + 1) := by
    simp only [Obj.OUT_REPEAT_COUNT]
    omega
  rcases members_head hodd with h | h <;> simp [h, each, rd_count, other]

/-- A REPEAT go is counted, and may begin the entry into GLASS_HOLD, which moves neither the raster nor the count (R191, R211). -/
theorem goRepeat_goes {s : State} {k : Nat} (hodd : s.pairOdd k = false) (line : Nat) :
    s.GoesAt k line false (s.goRepeat k line) ∧
      (s.goRepeat k line).rd (Obj.OUT_REPEAT_COUNT k) = wrapAdd 32 (s.rd (Obj.OUT_REPEAT_COUNT k)) 1 ∧ (s.goRepeat k line).mem = s.mem := by
  unfold goRepeat
  extract_lets hold s₁ s₂
  obtain ⟨-, hobjs, hmem⟩ := closeGuards_leaves s fun h => decide (h.output = k)
  have same (a : Nat) : s₁.rd a = s.rd a := congrArg (Objs.get · a) hobjs
  have goes : s.GoesAt k line false s₁ := by
    have closed := go_goes (s.closeGuards fun h => decide (h.output = k)) k line false
    rwa [GoesAt, show (s.closeGuards fun h => decide (h.output = k)).timing k = s.timing k from same _] at closed
  have counted : s₂.rd (Obj.OUT_REPEAT_COUNT k) = wrapAdd 32 (s.rd (Obj.OUT_REPEAT_COUNT k)) 1 := by
    rw [← same]
    refine rd_repeatsCounted (s := s₁) ?_
    rw [← hodd, pairOdd, paired, same, pairOdd, paired]
  have outs : s₂.outs = s₁.outs := each_keeps (fun t => t.outs = s₁.outs) _ _ _ (fun _ _ h => h) rfl
  have went : s.GoesAt k line false s₂ := by rwa [GoesAt, out, outs]
  have memory : s₂.mem = s.mem := (mem_each _ _ s₁ fun _ _ => by rfl).trans hmem
  split
  · have held : GoKept k s₂ (s₂.enterAll k .holdEntry) := .each _ _ _ fun t m => goKept_enter k t m _
    have told (ps : List Nat) : GoKept k s₂ ((s₂.enterAll k .holdEntry).each ps fun s p => s.emit (.port p pcHoldEnter)) :=
      held.trans (.each _ _ _ fun t p => .of_fields rfl rfl)
    exact ⟨went.kept (told _), (told _).obj.trans counted, (mem_each _ _ _ fun _ _ => by rfl).trans ((mem_each _ _ _ fun _ _ => by rfl).trans memory)⟩
  · exact ⟨went, counted, memory⟩

end State

open State

/-! ## The commands -/

theorem execOutputLatchPoint_active {s : State} {k : Fin 12} (hodd : s.pairOdd k.val = false) (hphase : (s.out k.val).phase = .activeLines) :
    execOutputLatchPoint k s = .next ((s.latchPoint k.val).finishIntents.settleRestores k.val) :=
  if_neg (by simp [hodd, hphase])

/-- In strict commit mode an output of its own raster has one decision line (R199). -/
theorem State.decisionLine_strict {s : State} {k : Nat} (hstrict : (s.out k).strict = true) (line : Nat) :
    s.decisionLine k line = decide (line = s.firstDecision k) := by
  simp [decisionLine, hstrict]

/-- In strict commit mode nothing latches at a decision (R188): the decision is taken with what has latched. -/
theorem State.latchOpportunity_strict {s : State} {k : Nat} (hstrict : (s.out k).strict = true) (line : Nat) : s.latchOpportunity k line false = s :=
  if_pos (by simp [hstrict])

theorem State.decision_repeats {s : State} {k : Nat} (hstrict : (s.out k).strict = true) (hnone : (s.out k).oldest = none) (line : Nat)
    (progress : List (Bool × Nat)) : s.decision k line progress = s.goRepeat k line := by
  simp [decision, latchOpportunity_strict hstrict, hnone, hstrict]

theorem State.decision_shows {s : State} {k : Nat} {c : Composition} (hstrict : (s.out k).strict = true) (holdest : (s.out k).oldest = some c)
    (hcomplete : c.complete = true) (hreel : c.toReel = false) (line : Nat) (progress : List (Bool × Nat)) :
    s.decision k line progress = s.go k line true := by
  simp [decision, latchOpportunity_strict hstrict, holdest, ready, hcomplete, hreel]

theorem execDecisionPoint_first {s : State} {k : Fin 12} (hodd : s.pairOdd k.val = false) (hphase : (s.out k.val).phase = .blanking)
    (hstrict : (s.out k.val).strict = true) {line : Nat} (hline : line = s.firstDecision k.val) (progress : List (Bool × Nat)) :
    execDecisionPoint k line progress s = .next ((s.decision k.val line progress).settleRestores k.val) :=
  if_neg (by simp [hodd, hphase, decisionLine_strict hstrict, hline])

theorem execDecisionPoint_other {s : State} {k : Fin 12} (hstrict : (s.out k.val).strict = true) {line : Nat} (hline : line ≠ s.firstDecision k.val)
    (progress : List (Bool × Nat)) : execDecisionPoint k line progress s = .next s :=
  if_pos (by simp [decisionLine_strict hstrict, hline])

/-! ## The statement -/

/-- Settles O22. The latch point's own output leaves it in blanking, in the mode written; in strict commit mode a decision is a go, of the oldest composition
or as a REPEAT, and what follows it keeps the go. -/
theorem latchPointsAndStrictDecisions : Obligations.LatchPointsAndStrictDecisions := by
  unfold Obligations.LatchPointsAndStrictDecisions
  refine ⟨fun s k hodd hphase => ?_, fun s k line progress hodd hphase hstrict => ⟨fun hline hnone => ?_, fun hline c holdest hcomplete hreel => ?_, fun hline => ?_⟩⟩
  · have latched : modesOf (s.latchPoint k.val).outs k.val = (.blanking, decide (s.rd (Obj.OUT_LATCH_MODE k.val) = 1)) := by
      rw [latchPoint_modes, Function.update_self]
    have modes : modesOf ((s.latchPoint k.val).finishIntents.settleRestores k.val).outs k.val =
        (.blanking, decide (s.rd (Obj.OUT_LATCH_MODE k.val) = 1)) := by
      rw [settleRestores_outs, finishIntents_mode _ _ (by simp [latched]), latched]
    rw [modesOf_apply] at modes
    obtain ⟨blanking, mode⟩ := Prod.mk.inj modes
    exact ⟨_, execOutputLatchPoint_active hodd hphase, blanking, mode⟩
  · have kept := goKept_settleRestores k.val (s.decision k.val line progress) k.val
    obtain ⟨goes, hcount, hmem⟩ := goRepeat_goes hodd line
    rw [← decision_repeats hstrict hnone line progress] at goes hcount hmem
    obtain ⟨hgo, hlines⟩ := goes.kept kept
    exact ⟨_, execDecisionPoint_first hodd hphase hstrict hline progress, hgo, hlines, kept.obj.trans hcount,
      byte_of_mem _ _ ((settleRestores_mem ..).trans hmem)⟩
  · have kept := goKept_settleRestores k.val (s.decision k.val line progress) k.val
    rw [decision_shows hstrict holdest hcomplete hreel] at kept
    obtain ⟨hgo, hlines⟩ := (go_goes s k.val line true).kept kept
    refine ⟨_, (execDecisionPoint_first hodd hphase hstrict hline progress).trans ?_, hgo, hlines, kept.obj, byte_of_mem _ _ (settleRestores_mem ..)⟩
    rw [decision_shows hstrict holdest hcomplete hreel]
  · exact execDecisionPoint_other hstrict hline progress

end Sys2Proof.Machine
end

section
/-!
SUPPORT. O40, the first part: a restart of Bittern (R200, R406, R407, R417). What follows its record leaves start-up, memory, what the FIFO holds and most
objects alone; `State.Passes` says so. Strict commit mode is written at every output, and every Bittern-owned mailbox is emptied, and no other.
-/
namespace Sys2Proof.Machine
open Sys2Proof

/-- A mailbox as a restart of Bittern leaves it when it is Bittern-owned (R407, R417). -/
def Mailbox.emptied (b : Mailbox) : Mailbox := { b with words := [], mask := 0xFFFFFFFF, pend := 0, wakeEn := 0, held := 0 }

namespace State

/-- Start-up, memory and the records in the FIFO are as they were, or more records are there, and the objects that `kept` names hold what they held. -/
structure Passes (kept : Nat → Prop) (s t : State) : Prop where
  boot : t.boot = s.boot
  mem : t.mem = s.mem
  fifo : ∀ r ∈ s.log.fifo, r ∈ t.log.fifo
  obj : ∀ a, kept a → t.rd a = s.rd a

namespace Passes
variable {kept : Nat → Prop} {s t u : State}

theorem refl (s : State) : Passes kept s s := ⟨rfl, rfl, fun _ h => h, fun _ _ => rfl⟩

theorem trans (h : Passes kept s t) (h' : Passes kept t u) : Passes kept s u :=
  ⟨h'.boot.trans h.boot, h'.mem.trans h.mem, fun r hr => h'.fifo r (h.fifo r hr), fun a ha => (h'.obj a ha).trans (h.obj a ha)⟩

theorem each {α : Type} (s : State) (l : List α) (f : State → α → State) (hf : ∀ t, ∀ x ∈ l, Passes kept t (f t x)) : Passes kept s (s.each l f) := by
  induction l generalizing s with
  | nil => exact refl s
  | cons x l ih => exact (hf s x List.mem_cons_self).trans (ih _ fun t y hy => hf t y (List.mem_cons_of_mem _ hy))

theorem wr (s : State) (a v : Nat) (h : ¬kept a) : Passes kept s (s.wr a v) :=
  ⟨rfl, rfl, fun _ h => h, fun _ hb => rd_wr_other _ _ _ _ fun hab => h (hab ▸ hb)⟩

theorem logEvent (h : ¬kept Obj.LOG_LOST) (s : State) (code source : Nat) (ds : List Detail) : Passes kept s (s.logEvent code source ds) :=
  ⟨logEvent_boot .., logEvent_mem .., fifo_logEvent s code source ds, fun _ ha => rd_logEvent _ _ _ _ _ fun hl => h (hl ▸ ha)⟩

theorem setMailbox (s : State) (m : Nat) (b : Mailbox) : Passes kept s (s.setMailbox m b) := ⟨rfl, rfl, fun _ h => h, fun _ _ => rfl⟩

end Passes

/-! ## Mailboxes emptied (R407, R417) -/

/-- One mailbox emptied where it is Bittern-owned, and what was lost recorded (R417). -/
def discardBox (s : State) (m : Nat) : State :=
  if !s.mbBittern m then s
  else
    let b := s.mailbox m
    let t := s.setMailbox m b.emptied
    if b.words.length = 0 then t
    else t.logEvent Ev.mbDiscarded noOwner [d8 m, d16 ((b.pushed + 65536 - (b.words.length - 1)) % 65536), d16 b.pushed]

theorem discardBittern_eq (s : State) : s.discardBittern = s.each (List.range 16) discardBox := rfl

theorem mailbox_setMailbox (s : State) (m n : Nat) (b : Mailbox) : (s.setMailbox m b).mailbox n = if n = m then b else s.mailbox n := Tab.get_set ..

theorem mailbox_congr {s t : State} (h : t.mailboxes = s.mailboxes) (m : Nat) : t.mailbox m = s.mailbox m := by
  rw [mailbox, mailbox, h]

theorem mbBittern_congr {s t : State} (h : t.rd Obj.BIT_ASSIGN_TABLE = s.rd Obj.BIT_ASSIGN_TABLE) (m : Nat) : t.mbBittern m = s.mbBittern m := by
  rw [mbBittern, mbEntry, h, mbBittern, mbEntry]

theorem mailbox_discardBox (s : State) (m n : Nat) :
    (s.discardBox m).mailbox n = if n = m ∧ s.mbBittern m = true then (s.mailbox m).emptied else s.mailbox n := by
  unfold discardBox
  cases hm : s.mbBittern m with
  | false => simp
  | true =>
    dsimp only
    have emptied : (s.setMailbox m (s.mailbox m).emptied).mailbox n = if n = m then (s.mailbox m).emptied else s.mailbox n := mailbox_setMailbox ..
    simp only [and_true, Bool.not_true, Bool.false_eq_true, if_false]
    split
    · exact emptied
    · exact (mailbox_congr (logEvent_mailboxes ..) n).trans emptied

theorem passes_discardBox {kept : Nat → Prop} (h : ¬kept Obj.LOG_LOST) (s : State) (m : Nat) : Passes kept s (s.discardBox m) := by
  unfold discardBox
  dsimp only
  split
  · exact .refl s
  · split
    · exact .setMailbox ..
    · exact (Passes.setMailbox ..).trans (.logEvent h ..)

theorem mbBittern_discardBox (s : State) (m n : Nat) : (s.discardBox m).mbBittern n = s.mbBittern n :=
  mbBittern_congr ((passes_discardBox (kept := fun a => a ≠ Obj.LOG_LOST) (by simp) s m).obj _ (by decide)) n

/-- A mailbox that is not Bittern's keeps what it holds. -/
theorem mailbox_discardBoxes {s : State} {m : Nat} (hm : s.mbBittern m = false) (l : List Nat) : (s.each l discardBox).mailbox m = s.mailbox m := by
  refine (each_keeps (fun t => t.mbBittern m = false ∧ t.mailbox m = s.mailbox m) _ _ _ (fun t n h => ?_) ⟨hm, rfl⟩).2
  refine ⟨(mbBittern_discardBox ..).trans h.1, ?_⟩
  rw [mailbox_discardBox, if_neg, h.2]
  rintro ⟨rfl, hn⟩
  simp [h.1] at hn

/-- A Bittern-owned mailbox that is among those gone through is empty at the end. -/
theorem emptied_discardBoxes {s : State} {m : Nat} {l : List Nat} (hl : m ∈ l) (hm : s.mbBittern m = true) :
    ∃ b, (s.each l discardBox).mailbox m = Mailbox.emptied b := by
  have once (t : State) (n : Nat) (h : ∃ b, t.mailbox m = Mailbox.emptied b) : ∃ b, (t.discardBox n).mailbox m = Mailbox.emptied b := by
    rw [mailbox_discardBox]
    split
    · exact ⟨_, rfl⟩
    · exact h
  induction l generalizing s with
  | nil => exact absurd hl List.not_mem_nil
  | cons n l ih =>
    rcases List.mem_cons.1 hl with rfl | hl
    · exact each_keeps (fun t => ∃ b, t.mailbox m = Mailbox.emptied b) l _ _ once ⟨_, (mailbox_discardBox ..).trans (if_pos ⟨rfl, hm⟩)⟩
    · exact ih hl ((mbBittern_discardBox ..).trans hm)

/-! ## Strict commit mode at every output (R200) -/

/-- An object that every turn writes the same value to, or not at all, holds it at the end, when one turn writes it. -/
theorem rd_wrEach {l : List Nat} {k : Nat} (hk : k ∈ l) (s : State) (a : Nat → Nat) (v : Nat) : (s.each l fun s j => s.wr (a j) v).rd (a k) = v := by
  have keeps (t : State) (j : Nat) (h : t.rd (a k) = v) : (t.wr (a j) v).rd (a k) = v := by
    rw [rd_wr]
    split
    · rfl
    · exact h
  induction l generalizing s with
  | nil => exact absurd hk List.not_mem_nil
  | cons j l ih =>
    rcases List.mem_cons.1 hk with rfl | hk
    · exact each_keeps (fun t => t.rd (a k) = v) l _ _ keeps (rd_wr_same ..)
    · exact ih hk _

theorem rd_strictAll (s : State) (cause : Nat) {k : Nat} (hk : k < 12) : (s.strictAll cause).rd (Obj.OUT_LATCH_MODE k) = 1 := by
  refine (rd_logEvent _ _ _ _ _ ?_).trans (rd_wrEach (List.mem_range.2 hk) s Obj.OUT_LATCH_MODE 1)
  simp only [Obj.OUT_LATCH_MODE, Obj.LOG_LOST]
  omega

theorem passes_strictAll {kept : Nat → Prop} (hl : ¬kept Obj.LOG_LOST) (hm : ∀ k < 12, ¬kept (Obj.OUT_LATCH_MODE k)) (s : State) (cause : Nat) :
    Passes kept s (s.strictAll cause) :=
  (Passes.each _ _ _ fun t k hk => .wr t _ _ (hm k (List.mem_range.1 hk))).trans (.logEvent hl ..)

theorem strictAll_mailboxes (s : State) (cause : Nat) : (s.strictAll cause).mailboxes = s.mailboxes :=
  (logEvent_mailboxes ..).trans (each_keeps (fun t => t.mailboxes = s.mailboxes) _ _ _ (fun _ _ h => h) rfl)

/-! ## The restart (R406, R407) -/

/-- The objects of a restart that begins for a cause. -/
def restartWritten (s : State) (cause : Nat) : State :=
  let s := (s.wr Obj.BIT_STATE 4).count Obj.BIT_RESTART_COUNT
  (s.wr Obj.BIT_LAST_CAUSE cause).wr Obj.BIT_LAST_RESTART s.now.pack

/-- A restart under way for a cause: Bittern's state, the start, and what holds strict commit mode. -/
def restartBegun (s : State) (cause : Nat) : State :=
  let s := s.restartWritten cause
  s.modBoot fun b => { b with bitT0 := some s.dtime, bitRestarts := b.bitRestarts ++ [s.dtime], strictHolds := setBit b.strictHolds 1 true }

/-- A restart under way, and recorded. -/
def restartRecorded (s : State) (cause : Nat) (injected : Bool) : State :=
  (s.restartBegun cause).logInjected Ev.bitRestartStart 0xC1 injected [d8 cause]

/-- What step 1 of a restart goes on with: the clock, strict commit mode, the mailboxes, and the frames that Bittern's peripherals lose. -/
def restartDiscards (s : State) (queued : List (Nat × Nat)) : State :=
  let s := (s.bitOnRc.strictAll 1).discardBittern
  s.each (queued.filter (fun p => isPeripheral p.1 && s.bitternRes p.1)) (fun s p => s.logEvent Ev.bitItemDiscard 0xC1 [d8 p.1, d8 p.2])

theorem restartStep1_eq (s : State) (cause : Nat) (injected : Bool) (queued : List (Nat × Nat)) :
    s.restartStep1 cause injected queued = (s.restartRecorded cause injected).restartDiscards queued := rfl

/-- What a restart of Bittern leaves (R200, R406, R407, R417). -/
def Restarted (s t : State) (cause : Nat) : Prop :=
  t.rd Obj.BIT_STATE = 4 ∧ t.rd Obj.BIT_LAST_CAUSE = cause ∧ t.rd Obj.BIT_RESTART_COUNT = wrapAdd 32 (s.rd Obj.BIT_RESTART_COUNT) 1 ∧
  t.boot.bitT0 = some s.dtime ∧ bit t.boot.strictHolds 1 = true ∧ (∀ k < 12, t.rd (Obj.OUT_LATCH_MODE k) = 1) ∧
  (∀ m < 16, s.mbBittern m = true → (t.mailbox m).words = [] ∧ (t.mailbox m).pend = 0 ∧ (t.mailbox m).wakeEn = 0) ∧
  (∀ m, s.mbBittern m = false → t.mailbox m = s.mailbox m) ∧
  (s.log.fifo.length < 256 → t.told Ev.bitRestartStart 0xC1 [d8 cause] = true) ∧ s.sameMemory t

/-- The objects that a restart leaves alone once it is recorded: of those above the clock multiplexers all but the count of lost records. -/
def KeptInRestart (a : Nat) : Prop := Obj.MUX_STATUS 2 < a ∧ a ≠ Obj.LOG_LOST

theorem not_keptInRestart_logLost : ¬KeptInRestart Obj.LOG_LOST := fun h => h.2 rfl

theorem passes_restartStrict (s : State) : Passes KeptInRestart s (s.bitOnRc.strictAll 1) := by
  have clocked : Passes KeptInRestart s s.bitOnRc :=
    (Passes.wr s (Obj.MUX_SEL 2) 0 fun h => absurd h.1 (by decide)).trans (.wr _ (Obj.MUX_STATUS 2) 0 fun h => absurd h.1 (by decide))
  have below (k : Nat) (hk : k < 12) : ¬KeptInRestart (Obj.OUT_LATCH_MODE k) := fun h => by
    simp only [KeptInRestart, Obj.MUX_STATUS, Obj.OUT_LATCH_MODE] at h
    omega
  exact clocked.trans (passes_strictAll not_keptInRestart_logLost below s.bitOnRc 1)

theorem passes_restartDiscards (s : State) (queued : List (Nat × Nat)) : Passes KeptInRestart s (s.restartDiscards queued) :=
  ((passes_restartStrict s).trans (.each _ _ _ fun t m _ => passes_discardBox not_keptInRestart_logLost t m)).trans
    (.each _ _ _ fun _ _ _ => .logEvent not_keptInRestart_logLost ..)

/-- Once strict commit mode is written at every output, nothing of the restart writes it again. -/
theorem rd_restartDiscards_latchMode (s : State) (queued : List (Nat × Nat)) {k : Nat} (hk : k < 12) :
    (s.restartDiscards queued).rd (Obj.OUT_LATCH_MODE k) = 1 := by
  have after : Passes (fun a => a ≠ Obj.LOG_LOST) (s.bitOnRc.strictAll 1) (s.restartDiscards queued) :=
    (Passes.each _ _ _ fun t m _ => passes_discardBox (by simp) t m).trans (.each _ _ _ fun _ _ _ => .logEvent (by simp) ..)
  refine (after.obj _ ?_).trans (rd_strictAll _ _ hk)
  simp only [Obj.OUT_LATCH_MODE, Obj.LOG_LOST]
  omega

theorem mailbox_restartDiscards (s : State) (queued : List (Nat × Nat)) (m : Nat) :
    (s.restartDiscards queued).mailbox m = (s.bitOnRc.strictAll 1).discardBittern.mailbox m :=
  mailbox_congr (each_keeps (fun t => t.mailboxes = (s.bitOnRc.strictAll 1).discardBittern.mailboxes) _ _ _
    (fun _ _ h => (logEvent_mailboxes ..).trans h) rfl) m

theorem rd_restartWritten (s : State) (cause a : Nat) :
    (s.restartWritten cause).rd a = if a = Obj.BIT_LAST_RESTART then s.now.pack else if a = Obj.BIT_LAST_CAUSE then cause
      else if a = Obj.BIT_RESTART_COUNT then wrapAdd 32 (s.rd Obj.BIT_RESTART_COUNT) 1 else if a = Obj.BIT_STATE then 4 else s.rd a := by
  have count : (s.wr Obj.BIT_STATE 4).rd Obj.BIT_RESTART_COUNT = s.rd Obj.BIT_RESTART_COUNT := rd_wr_other _ _ _ _ (by decide)
  rw [restartWritten, rd_wr, rd_wr, rd_count, count, rd_wr, now, now, count_clock, wr_clock]

theorem restartWritten_boot (s : State) (cause : Nat) : (s.restartWritten cause).boot = s.boot := by
  rw [restartWritten, wr_boot, wr_boot, count_boot, wr_boot]

theorem restartWritten_dtime (s : State) (cause : Nat) : (s.restartWritten cause).dtime = s.dtime := by
  rw [dtime, restartWritten, wr_clock, wr_clock, count_clock, wr_clock, dtime]

theorem rd_restartRecorded (s : State) (cause : Nat) (injected : Bool) {a : Nat} (ha : a ≠ Obj.LOG_LOST) :
    (s.restartRecorded cause injected).rd a = (s.restartWritten cause).rd a := by
  rw [restartRecorded, rd_logInjected _ _ _ _ _ _ ha, restartBegun, modBoot_rd]

theorem restartBegun_boot (s : State) (cause : Nat) : (s.restartBegun cause).boot =
    { s.boot with bitT0 := some s.dtime, bitRestarts := s.boot.bitRestarts ++ [s.dtime], strictHolds := setBit s.boot.strictHolds 1 true } := by
  rw [restartBegun, modBoot_boot, restartWritten_boot, restartWritten_dtime]

theorem restartRecorded_boot (s : State) (cause : Nat) (injected : Bool) : (s.restartRecorded cause injected).boot = (s.restartBegun cause).boot :=
  logInjected_boot ..

theorem restartRecorded_mem (s : State) (cause : Nat) (injected : Bool) : (s.restartRecorded cause injected).mem = s.mem := by
  rw [restartRecorded, logInjected_mem, restartBegun, modBoot_mem, restartWritten, wr_mem, wr_mem, count_mem, wr_mem]

theorem restartRecorded_mailboxes (s : State) (cause : Nat) (injected : Bool) : (s.restartRecorded cause injected).mailboxes = s.mailboxes := by
  rw [restartRecorded, logInjected_mailboxes, restartBegun, modBoot_mailboxes, restartWritten, wr_mailboxes, wr_mailboxes, count_mailboxes, wr_mailboxes]

theorem restartBegun_log (s : State) (cause : Nat) : (s.restartBegun cause).log = s.log := by
  rw [restartBegun, modBoot_log, restartWritten, wr_log, wr_log, count_log, wr_log]

theorem told_restartRecorded {s : State} (h : s.log.fifo.length < 256) (cause : Nat) (injected : Bool) :
    (s.restartRecorded cause injected).told Ev.bitRestartStart 0xC1 [d8 cause] = true :=
  told_logInjected _ _ _ _ _ (by rwa [restartBegun_log])

/-- Nothing of a restart's beginning changes who owns a mailbox, or what it holds. -/
theorem mailboxes_restartStrict (s : State) (cause m : Nat) :
    ((s.restartRecorded cause false).bitOnRc.strictAll 1).mbBittern m = s.mbBittern m ∧
      ((s.restartRecorded cause false).bitOnRc.strictAll 1).mailbox m = s.mailbox m := by
  constructor
  · refine mbBittern_congr (((passes_restartStrict _).obj _ ⟨by decide, by decide⟩).trans ?_) m
    rw [rd_restartRecorded _ _ _ (by decide), rd_restartWritten, if_neg (by decide), if_neg (by decide), if_neg (by decide), if_neg (by decide)]
  · refine mailbox_congr ?_ m
    rw [strictAll_mailboxes, bitOnRc, wr_mailboxes, wr_mailboxes, restartRecorded_mailboxes]

/-- Step 1 of a restart: what its record holds, and what follows it. -/
theorem restartStep1_restarts (s : State) (cause : Nat) (queued : List (Nat × Nat)) : s.Restarted (s.restartStep1 cause false queued) cause := by
  obtain ⟨boot, mem, fifo, obj⟩ := passes_restartDiscards (s.restartRecorded cause false) queued
  have written (a : Nat) (h : Obj.MUX_STATUS 2 < a) (hl : a ≠ Obj.LOG_LOST) :
      ((s.restartRecorded cause false).restartDiscards queued).rd a = (s.restartWritten cause).rd a :=
    (obj a ⟨h, hl⟩).trans (rd_restartRecorded s cause false hl)
  have boxes := mailbox_restartDiscards (s.restartRecorded cause false) queued
  have begun := mailboxes_restartStrict s cause
  rw [Restarted, restartStep1_eq]
  refine ⟨?_, ?_, ?_, ?_, ?_, fun k hk => rd_restartDiscards_latchMode _ _ hk, fun m hm hown => ?_, fun m hown => ?_, fun hroom => ?_, ?_⟩
  · rw [written _ (by decide) (by decide), rd_restartWritten, if_neg (by decide), if_neg (by decide), if_neg (by decide), if_pos rfl]
  · rw [written _ (by decide) (by decide), rd_restartWritten, if_neg (by decide), if_pos rfl]
  · rw [written _ (by decide) (by decide), rd_restartWritten, if_neg (by decide), if_neg (by decide), if_pos rfl]
  · rw [boot, restartRecorded_boot, restartBegun_boot]
  · rw [boot, restartRecorded_boot, restartBegun_boot, bit_setBit, if_pos rfl]
  · obtain ⟨b, hb⟩ := emptied_discardBoxes (List.mem_range.2 hm) ((begun m).1.trans hown)
    rw [boxes, discardBittern_eq, hb]
    exact ⟨rfl, rfl, rfl⟩
  · rw [boxes, discardBittern_eq, mailbox_discardBoxes ((begun m).1.trans hown), (begun m).2]
  · exact told_of _ _ _ _ _ (told_restartRecorded hroom cause false) fifo
  · exact byte_of_mem _ _ (mem.trans (restartRecorded_mem ..))

/-- The restarts within the last 60 s (R406). -/
def recentRestarts (s : State) : List Nat := s.boot.bitRestarts.filter fun t => Nat.blt s.dtime (t + 60000000000)

/-- The state as a restart finds it, with the older restarts forgotten. -/
def restartsCounted (s : State) : State := s.modBoot fun b => { b with bitRestarts := s.recentRestarts }

/-- Bittern restarts where it is neither in reset nor halted, while there were fewer than three restarts within 60 s. -/
theorem restartBittern_restarts {s : State} (hup : s.bitState ≠ 4) (hlive : s.bitState ≠ 5) (hfew : s.recentRestarts.length < 3) (cause : Nat)
    (queued : List (Nat × Nat)) : s.Restarted (s.restartBittern cause false queued) cause := by
  have restarted := restartStep1_restarts s.restartsCounted cause queued
  rw [show s.restartBittern cause false queued = s.restartsCounted.restartStep1 cause false queued from
    (if_neg (by simp [hup, hlive])).trans (if_neg (Nat.not_le.2 hfew))]
  exact restarted

end State
end Sys2Proof.Machine
end

section
/-!
SUPPORT. O40, the second part: Bittern halted (R406, R409). What waited for it fails, and of all the answers that this sends none writes
BIT_STATE or BIT_BOOT_RESULT.
-/
namespace Sys2Proof.Machine
open Sys2Proof

/-- The objects in which a halt is read. -/
def IsBootWord (a : Nat) : Prop := a = Obj.BIT_STATE ∨ a = Obj.BIT_BOOT_RESULT

namespace IsBootWord
variable {a : Nat}

theorem ne_logLost (h : IsBootWord a) : a ≠ Obj.LOG_LOST := by
  rcases h with rfl | rfl <;> decide

theorem ne_squashed (h : IsBootWord a) (o : Nat) : a ≠ Obj.INST_SQUASHED o := by
  rcases h with rfl | rfl <;> simp only [Obj.INST_SQUASHED, Obj.BIT_STATE, Obj.BIT_BOOT_RESULT] <;> omega

/-- The eight session slots lie below. -/
theorem above_session (h : IsBootWord a) {n : Nat} (hn : n < 8) : Obj.SESS_OUTSTANDING n < a := by
  rcases h with rfl | rfl <;> simp only [Obj.SESS_OUTSTANDING, Obj.BIT_STATE, Obj.BIT_BOOT_RESULT] <;> omega

end IsBootWord

namespace State
variable {a : Nat}

/-! ## Sessions and answers (R544, R548, R552, R563, R567) -/

theorem lt_of_isSession {ch : Nat} (h : isSession ch = true) : ch < 8 := by
  simpa [isSession] using h

theorem rd_clearSlot {n : Nat} (ha : Obj.SESS_OUTSTANDING n < a) (s : State) : (s.clearSlot n).rd a = s.rd a := by
  simp only [Obj.SESS_OUTSTANDING] at ha
  rw [clearSlot, rd_wr_other, rd_wr_other, rd_wr_other, rd_wr_other, rd_wr_other]
  all_goals
    simp only [Obj.SESS_STATE, Obj.SESS_SOURCE, Obj.SESS_CRED, Obj.SESS_OPENED, Obj.SESS_OUTSTANDING]
    omega

theorem rd_closeSession {n : Nat} (ha : Obj.SESS_OUTSTANDING n < a) (hl : a ≠ Obj.LOG_LOST) (s : State) (reason : Nat) :
    (s.closeSession n reason).rd a = s.rd a := by
  unfold closeSession
  split
  · rfl
  · extract_lets started rest flash s₁ opened s₂
    have freed : s₂.rd a = s.rd a := rd_clearSlot ha _
    split
    · rw [rd_logEvent _ _ _ _ _ hl, freed]
    · exact freed

theorem rd_sendOn {n : Nat} (ha : Obj.SESS_OUTSTANDING n < a) (hl : a ≠ Obj.LOG_LOST) (s : State) (op tid status : Nat) (body : List (BitVec 8))
    (keep : Option Nat) : (s.sendOn n op tid status body keep).rd a = s.rd a := by
  unfold sendOn
  split
  · rfl
  · split
    · exact rd_closeSession ha hl _ _
    · rfl

theorem rd_windowDone (s : State) (o op tid status : Nat) (body : List (BitVec 8)) : (s.windowDone o op tid status body).rd a = s.rd a := by
  unfold windowDone
  extract_lets m w s₁ s₂
  split <;> rfl

theorem rd_countTxns (h : IsBootWord a) (s : State) (ch : Nat) : (s.countTxns ch).rd a = s.rd a := by
  unfold countTxns
  split
  next hs => exact rd_wr_other _ _ _ _ (h.above_session (lt_of_isSession hs)).ne'
  · rfl

theorem rd_respond (h : IsBootWord a) (s : State) (ch : Nat) (t : LdpTxn) (status : Nat) (body : List (BitVec 8)) :
    (s.respond ch t status body).rd a = s.rd a := by
  unfold respond
  split
  · rfl
  · extract_lets s₁ s₂
    have counted : s₂.rd a = s.rd a := (rd_tallyCount _ _ _ _ _ h.ne_logLost).trans (rd_countTxns h _ _)
    split
    next hs => exact (rd_sendOn (h.above_session (lt_of_isSession hs)) h.ne_logLost ..).trans counted
    · exact (rd_windowDone ..).trans counted

theorem rd_answerChannel (h : IsBootWord a) (s : State) (ch tid status : Nat) (body : List (BitVec 8)) :
    (s.answerChannel ch tid status body).rd a = s.rd a := by
  unfold answerChannel
  split
  · exact rd_respond h ..
  · rfl

theorem rd_answerLate (h : IsBootWord a) (s : State) (rq : Requester) (addr code : Nat) : (s.answerLate rq addr code).rd a = s.rd a := by
  unfold answerLate
  split
  · exact rd_respond h ..
  · split
    · split <;> rfl
    · rfl

/-! ## What waits fails (R409) -/

/-- Halted, Bittern unwraps nothing. -/
theorem unwrapNow_halted {s : State} (h : s.bitState = 5) (rq : Requester) (c v : Nat) : s.unwrapNow rq c v = (Status.bitternDown, s) := if_pos h

/-- Halted as before, with the result as before. -/
def StaysHalted (s t : State) : Prop := t.bitState = 5 ∧ t.rd Obj.BIT_BOOT_RESULT = s.rd Obj.BIT_BOOT_RESULT

/-- What keeps both objects keeps a halt. -/
theorem StaysHalted.of_rd {s t u : State} (h : StaysHalted s t) (hu : ∀ a, IsBootWord a → u.rd a = t.rd a) : StaysHalted s u :=
  ⟨(hu _ (.inl rfl)).trans h.1, (hu _ (.inr rfl)).trans h.2⟩

theorem takeBlobs_staysHalted {s t : State} (h : StaysHalted s t) : StaysHalted s t.takeBlobs := by
  refine each_keeps (StaysHalted s) _ _ _ (fun u e hu => ?_) h
  dsimp only
  rw [unwrapNow_halted hu.1]
  exact hu.of_rd fun a ha => rd_answerLate ha ..

theorem failWaiting_staysHalted {s : State} (h : s.bitState = 5) : StaysHalted s s.failWaiting := by
  unfold failWaiting
  extract_lets asked ids s₁
  have finished : StaysHalted s (s.each ids fun s id => s.finish id Status.bitternDown) :=
    each_keeps (StaysHalted s) _ _ _ (fun u id hu => hu.of_rd fun a ha => rd_completeAt _ _ _ _ _ _ _ ha.ne_logLost ha.ne_squashed) ⟨h, rfl⟩
  have taken : StaysHalted s s₁ := takeBlobs_staysHalted finished
  split
  · exact taken
  · refine taken.of_rd fun a ha => ?_
    rw [rd_answerChannel ha, rd_logEvent _ _ _ _ _ ha.ne_logLost]
    rfl

theorem haltBittern_halts (s : State) (result : Nat) : (s.haltBittern result).bitState = 5 ∧ (s.haltBittern result).rd Obj.BIT_BOOT_RESULT = result := by
  unfold haltBittern
  extract_lets s₁ s₂
  have state : s₂.rd Obj.BIT_STATE = 5 := by
    rw [modBoot_rd, rd_logEvent _ _ _ _ _ (by decide), rd_wr_other _ _ _ _ (by decide), rd_wr_same]
  have noted : s₂.rd Obj.BIT_BOOT_RESULT = result := by
    rw [modBoot_rd, rd_logEvent _ _ _ _ _ (by decide), rd_wr_same]
  have halted := failWaiting_staysHalted (s := s₂) state
  exact ⟨halted.1, halted.2.trans noted⟩

/-- The fourth restart within 60 s halts Bittern. -/
theorem restartBittern_halts {s : State} (hup : s.bitState ≠ 4) (hlive : s.bitState ≠ 5) (hmany : 3 ≤ s.recentRestarts.length) (cause : Nat)
    (queued : List (Nat × Nat)) : s.restartBittern cause false queued = s.restartsCounted.haltBittern 0x000B :=
  (if_neg (by simp [hup, hlive])).trans (if_pos hmany)

/-! ## Faults and requests (R390, R392, R406) -/

theorem execBitWatchdogExpiry_runs {s : State} (h : s.bitState = 2 ∨ s.bitState = 3) (queued : List (Nat × Nat)) :
    execBitWatchdogExpiry true queued s = .next (s.restartBittern 1 false queued) := by
  rw [execBitWatchdogExpiry, if_pos h]
  rfl

theorem writeBitRestart_runs {s : State} (h : s.bitState = 3) (rq : Requester) (queued : List (Nat × Nat)) :
    s.writeBitRestart rq 1 queued = (Status.ok, s.restartBittern (restartCause rq) false queued) := congrArg (Prod.mk _) (if_pos ⟨rfl, h⟩)

theorem writeBitRestart_ignored {s : State} (h : s.bitState ≠ 3) (rq : Requester) (queued : List (Nat × Nat)) :
    s.writeBitRestart rq 1 queued = (Status.ok, s) := congrArg (Prod.mk _) (if_neg fun hv => h hv.2)

theorem Restarted.answer {s t : State} {cause : Nat} (h : s.Restarted t cause) (rq : Requester) (st : Nat) : s.Restarted (t.answer rq st) cause := h

end State
end Sys2Proof.Machine
end

section
/-!
SUPPORT, and the statement O40. The ROM's measurement of a slot, and the firmware's readiness (R402 to R407, R615).
-/
namespace Sys2Proof.Machine
open Sys2Proof

namespace State

/-! ## The ROM starts (R407, step 2) -/

/-- The ROM measures the slot of BIT_IMAGE_SLOT. -/
def romMeasures (s : State) : State :=
  (s.wr Obj.BIT_STATE 1).modBoot fun b => { b with measuring := s.rd Obj.BIT_IMAGE_SLOT, otherMeasured := false }

theorem execBitRomStart_measures {s : State} (h : s.bitState = 4) (h1 : s.boot.stage ≠ 1) (h3 : s.boot.stage ≠ 3) :
    execBitRomStart s = .next s.romMeasures := by
  rw [execBitRomStart, if_neg (not_not.2 h)]
  simp only [h1, h3, decide_false, Bool.or_self, Bool.false_eq_true, if_false, romMeasures]

theorem rd_romMeasures (s : State) (a : Nat) : s.romMeasures.rd a = (s.wr Obj.BIT_STATE 1).rd a := by
  rw [romMeasures, modBoot_rd]

theorem romMeasures_boot (s : State) : s.romMeasures.boot = { s.boot with measuring := s.rd Obj.BIT_IMAGE_SLOT, otherMeasured := false } := by
  rw [romMeasures, modBoot_boot, wr_boot]

theorem romMeasures_mem (s : State) : s.romMeasures.mem = s.mem := by
  rw [romMeasures, modBoot_mem, wr_mem]

/-! ## A slot that passes (R405) -/

/-- Does the ROM measure for a restart, and not for a start-up (R407)? -/
def measuresRestart (s : State) : Bool := s.boot.bitT0.isSome && !decide (s.boot.stage = 2)

theorem execMeasurementDone_measured {s : State} (h : s.bitState = 1) (hslot : s.boot.measuring < 2) (image : BootImage) :
    execMeasurementDone image s =
      if (s.measureResult image s.measuresRestart).1 = 0 then .next (s.measurePass image s.measuresRestart)
      else .next (s.measureFail (s.measureResult image s.measuresRestart).1 (s.measureResult image s.measuresRestart).2 s.measuresRestart) :=
  if_neg (by omega)

/-- What is recorded of a slot that passes. -/
def passRecorded (s : State) (b : BootImage) : State :=
  let s := (s.wr Obj.BIT_MANIFEST_DIGEST b.digest).wr Obj.BIT_MEASUREMENTS (measurements b.entries)
  let s := (s.wr Obj.BIT_IMAGE_SLOT s.boot.measuring).wr Obj.BIT_BOOT_RESULT 0
  s.modBoot fun x => { x with imageLength := lengthOf b.entries 1, recoveryLength := 0 }

/-- The assignment in force: the one that is locked, or the image's, which the ROM locks. -/
def assigned (s : State) (t : Nat) : State := if s.rd Obj.BIT_ASSIGN_LOCK = 1 then s else s.lockAssignment t

/-- SUBST_DATA placed where the image has it. -/
def substPlaced (s : State) (b : BootImage) : State :=
  if digestOf b.entries 4 = 0 then s
  else { s with mem := Memory.drop s.mem (fun a => Nat.ble (reelAddr (3072 - s.rd Obj.REEL_BITTERN_SLICES) 0) a) }

/-- Bittern's key slot loaded, if it is not. -/
def bitternKeyed (s : State) : State := if (s.keySlot 0).state = 1 then s else s.loadKey 0 0xC1

/-- The firmware released, and Gaffer with its key slot. -/
def firmwareStarted (s : State) : State := ((s.loadKey 1 0xC0).wr Obj.BIT_STATE 2).modBoot fun x => { x with stage := 4 }

theorem measurePass_restart (s : State) (b : BootImage) : s.measurePass b true = (s.passRecorded b).wr Obj.BIT_STATE 2 := rfl

theorem measurePass_startUp (s : State) (b : BootImage) :
    s.measurePass b false = (((s.passRecorded b).assigned b.assignment).substPlaced b).bitternKeyed.firmwareStarted := rfl

/-- A slot that passed is on record. -/
def PassOnRecord (s t : State) (b : BootImage) : Prop :=
  t.rd Obj.BIT_BOOT_RESULT = 0 ∧ t.rd Obj.BIT_MANIFEST_DIGEST = b.digest ∧ t.rd Obj.BIT_MEASUREMENTS = measurements b.entries ∧
    t.rd Obj.BIT_IMAGE_SLOT = s.boot.measuring

/-- The record of a pass, among the objects of Bittern's image. -/
theorem PassOnRecord.of_rd {s t u : State} {b : BootImage} (h : PassOnRecord s t b)
    (hu : ∀ a, Obj.BIT_BOOT_RESULT ≤ a → a ≤ Obj.BIT_IMAGE_SLOT → u.rd a = t.rd a) : PassOnRecord s u b := by
  obtain ⟨result, digest, entries, slot⟩ := h
  rw [PassOnRecord, hu _ (by decide) (by decide), hu _ (by decide) (by decide), hu _ (by decide) (by decide), hu _ (by decide) (by decide)]
  exact ⟨result, digest, entries, slot⟩

theorem passOnRecord_passRecorded (s : State) (b : BootImage) : PassOnRecord s (s.passRecorded b) b := by
  unfold passRecorded
  refine ⟨?_, ?_, ?_, ?_⟩
  · rw [modBoot_rd, rd_wr_same]
  · rw [modBoot_rd, rd_wr_other _ _ _ _ (by decide), rd_wr_other _ _ _ _ (by decide), rd_wr_other _ _ _ _ (by decide), rd_wr_same]
  · rw [modBoot_rd, rd_wr_other _ _ _ _ (by decide), rd_wr_other _ _ _ _ (by decide), rd_wr_same]
  · rw [modBoot_rd, rd_wr_other _ _ _ _ (by decide), rd_wr_same, wr_boot, wr_boot]

theorem rd_assigned_lock (s : State) (t : Nat) : (s.assigned t).rd Obj.BIT_ASSIGN_LOCK = 1 := by
  unfold assigned
  split
  next h => exact h
  · exact (rd_logEvent _ _ _ _ _ (by decide)).trans (rd_wr_same ..)

/-- Beside the table, its lock and the two values that stand with it, an assignment writes no object but LOG_LOST. -/
theorem rd_assigned (s : State) (t a : Nat) (hl : a ≠ Obj.LOG_LOST)
    (ha : a ≠ Obj.BIT_ASSIGN_TABLE ∧ a ≠ Obj.MEM_WATERMARK ∧ a ≠ Obj.REEL_BITTERN_SLICES ∧ a ≠ Obj.BIT_ASSIGN_LOCK) : (s.assigned t).rd a = s.rd a := by
  obtain ⟨table, mark, slices, lock⟩ := ha
  unfold assigned
  split
  · rfl
  · rw [lockAssignment, rd_logEvent _ _ _ _ _ hl, rd_wr_other _ _ _ _ lock, rd_wr_other _ _ _ _ slices, rd_wr_other _ _ _ _ mark,
      rd_wr_other _ _ _ _ table]

theorem rd_substPlaced (s : State) (b : BootImage) (a : Nat) : (s.substPlaced b).rd a = s.rd a := by
  unfold substPlaced
  split <;> rfl

theorem rd_bitternKeyed (s : State) (a : Nat) : s.bitternKeyed.rd a = s.rd a := by
  unfold bitternKeyed
  split <;> rfl

theorem rd_firmwareStarted (s : State) (a : Nat) : s.firmwareStarted.rd a = if a = Obj.BIT_STATE then 2 else s.rd a := by
  rw [firmwareStarted, modBoot_rd, rd_wr, loadKey_rd]

theorem firmwareStarted_stage (s : State) : s.firmwareStarted.boot.stage = 4 := rfl

theorem keySlot_firmwareStarted (s : State) : (s.firmwareStarted.keySlot 1).owner = 0xC0 ∧ (s.firmwareStarted.keySlot 1).state = 1 := by
  have loaded : s.firmwareStarted.keySlot 1 = ⟨0xC0, 1, wrapAdd 16 (s.keySlot 1).generation 1⟩ := (Tab.get_set ..).trans (if_pos rfl)
  rw [loaded]
  exact ⟨rfl, rfl⟩

/-- A slot that passes at a restart. -/
theorem measurePass_restart_records (s : State) (b : BootImage) : (s.measurePass b true).bitState = 2 ∧ PassOnRecord s (s.measurePass b true) b := by
  rw [measurePass_restart]
  refine ⟨rd_wr_same .., (passOnRecord_passRecorded s b).of_rd fun a hlo _ => rd_wr_other _ _ _ _ ?_⟩
  exact (Nat.lt_of_lt_of_le (by decide) hlo).ne'

/-- A slot that passes at a start-up. -/
theorem measurePass_startUp_records (s : State) (b : BootImage) :
    (s.measurePass b false).bitState = 2 ∧ PassOnRecord s (s.measurePass b false) b ∧ (s.measurePass b false).rd Obj.BIT_ASSIGN_LOCK = 1 ∧
      (s.measurePass b false).boot.stage = 4 ∧ ((s.measurePass b false).keySlot 1).owner = 0xC0 ∧ ((s.measurePass b false).keySlot 1).state = 1 := by
  rw [measurePass_startUp]
  refine ⟨(rd_firmwareStarted ..).trans (if_pos rfl), (passOnRecord_passRecorded s b).of_rd fun a hlo hhi => ?_, ?_,
    firmwareStarted_stage _, keySlot_firmwareStarted _⟩
  · simp only [Obj.BIT_BOOT_RESULT, Obj.BIT_IMAGE_SLOT] at hlo hhi
    have away : a ≠ Obj.BIT_STATE ∧ a ≠ Obj.LOG_LOST ∧ a ≠ Obj.BIT_ASSIGN_TABLE ∧ a ≠ Obj.MEM_WATERMARK ∧ a ≠ Obj.REEL_BITTERN_SLICES ∧
        a ≠ Obj.BIT_ASSIGN_LOCK := by
      simp only [Obj.BIT_STATE, Obj.LOG_LOST, Obj.BIT_ASSIGN_TABLE, Obj.MEM_WATERMARK, Obj.REEL_BITTERN_SLICES, Obj.BIT_ASSIGN_LOCK]
      omega
    rw [rd_firmwareStarted, if_neg away.1, rd_bitternKeyed, rd_substPlaced, rd_assigned _ _ _ away.2.1 away.2.2]
  · rw [rd_firmwareStarted, if_neg (by decide), rd_bitternKeyed, rd_substPlaced, rd_assigned_lock]

/-! ## A slot that fails (R404) -/

/-- A failed measurement on record. -/
def failRecorded (s : State) (result kind : Nat) : State :=
  (s.wr Obj.BIT_BOOT_RESULT result).logEvent Ev.measureFail 0xC1 [d8 s.boot.measuring, d16 result, d8 kind]

theorem rd_failRecorded (s : State) (result kind a : Nat) (hl : a ≠ Obj.LOG_LOST) :
    (s.failRecorded result kind).rd a = if a = Obj.BIT_BOOT_RESULT then result else s.rd a := by
  rw [failRecorded, rd_logEvent _ _ _ _ _ hl, rd_wr]

theorem failRecorded_mem (s : State) (result kind : Nat) : (s.failRecorded result kind).mem = s.mem := by
  rw [failRecorded, logEvent_mem, wr_mem]

theorem strapBoot_failRecorded (s : State) (result kind : Nat) : (s.failRecorded result kind).strapBoot = s.strapBoot := by
  rw [strapBoot, rd_failRecorded _ _ _ _ (by decide), if_neg (by decide), strapBoot]

/-- With dual-image boot the other slot is tried, if it was not. -/
theorem measureFail_tries {s : State} (hdual : s.strapBoot = 1) (hfirst : s.boot.otherMeasured = false) (hslot : s.boot.measuring < 2)
    (result kind : Nat) (restart : Bool) : s.measureFail result kind restart =
      (s.failRecorded result kind).modBoot fun x => { x with measuring := 1 - s.boot.measuring, otherMeasured := true } := by
  refine if_pos ⟨(strapBoot_failRecorded s result kind).trans hdual, ?_, hslot⟩
  exact fun h => by simp [hfirst] at h

/-- Else Bittern halts, and at a start-up there is no other stage. -/
theorem measureFail_halts {s : State} (h : s.strapBoot ≠ 1 ∨ s.boot.otherMeasured = true) (result kind : Nat) (restart : Bool) :
    s.measureFail result kind restart =
      let t := ((s.failRecorded result kind).haltBittern result).modBoot fun x => { x with recoveryLength := 0 }
      if restart then t else t.modBoot fun x => { x with stage := 7 } := by
  refine if_neg fun hagain => ?_
  rcases h with h | h
  · exact h ((strapBoot_failRecorded s result kind).symm.trans hagain.1)
  · exact hagain.2.1 (by simp [h])

theorem measureFail_halted {s : State} (h : s.strapBoot ≠ 1 ∨ s.boot.otherMeasured = true) (result kind : Nat) (restart : Bool) :
    (s.measureFail result kind restart).bitState = 5 ∧ (s.measureFail result kind restart).rd Obj.BIT_BOOT_RESULT = result ∧
      (restart = false → (s.measureFail result kind restart).boot.stage = 7) := by
  obtain ⟨state, noted⟩ := haltBittern_halts (s.failRecorded result kind) result
  rw [measureFail_halts h]
  generalize (s.failRecorded result kind).haltBittern result = u at state noted
  cases restart with
  | true => exact ⟨state, noted, fun h => nomatch h⟩
  | false => exact ⟨state, noted, fun _ => rfl⟩

/-! ## The firmware is ready (R407, step 4; R615, step 6) -/

theorem takeBlobs_empty {s : State} (h : s.ldp.blobs = []) : s.takeBlobs = s.modLdp fun l => { l with blobs := [] } := by
  rw [takeBlobs, h]
  rfl

/-- Bittern runs, with what a restart took on record. -/
def restartDone (s : State) (t0 : Nat) : State :=
  let us := (s.dtime - t0) / 1000
  let s := (s.wr Obj.BIT_STATE 3).modLdp fun l => { l with blobs := [] }
  let s := (s.wr Obj.BIT_LAST_DURATION (us % 2 ^ 32)).logEvent Ev.bitRestartDone 0xC1 [d32 us, d8 (s.rd Obj.BIT_IMAGE_SLOT)]
  s.modBoot fun b => { b with bitT0 := none, strictHolds := setBit b.strictHolds 1 false }

theorem writeBitReady_restarted {s : State} (h : s.bitState = 2) (hblobs : s.ldp.blobs = []) {t0 : Nat} (ht0 : s.boot.bitT0 = some t0) :
    s.writeBitReady 1 = (Status.ok, s.restartDone t0) := by
  rw [writeBitReady, if_neg (by simp [h]), takeBlobs_empty (s := s.wr Obj.BIT_STATE 3) hblobs]
  simp only [modLdp_boot, wr_boot, ht0]
  rfl

theorem writeBitReady_ignored {s : State} (h : s.bitState ≠ 2) : s.writeBitReady 1 = (Status.ok, s) := if_pos (.inr h)

theorem rd_restartDone (s : State) (t0 a : Nat) (hl : a ≠ Obj.LOG_LOST) : (s.restartDone t0).rd a =
    if a = Obj.BIT_LAST_DURATION then (s.dtime - t0) / 1000 % 2 ^ 32 else if a = Obj.BIT_STATE then 3 else s.rd a := by
  rw [restartDone, modBoot_rd, rd_logEvent _ _ _ _ _ hl, rd_wr, modLdp_rd, rd_wr]

theorem restartDone_bitT0 (s : State) (t0 : Nat) : (s.restartDone t0).boot.bitT0 = none := by
  rw [restartDone, modBoot_boot]

theorem restartDone_mem (s : State) (t0 : Nat) : (s.restartDone t0).mem = s.mem := by
  rw [restartDone, modBoot_mem, logEvent_mem, wr_mem, modLdp_mem, wr_mem]

theorem objectsBut_restartDone (s : State) (t0 : Nat) : s.objectsBut (s.restartDone t0) [Obj.BIT_STATE, Obj.BIT_LAST_DURATION, Obj.LOG_LOST] := by
  intro a ha
  simp only [List.mem_cons, List.not_mem_nil, or_false, not_or] at ha
  obtain ⟨hstate, hlast, hlost⟩ := ha
  rw [rd_restartDone _ _ _ hlost, if_neg hlast, if_neg hstate]

end State

open State

/-- A restart of Bittern, by its causes. -/
theorem bitternRestarts (s : State) (queued : List (Nat × Nat)) (hup : s.bitState ≠ 4) (hlive : s.bitState ≠ 5) :
    (s.recentRestarts.length < 3 →
      (∃ t, exec (.lockstepMismatch true queued) s = .next t ∧ s.Restarted t 4) ∧ (∃ t, exec (.bitSramUe true queued) s = .next t ∧ s.Restarted t 5) ∧
        (s.bitState = 2 ∨ s.bitState = 3 → ∃ t, exec (.bitWatchdogExpiry true queued) s = .next t ∧ s.Restarted t 1)) ∧
      (¬s.recentRestarts.length < 3 →
        ∃ t, exec (.lockstepMismatch true queued) s = .next t ∧ t.rd Obj.BIT_STATE = 5 ∧ t.rd Obj.BIT_BOOT_RESULT = 0x000B) := by
  refine ⟨fun hfew => ?_, fun hmany => ?_⟩
  · have restarted (cause : Nat) := restartBittern_restarts hup hlive hfew cause queued
    exact ⟨⟨_, rfl, restarted 4⟩, ⟨_, rfl, restarted 5⟩, fun hruns => ⟨_, execBitWatchdogExpiry_runs hruns queued, restarted 1⟩⟩
  · refine ⟨_, congrArg Host.Outcome.next (restartBittern_halts hup hlive (Nat.not_lt.1 hmany) 4 queued), ?_⟩
    exact haltBittern_halts ..

/-- A request of a restart, by its writer. -/
theorem bitternRestartAsked (s : State) (rq : Requester) (queued : List (Nat × Nat)) (ha : s.accepts rq Obj.BIT_RESTART_REQ 1) :
    (s.bitState = 3 → s.recentRestarts.length < 3 →
      ∃ t, exec (.bitRestartReq rq 1 queued) s = .next t ∧ s.Restarted t (restartCause rq) ∧ t.answered rq Status.ok) ∧
      (s.bitState ≠ 3 → exec (.bitRestartReq rq 1 queued) s = .next (s.answer rq Status.ok)) := by
  refine ⟨fun hruns hfew => ?_, fun hidle => ownRequest_answers ha (writeBitRestart_ignored hidle rq queued) (by decide)⟩
  have restarted := restartBittern_restarts (by rw [hruns]; decide) (by rw [hruns]; decide) hfew (restartCause rq) queued
  exact ⟨_, ownRequest_answers ha (writeBitRestart_runs hruns rq queued) (by decide), restarted.answer rq Status.ok, answered_answer ..⟩

/-- A measurement's end, by its result. -/
theorem bitternMeasures (s : State) (image : BootImage) (h : s.bitState = 1) (hslot : s.boot.measuring < 2) :
    ((s.measureResult image s.measuresRestart).1 = 0 →
      ∃ t, exec (.measurementDone image) s = .next t ∧ t.bitState = 2 ∧ t.rd Obj.BIT_BOOT_RESULT = 0 ∧ t.rd Obj.BIT_MANIFEST_DIGEST = image.digest ∧
        t.rd Obj.BIT_MEASUREMENTS = measurements image.entries ∧ t.rd Obj.BIT_IMAGE_SLOT = s.boot.measuring ∧
        (s.measuresRestart = false → t.rd Obj.BIT_ASSIGN_LOCK = 1 ∧ t.boot.stage = 4 ∧ (t.keySlot 1).owner = 0xC0 ∧ (t.keySlot 1).state = 1)) ∧
    ((s.measureResult image s.measuresRestart).1 ≠ 0 → s.strapBoot = 1 → s.boot.otherMeasured = false →
      ∃ t, exec (.measurementDone image) s = .next t ∧ t.bitState = 1 ∧ t.boot.measuring = 1 - s.boot.measuring ∧ t.boot.otherMeasured = true ∧
        t.rd Obj.BIT_BOOT_RESULT = (s.measureResult image s.measuresRestart).1 ∧ s.sameMemory t) ∧
    ((s.measureResult image s.measuresRestart).1 ≠ 0 → s.strapBoot ≠ 1 ∨ s.boot.otherMeasured = true →
      ∃ t, exec (.measurementDone image) s = .next t ∧ t.bitState = 5 ∧ t.rd Obj.BIT_BOOT_RESULT = (s.measureResult image s.measuresRestart).1 ∧
        (s.measuresRestart = false → t.boot.stage = 7)) := by
  have measured := execMeasurementDone_measured h hslot image
  refine ⟨fun hpass => ⟨_, measured.trans (if_pos hpass), ?_⟩, fun hfail hdual hfirst => ⟨_, measured.trans (if_neg hfail), ?_⟩,
    fun hfail hlast => ⟨_, measured.trans (if_neg hfail), measureFail_halted hlast ..⟩⟩
  · cases s.measuresRestart with
    | true =>
      obtain ⟨state, result, digest, entries, slot⟩ := measurePass_restart_records s image
      exact ⟨state, result, digest, entries, slot, fun h => nomatch h⟩
    | false =>
      obtain ⟨state, ⟨result, digest, entries, slot⟩, started⟩ := measurePass_startUp_records s image
      exact ⟨state, result, digest, entries, slot, fun _ => started⟩
  · rw [measureFail_tries hdual hfirst hslot]
    refine ⟨?_, ?_, ?_, ?_, ?_⟩
    · rw [bitState, modBoot_rd, rd_failRecorded _ _ _ _ (by decide), if_neg (by decide)]
      exact h
    · rw [modBoot_boot]
    · rw [modBoot_boot]
    · rw [modBoot_rd, rd_failRecorded _ _ _ _ (by decide), if_pos rfl]
    · exact byte_of_mem _ _ ((modBoot_mem ..).trans (failRecorded_mem ..))

/-- BIT_READY, after a restart or out of turn. -/
theorem bitternReady (s : State) (rq : Requester) (ha : s.accepts rq Obj.BIT_READY 1) (hblobs : s.ldp.blobs = []) :
    (s.bitState = 2 → ∀ t0, s.boot.bitT0 = some t0 →
      ∃ t, exec (.bitReady rq 1) s = .next t ∧ t.bitState = 3 ∧ t.boot.bitT0 = none ∧ t.answered rq Status.ok ∧
        t.rd Obj.BIT_LAST_DURATION = (s.dtime - t0) / 1000 % 2 ^ 32 ∧ s.objectsBut t [Obj.BIT_STATE, Obj.BIT_LAST_DURATION, Obj.LOG_LOST] ∧ s.sameMemory t) ∧
    (s.bitState ≠ 2 → exec (.bitReady rq 1) s = .next (s.answer rq Status.ok)) := by
  refine ⟨fun h t0 ht0 => ?_, fun h => ownRequest_answers ha (writeBitReady_ignored h) (by decide)⟩
  refine ⟨_, ownRequest_answers ha (writeBitReady_restarted h hblobs ht0) (by decide), ?_, ?_, answered_answer .., ?_, fun a hother => ?_, ?_⟩
  · rw [bitState, answer_rd, rd_restartDone _ _ _ (by decide), if_neg (by decide), if_pos rfl]
  · rw [answer_boot, restartDone_bitT0]
  · rw [answer_rd, rd_restartDone _ _ _ (by decide), if_pos rfl]
  · rw [answer_rd, objectsBut_restartDone s t0 a hother]
  · exact byte_of_mem _ _ ((answer_mem ..).trans (restartDone_mem s t0))

/-- Settles O40, by what each event of Bittern's leaves: a restart, a measurement's end, and readiness. -/
theorem bitternMeasuresRunsAndRestarts : Obligations.BitternMeasuresRunsAndRestarts := by
  unfold Obligations.BitternMeasuresRunsAndRestarts
  refine ⟨⟨bitternRestarts, bitternRestartAsked⟩, fun s h h1 h3 => ?_, bitternMeasures, bitternReady⟩
  refine ⟨_, execBitRomStart_measures h h1 h3, ?_, ?_, ?_, fun a ha => ?_, byte_of_mem _ _ (romMeasures_mem s)⟩
  · rw [bitState, rd_romMeasures, rd_wr_same]
  · rw [romMeasures_boot]
  · rw [romMeasures_boot]
  · rw [rd_romMeasures, objectsBut_wr s _ _ a ha]

end Sys2Proof.Machine
end

section
/-!
SUPPORT. O27: the training of a port's link (R233 to R236). First PORT_STATUS and the port's own state after each shared operation, and what no operation of
training touches (`State.PortOnly`); then what each command of training leaves.
-/
namespace Sys2Proof.Machine
open Sys2Proof

namespace State

/-! ## PORT_STATUS (R247) -/

theorem portStatus_ne_logLost (p : Nat) : Obj.PORT_STATUS p ≠ Obj.LOG_LOST := by
  simp only [Obj.PORT_STATUS, Obj.LOG_LOST]
  omega

theorem portStatus_ne_trainFails (p q : Nat) : Obj.PORT_STATUS p ≠ Obj.PORT_TRAIN_FAILS q := by
  simp only [Obj.PORT_STATUS, Obj.PORT_TRAIN_FAILS]
  omega

theorem portStatus_ne_linkNow (p q : Nat) : Obj.PORT_STATUS p ≠ Obj.PORT_LINK_NOW q := by
  simp only [Obj.PORT_STATUS, Obj.PORT_LINK_NOW]
  omega

@[simp] theorem ps_setPs (s : State) (p b c : Nat) (v : Bool) : (s.setPs p b v).ps p c = if c = b then v else s.ps p c := by
  rw [ps, setPs, rd_wrBit, if_pos rfl, bit_setBit, ps]

@[simp] theorem ps_emit (s : State) (e : IoEvent) (p b : Nat) : (s.emit e).ps p b = s.ps p b := rfl

@[simp] theorem ps_answer (s : State) (rq : Requester) (st p b : Nat) : (s.answer rq st).ps p b = s.ps p b := rfl

@[simp] theorem ps_setPort (s : State) (q : Nat) (x : Port) (p b : Nat) : (s.setPort q x).ps p b = s.ps p b := rfl

@[simp] theorem ps_modPort (s : State) (q : Nat) (f : Port → Port) (p b : Nat) : (s.modPort q f).ps p b = s.ps p b := rfl

theorem ps_wr_other (s : State) {a p : Nat} (h : Obj.PORT_STATUS p ≠ a) (v b : Nat) : (s.wr a v).ps p b = s.ps p b := by
  rw [ps, rd_wr_other _ _ _ _ h, ps]

@[simp] theorem ps_logInjected (s : State) (code source : Nat) (i : Bool) (ds : List Detail) (p b : Nat) :
    (s.logInjected code source i ds).ps p b = s.ps p b := by
  rw [ps, rd_logInjected _ _ _ _ _ _ (portStatus_ne_logLost p), ps]

@[simp] theorem ps_logEvent (s : State) (code source : Nat) (ds : List Detail) (p b : Nat) : (s.logEvent code source ds).ps p b = s.ps p b :=
  ps_logInjected ..

/-! ## The port's own state -/

@[simp] theorem port_setPort (s : State) (p : Nat) (x : Port) : (s.setPort p x).port p = x := Tab.get_set_same ..

@[simp] theorem port_modPort (s : State) (p : Nat) (f : Port → Port) : (s.modPort p f).port p = f (s.port p) := port_setPort ..

@[simp] theorem port_setPs (s : State) (p b : Nat) (v : Bool) (q : Nat) : (s.setPs p b v).port q = s.port q := rfl

@[simp] theorem port_wr (s : State) (a v p : Nat) : (s.wr a v).port p = s.port p := rfl

@[simp] theorem port_emit (s : State) (e : IoEvent) (p : Nat) : (s.emit e).port p = s.port p := rfl

@[simp] theorem port_answer (s : State) (rq : Requester) (st p : Nat) : (s.answer rq st).port p = s.port p := rfl

@[simp] theorem port_logEvent (s : State) (code source : Nat) (ds : List Detail) (p : Nat) : (s.logEvent code source ds).port p = s.port p := by
  rw [port, logEvent_ports, port]

/-! ## What a port leaves alone -/

/-- From `s` to `t` only port `p` has moved: no output, no byte of memory, and no object but those of the port's own index and LOG_LOST (R246, R633). -/
structure PortOnly (p : Nat) (s t : State) : Prop where
  outs : t.outs = s.outs
  mem : t.mem = s.mem
  obj : ∀ a, a / 256 ≠ 0x2510 + p → a ≠ Obj.LOG_LOST → t.rd a = s.rd a

namespace PortOnly
variable {p : Nat} {s t u : State}

theorem refl (s : State) : PortOnly p s s := ⟨rfl, rfl, fun _ _ _ => rfl⟩

theorem trans (h : PortOnly p s t) (h' : PortOnly p t u) : PortOnly p s u :=
  ⟨h'.outs.trans h.outs, h'.mem.trans h.mem, fun a ha hl => (h'.obj a ha hl).trans (h.obj a ha hl)⟩

theorem ite (c : Prop) [Decidable c] (h : PortOnly p s t) (h' : PortOnly p s u) : PortOnly p s (if c then t else u) := by
  split
  · exact h
  · exact h'

theorem wr (s : State) (a v : Nat) (h : a / 256 = 0x2510 + p) : PortOnly p s (s.wr a v) :=
  ⟨rfl, rfl, fun _ hb _ => rd_wr_other _ _ _ _ fun hab => hb (hab ▸ h)⟩

theorem setPs (s : State) (b : Nat) (v : Bool) : PortOnly p s (s.setPs p b v) := by
  refine wr s _ _ ?_
  simp only [Obj.PORT_STATUS]
  omega

theorem setPort (s : State) (x : Port) : PortOnly p s (s.setPort p x) := ⟨rfl, rfl, fun _ _ _ => rfl⟩

theorem modPort (s : State) (f : Port → Port) : PortOnly p s (s.modPort p f) := setPort ..

theorem emit (s : State) (e : IoEvent) : PortOnly p s (s.emit e) := ⟨rfl, rfl, fun _ _ _ => rfl⟩

theorem answer (s : State) (rq : Requester) (st : Nat) : PortOnly p s (s.answer rq st) := emit ..

theorem logInjected (s : State) (code source : Nat) (i : Bool) (ds : List Detail) : PortOnly p s (s.logInjected code source i ds) :=
  ⟨logInjected_outs .., logInjected_mem .., fun _ _ hl => rd_logInjected _ _ _ _ _ _ hl⟩

theorem logEvent (s : State) (code source : Nat) (ds : List Detail) : PortOnly p s (s.logEvent code source ds) := logInjected ..

theorem train (s : State) (list again : List LinkConfig) : PortOnly p s (s.train p list again) :=
  (setPort s _).trans (.ite _ (setPs _ ..) ((setPs _ ..).trans (emit ..)))

/-- The frame in the words of the statements. -/
theorem frame (h : PortOnly p s t) : t.outs = s.outs ∧ s.sameMemory t := ⟨h.outs, byte_of_mem _ _ h.mem⟩

/-- The routing is kept: OUT_PORT is no object of a port (R223). -/
theorem outputOf (h : PortOnly p s t) (q : Nat) : t.outputOf q = s.outputOf q := by
  refine List.find?_congr fun k hk => ?_
  have hk : k < 12 := List.mem_range.1 hk
  have noPort : Obj.OUT_PORT k / 256 ≠ 0x2510 + p ∧ Obj.OUT_PORT k ≠ Obj.LOG_LOST := by
    simp only [Obj.OUT_PORT, Obj.LOG_LOST]
    omega
  rw [h.obj _ noPort.1 noPort.2]

end PortOnly

/-! ## Training begins (R233, R234) -/

@[simp] theorem port_train (s : State) (p : Nat) (list again : List LinkConfig) :
    (s.train p list again).port p = { s.port p with candidates := list, rerun := again } := by
  unfold train
  split <;> simp

@[simp] theorem ps_train (s : State) (p : Nat) (list again : List LinkConfig) (b : Nat) :
    (s.train p list again).ps p b = if b = psTraining then decide (list ≠ []) else s.ps p b := by
  unfold train
  split
  next empty => simp [empty]
  next more => simp [more]

theorem rd_train_other (s : State) (p : Nat) (list again : List LinkConfig) {a : Nat} (h : a ≠ Obj.PORT_STATUS p) :
    (s.train p list again).rd a = s.rd a := by
  unfold train
  split
  · exact rd_wr_other _ _ _ _ h
  · exact rd_wr_other _ _ _ _ h

/-- A port that trains an output's mode tries all that carries it, from the top (R233). -/
theorem startTraining_trains (s : State) (p k : Nat) :
    ((s.startTraining p k).port p).candidates = s.candidates p (s.timing k) ∧
      (s.startTraining p k).ps p psTraining = decide (s.candidates p (s.timing k) ≠ []) ∧ PortOnly p s (s.startTraining p k) := by
  unfold startTraining
  extract_lets list s₁ s₂
  have trained : PortOnly p s s₂ := (((PortOnly.setPs s ..).trans (.setPs _ ..)).trans (.emit ..)).trans (.train ..)
  have candidates : (s₂.port p).candidates = list := by simp only [s₂, port_train]
  have training : s₂.ps p psTraining = decide (list ≠ []) := by simp only [s₂, ps_train, if_true]
  split
  · exact ⟨(congrArg Port.candidates (port_logEvent ..)).trans candidates, (ps_logEvent ..).trans training, trained.trans (.logEvent ..)⟩
  · exact ⟨candidates, training, trained⟩

/-! ## An attempt ends (R233, R234) -/

/-- A failed attempt at a configuration, counted and on record. -/
def attemptFailed (s : State) (p : Nat) (c : LinkConfig) (phase : Nat) : State :=
  (s.count (Obj.PORT_TRAIN_FAILS p)).logEvent Ev.trainFail noOwner [d8 p, d8 c.rate, d8 c.lanes, d8 phase]

theorem portOnly_attemptFailed (s : State) (p : Nat) (c : LinkConfig) (phase : Nat) : PortOnly p s (s.attemptFailed p c phase) := by
  refine (PortOnly.wr s _ _ ?_).trans (.logEvent ..)
  simp only [Obj.PORT_TRAIN_FAILS]
  omega

theorem rd_attemptFailed_fails (s : State) (p : Nat) (c : LinkConfig) (phase : Nat) :
    (s.attemptFailed p c phase).rd (Obj.PORT_TRAIN_FAILS p) = wrapAdd 32 (s.rd (Obj.PORT_TRAIN_FAILS p)) 1 := by
  have other : Obj.PORT_TRAIN_FAILS p ≠ Obj.LOG_LOST := by
    simp only [Obj.PORT_TRAIN_FAILS, Obj.LOG_LOST]
    omega
  rw [attemptFailed, rd_logEvent _ _ _ _ _ other, rd_count, if_pos rfl]

/-- The state after a failed attempt with `rest` still to try: the next one is tried, or the list is exhausted. -/
def trainFailed (s : State) (p : Nat) (c : LinkConfig) (rest : List LinkConfig) (phase : Nat) : State :=
  let s := s.attemptFailed p c phase
  let s := s.train p rest (s.port p).rerun
  if rest = [] then s.setPs p psExhausted true else s

theorem portOnly_trainFailed (s : State) (p : Nat) (c : LinkConfig) (rest : List LinkConfig) (phase : Nat) :
    PortOnly p s (s.trainFailed p c rest phase) :=
  ((portOnly_attemptFailed ..).trans (.train ..)).trans (.ite _ (.setPs ..) (.refl _))

theorem trainFailed_goesOn (s : State) (p : Nat) (c : LinkConfig) (rest : List LinkConfig) (phase : Nat) :
    (s.trainFailed p c rest phase).rd (Obj.PORT_TRAIN_FAILS p) = wrapAdd 32 (s.rd (Obj.PORT_TRAIN_FAILS p)) 1 ∧
      ((s.trainFailed p c rest phase).port p).candidates = rest ∧ (s.trainFailed p c rest phase).ps p psTraining = decide (rest ≠ []) ∧
      (rest = [] → (s.trainFailed p c rest phase).ps p psExhausted = true) := by
  have other := (portStatus_ne_trainFails p p).symm
  unfold trainFailed
  extract_lets s₁ s₂
  have fails : s₂.rd (Obj.PORT_TRAIN_FAILS p) = wrapAdd 32 (s.rd (Obj.PORT_TRAIN_FAILS p)) 1 :=
    (rd_train_other _ _ _ _ other).trans (rd_attemptFailed_fails ..)
  split
  next exhausted => exact ⟨(rd_wr_other _ _ _ _ other).trans fails, by simp [s₂], by simp [s₂, psTraining, psExhausted], fun _ => by simp⟩
  next more => exact ⟨fails, by simp [s₂], by simp [s₂], fun exhausted => absurd exhausted more⟩

/-- The link is up at a configuration; a port that is neither DisplayPort nor eDP sends its start-up sequence (R233, R235). -/
def linkTaken (s : State) (p : Nat) (c : LinkConfig) : State :=
  let s := ((s.setPs p psTraining false).setPs p psLinkUp true).modPort p
    (fun x => { x with link := some c, level := x.level || decide (s.portKind p = 4) })
  s.whenB (!s.isDp p) (fun s => s.emit (.port p pcInit))

/-- The link up and on record: a change of DSC on a link that was there waits for its frame start (R236). -/
def linkedUp (s : State) (p : Nat) (c : LinkConfig) : State :=
  let changes := match (s.port p).link with
    | some o => decide (o.dsc = 0) != decide (c.dsc = 0)
    | none => false
  let s := s.linkTaken p c
  let s := if changes then s.modPort p (fun x => { x with dscPending := some c })
    else (s.setPs p psDsc (decide (c.dsc ≠ 0))).wr (Obj.PORT_LINK_NOW p) (linkNow c)
  s.logEvent Ev.linkUp noOwner [d8 p, d8 c.rate, d8 c.lanes, d16 c.dsc]

theorem portOnly_linkTaken (s : State) (p : Nat) (c : LinkConfig) : PortOnly p s (s.linkTaken p c) :=
  (((PortOnly.setPs s ..).trans (.setPs _ ..)).trans (.modPort ..)).trans (.ite _ (.emit ..) (.refl _))

theorem linkTaken_takes (s : State) (p : Nat) (c : LinkConfig) :
    (s.linkTaken p c).ps p psLinkUp = true ∧ (s.linkTaken p c).ps p psTraining = false ∧ ((s.linkTaken p c).port p).link = some c := by
  unfold linkTaken
  extract_lets s₁
  have taken : s₁.ps p psLinkUp = true ∧ s₁.ps p psTraining = false ∧ (s₁.port p).link = some c := by simp [s₁, psTraining, psLinkUp]
  unfold whenB
  split
  · exact taken
  · exact taken

theorem portOnly_linkNow (s : State) (p v : Nat) : PortOnly p s (s.wr (Obj.PORT_LINK_NOW p) v) := by
  refine .wr s _ v ?_
  simp only [Obj.PORT_LINK_NOW]
  omega

theorem portOnly_linkedUp (s : State) (p : Nat) (c : LinkConfig) : PortOnly p s (s.linkedUp p c) :=
  ((portOnly_linkTaken s p c).trans (.ite _ (.modPort ..) ((PortOnly.setPs ..).trans (portOnly_linkNow ..)))).trans (.logEvent ..)

theorem linkedUp_takes (s : State) (p : Nat) (c : LinkConfig) :
    (s.linkedUp p c).ps p psLinkUp = true ∧ (s.linkedUp p c).ps p psTraining = false ∧ ((s.linkedUp p c).port p).link = some c := by
  obtain ⟨up, training, link⟩ := linkTaken_takes s p c
  unfold linkedUp
  extract_lets changes s₁ s₂
  have recorded : s₂.ps p psLinkUp = true ∧ s₂.ps p psTraining = false ∧ (s₂.port p).link = some c := by
    simp only [s₂]
    split
    · rw [ps_modPort, ps_modPort, port_modPort]
      exact ⟨up, training, link⟩
    · have status (b : Nat) (h : b ≠ psDsc) :
          ((s₁.setPs p psDsc (decide (c.dsc ≠ 0))).wr (Obj.PORT_LINK_NOW p) (linkNow c)).ps p b = s₁.ps p b := by
        rw [ps_wr_other _ (portStatus_ne_linkNow p p), ps_setPs, if_neg h]
      rw [status _ (by decide), status _ (by decide), port_wr, port_setPs]
      exact ⟨up, training, link⟩
  rwa [ps_logEvent, ps_logEvent, port_logEvent]

end State

open State

theorem execTrainFail_next {s : State} {p : Fin 14} {c : LinkConfig} {rest : List LinkConfig} (htraining : s.ps p.val psTraining = true)
    (hdphy : s.portKind p.val ≠ 2) (hcphy : s.portKind p.val ≠ 3) (hlist : (s.port p.val).candidates = c :: rest) (phase : Fin 7) :
    execTrainFail p phase s = .next (s.trainFailed p.val c rest phase.val) := by
  unfold execTrainFail
  extract_lets q
  rw [if_neg (by simp [q, htraining, hdphy, hcphy]), show (s.port q).candidates = c :: rest from hlist]
  rfl

/-- An attempt that succeeds on a port that no output names starts no raster. -/
theorem execLinkUp_unrouted {s : State} {p : Fin 14} {c : LinkConfig} {rest : List LinkConfig} (htraining : s.ps p.val psTraining = true)
    (hlist : (s.port p.val).candidates = c :: rest) (hbare : s.outputOf p.val = none) : execLinkUp p s = .next (s.linkedUp p.val c) := by
  have unrouted : (s.linkedUp p.val c).outputOf p.val = none := ((portOnly_linkedUp ..).outputOf _).trans hbare
  have routes : execLinkUp p s = .next (match (s.linkedUp p.val c).outputOf p.val with
      | some k => (s.linkedUp p.val c).tryRaster k
      | none => s.linkedUp p.val c) := by
    unfold execLinkUp
    extract_lets q was
    rw [if_neg (by simp [q, htraining]), show (s.port q).candidates = c :: rest from hlist]
    rfl
  rw [routes, unrouted]

/-! ## Reruns and losses (R234, R236) -/

/-- An exhausted port whose output's mode some configuration carries tries configurations that carry it, at least one. -/
theorem execTrainRetry_trains {s : State} {p : Fin 14} {k : Nat} (hidle : s.ps p.val psTraining = false) (hdown : s.ps p.val psLinkUp = false)
    (hrerun : (s.port p.val).rerun ≠ []) (hrouted : s.outputOf p.val = some k) (hfit : s.candidates p.val (s.timing k) ≠ []) :
    ∃ list, execTrainRetry p s = .next (s.train p.val list (s.port p.val).rerun) ∧ list ≠ [] ∧ ∀ c ∈ list, c ∈ s.candidates p.val (s.timing k) := by
  unfold execTrainRetry
  extract_lets q x
  rw [if_neg (by simp [q, x, hidle, hdown, hrerun]), show s.outputOf q = some k from hrouted]
  dsimp -zeta only
  extract_lets fit list
  rw [if_neg hfit]
  refine ⟨_, rfl, ?_⟩
  split
  · exact ⟨hfit, fun _ h => h⟩
  next h => exact ⟨h, fun c hc => List.contains_iff_mem.1 (List.mem_filter.1 hc).2⟩

namespace State

/-- The lost link, as the port's status shows it and the log tells it; it lowers an A-PHY port's attach level (R226). -/
def lossNoted (s : State) (p : Nat) (injected : Bool) (c : LinkConfig) : State :=
  let s := (s.setPs p psLost true).setPs p psLinkUp false
  let s := s.logInjected Ev.linkLost noOwner injected [d8 p, d8 c.rate, d8 c.lanes]
  if s.portKind p = 4 then s.modPort p (fun x => { x with level := false, debouncing := true }) else s

theorem portOnly_lossNoted (s : State) (p : Nat) (injected : Bool) (c : LinkConfig) : PortOnly p s (s.lossNoted p injected c) :=
  (((PortOnly.setPs s ..).trans (.setPs _ ..)).trans (.logInjected ..)).trans (.ite _ (.modPort ..) (.refl _))

theorem ps_lossNoted (s : State) (p : Nat) (injected : Bool) (c : LinkConfig) (b : Nat) :
    (s.lossNoted p injected c).ps p b = if b = psLinkUp then false else if b = psLost then true else s.ps p b := by
  unfold lossNoted
  extract_lets s₁ s₂
  have told : s₂.ps p b = if b = psLinkUp then false else if b = psLost then true else s.ps p b := by simp only [s₂, s₁, ps_logInjected, ps_setPs]
  split
  · exact told
  · exact told

/-- The loss of a running output's link is noted, and the port tries the lost configuration and then those below it. -/
theorem linkLost_retrains {s : State} {p k : Nat} {c : LinkConfig} (hrouted : s.outputOf p = some k) (hlink : (s.port p).link = some c)
    (hup : s.ps p psLinkUp = true) (hdphy : s.portKind p ≠ 2) (hcphy : s.portKind p ≠ 3) (hruns : (s.out k).state.running = true)
    (hawake : (s.out k).state ≠ .glassHold) (injected : Bool) :
    ∃ below, s.linkLost p injected = (s.lossNoted p injected c).train p (c :: below) (c :: below) := by
  unfold linkLost
  rw [hrouted, hlink]
  exact ⟨_, if_neg (by simp [hup, hdphy, hcphy, hruns, hawake])⟩

/-- A write of 1 to PORT_RETRAIN trains the mode of a running output. -/
theorem writeRetrain_trains {s : State} {p k : Nat} (hrouted : s.outputOf p = some k) (hruns : (s.out k).state.running = true)
    (hmatch : s.ps p psMismatch = false) (hawake : (s.out k).state ≠ .glassHold) : s.writeRetrain p 1 = (Status.ok, s.startTraining p k) := by
  unfold writeRetrain
  rw [hrouted]
  exact if_pos ⟨rfl, hruns, by simp [hmatch], hawake⟩

end State

/-! ## The statement -/

/-- Settles O27, by what each command of training leaves: every one of them moves its own port only. -/
theorem linkTraining : Obligations.LinkTraining := by
  unfold Obligations.LinkTraining
  refine fun s p => ⟨fun ph c rest htraining hdphy hcphy hlist => ?_, fun c rest htraining hlist hbare => ?_,
    fun k hidle hdown hrerun hrouted hfit => ?_, fun k c hrouted hlink hup hdphy hcphy hruns hawake => ?_, fun k rq ha hrouted hruns hmatch hawake => ?_⟩
  · obtain ⟨fails, candidates, training, exhausted⟩ := trainFailed_goesOn s p.val c rest ph.val
    exact ⟨_, execTrainFail_next htraining hdphy hcphy hlist ph, fails, candidates, training, exhausted, (portOnly_trainFailed ..).frame⟩
  · obtain ⟨up, training, link⟩ := linkedUp_takes s p.val c
    exact ⟨_, execLinkUp_unrouted htraining hlist hbare, up, training, link, (portOnly_linkedUp ..).frame⟩
  · obtain ⟨list, retried, nonempty, fits⟩ := execTrainRetry_trains hidle hdown hrerun hrouted hfit
    exact ⟨_, retried, by simp [nonempty], by simp [nonempty], by simpa using fits, (PortOnly.train s list _).frame⟩
  · obtain ⟨below, lost⟩ := linkLost_retrains hrouted hlink hup hdphy hcphy hruns hawake false
    refine ⟨_, congrArg Host.Outcome.next lost, ?_, ?_, ?_, ?_, ((portOnly_lossNoted s p.val false c).trans (.train ..)).frame⟩
    · simp [ps_lossNoted, psLost, psTraining, psLinkUp]
    · simp [ps_lossNoted, psTraining, psLinkUp]
    · simp
    · simp
  · obtain ⟨candidates, training, only⟩ := startTraining_trains s p.val k
    exact ⟨_, ownRequest_answers ha (writeRetrain_trains hrouted hruns hmatch hawake) (by decide), answered_answer .., candidates, training,
      (only.trans (.answer ..)).frame⟩

end Sys2Proof.Machine
end

section
/-!
SUPPORT, and the statement O34, which fails: the release of a job is where the surfaces that it names cut over to their new placements (R89, step 4), and the
workgroup counts of an indirect compute job are read after that (R267). The statement takes them from the state before the release.
-/
namespace Sys2Proof.Machine
open Sys2Proof

/-- A compute job of pipeline 0 whose workgroup counts lie at the start of surface 7, with neither a resource table nor a report (R267). -/
def indirectDesc : BitVec 512 := BitVec.ofNat 512 (0x41 + 7 * 2 ^ 208 + 0xFFFFFFFF * 2 ^ 384 + 0xFFFFFFFF * 2 ^ 416 + 2 ^ 448)

/-- The job of it, which waits for its release. -/
def indirectJob : Job := { item := 0, owner := 0x40, queue := 0 }

/-- The job waits while surface 7 migrates: the copy is complete and the cut-over is to come. The counts are ones at the old placement, on channel 0, and zeros at
the new one, on channel 1. -/
def countsMove : State :=
  { items := [{ id := 0, owner := 0x40, queue := 0, desc := indirectDesc, started := true }]
    jobs := [indirectJob]
    grip := { surfaces := [(7, { state := .migrating, owner := 0x40, place := ⟨1, 0, 0⟩, sizePages := 1,
                                 migration := some { target := ⟨2, 0, 0⟩, copied := 4096, copyDone := true } })] }
    raster := { pipelines := [(1024 * 0x40, { graphics := false, stages := [], shared := 0 })] }
    mem := (List.range 12).map (fun i => (i, if i % 4 = 0 then 1 else 0)) ++ (List.range 12).map (fun i => (2 ^ 34 + i, 0)) }

/-- The released job finds counts of zero, and fails (R267). -/
theorem jobs_of_release_countsMove {t : State} (h : exec .jobRelease countsMove = .next t) : t.jobs = [] := by
  have run : (match exec .jobRelease countsMove with | .next u => u.jobs.isEmpty | _ => false) = true := by decide +kernel
  rw [h] at run
  exact List.isEmpty_iff.1 run

/-- Refutes O34: the counts of `countsMove` are in range before the release and not after the cut-over, so that the job is not resident but gone. -/
theorem not_jobsAreTakenReleasedAndEnd : ¬ Obligations.JobsAreTakenReleasedAndEnd := by
  unfold Obligations.JobsAreTakenReleasedAndEnd
  rintro ⟨-, -, release, -⟩
  have chosen : countsMove.nextJob = some indirectJob := by decide +kernel
  have compute : dType (countsMove.descOf indirectJob.item) = 0x41 := by decide +kernel
  have inRange : groupsBad (countsMove.groups (countsMove.descOf indirectJob.item)) = false := by decide +kernel
  have pipeline : countsMove.pipeline? indirectJob.owner (dfield (countsMove.descOf indirectJob.item) 207 192)
      = some { graphics := false, stages := [], shared := 0 } := by decide +kernel
  obtain ⟨t, ht, -, -, ⟨x, hx, -⟩, -⟩ := (release countsMove indirectJob chosen (by decide +kernel)).2 compute inRange _ pipeline
  rw [jobs_of_release_countsMove ht] at hx
  exact absurd hx List.not_mem_nil

end Sys2Proof.Machine
end

section
/-!
SUPPORT. O37, binning: what the operations on resident jobs leave of a job, of the shared queue and of the parameter buffer's pages (R255, R265, R273, R281).
-/
namespace Sys2Proof.Machine
open Sys2Proof

/-- The job with a primitive on its lists (R273). -/
def Job.withPrim (x : Job) (d : BitVec 512) (p : Nat × List Nat) (cost rest : Nat) : Job :=
  { x with used := x.used + cost, reserve := x.reserve + rest, peak := Nat.max x.peak (x.reserve + rest), lists := addEntries x.lists (primTiles d p),
           primitives := x.primitives + 1 }

namespace State

/-! ## Jobs -/

theorem item_of_job? {s : State} {j : Nat} {x : Job} (h : s.job? j = some x) : x.item = j := by
  simpa using List.find?_some h

theorem job?_modJob {s : State} {j : Nat} {x : Job} (h : s.job? j = some x) (f : Job → Job) (hf : (f x).item = x.item) :
    (s.modJob j f).job? j = some (f x) := by
  unfold job? modJob at *
  dsimp only
  generalize s.jobs = jobs at *
  induction jobs with
  | nil => simp at h
  | cons y l ih =>
    by_cases hy : y.item = j
    · obtain rfl : y = x := by simpa [hy] using h
      simp [hy, hf]
    · simpa [hy] using ih (by simpa [hy] using h)

/-! ## Bytes of surfaces -/

theorem surfBytes_congr {s t : State} (hgrip : t.grip = s.grip) (hmem : t.mem = s.mem) (n o k : Nat) : t.surfBytes n o k = s.surfBytes n o k := by
  have surfByte (o : Nat) : t.surfByte n o = s.surfByte n o := by
    unfold State.surfByte
    rw [surf_congr hgrip]
    split
    · exact byte_of_mem _ _ hmem _
    · rfl
  induction k generalizing o with
  | zero => rfl
  | succ k ih => rw [surfBytes, surfBytes, surfByte, ih]

/-- Which tiles a pass has depends on the attachments alone, which stand in memory. -/
theorem tileItems_congr {s t : State} (hgrip : t.grip = s.grip) (hmem : t.mem = s.mem) (j : Nat) (d : BitVec 512) :
    t.tileItems j d = s.tileItems j d := by
  have entry (i : Nat) : t.attachEntry d i = s.attachEntry d i := surfBytes_congr hgrip hmem ..
  simp only [tileItems, footprint, attachments, entry]

/-! ## The shared queue (R64, R255) -/

theorem mem_work_addWork (s : State) (x : Job) {new : List WorkItem} {w : WorkItem} (h : w ∈ new) : w ∈ (s.addWork x new).raster.work :=
  List.mem_append_left _ (List.mem_append_right _ h)

theorem mem_work_queueTiles (s : State) (x : Job) (d : BitVec 512) {w : WorkItem} (h : w ∈ s.tileItems x.item d) :
    w ∈ (s.queueTiles x d).raster.work :=
  mem_work_addWork _ _ h

theorem job?_queueTiles {s : State} {x y : Job} (h : s.job? x.item = some y) (d : BitVec 512) :
    (s.queueTiles x d).job? x.item = some { y with left := tileCount d } :=
  job?_modJob h (fun y => { y with left := tileCount d }) rfl

theorem rd_queueTiles (s : State) (x : Job) (d : BitVec 512) (a : Nat) : (s.queueTiles x d).rd a = s.rd a := rfl

/-! ## Primitives (R273, R280, R281) -/

/-- A primitive that fits takes pages of its owner's pool and of the reserve, and changes no job but its own. -/
theorem appendPrim_appended {s t : State} {x : Job} {d : BitVec 512} {p : Nat × List Nat} (h : s.appendPrim x d p = some t) :
    ∃ pool rest, t = (s.setPool x.owner pool).modJob x.item (fun y => y.withPrim d p (x.primCost d p) rest) := by
  unfold appendPrim at h
  dsimp only at h
  split at h
  · exact ⟨_, _, (Option.some.inj h).symm⟩
  · simp at h

/-- What becomes of a primitive of a job turns on whether it fits. -/
theorem binPrims_cons {s : State} {j : Nat} {x : Job} (hjob : s.job? j = some x) {d : BitVec 512} {p : Nat × List Nat} {o : Option State}
    (h : s.appendPrim x d p = o) (ps : List (Nat × List Nat)) :
    s.binPrims j d (p :: ps) = o.elim (if x.used = 0 then s.pbExhausted x else s.partialPass x d) (fun t => t.binPrims j d ps) := by
  -- A name for `s.appendPrim` keeps the kernel from evaluating the cost of the primitive.
  obtain ⟨append, happend⟩ : ∃ f, f = s.appendPrim := ⟨_, rfl⟩
  rw [binPrims, hjob]
  rw [← happend] at h ⊢
  subst h
  dsimp only
  cases append x d p <;> rfl

theorem job?_partialPass {s : State} {x : Job} (h : s.job? x.item = some x) (d : BitVec 512) :
    (s.partialPass x d).job? x.item = some { x with inPass := true, passes := x.passes + 1, left := tileCount d } :=
  job?_queueTiles (x := x) (job?_modJob h (fun x => { x with inPass := true, passes := x.passes + 1 }) rfl) d

theorem rd_partialPass_count (s : State) (x : Job) (d : BitVec 512) :
    (s.partialPass x d).rd Obj.RAS_PB_PARTIAL_COUNT = wrapAdd 32 (s.rd Obj.RAS_PB_PARTIAL_COUNT) 1 := by
  unfold partialPass
  rw [rd_queueTiles, rd_count, if_pos rfl, modJob_rd]

/-! ## The pages of a job (R281) -/

theorem job?_freePages {s : State} {j : Nat} {x : Job} (h : s.job? j = some x) :
    (s.freePages j).job? j = some { x with used := 0, lists := [], reserve := 0 } :=
  job?_modJob h (fun x => { x with used := 0, lists := [], reserve := 0 }) rfl

theorem job_ne_of_mem_freePages {s : State} {j : Nat} {e : Nat × List PbPage} (he : e ∈ (s.freePages j).raster.pools) {p : PbPage} (hp : p ∈ e.2) :
    p.job ≠ some j := by
  obtain ⟨e, -, rfl⟩ := List.mem_map.1 he
  obtain ⟨p, -, rfl⟩ := List.mem_map.1 hp
  split
  · simp
  · assumption

end State

open State

/-! ## The commands -/

theorem execBinDrawRecord_bins {s : State} {j : Nat} {x : Job} (hjob : s.job? j = some x) (hbins : s.bins x = true) (hmore : x.nextDraw < drawCount (s.descOf j))
    (hok : s.drawStatus x.owner (s.descOf j) (s.drawRecord (s.descOf j) x.nextDraw) = Status.ok) (prims : List (Nat × List Nat)) :
    execBinDrawRecord j prims s = .next (s.binPrims j (s.descOf j) prims) := by
  simp [execBinDrawRecord, hjob, hbins, hmore, hok]

theorem execBinningEnd_binned {s : State} {j : Nat} {x : Job} (hjob : s.job? j = some x) (hbins : s.bins x = true) (hlast : drawCount (s.descOf j) ≤ x.nextDraw) :
    execBinningEnd j s = .next ((s.modJob j (fun x => { x with binned := true })).queueTiles x (s.descOf j)) := by
  simp [execBinningEnd, hjob, hbins, hlast]

theorem execPartialPassEnd_ended {s : State} {j : Nat} {x : Job} (hjob : s.job? j = some x) (hpass : x.inPass = true) (hleft : x.left = 0) :
    execPartialPassEnd j s = .next ((s.freePages j).modJob j (fun x => { x with inPass := false })) := by
  simp [execPartialPassEnd, hjob, hpass, hleft]

end Sys2Proof.Machine
end

section
/-!
SUPPORT. O37, signatures and sparse tiles: a write of bytes, and the binding of tiles, change nothing but the surfaces and their bytes, so that they commute with
the start of the item that asks for them (R257, R277, R278, R283).
-/
namespace Sys2Proof.Machine
open Sys2Proof

namespace State

/-! ## The state apart from surfaces and their bytes -/

/-- The state `b` with the surfaces and the bytes of `s`. -/
def withBytes (b s : State) : State := { b with grip := s.grip, mem := s.mem, dram := s.dram }

theorem surfWrite_withBytes (b s : State) (n o : Nat) (v : BitVec 8) : (b.withBytes s).surfWrite n o v = b.withBytes (s.surfWrite n o v) := by
  have each (l : List Nat) : (b.withBytes s).each l (fun s a => s.setByte a v) = b.withBytes (s.each l (fun s a => s.setByte a v)) := by
    induction l generalizing s with
    | nil => rfl
    | cons a l ih => exact ih (s.setByte a v)
  exact each _

theorem surfWriteList_withBytes (b s : State) (n o : Nat) (l : List (BitVec 8)) :
    (b.withBytes s).surfWriteList n o l = b.withBytes (s.surfWriteList n o l) := by
  induction l generalizing s o with
  | nil => rfl
  | cons v l ih => rw [surfWriteList, surfWriteList, surfWrite_withBytes, ih]

theorem storeLine_withBytes (b s : State) (n o : Nat) (l : List (BitVec 8)) :
    (b.withBytes s).storeLine n o l = (b.withBytes (s.storeLine n o l).1, (s.storeLine n o l).2) := by
  have poisoned : (b.withBytes s).linePoisoned n o = s.linePoisoned n o := rfl
  have place : ((b.withBytes s).surf n).addrOf o = (s.surf n).addrOf o := rfl
  unfold storeLine
  rw [poisoned, place]
  split
  · split
    · split
      · exact congrArg (·, true) (surfWriteList_withBytes b { s with dram := _ } n o l)
      · rfl
    · rfl
  · exact congrArg (·, true) (surfWriteList_withBytes b s n o l)

theorem storeLines_withBytes (b s : State) (n fuel o : Nat) (l : List (BitVec 8)) :
    (b.withBytes s).storeLines n fuel o l = (b.withBytes (s.storeLines n fuel o l).1, (s.storeLines n fuel o l).2) := by
  induction fuel generalizing s o l with
  | zero => rfl
  | succ fuel ih =>
    cases l with
    | nil => rfl
    | cons v l => simp only [storeLines, storeLine_withBytes, ih]

/-- A write of bytes to a surface reads and changes surfaces and bytes alone. -/
theorem store_withBytes (b s : State) (n o : Nat) (l : List (BitVec 8)) :
    (b.withBytes s).store n o l = (b.withBytes (s.store n o l).1, (s.store n o l).2) :=
  storeLines_withBytes ..

/-- What an item's start leaves of a write of bytes that follows it. -/
theorem store_startItem (s : State) (id n o : Nat) (l : List (BitVec 8)) :
    (s.startItem id).store n o l = ((s.withBytes (s.store n o l).1).startItem id, (s.store n o l).2) :=
  store_withBytes (s.startItem id) s n o l

theorem offers_withBytes (b s : State) (o : Owner) (q : Fin 16) (type : Nat) (it : Item) : (b.withBytes s).offers o q type it = b.offers o q type it := rfl

/-! ## Completion (R313) -/

/-- A completion that does not squash writes no object but LOG_LOST. -/
theorem objectsBut_complete (s : State) (id : Nat) {status : Nat} (h : status ≠ Status.squashed ∧ status ≠ Status.drainedLate) (detail : Nat) :
    s.objectsBut (s.complete id status detail) [Obj.LOG_LOST] := by
  intro a ha
  have hlost : a ≠ Obj.LOG_LOST := by simpa using ha
  unfold complete completeAt
  split
  · rfl
  next it _ =>
    extract_lets s₁ s₂ s₃
    rw [if_neg (by simp [h])]
    exact (rd_tallyCount _ _ _ _ _ hlost).trans (rd_writeRecord s₁ ..)

/-! ## Sparse tiles (R68, R283) -/

/-- Where a tile of a surface finds room. -/
def tilePlace (s : State) (n : Nat) : Option Placement :=
  let x := s.surf n
  s.findPlace x.owner 65536 2 1 (decide (x.crit = 3)) (s.eligible (decide (x.crit = 3)))

/-- The state with a tile of a surface bound at a place, whose old bytes are gone. -/
def bindTile (s : State) (n t : Nat) (p : Placement) : State :=
  { s.setSurf n { s.surf n with tiles := (s.surf n).tiles ++ [(t, (setChannels p.channels).headD 0, p.base)] } with
    mem := Memory.drop s.mem (fun a => p.covers 65536 a) }

theorem bindTiles_cons (s : State) (n t : Nat) (l : List Nat) : s.bindTiles n (t :: l) =
    if (s.surf n).tiles.any (fun u => decide (u.1 = t)) then s.bindTiles n l else (s.tilePlace n).bind (fun p => (s.bindTile n t p).bindTiles n l) := by
  rw [bindTiles, tilePlace]
  refine if_congr Iff.rfl rfl ?_
  split
  next h => rw [h, Option.bind_none]
  next h => rw [h, Option.bind_some]; rfl

theorem surf_bindTile (s : State) (n t : Nat) (p : Placement) (m : Nat) : (s.bindTile n t p).surf m =
    if m = n then { s.surf n with tiles := (s.surf n).tiles ++ [(t, (setChannels p.channels).headD 0, p.base)] } else s.surf m :=
  surf_setSurf ..

/-- Where tiles are bound does not depend on which items have started. -/
theorem bindTiles_startItem (s : State) (id n : Nat) (l : List Nat) : (s.startItem id).bindTiles n l = (s.bindTiles n l).map (fun t => t.startItem id) := by
  induction l generalizing s with
  | nil => rfl
  | cons t l ih =>
    have surf : (s.startItem id).surf n = s.surf n := rfl
    have place : (s.startItem id).tilePlace n = s.tilePlace n := rfl
    have bind (p : Placement) : (s.startItem id).bindTile n t p = (s.bindTile n t p).startItem id := rfl
    rw [bindTiles_cons, bindTiles_cons, surf, place]
    split
    · exact ih s
    · simp only [bind, ih, Option.map_bind, Function.comp_def]

/-- Tiles that are bound are all among the surface's tiles, with those that were, and nothing but the surface and its bytes changes. -/
theorem bindTiles_binds {s u : State} {n : Nat} {l : List Nat} (h : s.bindTiles n l = some u) :
    s.withBytes u = u ∧ (∀ t ∈ l, ∃ e ∈ (u.surf n).tiles, e.1 = t) ∧ (∀ e ∈ (s.surf n).tiles, e ∈ (u.surf n).tiles) ∧
      ∀ m, m ≠ n → u.surf m = s.surf m := by
  induction l generalizing s with
  | nil =>
    obtain rfl := Option.some.inj h
    exact ⟨rfl, by simp, fun _ he => he, fun _ _ => rfl⟩
  | cons t l ih =>
    rw [bindTiles_cons] at h
    split at h
    next hbound =>
      obtain ⟨hframe, hbinds, hkept, hothers⟩ := ih h
      obtain ⟨e, he, het⟩ : ∃ e ∈ (s.surf n).tiles, e.1 = t := by simpa using hbound
      exact ⟨hframe, List.forall_mem_cons.2 ⟨⟨e, hkept e he, het⟩, hbinds⟩, hkept, hothers⟩
    next =>
      obtain ⟨p, -, hrest⟩ := Option.bind_eq_some_iff.1 h
      obtain ⟨hframe, hbinds, hkept, hothers⟩ := ih hrest
      rw [surf_bindTile, if_pos rfl] at hkept
      refine ⟨hframe ▸ rfl, List.forall_mem_cons.2 ⟨⟨_, hkept _ List.mem_concat_self, rfl⟩, hbinds⟩, fun e he => hkept e (List.mem_append_left _ he),
        fun m hm => (hothers m hm).trans ((surf_bindTile ..).trans (if_neg hm))⟩

/-- The state with the tiles of a surface from one number up to another unbound. -/
def unbindTiles (s : State) (n lo hi : Nat) : State :=
  s.modSurf n (fun x => { x with tiles := x.tiles.filter (fun t => !(Nat.ble lo t.1 && Nat.blt t.1 hi)) })

theorem surf_unbindTiles_other (s : State) {n m : Nat} (h : m ≠ n) (lo hi : Nat) : (s.unbindTiles n lo hi).surf m = s.surf m :=
  (surf_setSurf ..).trans (if_neg h)

theorem mem_tiles_unbindTiles (s : State) (n lo hi : Nat) (u : Nat × Nat × Nat) :
    u ∈ ((s.unbindTiles n lo hi).surf n).tiles ↔ u ∈ (s.surf n).tiles ∧ ¬(lo ≤ u.1 ∧ u.1 < hi) := by
  have named : (Nat.ble lo u.1 && Nat.blt u.1 hi) = true ↔ lo ≤ u.1 ∧ u.1 < hi := by rw [Bool.and_eq_true, Nat.ble_eq, Nat.blt_eq]
  rw [unbindTiles, modSurf, surf_setSurf, if_pos rfl, List.mem_filter, ← named, Bool.not_eq_true', Bool.not_eq_true]

/-! ## Descriptors that wait for jobs (R257) -/

theorem afterJobs_eq {s : State} {o q type : Nat} {it : Item} (h : s.nextItemOf o q type = some it) (hjobs : s.jobsBefore it = false)
    (p : BitVec 512 → Bool) (hp : p it.desc = true) (f : State → Item → State) : s.afterJobs o q type p f = f (s.startItem it.id) it := by
  simp [afterJobs, h, hjobs, onItemIf_eq h p hp]

/-! ## Signatures (R277) -/

/-- An attachment whose signature is the stored one is counted as skipped, and not written. -/
theorem finishAttachment_skipped {s : State} {j : Job} {d : BitVec 512} {t : Nat} {a : Nat × List (BitVec 8) × List (BitVec 8)} (hpass : j.inPass = false)
    (hpasses : j.passes = 0) (hsigned : atSigned (s.attachEntry d a.1) = true)
    (hsame : crc64 (if rtSamples d = 1 then a.2.1 else a.2.2) = s.signature (s.attachEntry d a.1) t)
    (hvalid : s.signature (s.attachEntry d a.1) t ≠ 0xFFFFFFFFFFFFFFFF) :
    s.finishAttachment j d t a = (s.modJob j.item (fun x => { x with skipped := x.skipped + 1 }), true) := by
  simp [finishAttachment, hpass, hpasses, hsigned, hsame, hvalid]

end State

open State

/-! ## The commands -/

theorem execSigInvalidate_stored {s : State} {o : Owner} {q : Fin 16} {it : Item} (hnext : s.nextItemOf o.code q.val 0x44 = some it)
    (hjobs : s.jobsBefore it = false) (husable : s.usable o.code (pbSurface it.desc) = true)
    (hfits : dfield it.desc 127 96 + 8 * dfield it.desc 159 128 ≤ (s.surf (pbSurface it.desc)).bytes) :
    let r := s.store (pbSurface it.desc) (dfield it.desc 127 96) (List.replicate (8 * dfield it.desc 159 128) 0xFF)
    execSigInvalidate o q s = .next (((s.withBytes r.1).startItem it.id).finish it.id (if r.2 then Status.ok else Status.poisonedRead)) := by
  refine congrArg Host.Outcome.next ((afterJobs_eq hnext hjobs _ rfl _).trans ((if_neg ?_).trans ?_))
  · simpa using ⟨husable, hfits⟩
  · rw [store_startItem]

theorem execTileBind_bound {s u : State} {o : Owner} {q : Fin 16} {it : Item} (hnext : s.nextItemOf o.code q.val 0x45 = some it)
    (hjobs : s.jobsBefore it = false) (hvalid : s.tilesInvalid o.code it.desc = false) (hbind : dbit it.desc 80 = false)
    (h : s.bindTiles (pbSurface it.desc) ((List.range (dfield it.desc 159 128)).map (fun i => dfield it.desc 127 96 + i)) = some u) :
    execTileBind o q s = .next ((u.startItem it.id).finish it.id Status.ok) := by
  refine congrArg Host.Outcome.next ((afterJobs_eq hnext hjobs _ (by simp [hbind]) _).trans ((if_neg (ne_true_of_eq_false hvalid)).trans ?_))
  rw [bindTiles_startItem, h]
  rfl

theorem execTileUnbind_unbound {s : State} {o : Owner} {q : Fin 16} {it : Item} (hnext : s.nextItemOf o.code q.val 0x45 = some it)
    (hjobs : s.jobsBefore it = false) (hvalid : s.tilesInvalid o.code it.desc = false) (hunbind : dbit it.desc 80 = true) :
    execTileUnbind o q s = .next (((s.unbindTiles (pbSurface it.desc) (dfield it.desc 127 96)
      (dfield it.desc 127 96 + dfield it.desc 159 128)).startItem it.id).finish it.id Status.ok) :=
  congrArg Host.Outcome.next ((afterJobs_eq hnext hjobs _ hunbind _).trans (if_neg (ne_true_of_eq_false hvalid)))

/-! ## The statement -/

/-- Settles O37. Binning changes its own job, the pool's pages and the shared queue; an invalidated area, tiles bound and tiles unbound change surfaces and their
bytes before the item completes, which touches neither. -/
theorem binningTilesAndSignatures : Obligations.BinningTilesAndSignatures := by
  unfold Obligations.BinningTilesAndSignatures
  refine ⟨fun s j x hjob hbins => ⟨fun hmore hok => ?_, fun hlast => ?_⟩, fun s j x hjob hpass hleft => ?_,
    fun s o q it hoff hjobs husable hfits => ?_, fun s o q it hoff hjobs hvalid => ⟨fun hbind hroom => ?_, fun hunbind => ?_⟩,
    fun s j d t a hpass hpasses hsigned hsame hvalid => ?_⟩
  · have run := execBinDrawRecord_bins hjob hbins hmore hok
    have advance {u : State} {y : Job} (h : u.job? j = some y) := job?_modJob h (fun x => { x with nextDraw := x.nextDraw + 1 }) rfl
    obtain rfl := item_of_job? hjob
    refine ⟨⟨_, _, run [], advance hjob, rfl, rfl⟩, fun p hfits => ?_, fun p ps hfull hused => ?_⟩
    · obtain ⟨u, hu⟩ := Option.isSome_iff_exists.1 hfits
      obtain ⟨pool, rest, rfl⟩ := appendPrim_appended hu
      have listed := job?_modJob (s := s.setPool x.owner pool) hjob (fun y => y.withPrim (s.descOf x.item) p (x.primCost (s.descOf x.item) p) rest) rfl
      exact ⟨_, _, (run [p]).trans (congrArg Host.Outcome.next (binPrims_cons hjob hu [])), advance listed, rfl, rfl, rfl, fun _ _ => rfl, fun _ => rfl⟩
    · have full := (binPrims_cons hjob hfull ps).trans (if_neg hused)
      exact ⟨_, _, (run (p :: ps)).trans (congrArg Host.Outcome.next full), job?_partialPass hjob _, rfl, rfl, rfl, rfl, rd_partialPass_count ..,
        fun _ => rfl⟩
  · obtain rfl := item_of_job? hjob
    refine ⟨_, _, execBinningEnd_binned hjob hbins hlast, job?_queueTiles (job?_modJob hjob (fun x => { x with binned := true }) rfl) _, rfl, rfl,
      fun w hw => mem_work_queueTiles _ x _ ?_, fun _ _ => rfl, fun _ => rfl⟩
    rw [tileItems_congr (t := s.modJob _ _) (modJob_grip ..) (modJob_mem ..)]
    exact hw
  · exact ⟨_, _, execPartialPassEnd_ended hjob hpass hleft, job?_modJob (job?_freePages hjob) (fun x => { x with inPass := false }) rfl, rfl, rfl, rfl, rfl,
      fun e he p hp => job_ne_of_mem_freePages he hp, fun _ _ => rfl, fun _ => rfl⟩
  · obtain ⟨hnext, -⟩ := (offers_iff ..).1 hoff
    intro r
    obtain ⟨hrec, hgone⟩ := complete_started (s := s.withBytes r.1) hoff (if r.2 then Status.ok else Status.poisonedRead) 0
    exact ⟨_, execSigInvalidate_stored hnext hjobs husable hfits, hrec, hgone, completeAt_mem .., objectsBut_complete _ _ (by split <;> decide) _⟩
  · obtain ⟨hnext, -⟩ := (offers_iff ..).1 hoff
    obtain ⟨u, hu⟩ := Option.isSome_iff_exists.1 hroom
    obtain ⟨hframe, hbound, hkept, hothers⟩ := bindTiles_binds hu
    have surf : ∀ m, ((u.startItem it.id).finish it.id Status.ok).surf m = u.surf m := surf_congr (completeAt_grip ..)
    have offered : u.offers o q 0x45 it = true := by rw [← hframe, offers_withBytes]; exact hoff
    obtain ⟨hrec, hgone⟩ := complete_started offered Status.ok 0
    refine ⟨_, execTileBind_bound hnext hjobs hvalid hbind hu, hrec, hgone, fun i hi => ?_, ?_, fun m hm => (surf m).trans (hothers m hm), fun a ha => ?_⟩
    · rw [surf]
      exact hbound _ (List.mem_map_of_mem (List.mem_range.2 hi))
    · rw [surf]
      exact hkept
    · exact (objectsBut_complete _ _ (by decide) _ a ha).trans (congrArg (fun v => v.rd a) hframe.symm)
  · obtain ⟨hnext, -⟩ := (offers_iff ..).1 hoff
    set u := s.unbindTiles (pbSurface it.desc) (dfield it.desc 127 96) (dfield it.desc 127 96 + dfield it.desc 159 128)
    have surf : ∀ m, ((u.startItem it.id).finish it.id Status.ok).surf m = u.surf m := surf_congr (completeAt_grip ..)
    obtain ⟨hrec, hgone⟩ := complete_started (s := u) hoff Status.ok 0
    refine ⟨_, execTileUnbind_unbound hnext hjobs hvalid hunbind, hrec, hgone, fun e => ?_, fun m hm => (surf m).trans (surf_unbindTiles_other _ hm ..),
      objectsBut_complete _ _ (by decide) _, byte_of_mem _ _ (completeAt_mem ..)⟩
    rw [surf]
    exact mem_tiles_unbindTiles ..
  · rw [finishAttachment_skipped hpass hpasses hsigned hsame hvalid, modJob_mem]

end Sys2Proof.Machine
end

section
/-!
SUPPORT, and the statements O28 and O33: a queue's enable (R317), layer grants (R323, R324) and dirty logs (R328). Each command changes one entry of the
table of instances, or one object.
-/
namespace Sys2Proof.Machine
open Sys2Proof

/-! ## A queue's CONTROL (R306, R317) -/

theorem Inst.queue_setQueue (x : Inst) (q n : Nat) (v : Queue) : (x.setQueue q v).queue n = if n = q then v else x.queue n := Tab.get_set ..

/-- A write of Qq.CONTROL that keeps the size changes ENABLE alone. -/
theorem Inst.writeControl_sameSize {x : Inst} {q log2 : Nat} (h : (x.queue q).sizeLog2 = log2) (enable : Bool) :
    x.writeControl q enable log2 = x.setQueue q { x.queue q with enable := enable } := by
  subst h
  simp [writeControl]

namespace State

theorem inst_modInst_same (s : State) (o : Nat) (f : Inst → Inst) : (s.modInst o f).inst o = f (s.inst o) := Tab.get_set_same ..

theorem inst_modInst_other (s : State) {o n : Nat} (h : n ≠ o) (f : Inst → Inst) : (s.modInst o f).inst n = s.inst n := Tab.get_set_other _ _ _ _ _ h

/-- The state with a queue of an owner enabled or not. -/
def withEnable (s : State) (o q : Nat) (enable : Bool) : State := s.modInst o fun x => x.setQueue q { x.queue q with enable := enable }

theorem inst_withEnable (s : State) (o q : Nat) (enable : Bool) :
    (s.withEnable o q enable).inst o = (s.inst o).setQueue q { (s.inst o).queue q with enable := enable } := inst_modInst_same ..

theorem queue_withEnable (s : State) (o q n : Nat) (enable : Bool) :
    ((s.withEnable o q enable).inst o).queue n = if n = q then { (s.inst o).queue q with enable := enable } else (s.inst o).queue n := by
  rw [inst_withEnable, Inst.queue_setQueue]

/-- The completion ring's use is no matter of a queue's enable (R312). -/
theorem crStall_withEnable (s : State) (o q : Nat) (enable : Bool) : (s.withEnable o q enable).crStall o = s.crStall o := by
  simp only [crStall, ringUse, inst_withEnable]
  rfl

/-- An owner with a window fetches from a queue while it is ACTIVE, the queue is enabled and holds descriptors, and the ring has room (R305, R312, R317). -/
theorem mayFetch_iff {s : State} {o : Nat} (h : hasWindow o = true) (q : Nat) : s.mayFetch o q = true ↔
    (s.inst o).state = .active ∧ ((s.inst o).queue q).enable = true ∧ ((s.inst o).queue q).head ≠ ((s.inst o).queue q).tail ∧ s.crStall o = false := by
  simp [mayFetch, h, and_assoc]

theorem windowLive_iff (s : State) (o : Nat) : s.windowLive o = true ↔ hasWindow o = true ∧ (s.inst o).state ≠ .free := by
  simp [windowLive]

end State

open State

theorem modInst_writeControl {s : State} {o q log2 : Nat} (h : ((s.inst o).queue q).sizeLog2 = log2) (enable : Bool) :
    s.modInst o (fun x => x.writeControl q enable log2) = s.withEnable o q enable :=
  congrArg (s.setInst o) (Inst.writeControl_sameSize h enable)

theorem execQueueDisable_live {s : State} {w : Window} {q l : Fin 16} (hlive : s.windowLive w.code = true)
    (hsize : ((s.inst w.code).queue q.val).sizeLog2 = l.val) : execQueueDisable w q l s = .next (s.withEnable w.code q.val false) :=
  (if_pos hlive).trans (congrArg Host.Outcome.next (modInst_writeControl hsize false))

theorem execQueueEnable_live {s : State} {w : Window} {q l : Fin 16} (hlive : s.windowLive w.code = true)
    (hsize : ((s.inst w.code).queue q.val).sizeLog2 = l.val) : execQueueEnable w q l s = .next (s.withEnable w.code q.val true) :=
  (if_pos hlive).trans (congrArg Host.Outcome.next (modInst_writeControl hsize true))

/-- Settles O28. A write of CONTROL that keeps the size changes nothing but ENABLE, on which with HEAD, the tail, the instance's state and its ring a fetch
turns. -/
theorem queueDisableAndResume : Obligations.QueueDisableAndResume := by
  unfold Obligations.QueueDisableAndResume
  intro s w q l hlive hsize
  obtain ⟨hwindow, -⟩ := (windowLive_iff ..).1 hlive
  have own (enable : Bool) : ((s.withEnable w.code q.val enable).inst w.code).queue q.val = { (s.inst w.code).queue q.val with enable := enable } :=
    (queue_withEnable ..).trans (if_pos rfl)
  refine ⟨⟨_, execQueueDisable_live hlive hsize, ?_, rfl, ?_, ?_, fun n hn => (queue_withEnable ..).trans (if_neg hn),
    fun n hn => inst_modInst_other s hn _, rfl⟩, ⟨_, execQueueEnable_live hlive hsize, ?_, ?_, ?_, fun hactive hwaiting hroom => ?_, rfl⟩⟩
  · refine Bool.eq_false_iff.2 fun h => ?_
    obtain ⟨-, henable, -⟩ := (mayFetch_iff hwindow _).1 h
    simp [own] at henable
  · rw [own]
  · rw [own]
  · rw [own]
  · rw [own]
  · rw [own]
  · refine (mayFetch_iff hwindow _).2 ⟨?_, ?_, ?_, ?_⟩
    · rw [inst_withEnable]
      exact hactive
    · rw [own]
    · rw [own]
      exact hwaiting
    · rw [crStall_withEnable]
      exact hroom

/-! ## Layer grants (R323, R324) -/

namespace State

/-- Positions withdrawn where there are none leave everything as it is. -/
theorem withdraw_nil (s : State) : (s.withdraw []).1 = s := rfl

/-- Does an instance other than `i` hold one of the positions? -/
def heldByOther (s : State) (i : Nat) (ps : List (Nat × Nat)) : Bool :=
  ps.any fun p => (List.range 64).any fun j => !decide (j = i) && bit (s.rd (Obj.INST_LAYER_GRANTS j)) (16 * p.1 + p.2)

/-- Grants that withdraw nothing are taken as they are written. -/
theorem writeGrants_taken {s : State} {i v : Nat} (hquota : (grantList v).length ≤ s.rd (Obj.INST_LAYER_QUOTA i))
    (hfree : s.heldByOther i (grantList v) = false) (hkept : ∀ p ∈ grantList (s.rd (Obj.INST_LAYER_GRANTS i)), p ∈ grantList v) :
    s.writeGrants i v = (Status.ok, s.wr (Obj.INST_LAYER_GRANTS i) (sumNat ((grantList v).map fun p => 2 ^ (16 * p.1 + p.2)))) := by
  have none : (grantList (s.rd (Obj.INST_LAYER_GRANTS i))).filter (fun p => !(grantList v).contains p) = [] :=
    List.filter_eq_nil_iff.2 fun p hp => by simpa using hkept p hp
  refine (if_neg fun h => ?_).trans ?_
  · rcases h with h | h
    · exact absurd h (Nat.not_lt.2 hquota)
    · exact absurd h (ne_true_of_eq_false hfree)
  · rw [none, withdraw_nil]

theorem writeGrants_refused {s : State} {i v : Nat} (h : s.rd (Obj.INST_LAYER_QUOTA i) < (grantList v).length ∨ s.heldByOther i (grantList v) = true) :
    s.writeGrants i v = (Status.quotaExceeded, s) := if_pos h

end State

/-! ## The statements -/

/-- Settles O33. Grants that keep every position withdraw none, so that no commit follows; a dirty log's commands change their instance's log where their
condition holds. -/
theorem layerGrantsAndDirtyLogs : Obligations.LayerGrantsAndDirtyLogs := by
  unfold Obligations.LayerGrantsAndDirtyLogs
  refine ⟨fun s rq i v ha => ⟨fun hquota hfree hkept => ?_, fun hrefused => ?_⟩,
    fun s i => ⟨fun hdone hlive => ?_, fun hasked => ?_, fun hbusy => ?_⟩⟩
  · exact ⟨_, ownRequest_answers ha (writeGrants_taken hquota hfree hkept) (by decide), answered_answer .., rd_wr_same .., objectsBut_wr s _ _, rfl⟩
  · exact ownRequest_answers ha (writeGrants_refused hrefused) (by decide)
  · refine ⟨_, rfl, ?_, fun n hn => inst_modInst_other s hn _, rfl⟩
    rw [inst_modInst_same, if_pos (by simp [hdone, hlive])]
  · refine ⟨_, rfl, ?_, fun n hn => inst_modInst_other s hn _, rfl⟩
    rw [inst_modInst_same, if_pos hasked]
  · refine ⟨_, rfl, ?_⟩
    rw [inst_modInst_same, if_neg (ne_true_of_eq_false hbusy)]
    cases hbuf : (s.inst i.val).dirty.activeBuf with
    | true => exact ⟨rfl, fun _ => ⟨rfl, rfl⟩, fun h => by simp at h, fun n hn => inst_modInst_other s hn _, rfl⟩
    | false => exact ⟨rfl, fun h => by simp at h, fun _ => ⟨rfl, rfl⟩, fun n hn => inst_modInst_other s hn _, rfl⟩

end Sys2Proof.Machine
end

section
/-!
SUPPORT. O32, the first part: where an instance stands in its life (R329, R330, R332). Of what a reset or removal sets off, only records of completions change
instances at all, and they leave their lives alone. First the operations that change no instance, in the model's order, then those that complete items.
-/
namespace Sys2Proof.Machine
open Sys2Proof

/-- Where an instance stands: its state, whether its reset removes it, whose item asked for that, and whether its bus mastering is off. -/
structure Life where
  state : InstState
  removing : Bool
  asker : Option Nat
  busOff : Bool

/-- The life of an instance. -/
def Inst.life (x : Inst) : Life := ⟨x.state, x.removing, x.asker, x.busOff⟩

/-- The lives of a table's instances. -/
def livesOf (insts : Tab Inst) : Nat → Life := fun o => (Tab.get {} insts o).life

theorem livesOf_set (insts : Tab Inst) (o : Nat) (x : Inst) : livesOf (Tab.set insts o x) = Function.update (livesOf insts) o x.life := by
  funext n
  simp only [livesOf, Tab.get_set, Function.update_apply]
  split <;> rfl

@[simp] theorem livesOf_ite (c : Prop) [Decidable c] (a b : Tab Inst) : livesOf (if c then a else b) = if c then livesOf a else livesOf b := apply_ite ..

namespace State

theorem livesOf_apply (s : State) (o : Nat) : livesOf s.insts o = (s.inst o).life := rfl

theorem state_of_life {s t : State} {o n : Nat} (h : livesOf t.insts o = livesOf s.insts n) : (t.inst o).state = (s.inst n).state := congrArg Life.state h

/-- An instance set keeps every life when it keeps its own. -/
theorem setInst_lives (s : State) (o : Nat) (x : Inst) (h : x.life = (s.inst o).life) : livesOf (s.setInst o x).insts = livesOf s.insts := by
  rw [setInst_insts, livesOf_set, h, ← livesOf_apply, Function.update_eq_self]

theorem modInst_lives (s : State) (o : Nat) (f : Inst → Inst) (h : ∀ x, (f x).life = x.life := by exact fun _ => rfl) :
    livesOf (s.modInst o f).insts = livesOf s.insts := setInst_lives s o _ (h _)

/-! ## Choices and loops -/

@[simp] theorem insts_ite (c : Prop) [Decidable c] (s t : State) : (if c then s else t).insts = if c then s.insts else t.insts := apply_ite ..

@[simp] theorem each_insts {α : Type} (l : List α) (f : State → α → State) (s : State) (hf : ∀ t x, (f t x).insts = t.insts) :
    (s.each l f).insts = s.insts :=
  each_keeps (fun t => t.insts = s.insts) l f s (fun t x h => (hf t x).trans h) rfl

theorem each_lives {α : Type} (l : List α) (f : State → α → State) (s : State) (hf : ∀ t x, livesOf (f t x).insts = livesOf t.insts) :
    livesOf (s.each l f).insts = livesOf s.insts :=
  each_keeps (fun t => livesOf t.insts = livesOf s.insts) l f s (fun t x h => (hf t x).trans h) rfl

/-! ## Slots, and bytes of surfaces (R48, R311) -/

@[simp] theorem writeSlotControl_insts (s : State) (n v : Nat) : (s.writeSlotControl n v).2.insts = s.insts := by
  unfold writeSlotControl
  dsimp only
  split
  · split
    · rfl
    · split <;> rfl
  · split <;> rfl

@[simp] theorem store_insts (s : State) (n o : Nat) (bytes : List (BitVec 8)) : (s.store n o bytes).1.insts = s.insts :=
  congrArg (fun r => r.1.insts) (store_withBytes s s n o bytes)

/-! ## Backing of outputs (R74 to R76) -/

@[simp] theorem markDramFed_insts (s : State) (k : Nat) (b : Bool) : (s.markDramFed k b).insts = s.insts := rfl

@[simp] theorem switchDram_insts (s : State) (k : Nat) : (s.switchDram k).insts = s.insts := by
  unfold switchDram
  dsimp only
  split <;> simp

@[simp] theorem returnEach_insts (s : State) (l : List Nat) : (s.returnEach l).insts = s.insts := by
  induction l generalizing s with
  | nil => rfl
  | cons k l ih =>
    unfold returnEach
    dsimp only
    split
    · split <;> simp [ih]
    · exact ih s

@[simp] theorem reelReturn_insts (s : State) : s.reelReturn.insts = s.insts := returnEach_insts ..

@[simp] theorem leaveDram_insts (s : State) (k : Nat) : (s.leaveDram k).insts = s.insts := by
  unfold leaveDram
  dsimp only
  split <;> simp

@[simp] theorem reassignBuffer_insts (s : State) (k i : Nat) : (s.reassignBuffer k i).insts = s.insts := by
  unfold reassignBuffer
  dsimp only
  split <;> rfl

/-! ## Surfaces, and what latches with a frame (R59, R84, R89, R107, R122, R171) -/

@[simp] theorem freeSurface_insts (s : State) (n : Nat) : (s.freeSurface n).insts = s.insts := by
  unfold freeSurface
  dsimp only
  split
  · rfl
  · rw [reelReturn_insts, logEvent_insts]
    rfl

@[simp] theorem failUnit_insts (s : State) (n : Nat) : (s.failUnit n).insts = s.insts := by
  simp [failUnit, setHealth]

@[simp] theorem cutover_insts (s : State) (n : Nat) : (s.cutover n).insts = s.insts := by
  unfold cutover
  dsimp only
  split
  · rfl
  · simp

@[simp] theorem cutoverAtLatch_insts (s : State) (k : Nat) : (s.cutoverAtLatch k).insts = s.insts := by
  simp [cutoverAtLatch]

@[simp] theorem latchCritRects_insts (s : State) (k : Nat) : (s.latchCritRects k).insts = s.insts := by
  simp [latchCritRects]

@[simp] theorem latchScanMode_insts (s : State) (k : Nat) : (s.latchScanMode k).insts = s.insts := by
  simp [latchScanMode]

@[simp] theorem latchColour_insts (s : State) (k n : Nat) : (s.latchColour k n).insts = s.insts := by
  unfold latchColour
  dsimp only
  split
  · split
    · rw [logEvent_insts]
      rfl
    · rfl
  · rfl

/-! ## Compositions and engines (R77, R78, R137 to R142) -/

@[simp] theorem idleEngine_insts (s : State) (e : Nat) : (s.idleEngine e).insts = s.insts := by
  simp [idleEngine]

@[simp] theorem unbindLayers_insts (s : State) (e : Nat) : (s.unbindLayers e).insts = s.insts := rfl

@[simp] theorem startEngine_insts (s : State) (k : Nat) (c : Composition) (half e : Nat) : (s.startEngine k c half e).insts = s.insts :=
  each_insts c.layers _ (s.unbindLayers e) fun _ _ => by rfl

@[simp] theorem assign_insts (s : State) (k id half e : Nat) : (s.assign k id half e).insts = s.insts := by
  unfold assign
  dsimp only
  split
  · exact startEngine_insts ..
  · rfl

@[simp] theorem releaseSplit_insts (s : State) (k : Nat) : (s.releaseSplit k).insts = s.insts := by
  unfold releaseSplit
  dsimp only
  split <;> simp

@[simp] theorem endSplit_insts (s : State) : s.endSplit.2.insts = s.insts := by
  unfold endSplit
  split
  · rfl
  · split <;> simp

@[simp] theorem bindHalf_insts (s : State) (k half : Nat) : (s.bindHalf k half).insts = s.insts := by
  unfold bindHalf
  dsimp only
  split
  · rfl
  · split
    · simp
    · split
      · split <;> simp
      · simp

@[simp] theorem decideSplit_insts (s : State) (k est : Nat) : (s.decideSplit k est).insts = s.insts := by
  unfold decideSplit
  extract_lets x thr period
  split
  · rfl
  · split
    · split <;> simp
    · split
      · rfl
      · split <;> simp

@[simp] theorem markSolid_insts (s : State) (k : Nat) (ls : List (Nat × BitVec 512 × Nat)) : (s.markSolid k ls).insts = s.insts := by
  unfold markSolid
  split <;> simp

@[simp] theorem injectEngine_insts (s : State) (k e : Nat) : (s.injectEngine k e).insts = s.insts := by
  unfold injectEngine
  dsimp only
  split <;> simp

@[simp] theorem startComposition_insts (s : State) (k : Nat) (c : Composition) (atLatchPoint : Bool) :
    (s.startComposition k c atLatchPoint).insts = s.insts := by
  unfold startComposition
  extract_lets s₁ x n s₂ s₃ ests c' s₄ s₅
  have split₁ : s₁.insts = s.insts := by simp [s₁]
  have bound : s₃.insts = s₁.insts := each_insts _ _ s₂ fun t h => bindHalf_insts ..
  have injected : s₅.insts = s₃.insts := each_insts _ _ s₄ fun t h => by simp
  exact (each_insts _ _ _ fun t h => by simp).trans (injected.trans (bound.trans split₁))

/-! ## Completion (R313) -/

/-- A record changes nothing of the life of the owner whose ring takes it. -/
@[simp] theorem writeRecord_lives (s : State) (it : Item) (status detail : Nat) (pos : Spos) (time : Nat) :
    livesOf (s.writeRecord it status detail pos time).insts = livesOf s.insts := by
  have io (t : State) (o addr n : Nat) : livesOf (t.ioWrite o addr n).insts = livesOf t.insts := by
    unfold ioWrite
    split
    · exact modInst_lives ..
    · rfl
  unfold writeRecord
  dsimp only
  split
  · split
    · exact setInst_lives _ _ _ rfl
    · rw [insts_ite, emit_insts, ite_self, io]
      exact setInst_lives _ _ _ rfl
  · rfl

@[simp] theorem completeAt_lives (s : State) (id status detail : Nat) (pos : Spos) (time : Nat) :
    livesOf (s.completeAt id status detail pos time).insts = livesOf s.insts := by
  cases h : s.item? id with
  | none => rw [completeAt_noItem h]
  | some it =>
    rw [ext_insts (completeAt_item h status detail pos time).1, writeRecord_lives]
    rfl

@[simp] theorem complete_lives (s : State) (id status detail : Nat) : livesOf (s.complete id status detail).insts = livesOf s.insts := completeAt_lives ..

@[simp] theorem finish_lives (s : State) (id status : Nat) : livesOf (s.finish id status).insts = livesOf s.insts := complete_lives ..

@[simp] theorem releaseIfFree_lives (s : State) (n : Nat) : livesOf (s.releaseIfFree n).insts = livesOf s.insts := by
  unfold releaseIfFree
  dsimp only
  split
  · rfl
  · split <;> simp

/-! ## Commits by Gaffer (R212, R324, R330) -/

@[simp] theorem rejectPart_lives (s : State) (k : Nat) (f : Nat × Nat) (cs : List Commit) : livesOf (s.rejectPart k f cs).insts = livesOf s.insts :=
  (each_lives _ _ _ fun t c => complete_lives ..).trans (by simp)

theorem latchInto_lives (s : State) (k : Nat) (cs : List Commit) (buffer : Nat) (atLatchPoint heldAnyway : Bool) :
    livesOf (s.latchInto k cs buffer atLatchPoint heldAnyway).insts = livesOf s.insts := by
  unfold latchInto
  extract_lets x prev shadow stale failN failC bad s₁ s₂ good keep layers s₃ staleNow frame s₄ s₅ last s₆ late s₇ noted s₈ o c
  clear_value failN failC
  have h₁ : livesOf s₁.insts = livesOf s.insts := by simp only [s₁]; split <;> simp
  have h₂ : livesOf s₂.insts = livesOf s₁.insts := by simp only [s₂]; split <;> simp
  have h₃ : livesOf s₃.insts = livesOf s.insts := h₂.trans h₁
  have h₄ : s₄.insts = s₃.insts := each_insts _ _ _ fun t z => by simp
  have h₅ : s₅.insts = s₄.insts := by simp [s₅]
  have h₆ : s₆.insts = s₅.insts := by simp only [s₆]; split <;> simp
  have h₇ : s₇.insts = s₆.insts := each_insts _ _ _ fun t d => by simp
  have h₈ : s₈.insts = s₇.insts := markSolid_insts ..
  split
  · exact h₃
  · have latched : (o.2.startComposition k c atLatchPoint).insts = s₃.insts :=
      (startComposition_insts ..).trans (h₈.trans (h₇.trans (h₆.trans (h₅.trans h₄))))
    rw [latched, h₃]

theorem latchOpportunity_lives (s : State) (k line : Nat) (atLatchPoint : Bool) :
    livesOf (s.latchOpportunity k line atLatchPoint).insts = livesOf s.insts := by
  unfold latchOpportunity
  dsimp only
  split
  · rfl
  · split
    · simp
    · split
      · rfl
      · exact latchInto_lives ..

@[simp] theorem endShown_lives (s : State) (g : Nat) : livesOf (s.endShown g).insts = livesOf s.insts := by
  unfold endShown
  split
  · rfl
  · exact each_lives _ _ _ fun t c => completeAt_lives ..

@[simp] theorem latchIntent_insts (s : State) (g : Nat) : (s.latchIntent g).insts = s.insts := by
  unfold latchIntent
  split
  · rfl
  · exact each_insts _ _ _ fun t k => by rfl

@[simp] theorem latchReturn_insts (s : State) (g : Nat) : (s.latchReturn g).insts = s.insts := by
  simp [latchReturn]

theorem latchPoint_lives (s : State) (g : Nat) : livesOf (s.latchPoint g).insts = livesOf s.insts := by
  unfold latchPoint
  extract_lets s₁ s₂ s₃ s₄ s₅ s₆
  have h₁ : livesOf s₁.insts = livesOf s.insts := endShown_lives s g
  have h₂ : s₂.insts = s₁.insts := by simp [s₂, latchMode]
  have h₃ : s₃.insts = s₂.insts := each_insts _ _ _ fun t m => by simp
  have h₄ : s₄.insts = s₃.insts := latchReturn_insts ..
  have h₅ : s₅.insts = s₄.insts := each_insts _ _ _ fun t m => cutoverAtLatch_insts ..
  have h₆ : s₆.insts = s₅.insts := by simp only [s₆]; split <;> simp
  rw [latchOpportunity_lives, h₆, h₅, h₄, h₃, h₂, h₁]

theorem wakeOutput_lives (s : State) (g from_ : Nat) : livesOf (s.wakeOutput g from_).insts = livesOf s.insts := by
  unfold wakeOutput
  extract_lets s₁ s₂ s₃
  have woken : s₃.insts = s.insts := (each_insts _ _ s₁ fun t p => by rfl).trans (each_insts _ _ s fun t k => by rfl)
  rw [latchPoint_lives, woken]

theorem commitByGaffer_lives (s : State) (k : Nat) : livesOf (s.commitByGaffer k).insts = livesOf s.insts := by
  unfold commitByGaffer
  extract_lets x f n s₁ s₂ after c s₃
  have pended : s₃.insts = s.insts := rfl
  split
  · rfl
  · split
    · rw [wakeOutput_lives, pended]
    · rw [pended]

/-- Positions that are withdrawn leave every life as it is: Gaffer's commits and what they wake only complete items (R324, R330). -/
theorem withdraw_lives (s : State) (ps : List (Nat × Nat)) : livesOf (s.withdraw ps).1.insts = livesOf s.insts := by
  unfold withdraw
  extract_lets s₁ ks
  have shadowed : s₁.insts = s.insts := each_insts _ _ _ fun t p => by rfl
  rw [each_lives _ _ _ fun t k => commitByGaffer_lives .., shadowed]

/-! ## The end of jobs (R258 to R261, R330) -/

@[simp] theorem writeReport_insts (s : State) (j : Job) : (s.writeReport j).insts = s.insts := by
  simp [writeReport]

@[simp] theorem loseTargets_insts (s : State) (d : BitVec 512) : (s.loseTargets d).insts = s.insts := by
  unfold loseTargets
  split
  · rfl
  · refine each_insts _ _ _ fun t a => ?_
    dsimp only
    split <;> split <;> rfl

theorem settleRevokes_lives (s : State) : livesOf s.settleRevokes.insts = livesOf s.insts :=
  each_lives _ _ _ fun t it => by simp

theorem settleDestroys_lives (s : State) : livesOf s.settleDestroys.insts = livesOf s.insts := by
  refine each_lives _ _ _ fun t e => ?_
  split
  · rfl
  · exact each_lives _ _ _ fun u item => finish_lives ..

theorem endJob_lives (s : State) (j : Job) (status detail : Nat) : livesOf (s.endJob j status detail).insts = livesOf s.insts := by
  unfold endJob
  extract_lets s₁ s₂ mine s₃ s₄ s₅
  have h₁ : s₁.insts = s.insts := by simp [s₁]
  have h₅ : livesOf s₅.insts = livesOf s₁.insts := by rw [settleDestroys_lives, settleRevokes_lives, complete_lives]; rfl
  rw [each_lives _ _ _ fun t n => releaseIfFree_lives .., h₅, h₁]

theorem failJob_lives (s : State) (j : Job) (status detail : Nat) : livesOf (s.failJob j status detail).insts = livesOf s.insts := by
  unfold failJob
  dsimp only
  rw [logInjected_insts, endJob_lives]
  simp

end State

end Sys2Proof.Machine
end

section
/-!
SUPPORT. O32, the second part: the steps of a reset or removal (R329 to R332). Step 1 puts an instance into its drain, the end of the drain into TEARDOWN, and
whatever else these steps set off leaves every life as it is.
-/
namespace Sys2Proof.Machine
open Sys2Proof

theorem owner_code_manager (o : Owner) : o.code = 0x40 ↔ o = .manager := by
  cases o with
  | guest i => simpa [Owner.code] using Nat.ne_of_lt i.isLt
  | manager | gaffer | bittern => simp [Owner.code]

namespace State

theorem inst_modInst_life (s : State) (o : Nat) (f : Inst → Inst) :
    livesOf (s.modInst o f).insts = Function.update (livesOf s.insts) o (f (s.inst o)).life := livesOf_set ..

theorem resetting_of_life {s t : State} {o : Nat} (h : livesOf t.insts o = livesOf s.insts o) : t.resetting o = s.resetting o := by
  rw [resetting, state_of_life h, resetting]

theorem not_resetting_of_active {s : State} {o : Nat} (h : (s.inst o).state = .active) : s.resetting o = false := by
  simp [resetting, h]

/-! ## Step 1 (R329, R330, R525) -/

@[simp] theorem disarmFor_insts (s : State) (o : Nat) : (s.disarmFor o).insts = s.insts := by
  simp [disarmFor]

@[simp] theorem stopInstanceAudio_insts (s : State) (i : Nat) (remove : Bool) : (s.stopInstanceAudio i remove).insts = s.insts := by
  simp [stopInstanceAudio]

/-- Step 1 of a reset or removal puts one owner into its drain. -/
theorem startReset_lives (s : State) (o : Nat) (remove : Bool) (asker : Option Nat) (drainNs : Nat) :
    livesOf (s.startReset o remove asker drainNs).insts = Function.update (livesOf s.insts) o ⟨.draining, remove, asker, (s.inst o).busOff⟩ := by
  unfold startReset
  extract_lets s₁ s₂
  have stopped : (if o < 64 then s₂.stopInstanceAudio o remove else s₂).insts = s₁.insts := by simp [s₂]
  rw [stopped]
  exact inst_modInst_life ..

theorem startReset_life (s : State) (o : Nat) (remove : Bool) (asker : Option Nat) (drainNs : Nat) :
    ((s.startReset o remove asker drainNs).inst o).life = ⟨.draining, remove, asker, (s.inst o).busOff⟩ := by
  rw [← livesOf_apply, startReset_lives, Function.update_self]

/-! ## A Function Level Reset (R332) -/

/-- A removal without drain is under way: its life, with bus mastering as the reset leaves it. -/
def FlrBegun (s : State) (busMaster : Bool) (i : Nat) : Prop :=
  (s.inst i).state = .draining ∧ (s.inst i).removing = true ∧ (s.inst i).busOff = !busMaster

theorem FlrBegun.of_life {s t : State} {busMaster : Bool} {i : Nat} (h : s.FlrBegun busMaster i) (hl : livesOf t.insts i = livesOf s.insts i) :
    t.FlrBegun busMaster i :=
  ⟨(congrArg Life.state hl).trans h.1, (congrArg Life.removing hl).trans h.2.1, (congrArg Life.busOff hl).trans h.2.2⟩

/-- A Function Level Reset of an owner changes the life of no other. -/
theorem flrInstance_other (s : State) (busMaster : Bool) {o i : Nat} (h : i ≠ o) : livesOf (s.flrInstance busMaster o).insts i = livesOf s.insts i := by
  unfold flrInstance
  extract_lets remove s₁
  have off : livesOf s₁.insts i = livesOf s.insts i := by rw [inst_modInst_life, Function.update_of_ne h]
  split
  · rw [inst_modInst_life, Function.update_of_ne h, off]
  · rw [startReset_lives, Function.update_of_ne h, off]

theorem resetting_busOff (s : State) (o : Nat) (b : Bool) : (s.modInst o fun x => { x with busOff := b }).resetting o = s.resetting o := by
  rw [resetting, inst_modInst_same, resetting]

theorem flrInstance_begins {s : State} {i : Nat} (hi : i < 64) (h : s.resetting i = false) (busMaster : Bool) :
    (s.flrInstance busMaster i).FlrBegun busMaster i := by
  have life := startReset_life (s.modInst i fun x => { x with busOff := !busMaster }) i (decide (i < 64)) none 0
  rw [inst_modInst_same, decide_eq_true hi] at life
  have idle : ¬(s.modInst i fun x => { x with busOff := !busMaster }).resetting i = true := by simp [resetting_busOff, h]
  unfold flrInstance
  dsimp only
  rw [if_neg idle, decide_eq_true hi]
  exact ⟨congrArg Life.state life, congrArg Life.removing life, congrArg Life.busOff life⟩

theorem flrInstance_again {s : State} {i : Nat} {busMaster : Bool} (hi : i < 64) (h : s.FlrBegun busMaster i) :
    (s.flrInstance busMaster i).FlrBegun busMaster i := by
  obtain ⟨hstate, -, -⟩ := h
  have under : (s.modInst i fun x => { x with busOff := !busMaster }).resetting i = true := by
    rw [resetting_busOff, resetting, hstate]
    rfl
  unfold flrInstance
  dsimp only
  rw [if_pos under, FlrBegun, inst_modInst_same, inst_modInst_same, decide_eq_true hi]
  exact ⟨hstate, rfl, rfl⟩

theorem flrInstance_keepsBegun {s : State} {i : Nat} {busMaster : Bool} (hi : i < 64) (o : Nat) (h : s.FlrBegun busMaster i) :
    (s.flrInstance busMaster o).FlrBegun busMaster i := by
  by_cases ho : i = o
  · subst ho
    exact flrInstance_again hi h
  · exact h.of_life (flrInstance_other s busMaster ho)

/-- A removal begins for every instance that a Function Level Reset meets and that is in no reset yet. -/
theorem each_flrInstance_begins {s : State} {i : Nat} {l : List Nat} (hl : i ∈ l) (hi : i < 64) (h : s.resetting i = false) (busMaster : Bool) :
    (s.each l fun s o => s.flrInstance busMaster o).FlrBegun busMaster i := by
  induction l generalizing s with
  | nil => exact absurd hl List.not_mem_nil
  | cons o l ih =>
    by_cases ho : i = o
    · subst ho
      exact each_keeps (fun t => t.FlrBegun busMaster i) l _ _ (fun t o ht => flrInstance_keepsBegun hi o ht) (flrInstance_begins hi h busMaster)
    · exact ih ((List.mem_cons.1 hl).resolve_left ho) ((resetting_of_life (flrInstance_other s busMaster ho)).trans h)

/-! ## The end of the drain (R330, R331) -/

/-- An item that is squashed leaves every life as it is. -/
theorem squashItem_lives (s : State) (o : Nat) (it : Item) : livesOf (s.squashItem o it).insts = livesOf s.insts := by
  unfold squashItem
  extract_lets s₁ s₂ s₃
  have counted : livesOf s₂.insts = livesOf s.insts := by
    rw [modRaster_insts]
    exact modInst_lives ..
  split
  · split
    · exact (failJob_lives ..).trans counted
    · exact (endJob_lives ..).trans counted
  · have dropped : s₃.insts = s₂.insts := each_insts _ _ _ fun t k => by rfl
    rw [finish_lives, dropped, counted]

theorem teardown_state (s : State) (o : Nat) : ((s.teardown o).inst o).state = .teardown := by
  unfold teardown
  extract_lets s₁ s₂ mine late s₃ s₄ w
  have torn : (livesOf s₁.insts o).state = .teardown := by
    rw [inst_modInst_life, Function.update_self]
    rfl
  have squashed : livesOf s₄.insts = livesOf s₂.insts :=
    (each_lives _ _ _ fun t it => squashItem_lives ..).trans (each_lives _ _ _ fun t it => squashItem_lives ..)
  split
  · have awaits (l : List Nat) : livesOf (w.1.modInst o fun x => { x with awaitFlip := l }).insts = livesOf s₄.insts :=
      (modInst_lives _ _ _).trans (withdraw_lives ..)
    exact (congrArg Life.state (congrFun ((awaits _).trans squashed) o)).trans torn
  · exact (congrArg Life.state (congrFun squashed o)).trans torn

end State

end Sys2Proof.Machine
end

section
/-!
SUPPORT, and the statement O32: how an instance is made (R301 to R303), what the commands that begin a reset or removal leave, and how each ends (R329 to R332).
-/
namespace Sys2Proof.Machine
open Sys2Proof

namespace State

/-! ## Creation (R301 to R303) -/

/-- A context area takes room and nothing else (R294). -/
theorem placeContext_places {s t : State} {o : Nat} (h : s.placeContext o = some t) : ∃ l, t = s.setAreas l := by
  obtain ⟨p, -, rfl⟩ := Option.map_eq_some_iff.1 h
  exact ⟨_, rfl⟩

/-- The instance that a descriptor of INST_CREATE asks for. -/
def askedInst (d : BitVec 512) : Inst := { state := .active, port := dfield d 65 64, pasid := dfield d 87 68, shareNow := dfield d 105 96 }

/-- The state with an instance of its own key slot made as a descriptor asks. -/
def withInstance (s : State) (d : BitVec 512) (k i : Nat) : State :=
  (((s.loadKey k i).defaultInstance i).wr (Obj.INST_SHARE i) (dfield d 105 96)).setInst i (askedInst d)

theorem inst_withInstance (s : State) (d : BitVec 512) (k i o : Nat) :
    (s.withInstance d k i).inst o = if o = i then askedInst d else s.inst o := Tab.get_set ..

theorem keySlot_withInstance (s : State) (d : BitVec 512) (k i j : Nat) :
    (s.withInstance d k i).keySlot j = if j = k then ⟨i, 1, wrapAdd 16 (s.keySlot k).generation 1⟩ else s.keySlot j := Tab.get_set ..

/-- A record goes to the ring of its item's owner alone (R313). -/
theorem inst_writeRecord_other (s : State) (it : Item) (status detail : Nat) (pos : Spos) (time : Nat) {o : Nat} (h : o ≠ it.owner) :
    (s.writeRecord it status detail pos time).inst o = s.inst o := by
  have io (t : State) (addr n : Nat) : (t.ioWrite it.owner addr n).inst o = t.inst o := by
    unfold ioWrite
    split
    · exact inst_modInst_other t h _
    · rfl
  unfold writeRecord
  dsimp only
  split
  · split
    · exact Tab.get_set_other _ _ _ _ _ h
    · split
      · rw [inst_emit, io, inst_emit]
        exact Tab.get_set_other _ _ _ _ _ h
      · rw [io, inst_emit]
        exact Tab.get_set_other _ _ _ _ _ h
  · rfl

theorem inst_congr {s t : State} (h : t.insts = s.insts) (o : Nat) : t.inst o = s.inst o := by
  rw [inst, inst, h]

theorem inst_completeAt_other {s : State} {id : Nat} {it : Item} (hitem : s.item? id = some it) (status detail : Nat) (pos : Spos) (time : Nat) {o : Nat}
    (h : o ≠ it.owner) : (s.completeAt id status detail pos time).inst o = s.inst o :=
  (inst_congr (ext_insts (completeAt_item hitem status detail pos time).1) o).trans (inst_writeRecord_other (s.withoutItem id) it status detail pos time h)

theorem completeAt_keys (s : State) (id status detail : Nat) (pos : Spos) (time : Nat) : (s.completeAt id status detail pos time).keys = s.keys :=
  (congrArg State.keys (completeAt_frame s id status detail pos time) :)

theorem keySlot_congr {s t : State} (h : t.keys = s.keys) (n : Nat) : t.keySlot n = s.keySlot n := by
  rw [keySlot, keySlot, h]

/-- A record is still one that has been sent when the log takes another. -/
theorem recorded_congr {s t : State} (h : t.io = s.io) (it : Item) (status detail : Nat) : t.recorded it status detail = s.recorded it status detail := by
  rw [recorded, recorded, h]

end State

open State

/-- The checks of INST_CREATE but for the context area pass for a descriptor, key slot `k` and instance `i` (R301 to R303). -/
structure State.MayCreate (s : State) (d : BitVec 512) (k i : Nat) : Prop where
  share : 0 < dfield d 105 96 ∧ dfield d 105 96 ≤ 1000
  key : s.freeKeySlot = some k
  number : (List.range 64).find? (fun i => decide ((s.inst i).state = .free)) = some i
  quota : (s.boundTo (dfield d 65 64)).length < s.rd (Obj.PORT_INST_QUOTA (dfield d 65 64))
  pasid : s.pasidUsed (dfield d 65 64) (dfield d 87 68) = false

/-- The state with the instance made that an item asks for, its item completed and its creation recorded. -/
def State.createdFor (s : State) (it : Item) (k i : Nat) : State :=
  ((s.withInstance it.desc k i).complete it.id Status.ok i).logEvent Ev.instanceCreated i
    [d8 i, d8 (dfield it.desc 65 64), d32 (dfield it.desc 87 68)]

/-- An instance that passes every check is made, and its item completes with its number. -/
theorem execInstCreate_created {s t : State} {q : Fin 16} {it : Item} {k i : Nat} (hnext : s.nextItemOf Owner.manager.code q.val 0x10 = some it)
    (hup : s.bitternDown = false) (hmay : (s.startItem it.id).MayCreate it.desc k i) (hplace : (s.startItem it.id).placeContext i = some t) :
    execInstCreate .manager q s = .next (t.createdFor it k i) := by
  obtain ⟨hshare, hkey, hnumber, hquota, hpasid⟩ := hmay
  have ranged : ¬(dfield it.desc 105 96 = 0 ∨ 1000 < dfield it.desc 105 96) := by omega
  refine (if_neg (ne_true_of_eq_false hup)).trans (congrArg Host.Outcome.next ((onItem_eq hnext _).trans ?_))
  dsimp only
  rw [if_neg (not_not.2 ((owner_code_manager _).2 rfl)), if_neg ranged, hkey, hnumber]
  dsimp only
  rw [if_neg (Nat.not_le.2 hquota), if_neg (ne_true_of_eq_false hpasid), hplace]
  rfl

/-- What the manager's item that makes an instance leaves: its record, the instance, its share and its key slot (R301 to R303). -/
theorem createdFor_made {s : State} {it : Item} {k i : Nat} (hitem : s.item? it.id = some { it with started := true }) (hinj : it.injected = false)
    (howner : it.owner = 0x40) (hbus : (s.inst 0x40).busOff = false) (hi : i < 64) :
    (s.createdFor it k i).recorded it Status.ok i = true ∧ (s.createdFor it k i).item? it.id = none ∧ (s.createdFor it k i).inst i = askedInst it.desc ∧
      (s.createdFor it k i).rd (Obj.INST_SHARE i) = dfield it.desc 105 96 ∧
      (∀ j, (s.createdFor it k i).keySlot j = if j = k then ⟨i, 1, wrapAdd 16 (s.keySlot k).generation 1⟩ else s.keySlot j) ∧
      (s.createdFor it k i).mem = s.mem := by
  have guest : i ≠ it.owner := by omega
  have other : ((s.withInstance it.desc k i).inst it.owner).busOff = false := by
    rw [inst_withInstance, if_neg guest.symm, howner, hbus]
  have item : (s.withInstance it.desc k i).item? it.id = some { it with started := true } := hitem
  refine ⟨(recorded_congr (io_logEvent ..) ..).trans (recorded_completeAt item hinj other ..), (item?_congr (logEvent_items ..) _).trans ?_,
    (inst_congr (logEvent_insts ..) i).trans ?_, ?_, fun j => ?_, (logEvent_mem ..).trans (completeAt_mem ..)⟩
  · rw [complete, item?_completeAt, if_pos rfl]
  · exact (inst_completeAt_other item _ _ _ _ guest).trans ((inst_withInstance ..).trans (if_pos rfl))
  · have logged : Obj.INST_SHARE i ≠ Obj.LOG_LOST := by
      simp only [Obj.INST_SHARE, Obj.LOG_LOST]
      omega
    exact (rd_logEvent _ _ _ _ _ logged).trans ((objectsBut_complete _ _ (by decide) _ _ (by simpa using logged)).trans (rd_wr_same ..))
  · exact (keySlot_congr ((logEvent_keys ..).trans (completeAt_keys ..)) j).trans (keySlot_withInstance ..)

theorem execInstCreate_notManager {s : State} {o : Owner} {q : Fin 16} {it : Item} (ho : o ≠ .manager) (hnext : s.nextItemOf o.code q.val 0x10 = some it)
    (hup : s.bitternDown = false) : execInstCreate o q s = .next ((s.startItem it.id).finish it.id Status.notManager) :=
  (if_neg (ne_true_of_eq_false hup)).trans (congrArg Host.Outcome.next ((onItem_eq hnext _).trans (if_pos fun h => ho ((owner_code_manager o).1 h))))

/-! ## Resets and removals (R329 to R332) -/

/-- The manager's control item begins the reset or removal of an ACTIVE instance, whose drain it waits out. -/
theorem instControl_begins {s : State} {it : Item} (htarget : controlTarget it.desc < 64) (hactive : (s.inst (controlTarget it.desc)).state = .active)
    (remove : Bool) : s.instControl 0x40 it remove =
      s.startReset (controlTarget it.desc) remove (some it.id) (s.drainTime (controlTarget it.desc)) := by
  have guest : controlTarget it.desc ≠ 0x40 := by omega
  have idle := not_resetting_of_active hactive
  simp [instControl, guest, hactive, idle]

/-- The life of an ACTIVE instance whose reset or removal the manager's item has begun. -/
theorem instControl_life {s : State} {it : Item} (htarget : controlTarget it.desc < 64) (hactive : (s.inst (controlTarget it.desc)).state = .active)
    (remove : Bool) : (((s.startItem it.id).instControl 0x40 it remove).inst (controlTarget it.desc)).life =
      ⟨.draining, remove, some it.id, (s.inst (controlTarget it.desc)).busOff⟩ := by
  rw [instControl_begins (s := s.startItem it.id) htarget hactive]
  exact startReset_life ..

theorem execInstControlReset_begins {s : State} {w : Window} (hlive : s.windowLive w.code = true) (hidle : s.resetting w.code = false) :
    execInstControlReset w s = .next (s.startReset w.code false none (s.drainTime w.code)) :=
  if_neg (by simp [hlive, hidle])

/-- What is freed and told of an instance once nothing of it is left (R330, step 6; R332). -/
def State.instanceFreed (s : State) (o : Nat) : State :=
  (s.each (s.inst o).flrSquashed fun s e => s.logEvent Ev.flrSquash o [d8 o, d8 e.1, d32 e.2.1, d32 e.2.2]).freeInstance o

/-- A reset or removal that no item asked for, and of which nothing is left, ends. -/
theorem execResetDone_ends {s : State} {w : Window} (hstate : (s.inst w.code).state = .teardown) (hitems : s.itemsOf w.code = [])
    (hflips : (s.inst w.code).awaitFlip = []) (hheld : (s.grip.surfaces.any fun e => decide (e.2.owner = w.code) && s.referred e.1) = false)
    (hup : s.bitternDown = false) (hasker : (s.inst w.code).asker = none) :
    execResetDone w s = .next ((if (s.inst w.code).removing = true then (s.instanceFreed w.code).removeDone w.code
      else (s.instanceFreed w.code).resetDone w.code).logEvent Ev.resetDone w.code
        [d8 w.code, dFlag (s.inst w.code).removing, d32 (s.inst w.code).squashed]) := by
  refine (if_neg ?_).trans ?_
  · simp [hstate, hitems, hflips, hheld, hup]
  · rw [hasker]
    rfl

/-- A reset that ends leaves its instance ACTIVE, with RESET_DONE and every queue disabled (R330, step 7). -/
theorem State.resetDone_inst (s : State) (o : Nat) : ((s.resetDone o).inst o).state = .active ∧ ((s.resetDone o).inst o).resetDone = true ∧
    ∀ e ∈ ((s.resetDone o).inst o).queues, e.2.enable = false := by
  unfold resetDone
  extract_lets s₁ s₂
  rw [inst_modInst_same]
  refine ⟨rfl, rfl, fun e he => ?_⟩
  obtain ⟨e', -, rfl⟩ := List.mem_map.1 he
  rfl

theorem Tab.get_drop_same {α : Type} (d : α) (t : Tab α) (k : Nat) : Tab.get d (Tab.drop t k) k = d := by
  rcases Tab.get_default_or_mem d (Tab.drop t k) k with h | h
  · exact h
  · simp [Tab.drop] at h

/-- A removal that ends leaves no instance. -/
theorem State.removeDone_inst (s : State) (o : Nat) : ((s.removeDone o).inst o).state = .free := by
  unfold removeDone
  extract_lets s₁
  exact congrArg Inst.state (Tab.get_drop_same {} s₁.insts o)

/-! ## The statement -/

/-- Settles O32. An instance is made before its item completes, which changes the manager's ring alone. What a reset or removal sets off changes no life but its
own. -/
theorem instancesAreMadeAndReset : Obligations.InstancesAreMadeAndReset := by
  unfold Obligations.InstancesAreMadeAndReset
  refine ⟨⟨fun s q it k i hoff hup hshare hmost hkey hfree hquota hpasid hplace => ?_, fun s o q it ho hoff hup => ?_⟩,
    fun s q it hoff htarget hactive => ⟨fun hreset => ?_, fun hremove => ?_⟩, fun s w hlive hidle => ?_, fun s hp b i hbound hidle => ?_,
    fun s w hdrain hover => ?_, fun s w hstate hitems hflips hheld hup hasker => ⟨fun hkept => ?_, fun hremoved => ?_⟩⟩
  · obtain ⟨hnext, hitem, hinj, hbus⟩ := (offers_iff ..).1 hoff
    obtain ⟨t, ht⟩ := Option.isSome_iff_exists.1 hplace
    obtain ⟨l, rfl⟩ := placeContext_places ht
    have run := execInstCreate_created (k := k) hnext hup ⟨⟨hshare, hmost⟩, hkey, hfree, hquota, hpasid⟩ ht
    obtain ⟨hrec, hgone, hinst, hshared, hkeys, hmem⟩ := createdFor_made (s := (s.startItem it.id).setAreas l) (k := k) (item?_startItem hitem) hinj
      (owner_of_nextItemOf hnext) hbus (List.mem_range.1 (List.mem_of_find?_eq_some hfree))
    exact ⟨_, run, hrec, hgone, congrArg Inst.state hinst, congrArg Inst.port hinst, congrArg Inst.pasid hinst, hshared, (hkeys k).trans (if_pos rfl),
      fun j hj => (hkeys j).trans (if_neg hj), byte_of_mem _ _ hmem⟩
  · obtain ⟨hnext, -⟩ := (offers_iff ..).1 hoff
    obtain ⟨hrec, hgone⟩ := complete_started hoff Status.notManager 0
    exact ⟨_, execInstCreate_notManager ho hnext hup, hrec, hgone, completeAt_keys .., byte_of_mem _ _ (completeAt_mem ..)⟩
  · obtain ⟨hnext, -⟩ := (offers_iff ..).1 hoff
    have life := instControl_life htarget hactive false
    exact ⟨_, congrArg Host.Outcome.next (onItemIf_eq hnext _ (by simp [hreset]) _), congrArg Life.state life, congrArg Life.removing life,
      congrArg Life.asker life⟩
  · obtain ⟨hnext, -⟩ := (offers_iff ..).1 hoff
    have life := instControl_life htarget hactive true
    exact ⟨_, congrArg Host.Outcome.next (onItemIf_eq hnext _ hremove _), congrArg Life.state life, congrArg Life.removing life,
      congrArg Life.asker life⟩
  · have life := startReset_life s w.code false none (s.drainTime w.code)
    exact ⟨_, execInstControlReset_begins hlive hidle, congrArg Life.state life, congrArg Life.removing life⟩
  · have guest : i < 64 := List.mem_range.1 (List.mem_filter.1 hbound).1
    exact ⟨_, rfl, each_flrInstance_begins (List.mem_append_left _ hbound) guest hidle b⟩
  · exact ⟨_, if_pos ⟨hdrain, hover⟩, teardown_state ..⟩
  · obtain ⟨hactive, hdone, hqueues⟩ := resetDone_inst (s.instanceFreed w.code) w.code
    refine ⟨_, execResetDone_ends hstate hitems hflips hheld hup hasker, ?_⟩
    rw [inst_congr (logEvent_insts ..), if_neg (ne_true_of_eq_false hkept)]
    exact ⟨hactive, hdone, hqueues⟩
  · refine ⟨_, execResetDone_ends hstate hitems hflips hheld hup hasker, ?_⟩
    rw [inst_congr (logEvent_insts ..), if_pos hremoved]
    exact removeDone_inst ..

end Sys2Proof.Machine
end

section
/-!
SUPPORT. O38 and O39: device DRAM (R343 to R374). What refreshes, sweeps and errors share: two's complement bytes, bytes of an
object, which objects are distinct, what a block writes, and the channels after each shared operation.
-/
namespace Sys2Proof.Machine
open Sys2Proof

/-! ## Bytes -/

/-- A byte in two's complement reads as it was coded. -/
theorem toSigned_ofSigned_byte {i : Int} (hlo : -128 ≤ i) (hhi : i < 128) : toSigned 8 (ofSigned 8 i) = i := by
  have coded : ofSigned 8 i = (i % 256).toNat := rfl
  simp only [toSigned, coded, Int.ofNat_eq_natCast]
  split <;> omega

/-- Bytes of a string read as they were put there (R5). -/
theorem bytesAt_setBytes (v i : Nat) {n x : Nat} (h : x < 2 ^ (8 * n)) : bytesAt (setBytes v i n x) i n = x := by
  have below : v % 2 ^ (8 * i) < 2 ^ (8 * i) := Nat.mod_lt _ (Nat.two_pow_pos _)
  have parts : setBytes v i n x = (x + 2 ^ (8 * n) * (v / 2 ^ (8 * (i + n)))) * 2 ^ (8 * i) + v % 2 ^ (8 * i) := by
    rw [setBytes, Nat.mod_eq_of_lt h, Nat.mul_add 8 i n, pow_add]
    ring
  rw [bytesAt, parts, Nat.shiftRight_eq_div_pow, Nat.add_comm, Nat.add_mul_div_right _ _ (Nat.two_pow_pos _), Nat.div_eq_of_lt below,
    Nat.zero_add, Nat.add_mul_mod_self_left, Nat.mod_eq_of_lt h]

/-- An entry of MARGIN_REPORT has eight bytes (R365). -/
theorem marginEntry_lt (old : Nat) (res : SweepResult) (recentred : Bool) : marginEntry old res recentred < 2 ^ (8 * 8) := by
  have left : Nat.min 64 res.left ≤ 64 := Nat.min_le_left ..
  have right : Nat.min 64 res.right ≤ 64 := Nat.min_le_left ..
  have disagree : Nat.min 0xFFFF res.disagree ≤ 0xFFFF := Nat.min_le_left ..
  have flag (b : Bool) : ofBool b ≤ 1 := by cases b <;> decide
  have stale := flag res.stale
  have moved := flag recentred
  unfold marginEntry
  extract_lets seq keep
  have seqByte : seq < 256 := Nat.mod_lt _ (by decide)
  have keepBytes : keep < 2 ^ 40 := by
    simp only [keep]
    split <;> omega
  omega

namespace State

/-! ## Objects of device DRAM -/

theorem trainRecentres_ne_logLost {m : Nat} (hm : m < 8) : Obj.TRAIN_RECENTRES m ≠ Obj.LOG_LOST := by
  simp only [Obj.TRAIN_RECENTRES, Obj.LOG_LOST]
  omega

theorem marginReport_ne (m : Nat) : Obj.MARGIN_REPORT m ≠ Obj.LOG_LOST ∧ Obj.MARGIN_REPORT m ≠ Obj.MEM_MARGIN_LOW ∧
    Obj.MARGIN_REPORT m ≠ Obj.TRAIN_RECENTRES m := by
  simp only [Obj.MARGIN_REPORT, Obj.LOG_LOST, Obj.MEM_MARGIN_LOW, Obj.TRAIN_RECENTRES]
  omega

/-! ## What a block writes -/

/-- At most the objects listed are written: every other object, memory and start-up are as they were, and the records in the FIFO stay. -/
abbrev Writes (os : List Nat) (s t : State) : Prop := Passes (· ∉ os) s t

namespace Writes
variable {os : List Nat} {s t u : State}

theorem refl (s : State) : Writes os s s := Passes.refl s

theorem trans (h : Writes os s t) (h' : Writes os t u) : Writes os s u := Passes.trans h h'

/-- The frame in the words of the statements. -/
theorem frame (h : Writes os s t) : s.objectsBut t os ∧ s.sameMemory t := ⟨h.obj, byte_of_mem _ _ h.mem⟩

theorem wr {a : Nat} (h : a ∈ os) (s : State) (v : Nat) : Writes os s (s.wr a v) := Passes.wr s a v (not_not_intro h)

theorem count {a : Nat} (h : a ∈ os) (s : State) : Writes os s (s.count a) := wr h s _

theorem modDram (s : State) (f : Dram → Dram) : Writes os s (s.modDram f) := ⟨rfl, rfl, fun _ h => h, fun _ _ => rfl⟩

theorem modChan (s : State) (m : Nat) (f : MemChan → MemChan) : Writes os s (s.modChan m f) := modDram ..

theorem logInjected (h : Obj.LOG_LOST ∈ os) (s : State) (code source : Nat) (i : Bool) (ds : List Detail) :
    Writes os s (s.logInjected code source i ds) :=
  ⟨logInjected_boot .., logInjected_mem .., State.fifo_logAt _ _ _ _ _ _ _, fun _ ha => rd_logInjected _ _ _ _ _ _ fun hl => ha (hl ▸ h)⟩

theorem logEvent (h : Obj.LOG_LOST ∈ os) (s : State) (code source : Nat) (ds : List Detail) : Writes os s (s.logEvent code source ds) :=
  Passes.logEvent (not_not_intro h) ..

end Writes

/-! ## Channels -/

theorem chan_modChan (s : State) (m n : Nat) (f : MemChan → MemChan) : (s.modChan m f).chan n = if n = m then f (s.chan m) else s.chan n :=
  Tab.get_set ..

@[simp] theorem chan_modChan_same (s : State) (m : Nat) (f : MemChan → MemChan) : (s.modChan m f).chan m = f (s.chan m) := by
  rw [chan_modChan, if_pos rfl]

theorem chan_modChan_other (s : State) {m n : Nat} (h : n ≠ m) (f : MemChan → MemChan) : (s.modChan m f).chan n = s.chan n := by
  rw [chan_modChan, if_neg h]

theorem chan_congr {s t : State} (h : t.dram = s.dram) (m : Nat) : t.chan m = s.chan m := by rw [chan, chan, h]

@[simp] theorem chan_wr (s : State) (a v m : Nat) : (s.wr a v).chan m = s.chan m := rfl

@[simp] theorem chan_count (s : State) (a m : Nat) : (s.count a).chan m = s.chan m := rfl

@[simp] theorem chan_logInjected (s : State) (code source : Nat) (i : Bool) (ds : List Detail) (m : Nat) :
    (s.logInjected code source i ds).chan m = s.chan m := chan_congr (logInjected_dram ..) m

@[simp] theorem chan_logEvent (s : State) (code source : Nat) (ds : List Detail) (m : Nat) : (s.logEvent code source ds).chan m = s.chan m :=
  chan_logInjected ..

@[simp] theorem rd_modChan (s : State) (m : Nat) (f : MemChan → MemChan) (a : Nat) : (s.modChan m f).rd a = s.rd a := rfl

theorem modChan_congr {s : State} {m : Nat} {f g : MemChan → MemChan} (h : f (s.chan m) = g (s.chan m)) : s.modChan m f = s.modChan m g :=
  congrArg (fun c => s.modDram fun d => { d with channels := Tab.set d.channels m c }) h

/-- A loop of which no turn does anything. -/
theorem each_idle {α : Type} (s : State) (l : List α) (f : State → α → State) (hf : ∀ x, f s x = s) : s.each l f = s := by
  induction l with
  | nil => rfl
  | cons x l ih => rw [each, hf, ih]

end State
end Sys2Proof.Machine
end

section
/-!
SUPPORT. O38: refresh (R355 to R360, R366), mode register polls (R359, R360) and the sweeps of the margins (R364 to R366). One rule for each
operation: the debt, the channel, and the objects that it writes.
-/
namespace Sys2Proof.Machine
open Sys2Proof

namespace State

/-! ## The debt (R356) -/

theorem debt_congr {s t : State} {m : Nat} (h : t.rd (Obj.MC_REFRESH_DEBT m) = s.rd (Obj.MC_REFRESH_DEBT m)) : t.debt m = s.debt m := by
  rw [debt, debt, h]

theorem debt_setDebt (s : State) (m : Nat) {d : Int} (hlo : -128 ≤ d) (hhi : d < 128) : (s.setDebt m d).debt m = d := by
  rw [debt, setDebt, rd_wr_same, toSigned_ofSigned_byte hlo hhi]

/-! ## All-bank refreshes (R356, R357, R366) -/

@[simp] theorem chan_applyRecentre (s : State) (m : Nat) : (s.applyRecentre m).chan m = { s.chan m with recentre := [] } := chan_modChan_same ..

theorem applyRecentre_writes {os : List Nat} {m : Nat} (h : Obj.TRAIN_RD m ∈ os) (s : State) : Writes os s (s.applyRecentre m) := by
  unfold applyRecentre
  exact (Writes.wr h s _).trans (.modChan ..)

theorem rd_applyRecentre (s : State) {m a : Nat} (h : a ≠ Obj.TRAIN_RD m) : (s.applyRecentre m).rd a = s.rd a :=
  (applyRecentre_writes (List.mem_singleton_self _) s).obj a (by simpa using h)

theorem debt_allBank (s : State) (m : Nat) : (s.allBank m).debt m = clampInt (-8) 8 (s.debt m - 1) := by
  have bounds : -8 ≤ clampInt (-8) 8 (s.debt m - 1) ∧ clampInt (-8) 8 (s.debt m - 1) ≤ 8 := by
    unfold clampInt
    omega
  exact debt_setDebt _ m (by omega) (by omega)

theorem allBank_writes (s : State) (m : Nat) : Writes [Obj.MC_REFRESH_DEBT m, Obj.TRAIN_RD m] s (s.allBank m) :=
  (applyRecentre_writes (by simp) s).trans (.wr (by simp) _ _)

/-- Refreshes back to back take the debt down by one each, as far as the floor. -/
theorem debt_refreshWhile {s : State} {m : Nat} {floor : Int} (hfloor : -8 ≤ floor) (hlo : floor ≤ s.debt m) (hhi : s.debt m ≤ 8) (n : Nat) :
    (s.refreshWhile m floor n).debt m = s.debt m - min (s.debt m - floor) n := by
  induction n generalizing s with
  | zero =>
    simp only [refreshWhile]
    omega
  | succ n ih =>
    unfold refreshWhile
    split
    next above =>
      have fell : (s.allBank m).debt m = s.debt m - 1 := by
        rw [debt_allBank, clampInt]
        omega
      rw [ih (by omega) (by omega), fell]
      omega
    next => omega

theorem refreshWhile_writes (s : State) (m : Nat) (floor : Int) (n : Nat) :
    Writes [Obj.MC_REFRESH_DEBT m, Obj.TRAIN_RD m] s (s.refreshWhile m floor n) := by
  induction n generalizing s with
  | zero => exact .refl s
  | succ n ih =>
    unfold refreshWhile
    split
    · exact (allBank_writes s m).trans (ih _)
    · exact .refl s

/-! ## A tREFI (R355 to R358) -/

/-- A refresh that a debt of 8 forces: delay changes that wait take effect, and it is counted and recorded (R356, R366). -/
def forcedRefresh (s : State) (m : Nat) : State := ((s.applyRecentre m).count Obj.MEM_FORCED_REFRESH).logEvent Ev.refreshForced noOwner [d8 m]

/-- On a channel that feeds an output, with no refresh of a slot that waits, a tREFI raises the debt or forces a refresh. -/
theorem refiTick_fed {s : State} {m : Nat} (hslots : (s.chan m).slotWaits = 0) (hfeeds : s.feedsOutput m = true) :
    s.refiTick m = if s.debt m = 8 then s.forcedRefresh m else s.setDebt m (s.debt m + 1) := by
  have feeds_of {t : State} (h : t.grip = s.grip) : t.feedsOutput m = true := by rw [feedsOutput, h]; exact hfeeds
  unfold refiTick
  extract_lets s₁ s₂
  have slots : (s₁.chan m).slotWaits = 0 := by
    simp only [s₁]
    split
    · simp [hslots]
    · exact hslots
  have grip : s₁.grip = s.grip := by
    simp only [s₁]
    split
    · exact logEvent_grip ..
    · rfl
  have idle : s₂ = s₁ := if_neg (by omega)
  rw [idle, if_pos (feeds_of grip)]
  rfl

theorem execRefiTick_ticks {s : State} {m : Fin 8} (hactive : s.chanActive m.val = true) (hnative : s.native = true) :
    execRefiTick m s = .next (s.refiTick m.val) := by simp [execRefiTick, hactive, hnative]

/-- Outside NATIVE mode a tREFI does nothing (log entry 31). -/
theorem execRefiTick_compatibility {s : State} (hmode : s.native = false) (m : Fin 8) : execRefiTick m s = .next s := by simp [execRefiTick, hmode]

theorem forcedRefresh_counts (s : State) (m : Nat) :
    (s.forcedRefresh m).rd Obj.MEM_FORCED_REFRESH = wrapAdd 32 (s.rd Obj.MEM_FORCED_REFRESH) 1 := by
  have other : Obj.MEM_FORCED_REFRESH ≠ Obj.TRAIN_RD m := by
    simp only [Obj.MEM_FORCED_REFRESH, Obj.TRAIN_RD]
    omega
  rw [forcedRefresh, rd_logEvent _ _ _ _ _ (by decide), rd_count, if_pos rfl, rd_applyRecentre _ other]

theorem forcedRefresh_writes (s : State) (m : Nat) : Writes [Obj.TRAIN_RD m, Obj.MEM_FORCED_REFRESH, Obj.LOG_LOST] s (s.forcedRefresh m) :=
  ((applyRecentre_writes (by simp) s).trans (.count (by simp) _)).trans (.logEvent (by simp) ..)

theorem debt_forcedRefresh (s : State) {m : Nat} (hm : m < 8) : (s.forcedRefresh m).debt m = s.debt m := by
  have other : Obj.MC_REFRESH_DEBT m ∉ [Obj.TRAIN_RD m, Obj.MEM_FORCED_REFRESH, Obj.LOG_LOST] := by
    simp only [List.mem_cons, List.not_mem_nil, or_false, not_or, Obj.MC_REFRESH_DEBT, Obj.TRAIN_RD, Obj.MEM_FORCED_REFRESH, Obj.LOG_LOST]
    omega
  exact debt_congr ((forcedRefresh_writes s m).obj _ other)

/-! ## Blanking (R357) -/

theorem execHorizontalBlankingStart_refreshes {s : State} {k : Fin 12} {b : DramHold} (hfed : (s.backing k.val).dram = some b)
    (hactive : s.chanActive b.channel = true) (hnative : s.native = true) (vertical : Bool) (ns : Nat) :
    execHorizontalBlankingStart k vertical ns s = .next (if vertical then s.refreshWhile b.channel (-8) 16
      else s.refreshWhile b.channel 0 (Nat.min 8 (fitting (s.stallNs b.channel) ns))) := by
  unfold execHorizontalBlankingStart
  rw [hfed]
  cases vertical <;> simp [hactive, hnative]

/-! ## Per-bank refresh (R359, R366) -/

/-- The turn of a per-bank refresh that an all-bank refresh with a delay change stands for. -/
def replacedRefresh (s : State) (m : Nat) : State :=
  (if (s.chan m).replaced = 8 then s.applyRecentre m else s).modChan m fun c => { c with replaced := c.replaced - 1 }

theorem execPerBankRefresh_pairs {s : State} {m : Fin 8} (hactive : s.chanActive m.val = true) (hmode : s.native = false)
    (hnone : (s.chan m.val).replaced = 0) :
    execPerBankRefresh m s = .next (s.modChan m.val fun c => { c with pairNext := (c.pairNext + 1) % 8 }) := by
  simp [execPerBankRefresh, hactive, hmode, hnone]

theorem execPerBankRefresh_replaced {s : State} {m : Fin 8} (hactive : s.chanActive m.val = true) (hmode : s.native = false)
    (hsome : 0 < (s.chan m.val).replaced) : execPerBankRefresh m s = .next (s.replacedRefresh m.val) := by
  simp [execPerBankRefresh, hactive, hmode, hsome, replacedRefresh]

/-- The first of eight carries the delay changes; each is one fewer to come. -/
theorem chan_replacedRefresh (s : State) (m : Nat) : ((s.replacedRefresh m).chan m).replaced = (s.chan m).replaced - 1 ∧
    ((s.chan m).replaced = 8 → ((s.replacedRefresh m).chan m).recentre = []) := by
  unfold replacedRefresh
  split
  next => simp
  next h => simp [h]

theorem replacedRefresh_writes (s : State) (m : Nat) : Writes [Obj.TRAIN_RD m] s (s.replacedRefresh m) := by
  unfold replacedRefresh
  split
  · exact (applyRecentre_writes (by simp) s).trans (.modChan ..)
  · exact .modChan ..

/-! ## Polls of mode register 4 (R359, R360, R367) -/

/-- What a poll reads of the ranks of a channel when no injection point answers for one. -/
def pollReads (s : State) (m : Nat) (mr4 : List Nat) : List (Nat × Nat × Bool) :=
  ([2 * m, 2 * m + 1].filter s.polled).map fun r => (r, mr4.getD (r % 2) 0, false)

/-- Does a rank of a channel ask for a higher rate than the interval in force? -/
def pollAsks (s : State) (m : Nat) (mr4 : List Nat) : Bool :=
  (List.range 2).any fun r => s.polled (2 * m + r) && asksMore (mr4.getD r 0) (s.refiNow m)

theorem any_pollReads (s : State) (m : Nat) (mr4 : List Nat) :
    (s.pollReads m mr4).any (fun x => asksMore x.2.1 (s.refiNow m)) = s.pollAsks m mr4 := by
  have even : 2 * m % 2 = 0 := by omega
  have odd : (2 * m + 1) % 2 = 1 := by omega
  rw [pollReads, pollAsks, List.any_map, List.any_filter]
  simp [List.range_succ, even, odd]

/-- The mode registers of a rank read back as written, with no injection. -/
theorem readBack_same {s : State} (hinj : s.rd Obj.INJ_ENABLE ≠ 1) (r : Nat) : s.readBack r false = s := by
  simp [readBack, inject_off s 2 r (.inr hinj)]

/-- The ranks of a channel whose interval is not halved ask for more: it is halved, and the ranks that ask are recorded. -/
theorem pollRate_apart {s : State} {m : Nat} (hfull : (s.chan m).halved = false) (reads : List (Nat × Nat × Bool)) :
    (s.pollRate m reads).apart =
      (s.modChan m fun c => { c with halved := reads.any fun x => asksMore x.2.1 (s.refiNow m), calmReads := 0 }).apart := by
  unfold pollRate
  extract_lets more calm c s₁
  have asked : (!c.halved && !more.isEmpty) = reads.any fun x => asksMore x.2.1 (s.refiNow m) := by
    rw [Bool.eq_iff_iff, List.any_eq_true]
    simp only [c, hfull, Bool.not_false, Bool.true_and, Bool.not_eq_true', List.isEmpty_eq_false_iff_exists_mem, more, List.mem_filter]
  rw [asked]
  split
  next asks =>
    rw [asks]
    split
    · exact apart_each _ _ _ fun t x => apart_logInjected ..
    · rfl
  next calm =>
    rw [if_neg (by simp [c, hfull]), Bool.eq_false_of_not_eq_true calm]
    exact congrArg apart (modChan_congr (by rw [hfull]))

theorem pollRate_writes (s : State) (m : Nat) (reads : List (Nat × Nat × Bool)) : Writes [Obj.LOG_LOST] s (s.pollRate m reads) := by
  have halves (f : MemChan → MemChan) (more : List (Nat × Nat × Bool)) : Writes [Obj.LOG_LOST] s ((s.modChan m f).each more fun s x =>
      s.logInjected Ev.dramOvertemp noOwner x.2.2 [d8 m, d8 x.1, d8 x.2.1]) :=
    (Writes.modChan s m f).trans (Passes.each _ _ _ fun t x _ => Writes.logInjected (by simp) t ..)
  unfold pollRate
  extract_lets more calm c s₁
  split
  · split
    · exact halves _ more
    · exact .modChan ..
  · split
    · split <;> exact .modChan ..
    · exact .modChan ..

/-- The interval of a channel, not halved before, after a poll of its ranks; no other channel moves. -/
theorem pollRate_interval {s : State} {m : Nat} (hfull : (s.chan m).halved = false) (mr4 : List Nat) :
    ((s.pollRate m (s.pollReads m mr4)).chan m).halved = s.pollAsks m mr4 ∧
      (s.pollRate m (s.pollReads m mr4)).refiNow m = (if s.pollAsks m mr4 then s.baseRefi / 2 else s.baseRefi) ∧
      ∀ n, n ≠ m → (s.pollRate m (s.pollReads m mr4)).chan n = s.chan n := by
  have polled := pollRate_apart hfull (s.pollReads m mr4)
  rw [any_pollReads] at polled
  have chans (n : Nat) := chan_congr (ext_dram polled) n
  have base : (s.pollRate m (s.pollReads m mr4)).baseRefi = s.baseRefi := by
    rw [baseRefi, baseRefi, native, native, ext_memConf polled]
    rfl
  refine ⟨by rw [chans, chan_modChan_same], ?_, fun n hn => by rw [chans, chan_modChan_other _ hn]⟩
  rw [refiNow, base, chans, chan_modChan_same]

/-- One rank of a poll: what an injection point answers for it, or its mode register 4. -/
def pollRead (mr4 : List Nat) (acc : List (Nat × Nat × Bool) × State) (r : Nat) : List (Nat × Nat × Bool) × State :=
  match acc.2.inject 3 r with
  | (some p, s) => (acc.1 ++ [(r, p, true)], s)
  | (none, s) => (acc.1 ++ [(r, mr4.getD (r % 2) 0, false)], s)

theorem foldl_pollRead {s : State} (hinj : s.rd Obj.INJ_ENABLE ≠ 1) (mr4 l : List Nat) (acc : List (Nat × Nat × Bool)) :
    l.foldl (pollRead mr4) (acc, s) = (acc ++ l.map fun r => (r, mr4.getD (r % 2) 0, false), s) := by
  induction l generalizing acc with
  | nil => simp
  | cons r l ih =>
    have read : pollRead mr4 (acc, s) r = (acc ++ [(r, mr4.getD (r % 2) 0, false)], s) := by
      simp [pollRead, inject_off s 3 r (.inr hinj)]
    rw [List.foldl_cons, read, ih]
    simp

theorem copiedTo_idle {s : State} (h : s.rd Obj.MEM_SPARE_STATE ≠ 2) (copied : Nat) : s.copiedTo copied = s := if_neg h

/-- A poll with no injection, no spare's copy and no difference read back moves the channel's interval only. -/
theorem execMr4Poll_reads {s : State} {m : Fin 8} (hactive : s.chanActive m.val = true) (hinj : s.rd Obj.INJ_ENABLE ≠ 1)
    (hspare : s.rd Obj.MEM_SPARE_STATE ≠ 2) (mr4 : List Nat) :
    execMr4Poll m mr4 [false, false] 0 s = .next (s.pollRate m.val (s.pollReads m.val mr4)) := by
  have read : ([2 * m.val, 2 * m.val + 1].filter s.polled).foldl (pollRead mr4) ([], s) = (s.pollReads m.val mr4, s) :=
    (foldl_pollRead hinj mr4 _ []).trans (by rw [List.nil_append, pollReads])
  have still : (s.pollRate m.val (s.pollReads m.val mr4)).rd Obj.INJ_ENABLE ≠ 1 := by
    rwa [(pollRate_writes ..).obj _ (by decide)]
  have same (t : State) (ht : t.rd Obj.INJ_ENABLE ≠ 1) (r : Nat) : t.readBack r ([false, false].getD (r % 2) false) = t := by
    rcases Nat.mod_two_eq_zero_or_one r with h | h <;> rw [h] <;> exact readBack_same ht r
  refine (if_neg (by simp [hactive])).trans ?_
  rw [copiedTo_idle hspare]
  refine (congrArg (fun p : List (Nat × Nat × Bool) × State => (Host.Outcome.next ((p.2.pollRate m.val p.1).each _ _) : Out)) read).trans ?_
  exact congrArg Host.Outcome.next (each_idle _ _ _ (same _ still))

/-! ## Sweeps (R364, R365) -/

theorem execMarginSweep_sweeps {s : State} {m : Fin 8} (hactive : s.chanActive m.val = true) (hidle : (s.chan m.val).sweep = none) {e : Nat}
    (hnext : s.nextSweep m.val = some e) :
    execMarginSweep m s = .next (s.modChan m.val fun c => { c with sweep := some (e / 4, e % 4), sweepNext := (e + 1) % 8 }) := by
  simp [execMarginSweep, hactive, hidle, hnext]

theorem execMarginSweep_busy {s : State} {m : Fin 8} {e : Nat × Nat} (h : (s.chan m.val).sweep = some e) : execMarginSweep m s = .next s := by
  simp [execMarginSweep, h]

/-- The channel's sweep has ended. -/
def swept (s : State) (m : Nat) : State := s.modChan m fun c => { c with sweep := none }

/-- The entry of a lane in MARGIN_REPORT after a sweep (R365). -/
def reported (s : State) (m r lane : Nat) (res : SweepResult) (recentred : Bool) : State :=
  s.wr (Obj.MARGIN_REPORT m) (setBytes (s.rd (Obj.MARGIN_REPORT m)) (8 * (4 * r + lane)) 8
    (marginEntry (bytesAt (s.rd (Obj.MARGIN_REPORT m)) (8 * (4 * r + lane)) 8) res recentred))

theorem bytesAt_reported (s : State) (m r lane : Nat) (res : SweepResult) (recentred : Bool) :
    bytesAt ((s.reported m r lane res recentred).rd (Obj.MARGIN_REPORT m)) (8 * (4 * r + lane)) 8 =
      marginEntry (bytesAt (s.rd (Obj.MARGIN_REPORT m)) (8 * (4 * r + lane)) 8) res recentred := by
  rw [reported, rd_wr_same, bytesAt_setBytes _ _ (marginEntry_lt ..)]

/-- How far a lane is off its centre, in steps to the right (R366). -/
def offCentre (res : SweepResult) : Int := (Nat.min 64 res.right : Int) - (Nat.min 64 res.left : Int)

/-- A margin below the limit is recorded (R366). -/
def marginJudged (s : State) (m r lane : Nat) (res : SweepResult) : State :=
  if Nat.min (Nat.min 64 res.left) (Nat.min 64 res.right) < s.rd Obj.MEM_MARGIN_LOW then
    s.logInjected Ev.marginLow noOwner false [d8 m, d8 (2 * m + r), d8 lane, d8 (Nat.min 64 res.left), d8 (Nat.min 64 res.right)]
  else s

/-- A re-centre that waits for the next all-bank stall, counted and recorded (R366). -/
def recentreAsked (s : State) (m r lane : Nat) (shift : Int) : State :=
  ((s.modChan m fun c => { c with recentre := c.recentre ++ [(r, lane, shift)], replaced := if s.native then c.replaced else 8 }).count
    (Obj.TRAIN_RECENTRES m)).logInjected Ev.recentre noOwner false [d8 m, d8 (2 * m + r), d8 lane, d8 (ofSigned 8 shift)]

theorem reported_eq (s : State) (m r lane : Nat) (res : SweepResult) (recentred : Bool) :
    (s.wr (Obj.MARGIN_REPORT m) (setBytes (s.rd (Obj.MARGIN_REPORT m)) (8 * (r * 4 + lane)) 8
      (marginEntry (bytesAt (s.rd (Obj.MARGIN_REPORT m)) (8 * (r * 4 + lane)) 8) res recentred))) = s.reported m r lane res recentred := by
  rw [reported, Nat.mul_comm 4 r]

/-- What a sweep that is not stale leads to: a lane at least the threshold off its centre is re-centred, where that is enabled (R366). -/
theorem afterSweep_eq (s : State) (m r lane : Nat) (res : SweepResult) : s.afterSweep m r lane res false =
    if s.rd Obj.MEM_RECENTRE_EN = 1 ∧ s.rd Obj.MEM_RECENTRE_THRESHOLD ≤ (offCentre res).natAbs then
      ((s.reported m r lane res true).recentreAsked m r lane ((offCentre res).tdiv 2)).marginJudged m r lane res
    else (s.reported m r lane res false).marginJudged m r lane res := by
  unfold afterSweep
  extract_lets left right diff centre i report s₁ shift sAsked s₂
  have asked : centre ↔ s.rd Obj.MEM_RECENTRE_EN = 1 ∧ s.rd Obj.MEM_RECENTRE_THRESHOLD ≤ (offCentre res).natAbs :=
    and_congr_right fun _ => and_iff_left rfl
  have wrote : s₁ = s.reported m r lane res (decide centre) := reported_eq ..
  by_cases off : s.rd Obj.MEM_RECENTRE_EN = 1 ∧ s.rd Obj.MEM_RECENTRE_THRESHOLD ≤ (offCentre res).natAbs
  · rw [if_pos off]
    have entry : s₁ = s.reported m r lane res true := wrote.trans (by rw [decide_eq_true (asked.2 off)])
    have second : s₂ = s₁.recentreAsked m r lane ((offCentre res).tdiv 2) := if_pos (asked.2 off)
    rw [← entry, ← second]
    rfl
  · rw [if_neg off]
    have entry : s₁ = s.reported m r lane res false := wrote.trans (by rw [decide_eq_false (mt asked.1 off)])
    have second : s₂ = s₁ := if_neg (mt asked.1 off)
    rw [← entry, second]
    rfl

/-- A sweep ends, with no injection: its result is reported, and acted on unless it is stale or Gaffer restarts. -/
theorem execSweepDone_ends {s : State} {m : Fin 8} {r lane : Nat} (hsweep : (s.chan m.val).sweep = some (r, lane)) (hinj : s.rd Obj.INJ_ENABLE ≠ 1)
    (res : SweepResult) : execSweepDone m res s = .next (if res.stale || s.gafferDown then (s.swept m.val).reported m.val r lane res false
      else (s.swept m.val).afterSweep m.val r lane res false) := by
  have idle : (s.swept m.val).inject 4 (m.val + 256 * lane) = (none, s.swept m.val) := inject_off _ _ _ (.inr hinj)
  have down : (s.swept m.val).gafferDown = s.gafferDown := rfl
  unfold execSweepDone
  rw [hsweep]
  dsimp only
  rw [← swept, idle, ← down]
  dsimp only
  rw [← reported_eq]
  split <;> rfl

theorem swept_writes {os : List Nat} (s : State) (m : Nat) : Writes os s (s.swept m) := .modChan ..

theorem reported_writes {os : List Nat} {m : Nat} (h : Obj.MARGIN_REPORT m ∈ os) (s : State) (r lane : Nat) (res : SweepResult) (recentred : Bool) :
    Writes os s (s.reported m r lane res recentred) := .wr h ..

theorem recentreAsked_writes {os : List Nat} {m : Nat} (hcount : Obj.TRAIN_RECENTRES m ∈ os) (hlost : Obj.LOG_LOST ∈ os) (s : State) (r lane : Nat)
    (shift : Int) : Writes os s (s.recentreAsked m r lane shift) :=
  ((Writes.modChan ..).trans (.count hcount _)).trans (.logInjected hlost ..)

theorem marginJudged_writes {os : List Nat} (hlost : Obj.LOG_LOST ∈ os) (s : State) (m r lane : Nat) (res : SweepResult) :
    Writes os s (s.marginJudged m r lane res) := by
  unfold marginJudged
  split
  · exact .logInjected hlost ..
  · exact .refl s

theorem log_reported (s : State) (m r lane : Nat) (res : SweepResult) (recentred : Bool) : ((s.swept m).reported m r lane res recentred).log = s.log :=
  wr_log ..

theorem rd_reported_marginLow (s : State) (m r lane : Nat) (res : SweepResult) (recentred : Bool) :
    (s.reported m r lane res recentred).rd Obj.MEM_MARGIN_LOW = s.rd Obj.MEM_MARGIN_LOW := rd_wr_other _ _ _ _ (marginReport_ne m).2.1.symm

theorem rd_swept (s : State) (m a : Nat) : (s.swept m).rd a = s.rd a := rd_modChan ..

@[simp] theorem chan_swept (s : State) (m : Nat) : (s.swept m).chan m = { s.chan m with sweep := none } := chan_modChan_same ..

@[simp] theorem chan_reported (s : State) (m r lane : Nat) (res : SweepResult) (recentred : Bool) (n : Nat) :
    (s.reported m r lane res recentred).chan n = s.chan n := chan_wr ..

@[simp] theorem chan_recentreAsked (s : State) (m r lane : Nat) (shift : Int) : (s.recentreAsked m r lane shift).chan m =
    { s.chan m with recentre := (s.chan m).recentre ++ [(r, lane, shift)], replaced := if s.native then (s.chan m).replaced else 8 } := by
  simp [recentreAsked]

@[simp] theorem chan_marginJudged (s : State) (m r lane : Nat) (res : SweepResult) (n : Nat) : (s.marginJudged m r lane res).chan n = s.chan n := by
  unfold marginJudged
  split <;> simp

theorem rd_marginJudged {a : Nat} (ha : a ≠ Obj.LOG_LOST) (s : State) (m r lane : Nat) (res : SweepResult) :
    (s.marginJudged m r lane res).rd a = s.rd a :=
  (marginJudged_writes (List.mem_singleton_self _) ..).obj a (by simpa using ha)

theorem rd_recentreAsked_report (s : State) (m r lane : Nat) (shift : Int) :
    (s.recentreAsked m r lane shift).rd (Obj.MARGIN_REPORT m) = s.rd (Obj.MARGIN_REPORT m) := by
  obtain ⟨notLost, -, notCount⟩ := marginReport_ne m
  exact (recentreAsked_writes (os := [Obj.TRAIN_RECENTRES m, Obj.LOG_LOST]) (by simp) (by simp) ..).obj _ (by simp [notLost, notCount])

theorem rd_recentreAsked_count (s : State) {m : Nat} (hm : m < 8) (r lane : Nat) (shift : Int) :
    (s.recentreAsked m r lane shift).rd (Obj.TRAIN_RECENTRES m) = wrapAdd 32 (s.rd (Obj.TRAIN_RECENTRES m)) 1 := by
  rw [recentreAsked, rd_logInjected _ _ _ _ _ _ (trainRecentres_ne_logLost hm), rd_count, if_pos rfl, rd_modChan]

theorem told_marginJudged {s : State} {res : SweepResult} (hlow : Nat.min (Nat.min 64 res.left) (Nat.min 64 res.right) < s.rd Obj.MEM_MARGIN_LOW)
    (hroom : s.log.fifo.length < 256) (m r lane : Nat) : (s.marginJudged m r lane res).told Ev.marginLow noOwner
      [d8 m, d8 (2 * m + r), d8 lane, d8 (Nat.min 64 res.left), d8 (Nat.min 64 res.right)] = true := by
  rw [marginJudged, if_pos hlow]
  exact told_logInjected _ _ _ _ _ hroom

end State

open State

/-! ## The statement -/

/-- Settles O38, by what each command leaves of the debt and of its channel, and the objects that it writes. -/
theorem refreshAndMargins : Obligations.RefreshAndMargins := by
  unfold Obligations.RefreshAndMargins
  refine ⟨⟨fun s m hactive hnative hslots hfeeds => ⟨fun hbelow habove => ?_, fun hfull => ?_⟩, fun s m hmode => execRefiTick_compatibility hmode m,
    fun s k ns b hfed hactive hnative hb hlo hhi => ⟨?_, ?_⟩, fun s m hactive hmode => ⟨fun hnone => ?_, fun hsome => ?_⟩,
    fun s m mr4 hactive hinj hspare hfull => ?_⟩, fun s m e hactive hidle hnext => ?_, fun s m e hbusy => execMarginSweep_busy hbusy,
    fun s m res r lane hsweep hinj => ⟨fun hstale => ?_, fun hfresh hup hcentred => ?_, fun hfresh hup hon hoff => ?_⟩⟩
  · have run := (execRefiTick_ticks hactive hnative).trans (congrArg Host.Outcome.next (refiTick_fed hslots hfeeds))
    rw [if_neg hbelow.ne] at run
    exact ⟨_, run, debt_setDebt _ _ (by omega) (by omega), State.objectsBut_wr s _ _, rfl⟩
  · have run := (execRefiTick_ticks hactive hnative).trans (congrArg Host.Outcome.next (refiTick_fed hslots hfeeds))
    rw [if_pos hfull] at run
    exact ⟨_, run, (debt_forcedRefresh s m.isLt).trans hfull, forcedRefresh_counts .., fun hroom => told_logEvent _ _ _ _ hroom,
      (forcedRefresh_writes ..).frame.2⟩
  · refine ⟨_, execHorizontalBlankingStart_refreshes hfed hactive hnative false ns, ?_, (refreshWhile_writes ..).frame⟩
    exact (debt_refreshWhile (by omega) hlo hhi _).trans (by rw [Int.sub_zero])
  · refine ⟨_, execHorizontalBlankingStart_refreshes hfed hactive hnative true ns, ?_, (refreshWhile_writes ..).frame⟩
    exact (debt_refreshWhile (by omega) (by omega) hhi _).trans (by omega)
  · exact ⟨_, execPerBankRefresh_pairs hactive hmode hnone, chan_modChan_same .., fun n hn => chan_modChan_other _ hn _, (Writes.modChan ..).frame⟩
  · obtain ⟨fewer, carried⟩ := chan_replacedRefresh s m.val
    exact ⟨_, execPerBankRefresh_replaced hactive hmode hsome, fewer, carried, (replacedRefresh_writes ..).frame⟩
  · obtain ⟨halved, interval, others⟩ := pollRate_interval hfull mr4
    exact ⟨_, execMr4Poll_reads hactive hinj hspare mr4, halved, interval, others, (pollRate_writes ..).frame⟩
  · exact ⟨_, execMarginSweep_sweeps hactive hidle hnext, chan_modChan_same .., fun n hn => chan_modChan_other _ hn _, rfl⟩
  · have run := execSweepDone_ends hsweep hinj res
    rw [if_pos (by simp [hstale])] at run
    exact ⟨_, run, bytesAt_reported .., by simp, by simp, ((swept_writes ..).trans (reported_writes (by simp) ..)).frame⟩
  · have notLost := (marginReport_ne m.val).1
    have run := execSweepDone_ends hsweep hinj res
    have centred : ¬(s.rd Obj.MEM_RECENTRE_EN = 1 ∧ s.rd Obj.MEM_RECENTRE_THRESHOLD ≤ (offCentre res).natAbs) := fun off =>
      hcentred.elim (· off.1) (Nat.not_lt.2 off.2)
    rw [if_neg (by simp [hfresh, hup]), afterSweep_eq, rd_swept, rd_swept, if_neg centred] at run
    refine ⟨_, run, ?_, by simp, by simp, fun hlow hroom => ?_, ?_⟩
    · rw [rd_marginJudged notLost]
      exact bytesAt_reported ..
    · exact told_marginJudged (by rwa [rd_reported_marginLow, rd_swept]) (by rwa [log_reported]) ..
    · exact (((swept_writes ..).trans (reported_writes (by simp) ..)).trans (marginJudged_writes (by simp) ..)).frame
  · obtain ⟨notLost, -, notCount⟩ := marginReport_ne m.val
    have run := execSweepDone_ends hsweep hinj res
    rw [if_neg (by simp [hfresh, hup]), afterSweep_eq, rd_swept, rd_swept, if_pos ⟨hon, hoff⟩] at run
    refine ⟨_, run, ?_, by simp, by simp [offCentre], ?_, ?_⟩
    · rw [rd_marginJudged notLost, rd_recentreAsked_report]
      exact bytesAt_reported ..
    · rw [rd_marginJudged (trainRecentres_ne_logLost m.isLt), rd_recentreAsked_count _ m.isLt]
      exact congrArg (wrapAdd 32 · 1) (rd_wr_other _ _ _ _ notCount.symm)
    · exact ((((swept_writes ..).trans (reported_writes (by simp) ..)).trans (recentreAsked_writes (by simp) (by simp) ..)).trans
        (marginJudged_writes (by simp) ..)).frame

end Sys2Proof.Machine
end

section
/-!
SUPPORT. O39: corrected errors and their summary (R368), uncorrectable errors and poisoned lines (R369, R371), and the spare's migration
(R374). One rule for each operation, and no operation writes a byte.
-/
namespace Sys2Proof.Machine
open Sys2Proof

namespace State

/-! ## Objects of the ranks -/

theorem rankState_injective {q r : Nat} (h : q ≠ r) : Obj.RANK_STATE q ≠ Obj.RANK_STATE r := by
  simp only [Obj.RANK_STATE]
  omega

/-- No object of the errors' counts, nor LOG_LOST, is a rank's state, whatever the rank's number. -/
theorem rankState_ne_counts (r : Nat) : Obj.RANK_STATE r ≠ Obj.MEM_CE_COUNT ∧ Obj.RANK_STATE r ≠ Obj.MEM_UE_COUNT ∧
    Obj.RANK_STATE r ≠ Obj.MEM_POISONED_LINES ∧ Obj.RANK_STATE r ≠ Obj.LOG_LOST := by
  simp only [Obj.RANK_STATE, Obj.MEM_CE_COUNT, Obj.MEM_UE_COUNT, Obj.MEM_POISONED_LINES, Obj.LOG_LOST]
  omega

theorem rankState_ne_spare {r : Nat} (hr : r < 16) : Obj.RANK_STATE r ≠ Obj.MEM_SPARE_STATE ∧ Obj.RANK_STATE r ≠ Obj.MEM_SPARE_COPY_PTR ∧
    Obj.RANK_STATE r ≠ Obj.MEM_SPARE_SOURCE ∧ Obj.RANK_STATE r ≠ Obj.MEM_RETIRED_RANKS := by
  simp only [Obj.RANK_STATE, Obj.MEM_SPARE_STATE, Obj.MEM_SPARE_COPY_PTR, Obj.MEM_SPARE_SOURCE, Obj.MEM_RETIRED_RANKS]
  omega

/-! ## A rank that fails (R372 to R374) -/

/-- A rank that a copy fills is not failed by a data error. -/
theorem rankFails_filled {s : State} {r : Nat} (h : s.rd (Obj.RANK_STATE r) = 7) (addr : Nat) (injected acts : Bool) :
    s.rankFails r 0 addr injected acts = s := by
  simp [rankFails, h]

/-- An ACTIVE rank that fails while the spare is ready: RANK_UE, and the spare's migration begins. -/
theorem rankFails_spared {s : State} {r : Nat} (hactive : s.rd (Obj.RANK_STATE r) = 1) (hready : s.rd Obj.MEM_SPARE_STATE = 1) (addr : Nat)
    (injected : Bool) : s.rankFails r 0 addr injected true =
      (s.logInjected Ev.rankUe noOwner injected [d8 r, dCase Ev.rankUe 0, d64 addr]).startSpare r := by
  have ready : (s.logInjected Ev.rankUe noOwner injected [d8 r, dCase Ev.rankUe 0, d64 addr]).rd Obj.MEM_SPARE_STATE = 1 := by
    rw [rd_logInjected _ _ _ _ _ _ (by decide), hready]
  simp [rankFails, hactive, ready]

/-- The objects as a spare's migration begins. -/
theorem rd_startSpare (s : State) (r : Nat) {a : Nat} (ha : a ≠ Obj.LOG_LOST) : (s.startSpare r).rd a =
    if a = Obj.MEM_SPARE_SOURCE then r else if a = Obj.MEM_SPARE_COPY_PTR then 0 else if a = Obj.MEM_SPARE_STATE then 2
    else if a = Obj.RANK_STATE s.memConf.spare then 7 else if a = Obj.RANK_STATE r then 3 else s.rd a := by
  unfold startSpare
  extract_lets sp s₁ s₂
  have logged := rd_logEvent (s₂.modDram fun d => { d with copyPoisoned := 0 }) Ev.spareStart noOwner [d8 r, d8 sp] a ha
  have written : (s₂.modDram fun d => { d with copyPoisoned := 0 }).rd a = s₂.rd a := rfl
  simp only [logged, written, s₂, s₁, rd_wr]
  rfl

/-- The failed rank is read, the spare filled from its start (R374, step 1). -/
theorem startSpare_begins {s : State} {r : Nat} (hr : r < 16) (hspare : s.memConf.spare < 16) (hother : s.memConf.spare ≠ r) :
    (s.startSpare r).rd (Obj.RANK_STATE r) = 3 ∧ (s.startSpare r).rd (Obj.RANK_STATE s.memConf.spare) = 7 ∧
      (s.startSpare r).rd Obj.MEM_SPARE_STATE = 2 ∧ (s.startSpare r).rd Obj.MEM_SPARE_SOURCE = r ∧ (s.startSpare r).rd Obj.MEM_SPARE_COPY_PTR = 0 := by
  obtain ⟨failedState, failedPtr, failedSource, -⟩ := rankState_ne_spare hr
  obtain ⟨spareState, sparePtr, spareSource, -⟩ := rankState_ne_spare hspare
  have notLost (r : Nat) := (rankState_ne_counts r).2.2.2
  refine ⟨?_, ?_, ?_, ?_, ?_⟩
  · rw [rd_startSpare _ _ (notLost _), if_neg failedSource, if_neg failedPtr, if_neg failedState, if_neg (rankState_injective hother.symm), if_pos rfl]
  · rw [rd_startSpare _ _ (notLost _), if_neg spareSource, if_neg sparePtr, if_neg spareState, if_pos rfl]
  · rw [rd_startSpare _ _ (by decide), if_neg (by decide), if_neg (by decide), if_pos rfl]
  · rw [rd_startSpare _ _ (by decide), if_pos rfl]
  · rw [rd_startSpare _ _ (by decide), if_neg (by decide), if_pos rfl]

theorem startSpare_writes (s : State) (r : Nat) : Writes [Obj.RANK_STATE r, Obj.RANK_STATE s.memConf.spare, Obj.MEM_SPARE_STATE,
    Obj.MEM_SPARE_COPY_PTR, Obj.MEM_SPARE_SOURCE, Obj.LOG_LOST] s (s.startSpare r) := by
  unfold startSpare
  exact ((((((Writes.wr (by simp) s _).trans (.wr (by simp) _ _)).trans (.wr (by simp) _ _)).trans (.wr (by simp) _ _)).trans
    (.wr (by simp) _ _)).trans (.modDram ..)).trans (.logEvent (by simp) ..)

/-! ## Corrected errors (R368) -/

/-- The corrected errors of a rank. -/
def rankErrors (s : State) (r : Nat) : RankErrors := Tab.get {} s.dram.ranks r

/-- A corrected error of a rank, counted for the part, for the last 24 h and for the minute. -/
def ceCounted (s : State) (r : Nat) : State :=
  (s.count Obj.MEM_CE_COUNT).modDram fun d =>
    { d with ranks := Tab.set d.ranks r { times := s.ce24 r ++ [s.dtime], minute := (Tab.get {} d.ranks r).minute + 1 } }

theorem execCorrectedError_counts {s : State} {r : Fin 16} (hecc : bit s.memConf.ecc r.val = true) (hpolled : s.polled r.val = true) :
    execCorrectedError r true s = .next (if s.rd Obj.MEM_CE_RETIRE_LIMIT ≠ 0 ∧ s.rd Obj.MEM_CE_RETIRE_LIMIT < (s.ce24 r.val).length + 1 then
      (s.ceCounted r.val).rankFails r.val 0 0 false true else s.ceCounted r.val) := by
  have limit : (s.ceCounted r.val).rd Obj.MEM_CE_RETIRE_LIMIT = s.rd Obj.MEM_CE_RETIRE_LIMIT := rd_wr_other _ _ _ _ (by decide)
  have length : (s.ce24 r.val ++ [s.dtime]).length = (s.ce24 r.val).length + 1 := List.length_append
  rw [← limit, ← length]
  refine (if_neg (by simp [hecc, hpolled])).trans ?_
  exact (apply_ite Host.Outcome.next _ _ _).symm

theorem rankErrors_ceCounted (s : State) (r : Nat) :
    (s.ceCounted r).rankErrors r = { times := s.ce24 r ++ [s.dtime], minute := (s.rankErrors r).minute + 1 } := Tab.get_set_same ..

theorem rd_ceCounted (s : State) (r : Nat) {a : Nat} (ha : a ≠ Obj.MEM_CE_COUNT) : (s.ceCounted r).rd a = s.rd a := rd_wr_other _ _ _ _ ha

theorem rd_ceCounted_count (s : State) (r : Nat) : (s.ceCounted r).rd Obj.MEM_CE_COUNT = wrapAdd 32 (s.rd Obj.MEM_CE_COUNT) 1 := rd_wr_same ..

theorem ceCounted_writes {os : List Nat} (h : Obj.MEM_CE_COUNT ∈ os) (s : State) (r : Nat) : Writes os s (s.ceCounted r) :=
  (Writes.count h s).trans (.modDram ..)

/-- The record of a rank that exceeds the limit of corrected errors: a RANK_UE without an address (log entries 30 and 38). -/
def ceFailing (s : State) (r : Nat) : State := (s.ceCounted r).logInjected Ev.rankUe noOwner false [d8 r, dCase Ev.rankUe 0, d64 0]

theorem ceFailing_memConf (s : State) (r : Nat) : (s.ceFailing r).memConf = s.memConf := logInjected_memConf ..

theorem ceFailing_mem (s : State) (r : Nat) : (s.ceFailing r).mem = s.mem := logInjected_mem ..

theorem ceCounted_log (s : State) (r : Nat) : (s.ceCounted r).log = s.log := count_log s Obj.MEM_CE_COUNT

theorem told_ceFailing {s : State} (hroom : s.log.fifo.length < 256) (r : Nat) :
    (s.ceFailing r).told Ev.rankUe noOwner [d8 r, dCase Ev.rankUe 0, d64 0] = true :=
  told_logInjected _ _ _ _ _ (by rwa [ceCounted_log])

/-- An ACTIVE rank that exceeds the limit while the spare is ready: its migration to the spare begins. -/
theorem execCorrectedError_fails {s : State} {r : Fin 16} (hecc : bit s.memConf.ecc r.val = true) (hpolled : s.polled r.val = true)
    (hlimit : s.rd Obj.MEM_CE_RETIRE_LIMIT ≠ 0) (hbeyond : s.rd Obj.MEM_CE_RETIRE_LIMIT ≤ (s.ce24 r.val).length)
    (hactive : s.rd (Obj.RANK_STATE r.val) = 1) (hready : s.rd Obj.MEM_SPARE_STATE = 1) :
    execCorrectedError r true s = .next ((s.ceFailing r.val).startSpare r.val) := by
  have active : (s.ceCounted r.val).rd (Obj.RANK_STATE r.val) = 1 := (rd_ceCounted _ _ (rankState_ne_counts _).1).trans hactive
  have ready : (s.ceCounted r.val).rd Obj.MEM_SPARE_STATE = 1 := (rd_ceCounted _ _ (by decide)).trans hready
  rw [execCorrectedError_counts hecc hpolled, if_pos ⟨hlimit, by omega⟩, rankFails_spared active ready, ceFailing]

/-! ## The summary of a minute (R368) -/

/-- One rank of the summary: a minute with errors is recorded, and the count begins again. -/
def summarised (s : State) (r : Nat) : State :=
  if (s.rankErrors r).minute = 0 then s
  else (s.modDram fun d => { d with ranks := Tab.set d.ranks r { s.rankErrors r with minute := 0 } }).logEvent Ev.ceSummary noOwner
    [d8 r, d32 (s.rankErrors r).minute]

theorem execCeSummary_eq (s : State) : execCeSummary s = .next (s.each (List.range 16) summarised) := rfl

theorem rankErrors_congr {s t : State} (h : t.dram = s.dram) (r : Nat) : t.rankErrors r = s.rankErrors r := by rw [rankErrors, rankErrors, h]

theorem rankErrors_summarised (s : State) (r n : Nat) :
    (s.summarised r).rankErrors n = if n = r then { s.rankErrors n with minute := 0 } else s.rankErrors n := by
  unfold summarised
  split
  next none =>
    split
    next h =>
      rw [h]
      exact congrArg (RankErrors.mk _) none
    · rfl
  · rw [rankErrors_congr (logEvent_dram ..), rankErrors, modDram, Tab.get_set]
    split
    next h => rw [h]
    · rfl

theorem summarised_writes (s : State) (r : Nat) : Writes [Obj.LOG_LOST] s (s.summarised r) := by
  unfold summarised
  split
  · exact .refl s
  · exact (Writes.modDram ..).trans (.logEvent (by simp) ..)

theorem told_summarised {s : State} {r : Nat} (hroom : s.log.fifo.length < 256) (h : (s.rankErrors r).minute ≠ 0) :
    (s.summarised r).told Ev.ceSummary noOwner [d8 r, d32 (s.rankErrors r).minute] = true := by
  rw [summarised, if_neg h]
  exact told_logEvent _ _ _ _ hroom

theorem rankErrors_summary (s : State) (l : List Nat) (n : Nat) :
    (s.each l summarised).rankErrors n = if n ∈ l then { s.rankErrors n with minute := 0 } else s.rankErrors n := by
  induction l generalizing s with
  | nil => rfl
  | cons r l ih =>
    rw [each, ih, rankErrors_summarised]
    by_cases h : n = r
    · simp [h]
    · simp [h]

theorem summary_writes (s : State) (l : List Nat) : Writes [Obj.LOG_LOST] s (s.each l summarised) :=
  Passes.each _ _ _ fun t r _ => summarised_writes t r

/-! A record adds to the FIFO at most itself and the one of a counter of Tally that wraps (R633, R649). -/

theorem fifo_length_logRaw (s : State) (code source : Nat) (i : Bool) (p : Spos) (time : Nat) (ds : List Detail) :
    (s.logRaw code source i p time ds).log.fifo.length ≤ s.log.fifo.length + 1 := by
  rcases s.logRaw_cases code source i p time ds with ⟨_, h⟩ | ⟨_, h⟩ <;> rw [h]
  · simp
  · exact Nat.le_succ _

theorem fifo_length_tallyCount (s : State) (g kind owner : Nat) : (s.tallyCount g kind owner).log.fifo.length ≤ s.log.fifo.length + 1 := by
  rcases s.tallyCount_cases g kind owner with h | ⟨t, h⟩ | ⟨t, o, d, h⟩ <;> rw [h]
  · exact Nat.le_succ _
  · exact Nat.le_succ _
  · exact fifo_length_logRaw ..

theorem fifo_length_logEvent (s : State) (code source : Nat) (ds : List Detail) :
    (s.logEvent code source ds).log.fifo.length ≤ s.log.fifo.length + 2 := by
  have raw := fifo_length_logRaw s code source false s.now s.dtime ds
  rw [logEvent, logAt]
  rcases tallyRecord_cases (s.logRaw code source false s.now s.dtime ds) code source with h | ⟨g, k, h⟩ <;> rw [h]
  · omega
  · exact (fifo_length_tallyCount ..).trans (Nat.succ_le_succ raw)

theorem fifo_length_summarised (s : State) (r : Nat) : (s.summarised r).log.fifo.length ≤ s.log.fifo.length + 2 := by
  unfold summarised
  split
  · exact Nat.le_add_right ..
  · exact fifo_length_logEvent ..

/-- Every rank with errors in the minute is recorded while the FIFO has room for all. -/
theorem told_summary {s : State} {l : List Nat} (hroom : s.log.fifo.length + 2 * l.length ≤ 256) {n : Nat} (hn : n ∈ l)
    (h : (s.rankErrors n).minute ≠ 0) : (s.each l summarised).told Ev.ceSummary noOwner [d8 n, d32 (s.rankErrors n).minute] = true := by
  induction l generalizing s with
  | nil => simp at hn
  | cons r l ih =>
    rw [List.length_cons] at hroom
    by_cases hr : n = r
    · subst hr
      exact told_of _ _ _ _ _ (told_summarised (by omega) h) (summary_writes _ l).fifo
    · have same : (s.summarised r).rankErrors n = s.rankErrors n := by rw [rankErrors_summarised, if_neg hr]
      have grown := fifo_length_summarised s r
      have later := ih (s := s.summarised r) (by omega) (List.mem_of_ne_of_mem hr hn) (by rwa [same])
      rwa [same] at later

/-! ## Uncorrectable errors (R367, R369, R371) -/

/-- The entry, the count and the record of a line that becomes poisoned. -/
def poisonEntered (s : State) (m a rank : Nat) : State :=
  let o := s.ownerAt m a
  let copying := decide (s.rd Obj.MEM_SPARE_STATE = 2) && (decide (rank = s.rd Obj.MEM_SPARE_SOURCE) || decide (rank = s.memConf.spare))
  ((s.modDram fun d => { d with
    poisoned := deviceAddr m a / 64 :: d.poisoned, found := (⟨deviceAddr m a / 64 * 64, rank, o, s.now, s.dtime⟩ :: d.found).take 128,
    copyPoisoned := d.copyPoisoned + ofBool copying }).count Obj.MEM_POISONED_LINES).logEvent Ev.linePoisoned o [d8 m, d64 (a / 64 * 64), d8 o]

/-- The surfaces that hold a channel address are LOSSY. -/
def lossyAt (s : State) (m a : Nat) : State :=
  s.each (s.grip.surfaces.filter (fun x => x.2.extents.any (fun e => decide (e.chan = m) && Nat.ble e.lo a && Nat.blt a e.hi))) fun s x =>
    s.modSurf x.1 fun y => { y with lossy := true, state := if y.state = .placed then .lossy else y.state }

theorem poisonLine_eq (s : State) (m a rank : Nat) : s.poisonLine m a rank =
    if s.dram.poisoned.contains (deviceAddr m a / 64) then s else (s.poisonEntered m a rank).lossyAt m a := rfl

/-- Surfaces that become LOSSY change nothing else. -/
theorem lossyAt_grip (s : State) (m a : Nat) : ∃ g, s.lossyAt m a = { s with grip := g } := by
  refine each_keeps (fun t => ∃ g, t = { s with grip := g }) _ _ s ?_ ⟨_, rfl⟩
  rintro _ x ⟨g, rfl⟩
  exact ⟨_, rfl⟩

theorem lossyAt_writes {os : List Nat} (s : State) (m a : Nat) : Writes os s (s.lossyAt m a) := by
  obtain ⟨g, h⟩ := lossyAt_grip s m a
  rw [h]
  exact ⟨rfl, rfl, fun _ h => h, fun _ _ => rfl⟩

theorem rd_lossyAt (s : State) (m a x : Nat) : (s.lossyAt m a).rd x = s.rd x := (lossyAt_writes (os := []) s m a).obj x List.not_mem_nil

theorem lossyAt_dram (s : State) (m a : Nat) : (s.lossyAt m a).dram = s.dram := by
  obtain ⟨g, h⟩ := lossyAt_grip s m a
  rw [h]

theorem poisonEntered_writes {os : List Nat} (hcount : Obj.MEM_POISONED_LINES ∈ os) (hlost : Obj.LOG_LOST ∈ os) (s : State) (m a rank : Nat) :
    Writes os s (s.poisonEntered m a rank) :=
  ((Writes.modDram ..).trans (.count hcount _)).trans (.logEvent hlost ..)

theorem poisonLine_writes {os : List Nat} (hcount : Obj.MEM_POISONED_LINES ∈ os) (hlost : Obj.LOG_LOST ∈ os) (s : State) (m a rank : Nat) :
    Writes os s (s.poisonLine m a rank) := by
  rw [poisonLine_eq]
  split
  · exact .refl s
  · exact (poisonEntered_writes hcount hlost ..).trans (lossyAt_writes ..)

/-- A line is counted when it was not poisoned before. -/
theorem rd_poisonLine_count (s : State) (m a rank : Nat) : (s.poisonLine m a rank).rd Obj.MEM_POISONED_LINES =
    if deviceAddr m a / 64 ∈ s.dram.poisoned then s.rd Obj.MEM_POISONED_LINES else wrapAdd 32 (s.rd Obj.MEM_POISONED_LINES) 1 := by
  rw [poisonLine_eq]
  by_cases h : deviceAddr m a / 64 ∈ s.dram.poisoned
  · rw [if_pos (List.contains_iff_mem.2 h), if_pos h]
  · rw [if_neg (mt List.contains_iff_mem.1 h), if_neg h, rd_lossyAt, poisonEntered, rd_logEvent _ _ _ _ _ (by decide), rd_count, if_pos rfl]
    rfl

theorem mem_poisoned_poisonLine (s : State) (m a rank : Nat) : deviceAddr m a / 64 ∈ (s.poisonLine m a rank).dram.poisoned := by
  rw [poisonLine_eq]
  split
  next h => exact List.contains_iff_mem.1 h
  · rw [lossyAt_dram, poisonEntered, logEvent_dram]
    exact List.mem_cons_self

/-- A line that becomes poisoned changes device DRAM's own tables and surfaces, and what the records and counts change. -/
theorem poisonLine_apart (s : State) (m a rank : Nat) :
    { (s.poisonLine m a rank).apart with dram := s.dram, grip := s.grip } = s.apart := by
  rw [poisonLine_eq]
  split
  · rfl
  · obtain ⟨g, h⟩ := lossyAt_grip (s.poisonEntered m a rank) m a
    have entered : { (s.poisonEntered m a rank).apart with dram := s.dram } = s.apart := by
      rw [poisonEntered, apart_logEvent]
      rfl
    rw [h]
    exact congrArg (fun t : State => { t with grip := s.grip }) entered

/-- An uncorrectable error is counted, and the line poisoned. -/
def ueCounted (s : State) (m a : Nat) : State := (s.count Obj.MEM_UE_COUNT).poisonLine m a (s.rankAt m a)

theorem ueCounted_writes {os : List Nat} (hcount : Obj.MEM_UE_COUNT ∈ os) (hlines : Obj.MEM_POISONED_LINES ∈ os) (hlost : Obj.LOG_LOST ∈ os) (s : State)
    (m a : Nat) : Writes os s (s.ueCounted m a) := (Writes.count hcount s).trans (poisonLine_writes hlines hlost ..)

theorem rd_ueCounted_count (s : State) (m a : Nat) : (s.ueCounted m a).rd Obj.MEM_UE_COUNT = wrapAdd 32 (s.rd Obj.MEM_UE_COUNT) 1 := by
  rw [ueCounted, (poisonLine_writes (os := [Obj.MEM_POISONED_LINES, Obj.LOG_LOST]) (by simp) (by simp) ..).obj _ (by decide), rd_count, if_pos rfl]

theorem rd_ueCounted_lines (s : State) (m a : Nat) : (s.ueCounted m a).rd Obj.MEM_POISONED_LINES =
    if deviceAddr m a / 64 ∈ s.dram.poisoned then s.rd Obj.MEM_POISONED_LINES else wrapAdd 32 (s.rd Obj.MEM_POISONED_LINES) 1 := by
  have other : (s.count Obj.MEM_UE_COUNT).rd Obj.MEM_POISONED_LINES = s.rd Obj.MEM_POISONED_LINES := rd_wr_other _ _ _ _ (by decide)
  rw [ueCounted, rd_poisonLine_count, other, count_dram]

theorem rd_ueCounted_rankState (s : State) (m a r : Nat) : (s.ueCounted m a).rd (Obj.RANK_STATE r) = s.rd (Obj.RANK_STATE r) := by
  obtain ⟨-, notCount, notLines, notLost⟩ := rankState_ne_counts r
  exact (ueCounted_writes (os := [Obj.MEM_UE_COUNT, Obj.MEM_POISONED_LINES, Obj.LOG_LOST]) (by simp) (by simp) (by simp) ..).obj _
    (by simp [notCount, notLines, notLost])

theorem ueCounted_apart (s : State) (m a : Nat) : { (s.ueCounted m a).apart with dram := s.dram, grip := s.grip } = s.apart :=
  poisonLine_apart (s.count Obj.MEM_UE_COUNT) ..

/-- A genuine error in a rank that a copy fills: counted, its line poisoned, and its reader told; the rank stays in service. -/
theorem execUncorrectableError_filled {s : State} {m : Fin 8} {addr : Nat} (hactive : s.chanActive m.val = true)
    (hecc : bit s.memConf.ecc (s.rankAt m.val addr) = true) (hfilled : s.rd (Obj.RANK_STATE (s.rankAt m.val addr)) = 7)
    (haddr : addr < s.rankBytes (2 * m.val) + s.rankBytes (2 * m.val + 1)) (hspare : s.rd Obj.MEM_SPARE_STATE ≠ 2) {reader : DramReader}
    (hreader : ((s.ueCounted m.val addr).poisonedReader reader false).rd (Obj.RANK_STATE (s.rankAt m.val addr)) = 7) :
    execUncorrectableError m addr reader true 0 s = .next ((s.ueCounted m.val addr).poisonedReader reader false) := by
  have polled : s.polled (s.rankAt m.val addr) = true := by simp [State.polled, hfilled]
  unfold execUncorrectableError
  rw [copiedTo_idle hspare]
  refine (if_neg (by simp [hactive, hecc, polled, haddr])).trans ?_
  exact congrArg Host.Outcome.next (rankFails_filled hreader ..)

/-- A transfer that read a poisoned line ends with POISONED_READ (R369). -/
theorem poisonedReader_copy {s : State} {it : Item} (hitem : s.item? it.id = some it) (hjob : s.job? it.id = none) (hstarted : it.started = true)
    (htype : dType it.desc = 0x08) : s.poisonedReader (.item it.id) false = s.complete it.id Status.poisonedRead 0 := by
  simp [poisonedReader, hitem, hjob, hstarted, htype]

/-! ## The end of the spare's copy (R374, R542) -/

/-- The spare in the failed rank's place, before Gaffer commits. -/
def sparePlaced (s : State) : State :=
  let r := s.rd Obj.MEM_SPARE_SOURCE
  let sp := s.memConf.spare
  let written := (((s.wr (Obj.RANK_STATE r) 4).wr (Obj.RANK_STATE sp) 1).wrBit Obj.MEM_RETIRED_RANKS r true).wr Obj.MEM_SPARE_STATE 3
  (({ written with memConf := { s.memConf with retired := setBit s.memConf.retired r true } } : State).wr Obj.MEM_SPARE_COPY_PTR (s.rankBytes r)).logEvent
    Ev.spareDone noOwner [d8 r, d8 sp, d32 s.dram.copyPoisoned]

theorem execSpareDone_places {s : State} (h : s.rd Obj.MEM_SPARE_STATE = 2) : execSpareDone s = .next s.sparePlaced.gafferCommit :=
  if_neg (not_not_intro h)

theorem gafferCommit_commits (s : State) : s.gafferCommit.flash.commit.isSome = true := by
  unfold gafferCommit
  split
  next h => exact h
  · rfl

theorem gafferCommit_writes {os : List Nat} (s : State) : Writes os s s.gafferCommit := by
  unfold gafferCommit
  split <;> exact ⟨rfl, rfl, fun _ h => h, fun _ _ => rfl⟩

theorem rd_gafferCommit (s : State) (a : Nat) : s.gafferCommit.rd a = s.rd a := (gafferCommit_writes (os := []) s).obj a List.not_mem_nil

/-- The objects once the spare is in place. -/
theorem rd_sparePlaced (s : State) {a : Nat} (ha : a ≠ Obj.LOG_LOST) : s.sparePlaced.rd a =
    if a = Obj.MEM_SPARE_COPY_PTR then s.rankBytes (s.rd Obj.MEM_SPARE_SOURCE) else if a = Obj.MEM_SPARE_STATE then 3
    else (((s.wr (Obj.RANK_STATE (s.rd Obj.MEM_SPARE_SOURCE)) 4).wr (Obj.RANK_STATE s.memConf.spare) 1).wrBit Obj.MEM_RETIRED_RANKS
      (s.rd Obj.MEM_SPARE_SOURCE) true).rd a := by
  unfold sparePlaced
  extract_lets r sp written
  rw [rd_logEvent _ _ _ _ _ ha, rd_wr]
  refine if_congr Iff.rfl rfl ?_
  change written.rd a = _
  exact rd_wr ..

theorem sparePlaced_writes (s : State) : Writes [Obj.RANK_STATE (s.rd Obj.MEM_SPARE_SOURCE), Obj.RANK_STATE s.memConf.spare, Obj.MEM_SPARE_STATE,
    Obj.MEM_RETIRED_RANKS, Obj.MEM_SPARE_COPY_PTR, Obj.LOG_LOST] s s.sparePlaced := by
  unfold sparePlaced
  extract_lets r sp written
  have objects : Writes [Obj.RANK_STATE r, Obj.RANK_STATE sp, Obj.MEM_SPARE_STATE, Obj.MEM_RETIRED_RANKS, Obj.MEM_SPARE_COPY_PTR, Obj.LOG_LOST] s written :=
    (((Writes.wr (by simp) s _).trans (.wr (by simp) _ _)).trans (.wr (by simp) _ _)).trans (.wr (by simp) _ _)
  have retired : Writes [Obj.RANK_STATE r, Obj.RANK_STATE sp, Obj.MEM_SPARE_STATE, Obj.MEM_RETIRED_RANKS, Obj.MEM_SPARE_COPY_PTR, Obj.LOG_LOST] s
      { written with memConf := { s.memConf with retired := setBit s.memConf.retired r true } } :=
    ⟨objects.boot, objects.mem, objects.fifo, objects.obj⟩
  exact (retired.trans (.wr (by simp) _ _)).trans (.logEvent (by simp) ..)

end State

open State

/-! ## The statement -/

/-- Settles O39, by what each command leaves of the objects, of the ranks' errors and of the lines poisoned. -/
theorem memoryErrorsAreCountedAndSpared : Obligations.MemoryErrorsAreCountedAndSpared := by
  unfold Obligations.MemoryErrorsAreCountedAndSpared
  refine ⟨fun s r hecc hpolled => ⟨fun hwithin => ?_, fun hlimit hbeyond hactive hready hspare hother => ?_⟩, fun s => ?_,
    fun s m addr hactive hecc hfilled haddr hspare => ⟨?_, fun it hitem hjob hstarted htype hinj hbus => ?_⟩, fun s hcopy hsource hspare hother => ?_⟩
  · have run := execCorrectedError_counts hecc hpolled
    rw [if_neg (by omega)] at run
    exact ⟨_, run, rd_ceCounted_count .., congrArg RankErrors.times (rankErrors_ceCounted ..), congrArg RankErrors.minute (rankErrors_ceCounted ..),
      (ceCounted_writes (by simp) ..).frame⟩
  · obtain ⟨failed, filled, copying, source, ptr⟩ := startSpare_begins (s := s.ceFailing r.val) r.isLt (by rwa [ceFailing_memConf])
      (by rwa [ceFailing_memConf])
    have begun := startSpare_writes (s.ceFailing r.val) r.val
    rw [ceFailing_memConf] at filled
    exact ⟨_, execCorrectedError_fails hecc hpolled hlimit hbeyond hactive hready, failed, filled, copying, source, ptr,
      fun hroom => told_of _ _ _ _ _ (told_ceFailing hroom _) begun.fifo, byte_of_mem _ _ (begun.mem.trans (ceFailing_mem ..))⟩
  · refine ⟨_, execCeSummary_eq s, fun r hr => ?_, fun hroom r hr h => ?_, (summary_writes ..).frame⟩
    · have ended := (rankErrors_summary s (List.range 16) r).trans (if_pos (List.mem_range.2 hr))
      exact ⟨(congrArg RankErrors.minute ended :), (congrArg RankErrors.times ended :)⟩
    · exact told_summary (by rw [List.length_range]; omega) (List.mem_range.2 hr) h
  · refine ⟨_, execUncorrectableError_filled hactive hecc hfilled haddr hspare ?_, mem_poisoned_poisonLine .., rd_ueCounted_count .., rd_ueCounted_lines ..,
      (ueCounted_writes (by simp) (by simp) (by simp) ..).frame⟩
    exact (rd_ueCounted_rankState ..).trans hfilled
  · have unread := ueCounted_apart s m.val addr
    have items : (s.ueCounted m.val addr).items = s.items := (congrArg State.items unread :)
    have jobs : (s.ueCounted m.val addr).jobs = s.jobs := (congrArg State.jobs unread :)
    have insts : (s.ueCounted m.val addr).insts = s.insts := (congrArg State.insts unread :)
    have item := (item?_congr items it.id).trans hitem
    have read := poisonedReader_copy item (by rwa [job?, jobs]) hstarted htype
    refine ⟨_, execUncorrectableError_filled hactive hecc hfilled haddr hspare ?_, ?_⟩
    · rw [read, objectsBut_complete _ _ (by decide) _ _ (by simpa using (rankState_ne_counts _).2.2.2), rd_ueCounted_rankState, hfilled]
    · rw [read]
      refine ⟨recorded_completeAt item hinj (by rwa [busOff_congr insts]) .., by rw [complete, item?_completeAt, if_pos rfl], byte_of_mem _ _ ?_⟩
      rw [complete, completeAt_mem]
      exact (congrArg State.mem unread :)
  · obtain ⟨sourceState, sourcePtr, -, sourceRetired⟩ := rankState_ne_spare hsource
    obtain ⟨spareState, sparePtr, -, spareRetired⟩ := rankState_ne_spare hspare
    have distinct := rankState_injective hother
    refine ⟨_, execSpareDone_places hcopy, ?_, ?_, ?_, ?_, ?_, gafferCommit_commits _, ((sparePlaced_writes s).trans (gafferCommit_writes _)).frame⟩
    · rw [rd_gafferCommit, rd_sparePlaced _ (rankState_ne_counts _).2.2.2, if_neg sourcePtr, if_neg sourceState, rd_wrBit, if_neg sourceRetired,
        rd_wr_other _ _ _ _ distinct.symm, rd_wr_same]
    · rw [rd_gafferCommit, rd_sparePlaced _ (rankState_ne_counts _).2.2.2, if_neg sparePtr, if_neg spareState, rd_wrBit, if_neg spareRetired, rd_wr_same]
    · rw [rd_gafferCommit, rd_sparePlaced _ (by decide), if_neg (by decide), if_pos rfl]
    · rw [rd_gafferCommit, rd_sparePlaced _ (by decide), if_neg (by decide), if_neg (by decide), rd_wrBit, if_pos rfl, bit_setBit, if_pos rfl]
    · rw [rd_gafferCommit, rd_sparePlaced _ (by decide), if_pos rfl]

end Sys2Proof.Machine
end

section
/-!
SUPPORT. O41: a PUSH into a full mailbox (R412). One rule for a register's write by the end that may, one for what a full mailbox does with a word.
-/
namespace Sys2Proof.Machine
open Sys2Proof

/-- A mailbox once a word has taken the place of its newest (R412). -/
def Mailbox.replaced (b : Mailbox) (word : Nat) : Mailbox :=
  { b with words := b.words.dropLast ++ [word], pushed := wrapAdd 16 b.pushed 1, collision := true }

namespace State

/-! ## A write of the end that may (R410, R416) -/

/-- The end that the entry names writes a served mailbox; a host does so where BAR 2 is served. -/
theorem mbWrite_served {s : State} {rq : Requester} {e : MbEnd} (hbar : isHost rq = true → s.barServed = true) (hend : s.isEnd rq e = true)
    (m : Nat) (f : State → State) : s.mbWrite rq m e true f = f s := by
  rw [mbWrite, if_neg fun h => h.2 (hbar h.1), if_pos hend, if_pos rfl]

/-- A PUSH of the sender into a served mailbox that no unit guards reaches the mailbox itself. -/
theorem execMbPush_unguarded {s : State} {rq : Requester} {m : Fin 16} (hbar : isHost rq = true → s.barServed = true)
    (hend : s.isEnd rq (s.mbSender m.val) = true) (hserved : s.mbServed m.val = true) (hguard : s.guardOf m.val = none) (w : BitVec 32) (ue : Bool) :
    execMbPush rq m w ue s = .next (s.pushWord m.val w.toNat) := by
  rw [execMbPush, hserved, mbWrite_served hbar hend, hguard]

/-! ## A full mailbox (R412) -/

/-- What Tally counts writes no object but LOG_LOST. -/
theorem Writes.tallyCount {os : List Nat} (h : Obj.LOG_LOST ∈ os) (s : State) (g kind owner : Nat) : Writes os s (s.tallyCount g kind owner) :=
  ⟨tallyCount_boot .., tallyCount_mem .., fifo_tallyCount s g kind owner, fun _ ha => rd_tallyCount _ _ _ _ _ fun hl => ha (hl ▸ h)⟩

/-- A push counted, and its word in the place of the newest: what MB_COLLISION then records. -/
def newestReplaced (s : State) (m word : Nat) : State := (s.tallyCount 28 m noOwner).setMailbox m ((s.mailbox m).replaced word)

theorem pushWord_full {s : State} {m : Nat} (hfull : (s.mailbox m).words.length = 16) (word : Nat) :
    s.pushWord m word = (s.newestReplaced m word).logEvent Ev.mbCollision noOwner [d8 m, d16 (s.mailbox m).pushed] :=
  if_neg (by omega)

theorem pushWord_full_writes {s : State} {m : Nat} (hfull : (s.mailbox m).words.length = 16) (word : Nat) :
    Writes [Obj.LOG_LOST] s (s.pushWord m word) := by
  rw [pushWord_full hfull]
  exact ((Writes.tallyCount (by simp) ..).trans (.setMailbox ..)).trans (.logEvent (by simp) ..)

theorem mailbox_pushWord_full {s : State} {m : Nat} (hfull : (s.mailbox m).words.length = 16) (word n : Nat) :
    (s.pushWord m word).mailbox n = if n = m then (s.mailbox m).replaced word else s.mailbox n := by
  rw [pushWord_full hfull, mailbox_congr (logEvent_mailboxes ..), newestReplaced, mailbox_setMailbox, mailbox_congr (tallyCount_mailboxes ..)]

/-- MB_COLLISION finds room in the FIFO: counting the push adds at most the record of a counter that wraps (R649). -/
theorem told_pushWord_full {s : State} {m : Nat} (hfull : (s.mailbox m).words.length = 16) (hroom : s.log.fifo.length < 255) (word : Nat) :
    (s.pushWord m word).told Ev.mbCollision noOwner [d8 m, d16 (s.mailbox m).pushed] = true := by
  have counted : (s.newestReplaced m word).log.fifo.length ≤ s.log.fifo.length + 1 := fifo_length_tallyCount ..
  rw [pushWord_full hfull]
  exact told_logEvent _ _ _ _ (by omega)

end State

open State

/-! ## The statement -/

/-- Settles O41: the word takes the newest one's place, and the record that follows changes no mailbox. -/
theorem pushIntoAFullMailbox : Obligations.PushIntoAFullMailbox := by
  unfold Obligations.PushIntoAFullMailbox
  intro s rq m w hend hserved hbar hguard hfull
  have box := (mailbox_pushWord_full hfull w.toNat m.val).trans (if_pos rfl)
  exact ⟨_, execMbPush_unguarded hbar hend hserved hguard w false, congrArg Mailbox.words box, congrArg Mailbox.pushed box,
    congrArg Mailbox.collision box, fun hfifo => told_pushWord_full hfull (by omega) _,
    fun n hn => (mailbox_pushWord_full hfull _ n).trans (if_neg hn), (pushWord_full_writes hfull _).frame⟩

end Sys2Proof.Machine
end

section
/-! SUPPORT, and the statements O1, O4 and O5: the queue's front, and the soundness of reset and of every step. -/

namespace Sys2Proof.Machine
open Sys2Proof

/-- Settles O1: on a queue with a front, `step` is the dispatch of that front. -/
theorem stepRunsTheFrontCommand : Obligations.StepRunsTheFrontCommand := fun _ _ _ => rfl

/-- Settles O4: reset leaves its few objects in order, no byte, and an empty log. -/
theorem resetIsSound : Obligations.ResetIsSound := by
  unfold Obligations.ResetIsSound
  decide

/-! ## What soundness rests on -/

theorem safe_iff {s : State} : Safe s ↔ Objs.wf s.objs = true ∧ Memory.wf s.mem = true ∧ s.log.bounded = true := by
  simp [Safe, State.sound, and_assoc]

/-- Soundness is of the objects, the memory and the log, whatever stands in the other fields. -/
theorem Safe.of_parts {objs clock dueSlots log io freeDrawn order items nextItem insts guards outs shadow colourActive lutBanks substUnchecked grip jobs mem
    memConf dram keys raster ports tally tallyOvf refusals mailboxes boot flash power dailies haps foley fronts keyBank cus ldp clocks pending}
    (ho : Objs.wf objs = true) (hm : Memory.wf mem = true) (hl : Log.bounded log = true) :
    Safe ⟨objs, clock, dueSlots, log, io, freeDrawn, order, items, nextItem, insts, guards, outs, shadow, colourActive, lutBanks, substUnchecked, grip,
      jobs, mem, memConf, dram, keys, raster, ports, tally, tallyOvf, refusals, mailboxes, boot, flash, power, dailies, haps, foley, fronts, keyBank, cus,
      ldp, clocks, pending⟩ := safe_iff.2 ⟨ho, hm, hl⟩

theorem Safe.objs {s : State} (h : Safe s) : Objs.wf s.objs = true := (safe_iff.1 h).1

theorem Safe.mem {s : State} (h : Safe s) : Memory.wf s.mem = true := (safe_iff.1 h).2.1

theorem Safe.log {s : State} (h : Safe s) : s.log.bounded = true := (safe_iff.1 h).2.2

/-- A state that differs in other fields alone. -/
theorem Safe.same {s : State} (h : Safe s) {clock dueSlots io freeDrawn order items nextItem insts guards outs shadow colourActive lutBanks
    substUnchecked grip jobs memConf dram keys raster ports tally tallyOvf refusals mailboxes boot flash power dailies haps foley fronts keyBank cus
    ldp clocks pending} :
    Safe ⟨s.objs, clock, dueSlots, s.log, io, freeDrawn, order, items, nextItem, insts, guards, outs, shadow, colourActive, lutBanks, substUnchecked, grip,
      jobs, s.mem, memConf, dram, keys, raster, ports, tally, tallyOvf, refusals, mailboxes, boot, flash, power, dailies, haps, foley, fronts, keyBank, cus,
      ldp, clocks, pending⟩ := of_parts h.objs h.mem h.log

theorem Log.bounded_iff {l : Log} : l.bounded = true ↔ l.fifo.length ≤ 256 ∧ l.mirror.length ≤ 64 ∧ l.ring.length ≤ 4096 := by
  simp [Log.bounded, and_assoc]

theorem Safe.logBounds {s : State} (h : Safe s) : s.log.fifo.length ≤ 256 ∧ s.log.mirror.length ≤ 64 ∧ s.log.ring.length ≤ 4096 :=
  Log.bounded_iff.1 h.log

/-! ## Choices and loops -/

theorem Safe.ite {c : Prop} {_ : Decidable c} {s t : State} (hs : Safe s) (ht : Safe t) : Safe (if c then s else t) := by
  split <;> assumption

/-- A step that may be left out. -/
theorem Safe.perhaps {c : Prop} {_ : Decidable c} {s t : State} (hs : Safe s) (ht : Safe s → Safe t) : Safe (if c then t else s) :=
  .ite (ht hs) hs

theorem Safe.snd {α : Type} {x : α} {s : State} (h : Safe s) : Safe (x, s).2 := h

theorem Safe.fst {α : Type} {x : α} {s : State} (h : Safe s) : Safe (s, x).1 := h

theorem Safe.snd_ite {α : Type} {c : Prop} {_ : Decidable c} {p q : α × State} (hp : Safe p.2) (hq : Safe q.2) : Safe (if c then p else q).2 := by
  split <;> assumption

theorem Safe.fst_ite {α : Type} {c : Prop} {_ : Decidable c} {p q : State × α} (hp : Safe p.1) (hq : Safe q.1) : Safe (if c then p else q).1 := by
  split <;> assumption

theorem Safe.each {α : Type} {s : State} (h : Safe s) {l : List α} {f : State → α → State} (hf : ∀ t x, Safe t → Safe (f t x)) : Safe (s.each l f) :=
  State.each_keeps Safe l f s hf h

/-! ## Objects, bytes and records -/

theorem Safe.wr {s : State} (h : Safe s) {a v : Nat} : Safe (s.wr a v) := of_parts (Objs.wf_set _ _ _ h.objs) h.mem h.log

theorem Safe.wrBit {s : State} (h : Safe s) {a i : Nat} {b : Bool} : Safe (s.wrBit a i b) := h.wr

theorem Safe.count {s : State} (h : Safe s) {a : Nat} : Safe (s.count a) := h.wr

theorem Safe.emit {s : State} (h : Safe s) {e : IoEvent} : Safe (s.emit e) := h.same

theorem Safe.answer {s : State} (h : Safe s) {rq : Requester} {c : Nat} : Safe (s.answer rq c) := h.same

theorem Safe.setByte {s : State} (h : Safe s) {a : Nat} {v : BitVec 8} : Safe (s.setByte a v) := of_parts h.objs (Memory.wf_set _ _ _ h.mem) h.log

/-- A record enters the FIFO and the mirror within their bounds, or is counted as lost (R633). -/
theorem Safe.logRaw {s : State} (h : Safe s) {code source : Nat} {i : Bool} {p : Spos} {t : Nat} {ds : List Detail} :
    Safe (s.logRaw code source i p t ds) := by
  obtain ⟨fifo, mirror, ring⟩ := h.logBounds
  rcases s.logRaw_cases code source i p t ds with ⟨room, e⟩ | ⟨-, e⟩ <;> rw [e]
  · refine of_parts h.objs h.mem (Log.bounded_iff.2 ⟨?_, ?_, ring⟩)
    · rw [List.length_append]; exact room
    · exact List.length_take_le ..
  · have full : Safe { s with log := { s.log with lostPending := s.log.lostPending + 1 } } :=
      of_parts h.objs h.mem (Log.bounded_iff.2 ⟨fifo, mirror, ring⟩)
    exact full.count

theorem Safe.tallyWrap {s : State} (h : Safe s) {g kind c : Nat} : Safe (s.tallyWrap g kind c) := Safe.logRaw h.same

theorem Safe.tallyCount {s : State} (h : Safe s) {g kind owner : Nat} : Safe (s.tallyCount g kind owner) :=
  .ite (.ite h.tallyWrap h.same) h

theorem Safe.tallyRecord {s : State} (h : Safe s) {code source : Nat} : Safe (s.tallyRecord code source) := by
  unfold State.tallyRecord
  split
  · exact h.tallyCount
  · exact h

theorem Safe.logAt {s : State} (h : Safe s) {code source : Nat} {i : Bool} {p : Spos} {t : Nat} {ds : List Detail} :
    Safe (s.logAt code source i p t ds) := h.logRaw.tallyRecord

theorem Safe.logEvent {s : State} (h : Safe s) {code source : Nat} {ds : List Detail} : Safe (s.logEvent code source ds) := h.logAt

theorem Safe.logInjected {s : State} (h : Safe s) {code source : Nat} {i : Bool} {ds : List Detail} :
    Safe (s.logInjected code source i ds) := h.logAt

theorem Safe.inject {s : State} (h : Safe s) {d n : Nat} : Safe (s.inject d n).2 :=
  .snd_ite (Safe.perhaps h.count.count fun hu => hu.wr).logInjected h

theorem Safe.of_inject {s t : State} (h : Safe s) {d n : Nat} {p : Option Nat} (e : s.inject d n = (p, t)) : Safe t :=
  (congrArg (fun r => Safe r.2) e).mp h.inject

theorem Safe.snd_of_eq {α : Type} {p : α × State} {t : State} {x : α} (h : Safe p.2) (e : p = (x, t)) : Safe t := by
  rwa [e] at h

/-- A refusal amends a record in its place, or enters one (R401). -/
theorem Safe.ownerRefused {s : State} (h : Safe s) {source resource kind : Nat} : Safe (s.ownerRefused source resource kind) := by
  unfold State.ownerRefused
  dsimp only
  split
  · obtain ⟨fifo, mirror, ring⟩ := h.logBounds
    refine of_parts h.objs h.mem (Log.bounded_iff.2 ?_)
    simpa only [Log.amend, List.length_map] using ⟨fifo, mirror, ring⟩
  · exact h.logEvent.same

/-- An outcome leaves a sound state, if it leaves one. -/
def Safely (o : Out) : Prop := ∀ t, o = .next t → Safe t

theorem Safe.next {s : State} (h : Safe s) : Safely (.next s) := by
  rintro t ⟨⟩
  exact h

theorem Safely.ite {c : Prop} {_ : Decidable c} {o p : Out} (ho : Safely o) (hp : Safely p) : Safely (if c then o else p) := by
  split <;> assumption

/-! ## The operations, in the order of the model

Loops and requests. -/

theorem Safe.whenB {s : State} (h : Safe s) {b : Bool} {f : State → State} (hf : ∀ t, Safe t → Safe (f t)) : Safe (s.whenB b f) := Safe.ite (hf _ h) h

theorem Safe.request {s : State} (h : Safe s) {rq : Requester} {addr type len v : Nat} {own : State → Nat × State} (hf : ∀ t, Safe t → Safe
    (own t).2) :
    Safe (s.request rq addr type len v own) := Safe.ite (Safe.ite (hf _ h).ownerRefused.same (hf _ h).same) (Safe.ite h.ownerRefused.same h.same)

theorem Safe.ownRequest {s : State} (h : Safe s) {rq : Requester} {addr v : Nat} {own : State → Nat × State} (hf : ∀ t, Safe t → Safe (own t).2) :
    Safe (s.ownRequest rq addr v own) := by
  unfold State.ownRequest
  split
  · exact h.request hf
  · exact h.same

theorem Safe.requestLater {s : State} (h : Safe s) {rq : Requester} {addr v : Nat} {own : State → Option Nat × State} (hf : ∀ t, Safe t → Safe
    (own t).2) :
    Safe (s.requestLater rq addr v own) := by
  unfold State.requestLater
  dsimp only
  split
  · exact h.same
  · refine Safe.ite ?_ (Safe.ite h.ownerRefused.same h.same)
    split
    · exact hf _ h
    · exact Safe.ite (hf _ h).ownerRefused.same (hf _ h).same

/-! Ops: the log, objects and requests. -/

theorem Safe.fresh {s : State} (h : Safe s) : Safe s.fresh.2 := h.same.snd

theorem Safe.nextOrder {s : State} (h : Safe s) : Safe s.nextOrder.2 := h.same.snd

/-! Operands: requests and plain writes. -/

theorem Safe.plainWrite {s : State} (h : Safe s) {addr v : Nat} : Safe (s.plainWrite addr v).2 := Safe.snd_ite h.wr.snd h

/-! Flags: status and flag fields. -/

theorem Safe.setCoasting {s : State} (h : Safe s) {on : Bool} : Safe (s.setCoasting on) := h.wrBit.wrBit

/-! Sprocket: the line clock, device time and the trigger slots (R11 to R55). -/

theorem Safe.markReached {s : State} (h : Safe s) {c : Clock} : Safe (s.markReached c) := h.same

theorem Safe.markJumped {s : State} (h : Safe s) {last : Spos} {tick : Nat} : Safe (s.markJumped last tick) := h.same

theorem Safe.tick {s : State} (h : Safe s) : Safe s.tick := Safe.ite h.same h.markReached.same

theorem Safe.nextLine {s : State} (h : Safe s) {ps : Nat} : Safe (s.nextLine ps) := h.markReached.markReached.same

theorem Safe.endFrameCount {s : State} (h : Safe s) : Safe s.endFrameCount := Safe.ite h.count h

theorem Safe.newFrame {s : State} (h : Safe s) {c : Clock} {last : Spos} : Safe (s.newFrame c last) :=
  (h.endFrameCount.perhaps fun hu => hu.count).markJumped.markReached.same

theorem Safe.nextFrame {s : State} (h : Safe s) {ps : Nat} : Safe (s.nextFrame ps) := h.markReached.newFrame

theorem Safe.coastStart {s : State} (h : Safe s) {cause : Nat} : Safe (s.coastStart cause) := Safe.ite h.same h.same.setCoasting.logEvent

theorem Safe.coastIfLead {s : State} (h : Safe s) {k cause : Nat} : Safe (s.coastIfLead k cause) := Safe.ite h.coastStart h

theorem Safe.writeLead {s : State} (h : Safe s) {v : Nat} : Safe (s.writeLead v).2 :=
  Safe.snd_ite h (Safe.snd_ite h (Safe.ite h.wr.wrBit.coastStart h.wr).snd)

theorem Safe.relock {s : State} (h : Safe s) : Safe s.relock := (h.setCoasting.wrBit.perhaps fun hu => hu.wrBit).newFrame.count.wr.logEvent

theorem Safe.s4Stop {s : State} (h : Safe s) : Safe s.s4Stop := h.same

theorem Safe.s4Resume {s : State} (h : Safe s) : Safe s.s4Resume := Safe.ite h h.same.setCoasting.wrBit.wrBit.newFrame.logEvent

theorem Safe.warmCoast {s : State} (h : Safe s) : Safe s.warmCoast := h.same.setCoasting.logEvent

theorem Safe.syncLost {s : State} (h : Safe s) : Safe s.syncLost := Safe.ite h.wr h

theorem Safe.writeSlotControl {s : State} (h : Safe s) {n v : Nat} : Safe (s.writeSlotControl n v).2 :=
  Safe.snd_ite (Safe.snd_ite h (Safe.snd_ite h.wr.wr.same.snd h.wr.wr.markReached.snd)) (Safe.snd_ite h.wr.wr.same.snd h.wr.snd)

theorem Safe.writeSlotField {s : State} (h : Safe s) {n addr v : Nat} : Safe (s.writeSlotField n addr v).2 := Safe.snd_ite h h.plainWrite

theorem Safe.slotFiredWith {s : State} (h : Safe s) {d : DueSlot} {outcome : Nat} : Safe (s.slotFiredWith d outcome) :=
  Safe.ite h.wr.wr.wr.wr h.wr.wr.wr

theorem Safe.slotTally {s : State} (h : Safe s) {d : DueSlot} {a outcome owner : Nat} : Safe (s.slotTally d a outcome owner) :=
  (((h.tallyCount.perhaps fun hu => hu.tallyCount).perhaps fun hu => hu.tallyCount).perhaps fun hu => hu.tallyCount).perhaps fun hu => hu.tallyCount

theorem Safe.fire {s : State} (h : Safe s) {n action : Nat} {act : State → Nat → State × Nat} (hf : ∀ t a, Safe t → Safe (act t a).1) :
    Safe (s.fire n action act) := by
  unfold State.fire
  split
  · exact h
  · exact Safe.ite h (((hf _ _ (Safe.ite h.tick h).same).slotFiredWith.slotTally.perhaps fun hu => hu.logEvent).perhaps fun hu => hu.logEvent)

/-! Mailboxes and doorbells (R395, R409 to R417). -/

theorem Safe.notifyMb {s : State} (h : Safe s) {m bits : Nat} : Safe (s.notifyMb m bits) := by
  unfold State.notifyMb
  refine Safe.ite h ?_
  split <;> exact h.same

theorem Safe.setPend {s : State} (h : Safe s) {m bits : Nat} : Safe (s.setPend m bits) := h.same.notifyMb

theorem Safe.wake {s : State} (h : Safe s) {cause : Nat} : Safe (s.wake cause) := by
  unfold State.wake
  refine Safe.ite h ?_
  split
  · exact h.same
  · exact Safe.ite h h.same

theorem Safe.ring {s : State} (h : Safe s) {m bits : Nat} : Safe (s.ring m bits).2 :=
  Safe.snd_ite h (Safe.snd_ite h (Safe.snd_ite h.setPend.snd (Safe.snd_ite h.same.wake.snd h)))

theorem Safe.ringObject {s : State} (h : Safe s) {v : Nat} : Safe (s.ringObject v) := Safe.ite h.ring h

theorem Safe.releaseHeld {s : State} (h : Safe s) : Safe s.releaseHeld := h.each fun _ _ ht => Safe.ite ht ht.same.setPend

theorem Safe.mbError {s : State} (h : Safe s) {rq : Requester} {e : MbEnd} : Safe (s.mbError rq e) := by
  unfold State.mbError
  split <;> exact h.same

theorem Safe.mbWrite {s : State} (h : Safe s) {rq : Requester} {m : Nat} {e : MbEnd} {served : Bool} {f : State → State} (hf : ∀ t, Safe t → Safe
    (f t)) :
    Safe (s.mbWrite rq m e served f) := Safe.ite h (Safe.ite (Safe.ite (hf _ h) h.mbError) (Safe.ite h.ownerRefused.same h.mbError))

theorem Safe.pushWord {s : State} (h : Safe s) {m word : Nat} : Safe (s.pushWord m word) := Safe.ite h.tallyCount.same h.tallyCount.same.logEvent

theorem Safe.releaseWords {s : State} (h : Safe s) {m n : Nat} : Safe (s.releaseWords m n) := h.same

theorem Safe.doorbellWrite {s : State} (h : Safe s) {m v : Nat} : Safe (s.doorbellWrite m v) := h.same.notifyMb

theorem Safe.discardBittern {s : State} (h : Safe s) : Safe s.discardBittern := h.each fun _ _ ht => Safe.ite ht (Safe.ite ht.same ht.same.logEvent)

/-! Queues, descriptors and completions (R304 to R317, R326 to R328). -/

theorem Safe.startItem {s : State} (h : Safe s) {id : Nat} : Safe (s.startItem id) := h.same

theorem Safe.ioWrite {s : State} (h : Safe s) {o addr n : Nat} : Safe (s.ioWrite o addr n) := Safe.ite h.same h

theorem Safe.writeRecord {s : State} (h : Safe s) {it : Item} {status detail : Nat} {pos : Spos} {time : Nat} :
    Safe (s.writeRecord it status detail pos time) := Safe.ite (Safe.ite h.same (h.same.same.ioWrite.perhaps fun hu => hu.same)) h.same

theorem Safe.completeAt {s : State} (h : Safe s) {id status detail : Nat} {pos : Spos} {time : Nat} :
    Safe (s.completeAt id status detail pos time) := by
  unfold State.completeAt
  split
  · exact h
  · exact h.same.writeRecord.tallyCount.perhaps fun hu => hu.count.tallyCount

theorem Safe.complete {s : State} (h : Safe s) {id status detail : Nat} : Safe (s.complete id status detail) := h.completeAt

theorem Safe.finish {s : State} (h : Safe s) {id status : Nat} : Safe (s.finish id status) := h.complete

theorem Safe.onItem {s : State} (h : Safe s) {o q type : Nat} {f : State → Item → State} (hf : ∀ t it, Safe t → Safe (f t it)) :
    Safe (s.onItem o q type f) := by
  unfold State.onItem
  split
  · exact h
  · exact hf _ _ h.startItem

theorem Safe.onItemIf {s : State} (h : Safe s) {o q type : Nat} {p : BitVec 512 → Bool} {f : State → Item → State} (hf : ∀ t it, Safe t → Safe
    (f t it)) :
    Safe (s.onItemIf o q type p f) := by
  unfold State.onItemIf
  split
  · exact h
  · exact Safe.ite (hf _ _ h.startItem) h

theorem Safe.armFor {s : State} (h : Safe s) {n owner action arg pos ctl : Nat} : Safe (s.armFor n owner action arg pos ctl).2 :=
  Safe.snd_ite h.wr.wr.wr.wr.writeSlotControl h

/-! Memory: bytes of surfaces. -/

theorem Safe.surfWrite {s : State} (h : Safe s) {n o : Nat} {v : BitVec 8} : Safe (s.surfWrite n o v) := h.each fun _ _ ht => ht.setByte

theorem Safe.surfWriteList {s : State} (h : Safe s) {n o : Nat} {bytes : List (BitVec 8)} : Safe (s.surfWriteList n o bytes) := by
  induction bytes generalizing s o with
  | nil => exact h
  | cons v vs ih => exact ih h.surfWrite

theorem Safe.storeLine {s : State} (h : Safe s) {n o : Nat} {bytes : List (BitVec 8)} : Safe (s.storeLine n o bytes).1 := by
  unfold State.storeLine
  refine Safe.fst_ite (Safe.fst_ite ?_ h) h.surfWriteList.fst
  split
  · exact h.same.surfWriteList.fst
  · exact h

theorem Safe.storeLines {s : State} (h : Safe s) {n fuel o : Nat} {bytes : List (BitVec 8)} : Safe (s.storeLines n fuel o bytes).1 := by
  induction fuel generalizing s o bytes with
  | zero => exact h
  | succ fuel ih =>
    cases bytes with
    | nil => exact h
    | cons v vs => exact ih h.storeLine

theorem Safe.store {s : State} (h : Safe s) {n o : Nat} {bytes : List (BitVec 8)} : Safe (s.store n o bytes).1 := h.storeLines

theorem Safe.forgetBytes {s : State} (h : Safe s) {n : Nat} {p : Nat → Bool} : Safe (s.forgetBytes n p) := of_parts h.objs
    (Memory.wf_drop _ _ h.mem) h.log

/-! Backing of outputs (R72 to R76, R110 to R112). -/

theorem Safe.evict {s : State} (h : Safe s) {n : Nat} : Safe (s.evict n) := by
  unfold State.evict
  extract_lets x
  split
  · exact h
  · exact Safe.logEvent (Safe.logEvent (of_parts h.objs (Memory.wf_unreel _ _ _ _ h.mem) h.log))

theorem Safe.evictUntil {s : State} (h : Safe s) {want : Nat} {l : List Nat} : Safe (s.evictUntil want l) := by
  induction l generalizing s with
  | nil => exact h
  | cons n l ih => exact Safe.ite h (ih h.evict)

/-- The moves of R72's second step only mark outputs as moving. -/
theorem Safe.movesRun {m m' : Moves} (h : Safe m.s) {needs : List Need} {l : List Mover} (run : m.run needs l = some m') : Safe m'.s := by
  induction l generalizing m with
  | nil =>
    unfold Moves.run at run
    split at run
    · exact Option.some.inj run ▸ h
    · cases run
  | cons c l ih =>
    unfold Moves.run at run
    dsimp only at run
    split at run
    · exact Option.some.inj run ▸ h
    · split at run
      · cases run
      · split at run
        · cases run
        · refine ih ?_ run
          exact h.same

theorem Safe.backOutput {s : State} (h : Safe s) {needs : List Need} {format priority latency : Nat} {next : Bool} {r : State × List Nat × List Nat}
    (backed : s.backOutput needs format priority latency next = some r) : Safe r.1 := by
  unfold State.backOutput at backed
  dsimp only at backed
  split at backed
  · cases backed
  next m run =>
    split at backed
    · cases backed
    · obtain rfl := Option.some.inj backed
      exact (Safe.movesRun (m := ⟨_, [], []⟩) h.evictUntil run).each fun _ _ ht => Safe.ite ht.same ht.same.logEvent

theorem Safe.markDramFed {s : State} (h : Safe s) {k : Nat} {b : Bool} : Safe (s.markDramFed k b) := h.wrBit.wrBit

theorem Safe.switchDram {s : State} (h : Safe s) {k : Nat} : Safe (s.switchDram k) := by
  unfold State.switchDram
  dsimp only
  split
  · exact h
  · exact (Safe.ite h.same.markDramFed.logEvent h.same.markDramFed.logEvent.logEvent).same

theorem Safe.returnEach {s : State} (h : Safe s) {l : List Nat} : Safe (s.returnEach l) := by
  induction l generalizing s with
  | nil => exact h
  | cons k l ih =>
    unfold State.returnEach
    dsimp only
    split
    · split
      · exact ih (Safe.logEvent h.same)
      · exact h
    · exact ih h

theorem Safe.reelReturn {s : State} (h : Safe s) : Safe s.reelReturn := h.returnEach

theorem Safe.leaveDram {s : State} (h : Safe s) {k : Nat} : Safe (s.leaveDram k) := by
  unfold State.leaveDram
  dsimp only
  split
  · exact h
  · exact h.same.markDramFed.logEvent

theorem Safe.freeBacking {s : State} (h : Safe s) {k : Nat} : Safe (s.freeBacking k) :=
  Safe.ite h.same.markDramFed.same h.same.markDramFed.same.logEvent

theorem Safe.takeNextHold {s : State} (h : Safe s) {k : Nat} : Safe (s.takeNextHold k) := by
  unfold State.takeNextHold
  dsimp only
  split
  · exact h
  · exact (Safe.ite h.same h.same.logEvent).reelReturn

theorem Safe.reassignBuffer {s : State} (h : Safe s) {k i : Nat} : Safe (s.reassignBuffer k i) := by
  unfold State.reassignBuffer
  dsimp only
  split
  · exact h.same
  · exact h

/-! Grip: surfaces, unit health and migrations (R56 to R94). -/

theorem Safe.placeNew {s t : State} (h : Safe s) {n : Nat} {x : Surface} (placed : s.placeNew n x = some t) : Safe t := by
  unfold State.placeNew at placed
  split at placed
  · exact Option.some.inj placed ▸ Safe.logEvent h.same
  · split at placed
    · exact Option.some.inj placed ▸ Safe.logEvent h.same
    · cases placed

theorem Safe.forgetSurface {s : State} (h : Safe s) {x : Surface} : Safe (s.forgetSurface x) := of_parts h.objs (Memory.wf_drop _ _ h.mem) h.log

theorem Safe.freeSurface {s : State} (h : Safe s) {n : Nat} : Safe (s.freeSurface n) :=
  Safe.ite h.forgetSurface.same h.forgetSurface.same.logEvent.reelReturn

theorem Safe.releaseIfFree {s : State} (h : Safe s) {n : Nat} : Safe (s.releaseIfFree n) := by
  unfold State.releaseIfFree
  dsimp only
  refine Safe.ite h ?_
  split
  · exact h.freeSurface.finish
  · exact h.freeSurface

theorem Safe.release {s : State} (h : Safe s) {n : Nat} {item : Option Nat} : Safe (s.release n item) := h.same.releaseIfFree

theorem Safe.setHealth {s : State} (h : Safe s) {n : Nat} {x : Health} : Safe (s.setHealth n x) := h.same

theorem Safe.failUnit {s : State} (h : Safe s) {n : Nat} : Safe (s.failUnit n) := Safe.ite h h.setHealth

theorem Safe.sample {s : State} (h : Safe s) {n v : Nat} : Safe (s.sample n v) := Safe.ite h h.same

theorem Safe.judgeSlow {s : State} (h : Safe s) {n ratio : Nat} : Safe (s.judgeSlow n ratio) :=
  h.setHealth.logEvent.perhaps fun hu => hu.setHealth.logEvent

theorem Safe.judge {s : State} (h : Safe s) {t : Thresholds} {n : Nat} : Safe (s.judge t n) := by
  unfold State.judge
  dsimp only
  split
  · exact Safe.ite h.same (Safe.ite h.same.judgeSlow h.same.setHealth)
  · exact h.same.perhaps fun hu => hu.judgeSlow
  · exact Safe.ite h.same.same (Safe.ite h.same.same h.same.setHealth.logEvent)
  · exact Safe.ite h.same.same (Safe.ite h.same.same h.same.setHealth.logEvent)
  · exact h.same

theorem Safe.startMigration {s : State} (h : Safe s) {n : Nat} : Safe (s.startMigration n) := by
  unfold State.startMigration
  refine Safe.ite h ?_
  split
  · exact h
  · exact h.same.logEvent

theorem Safe.restartCopies {s : State} (h : Safe s) : Safe s.restartCopies := by
  unfold State.restartCopies
  refine h.each fun _ _ ht => ?_
  split
  · exact Safe.ite ht.same ht
  · exact ht

theorem Safe.moveDramBuffers {s : State} (h : Safe s) : Safe s.moveDramBuffers := by
  unfold State.moveDramBuffers
  refine h.each fun _ _ ht => ?_
  split
  · exact Safe.ite ht.same ht
  · exact ht

theorem Safe.startMigrations {s : State} (h : Safe s) : Safe s.startMigrations := Safe.ite h (h.each fun _ _ ht => ht.startMigration)

theorem Safe.fenceRanks {s : State} (h : Safe s) : Safe s.fenceRanks :=
  h.each fun _ _ ht => Safe.ite (ht.wr.logEvent.perhaps fun hu => hu.wr.logEvent) ht

theorem Safe.moveTiles {s : State} (h : Safe s) {n : Nat} : Safe (s.moveTiles n) := by
  unfold State.moveTiles
  refine h.each fun t x ht => Safe.ite ht ?_
  split
  · exact ht
  · exact of_parts ht.objs (Memory.wf_copy _ _ _ _ ht.mem) ht.log

theorem Safe.copyDone {s : State} (h : Safe s) {n : Nat} : Safe (s.copyDone n) := by
  unfold State.copyDone
  extract_lets x
  split
  · exact h
  · refine Safe.ite h (Safe.startMigrations ?_)
    exact Safe.same (Safe.ite h.wr.moveTiles (of_parts h.wr.objs (Memory.wf_copy _ _ _ _ h.mem) h.wr.log))

theorem Safe.cutover {s : State} (h : Safe s) {n : Nat} : Safe (s.cutover n) := by
  unfold State.cutover
  dsimp only
  split
  · exact h
  · exact Safe.ite h h.same.logEvent

theorem Safe.cutoverAtLatch {s : State} (h : Safe s) {k : Nat} : Safe (s.cutoverAtLatch k) := h.each fun _ _ ht => ht.cutover

theorem Safe.cutoverAtStart {s : State} (h : Safe s) {uses : List Nat} : Safe (s.cutoverAtStart uses) := h.each fun _ _ ht => Safe.ite ht.cutover ht

theorem Safe.balance {s : State} (h : Safe s) {t : Thresholds} {util : List (Fin 8 × Nat)} : Safe (s.balance t util) := by
  unfold State.balance
  dsimp only
  split
  · refine Safe.ite h ?_
    split
    · exact h.startMigration
    · exact h
  · exact h

theorem Safe.credit {s : State} (h : Safe s) {durationNs : Nat} : Safe (s.credit durationNs) :=
  ((h.each fun _ _ ht => ht.same).same.each fun _ _ ht => ht.same).each fun _ _ ht => ht.same

theorem Safe.measure {s : State} (h : Safe s) {rates : List (Fin 16384 × Nat)} : Safe (s.measure rates) := h.each fun _ _ ht => ht.same

/-! The Reel (R95 to R136). -/

theorem Safe.writeCritRects {s : State} (h : Safe s) {k v : Nat} : Safe (s.writeCritRects k v).2 := Safe.snd_ite h h.wr.same.snd

theorem Safe.latchCritRects {s : State} (h : Safe s) {k : Nat} : Safe (s.latchCritRects k) := Safe.ite h.same h

theorem Safe.writeSubstTable {s : State} (h : Safe s) {v : Nat} : Safe (s.writeSubstTable v).2 := Safe.snd_ite h h.wr.snd

theorem Safe.substCheckFails {s : State} (h : Safe s) {i : Nat} : Safe (s.substCheckFails i) := h.wr.logEvent

theorem Safe.writeScanMode {s : State} (h : Safe s) {k v : Nat} : Safe (s.writeScanMode k v).2 := Safe.snd_ite h.plainWrite.wrBit.snd h.plainWrite

theorem Safe.latchScanMode {s : State} (h : Safe s) {k : Nat} : Safe (s.latchScanMode k) := Safe.ite h (Safe.ite h.wrBit h.wrBit.same.wrBit.logEvent)

theorem Safe.reelUe {s : State} (h : Safe s) {slice owner : Nat} {injected fails : Bool} : Safe (s.reelUe slice owner injected fails) :=
  h.count.logInjected.perhaps fun hu => hu.failUnit

theorem Safe.scanUe {s : State} (h : Safe s) {k slice : Nat} {injected fails : Bool} : Safe (s.scanUe k slice injected fails) := h.reelUe.wrBit

theorem Safe.slip {s : State} (h : Safe s) {k y : Nat} {injected : Bool} : Safe (s.slip k y injected) :=
  Safe.ite h h.same.logInjected.wrBit.count.wr.wrBit

theorem Safe.abandon {s : State} (h : Safe s) {k lines : Nat} : Safe (s.abandon k lines) := h.same.logEvent.wrBit.wrBit

theorem Safe.raceFetch {s : State} (h : Safe s) {k y lines : Nat} : Safe (s.raceFetch k y lines) := by
  unfold State.raceFetch
  extract_lets g x lead led inj drawn slipped
  have hdrawn : Safe drawn := .snd_ite h.same.inject h.same
  have hslipped : Safe slipped := hdrawn.perhaps fun hu => hu.each fun _ _ hv => hv.slip
  exact .ite h (hslipped.perhaps fun hu => hu.each fun _ _ hv => hv.abandon)

theorem Safe.reelFetch {s : State} (h : Safe s) {k y : Nat} {badWord : Option (Fin 3072)} : Safe (s.reelFetch k y badWord) := by
  unfold State.reelFetch
  dsimp only
  split
  · exact h
  · split
    · exact (h.inject.perhaps fun hu => hu.count).scanUe
    · exact (h.inject.perhaps fun hu => hu.count).inject.perhaps fun hu => hu.scanUe

/-! Matte layers and colour (R137 to R177). -/

theorem Safe.checkSubst {s : State} (h : Safe s) {d : BitVec 512} {owner : Nat} {ok : Bool} : Safe (s.checkSubst d owner ok) :=
  Safe.ite (Safe.ite h.same.substCheckFails h.same) h

theorem Safe.markColour {s : State} (h : Safe s) {k : Nat} : Safe (s.markColour k) := h.wrBit.wrBit

theorem Safe.writeColour {s : State} (h : Safe s) {rq : Requester} {addr v : Nat} : Safe (s.writeColour rq addr v).2 :=
  Safe.snd_ite h (Safe.snd_ite h (Safe.snd_ite h.plainWrite h.plainWrite.nextOrder.same.markColour.snd))

theorem Safe.writeLutSwap {s : State} (h : Safe s) {k v : Nat} : Safe (s.writeLutSwap k v).2 := Safe.snd_ite h h.nextOrder.same.markColour.snd

theorem Safe.writeLutBlock {s : State} (h : Safe s) {k j v : Nat} : Safe (s.writeLutBlock k j v).2 := Safe.snd_ite h h.same.snd

theorem Safe.latchColour {s : State} (h : Safe s) {k n : Nat} : Safe (s.latchColour k n) := by
  unfold State.latchColour
  dsimp only
  split
  · exact Safe.ite h.same.same.same.wr.markColour.logEvent h.same.same.markColour
  · exact h.same.same.markColour

/-! Compositions. -/

theorem Safe.idleEngine {s : State} (h : Safe s) {e : Nat} : Safe (s.idleEngine e) := Safe.ite h h.wr.wr

theorem Safe.unbindLayers {s : State} (h : Safe s) {e : Nat} : Safe (s.unbindLayers e) := h.same

theorem Safe.bindLayers {s : State} (h : Safe s) {k : Nat} {c : Composition} {half e : Nat} : Safe (s.bindLayers k c half e) :=
  h.unbindLayers.each fun _ _ ht => ht.nextOrder.same

theorem Safe.startEngine {s : State} (h : Safe s) {k : Nat} {c : Composition} {half e : Nat} : Safe (s.startEngine k c half e) := h.bindLayers.wr.wr

theorem Safe.modComp {s : State} (h : Safe s) {k id : Nat} {f : Composition → Composition} : Safe (s.modComp k id f) := h.same

theorem Safe.assign {s : State} (h : Safe s) {k id half e : Nat} : Safe (s.assign k id half e) := by
  unfold State.assign
  dsimp only
  split
  · exact h.same.modComp.startEngine
  · exact h.same.modComp

theorem Safe.giveEngines {s : State} (h : Safe s) : Safe s.giveEngines := by
  unfold State.giveEngines
  refine h.each fun _ _ ht => ht.each fun _ _ hu => hu.each fun _ _ hw => Safe.ite hw ?_
  split
  · exact hw.assign.perhaps fun hu => hu.logEvent
  · exact hw

theorem Safe.releaseSplit {s : State} (h : Safe s) {k : Nat} : Safe (s.releaseSplit k) := by
  unfold State.releaseSplit
  dsimp only
  split
  · exact h.same.unbindLayers.idleEngine.logEvent
  · exact h.same

theorem Safe.endSplit {s : State} (h : Safe s) : Safe s.endSplit.2 := by
  unfold State.endSplit
  split
  · exact h
  · exact Safe.snd_ite h.same.snd h.releaseSplit.snd

theorem Safe.bindHalf {s : State} (h : Safe s) {k half : Nat} : Safe (s.bindHalf k half) := by
  unfold State.bindHalf
  refine Safe.ite h ?_
  split
  · exact Safe.ite (Safe.ite h.unbindLayers.idleEngine h).same (Safe.ite h.unbindLayers.idleEngine h).same.logEvent
  · refine Safe.ite ?_ (h.endSplit.logEvent.perhaps fun hu => hu.same)
    split
    · exact Safe.ite (h.endSplit.perhaps fun hu => hu.unbindLayers.idleEngine).same (h.endSplit.perhaps fun hu =>
        hu.unbindLayers.idleEngine).same.logEvent
    · exact h.endSplit.same

theorem Safe.releaseEngines {s : State} (h : Safe s) {k : Nat} : Safe (s.releaseEngines k) :=
  (h.same.each fun _ _ ht => ht.unbindLayers.idleEngine).giveEngines

theorem Safe.decideSplit {s : State} (h : Safe s) {k est : Nat} : Safe (s.decideSplit k est) := by
  unfold State.decideSplit
  refine Safe.ite h (Safe.ite (Safe.ite h.releaseSplit h) (Safe.ite h ?_))
  split
  · exact h.same.logEvent
  · exact h.logEvent

theorem Safe.rejectPart {s : State} (h : Safe s) {k : Nat} {f : Nat × Nat} {cs : List Commit} : Safe (s.rejectPart k f cs) :=
  h.count.logEvent.each fun _ _ ht => ht.complete

theorem Safe.markSolid {s : State} (h : Safe s) {k : Nat} {ls : List (Nat × BitVec 512 × Nat)} : Safe (s.markSolid k ls) := by
  unfold State.markSolid
  split
  · exact Safe.ite h.wrBit.logEvent h.wrBit
  · exact h.wrBit

theorem Safe.injectEngine {s : State} (h : Safe s) {k e : Nat} : Safe (s.injectEngine k e) := by
  unfold State.injectEngine
  dsimp only
  split
  · exact h.inject
  · exact h.inject.logInjected.perhaps fun hu => hu.failUnit

theorem Safe.startComposition {s : State} (h : Safe s) {k : Nat} {c : Composition} {atLatchPoint : Bool} :
    Safe (s.startComposition k c atLatchPoint) :=
  (((Safe.ite h.decideSplit h).same.each fun _ _ ht => ht.bindHalf).same.each fun _ _ ht => Safe.ite ht.injectEngine ht).each fun _ _ ht => Safe.ite
    ht (Safe.ite (ht.bindHalf.perhaps fun hu => hu.assign) ht.assign)

theorem Safe.latchInto {s : State} (h : Safe s) {k : Nat} {cs : List Commit} {buffer : Nat} {atLatchPoint heldAnyway : Bool} :
    Safe (s.latchInto k cs buffer atLatchPoint heldAnyway) := by
  unfold State.latchInto
  extract_lets x prev shadow stale failN failC bad normal critical good keep layers t staleNow frame warned held last latched
  clear_value failN failC
  have hnormal : Safe normal := by
    dsimp only [normal]
    split
    · exact h.rejectPart
    · exact h
  have hcritical : Safe critical := by
    dsimp only [critical]
    split
    · exact hnormal.rejectPart
    · exact hnormal
  have ht : Safe t := hcritical.same
  have hwarned : Safe warned := ht.each fun _ _ hu => hu.count.logEvent
  have hheld : Safe held := hwarned.perhaps fun hw => hw.each fun _ _ hu => hu.logEvent
  have hlatched : Safe latched := by
    dsimp only [latched]
    split
    · exact hheld.each fun _ _ hu => hu.latchColour
    · exact hheld
  exact .ite ht (hlatched.each fun _ _ hu => hu.count.logEvent).markSolid.nextOrder.startComposition

theorem Safe.latchOpportunity {s : State} (h : Safe s) {k line : Nat} {atLatchPoint : Bool} : Safe (s.latchOpportunity k line atLatchPoint) := by
  unfold State.latchOpportunity
  refine Safe.ite h ?_
  split
  · exact Safe.ite h.same h
  · exact Safe.ite h h.latchInto

theorem Safe.closeGuards {s : State} (h : Safe s) {f : Guard → Bool} : Safe (s.closeGuards f) := h.same.each fun _ _ ht => Safe.ite ht ht.same

theorem Safe.compositionDone {s : State} (h : Safe s) {k : Nat} {c : Composition} : Safe (s.compositionDone k c) :=
  (h.modComp.perhaps fun hu => hu.same).closeGuards

theorem Safe.engineFaults {s : State} (h : Safe s) {e : Nat} : Safe (s.engineFaults e) := by
  unfold State.engineFaults
  split
  · exact h.failUnit.wr.wr
  · exact (h.failUnit.wr.wr.logEvent.unbindLayers.bindHalf.modComp.each fun _ _ ht => Safe.ite ht.assign ht).giveEngines

/-! Guards of outputs (R293, R336 to R338). -/

theorem Safe.dropSlot {s : State} (h : Safe s) {n : Nat} : Safe (s.dropSlot n) := Safe.ite h h.writeSlotControl

theorem Safe.armVictim {s : State} (h : Safe s) {k : Nat} {pos : Spos} {i : Nat} : Safe (s.armVictim k pos i) := by
  unfold State.armVictim
  split
  · exact Safe.ite h.same.writeSlotControl.armFor h.same
  · split
    · exact h
    · exact h.armFor.perhaps fun hu => hu.same

theorem Safe.reconsider {s : State} (h : Safe s) {k : Nat} : Safe (s.reconsider k) := by
  unfold State.reconsider
  split
  · exact h
  · exact Safe.ite h (Safe.ite (h.same.each fun _ _ ht => ht.dropSlot) ((h.same.each fun _ _ ht => ht.dropSlot).each fun _ _ ht => ht.armVictim))

theorem Safe.reconsiderAll {s : State} (h : Safe s) : Safe s.reconsiderAll := Safe.ite h (h.each fun _ _ ht => ht.reconsider)

theorem Safe.skipGuard {s : State} (h : Safe s) {k : Nat} : Safe (s.skipGuard k) := Safe.ite h.same.same h.same.logEvent

theorem Safe.armGuard {s : State} (h : Safe s) {k : Nat} : Safe (s.armGuard k) := Safe.ite h.same (Safe.ite h.same.skipGuard h.same.reconsider)

theorem Safe.rearmGuards {s : State} (h : Safe s) : Safe s.rearmGuards := by
  unfold State.rearmGuards
  refine h.each fun _ _ ht => ?_
  split
  · exact ht
  · exact Safe.ite ht (Safe.ite (ht.same.each fun _ _ hu => hu.dropSlot).skipGuard (ht.same.each fun _ _ hu => hu.dropSlot).reconsider)

theorem Safe.guardExpires {s : State} (h : Safe s) {k : Nat} : Safe (s.guardExpires k) := Safe.ite h h.closeGuards.logEvent

/-! Display-port links (R221 to R248). -/

theorem Safe.setPs {s : State} (h : Safe s) {p b : Nat} {v : Bool} : Safe (s.setPs p b v) := h.wrBit

theorem Safe.train {s : State} (h : Safe s) {p : Nat} {list again : List LinkConfig} : Safe (s.train p list again) :=
  Safe.ite h.same.setPs h.same.setPs.same

theorem Safe.startTraining {s : State} (h : Safe s) {p k : Nat} : Safe (s.startTraining p k) := h.setPs.setPs.same.train.perhaps fun hu => hu.logEvent

theorem Safe.stopLink {s : State} (h : Safe s) {p : Nat} : Safe (s.stopLink p) := h.same.setPs.setPs.setPs.setPs.setPs.setPs.wr.same

theorem Safe.writeLaneMap {s : State} (h : Safe s) {p v : Nat} : Safe (s.writeLaneMap p v).2 := Safe.snd_ite h h.wr.snd

theorem Safe.writeMaxLanes {s : State} (h : Safe s) {p v : Nat} : Safe (s.writeMaxLanes p v).2 := Safe.snd_ite h (Safe.snd_ite h.wr.snd h)

theorem Safe.writeMaxRate {s : State} (h : Safe s) {p v : Nat} : Safe (s.writeMaxRate p v).2 := Safe.snd_ite h.wr.snd h

theorem Safe.writePortConfig {s : State} (h : Safe s) {p v : Nat} : Safe (s.writePortConfig p v).2 := Safe.snd_ite h h.plainWrite

theorem Safe.writeSeq {s : State} (h : Safe s) {addr v : Nat} : Safe (s.writeSeq addr v).2 := Safe.snd_ite h.wr.snd h

theorem Safe.writePort {s : State} (h : Safe s) {addr v : Nat} : Safe (s.writePort addr v).2 := by
  unfold State.writePort
  refine Safe.snd_ite h ?_
  split
  · exact h.writePortConfig
  · exact h.writeMaxLanes
  · exact h.writeMaxRate
  · exact h.writeLaneMap
  · exact h.writeSeq
  · exact h.writeSeq
  · exact h.writeSeq
  · exact h.plainWrite

theorem Safe.writePanelModes {s : State} (h : Safe s) {k v : Nat} : Safe (s.writePanelModes k v).2 := Safe.snd_ite h.wr.snd h

theorem Safe.fillSinkModes {s : State} (h : Safe s) {p k : Nat} : Safe (s.fillSinkModes p k) := Safe.ite h.same.wr h

/-! Output channels (R178 to R218). -/

theorem Safe.enter {s : State} (h : Safe s) {k : Nat} {x : OutState} : Safe (s.enter k x) := h.same.wr

theorem Safe.enterAll {s : State} (h : Safe s) {g : Nat} {x : OutState} : Safe (s.enterAll g x) := h.each fun _ _ ht => ht.enter

theorem Safe.setTotals {s : State} (h : Safe s) {k t : Nat} {i : OutIntent} : Safe (s.setTotals k t i) := h.wr.wr

theorem Safe.setTiming {s : State} (h : Safe s) {g : Nat} {i : OutIntent} : Safe (s.setTiming g i) := h.each fun _ _ ht => ht.wr.setTotals

theorem Safe.endShown {s : State} (h : Safe s) {g : Nat} : Safe (s.endShown g) := by
  unfold State.endShown
  split
  · exact h
  · exact (h.each fun _ _ ht => ht.completeAt).same

theorem Safe.latchIntent {s : State} (h : Safe s) {g : Nat} : Safe (s.latchIntent g) := by
  unfold State.latchIntent
  split
  · exact h
  · exact h.same.each fun _ _ ht => ht.setTotals

theorem Safe.latchMode {s : State} (h : Safe s) {g : Nat} : Safe (s.latchMode g) := h.same.perhaps fun hu => hu.logEvent

theorem Safe.latchReturn {s : State} (h : Safe s) {g : Nat} : Safe (s.latchReturn g) := Safe.ite (h.same.each fun _ _ ht => ht.leaveDram) h

theorem Safe.latchPoint {s : State} (h : Safe s) {g : Nat} : Safe (s.latchPoint g) := by
  unfold State.latchPoint
  dsimp only
  refine Safe.latchOpportunity ?_
  split
  · exact ((h.endShown.same.latchIntent.latchMode.each fun _ _ ht => ht.latchCritRects.latchScanMode.switchDram).latchReturn.each fun _ _ ht =>
      ht.cutoverAtLatch).each fun _ _ ht => ht.reassignBuffer
  · exact (h.endShown.same.latchIntent.latchMode.each fun _ _ ht => ht.latchCritRects.latchScanMode.switchDram).latchReturn.each fun _ _ ht =>
      ht.cutoverAtLatch

theorem Safe.startPixel {s : State} (h : Safe s) {g : Nat} : Safe (s.startPixel g) := (Safe.ite h h.wr.wr.wr.wr).each fun _ _ ht => ht.wr.wr.wr

theorem Safe.idlePlls {s : State} (h : Safe s) : Safe s.idlePlls := h.each fun _ _ ht => Safe.ite ht ht.wr.wr.wr.wr

theorem Safe.stopPixel {s : State} (h : Safe s) {k : Nat} : Safe (s.stopPixel k) := h.wr.idlePlls

theorem Safe.tryRaster {s : State} (h : Safe s) {k : Nat} : Safe (s.tryRaster k) :=
  Safe.ite h (h.startPixel.each fun _ _ ht => ht.wr.wr).same.latchPoint

theorem Safe.finishIntents {s : State} (h : Safe s) : Safe s.finishIntents := by
  unfold State.finishIntents
  dsimp only
  refine h.each fun _ _ ht => ?_
  split
  · exact Safe.ite ht.same.complete.tryRaster ht
  · exact ht

theorem Safe.allocate {s t : State} (h : Safe s) {g : Nat} {i : OutIntent} (allocated : s.allocate g i = some t) : Safe t := by
  unfold State.allocate at allocated
  dsimp only at allocated
  split at allocated
  · exact Option.some.inj allocated ▸ h
  · split at allocated
    · cases allocated
    next backed =>
      refine Option.some.inj allocated ▸ Safe.same (Safe.each (h.backOutput backed) (l := _) (f := _) fun t x ht => ?_)
      exact Safe.ite ht.switchDram ht

theorem Safe.startOutput {s : State} (h : Safe s) {k : Nat} : Safe (s.startOutput k) := by
  unfold State.startOutput
  dsimp only
  split
  · refine Safe.ite h (Safe.ite h.logEvent ?_)
    split
    · exact h.setTiming
    next allocated =>
      have placed := Safe.allocate h.setTiming allocated
      exact Safe.ite (Safe.logEvent (Safe.each placed.enter.wrBit fun _ _ ht => ht.setPs)) placed.enter.wrBit.startTraining
  · exact h

theorem Safe.startAll {s : State} (h : Safe s) {g : Nat} : Safe (s.startAll g) := h.each fun _ _ ht => ht.startOutput

theorem Safe.endStopped {s : State} (h : Safe s) {g : Nat} : Safe (s.endStopped g) := h.each fun _ _ ht => ht.finish

theorem Safe.endRaster {s : State} (h : Safe s) {g : Nat} : Safe (s.endRaster g) := h.endStopped.releaseEngines.closeGuards.same.same

theorem Safe.stopMember {s : State} (h : Safe s) {k named cause : Nat} {next : OutState} : Safe (s.stopMember k named cause next) := by
  unfold State.stopMember
  refine Safe.perhaps (Safe.stopPixel (Safe.enter (Safe.freeBacking ?_))) fun hu => hu.logEvent.coastIfLead
  split
  · exact h.stopLink.setPs
  · exact h

theorem Safe.stopOutput {s : State} (h : Safe s) {k cause : Nat} {next : OutState} : Safe (s.stopOutput k cause next) :=
  (h.endRaster.stopMember.each fun _ _ ht => Safe.ite ht.stopMember ht).reelReturn.finishIntents

theorem Safe.wakeOutput {s : State} (h : Safe s) {g from_ : Nat} : Safe (s.wakeOutput g from_) :=
  (h.enterAll.each fun _ _ ht => ht.setPs.same.same).same.latchPoint

theorem Safe.go {s : State} (h : Safe s) {g line : Nat} {shows : Bool} : Safe (s.go g line shows) := h.same

theorem Safe.goRepeat {s : State} (h : Safe s) {g line : Nat} : Safe (s.goRepeat g line) :=
  Safe.ite ((h.closeGuards.go.each fun _ _ ht => ht.count).enterAll.each fun _ _ ht => ht.same) (h.closeGuards.go.each fun _ _ ht => ht.count)

theorem Safe.decision {s : State} (h : Safe s) {g line : Nat} {progress : List (Bool × Nat)} : Safe (s.decision g line progress) := by
  unfold State.decision
  dsimp only
  split
  · exact Safe.ite h.latchOpportunity.go (h.latchOpportunity.perhaps fun hu => hu.goRepeat)
  · exact Safe.ite h.latchOpportunity.goRepeat (h.latchOpportunity.perhaps fun hu => hu.closeGuards)

theorem Safe.countFrame {s : State} (h : Safe s) {g : Nat} : Safe (s.countFrame g) := h.same.each fun _ _ ht => Safe.ite ht.wr ht.count

theorem Safe.endLead {s : State} (h : Safe s) {g : Nat} : Safe (s.endLead g) := by
  unfold State.endLead
  dsimp only
  refine Safe.same ?_
  split
  · exact h.each fun _ _ ht => ht.wr
  · exact h

theorem Safe.exchange {s : State} (h : Safe s) {g : Nat} {c : Composition} : Safe (s.exchange g c) := by
  unfold State.exchange
  dsimp only
  refine (h.each fun _ _ ht => Safe.wrBit ?_).same
  split
  · exact (Safe.ite ht.takeNextHold ht).same.same
  · exact (Safe.ite ht.takeNextHold ht).same

theorem Safe.flipWithout {s : State} (h : Safe s) {g : Nat} {c : Composition} : Safe (s.flipWithout g c) := h.same

theorem Safe.endWake {s : State} (h : Safe s) {g : Nat} : Safe (s.endWake g) := by
  unfold State.endWake
  split
  · exact h
  · exact h.same.enterAll.logEvent.perhaps fun hu => hu.logEvent

theorem Safe.portFrame {s : State} (h : Safe s) {k : Nat} : Safe (s.portFrame k) := by
  unfold State.portFrame
  dsimp only
  split
  · exact h
  · refine Safe.setPs ?_
    split
    · exact h.same.setPs.wr
    · exact h

theorem Safe.showFrame {s : State} (h : Safe s) {g : Nat} {c : Composition} : Safe (s.showFrame g c) :=
  (h.exchange.each fun _ _ ht => ht.wr).same.flipWithout.whenB fun _ ht => ht.endWake

theorem Safe.repeatFrame {s : State} (h : Safe s) {g : Nat} : Safe (s.repeatFrame g) := h.same.each fun _ _ ht => ht.wr

theorem Safe.frameStart {s : State} (h : Safe s) {g : Nat} : Safe (s.frameStart g) := by
  unfold State.frameStart
  split
  · refine Safe.perhaps (Safe.armGuard (Safe.same (Safe.each ?_ fun _ _ ht => (ht.reassignBuffer.perhaps fun hu => hu.enter.logEvent).portFrame)))
      fun hu => hu.reconsiderAll
    split
    · exact h.countFrame.endLead.showFrame
    · exact h.countFrame.endLead.repeatFrame
  · exact h

theorem Safe.strictAll {s : State} (h : Safe s) {cause : Nat} : Safe (s.strictAll cause) := (h.each fun _ _ ht => ht.wr).logEvent

theorem Safe.writeLatchMode {s : State} (h : Safe s) {rq : Requester} {k v : Nat} : Safe (s.writeLatchMode rq k v).2 :=
  Safe.snd_ite h (Safe.snd_ite h (Safe.snd_ite h (h.each fun _ _ ht => ht.wr).snd))

theorem Safe.writePairLock {s : State} (h : Safe s) {v : Nat} : Safe (s.writePairLock v).2 :=
  Safe.snd_ite h (Safe.snd_ite h (Safe.ite (h.wr.each fun _ _ ht => ht.wr) (h.wr.each fun _ _ ht => ht.wr).logEvent).snd)

theorem Safe.writeEnable {s : State} (h : Safe s) {k v : Nat} : Safe (s.writeEnable k v).2 := by
  unfold State.writeEnable
  refine Safe.snd_ite h (Safe.snd_ite (Safe.ite h.wr h.wr.stopOutput).snd ?_)
  split
  · exact h.wr.snd
  · exact Safe.snd_ite h (Safe.ite h.wr.enter h.wr).startAll.snd

theorem Safe.settleMoves {s : State} (h : Safe s) {k item : Nat} {moved own : List Nat} : Safe (s.settleMoves k item moved own) := by
  unfold State.settleMoves
  extract_lets t wait
  have ht : Safe t := h.each fun _ _ hu => .ite hu.switchDram hu
  clear_value t
  split
  · exact ht.finish
  · exact .ite ht.complete ht.same

theorem Safe.takeIntent {s : State} (h : Safe s) {k : Nat} {i : OutIntent} {r : State × List Nat × List Nat} (taken : s.takeIntent k i = some r) :
    Safe r.1 := by
  unfold State.takeIntent at taken
  extract_lets x ms idle same needs renew next stopped freed timed at taken
  split at taken
  · split at taken
    · exact Safe.backOutput h.same taken
    · exact Option.some.inj taken ▸ h.same
  · have hstopped : Safe stopped := Safe.ite h h.stopOutput
    have hfreed : Safe freed := hstopped.each fun t m ht => by
      refine Safe.ite (Safe.enter ?_) ht.freeBacking
      split
      · exact ht.freeBacking.stopLink
      · exact ht.freeBacking
    split at taken
    · cases taken
    next backed =>
      refine Option.some.inj taken ▸ Safe.each (Safe.backOutput (Safe.setTiming hfreed.same) backed) fun t m ht => ?_
      exact Safe.ite ht.enter ht

theorem Safe.judgeIntent {s : State} (h : Safe s) {owner k : Nat} {i : OutIntent} {scanStatus : State → Nat → OutIntent → Nat}
    {r : State × List Nat × List Nat} (judged : (s.judgeIntent owner k i scanStatus).2 = some r) : Safe r.1 := by
  unfold State.judgeIntent at judged
  split at judged
  · cases judged
  · dsimp only at judged
    split at judged
    · cases judged
    · split at judged
      · cases judged
      · split at judged
        · cases judged
        next taken => exact Option.some.inj judged ▸ h.takeIntent taken

theorem Safe.outputIntent {s : State} (h : Safe s) {it : Item} {owner : Nat} {scanStatus : State → Nat → OutIntent → Nat} :
    Safe (s.outputIntent it owner scanStatus) := by
  unfold State.outputIntent
  dsimp only
  split
  next judged => exact Safe.startAll (Safe.settleMoves (h.judgeIntent (congrArg Prod.snd judged)))
  · exact h.finish

/-! The display ports' commands. -/

theorem Safe.plugged {s : State} (h : Safe s) {k p : Nat} : Safe (s.plugged k p) := h.logEvent.fillSinkModes.startOutput

theorem Safe.writeOutPort {s : State} (h : Safe s) {k v : Nat} : Safe (s.writeOutPort k v).2 := by
  unfold State.writeOutPort
  refine Safe.snd_ite h (Safe.snd_ite h (Safe.snd_ite h (Safe.snd_ite h (Safe.snd (Safe.perhaps (Safe.wr ?_) fun hu => hu.plugged)))))
  split
  · exact h.stopLink
  · exact h

theorem Safe.linkLost {s : State} (h : Safe s) {p : Nat} {injected : Bool} : Safe (s.linkLost p injected) := by
  unfold State.linkLost
  split
  · exact Safe.ite h (h.setPs.setPs.logInjected.perhaps fun hu => hu.same).train
  · exact h

theorem Safe.writeRetrain {s : State} (h : Safe s) {p v : Nat} : Safe (s.writeRetrain p v).2 := by
  unfold State.writeRetrain
  split
  · exact Safe.snd_ite h.startTraining.snd h
  · exact h

/-! Jobs of the Raster Array. -/

theorem Safe.addWork {s : State} (h : Safe s) {j : Job} {new : List WorkItem} : Safe (s.addWork j new) := h.same

theorem Safe.freePages {s : State} (h : Safe s) {j : Nat} : Safe (s.freePages j) := h.same.same

theorem Safe.settleRevokes {s : State} (h : Safe s) : Safe s.settleRevokes := h.each fun _ _ ht => Safe.ite ht.same ht.same.finish

theorem Safe.settleDestroys {s : State} (h : Safe s) : Safe s.settleDestroys :=
  h.each fun _ _ ht => Safe.ite ht (ht.same.each fun _ _ hu => hu.finish)

theorem Safe.writeReport {s : State} (h : Safe s) {j : Job} : Safe (s.writeReport j) := Safe.ite h h.store

theorem Safe.loseTargets {s : State} (h : Safe s) {d : BitVec 512} : Safe (s.loseTargets d) :=
  Safe.ite h (h.each fun _ _ ht => (Safe.ite ht.forgetBytes ht).perhaps fun hu => hu.forgetBytes)

theorem Safe.endJob {s : State} (h : Safe s) {j : Job} {status detail : Nat} : Safe (s.endJob j status detail) :=
  (Safe.ite h.writeReport h).freePages.same.same.complete.settleRevokes.settleDestroys.each fun _ _ ht => ht.releaseIfFree

theorem Safe.failJob {s : State} (h : Safe s) {j : Job} {status detail : Nat} : Safe (s.failJob j status detail) :=
  (Safe.ite h.loseTargets h).tallyCount.endJob.logInjected

theorem Safe.finishJob {s : State} (h : Safe s) {j : Job} : Safe (s.finishJob j) := h.endJob

theorem Safe.queueJob {s : State} (h : Safe s) {it : Item} : Safe (s.queueJob it) := h.same

theorem Safe.refuseJob {s : State} (h : Safe s) {it : Item} {status : Nat} : Safe (s.refuseJob it status) := h.complete.logEvent

theorem Safe.injectTimeout {s : State} (h : Safe s) {j : Job} : Safe (s.injectTimeout j).2 := by
  unfold State.injectTimeout
  dsimp only
  split
  · exact h.inject.snd
  · exact h.inject.same.snd

/-! Resident jobs of the Raster Array. -/

theorem Safe.appendPrim {s t : State} (h : Safe s) {j : Job} {d : BitVec 512} {p : Nat × List Nat}
    (appended : s.appendPrim j d p = some t) : Safe t := by
  unfold State.appendPrim at appended
  dsimp only at appended
  split at appended
  · exact Option.some.inj appended ▸ h.same
  · cases appended

theorem Safe.queueTiles {s : State} (h : Safe s) {j : Job} {d : BitVec 512} : Safe (s.queueTiles j d) := h.same.addWork

theorem Safe.partialPass {s : State} (h : Safe s) {j : Job} {d : BitVec 512} : Safe (s.partialPass j d) := h.same.count.queueTiles

theorem Safe.pbExhausted {s : State} (h : Safe s) {j : Job} : Safe (s.pbExhausted j) := h.count.logEvent.failJob

theorem Safe.binPrims {s : State} (h : Safe s) {item : Nat} {d : BitVec 512} {l : List (Nat × List Nat)} : Safe (s.binPrims item d l) := by
  induction l generalizing s with
  | nil => exact h.same
  | cons p l ih =>
    unfold State.binPrims
    split
    · exact h
    · split
      next appended => exact ih (h.appendPrim appended)
      · exact Safe.ite h.pbExhausted h.partialPass

theorem Safe.clusterFails {s : State} (h : Safe s) {c : Nat} {injected : Bool} : Safe (s.clusterFails c injected) := by
  unfold State.clusterFails
  refine (Safe.ite (Safe.ite h.failUnit h).same.logInjected ((Safe.ite h.failUnit h).same.each fun _ _ ht => ht.logInjected)).each fun _ _ ht => ?_
  split
  · exact ht.failJob
  · exact ht

theorem Safe.storeTile {s : State} (h : Safe s) {d : BitVec 512} {t n base stride px : Nat} {bytes : List (BitVec 8)} :
    Safe (s.storeTile d t n base stride px bytes).1 :=
  List.foldlRecOn (motive := fun a : State × Bool => Safe a.1) _ _ h fun _ ha _ _ => ha.store

theorem Safe.finishAttachment {s : State} (h : Safe s) {j : Job} {d : BitVec 512} {t : Nat} {a : Nat × List (BitVec 8) × List (BitVec 8)} :
    Safe (s.finishAttachment j d t a).1 := by
  unfold State.finishAttachment
  extract_lets e px stored sig r resolved signed
  have hstored : Safe (stored s).1 := Safe.fst_ite h.storeTile h
  have hresolved : Safe resolved.1 := Safe.fst_ite hstored.storeTile hstored
  have hsigned : Safe signed.1 := Safe.fst_ite hresolved.store hresolved
  refine Safe.fst_ite hstored ?_
  split
  · exact h.same
  · exact hsigned

theorem Safe.loseScratch {s : State} (h : Safe s) {d : BitVec 512} : Safe (s.loseScratch d) := Safe.ite h h.forgetBytes

theorem Safe.shaderWrites {s : State} (h : Safe s) {owner : Nat} {ws : List (Nat × Nat × List (BitVec 8))} : Safe (s.shaderWrites owner ws).1 :=
  List.foldlRecOn (motive := fun a : State × Bool => Safe a.1) _ _ h fun _ ha _ _ => Safe.fst_ite ha.store ha

theorem Safe.setFeedback {s : State} (h : Safe s) {owner : Nat} {fs : List (Nat × Nat × Nat)} : Safe (s.setFeedback owner fs) :=
  h.each fun _ _ ht => Safe.ite ht.store ht

theorem Safe.debit {s : State} (h : Safe s) {owner ns : Nat} : Safe (s.debit owner ns) := Safe.ite h.same h

theorem Safe.ownerMismatch {s : State} (h : Safe s) {owner addr slot : Nat} {injected : Bool} : Safe (s.ownerMismatch owner addr slot injected) :=
  h.logInjected

theorem Safe.itemDone {s : State} (h : Safe s) {j : Job} {d : BitVec 512} {w : WorkItem} {r : WorkResult} : Safe (s.itemDone j d w r).1 := by
  unfold State.itemDone
  extract_lets a fed missed rendered lost
  have hmissed : Safe missed := Safe.same (s := fed) h.shaderWrites.setFeedback
  refine Safe.fst_ite ?_ hmissed
  have hlost : Safe lost := Safe.ite (Safe.loseScratch (Safe.same (s := missed) hmissed)) (Safe.same (s := missed) hmissed)
  exact List.foldlRecOn (motive := fun a : State × Bool => Safe a.1) _ _ hlost fun _ ha _ _ => Safe.fst_ite ha.finishAttachment ha

theorem Safe.afterJobs {s : State} (h : Safe s) {o q type : Nat} {p : BitVec 512 → Bool} {f : State → Item → State} (hf : ∀ t it, Safe t → Safe
    (f t it)) :
    Safe (s.afterJobs o q type p f) := by
  unfold State.afterJobs
  split
  · exact h
  · exact Safe.ite h (h.onItemIf hf)

theorem Safe.bindTiles {s t : State} (h : Safe s) {n : Nat} {l : List Nat} (bound : s.bindTiles n l = some t) : Safe t := by
  induction l generalizing s with
  | nil => exact Option.some.inj bound ▸ h
  | cons i l ih =>
    unfold State.bindTiles at bound
    dsimp only at bound
    split at bound
    · exact ih h bound
    · split at bound
      · cases bound
      · exact ih (of_parts h.objs (Memory.wf_drop _ _ h.mem) h.log) bound

/-! Pipelines and the translation cache (R287 to R292). -/

theorem Safe.touch {s : State} (h : Safe s) {owner key : Nat} : Safe (s.touch owner key) := by
  unfold State.touch
  split
  · exact h
  · exact h.same

theorem Safe.createPipeline {s : State} (h : Safe s) {item owner : Nat} {graphics : Bool} {keys : List Nat} :
    Safe (s.createPipeline item owner graphics keys) := by
  unfold State.createPipeline
  split
  · exact h.finish
  · exact (h.each fun _ _ ht => ht.touch).same.complete

theorem Safe.evictFor {s : State} (h : Safe s) {c : Creating} {need : Nat} {l : List Translation} : Safe (s.evictFor c need l).2 := by
  induction l generalizing s with
  | nil => exact h
  | cons t l ih => exact Safe.snd_ite h (Safe.snd_ite (ih h.same) (ih h))

theorem Safe.logEvicted {s : State} (h : Safe s) {ts : List Translation} : Safe (s.logEvicted ts) := h.each fun _ _ ht => ht.logEvent

/-! Device DRAM (R342 to R389). -/

theorem Safe.setDebt {s : State} (h : Safe s) {m : Nat} {d : Int} : Safe (s.setDebt m d) := h.wr

theorem Safe.applyRecentre {s : State} (h : Safe s) {m : Nat} : Safe (s.applyRecentre m) := h.wr.same

theorem Safe.allBank {s : State} (h : Safe s) {m : Nat} : Safe (s.allBank m) := h.applyRecentre.setDebt

theorem Safe.refreshWhile {s : State} (h : Safe s) {m : Nat} {floor : Int} {n : Nat} : Safe (s.refreshWhile m floor n) := by
  induction n generalizing s with
  | zero => exact h
  | succ n ih => exact Safe.ite (ih h.allBank) h

theorem Safe.refiTick {s : State} (h : Safe s) {m : Nat} : Safe (s.refiTick m) :=
  Safe.ite ((Safe.ite h.applyRecentre.count.logEvent h.setDebt).perhaps fun hu => hu.same.allBank)
    ((Safe.ite h.applyRecentre.count.logEvent h.setDebt).perhaps fun hu => hu.same.allBank).refreshWhile

theorem Safe.selfRefresh {s : State} (h : Safe s) {m : Nat} : Safe (s.selfRefresh m) := h.refreshWhile.wr

theorem Safe.leaveSelfRefresh {s : State} (h : Safe s) {m : Nat} : Safe (s.leaveSelfRefresh m) := h.setDebt.wr

theorem Safe.copiedTo {s : State} (h : Safe s) {copied : Nat} : Safe (s.copiedTo copied) := Safe.ite h.wr h

theorem Safe.degrade {s : State} (h : Safe s) {r : Nat} : Safe (s.degrade r) := h.wr.startMigrations.fenceRanks

theorem Safe.startSpare {s : State} (h : Safe s) {r : Nat} : Safe (s.startSpare r) := h.wr.wr.wr.wr.wr.same.logEvent

theorem Safe.abandonSpare {s : State} (h : Safe s) : Safe s.abandonSpare := h.wr.logEvent.wr.degrade

theorem Safe.rankFails {s : State} (h : Safe s) {r kind addr : Nat} {injected acts : Bool} : Safe (s.rankFails r kind addr injected acts) :=
  Safe.ite (Safe.ite h.logInjected.abandonSpare h) (Safe.ite h (Safe.ite h.logInjected (Safe.ite h.logInjected.wr.degrade
    (Safe.ite h.logInjected.startSpare h.logInjected.degrade))))

theorem Safe.pollRate {s : State} (h : Safe s) {m : Nat} {reads : List (Nat × Nat × Bool)} : Safe (s.pollRate m reads) :=
  Safe.ite (Safe.ite (h.same.each fun _ _ ht => ht.logInjected) h.same) (Safe.ite (Safe.ite h.same h.same) h.same)

theorem Safe.readBack {s : State} (h : Safe s) {r : Nat} {differs : Bool} : Safe (s.readBack r differs) := by
  unfold State.readBack
  refine Safe.ite h.count.rankFails ?_
  split
  next e => exact h.of_inject e
  next e => exact (h.of_inject e).count.rankFails

theorem Safe.afterSweep {s : State} (h : Safe s) {m r lane : Nat} {res : SweepResult} {injected : Bool} : Safe (s.afterSweep m r lane res injected) :=
  (Safe.ite h.wr.same.count.logInjected h.wr).perhaps fun hu => hu.logInjected

theorem Safe.poisonLine {s : State} (h : Safe s) {m a rank : Nat} : Safe (s.poisonLine m a rank) :=
  Safe.ite h (h.same.count.logEvent.each fun _ _ ht => ht.same)

theorem Safe.poisonedReader {s : State} (h : Safe s) {reader : DramReader} {injected : Bool} : Safe (s.poisonedReader reader injected) := by
  unfold State.poisonedReader
  dsimp only
  split
  · split
    · exact (Safe.ite h.same h).perhaps fun hu => hu.failJob
    · exact (Safe.ite h.same h).perhaps fun hu => hu.complete
    · exact Safe.ite h.same h
  · exact h.same.each fun _ _ ht => ht.same
  · exact h
  · exact h
  · exact h
  · exact h

theorem Safe.gafferCommit {s : State} (h : Safe s) : Safe s.gafferCommit := Safe.ite h.same h.same

theorem Safe.writeMemConf {s : State} (h : Safe s) {addr v : Nat} : Safe (s.writeMemConf addr v).2 := Safe.snd_ite h h.plainWrite

theorem Safe.writeSpareRank {s : State} (h : Safe s) {v : Nat} : Safe (s.writeSpareRank v).2 :=
  Safe.snd_ite h.plainWrite (Safe.snd_ite h (Safe.snd_ite h (Safe.snd_ite h h.plainWrite)))

theorem Safe.writeWatermark {s : State} (h : Safe s) {v : Nat} : Safe (s.writeWatermark v).2 := Safe.snd_ite h (Safe.snd_ite h h.plainWrite)

/-! LDP's channels as other blocks see them. -/

theorem Safe.countTxns {s : State} (h : Safe s) {ch : Nat} : Safe (s.countTxns ch) := Safe.ite h.wr h

theorem Safe.clearSlot {s : State} (h : Safe s) {n : Nat} : Safe (s.clearSlot n) := h.wr.wr.wr.wr.wr

theorem Safe.freeSession {s : State} (h : Safe s) {n : Nat} : Safe (s.freeSession n) := h.same.clearSlot

theorem Safe.closeSession {s : State} (h : Safe s) {n reason : Nat} : Safe (s.closeSession n reason) := by
  unfold State.closeSession
  split
  · exact h
  · exact h.same.freeSession.perhaps fun hu => hu.logEvent

theorem Safe.closeSessions {s : State} (h : Safe s) {reason : Nat} : Safe (s.closeSessions reason) := h.each fun _ _ ht => ht.closeSession

theorem Safe.sendOn {s : State} (h : Safe s) {n op tid status : Nat} {body : List (BitVec 8)} {keep : Option Nat} :
    Safe (s.sendOn n op tid status body keep) := by
  unfold State.sendOn
  split
  · exact h
  · exact Safe.ite h.closeSession h.same.same

theorem Safe.windowDone {s : State} (h : Safe s) {o op tid status : Nat} {body : List (BitVec 8)} : Safe (s.windowDone o op tid status body) :=
  h.same.same.perhaps fun hu => hu.same

theorem Safe.respond {s : State} (h : Safe s) {ch : Nat} {t : LdpTxn} {status : Nat} {body : List (BitVec 8)} : Safe (s.respond ch t status body) :=
  Safe.ite h (Safe.ite h.same.countTxns.tallyCount.sendOn h.same.countTxns.tallyCount.windowDone)

theorem Safe.answerChannel {s : State} (h : Safe s) {ch tid status : Nat} {body : List (BitVec 8)} : Safe (s.answerChannel ch tid status body) := by
  unfold State.answerChannel
  split
  · exact h.respond
  · exact h

theorem Safe.answerLate {s : State} (h : Safe s) {rq : Requester} {addr code : Nat} : Safe (s.answerLate rq addr code) := by
  unfold State.answerLate
  split
  · exact h.respond
  · split
    · exact Safe.ite h.same h
    · exact h.same

theorem Safe.abortWindows {s : State} (h : Safe s) : Safe s.abortWindows := h.each fun _ _ ht => ht.same.respond

theorem Safe.endWindow {s : State} (h : Safe s) {o : Nat} : Safe (s.endWindow o) := h.same

/-! The Bittern Island (R390 to R409). -/

theorem Safe.lockAssignment {s : State} (h : Safe s) {t : Nat} : Safe (s.lockAssignment t) := h.wr.wr.wr.wr.logEvent

theorem Safe.authFail {s : State} (h : Safe s) {source cred status : Nat} {injected : Bool} : Safe (s.authFail source cred status injected) :=
  h.logInjected

theorem Safe.unwrapNow {s : State} (h : Safe s) {rq : Requester} {c v : Nat} : Safe (s.unwrapNow rq c v).2 := by
  unfold State.unwrapNow
  refine Safe.snd_ite h ?_
  split
  · exact h.authFail.snd
  · exact h.wr.same.snd

theorem Safe.writeSecret {s : State} (h : Safe s) {rq : Requester} {c v : Nat} : Safe (s.writeSecret rq c v).2 :=
  Safe.snd_ite h.unwrapNow.snd h.same.snd

theorem Safe.takeBlobs {s : State} (h : Safe s) : Safe s.takeBlobs := h.same.each fun _ _ ht => ht.unwrapNow.answerLate

theorem Safe.failWaiting {s : State} (h : Safe s) : Safe s.failWaiting := by
  unfold State.failWaiting
  dsimp only
  split
  · exact (h.each fun _ _ ht => ht.finish).takeBlobs
  · exact (h.each fun _ _ ht => ht.finish).takeBlobs.same.logEvent.answerChannel

theorem Safe.haltBittern {s : State} (h : Safe s) {result : Nat} : Safe (s.haltBittern result) := h.wr.wr.logEvent.same.failWaiting

theorem Safe.bitOnRc {s : State} (h : Safe s) : Safe s.bitOnRc := h.wr.wr

theorem Safe.restartStep1 {s : State} (h : Safe s) {cause : Nat} {injected : Bool} {queued : List (Nat × Nat)} :
    Safe (s.restartStep1 cause injected queued) := h.wr.count.wr.wr.same.logInjected.bitOnRc.strictAll.discardBittern.each fun _ _ ht => ht.logEvent

theorem Safe.restartBittern {s : State} (h : Safe s) {cause : Nat} {injected : Bool} {queued : List (Nat × Nat)} :
    Safe (s.restartBittern cause injected queued) := Safe.ite h (Safe.ite h.same.haltBittern h.same.restartStep1)

theorem Safe.bitternFault {s : State} (h : Safe s) {d target cause : Nat} {genuine : Bool} {queued : List (Nat × Nat)} :
    Safe (s.bitternFault d target cause genuine queued) := by
  unfold State.bitternFault
  refine Safe.ite h.restartBittern ?_
  split
  next e => exact h.of_inject e
  next e => exact (h.of_inject e).restartBittern

theorem Safe.writeBitRestart {s : State} (h : Safe s) {rq : Requester} {v : Nat} {queued : List (Nat × Nat)} :
    Safe (s.writeBitRestart rq v queued).2 := (Safe.ite h.restartBittern h).snd

theorem Safe.measurePass {s : State} (h : Safe s) {b : BootImage} {restart : Bool} : Safe (s.measurePass b restart) := by
  unfold State.measurePass
  extract_lets digest result booted locked forgot keyed
  have hbooted : Safe booted := Safe.same (s := result) h.wr.wr.wr.wr
  have hlocked : Safe locked := Safe.ite hbooted hbooted.lockAssignment
  have hforgot : Safe forgot := Safe.ite hlocked (of_parts hlocked.objs (Memory.wf_drop _ _ hlocked.mem) hlocked.log)
  have hkeyed : Safe keyed := Safe.ite hforgot hforgot.same
  exact Safe.ite hbooted.wr (Safe.same (Safe.wr (Safe.same hkeyed)))

theorem Safe.measureFail {s : State} (h : Safe s) {result kind : Nat} {restart : Bool} : Safe (s.measureFail result kind restart) :=
  Safe.ite h.wr.logEvent.same (Safe.ite h.wr.logEvent.haltBittern.same h.wr.logEvent.haltBittern.same.same)

theorem Safe.writeBitReady {s : State} (h : Safe s) {v : Nat} : Safe (s.writeBitReady v).2 := by
  unfold State.writeBitReady
  dsimp only
  refine Safe.snd_ite h ?_
  split
  · exact h.wr.takeBlobs.snd
  · exact h.wr.takeBlobs.wr.logEvent.same.snd

theorem Safe.writeReelSlices {s : State} (h : Safe s) {v : Nat} : Safe (s.writeReelSlices v).2 := Safe.snd_ite h (Safe.snd_ite h h.plainWrite)

/-! Dailies slices. -/

theorem Safe.sliceResult {s : State} (h : Safe s) {n r : Nat} : Safe (s.sliceResult n r) := h.same

theorem Safe.endSlice {s : State} (h : Safe s) {n : Nat} : Safe (s.endSlice n) := Safe.ite h.same h.same.same

theorem Safe.abandonSlices {s : State} (h : Safe s) {p : Nat → Bool} {cause : Nat} : Safe (s.abandonSlices p cause) :=
  h.each fun _ _ ht => ht.sliceResult.endSlice.logEvent

theorem Safe.abandonUnit {s : State} (h : Safe s) {u : SliceUnit} {cause : Nat} : Safe (s.abandonUnit u cause) := h.abandonSlices

/-! Quag haptics (R482 to R500). -/

theorem Safe.writeRamEffects {s : State} (h : Safe s) {v : Nat} : Safe (s.writeRamEffects v).2 := Safe.snd_ite h h.plainWrite

theorem Safe.setHap {s : State} (h : Safe s) {c : Nat} {x : Hap} : Safe (s.setHap c x) := h.same.wr.wr.wrBit

theorem Safe.drive {s : State} (h : Safe s) {c : Nat} {p : HapPlay} : Safe (s.drive c p).1 :=
  Safe.fst_ite (Safe.fst_ite h.wrBit.fst h.wrBit.logEvent.fst) h

theorem Safe.endEffect {s : State} (h : Safe s) {c effect source result : Nat} : Safe (s.endEffect c effect source result) :=
  Safe.ite h.count.tallyCount h.count.tallyCount.logEvent

theorem Safe.startPulse {s : State} (h : Safe s) {c : Nat} {p : HapPlay} : Safe (s.startPulse c p).1 := h.inject.fst

theorem Safe.startEffect {s : State} (h : Safe s) {c : Nat} {q : HapQueued} : Safe (s.startEffect c q) := by
  unfold State.startEffect
  dsimp only
  split
  · exact h.setHap.endEffect
  · exact h.startPulse.drive.setHap

theorem Safe.nextEffect {s : State} (h : Safe s) {c : Nat} : Safe (s.nextEffect c) := by
  unfold State.nextEffect
  dsimp only
  split
  · exact h.setHap
  · exact h.setHap.startEffect

theorem Safe.finishEffect {s : State} (h : Safe s) {c : Nat} {p : HapPlay} {result : Nat} : Safe (s.finishEffect c p result) := h.endEffect.nextEffect

theorem Safe.dropQueued {s : State} (h : Safe s) {c : Nat} : Safe (s.dropQueued c) := by
  unfold State.dropQueued
  dsimp only
  split
  · exact h
  · exact h.setHap.endEffect

theorem Safe.abortHap {s : State} (h : Safe s) {c : Nat} : Safe (s.abortHap c) := by
  unfold State.abortHap
  dsimp only
  split
  · refine Safe.endEffect ?_
    split
    · exact h.setHap.endEffect
    · exact h.setHap
  · split
    · exact h.setHap.endEffect
    · exact h.setHap

theorem Safe.abortSweep {s : State} (h : Safe s) {c : Nat} : Safe (s.abortSweep c) := Safe.ite h.setHap.logEvent h

theorem Safe.cutEffect {s : State} (h : Safe s) {c : Nat} {p : HapPlay} : Safe (s.cutEffect c p) := by
  unfold State.cutEffect
  refine Safe.ite ?_ h.setHap
  split
  · exact h.setHap
  · exact h.finishEffect

theorem Safe.meet {s : State} (h : Safe s) {c effect source : Nat} {critical : Bool} : Safe (s.meet c effect source critical) := by
  unfold State.meet
  extract_lets freed t q hap ended dropped _ queued
  have ht : Safe t := h.abandonUnit.perhaps fun hu => hu.abortSweep
  clear_value t
  split
  · have hended : Safe ended := by
      dsimp only [ended]
      split
      · exact ht.setHap.endEffect
      · exact ht
    exact .ite hended.dropQueued hended.startEffect
  · split
    · exact .ite ht.dropQueued ht.startEffect
    · have hqueued : Safe queued := .ite ht.dropQueued ht.dropQueued.setHap
      exact .ite hqueued hqueued.cutEffect

theorem Safe.trigger {s : State} (h : Safe s) {c effect source : Nat} {critical : Bool} : Safe (s.trigger c effect source critical).2 :=
  Safe.snd_ite h.meet.snd h

theorem Safe.writeHapPlay {s : State} (h : Safe s) {rq : Requester} {c v : Nat} : Safe (s.writeHapPlay rq c v).2 := by
  unfold State.writeHapPlay
  split
  · exact Safe.snd_ite h h.trigger
  · exact h.trigger

theorem Safe.writeCritPlay {s : State} (h : Safe s) {c v : Nat} : Safe (s.writeCritPlay c v).2 := Safe.snd_ite h (Safe.snd_ite h h.trigger)

theorem Safe.handOver {s : State} (h : Safe s) {source x y key : Nat} : Safe (s.handOver source x y key) := by
  unfold State.handOver
  split
  · exact h
  · exact h.trigger

theorem Safe.startSweep {s : State} (h : Safe s) {c : Nat} : Safe (s.startSweep c) := h.setHap

theorem Safe.writeHapControl {s : State} (h : Safe s) {c v : Nat} : Safe (s.writeHapControl c v).2 :=
  Safe.snd_ite h (Safe.snd_ite (Safe.ite h.abortHap.setHap h).wr.setHap.snd (Safe.snd_ite (Safe.ite h.abortHap.setHap h).wr.setHap.startSweep.snd
    ((Safe.ite (Safe.ite h.abortHap.setHap h).wr.setHap (Safe.ite h.abortHap.setHap h).wr.setHap.setHap).perhaps fun hu => hu.startSweep).snd))

theorem Safe.endPulse {s : State} (h : Safe s) {c : Nat} {p : HapPlay} : Safe (s.endPulse c p) := by
  unfold State.endPulse
  extract_lets still t
  have ht : Safe t := h.perhaps fun hu => hu.wrBit.logInjected
  exact .ite ht.finishEffect (.ite ht.setHap ht.finishEffect)

theorem Safe.toPhase {s : State} (h : Safe s) {c : Nat} {p : HapPlay} {next : Option HapPlay} : Safe (s.toPhase c p next) := by
  unfold State.toPhase
  split
  · exact h.drive.setHap
  · exact h.endPulse

/-! Foley (R501 to R526). -/

theorem Safe.withBridges {s s' : State} (h : Safe s) (h' : Safe s') : Safe (s.withBridges s').2 := Safe.snd_ite h h'.wr

theorem Safe.endMissed {s : State} (h : Safe s) {play : Bool} {unit : Nat} {missed : Option (Nat × Nat)} : Safe (s.endMissed play unit missed) := by
  unfold State.endMissed
  split
  · exact h
  · exact h.logEvent

theorem Safe.stopStream {s : State} (h : Safe s) {u : Nat} : Safe (s.stopStream u) := (Safe.ite h h.endMissed).same.wr

theorem Safe.startStream {s : State} (h : Safe s) {u : Nat} : Safe (s.startStream u) := h.same

theorem Safe.adoptStream {s : State} (h : Safe s) {u : Nat} : Safe (s.adoptStream u) :=
  Safe.ite (Safe.ite h.stopStream h).same (Safe.ite (Safe.ite h.stopStream h) (Safe.ite h.stopStream h).startStream)

theorem Safe.audDoorbell {s : State} (h : Safe s) {owner v seq : Nat} : Safe (s.audDoorbell owner v seq) := Safe.ite h.ringObject h

theorem Safe.takeBlock {s : State} (h : Safe s) {u rate : Nat} {x : AudStream} {raw : List Nat} {silent : Bool} :
    Safe (s.takeBlock u rate x raw silent) := h.wr.same

theorem Safe.hostBlock {s : State} (h : Safe s) {u rate : Nat} {x : AudStream} {host : Nat ⊕ Nat} {raw : List Nat} :
    Safe (s.hostBlock u rate x host raw) := by
  unfold State.hostBlock
  refine Safe.ite (Safe.snd_ite h h.inject).takeBlock ?_
  split
  · exact (Safe.snd_ite h h.inject).endMissed.logInjected.takeBlock
  · exact Safe.ite (Safe.snd_ite h h.inject).endMissed.takeBlock.tallyCount.same.audDoorbell
      (Safe.snd_ite h h.inject).count.takeBlock.same.audDoorbell

theorem Safe.streamBlock {s : State} (h : Safe s) {u d rate : Nat} {ins : List AudioIn} : Safe (s.streamBlock u d rate ins) := by
  unfold State.streamBlock
  dsimp only
  refine Safe.ite h (Safe.ite h.adoptStream (Safe.wr ?_))
  split
  · exact h.adoptStream.hostBlock
  · exact h.adoptStream.takeBlock.tallyCount

theorem Safe.setGen {s : State} (h : Safe s) {g : Nat} {x : Generator} : Safe (s.setGen g x) := h.same.wr

theorem Safe.chimeEnds {s : State} (h : Safe s) {g : Nat} {r : ChimeRun} {result : Nat} : Safe (s.chimeEnds g r result) := h.setGen.logEvent

theorem Safe.playChime {s : State} (h : Safe s) {n source : Nat} : Safe (s.playChime n source).2 := by
  unfold State.playChime
  refine Safe.snd_ite h (Safe.snd_ite h ?_)
  split
  · exact h.logEvent.snd
  · extract_lets o _ taken
    have htaken : Safe taken := h.nextOrder.setGen
    exact (htaken.perhaps fun hu => hu.wake).snd

theorem Safe.stopChime {s : State} (h : Safe s) {p : Nat → Bool} : Safe (s.stopChime p) := h.each fun _ _ ht => Safe.ite ht.setGen ht

theorem Safe.writeChimeStop {s : State} (h : Safe s) {v : Nat} : Safe (s.writeChimeStop v).2 := h.stopChime.snd

theorem Safe.genBlock {s : State} (h : Safe s) {g d : Nat} : Safe (s.genBlock g d) := by
  unfold State.genBlock
  extract_lets here x stopped ended
  have hstopped : Safe stopped := by
    dsimp only [stopped]
    split
    · exact .ite h.chimeEnds h
    · exact h
  clear_value stopped
  split
  · exact hstopped
  · have hended : Safe ended := by
      dsimp only [ended]
      split
      · exact hstopped.chimeEnds
      · exact hstopped
    exact .ite hstopped hended.setGen.logEvent

theorem Safe.adoptBus {s : State} (h : Safe s) {b rate : Nat} : Safe (s.adoptBus b rate) := Safe.ite (Safe.ite h.endMissed.same.wr h) h.same

theorem Safe.limitBlock {s : State} (h : Safe s) {b : Nat} {x : AudBus} {peak : Nat} : Safe (s.limitBlock b x peak) :=
  h.count.tallyCount.perhaps fun hu => hu.logEvent

theorem Safe.capture {s : State} (h : Safe s) {b : Nat} {x : AudBus} {host : Nat ⊕ Nat} {block : List Int} : Safe (s.capture b x host block) := by
  unfold State.capture
  dsimp only
  split
  · exact (Safe.ite h.inject h.inject.endMissed.logInjected).same
  · exact (Safe.fst_ite h.inject.endMissed.same.fst h.inject.fst).same.same.audDoorbell

theorem Safe.busBlock {s : State} (h : Safe s) {b d rate : Nat} {outs : List AudioOut} : Safe (s.busBlock b d rate outs) :=
  Safe.ite h (Safe.ite h.adoptBus (Safe.ite ((h.adoptBus.perhaps fun hu => hu.limitBlock).wr.perhaps fun hu => hu.same).tallyCount.capture
    ((h.adoptBus.perhaps fun hu => hu.limitBlock).wr.perhaps fun hu => hu.same).tallyCount.same).wr)

theorem Safe.advanceChimes {s : State} (h : Safe s) {d : Nat} : Safe (s.advanceChimes d) := by
  unfold State.advanceChimes
  refine h.each fun _ _ ht => ?_
  split
  · exact ht
  · exact Safe.ite ht.setGen ht

theorem Safe.tdmLost {s : State} (h : Safe s) {p : Nat} {injected : Bool} : Safe (s.tdmLost p injected) :=
  Safe.ite h ((h.wr.logInjected.each fun _ _ ht => Safe.ite ht.same.wr ht).each fun _ _ ht => Safe.ite ht.same.wr ht)

theorem Safe.writeStreamCfg {s : State} (h : Safe s) {u v : Nat} : Safe (s.writeStreamCfg u v).2 :=
  Safe.snd_ite h (Safe.snd_ite h (Safe.snd_ite h (Safe.snd_ite h (h.withBridges (Safe.ite h.wr.same h.wr)))))

theorem Safe.writeRoutes {s : State} (h : Safe s) {v : Nat} : Safe (s.writeRoutes v).2 := by
  unfold State.writeRoutes
  extract_lets es valid
  refine Safe.snd_ite h (Safe.snd_ite h (Safe.snd_ite h ?_))
  exact h.withBridges h.wr

theorem Safe.writeTdm {s : State} (h : Safe s) {p v : Nat} : Safe (s.writeTdm p v).2 :=
  Safe.snd_ite h (Safe.snd_ite h (h.withBridges h.wr.wr))

theorem Safe.writePdm {s : State} (h : Safe s) {p v : Nat} : Safe (s.writePdm p v).2 :=
  Safe.snd_ite h (Safe.snd_ite h (h.withBridges h.wr))

theorem Safe.writeAudRate {s : State} (h : Safe s) {addr v : Nat} : Safe (s.writeAudRate addr v).2 :=
  Safe.snd_ite h (Safe.snd_ite (h.withBridges h.wr) h)

theorem Safe.writeBusCfg {s : State} (h : Safe s) {b v : Nat} : Safe (s.writeBusCfg b v).2 :=
  Safe.snd_ite h (Safe.snd_ite h (h.withBridges h.wr))

theorem Safe.writeBusDest {s : State} (h : Safe s) {b v : Nat} : Safe (s.writeBusDest b v).2 := Safe.snd_ite h (h.withBridges h.wr)

theorem Safe.writeRing {s : State} (h : Safe s) {addr v : Nat} : Safe (s.writeRing addr v).2 :=
  Safe.snd_ite h (Safe.snd_ite h (Safe.snd_ite h h.plainWrite))

theorem Safe.writeGain {s : State} (h : Safe s) {addr v : Nat} : Safe (s.writeGain addr v).2 := Safe.snd_ite h h.plainWrite

theorem Safe.writeAudDoorbell {s : State} (h : Safe s) {addr v : Nat} : Safe (s.writeAudDoorbell addr v).2 := Safe.snd_ite h h.plainWrite

theorem Safe.writeChimes {s : State} (h : Safe s) {v : Nat} : Safe (s.writeChimes v).2 := Safe.snd_ite h h.plainWrite

theorem Safe.stopInstanceAudio {s : State} (h : Safe s) {i : Nat} {remove : Bool} : Safe (s.stopInstanceAudio i remove) :=
  ((h.each fun _ _ ht => Safe.ite ht (ht.wr.same.perhaps fun hu => hu.wr)).each fun _ _ ht => Safe.ite ht (ht.wrBit.perhaps fun hu => hu.wr)).wr

/-! Continuity units (R421 to R440). -/

theorem Safe.setCuState {s : State} (h : Safe s) {u v : Nat} : Safe (s.setCuState u v) := h.wr.wrBit

theorem Safe.substitute {s : State} (h : Safe s) {u : Nat} : Safe (s.substitute u) := by
  unfold State.substitute
  dsimp only
  refine Safe.wrBit (Safe.same ?_)
  split
  · exact h.wrBit
  · exact h

theorem Safe.trip {s : State} (h : Safe s) {u : Nat} {injected : Bool} : Safe (s.trip u injected) :=
  (Safe.ite (Safe.ite (h.setCuState.logInjected.same.perhaps fun hu => hu.substitute).logEvent
    (h.setCuState.logInjected.same.perhaps fun hu => hu.substitute).playChime) (h.setCuState.logInjected.same.perhaps fun hu =>
    hu.substitute)).perhaps fun hu => hu.ring

theorem Safe.settleRestores {s : State} (h : Safe s) {k : Nat} : Safe (s.settleRestores k) := h.each fun _ _ ht => ht.same.wrBit.logEvent

theorem Safe.endOverride {s : State} (h : Safe s) {u : Nat} : Safe (s.endOverride u) := (Safe.ite h.same h).same.settleRestores

/-- One finding sets its bit, and leaves its record where the unit is not silent. -/
theorem Safe.finding {s : State} (h : Safe s) {found silent : Bool} {a i code source : Nat} {injected : Bool} {ds : List Detail} :
    Safe (if found then (if silent then s.wrBit a i true else (s.wrBit a i true).logInjected code source injected ds) else s) :=
  h.perhaps fun hu => .ite hu.wrBit hu.wrBit.logInjected

theorem Safe.findingRecords {s : State} (h : Safe s) {u : Nat} {f : Findings} {j : Judged} {repeats place : Nat} {injected silent : Bool} :
    Safe (s.findingRecords u f j repeats place injected silent) :=
  h.finding.finding.finding.finding.finding

theorem Safe.judgeItem {s : State} (h : Safe s) {u : Nat} {j : Judged} {place : Nat} : Safe (s.judgeItem u j place).2 := by
  unfold State.judgeItem
  extract_lets genuine armed meets fault f injected _ disarmed marked tripped found bad pred _ kept result counted moved trips
  have hfound : Safe found := Safe.findingRecords (Safe.perhaps (.perhaps h fun hu => hu.same) fun hu => hu.wrBit)
  have hresult : Safe result := hfound.same.wr.wr
  have hcounted : Safe counted := .ite hresult.wr.count (.ite hresult hresult.wr.count.tallyCount)
  have hmoved : Safe moved := .ite hcounted hcounted.setCuState
  exact Safe.perhaps hmoved fun hu => hu.trip

theorem Safe.noData {s : State} (h : Safe s) {u : Nat} {idle : Bool} : Safe (s.noData u idle) := h.wr.same

theorem Safe.cuResume {s : State} (h : Safe s) {u : Nat} : Safe (s.cuResume u) := Safe.ite h (Safe.ite h.same h.same.setCuState)

theorem Safe.readRef {s : State} (h : Safe s) {v : Nat} {ue corrected : Bool} : Safe (s.readRef v ue corrected).2 :=
  Safe.snd_ite h (Safe.ite h.count h).snd

theorem Safe.discardMessage {s : State} (h : Safe s) {u result : Nat} : Safe (s.discardMessage u result) := h.same.wrBit.logEvent

theorem Safe.appendMessage {s : State} (h : Safe s) {u : Nat} : Safe (s.appendMessage u) := Safe.ite h.discardMessage h.same.same

theorem Safe.malformed {s : State} (h : Safe s) {u : Nat} : Safe (s.malformed u) := h.judgeItem.discardMessage

theorem Safe.judgeMessage {s : State} (h : Safe s) {u : Nat} {stagingUe : Bool} : Safe (s.judgeMessage u stagingUe) :=
  Safe.ite h.malformed (Safe.ite h.judgeItem.appendMessage h.judgeItem.discardMessage)

theorem Safe.stageWord {s : State} (h : Safe s) {u word : Nat} {stagingUe : Bool} : Safe (s.stageWord u word stagingUe) :=
  Safe.ite (Safe.ite h.malformed h).tallyCount.same.same.malformed (Safe.ite (Safe.ite h.malformed h).tallyCount.same.same
    (Safe.ite h.malformed h).tallyCount.same.same.judgeMessage)

theorem Safe.cuStart {s : State} (h : Safe s) {u : Nat} : Safe (s.cuStart u) := h.wr.same.wr.setCuState

theorem Safe.cuRestore {s : State} (h : Safe s) {u : Nat} : Safe (s.cuRestore u) := Safe.ite h h.setCuState.wr.same.endOverride

theorem Safe.cuStop {s : State} (h : Safe s) {u : Nat} : Safe (s.cuStop u) := h.wr.setCuState.same.perhaps fun hu => hu.endOverride

theorem Safe.writeCuControl {s : State} (h : Safe s) {u v : Nat} : Safe (s.writeCuControl u v).2 :=
  Safe.snd_ite (Safe.snd_ite (Safe.ite h.cuRestore h).snd (Safe.snd_ite h h.cuStart.snd)) (Safe.ite h.cuStop h).snd

theorem Safe.writeCuInject {s : State} (h : Safe s) {u v : Nat} : Safe (s.writeCuInject u v).2 := Safe.snd_ite h h.same.snd

/-! Reed touch and the key bank (R443 to R478). -/

theorem Safe.cutScans {s : State} (h : Safe s) {k : Nat} {i : OutIntent} : Safe (s.cutScans k i) := by
  unfold State.cutScans
  dsimp only
  refine h.each fun _ _ ht => ?_
  split
  · exact ht
  · exact ht.same.perhaps fun hu => hu.logEvent

theorem Safe.startWindow {s : State} (h : Safe s) {u : Nat} : Safe (s.startWindow u) := Safe.ite h.same h.same

theorem Safe.showBase {s : State} (h : Safe s) {p : Nat} : Safe (s.showBase p) := h.wr.wrBit

theorem Safe.scanReport {s : State} (h : Safe s) {p seq r : Nat} : Safe (s.scanReport p seq r) := h.wr.wr.tallyCount.ringObject

theorem Safe.frontOff {s : State} (h : Safe s) {p : Nat} {run : ScanRun} : Safe (s.frontOff p run) := (Safe.ite h h.scanReport).same.wr.wr

theorem Safe.baseline {s : State} (h : Safe s) {p : Nat} : Safe (s.baseline p) := h.same.wr.wr

theorem Safe.endBaselining {s : State} (h : Safe s) {p : Nat} {sum selfSum : List Int} {raised : Bool} :
    Safe (s.endBaselining p sum selfSum raised) := h.same.wr.showBase.perhaps fun hu => hu.logEvent

theorem Safe.trackBase {s : State} (h : Safe s) {p : Nat} {mc d : List Int} : Safe (s.trackBase p mc d) :=
  (Safe.ite h.same h.same.logEvent.tallyCount).showBase.perhaps fun hu => hu.logEvent

theorem Safe.trackSelf {s : State} (h : Safe s) {p : Nat} {raised : Bool} {m d : List Int} : Safe (s.trackSelf p raised m d) :=
  (Safe.ite h h.same).same

theorem Safe.fit {s : State} (h : Safe s) {p : Nat} {counts : List Nat} {base d : List Int} {w : ScanPixels} : Safe (s.fit p counts base d w) := h.wr

theorem Safe.holdContact {s : State} (h : Safe s) {p : Nat} {c : Contact} : Safe (s.holdContact p c).1 := Safe.fst_ite h.logEvent.fst h

theorem Safe.holdContacts {s : State} (h : Safe s) {p : Nat} {l : List Contact} : Safe (s.holdContacts p l).1 := by
  induction l generalizing s with
  | nil => exact h
  | cons c l ih => exact ih h.holdContact

theorem Safe.scanContacts {s : State} (h : Safe s) {p : Nat} {run : ScanRun} {d sd : List Int} : Safe (s.scanContacts p run d sd) :=
  ((((h.holdContacts.each fun _ _ ht => ht.handOver).each fun _ _ ht => ht.tallyCount).perhaps fun hu => hu.logEvent).same.perhaps fun hu =>
    hu.wrBit).wrBit.wrBit.scanReport

theorem Safe.sweepEnd {s : State} (h : Safe s) {p v l : Nat} {noise : List Nat} : Safe (s.sweepEnd p v l noise) := by
  unfold State.sweepEnd
  dsimp only
  split
  · exact h
  · exact Safe.ite h.same h

theorem Safe.touchFrameStart {s : State} (h : Safe s) {k : Nat} : Safe (s.touchFrameStart k) := by
  unfold State.touchFrameStart
  dsimp only
  refine h.each fun _ _ ht => ?_
  split
  · exact Safe.ite ht.same.logEvent ht
  · exact ht

theorem Safe.showKeys {s : State} (h : Safe s) : Safe s.showKeys := h.wr

theorem Safe.reportKeys {s : State} (h : Safe s) {r : Nat} : Safe (s.reportKeys r) := h.wr.tallyCount.ringObject

theorem Safe.writeRfControl {s : State} (h : Safe s) {p v : Nat} : Safe (s.writeRfControl p v).2 := by
  unfold State.writeRfControl
  refine Safe.snd_ite (Safe.snd_ite h.same.snd (Safe.snd_ite h (Safe.snd_ite h h.wr.same.baseline.snd))) (Safe.snd_ite h.wr.snd ?_)
  split
  · exact h.wr.same.snd
  · exact h.wr.frontOff.snd

theorem Safe.writeKbEnable {s : State} (h : Safe s) {v : Nat} : Safe (s.writeKbEnable v).2 :=
  Safe.snd_ite (Safe.snd_ite h.same.snd (Safe.snd_ite h h.wr.same.wr.snd)) (Safe.snd_ite h.wr.snd (Safe.snd_ite h.wr.same.snd
    (Safe.ite h.wr.reportKeys h.wr).same.wr.snd))

theorem Safe.touchSleep {s : State} (h : Safe s) : Safe s.touchSleep := (h.each fun _ _ ht => Safe.ite ht (ht.same.perhaps fun hu => hu.wr)).same

theorem Safe.touchResume {s : State} (h : Safe s) : Safe s.touchResume :=
  Safe.ite (h.each fun _ _ ht => Safe.ite ht ht.same.wr) (h.each fun _ _ ht => Safe.ite ht ht.same.wr).same.wr

theorem Safe.touchRestart {s : State} (h : Safe s) : Safe s.touchRestart := (h.each fun _ _ ht => ht.same.wr.wr).same.wr

/-! Instances. -/

theorem Safe.defaultInstance {s : State} (h : Safe s) {i : Nat} : Safe (s.defaultInstance i) := of_parts (Objs.wf_filter _ _ h.objs) h.mem h.log

theorem Safe.placeContext {s t : State} (h : Safe s) {o : Nat} (placed : s.placeContext o = some t) : Safe t := by
  obtain ⟨p, -, rfl⟩ := Option.map_eq_some_iff.1 placed
  exact h.same

theorem Safe.dropAreas {s : State} (h : Safe s) {o : Nat} : Safe (s.dropAreas o) := h.same

theorem Safe.commitByGaffer {s : State} (h : Safe s) {k : Nat} : Safe (s.commitByGaffer k) :=
  Safe.ite h (h.fresh.nextOrder.same.same.perhaps fun hu => hu.wakeOutput)

theorem Safe.withdraw {s : State} (h : Safe s) {ps : List (Nat × Nat)} : Safe (s.withdraw ps).1 :=
  ((h.each fun _ _ ht => ht.same).each fun _ _ ht => ht.commitByGaffer).fst

theorem Safe.writeGrants {s : State} (h : Safe s) {i v : Nat} : Safe (s.writeGrants i v).2 := Safe.snd_ite h h.wr.withdraw.snd

theorem Safe.disarmFor {s : State} (h : Safe s) {o : Nat} : Safe (s.disarmFor o) := (h.each fun _ _ ht => Safe.ite ht.writeSlotControl ht).same

theorem Safe.startReset {s : State} (h : Safe s) {o : Nat} {remove : Bool} {asker : Option Nat} {drainNs : Nat} :
    Safe (s.startReset o remove asker drainNs) := h.same.disarmFor.perhaps fun hu => hu.stopInstanceAudio

theorem Safe.instControl {s : State} (h : Safe s) {owner : Nat} {it : Item} {remove : Bool} : Safe (s.instControl owner it remove) :=
  Safe.ite h.finish (Safe.ite h.finish (Safe.ite h.finish (Safe.ite h.finish (Safe.ite h.finish.startReset h.startReset))))

theorem Safe.squashItem {s : State} (h : Safe s) {o : Nat} {it : Item} : Safe (s.squashItem o it) := by
  unfold State.squashItem
  dsimp only
  split
  · exact Safe.ite h.same.same.failJob h.same.same.endJob
  · exact (h.same.same.each fun _ _ ht => ht.same).finish

theorem Safe.teardown {s : State} (h : Safe s) {o : Nat} : Safe (s.teardown o) :=
  ((h.same.same.each fun _ _ ht => ht.squashItem).each fun _ _ ht => ht.squashItem).perhaps fun hu => hu.withdraw.same

theorem Safe.freeInstance {s : State} (h : Safe s) {o : Nat} : Safe (s.freeInstance o) :=
  (h.each fun _ _ ht => ht.release).same.dropAreas.endWindow.same

theorem Safe.resetDone {s : State} (h : Safe s) {o : Nat} : Safe (s.resetDone o) := by
  unfold State.resetDone
  extract_lets keyed placed
  have hkeyed : Safe keyed := by
    dsimp only [keyed]
    split
    · exact h.same.same
    · exact h
  refine Safe.same (s := placed) (Safe.ite ?_ hkeyed)
  cases context : keyed.placeContext o with
  | none => exact hkeyed
  | some t => exact hkeyed.placeContext context

theorem Safe.removeDone {s : State} (h : Safe s) {o : Nat} : Safe (s.removeDone o) := by
  unfold State.removeDone
  dsimp only
  refine Safe.defaultInstance (Safe.same ?_)
  split
  · exact h.same
  · exact h

theorem Safe.flrInstance {s : State} (h : Safe s) {busMaster : Bool} {o : Nat} : Safe (s.flrInstance busMaster o) :=
  Safe.ite h.same.same h.same.startReset

theorem Safe.dmaLost {s : State} (h : Safe s) {it : Item} : Safe (s.dmaLost it) := Safe.ite h.ioWrite (Safe.ite h.forgetBytes h)

theorem Safe.dmaFails {s : State} (h : Safe s) {it : Item} {status detail : Nat} : Safe (s.dmaFails it status detail) := h.dmaLost.complete

theorem Safe.dmaMismatch {s : State} (h : Safe s) {it : Item} {slot : Nat} {injected : Bool} : Safe (s.dmaMismatch it slot injected) :=
  h.ownerMismatch.dmaFails

theorem Safe.dmaMoves {s : State} (h : Safe s) {it : Item} {data : List (BitVec 8)} : Safe (s.dmaMoves it data) :=
  Safe.ite (Safe.ite h.dmaFails h.same.ioWrite.finish) h.store.finish

theorem Safe.dmaEnds {s : State} (h : Safe s) {it : Item} {result : TransferResult} {data : List (BitVec 8)} : Safe (s.dmaEnds it result data) := by
  unfold State.dmaEnds
  extract_lets wrong host found
  split
  · exact h.inject.same.dmaMismatch
  · have hfound : Safe found := Safe.snd_ite h.inject.inject h.inject.snd
    split
    · exact hfound.same.dmaFails
    · exact hfound.dmaFails
    · exact hfound.dmaFails
    · exact hfound.dmaMismatch
    · exact Safe.ite hfound.dmaMismatch hfound.dmaMoves

/-! What resets do. -/

/-- What a reset keeps of the objects is in canonical form as they were; nothing is listed in memory, and of the log only the mirror may stand. -/
theorem Safe.afterReset {s : State} (h : Safe s) {kind : Nat} : Safe (s.afterReset kind) := by
  refine safe_iff.2 ⟨Objs.wf_filter _ _ h.objs, rfl, Log.bounded_iff.2 ⟨Nat.zero_le _, ?_, Nat.zero_le _⟩⟩
  unfold State.afterReset
  dsimp only
  split
  · exact Nat.zero_le _
  · exact h.logBounds.2.1

theorem Safe.fullReset {s : State} (h : Safe s) {kind cause straps : Nat} : Safe (s.fullReset kind cause straps) :=
  h.afterReset.wr.wr.wr.same.logEvent

theorem Safe.warmReset {s : State} (h : Safe s) {cause : Nat} : Safe (s.warmReset cause) := by
  unfold State.warmReset
  extract_lets straps halted recovery result low port reset _ kept told cleared booted
  have hreset : Safe reset := h.afterReset
  have hkept : Safe kept := of_parts hreset.objs (Memory.wf_drop _ _ h.mem) hreset.log
  have hbooted : Safe booted := Safe.same (s := cleared) (hkept.wr.wr.count.each fun _ _ ht => ht.wr)
  exact Safe.warmCoast (Safe.ite hbooted.wr.wr hbooted.wr)

theorem Safe.coldReset {s : State} (h : Safe s) {cause straps : Nat} : Safe (s.coldReset cause straps) := Safe.ite h h.fullReset

theorem Safe.gafferRestart {s : State} (h : Safe s) {cause : Nat} {injected : Bool} : Safe (s.gafferRestart cause injected) :=
  Safe.ite h (Safe.ite h.warmReset h.count.same.logInjected.closeSessions)

theorem Safe.gafferFault {s : State} (h : Safe s) {d cause : Nat} {genuine : Bool} : Safe (s.gafferFault d cause genuine) := by
  unfold State.gafferFault
  refine Safe.ite h.gafferRestart ?_
  split
  next e => exact h.of_inject e
  next e => exact (h.of_inject e).gafferRestart

theorem Safe.failJobs {s : State} (h : Safe s) {p : Job → Bool} : Safe (s.failJobs p).1 := by
  unfold State.failJobs
  refine (h.each fun _ _ ht => ?_).fst
  split
  · exact ht.failJob
  · exact ht

theorem Safe.failAudio {s : State} (h : Safe s) : Safe s.failAudio.1 := by
  unfold State.failAudio
  refine (((h.each fun _ _ ht => ?_).each fun _ _ ht => ht.same).each fun _ _ ht => ht.same).fst
  split
  · exact ht.chimeEnds
  · exact ht

theorem Safe.failRaster {s : State} (h : Safe s) {k : Nat} : Safe (s.failRaster k).1 :=
  Safe.fst_ite h ((h.each fun _ _ ht => ht.finish).same.endRaster.enterAll.each fun _ _ ht => ht.coastIfLead).fst

theorem Safe.failHaptics {s : State} (h : Safe s) : Safe s.failHaptics.1 := (h.each fun _ _ ht => ht.abortHap.setHap).fst

/-! Clocks (R573 to R593, R624). -/

theorem Safe.showClocks {s : State} (h : Safe s) : Safe s.showClocks := Safe.ite (Safe.ite h.wr.wr h.wr).wr.wr.wr (Safe.ite h.wr.wr h.wr).wr.wr

theorem Safe.clocksReady {s : State} (h : Safe s) : Safe s.clocksReady := Safe.ite (h.each fun _ _ ht => ht.wr).wr.same h

theorem Safe.stopPll {s : State} (h : Safe s) {n : Nat} : Safe (s.stopPll n) := h.wr.wr.wr

theorem Safe.writePllEnable {s : State} (h : Safe s) {n v : Nat} : Safe (s.writePllEnable n v).2 :=
  Safe.snd_ite (Safe.snd_ite h h.wr.stopPll.showClocks.snd) (Safe.ite h.wr.wr h.wr).snd

theorem Safe.crystalLost {s : State} (h : Safe s) {lost : Bool} : Safe (s.crystalLost lost) := h.each fun _ _ ht => Safe.ite ht.wr (Safe.ite ht.wr ht)

theorem Safe.monitorChange {s : State} (h : Safe s) {m new khz : Nat} {injected : Bool} : Safe (s.monitorChange m new khz injected) :=
  Safe.ite (h.wr.logEvent.perhaps fun hu => hu.crystalLost) (((Safe.ite h.wr.logInjected h.wr.logInjected).each fun _ _ ht => ht.same).perhaps fun hu
    => hu.crystalLost)

theorem Safe.romClock {s : State} (h : Safe s) : Safe s.romClock := Safe.ite h.wr h

theorem Safe.writeInject {s : State} (h : Safe s) {addr v : Nat} : Safe (s.writeInject addr v).2 := Safe.snd_ite h h.plainWrite

theorem Safe.writeMuxSel {s : State} (h : Safe s) {rq : Requester} {x v : Nat} : Safe (s.writeMuxSel rq x v).2 := by
  unfold State.writeMuxSel
  split
  · exact Safe.snd_ite h.same.wr.answerLate.snd h
  · split
    · exact h
    · exact Safe.snd_ite h (Safe.snd_ite h h.same.wr.snd)

theorem Safe.connect {s : State} (h : Safe s) {x : Nat} {w : MuxSwitch} : Safe (s.connect x w) := h.same.wr.wr.answerLate

theorem Safe.holdBelow {s : State} (h : Safe s) {x : Nat} : Safe (s.holdBelow x) :=
  (Safe.fst_ite h.same.failJobs (Safe.fst_ite h.same.failAudio h.same.failRaster)).logEvent

theorem Safe.writeForce {s : State} (h : Safe s) {x v straps : Nat} {queued : List (Nat × Nat)} : Safe (s.writeForce x v straps queued).2 := by
  unfold State.writeForce
  refine Safe.snd_ite h ?_
  split
  · exact h
  · exact (Safe.ite h.connect.coldReset (Safe.ite h.connect.gafferRestart (Safe.ite h.connect.restartBittern h.connect.holdBelow.showClocks))).snd

theorem Safe.showGates {s : State} (h : Safe s) : Safe s.showGates := h.each fun _ _ ht => Safe.ite ht ht.wr

theorem Safe.answerClosing {s : State} (h : Safe s) {g code : Nat} : Safe (s.answerClosing g code) := h.same.each fun _ _ ht => ht.answerLate

theorem Safe.openGate {s : State} (h : Safe s) {g : Nat} : Safe (s.openGate g) := h.wr.wr.answerClosing

theorem Safe.openGates {s : State} (h : Safe s) {rq : Requester} {l : List Nat} : Safe (s.openGates rq l).2 := by
  induction l generalizing s with
  | nil => exact h
  | cons g l ih => exact Safe.snd_ite (ih h) (Safe.snd_ite h (ih h.openGate))

theorem Safe.writeGateOpen {s : State} (h : Safe s) {rq : Requester} {g : Nat} : Safe (s.writeGateOpen rq g).2 := Safe.snd_ite h h.openGates

theorem Safe.writeGateClose {s : State} (h : Safe s) {rq : Requester} {g : Nat} : Safe (s.writeGateClose rq g).2 :=
  Safe.snd_ite h (Safe.snd_ite h (Safe.snd_ite h.wr.snd h.wr.wr.same.snd))

theorem Safe.unitsOffline {s : State} (h : Safe s) {d : Nat} {off : Bool} : Safe (s.unitsOffline d off) :=
  h.each fun _ _ ht => Safe.ite ht (Safe.ite (Safe.ite ht ht.setHealth) (Safe.ite ht.setHealth ht))

theorem Safe.domainLoses {s : State} (h : Safe s) {d : Nat} : Safe (s.domainLoses d) :=
  Safe.ite h.failJobs (Safe.ite (h.each fun _ _ ht => ht.failRaster) (Safe.ite (h.same.each fun _ _ ht => ht.wr).wr (Safe.ite h.failAudio
    (Safe.ite h.failHaptics h))))

theorem Safe.domainUp {s : State} (h : Safe s) {d : Nat} : Safe (s.domainUp d) :=
  Safe.ite (h.unitsOffline.showGates.each fun _ _ ht => ht.tryRaster) (Safe.ite h.unitsOffline.showGates.touchRestart (Safe.ite
    (h.unitsOffline.showGates.each fun _ _ ht => Safe.ite ht.startSweep ht) h.unitsOffline.showGates))

theorem Safe.answerDomain {s : State} (h : Safe s) {d : Nat} : Safe (s.answerDomain d) := h.same.each fun _ _ ht => ht.answerLate

theorem Safe.writeDomainOn {s : State} (h : Safe s) {rq : Requester} {d : Nat} : Safe (s.writeDomainOn rq d).2 :=
  Safe.snd_ite h (Safe.snd_ite h.wr.snd (h.wr.same.perhaps fun hu => hu.wr).snd)

theorem Safe.writeDomainOff {s : State} (h : Safe s) {d : Nat} : Safe (s.writeDomainOff d).2 :=
  Safe.snd_ite h (Safe.snd_ite h h.domainLoses.unitsOffline.wr.wr.showGates.snd)

theorem Safe.writeDomainReset {s : State} (h : Safe s) {d : Nat} : Safe (s.writeDomainReset d).2 :=
  Safe.snd_ite h (Safe.snd_ite h (Safe.snd_ite h h.domainLoses.wr.snd))

/-! Sluice and the supplies (R593 to R605). -/

theorem Safe.setDomains {s : State} (h : Safe s) {state : Nat} : Safe (s.setDomains state) :=
  ((h.each fun _ _ ht => ht.wr).each fun _ _ ht => ht.unitsOffline).showGates

theorem Safe.reelLost {s : State} (h : Safe s) : Safe s.reelLost :=
  Safe.each (of_parts h.objs (Memory.wf_drop _ _ h.mem) h.log) fun _ _ ht => ht.wrBit

theorem Safe.sleepMemory {s : State} (h : Safe s) : Safe s.sleepMemory := (h.each fun _ _ ht => ht.selfRefresh).syncLost

theorem Safe.sleepDeep {s : State} (h : Safe s) : Safe s.sleepDeep := h.s4Stop.touchSleep.failHaptics.reelLost

theorem Safe.wakeDeep {s : State} (h : Safe s) : Safe s.wakeDeep := h.s4Resume.touchResume.each fun _ _ ht => Safe.ite ht.startSweep ht

theorem Safe.moveClocks {s : State} (h : Safe s) {f : State → State} (hf : ∀ t, Safe t → Safe (f t)) : Safe (s.moveClocks f) :=
  Safe.ite (hf _ h).same.showClocks (Safe.ite (hf _ h).same (hf _ h).same.wr).showClocks

theorem Safe.showLimits {s : State} (h : Safe s) : Safe s.showLimits := Safe.ite h.wrBit.wr.logEvent (h.wrBit.wr.perhaps fun hu => hu.logEvent)

theorem Safe.sensor {s : State} (h : Safe s) {celsius : Int} : Safe (s.sensor celsius).2 := Safe.snd_ite h (h.inject.wr.perhaps fun hu => hu.same).snd

theorem Safe.writeSupInject {s : State} (h : Safe s) {r v : Nat} : Safe (s.writeSupInject r v).2 :=
  Safe.snd_ite h (Safe.snd_ite h (Safe.snd_ite h h.count.same.wrBit.showClocks.abandonSlices.snd))

theorem Safe.writeClockLimit {s : State} (h : Safe s) {addr v : Nat} : Safe (s.writeClockLimit addr v).2 :=
  Safe.snd_ite (h.moveClocks fun _ ht => ht.plainWrite).snd h.plainWrite

/-! The Script Log's ring, injection, Dailies and Tally (R629 to R655). -/

theorem Safe.toRing {s : State} (h : Safe s) {r : LogRecord} : Safe (s.toRing r) := by
  obtain ⟨fifo, mirror, -⟩ := h.logBounds
  have moved : Safe { s with log := { s.log with ring := (r :: s.log.ring).take 4096 } } :=
    of_parts h.objs h.mem (Log.bounded_iff.2 ⟨fifo, mirror, List.length_take_le ..⟩)
  exact (moved.count.perhaps fun hu => hu.count).perhaps fun hu => hu.ringObject

theorem Safe.fireArmed {s : State} (h : Safe s) {d : Nat} {queued : List (Nat × Nat)} : Safe (s.fireArmed d queued) :=
  Safe.ite h.bitternFault (Safe.ite h.gafferFault (Safe.ite (Safe.ite h.inject.linkLost h) h))

theorem Safe.writeInjArm {s : State} (h : Safe s) {d v : Nat} {queued : List (Nat × Nat)} : Safe (s.writeInjArm d v queued).2 :=
  Safe.snd_ite h.wr.snd (Safe.snd_ite h h.wr.fireArmed.snd)

theorem Safe.writeInjEnable {s : State} (h : Safe s) {v : Nat} : Safe (s.writeInjEnable v).2 := h.plainWrite

theorem Safe.startSlice {s : State} (h : Safe s) {slice : Nat} : Safe (s.startSlice slice) :=
  (h.same.tallyCount.perhaps fun hu => hu.same).perhaps fun hu => hu.strictAll.same

theorem Safe.holdUnit {s : State} (h : Safe s) {n : Nat} : Safe (s.holdUnit n) := h.setHealth.same

theorem Safe.unholdUnit {s : State} (h : Safe s) {n : Nat} : Safe (s.unholdUnit n) := Safe.ite h.same.setHealth h

theorem Safe.sliceFails {s : State} (h : Safe s) {slice word : Nat} {injected escalates : Bool} :
    Safe (s.sliceFails slice word injected escalates) := by
  unfold State.sliceFails
  dsimp only
  split
  · exact Safe.ite h.count.same.tallyCount.sliceResult.logInjected (Safe.ite h.count.same.tallyCount.sliceResult.logInjected.same.failUnit
      h.count.same.tallyCount.sliceResult.logInjected.holdUnit)
  · exact h.count.same.tallyCount.sliceResult.logInjected

theorem Safe.injectSlice {s : State} (h : Safe s) {l : List (Nat × Nat)} : Safe (s.injectSlice l).2 := by
  induction l generalizing s with
  | nil => exact h
  | cons p l ih =>
    unfold State.injectSlice
    split
    next e => exact h.of_inject e
    next e => exact ih (h.of_inject e)

theorem Safe.writeOvfClear {s : State} (h : Safe s) {g v : Nat} : Safe (s.writeOvfClear g v).2 := (Safe.ite h.same h).snd

theorem Safe.writeFilter {s : State} (h : Safe s) {rq : Requester} {g v : Nat} : Safe (s.writeFilter rq g v).2 :=
  Safe.snd_ite h (Safe.snd_ite h (Safe.snd_ite h h.wr.snd))

theorem Safe.writeGrant {s : State} (h : Safe s) {i v : Nat} : Safe (s.writeGrant i v).2 := Safe.snd_ite h (Safe.snd_ite h h.wr.snd)

/-! Writes of objects and registers. -/

theorem Safe.writeWarmReq {s : State} (h : Safe s) {v : Nat} : Safe (s.writeWarmReq v).2 := (Safe.ite h.warmReset h).snd

theorem Safe.writeColdReq {s : State} (h : Safe s) {v straps : Nat} : Safe (s.writeColdReq v straps).2 := (Safe.ite h.coldReset h).snd

theorem Safe.writeGafRestart {s : State} (h : Safe s) {v : Nat} : Safe (s.writeGafRestart v).2 := (Safe.ite h.gafferRestart h).snd

theorem Safe.writeProduction {s : State} (h : Safe s) {addr v : Nat} : Safe (s.writeProduction addr v).2 :=
  Safe.snd_ite h (Safe.snd_ite (Safe.snd_ite h h.wr.wr.snd) (Safe.snd_ite (Safe.snd_ite h h.wr.wr.snd) (Safe.snd_ite h h.wr.snd)))

theorem Safe.writeIdentity {s : State} (h : Safe s) {addr v : Nat} : Safe (s.writeIdentity addr v).2 :=
  Safe.snd_ite h (Safe.snd_ite h.writeGrants h.plainWrite)

theorem Safe.writeDisplay {s : State} (h : Safe s) {rq : Requester} {addr v : Nat} : Safe (s.writeDisplay rq addr v).2 :=
  Safe.snd_ite h.writeLead (Safe.snd_ite (Safe.snd_ite h.writeSlotControl h.writeSlotField) (Safe.snd_ite h.writePairLock
    (Safe.snd_ite h.writeEnable (Safe.snd_ite h.writeLatchMode (Safe.snd_ite h.writePanelModes (Safe.snd_ite h.writeOutPort (Safe.snd_ite
    (Safe.snd_ite h.writeRetrain h.writePort) (Safe.snd_ite h.writeReelSlices (Safe.snd_ite h.writeClockLimit (Safe.snd_ite h.writeColour
    (Safe.snd_ite h.writeLutSwap (Safe.snd_ite h.writeLutBlock h.plainWrite))))))))))))

theorem Safe.writeMemory {s : State} (h : Safe s) {addr v : Nat} : Safe (s.writeMemory addr v).2 :=
  Safe.snd_ite h.writeMemConf (Safe.snd_ite h.writeSpareRank h.plainWrite)

theorem Safe.writeTouch {s : State} (h : Safe s) {rq : Requester} {addr v : Nat} : Safe (s.writeTouch rq addr v).2 := by
  unfold State.writeTouch
  refine Safe.snd_ite h.writeRfControl (Safe.snd_ite h (Safe.snd_ite h.writeKbEnable (Safe.snd_ite h (Safe.snd_ite ?_
    (Safe.snd_ite h.writeRamEffects h.plainWrite)))))
  split
  · exact h.writeHapControl
  · exact Safe.snd_ite h h.plainWrite
  · exact h.writeHapPlay
  · exact h.writeCritPlay
  · exact h.plainWrite

theorem Safe.writeAudio {s : State} (h : Safe s) {addr v : Nat} : Safe (s.writeAudio addr v).2 := by
  unfold State.writeAudio
  refine Safe.snd_ite h.writeAudRate (Safe.snd_ite h.writeTdm (Safe.snd_ite h.writePdm (Safe.snd_ite ?_ (Safe.snd_ite ?_ (Safe.snd_ite h.writeRoutes
    (Safe.snd_ite h.writeChimes (Safe.snd_ite h.playChime (Safe.snd_ite h.writeChimeStop h.plainWrite))))))))
  · split
    · exact h.writeStreamCfg
    · exact h.writeRing
    · exact h.writeRing
    · exact h.writeRing
    · exact h.writeAudDoorbell
    · exact h.writeGain
    · exact h.plainWrite
  · split
    · exact h.writeBusCfg
    · exact h.writeBusDest
    · exact h.writeGain
    · exact h.writeRing
    · exact h.writeRing
    · exact h.writeRing
    · exact h.writeAudDoorbell
    · exact h.writeRing
    · exact h.plainWrite

theorem Safe.writePower {s : State} (h : Safe s) {rq : Requester} {addr v straps : Nat} {queued : List (Nat × Nat)} :
    Safe (s.writePower rq addr v straps queued).2 := by
  unfold State.writePower
  refine Safe.snd_ite h.writePllEnable.snd (Safe.snd_ite h.writeInject.snd (Safe.snd_ite (Safe.snd_ite h.writeGateOpen.snd h.writeGateClose)
    (Safe.snd_ite ?_ (Safe.snd_ite h.writeMuxSel (Safe.snd_ite h.writeForce.snd (Safe.snd_ite (Safe.snd_ite h h.writeClockLimit).snd
    (Safe.snd_ite h.writeSupInject.snd (Safe.snd_ite h.writeClockLimit.snd (Safe.snd_ite h.writeWarmReq.snd (Safe.snd_ite h.writeColdReq.snd
    (Safe.snd_ite h.writeGafRestart.snd h.plainWrite.snd)))))))))))
  split
  · exact h.writeDomainOff.snd
  · exact h.writeDomainOn
  · exact h.writeDomainReset.snd

theorem Safe.writeBittern {s : State} (h : Safe s) {rq : Requester} {addr v : Nat} {queued : List (Nat × Nat)} :
    Safe (s.writeBittern rq addr v queued).2 :=
  Safe.snd_ite h.writeBitRestart.snd (Safe.snd_ite h.writeBitReady.snd (Safe.snd_ite h.writeCuControl.snd (Safe.snd_ite h.writeCuInject.snd
    (Safe.snd_ite h.writeSubstTable.snd (Safe.snd_ite h.writeCritRects.snd (Safe.snd_ite h.writeWatermark.snd (Safe.snd_ite h.writeSecret
    (Safe.snd_ite h.writeAudio.snd h.plainWrite.snd))))))))

theorem Safe.writeService {s : State} (h : Safe s) {rq : Requester} {addr v : Nat} {queued : List (Nat × Nat)} :
    Safe (s.writeService rq addr v queued).2 :=
  Safe.snd_ite h.writeInjEnable (Safe.snd_ite h.writeInjArm (Safe.snd_ite h.writeFilter (Safe.snd_ite h.writeOvfClear (Safe.snd_ite h.writeGrant
    (Safe.snd_ite h.writeScanMode (Safe.snd_ite h.writeMemory (Safe.snd_ite h.writeClockLimit (Safe.snd_ite h.writeProduction h.plainWrite))))))))

theorem Safe.writeOwn {s : State} (h : Safe s) {rq : Requester} {addr v straps : Nat} {queued : List (Nat × Nat)} :
    Safe (s.writeOwn rq addr v straps queued).2 := by
  unfold State.writeOwn
  refine Safe.snd_ite h ?_
  split
  · exact h.writeIdentity.snd
  · exact h.writeDisplay.snd
  · exact h.writeMemory.snd
  · exact h.writeMemory.snd
  · exact h.writeTouch.snd
  · exact h.writeAudio.snd
  · exact h.writePower
  · exact h.writeBittern
  · exact h.writeService.snd

theorem Safe.writeAny {s : State} (h : Safe s) {rq : Requester} {addr type len v : Nat} : Safe (s.writeAny rq addr type len v).2 :=
  Safe.snd_ite (Safe.snd_ite h.writeOwn h).ownerRefused.snd (Safe.snd_ite h.writeOwn h)

theorem Safe.writeWindow {s : State} (h : Safe s) {o off v : Nat} {wide : Bool} {go : State → Nat → State} (hf : ∀ t x, Safe t → Safe (go t x)) :
    Safe (s.writeWindow o off v wide go) :=
  Safe.ite h (Safe.ite (Safe.ite h.startReset h) (Safe.ite h.same (Safe.ite h.same (Safe.ite (Safe.ite h h.same) (Safe.ite (hf _ _ h)
    (Safe.ite h.same h))))))

theorem Safe.writeMailbox {s : State} (h : Safe s) {rq : Requester} {m off v : Nat} {wide : Bool} : Safe (s.writeMailbox rq m off v wide) := by
  unfold State.writeMailbox
  dsimp only
  split
  · refine Safe.ite h.mbError (h.mbWrite fun _ ht => ?_)
    split
    · exact ht.stageWord
    · exact ht.pushWord
  · exact h.mbWrite fun _ ht => ht.same
  · exact h.mbWrite fun _ ht => Safe.ite ht.releaseWords ht
  · exact h.mbWrite fun _ ht => Safe.ite ht.ring.tallyCount ht.ring.same
  · exact h.mbWrite fun _ ht => ht.doorbellWrite
  · exact h.mbWrite fun _ ht => ht.same
  · split
    · exact h.mbWrite fun _ ht => ht.same
    · exact h.mbError
  · exact h.mbError

theorem Safe.writeRecoveryGo {s : State} (h : Safe s) {port length : Nat} : Safe (s.writeRecoveryGo port length) := Safe.ite h h.wr.same

theorem Safe.writeBootBlock {s : State} (h : Safe s) {port off v : Nat} : Safe (s.writeBootBlock port off v) := by
  unfold State.writeBootBlock
  split
  · exact h.same
  · exact h.writeRecoveryGo
  · exact h

/-! LDP (R530 to R567). -/

theorem Safe.bareAnswer {s : State} (h : Safe s) {transport : Nat} {m : List (BitVec 8)} {status : Nat} : Safe (s.bareAnswer transport m status) :=
  h.same

theorem Safe.badMessage {s : State} (h : Safe s) {n : Nat} {x : Session} {status : Nat} {injected : Bool} :
    Safe (s.badMessage n x status injected) := by
  unfold State.badMessage
  dsimp only
  split
  · exact Safe.ite h.count h.count.same.authFail
  · exact h.count.same.authFail

theorem Safe.enqueueTxn {s : State} (h : Safe s) {ch : Nat} {t : LdpTxn} : Safe (s.enqueueTxn ch t) := h.same.countTxns

theorem Safe.acceptRequest {s : State} (h : Safe s) {n : Nat} {x : Session} {t : LdpTxn} : Safe (s.acceptRequest n x t) :=
  Safe.ite h.same.sendOn (Safe.ite h.same.sendOn (Safe.ite h.same.sendOn h.same.enqueueTxn))

theorem Safe.openMessage {s : State} (h : Safe s) {n : Nat} {x : Session} {m : List (BitVec 8)} : Safe (s.openMessage n x m) := by
  unfold State.openMessage
  refine Safe.ite (Safe.snd_ite h.inject h).badMessage (Safe.ite (Safe.snd_ite h.inject h).acceptRequest ?_)
  split
  · exact (Safe.snd_ite h.inject h).same
  · exact Safe.ite (Safe.snd_ite h.inject h) (Safe.snd_ite h.inject h).badMessage

theorem Safe.arrive {s : State} (h : Safe s) {transport unit ip udpPort : Nat} {m : List (BitVec 8)} :
    Safe (s.arrive transport unit ip udpPort m) := by
  unfold State.arrive
  refine Safe.ite h.bareAnswer (Safe.ite h.same ?_)
  split
  · exact h.bareAnswer
  · exact Safe.ite h.openMessage (Safe.ite h.bareAnswer (Safe.ite h.enqueueTxn h))

theorem Safe.loseSegments {s : State} (h : Safe s) {ctl : Nat} {injected : Bool} : Safe (s.loseSegments ctl injected) := by
  unfold State.loseSegments
  split
  · exact h
  · exact h.same.logInjected

theorem Safe.canMessage {s : State} (h : Safe s) {ctl : Nat} {m : List (BitVec 8)} : Safe (s.canMessage ctl m) := by
  unfold State.canMessage
  dsimp only
  split
  · exact h.inject.logInjected
  · exact h.inject.arrive

theorem Safe.canFrame {s : State} (h : Safe s) {ctl : Nat} {b : List (BitVec 8)} : Safe (s.canFrame ctl b) := by
  unfold State.canFrame
  extract_lets old aged
  have haged : Safe aged := h.perhaps fun hu => hu.loseSegments
  clear_value aged
  refine .ite (haged.loseSegments.perhaps fun hu => hu.canMessage) (.ite (haged.loseSegments.perhaps fun hu => hu.same) ?_)
  split
  · exact haged
  · exact .ite haged.loseSegments (.ite haged.same haged.same.canMessage)

theorem Safe.dictStart {s : State} (h : Safe s) {o v : Nat} : Safe (s.dictStart o v) := Safe.ite h.same (Safe.ite h.same.windowDone h.same.enqueueTxn)

theorem Safe.dictGo {s : State} (h : Safe s) {o v : Nat} : Safe (s.dictGo o v) := Safe.ite (h.whenB fun _ ht => ht.wake).dictStart h

theorem Safe.onTxn {s : State} (h : Safe s) {c : LdpChannel} {op : Nat} {f : State → Nat → LdpTxn → State} (hf : ∀ s ch t, Safe s → Safe (f s ch t)) :
    Safe (s.onTxn c op f) := by
  unfold State.onTxn
  split
  · exact hf _ _ _ h
  · exact h

theorem Safe.conclude {s : State} (h : Safe s) {ch : Nat} {t : LdpTxn} {status : Nat} {body : List (BitVec 8)} : Safe (s.conclude ch t status body) :=
  Safe.ite h h.respond

theorem Safe.await {s : State} (h : Safe s) {ch : Nat} {t : LdpTxn} {addr : Nat} : Safe (s.await ch t addr) := h.same

theorem Safe.concludeWrite {ch : Nat} {t : LdpTxn} {addr : Nat} {r : Option Nat × State} (h : Safe r.2) : Safe
    (Machine.concludeWrite ch t addr r) := by
  unfold Machine.concludeWrite
  split
  · exact h.await
  · exact h.conclude

theorem Safe.unstage {s : State} (h : Safe s) {ch : Nat} : Safe (s.unstage ch) := h.same

theorem Safe.writePart {s : State} (h : Safe s) {rq : Requester} {ch : Nat} {t : LdpTxn} {addr type offset : Nat} {v : List (BitVec 8)} {size : Nat} :
    Safe (s.writePart rq ch t addr type offset v size) :=
  Safe.ite h.unstage.conclude (Safe.ite h.unstage.conclude (Safe.ite (Safe.conclude h.same) (Safe.concludeWrite h.unstage.writeAny)))

theorem Safe.ldpWriteNow {s : State} (h : Safe s) {rq : Requester} {ch : Nat} {t : LdpTxn} : Safe (s.ldpWriteNow rq ch t) := by
  have written : ∀ addr type len v, Safe (Machine.concludeWrite ch t addr (s.writeAny rq addr type len v)) := fun _ _ _ _ =>
    Safe.concludeWrite h.writeAny
  unfold State.ldpWriteNow
  extract_lets addr type offset v
  split
  · exact Safe.ite (Safe.ite h.writePart (written ..)) (Safe.ite (written ..) (written ..))
  · exact written ..

theorem Safe.writeRecords {s : State} (h : Safe s) {rq : Requester} {x : Nat} {rs : List (Nat × Nat × Nat × Nat)} {w : Option Nat} :
    Safe (s.writeRecords rq x rs w).2.2 := by
  induction rs generalizing s w with
  | nil => exact h
  | cons r rs ih =>
    unfold State.writeRecords
    dsimp only
    split
    · exact ih h.writeAny
    · split
      · exact ih h.writeAny
      · exact h

theorem Safe.refuseRecord {s : State} (h : Safe s) {rq : Requester} {addr st : Nat} : Safe (s.refuseRecord rq addr st) :=
  Safe.ite h.ownerRefused (Safe.ite h.authFail h)

theorem Safe.writeBlockNow {s : State} (h : Safe s) {rq : Requester} {ch : Nat} {t : LdpTxn} : Safe (s.writeBlockNow rq ch t) := by
  have written := h.writeRecords (rq := rq) (x := takeLe t.body 0 2) (rs := (blockRecords (at8 t.body 2) (t.body.drop 4)).getD []) (w := none)
  unfold State.writeBlockNow
  dsimp only
  split
  · exact h.refuseRecord.conclude
  next e => exact Safe.await (congrArg (fun r => Safe r.2.2) e |>.mp written)
  next e => exact Safe.conclude (congrArg (fun r => Safe r.2.2) e |>.mp written)

theorem Safe.restoreOne {a : Nat × Nat × Option Nat × State} (h : Safe a.2.2.2) {rq : Requester} {addr : Nat} :
    Safe (State.restoreOne a rq addr).2.2.2 := by
  unfold State.restoreOne
  split
  · exact h
  · dsimp only
    split
    · exact h
    · split
      · exact h.writeAny
      · exact h

theorem Safe.restoreNow {s : State} (h : Safe s) {rq : Requester} {ch : Nat} {t : LdpTxn} : Safe (s.restoreNow rq ch t) := by
  unfold State.restoreNow
  extract_lets first last r skipped body
  have restored : Safe r.2.2.2 :=
    List.foldlRecOn (motive := fun a : Nat × Nat × Option Nat × State => Safe a.2.2.2) _ _ h fun _ ha _ _ => ha.restoreOne
  exact Safe.ite h.conclude restored.logEvent.conclude

theorem Safe.subscribeNow {s : State} (h : Safe s) {rq : Requester} {ch : Nat} {t : LdpTxn} : Safe (s.subscribeNow rq ch t) :=
  Safe.ite h.conclude (Safe.ite h.conclude (Safe.ite h.conclude h.same.conclude))

theorem Safe.ringNotify {s : State} (h : Safe s) {o : Nat} {body : List (BitVec 8)} : Safe (s.ringNotify o body) := h.same.same.ioWrite.same

theorem Safe.notify {s : State} (h : Safe s) {x : Subscription} {lost : Nat} : Safe (s.notify x lost) :=
  Safe.ite h (Safe.ite h.same.sendOn h.same.ringNotify)

theorem Safe.commitAgain {s : State} (h : Safe s) : Safe s.commitAgain := Safe.ite h.same.gafferCommit h

theorem Safe.commitFails {s : State} (h : Safe s) {c : CommitRun} {status : Nat} {injected : Bool} : Safe (s.commitFails c status injected) :=
  h.same.logInjected.answerChannel.commitAgain

theorem Safe.commitSucceeds {s : State} (h : Safe s) {c : CommitRun} : Safe (s.commitSucceeds c) := h.same.logEvent.answerChannel.commitAgain

theorem Safe.openSession {s : State} (h : Safe s) {a : OpenAsk} {n : Nat} {nonceD : List (BitVec 8)} : Safe (s.openSession a n nonceD) :=
  h.same.same.wr.wr.wr.same

theorem Safe.confirmFails {s : State} (h : Safe s) {cred : Nat} : Safe (s.confirmFails cred) := Safe.ite h.same h.same

theorem Safe.confirmNow {s : State} (h : Safe s) {n : Nat} {x : Session} {t : LdpTxn} : Safe (s.confirmNow n x t) :=
  Safe.ite (Safe.snd_ite h.inject h).count.authFail.confirmFails.freeSession.same (Safe.snd_ite h.inject h).same.countTxns.same.wr.wr.logEvent.same

/-! Start-up, restarts and recovery. -/

theorem Safe.skipEntry {s : State} (h : Safe s) {e : ImageEntry} {reason : Nat} : Safe (s.skipEntry e reason) := h.logEvent

theorem Safe.loadSecret {s : State} (h : Safe s) {e : ImageEntry} : Safe (s.loadSecret e) := Safe.ite h.skipEntry h.wr.same

theorem Safe.loadEntry {s : State} (h : Safe s) {e : ImageEntry} : Safe (s.loadEntry e) := by
  unfold State.loadEntry
  split
  · exact h.skipEntry
  · exact Safe.ite h.loadSecret (Safe.ite (Safe.ite h.wr h.skipEntry) (Safe.ite (Safe.ite h.wr.same h.skipEntry) (Safe.ite h.writeOwn h.skipEntry)))

theorem Safe.checkMemory {s : State} (h : Safe s) {es : List ImageEntry} : Safe (s.checkMemory es) :=
  Safe.ite h (h.each fun _ _ ht => ht.wr.skipEntry)

theorem Safe.loadImage {s : State} (h : Safe s) {es : List ImageEntry} : Safe (s.loadImage es) :=
  (h.each fun _ _ ht => ht.loadEntry).checkMemory.each fun _ _ ht => ht.loadEntry

theorem Safe.modesInForce {s : State} (h : Safe s) : Safe s.modesInForce := h.same

theorem Safe.readCold {s : State} (h : Safe s) : Safe s.readCold := (h.same.each fun _ _ ht => ht.wr).same

theorem Safe.startSpareRank {s : State} (h : Safe s) : Safe s.startSpareRank := by
  unfold State.startSpareRank
  refine Safe.ite h ?_
  split
  · exact h.wr
  · exact h.wr.wr.wr

theorem Safe.checkLane {s : State} (h : Safe s) {m r lane : Nat} {margin : Nat × Nat} : Safe (s.checkLane m r lane margin) := Safe.ite h h.wr.logEvent

theorem Safe.startChannel {s : State} (h : Safe s) {m : Nat} {t : ChannelTraining} : Safe (s.startChannel m t) :=
  Safe.ite (Safe.ite h.wr.wr.logEvent h).failUnit.wr ((Safe.ite h.wr.wr.logEvent h).each fun _ _ ht => ht.checkLane).wr

theorem Safe.startMemory {s : State} (h : Safe s) {training : List ChannelTraining} : Safe (s.startMemory training) :=
  (h.each fun _ _ ht => ht.wr).startSpareRank.each fun _ _ ht => Safe.ite ht.startChannel ht.setHealth.wr

theorem Safe.submitBoot {s : State} (h : Safe s) {k : Nat} : Safe (s.submitBoot k) := by
  unfold State.submitBoot
  extract_lets i
  refine Safe.ite h ?_
  split
  next judged => exact Safe.cutScans (Safe.startAll (Safe.settleMoves (Safe.same (h.judgeIntent (congrArg Prod.snd judged)))))
  · exact h.logEvent

theorem Safe.placeOwn {s : State} (h : Safe s) : Safe s.placeOwn := by
  unfold State.placeOwn
  refine h.each fun _ _ ht => ?_
  split
  · exact ht.same
  · exact ht

theorem Safe.failFirmware {s : State} (h : Safe s) : Safe s.failFirmware := (h.each fun _ _ ht => ht.finish).same

theorem Safe.hostWake {s : State} (h : Safe s) : Safe s.hostWake := h.whenB fun _ ht => ht.wake

/-! Sprocket: the line clock, device time and the trigger slots (R11 to R55). -/

@[simp] theorem Safe.execSpkLeadOutputWrite {s : State} (h : Safe s) {rq : Requester} {v : Fin 256} : Safely (execSpkLeadOutputWrite rq v s) :=
  (h.ownRequest fun _ ht => ht.writeLead).next

@[simp] theorem Safe.execLeadLineStart {s : State} (h : Safe s) {periodPs : Nat} {frameStart : Bool} : Safely (execLeadLineStart periodPs frameStart s) :=
  Safely.ite h.next (Safely.ite h.nextFrame.next h.nextLine.next)

@[simp] theorem Safe.execCoastLineTick {s : State} (h : Safe s) : Safely (execCoastLineTick s) :=
  Safely.ite h.next (Safely.ite h.nextFrame.next h.nextLine.next)

@[simp] theorem Safe.execDtimeSyncMessage {s : State} (h : Safe s) {port : Fin 2} {offset ratePpm : Int} :
    Safely (execDtimeSyncMessage port offset ratePpm s) := Safely.ite h.next (Safely.ite h.wr.wr.same.logEvent.next h.wr.wr.same.next)

@[simp] theorem Safe.execDtimeSyncLoss {s : State} (h : Safe s) : Safely (execDtimeSyncLoss s) := h.syncLost.next

@[simp] theorem Safe.execSlotArm {s : State} (h : Safe s) {rq : Requester} {n : Fin 256} {fireIfPast repeats : Bool} :
    Safely (execSlotArm rq n fireIfPast repeats s) := (h.ownRequest fun _ ht => ht.writeSlotControl).next

@[simp] theorem Safe.execSlotDisarm {s : State} (h : Safe s) {rq : Requester} {n : Fin 256} : Safely (execSlotDisarm rq n s) :=
  (h.ownRequest fun _ ht => ht.writeSlotControl).next

@[simp] theorem Safe.execNoneAction {s : State} (h : Safe s) {n : Fin 256} : Safely (execNoneAction n s) := (h.fire fun _ _ ht => ht).next

/-! Mailboxes and doorbells (R395, R409 to R417). -/

@[simp] theorem Safe.execMbRelease {s : State} (h : Safe s) {rq : Requester} {m : Fin 16} {n : Nat} : Safely (execMbRelease rq m n s) :=
  (h.mbWrite fun _ ht => ht.releaseWords).next

@[simp] theorem Safe.execMbRing {s : State} (h : Safe s) {rq : Requester} {m : Fin 16} {bits : BitVec 32} : Safely (execMbRing rq m bits s) :=
  (h.mbWrite fun _ ht => Safe.ite ht.ring.tallyCount ht.ring.same).next

@[simp] theorem Safe.execDoorbellWrite {s : State} (h : Safe s) {rq : Requester} {m : Fin 16} {v : BitVec 64} : Safely (execDoorbellWrite rq m v s) :=
  (h.mbWrite fun _ ht => ht.doorbellWrite).next

@[simp] theorem Safe.execRaiseDoorbell {s : State} (h : Safe s) {n : Fin 256} : Safely (execRaiseDoorbell n s) :=
  (h.fire fun _ _ ht => Safe.fst_ite ht.ring.fst (Safe.fst_ite ht.ring.logEvent.fst ht.ring.fst)).next

/-! Queues, descriptors and completions (R304 to R317, R326 to R328). -/

@[simp] theorem Safe.execQueueDoorbell {s : State} (h : Safe s) {w : Window} {q : Fin 16} {t : BitVec 32} : Safely (execQueueDoorbell w q t s) :=
  Safely.ite h.same.next h.next

@[simp] theorem Safe.execQueueEnable {s : State} (h : Safe s) {w : Window} {q sizeLog2 : Fin 16} : Safely (execQueueEnable w q sizeLog2 s) :=
  Safely.ite h.same.next h.next

@[simp] theorem Safe.execQueueDisable {s : State} (h : Safe s) {w : Window} {q sizeLog2 : Fin 16} : Safely (execQueueDisable w q sizeLog2 s) :=
  Safely.ite h.same.next h.next

@[simp] theorem Safe.execQueueFetch {s : State} (h : Safe s) {o : Owner} {q : Fin 16} {d : BitVec 512} : Safely (execQueueFetch o q d s) :=
  Safely.ite h.next ((Safe.ite h.same.same h.same).tallyCount.perhaps fun hu => hu.finish).next

@[simp] theorem Safe.execNop {s : State} (h : Safe s) {o : Owner} {q : Fin 16} : Safely (execNop o q s) := (h.onItem fun _ _ ht => ht.finish).next

@[simp] theorem Safe.execFence {s : State} (h : Safe s) {o : Owner} {q : Fin 16} : Safely (execFence o q s) :=
  (h.onItem fun _ _ ht => Safe.ite ht.finish ht).next

@[simp] theorem Safe.execFenceComplete {s : State} (h : Safe s) {o : Owner} {q : Fin 16} : Safely (execFenceComplete o q s) := by
  unfold Machine.execFenceComplete
  split
  · exact h.next
  · exact Safely.ite h.next (Safely.ite h.ring.finish.next h.finish.next)

@[simp] theorem Safe.execSlotRequest {s : State} (h : Safe s) {o : Owner} {q : Fin 16} : Safely (execSlotRequest o q s) := by
  unfold Machine.execSlotRequest
  refine (h.onItemIf fun _ _ ht => Safe.ite ht.finish (Safe.ite ht.finish ?_)).next
  split
  · exact ht.finish
  · exact Safe.ite ht.armFor.complete ht.finish

@[simp] theorem Safe.execSlotRequestCancel {s : State} (h : Safe s) {o : Owner} {q : Fin 16} : Safely (execSlotRequestCancel o q s) :=
  (h.onItemIf fun _ _ ht => Safe.ite ht.finish ht.writeSlotControl.finish).next

@[simp] theorem Safe.execDirtySwap {s : State} (h : Safe s) {i : Fin 64} : Safely (execDirtySwap i s) := h.same.next

@[simp] theorem Safe.execDirtyCutover {s : State} (h : Safe s) {i : Fin 64} : Safely (execDirtyCutover i s) := h.same.next

@[simp] theorem Safe.execDirtySwapDone {s : State} (h : Safe s) {i : Fin 64} : Safely (execDirtySwapDone i s) := h.same.next

/-! Grip: surfaces, unit health and migrations (R56 to R94). -/

@[simp] theorem Safe.execSurfaceIntent {o : Owner} {q : Fin 16} {s : State} (h : Safe s) : Safely (execSurfaceIntent o q s) := by
  refine Safe.next (h.onItemIf fun t it ht => Safe.ite ht.finish (Safe.ite ht.finish (Safe.ite ht.finish ?_)))
  dsimp only
  split
  next placed => exact (ht.placeNew placed).complete
  · exact ht.finish

@[simp] theorem Safe.execSurfaceRevision {s : State} (h : Safe s) {o : Owner} {q : Fin 16} : Safely (execSurfaceRevision o q s) :=
  (h.onItemIf fun _ _ ht => Safe.ite ht.finish (Safe.ite ht.finish (Safe.ite ht.finish ht.same.finish))).next

@[simp] theorem Safe.execSurfaceRelease {s : State} (h : Safe s) {o : Owner} {q : Fin 16} : Safely (execSurfaceRelease o q s) :=
  (h.onItemIf fun _ _ ht => Safe.ite ht.finish (Safe.ite ht.finish ht.release)).next

@[simp] theorem Safe.execSurfaceReleaseComplete {s : State} (h : Safe s) {sf : Fin 16384} : Safely (execSurfaceReleaseComplete sf s) := h.releaseIfFree.next

@[simp] theorem Safe.execMigrationCopyDone {s : State} (h : Safe s) {sf : Fin 16384} : Safely (execMigrationCopyDone sf s) := h.copyDone.next

@[simp] theorem Safe.execMigrationOldFreed {sf : Fin 16384} {s : State} (h : Safe s) : Safely (execMigrationOldFreed sf s) := by
  unfold Machine.execMigrationOldFreed
  extract_lets n x
  split
  · exact h.next
  · refine Safely.ite h.next (Safe.next (Safe.startMigrations (Safe.fenceRanks (of_parts h.objs ?_ h.log))))
    split
    · exact h.mem
    · exact Memory.wf_drop _ _ h.mem

@[simp] theorem Safe.execEpochEnd {s : State} (h : Safe s) {samples : List (Fin 92 × Nat)} {rates : List (Fin 16384 × Nat)} {utilisation : List
    (Fin 8 × Nat)} {durationNs : Nat} :
    Safely (execEpochEnd samples rates utilisation durationNs s) :=
  ((h.each fun _ _ ht => ht.sample).measure.each fun _ _ ht => Safe.ite ht
    ht.judge).restartCopies.moveDramBuffers.startMigrations.balance.same.credit.next

/-! The Reel (R95 to R136). -/

@[simp] theorem Safe.execCritRectsWrite {s : State} (h : Safe s) {rq : Requester} {k : Fin 12} {v : Nat} : Safely (execCritRectsWrite rq k v s) :=
  (h.ownRequest fun _ ht => ht.writeCritRects).next

@[simp] theorem Safe.execSubstTableWrite {s : State} (h : Safe s) {rq : Requester} {v : Nat} : Safely (execSubstTableWrite rq v s) :=
  (h.ownRequest fun _ ht => ht.writeSubstTable).next

@[simp] theorem Safe.execReelScanModeWrite {s : State} (h : Safe s) {rq : Requester} {k : Fin 12} {v : Fin 256} : Safely (execReelScanModeWrite rq k v s) :=
  (h.ownRequest fun _ ht => ht.writeScanMode).next

@[simp] theorem Safe.execLineFetch {s : State} (h : Safe s) {k : Fin 12} {y : Nat} {linesDone : List Nat} {firstMissing : Option Nat} {badWord : Option
    (Fin 3072)} :
    Safely (execLineFetch k y linesDone firstMissing badWord s) := by
  unfold Machine.execLineFetch
  refine Safely.ite h.next (Safely.ite (Safe.next ?_) h.raceFetch.reelFetch.next)
  split
  · exact h.raceFetch.logEvent
  · exact h.raceFetch

/-! Matte layers and colour (R137 to R177). -/

@[simp] theorem Safe.execLayerDescriptor {s : State} (h : Safe s) {o : Owner} {q : Fin 16} {substOk : Bool} : Safely (execLayerDescriptor o q substOk s) :=
  (h.onItem fun _ _ ht => Safe.ite ht.finish ht.checkSubst.same.finish).next

@[simp] theorem Safe.execColourShadowWrite {s : State} (h : Safe s) {rq : Requester} {addr : Fin 16777216} {v : Nat} :
    Safely (execColourShadowWrite rq addr v s) := Safely.ite (h.ownRequest fun _ ht => ht.writeColour).next h.next

@[simp] theorem Safe.execOutLut3dSwap {s : State} (h : Safe s) {rq : Requester} {k : Fin 12} {v : Fin 256} : Safely (execOutLut3dSwap rq k v s) :=
  (h.ownRequest fun _ ht => ht.writeLutSwap).next

/-! Compositions. -/

@[simp] theorem Safe.execCompositionComplete {s : State} (h : Safe s) {e : Fin 12} {durationNs : Nat} : Safely (execCompositionComplete e durationNs s) := by
  unfold Machine.execCompositionComplete
  split
  · exact h.next
  · exact ((h.wr.wr.tallyCount.idleEngine.modComp.perhaps fun hu => hu.compositionDone).perhaps fun hu => hu.releaseSplit).giveEngines.next

@[simp] theorem Safe.execEngineFault {s : State} (h : Safe s) {e : Fin 12} : Safely (execEngineFault e s) := h.engineFaults.next

/-! Guards of outputs (R293, R336 to R338). -/

@[simp] theorem Safe.execRelock {s : State} (h : Safe s) : Safely (execRelock s) := Safely.ite h.relock.rearmGuards.next h.next

@[simp] theorem Safe.execPreemptRaster {s : State} (h : Safe s) {n : Fin 256} : Safely (execPreemptRaster n s) :=
  (h.fire fun _ _ ht => Safe.fst_ite (ht.same.each fun _ _ hu => hu.wr).same.fst (Safe.fst_ite (ht.same.each fun _ _ hu => hu.wr).fst
    (ht.same.each fun _ _ hu => hu.wr).same.count.fst)).next

/-! Output channels (R178 to R218). -/

@[simp] theorem Safe.execCommit {s : State} (h : Safe s) {o : Owner} {q : Fin 16} : Safely (execCommit o q s) :=
  (h.onItem fun _ _ ht => Safe.ite ht.finish (Safe.ite ht.finish (Safe.ite ht.finish (Safe.ite ht.finish
    (ht.nextOrder.same.perhaps fun hu => hu.wakeOutput))))).next

@[simp] theorem Safe.execHoldEnter {s : State} (h : Safe s) {k : Fin 12} : Safely (execHoldEnter k s) :=
  Safely.ite h.next (Safe.ite (((h.endShown.releaseEngines.same.enterAll.each fun _ _ ht => ht.setPs.same).each fun _ _ ht =>
    ht.switchDram).finishIntents.logEvent.each fun _ _ ht => ht.coastIfLead) (((h.endShown.releaseEngines.same.enterAll.each fun _ _ ht =>
    ht.setPs.same).each fun _ _ ht => ht.switchDram).finishIntents.logEvent.each fun _ _ ht => ht.coastIfLead).wakeOutput).next

@[simp] theorem Safe.execOutLatchModeWrite {s : State} (h : Safe s) {rq : Requester} {k : Fin 12} {v : Fin 256} : Safely (execOutLatchModeWrite rq k v s) :=
  (h.ownRequest fun _ ht => ht.writeLatchMode).next

@[simp] theorem Safe.execOutPairLockWrite {s : State} (h : Safe s) {rq : Requester} {v : BitVec 32} : Safely (execOutPairLockWrite rq v s) :=
  (h.ownRequest fun _ ht => ht.writePairLock).next

@[simp] theorem Safe.execOutEnableWrite {s : State} (h : Safe s) {rq : Requester} {k : Fin 12} {v : Fin 256} : Safely (execOutEnableWrite rq k v s) :=
  (h.ownRequest fun _ ht => ht.writeEnable).next

/-! The display ports' commands. -/

@[simp] theorem Safe.execOutPortWrite {s : State} (h : Safe s) {rq : Requester} {k : Fin 12} {v : Fin 256} : Safely (execOutPortWrite rq k v s) :=
  (h.ownRequest fun _ ht => ht.writeOutPort).next

@[simp] theorem Safe.execAttachEdge {s : State} (h : Safe s) {p : Fin 14} {level : Bool} : Safely (execAttachEdge p level s) := by
  unfold Machine.execAttachEdge
  dsimp only
  refine Safe.next ?_
  split
  · exact Safe.ite (h.same.same.each fun _ _ ht => Safe.ite ht.enter ht) h.same.same
  · exact h.same.same

@[simp] theorem Safe.execUnplugDebounce {s : State} (h : Safe s) {p : Fin 14} : Safely (execUnplugDebounce p s) := by
  unfold Machine.execUnplugDebounce
  refine Safely.ite h.next ?_
  split
  · exact Safely.ite ((h.each fun _ _ ht => ht.same.enter).each fun _ _ ht => ht.coastIfLead).next h.next
  · exact h.next

@[simp] theorem Safe.execHotplugOut {s : State} (h : Safe s) {p : Fin 14} : Safely (execHotplugOut p s) := by
  unfold Machine.execHotplugOut
  dsimp only
  refine Safely.ite h.next ?_
  split
  · exact h.setPs.same.next
  · exact (h.setPs.same.logEvent.perhaps fun hu => hu.stopOutput).next

@[simp] theorem Safe.execHotplugIn {s : State} (h : Safe s) {p : Fin 14} {sink : SinkReport} : Safely (execHotplugIn p sink s) := by
  unfold Machine.execHotplugIn
  dsimp only
  refine Safely.ite h.next ?_
  split
  · exact h.setPs.same.next
  · exact h.setPs.same.plugged.next

@[simp] theorem Safe.execTrainFail {s : State} (h : Safe s) {p : Fin 14} {phase : Fin 7} : Safely (execTrainFail p phase s) := by
  unfold Machine.execTrainFail
  refine Safely.ite h.next ?_
  split
  · exact h.next
  · exact (h.count.logEvent.train.perhaps fun hu => hu.setPs).next

@[simp] theorem Safe.execLinkUp {s : State} (h : Safe s) {p : Fin 14} : Safely (execLinkUp p s) := by
  unfold Machine.execLinkUp
  extract_lets p was
  refine .ite h.next ?_
  split
  · exact h.next
  · extract_lets up init changes set told
    have hinit : Safe init := h.setPs.setPs.same.whenB fun _ hu => hu.same
    have htold : Safe told := (Safe.ite hinit.same hinit.setPs.wr).logEvent
    clear_value told
    refine Safe.next ?_
    split
    · exact htold.tryRaster
    · exact htold

@[simp] theorem Safe.execTrainRetry {s : State} (h : Safe s) {p : Fin 14} : Safely (execTrainRetry p s) := by
  unfold Machine.execTrainRetry
  refine Safely.ite h.next ?_
  split
  · exact h.next
  · exact Safely.ite h.startTraining.next h.train.next

@[simp] theorem Safe.execLinkLost {s : State} (h : Safe s) {p : Fin 14} : Safely (execLinkLost p s) := h.linkLost.next

@[simp] theorem Safe.execSinkIrq {s : State} (h : Safe s) {p : Fin 14} {vector : Fin 256} {lossOfLock _selfRefreshError : Bool} :
    Safely (execSinkIrq p vector lossOfLock _selfRefreshError s) := Safely.ite h.next (h.same.logEvent.perhaps fun hu => hu.linkLost).next

@[simp] theorem Safe.execPortRetrain {s : State} (h : Safe s) {rq : Requester} {p : Fin 14} {v : Fin 256} : Safely (execPortRetrain rq p v s) :=
  (h.ownRequest fun _ ht => ht.writeRetrain).next

/-! Jobs of the Raster Array. -/

@[simp] theorem Safe.execRenderJob {s : State} (h : Safe s) {o : Owner} {q : Fin 16} : Safely (execRenderJob o q s) :=
  (h.onItem fun _ _ ht => Safe.ite ht.refuseJob ht.queueJob).next

@[simp] theorem Safe.execComputeJob {s : State} (h : Safe s) {o : Owner} {q : Fin 16} : Safely (execComputeJob o q s) :=
  (h.onItem fun _ _ ht => Safe.ite ht.queueJob ht.refuseJob).next

@[simp] theorem Safe.execJobRelease {s : State} (h : Safe s) : Safely (execJobRelease s) := by
  unfold Machine.execJobRelease
  split
  · exact h.next
  · exact Safely.ite h.same.same.same.tallyCount.cutoverAtStart.injectTimeout.failJob.reconsiderAll.next
      (Safely.ite h.same.same.same.tallyCount.cutoverAtStart.injectTimeout.reconsiderAll.next
      (Safely.ite h.same.same.same.tallyCount.cutoverAtStart.injectTimeout.failJob.next
      h.same.same.same.tallyCount.cutoverAtStart.injectTimeout.same.addWork.reconsiderAll.next))

@[simp] theorem Safe.execJobTimeout {s : State} (h : Safe s) {j : Nat} : Safely (execJobTimeout j s) := by
  unfold Machine.execJobTimeout
  split
  · exact (Safe.ite h.failJob h).next
  · exact h.next

@[simp] theorem Safe.execJobComplete {s : State} (h : Safe s) {j : Nat} : Safely (execJobComplete j s) := by
  unfold Machine.execJobComplete
  split
  · exact (Safe.ite h.finishJob h).next
  · exact h.next

/-! Resident jobs of the Raster Array. -/

@[simp] theorem Safe.execBinDrawRecord {s : State} (h : Safe s) {j : Nat} {prims : List (Nat × List Nat)} : Safely (execBinDrawRecord j prims s) := by
  unfold Machine.execBinDrawRecord
  split
  · exact h.next
  · exact Safely.ite (Safely.ite h.failJob.next h.binPrims.next) h.next

@[simp] theorem Safe.execPartialPassEnd {s : State} (h : Safe s) {j : Nat} : Safely (execPartialPassEnd j s) := by
  unfold Machine.execPartialPassEnd
  split
  · exact h.next
  · exact (Safe.ite h.freePages.same h).next

@[simp] theorem Safe.execBinningEnd {s : State} (h : Safe s) {j : Nat} : Safely (execBinningEnd j s) := by
  unfold Machine.execBinningEnd
  split
  · exact h.next
  · exact (Safe.ite h.same.queueTiles h).next

@[simp] theorem Safe.execClusterFault {s : State} (h : Safe s) {c : Fin 24} : Safely (execClusterFault c s) := h.clusterFails.next

@[simp] theorem Safe.execWorkItemStart {c : Fin 24} {s : State} (h : Safe s) : Safely (execWorkItemStart c s) := by
  unfold Machine.execWorkItemStart
  refine Safely.ite h.next ?_
  split
  · exact h.next
  · extract_lets started
    have hstarted : Safe started := h.same
    split
    next e => exact (hstarted.of_inject e).next
    next e => exact (hstarted.of_inject e).clusterFails.next

@[simp] theorem Safe.execWorkItemDone {s : State} (h : Safe s) {c : Fin 24} {r : WorkResult} : Safely (execWorkItemDone c r s) := by
  unfold Machine.execWorkItemDone
  dsimp only
  split
  · exact h.next
  · split
    · exact h.same.next
    · split
      · exact h.same.debit.same.inject.same.ownerMismatch.failJob.next
      · exact h.same.debit.same.inject.ownerMismatch.failJob.next
      · exact Safely.ite h.same.debit.same.inject.failJob.next (Safely.ite h.same.debit.same.inject.itemDone.next
          h.same.debit.same.inject.itemDone.failJob.next)

@[simp] theorem Safe.execPreemptSaveDone {s : State} (h : Safe s) {i : Fin 64} {ns : Nat} : Safely (execPreemptSaveDone i ns s) :=
  Safely.ite h.next (h.same.same.wr.perhaps fun hu => hu.logEvent).next

@[simp] theorem Safe.execInstanceResume {s : State} (h : Safe s) {i : Fin 64} : Safely (execInstanceResume i s) := Safely.ite h.next h.same.next

@[simp] theorem Safe.execGuardExpired {s : State} (h : Safe s) {k : Fin 12} : Safely (execGuardExpired k s) := h.guardExpires.next

@[simp] theorem Safe.execPbGrant {s : State} (h : Safe s) {o : Owner} {q : Fin 16} : Safely (execPbGrant o q s) :=
  (h.onItemIf fun _ _ ht => Safe.ite ht.finish ht.same.finish).next

@[simp] theorem Safe.execPbRevoke {s : State} (h : Safe s) {o : Owner} {q : Fin 16} : Safely (execPbRevoke o q s) :=
  (h.onItemIf fun _ _ ht => Safe.ite ht.finish ht.settleRevokes).next

@[simp] theorem Safe.execSigInvalidate {s : State} (h : Safe s) {o : Owner} {q : Fin 16} : Safely (execSigInvalidate o q s) :=
  (h.afterJobs fun _ _ ht => Safe.ite ht.finish ht.store.finish).next

@[simp] theorem Safe.execTileBind {o : Owner} {q : Fin 16} {s : State} (h : Safe s) : Safely (execTileBind o q s) := by
  refine Safe.next (h.afterJobs fun t it ht => Safe.ite ht.finish ?_)
  split
  · exact ht.finish
  next bound => exact (ht.bindTiles bound).finish

@[simp] theorem Safe.execTileUnbind {s : State} (h : Safe s) {o : Owner} {q : Fin 16} : Safely (execTileUnbind o q s) :=
  (h.afterJobs fun _ _ ht => Safe.ite ht.finish ht.same.finish).next

/-! Pipelines and the translation cache (R287 to R292). -/

@[simp] theorem Safe.execPipelineCreate {s : State} (h : Safe s) {o : Owner} {q : Fin 16} : Safely (execPipelineCreate o q s) := by
  unfold Machine.execPipelineCreate
  refine (h.onItemIf fun _ _ ht => Safe.ite ht.finish (Safe.ite ht.complete ?_)).next
  split
  · exact ht.complete
  · exact Safe.ite ht.wr.wr.createPipeline ht.wr.wr.same

@[simp] theorem Safe.execTranslationDone {s : State} (h : Safe s) {o : Owner} {q : Fin 16} {results : List StageResult} {shared : Nat} :
    Safely (execTranslationDone o q results shared s) := by
  unfold Machine.execTranslationDone
  dsimp only
  split
  · exact h.next
  · refine Safely.ite h.next ?_
    split
    · exact h.same.complete.next
    · exact Safely.ite h.same.evictFor.logEvicted.finish.next h.same.evictFor.logEvicted.same.createPipeline.next

@[simp] theorem Safe.execPipelineDestroy {s : State} (h : Safe s) {o : Owner} {q : Fin 16} : Safely (execPipelineDestroy o q s) := by
  unfold Machine.execPipelineDestroy
  dsimp only
  refine (h.onItemIf fun _ _ ht => ?_).next
  split
  · exact ht.finish
  · exact ht.same.settleDestroys

/-! Device DRAM (R342 to R389). -/

@[simp] theorem Safe.execRefiTick {s : State} (h : Safe s) {m : Fin 8} : Safely (execRefiTick m s) := (Safe.ite h.refiTick h).next

@[simp] theorem Safe.execHorizontalBlankingStart {s : State} (h : Safe s) {k : Fin 12} {vertical : Bool} {roomNs : Nat} :
    Safely (execHorizontalBlankingStart k vertical roomNs s) := by
  unfold Machine.execHorizontalBlankingStart
  split
  · exact h.next
  · exact Safely.ite h.next (Safely.ite h.refreshWhile.next h.refreshWhile.next)

@[simp] theorem Safe.execRefreshAllBank {s : State} (h : Safe s) {n : Fin 256} : Safely (execRefreshAllBank n s) :=
  (h.fire fun _ _ ht => (Safe.ite ht.allBank ht.same).fst).next

@[simp] theorem Safe.execPerBankRefresh {s : State} (h : Safe s) {m : Fin 8} : Safely (execPerBankRefresh m s) :=
  Safely.ite h.next (Safely.ite (Safe.ite h.applyRecentre h).same.next h.same.next)

@[simp] theorem Safe.execMr4Poll {m : Fin 8} {mr4 : List Nat} {differs : List Bool} {copied : Nat} {s : State} (h : Safe s) :
    Safely (execMr4Poll m mr4 differs copied s) := by
  unfold Machine.execMr4Poll
  refine Safely.ite h.next ?_
  extract_lets shown ranks r polled
  have hr : Safe r.2 := List.foldlRecOn (motive := fun a : List (Nat × Nat × Bool) × State => Safe a.2) _ _ h.copiedTo fun a ha x _ => by
    split
    next e => exact ha.of_inject e
    next e => exact ha.of_inject e
  exact Safe.next (hr.pollRate.each fun _ _ ht => ht.readBack)

@[simp] theorem Safe.execMarginSweep {s : State} (h : Safe s) {m : Fin 8} : Safely (execMarginSweep m s) := by
  unfold Machine.execMarginSweep
  refine Safely.ite h.next ?_
  split
  · exact h.next
  · exact h.same.next

@[simp] theorem Safe.execSweepDone {s : State} (h : Safe s) {m : Fin 8} {result : SweepResult} : Safely (execSweepDone m result s) := by
  unfold Machine.execSweepDone
  split
  · exact h.next
  · exact Safely.ite h.same.inject.wr.next h.same.inject.afterSweep.next

@[simp] theorem Safe.execCorrectedError {s : State} (h : Safe s) {r : Fin 16} {genuine : Bool} : Safely (execCorrectedError r genuine s) :=
  Safely.ite h.next (Safely.ite h.next (Safely.ite (Safe.snd_ite h h.inject).count.same.rankFails.next (Safe.snd_ite h h.inject).count.same.next))

@[simp] theorem Safe.execCeSummary {s : State} (h : Safe s) : Safely (execCeSummary s) := (h.each fun _ _ ht => Safe.ite ht ht.same.logEvent).next

@[simp] theorem Safe.execUncorrectableError {s : State} (h : Safe s) {m : Fin 8} {addr : Nat} {reader : DramReader} {genuine : Bool} {copied : Nat} :
    Safely (execUncorrectableError m addr reader genuine copied s) :=
  Safely.ite h.copiedTo.next (Safely.ite h.copiedTo.next ((Safe.snd_ite h.copiedTo.snd h.copiedTo.inject).count.perhaps fun hu =>
    hu.poisonLine).poisonedReader.rankFails.next)

@[simp] theorem Safe.execSpareDone {s : State} (h : Safe s) : Safely (execSpareDone s) :=
  Safely.ite h.next h.wr.wr.wrBit.wr.same.wr.logEvent.gafferCommit.next

/-! The Bittern Island (R390 to R409). -/

@[simp] theorem Safe.execLockstepMismatch {s : State} (h : Safe s) {genuine : Bool} {queued : List (Nat × Nat)} :
    Safely (execLockstepMismatch genuine queued s) := h.bitternFault.next

@[simp] theorem Safe.execBitSramUe {s : State} (h : Safe s) {genuine : Bool} {queued : List (Nat × Nat)} : Safely (execBitSramUe genuine queued s) :=
  h.bitternFault.next

@[simp] theorem Safe.execBitWatchdogExpiry {s : State} (h : Safe s) {genuine : Bool} {queued : List (Nat × Nat)} :
    Safely (execBitWatchdogExpiry genuine queued s) := (Safe.ite h.bitternFault h).next

@[simp] theorem Safe.execBitRestartReq {s : State} (h : Safe s) {rq : Requester} {v : Fin 256} {queued : List (Nat × Nat)} :
    Safely (execBitRestartReq rq v queued s) := (h.ownRequest fun _ ht => ht.writeBitRestart).next

@[simp] theorem Safe.execBitRomStart {s : State} (h : Safe s) : Safely (execBitRomStart s) := Safely.ite h.next h.wr.same.next

@[simp] theorem Safe.execMeasurementDone {s : State} (h : Safe s) {image : BootImage} : Safely (execMeasurementDone image s) :=
  Safely.ite h.next (Safely.ite h.measurePass.next h.measureFail.next)

@[simp] theorem Safe.execBitReady {s : State} (h : Safe s) {rq : Requester} {v : Fin 256} : Safely (execBitReady rq v s) :=
  (h.ownRequest fun _ ht => ht.writeBitReady).next

/-! Quag haptics (R482 to R500). -/

@[simp] theorem Safe.execHapPlay {s : State} (h : Safe s) {rq : Requester} {c : Fin 8} {v : Fin 256} : Safely (execHapPlay rq c v s) :=
  (h.ownRequest fun _ ht => ht.writeHapPlay).next

@[simp] theorem Safe.execHapCritPlay {s : State} (h : Safe s) {rq : Requester} {c : Fin 8} {v : Fin 256} : Safely (execHapCritPlay rq c v s) :=
  (h.ownRequest fun _ ht => ht.writeCritPlay).next

@[simp] theorem Safe.execHapticStart {s : State} (h : Safe s) {n : Fin 256} : Safely (execHapticStart n s) := (h.fire fun _ _ ht => ht.trigger.fst).next

@[simp] theorem Safe.execHapEnable {s : State} (h : Safe s) {rq : Requester} {c : Fin 8} {v : Fin 256} : Safely (execHapEnable rq c v s) :=
  (h.ownRequest fun _ ht => ht.writeHapControl).next

@[simp] theorem Safe.execCalibrate {s : State} (h : Safe s) {rq : Requester} {c : Fin 8} {v : Fin 256} : Safely (execCalibrate rq c v s) :=
  (h.ownRequest fun _ ht => ht.writeHapControl).next

@[simp] theorem Safe.execCalDone {s : State} (h : Safe s) {c : Fin 8} {coarse best peakMv : Nat} : Safely (execCalDone c coarse best peakMv s) :=
  Safely.ite h.next (Safely.ite h.setHap.wrBit.logEvent.next (Safely.ite h.setHap.wrBit.logEvent.next h.setHap.wr.wr.logEvent.next))

@[simp] theorem Safe.execHalfCycleEnd {s : State} (h : Safe s) {c : Fin 8} {peakMv : Nat} {crossing : Option Int} :
    Safely (execHalfCycleEnd c peakMv crossing s) := by
  unfold Machine.execHalfCycleEnd
  dsimp only
  split
  · exact h.next
  · refine Safely.ite h.next ?_
    split
    · exact h.next
    · exact Safely.ite h.toPhase.next (Safely.ite h.toPhase.next h.toPhase.next)
    · exact Safely.ite h.toPhase.next h.toPhase.next
    · exact Safely.ite h.endPulse.next h.toPhase.next

@[simp] theorem Safe.execPulseGapEnd {s : State} (h : Safe s) {c : Fin 8} : Safely (execPulseGapEnd c s) := by
  unfold Machine.execPulseGapEnd
  split
  · exact h.next
  · refine Safely.ite h.next ?_
    split
    · exact h.endPulse.next
    · exact h.startPulse.toPhase.next

/-! Foley (R501 to R526). -/

@[simp] theorem Safe.execChimePlay {s : State} (h : Safe s) {rq : Requester} {v : Fin 256} : Safely (execChimePlay rq v s) :=
  (h.ownRequest fun _ ht => ht.playChime).next

@[simp] theorem Safe.execChimeStop {s : State} (h : Safe s) {rq : Requester} {v : Fin 256} : Safely (execChimeStop rq v s) :=
  (h.ownRequest fun _ ht => ht.writeChimeStop).next

@[simp] theorem Safe.execChimeEnd {s : State} (h : Safe s) {g : Fin 4} : Safely (execChimeEnd g s) := by
  unfold Machine.execChimeEnd
  split
  · exact h.next
  · exact h.chimeEnds.next

@[simp] theorem Safe.execTdmClockLost {s : State} (h : Safe s) {p : Fin 8} : Safely (execTdmClockLost p s) := h.tdmLost.next

@[simp] theorem Safe.execTdmClockBack {s : State} (h : Safe s) {p : Fin 8} {blocks : Nat} : Safely (execTdmClockBack p blocks s) :=
  Safely.ite h.next ((h.wr.logEvent.each fun _ _ ht => Safe.ite ht.same ht).each fun _ _ ht => Safe.ite ht.same ht).next

@[simp] theorem Safe.execBlockBoundary {s : State} (h : Safe s) {d : Fin 11} {rateHz : Nat} {ins : List AudioIn} {outs : List AudioOut} :
    Safely (execBlockBoundary d rateHz ins outs s) :=
  Safely.ite h.next ((((h.each fun _ _ ht => ht.inject.perhaps fun hu => hu.tdmLost).each fun _ _ ht => ht.genBlock).each fun _ _ ht =>
    ht.streamBlock).each fun _ _ ht => ht.busBlock).advanceChimes.next

@[simp] theorem Safe.execAudStreamCfgWrite {s : State} (h : Safe s) {rq : Requester} {u : Fin 64} {v : BitVec 32} : Safely (execAudStreamCfgWrite rq u v s) :=
  (h.ownRequest fun _ ht => ht.writeStreamCfg).next

@[simp] theorem Safe.execAudRouteTableWrite {s : State} (h : Safe s) {rq : Requester} {v : Nat} : Safely (execAudRouteTableWrite rq v s) :=
  (h.ownRequest fun _ ht => ht.writeRoutes).next

/-! Continuity units (R421 to R440). -/

@[simp] theorem Safe.execCuStreamJudge {s : State} (h : Safe s) {u : Fin 32} {pixels : Option (List (Nat × Nat × Nat))} {refUe corrected : Bool} :
    Safely (execCuStreamJudge u pixels refUe corrected s) := by
  unfold Machine.execCuStreamJudge
  dsimp only
  refine Safely.ite h.next (Safely.ite h.noData.next (Safely.ite h.cuResume.next ?_))
  split
  · exact h.cuResume.same.settleRestores.noData.next
  · exact h.cuResume.same.settleRestores.readRef.judgeItem.next

@[simp] theorem Safe.execCuLayerJudge {s : State} (h : Safe s) {u : Fin 32} {refUe corrected : Bool} : Safely (execCuLayerJudge u refUe corrected s) := by
  unfold Machine.execCuLayerJudge
  dsimp only
  refine Safely.ite h.next (Safely.ite h.noData.next ?_)
  split
  · exact h.cuResume.next
  · refine Safely.ite h.cuResume.next ?_
    split
    · exact h.cuResume.same.settleRestores.noData.next
    · exact Safely.ite h.cuResume.same.settleRestores.noData.next h.cuResume.same.settleRestores.readRef.judgeItem.next

@[simp] theorem Safe.execMbPush {s : State} (h : Safe s) {rq : Requester} {m : Fin 16} {word : BitVec 32} {stagingUe : Bool} :
    Safely (execMbPush rq m word stagingUe s) := by
  unfold Machine.execMbPush
  refine (h.mbWrite fun _ ht => ?_).next
  split
  · exact ht.stageWord
  · exact ht.pushWord

@[simp] theorem Safe.execCuWordGapTimeout {s : State} (h : Safe s) {u : Fin 32} : Safely (execCuWordGapTimeout u s) := Safely.ite h.malformed.next h.next

@[simp] theorem Safe.execCuMsgTimeout {s : State} (h : Safe s) {u : Fin 32} : Safely (execCuMsgTimeout u s) :=
  Safely.ite h.next (Safely.ite h.same.wrBit.wr.next h.same.wrBit.wr.logEvent.trip.next)

@[simp] theorem Safe.execCuEnable {s : State} (h : Safe s) {rq : Requester} {u : Fin 32} {v : BitVec 32} : Safely (execCuEnable rq u v s) :=
  (h.ownRequest fun _ ht => ht.writeCuControl).next

@[simp] theorem Safe.execCuDisable {s : State} (h : Safe s) {rq : Requester} {u : Fin 32} {v : BitVec 32} : Safely (execCuDisable rq u v s) :=
  (h.ownRequest fun _ ht => ht.writeCuControl).next

@[simp] theorem Safe.execCuRestore {s : State} (h : Safe s) {rq : Requester} {u : Fin 32} {v : BitVec 32} : Safely (execCuRestore rq u v s) :=
  (h.ownRequest fun _ ht => ht.writeCuControl).next

@[simp] theorem Safe.execCuInject {s : State} (h : Safe s) {rq : Requester} {u : Fin 32} {v : Fin 256} : Safely (execCuInject rq u v s) :=
  (h.ownRequest fun _ ht => ht.writeCuInject).next

/-! Reed touch and the key bank (R443 to R478). -/

@[simp] theorem Safe.execTouchScan {s : State} (h : Safe s) {n : Fin 256} : Safely (execTouchScan n s) :=
  (h.fire fun _ _ ht => Safe.fst_ite ht (Safe.fst_ite (Safe.ite ht.wrBit ht).fst ht.startWindow.fst)).next

@[simp] theorem Safe.execSelfStartedWindow {s : State} (h : Safe s) {p : Fin 2} : Safely (execSelfStartedWindow p s) :=
  Safely.ite h.abandonUnit.startWindow.next h.next

@[simp] theorem Safe.execScanComplete {s : State} (h : Safe s) {p : Fin 2} {counts selfCounts : List Nat} {pixels : ScanPixels} :
    Safely (execScanComplete p counts selfCounts pixels s) := by
  unfold Machine.execScanComplete
  dsimp only
  split
  · exact h.next
  · exact Safely.ite h.same.wrBit.frontOff.next (Safely.ite (h.same.wrBit.same.perhaps fun hu => hu.endBaselining).next
      ((Safe.ite h.same.wrBit.trackBase h.same.wrBit.trackBase.trackSelf).scanContacts.perhaps fun hu => hu.fit).same.next)

@[simp] theorem Safe.execSuspectAccepted {s : State} (h : Safe s) {u : Fin 3} : Safely (execSuspectAccepted u s) :=
  Safely.ite (Safely.ite h.next h.same.logEvent.next) (Safely.ite h.next h.same.wrBit.logEvent.next)

@[simp] theorem Safe.execListenSample {s : State} (h : Safe s) {p : Fin 2} {sample : Int} : Safely (execListenSample p sample s) := by
  unfold Machine.execListenSample
  dsimp only
  split
  · exact h.next
  · exact Safely.ite h.next (Safely.ite h.same.wr.sweepEnd.next h.same.wr.next)

@[simp] theorem Safe.execKeyScanComplete {s : State} (h : Safe s) {counts : List Nat} : Safely (execKeyScanComplete counts s) := by
  unfold Machine.execKeyScanComplete
  dsimp only
  split
  · exact h.next
  · exact Safely.ite (h.same.perhaps fun hu => hu.reportKeys).same.wr.next (Safely.ite (Safely.ite h.same.same.next
      (Safe.ite h.same.same.wr.showKeys h.same.same.wr.showKeys.logEvent).next) ((((Safe.ite h.same h.same.logEvent.tallyCount).perhaps fun hu =>
      hu.logEvent).same.showKeys.each fun _ _ ht => ht.logEvent).each fun _ _ ht => ht.handOver).reportKeys.next)

@[simp] theorem Safe.execRfEnable {s : State} (h : Safe s) {rq : Requester} {p : Fin 2} {v : BitVec 32} : Safely (execRfEnable rq p v s) :=
  (h.ownRequest fun _ ht => ht.writeRfControl).next

@[simp] theorem Safe.execRfDisable {s : State} (h : Safe s) {rq : Requester} {p : Fin 2} {v : BitVec 32} : Safely (execRfDisable rq p v s) :=
  (h.ownRequest fun _ ht => ht.writeRfControl).next

@[simp] theorem Safe.execKbEnable {s : State} (h : Safe s) {rq : Requester} {v : Fin 256} : Safely (execKbEnable rq v s) :=
  (h.ownRequest fun _ ht => ht.writeKbEnable).next

@[simp] theorem Safe.execWakeScan {s : State} (h : Safe s) {p : Fin 2} {groups : List Int} : Safely (execWakeScan p groups s) := by
  unfold Machine.execWakeScan
  dsimp only
  refine Safely.ite h.next ?_
  split
  · exact h.same.next
  · exact h.same.same.logEvent.wake.next

/-! Instances. -/

@[simp] theorem Safe.execInstCreate {o : Owner} {q : Fin 16} {s : State} (h : Safe s) : Safely (execInstCreate o q s) := by
  refine Safely.ite h.next (Safe.next (h.onItem fun t it ht => Safe.ite ht.finish (Safe.ite ht.finish ?_)))
  split
  · refine Safe.ite ht.finish (Safe.ite ht.finish ?_)
    split
    · exact ht.finish
    next placed => exact Safe.logEvent (Safe.complete (Safe.same (Safe.wr (Safe.defaultInstance (Safe.same (ht.placeContext placed))))))
  · exact ht.finish

@[simp] theorem Safe.execInstLayerGrantsWrite {s : State} (h : Safe s) {rq : Requester} {i : Fin 64} {v : Nat} : Safely (execInstLayerGrantsWrite rq i v s) :=
  (h.ownRequest fun _ ht => ht.writeGrants).next

@[simp] theorem Safe.execInstControlOpReset {s : State} (h : Safe s) {o : Owner} {q : Fin 16} : Safely (execInstControlOpReset o q s) :=
  (h.onItemIf fun _ _ ht => ht.instControl).next

@[simp] theorem Safe.execInstControlOpRemove {s : State} (h : Safe s) {o : Owner} {q : Fin 16} : Safely (execInstControlOpRemove o q s) :=
  (h.onItemIf fun _ _ ht => ht.instControl).next

@[simp] theorem Safe.execInstControlReset {s : State} (h : Safe s) {w : Window} : Safely (execInstControlReset w s) := Safely.ite h.next h.startReset.next

@[simp] theorem Safe.execDrainEnd {s : State} (h : Safe s) {w : Window} : Safely (execDrainEnd w s) := Safely.ite h.teardown.next h.next

@[simp] theorem Safe.execResetDone {s : State} (h : Safe s) {w : Window} : Safely (execResetDone w s) := by
  unfold Machine.execResetDone
  extract_lets o x held squashed freed ended told
  have hfreed : Safe freed := (h.each fun _ _ hu => hu.logEvent).freeInstance
  have htold : Safe told := (Safe.ite hfreed.removeDone hfreed.resetDone).logEvent
  clear_value told
  refine .ite h.next (Safe.next ?_)
  split
  · exact htold.finish
  · exact htold

@[simp] theorem Safe.execFunctionLevelReset {s : State} (h : Safe s) {hp : Fin 4} {busMaster : Bool} : Safely (execFunctionLevelReset hp busMaster s) :=
  (h.each fun _ _ ht => ht.flrInstance).next

@[simp] theorem Safe.execDmaCopy {s : State} (h : Safe s) {o : Owner} {q : Fin 16} : Safely (execDmaCopy o q s) := by
  unfold Machine.execDmaCopy
  split
  · exact h.next
  · exact Safely.ite h.startItem.finish.next (Safely.ite h.startItem.finish.next (Safely.ite h.next h.cutoverAtStart.startItem.next))

@[simp] theorem Safe.execDmaComplete {s : State} (h : Safe s) {j : Nat} {result : TransferResult} {data : List (BitVec 8)} {engineNs : Nat} :
    Safely (execDmaComplete j result data engineNs s) := by
  unfold Machine.execDmaComplete
  split
  · exact h.next
  · exact Safely.ite h.next (Safely.ite (Safe.ite h.same h).dmaFails.next (Safe.ite h.same h).dmaEnds.next)

/-! Clocks (R573 to R593, R624). -/

@[simp] theorem Safe.execXoDelayExpiry {s : State} (h : Safe s) : Safely (execXoDelayExpiry s) := (Safe.ite h.same h).next

@[simp] theorem Safe.execXoCountDone {s : State} (h : Safe s) {khz : Nat} : Safely (execXoCountDone khz s) := by
  unfold Machine.execXoCountDone
  dsimp only
  refine Safely.ite h.next ?_
  split
  · exact h.same.haltBittern.same.next
  · exact (h.same.wr.wr.wr.wr.each fun _ _ ht => ht.wr.wr).logEvent.next

@[simp] theorem Safe.execPllLocked {s : State} (h : Safe s) {pll : Fin 10} {khz : Nat} : Safely (execPllLocked pll khz s) :=
  Safely.ite h.next h.wr.wr.wr.showClocks.clocksReady.next

@[simp] theorem Safe.execPllEnable {s : State} (h : Safe s) {rq : Requester} {pll : Fin 10} {v : Fin 256} : Safely (execPllEnable rq pll v s) :=
  (h.ownRequest fun _ ht => ht.writePllEnable).next

@[simp] theorem Safe.execClkmonWindow {s : State} (h : Safe s) {m : Fin 11} {khz : Nat} : Safely (execClkmonWindow m khz s) :=
  Safely.ite h.next (Safe.ite h.wr.wr.same.romClock h.wr.wr.same.monitorChange.romClock).next

@[simp] theorem Safe.execClkmonInject {s : State} (h : Safe s) {rq : Requester} {m : Fin 11} {v : Fin 256} : Safely (execClkmonInject rq m v s) :=
  (h.ownRequest fun _ ht => ht.writeInject).next

@[simp] theorem Safe.execMuxSel {s : State} (h : Safe s) {rq : Requester} {x : Fin 19} {v : Fin 256} : Safely (execMuxSel rq x v s) :=
  (h.requestLater fun _ ht => ht.writeMuxSel).next

@[simp] theorem Safe.execMuxSwitchDone {s : State} (h : Safe s) {x : Fin 19} : Safely (execMuxSwitchDone x s) := by
  unfold Machine.execMuxSwitchDone
  split
  · exact (Safe.ite h.connect.showClocks h).next
  · exact h.next

@[simp] theorem Safe.execSwitchStuck {s : State} (h : Safe s) {x : Fin 19} : Safely (execSwitchStuck x s) := by
  unfold Machine.execSwitchStuck
  split
  · exact Safely.ite h.next h.same.logEvent.next
  · exact h.next

@[simp] theorem Safe.execForceSel {s : State} (h : Safe s) {rq : Requester} {x : Fin 19} {v : Fin 256} {straps : BitVec 16} {queued : List (Nat × Nat)} :
    Safely (execForceSel rq x v straps queued s) := (h.ownRequest fun _ ht => ht.writeForce).next

@[simp] theorem Safe.execForceSelResetRelease {s : State} (h : Safe s) {x : Fin 19} : Safely (execForceSelResetRelease x s) :=
  Safely.ite h.next (h.same.perhaps fun hu => hu.tryRaster).next

@[simp] theorem Safe.execGateOpen {s : State} (h : Safe s) {rq : Requester} {g : Fin 128} : Safely (execGateOpen rq g s) :=
  (h.ownRequest fun _ ht => ht.writeGateOpen).next

@[simp] theorem Safe.execGateClose {s : State} (h : Safe s) {rq : Requester} {g : Fin 128} : Safely (execGateClose rq g s) :=
  (h.requestLater fun _ ht => ht.writeGateClose).next

@[simp] theorem Safe.execGateCloseComplete {s : State} (h : Safe s) {g : Fin 128} : Safely (execGateCloseComplete g s) := (Safe.ite h.wr.answerClosing h).next

@[simp] theorem Safe.execBusyRefused {s : State} (h : Safe s) {g : Fin 128} {block : Nat} : Safely (execBusyRefused g block s) :=
  (Safe.ite h h.wr.wr.logEvent.answerClosing).next

@[simp] theorem Safe.execDomainOn {s : State} (h : Safe s) {rq : Requester} {d : Fin 17} : Safely (execDomainOn rq d s) :=
  (h.requestLater fun _ ht => ht.writeDomainOn).next

@[simp] theorem Safe.execDomainOnComplete {s : State} (h : Safe s) {d : Fin 17} : Safely (execDomainOnComplete d s) :=
  (Safe.ite h.wr.domainUp.answerDomain h).next

@[simp] theorem Safe.execDomainOff {s : State} (h : Safe s) {rq : Requester} {d : Fin 17} : Safely (execDomainOff rq d s) :=
  (h.ownRequest fun _ ht => ht.writeDomainOff).next

@[simp] theorem Safe.execDomainReset {s : State} (h : Safe s) {rq : Requester} {d : Fin 17} : Safely (execDomainReset rq d s) :=
  (h.ownRequest fun _ ht => ht.writeDomainReset).next

@[simp] theorem Safe.execDomainResetRelease {s : State} (h : Safe s) {d : Fin 17} : Safely (execDomainResetRelease d s) := (Safe.ite h.wr.domainUp h).next

/-! Sluice and the supplies (R593 to R605). -/

@[simp] theorem Safe.execStateEnter {s : State} (h : Safe s) {target : Fin 5} : Safely (execStateEnter target s) :=
  Safely.ite h.next ((Safe.ite h.sleepMemory h).perhaps fun hu => hu.sleepDeep).wr.setDomains.logEvent.next

@[simp] theorem Safe.execWakeEvent {s : State} (h : Safe s) {cause : Fin 8} : Safely (execWakeEvent cause s) :=
  Safely.ite h.wake.next (Safely.ite h.next h.same.next)

@[simp] theorem Safe.execStateExit {s : State} (h : Safe s) : Safely (execStateExit s) := by
  unfold Machine.execStateExit
  split
  · exact h.next
  · exact ((((Safe.ite (h.wr.same.setDomains.each fun _ _ ht => ht.leaveSelfRefresh) h.wr.same.setDomains).perhaps fun hu =>
      hu.wakeDeep).logEvent.perhaps fun hu => hu.logEvent).each fun _ _ ht => ht.domainUp.answerDomain).releaseHeld.next

@[simp] theorem Safe.execPowerMeasurement {s : State} (h : Safe s) {mw : Nat} : Safely (execPowerMeasurement mw s) :=
  ((h.same.wr.moveClocks fun _ ht => ht.same).showLimits.wrBit.perhaps fun hu => hu.logEvent).next

@[simp] theorem Safe.execThermalThrottle {s : State} (h : Safe s) {celsius : Int} : Safely (execThermalThrottle celsius s) :=
  Safely.ite (h.sensor.moveClocks fun _ ht => ht.same).wrBit.showLimits.logInjected.next (Safely.ite
    (h.sensor.moveClocks fun _ ht => ht.same).wrBit.showLimits.next h.sensor.next)

@[simp] theorem Safe.execThermalTrip {s : State} (h : Safe s) {celsius : Int} : Safely (execThermalTrip celsius s) :=
  Safely.ite h.sensor.next h.sensor.afterReset.same.next

@[simp] theorem Safe.execThermalTripRelease {s : State} (h : Safe s) {celsius : Int} {straps : BitVec 16} :
    Safely (execThermalTripRelease celsius straps s) := (Safe.ite h.fullReset h).next

@[simp] theorem Safe.execSagStart {s : State} (h : Safe s) {rail : Fin 12} {mv : Nat} : Safely (execSagStart rail mv s) := by
  unfold Machine.execSagStart
  dsimp only
  refine Safely.ite h.next ?_
  split
  · exact h.wr.wr.same.next
  · exact h.wr.wr.count.same.wrBit.showClocks.abandonSlices.next

@[simp] theorem Safe.execRailRecovered {s : State} (h : Safe s) {rail : Fin 12} {mv : Nat} : Safely (execRailRecovered rail mv s) := by
  unfold Machine.execRailRecovered
  dsimp only
  refine Safely.ite h.next ?_
  split
  · exact h.wr.next
  · exact h.wr.same.next

@[simp] theorem Safe.execSag {s : State} (h : Safe s) : Safely (execSag s) := by
  unfold Machine.execSag
  split
  · exact h.next
  · split
    · exact h.next
    · exact Safely.ite h.next h.same.wrBit.wr.showClocks.logAt.wake.next

@[simp] theorem Safe.execSupInject {s : State} (h : Safe s) {rq : Requester} {rail : Fin 12} {v : Fin 256} : Safely (execSupInject rq rail v s) :=
  (h.ownRequest fun _ ht => ht.writeSupInject).next

@[simp] theorem Safe.execAvsSettle {s : State} (h : Safe s) {rail : Fin 2} : Safely (execAvsSettle rail s) :=
  Safely.ite h.next (h.same.perhaps fun hu => hu.same.showClocks).next

@[simp] theorem Safe.execAvsFault {s : State} (h : Safe s) {rail : Fin 2} : Safely (execAvsFault rail s) := Safely.ite h.next h.same.logEvent.next

@[simp] theorem Safe.execBrownOut {s : State} (h : Safe s) {rail : Fin 12} {straps : BitVec 16} : Safely (execBrownOut rail straps s) := h.fullReset.wr.next

/-! The Script Log's ring, injection, Dailies and Tally (R629 to R655). -/

/-- The FIFO empties into the ring, and the cause of the last reset into the mirror and the ring, within their bounds (R611, R633). -/
@[simp] theorem Safe.execLogMove {s : State} (h : Safe s) : Safely (execLogMove s) := by
  unfold Machine.execLogMove
  refine Safely.ite h.next ?_
  extract_lets r first _ mirrored caused l _ emptied moved n last
  obtain ⟨fifo, -, ring⟩ := h.logBounds
  have hmirrored : Safe mirrored := of_parts h.objs h.mem (Log.bounded_iff.2 ⟨fifo, List.length_take_le .., ring⟩)
  have hcaused : Safe caused := Safe.ite hmirrored.tallyRecord.toRing h
  have hemptied : Safe emptied := of_parts hcaused.objs hcaused.mem (Log.bounded_iff.2 ⟨Nat.zero_le _, hcaused.logBounds.2⟩)
  have hmoved : Safe moved := hemptied.each fun _ _ ht => ht.toRing
  refine Safe.next (Safe.ite hmoved (Safe.logEvent ?_))
  obtain ⟨objs, mem, log⟩ := safe_iff.1 hmoved
  exact safe_iff.2 ⟨objs, mem, Log.bounded_iff.2 (Log.bounded_iff.1 log)⟩

@[simp] theorem Safe.execInjArm {s : State} (h : Safe s) {rq : Requester} {point : Fin 31} {v : Fin 256} {queued : List (Nat × Nat)} :
    Safely (execInjArm rq point v queued s) := (h.ownRequest fun _ ht => ht.writeInjArm).next

@[simp] theorem Safe.execDailiesReserve {s : State} (h : Safe s) {slice : Nat} : Safely (execDailiesReserve slice s) := by
  unfold Machine.execDailiesReserve
  split
  · exact h.next
  · exact (Safe.ite h h.same).next
  · exact h.next

@[simp] theorem Safe.execDailiesSlice {s : State} (h : Safe s) {n : Fin 256} : Safely (execDailiesSlice n s) :=
  (h.fire fun _ _ ht => Safe.fst_ite ht.startSlice.fst ht.same.count.tallyCount.logEvent.fst).next

@[simp] theorem Safe.execSliceComplete {slice : Nat} {pass : Bool} {word : Nat} {s : State} (h : Safe s) : Safely (execSliceComplete slice pass word s) := by
  unfold Machine.execSliceComplete
  refine Safely.ite h.next ?_
  extract_lets ended
  have hended : Safe ended := h.endSlice
  refine Safely.ite hended.sliceFails.next ?_
  split
  next e => exact Safe.next (Safe.sliceFails (Safe.same (hended.injectSlice.snd_of_eq e)))
  next e =>
    extract_lets again passed told
    have hpassed : Safe passed := Safe.sliceResult (Safe.same (hended.injectSlice.snd_of_eq e))
    refine Safely.ite (Safe.next ?_) hpassed.next
    split
    · exact hpassed.logEvent.unholdUnit
    · exact hpassed.logEvent

@[simp] theorem Safe.execDailiesOverrun {s : State} (h : Safe s) {slice : Nat} : Safely (execDailiesOverrun slice s) := by
  unfold Machine.execDailiesOverrun
  split
  · exact h.next
  · exact Safely.ite h.next h.sliceResult.endSlice.logEvent.next

@[simp] theorem Safe.execDailiesRound {s : State} (h : Safe s) : Safely (execDailiesRound s) := Safely.ite h.next h.count.logEvent.same.next

@[simp] theorem Safe.execTallyWrap {s : State} (h : Safe s) {g : Fin 40} {counter : Fin 64} : Safely (execTallyWrap g counter s) :=
  (Safe.ite h.tallyWrap h).next

@[simp] theorem Safe.execTallyOvfClear {s : State} (h : Safe s) {rq : Requester} {g : Fin 40} {v : Fin 256} : Safely (execTallyOvfClear rq g v s) :=
  (h.ownRequest fun _ ht => ht.writeOvfClear).next

/-! The commands of an output's frame. -/

@[simp] theorem Safe.execOutputIntent {s : State} (h : Safe s) {o : Owner} {q : Fin 16} : Safely (execOutputIntent o q s) :=
  (h.onItem fun _ _ ht => ht.outputIntent.perhaps fun hu => hu.cutScans).next

@[simp] theorem Safe.execOutputLatchPoint {s : State} (h : Safe s) {k : Fin 12} : Safely (execOutputLatchPoint k s) :=
  Safely.ite h.next h.latchPoint.finishIntents.settleRestores.next

@[simp] theorem Safe.execDecisionPoint {s : State} (h : Safe s) {k : Fin 12} {line : Nat} {progress : List (Bool × Nat)} :
    Safely (execDecisionPoint k line progress s) := Safely.ite h.next h.decision.settleRestores.next

@[simp] theorem Safe.execLatchOutput {s : State} (h : Safe s) {n : Fin 256} {line : Nat} {progress : List (Bool × Nat)} :
    Safely (execLatchOutput n line progress s) := (h.fire fun _ _ ht => Safe.fst_ite ht ht.decision.settleRestores.fst).next

@[simp] theorem Safe.execFrameStart {s : State} (h : Safe s) {k : Fin 12} : Safely (execFrameStart k s) := by
  unfold Machine.execFrameStart
  refine Safely.ite h.next ?_
  split
  · exact (h.frameStart.each fun _ _ ht => ht.touchFrameStart).next
  · exact h.next

/-! LDP (R530 to R567). -/

@[simp] theorem Safe.execUdpDatagram {s : State} (h : Safe s) {mac : Fin 2} {ip : BitVec 32} {udpPort : BitVec 16} {fragment : Bool} {bytes : List
    (BitVec 8)} :
    Safely (execUdpDatagram mac ip udpPort fragment bytes s) := (Safe.ite h h.arrive).next

@[simp] theorem Safe.execArpIcmp {s : State} (h : Safe s) {mac : Fin 2} {echo : Bool} {ip : BitVec 32} : Safely (execArpIcmp mac echo ip s) :=
  (Safe.ite h.same h).next

@[simp] theorem Safe.execCanFrame {s : State} (h : Safe s) {ctl : Fin 4} {identifier : BitVec 32} {bytes : List (BitVec 8)} :
    Safely (execCanFrame ctl identifier bytes s) := ((Safe.ite h h.wake).perhaps fun hu => hu.canFrame).next

@[simp] theorem Safe.execCanSegmentLost {s : State} (h : Safe s) : Safely (execCanSegmentLost s) := by
  unfold Machine.execCanSegmentLost
  refine Safe.next ?_
  split
  · exact Safe.ite h.loseSegments h
  · exact h

@[simp] theorem Safe.execDictGo {s : State} (h : Safe s) {w : Window} {v : BitVec 32} {bytes : List (BitVec 8)} : Safely (execDictGo w v bytes s) :=
  (Safe.ite h h.same.dictGo).next

@[simp] theorem Safe.execLdpRead {s : State} (h : Safe s) {c : LdpChannel} : Safely (execLdpRead c s) := (h.onTxn fun _ _ _ ht => ht.conclude).next

@[simp] theorem Safe.execLdpReadBlock {s : State} (h : Safe s) {c : LdpChannel} : Safely (execLdpReadBlock c s) :=
  (h.onTxn fun _ _ _ ht => Safe.ite ht.conclude ht.conclude).next

@[simp] theorem Safe.execLdpWrite {s : State} (h : Safe s) {c : LdpChannel} : Safely (execLdpWrite c s) := (h.onTxn fun _ _ _ ht => ht.ldpWriteNow).next

@[simp] theorem Safe.execStagingTimeout {s : State} (h : Safe s) {c : LdpChannel} : Safely (execStagingTimeout c s) := by
  unfold Machine.execStagingTimeout
  refine Safe.next ?_
  split
  · exact Safe.ite h.unstage h
  · exact h

@[simp] theorem Safe.execLdpWriteBlock {s : State} (h : Safe s) {c : LdpChannel} : Safely (execLdpWriteBlock c s) :=
  (h.onTxn fun _ _ _ ht => ht.writeBlockNow).next

@[simp] theorem Safe.execRestoreDefaults {s : State} (h : Safe s) {c : LdpChannel} : Safely (execRestoreDefaults c s) :=
  (h.onTxn fun _ _ _ ht => ht.restoreNow).next

@[simp] theorem Safe.execLdpSubscribe {s : State} (h : Safe s) {c : LdpChannel} : Safely (execLdpSubscribe c s) :=
  (h.onTxn fun _ _ _ ht => ht.subscribeNow).next

@[simp] theorem Safe.execLdpUnsubscribe {s : State} (h : Safe s) {c : LdpChannel} : Safely (execLdpUnsubscribe c s) :=
  (h.onTxn fun _ _ _ ht => Safe.ite ht.same.conclude ht.conclude).next

@[simp] theorem Safe.execLdpNotify {s : State} (h : Safe s) {sub lost : Nat} : Safely (execLdpNotify sub lost s) := by
  unfold Machine.execLdpNotify
  refine Safe.next ?_
  split
  · exact Safe.ite h.notify h
  · exact h

@[simp] theorem Safe.execCommitRequest {s : State} (h : Safe s) {c : LdpChannel} : Safely (execCommitRequest c s) :=
  (h.onTxn fun _ _ _ ht => Safe.ite ht (Safe.ite ht.conclude (Safe.ite ht.conclude (Safe.ite ht.logEvent.conclude ht.same.await)))).next

@[simp] theorem Safe.execCommitDone {s : State} (h : Safe s) {verified : Bool} : Safely (execCommitDone verified s) := by
  unfold Machine.execCommitDone
  dsimp only
  refine Safe.next ?_
  split
  · exact h
  · refine Safe.ite h (Safe.ite h.commitFails ?_)
    split
    · exact h.inject.commitFails
    · exact h.inject.commitSucceeds

@[simp] theorem Safe.execLdpOpen {s : State} (h : Safe s) {nonceD : BitVec 128} : Safely (execLdpOpen nonceD s) := by
  unfold Machine.execLdpOpen
  dsimp only
  refine Safe.next ?_
  split
  · exact h
  · refine Safe.ite h ?_
    split
    · exact h.same.openSession
    · exact h.same.same

@[simp] theorem Safe.execLdpConfirm {s : State} (h : Safe s) {n : Fin 8} : Safely (execLdpConfirm n s) := by
  unfold Machine.execLdpConfirm
  refine Safe.next ?_
  split
  · exact h.confirmNow
  · exact h

@[simp] theorem Safe.execConfirmTimeout {s : State} (h : Safe s) {n : Fin 8} : Safely (execConfirmTimeout n s) := by
  unfold Machine.execConfirmTimeout
  refine Safe.next ?_
  split
  · exact Safe.ite h.freeSession h
  · exact h

@[simp] theorem Safe.execAuthLockoutEnd {s : State} (h : Safe s) {cred : Fin 8} : Safely (execAuthLockoutEnd cred s) := (Safe.ite h h.same).next

@[simp] theorem Safe.execSessionIdle {s : State} (h : Safe s) {n : Fin 8} : Safely (execSessionIdle n s) := by
  unfold Machine.execSessionIdle
  refine Safe.next ?_
  split
  · exact Safe.ite h.closeSession h
  · exact h

@[simp] theorem Safe.execLdpClose {s : State} (h : Safe s) {c : LdpChannel} : Safely (execLdpClose c s) :=
  (h.onTxn fun _ _ _ ht => Safe.ite ht.conclude.closeSession ht.conclude.endWindow).next

@[simp] theorem Safe.execLdpPing {s : State} (h : Safe s) {c : LdpChannel} : Safely (execLdpPing c s) := (h.onTxn fun _ _ _ ht => ht.conclude).next

@[simp] theorem Safe.execCredSecretWrite {s : State} (h : Safe s) {rq : Requester} {cred : Fin 8} {blob : Nat} :
    Safely (execCredSecretWrite rq cred blob s) := (h.requestLater fun _ ht => ht.writeSecret).next

/-! Start-up, restarts and recovery. -/

@[simp] theorem Safe.execPowerOnReset {s : State} (h : Safe s) {straps : BitVec 16} : Safely (execPowerOnReset straps s) := h.fullReset.next

@[simp] theorem Safe.execResetPin {s : State} (h : Safe s) {straps : BitVec 16} : Safely (execResetPin straps s) := h.coldReset.next

@[simp] theorem Safe.execColdRequest {s : State} (h : Safe s) {rq : Requester} {v : Fin 256} {straps : BitVec 16} : Safely (execColdRequest rq v straps s) :=
  (h.ownRequest fun _ ht => ht.writeColdReq).next

@[simp] theorem Safe.execWarmRequest {s : State} (h : Safe s) {rq : Requester} {v : Fin 256} : Safely (execWarmRequest rq v s) :=
  (h.ownRequest fun _ ht => ht.writeWarmReq).next

@[simp] theorem Safe.execImageLoaded {s : State} (h : Safe s) : Safely (execImageLoaded s) := by
  unfold Machine.execImageLoaded
  refine Safely.ite h.next ((Safe.ite ?_ (Safe.readCold ?_)).modesInForce.each fun _ _ ht => ht.wr).same.next
  · split
    · exact h
    · exact h.same.loadImage.logEvent
  · split
    · exact h
    · exact h.same.loadImage.logEvent

@[simp] theorem Safe.execReady {s : State} (h : Safe s) {training : List ChannelTraining} : Safely (execReady training s) :=
  Safely.ite h.next (h.startMemory.placeOwn.same.same.idlePlls.same.wr.logEvent.each fun _ _ ht => ht.submitBoot).next

@[simp] theorem Safe.execHostLinkUp {s : State} (h : Safe s) {hp : Fin 4} : Safely (execHostLinkUp hp s) := h.same.next

@[simp] theorem Safe.execRecoveryGo {s : State} (h : Safe s) {hp : Fin 4} {length : BitVec 26} : Safely (execRecoveryGo hp length s) := h.writeRecoveryGo.next

@[simp] theorem Safe.execTftpWrite {s : State} (h : Safe s) {length : Nat} : Safely (execTftpWrite length s) := (Safe.ite h h.wr.same).next

@[simp] theorem Safe.execGafferWatchdogExpiry {s : State} (h : Safe s) {genuine : Bool} : Safely (execGafferWatchdogExpiry genuine s) := h.gafferFault.next

@[simp] theorem Safe.execRstGafRestartReq {s : State} (h : Safe s) {rq : Requester} {v : Fin 256} : Safely (execRstGafRestartReq rq v s) :=
  (h.ownRequest fun _ ht => ht.writeGafRestart).next

@[simp] theorem Safe.execGafferSramUe {s : State} (h : Safe s) {genuine : Bool} : Safely (execGafferSramUe genuine s) := h.gafferFault.next

@[simp] theorem Safe.execGafferRestartDone {s : State} (h : Safe s) {storeOk copied : Bool} : Safely (execGafferRestartDone storeOk copied s) :=
  Safely.ite h.next (Safely.ite h.warmReset.next (h.same.logEvent.each fun _ _ ht => ht.logEvent).failFirmware.abortWindows.next)

@[simp] theorem Safe.execRegisterWrite {s : State} (h : Safe s) {rq : Requester} {target : WriteTarget} {v : Nat} :
    Safely (execRegisterWrite rq target v s) := by
  unfold Machine.execRegisterWrite
  dsimp only
  refine Safe.next ?_
  split
  · split
    · exact h.writeAny.same
    · exact h.writeAny
  · exact Safe.ite (h.hostWake.writeWindow fun _ _ ht => ht.dictGo) h
  · exact h.writeMailbox
  · exact h.writeBootBlock

/-! The dispatch: each of its arms is a command above. -/

theorem Safe.exec {s : State} (h : Safe s) (c : Instr) : Safely (exec c s) := by
  cases c <;> simp [Machine.exec, h]

theorem Safe.step {s : State} (h : Safe s) : Safely (step s) := by
  unfold Machine.step
  split
  · exact h.tick.next
  · exact Safe.exec h.same _

/-- Settles O5: each operation of the model keeps a sound state sound (`Safe`), so each command does, and the dispatch is over the commands. -/
theorem stepKeepsStateSound : Obligations.StepKeepsStateSound := by
  unfold Obligations.StepKeepsStateSound
  exact fun s t h run => Safe.step h t run

end Sys2Proof.Machine
end

section
/-! SUPPORT, and the statement O7: the checks of a write come before the object's own (R536). -/
namespace Sys2Proof.Machine
open Sys2Proof

/-- A write of an object that a check refuses is answered with the check's status and does nothing else. -/
theorem execRegisterWrite_refused {s : State} {rq : Requester} {addr : Fin 16777216} {ty : Fin 256} {len v st : Nat}
    (refused : s.writeStatus rq addr ty len v = st) (notOk : st ≠ Status.ok) (notLocked : st ≠ Status.ownerLocked) :
    exec (.registerWrite rq (.object addr ty len) v) s = .next (s.answer rq st) := by
  change Host.Outcome.next _ = _
  simp [State.writeAny, refused, notOk, notLocked]

/-- A write that the owner of the object's block may not make is refused with OWNER_LOCKED, which is logged (R401). -/
theorem execRegisterWrite_locked {s : State} {rq : Requester} {addr : Fin 16777216} {ty : Fin 256} {len v : Nat}
    (locked : s.writeStatus rq addr ty len v = Status.ownerLocked) :
    exec (.registerWrite rq (.object addr ty len) v) s
      = .next ((s.ownerRefused rq.code (refusedResource addr) 0).answer rq Status.ownerLocked) := by
  have notOk : Status.ownerLocked ≠ Status.ok := by decide
  change Host.Outcome.next _ = _
  simp [State.writeAny, locked, notOk]

/-- Settles O7: the status of a write is the first check that fails (`State.writeStatus`), and such a write does no more than be answered. -/
theorem registerWriteChecksInOrder : Obligations.RegisterWriteChecksInOrder := by
  unfold Obligations.RegisterWriteChecksInOrder
  intro s rq addr ty len v
  refine ⟨fun noRow unused => ?_, fun r row => ⟨fun locked => ?_, fun free => ⟨fun ro => ?_, fun writable type => ?_, fun writable type str length => ?_,
    fun writable type str length code => ?_⟩⟩⟩
  · exact execRegisterWrite_refused (by simp only [State.writeStatus, noRow, if_neg unused]) (by decide) (by decide)
  · refine ⟨_, execRegisterWrite_locked (by simp only [State.writeStatus, row, if_pos locked]), by simp [State.answered, State.answer, State.emit],
      by simp, fun a ha => ?_⟩
    rw [State.answer_rd, State.rd_ownerRefused _ _ _ _ _ (by simpa using ha)]
  · exact execRegisterWrite_refused (by simp only [State.writeStatus, row, if_neg free, if_pos ro]) (by decide) (by decide)
  · exact execRegisterWrite_refused (by simp only [State.writeStatus, row, if_neg free, if_neg writable, if_pos type]) (by decide) (by decide)
  · refine execRegisterWrite_refused (st := Status.ldpLength) ?_ (by decide) (by decide)
    simp [State.writeStatus, row, free, writable, type, str, length]
  · refine execRegisterWrite_refused (st := Status.ldpRange) ?_ (by decide) (by decide)
    simp [State.writeStatus, row, free, writable, type, str, length, code]

end Sys2Proof.Machine
end

section
/-!
SUPPORT. O43 to O59: what a block edits. `Edits os s t` says that memory reads as it did, that the records of the FIFO stay, and that no object but those
listed has changed; a chain of `h.wr.logEvent.count` follows the model's chain of operations.
-/
namespace Sys2Proof.Machine
open Sys2Proof

namespace State

/-- What every turn of a loop over its own elements keeps, the loop keeps. -/
theorem eachIn_keeps {α : Type} {P : State → Prop} {l : List α} {f : State → α → State} {s : State} (hf : ∀ t, ∀ x ∈ l, P t → P (f t x)) (h : P s) :
    P (s.each l f) := by
  induction l generalizing s with
  | nil => exact h
  | cons x l ih => exact ih (fun t y hy => hf t y (List.mem_cons_of_mem _ hy)) (hf s x List.mem_cons_self h)

/-- Memory is as it was, the FIFO holds its records and perhaps more, and every object but some holds what it held. -/
structure Edits (os : List Nat) (s t : State) : Prop where
  mem : t.mem = s.mem
  fifo : ∀ r ∈ s.log.fifo, r ∈ t.log.fifo
  obj : s.objectsBut t os

namespace Edits
variable {os : List Nat} {s t u : State}

theorem refl (s : State) : Edits os s s := ⟨rfl, fun _ h => h, fun _ _ => rfl⟩

theorem trans (h : Edits os s t) (h' : Edits os t u) : Edits os s u :=
  ⟨h'.mem.trans h.mem, fun r hr => h'.fifo r (h.fifo r hr), fun a ha => (h'.obj a ha).trans (h.obj a ha)⟩

theorem mono {ps : List Nat} (h : Edits os s t) (hos : ∀ a ∈ os, a ∈ ps) : Edits ps s t :=
  ⟨h.mem, h.fifo, fun a ha => h.obj a fun hin => ha (hos a hin)⟩

theorem sameMemory (h : Edits os s t) : s.sameMemory t := byte_of_mem _ _ h.mem

/-- The frame in the words of the statements. -/
theorem frame (h : Edits os s t) : s.objectsBut t os ∧ s.sameMemory t := ⟨h.obj, h.sameMemory⟩

/-- A record told before is told still. -/
theorem told (h : Edits os s t) {code source : Nat} {ds : List Detail} (ht : s.told code source ds = true) : t.told code source ds = true :=
  told_of _ _ _ _ _ ht h.fifo

/-- A state that differs in other fields alone. -/
theorem same (h : Edits os s t) {clock dueSlots io freeDrawn order items nextItem insts guards outs shadow colourActive lutBanks
    substUnchecked grip jobs memConf dram keys raster ports tally tallyOvf refusals mailboxes boot flash power dailies haps foley fronts keyBank cus
    ldp clocks pending} :
    Edits os s ⟨t.objs, clock, dueSlots, t.log, io, freeDrawn, order, items, nextItem, insts, guards, outs, shadow, colourActive, lutBanks, substUnchecked,
      grip, jobs, t.mem, memConf, dram, keys, raster, ports, tally, tallyOvf, refusals, mailboxes, boot, flash, power, dailies, haps, foley, fronts, keyBank,
      cus, ldp, clocks, pending⟩ := ⟨h.mem, h.fifo, h.obj⟩

theorem wr (h : Edits os s t) {a v : Nat} (ha : a ∈ os := by simp) : Edits os s (t.wr a v) :=
  ⟨h.mem, h.fifo, fun _ hb => (rd_wr_other _ _ _ _ (ne_of_mem_of_not_mem ha hb).symm).trans (h.obj _ hb)⟩

theorem wrBit (h : Edits os s t) {a i : Nat} {b : Bool} (ha : a ∈ os := by simp) : Edits os s (t.wrBit a i b) := h.wr ha

theorem count (h : Edits os s t) {a : Nat} (ha : a ∈ os := by simp) : Edits os s (t.count a) := h.wr ha

theorem emit (h : Edits os s t) {e : IoEvent} : Edits os s (t.emit e) := h.same

theorem answer (h : Edits os s t) {rq : Requester} {c : Nat} : Edits os s (t.answer rq c) := h.same

theorem logRaw (h : Edits os s t) {code source : Nat} {i : Bool} {p : Spos} {n : Nat} {ds : List Detail} (hl : Obj.LOG_LOST ∈ os := by simp) :
    Edits os s (t.logRaw code source i p n ds) :=
  h.trans ⟨mem_of_apart _ _ (apart_logRaw ..), fifo_logRaw _ _ _ _ _ _ _, fun _ ha => rd_logRaw _ _ _ _ _ _ _ _ fun e => ha (e ▸ hl)⟩

theorem logAt (h : Edits os s t) {code source : Nat} {i : Bool} {p : Spos} {n : Nat} {ds : List Detail} (hl : Obj.LOG_LOST ∈ os := by simp) :
    Edits os s (t.logAt code source i p n ds) :=
  h.trans ⟨mem_of_apart _ _ (apart_logAt ..), fifo_logAt _ _ _ _ _ _ _, fun _ ha => rd_logAt _ _ _ _ _ _ _ _ fun e => ha (e ▸ hl)⟩

theorem logInjected (h : Edits os s t) {code source : Nat} {i : Bool} {ds : List Detail} (hl : Obj.LOG_LOST ∈ os := by simp) :
    Edits os s (t.logInjected code source i ds) := h.logAt hl

theorem logEvent (h : Edits os s t) {code source : Nat} {ds : List Detail} (hl : Obj.LOG_LOST ∈ os := by simp) :
    Edits os s (t.logEvent code source ds) := h.logAt hl

theorem tallyCount (h : Edits os s t) {g kind owner : Nat} (hl : Obj.LOG_LOST ∈ os := by simp) : Edits os s (t.tallyCount g kind owner) :=
  h.trans ⟨mem_of_apart _ _ (apart_tallyCount ..), fifo_tallyCount _ _ _ _, fun _ ha => rd_tallyCount _ _ _ _ _ fun e => ha (e ▸ hl)⟩

theorem ite {c : Prop} {_ : Decidable c} (ht : Edits os s t) (hu : Edits os s u) : Edits os s (if c then t else u) := by
  split <;> assumption

/-- A step that may be left out. -/
theorem perhaps {c : Prop} {_ : Decidable c} (h : Edits os s t) (hu : Edits os s t → Edits os s u) : Edits os s (if c then u else t) :=
  .ite (hu h) h

theorem each {α : Type} (h : Edits os s t) {l : List α} {f : State → α → State} (hf : ∀ u x, Edits os s u → Edits os s (f u x)) :
    Edits os s (t.each l f) := State.each_keeps (Edits os s) l f t hf h

theorem eachIn {α : Type} (h : Edits os s t) {l : List α} {f : State → α → State} (hf : ∀ u, ∀ x ∈ l, Edits os s u → Edits os s (f u x)) :
    Edits os s (t.each l f) := eachIn_keeps hf h

end Edits

/-- An object that is not listed holds what it held. -/
theorem Edits.rd {os : List Nat} {s t : State} (h : Edits os s t) {a : Nat} (ha : a ∉ os := by simp) : t.rd a = s.rd a := h.obj a ha

/-! ## What only rings and wakes -/

/-- What the frame of a block speaks of: the objects, the log and memory. -/
def stores (s : State) : List (Nat × Nat) × Log × List Host.Cell := (s.objs, s.log, s.mem)

theorem Edits.of_stores {os : List Nat} {s t u : State} (h : Edits os s t) (hu : u.stores = t.stores) : Edits os s u := by
  obtain ⟨objs, log, mem⟩ : u.objs = t.objs ∧ u.log = t.log ∧ u.mem = t.mem := by simpa [stores] using hu
  exact h.trans ⟨mem, fun r hr => by rwa [log], fun a _ => by simp only [State.rd, objs]⟩

theorem log_of_stores {s t : State} (h : t.stores = s.stores) : t.log = s.log := congrArg (fun p => p.2.1) h

theorem mem_of_stores {s t : State} (h : t.stores = s.stores) : t.mem = s.mem := congrArg (fun p => p.2.2) h

@[simp] theorem emit_stores (s : State) (e : IoEvent) : (s.emit e).stores = s.stores := rfl

@[simp] theorem setMailbox_stores (s : State) (m : Nat) (b : Mailbox) : (s.setMailbox m b).stores = s.stores := rfl

@[simp] theorem notifyMb_stores (s : State) (m bits : Nat) : (s.notifyMb m bits).stores = s.stores := by
  unfold notifyMb
  split
  · rfl
  · split <;> rfl

@[simp] theorem setPend_stores (s : State) (m bits : Nat) : (s.setPend m bits).stores = s.stores := by simp [setPend]

@[simp] theorem wake_stores (s : State) (cause : Nat) : (s.wake cause).stores = s.stores := by
  unfold wake
  split
  · rfl
  · split
    · rfl
    · split <;> rfl

@[simp] theorem ring_stores (s : State) (m bits : Nat) : (s.ring m bits).2.stores = s.stores := by
  unfold ring
  split
  · rfl
  · split
    · rfl
    · split
      · simp
      · dsimp only
        split
        · simp
        · rfl

@[simp] theorem ringObject_stores (s : State) (v : Nat) : (s.ringObject v).stores = s.stores := by
  unfold ringObject
  split
  · simp
  · rfl

end State
end Sys2Proof.Machine
end

section
/-! SUPPORT, and the statement O59: the ring of the Script Log, injection, Dailies and Tally. -/
namespace Sys2Proof.Machine
open Sys2Proof

namespace State

/-! ## The ring (R633) -/

theorem ring_logRaw (s : State) (code source : Nat) (i : Bool) (p : Spos) (n : Nat) (ds : List Detail) :
    (s.logRaw code source i p n ds).log.ring = s.log.ring := by
  rcases s.logRaw_cases code source i p n ds with ⟨-, h⟩ | ⟨-, h⟩ <;> rw [h]
  rfl

theorem lostPending_logRaw {s : State} (room : s.log.fifo.length < 256) (code source : Nat) (i : Bool) (p : Spos) (n : Nat) (ds : List Detail) :
    (s.logRaw code source i p n ds).log.lostPending = s.log.lostPending := by
  rcases s.logRaw_cases code source i p n ds with ⟨-, h⟩ | ⟨full, -⟩
  · rw [h]
  · omega

/-- A record itself counts nothing. -/
theorem tally_logRaw (s : State) (code source : Nat) (i : Bool) (p : Spos) (n : Nat) (ds : List Detail) :
    (s.logRaw code source i p n ds).tally = s.tally ∧ (s.logRaw code source i p n ds).tallyOvf = s.tallyOvf := by
  rcases s.logRaw_cases code source i p n ds with ⟨-, h⟩ | ⟨-, h⟩ <;> rw [h] <;> exact ⟨rfl, rfl⟩

theorem ring_tallyCount (s : State) (g kind owner : Nat) : (s.tallyCount g kind owner).log.ring = s.log.ring := by
  rcases s.tallyCount_cases g kind owner with h | ⟨t, h⟩ | ⟨t, o, d, h⟩ <;> rw [h]
  exact ring_logRaw ..

theorem lostPending_tallyCount {s : State} (room : s.log.fifo.length < 256) (g kind owner : Nat) :
    (s.tallyCount g kind owner).log.lostPending = s.log.lostPending := by
  rcases s.tallyCount_cases g kind owner with h | ⟨t, h⟩ | ⟨t, o, d, h⟩ <;> rw [h]
  exact lostPending_logRaw (s := { s with tally := t, tallyOvf := o }) room ..

theorem ring_logEvent (s : State) (code source : Nat) (ds : List Detail) : (s.logEvent code source ds).log.ring = s.log.ring := by
  rw [logEvent, logAt]
  rcases tallyRecord_cases (s.logRaw code source false s.now s.dtime ds) code source with h | ⟨g, k, h⟩ <;> rw [h]
  · exact ring_logRaw ..
  · exact (ring_tallyCount ..).trans (ring_logRaw ..)

/-- A record counts as lost none before it, where it and the one of a counter that wraps have room. -/
theorem lostPending_logEvent {s : State} (room : s.log.fifo.length < 255) (code source : Nat) (ds : List Detail) :
    (s.logEvent code source ds).log.lostPending = s.log.lostPending := by
  have raw := lostPending_logRaw (s := s) (by omega) code source false s.now s.dtime ds
  have length := fifo_length_logRaw s code source false s.now s.dtime ds
  rw [logEvent, logAt]
  rcases tallyRecord_cases (s.logRaw code source false s.now s.dtime ds) code source with h | ⟨g, k, h⟩ <;> rw [h]
  · exact raw
  · exact (lostPending_tallyCount (by omega) ..).trans raw

theorem toRing_stores (s : State) (r : LogRecord) :
    (s.toRing r).log = { s.log with ring := (r :: s.log.ring).take 4096 } ∧ (s.toRing r).mem = s.mem := by
  unfold toRing
  extract_lets full _ entered counted overwritten
  have kept : overwritten.log = entered.log ∧ overwritten.mem = s.mem := by
    dsimp only [overwritten]
    split <;> exact ⟨rfl, rfl⟩
  split
  · rwa [log_of_stores (ringObject_stores ..), mem_of_stores (ringObject_stores ..)]
  · exact kept

theorem take_append_take_same {α : Type} (a b : List α) (n : Nat) : (a ++ b.take n).take n = (a ++ b).take n := by
  rw [List.take_append, List.take_append, List.take_take, Nat.min_eq_left (Nat.sub_le ..)]

/-- Records enter the ring one by one, the newest first, and the ring keeps the newest 4,096. -/
theorem each_toRing_log (s : State) (l : List LogRecord) (bound : s.log.ring.length ≤ 4096) :
    (s.each l fun s r => s.toRing r).log = { s.log with ring := (l.reverse ++ s.log.ring).take 4096 } := by
  induction l generalizing s with
  | nil => rw [each, List.reverse_nil, List.nil_append, List.take_of_length_le bound]
  | cons r l ih =>
    have step := (toRing_stores s r).1
    rw [each, ih _ (by rw [step]; exact List.length_take_le ..), step]
    simp only [take_append_take_same, List.reverse_cons, List.append_assoc, List.singleton_append]

theorem each_toRing_mem (s : State) (l : List LogRecord) : (s.each l fun s r => s.toRing r).mem = s.mem :=
  each_keeps (fun t => t.mem = s.mem) l _ s (fun t r h => (toRing_stores t r).2.trans h) rfl

/-! ## The slices of Dailies (R641 to R646) -/

/-- No point fires while injection is off (R636). -/
theorem injectSlice_off {s : State} (off : s.rd Obj.INJ_ENABLE ≠ 1) (l : List (Nat × Nat)) : s.injectSlice l = (none, s) := by
  induction l with
  | nil => rfl
  | cons p l ih => rw [injectSlice, inject_off _ _ _ (.inr off)]; exact ih

theorem endSlice_dailies (s : State) (n : Nat) : (s.endSlice n).dailies = { s.dailies with
    running := s.dailies.running.filter (fun r => !decide (r.slice = n)), reserved := s.dailies.reserved.filter (fun x => !decide (x = n)) } := by
  unfold endSlice
  dsimp only
  split <;> rfl

theorem endSlice_stores (s : State) (n : Nat) : (s.endSlice n).stores = s.stores := by
  unfold endSlice
  dsimp only
  split <;> rfl

theorem unholdUnit_stores (s : State) (n : Nat) : (s.unholdUnit n).stores = s.stores := by
  unfold unholdUnit
  dsimp only
  split <;> rfl

theorem unholdUnit_dailies (s : State) (n : Nat) : (s.unholdUnit n).dailies = s.dailies := by
  unfold unholdUnit
  dsimp only
  split <;> rfl

theorem failUnit_stores (s : State) (n : Nat) : (s.failUnit n).stores = s.stores := by
  unfold failUnit
  split <;> rfl

theorem failUnit_dailies (s : State) (n : Nat) : (s.failUnit n).dailies = s.dailies := by
  unfold failUnit
  split <;> rfl

theorem failUnit_health (s : State) (n : Nat) : ((s.failUnit n).unit n).health = .failed := by
  unfold failUnit
  split
  · assumption
  · simp [setHealth, unit_setUnit]

theorem holdUnit_health (s : State) (n : Nat) : ((s.holdUnit n).unit n).health = .excluded := by
  simp [holdUnit, setHealth, unit_setUnit]

end State

open State

/-! ## The commands -/

theorem execLogMove_moves {s : State} (runs : s.gafferRuns = true) (told : s.log.causePending = false) (bound : s.log.bounded = true) :
    ∃ t, exec .logMove s = .next t ∧ t.log.ring = (s.log.fifo.reverse ++ s.log.ring).take 4096 ∧ t.log.lostPending = 0 ∧
      (s.log.lostPending = 0 → t.log.fifo = []) ∧ (s.log.lostPending ≠ 0 → t.told Ev.logLost noOwner [d32 s.log.lostPending]) ∧ s.sameMemory t := by
  obtain ⟨-, -, ringBound⟩ := Log.bounded_iff.1 bound
  let emptied : State := { s with log := { s.log with fifo := [] } }
  have moved := each_toRing_log emptied s.log.fifo ringBound
  have kept := each_toRing_mem emptied s.log.fifo
  set u := emptied.each s.log.fifo fun s r => s.toRing r with hu
  have lost : u.log.lostPending = s.log.lostPending := by rw [moved]
  have ring : u.log.ring = (s.log.fifo.reverse ++ s.log.ring).take 4096 := by rw [moved]
  have fifo : u.log.fifo = [] := by rw [moved]
  have run : exec .logMove s = .next (if u.log.lostPending = 0 then u else
      ({ u with log := { u.log with lostPending := 0 } } : State).logEvent Ev.logLost noOwner [d32 u.log.lostPending]) := by
    change execLogMove s = _
    simp [execLogMove, runs, told, hu, emptied]
  refine ⟨_, run, ?_⟩
  rw [lost]
  split
  next none =>
    exact ⟨ring, lost.trans none, fun _ => fifo, fun some => absurd none some, byte_of_mem _ _ kept⟩
  next some =>
    refine ⟨(ring_logEvent ..).trans ring, lostPending_logEvent (by simp [fifo]) .., fun none => absurd none some,
      fun _ => told_logEvent _ _ _ _ (by simp [fifo]), byte_of_mem _ _ ?_⟩
    rw [logEvent_mem]
    exact kept

theorem execInjArm_arms {s : State} {rq : Requester} {p : Fin 31} {v : Fin 256} {queued : List (Nat × Nat)}
    (accepted : s.accepts rq (Obj.INJ_ARM p.val) v.val = true) :
    (v.val = 0 → ∃ t, exec (.injArm rq p v queued) s = .next t ∧ t.rd (Obj.INJ_ARM p.val) = 0 ∧ t.answered rq Status.ok ∧
      s.objectsBut t [Obj.INJ_ARM p.val] ∧ s.sameMemory t) ∧
    (v.val ≠ 0 → s.rd Obj.INJ_ENABLE ≠ 1 → exec (.injArm rq p v queued) s = .next (s.answer rq Status.accessDenied)) ∧
    (v.val ≠ 0 → s.rd Obj.INJ_ENABLE = 1 → p.val ≠ 12 → p.val ≠ 13 → p.val ≠ 19 →
      ∃ t, exec (.injArm rq p v queued) s = .next t ∧ t.rd (Obj.INJ_ARM p.val) = v.val ∧ t.answered rq Status.ok ∧
        s.objectsBut t [Obj.INJ_ARM p.val] ∧ s.sameMemory t) := by
  have written (x : Nat) : Edits [Obj.INJ_ARM p.val] s ((s.wr (Obj.INJ_ARM p.val) x).answer rq Status.ok) := (Edits.refl s).wr.answer
  refine ⟨fun zero => ?_, fun armed off => ?_, fun armed on n12 n13 n19 => ?_⟩
  · exact ⟨_, ownRequest_answers accepted (by simp only [writeInjArm, if_pos zero]) (by decide), by simp, answered_answer .., (written 0).frame⟩
  · exact ownRequest_answers accepted (by simp only [writeInjArm, if_neg armed, if_pos off]) (by decide)
  · refine ⟨_, ownRequest_answers accepted (t := s.wr (Obj.INJ_ARM p.val) v.val) ?_ (by decide), by simp, answered_answer .., (written v.val).frame⟩
    simp [writeInjArm, armed, on, fireArmed, n12, n13, n19]

theorem ite_ne {α : Type} {p : Prop} {_ : Decidable p} {a b c : α} (ha : a ≠ c) (hb : b ≠ c) : (if p then a else b) ≠ c := by
  split <;> assumption

theorem sliceUnit_ne_phy {n m : Nat} (below : n < 0x330) : sliceUnit n ≠ some (.phy m) := by
  have outside : ¬(0x330 ≤ n ∧ n < 0x338) := by omega
  unfold sliceUnit
  rw [if_neg outside]
  repeat refine ite_ne (by simp) ?_
  simp

theorem execDailiesReserve_reserves {s : State} {n : Nat} (below : n < 0x330) (unit : (sliceUnit n).isSome = true) :
    ∃ t, exec (.dailiesReserve n) s = .next t ∧ n ∈ t.dailies.reserved ∧ (∀ m, m ≠ n → (m ∈ t.dailies.reserved ↔ m ∈ s.dailies.reserved)) ∧
      { t with dailies := s.dailies } = s := by
  have run : exec (.dailiesReserve n) s =
      .next (if s.dailies.reserved.contains n then s else s.modDailies (fun d => { d with reserved := d.reserved ++ [n] })) := by
    change execDailiesReserve n s = _
    unfold execDailiesReserve
    split
    next phy => exact absurd phy (sliceUnit_ne_phy below)
    · rfl
    next none => simp [none] at unit
  refine ⟨_, run, ?_⟩
  split
  next reserved => exact ⟨List.contains_iff_mem.1 reserved, fun _ _ => .rfl, rfl⟩
  · exact ⟨by simp, fun m other => by simp [other], rfl⟩

/-- A slice ends: its run and its reservation go. -/
theorem endSlice_ended (s : State) (n : Nat) :
    n ∉ (s.endSlice n).dailies.reserved ∧ ((s.endSlice n).dailies.running.all (fun r => !decide (r.slice = n))) = true := by
  rw [endSlice_dailies]
  simp

theorem endSlice_once (s : State) (n : Nat) : (s.endSlice n).dailies.once = s.dailies.once := by rw [endSlice_dailies]

namespace State

/-- A slice that ended is recorded as passed. -/
def slicePassed (s : State) (n : Nat) : State :=
  (s.modDailies (fun d => { d with once := d.once.filter (fun x => !decide (x = n)) })).sliceResult n 1

/-- A pass after a first failure is told, and what the failure held is let go (R646). -/
def sliceTransient (s : State) (n : Nat) : State :=
  match sliceHealth n with
  | some u => (s.logEvent Ev.dailiesTransient noOwner [d16 n]).unholdUnit u
  | none => s.logEvent Ev.dailiesTransient noOwner [d16 n]

theorem sliceTransient_dailies (s : State) (n : Nat) : (s.sliceTransient n).dailies = s.dailies := by
  unfold sliceTransient
  split
  · rw [unholdUnit_dailies, logEvent_dailies]
  · exact logEvent_dailies ..

theorem sliceTransient_edits (s : State) (n : Nat) : Edits [Obj.LOG_LOST] (s.logEvent Ev.dailiesTransient noOwner [d16 n]) (s.sliceTransient n) := by
  unfold sliceTransient
  split
  · exact .of_stores (.refl _) (unholdUnit_stores ..)
  · exact .refl _

end State

theorem execSliceComplete_pass {s : State} {n : Nat} (word : Nat) (up : s.gafferDown = false)
    (running : (s.dailies.running.any (fun r => decide (r.slice = n))) = true) (off : s.rd Obj.INJ_ENABLE ≠ 1) :
    exec (.sliceComplete n true word) s = .next (if s.dailies.once.contains n then ((s.endSlice n).slicePassed n).sliceTransient n
      else (s.endSlice n).slicePassed n) := by
  have still : (s.endSlice n).rd Obj.INJ_ENABLE ≠ 1 := by rwa [Edits.rd (os := []) (.of_stores (.refl s) (endSlice_stores s n))]
  have quiet := injectSlice_off still (slicePoints n)
  change execSliceComplete n true word s = _
  unfold execSliceComplete
  simp only [running, up, Bool.not_true, Bool.or_false, Bool.false_eq_true, if_false]
  rw [quiet]
  simp only [endSlice_once]
  split
  · unfold sliceTransient
    cases sliceHealth n <;> rfl
  · rfl

theorem execSliceComplete_passes {s : State} {n : Nat} {word : Nat} (up : s.gafferDown = false)
    (running : (s.dailies.running.any (fun r => decide (r.slice = n))) = true) (off : s.rd Obj.INJ_ENABLE ≠ 1) :
    ∃ t, exec (.sliceComplete n true word) s = .next t ∧ Tab.get 0 t.dailies.results n = 1 ∧ n ∉ t.dailies.reserved ∧
      (t.dailies.running.all (fun r => !decide (r.slice = n))) = true ∧ n ∉ t.dailies.once ∧
      (n ∈ s.dailies.once → s.log.fifo.length < 256 → t.told Ev.dailiesTransient noOwner [d16 n]) ∧ s.sameMemory t := by
  have ended := endSlice_ended s n
  have passed : Edits [] s ((s.endSlice n).slicePassed n) := .of_stores (.refl s) (endSlice_stores s n)
  refine ⟨_, execSliceComplete_pass word up running off, ?_⟩
  split
  next again =>
    rw [sliceTransient_dailies]
    refine ⟨Tab.get_set_same .., ended.1, ended.2, by simp [slicePassed, sliceResult], fun _ room => ?_, ?_⟩
    · refine (sliceTransient_edits _ n).told (told_logEvent _ _ _ _ ?_)
      rwa [show ((s.endSlice n).slicePassed n).log = s.log from log_of_stores (endSlice_stores s n)]
    · exact ((passed.mono (by simp)).logEvent.trans (sliceTransient_edits _ n)).sameMemory
  next first =>
    exact ⟨Tab.get_set_same .., ended.1, ended.2, by simp [slicePassed, sliceResult], fun again => absurd (List.contains_iff_mem.2 again) first,
      passed.sameMemory⟩

namespace State

/-- A slice that ended is recorded as failed, once or for good (R645, R646). -/
def sliceFailed (s : State) (n word : Nat) : State :=
  let again := s.dailies.once.contains n
  let counted := (s.count Obj.DAILIES_FAILS).modDailies (fun d => { d with
    roundFails := d.roundFails + 1, once := if again then d.once.filter (fun x => !decide (x = n)) else d.once ++ [n] })
  ((counted.tallyCount 35 2 noOwner).sliceResult n (if again then 3 else 2)).logInjected Ev.dailiesFail noOwner false [d16 n, d32 word]

/-- The unit that a slice judges is held after a first failure and fails after a second. -/
def judgeHealth (s : State) (n : Nat) (again : Bool) : State :=
  match sliceHealth n with
  | some u => if again then (s.setUnit u { s.unit u with held := false }).failUnit u else s.holdUnit u
  | none => s

theorem sliceFails_genuine (s : State) (n word : Nat) :
    s.sliceFails n word false true = (s.sliceFailed n word).judgeHealth n (s.dailies.once.contains n) := by
  unfold sliceFails judgeHealth
  cases sliceHealth n <;> rfl

theorem judgeHealth_dailies (s : State) (n : Nat) (again : Bool) : (s.judgeHealth n again).dailies = s.dailies := by
  unfold judgeHealth
  split
  · split
    · exact failUnit_dailies ..
    · rfl
  · rfl

theorem judgeHealth_stores (s : State) (n : Nat) (again : Bool) : (s.judgeHealth n again).stores = s.stores := by
  unfold judgeHealth
  split
  · split
    · exact failUnit_stores ..
    · rfl
  · rfl

theorem judgeHealth_health {n u : Nat} (judged : sliceHealth n = some u) (s : State) (again : Bool) :
    ((s.judgeHealth n again).unit u).health = if again then .failed else .excluded := by
  unfold judgeHealth
  rw [judged]
  cases again
  · exact holdUnit_health ..
  · exact failUnit_health ..

theorem sliceFailed_dailies (s : State) (n word : Nat) : (s.sliceFailed n word).dailies = { s.dailies with
    roundFails := s.dailies.roundFails + 1,
    once := if s.dailies.once.contains n then s.dailies.once.filter (fun x => !decide (x = n)) else s.dailies.once ++ [n],
    results := Tab.set s.dailies.results n (if s.dailies.once.contains n then 3 else 2) } := by
  simp [sliceFailed, sliceResult]

theorem sliceFailed_edits (s : State) (n word : Nat) : Edits [Obj.LOG_LOST, Obj.DAILIES_FAILS] s (s.sliceFailed n word) :=
  (Edits.tallyCount (Edits.refl s).count.same).same.logInjected

theorem rd_sliceFailed (s : State) (n word : Nat) : (s.sliceFailed n word).rd Obj.DAILIES_FAILS = wrapAdd 32 (s.rd Obj.DAILIES_FAILS) 1 := by
  rw [sliceFailed, rd_logInjected _ _ _ _ _ _ (by decide)]
  exact (rd_tallyCount _ _ _ _ _ (by decide)).trans ((rd_count ..).trans (if_pos rfl))

end State

theorem execSliceComplete_fails {s : State} {n : Nat} {word : Nat} (up : s.gafferDown = false)
    (running : (s.dailies.running.any (fun r => decide (r.slice = n))) = true) :
    ∃ t, exec (.sliceComplete n false word) s = .next t ∧ Tab.get 0 t.dailies.results n = (if n ∈ s.dailies.once then 3 else 2) ∧
      n ∉ t.dailies.reserved ∧ (t.dailies.running.all (fun r => !decide (r.slice = n))) = true ∧
      t.rd Obj.DAILIES_FAILS = wrapAdd 32 (s.rd Obj.DAILIES_FAILS) 1 ∧ (n ∈ t.dailies.once ↔ n ∉ s.dailies.once) ∧
      (∀ u, sliceHealth n = some u → (t.unit u).health = if n ∈ s.dailies.once then .failed else .excluded) ∧ s.sameMemory t := by
  have run : exec (.sliceComplete n false word) s =
      .next (((s.endSlice n).sliceFailed n word).judgeHealth n (s.dailies.once.contains n)) := by
    rw [← endSlice_once s n, ← sliceFails_genuine]
    change execSliceComplete n false word s = _
    simp [execSliceComplete, running, up]
  have ended := endSlice_ended s n
  have once := endSlice_once s n
  have atEnd : Edits [Obj.LOG_LOST, Obj.DAILIES_FAILS] s (s.endSlice n) := .of_stores (.refl s) (endSlice_stores s n)
  have judged := (atEnd.trans (sliceFailed_edits _ n word)).of_stores
    (judgeHealth_stores _ n (s.dailies.once.contains n))
  refine ⟨_, run, ?_⟩
  rw [judgeHealth_dailies, sliceFailed_dailies, once]
  refine ⟨by simp, ended.1, ended.2, ?_, ?_, fun u hu => ?_, judged.sameMemory⟩
  · rw [Edits.rd (.of_stores (os := []) (.refl _) (judgeHealth_stores ..)), rd_sliceFailed,
      Edits.rd (.of_stores (os := []) (.refl _) (endSlice_stores ..))]
  · by_cases again : n ∈ s.dailies.once <;> simp [again]
  · rw [judgeHealth_health hu]
    simp

theorem execDailiesOverrun_abandons {s : State} {n : Nat} {r : SliceRun} (found : s.dailies.running.find? (fun x => decide (x.slice = n)) = some r) :
    (r.start + r.budget * 1000 ≤ s.dtime →
      ∃ t, exec (.dailiesOverrun n) s = .next t ∧ Tab.get 0 t.dailies.results n = 4 ∧ n ∉ t.dailies.reserved ∧
        (t.dailies.running.all (fun x => !decide (x.slice = n))) = true ∧
        (s.log.fifo.length < 256 → t.told Ev.dailiesOverrun noOwner [d16 n, d32 ((s.dtime - r.start) / 1000)]) ∧
        s.objectsBut t [Obj.LOG_LOST] ∧ s.sameMemory t) ∧
    (s.dtime < r.start + r.budget * 1000 → exec (.dailiesOverrun n) s = .next s) := by
  have run : exec (.dailiesOverrun n) s = if s.dtime < r.start + r.budget * 1000 then .next s else
      .next (((s.sliceResult n 4).endSlice n).logEvent Ev.dailiesOverrun noOwner [d16 n, d32 ((s.dtime - r.start) / 1000)]) := by
    change execDailiesOverrun n s = _
    simp only [execDailiesOverrun, found]
  rw [run]
  refine ⟨fun spent => ?_, fun within => if_pos within⟩
  have stored : ((s.sliceResult n 4).endSlice n).stores = s.stores := endSlice_stores ..
  have ended := endSlice_ended (s.sliceResult n 4) n
  refine ⟨_, if_neg (Nat.not_lt.2 spent), ?_⟩
  rw [logEvent_dailies]
  refine ⟨by simp [endSlice_dailies, sliceResult], ended.1, ended.2, fun room => told_logEvent _ _ _ _ (by rwa [log_of_stores stored]), ?_⟩
  exact (Edits.logEvent (.of_stores (.refl s) stored)).frame

theorem execDailiesRound_ends {s : State} (stage : s.boot.stage = 6) :
    ∃ t, exec .dailiesRound s = .next t ∧ t.rd Obj.DAILIES_ROUNDS = wrapAdd 32 (s.rd Obj.DAILIES_ROUNDS) 1 ∧
      t.dailies = { s.dailies with roundStart := s.dtime, roundFails := 0 } ∧
      (s.log.fifo.length < 256 → t.told Ev.dailiesRound noOwner
        [d32 (t.rd Obj.DAILIES_ROUNDS), d32 ((s.dtime - s.dailies.roundStart) / 1000000000), d32 s.dailies.roundFails]) ∧
      s.objectsBut t [Obj.LOG_LOST, Obj.DAILIES_ROUNDS] ∧ s.sameMemory t := by
  let counted := s.count Obj.DAILIES_ROUNDS
  let told := counted.logEvent Ev.dailiesRound noOwner
    [d32 (counted.rd Obj.DAILIES_ROUNDS), d32 ((s.dtime - s.dailies.roundStart) / 1000000000), d32 s.dailies.roundFails]
  have run : exec .dailiesRound s = .next (told.modDailies (fun d => { d with roundStart := told.dtime, roundFails := 0 })) := by
    change execDailiesRound s = _
    simp only [execDailiesRound, stage]
    rfl
  have rounds : told.rd Obj.DAILIES_ROUNDS = counted.rd Obj.DAILIES_ROUNDS := rd_logEvent _ _ _ _ _ (by decide)
  refine ⟨_, run, rounds.trans ((rd_count ..).trans (if_pos rfl)), ?_, fun room => ?_, (Edits.refl s).count.logEvent.same.frame⟩
  · simp [told, counted, State.dtime]
  · rw [show (told.modDailies _).rd Obj.DAILIES_ROUNDS = _ from rounds]
    exact told_logEvent counted _ _ _ room

theorem execTallyWrap_wraps {s : State} {g : Fin 40} {c : Fin 64} (counter : c.val < tallyCounters g.val) :
    ∃ t, exec (.tallyWrap g c) s = .next t ∧ t.tally = Tab.set s.tally (4096 * g.val + Config.tallyKind g.val c.val) 0 ∧ 64 * g.val + c.val ∈ t.tallyOvf ∧
      (∀ x ∈ s.tallyOvf, x ∈ t.tallyOvf) ∧ (s.log.fifo.length < 256 → t.told Ev.tallyWrap noOwner [d8 g.val, d8 c.val]) ∧
      s.objectsBut t [Obj.LOG_LOST] ∧ s.sameMemory t := by
  have run : exec (.tallyWrap g c) s = .next (s.tallyWrap g.val (Config.tallyKind g.val c.val) c.val) := by
    change execTallyWrap g c s = _
    simp only [execTallyWrap, if_pos counter]
  refine ⟨_, run, ?_⟩
  unfold State.tallyWrap
  extract_lets wrapped
  obtain ⟨tally, overflows⟩ := tally_logRaw wrapped Ev.tallyWrap noOwner false wrapped.now wrapped.dtime [d8 g.val, d8 c.val]
  refine ⟨tally, by rw [overflows]; exact List.mem_cons_self, fun x hx => ?_, fun room => told_logRaw _ _ _ _ _ _ _ room, (Edits.refl s).same.logRaw.frame⟩
  rw [overflows, List.mem_cons, List.mem_filter]
  by_cases own : x = 64 * g.val + c.val <;> simp [own, hx]

theorem execTallyOvfClear_clears {s : State} {rq : Requester} {g : Fin 40} (accepted : s.accepts rq (Obj.TALLY_OVF_CLEAR g.val) 1 = true) :
    ∃ t, exec (.tallyOvfClear rq g 1) s = .next t ∧ (∀ x, x ∈ t.tallyOvf ↔ x ∈ s.tallyOvf ∧ x / 64 ≠ g.val) ∧ t.answered rq Status.ok ∧
      t.tally = s.tally ∧ s.objectsBut t [] ∧ s.sameMemory t := by
  have run : exec (.tallyOvfClear rq g 1) s =
      .next (({ s with tallyOvf := s.tallyOvf.filter (fun x => !decide (x / 64 = g.val)) } : State).answer rq Status.ok) :=
    ownRequest_answers accepted rfl (by decide)
  exact ⟨_, run, by simp, answered_answer .., rfl, (Edits.refl s).same.frame⟩

/-- Settles O59, command by command. -/
theorem logInjectionDailiesAndTally : Obligations.LogInjectionDailiesAndTally := by
  unfold Obligations.LogInjectionDailiesAndTally
  refine ⟨fun s => execLogMove_moves, fun s down => ?_, fun s rq p v queued => execInjArm_arms, fun s n => execDailiesReserve_reserves,
    fun s n word up running => ⟨execSliceComplete_passes up running, execSliceComplete_fails up running⟩, fun s n r => execDailiesOverrun_abandons,
    fun s => execDailiesRound_ends, fun s g c => execTallyWrap_wraps, fun s rq g => execTallyOvfClear_clears⟩
  change execLogMove s = _
  simp [execLogMove, down]

end Sys2Proof.Machine
end

section
/-! SUPPORT, and the statement O53: the crystal, the PLLs and the clock monitors. -/
namespace Sys2Proof.Machine
open Sys2Proof

namespace State
variable {os : List Nat} {s t : State}

/-! ## Clocks shown and taken (R575, R577, R604) -/

/-- The objects in which the clocks of the Raster, of Matte and of Gaffer are shown. -/
def clocksShown : List Nat := [Obj.RAS_CLOCK_NOW, Obj.MATTE_CLOCK_NOW, Obj.GAF_CLOCK_NOW, Obj.PLL_FREQ_KHZ 1, Obj.PLL_FREQ_KHZ 2]

theorem showClocks_edits (s : State) : Edits clocksShown s s.showClocks := by
  unfold showClocks
  extract_lets sag full ras mat divided raster matte
  have hraster : Edits clocksShown s raster := by
    have h := Edits.refl (os := clocksShown) s
    exact .ite (Edits.wr (h.wr (by simp [clocksShown])) (by simp [clocksShown])) (h.wr (by simp [clocksShown]))
  have hmatte : Edits clocksShown s matte := hraster.wr (by simp [clocksShown])
  exact .ite (Edits.wr (hmatte.wr (by simp [clocksShown])) (by simp [clocksShown])) (hmatte.wr (by simp [clocksShown]))

@[simp] theorem showClocks_apart (s : State) : s.showClocks.apart = s.apart := by
  unfold showClocks
  extract_lets sag full ras mat divided raster matte
  have hraster : raster.apart = s.apart := by
    dsimp only [raster]
    split <;> rfl
  have hmatte : matte.apart = s.apart := hraster
  split
  · exact hmatte
  · exact hmatte

/-- The objects that start-up writes once the PLLs have locked (R613). -/
def clocksTaken : List Nat := Obj.BIT_STATE :: (List.range 7).map Obj.MUX_SEL

theorem clocksReady_edits (s : State) : Edits clocksTaken s s.clocksReady :=
  .perhaps (.refl s) fun _ => .same (.wr (.eachIn (.refl s) fun _ _ hx hu => hu.wr (List.mem_cons_of_mem _ (List.mem_map_of_mem hx)))
    List.mem_cons_self)

/-- These lie above the objects of the PLLs and the monitors. -/
theorem le_of_mem_clocksTaken {a : Nat} (ha : a ∈ clocksTaken) : 0x71A001 ≤ a := by
  rcases List.mem_cons.1 ha with rfl | ha
  · decide
  · obtain ⟨x, -, rfl⟩ := List.mem_map.1 ha
    exact Nat.le_add_right ..

/-- What a PLL locked and what its monitor shows outlast the clocks being shown and taken. -/
theorem rd_clocksReady_showClocks (s : State) {a : Nat} (shown : a ∉ clocksShown) (below : a < 0x71A001) : s.showClocks.clocksReady.rd a = s.rd a := by
  rw [(clocksReady_edits _).rd fun ha => Nat.not_lt.2 (le_of_mem_clocksTaken ha) below, (showClocks_edits s).rd shown]

theorem crystalLost_edits (s : State) (lost : Bool) : Edits ((List.range 9).map Obj.PLL_STATE) s (s.crystalLost lost) := by
  refine .eachIn (.refl s) fun u n hn hu => ?_
  have listed : Obj.PLL_STATE n ∈ (List.range 9).map Obj.PLL_STATE := List.mem_map_of_mem (List.mem_filter.1 hn).1
  exact .ite (hu.wr listed) (.ite (hu.wr listed) hu)

theorem crystalLost_apart (s : State) (lost : Bool) : (s.crystalLost lost).apart = s.apart := by
  refine each_keeps (fun t => t.apart = s.apart) _ _ s (fun u n hu => ?_) rfl
  dsimp only
  split
  · exact hu
  · split <;> exact hu

/-! ## Monitors (R580 to R582) -/

theorem romClock_edits (s : State) : Edits [Obj.MUX_SEL 2] s s.romClock := .perhaps (.refl s) fun h => h.wr

theorem romClock_apart (s : State) : s.romClock.apart = s.apart := by
  unfold romClock
  split <;> rfl

/-- The objects that a monitor's change of state may write beside its own: the log's and the PLLs that lose or find the crystal. -/
def monitorWrites : List Nat := Obj.LOG_LOST :: (List.range 9).map Obj.PLL_STATE

theorem crystalMonitored_edits {s t : State} (h : Edits monitorWrites s t) (m : Nat) (lost : Bool) :
    Edits monitorWrites s (if m = 0 then t.crystalLost lost else t) :=
  h.perhaps fun h => h.trans ((crystalLost_edits t lost).mono fun _ ha => List.mem_cons_of_mem _ ha)

theorem monitorChange_edits (s : State) (m new khz : Nat) (injected : Bool) :
    Edits monitorWrites (s.wr (Obj.CLKMON_STATE m) new) (s.monitorChange m new khz injected) := by
  unfold monitorChange
  extract_lets changed recovered told warned
  have log : Obj.LOG_LOST ∈ monitorWrites := List.mem_cons_self
  have h := Edits.refl (os := monitorWrites) changed
  exact .ite (crystalMonitored_edits (h.logEvent log) m false)
    (crystalMonitored_edits (.each (.ite (h.logInjected log) (h.logInjected log)) fun _ _ hu => hu.emit) m true)

theorem rd_monitorChange (s : State) {m : Nat} (new khz : Nat) (injected : Bool) {a : Nat} (lost : a ≠ Obj.LOG_LOST) (above : 0x703001 ≤ a) :
    (s.monitorChange m new khz injected).rd a = if a = Obj.CLKMON_STATE m then new else s.rd a := by
  have outside : a ∉ monitorWrites := fun ha => by
    rcases List.mem_cons.1 ha with rfl | ha
    · exact lost rfl
    · obtain ⟨n, hn, rfl⟩ := List.mem_map.1 ha
      rw [List.mem_range] at hn
      simp only [Obj.PLL_STATE] at above
      omega
  rw [(monitorChange_edits ..).rd outside, rd_wr]

theorem monitorChange_apart (s : State) (m new khz : Nat) (injected : Bool) : (s.monitorChange m new khz injected).apart = s.apart := by
  unfold monitorChange
  extract_lets changed recovered told warned
  have htold : told.apart = s.apart := by
    dsimp only [told]
    split <;> simp [changed]
  have hwarned : warned.apart = s.apart := each_keeps (fun t => t.apart = s.apart) _ _ told (fun _ _ hu => hu) htold
  split
  · split
    · rw [crystalLost_apart]
      simp [recovered, changed]
    · simp [recovered, changed]
  · split
    · rw [crystalLost_apart, hwarned]
    · exact hwarned

/-- A clock that stops is told. -/
theorem told_monitorChange_stopped {s : State} (room : s.log.fifo.length < 256) (m khz : Nat) :
    (s.monitorChange m 3 khz false).told Ev.clkStopped noOwner [d8 m] = true := by
  unfold monitorChange
  extract_lets changed recovered told warned
  have first : told.told Ev.clkStopped noOwner [d8 m] = true := told_logInjected _ _ _ _ _ room
  have after : Edits monitorWrites told (if m = 0 then warned.crystalLost true else warned) :=
    crystalMonitored_edits (.each (.refl told) fun _ _ hu => hu.emit) m true
  exact after.told first

/-! ## The PLLs start (R575) -/

/-- What one turn of a loop brings about and every turn keeps holds after the loop. -/
theorem each_reaches {α : Type} {P : State → Prop} {f : State → α → State} {x : α} (sets : ∀ t, P (f t x)) (keeps : ∀ t y, P t → P (f t y))
    {l : List α} (hx : x ∈ l) (s : State) : P (s.each l f) := by
  induction l generalizing s with
  | nil => cases hx
  | cons y l ih =>
    rcases List.mem_cons.1 hx with rfl | hx
    · exact each_keeps P l f _ keeps (sets s)
    · exact ih hx _

/-- A PLL is switched on and acquires. -/
def startPll (s : State) (n : Nat) : State := (s.wr (Obj.PLL_ENABLE n) 1).wr (Obj.PLL_STATE n) 1

theorem rd_startPll (s : State) (m n : Nat) : (s.startPll m).rd (Obj.PLL_ENABLE n) = (if n = m then 1 else s.rd (Obj.PLL_ENABLE n)) ∧
    (s.startPll m).rd (Obj.PLL_STATE n) = if n = m then 1 else s.rd (Obj.PLL_STATE n) := by
  have apart : Obj.PLL_ENABLE n ≠ Obj.PLL_STATE m ∧ Obj.PLL_STATE n ≠ Obj.PLL_ENABLE m := by
    simp only [Obj.PLL_ENABLE, Obj.PLL_STATE]
    omega
  have enable : Obj.PLL_ENABLE n = Obj.PLL_ENABLE m ↔ n = m := by simp [Obj.PLL_ENABLE]
  have state : Obj.PLL_STATE n = Obj.PLL_STATE m ↔ n = m := by simp [Obj.PLL_STATE]
  simp [startPll, rd_wr, apart, enable, state]

theorem startPlls_started (s : State) {n : Nat} (hn : n < 10) : ((s.each (List.range 10) startPll).rd (Obj.PLL_ENABLE n) = 1 ∧
    (s.each (List.range 10) startPll).rd (Obj.PLL_STATE n) = 1) := by
  refine each_reaches (P := fun t => t.rd (Obj.PLL_ENABLE n) = 1 ∧ t.rd (Obj.PLL_STATE n) = 1) (fun t => ?_) (fun t m ht => ?_) (List.mem_range.2 hn) s
  · simp [rd_startPll]
  · simp [rd_startPll, ht]

theorem startPlls_edits (s : State) : Edits ((List.range 10).flatMap fun n => [Obj.PLL_ENABLE n, Obj.PLL_STATE n]) s (s.each (List.range 10) startPll) := by
  refine .eachIn (.refl s) fun u n hn hu => ?_
  exact Edits.wr (hu.wr (List.mem_flatMap.2 ⟨n, hn, by simp⟩)) (List.mem_flatMap.2 ⟨n, hn, by simp⟩)

/-- The crystal's frequency is taken: its nominal value, the count, and the monitor that follows it (R574). -/
def crystalTaken (s : State) (khz f : Nat) : State :=
  ((((s.modClocks (fun c => { c with counting := false })).wr Obj.CLK_SOURCE 1).wr Obj.XO_FREQ_KHZ f).wr (Obj.CLKMON_STATE 0) 1).wr (Obj.CLKMON_KHZ 0) khz

theorem rd_crystalTaken (s : State) (khz f : Nat) : (s.crystalTaken khz f).rd Obj.CLK_SOURCE = 1 ∧ (s.crystalTaken khz f).rd Obj.XO_FREQ_KHZ = f ∧
    (s.crystalTaken khz f).rd (Obj.CLKMON_STATE 0) = 1 ∧ (s.crystalTaken khz f).rd (Obj.CLKMON_KHZ 0) = khz := by
  simp [crystalTaken, rd_wr, Obj.CLK_SOURCE, Obj.XO_FREQ_KHZ, Obj.CLKMON_STATE, Obj.CLKMON_KHZ]

end State

open State

/-! ## The commands -/

theorem execXoDelayExpiry_counts {s : State} (stage : s.boot.stage = 1) (delay : s.boot.since + xoDelayMs (s.rd Obj.RST_STRAPS) * 1000000 ≤ s.dtime)
    (source : s.rd Obj.CLK_SOURCE = 0) :
    ∃ t, exec .xoDelayExpiry s = .next t ∧ t.clocks.counting = true ∧ { t with clocks := s.clocks } = s := by
  refine ⟨_, ?_, (rfl : (s.modClocks (fun c => { c with counting := true })).clocks.counting = true), rfl⟩
  change execXoDelayExpiry s = _
  rw [execXoDelayExpiry, if_pos ⟨stage, delay, source⟩]

theorem execXoCountDone_selects {s : State} {khz f : Nat} (counting : s.clocks.counting = true) (fits : crystals.find? (crystalOk khz) = some f) :
    ∃ t, exec (.xoCountDone khz) s = .next t ∧ t.clocks.counting = false ∧ t.rd Obj.CLK_SOURCE = 1 ∧ t.rd Obj.XO_FREQ_KHZ = f ∧
      t.rd (Obj.CLKMON_STATE 0) = 1 ∧ t.rd (Obj.CLKMON_KHZ 0) = khz ∧ (∀ n < 10, t.rd (Obj.PLL_ENABLE n) = 1 ∧ t.rd (Obj.PLL_STATE n) = 1) ∧
      (s.log.fifo.length < 256 → t.told Ev.xoSelected noOwner [d32 f]) ∧ s.sameMemory t := by
  let taken := s.crystalTaken khz f
  let started := taken.each (List.range 10) startPll
  have run : exec (.xoCountDone khz) s = .next (started.logEvent Ev.xoSelected noOwner [d32 f]) := by
    change execXoCountDone khz s = _
    simp only [execXoCountDone, counting, fits]
    rfl
  have edits := startPlls_edits taken
  have clocks : started.clocks = taken.clocks := each_keeps (fun t => t.clocks = taken.clocks) _ _ taken (fun _ _ ht => ht) rfl
  have log : started.log = s.log := each_keeps (fun t => t.log = s.log) _ _ taken (fun _ _ ht => ht) rfl
  have told (a : Nat) (ha : a ≠ Obj.LOG_LOST := by decide) : (started.logEvent Ev.xoSelected noOwner [d32 f]).rd a = started.rd a :=
    rd_logEvent _ _ _ _ _ ha
  obtain ⟨source, freq, state, count⟩ := rd_crystalTaken s khz f
  refine ⟨_, run, ?_, ?_, ?_, ?_, ?_, fun n hn => ?_, fun room => told_logEvent _ _ _ _ (by rwa [log]), ?_⟩
  · rw [logEvent_clocks, clocks]
    rfl
  · rw [told Obj.CLK_SOURCE, edits.rd (by decide), source]
  · rw [told Obj.XO_FREQ_KHZ, edits.rd (by decide), freq]
  · rw [told (Obj.CLKMON_STATE 0), edits.rd (by decide), state]
  · rw [told (Obj.CLKMON_KHZ 0), edits.rd (by decide), count]
  · rw [told _ (by simp only [Obj.PLL_ENABLE, Obj.LOG_LOST]; omega), told _ (by simp only [Obj.PLL_STATE, Obj.LOG_LOST]; omega)]
    exact startPlls_started taken hn
  · exact byte_of_mem _ _ ((logEvent_mem ..).trans edits.mem)

theorem execXoCountDone_halts {s : State} {khz : Nat} (counting : s.clocks.counting = true) (fits : crystals.find? (crystalOk khz) = none) :
    ∃ t, exec (.xoCountDone khz) s = .next t ∧ t.bitState = 5 ∧ t.rd Obj.BIT_BOOT_RESULT = 0x000C ∧ t.boot.stage = 7 := by
  let stopped := s.modClocks (fun c => { c with counting := false })
  have run : exec (.xoCountDone khz) s = .next ((stopped.haltBittern 0x000C).modBoot (fun b => { b with stage := 7 })) := by
    change execXoCountDone khz s = _
    simp only [execXoCountDone, counting, fits]
    rfl
  have halted := haltBittern_halts stopped 0x000C
  refine ⟨_, run, ?_, ?_, by simp⟩
  · rw [bitState, modBoot_rd]
    exact halted.1
  · rw [modBoot_rd]
    exact halted.2

theorem execPllLocked_locks {s : State} {n : Fin 10} {khz : Nat} (acquiring : s.rd (Obj.PLL_STATE n.val) = 1) :
    ∃ t, exec (.pllLocked n khz) s = .next t ∧ t.rd (Obj.PLL_STATE n.val) = 2 ∧ t.rd (Obj.CLKMON_STATE (n.val + 1)) = 1 ∧
      (n.val ≠ 1 → n.val ≠ 2 → t.rd (Obj.PLL_FREQ_KHZ n.val) = clampNat (pllRange n.val).1 (pllRange n.val).2 khz) ∧ s.sameMemory t := by
  let f := clampNat (pllRange n.val).1 (pllRange n.val).2 khz
  let locked := ((s.wr (Obj.PLL_STATE n.val) 2).wr (Obj.PLL_FREQ_KHZ n.val) f).wr (Obj.CLKMON_STATE (n.val + 1)) 1
  have run : exec (.pllLocked n khz) s = .next locked.showClocks.clocksReady := by
    change execPllLocked n khz s = _
    simp only [execPllLocked, acquiring]
    rfl
  have hn := n.isLt
  have memory := (clocksReady_edits locked.showClocks).mem.trans (showClocks_edits locked).mem
  refine ⟨_, run, ?_, ?_, fun n1 n2 => ?_, byte_of_mem _ _ memory⟩
  · have shown : Obj.PLL_STATE n.val ∉ clocksShown := by
      simp [clocksShown, Obj.PLL_STATE, Obj.RAS_CLOCK_NOW, Obj.MATTE_CLOCK_NOW, Obj.GAF_CLOCK_NOW, Obj.PLL_FREQ_KHZ]
      omega
    rw [rd_clocksReady_showClocks _ shown (by simp only [Obj.PLL_STATE]; omega)]
    simp [locked, rd_wr, Obj.PLL_STATE, Obj.PLL_FREQ_KHZ, Obj.CLKMON_STATE]
    omega
  · have shown : Obj.CLKMON_STATE (n.val + 1) ∉ clocksShown := by
      simp [clocksShown, Obj.CLKMON_STATE, Obj.RAS_CLOCK_NOW, Obj.MATTE_CLOCK_NOW, Obj.GAF_CLOCK_NOW, Obj.PLL_FREQ_KHZ]
      omega
    rw [rd_clocksReady_showClocks _ shown (by simp only [Obj.CLKMON_STATE]; omega), rd_wr_same]
  · have shown : Obj.PLL_FREQ_KHZ n.val ∉ clocksShown := by
      simp [clocksShown, Obj.RAS_CLOCK_NOW, Obj.MATTE_CLOCK_NOW, Obj.GAF_CLOCK_NOW, Obj.PLL_FREQ_KHZ]
      omega
    rw [rd_clocksReady_showClocks _ shown (by simp only [Obj.PLL_FREQ_KHZ]; omega), rd_wr_other _ _ _ _ (by
      simp only [Obj.PLL_FREQ_KHZ, Obj.CLKMON_STATE]; omega), rd_wr_same]

/-- A PLL that is off acquires once it is switched on. -/
theorem execPllEnable_starts {s : State} {rq : Requester} {n : Fin 10} (accepted : s.accepts rq (Obj.PLL_ENABLE n.val) 1 = true)
    (off : s.rd (Obj.PLL_STATE n.val) = 0) :
    ∃ t, exec (.pllEnable rq n 1) s = .next t ∧ t.rd (Obj.PLL_ENABLE n.val) = 1 ∧ t.rd (Obj.PLL_STATE n.val) = 1 ∧ t.answered rq Status.ok ∧
      s.objectsBut t [Obj.PLL_ENABLE n.val, Obj.PLL_STATE n.val] ∧ t.apart = s.apart := by
  have other : Obj.PLL_STATE n.val ≠ Obj.PLL_ENABLE n.val := by simp [Obj.PLL_STATE, Obj.PLL_ENABLE]
  have run : s.writePllEnable n.val 1 = (Status.ok, s.startPll n.val) := by
    simp [writePllEnable, startPll, rd_wr_other _ _ _ _ other, off]
  obtain ⟨enable, state⟩ := rd_startPll s n.val n.val
  have started : Edits [Obj.PLL_ENABLE n.val, Obj.PLL_STATE n.val] s (s.startPll n.val) := (Edits.refl s).wr.wr
  exact ⟨_, ownRequest_answers accepted run (by decide), by simp [enable], by simp [state], answered_answer .., started.answer.obj, rfl⟩

/-- A PLL that feeds no open gate stops; one that does is not stopped. -/
theorem execPllEnable_stops {s : State} {rq : Requester} {n : Fin 10} (accepted : s.accepts rq (Obj.PLL_ENABLE n.val) 0 = true) :
    ((∀ g ∈ s.feeds (.pll n.val), s.gateOpen g = false) →
      ∃ t, exec (.pllEnable rq n 0) s = .next t ∧ t.rd (Obj.PLL_ENABLE n.val) = 0 ∧ t.rd (Obj.PLL_STATE n.val) = 0 ∧
        t.rd (Obj.CLKMON_STATE (n.val + 1)) = 0 ∧ t.answered rq Status.ok ∧ t.apart = s.apart) ∧
    ((∃ g ∈ s.feeds (.pll n.val), s.gateOpen g = true) → exec (.pllEnable rq n 0) s = .next (s.answer rq Status.childActive)) := by
  have hn := n.isLt
  refine ⟨fun idle => ?_, fun ⟨g, hg, isOpen⟩ => ?_⟩
  · let stopped := (s.wr (Obj.PLL_ENABLE n.val) 0).stopPll n.val
    have closed : (s.feeds (.pll n.val)).any s.gateOpen = false := List.any_eq_false.2 fun g hg => by simp [idle g hg]
    have run : s.writePllEnable n.val 0 = (Status.ok, stopped.showClocks) := by simp [writePllEnable, closed, stopped]
    have shown := showClocks_edits stopped
    refine ⟨_, ownRequest_answers accepted run (by decide), ?_, ?_, ?_, answered_answer .., by simp [stopped, stopPll]⟩
    · have unshown : Obj.PLL_ENABLE n.val ∉ clocksShown := by
        simp [clocksShown, Obj.PLL_ENABLE, Obj.RAS_CLOCK_NOW, Obj.MATTE_CLOCK_NOW, Obj.GAF_CLOCK_NOW, Obj.PLL_FREQ_KHZ]
        omega
      rw [answer_rd, shown.rd unshown]
      simp [stopped, stopPll, rd_wr, Obj.PLL_STATE, Obj.PLL_FREQ_KHZ, Obj.CLKMON_STATE, Obj.PLL_ENABLE]
    · have unshown : Obj.PLL_STATE n.val ∉ clocksShown := by
        simp [clocksShown, Obj.PLL_STATE, Obj.RAS_CLOCK_NOW, Obj.MATTE_CLOCK_NOW, Obj.GAF_CLOCK_NOW, Obj.PLL_FREQ_KHZ]
        omega
      rw [answer_rd, shown.rd unshown]
      simp [stopped, stopPll, rd_wr, Obj.PLL_STATE, Obj.PLL_FREQ_KHZ, Obj.CLKMON_STATE]
    · have unshown : Obj.CLKMON_STATE (n.val + 1) ∉ clocksShown := by
        simp [clocksShown, Obj.CLKMON_STATE, Obj.RAS_CLOCK_NOW, Obj.MATTE_CLOCK_NOW, Obj.GAF_CLOCK_NOW, Obj.PLL_FREQ_KHZ]
        omega
      rw [answer_rd, shown.rd unshown]
      exact rd_wr_same ..
  · have feeding : (s.feeds (.pll n.val)).any s.gateOpen = true := List.any_eq_true.2 ⟨g, hg, isOpen⟩
    exact ownRequest_answers accepted (by simp [writePllEnable, feeding]) (by decide)

/-- A fault is armed in its object while injection is on (R636). -/
theorem writeInject_on {s : State} {addr v : Nat} (on : s.rd Obj.INJ_ENABLE = 1) (inRange : rangeStatus addr v = Status.ok) :
    s.writeInject addr v = (Status.ok, s.wr addr (s.merged addr v)) := by
  simp [writeInject, on, plainWrite_inRange inRange]

theorem execClkmonInject_arms {s : State} {rq : Requester} {m : Fin 11} {v : Fin 256} (accepted : s.accepts rq (Obj.CLKMON_INJECT m.val) v.val = true)
    (armed : v.val ≠ 0) :
    (s.rd Obj.INJ_ENABLE = 1 → rangeStatus (Obj.CLKMON_INJECT m.val) v.val = Status.ok →
      ∃ t, exec (.clkmonInject rq m v) s = .next t ∧ t.rd (Obj.CLKMON_INJECT m.val) = s.merged (Obj.CLKMON_INJECT m.val) v.val ∧ t.answered rq Status.ok ∧
        s.objectsBut t [Obj.CLKMON_INJECT m.val] ∧ t.apart = s.apart) ∧
    (s.rd Obj.INJ_ENABLE ≠ 1 → exec (.clkmonInject rq m v) s = .next (s.answer rq Status.accessDenied)) := by
  refine ⟨fun on inRange => ?_, fun off => ownRequest_answers accepted (if_pos ⟨armed, off⟩) (by decide)⟩
  exact ⟨_, ownRequest_answers accepted (writeInject_on on inRange) (by decide), by simp, answered_answer .., (Edits.refl s).wr.answer.obj, rfl⟩

theorem execClkmonWindow_judges {s : State} {m : Fin 11} {khz : Nat} (on : s.rd (Obj.CLKMON_STATE m.val) ≠ 0)
    (noInject : s.rd (Obj.CLKMON_INJECT m.val) = 0) :
    let expected := if m.val = 0 then s.rd Obj.XO_FREQ_KHZ else s.rd (Obj.PLL_FREQ_KHZ (m.val - 1))
    let r := monitorNext (s.rd (Obj.CLKMON_STATE m.val)) expected khz (Tab.get (0, 0) s.clocks.runs m.val) 0
    ∃ t, exec (.clkmonWindow m khz) s = .next t ∧ t.rd (Obj.CLKMON_STATE m.val) = r.1 ∧ t.rd (Obj.CLKMON_KHZ m.val) = khz ∧
      Tab.get (0, 0) t.clocks.runs m.val = r.2 ∧
      (r.1 = 3 → r.1 ≠ s.rd (Obj.CLKMON_STATE m.val) → s.log.fifo.length < 256 → t.told Ev.clkStopped noOwner [d8 m.val]) ∧ s.sameMemory t := by
  intro expected r
  let cur := s.rd (Obj.CLKMON_STATE m.val)
  let counted := ((s.wr (Obj.CLKMON_INJECT m.val) 0).wr (Obj.CLKMON_KHZ m.val) khz).modClocks (fun c => { c with runs := Tab.set c.runs m.val r.2 })
  have crystal : (s.wr (Obj.CLKMON_INJECT m.val) 0).rd Obj.XO_FREQ_KHZ = s.rd Obj.XO_FREQ_KHZ :=
    rd_wr_other _ _ _ _ (by simp only [Obj.XO_FREQ_KHZ, Obj.CLKMON_INJECT]; omega)
  have pll : (s.wr (Obj.CLKMON_INJECT m.val) 0).rd (Obj.PLL_FREQ_KHZ (m.val - 1)) = s.rd (Obj.PLL_FREQ_KHZ (m.val - 1)) :=
    rd_wr_other _ _ _ _ (by simp only [Obj.PLL_FREQ_KHZ, Obj.CLKMON_INJECT]; omega)
  have run : exec (.clkmonWindow m khz) s = .next (if r.1 = cur then counted.romClock else (counted.monitorChange m.val r.1 khz false).romClock) := by
    change execClkmonWindow m khz s = _
    simp only [execClkmonWindow, noInject, if_neg on, crystal, pll]
    rfl
  have state : counted.rd (Obj.CLKMON_STATE m.val) = cur := by
    simp [counted, cur, rd_wr, Obj.CLKMON_STATE, Obj.CLKMON_INJECT, Obj.CLKMON_KHZ]
  have shown : counted.rd (Obj.CLKMON_KHZ m.val) = khz := rd_wr_same ..
  have mux (t : State) {a : Nat} (below : a < 0x71A001) : t.romClock.rd a = t.rd a :=
    (romClock_edits t).rd (by simp only [Obj.MUX_SEL, List.mem_singleton]; omega)
  have below : Obj.CLKMON_STATE m.val < 0x71A001 ∧ Obj.CLKMON_KHZ m.val < 0x71A001 := by simp only [Obj.CLKMON_STATE, Obj.CLKMON_KHZ]; omega
  have memory : counted.mem = s.mem := rfl
  have log : counted.log = s.log := rfl
  have runs : Tab.get (0, 0) counted.clocks.runs m.val = r.2 := Tab.get_set_same ..
  clear_value counted
  refine ⟨_, run, ?_⟩
  split
  next same =>
    refine ⟨?_, ?_, ?_, fun _ changed => absurd same changed, byte_of_mem _ _ ((romClock_edits counted).mem.trans memory)⟩
    · rw [mux _ below.1, state, same]
    · rw [mux _ below.2, shown]
    · rw [ext_clocks (romClock_apart counted), runs]
  next changed =>
    have above : 0x703001 ≤ Obj.CLKMON_STATE m.val ∧ 0x703001 ≤ Obj.CLKMON_KHZ m.val := by simp only [Obj.CLKMON_STATE, Obj.CLKMON_KHZ]; omega
    have lost : Obj.CLKMON_STATE m.val ≠ Obj.LOG_LOST ∧ Obj.CLKMON_KHZ m.val ≠ Obj.LOG_LOST := by
      simp only [Obj.CLKMON_STATE, Obj.CLKMON_KHZ, Obj.LOG_LOST]; omega
    have other : Obj.CLKMON_KHZ m.val ≠ Obj.CLKMON_STATE m.val := by simp [Obj.CLKMON_KHZ, Obj.CLKMON_STATE]
    refine ⟨?_, ?_, ?_, fun stops _ room => ?_, byte_of_mem _ _ ?_⟩
    · rw [mux _ below.1, rd_monitorChange _ _ _ _ lost.1 above.1, if_pos rfl]
    · rw [mux _ below.2, rd_monitorChange _ _ _ _ lost.2 above.2, if_neg other, shown]
    · rw [ext_clocks (romClock_apart _), ext_clocks (monitorChange_apart ..), runs]
    · rw [stops]
      exact (romClock_edits _).told (told_monitorChange_stopped (by rwa [log]) m.val khz)
    · rw [(romClock_edits _).mem, (monitorChange_edits ..).mem, wr_mem, memory]

/-- Settles O53, command by command. -/
theorem crystalPllsAndMonitors : Obligations.CrystalPllsAndMonitors := by
  unfold Obligations.CrystalPllsAndMonitors
  exact ⟨fun s => execXoDelayExpiry_counts, fun s khz counting => ⟨fun f => execXoCountDone_selects counting, execXoCountDone_halts counting⟩,
    fun s n khz => execPllLocked_locks, fun s rq n => ⟨execPllEnable_starts, execPllEnable_stops⟩, fun s m khz => execClkmonWindow_judges,
    fun s rq m v => execClkmonInject_arms⟩

end Sys2Proof.Machine
end

section
/-! SUPPORT, and the statement O45: touch units switched on and off (R460, R474, R478, R480). -/
namespace Sys2Proof.Machine
open Sys2Proof

namespace State

/-! ## Front ends -/

theorem front_setFront (s : State) (p n : Nat) (x : FrontEnd) : (s.setFront p x).front n = if n = p then x else s.front n := Tab.get_set ..

theorem front_congr {s t : State} (h : t.fronts = s.fronts) (n : Nat) : t.front n = s.front n := by rw [front, front, h]

@[simp] theorem front_wr (s : State) (a v n : Nat) : (s.wr a v).front n = s.front n := rfl

@[simp] theorem front_answer (s : State) (rq : Requester) (st n : Nat) : (s.answer rq st).front n = s.front n := rfl

/-- The objects of a front end that baselining and switching off write. -/
theorem rfObjects_ne (p : Nat) : Obj.RF_CONTROL p ≠ Obj.RF_STATE p ∧ Obj.RF_CONTROL p ≠ Obj.RF_STATUS p ∧ Obj.RF_STATE p ≠ Obj.RF_STATUS p := by
  simp [Obj.RF_CONTROL, Obj.RF_STATE, Obj.RF_STATUS]

theorem front_baseline (s : State) (p n : Nat) : (s.baseline p).front n = if n = p then
    { listen := (s.front p).listen, band := (s.front p).band, windowB := (s.front p).windowB, nextB := (s.front p).nextB, cut := (s.front p).cut,
      force := (s.front p).force } else s.front n := front_setFront ..

theorem baseline_edits {os : List Nat} {s t : State} {p : Nat} (h : Edits os s t) (state : Obj.RF_STATE p ∈ os := by simp)
    (status : Obj.RF_STATUS p ∈ os := by simp) : Edits os s (t.baseline p) := (h.same.wr state).wr status

theorem rd_baseline_state (s : State) (p : Nat) : (s.baseline p).rd (Obj.RF_STATE p) = touchBaselining := by
  rw [baseline, rd_wr_other _ _ _ _ (rfObjects_ne p).2.2, rd_wr_same]

theorem rd_baseline_control (s : State) (p : Nat) : (s.baseline p).rd (Obj.RF_CONTROL p) = s.rd (Obj.RF_CONTROL p) := by
  rw [baseline, rd_wr_other _ _ _ _ (rfObjects_ne p).2.1, rd_wr_other _ _ _ _ (rfObjects_ne p).1, setFront_rd]

/-- A front end without contacts is off at once. -/
theorem frontOff_quiet {s : State} {p : Nat} (quiet : (s.front p).contacts = []) (run : ScanRun) : s.frontOff p run =
    ((s.setFront p { force := (s.front p).force }).wr (Obj.RF_STATE p) touchOff).wr (Obj.RF_STATUS p) (s.rd (Obj.RF_STATUS p) &&& 0xC) := by
  simp only [frontOff, if_pos quiet]

/-! ## Writes of RF_CONTROL (R460) -/

section
variable {s : State} {p : Nat} (newly : bit (s.rd (Obj.RF_CONTROL p)) 0 = false) (geometry : geometryBad (s.rd (Obj.RF_GEOMETRY p)) = false)
  (panel : ∀ k, s.panel p = some k → s.pairOdd k = false) (bell : s.touchBell p (s.rd (Obj.RF_DOORBELL p)) = false)
include newly geometry panel bell

/-- A configuration that may be enabled is, unless its scans break the budget. -/
theorem writeRfControl_on : s.writeRfControl p 1 = if s.scanBudgetBroken p then (Status.scanBudget, s)
    else (Status.ok, ((s.wr (Obj.RF_CONTROL p) 1).setFront p { force := (s.front p).force }).baseline p) := by
  have one : bit 1 0 = true := by decide
  cases found : s.panel p with
  | none => simp [writeRfControl, one, newly, geometry, found, bell]
  | some k => simp [writeRfControl, one, newly, geometry, found, panel k found, bell]

end

end State

open State

/-! ## The commands -/

theorem execRfEnable_baselines {s : State} {rq : Requester} {p : Fin 2} (accepted : s.accepts rq (Obj.RF_CONTROL p.val) 1 = true)
    (newly : bit (s.rd (Obj.RF_CONTROL p.val)) 0 = false) (geometry : geometryBad (s.rd (Obj.RF_GEOMETRY p.val)) = false)
    (panel : ∀ k, s.panel p.val = some k → s.pairOdd k = false) (bell : s.touchBell p.val (s.rd (Obj.RF_DOORBELL p.val)) = false) :
    (s.scanBudgetBroken p.val = false →
      ∃ t, exec (.rfEnable rq p 1) s = .next t ∧ t.rd (Obj.RF_CONTROL p.val) = 1 ∧ t.rd (Obj.RF_STATE p.val) = touchBaselining ∧
        t.answered rq Status.ok ∧ (t.front p.val).scans = 0 ∧ (t.front p.val).contacts = [] ∧ (∀ n, n ≠ p.val → t.front n = s.front n) ∧
        s.objectsBut t [Obj.RF_CONTROL p.val, Obj.RF_STATE p.val, Obj.RF_STATUS p.val] ∧ s.sameMemory t) ∧
    (s.scanBudgetBroken p.val = true → exec (.rfEnable rq p 1) s = .next (s.answer rq Status.scanBudget)) := by
  have write := writeRfControl_on newly geometry panel bell
  refine ⟨fun fits => ?_, fun broken => ownRequest_answers accepted (write.trans (if_pos broken)) (by decide)⟩
  refine ⟨_, ownRequest_answers accepted (write.trans (if_neg (by simp [fits]))) (by decide), ?_, ?_, answered_answer .., ?_, ?_, fun n other => ?_, ?_⟩
  · rw [answer_rd, rd_baseline_control, setFront_rd, rd_wr_same]
  · rw [answer_rd, rd_baseline_state]
  · rw [front_answer, front_baseline, if_pos rfl]
  · rw [front_answer, front_baseline, if_pos rfl]
  · rw [front_answer, front_baseline, if_neg other, front_setFront, if_neg other, front_wr]
  · exact (baseline_edits (Edits.refl s).wr.same).answer.frame

theorem execRfDisable_ends {s : State} {rq : Requester} {p : Fin 2} (accepted : s.accepts rq (Obj.RF_CONTROL p.val) 0 = true)
    (on : s.rd (Obj.RF_STATE p.val) ≠ touchOff) :
    ((s.front p.val).window.isSome = true →
      ∃ t, exec (.rfDisable rq p 0) s = .next t ∧ t.rd (Obj.RF_CONTROL p.val) = 0 ∧ t.front p.val = { s.front p.val with ending := true } ∧
        t.answered rq Status.ok ∧ s.objectsBut t [Obj.RF_CONTROL p.val] ∧ s.sameMemory t) ∧
    ((s.front p.val).window = none → (s.front p.val).contacts = [] →
      ∃ t, exec (.rfDisable rq p 0) s = .next t ∧ t.rd (Obj.RF_CONTROL p.val) = 0 ∧ t.rd (Obj.RF_STATE p.val) = touchOff ∧ t.answered rq Status.ok ∧
        s.objectsBut t [Obj.RF_CONTROL p.val, Obj.RF_STATE p.val, Obj.RF_STATUS p.val] ∧ s.sameMemory t) := by
  obtain ⟨controlState, controlStatus, stateStatus⟩ := rfObjects_ne p.val
  have still : (s.wr (Obj.RF_CONTROL p.val) 0).rd (Obj.RF_STATE p.val) ≠ touchOff := by rwa [rd_wr_other _ _ _ _ controlState.symm]
  have zero : bit 0 0 = false := by decide
  refine ⟨fun runs => ?_, fun idle quiet => ?_⟩
  · obtain ⟨w, window⟩ := Option.isSome_iff_exists.1 runs
    have write : s.writeRfControl p.val 0 = (Status.ok, (s.wr (Obj.RF_CONTROL p.val) 0).setFront p.val { s.front p.val with ending := true }) := by
      simp only [writeRfControl, zero, still, window, Bool.false_eq_true, if_false]
    refine ⟨_, ownRequest_answers accepted write (by decide), by simp, ?_, answered_answer .., (Edits.refl s).wr.same.answer.frame⟩
    rw [front_answer, front_setFront, if_pos rfl]
  · have write : s.writeRfControl p.val 0 = (Status.ok, (s.wr (Obj.RF_CONTROL p.val) 0).frontOff p.val
        ⟨s.now, s.dtime, 0, bit ((s.wr (Obj.RF_CONTROL p.val) 0).rd (Obj.RF_STATUS p.val)) 4⟩) := by
      simp only [writeRfControl, zero, still, idle, Bool.false_eq_true, if_false]
      rfl
    rw [frontOff_quiet (s := s.wr (Obj.RF_CONTROL p.val) 0) quiet] at write
    refine ⟨_, ownRequest_answers accepted write (by decide), ?_, ?_, answered_answer .., (Edits.refl s).wr.same.wr.wr.answer.frame⟩
    · simp [rd_wr, controlState, controlStatus]
    · simp [rd_wr, stateStatus]

theorem execSelfStartedWindow_opens {s : State} {p : Fin 2} (scanning : s.scans p.val = true) (idle : s.windowRuns p.val = false)
    (active : s.panelState p.val = .active) (noSlice : s.dailies.running = []) :
    ∃ t, exec (.selfStartedWindow p) s = .next t ∧ t.windowRuns p.val = true ∧ (∀ n, n ≠ p.val → t.front n = s.front n) ∧ s.objectsBut t [] ∧
      { t with fronts := s.fronts } = s := by
  have unit : p.val ≠ 2 := by omega
  have freed : s.abandonUnit (.frontEnd p.val) abandonTouch = s := by simp [abandonUnit, abandonSlices, noSlice, each]
  have run : exec (.selfStartedWindow p) s = .next (s.startWindow p.val) := by
    change execSelfStartedWindow p s = _
    rw [execSelfStartedWindow, if_pos ⟨scanning, by simp [idle], active⟩, freed]
  simp only [startWindow, if_neg unit] at run
  refine ⟨_, run, ?_, fun n other => ?_, fun _ _ => rfl, rfl⟩
  · simp only [windowRuns, if_neg unit, front_setFront, if_true, Option.isSome_some]
  · rw [front_setFront, if_neg other]

theorem execKbEnable_baselines {s : State} {rq : Requester} (accepted : s.accepts rq Obj.KB_ENABLE 1 = true) (newly : s.rd Obj.KB_ENABLE ≠ 1)
    (bell : s.touchBell 2 (s.rd Obj.KB_DOORBELL) = false) :
    ∃ t, exec (.kbEnable rq 1) s = .next t ∧ t.rd Obj.KB_ENABLE = 1 ∧ t.rd Obj.KB_STATE = touchBaselining ∧ t.keyBank = {} ∧ t.answered rq Status.ok ∧
      s.objectsBut t [Obj.KB_ENABLE, Obj.KB_STATE] ∧ s.sameMemory t := by
  have write : s.writeKbEnable 1 = (Status.ok, ((s.wr Obj.KB_ENABLE 1).setKeys {}).wr Obj.KB_STATE touchBaselining) := by
    simp [writeKbEnable, newly, bell]
  have other : Obj.KB_ENABLE ≠ Obj.KB_STATE := by decide
  exact ⟨_, ownRequest_answers accepted write (by decide), by simp [rd_wr, other], by simp, rfl, answered_answer ..,
    (Edits.refl s).wr.same.wr.answer.frame⟩

theorem execKbEnable_stops {s : State} {rq : Requester} (accepted : s.accepts rq Obj.KB_ENABLE 0 = true) (on : s.rd Obj.KB_STATE ≠ touchOff)
    (idle : s.keyBank.window = none) (released : ∀ k ∈ s.keyBank.keys, k.pressed = false) :
    ∃ t, exec (.kbEnable rq 0) s = .next t ∧ t.rd Obj.KB_ENABLE = 0 ∧ t.rd Obj.KB_STATE = touchOff ∧ t.answered rq Status.ok ∧
      s.objectsBut t [Obj.KB_ENABLE, Obj.KB_STATE] ∧ s.sameMemory t := by
  have other : Obj.KB_ENABLE ≠ Obj.KB_STATE := by decide
  have none : s.keyBank.keys.any Key.pressed = false := List.any_eq_false.2 fun k hk => by simp [released k hk]
  have write : s.writeKbEnable 0 = (Status.ok, ((s.wr Obj.KB_ENABLE 0).setKeys {}).wr Obj.KB_STATE touchOff) := by
    simp [writeKbEnable, rd_wr, other.symm, on, idle, none]
  exact ⟨_, ownRequest_answers accepted write (by decide), by simp [rd_wr, other], by simp, answered_answer .., (Edits.refl s).wr.same.wr.answer.frame⟩

/-- Settles O45, command by command. -/
theorem touchUnitsAreSwitched : Obligations.TouchUnitsAreSwitched := by
  unfold Obligations.TouchUnitsAreSwitched
  exact ⟨fun s rq p => ⟨execRfEnable_baselines, execRfDisable_ends, execSelfStartedWindow_opens⟩, fun s rq => execKbEnable_baselines,
    fun s rq => execKbEnable_stops⟩

end Sys2Proof.Machine
end

section
/-!
SUPPORT. O43 and O44: Continuity units (R421 to R440). What an item's judgement writes: the records of its findings, the result and the counts, and what a
unit that trips does.
-/
namespace Sys2Proof.Machine
open Sys2Proof

namespace State
variable {os : List Nat} {s t : State}

/-! ## Units and their bits -/

theorem cu_setCu (s : State) (u n : Nat) (x : CuUnit) : (s.setCu u x).cu n = if n = u then x else s.cu n := Tab.get_set ..

theorem cu_congr (h : t.cus = s.cus) (n : Nat) : t.cu n = s.cu n := by rw [cu, cu, h]

theorem bit_wrBit_same (s : State) (a i b : Nat) (on : Bool) : bit ((s.wrBit a i on).rd a) b = if b = i then on else bit (s.rd a) b := by
  rw [rd_wrBit, if_pos rfl, bit_setBit]

/-- The objects of a unit's state and status are two, and neither is LOG_LOST. -/
theorem cuState_ne (u : Nat) : Obj.CU_STATE u ≠ Obj.CU_STATUS u ∧ Obj.CU_STATE u ≠ Obj.LOG_LOST ∧ Obj.CU_STATUS u ≠ Obj.LOG_LOST := by
  simp only [Obj.CU_STATE, Obj.CU_STATUS, Obj.LOG_LOST]
  omega

theorem setCuState_edits {u v : Nat} (h : Edits os s t) (state : Obj.CU_STATE u ∈ os := by simp) (status : Obj.CU_STATUS u ∈ os := by simp) :
    Edits os s (t.setCuState u v) := (h.wr state).wrBit status

theorem rd_setCuState_state (s : State) (u v : Nat) : (s.setCuState u v).rd (Obj.CU_STATE u) = v := by
  rw [setCuState, rd_wrBit, if_neg (cuState_ne u).1, rd_wr_same]

theorem bit_setCuState (s : State) (u v : Nat) {b : Nat} (hb : b ≠ 5) :
    bit ((s.setCuState u v).rd (Obj.CU_STATUS u)) b = bit (s.rd (Obj.CU_STATUS u)) b := by
  rw [setCuState, bit_wrBit_same, if_neg hb, rd_wr_other _ _ _ _ (cuState_ne u).1.symm]

/-! ## A unit that trips (R431) -/

/-- What a substitution writes: the unit's status, and that of the unit whose override it takes the place of. -/
theorem substitute_edits (s : State) (u : Nat) : ∃ o, Edits [Obj.CU_STATUS u, Obj.CU_STATUS o] s (s.substitute u) := by
  unfold substitute
  extract_lets g ended
  have hended : ∃ o, Edits [Obj.CU_STATUS u, Obj.CU_STATUS o] s ended := by
    dsimp only [ended]
    split
    next o _ _ => exact ⟨o, (Edits.refl s).wrBit⟩
    · exact ⟨u, .refl s⟩
  obtain ⟨o, ho⟩ := hended
  exact ⟨o, ho.same.wrBit⟩

theorem bit_substitute (s : State) (u : Nat) {b : Nat} (hb : b ≠ 6) :
    bit ((s.substitute u).rd (Obj.CU_STATUS u)) b = bit (s.rd (Obj.CU_STATUS u)) b := by
  unfold substitute
  extract_lets g ended
  rw [bit_wrBit_same, if_neg hb]
  show bit (ended.rd _) b = _
  dsimp only [ended]
  split
  next o _ _ =>
    by_cases own : o = u
    · rw [own, bit_wrBit_same, if_neg hb]
    · rw [rd_wrBit, if_neg (by simp only [Obj.CU_STATUS]; omega)]
  · rfl

/-- The objects that a chime asked for may write. -/
def chimeWrites : List Nat := [Obj.LOG_LOST, Obj.CHIME_NOW]

theorem setGen_edits {g : Nat} {x : Generator} (h : Edits os s t) (now : Obj.CHIME_NOW ∈ os := by simp) : Edits os s (t.setGen g x) := h.same.wr now

theorem playChime_edits (s : State) (n source : Nat) : Edits chimeWrites s (s.playChime n source).2 := by
  unfold playChime
  split
  · exact .refl s
  · extract_lets d
    split
    · exact .refl s
    · split
      · dsimp only
        exact (Edits.refl s).logEvent (by simp [chimeWrites])
      next o g _ =>
        extract_lets _ taken
        have htaken : Edits chimeWrites s taken := setGen_edits (.of_stores (.refl s) rfl) (by simp [chimeWrites])
        clear_value taken
        dsimp only
        exact htaken.perhaps fun h => h.of_stores (wake_stores ..)

/-- The chime of a trip, withheld while Bittern is down. -/
def tripChime (s : State) (u : Nat) : State :=
  if s.bitternDown then s.logEvent Ev.chimeWithheld noOwner [d8 u, d8 (s.rd (Obj.CU_CHIME u))] else (s.playChime (s.rd (Obj.CU_CHIME u)) 1).2

theorem tripChime_edits (s : State) (u : Nat) : Edits chimeWrites s (s.tripChime u) :=
  .ite ((Edits.refl s).logEvent (by simp [chimeWrites])) (playChime_edits ..)

/-- What a trip records and signals, before it acts. -/
def tripTold (s : State) (u : Nat) (injected : Bool) : State :=
  ((s.setCuState u cuTripped).logInjected Ev.actionRun noOwner injected [d8 u, d8 (field (s.rd (Obj.CU_CONFIG u)) 26 24)]).emit
    (.irq (0x40 + u) ((s.setCuState u cuTripped).cuBittern u))

theorem trip_eq (s : State) (u : Nat) (injected : Bool) : s.trip u injected =
    let actions := field (s.rd (Obj.CU_CONFIG u)) 26 24
    let told := s.tripTold u injected
    let shown := if bit actions 0 then told.substitute u else told
    let sounded := if bit actions 1 then shown.tripChime u else shown
    if bit actions 2 then (sounded.ring (field (sounded.rd (Obj.CU_DOORBELL u)) 11 8) (2 ^ field (sounded.rd (Obj.CU_DOORBELL u)) 4 0)).2 else sounded := rfl

/-- A trip writes the unit's state and status, perhaps the status of a unit whose override ends, and what the log and a chime write. -/
theorem trip_edits (s : State) (u : Nat) (injected : Bool) :
    ∃ o, Edits [Obj.CU_STATE u, Obj.CU_STATUS u, Obj.CU_STATUS o, Obj.LOG_LOST, Obj.CHIME_NOW] s (s.trip u injected) := by
  rw [trip_eq]
  extract_lets actions told shown sounded
  have hshown : ∃ o, Edits [Obj.CU_STATE u, Obj.CU_STATUS u, Obj.CU_STATUS o, Obj.LOG_LOST, Obj.CHIME_NOW] s shown := by
    have htold (o : Nat) : Edits [Obj.CU_STATE u, Obj.CU_STATUS u, Obj.CU_STATUS o, Obj.LOG_LOST, Obj.CHIME_NOW] s told :=
      (setCuState_edits (.refl s)).logInjected.emit
    obtain ⟨o, ho⟩ := substitute_edits told u
    exact ⟨o, (htold o).perhaps fun h => h.trans (ho.mono (by simp))⟩
  obtain ⟨o, ho⟩ := hshown
  have hsounded : Edits [Obj.CU_STATE u, Obj.CU_STATUS u, Obj.CU_STATUS o, Obj.LOG_LOST, Obj.CHIME_NOW] s sounded :=
    ho.perhaps fun h => h.trans ((tripChime_edits shown u).mono (by simp [chimeWrites]))
  exact ⟨o, hsounded.perhaps fun h => h.of_stores (ring_stores ..)⟩

/-- What is no state and no status of a unit outlasts a trip. -/
theorem rd_trip (s : State) (u : Nat) (injected : Bool) {a : Nat} (lost : a ≠ Obj.LOG_LOST) (chime : a ≠ Obj.CHIME_NOW)
    (state : a % 256 ≠ 0x0B) (status : a % 256 ≠ 0x0C) :
    (s.trip u injected).rd a = s.rd a := by
  obtain ⟨o, h⟩ := trip_edits s u injected
  refine h.rd ?_
  simp only [List.mem_cons, List.not_mem_nil, lost, chime, or_false, Obj.CU_STATE, Obj.CU_STATUS]
  omega

/-- A trip leaves the other bits of the unit's status, and the unit TRIPPED. -/
theorem trip_status (s : State) (u : Nat) (injected : Bool) : (s.trip u injected).rd (Obj.CU_STATE u) = cuTripped ∧
    ∀ b, b ≠ 5 → b ≠ 6 → bit ((s.trip u injected).rd (Obj.CU_STATUS u)) b = bit (s.rd (Obj.CU_STATUS u)) b := by
  obtain ⟨stateStatus, stateLost, statusLost⟩ := cuState_ne u
  obtain ⟨stateChime, statusChime⟩ : Obj.CU_STATE u ≠ Obj.CHIME_NOW ∧ Obj.CU_STATUS u ≠ Obj.CHIME_NOW := by
    simp only [Obj.CU_STATE, Obj.CU_STATUS, Obj.CHIME_NOW]
    omega
  have told : (s.tripTold u injected).rd (Obj.CU_STATE u) = cuTripped ∧
      ∀ b, b ≠ 5 → bit ((s.tripTold u injected).rd (Obj.CU_STATUS u)) b = bit (s.rd (Obj.CU_STATUS u)) b := by
    refine ⟨?_, fun b hb => ?_⟩
    · rw [tripTold, emit_rd, rd_logInjected _ _ _ _ _ _ stateLost, rd_setCuState_state]
    · rw [tripTold, emit_rd, rd_logInjected _ _ _ _ _ _ statusLost, bit_setCuState _ _ _ hb]
  have rung (r : State) (c : Prop) [Decidable c] (m bits a : Nat) : (if c then (r.ring m bits).2 else r).rd a = r.rd a :=
    (Edits.perhaps (os := []) (.refl r) fun h => h.of_stores (ring_stores ..)).rd
  have sounded (r : State) (c : Prop) [Decidable c] {a : Nat} (ha : a ≠ Obj.LOG_LOST) (hc : a ≠ Obj.CHIME_NOW) :
      (if c then r.tripChime u else r).rd a = r.rd a :=
    (Edits.perhaps (.refl r) fun _ => tripChime_edits r u).rd (by simp [chimeWrites, ha, hc])
  rw [trip_eq]
  simp only
  refine ⟨?_, fun b h5 h6 => ?_⟩
  · rw [rung, sounded _ _ stateLost stateChime]
    split
    · obtain ⟨o, ho⟩ := substitute_edits (s.tripTold u injected) u
      rw [ho.rd (by simp only [List.mem_cons, List.not_mem_nil, or_false, Obj.CU_STATE, Obj.CU_STATUS]; omega)]
      exact told.1
    · exact told.1
  · rw [rung, sounded _ _ statusLost statusChime]
    split
    · rw [bit_substitute _ _ h6, told.2 b h5]
    · exact told.2 b h5

/-! ## Findings (R428, R429) -/

/-- Is the item wrong, rather than repeated or skipped? -/
def Findings.bad (f : Findings) : Bool := f.refFault || f.mismatch || f.aliveBad

theorem finding_edits {found silent injected : Bool} {u i code : Nat} {ds : List Detail} (h : Edits [Obj.LOG_LOST, Obj.CU_STATUS u] s t) :
    Edits [Obj.LOG_LOST, Obj.CU_STATUS u] s (if found then (if silent then t.wrBit (Obj.CU_STATUS u) i true
      else (t.wrBit (Obj.CU_STATUS u) i true).logInjected code noOwner injected ds) else t) :=
  h.perhaps fun h => .ite h.wrBit h.wrBit.logInjected

theorem bit_finding (s : State) (found silent injected : Bool) (u i code b : Nat) (ds : List Detail) :
    bit ((if found then (if silent then s.wrBit (Obj.CU_STATUS u) i true
      else (s.wrBit (Obj.CU_STATUS u) i true).logInjected code noOwner injected ds) else s).rd (Obj.CU_STATUS u)) b =
      if b = i then found || bit (s.rd (Obj.CU_STATUS u)) b else bit (s.rd (Obj.CU_STATUS u)) b := by
  cases found
  · simp
  · cases silent <;> simp [rd_logInjected _ _ _ _ _ _ (cuState_ne u).2.2, bit_wrBit_same]

theorem findingRecords_edits (s : State) (u : Nat) (f : Findings) (j : Judged) (repeats place : Nat) (injected silent : Bool) :
    Edits [Obj.LOG_LOST, Obj.CU_STATUS u] s (s.findingRecords u f j repeats place injected silent) :=
  finding_edits (finding_edits (finding_edits (finding_edits (finding_edits (.refl s)))))

/-- A mismatch is shown in the status. -/
theorem bit_findingRecords_mismatch {f : Findings} (mismatch : f.mismatch = true) (s : State) (u : Nat) (j : Judged) (repeats place : Nat)
    (injected silent : Bool) : bit ((s.findingRecords u f j repeats place injected silent).rd (Obj.CU_STATUS u)) 0 = true := by
  unfold findingRecords
  extract_lets st log frozen faulty differs alive
  have hdiffers : bit (differs.rd (Obj.CU_STATUS u)) 0 = true := by
    rw [show bit (differs.rd (Obj.CU_STATUS u)) 0 = _ from bit_finding ..]
    simp [mismatch]
  have halive : bit (alive.rd (Obj.CU_STATUS u)) 0 = true := by
    rw [show bit (alive.rd (Obj.CU_STATUS u)) 0 = _ from bit_finding ..]
    simpa using hdiffers
  refine (bit_finding ..).trans ?_
  simpa using halive

/-! ## An item judged (R425, R428 to R431) -/

/-- The alive value that the next item is compared with (R428). -/
def itemPred (f : Findings) (j : Judged) (old : Option Nat) : Option Nat :=
  if Findings.bad f then none else (match j.alive with | .value a => some a | _ => old)

/-- The findings recorded, and the result and the value shown. -/
def itemShown (s : State) (u : Nat) (j : Judged) (place : Nat) : State :=
  let f := s.findings u j
  let told := s.findingRecords u f.1 j f.2 place false (decide (s.rd (Obj.CU_STATE u) = cuTripped))
  let kept := told.setCu u { told.cu u with pred := itemPred f.1 j (told.cu u).pred, repeats := f.2 }
  (kept.wr (Obj.CU_LAST_RESULT u) f.1.result).wr (Obj.CU_LAST_VALUE u) j.value

/-- The item counted as passed or failed; a frozen one is counted as neither. -/
def itemCounted (s : State) (u : Nat) (f : Findings) : State :=
  if f.pass then (s.wr (Obj.CU_FAIL_RUN u) 0).count (Obj.CU_PASS_COUNT u)
  else if f.frozen then s
  else ((s.wr (Obj.CU_FAIL_RUN u) (satAdd 8 (s.rd (Obj.CU_FAIL_RUN u)) 1)).count (Obj.CU_FAIL_COUNT u)).tallyCount 29 u noOwner

/-- The unit's state after an item, before it may trip. -/
def itemStated (s : State) (u : Nat) (f : Findings) (tripped : Bool) : State :=
  if tripped then s else s.setCuState u (if Findings.bad f then cuSync else cuActive)

/-- The state after an item, before the unit may trip. -/
def itemJudged (s : State) (u : Nat) (j : Judged) (place : Nat) : State :=
  ((s.itemShown u j place).itemCounted u (s.findings u j).1).itemStated u (s.findings u j).1 (decide (s.rd (Obj.CU_STATE u) = cuTripped))

/-- An item on which no fault is armed, or that does not pass by itself, is judged as it is. -/
theorem judgeItem_eq {u : Nat} {j : Judged} (unarmed : (s.findings u j).1.pass = false ∨ (s.cu u).inject = 0) (place : Nat) :
    s.judgeItem u j place = ((s.findings u j).1,
      if (!decide (s.rd (Obj.CU_STATE u) = cuTripped) && ((s.findings u j).1.frozen || (!(s.findings u j).1.pass &&
          Nat.ble ((s.itemJudged u j place).rd (Obj.CU_FAIL_LIMIT u)) ((s.itemJudged u j place).rd (Obj.CU_FAIL_RUN u))))) then
        (s.itemJudged u j place).trip u false else s.itemJudged u j place) := by
  have meets : ((s.findings u j).1.pass && !decide ((s.cu u).inject = 0)) = false := by
    rcases unarmed with h | h <;> simp [h]
  unfold judgeItem
  simp only [meets, Bool.false_eq_true, if_false, Bool.false_and]
  rfl

end State
end Sys2Proof.Machine
end

section
/-! SUPPORT. O43 and O44: what the judgement of an item leaves in the unit's objects, in the units and in the mailboxes. -/
namespace Sys2Proof.Machine
open Sys2Proof

namespace State
variable {s : State} {u : Nat} {j : Judged} {place : Nat}

/-- The objects in which an item's judgement is shown. -/
def itemObjects (u : Nat) : List Nat := [Obj.LOG_LOST, Obj.CU_STATUS u, Obj.CU_STATE u, Obj.CU_LAST_RESULT u, Obj.CU_LAST_VALUE u, Obj.CU_FAIL_RUN u,
  Obj.CU_PASS_COUNT u, Obj.CU_FAIL_COUNT u]

theorem itemShown_edits (s : State) (u : Nat) (j : Judged) (place : Nat) : Edits (itemObjects u) s (s.itemShown u j place) :=
  Edits.wr (.wr (.same ((findingRecords_edits ..).mono (by simp [itemObjects]))) (by simp [itemObjects])) (by simp [itemObjects])

theorem itemCounted_edits (s : State) (u : Nat) (f : Findings) : Edits (itemObjects u) s (s.itemCounted u f) := by
  have h := Edits.refl (os := itemObjects u) s
  refine .ite ?_ (.ite h ?_)
  · exact Edits.count (h.wr (by simp [itemObjects])) (by simp [itemObjects])
  · exact Edits.tallyCount (.count (h.wr (by simp [itemObjects])) (by simp [itemObjects])) (by simp [itemObjects])

theorem itemStated_edits (s : State) (u : Nat) (f : Findings) (tripped : Bool) : Edits (itemObjects u) s (s.itemStated u f tripped) :=
  .ite (.refl s) (setCuState_edits (.refl s) (by simp [itemObjects]) (by simp [itemObjects]))

theorem itemJudged_edits (s : State) (u : Nat) (j : Judged) (place : Nat) : Edits (itemObjects u) s (s.itemJudged u j place) :=
  ((itemShown_edits ..).trans (itemCounted_edits ..)).trans (itemStated_edits ..)

/-! ## Results and counts -/

theorem rd_itemStated (s : State) (u : Nat) (f : Findings) (tripped : Bool) {a : Nat} (state : a ≠ Obj.CU_STATE u) (status : a ≠ Obj.CU_STATUS u) :
    (s.itemStated u f tripped).rd a = s.rd a := by
  unfold itemStated
  split
  · rfl
  · rw [setCuState, rd_wrBit, if_neg status, rd_wr_other _ _ _ _ state]

theorem rd_itemCounted (s : State) (u : Nat) (f : Findings) {a : Nat} (lost : a ≠ Obj.LOG_LOST) (run : a ≠ Obj.CU_FAIL_RUN u)
    (passes : a ≠ Obj.CU_PASS_COUNT u) (fails : a ≠ Obj.CU_FAIL_COUNT u) : (s.itemCounted u f).rd a = s.rd a := by
  unfold itemCounted
  split
  · rw [rd_count, if_neg passes, rd_wr_other _ _ _ _ run]
  · split
    · rfl
    · rw [rd_tallyCount _ _ _ _ _ lost, rd_count, if_neg fails, rd_wr_other _ _ _ _ run]

theorem itemJudged_shown (s : State) (u : Nat) (j : Judged) (place : Nat) :
    (s.itemJudged u j place).rd (Obj.CU_LAST_RESULT u) = (s.findings u j).1.result ∧ (s.itemJudged u j place).rd (Obj.CU_LAST_VALUE u) = j.value := by
  have kept {a : Nat} (ha : a = Obj.CU_LAST_RESULT u ∨ a = Obj.CU_LAST_VALUE u) : (s.itemJudged u j place).rd a = (s.itemShown u j place).rd a := by
    have far : a ≠ Obj.CU_STATE u ∧ a ≠ Obj.CU_STATUS u ∧ a ≠ Obj.LOG_LOST ∧ a ≠ Obj.CU_FAIL_RUN u ∧ a ≠ Obj.CU_PASS_COUNT u ∧ a ≠ Obj.CU_FAIL_COUNT u := by
      simp only [Obj.CU_LAST_RESULT, Obj.CU_LAST_VALUE, Obj.CU_STATE, Obj.CU_STATUS, Obj.LOG_LOST, Obj.CU_FAIL_RUN, Obj.CU_PASS_COUNT,
        Obj.CU_FAIL_COUNT] at ha ⊢
      omega
    obtain ⟨state, status, lost, run, passes, fails⟩ := far
    rw [itemJudged, rd_itemStated _ _ _ _ state status, rd_itemCounted _ _ _ lost run passes fails]
  have other : Obj.CU_LAST_RESULT u ≠ Obj.CU_LAST_VALUE u := by simp [Obj.CU_LAST_RESULT, Obj.CU_LAST_VALUE]
  refine ⟨(kept (.inl rfl)).trans ?_, (kept (.inr rfl)).trans (rd_wr_same ..)⟩
  rw [itemShown, rd_wr_other _ _ _ _ other, rd_wr_same]

/-- The counts after an item are those before it, counted once. -/
theorem rd_itemJudged_counted {a : Nat} (ha : a = Obj.CU_FAIL_RUN u ∨ a = Obj.CU_PASS_COUNT u ∨ a = Obj.CU_FAIL_COUNT u) :
    (s.itemJudged u j place).rd a = ((s.itemShown u j place).itemCounted u (s.findings u j).1).rd a ∧ (s.itemShown u j place).rd a = s.rd a := by
  have far : a ≠ Obj.CU_STATE u ∧ a ≠ Obj.CU_STATUS u ∧ a ≠ Obj.LOG_LOST ∧ a ≠ Obj.CU_LAST_RESULT u ∧ a ≠ Obj.CU_LAST_VALUE u := by
    simp only [Obj.CU_LAST_RESULT, Obj.CU_LAST_VALUE, Obj.CU_STATE, Obj.CU_STATUS, Obj.LOG_LOST, Obj.CU_FAIL_RUN, Obj.CU_PASS_COUNT,
      Obj.CU_FAIL_COUNT] at ha ⊢
    omega
  obtain ⟨state, status, lost, result, value⟩ := far
  refine ⟨rd_itemStated _ _ _ _ state status, ?_⟩
  rw [itemShown, rd_wr_other _ _ _ _ value, rd_wr_other _ _ _ _ result, setCu_rd]
  exact (findingRecords_edits ..).rd (by simp [lost, status])

theorem itemJudged_passed (pass : (s.findings u j).1.pass = true) : (s.itemJudged u j place).rd (Obj.CU_FAIL_RUN u) = 0 ∧
    (s.itemJudged u j place).rd (Obj.CU_PASS_COUNT u) = wrapAdd 32 (s.rd (Obj.CU_PASS_COUNT u)) 1 := by
  have other : Obj.CU_FAIL_RUN u ≠ Obj.CU_PASS_COUNT u := by simp [Obj.CU_FAIL_RUN, Obj.CU_PASS_COUNT]
  rw [(rd_itemJudged_counted (.inl rfl)).1, (rd_itemJudged_counted (.inr (.inl rfl))).1, itemCounted, if_pos pass, rd_count, if_neg other, rd_wr_same,
    rd_count, if_pos rfl, rd_wr_other _ _ _ _ other.symm, (rd_itemJudged_counted (.inr (.inl rfl))).2]
  exact ⟨rfl, rfl⟩

theorem itemJudged_failed (fail : (s.findings u j).1.pass = false) (moves : (s.findings u j).1.frozen = false) :
    (s.itemJudged u j place).rd (Obj.CU_FAIL_RUN u) = satAdd 8 (s.rd (Obj.CU_FAIL_RUN u)) 1 ∧
    (s.itemJudged u j place).rd (Obj.CU_FAIL_COUNT u) = wrapAdd 32 (s.rd (Obj.CU_FAIL_COUNT u)) 1 := by
  have other : Obj.CU_FAIL_RUN u ≠ Obj.CU_FAIL_COUNT u := by simp [Obj.CU_FAIL_RUN, Obj.CU_FAIL_COUNT]
  have lost : Obj.CU_FAIL_RUN u ≠ Obj.LOG_LOST ∧ Obj.CU_FAIL_COUNT u ≠ Obj.LOG_LOST := by
    simp only [Obj.CU_FAIL_RUN, Obj.CU_FAIL_COUNT, Obj.LOG_LOST]
    omega
  rw [(rd_itemJudged_counted (.inl rfl)).1, (rd_itemJudged_counted (.inr (.inr rfl))).1, itemCounted, if_neg (by simp [fail]), if_neg (by simp [moves]),
    rd_tallyCount _ _ _ _ _ lost.1, rd_tallyCount _ _ _ _ _ lost.2, rd_count, if_neg other, rd_wr_same, rd_count, if_pos rfl,
    rd_wr_other _ _ _ _ other.symm, (rd_itemJudged_counted (.inl rfl)).2, (rd_itemJudged_counted (.inr (.inr rfl))).2]
  exact ⟨rfl, rfl⟩

theorem itemJudged_state (live : s.rd (Obj.CU_STATE u) ≠ cuTripped) : (s.itemJudged u j place).rd (Obj.CU_STATE u) =
    if Findings.bad (s.findings u j).1 then cuSync else cuActive := by
  rw [itemJudged, itemStated, if_neg (by simp [live]), rd_setCuState_state]

theorem itemJudged_mismatch (mismatch : (s.findings u j).1.mismatch = true) : bit ((s.itemJudged u j place).rd (Obj.CU_STATUS u)) 0 = true := by
  have shown : bit ((s.itemShown u j place).rd (Obj.CU_STATUS u)) 0 = true := by
    rw [itemShown, rd_wr_other _ _ _ _ (by simp [Obj.CU_STATUS, Obj.CU_LAST_VALUE]), rd_wr_other _ _ _ _ (by simp [Obj.CU_STATUS, Obj.CU_LAST_RESULT]),
      setCu_rd]
    exact bit_findingRecords_mismatch mismatch ..
  have counted : ((s.itemShown u j place).itemCounted u (s.findings u j).1).rd (Obj.CU_STATUS u) = (s.itemShown u j place).rd (Obj.CU_STATUS u) :=
    rd_itemCounted _ _ _ (cuState_ne u).2.2 (by simp [Obj.CU_STATUS, Obj.CU_FAIL_RUN]) (by simp [Obj.CU_STATUS, Obj.CU_PASS_COUNT])
      (by simp [Obj.CU_STATUS, Obj.CU_FAIL_COUNT])
  rw [itemJudged, itemStated]
  split
  · rw [counted, shown]
  · rw [bit_setCuState _ _ _ (by decide), counted, shown]

/-! ## Units and mailboxes -/

@[simp] theorem setCuState_cus (s : State) (u v : Nat) : (s.setCuState u v).cus = s.cus := rfl

@[simp] theorem setCuState_mailboxes (s : State) (u v : Nat) : (s.setCuState u v).mailboxes = s.mailboxes := rfl

theorem findingRecords_apart (s : State) (u : Nat) (f : Findings) (j : Judged) (repeats place : Nat) (injected silent : Bool) :
    (s.findingRecords u f j repeats place injected silent).apart = s.apart := by
  have step (t : State) (found : Bool) (a i code : Nat) (ds : List Detail) :
      (if found then (if silent then t.wrBit a i true else (t.wrBit a i true).logInjected code noOwner injected ds) else t).apart = t.apart := by
    cases found
    · rfl
    · cases silent <;> simp
  exact (step ..).trans ((step ..).trans ((step ..).trans ((step ..).trans (step ..))))

theorem itemCounted_apart (s : State) (u : Nat) (f : Findings) : (s.itemCounted u f).apart = s.apart := by
  unfold itemCounted
  split
  · rfl
  · split
    · rfl
    · simp

theorem itemStated_apart (s : State) (u : Nat) (f : Findings) (tripped : Bool) : (s.itemStated u f tripped).apart = s.apart := by
  unfold itemStated
  split <;> rfl

/-- An item leaves apart from its unit all that is apart from the objects. -/
theorem itemJudged_cus (s : State) (u : Nat) (j : Judged) (place : Nat) : (s.itemJudged u j place).cus = Tab.set s.cus u { s.cu u with
    pred := itemPred (s.findings u j).1 j (s.cu u).pred, repeats := (s.findings u j).2 } := by
  have told := ext_cus (findingRecords_apart s u (s.findings u j).1 j (s.findings u j).2 place false (decide (s.rd (Obj.CU_STATE u) = cuTripped)))
  rw [itemJudged, ext_cus (itemStated_apart ..), ext_cus (itemCounted_apart ..)]
  simp only [itemShown, wr_cus, setCu_cus, cu_congr told, told]

theorem itemJudged_mailboxes (s : State) (u : Nat) (j : Judged) (place : Nat) : (s.itemJudged u j place).mailboxes = s.mailboxes := by
  rw [itemJudged, ext_mailboxes (itemStated_apart ..), ext_mailboxes (itemCounted_apart ..)]
  have told := ext_mailboxes (findingRecords_apart s u (s.findings u j).1 j (s.findings u j).2 place false (decide (s.rd (Obj.CU_STATE u) = cuTripped)))
  exact told

/-! ## A trip leaves units and the words of mailboxes -/

@[simp] theorem notifyMb_cus (s : State) (m bits : Nat) : (s.notifyMb m bits).cus = s.cus := by
  unfold notifyMb
  split
  · rfl
  · split <;> rfl

@[simp] theorem notifyMb_mailboxes (s : State) (m bits : Nat) : (s.notifyMb m bits).mailboxes = s.mailboxes := by
  unfold notifyMb
  split
  · rfl
  · split <;> rfl

@[simp] theorem wake_cus (s : State) (cause : Nat) : (s.wake cause).cus = s.cus := by
  unfold wake
  split
  · rfl
  · split
    · rfl
    · split <;> rfl

@[simp] theorem wake_mailboxes (s : State) (cause : Nat) : (s.wake cause).mailboxes = s.mailboxes := by
  unfold wake
  split
  · rfl
  · split
    · rfl
    · split <;> rfl

@[simp] theorem ring_cus (s : State) (m bits : Nat) : (s.ring m bits).2.cus = s.cus := by
  unfold ring
  split
  · rfl
  · split
    · rfl
    · split
      · simp [setPend]
      · dsimp only
        split
        · simp
        · rfl

/-- A ring sets pending bits, or holds them, and leaves the words. -/
theorem ring_words (s : State) (m bits n : Nat) : ((s.ring m bits).2.mailbox n).words = (s.mailbox n).words ∧
    ((s.ring m bits).2.mailbox n).pushed = (s.mailbox n).pushed := by
  have set (b : Mailbox) (words : b.words = (s.mailbox m).words) (pushed : b.pushed = (s.mailbox m).pushed) :
      ((s.setMailbox m b).mailbox n).words = (s.mailbox n).words ∧ ((s.setMailbox m b).mailbox n).pushed = (s.mailbox n).pushed := by
    rw [mailbox_setMailbox]
    split
    next own => rw [own]; exact ⟨words, pushed⟩
    · exact ⟨rfl, rfl⟩
  unfold ring
  split
  · exact ⟨rfl, rfl⟩
  · split
    · exact ⟨rfl, rfl⟩
    · split
      · simp only [setPend, mailbox_congr (notifyMb_mailboxes ..)]
        exact set _ rfl rfl
      · dsimp only
        split
        · simp only [mailbox_congr (wake_mailboxes ..)]
          exact set _ rfl rfl
        · exact ⟨rfl, rfl⟩

theorem substitute_units (s : State) (u : Nat) : (s.substitute u).cus = s.cus ∧ (s.substitute u).mailboxes = s.mailboxes := by
  unfold substitute
  extract_lets g ended
  have kept : ended.cus = s.cus ∧ ended.mailboxes = s.mailboxes := by
    dsimp only [ended]
    split <;> exact ⟨rfl, rfl⟩
  exact kept

theorem setGen_units (s : State) (g : Nat) (x : Generator) : (s.setGen g x).cus = s.cus ∧ (s.setGen g x).mailboxes = s.mailboxes := by simp [setGen]

theorem playChime_units (s : State) (n source : Nat) : (s.playChime n source).2.cus = s.cus ∧ (s.playChime n source).2.mailboxes = s.mailboxes := by
  unfold playChime
  split
  · exact ⟨rfl, rfl⟩
  · extract_lets d
    split
    · exact ⟨rfl, rfl⟩
    · split
      · exact ⟨logEvent_cus .., logEvent_mailboxes ..⟩
      · extract_lets _ taken
        have htaken : taken.cus = s.cus ∧ taken.mailboxes = s.mailboxes := setGen_units ..
        clear_value taken
        dsimp only
        split
        · rwa [wake_cus, wake_mailboxes]
        · exact htaken

theorem tripChime_units (s : State) (u : Nat) : (s.tripChime u).cus = s.cus ∧ (s.tripChime u).mailboxes = s.mailboxes := by
  unfold tripChime
  split
  · exact ⟨logEvent_cus .., logEvent_mailboxes ..⟩
  · exact playChime_units ..

theorem trip_units (s : State) (u : Nat) (injected : Bool) : (s.trip u injected).cus = s.cus ∧
    ∀ n, ((s.trip u injected).mailbox n).words = (s.mailbox n).words ∧ ((s.trip u injected).mailbox n).pushed = (s.mailbox n).pushed := by
  rw [trip_eq]
  extract_lets actions told shown sounded
  have htold : told.cus = s.cus ∧ told.mailboxes = s.mailboxes := ⟨logInjected_cus .., logInjected_mailboxes ..⟩
  have hshown : shown.cus = s.cus ∧ shown.mailboxes = s.mailboxes := by
    obtain ⟨cus, boxes⟩ := substitute_units told u
    dsimp only [shown]
    split
    · exact ⟨cus.trans htold.1, boxes.trans htold.2⟩
    · exact htold
  have hsounded : sounded.cus = s.cus ∧ sounded.mailboxes = s.mailboxes := by
    obtain ⟨cus, boxes⟩ := tripChime_units shown u
    dsimp only [sounded]
    split
    · exact ⟨cus.trans hshown.1, boxes.trans hshown.2⟩
    · exact hshown
  split
  · refine ⟨(ring_cus ..).trans hsounded.1, fun n => ?_⟩
    rw [← mailbox_congr hsounded.2]
    exact ring_words ..
  · exact ⟨hsounded.1, fun n => by rw [mailbox_congr hsounded.2]; exact ⟨rfl, rfl⟩⟩

end State
end Sys2Proof.Machine
end

section
/-! SUPPORT, and the statement O44: messages staged, judged, appended and discarded (R434 to R437). -/
namespace Sys2Proof.Machine
open Sys2Proof

namespace State
variable {s : State} {u : Nat} {j : Judged} {place : Nat}

/-! ## What a judgement leaves -/

/-- Does the unit trip with this item (R431)? -/
def itemTrips (s : State) (u : Nat) (j : Judged) (place : Nat) : Bool :=
  !decide (s.rd (Obj.CU_STATE u) = cuTripped) && ((s.findings u j).1.frozen || (!(s.findings u j).1.pass &&
    Nat.ble ((s.itemJudged u j place).rd (Obj.CU_FAIL_LIMIT u)) ((s.itemJudged u j place).rd (Obj.CU_FAIL_RUN u))))

/-- The state after an item. -/
def itemClosed (s : State) (u : Nat) (j : Judged) (place : Nat) : State :=
  if s.itemTrips u j place then (s.itemJudged u j place).trip u false else s.itemJudged u j place

theorem judgeItem_unarmed (unarmed : (s.findings u j).1.pass = false ∨ (s.cu u).inject = 0) (place : Nat) :
    s.judgeItem u j place = ((s.findings u j).1, s.itemClosed u j place) := judgeItem_eq unarmed place

theorem itemClosed_pass (pass : (s.findings u j).1.pass = true) (place : Nat) : s.itemClosed u j place = s.itemJudged u j place := by
  have moves : (s.findings u j).1.frozen = false := by
    by_contra h
    simp [Findings.pass, h] at pass
  simp [itemClosed, itemTrips, pass, moves]

theorem rd_itemClosed (s : State) (u : Nat) (j : Judged) (place : Nat) {a : Nat} (lost : a ≠ Obj.LOG_LOST) (chime : a ≠ Obj.CHIME_NOW)
    (state : a % 256 ≠ 0x0B) (status : a % 256 ≠ 0x0C) : (s.itemClosed u j place).rd a = (s.itemJudged u j place).rd a := by
  unfold itemClosed
  split
  · exact rd_trip _ _ _ lost chime state status
  · rfl

theorem itemClosed_mem (s : State) (u : Nat) (j : Judged) (place : Nat) : (s.itemClosed u j place).mem = s.mem := by
  unfold itemClosed
  split
  · obtain ⟨o, h⟩ := trip_edits (s.itemJudged u j place) u false
    exact h.mem.trans (itemJudged_edits ..).mem
  · exact (itemJudged_edits ..).mem

theorem itemClosed_words (s : State) (u : Nat) (j : Judged) (place n : Nat) : ((s.itemClosed u j place).mailbox n).words = (s.mailbox n).words := by
  unfold itemClosed
  split
  · rw [((trip_units ..).2 n).1, mailbox_congr (itemJudged_mailboxes ..)]
  · rw [mailbox_congr (itemJudged_mailboxes ..)]

/-! ## Messages discarded (R435) -/

theorem discardMessage_edits (s : State) (u result : Nat) : Edits [Obj.LOG_LOST, Obj.CU_STATUS u] s (s.discardMessage u result) :=
  (Edits.wrBit (Edits.refl s).same).logEvent

theorem discardMessage_status (s : State) (u result : Nat) : bit ((s.discardMessage u result).rd (Obj.CU_STATUS u)) 7 = true := by
  rw [discardMessage, rd_logEvent _ _ _ _ _ (cuState_ne u).2.2, bit_wrBit_same, if_pos rfl]

theorem discardMessage_staging (s : State) (u result : Nat) : ((s.discardMessage u result).cu u).staging = [] := by
  rw [discardMessage, cu_congr (logEvent_cus ..), cu_congr (wrBit_cus ..), cu_setCu, if_pos rfl]

theorem discardMessage_words (s : State) (u result n : Nat) : (s.discardMessage u result).mailbox n = s.mailbox n := by
  rw [discardMessage, mailbox_congr (logEvent_mailboxes ..)]
  rfl

/-- The findings of words that are no message. -/
theorem findings_malformed (s : State) (u : Nat) : (s.findings u ⟨0, some 0, .invalid⟩).1 = { aliveBad := true } := by
  simp [findings]

theorem malformed_eq (s : State) (u : Nat) :
    s.malformed u = (s.itemClosed u ⟨0, some 0, .invalid⟩ (s.cu u).firstWord).discardMessage u 4 := by
  have found := findings_malformed s u
  rw [malformed, judgeItem_unarmed (.inl (by rw [found]; rfl))]
  simp only [found]
  rfl

/-- Words that are no message are discarded as ALIVE_INVALID. -/
theorem malformed_discards (s : State) (u : Nat) : ((s.malformed u).cu u).staging = [] ∧ (s.malformed u).rd (Obj.CU_LAST_RESULT u) = 4 ∧
    (s.malformed u).rd (Obj.CU_FAIL_COUNT u) = wrapAdd 32 (s.rd (Obj.CU_FAIL_COUNT u)) 1 ∧ bit ((s.malformed u).rd (Obj.CU_STATUS u)) 7 = true ∧
    (∀ n, ((s.malformed u).mailbox n).words = (s.mailbox n).words) ∧ s.sameMemory (s.malformed u) := by
  have found := findings_malformed s u
  rw [malformed_eq]
  have discarded := discardMessage_edits (s.itemClosed u ⟨0, some 0, .invalid⟩ (s.cu u).firstWord) u 4
  have far {a : Nat} (ha : a = Obj.CU_LAST_RESULT u ∨ a = Obj.CU_FAIL_COUNT u) : a ≠ Obj.LOG_LOST ∧ a ≠ Obj.CHIME_NOW ∧ a % 256 ≠ 0x0B ∧
      a % 256 ≠ 0x0C ∧ a ≠ Obj.CU_STATUS u := by
    simp only [Obj.CU_LAST_RESULT, Obj.CU_FAIL_COUNT, Obj.CU_STATUS, Obj.LOG_LOST, Obj.CHIME_NOW] at ha ⊢
    omega
  have kept {a : Nat} (ha : a = Obj.CU_LAST_RESULT u ∨ a = Obj.CU_FAIL_COUNT u) :
      ((s.itemClosed u ⟨0, some 0, .invalid⟩ (s.cu u).firstWord).discardMessage u 4).rd a =
        (s.itemJudged u ⟨0, some 0, .invalid⟩ (s.cu u).firstWord).rd a := by
    obtain ⟨lost, chime, state, status, own⟩ := far ha
    exact (discarded.rd (a := a) (by simp [lost, own])).trans (rd_itemClosed _ _ _ _ lost chime state status)
  refine ⟨discardMessage_staging .., ?_, ?_, discardMessage_status .., fun n => ?_, byte_of_mem _ _ (discarded.mem.trans (itemClosed_mem ..))⟩
  · rw [kept (.inl rfl), (itemJudged_shown ..).1, found]
    rfl
  · rw [kept (.inr rfl)]
    exact (itemJudged_failed (by rw [found]; rfl) (by rw [found])).2
  · rw [discardMessage_words, itemClosed_words]

end State

open State

/-! ## Timeouts (R435, R437) -/

theorem execCuWordGapTimeout_discards {s : State} {u : Fin 32} (on : s.cuEnabled u.val = true) (messages : s.cuSnoop u.val = 2)
    (staged : (s.cu u.val).staging ≠ []) :
    ∃ t, exec (.cuWordGapTimeout u) s = .next t ∧ (t.cu u.val).staging = [] ∧ t.rd (Obj.CU_LAST_RESULT u.val) = 4 ∧
      t.rd (Obj.CU_FAIL_COUNT u.val) = wrapAdd 32 (s.rd (Obj.CU_FAIL_COUNT u.val)) 1 ∧ bit (t.rd (Obj.CU_STATUS u.val)) 7 = true ∧
      (∀ n, (t.mailbox n).words = (s.mailbox n).words) ∧ s.sameMemory t := by
  have run : exec (.cuWordGapTimeout u) s = .next (s.malformed u.val) := by
    change execCuWordGapTimeout u s = _
    rw [execCuWordGapTimeout, if_pos ⟨on, messages, staged⟩]
  exact ⟨_, run, malformed_discards s u.val⟩

theorem execCuMsgTimeout_freezes {s : State} {u : Fin 32} (on : s.cuEnabled u.val = true) (messages : s.cuSnoop u.val = 2)
    (timed : s.rd (Obj.CU_MSG_TIMEOUT u.val) ≠ 0) (live : s.rd (Obj.CU_STATE u.val) ≠ cuTripped) :
    ∃ t, exec (.cuMsgTimeout u) s = .next t ∧ t.rd (Obj.CU_LAST_RESULT u.val) = 1 ∧ t.rd (Obj.CU_STATE u.val) = cuTripped ∧
      bit (t.rd (Obj.CU_STATUS u.val)) 3 = true ∧
      (s.log.fifo.length < 256 → t.told Ev.frozen noOwner [d8 u.val, d32 (s.rd (Obj.CU_MSG_TIMEOUT u.val))]) ∧
      (∀ n, (t.mailbox n).words = (s.mailbox n).words) ∧ s.sameMemory t := by
  let shown := ((s.setCu u.val { s.cu u.val with lastAppend := s.dtime }).wrBit (Obj.CU_STATUS u.val) 3 true).wr (Obj.CU_LAST_RESULT u.val) 1
  let frozen := shown.logEvent Ev.frozen noOwner [d8 u.val, d32 (s.rd (Obj.CU_MSG_TIMEOUT u.val))]
  have run : exec (.cuMsgTimeout u) s = .next (frozen.trip u.val false) := by
    change execCuMsgTimeout u s = _
    simp only [execCuMsgTimeout, on, messages, timed, live, Bool.not_true, Bool.false_eq_true, ne_eq, not_true_eq_false, or_self, if_false, decide_false]
    rfl
  have far : Obj.CU_LAST_RESULT u.val ≠ Obj.LOG_LOST ∧ Obj.CU_LAST_RESULT u.val ≠ Obj.CHIME_NOW ∧ Obj.CU_LAST_RESULT u.val % 256 ≠ 0x0B ∧
      Obj.CU_LAST_RESULT u.val % 256 ≠ 0x0C := by
    simp only [Obj.CU_LAST_RESULT, Obj.LOG_LOST, Obj.CHIME_NOW]
    omega
  obtain ⟨lost, chime, state, status⟩ := far
  have trip := trip_status frozen u.val false
  have units := trip_units frozen u.val false
  obtain ⟨o, tripped⟩ := trip_edits frozen u.val false
  refine ⟨_, run, ?_, trip.1, ?_, fun room => tripped.told (told_logEvent shown _ _ _ room), fun n => ?_, byte_of_mem _ _ ?_⟩
  · rw [rd_trip _ _ _ lost chime state status, rd_logEvent _ _ _ _ _ lost, rd_wr_same]
  · rw [trip.2 3 (by decide) (by decide), rd_logEvent _ _ _ _ _ (cuState_ne _).2.2,
      rd_wr_other _ _ _ _ (by simp [Obj.CU_STATUS, Obj.CU_LAST_RESULT]), bit_wrBit_same, if_pos rfl]
  · rw [(units.2 n).1, mailbox_congr (logEvent_mailboxes ..)]
    rfl
  · rw [tripped.mem, logEvent_mem]
    rfl

/-! ## Words (R434) -/

namespace State
variable {s : State} {u : Nat}

theorem guardOf_mailbox {m : Nat} (guard : s.guardOf m = some u) : s.cuMailbox u = m := by
  have found := List.find?_some guard
  simp only [Bool.and_eq_true, decide_eq_true_eq] at found
  exact found.2

/-- A word of a unit's mailbox counted and staged, before a whole message is judged. -/
def wordStaged (s : State) (u word : Nat) : State :=
  let m := s.cuMailbox u
  let counted := (s.tallyCount 28 m noOwner).setMailbox m { s.mailbox m with pushed := wrapAdd 16 (s.mailbox m).pushed 1 }
  counted.setCu u { s.cu u with staging := (s.cu u).staging ++ [word]
                                firstWord := if (s.cu u).staging = [] then (s.mailbox m).pushed else (s.cu u).firstWord, lastWord := s.dtime }

/-- The words of the message that a header begins (R434). -/
def messageSize (s : State) (u header : Nat) : Nat := field header 7 0 + 1 + trailerWords (s.cuPoly u)

theorem wordStaged_edits (s : State) (u word : Nat) : Edits [Obj.LOG_LOST] s (s.wordStaged u word) := .same (.same (Edits.refl s).tallyCount)

theorem cuConfig_wordStaged (s : State) (u word v : Nat) : (s.wordStaged u word).rd (Obj.CU_CONFIG v) = s.rd (Obj.CU_CONFIG v) :=
  (wordStaged_edits ..).rd (by simp only [List.mem_singleton, Obj.CU_CONFIG, Obj.LOG_LOST]; omega)

theorem stageWord_eq (fresh : ¬((s.cu u).staging ≠ [] ∧ (s.cu u).lastWord + 1000000 < s.dtime)) (word : Nat) (ue : Bool) :
    s.stageWord u word ue =
      if 16 < s.messageSize u (((s.cu u).staging ++ [word]).headD 0) then (s.wordStaged u word).malformed u
      else if ((s.cu u).staging ++ [word]).length < s.messageSize u (((s.cu u).staging ++ [word]).headD 0) then s.wordStaged u word
      else (s.wordStaged u word).judgeMessage u ue := by
  have same (m : Nat) (b : Mailbox) : ((s.tallyCount 28 m noOwner).setMailbox m b).cu u = s.cu u := cu_congr (tallyCount_cus ..) u
  have time (m : Nat) (b : Mailbox) : ((s.tallyCount 28 m noOwner).setMailbox m b).dtime = s.dtime :=
    congrArg Clock.dtime (tallyCount_clock ..)
  have config : (s.wordStaged u word).cuPoly u = s.cuPoly u := congrArg (field · 4 2) (cuConfig_wordStaged ..)
  unfold stageWord
  simp only [if_neg fresh, same, time]
  rw [messageSize, ← config]
  rfl

theorem cu_wordStaged (s : State) (u word : Nat) : (s.wordStaged u word).cu u = { s.cu u with
    staging := (s.cu u).staging ++ [word],
    firstWord := if (s.cu u).staging = [] then (s.mailbox (s.cuMailbox u)).pushed else (s.cu u).firstWord, lastWord := s.dtime } :=
  (cu_setCu ..).trans (if_pos rfl)

theorem mailbox_wordStaged (s : State) (u word n : Nat) : (s.wordStaged u word).mailbox n =
    if n = s.cuMailbox u then { s.mailbox (s.cuMailbox u) with pushed := wrapAdd 16 (s.mailbox (s.cuMailbox u)).pushed 1 } else s.mailbox n := by
  refine (mailbox_setMailbox ..).trans ?_
  rw [mailbox_congr (tallyCount_mailboxes ..)]

/-- A message has a trailer. -/
theorem trailerWords_pos (poly : Nat) : 0 < trailerWords poly := by
  unfold trailerWords
  split <;> decide

end State

theorem execMbPush_guarded {s : State} {rq : Requester} {m : Fin 16} {u : Nat} (hbar : isHost rq = true → s.barServed = true)
    (hend : s.isEnd rq (s.mbSender m.val) = true) (hserved : s.mbServed m.val = true) (guard : s.guardOf m.val = some u) (w : BitVec 32) (ue : Bool) :
    exec (.mbPush rq m w ue) s = .next (s.stageWord u w.toNat ue) := by
  change execMbPush rq m w ue s = _
  rw [execMbPush, hserved, mbWrite_served hbar hend, guard]

theorem execMbPush_stages {s : State} {rq : Requester} {m : Fin 16} {u : Nat} (hbar : isHost rq = true → s.barServed = true)
    (hend : s.isEnd rq (s.mbSender m.val) = true) (hserved : s.mbServed m.val = true) (guard : s.guardOf m.val = some u) {w : BitVec 32}
    (first : (s.cu u).staging = []) (size : field w.toNat 7 0 + 1 + trailerWords (s.cuPoly u) ≤ 16) :
    ∃ t, exec (.mbPush rq m w false) s = .next t ∧ (t.cu u).staging = [w.toNat] ∧ (t.cu u).firstWord = (s.mailbox m.val).pushed ∧
      (t.mailbox m.val).words = (s.mailbox m.val).words ∧ (t.mailbox m.val).pushed = wrapAdd 16 (s.mailbox m.val).pushed 1 ∧
      (∀ n, n ≠ m.val → t.mailbox n = s.mailbox n) ∧ s.sameMemory t := by
  have box := guardOf_mailbox guard
  have more := trailerWords_pos (s.cuPoly u)
  have staged : s.stageWord u w.toNat false = s.wordStaged u w.toNat := by
    rw [stageWord_eq (by simp [first])]
    simp only [first, List.nil_append, List.headD_cons, List.length_singleton, messageSize]
    rw [if_neg (by omega), if_pos (by omega)]
  refine ⟨_, (execMbPush_guarded hbar hend hserved guard w false).trans (by rw [staged]), ?_, ?_, ?_, ?_, fun n other => ?_,
    (wordStaged_edits ..).sameMemory⟩
  · rw [cu_wordStaged, first]
    rfl
  · rw [cu_wordStaged, first, box]
    rfl
  · rw [mailbox_wordStaged, box, if_pos rfl]
  · rw [mailbox_wordStaged, box, if_pos rfl]
  · rw [mailbox_wordStaged, box, if_neg other]

namespace State
variable {s : State} {u : Nat}

/-- A message whose check value is right and that no predecessor is compared with passes. -/
theorem findings_matches (noPred : (s.cu u).pred = none) (value a : Nat) : (s.findings u ⟨value, some value, .value a⟩).1 = {} := by
  simp [findings, noPred]

/-- A passed message is appended whole (R434), and nothing else is written. -/
theorem appendMessage_appends {m : Nat} (box : s.cuMailbox u = m) (room : (s.mailbox m).words.length + (s.cu u).staging.length ≤ 16) :
    ((s.appendMessage u).cu u).staging = [] ∧ ((s.appendMessage u).cu u).pred = (s.cu u).pred ∧
    ((s.appendMessage u).mailbox m).words = (s.mailbox m).words ++ (s.cu u).staging ∧ ((s.appendMessage u).mailbox m).pushed = (s.mailbox m).pushed ∧
    (∀ a, (s.appendMessage u).rd a = s.rd a) ∧ (s.appendMessage u).mem = s.mem := by
  have appended : s.appendMessage u = (s.setCu u { s.cu u with staging := [], lastAppend := s.dtime }).setMailbox m
      { s.mailbox m with words := (s.mailbox m).words ++ (s.cu u).staging } := by
    simp only [appendMessage, box, if_neg (Nat.not_lt.2 room)]
  rw [appended]
  refine ⟨?_, ?_, ?_, ?_, fun _ => rfl, rfl⟩
  · rw [cu_congr (setMailbox_cus ..), cu_setCu, if_pos rfl]
  · rw [cu_congr (setMailbox_cus ..), cu_setCu, if_pos rfl]
  · rw [mailbox_setMailbox, if_pos rfl]
  · rw [mailbox_setMailbox, if_pos rfl]

/-- A whole message that passes is judged, and appended. -/
theorem judgeMessage_passes {words : List Nat} {check : Nat} (staged : (s.cu u).staging = words)
    (hcheck : packItems 4 (words.drop (words.length - trailerWords (s.cuPoly u))) = check)
    (reserved : field (words.headD 0) 31 24 = 0) (width : check < 2 ^ checkWidth (s.cuPoly u))
    (value : checkValue (s.cuPoly u) ((words.take (words.length - trailerWords (s.cuPoly u))).flatMap (fun w => unpackItems 1 4 w)) = check)
    (noInject : (s.cu u).inject = 0) (noPred : (s.cu u).pred = none) :
    s.judgeMessage u false =
      (s.itemJudged u ⟨check, some check, .value (field (words.headD 0) 15 8)⟩ (s.cu u).firstWord).appendMessage u := by
  have found := findings_matches noPred check (field (words.headD 0) 15 8)
  have pass : (s.findings u ⟨check, some check, .value (field (words.headD 0) 15 8)⟩).1.pass = true := by rw [found]; rfl
  unfold judgeMessage
  simp only [staged, hcheck, reserved, value, ne_eq, not_true_eq_false, false_or, if_neg (Nat.not_le.2 width), Bool.false_eq_true, if_false,
    judgeItem_unarmed (.inr noInject), pass, Bool.true_or, if_true, itemClosed_pass pass]

end State

section
variable {s : State} {u w : Nat} (intime : s.dtime ≤ (s.cu u).lastWord + 1000000) (noInject : (s.cu u).inject = 0) (noPred : (s.cu u).pred = none)
  {words : List Nat} (hwords : (s.cu u).staging ++ [w] = words) (whole : words.length = field (words.headD 0) 7 0 + 1 + trailerWords (s.cuPoly u))
  (fits : words.length ≤ 16) (reserved : field (words.headD 0) 31 24 = 0) {check : Nat}
  (hcheck : packItems 4 (words.drop (words.length - trailerWords (s.cuPoly u))) = check) (width : check < 2 ^ checkWidth (s.cuPoly u))
  (value : checkValue (s.cuPoly u) ((words.take (words.length - trailerWords (s.cuPoly u))).flatMap (fun w => unpackItems 1 4 w)) = check)

/-- A whole message as its judgement sees it. -/
def messageJudged (words : List Nat) (check : Nat) : Judged := ⟨check, some check, .value (field (words.headD 0) 15 8)⟩

/-- The state in which a whole message has been judged. -/
def State.messageDone (s : State) (u w : Nat) (words : List Nat) (check : Nat) : State :=
  (s.wordStaged u w).itemJudged u (messageJudged words check) ((s.wordStaged u w).cu u).firstWord

include intime noInject noPred hwords whole fits reserved hcheck width value in
/-- The last word of a message that passes. -/
theorem stageWord_completes : s.stageWord u w false = (s.messageDone u w words check).appendMessage u := by
  have cu := cu_wordStaged s u w
  have poly : (s.wordStaged u w).cuPoly u = s.cuPoly u := congrArg (field · 4 2) (cuConfig_wordStaged ..)
  have size : s.messageSize u (words.headD 0) = words.length := whole.symm
  rw [stageWord_eq (by omega), hwords, size, if_neg (Nat.not_lt.2 fits), if_neg (Nat.lt_irrefl _)]
  refine judgeMessage_passes (by rw [cu]; exact hwords) ?_ reserved ?_ ?_ (by rw [cu]; exact noInject) (by rw [cu]; exact noPred)
  · rwa [poly]
  · rwa [poly]
  · rwa [poly]

include noPred in
theorem messageDone_found : ((s.wordStaged u w).findings u (messageJudged words check)).1 = {} :=
  findings_matches (by rw [cu_wordStaged]; exact noPred) ..

include noPred in
theorem messageDone_cu (hwords : (s.cu u).staging ++ [w] = words) : ((s.messageDone u w words check).cu u).staging = words ∧
    ((s.messageDone u w words check).cu u).pred = some (field (words.headD 0) 15 8) := by
  have cu : (s.messageDone u w words check).cu u = { (s.wordStaged u w).cu u with
      pred := itemPred ((s.wordStaged u w).findings u (messageJudged words check)).1 (messageJudged words check) ((s.wordStaged u w).cu u).pred,
      repeats := ((s.wordStaged u w).findings u (messageJudged words check)).2 } := by
    rw [State.cu, messageDone, itemJudged_cus, Tab.get_set_same]
  rw [cu, messageDone_found noPred]
  refine ⟨?_, rfl⟩
  rw [cu_wordStaged]
  exact hwords

theorem messageDone_edits (s : State) (u w : Nat) (words : List Nat) (check : Nat) : Edits (itemObjects u) s (s.messageDone u w words check) :=
  ((wordStaged_edits ..).mono (by simp [itemObjects])).trans (itemJudged_edits ..)

include noPred in
theorem rd_messageDone : (s.messageDone u w words check).rd (Obj.CU_LAST_RESULT u) = 0 ∧
    (s.messageDone u w words check).rd (Obj.CU_PASS_COUNT u) = wrapAdd 32 (s.rd (Obj.CU_PASS_COUNT u)) 1 := by
  have found := messageDone_found (w := w) (words := words) (check := check) noPred
  refine ⟨(itemJudged_shown ..).1.trans (by rw [found]; rfl), (itemJudged_passed (by rw [found]; rfl)).2.trans ?_⟩
  rw [(wordStaged_edits ..).rd (by simp [Obj.CU_PASS_COUNT, Obj.LOG_LOST]; omega)]

theorem messageDone_mailbox {m : Nat} (box : s.cuMailbox u = m) : (s.messageDone u w words check).cuMailbox u = m ∧
    (s.messageDone u w words check).mailbox m = { s.mailbox m with pushed := wrapAdd 16 (s.mailbox m).pushed 1 } := by
  have outside : Obj.CU_CONFIG u ∉ itemObjects u := by
    simp [itemObjects, Obj.CU_CONFIG, Obj.LOG_LOST, Obj.CU_STATUS, Obj.CU_STATE, Obj.CU_LAST_RESULT, Obj.CU_LAST_VALUE, Obj.CU_FAIL_RUN,
      Obj.CU_PASS_COUNT, Obj.CU_FAIL_COUNT]
    omega
  refine ⟨?_, ?_⟩
  · rw [← box]
    exact congrArg (field · 19 16) ((messageDone_edits ..).rd outside)
  · rw [messageDone, mailbox_congr (itemJudged_mailboxes ..), mailbox_wordStaged, box, if_pos rfl]

end

theorem execMbPush_completes {s : State} {rq : Requester} {m : Fin 16} {u : Nat} (hbar : isHost rq = true → s.barServed = true)
    (hend : s.isEnd rq (s.mbSender m.val) = true) (hserved : s.mbServed m.val = true) (guard : s.guardOf m.val = some u) {w : BitVec 32}
    (intime : s.dtime ≤ (s.cu u).lastWord + 1000000) (noInject : (s.cu u).inject = 0) (noPred : (s.cu u).pred = none) :
    let words := (s.cu u).staging ++ [w.toNat]
    let n := words.length - trailerWords (s.cuPoly u)
    let check := packItems 4 (words.drop n)
    words.length = field (words.headD 0) 7 0 + 1 + trailerWords (s.cuPoly u) → words.length ≤ 16 → field (words.headD 0) 31 24 = 0 →
    check < 2 ^ checkWidth (s.cuPoly u) → checkValue (s.cuPoly u) ((words.take n).flatMap (fun w => unpackItems 1 4 w)) = check →
    (s.mailbox m.val).words.length + words.length ≤ 16 →
    ∃ t, exec (.mbPush rq m w false) s = .next t ∧ (t.cu u).staging = [] ∧ (t.mailbox m.val).words = (s.mailbox m.val).words ++ words ∧
      (t.mailbox m.val).pushed = wrapAdd 16 (s.mailbox m.val).pushed 1 ∧ t.rd (Obj.CU_LAST_RESULT u) = 0 ∧
      t.rd (Obj.CU_PASS_COUNT u) = wrapAdd 32 (s.rd (Obj.CU_PASS_COUNT u)) 1 ∧ (t.cu u).pred = some (field (words.headD 0) 15 8) ∧ s.sameMemory t := by
  intro words n check whole fits reserved width value room
  have run := execMbPush_guarded hbar hend hserved guard w false
  rw [stageWord_completes intime noInject noPred rfl whole fits reserved rfl width value] at run
  obtain ⟨staging, pred⟩ := messageDone_cu (w := w.toNat) (check := check) noPred rfl
  obtain ⟨result, passes⟩ := rd_messageDone (w := w.toNat) (words := words) (check := check) noPred
  obtain ⟨box, mailbox⟩ := messageDone_mailbox (w := w.toNat) (words := words) (check := check) (guardOf_mailbox guard)
  have edits := messageDone_edits s u w.toNat words check
  change exec _ s = .next ((s.messageDone u w.toNat words check).appendMessage u) at run
  generalize s.messageDone u w.toNat words check = judged at *
  obtain ⟨empty, kept, appended, pushed, objects, memory⟩ := appendMessage_appends box (by rw [mailbox, staging]; exact room)
  refine ⟨_, run, empty, ?_, ?_, ?_, ?_, kept.trans pred, byte_of_mem _ _ (memory.trans edits.mem)⟩
  · rw [appended, mailbox, staging]
  · rw [pushed, mailbox]
  · rw [objects, result]
  · rw [objects, passes]

/-- Settles O44: a word staged, a message complete, and the two timeouts. -/
theorem messagesAreStagedAndJudged : Obligations.MessagesAreStagedAndJudged := by
  unfold Obligations.MessagesAreStagedAndJudged
  exact ⟨fun s rq m w hend hserved hbar u guard => ⟨execMbPush_stages hbar hend hserved guard, fun _ => execMbPush_completes hbar hend hserved guard⟩,
    fun s u on messages => ⟨execCuWordGapTimeout_discards on messages, execCuMsgTimeout_freezes on messages⟩⟩

end Sys2Proof.Machine
end

section
/-! SUPPORT, and the statement O43: Continuity units switched, and items of streams and layers judged (R422 to R440). -/
namespace Sys2Proof.Machine
open Sys2Proof

namespace State
variable {s t : State} {u : Nat}

/-! ## Objects of a unit -/

/-- Objects of a unit outside its status are not what a restored substitution writes. -/
def settledObjects : List Nat := Obj.LOG_LOST :: (List.range 32).map Obj.CU_STATUS

theorem not_mem_settledObjects {a : Nat} (lost : a ≠ Obj.LOG_LOST) (status : a % 256 ≠ 0x0C) : a ∉ settledObjects := by
  intro ha
  rcases List.mem_cons.1 ha with rfl | ha
  · exact lost rfl
  · obtain ⟨v, -, rfl⟩ := List.mem_map.1 ha
    simp only [Obj.CU_STATUS] at status
    omega

theorem governor_congr (h : t.rd Obj.OUT_PAIR_LOCK = s.rd Obj.OUT_PAIR_LOCK) (k : Nat) : t.governor k = s.governor k := by
  rw [governor, governor, paired, paired, h]

theorem out_congr (h : t.outs = s.outs) (k : Nat) : t.out k = s.out k := by simp only [out, h]

/-! ## Restored substitutions (R432) -/

/-- What settling the restored substitutions leaves: everything but the status bits, the log and the marks that a restoration waits. -/
structure Settled (s t : State) : Prop where
  edits : Edits settledObjects s t
  outs : t.outs = s.outs
  grip : t.grip = s.grip
  cu : ∀ v, ∃ waits, t.cu v = { s.cu v with restoring := waits }

theorem Settled.refl (s : State) : Settled s s := ⟨.refl s, rfl, rfl, fun _ => ⟨_, rfl⟩⟩

theorem settleRestores_settled (s : State) (k : Nat) : Settled s (s.settleRestores k) := by
  refine eachIn_keeps (P := Settled s) (fun t v hv ht => ?_) (.refl s)
  have status : Obj.CU_STATUS v ∈ settledObjects := List.mem_cons_of_mem _ (List.mem_map_of_mem (List.mem_of_mem_filter hv))
  refine ⟨Edits.logEvent (.wrBit (.same ht.edits) status) List.mem_cons_self, ?_, ?_, fun w => ?_⟩
  · rw [logEvent_outs]
    exact ht.outs
  · rw [logEvent_grip]
    exact ht.grip
  · rw [cu_congr (logEvent_cus ..), cu_congr (wrBit_cus ..), cu_setCu]
    split
    next own =>
      obtain ⟨waits, h⟩ := ht.cu v
      exact ⟨false, by rw [own, h]⟩
    · exact ht.cu w

theorem Settled.rd (h : Settled s t) {a : Nat} (lost : a ≠ Obj.LOG_LOST) (status : a % 256 ≠ 0x0C) : t.rd a = s.rd a :=
  h.edits.rd (not_mem_settledObjects lost status)

end State

open State

/-! ## Units switched (R432, R438 to R440) -/

/-- The unit that an enable begins with (R438). -/
def unitStarted (s : State) (u : Nat) : CuUnit :=
  { after := (match s.cuSnoop u with
      | 0 => some (s.out (s.governor (s.cuOutput u))).startedFrames
      | 1 => some s.order
      | _ => none)
    lastAppend := s.dtime, inject := (s.cu u).inject, restoring := (s.cu u).restoring }

theorem cu_cuStart (s : State) (u n : Nat) : (s.cuStart u).cu n = if n = u then unitStarted s u else s.cu n :=
  cu_setCu (s.wr (Obj.CU_CONTROL u) 1) u n (unitStarted s u)

theorem execCuEnable_starts {s : State} {rq : Requester} {u : Fin 32} (accepted : s.accepts rq (Obj.CU_CONTROL u.val) 1 = true)
    (off : s.cuEnabled u.val = false) :
    (s.cuConfigBad u.val = false →
      ∃ t, exec (.cuEnable rq u 1) s = .next t ∧ t.cuEnabled u.val = true ∧ t.rd (Obj.CU_STATE u.val) = 1 ∧ t.rd (Obj.CU_FAIL_RUN u.val) = 0 ∧
        t.answered rq Status.ok ∧ (t.cu u.val).pred = none ∧ (t.cu u.val).staging = [] ∧ (∀ n, n ≠ u.val → t.cu n = s.cu n) ∧
        s.objectsBut t [Obj.CU_CONTROL u.val, Obj.CU_STATE u.val, Obj.CU_STATUS u.val, Obj.CU_FAIL_RUN u.val] ∧ s.sameMemory t) ∧
    (s.cuConfigBad u.val = true → exec (.cuEnable rq u 1) s = .next (s.answer rq Status.cuConfigInvalid)) := by
  have one : bit 1 0 = true := by decide
  refine ⟨fun good => ?_, fun bad => ownRequest_answers accepted (t := s) ?_ (by decide)⟩
  · have write : s.writeCuControl u.val 1 = (Status.ok, s.cuStart u.val) := by simp [writeCuControl, one, off, good]
    have started : Edits [Obj.CU_CONTROL u.val, Obj.CU_STATE u.val, Obj.CU_STATUS u.val, Obj.CU_FAIL_RUN u.val] s (s.cuStart u.val) :=
      setCuState_edits (.wr (.same (Edits.refl s).wr))
    have control : (s.cuStart u.val).rd (Obj.CU_CONTROL u.val) = 1 := by
      simp [cuStart, setCuState, rd_wr, rd_wrBit, Obj.CU_CONTROL, Obj.CU_STATE, Obj.CU_STATUS, Obj.CU_FAIL_RUN]
    have run : (s.cuStart u.val).rd (Obj.CU_FAIL_RUN u.val) = 0 := by
      simp [cuStart, setCuState, rd_wr, rd_wrBit, Obj.CU_STATE, Obj.CU_STATUS, Obj.CU_FAIL_RUN]
    refine ⟨_, ownRequest_answers accepted write (by decide), ?_, rd_setCuState_state .., by rw [answer_rd, run], answered_answer .., ?_, ?_,
      fun n other => ?_, started.answer.frame⟩
    · rw [cuEnabled, answer_rd, control]
      exact one
    · rw [cu_congr (answer_cus ..), cu_cuStart, if_pos rfl, unitStarted]
    · rw [cu_congr (answer_cus ..), cu_cuStart, if_pos rfl, unitStarted]
    · rw [cu_congr (answer_cus ..), cu_cuStart, if_neg other]
  · simp [writeCuControl, one, off, bad]

theorem execCuDisable_stops {s : State} {rq : Requester} {u : Fin 32} (accepted : s.accepts rq (Obj.CU_CONTROL u.val) 0 = true)
    (on : s.cuEnabled u.val = true) (live : s.rd (Obj.CU_STATE u.val) ≠ cuTripped) :
    ∃ t, exec (.cuDisable rq u 0) s = .next t ∧ t.cuEnabled u.val = false ∧ t.rd (Obj.CU_STATE u.val) = 0 ∧ t.answered rq Status.ok ∧
      (t.cu u.val).staging = [] ∧ (∀ n, n ≠ u.val → t.cu n = s.cu n) ∧
      s.objectsBut t [Obj.CU_CONTROL u.val, Obj.CU_STATE u.val, Obj.CU_STATUS u.val] ∧ s.sameMemory t := by
  let stopped := (s.wr (Obj.CU_CONTROL u.val) 0).setCuState u.val 0
  let t := stopped.setCu u.val { s.cu u.val with staging := [], pred := none, repeats := 0 }
  have zero : bit 0 0 = false := by decide
  have write : s.writeCuControl u.val 0 = (Status.ok, t) := by
    simp only [writeCuControl, zero, on, cuStop, live, decide_false, Bool.false_eq_true, if_false, if_true]
    rfl
  have edits : Edits [Obj.CU_CONTROL u.val, Obj.CU_STATE u.val, Obj.CU_STATUS u.val] s t := .same (setCuState_edits (Edits.refl s).wr)
  have control : t.rd (Obj.CU_CONTROL u.val) = 0 := by
    simp [t, stopped, setCuState, rd_wr, rd_wrBit, Obj.CU_CONTROL, Obj.CU_STATE, Obj.CU_STATUS]
  have cu (n : Nat) : t.cu n = if n = u.val then { s.cu u.val with staging := [], pred := none, repeats := 0 } else s.cu n := cu_setCu stopped ..
  refine ⟨_, ownRequest_answers accepted write (by decide), ?_, rd_setCuState_state .., answered_answer .., ?_, fun n other => ?_, edits.answer.frame⟩
  · rw [cuEnabled, answer_rd, control]
    exact zero
  · rw [cu_congr (answer_cus ..), cu, if_pos rfl]
  · rw [cu_congr (answer_cus ..), cu, if_neg other]

/-- The state of a restore before the unit's override is withdrawn. -/
def unitRestored (s : State) (u : Nat) : State :=
  (((s.setCuState u cuSync).wr (Obj.CU_FAIL_RUN u) 0).setCu u { s.cu u with pred := none })

theorem unitRestored_edits (s : State) (u : Nat) : Edits [Obj.CU_STATE u, Obj.CU_STATUS u, Obj.CU_FAIL_RUN u] s (unitRestored s u) :=
  .same (.wr (setCuState_edits (.refl s)))

/-- A unit's override ends (R432). -/
theorem endOverride_ends (s : State) (u : Nat) :
    (∀ a, a ≠ Obj.LOG_LOST → a % 256 ≠ 0x0C → (s.endOverride u).rd a = s.rd a) ∧ (s.endOverride u).mem = s.mem ∧
    ((s.out (s.governor (s.cuOutput u))).critOverride.map Prod.fst = some u →
      ((s.endOverride u).out (s.governor (s.cuOutput u))).critOverride = none) := by
  unfold endOverride
  extract_lets g ended _
  have kept : (∀ a, ended.rd a = s.rd a) ∧ ended.mem = s.mem := by
    dsimp only [ended]
    split <;> exact ⟨fun _ => rfl, rfl⟩
  refine ⟨fun a lost status => ?_, (settleRestores_settled ..).edits.mem.trans kept.2, fun own => ?_⟩
  · exact ((settleRestores_settled ..).rd lost status).trans (kept.1 a)
  · rw [out_congr (settleRestores_settled ..).outs]
    have withdrawn : (ended.out g).critOverride = none := by
      dsimp only [ended]
      rw [if_pos own]
      exact congrArg Output.critOverride ((out_setOut ..).trans (if_pos rfl))
    exact withdrawn

theorem execCuRestore_restores {s : State} {rq : Requester} {u : Fin 32} (accepted : s.accepts rq (Obj.CU_CONTROL u.val) 3 = true)
    (on : s.cuEnabled u.val = true) (tripped : s.rd (Obj.CU_STATE u.val) = cuTripped) :
    ∃ t, exec (.cuRestore rq u 3) s = .next t ∧ t.rd (Obj.CU_STATE u.val) = cuSync ∧ t.rd (Obj.CU_FAIL_RUN u.val) = 0 ∧ t.answered rq Status.ok ∧
      ((s.out (s.governor (s.cuOutput u.val))).critOverride.map Prod.fst = some u.val →
        (t.out (s.governor (s.cuOutput u.val))).critOverride = none) ∧ s.sameMemory t := by
  have bits : bit 3 0 = true ∧ bit 3 1 = true := by decide
  have write : s.writeCuControl u.val 3 = (Status.ok, (unitRestored s u.val).endOverride u.val) := by
    simp only [writeCuControl, bits, on, cuRestore, tripped, ne_eq, not_true_eq_false, if_false, if_true]
    rfl
  obtain ⟨objects, memory, withdrawn⟩ := endOverride_ends (unitRestored s u.val) u.val
  have restored := unitRestored_edits s u.val
  have config : (unitRestored s u.val).cuOutput u.val = s.cuOutput u.val :=
    congrArg (field · 11 8) (restored.rd (by simp [Obj.CU_CONFIG, Obj.CU_STATE, Obj.CU_STATUS, Obj.CU_FAIL_RUN]))
  have governs : (unitRestored s u.val).governor (s.cuOutput u.val) = s.governor (s.cuOutput u.val) :=
    governor_congr (restored.rd (by simp [Obj.OUT_PAIR_LOCK, Obj.CU_STATE, Obj.CU_STATUS, Obj.CU_FAIL_RUN]; omega)) _
  rw [config, governs] at withdrawn
  obtain ⟨-, stateLost, -⟩ := cuState_ne u.val
  refine ⟨_, ownRequest_answers accepted write (by decide), ?_, ?_, answered_answer .., withdrawn, byte_of_mem _ _ (memory.trans restored.mem)⟩
  · rw [answer_rd, objects _ stateLost (by simp only [Obj.CU_STATE]; omega), unitRestored, setCu_rd,
      rd_wr_other _ _ _ _ (by simp [Obj.CU_STATE, Obj.CU_FAIL_RUN]), rd_setCuState_state]
  · rw [answer_rd, objects _ (by simp only [Obj.CU_FAIL_RUN, Obj.LOG_LOST]; omega) (by simp only [Obj.CU_FAIL_RUN]; omega), unitRestored, setCu_rd,
      rd_wr_same]

theorem execCuInject_arms {s : State} {rq : Requester} {u : Fin 32} (v : Fin 256) (accepted : s.accepts rq (Obj.CU_INJECT u.val) v.val = true) :
    (s.rd Obj.INJ_ENABLE ≠ 0 →
      ∃ t, exec (.cuInject rq u v) s = .next t ∧ t.cu u.val = { s.cu u.val with inject := v.val } ∧ (∀ n, n ≠ u.val → t.cu n = s.cu n) ∧
        t.answered rq Status.ok ∧ { t with cus := s.cus, io := s.io } = s) ∧
    (s.rd Obj.INJ_ENABLE = 0 → exec (.cuInject rq u v) s = .next (s.answer rq Status.accessDenied)) := by
  refine ⟨fun on => ?_, fun off => ownRequest_answers accepted (if_pos off) (by decide)⟩
  refine ⟨_, ownRequest_answers accepted (if_neg on) (by decide), ?_, fun n other => ?_, answered_answer .., rfl⟩
  · rw [cu_congr (answer_cus ..), cu_setCu, if_pos rfl]
  · rw [cu_congr (answer_cus ..), cu_setCu, if_neg other]

/-! ## Items judged (R422 to R433) -/

/-- The words of the statement for an item judged. -/
def itemJudgedAs (s t : State) (u value : Nat) : Prop :=
  t.rd (Obj.CU_LAST_VALUE u) = value ∧
  (value = s.rd (Obj.CU_REF u) → t.rd (Obj.CU_LAST_RESULT u) = 0 ∧ t.rd (Obj.CU_PASS_COUNT u) = wrapAdd 32 (s.rd (Obj.CU_PASS_COUNT u)) 1 ∧
    t.rd (Obj.CU_FAIL_RUN u) = 0 ∧ t.rd (Obj.CU_STATE u) = cuActive) ∧
  (value ≠ s.rd (Obj.CU_REF u) → t.rd (Obj.CU_LAST_RESULT u) = 3 ∧ t.rd (Obj.CU_FAIL_COUNT u) = wrapAdd 32 (s.rd (Obj.CU_FAIL_COUNT u)) 1 ∧
    t.rd (Obj.CU_FAIL_RUN u) = satAdd 8 (s.rd (Obj.CU_FAIL_RUN u)) 1 ∧ bit (t.rd (Obj.CU_STATUS u)) 0 = true ∧
    t.rd (Obj.CU_STATE u) = if s.rd (Obj.CU_FAIL_LIMIT u) ≤ satAdd 8 (s.rd (Obj.CU_FAIL_RUN u)) 1 then cuTripped else cuSync) ∧ s.sameMemory t

namespace State
variable {s t : State} {u : Nat}

/-- The findings of an item without an alive value: whether its value is its reference. -/
theorem findings_unchecked (s : State) (u value ref : Nat) :
    (s.findings u ⟨value, some ref, .unchecked⟩).1 = { mismatch := !decide (ref = value) } := by
  simp [findings]

theorem itemClosed_state (s : State) (u : Nat) (j : Judged) (place : Nat) :
    (s.itemClosed u j place).rd (Obj.CU_STATE u) = (if s.itemTrips u j place then cuTripped else (s.itemJudged u j place).rd (Obj.CU_STATE u)) ∧
    bit ((s.itemClosed u j place).rd (Obj.CU_STATUS u)) 0 = bit ((s.itemJudged u j place).rd (Obj.CU_STATUS u)) 0 := by
  unfold itemClosed
  split
  · exact ⟨(trip_status ..).1, (trip_status ..).2 0 (by decide) (by decide)⟩
  · exact ⟨rfl, rfl⟩

/-- The objects of a judgement are none of those that a restored substitution or a trip writes. -/
theorem unitObject_far {a : Nat} (ha : a ∈ [Obj.CU_LAST_VALUE u, Obj.CU_LAST_RESULT u, Obj.CU_PASS_COUNT u, Obj.CU_FAIL_COUNT u, Obj.CU_FAIL_RUN u,
    Obj.CU_FAIL_LIMIT u, Obj.CU_REF u, Obj.CU_CONFIG u]) : a ≠ Obj.LOG_LOST ∧ a ≠ Obj.CHIME_NOW ∧ a % 256 ≠ 0x0B ∧ a % 256 ≠ 0x0C := by
  simp only [List.mem_cons, List.not_mem_nil, or_false, Obj.CU_LAST_VALUE, Obj.CU_LAST_RESULT, Obj.CU_PASS_COUNT, Obj.CU_FAIL_COUNT, Obj.CU_FAIL_RUN,
    Obj.CU_FAIL_LIMIT, Obj.CU_REF, Obj.CU_CONFIG] at ha
  simp only [Obj.LOG_LOST, Obj.CHIME_NOW]
  omega

theorem rd_itemClosed_unit (s : State) (j : Judged) (place : Nat) {a : Nat} (ha : a ∈ [Obj.CU_LAST_VALUE u, Obj.CU_LAST_RESULT u, Obj.CU_PASS_COUNT u,
    Obj.CU_FAIL_COUNT u, Obj.CU_FAIL_RUN u, Obj.CU_FAIL_LIMIT u, Obj.CU_REF u, Obj.CU_CONFIG u]) :
    (s.itemClosed u j place).rd a = (s.itemJudged u j place).rd a := by
  obtain ⟨lost, chime, state, status⟩ := unitObject_far ha
  exact rd_itemClosed _ _ _ _ lost chime state status

theorem Settled.rd_unit (h : Settled s t) {a : Nat} (ha : a ∈ [Obj.CU_LAST_VALUE u, Obj.CU_LAST_RESULT u, Obj.CU_PASS_COUNT u,
    Obj.CU_FAIL_COUNT u, Obj.CU_FAIL_RUN u, Obj.CU_FAIL_LIMIT u, Obj.CU_REF u, Obj.CU_CONFIG u]) : t.rd a = s.rd a := by
  obtain ⟨lost, -, -, status⟩ := unitObject_far ha
  exact h.rd lost status

/-- A value compared with the unit's reference, without an alive value or an armed fault. -/
theorem judgeItem_value (settled : Settled s t) (noInject : (t.cu u).inject = 0) (live : s.rd (Obj.CU_STATE u) ≠ cuTripped) (value place : Nat) :
    itemJudgedAs s (t.judgeItem u ⟨value, some (t.rd (Obj.CU_REF u)), .unchecked⟩ place).2 u value := by
  rw [judgeItem_unarmed (.inr noInject)]
  have found := findings_unchecked t u value (t.rd (Obj.CU_REF u))
  have liveT : t.rd (Obj.CU_STATE u) ≠ cuTripped := by
    rwa [settled.rd (cuState_ne u).2.1 (by simp only [Obj.CU_STATE]; omega)]
  have ref : t.rd (Obj.CU_REF u) = s.rd (Obj.CU_REF u) := settled.rd_unit (u := u) (by simp)
  obtain ⟨shownResult, shownValue⟩ := itemJudged_shown t u ⟨value, some (t.rd (Obj.CU_REF u)), .unchecked⟩ place
  obtain ⟨state, status⟩ := itemClosed_state t u ⟨value, some (t.rd (Obj.CU_REF u)), .unchecked⟩ place
  have keeps {a : Nat} (ha : a ∈ [Obj.CU_LAST_VALUE u, Obj.CU_LAST_RESULT u, Obj.CU_PASS_COUNT u,
      Obj.CU_FAIL_COUNT u, Obj.CU_FAIL_RUN u, Obj.CU_FAIL_LIMIT u, Obj.CU_REF u, Obj.CU_CONFIG u]) :=
    rd_itemClosed_unit t ⟨value, some (t.rd (Obj.CU_REF u)), .unchecked⟩ place ha
  refine ⟨by rw [keeps (by simp), shownValue], fun equal => ?_, fun differs => ?_, byte_of_mem _ _ ((itemClosed_mem ..).trans settled.edits.mem)⟩
  · have pass : (t.findings u ⟨value, some (t.rd (Obj.CU_REF u)), .unchecked⟩).1 = {} := by rw [found, ref, equal]; simp
    obtain ⟨run, passes⟩ := itemJudged_passed (place := place) (by rw [pass]; rfl)
    refine ⟨?_, ?_, ?_, ?_⟩
    · rw [keeps (by simp), shownResult, pass]
      rfl
    · rw [keeps (by simp), passes, settled.rd_unit (u := u) (by simp)]
    · rw [keeps (by simp), run]
    · rw [itemClosed_pass (by rw [pass]; rfl), itemJudged_state liveT, pass]
      rfl
  · have fail : (t.findings u ⟨value, some (t.rd (Obj.CU_REF u)), .unchecked⟩).1 = { mismatch := true } := by
      rw [found, ref, decide_eq_false (Ne.symm differs)]
      rfl
    obtain ⟨run, fails⟩ := itemJudged_failed (place := place) (by rw [fail]; rfl) (by rw [fail])
    refine ⟨?_, ?_, ?_, ?_, ?_⟩
    · rw [keeps (by simp), shownResult, fail]
      rfl
    · rw [keeps (by simp), fails, settled.rd_unit (u := u) (by simp)]
    · rw [keeps (by simp), run, settled.rd_unit (u := u) (by simp)]
    · rw [status]
      exact itemJudged_mismatch (by rw [fail])
    · have outside : Obj.CU_FAIL_LIMIT u ∉ itemObjects u := by
        simp [itemObjects, Obj.CU_FAIL_LIMIT, Obj.LOG_LOST, Obj.CU_STATUS, Obj.CU_STATE, Obj.CU_LAST_RESULT, Obj.CU_LAST_VALUE, Obj.CU_FAIL_RUN,
          Obj.CU_PASS_COUNT, Obj.CU_FAIL_COUNT]
        omega
      have limit := ((itemJudged_edits t u ⟨value, some (t.rd (Obj.CU_REF u)), .unchecked⟩ place).rd outside).trans (settled.rd_unit (u := u) (by simp))
      rw [state, itemTrips, fail, limit, run, settled.rd_unit (u := u) (a := Obj.CU_FAIL_RUN u) (by simp), itemJudged_state liveT, fail]
      simp [liveT, Findings.pass, State.Findings.bad]

end State

theorem execCuStreamJudge_stopped {s : State} {u : Fin 32} (on : s.cuEnabled u.val = true) (output : s.cuOutput u.val ≤ 11) (stream : s.cuSnoop u.val = 0)
    (stopped : (s.out (s.governor (s.cuOutput u.val))).phase = .stopped) (px : Option (List (Nat × Nat × Nat))) :
    ∃ t, exec (.cuStreamJudge u px false false) s = .next t ∧ t.rd (Obj.CU_LAST_RESULT u.val) = 6 ∧ (t.cu u.val).idle = true ∧
      s.objectsBut t [Obj.CU_LAST_RESULT u.val] ∧ s.sameMemory t := by
  have run : exec (.cuStreamJudge u px false false) s = .next (s.noData u.val true) := by
    change execCuStreamJudge u px false false s = _
    rw [execCuStreamJudge, if_neg (by simp [on, stream, output]), if_pos stopped]
  have edits : Edits [Obj.CU_LAST_RESULT u.val] s (s.noData u.val true) := .same (.wr (.refl s))
  refine ⟨_, run, rd_wr_same .., ?_, edits.frame⟩
  rw [noData, cu_setCu, if_pos rfl]
  exact Bool.or_true _

section
variable {s : State} {u : Fin 32} (on : s.cuEnabled u.val = true) (output : s.cuOutput u.val ≤ 11) (unchecked : s.cuAlive u.val = false)
  (runs : (s.out (s.governor (s.cuOutput u.val))).phase ≠ .stopped) (busy : (s.cu u.val).idle = false) (noInject : (s.cu u.val).inject = 0)
  (live : s.rd (Obj.CU_STATE u.val) ≠ cuTripped)

/-- The state in which an item of a unit is judged: restored substitutions settled, the unit past its first item. -/
def State.atItem (s : State) (u : Nat) : State := (s.setCu u { s.cu u with after := none }).settleRestores (s.cuOutput u)

theorem atItem_settled (s : State) (u : Nat) : Settled (s.setCu u { s.cu u with after := none }) (s.atItem u) := settleRestores_settled ..

theorem rd_atItem (s : State) (u : Nat) {a : Nat} (lost : a ≠ Obj.LOG_LOST) (status : a % 256 ≠ 0x0C) : (s.atItem u).rd a = s.rd a :=
  (atItem_settled s u).rd lost status

theorem config_atItem (s : State) (u : Nat) : (s.atItem u).rd (Obj.CU_CONFIG u) = s.rd (Obj.CU_CONFIG u) :=
  rd_atItem _ _ (by simp only [Obj.CU_CONFIG, Obj.LOG_LOST]; omega) (by simp only [Obj.CU_CONFIG]; omega)

theorem outs_atItem (s : State) (u : Nat) : (s.atItem u).outs = s.outs := (atItem_settled s u).outs

theorem governor_atItem (s : State) (u k : Nat) : (s.atItem u).governor k = s.governor k := governor_congr (rd_atItem _ _ (by decide) (by decide)) k

theorem cu_atItem_inject (s : State) (u : Nat) : ((s.atItem u).cu u).inject = (s.cu u).inject := by
  obtain ⟨waits, h⟩ := (atItem_settled s u).cu u
  rw [h, cu_setCu, if_pos rfl]

theorem targetDepth_atItem (s : State) (u : Nat) {k : Nat} (hk : k ≤ 11) : (s.atItem u).targetDepth k = s.targetDepth k := by
  have timing : (s.atItem u).timing k = s.timing k := rd_atItem _ _ (by simp only [Obj.OUT_TIMING, Obj.LOG_LOST]; omega)
    (by simp only [Obj.OUT_TIMING]; omega)
  simp only [targetDepth, timing, governor_atItem, out_congr (outs_atItem s u)]

include noInject live in
theorem judgeItem_atItem (value place : Nat) : itemJudgedAs s
    ((s.atItem u.val).judgeItem u.val ⟨value, some ((s.atItem u.val).rd (Obj.CU_REF u.val)), .unchecked⟩ place).2 u.val value :=
  judgeItem_value (s := s.setCu u.val { s.cu u.val with after := none }) (atItem_settled ..) ((cu_atItem_inject ..).trans noInject) live value place

include on output unchecked runs busy noInject live in
theorem execCuStreamJudge_judges (stream : s.cuSnoop u.val = 0)
    (past : (s.cu u.val).after ≠ some (s.out (s.governor (s.cuOutput u.val))).startedFrames) (px : List (Nat × Nat × Nat)) {c : Composition}
    (showing : (s.out (s.governor (s.cuOutput u.val))).showing = some c) (noRefs : c.refs = []) (plain : c.overridden = none) :
    ∃ t, exec (.cuStreamJudge u (some px) false false) s = .next t ∧
      itemJudgedAs s t u.val (checkValue (s.cuPoly u.val) (px.flatMap (snoopBytes (s.targetDepth (s.cuOutput u.val))))) := by
  have resumed : s.cuResume u.val = s := by simp [cuResume, busy]
  have shown : ((s.atItem u.val).out (s.governor (s.cuOutput u.val))).showing = some c := by rw [out_congr (outs_atItem ..), showing]
  have ref : (s.atItem u.val).cuReference u.val c = (s.atItem u.val).rd (Obj.CU_REF u.val) := by simp [cuReference, noRefs]
  have alive : (s.atItem u.val).cuAlive u.val = false := by rw [← unchecked, cuAlive, cuAlive, config_atItem]
  have poly : (s.atItem u.val).cuPoly u.val = s.cuPoly u.val := by rw [cuPoly, cuPoly, config_atItem]
  have run : exec (.cuStreamJudge u (some px) false false) s = .next ((s.atItem u.val).judgeItem u.val
      ⟨checkValue (s.cuPoly u.val) (px.flatMap (snoopBytes (s.targetDepth (s.cuOutput u.val)))), some ((s.atItem u.val).rd (Obj.CU_REF u.val)),
        .unchecked⟩ ((s.atItem u.val).rd (Obj.OUT_FRAME_COUNT (s.cuOutput u.val)))).2 := by
    change execCuStreamJudge u (some px) false false s = _
    rw [execCuStreamJudge, if_neg (by simp [on, stream, output]), if_neg runs, resumed, if_neg past]
    simp only [← atItem.eq_def]
    simp [shown, plain, ref, readRef, targetDepth_atItem _ _ output, alive, poly]
  exact ⟨_, run, judgeItem_atItem noInject live ..⟩

include on output unchecked runs busy noInject live in
theorem execCuLayerJudge_judges (layer : s.cuSnoop u.val = 1) (past : (s.cu u.val).after = none) {c : Composition}
    (last : (s.out (s.governor (s.cuOutput u.val))).comps.getLast? = some c) (noRefs : c.refs = []) {l : Nat × BitVec 512 × Nat}
    (found : c.layers.find? (fun l => decide (l.1 = s.cuPosition u.val)) = some l) (surface : lySource l.2.1 = 1) :
    ∃ t, exec (.cuLayerJudge u false false) s = .next t ∧
      itemJudgedAs s t u.val (checkValue (s.cuPoly u.val)
        ((cropRows l.2.1).flatMap (fun row => (List.range row.2).map (fun i => s.surfByte (lySurface l.2.1) (row.1 + i))))) := by
  have resumed : s.cuResume u.val = s := by simp [cuResume, busy]
  have ref : (s.atItem u.val).cuReference u.val c = (s.atItem u.val).rd (Obj.CU_REF u.val) := by simp [cuReference, noRefs]
  have alive : (s.atItem u.val).cuAlive u.val = false := by rw [← unchecked, cuAlive, cuAlive, config_atItem]
  have poly : (s.atItem u.val).cuPoly u.val = s.cuPoly u.val := by rw [cuPoly, cuPoly, config_atItem]
  have position : (s.atItem u.val).cuPosition u.val = s.cuPosition u.val := by rw [cuPosition, cuPosition, config_atItem]
  have bytes (n o : Nat) : (s.atItem u.val).surfByte n o = s.surfByte n o := by
    simp only [surfByte, surf, byte, (atItem_settled s u.val).grip, (atItem_settled s u.val).edits.mem]
    rfl
  obtain ⟨n, d, x⟩ := l
  have run : exec (.cuLayerJudge u false false) s = .next ((s.atItem u.val).judgeItem u.val
      ⟨checkValue (s.cuPoly u.val) ((cropRows d).flatMap (fun row => (List.range row.2).map (fun i => s.surfByte (lySurface d) (row.1 + i)))),
        some ((s.atItem u.val).rd (Obj.CU_REF u.val)), .unchecked⟩ ((s.atItem u.val).rd (Obj.OUT_FRAME_COUNT (s.cuOutput u.val)))).2 := by
    change execCuLayerJudge u false false s = _
    rw [execCuLayerJudge, if_neg (by simp [on, layer, output]), if_neg runs, resumed]
    simp only [last, past, ← atItem.eq_def]
    simp [position, found, surface, ref, readRef, layerAlive, bytes, alive, poly]
  exact ⟨_, run, judgeItem_atItem noInject live ..⟩

end

/-- Settles O43: a switched unit goes through the reset of its state, and an item is judged in the state in which the substitutions withdrawn since the
last one are settled, of which a check value and a reference see nothing. -/
theorem continuityUnitsSwitchAndJudge : Obligations.ContinuityUnitsSwitchAndJudge := by
  refine ⟨fun s rq u => ⟨fun accepted off => ?_, fun accepted on live => ?_, fun accepted on tripped => ?_, fun v accepted => ?_⟩,
    fun s u on output unchecked => ⟨fun stream stopped px => ?_, fun runs busy noInject live => ⟨fun stream past px c showing noRefs plain => ?_,
      fun layer past c last noRefs l found surface => ?_⟩⟩⟩
  · exact execCuEnable_starts accepted off
  · exact execCuDisable_stops accepted on live
  · exact execCuRestore_restores accepted on tripped
  · exact execCuInject_arms v accepted
  · exact execCuStreamJudge_stopped on output stream stopped px
  · exact execCuStreamJudge_judges on output unchecked runs busy noInject live stream past px showing noRefs plain
  · exact execCuLayerJudge_judges on output unchecked runs busy noInject live layer past last noRefs found surface

end Sys2Proof.Machine
end

section
/-!
SUPPORT, and the statement O47: Quag's channels. What an operation on a channel leaves of the others (`Channel c s t`), and what the channel holds after it.
-/
namespace Sys2Proof.Machine
open Sys2Proof

namespace State

theorem hap_setHap (s : State) (c n : Nat) (h : Hap) : (s.setHap c h).hap n = if n = c then h else s.hap n := Tab.get_set ..

theorem hap_congr {s t : State} (h : t.haps = s.haps) (n : Nat) : t.hap n = s.hap n := by rw [hap, hap, h]

theorem hap_setHap_same (s : State) (c : Nat) (h : Hap) : (s.setHap c h).hap c = h := (hap_setHap ..).trans (if_pos rfl)

/-- What shows a channel's state (R484). -/
def hapShown (c : Nat) : List Nat := [Obj.HAP_STATE c, Obj.HAP_NOW c, Obj.HAP_STATUS c]

/-- All that an operation on a channel may write, an injection that fires in it among it. -/
def hapWrites (c : Nat) : List Nat :=
  Obj.HAP_CONTROL c :: Obj.HAP_RES_HZ c :: Obj.HAP_RES_BEMF_MV c :: Obj.HAP_EFFECTS_DONE c :: Obj.HAP_EFFECTS_CUT c :: Obj.LOG_LOST :: Obj.INJ_FIRED 26 :: Obj.INJ_TOTAL :: Obj.INJ_ARM 26 :: hapShown c

theorem setHap_edits {os : List Nat} {s t : State} {c : Nat} {h : Hap} (before : Edits os s t) (shown : ∀ a ∈ hapShown c, a ∈ os := by simp [hapShown]) :
    Edits os s (t.setHap c h) :=
  ((before.same.wr (shown _ (by simp [hapShown]))).wr (shown _ (by simp [hapShown]))).wrBit (shown _ (by simp [hapShown]))

/-- Fort's front ends and key bank. -/
def touchUnits (s : State) : Tab FrontEnd × KeyBank := (s.fronts, s.keyBank)

/-- An operation on one channel: memory stays, and so does every other channel, and what scans for touches and keys. -/
structure Channel (c : Nat) (s t : State) : Prop where
  edits : Edits (hapWrites c) s t
  others : ∀ n, n ≠ c → t.hap n = s.hap n
  touch : t.touchUnits = s.touchUnits

namespace Channel
variable {c : Nat} {s t : State}

theorem refl (s : State) : Channel c s s := ⟨.refl s, fun _ _ => rfl, rfl⟩

theorem frame (h : Channel c s t) : (∀ n, n ≠ c → t.hap n = s.hap n) ∧ s.sameMemory t := ⟨h.others, h.edits.sameMemory⟩

theorem of_haps {u : State} (h : Channel c s t) (edits : Edits (hapWrites c) s u) (haps : u.haps = t.haps) (touch : u.touchUnits = t.touchUnits) :
    Channel c s u := ⟨edits, fun n hn => (hap_congr haps n).trans (h.others n hn), touch.trans h.touch⟩

theorem setHap (h : Channel c s t) {x : Hap} : Channel c s (t.setHap c x) :=
  ⟨setHap_edits h.edits (by simp [hapShown, hapWrites]), fun n hn => (hap_setHap ..).trans ((if_neg hn).trans (h.others n hn)), h.touch⟩

theorem wr (h : Channel c s t) {a v : Nat} (ha : a ∈ hapWrites c := by simp [hapWrites, hapShown]) : Channel c s (t.wr a v) := h.of_haps (h.edits.wr ha) rfl rfl

theorem wrBit (h : Channel c s t) {a i : Nat} {b : Bool} (ha : a ∈ hapWrites c := by simp [hapWrites, hapShown]) : Channel c s (t.wrBit a i b) := h.wr ha

theorem count (h : Channel c s t) {a : Nat} (ha : a ∈ hapWrites c := by simp [hapWrites, hapShown]) : Channel c s (t.count a) := h.wr ha

theorem answer (h : Channel c s t) {rq : Requester} {st : Nat} : Channel c s (t.answer rq st) := h.of_haps h.edits.answer rfl rfl

theorem logInjected (h : Channel c s t) {code source : Nat} {i : Bool} {ds : List Detail} : Channel c s (t.logInjected code source i ds) :=
  h.of_haps (h.edits.logInjected (by simp [hapWrites])) (logInjected_haps ..) (by simp [touchUnits])

theorem logEvent (h : Channel c s t) {code source : Nat} {ds : List Detail} : Channel c s (t.logEvent code source ds) := h.logInjected

theorem tallyCount (h : Channel c s t) {g k o : Nat} : Channel c s (t.tallyCount g k o) :=
  h.of_haps (h.edits.tallyCount (by simp [hapWrites])) (tallyCount_haps ..) (by simp [touchUnits])

theorem ite {p : Prop} {_ : Decidable p} {u : State} (ht : Channel c s t) (hu : Channel c s u) : Channel c s (if p then t else u) := by
  split
  · exact ht
  · exact hu

theorem endEffect (h : Channel c s t) {effect source result : Nat} : Channel c s (t.endEffect c effect source result) :=
  .ite h.count.tallyCount h.count.tallyCount.logEvent

theorem abortHap (h : Channel c s t) : Channel c s (t.abortHap c) := by
  unfold State.abortHap
  extract_lets x quiet ended
  have hended : Channel c s ended := by
    unfold ended
    split
    · exact h.setHap.endEffect
    · exact h.setHap
  split
  · exact hended.endEffect
  · exact hended

end Channel

theorem endEffect_haps (s : State) (c effect source result : Nat) : (s.endEffect c effect source result).haps = s.haps := by
  unfold endEffect
  split <;> simp

/-- A channel that is aborted plays nothing and has nothing queued. -/
theorem abortHap_idle (s : State) (c : Nat) : ((s.abortHap c).hap c).play = none ∧ ((s.abortHap c).hap c).queued = none := by
  have idle : (s.abortHap c).hap c = { s.hap c with play := none, queued := none } := by
    unfold abortHap
    extract_lets x quiet ended
    have hended : ended.hap c = { x with play := none, queued := none } := by
      unfold ended
      split
      · exact (hap_congr (endEffect_haps ..) c).trans (hap_setHap_same ..)
      · exact hap_setHap_same ..
    split
    · exact (hap_congr (endEffect_haps ..) c).trans hended
    · exact hended
  rw [idle]
  exact ⟨rfl, rfl⟩

theorem rd_setHap (s : State) (c : Nat) (h : Hap) {a : Nat} (ha : a ∉ hapShown c) : (s.setHap c h).rd a = s.rd a :=
  (setHap_edits (.refl s) (fun _ hb => hb)).rd ha

theorem hapControl_not_shown (c : Nat) : Obj.HAP_CONTROL c ∉ hapShown c := by
  simp [hapShown, Obj.HAP_CONTROL, Obj.HAP_STATE, Obj.HAP_NOW, Obj.HAP_STATUS]

theorem rd_setHap_control (s : State) (c : Nat) (h : Hap) : (s.setHap c h).rd (Obj.HAP_CONTROL c) = s.rd (Obj.HAP_CONTROL c) :=
  rd_setHap _ _ _ (hapControl_not_shown c)

/-- HAP_STATE shows the state that the channel is put into. -/
theorem rd_setHap_state (s : State) (c : Nat) (h : Hap) : (s.setHap c h).rd (Obj.HAP_STATE c) = (s.setHap c h).hapState c := by
  have now : Obj.HAP_STATE c ≠ Obj.HAP_NOW c := by simp [Obj.HAP_STATE, Obj.HAP_NOW]
  have status : Obj.HAP_STATE c ≠ Obj.HAP_STATUS c := by simp [Obj.HAP_STATE, Obj.HAP_STATUS]
  have shown : (s.setHap c h).hapState c = ({ s with haps := Tab.set s.haps c h } : State).hapState c := by
    simp only [hapState, rd_setHap_control]
    rfl
  rw [shown, setHap, rd_wrBit, if_neg status, rd_wr_other _ _ _ _ now, rd_wr_same]

theorem hapState_off {s : State} {c : Nat} (off : bit (s.rd (Obj.HAP_CONTROL c)) 0 = false) : s.hapState c = 0 := by simp [hapState, off]

theorem hapState_idle {s : State} {c : Nat} (on : bit (s.rd (Obj.HAP_CONTROL c)) 0 = true) (still : (s.hap c).calibrating = false)
    (quiet : (s.hap c).play = none) : s.hapState c = 1 := by simp [hapState, on, still, quiet]

theorem hapState_sweeps {s : State} {c : Nat} (on : bit (s.rd (Obj.HAP_CONTROL c)) 0 = true) (sweeps : (s.hap c).calibrating = true) :
    s.hapState c = 2 := by simp [hapState, on, sweeps]

end State

open State

section
variable {s : State} {rq : Requester} {c : Fin 8} (rated : s.rd (Obj.HAP_RATED_MV c.val) ≠ 0)
  (supplied : s.rd (Obj.HAP_RATED_MV c.val) ≤ s.rd Obj.HAP_SUPPLY_MV)

/-- The channel switched on, as it was. -/
def switchedOn (s : State) (c : Nat) : State := (s.wr (Obj.HAP_CONTROL c) 1).setHap c (s.hap c)

theorem switchedOn_channel (s : State) (c : Nat) : Channel c s (switchedOn s c) := (Channel.refl s).wr.setHap

theorem rd_switchedOn_control (s : State) (c : Nat) : (switchedOn s c).rd (Obj.HAP_CONTROL c) = 1 := by
  rw [switchedOn, rd_setHap_control, rd_wr_same]

theorem startSweep_channel {c : Nat} {t : State} (h : Channel c s t) : Channel c s (t.startSweep c) := h.setHap

/-- A sweep on a channel that is on shows in HAP_STATE. -/
theorem startSweep_sweeps {c : Nat} {s : State} (on : s.rd (Obj.HAP_CONTROL c) = 1) : ((s.startSweep c).hap c).calibrating = true ∧
    (s.startSweep c).rd (Obj.HAP_CONTROL c) = 1 ∧ (s.startSweep c).rd (Obj.HAP_STATE c) = 2 := by
  have sweeps : ((s.startSweep c).hap c).calibrating = true := by rw [startSweep, hap_setHap_same]
  have control : (s.startSweep c).rd (Obj.HAP_CONTROL c) = 1 := (rd_setHap_control ..).trans on
  refine ⟨sweeps, control, ?_⟩
  rw [startSweep, rd_setHap_state]
  exact hapState_sweeps (by rw [← startSweep, control]; decide) sweeps

theorem rd_switchedOn (s : State) (c : Nat) {a : Nat} (ha : a ∉ Obj.HAP_CONTROL c :: hapShown c) : (switchedOn s c).rd a = s.rd a :=
  (setHap_edits ((Edits.refl s).wr List.mem_cons_self) (fun _ hb => List.mem_cons_of_mem _ hb)).rd ha

theorem hapTuning_not_written (c : Nat) : Obj.HAP_RES_HZ c ∉ Obj.HAP_CONTROL c :: hapShown c ∧ Obj.HAP_CAL_AT_START ∉ Obj.HAP_CONTROL c :: hapShown c ∧
    Obj.HAP_CAL_MIN_MV ∉ Obj.HAP_CONTROL c :: hapShown c := by
  simp only [hapShown, Obj.HAP_RES_HZ, Obj.HAP_CAL_AT_START, Obj.HAP_CAL_MIN_MV, Obj.HAP_CONTROL, Obj.HAP_STATE, Obj.HAP_NOW, Obj.HAP_STATUS,
    List.mem_cons, List.not_mem_nil, or_false]
  omega

/-- A write of HAP_CONTROL with ENABLE, at a rated voltage that the supply reaches. -/
theorem writeHapControl_on {s : State} {c v : Nat} (on : bit v 0 = true) (rated : s.rd (Obj.HAP_RATED_MV c) ≠ 0)
    (supplied : s.rd (Obj.HAP_RATED_MV c) ≤ s.rd Obj.HAP_SUPPLY_MV) : s.writeHapControl c v =
    if bit (s.rd (Obj.HAP_CONTROL c)) 0 = false ∧ (((s.hap c).calDone = false ∧ s.rd Obj.HAP_CAL_AT_START = 1) ∨ s.rd (Obj.HAP_RES_HZ c) = 0) then
      (Status.ok, (switchedOn s c).startSweep c)
    else
      let enabled := if bit (s.rd (Obj.HAP_CONTROL c)) 0 then switchedOn s c else (switchedOn s c).setHap c { s.hap c with calDone := true }
      (Status.ok, if bit v 1 ∧ (s.hap c).play.isNone ∧ ¬(s.hap c).calibrating then enabled.startSweep c else enabled) := by
  obtain ⟨tuning, atStart, -⟩ := hapTuning_not_written c
  have kept : (s.wr (Obj.HAP_CONTROL c) (ofBool true)).hap c = s.hap c := rfl
  have switched : (s.wr (Obj.HAP_CONTROL c) (ofBool true)).setHap c (s.hap c) = switchedOn s c := rfl
  simp [writeHapControl, on, rated, supplied.not_gt, kept, switched, rd_switchedOn _ _ tuning, rd_switchedOn _ _ atStart]

/-- A write of HAP_CONTROL with ENABLE is refused at a rated voltage of 0 or above the supply's. -/
theorem writeHapControl_refused {s : State} {c v : Nat} (on : bit v 0 = true)
    (unfit : ¬(s.rd (Obj.HAP_RATED_MV c) ≠ 0 ∧ s.rd (Obj.HAP_RATED_MV c) ≤ s.rd Obj.HAP_SUPPLY_MV)) :
    s.writeHapControl c v = (Status.hapConfigInvalid, s) := by
  have bad : s.rd (Obj.HAP_RATED_MV c) = 0 ∨ s.rd Obj.HAP_SUPPLY_MV < s.rd (Obj.HAP_RATED_MV c) := by omega
  rcases bad with zero | high
  · simp [writeHapControl, on, zero]
  · simp [writeHapControl, on, high]

/-- The channel switched off, with nothing in play. -/
def switchedOff (s : State) (c : Nat) : State :=
  let quiet := if bit (s.rd (Obj.HAP_CONTROL c)) 0 then (s.abortHap c).setHap c { (s.abortHap c).hap c with calibrating := false } else s
  (quiet.wr (Obj.HAP_CONTROL c) 0).setHap c (quiet.hap c)

theorem writeHapControl_off (s : State) (c : Nat) : s.writeHapControl c 0 = (Status.ok, switchedOff s c) := by
  have off : bit 0 0 = false := by decide
  simp [writeHapControl, off, switchedOff]
  rfl

theorem switchedOff_channel (s : State) (c : Nat) : Channel c s (switchedOff s c) := by
  have quiet : Channel c s (if bit (s.rd (Obj.HAP_CONTROL c)) 0 then (s.abortHap c).setHap c { (s.abortHap c).hap c with calibrating := false } else s) :=
    .ite (Channel.refl s).abortHap.setHap (.refl s)
  exact quiet.wr.setHap

theorem rd_switchedOff (s : State) (c : Nat) : (switchedOff s c).rd (Obj.HAP_CONTROL c) = 0 ∧ (switchedOff s c).rd (Obj.HAP_STATE c) = 0 := by
  have control : (switchedOff s c).rd (Obj.HAP_CONTROL c) = 0 := by
    rw [switchedOff, rd_setHap_control, rd_wr_same]
  refine ⟨control, ?_⟩
  rw [switchedOff, rd_setHap_state]
  exact hapState_off (by rw [← switchedOff, control]; decide)

theorem switchedOff_idle {s : State} {c : Nat} (was : bit (s.rd (Obj.HAP_CONTROL c)) 0 = true) :
    ((switchedOff s c).hap c).play = none ∧ ((switchedOff s c).hap c).queued = none := by
  rw [switchedOff, hap_setHap_same, if_pos was, hap_setHap_same]
  exact abortHap_idle s c

include rated supplied in
theorem execHapEnable_idle (accepted : s.accepts rq (Obj.HAP_CONTROL c.val) 1 = true) (off : bit (s.rd (Obj.HAP_CONTROL c.val)) 0 = false)
    (tuned : s.rd (Obj.HAP_RES_HZ c.val) ≠ 0) (swept : (s.hap c.val).calDone = true) (quiet : (s.hap c.val).play = none)
    (still : (s.hap c.val).calibrating = false) :
    ∃ t, exec (.hapEnable rq c 1) s = .next t ∧ t.rd (Obj.HAP_CONTROL c.val) = 1 ∧ t.rd (Obj.HAP_STATE c.val) = 1 ∧ t.answered rq Status.ok ∧
      (∀ n, n ≠ c.val → t.hap n = s.hap n) ∧
      s.objectsBut t [Obj.HAP_CONTROL c.val, Obj.HAP_STATE c.val, Obj.HAP_NOW c.val, Obj.HAP_STATUS c.val] ∧ s.sameMemory t := by
  have write : s.writeHapControl c.val 1 = (Status.ok, (switchedOn s c.val).setHap c.val { s.hap c.val with calDone := true }) := by
    rw [writeHapControl_on (by decide) rated supplied, if_neg (by simp [swept, tuned])]
    simp [off, show bit 1 1 = false by decide]
  have control : ((switchedOn s c.val).setHap c.val { s.hap c.val with calDone := true }).rd (Obj.HAP_CONTROL c.val) = 1 :=
    (rd_setHap_control ..).trans (rd_switchedOn_control ..)
  have edits : Edits (Obj.HAP_CONTROL c.val :: hapShown c.val) s ((switchedOn s c.val).setHap c.val { s.hap c.val with calDone := true }) :=
    setHap_edits (setHap_edits ((Edits.refl s).wr List.mem_cons_self) (fun _ => List.mem_cons_of_mem _)) (fun _ => List.mem_cons_of_mem _)
  refine ⟨_, ownRequest_answers accepted write (by decide), control, ?_, answered_answer .., (switchedOn_channel s c.val).setHap.answer.others,
    edits.answer.frame⟩
  rw [answer_rd, rd_setHap_state]
  exact hapState_idle (by rw [control]; decide) (by rw [hap_setHap_same, still]) (by rw [hap_setHap_same, quiet])

include rated supplied in
theorem execHapEnable_sweeps (accepted : s.accepts rq (Obj.HAP_CONTROL c.val) 1 = true) (off : bit (s.rd (Obj.HAP_CONTROL c.val)) 0 = false)
    (untuned : s.rd (Obj.HAP_RES_HZ c.val) = 0) :
    ∃ t, exec (.hapEnable rq c 1) s = .next t ∧ t.rd (Obj.HAP_CONTROL c.val) = 1 ∧ t.rd (Obj.HAP_STATE c.val) = 2 ∧
      (t.hap c.val).calibrating = true ∧ t.answered rq Status.ok ∧ (∀ n, n ≠ c.val → t.hap n = s.hap n) ∧ s.sameMemory t := by
  have write : s.writeHapControl c.val 1 = (Status.ok, (switchedOn s c.val).startSweep c.val) := by
    rw [writeHapControl_on (by decide) rated supplied, if_pos ⟨off, .inr untuned⟩]
  obtain ⟨sweeps, control, shown⟩ := startSweep_sweeps (rd_switchedOn_control s c.val)
  exact ⟨_, ownRequest_answers accepted write (by decide), control, shown, sweeps, answered_answer ..,
    (startSweep_channel (switchedOn_channel s c.val)).answer.frame⟩

include rated supplied in
theorem execCalibrate_sweeps (accepted : s.accepts rq (Obj.HAP_CONTROL c.val) 3 = true) (on : bit (s.rd (Obj.HAP_CONTROL c.val)) 0 = true)
    (quiet : (s.hap c.val).play = none) (still : (s.hap c.val).calibrating = false) :
    ∃ t, exec (.calibrate rq c 3) s = .next t ∧ (t.hap c.val).calibrating = true ∧ t.rd (Obj.HAP_STATE c.val) = 2 ∧ t.answered rq Status.ok ∧
      (∀ n, n ≠ c.val → t.hap n = s.hap n) ∧ s.sameMemory t := by
  have write : s.writeHapControl c.val 3 = (Status.ok, (switchedOn s c.val).startSweep c.val) := by
    rw [writeHapControl_on (by decide) rated supplied, if_neg (by simp [on])]
    simp [on, quiet, still, show bit 3 1 = true by decide]
  obtain ⟨sweeps, -, shown⟩ := startSweep_sweeps (rd_switchedOn_control s c.val)
  exact ⟨_, ownRequest_answers accepted write (by decide), sweeps, shown, answered_answer ..,
    (startSweep_channel (switchedOn_channel s c.val)).answer.frame⟩

theorem execHapEnable_disables (accepted : s.accepts rq (Obj.HAP_CONTROL c.val) 0 = true) :
    ∃ t, exec (.hapEnable rq c 0) s = .next t ∧ t.rd (Obj.HAP_CONTROL c.val) = 0 ∧ t.rd (Obj.HAP_STATE c.val) = 0 ∧ t.answered rq Status.ok ∧
      (bit (s.rd (Obj.HAP_CONTROL c.val)) 0 = true → (t.hap c.val).play = none ∧ (t.hap c.val).queued = none) ∧
      (∀ n, n ≠ c.val → t.hap n = s.hap n) ∧ s.sameMemory t := by
  obtain ⟨control, shown⟩ := rd_switchedOff s c.val
  exact ⟨_, ownRequest_answers accepted (writeHapControl_off s c.val) (by decide), control, shown, answered_answer ..,
    switchedOff_idle, (switchedOff_channel s c.val).answer.frame⟩

section
variable {coarse best peak : Nat} (sweeps : (s.hap c.val).calibrating = true)

/-- The sweep over, its result not yet taken. -/
def sweepEnded (s : State) (c : Nat) : State := s.setHap c { s.hap c with calibrating := false }

theorem rd_sweepEnded_limit (s : State) (c : Nat) : (sweepEnded s c).rd Obj.HAP_CAL_MIN_MV = s.rd Obj.HAP_CAL_MIN_MV :=
  rd_setHap _ _ _ (fun h => (hapTuning_not_written c).2.2 (List.mem_cons_of_mem _ h))

include sweeps in
theorem execCalDone_tunes (strong : s.rd Obj.HAP_CAL_MIN_MV ≤ peak) (low : coarse ≠ 800) (high : coarse ≠ 3200) :
    ∃ t, exec (.calDone c coarse best peak) s = .next t ∧ (t.hap c.val).calibrating = false ∧ t.rd (Obj.HAP_RES_HZ c.val) = best ∧
      t.rd (Obj.HAP_RES_BEMF_MV c.val) = peak ∧ (s.log.fifo.length < 256 → t.told Ev.calDone noOwner [d8 c.val, d32 best, d32 peak]) ∧
      (∀ n, n ≠ c.val → t.hap n = s.hap n) ∧ s.sameMemory t := by
  have run : exec (.calDone c coarse best peak) s = .next ((((sweepEnded s c.val).wr (Obj.HAP_RES_HZ c.val) best).wr (Obj.HAP_RES_BEMF_MV c.val)
      peak).logEvent Ev.calDone noOwner [d8 c.val, d32 best, d32 peak]) := by
    change execCalDone c coarse best peak s = _
    simp only [execCalDone, sweeps, ← sweepEnded.eq_def, rd_sweepEnded_limit, if_neg strong.not_gt, if_neg (not_or.2 ⟨low, high⟩)]
    rfl
  have apart : Obj.HAP_RES_HZ c.val ≠ Obj.HAP_RES_BEMF_MV c.val ∧ Obj.HAP_RES_HZ c.val ≠ Obj.LOG_LOST ∧ Obj.HAP_RES_BEMF_MV c.val ≠ Obj.LOG_LOST := by
    simp only [Obj.HAP_RES_HZ, Obj.HAP_RES_BEMF_MV, Obj.LOG_LOST]
    omega
  obtain ⟨distinct, res, bemf⟩ := apart
  refine ⟨_, run, ?_, ?_, ?_, fun room => told_logEvent _ _ _ _ room, (Channel.refl s).setHap.wr.wr.logEvent.frame⟩
  · rw [hap_congr (logEvent_haps ..), hap_congr (wr_haps ..), hap_congr (wr_haps ..), sweepEnded, hap_setHap_same]
  · rw [rd_logEvent _ _ _ _ _ res, rd_wr_other _ _ _ _ distinct, rd_wr_same]
  · rw [rd_logEvent _ _ _ _ _ bemf, rd_wr_same]

include sweeps in
theorem execCalDone_fails (weak : peak < s.rd Obj.HAP_CAL_MIN_MV) :
    ∃ t, exec (.calDone c coarse best peak) s = .next t ∧ (t.hap c.val).calibrating = false ∧
      t.rd (Obj.HAP_RES_HZ c.val) = s.rd (Obj.HAP_RES_HZ c.val) ∧ bit (t.rd (Obj.HAP_STATUS c.val)) 2 = true ∧
      (s.log.fifo.length < 256 → t.told Ev.calFailed noOwner [d8 c.val, dCase Ev.calFailed 0]) ∧ s.sameMemory t := by
  have run : exec (.calDone c coarse best peak) s = .next (((sweepEnded s c.val).wrBit (Obj.HAP_STATUS c.val) 2 true).logEvent Ev.calFailed noOwner
      [d8 c.val, dCase Ev.calFailed 0]) := by
    change execCalDone c coarse best peak s = _
    simp only [execCalDone, sweeps, ← sweepEnded.eq_def, rd_sweepEnded_limit, if_pos weak]
    rfl
  have apart : Obj.HAP_RES_HZ c.val ∉ Obj.LOG_LOST :: hapShown c.val ∧ Obj.HAP_STATUS c.val ≠ Obj.LOG_LOST := by
    simp only [hapShown, Obj.HAP_RES_HZ, Obj.LOG_LOST, Obj.HAP_STATE, Obj.HAP_NOW, Obj.HAP_STATUS, List.mem_cons, List.not_mem_nil, or_false]
    omega
  obtain ⟨res, status⟩ := apart
  have edits : Edits (Obj.LOG_LOST :: hapShown c.val) s (((sweepEnded s c.val).wrBit (Obj.HAP_STATUS c.val) 2 true).logEvent Ev.calFailed noOwner
      [d8 c.val, dCase Ev.calFailed 0]) :=
    (Edits.wrBit (setHap_edits (.refl s) fun _ => List.mem_cons_of_mem _) (by simp [hapShown])).logEvent
  refine ⟨_, run, ?_, edits.rd res, ?_, fun room => told_logEvent _ _ _ _ room, edits.sameMemory⟩
  · rw [hap_congr (logEvent_haps ..), hap_congr (wrBit_haps ..), sweepEnded, hap_setHap_same]
  · rw [rd_logEvent _ _ _ _ _ status, bit_wrBit_same, if_pos rfl]

end

end

/-- Settles O47: HAP_CONTROL switches the channel on, into a sweep where it is not tuned, or off with all that played aborted; a sweep's end is its record. -/
theorem hapticChannelsAreSwitched : Obligations.HapticChannelsAreSwitched := by
  refine fun s rq c => ⟨fun accepted off => ⟨fun ⟨rated, supplied⟩ tuned swept quiet still => ?_, fun ⟨rated, supplied⟩ untuned => ?_, fun unfit => ?_⟩,
    fun accepted => ?_, fun accepted on ⟨rated, supplied⟩ quiet still => ?_, fun coarse best peak sweeps => ⟨fun strong low high => ?_, fun weak => ?_⟩⟩
  · exact execHapEnable_idle rated supplied accepted off tuned swept quiet still
  · exact execHapEnable_sweeps rated supplied accepted off untuned
  · exact ownRequest_answers accepted (writeHapControl_refused (by decide) unfit) (by decide)
  · exact execHapEnable_disables accepted
  · exact execCalibrate_sweeps rated supplied accepted on quiet still
  · exact execCalDone_tunes sweeps strong low high
  · exact execCalDone_fails sweeps weak

end Sys2Proof.Machine
end

section
/-!
SUPPORT, and the statement O48: effects. A pulse's start, the drive of a half-cycle and the end of an effect touch their own channel alone; a trigger that
may be starts its effect in overdrive.
-/
namespace Sys2Proof.Machine
open Sys2Proof

namespace State

namespace Channel
variable {c : Nat} {s t : State}

theorem trans {u : State} (h : Channel c s t) (h' : Channel c t u) : Channel c s u :=
  ⟨h.edits.trans h'.edits, fun n hn => (h'.others n hn).trans (h.others n hn), h'.touch.trans h.touch⟩

theorem drive (h : Channel c s t) {p : HapPlay} : Channel c s (t.drive c p).1 := by
  unfold State.drive
  split
  · dsimp only
    have limited : Channel c s (t.wrBit (Obj.HAP_STATUS c) 0 true) := h.wrBit
    split
    · exact limited
    · dsimp only
      exact limited.logEvent
  · exact h

theorem startPulse (h : Channel c s t) {p : HapPlay} : Channel c s (t.startPulse c p).1 := by
  have fired : Channel c s (t.inject 26 c).2 := by
    unfold State.inject
    dsimp only
    split
    · have counted : Channel c s ((t.count (Obj.INJ_FIRED 26)).count Obj.INJ_TOTAL) := h.count.count
      have disarmed : Channel c s (((t.count (Obj.INJ_FIRED 26)).count Obj.INJ_TOTAL).wr (Obj.INJ_ARM 26) 0) := counted.wr
      dsimp only
      exact (Channel.ite disarmed counted).logInjected
    · exact h
  exact fired

end Channel

/-- Driving an effect notes at most that it was clipped. -/
theorem drive_play (s : State) (c : Nat) (p : HapPlay) : ∃ clipped, (s.drive c p).2 = { p with clipped := clipped } := by
  unfold drive
  split
  · dsimp only
    split
    · exact ⟨_, rfl⟩
    · exact ⟨_, rfl⟩
  · exact ⟨_, rfl⟩

/-- An effect that a phase takes on plays in it. -/
theorem toPhase_plays (s : State) (c : Nat) (p q : HapPlay) :
    Channel c s (s.toPhase c p (some q)) ∧ ∃ clipped, ((s.toPhase c p (some q)).hap c).play = some { q with clipped := clipped } := by
  obtain ⟨clipped, hclipped⟩ := drive_play s c q
  refine ⟨(Channel.refl s).drive.setHap, clipped, ?_⟩
  rw [toPhase, hap_setHap_same, hclipped]

/-- A phase of at least one half-cycle is entered at its first. -/
theorem enter_overdrive {p : HapPlay} (some : 0 < efOd p.desc) : p.enter .overdrive = .some { p with phase := .overdrive, half := 0 } := if_pos some

theorem enter_sustain {p : HapPlay} (some : 0 < efSus p.desc) : p.enter .sustain = .some { p with phase := .sustain, half := 0 } := if_pos some

theorem enter_braking {p : HapPlay} (some : 0 < efBrake p.desc) : p.enter .braking = .some { p with phase := .braking, half := 0 } := if_pos some

/-- With injection off, an effect that overdrives starts in overdrive (R490). -/
theorem startEffect_plays {s : State} {c : Nat} {q : HapQueued} (overdrives : 0 < efOd q.desc) (noInjection : s.rd Obj.INJ_ENABLE ≠ 1) :
    Channel c s (s.startEffect c q) ∧ ∃ p, ((s.startEffect c q).hap c).play = some p ∧ p.effect = q.effect ∧ p.phase = .overdrive ∧ p.half = 0 ∧
      p.source = q.source ∧ p.critical = q.critical := by
  unfold startEffect
  extract_lets untuned p
  rw [enter_overdrive overdrives]
  dsimp only
  simp only [startPulse, inject_off s 26 c (.inr noInjection)]
  obtain ⟨clipped, hclipped⟩ := drive_play s c { p with phase := .overdrive, half := 0, strong := 0, moved := false, injected := (none : Option Nat).isSome }
  refine ⟨(Channel.refl s).drive.setHap, _, by rw [hap_setHap_same, hclipped], rfl, rfl, rfl, rfl, rfl⟩

theorem endSlice_kept (s : State) (n : Nat) : (s.endSlice n).haps = s.haps ∧ (s.endSlice n).touchUnits = s.touchUnits := by
  unfold endSlice
  dsimp only
  split <;> exact ⟨rfl, rfl⟩

/-- A trigger ends the slice that reserves the channel first, which leaves the channels as they are. -/
theorem abandonUnit_channel (s : State) (c : Nat) (u : SliceUnit) (cause : Nat) :
    Channel c s (s.abandonUnit u cause) ∧ (s.abandonUnit u cause).haps = s.haps ∧ ∀ a, a ≠ Obj.LOG_LOST → (s.abandonUnit u cause).rd a = s.rd a := by
  have kept : Edits [Obj.LOG_LOST] s (s.abandonUnit u cause) ∧ (s.abandonUnit u cause).haps = s.haps ∧
      (s.abandonUnit u cause).touchUnits = s.touchUnits := by
    refine eachIn_keeps (P := fun t => Edits [Obj.LOG_LOST] s t ∧ t.haps = s.haps ∧ t.touchUnits = s.touchUnits) (fun t n _ ht => ?_) ⟨.refl s, rfl, rfl⟩
    obtain ⟨edits, haps, touch⟩ := ht
    have failed : Edits [Obj.LOG_LOST] s (t.sliceResult n 4) := edits.same
    refine ⟨(failed.of_stores (endSlice_stores ..)).logEvent, ?_, ?_⟩
    · rw [logEvent_haps, (endSlice_kept ..).1]
      exact haps
    · rw [touchUnits, logEvent_fronts, logEvent_keyBank, ← touchUnits, (endSlice_kept ..).2]
      exact touch
  obtain ⟨edits, haps, touch⟩ := kept
  exact ⟨(Channel.refl s).of_haps (edits.mono (by simp [hapWrites])) haps touch, haps, fun a ha => edits.rd (by simpa using ha)⟩

/-- A channel whose slice is ended, as a trigger finds it. -/
def takenOver (s : State) (c : Nat) : State := s.abandonUnit (.haptic c) abandonHaptic

theorem hap_takenOver (s : State) (c : Nat) : (s.takenOver c).hap c = s.hap c := hap_congr (abandonUnit_channel s c _ _).2.1 c

theorem effect_takenOver (s : State) (c v : Nat) : (s.takenOver c).effect v = s.effect v := by
  rw [effect, effect, takenOver, (abandonUnit_channel s c _ _).2.2 _ (by decide)]

/-- A trigger that is not critical, of a channel that plays nothing, starts its effect. -/
theorem meet_idle {s : State} {c v : Nat} (effect : v ≠ 0) (quiet : (s.hap c).play = none) (source : Nat) :
    s.meet c v source false = (s.takenOver c).startEffect c ⟨v, s.effect v, source, false⟩ := by
  simp only [meet, ← takenOver.eq_def, hap_takenOver, effect_takenOver, quiet, if_neg effect, Bool.false_eq_true, if_false]

/-- The channel with what it played aborted by a critical effect. -/
def yielded (s : State) (c : Nat) : State :=
  match (s.hap c).play with
  | some p => ((s.takenOver c).setHap c { s.hap c with play := none }).endEffect c p.effect p.source 3
  | none => s.takenOver c

/-- A critical trigger of a channel that does not sweep starts its effect at once (R493). -/
theorem meet_critical {s : State} {c v : Nat} (effect : v ≠ 0) (still : (s.hap c).calibrating = false) (source : Nat) :
    s.meet c v source true = (s.yielded c).startEffect c ⟨v, s.effect v, source, true⟩ := by
  have unswept : (s.takenOver c).abortSweep c = s.takenOver c := by simp [abortSweep, hap_takenOver, still]
  cases playing : (s.hap c).play <;> simp only [meet, ← takenOver.eq_def, if_pos, unswept, hap_takenOver, effect_takenOver, if_neg effect, yielded, playing]

theorem takenOver_channel (s : State) (c : Nat) : Channel c s (s.takenOver c) := (abandonUnit_channel s c _ _).1

theorem yielded_channel (s : State) (c : Nat) : Channel c s (s.yielded c) := by
  unfold yielded
  split
  · exact (takenOver_channel s c).setHap.endEffect
  · exact takenOver_channel s c

theorem injEnable_not_written (c : Fin 8) : Obj.INJ_ENABLE ∉ hapWrites c.val := by
  simp only [hapWrites, hapShown, Obj.INJ_ENABLE, Obj.HAP_CONTROL, Obj.HAP_RES_HZ, Obj.HAP_RES_BEMF_MV, Obj.HAP_EFFECTS_DONE, Obj.HAP_EFFECTS_CUT,
    Obj.LOG_LOST, Obj.INJ_FIRED, Obj.INJ_TOTAL, Obj.INJ_ARM, Obj.HAP_STATE, Obj.HAP_NOW, Obj.HAP_STATUS, List.mem_cons, List.not_mem_nil, or_false]
  omega

theorem triggerStatus_notLocked (s : State) (c v : Nat) (critical : Bool) : s.triggerStatus c v critical ≠ Status.ownerLocked := by
  unfold triggerStatus
  dsimp only
  split_ifs <;> decide

theorem trigger_ok {s : State} {c v : Nat} {critical : Bool} (ok : s.triggerStatus c v critical = Status.ok) (source : Nat) :
    s.trigger c v source critical = (Status.ok, s.meet c v source critical) := by simp [trigger, ok]

theorem trigger_refused {s : State} {c v : Nat} {critical : Bool} (refused : s.triggerStatus c v critical ≠ Status.ok) (source : Nat) :
    s.trigger c v source critical = (s.triggerStatus c v critical, s) := by simp [trigger, refused]

theorem writeHapPlay_own (s : State) {rq : Requester} (own : isHost rq = false ∨ rq = .manager) (c v : Nat) :
    s.writeHapPlay rq c v = s.trigger c v (triggerSource rq) false := by
  cases rq with
  | guest i => simp [isHost] at own
  | _ => rfl

end State

open State

section
variable {s : State} {rq : Requester} {c : Fin 8} {v : Fin 256}

theorem execHapPlay_starts (accepted : s.accepts rq (Obj.HAP_PLAY c.val) v.val = true) (own : isHost rq = false ∨ rq = .manager)
    (ok : s.triggerStatus c.val v.val false = Status.ok) (effect : v.val ≠ 0) (quiet : (s.hap c.val).play = none)
    (overdrives : 0 < efOd (s.effect v.val)) (noInjection : s.rd Obj.INJ_ENABLE ≠ 1) :
    ∃ t p, exec (.hapPlay rq c v) s = .next t ∧ (t.hap c.val).play = some p ∧ p.effect = v.val ∧ p.phase = .overdrive ∧ p.half = 0 ∧
      p.source = triggerSource rq ∧ p.critical = false ∧ t.answered rq Status.ok ∧ (∀ n, n ≠ c.val → t.hap n = s.hap n) ∧ s.sameMemory t := by
  have write : s.writeHapPlay rq c.val v.val = (Status.ok, (s.takenOver c.val).startEffect c.val ⟨v.val, s.effect v.val, triggerSource rq, false⟩) := by
    rw [writeHapPlay_own s own, trigger_ok ok, meet_idle effect quiet]
  have before := takenOver_channel s c.val
  obtain ⟨started, p, plays, number, phase, half, source, critical⟩ := startEffect_plays (q := ⟨v.val, s.effect v.val, triggerSource rq, false⟩) overdrives
    (before.edits.rd (injEnable_not_written c) ▸ noInjection)
  exact ⟨_, p, ownRequest_answers accepted write (by decide), plays, number, phase, half, source, critical, answered_answer ..,
    (before.trans started).answer.frame⟩

theorem execHapPlay_refused (accepted : s.accepts rq (Obj.HAP_PLAY c.val) v.val = true) (own : isHost rq = false ∨ rq = .manager)
    (refused : s.triggerStatus c.val v.val false ≠ Status.ok) :
    exec (.hapPlay rq c v) s = .next (s.answer rq (s.triggerStatus c.val v.val false)) :=
  ownRequest_answers accepted ((writeHapPlay_own s own ..).trans (trigger_refused refused _)) (triggerStatus_notLocked s c.val v.val false)

/-- An instance that the channel is not granted to may not trigger it (R488). -/
theorem execHapPlay_locked {i : Fin 64} (accepted : s.accepts (.guest i) (Obj.HAP_PLAY c.val) v.val = true)
    (ungranted : s.rd (Obj.HAP_INST_GRANT c.val) ≠ i.val) :
    ∃ t, exec (.hapPlay (.guest i) c v) s = .next t ∧ t.answered (.guest i) Status.ownerLocked ∧ t.apart = s.apart ∧ s.objectsBut t [Obj.LOG_LOST] := by
  have write : s.writeHapPlay (.guest i) c.val v.val = (Status.ownerLocked, s) := if_pos ungranted
  have run : exec (.hapPlay (.guest i) c v) s
      = .next ((s.ownerRefused (Requester.guest i).code (refusedResource (Obj.HAP_PLAY c.val)) 0).answer (.guest i) Status.ownerLocked) := by
    change Host.Outcome.next _ = _
    rw [ownRequest_locked _ _ _ _ _ accepted (by rw [write]), write]
  refine ⟨_, run, answered_answer .., by simp, fun a ha => ?_⟩
  rw [answer_rd, rd_ownerRefused _ _ _ _ _ (by simpa using ha)]

theorem execHapCritPlay_starts (accepted : s.accepts rq (Obj.HAP_CRIT_PLAY c.val) v.val = true) (valid : s.effectOk v.val = true)
    (bittern : s.critChannel c.val = true) (ok : s.triggerStatus c.val v.val true = Status.ok) (effect : v.val ≠ 0)
    (still : (s.hap c.val).calibrating = false) (overdrives : 0 < efOd (s.effect v.val)) (noInjection : s.rd Obj.INJ_ENABLE ≠ 1) :
    ∃ t p, exec (.hapCritPlay rq c v) s = .next t ∧ (t.hap c.val).play = some p ∧ p.effect = v.val ∧ p.critical = true ∧ p.phase = .overdrive ∧
      t.answered rq Status.ok ∧ s.sameMemory t := by
  have write : s.writeCritPlay c.val v.val = (Status.ok, (s.yielded c.val).startEffect c.val ⟨v.val, s.effect v.val, 6, true⟩) := by
    simp [writeCritPlay, valid, bittern, trigger_ok ok, meet_critical effect still]
  have before := yielded_channel s c.val
  obtain ⟨started, p, plays, number, phase, -, -, critical⟩ := startEffect_plays (q := ⟨v.val, s.effect v.val, 6, true⟩) overdrives
    (before.edits.rd (injEnable_not_written c) ▸ noInjection)
  exact ⟨_, p, ownRequest_answers accepted write (by decide), plays, number, critical, phase, answered_answer ..,
    (before.trans started).edits.answer.sameMemory⟩

theorem execHapCritPlay_refused (accepted : s.accepts rq (Obj.HAP_CRIT_PLAY c.val) v.val = true) (valid : s.effectOk v.val = true)
    (free : s.critChannel c.val = false) : exec (.hapCritPlay rq c v) s = .next (s.answer rq Status.hapNotCritical) :=
  ownRequest_answers accepted (t := s) (by simp [writeCritPlay, valid, free]) (by decide)

end

section
variable {s : State} {c : Fin 8} {p : HapPlay} {peak : Nat} (plays : (s.hap c.val).play = some p) (whole : p.cut = false)

/-- The effect in play after one more half-cycle of it (R491). -/
def halfCycled (s : State) (c : Nat) (p : HapPlay) (peak : Nat) : HapPlay :=
  { p with half := p.half + 1, moved := p.moved || Nat.blt (s.rd Obj.HAP_BRAKE_THRESH_MV) peak,
           strong := p.strong + ofBool (decide (p.phase = .sustain) && Nat.ble 50 p.level), periodNs := s.nextPeriod c p none }

include plays whole in
/-- A half-cycle of an effect that is not cut short, in each phase. -/
theorem execHalfCycleEnd_whole :
    (p.phase = .overdrive → exec (.halfCycleEnd c peak none) s = .next (s.toPhase c.val (halfCycled s c.val p peak)
      (if efOd p.desc ≤ p.half + 1 then (halfCycled s c.val p peak).enter .sustain else some (halfCycled s c.val p peak)))) ∧
    (p.phase = .sustain → efSus p.desc ≤ p.half + 1 → exec (.halfCycleEnd c peak none) s = .next (s.toPhase c.val (halfCycled s c.val p peak)
      ((halfCycled s c.val p peak).enter .braking))) ∧
    (p.phase = .braking → peak < s.rd Obj.HAP_BRAKE_THRESH_MV → exec (.halfCycleEnd c peak none) s
      = .next (s.endPulse c.val (halfCycled s c.val p peak))) := by
  refine ⟨fun phase => ?_, fun phase last => ?_, fun phase still => ?_⟩
  · change execHalfCycleEnd c peak none s = _
    simp only [execHalfCycleEnd, plays, phase, whole]
    by_cases last : efOd p.desc ≤ p.half + 1
    · simp [last, halfCycled, phase, whole]
    · simp [last, halfCycled, phase, whole]
  · change execHalfCycleEnd c peak none s = _
    simp [execHalfCycleEnd, plays, phase, last, halfCycled]
  · change execHalfCycleEnd c peak none s = _
    simp [execHalfCycleEnd, plays, phase, still, halfCycled]

include plays whole in
theorem execHalfCycleEnd_overdrives (phase : p.phase = .overdrive) (more : p.half + 1 < efOd p.desc) :
    ∃ t q, exec (.halfCycleEnd c peak none) s = .next t ∧ (t.hap c.val).play = some q ∧ q.effect = p.effect ∧ q.phase = .overdrive ∧
      q.half = p.half + 1 ∧ s.sameMemory t := by
  have run := (execHalfCycleEnd_whole (peak := peak) plays whole).1 phase
  rw [if_neg more.not_ge] at run
  obtain ⟨channel, clipped, playing⟩ := toPhase_plays s c.val (halfCycled s c.val p peak) (halfCycled s c.val p peak)
  exact ⟨_, _, run, playing, rfl, phase, rfl, channel.edits.sameMemory⟩

include plays whole in
theorem execHalfCycleEnd_sustains (phase : p.phase = .overdrive) (last : efOd p.desc ≤ p.half + 1) (sustained : 0 < efSus p.desc) :
    ∃ t q, exec (.halfCycleEnd c peak none) s = .next t ∧ (t.hap c.val).play = some q ∧ q.effect = p.effect ∧ q.phase = .sustain ∧ q.half = 0 ∧
      s.sameMemory t := by
  have run := (execHalfCycleEnd_whole (peak := peak) plays whole).1 phase
  rw [if_pos last, enter_sustain (p := halfCycled s c.val p peak) sustained] at run
  obtain ⟨channel, clipped, playing⟩ := toPhase_plays s c.val (halfCycled s c.val p peak) { halfCycled s c.val p peak with phase := .sustain, half := 0 }
  exact ⟨_, _, run, playing, rfl, rfl, rfl, channel.edits.sameMemory⟩

include plays whole in
theorem execHalfCycleEnd_brakes (phase : p.phase = .sustain) (last : efSus p.desc ≤ p.half + 1) (braked : 0 < efBrake p.desc) :
    ∃ t q, exec (.halfCycleEnd c peak none) s = .next t ∧ (t.hap c.val).play = some q ∧ q.effect = p.effect ∧ q.phase = .braking ∧ q.half = 0 ∧
      s.sameMemory t := by
  have run := (execHalfCycleEnd_whole (peak := peak) plays whole).2.1 phase last
  rw [enter_braking (p := halfCycled s c.val p peak) braked] at run
  obtain ⟨channel, clipped, playing⟩ := toPhase_plays s c.val (halfCycled s c.val p peak) { halfCycled s c.val p peak with phase := .braking, half := 0 }
  exact ⟨_, _, run, playing, rfl, rfl, rfl, channel.edits.sameMemory⟩

/-- The end of a pulse, before the next or the end of the effect: a channel that did not move is told. -/
def pulseJudged (s : State) (c : Nat) (p : HapPlay) : State :=
  if Nat.ble 4 p.strong && (!p.moved || p.injected) then
    (s.wrBit (Obj.HAP_STATUS c) 1 true).logInjected Ev.noMotion noOwner p.moved [d8 c, d8 p.effect]
  else s

theorem pulseJudged_channel (s : State) (c : Nat) (p : HapPlay) : Channel c s (pulseJudged s c p) := by
  have told : Channel c s ((s.wrBit (Obj.HAP_STATUS c) 1 true).logInjected Ev.noMotion noOwner p.moved [d8 c, d8 p.effect]) :=
    Channel.logInjected (Channel.refl s).wrBit
  exact .ite told (.refl s)

theorem pulseJudged_haps (s : State) (c : Nat) (p : HapPlay) : (pulseJudged s c p).haps = s.haps := by
  unfold pulseJudged
  split <;> simp

theorem rd_pulseJudged (s : State) (c : Nat) (p : HapPlay) {a : Nat} (status : a ≠ Obj.HAP_STATUS c) (lost : a ≠ Obj.LOG_LOST) :
    (pulseJudged s c p).rd a = s.rd a := by
  unfold pulseJudged
  split
  · rw [rd_logInjected _ _ _ _ _ _ lost, rd_wrBit, if_neg status]
  · rfl

theorem endPulse_more {q : HapPlay} (uncut : q.cut = false) (more : q.pulse + 1 < efPulses q.desc) : s.endPulse c.val q =
    (pulseJudged s c.val q).setHap c.val { (pulseJudged s c.val q).hap c.val with
      play := some { q with pulse := q.pulse + 1, phase := .gap, half := 0 } } := by
  simp only [endPulse, uncut, Bool.false_eq_true, if_false, if_pos more]
  rfl

theorem endPulse_last {q : HapPlay} (uncut : q.cut = false) (last : efPulses q.desc ≤ q.pulse + 1) : s.endPulse c.val q =
    (pulseJudged s c.val q).finishEffect c.val q 0 := by
  simp only [endPulse, uncut, Bool.false_eq_true, if_false, if_neg last.not_gt]
  rfl

include plays whole in
theorem execHalfCycleEnd_gap (phase : p.phase = .braking) (still : peak < s.rd Obj.HAP_BRAKE_THRESH_MV) (more : p.pulse + 1 < efPulses p.desc) :
    ∃ t q, exec (.halfCycleEnd c peak none) s = .next t ∧ (t.hap c.val).play = some q ∧ q.effect = p.effect ∧ q.phase = .gap ∧
      q.pulse = p.pulse + 1 ∧ s.sameMemory t := by
  have run := (execHalfCycleEnd_whole (peak := peak) plays whole).2.2 phase still
  rw [endPulse_more (q := halfCycled s c.val p peak) whole more] at run
  exact ⟨_, _, run, congrArg Hap.play (hap_setHap_same ..), rfl, rfl, rfl, (pulseJudged_channel ..).setHap.edits.sameMemory⟩

/-- The last effect of a channel ends well: it is counted, and the channel plays nothing. -/
theorem finishEffect_alone {t : State} {c : Nat} (alone : (t.hap c).queued = none) (q : HapPlay) :
    Channel c t (t.finishEffect c q 0) ∧ ((t.finishEffect c q 0).hap c).play = none ∧
      (t.finishEffect c q 0).rd (Obj.HAP_EFFECTS_DONE c) = wrapAdd 32 (t.rd (Obj.HAP_EFFECTS_DONE c)) 1 := by
  have ended : t.finishEffect c q 0 = (t.endEffect c q.effect q.source 0).setHap c { t.hap c with play := none } := by
    rw [finishEffect, nextEffect, hap_congr (endEffect_haps ..)]
    simp only [alone]
  have apart : Obj.HAP_EFFECTS_DONE c ∉ hapShown c ∧ Obj.HAP_EFFECTS_DONE c ≠ Obj.LOG_LOST := by
    simp only [hapShown, Obj.HAP_EFFECTS_DONE, Obj.HAP_STATE, Obj.HAP_NOW, Obj.HAP_STATUS, Obj.LOG_LOST, List.mem_cons, List.not_mem_nil, or_false]
    omega
  refine ⟨ended ▸ (Channel.refl t).endEffect.setHap, by rw [ended, hap_setHap_same], ?_⟩
  rw [ended, rd_setHap _ _ _ apart.1, endEffect, if_pos rfl, rd_tallyCount _ _ _ _ _ apart.2, rd_count, if_pos rfl]

include plays whole in
theorem execHalfCycleEnd_done (phase : p.phase = .braking) (still : peak < s.rd Obj.HAP_BRAKE_THRESH_MV) (last : efPulses p.desc ≤ p.pulse + 1)
    (alone : (s.hap c.val).queued = none) :
    ∃ t, exec (.halfCycleEnd c peak none) s = .next t ∧ (t.hap c.val).play = none ∧
      t.rd (Obj.HAP_EFFECTS_DONE c.val) = wrapAdd 32 (s.rd (Obj.HAP_EFFECTS_DONE c.val)) 1 ∧ s.sameMemory t := by
  have run := (execHalfCycleEnd_whole (peak := peak) plays whole).2.2 phase still
  rw [endPulse_last (q := halfCycled s c.val p peak) whole last] at run
  have apart : Obj.HAP_EFFECTS_DONE c.val ≠ Obj.HAP_STATUS c.val ∧ Obj.HAP_EFFECTS_DONE c.val ≠ Obj.LOG_LOST := by
    simp only [Obj.HAP_EFFECTS_DONE, Obj.HAP_STATUS, Obj.LOG_LOST]
    omega
  obtain ⟨channel, quiet, counted⟩ := finishEffect_alone (t := pulseJudged s c.val (halfCycled s c.val p peak))
    ((hap_congr (pulseJudged_haps ..) _).symm ▸ alone) (halfCycled s c.val p peak)
  exact ⟨_, run, quiet, counted.trans (by rw [rd_pulseJudged _ _ _ apart.1 apart.2]), ((pulseJudged_channel ..).trans channel).edits.sameMemory⟩

include plays in
/-- The next pulse begins with its overdrive. -/
theorem execPulseGapEnd_overdrives (phase : p.phase = .gap) (overdrives : 0 < efOd p.desc) :
    ∃ t q, exec (.pulseGapEnd c) s = .next t ∧ (t.hap c.val).play = some q ∧ q.effect = p.effect ∧ q.phase = .overdrive ∧ q.half = 0 ∧
      q.pulse = p.pulse ∧ s.sameMemory t := by
  have run : exec (.pulseGapEnd c) s = .next ((s.startPulse c.val { p with phase := .overdrive, half := 0 }).1.toPhase c.val
      (s.startPulse c.val { p with phase := .overdrive, half := 0 }).2 (some (s.startPulse c.val { p with phase := .overdrive, half := 0 }).2)) := by
    change execPulseGapEnd c s = _
    simp only [execPulseGapEnd, plays, phase, enter_overdrive overdrives]
    rfl
  have started : Channel c.val s (s.startPulse c.val { p with phase := .overdrive, half := 0 }).1 := (Channel.refl s).startPulse
  obtain ⟨channel, clipped, playing⟩ := toPhase_plays (s.startPulse c.val { p with phase := .overdrive, half := 0 }).1 c.val
    (s.startPulse c.val { p with phase := .overdrive, half := 0 }).2 (s.startPulse c.val { p with phase := .overdrive, half := 0 }).2
  exact ⟨_, _, run, playing, rfl, rfl, rfl, rfl, (started.trans channel).edits.sameMemory⟩

end

/-- Settles O48: a trigger starts its effect where it may, and each half-cycle takes the effect on, or into its next phase. -/
theorem effectsPlay : Obligations.EffectsPlay := by
  refine ⟨fun s rq c v accepted own => ⟨fun ok effect quiet overdrives noInjection => ?_, fun refused => ?_⟩, fun s i c v accepted ungranted => ?_,
    fun s rq c v accepted valid => ⟨fun bittern ok effect still overdrives noInjection => ?_, fun free => ?_⟩,
    fun s c p peak plays whole => ⟨fun phase more => ?_, fun phase last some => ?_, fun phase last some => ?_, fun phase still more => ?_,
      fun phase still last alone => ?_, fun phase some => ?_⟩⟩
  · exact execHapPlay_starts accepted own ok effect quiet overdrives noInjection
  · exact execHapPlay_refused accepted own refused
  · exact execHapPlay_locked accepted ungranted
  · exact execHapCritPlay_starts accepted valid bittern ok effect still overdrives noInjection
  · exact execHapCritPlay_refused accepted valid free
  · exact execHalfCycleEnd_overdrives plays whole phase more
  · exact execHalfCycleEnd_sustains plays whole phase last some
  · exact execHalfCycleEnd_brakes plays whole phase last some
  · exact execHalfCycleEnd_gap plays whole phase still more
  · exact execHalfCycleEnd_done plays whole phase still last alone
  · exact execPulseGapEnd_overdrives plays phase some

end Sys2Proof.Machine
end

section
/-!
SUPPORT, and the statement O46: scans. What a scan's end does beside its own unit — haptic effects it triggers, a report, records — leaves memory and the
unit's window as they were (`Scanning p s t`).
-/
namespace Sys2Proof.Machine
open Sys2Proof

namespace State

/-! ## Effects that a touch starts (R493) -/

namespace Channel
variable {c : Nat} {s t : State}

theorem startEffect (h : Channel c s t) {q : HapQueued} : Channel c s (t.startEffect c q) := by
  unfold State.startEffect
  extract_lets untuned p
  split
  · exact h.setHap.endEffect
  · exact h.startPulse.drive.setHap

theorem finishEffect (h : Channel c s t) {p : HapPlay} {result : Nat} : Channel c s (t.finishEffect c p result) := by
  rw [State.finishEffect, nextEffect]
  split
  · exact h.endEffect.setHap
  · exact h.endEffect.setHap.startEffect

theorem dropQueued (h : Channel c s t) : Channel c s (t.dropQueued c) := by
  unfold State.dropQueued
  dsimp only
  split
  · exact h
  · exact h.setHap.endEffect

theorem cutEffect (h : Channel c s t) {p : HapPlay} : Channel c s (t.cutEffect c p) := by
  unfold State.cutEffect
  dsimp only
  split
  · split
    · exact h.setHap
    · exact h.finishEffect
  · exact h.setHap

theorem meet (h : Channel c s t) {effect source : Nat} : Channel c s (t.meet c effect source false) := by
  have taken : Channel c s (t.takenOver c) := h.trans (takenOver_channel t c)
  simp only [State.meet, ← takenOver.eq_def, Bool.false_eq_true, if_false]
  split
  · exact .ite taken.dropQueued taken.startEffect
  · have queued {x : Hap} : Channel c s (if effect = 0 then (t.takenOver c).dropQueued c else ((t.takenOver c).dropQueued c).setHap c x) :=
      .ite taken.dropQueued taken.dropQueued.setHap
    exact .ite queued queued.cutEffect

theorem trigger (h : Channel c s t) {effect source : Nat} : Channel c s (t.trigger c effect source false).2 := by
  rw [State.trigger]
  split
  · exact h.meet
  · exact h

end Channel

/-- What an effect that a touch or key starts may write. -/
def effectWrites : List Nat := (List.range 8).flatMap hapWrites

theorem channel_lt (e : Nat) : field e 6 4 < 8 := Nat.mod_lt _ (by decide)

theorem handOver_edits (s : State) (source x y key : Nat) :
    Edits effectWrites s (s.handOver source x y key) ∧ (s.handOver source x y key).touchUnits = s.touchUnits := by
  unfold handOver
  split
  · exact ⟨.refl s, rfl⟩
  · next e he =>
    have triggered : Channel (field e 6 4) s (s.trigger (field e 6 4) (field e 15 8) 0 false).2 := (Channel.refl s).trigger
    exact ⟨triggered.edits.mono fun a ha => List.mem_flatMap.2 ⟨_, List.mem_range.2 (channel_lt e), ha⟩, triggered.touch⟩

theorem wake_touch (s : State) (cause : Nat) : (s.wake cause).touchUnits = s.touchUnits := by
  unfold wake
  split
  · rfl
  · split
    · rfl
    · split <;> rfl

theorem notifyMb_touch (s : State) (m bits : Nat) : (s.notifyMb m bits).touchUnits = s.touchUnits := by
  unfold notifyMb
  split
  · rfl
  · split <;> rfl

theorem ring_touch (s : State) (m bits : Nat) : (s.ring m bits).2.touchUnits = s.touchUnits := by
  unfold ring
  split
  · rfl
  · split
    · rfl
    · split
      · exact notifyMb_touch ..
      · dsimp only
        split
        · exact wake_touch ..
        · rfl

theorem ringObject_touch (s : State) (v : Nat) : (s.ringObject v).touchUnits = s.touchUnits := by
  unfold ringObject
  split
  · exact ring_touch ..
  · rfl

/-! ## A front end's scan (R445 to R462) -/

theorem front_of_touch {s t : State} (h : t.touchUnits = s.touchUnits) (n : Nat) : t.front n = s.front n := front_congr (congrArg Prod.fst h) n

theorem keyBank_of_touch {s t : State} (h : t.touchUnits = s.touchUnits) : t.keyBank = s.keyBank := congrArg Prod.snd h

/-- What a front end's scan may write. -/
def scanWrites (p : Nat) : List Nat :=
  [Obj.RF_STATUS p, Obj.RF_BASELINE p, Obj.RF_COUPLING p, Obj.RF_REPORT p, Obj.RF_HISTORY p, Obj.LOG_LOST] ++ effectWrites

/-- A part of a front end's scan: memory and the window stay. -/
structure Scanning (p : Nat) (s t : State) : Prop where
  edits : Edits (scanWrites p) s t
  window : (t.front p).window = (s.front p).window

namespace Scanning
variable {p : Nat} {s t : State}

theorem refl (s : State) : Scanning p s s := ⟨.refl s, rfl⟩

theorem of_touch {u : State} (h : Scanning p s t) (edits : Edits (scanWrites p) s u) (touch : u.touchUnits = t.touchUnits) : Scanning p s u :=
  ⟨edits, (congrArg FrontEnd.window (front_of_touch touch p)).trans h.window⟩

theorem ite {c : Prop} {_ : Decidable c} {u : State} (ht : Scanning p s t) (hu : Scanning p s u) : Scanning p s (if c then t else u) := by
  split
  · exact ht
  · exact hu

theorem setFront (h : Scanning p s t) {x : FrontEnd} (same : x.window = (t.front p).window := by rfl) : Scanning p s (t.setFront p x) := by
  refine ⟨h.edits.same, ?_⟩
  rw [front_setFront, if_pos rfl, same, h.window]

theorem wr (h : Scanning p s t) {a v : Nat} (ha : a ∈ scanWrites p := by simp [scanWrites]) : Scanning p s (t.wr a v) := h.of_touch (h.edits.wr ha) rfl

theorem wrBit (h : Scanning p s t) {a i : Nat} {b : Bool} (ha : a ∈ scanWrites p := by simp [scanWrites]) : Scanning p s (t.wrBit a i b) := h.wr ha

theorem logEvent (h : Scanning p s t) {code source : Nat} {ds : List Detail} : Scanning p s (t.logEvent code source ds) :=
  h.of_touch (h.edits.logEvent (by simp [scanWrites])) (by simp [touchUnits])

theorem tallyCount (h : Scanning p s t) {g k o : Nat} : Scanning p s (t.tallyCount g k o) :=
  h.of_touch (h.edits.tallyCount (by simp [scanWrites])) (by simp [touchUnits])

theorem showBase (h : Scanning p s t) : Scanning p s (t.showBase p) := h.wr.wrBit

theorem handOver (h : Scanning p s t) {source x y key : Nat} : Scanning p s (t.handOver source x y key) := by
  obtain ⟨edits, touch⟩ := handOver_edits t source x y key
  exact h.of_touch (h.edits.trans (edits.mono (by simp +contextual [scanWrites]))) touch

theorem trackBase (h : Scanning p s t) {mc d : List Int} : Scanning p s (t.trackBase p mc d) := by
  unfold State.trackBase
  extract_lets x rx blobs n had out suspect recal tracked told shown
  have htracked : Scanning p s tracked := h.setFront
  have htold : Scanning p s told := .ite htracked htracked.logEvent.tallyCount
  exact .ite htold.showBase.logEvent htold.showBase

theorem trackSelf (h : Scanning p s t) {raised : Bool} {m d : List Int} : Scanning p s (t.trackSelf p raised m d) := by
  unfold State.trackSelf
  extract_lets x rx tx b held n out b' drawn
  have hdrawn : Scanning p s drawn := .ite h (h.of_touch h.edits.same rfl)
  have same : (drawn.front p).window = (t.front p).window := by
    unfold drawn
    split <;> rfl
  exact hdrawn.setFront same.symm

theorem holdContacts (h : Scanning p s t) (cs : List Contact) : Scanning p s (t.holdContacts p cs).1 := by
  induction cs generalizing t with
  | nil => exact h
  | cons c cs ih =>
    refine ih ?_
    rw [holdContact]
    split
    · dsimp only
      exact h.logEvent
    · exact h

theorem scanReport (h : Scanning p s t) {seq r : Nat} : Scanning p s (t.scanReport p seq r) := by
  have counted : Scanning p s (((t.wr (Obj.RF_REPORT p) r).wr (Obj.RF_HISTORY p) (setBytes (t.rd (Obj.RF_HISTORY p)) (184 * (seq % 16)) 184 r)).tallyCount
      30 p noOwner) := h.wr.wr.tallyCount
  exact counted.of_touch (counted.edits.of_stores (ringObject_stores ..)) (ringObject_touch ..)

theorem fit (h : Scanning p s t) {counts : List Nat} {base d : List Int} {w : ScanPixels} : Scanning p s (t.fit p counts base d w) := h.wr

theorem scanContacts (h : Scanning p s t) {run : ScanRun} {d sd : List Int} : Scanning p s (t.scanContacts p run d sd) := by
  unfold State.scanContacts
  extract_lets x found place m kept news ids fresh above held s₁ long entries standing sorted s₂ s₃ s₄ hold src s₅ s₆ s₇
  have h₁ : Scanning p s s₁ := h.holdContacts _
  have h₂ : Scanning p s s₂ := eachIn_keeps (P := Scanning p s) (fun _ _ _ ht => ht.handOver) h₁
  have h₃ : Scanning p s s₃ := eachIn_keeps (P := Scanning p s) (fun _ _ _ ht => ht.tallyCount) h₂
  have h₄ : Scanning p s s₄ := .ite h₃.logEvent h₃
  have h₅ : Scanning p s s₅ := h₄.setFront
  have h₆ : Scanning p s s₆ := .ite h₅.wrBit h₅
  have h₇ : Scanning p s s₇ := h₆.wrBit.wrBit
  exact h₇.scanReport

end Scanning

/-- A scan's measurements after cancellation depend on objects and outputs alone. -/
theorem cancelled_congr {s t : State} (p : Nat) {o : Nat} (rd : ∀ a, a ≠ Obj.RF_STATUS o → t.rd a = s.rd a) (outs : t.outs = s.outs) (counts : List Nat)
    (w : ScanPixels) : t.cancelled p counts w = s.cancelled p counts w := by
  have geometry : t.rd (Obj.RF_GEOMETRY p) = s.rd (Obj.RF_GEOMETRY p) := rd _ (by simp only [Obj.RF_GEOMETRY, Obj.RF_STATUS]; omega)
  have coupling : t.rd (Obj.RF_COUPLING p) = s.rd (Obj.RF_COUPLING p) := rd _ (by simp only [Obj.RF_COUPLING, Obj.RF_STATUS]; omega)
  have output : t.rd (Obj.RF_PANEL_OUTPUT p) = s.rd (Obj.RF_PANEL_OUTPUT p) := rd _ (by simp only [Obj.RF_PANEL_OUTPUT, Obj.RF_STATUS]; omega)
  have pairs : t.rd Obj.OUT_PAIR_LOCK = s.rd Obj.OUT_PAIR_LOCK := rd _ (by simp only [Obj.OUT_PAIR_LOCK, Obj.RF_STATUS]; omega)
  have timing (k : Nat) : t.rd (Obj.OUT_TIMING k) = s.rd (Obj.OUT_TIMING k) := rd _ (by simp only [Obj.OUT_TIMING, Obj.RF_STATUS]; omega)
  have lines (k : Nat) : t.rd (Obj.OUT_VT_MIN k) = s.rd (Obj.OUT_VT_MIN k) := rd _ (by simp only [Obj.OUT_VT_MIN, Obj.RF_STATUS]; omega)
  have panel : t.panel p = s.panel p := by simp only [State.panel, output]
  have features (r : Nat) : t.features p r w = s.features p r w := by
    simp only [State.features, panelState, panel, State.timing, State.paired, columns, rxUsed, geometry, pairs, timing, lines, out_congr outs] <;> rfl
  simp only [cancelled, rxUsed, txUsed, coefficients, geometry, coupling, features]

theorem rfState_not_scanned (p : Fin 2) : Obj.RF_STATE p.val ∉ scanWrites p.val := by
  simp only [scanWrites, effectWrites, hapWrites, hapShown, List.mem_append, List.mem_flatMap, List.mem_range, List.mem_cons, List.not_mem_nil, or_false,
    Obj.RF_STATE, Obj.RF_STATUS, Obj.RF_BASELINE, Obj.RF_COUPLING, Obj.RF_REPORT, Obj.RF_HISTORY, Obj.LOG_LOST, Obj.HAP_CONTROL, Obj.HAP_RES_HZ,
    Obj.HAP_RES_BEMF_MV, Obj.HAP_EFFECTS_DONE, Obj.HAP_EFFECTS_CUT, Obj.INJ_FIRED, Obj.INJ_TOTAL, Obj.INJ_ARM, Obj.HAP_STATE, Obj.HAP_NOW,
    Obj.HAP_STATUS]
  omega

theorem windowRuns_front (s : State) (p : Fin 2) : s.windowRuns p.val = (s.front p.val).window.isSome := if_neg (by omega)

/-- The front end with its window ended. -/
def windowEnded (s : State) (p : Nat) (run : ScanRun) : State :=
  (s.setFront p { s.front p with window := none }).wrBit (Obj.RF_STATUS p) 4 run.raised

theorem front_windowEnded (s : State) (p : Nat) (run : ScanRun) : (s.windowEnded p run).front p = { s.front p with window := none } :=
  (front_setFront ..).trans (if_pos rfl)

theorem windowEnded_edits (s : State) (p : Nat) (run : ScanRun) : Edits [Obj.RF_STATUS p] s (s.windowEnded p run) := by
  have ended : Edits [Obj.RF_STATUS p] s (s.setFront p { s.front p with window := none }) := (Edits.refl s).same
  exact ended.wrBit

theorem rd_windowEnded_state (s : State) (p : Nat) (run : ScanRun) : (s.windowEnded p run).rd (Obj.RF_STATE p) = s.rd (Obj.RF_STATE p) :=
  (windowEnded_edits s p run).rd (by simp [Obj.RF_STATE, Obj.RF_STATUS])

end State

open State

section
variable {s : State} {p : Fin 2} {w : ScanRun} {counts selfCounts : List Nat} {pixels : ScanPixels} (window : (s.front p.val).window = some w)

include window in
theorem execScanComplete_off (ending : (s.front p.val).ending = true) (quiet : (s.front p.val).contacts = []) :
    ∃ t, exec (.scanComplete p counts selfCounts pixels) s = .next t ∧ t.windowRuns p.val = false ∧ t.rd (Obj.RF_STATE p.val) = touchOff ∧
      s.objectsBut t [Obj.RF_STATE p.val, Obj.RF_STATUS p.val] ∧ s.sameMemory t := by
  have run : exec (.scanComplete p counts selfCounts pixels) s = .next ((s.windowEnded p.val w).frontOff p.val w) := by
    change execScanComplete p counts selfCounts pixels s = _
    rw [execScanComplete]
    simp only [window]
    rw [← windowEnded.eq_def, if_pos ending]
  rw [frontOff_quiet (by rw [front_windowEnded, quiet])] at run
  have edits : Edits [Obj.RF_STATE p.val, Obj.RF_STATUS p.val] s ((((s.windowEnded p.val w).setFront p.val
      { force := ((s.windowEnded p.val w).front p.val).force }).wr (Obj.RF_STATE p.val) touchOff).wr (Obj.RF_STATUS p.val)
      ((s.windowEnded p.val w).rd (Obj.RF_STATUS p.val) &&& 0xC)) :=
    ((((windowEnded_edits s p.val w).mono (by simp)).same).wr).wr
  refine ⟨_, run, ?_, ?_, edits.frame⟩
  · rw [windowRuns_front, front_wr, front_wr, front_setFront, if_pos rfl]
    rfl
  · rw [rd_wr_other _ _ _ _ (rfObjects_ne p.val).2.2, rd_wr_same]

include window in
theorem execScanComplete_runs (going : (s.front p.val).ending = false) (running : s.rd (Obj.RF_STATE p.val) = touchRunning) :
    ∃ t, exec (.scanComplete p counts selfCounts pixels) s = .next t ∧ t.windowRuns p.val = false ∧ (t.front p.val).scans = (s.front p.val).scans + 1 ∧
      t.rd (Obj.RF_STATE p.val) = touchRunning ∧ s.sameMemory t := by
  have run : ∃ t, Scanning p.val (s.windowEnded p.val w) t ∧
      exec (.scanComplete p counts selfCounts pixels) s = .next (t.setFront p.val { t.front p.val with scans := (s.front p.val).scans + 1 }) := by
    change ∃ t, _ ∧ execScanComplete p counts selfCounts pixels s = _
    rw [execScanComplete]
    simp only [window]
    rw [← windowEnded.eq_def, if_neg (by rw [going]; decide), rd_windowEnded_state, if_neg (by rw [running]; decide)]
    have tracked {mc d : List Int} : Scanning p.val (s.windowEnded p.val w) ((s.windowEnded p.val w).trackBase p.val mc d) := (Scanning.refl _).trackBase
    have measured {mc d m e : List Int} {raised : Bool} {c : Prop} {_ : Decidable c} : Scanning p.val (s.windowEnded p.val w)
        (if c then (s.windowEnded p.val w).trackBase p.val mc d else ((s.windowEnded p.val w).trackBase p.val mc d).trackSelf p.val raised m e) :=
      .ite tracked tracked.trackSelf
    exact ⟨_, .ite measured.scanContacts.fit measured.scanContacts, rfl⟩
  obtain ⟨t, scanning, run⟩ := run
  refine ⟨_, run, ?_, ?_, ?_, ?_⟩
  · rw [windowRuns_front, front_setFront, if_pos rfl, scanning.window, front_windowEnded]
    rfl
  · rw [front_setFront, if_pos rfl]
  · exact (scanning.edits.rd (rfState_not_scanned p)).trans ((rd_windowEnded_state ..).trans running)
  · exact ((windowEnded_edits ..).mono (by simp [scanWrites])).trans scanning.edits |>.sameMemory

/-- The sums of a baselining scan, with its measurements after cancellation (R461). -/
def baselineSum (s : State) (p : Nat) (counts : List Nat) (pixels : ScanPixels) : List Int :=
  if (s.front p).sum = [] then s.cancelled p counts pixels else List.zipWith (fun u v => u + v) (s.front p).sum (s.cancelled p counts pixels)

theorem cancelled_windowEnded (s : State) (p : Nat) (run : ScanRun) : (s.windowEnded p run).cancelled p counts pixels = s.cancelled p counts pixels :=
  cancelled_congr p (o := p) (fun a ha => (windowEnded_edits s p run).rd (by simpa using ha)) rfl counts pixels

theorem front_showBase (s : State) (p n : Nat) : (s.showBase p).front n = s.front n := by
  rw [showBase, front_congr (wrBit_fronts ..), front_wr]

theorem setFront_edits (os : List Nat) (s : State) (p : Nat) (x : FrontEnd) : Edits os s (s.setFront p x) := (Edits.refl s).same

/-- The end of baselining (R461): the means are the baselines, and the front end runs. -/
theorem endBaselining_runs (s : State) (p : Fin 2) (sum selfSum : List Int) (raised : Bool) :
    Edits [Obj.RF_STATE p.val, Obj.RF_STATUS p.val, Obj.RF_BASELINE p.val, Obj.LOG_LOST] s (s.endBaselining p.val sum selfSum raised) ∧
    (s.endBaselining p.val sum selfSum raised).rd (Obj.RF_STATE p.val) = touchRunning ∧
    ((s.endBaselining p.val sum selfSum raised).front p.val).window = (s.front p.val).window ∧
    ((s.endBaselining p.val sum selfSum raised).front p.val).scans = (s.front p.val).scans ∧
    ((s.endBaselining p.val sum selfSum raised).front p.val).base = sum.map (fun v => v / 4) := by
  have apart : Obj.RF_STATE p.val ≠ Obj.RF_BASELINE p.val ∧ Obj.RF_STATE p.val ≠ Obj.RF_STATUS p.val ∧ Obj.RF_STATE p.val ≠ Obj.LOG_LOST := by
    simp only [Obj.RF_STATE, Obj.RF_BASELINE, Obj.RF_STATUS, Obj.LOG_LOST]
    omega
  obtain ⟨baseline, status, lost⟩ := apart
  unfold endBaselining
  extract_lets rx tx base percent suspect selves x stored shown
  have front : shown.front p.val = stored.front p.val := (front_showBase ..).trans (front_wr ..)
  have kept : (stored.front p.val).window = (s.front p.val).window ∧ (stored.front p.val).scans = (s.front p.val).scans ∧
      (stored.front p.val).base = base := by
    rw [front_setFront, if_pos rfl]
    exact ⟨rfl, rfl, rfl⟩
  have same : Edits [Obj.RF_STATE p.val, Obj.RF_STATUS p.val, Obj.RF_BASELINE p.val, Obj.LOG_LOST] s stored := setFront_edits ..
  have edits : Edits [Obj.RF_STATE p.val, Obj.RF_STATUS p.val, Obj.RF_BASELINE p.val, Obj.LOG_LOST] s shown :=
    ((same.wr (a := Obj.RF_STATE p.val)).wr (a := Obj.RF_BASELINE p.val)).wrBit (a := Obj.RF_STATUS p.val)
  have state : shown.rd (Obj.RF_STATE p.val) = touchRunning := by
    rw [show shown = (stored.wr (Obj.RF_STATE p.val) touchRunning).showBase p.val from rfl, showBase, rd_wrBit, if_neg status,
      rd_wr_other _ _ _ _ baseline, rd_wr_same]
  clear_value shown stored
  obtain ⟨window, scans, means⟩ := kept
  split
  · refine ⟨edits.logEvent, (rd_logEvent _ _ _ _ _ lost).trans state, ?_, ?_, ?_⟩ <;> rw [front_congr (logEvent_fronts ..), front] <;> assumption
  · exact ⟨edits, state, front ▸ window, front ▸ scans, front ▸ means⟩

include window in
theorem execScanComplete_baselines (going : (s.front p.val).ending = false) (baselining : s.rd (Obj.RF_STATE p.val) = touchBaselining) :
    ∃ t, exec (.scanComplete p counts selfCounts pixels) s = .next t ∧ t.windowRuns p.val = false ∧ (t.front p.val).scans = (s.front p.val).scans + 1 ∧
      ((s.front p.val).scans + 1 < 4 → t.rd (Obj.RF_STATE p.val) = touchBaselining ∧ (t.front p.val).sum = baselineSum s p.val counts pixels) ∧
      (4 ≤ (s.front p.val).scans + 1 → t.rd (Obj.RF_STATE p.val) = touchRunning ∧
        (t.front p.val).base = (baselineSum s p.val counts pixels).map (fun v => v / 4)) ∧ s.sameMemory t := by
  have run : ∃ selfSum x, x.window = none ∧ x.scans = (s.front p.val).scans + 1 ∧ x.sum = baselineSum s p.val counts pixels ∧
      exec (.scanComplete p counts selfCounts pixels) s = .next (if 4 ≤ (s.front p.val).scans + 1 then
        ((s.windowEnded p.val w).setFront p.val x).endBaselining p.val (baselineSum s p.val counts pixels) selfSum w.raised
        else (s.windowEnded p.val w).setFront p.val x) := by
    change ∃ selfSum x, _ ∧ _ ∧ _ ∧ execScanComplete p counts selfCounts pixels s = _
    rw [execScanComplete]
    simp only [window]
    rw [← windowEnded.eq_def, if_neg (by rw [going]; decide), rd_windowEnded_state, if_pos baselining, cancelled_windowEnded, front_windowEnded]
    exact ⟨_, _, rfl, rfl, rfl, rfl⟩
  obtain ⟨selfSum, x, closed, scans, sum, run⟩ := run
  refine ⟨_, run, ?_⟩
  have before : Edits [Obj.RF_STATE p.val, Obj.RF_STATUS p.val, Obj.RF_BASELINE p.val, Obj.LOG_LOST] s ((s.windowEnded p.val w).setFront p.val x) :=
    ((windowEnded_edits s p.val w).mono (by simp)).same
  have front : ((s.windowEnded p.val w).setFront p.val x).front p.val = x := (front_setFront ..).trans (if_pos rfl)
  by_cases last : 4 ≤ (s.front p.val).scans + 1
  · obtain ⟨edits, state, ended, counted, means⟩ := endBaselining_runs ((s.windowEnded p.val w).setFront p.val x) p (baselineSum s p.val counts pixels)
      selfSum w.raised
    rw [front] at ended counted
    rw [if_pos last]
    exact ⟨by rw [windowRuns_front, ended, closed]; rfl, counted.trans scans, fun early => absurd last early.not_ge, fun _ => ⟨state, means⟩,
      (before.trans edits).sameMemory⟩
  · rw [if_neg last]
    exact ⟨by rw [windowRuns_front, front, closed]; rfl, by rw [front, scans], fun _ => ⟨(rd_windowEnded_state ..).trans baselining, by rw [front, sum]⟩,
      fun late => absurd late last, before.sameMemory⟩

end

/-! ## The keys' scan (R462, R477) -/

namespace State

/-- What a scan of the keys may write. -/
def keyWrites : List Nat := [Obj.KB_STATE, Obj.KB_BASELINE, Obj.KB_REPORT, Obj.LOG_LOST] ++ effectWrites

/-- A part of a scan of the keys: memory, and the bank as it stands, stay. -/
structure KeyScanning (s t : State) : Prop where
  edits : Edits keyWrites s t
  bank : t.keyBank = s.keyBank
  state : t.rd Obj.KB_STATE = s.rd Obj.KB_STATE

theorem kbState_not_effect : Obj.KB_STATE ∉ effectWrites := by
  simp only [effectWrites, hapWrites, hapShown, List.mem_flatMap, List.mem_range, List.mem_cons, List.not_mem_nil, or_false, Obj.KB_STATE,
    Obj.LOG_LOST, Obj.HAP_CONTROL, Obj.HAP_RES_HZ, Obj.HAP_RES_BEMF_MV, Obj.HAP_EFFECTS_DONE, Obj.HAP_EFFECTS_CUT, Obj.INJ_FIRED, Obj.INJ_TOTAL,
    Obj.INJ_ARM, Obj.HAP_STATE, Obj.HAP_NOW, Obj.HAP_STATUS]
  omega

namespace KeyScanning
variable {s t : State}

theorem refl (s : State) : KeyScanning s s := ⟨.refl s, rfl, rfl⟩

theorem of_touch {u : State} (h : KeyScanning s t) {os : List Nat} (edits : Edits os t u) (touch : u.touchUnits = t.touchUnits)
    (hos : ∀ a ∈ os, a ∈ keyWrites) (state : Obj.KB_STATE ∉ os) : KeyScanning s u :=
  ⟨h.edits.trans (edits.mono hos), (keyBank_of_touch touch).trans h.bank, (edits.rd state).trans h.state⟩

theorem logEvent (h : KeyScanning s t) {code source : Nat} {ds : List Detail} : KeyScanning s (t.logEvent code source ds) :=
  h.of_touch (Edits.logEvent (os := [Obj.LOG_LOST]) (.refl t)) (by simp [touchUnits]) (by simp [keyWrites]) (by simp [Obj.KB_STATE, Obj.LOG_LOST])

theorem tallyCount (h : KeyScanning s t) {g k o : Nat} : KeyScanning s (t.tallyCount g k o) :=
  h.of_touch (Edits.tallyCount (os := [Obj.LOG_LOST]) (.refl t)) (by simp [touchUnits]) (by simp [keyWrites]) (by simp [Obj.KB_STATE, Obj.LOG_LOST])

theorem handOver (h : KeyScanning s t) {source x y key : Nat} : KeyScanning s (t.handOver source x y key) := by
  obtain ⟨edits, touch⟩ := handOver_edits t source x y key
  exact h.of_touch edits touch (by simp +contextual [keyWrites]) kbState_not_effect

theorem showKeys (h : KeyScanning s t) : KeyScanning s t.showKeys :=
  h.of_touch (Edits.wr (os := [Obj.KB_BASELINE]) (.refl t)) rfl (by simp [keyWrites]) (by simp [Obj.KB_STATE, Obj.KB_BASELINE])

theorem reportKeys (h : KeyScanning s t) {r : Nat} : KeyScanning s (t.reportKeys r) := by
  have written : KeyScanning s (t.wr Obj.KB_REPORT r) :=
    h.of_touch (Edits.wr (os := [Obj.KB_REPORT]) (.refl t)) rfl (by simp [keyWrites]) (by simp [Obj.KB_STATE, Obj.KB_REPORT])
  have counted : KeyScanning s ((t.wr Obj.KB_REPORT r).tallyCount 30 6 noOwner) := written.tallyCount
  exact counted.of_touch (Edits.of_stores (os := []) (.refl _) (ringObject_stores ..)) (ringObject_touch ..) (by simp) (by simp)

theorem ite {c : Prop} {_ : Decidable c} {u : State} (ht : KeyScanning s t) (hu : KeyScanning s u) : KeyScanning s (if c then t else u) := by
  split
  · exact ht
  · exact hu

end KeyScanning

/-- Keys that are stored are shown. -/
theorem setKeys_stores (s : State) (k : KeyBank) : Edits keyWrites s (s.setKeys k).showKeys ∧ (s.setKeys k).showKeys.keyBank = k ∧
    (s.setKeys k).showKeys.rd Obj.KB_STATE = s.rd Obj.KB_STATE := by
  have shown : KeyScanning (s.setKeys k) (s.setKeys k).showKeys := KeyScanning.showKeys (.refl _)
  have stored : Edits keyWrites s (s.setKeys k) := (Edits.refl s).same
  exact ⟨stored.trans shown.edits, shown.bank, shown.state⟩

end State

section
variable {s : State} {w : ScanRun} {counts : List Nat} (window : s.keyBank.window = some w) (going : s.keyBank.ending = false)

include window going in
theorem execKeyScanComplete_runs (running : s.rd Obj.KB_STATE = touchRunning) :
    ∃ t, exec (.keyScanComplete counts) s = .next t ∧ t.windowRuns 2 = false ∧ t.keyBank.scans = s.keyBank.scans + 1 ∧ t.keyBank.keys.length = 24 ∧
      t.rd Obj.KB_STATE = touchRunning ∧ s.sameMemory t := by
  change ∃ t, execKeyScanComplete counts s = _ ∧ _
  have ran : (s.setKeys { s.keyBank with window := none, scans := s.keyBank.scans + 1 }).rd Obj.KB_STATE ≠ touchBaselining := by
    change s.rd Obj.KB_STATE ≠ _
    rw [running]
    decide
  generalize run : execKeyScanComplete counts s = o
  unfold execKeyScanComplete at run
  extract_lets kb ended m off ks bank means running' n' d n tracks had tracked recal s₁ s₂ cand str judged hold long bank' s₃ s₄ s₅ at run
  rw [show kb.window = some w from window] at run
  dsimp only at run
  rw [if_neg (by rw [going]; decide), if_neg ran] at run
  subst run
  have h₁ : KeyScanning ended s₁ := .ite (.refl _) (KeyScanning.refl _).logEvent.tallyCount
  have h₂ : KeyScanning ended s₂ := .ite h₁.logEvent h₁
  obtain ⟨stored, bank₃, state₃⟩ := setKeys_stores s₂ { bank' with keys := long }
  have h₅ : KeyScanning s₃ s₅ := eachIn_keeps (P := KeyScanning s₃) (fun _ _ _ ht => ht.handOver)
    (eachIn_keeps (P := KeyScanning s₃) (fun _ _ _ ht => ht.logEvent) (.refl s₃))
  have h₆ : KeyScanning s₃ (s₅.reportKeys (keyReport w kb.scans tracked long)) := h₅.reportKeys
  have bank₆ := h₆.bank.trans bank₃
  have began : Edits keyWrites s ended := (Edits.refl s).same
  refine ⟨_, rfl, ?_, ?_, ?_, ?_, (began.trans (h₂.edits.trans (stored.trans h₆.edits))).sameMemory⟩
  · rw [windowRuns, if_pos rfl, bank₆]
    exact congrArg (Option.isSome ∘ KeyBank.window) h₂.bank
  · rw [bank₆]
    exact congrArg KeyBank.scans h₂.bank
  · rw [bank₆]
    simp only [long, judged, List.length_map, List.length_range]
  · exact h₆.state.trans (state₃.trans (h₂.state.trans running))

/-- A key after a scan of its baselining. -/
theorem keySummed (counts : List Nat) {keys : List Key} {i : Nat} (hi : i < 24) {k : Key} (key : keys[i]? = some k) :
    (keys.zipIdx.map (fun e => { e.1 with sum := e.1.sum + ((List.range 24).map (fun i => 256 * Int.ofNat (counts.getD i 0))).getD e.2 0 }))[i]?
      = some { k with sum := k.sum + 256 * (counts.getD i 0 : Int) } := by
  simp [key, List.getElem?_zipIdx, List.getD_eq_getElem?_getD, hi]

include window going in
theorem execKeyScanComplete_baselines (baselining : s.rd Obj.KB_STATE = touchBaselining) :
    ∃ t, exec (.keyScanComplete counts) s = .next t ∧ t.windowRuns 2 = false ∧ t.keyBank.scans = s.keyBank.scans + 1 ∧
      (s.keyBank.scans + 1 < 4 → t.rd Obj.KB_STATE = touchBaselining ∧ ∀ i < 24, ∀ k, s.keyBank.keys[i]? = some k →
        t.keyBank.keys[i]? = some { k with sum := k.sum + 256 * (counts.getD i 0 : Int) }) ∧
      (4 ≤ s.keyBank.scans + 1 → t.rd Obj.KB_STATE = touchRunning ∧ ∀ i < 24, ∀ k, s.keyBank.keys[i]? = some k →
        (t.keyBank.keys[i]?.map Key.base) = some ((k.sum + 256 * (counts.getD i 0 : Int)) / 4)) ∧ s.sameMemory t := by
  change ∃ t, execKeyScanComplete counts s = _ ∧ _
  have ran : (s.setKeys { s.keyBank with window := none, scans := s.keyBank.scans + 1 }).rd Obj.KB_STATE = touchBaselining := baselining
  generalize run : execKeyScanComplete counts s = o
  unfold execKeyScanComplete at run
  extract_lets kb ended m off ks bank means shown n d n' tracks had tracked recal s₁ s₂ cand str judged hold long bank' s₃ s₄ s₅ at run
  rw [show kb.window = some w from window] at run
  dsimp only at run
  rw [if_neg (by rw [going]; decide), if_pos ran] at run
  have summed {i : Nat} (hi : i < 24) {k : Key} (key : s.keyBank.keys[i]? = some k) : ks[i]? = some { k with sum := k.sum + 256 * (counts.getD i 0 : Int) } :=
    keySummed counts hi key
  have began : Edits keyWrites s ended := (Edits.refl s).same
  by_cases early : kb.scans + 1 < 4
  · rw [if_pos early] at run
    subst run
    exact ⟨_, rfl, rfl, rfl, fun _ => ⟨baselining, fun i hi k key => summed hi key⟩, fun late => absurd early late.not_gt,
      Edits.sameMemory (os := keyWrites) began.same⟩
  · rw [if_neg early] at run
    subst run
    have stored : Edits keyWrites s ((ended.setKeys { bank with keys := means, runningAt := ended.dtime }).wr Obj.KB_STATE touchRunning) :=
      Edits.wr began.same (by simp [keyWrites])
    have told : KeyScanning ((ended.setKeys { bank with keys := means, runningAt := ended.dtime }).wr Obj.KB_STATE touchRunning)
        (if n = 0 then shown else shown.logEvent Ev.suspectPresent noOwner [d8 2, d32 n]) :=
      .ite (KeyScanning.refl _).showKeys (KeyScanning.refl _).showKeys.logEvent
    refine ⟨_, rfl, ?_, ?_, fun soon => absurd soon early, fun _ => ⟨told.state.trans (rd_wr_same ..), fun i hi k key => ?_⟩,
      (stored.trans told.edits).sameMemory⟩
    · rw [windowRuns, if_pos rfl, told.bank]
      rfl
    · rw [told.bank]
      rfl
    · rw [told.bank]
      change means[i]?.map Key.base = _
      simp [means, List.getElem?_zipIdx, summed hi key]

end

/-! ## Records and samples (R445, R451, R454) -/

theorem execSuspectAccepted_accepts {s : State} {p : Fin 2} (running : s.rd (Obj.RF_STATE p.val) = touchRunning)
    (suspect : countTrue (s.front p.val).suspect ≠ 0) :
    ∃ t, exec (.suspectAccepted ⟨p.val, by omega⟩) s = .next t ∧ countTrue (t.front p.val).suspect = 0 ∧ (t.front p.val).base = (s.front p.val).base ∧
      bit (t.rd (Obj.RF_STATUS p.val)) 0 = false ∧
      (s.log.fifo.length < 256 → t.told Ev.suspectAccepted noOwner [d8 p.val, d32 (countTrue (s.front p.val).suspect)]) ∧
      s.objectsBut t [Obj.RF_STATUS p.val, Obj.LOG_LOST] ∧ s.sameMemory t := by
  have run : exec (.suspectAccepted ⟨p.val, by omega⟩) s = .next (((s.setFront p.val { s.front p.val with
      suspect := (s.front p.val).suspect.map (fun _ => false) }).wrBit (Obj.RF_STATUS p.val) 0 false).logEvent Ev.suspectAccepted noOwner
        [d8 p.val, d32 (countTrue (s.front p.val).suspect)]) := by
    change execSuspectAccepted _ s = _
    rw [execSuspectAccepted, if_neg (by simp; omega), if_neg (by simp [running, suspect])]
  have edits : Edits [Obj.RF_STATUS p.val, Obj.LOG_LOST] s (s.setFront p.val { s.front p.val with
      suspect := (s.front p.val).suspect.map (fun _ => false) }) := setFront_edits ..
  have front (x : FrontEnd) (ds : List Detail) : (((s.setFront p.val x).wrBit (Obj.RF_STATUS p.val) 0 false).logEvent Ev.suspectAccepted noOwner
      ds).front p.val = x := by
    rw [front_congr (logEvent_fronts ..), front_congr (wrBit_fronts ..), front_setFront, if_pos rfl]
  refine ⟨_, run, ?_, ?_, ?_, fun room => told_logEvent _ _ _ _ room, edits.wrBit.logEvent.frame⟩
  · rw [front]
    simp [countTrue]
  · rw [front]
  · rw [rd_logEvent _ _ _ _ _ (by simp only [Obj.RF_STATUS, Obj.LOG_LOST]; omega), bit_wrBit_same, if_pos rfl]

theorem execListenSample_enters {s : State} {p : Fin 2} {sample : Int} {k : Nat} (panel : s.panel p.val = some k) (scans : s.scans p.val = true)
    (active : (s.out k).state = .active) (listens : (s.front p.val).listen ≠ []) (within : (s.front p.val).band ≠ 31) :
    ∃ t, exec (.listenSample p sample) s = .next t ∧ (t.front p.val).band = ((s.front p.val).band + 1) % 32 ∧
      (t.front p.val).listen = modifyAt (s.front p.val).listen (s.front p.val).band (fun l => (sample :: l).take 4) ∧
      t.rd (Obj.RF_NOISE p.val) = packItems 2 ((t.front p.val).listen.map bandNoise) ∧ s.objectsBut t [Obj.RF_NOISE p.val] ∧ s.sameMemory t := by
  have run : exec (.listenSample p sample) s = .next ((s.setFront p.val { s.front p.val with
      listen := modifyAt (s.front p.val).listen (s.front p.val).band (fun l => (sample :: l).take 4),
      band := ((s.front p.val).band + 1) % 32 }).wr (Obj.RF_NOISE p.val)
        (packItems 2 ((modifyAt (s.front p.val).listen (s.front p.val).band (fun l => (sample :: l).take 4)).map bandNoise))) := by
    change execListenSample p sample s = _
    simp [execListenSample, panel, scans, active, listens, within]
  have edits : Edits [Obj.RF_NOISE p.val] s (s.setFront p.val { s.front p.val with
      listen := modifyAt (s.front p.val).listen (s.front p.val).band (fun l => (sample :: l).take 4),
      band := ((s.front p.val).band + 1) % 32 }) := setFront_edits ..
  refine ⟨_, run, ?_, ?_, ?_, edits.wr.frame⟩
  · rw [front_wr, front_setFront, if_pos rfl]
  · rw [front_wr, front_setFront, if_pos rfl]
  · rw [rd_wr_same, front_wr, front_setFront, if_pos rfl]

/-- A device below D0 that nothing wakes yet is woken. -/
theorem wake_begins {s : State} (low : s.rd Obj.PWR_STATE ≠ 0) (noSag : s.power.sag = none) (asleep : s.power.exitCause = none) (cause : Nat) :
    s.wake cause = { s with power := { s.power with exitCause := some cause, exitFrom := s.dtime, target := 0 } } := by
  simp [wake, low, noSag, asleep]

theorem execWakeScan_wakes {s : State} {p : Fin 2} {groups : List Int} {g : Nat} (sleeps : s.rd (Obj.RF_STATE p.val) = touchWake) (hg : g < 4)
    (strong : (s.rd Obj.TOUCH_WAKE_THRESHOLD : Int) ≤ groups.getD g 0) (again : 1 ≤ (s.front p.val).wakeRuns.getD g 0) (low : s.rd Obj.PWR_STATE ≠ 0)
    (noSag : s.power.sag = none) (asleep : s.power.exitCause = none) :
    ∃ t, exec (.wakeScan p groups) s = .next t ∧ t.power.exitCause = some wakeTouch ∧ t.power.exitFrom = s.dtime ∧ t.power.target = 0 ∧
      (t.front p.val).wakeRuns = [] ∧ s.objectsBut t [Obj.LOG_LOST] ∧ s.sameMemory t := by
  have counted {x : FrontEnd} (hx : x.wakeRuns = (s.front p.val).wakeRuns) :
      2 ≤ ((List.range 4).map (fun g => if Int.ofNat (s.rd Obj.TOUCH_WAKE_THRESHOLD) ≤ groups.getD g 0 then x.wakeRuns.getD g 0 + 1 else 0)).getD g 0 := by
    have strong' : Int.ofNat (s.rd Obj.TOUCH_WAKE_THRESHOLD) ≤ groups.getD g 0 := strong
    rw [List.getD_eq_getElem?_getD, List.getElem?_map, List.getElem?_range hg, Option.map_some, Option.getD_some, if_pos strong', hx]
    omega
  have run : ∃ y x g', x.wakeRuns = [] ∧ exec (.wakeScan p groups) s
      = .next ((((s.setFront p.val y).setFront p.val x).logEvent Ev.touchWake noOwner [d8 p.val, d8 g']).wake wakeTouch) := by
    change ∃ y x g', _ ∧ execWakeScan p groups s = _
    generalize run : execWakeScan p groups s = o
    rw [execWakeScan, if_neg (not_not.2 sleeps)] at run
    dsimp only at run
    split at run
    · next none =>
      exact absurd (List.find?_eq_none.1 none g (List.mem_range.2 hg)) (not_not.2 (Nat.ble_eq_true_of_le (counted rfl)))
    · subst run
      exact ⟨_, _, _, rfl, rfl⟩
  obtain ⟨y, x, g', runs, run⟩ := run
  have edits : Edits [Obj.LOG_LOST] s (((s.setFront p.val y).setFront p.val x).logEvent Ev.touchWake noOwner [d8 p.val, d8 g']) :=
    ((setFront_edits _ s p.val y).trans (setFront_edits ..)).logEvent
  have power : (((s.setFront p.val y).setFront p.val x).logEvent Ev.touchWake noOwner [d8 p.val, d8 g']).power = s.power := logEvent_power ..
  have front : (((s.setFront p.val y).setFront p.val x).logEvent Ev.touchWake noOwner [d8 p.val, d8 g']).front p.val = x := by
    rw [front_congr (logEvent_fronts ..), front_setFront, if_pos rfl]
  have woken := wake_begins (s := ((s.setFront p.val y).setFront p.val x).logEvent Ev.touchWake noOwner [d8 p.val, d8 g'])
    (by rwa [edits.rd (by decide)]) (by rw [power, noSag]) (by rw [power, asleep]) wakeTouch
  refine ⟨_, run, ?_, ?_, ?_, ?_, (edits.of_stores (wake_stores ..)).frame⟩
  · rw [woken]
  · rw [woken]
    exact congrArg Clock.dtime (logEvent_clock ..)
  · rw [woken]
  · rw [front_of_touch (wake_touch ..), front, runs]

/-- Settles O46: what a scan does beside its unit keeps the unit's window and state, so its own steps alone decide them. -/
theorem scansCompleteAndUnitsRun : Obligations.ScansCompleteAndUnitsRun := by
  refine ⟨fun s p run counts selfCounts pixels window => ⟨fun going baselining => ?_, fun going running => ?_, fun ending quiet => ?_⟩,
    fun s run counts window going => ⟨fun baselining => ?_, fun running => ?_⟩, fun s p running suspect => ?_,
    fun s p sample k panel scans active listens within => ?_, fun s p groups g sleeps hg strong again low noSag asleep => ?_⟩
  · exact execScanComplete_baselines window going baselining
  · exact execScanComplete_runs window going running
  · exact execScanComplete_off window ending quiet
  · exact execKeyScanComplete_baselines window going baselining
  · exact execKeyScanComplete_runs window going running
  · exact execSuspectAccepted_accepts running suspect
  · exact execListenSample_enters panel scans active listens within
  · exact execWakeScan_wakes sleeps hg strong again low noSag asleep

end Sys2Proof.Machine
end

section
/-!
SUPPORT. O49: a block of audio. An operation of a block touches the streams and generators it names, the buses, and the objects that show them
(`Audio us gs s t`); memory and every configuration stay.
-/
namespace Sys2Proof.Machine
open Sys2Proof

namespace State

/-- A ring reaches a mailbox and its receiver, which it may wake, and nothing else. -/
theorem ring_reaches (s : State) (m bits : Nat) : ∃ mailboxes io power, (s.ring m bits).2 = { s with mailboxes := mailboxes, io := io, power := power } := by
  have notified (u : State) : ∃ io, u.notifyMb m (bits &&& (2 ^ 32 - 1 - (s.mailbox m).pend) &&& (2 ^ 32 - 1 - (s.mailbox m).mask)) = { u with io := io } := by
    unfold notifyMb
    split
    · exact ⟨_, rfl⟩
    · split <;> exact ⟨_, rfl⟩
  have woken (u : State) : ∃ power, u.wake wakeDoorbell = { u with power := power } := by
    unfold wake
    split
    · exact ⟨_, rfl⟩
    · split
      · exact ⟨_, rfl⟩
      · split <;> exact ⟨_, rfl⟩
  unfold ring
  split
  · exact ⟨_, _, _, rfl⟩
  · split
    · exact ⟨_, _, _, rfl⟩
    · split
      · obtain ⟨io, h⟩ := notified (s.setMailbox m { s.mailbox m with pend := (s.mailbox m).pend ||| bits })
        exact ⟨_, _, _, h⟩
      · dsimp only
        split
        · obtain ⟨power, h⟩ := woken (s.setMailbox m { s.mailbox m with held := (s.mailbox m).held ||| bits })
          exact ⟨_, _, _, h⟩
        · exact ⟨_, _, _, rfl⟩

theorem ringObject_reaches (s : State) (v : Nat) : ∃ mailboxes io power, s.ringObject v = { s with mailboxes := mailboxes, io := io, power := power } := by
  unfold ringObject
  split
  · exact ring_reaches ..
  · exact ⟨_, _, _, rfl⟩

theorem stream_setStream (s : State) (u n : Nat) (x : AudStream) : (s.setStream u x).stream n = if n = u then x else s.stream n := Tab.get_set ..

theorem gen_setGen (s : State) (g n : Nat) (x : Generator) : (s.setGen g x).gen n = if n = g then x else s.gen n := Tab.get_set ..

theorem stream_setGen (s : State) (g n : Nat) (x : Generator) : (s.setGen g x).stream n = s.stream n := by
  rw [setGen, stream, wr_foley, stream, modFoley]

theorem stream_congr {s t : State} (h : t.foley = s.foley) (n : Nat) : t.stream n = s.stream n := by rw [stream, stream, h]

theorem gen_congr {s t : State} (h : t.foley = s.foley) (n : Nat) : t.gen n = s.gen n := by rw [gen, gen, h]

/-- What shows a stream, a bus and a port. -/
def streamShown (u : Nat) : List Nat := [Obj.AUD_STREAM_STATE u, Obj.AUD_STREAM_UNDERRUNS u, Obj.AUD_STREAM_PEAK u]

def busShown (b : Nat) : List Nat := [Obj.AUD_BUS_STATE b, Obj.AUD_BUS_LIMITED b, Obj.AUD_BUS_PEAK b]

/-- What records, chimes and injections of a block write. -/
def blockTold : List Nat := [Obj.LOG_LOST, Obj.CHIME_NOW, Obj.INJ_TOTAL, Obj.INJ_FIRED 24, Obj.INJ_ARM 24, Obj.INJ_FIRED 25, Obj.INJ_ARM 25]

/-- All that a block of audio may write. -/
def audWrites : List Nat :=
  blockTold ++ ((List.range 8).map Obj.TDM_STATE ++ ((List.range 64).flatMap streamShown ++ (List.range 16).flatMap busShown))

theorem blockTold_written {a : Nat} (ha : a ∈ blockTold) : a ∈ audWrites := List.mem_append_left _ ha

theorem tdmState_written {p : Nat} (hp : p < 8) : Obj.TDM_STATE p ∈ audWrites :=
  List.mem_append_right _ (List.mem_append_left _ (List.mem_map_of_mem (List.mem_range.2 hp)))

theorem streamShown_written {u : Nat} (hu : u < 64) {a : Nat} (ha : a ∈ streamShown u) : a ∈ audWrites := by
  simp only [audWrites, List.mem_append, List.mem_flatMap, List.mem_range]
  exact .inr (.inr (.inl ⟨u, hu, ha⟩))

theorem busShown_written {b : Nat} (hb : b < 16) {a : Nat} (ha : a ∈ busShown b) : a ∈ audWrites := by
  simp only [audWrites, List.mem_append, List.mem_flatMap, List.mem_range]
  exact .inr (.inr (.inr ⟨b, hb, ha⟩))

/-- An operation of a block on some streams and generators. -/
structure Audio (us gs : List Nat) (s t : State) : Prop where
  edits : Edits audWrites s t
  streams : ∀ n, n ∉ us → t.stream n = s.stream n
  gens : ∀ n, n ∉ gs → t.gen n = s.gen n

namespace Audio
variable {us gs : List Nat} {s t : State}

theorem refl (s : State) : Audio us gs s s := ⟨.refl s, fun _ _ => rfl, fun _ _ => rfl⟩

theorem trans {u : State} (h : Audio us gs s t) (h' : Audio us gs t u) : Audio us gs s u :=
  ⟨h.edits.trans h'.edits, fun n hn => (h'.streams n hn).trans (h.streams n hn), fun n hn => (h'.gens n hn).trans (h.gens n hn)⟩

theorem of_foley {u : State} (h : Audio us gs s t) (edits : Edits audWrites s u) (foley : u.foley = t.foley) : Audio us gs s u :=
  ⟨edits, fun n hn => (stream_congr foley n).trans (h.streams n hn), fun n hn => (gen_congr foley n).trans (h.gens n hn)⟩

theorem wr (h : Audio us gs s t) {a v : Nat} (ha : a ∈ audWrites) : Audio us gs s (t.wr a v) := h.of_foley (h.edits.wr ha) rfl

theorem count (h : Audio us gs s t) {a : Nat} (ha : a ∈ audWrites) : Audio us gs s (t.count a) := h.wr ha

theorem emit (h : Audio us gs s t) {e : IoEvent} : Audio us gs s (t.emit e) := h.of_foley h.edits.emit rfl

theorem logInjected (h : Audio us gs s t) {code source : Nat} {i : Bool} {ds : List Detail} : Audio us gs s (t.logInjected code source i ds) :=
  h.of_foley (h.edits.logInjected (blockTold_written (by simp [blockTold]))) (logInjected_foley ..)

theorem logEvent (h : Audio us gs s t) {code source : Nat} {ds : List Detail} : Audio us gs s (t.logEvent code source ds) := h.logInjected

theorem tallyCount (h : Audio us gs s t) {g k o : Nat} : Audio us gs s (t.tallyCount g k o) :=
  h.of_foley (h.edits.tallyCount (blockTold_written (by simp [blockTold]))) (tallyCount_foley ..)

theorem ite {p : Prop} {_ : Decidable p} {u : State} (ht : Audio us gs s t) (hu : Audio us gs s u) : Audio us gs s (if p then t else u) := by
  split
  · exact ht
  · exact hu

theorem fst_ite {α : Type} {p : Prop} {_ : Decidable p} {x y : State × α} (hx : Audio us gs s x.1) (hy : Audio us gs s y.1) :
    Audio us gs s (if p then x else y).1 := by
  split
  · exact hx
  · exact hy

theorem setStream (h : Audio us gs s t) {u : Nat} {x : AudStream} (hu : u ∈ us) : Audio us gs s (t.setStream u x) :=
  ⟨h.edits.same, fun n hn => (stream_setStream ..).trans ((if_neg fun e : n = u => hn (e ▸ hu)).trans (h.streams n hn)), h.gens⟩

theorem setBus (h : Audio us gs s t) {b : Nat} {x : AudBus} : Audio us gs s (t.setBus b x) := ⟨h.edits.same, h.streams, h.gens⟩

theorem setGen (h : Audio us gs s t) {g : Nat} {x : Generator} (hg : g ∈ gs) : Audio us gs s (t.setGen g x) :=
  ⟨setGen_edits h.edits (blockTold_written (by simp [blockTold])), fun n hn => (stream_setGen ..).trans (h.streams n hn),
    fun n hn => (gen_setGen ..).trans ((if_neg fun e : n = g => hn (e ▸ hg)).trans (h.gens n hn))⟩

theorem ringObject (h : Audio us gs s t) {v : Nat} : Audio us gs s (t.ringObject v) := by
  obtain ⟨mailboxes, io, power, rings⟩ := ringObject_reaches t v
  exact h.of_foley (h.edits.of_stores (ringObject_stores ..)) (by rw [rings])

theorem each {α : Type} {l : List α} {f : State → α → State} (h : Audio us gs s t) (hf : ∀ u, ∀ x ∈ l, Audio us gs s u → Audio us gs s (f u x)) :
    Audio us gs s (t.each l f) := eachIn_keeps (P := Audio us gs s) hf h

theorem inject (h : Audio us gs s t) {d n : Nat} (hd : d = 24 ∨ d = 25) : Audio us gs s (t.inject d n).2 := by
  have fired : Obj.INJ_FIRED d ∈ audWrites := by rcases hd with rfl | rfl <;> exact blockTold_written (by simp [blockTold])
  have arm : Obj.INJ_ARM d ∈ audWrites := by rcases hd with rfl | rfl <;> exact blockTold_written (by simp [blockTold])
  have total : Obj.INJ_TOTAL ∈ audWrites := blockTold_written (by simp [blockTold])
  unfold State.inject
  dsimp only
  split
  · dsimp only
    exact (Audio.ite ((h.count fired).count total |>.wr arm) ((h.count fired).count total)).logInjected
  · exact h

theorem endMissed (h : Audio us gs s t) {play : Bool} {unit : Nat} {missed : Option (Nat × Nat)} : Audio us gs s (t.endMissed play unit missed) := by
  unfold State.endMissed
  split
  · exact h
  · exact h.logEvent

theorem audDoorbell (h : Audio us gs s t) {owner v seq : Nat} : Audio us gs s (t.audDoorbell owner v seq) := .ite h.ringObject h

/-! ### A stream's block (R507 to R510) -/

section
variable {u : Nat} (hu : u ∈ us) (bound : u < 64)
include hu bound

theorem takeBlock (h : Audio us gs s t) {rate : Nat} {x : AudStream} {raw : List Nat} {silent : Bool} :
    Audio us gs s (t.takeBlock u rate x raw silent) := (h.wr (streamShown_written bound (by simp [streamShown]))).setStream hu

theorem stopStream (h : Audio us gs s t) : Audio us gs s (t.stopStream u) :=
  ((Audio.ite h h.endMissed).setStream hu).wr (streamShown_written bound (by simp [streamShown]))

theorem adoptStream (h : Audio us gs s t) : Audio us gs s (t.adoptStream u) := by
  unfold State.adoptStream
  extract_lets c x stopped x'
  have hstopped : Audio us gs s stopped := .ite (stopStream hu bound h) h
  exact .ite (hstopped.setStream hu) (.ite hstopped (hstopped.setStream hu))

theorem hostBlock (h : Audio us gs s t) {rate : Nat} {x : AudStream} {host : Nat ⊕ Nat} {raw : List Nat} :
    Audio us gs s (t.hostBlock u rate x host raw) := by
  have written {a : Nat} (ha : a ∈ streamShown u) : a ∈ audWrites := streamShown_written bound ha
  have injected : Audio us gs s (if x.fault then (none, t) else t.inject 25 u).2 := by
    split
    · exact h
    · exact h.inject (.inr rfl)
  unfold State.hostBlock
  refine Audio.ite (takeBlock hu bound injected) ?_
  split
  · exact takeBlock hu bound injected.endMissed.logInjected
  · exact .ite (takeBlock hu bound injected.endMissed).tallyCount.emit.audDoorbell
      (takeBlock hu bound (injected.count (written (by simp [streamShown])))).emit.audDoorbell

theorem streamBlock (h : Audio us gs s t) {d rate : Nat} {ins : List AudioIn} : Audio us gs s (t.streamBlock u d rate ins) := by
  unfold State.streamBlock
  extract_lets was c at_ adopted x g y inp raw z taken
  have hadopted : Audio us gs s adopted := adoptStream hu bound h
  have htaken : Audio us gs s taken := by
    unfold taken
    split
    · exact hostBlock hu bound hadopted
    · exact (takeBlock hu bound hadopted).tallyCount
  exact .ite h (.ite hadopted (htaken.wr (streamShown_written bound (by simp [streamShown]))))

end

/-! ### A bus's block (R511 to R520), and a port that loses its clock (R506) -/

section
variable {b : Nat} (bound : b < 16)
include bound

theorem adoptBus (h : Audio us gs s t) {rate : Nat} : Audio us gs s (t.adoptBus b rate) := by
  unfold State.adoptBus
  exact .ite (.ite (h.endMissed.setBus.wr (busShown_written bound (by simp [busShown]))) h) h.setBus

theorem limitBlock (h : Audio us gs s t) {x : AudBus} {peak : Nat} : Audio us gs s (t.limitBlock b x peak) := by
  have limited : Audio us gs s ((t.count (Obj.AUD_BUS_LIMITED b)).tallyCount 32 1 noOwner) :=
    (h.count (busShown_written bound (by simp [busShown]))).tallyCount
  exact .ite limited.logEvent limited

omit bound in
theorem capture (h : Audio us gs s t) {x : AudBus} {host : Nat ⊕ Nat} {block : List Int} : Audio us gs s (t.capture b x host block) := by
  have injected : Audio us gs s (t.inject 25 (64 + b)).2 := h.inject (.inr rfl)
  unfold State.capture
  dsimp only
  split
  · exact (Audio.ite injected injected.endMissed.logInjected).setBus
  · exact (fst_ite injected.endMissed.emit injected).setBus.emit.audDoorbell

theorem busBlock (h : Audio us gs s t) {d rate : Nat} {outs : List AudioOut} : Audio us gs s (t.busBlock b d rate outs) := by
  have written {a : Nat} (ha : a ∈ busShown b) : a ∈ audWrites := busShown_written bound ha
  have adopted : Audio us gs s (t.adoptBus b rate) := adoptBus bound h
  unfold State.busBlock
  extract_lets was c s₁ x n scales ys r s₂ recent y s₃ port sends s₄ s₅ s₆
  have h₂ : Audio us gs s s₂ := .ite (limitBlock bound adopted) adopted
  have h₃ : Audio us gs s s₃ := h₂.wr (written (by simp [busShown]))
  have h₄ : Audio us gs s s₄ := .ite h₃.emit h₃
  have h₅ : Audio us gs s s₅ := h₄.tallyCount
  have h₆ : Audio us gs s s₆ := .ite (capture h₅) h₅.setBus
  exact .ite h (.ite adopted (h₆.wr (written (by simp [busShown]))))

end

theorem tdmLost (h : Audio us gs s t) {p : Nat} (hp : p < 8) (all : ∀ u < 60, u ∈ us) {injected : Bool} : Audio us gs s (t.tdmLost p injected) := by
  refine .ite h (Audio.each (Audio.each (h.wr (tdmState_written hp)).logInjected fun v u hu hv => ?_) fun v b hb hv => ?_)
  · have bound : u < 60 := List.mem_range.1 hu
    exact .ite ((hv.setStream (all u bound)).wr (streamShown_written (Nat.lt_trans bound (by decide)) (by simp [streamShown]))) hv
  · exact .ite (hv.setBus.wr (busShown_written (List.mem_range.1 hb) (by simp [busShown]))) hv

/-! ### Chimes (R522) -/

section
variable {g : Nat} (hg : g ∈ gs)
include hg

theorem chimeEnds (h : Audio us gs s t) {r : ChimeRun} {result : Nat} : Audio us gs s (t.chimeEnds g r result) := (h.setGen hg).logEvent

theorem genBlock (h : Audio us gs s t) {d : Nat} : Audio us gs s (t.genBlock g d) := by
  unfold State.genBlock
  extract_lets here x stopped ended
  have hstopped : Audio us gs s stopped := by
    unfold stopped
    split
    · exact .ite (chimeEnds hg h) h
    · exact h
  clear_value stopped
  split
  · exact hstopped
  · have hended : Audio us gs s ended := by
      unfold ended
      split
      · exact chimeEnds hg hstopped
      · exact hstopped
    exact .ite hstopped (hended.setGen hg).logEvent

end

theorem advanceChimes (h : Audio us gs s t) (all : ∀ g < 4, g ∈ gs) {d : Nat} : Audio us gs s (t.advanceChimes d) := by
  refine h.each fun v g hg hv => ?_
  dsimp only
  split
  · exact hv
  · exact .ite (hv.setGen (all g (List.mem_range.1 hg))) hv

end Audio

/-! ## One block -/

theorem each_append {α : Type} (s : State) (l m : List α) (f : State → α → State) : s.each (l ++ m) f = (s.each l f).each m f := by
  induction l generalizing s with
  | nil => rfl
  | cons x l ih => exact ih (f s x)

/-- A loop over its elements, seen from one of them: those before it, its turn, those after it. -/
theorem each_at {α : Type} {l : List α} (nodup : l.Nodup) {x : α} (hx : x ∈ l) (s : State) (f : State → α → State) : ∃ before after : List α,
    x ∉ before ∧ x ∉ after ∧ (∀ y ∈ before, y ∈ l) ∧ (∀ y ∈ after, y ∈ l) ∧ s.each l f = (f (s.each before f) x).each after f := by
  obtain ⟨before, after, rfl⟩ := List.append_of_mem hx
  obtain ⟨-, tail, apart⟩ := List.nodup_append.1 nodup
  refine ⟨before, after, fun h => apart x h x (by simp) rfl, (List.nodup_cons.1 tail).1, by simp +contextual, by simp +contextual, ?_⟩
  exact each_append ..

/-- No block writes what configures streams, ports and buses, or Bittern's state. -/
theorem audConfig_not_written : (∀ u < 64, Obj.AUD_STREAM_CFG u ∉ audWrites) ∧ (∀ p < 8, Obj.TDM_CONFIG p ∉ audWrites) ∧ Obj.AUD_D48_REF ∉ audWrites ∧
    (∀ b < 16, Obj.AUD_BUS_CFG b ∉ audWrites) ∧ Obj.BIT_STATE ∉ audWrites := by
  refine ⟨fun u hu => ?_, fun p hp => ?_, ?_, fun b hb => ?_, ?_⟩ <;>
    simp only [audWrites, blockTold, streamShown, busShown, List.mem_append, List.mem_map, List.mem_flatMap, List.mem_range, List.mem_cons,
      List.not_mem_nil, or_false, Obj.AUD_STREAM_CFG, Obj.TDM_CONFIG, Obj.AUD_D48_REF, Obj.AUD_BUS_CFG, Obj.BIT_STATE, Obj.LOG_LOST, Obj.CHIME_NOW,
      Obj.INJ_TOTAL, Obj.INJ_FIRED, Obj.INJ_ARM, Obj.TDM_STATE, Obj.AUD_STREAM_STATE, Obj.AUD_STREAM_UNDERRUNS, Obj.AUD_STREAM_PEAK,
      Obj.AUD_BUS_STATE, Obj.AUD_BUS_LIMITED, Obj.AUD_BUS_PEAK] <;>
    omega

theorem port_lt (c : Nat) : field c 5 3 < 8 := Nat.mod_lt _ (by decide)

/-- A stream of a port is in the domain it was in before. -/
theorem streamDomain_kept {us gs : List Nat} {s t : State} (h : Audio us gs s t) {c : Nat} (port : cfgSource c = 2) : t.streamDomain c = s.streamDomain c := by
  obtain ⟨-, tdm, ref, -, -⟩ := audConfig_not_written
  have domain : t.tdmDomain (field c 5 3) = s.tdmDomain (field c 5 3) := by
    unfold tdmDomain tdmSlave
    rw [h.edits.rd (tdm _ (port_lt c)), h.edits.rd ref]
  simp only [streamDomain, port, domain]

/-- A block of a running stream of a port whose clock is there: it is counted (R507). -/
theorem streamBlock_counts {s : State} {u d : Nat} (runs : (s.stream u).running = true) (stays : (s.stream u).stopping = false)
    (same : s.rd (Obj.AUD_STREAM_CFG u) = (s.stream u).cfg) (port : cfgSource (s.stream u).cfg = 2) (here : s.streamDomain (s.stream u).cfg = d)
    (clocked : (s.stream u).clockLost = false) (rate : Nat) (ins : List AudioIn) :
    ((s.streamBlock u d rate ins).stream u).blockSeq = wrapAdd 32 (s.stream u).blockSeq 1 ∧
    ((s.streamBlock u d rate ins).stream u).lost = (s.stream u).lost ∧ ((s.streamBlock u d rate ins).stream u).running = true := by
  have keeps : ¬((s.stream u).running && ((s.stream u).stopping || decide (cfgSource (s.stream u).cfg = 0))) = true := by simp [stays, port]
  have adopted : (s.adoptStream u).stream u = s.stream u := by
    unfold adoptStream
    dsimp only
    rw [same, if_neg keeps, if_pos runs, stream_setStream, if_pos rfl]
  unfold streamBlock
  extract_lets was c at_ t x g y inp raw z taken
  have hx : x = s.stream u := adopted
  have htaken : taken = (t.takeBlock u rate z raw z.clockLost).tallyCount 32 0 (t.rd (Obj.AUD_STREAM_OWNER u)) := by
    have source : cfgSource y.cfg = 2 := by rw [show y.cfg = x.cfg from rfl, hx, port]
    unfold taken
    rw [source]
    rfl
  have there : ¬(at_ ≠ d ∨ (!was.running) = true ∧ cfgSource c = 0) := by
    have home : at_ = d := (congrArg s.streamDomain (if_pos runs)).trans here
    simp [home, show was.running = true from runs]
  rw [if_neg there, if_neg (by simp [hx, runs]), stream_congr (wr_foley ..), htaken, stream_congr (tallyCount_foley ..), takeBlock, stream_setStream, if_pos rfl]
  refine ⟨?_, ?_, ?_⟩
  · change wrapAdd 32 x.blockSeq 1 = _
    rw [hx]
  · change (if x.clockLost = true then _ else x.lost) = _
    rw [hx, clocked]
    rfl
  · change x.running = true
    rw [hx, runs]

end State

open State

/-- The block of a running stream, whatever the other streams, the buses and the chimes do in it. -/
theorem execBlockBoundary_counts {s : State} {d : Fin 11} (rate : Nat) (ins : List AudioIn) (outs : List AudioOut) (free : 6 ∉ s.clocks.held)
    (powered : s.rd (Obj.DOM_STATE 15) = 1) (noInjection : s.rd Obj.INJ_ENABLE ≠ 1) {u : Nat} (hu : u < 60) (runs : (s.stream u).running = true)
    (stays : (s.stream u).stopping = false) (same : s.rd (Obj.AUD_STREAM_CFG u) = (s.stream u).cfg) (port : cfgSource (s.stream u).cfg = 2)
    (here : s.streamDomain (s.stream u).cfg = d.val) (clocked : (s.stream u).clockLost = false) :
    ∃ t, exec (.blockBoundary d rate ins outs) s = .next t ∧ (t.stream u).blockSeq = wrapAdd 32 (s.stream u).blockSeq 1 ∧
      (t.stream u).lost = (s.stream u).lost ∧ (t.stream u).running = true := by
  change ∃ t, execBlockBoundary d rate ins outs s = _ ∧ _
  generalize run : execBlockBoundary d rate ins outs s = o
  unfold execBlockBoundary at run
  rw [if_neg (by simp [free, powered])] at run
  extract_lets hz s₁ s₂ s₃ s₄ at run
  subst run
  have h₁ : s₁ = s := by
    refine eachIn_keeps (P := fun t => t = s) (fun t p _ ht => ?_) rfl
    subst ht
    rw [inject_off t 24 p (.inr noInjection)]
    rfl
  obtain ⟨before, after, notBefore, notAfter, inBefore, inAfter, turns⟩ := each_at (s := s₂) List.nodup_range (List.mem_range.2 hu)
    (fun s u => s.streamBlock u d.val hz ins)
  have bound {v : Nat} (hv : v ∈ List.range 60) : v < 64 := Nat.lt_trans (List.mem_range.1 hv) (by decide)
  have early : Audio (before ++ after) (List.range 4) s (s₂.each before (fun s u => s.streamBlock u d.val hz ins)) := by
    have gens : Audio (before ++ after) (List.range 4) s s₂ := h₁ ▸ Audio.each (.refl s₁) fun v g hg hv => Audio.genBlock hg hv
    exact gens.each fun v n hn hv => Audio.streamBlock (List.mem_append_left _ hn) (bound (inBefore n hn)) hv
  have unheard : u ∉ before ++ after := by simp [notBefore, notAfter]
  have late (t : State) : Audio (before ++ after) (List.range 4) t (((t.each after (fun s u => s.streamBlock u d.val hz ins)).each
      (List.range 16) (fun s b => s.busBlock b d.val hz outs)).advanceChimes d.val) := by
    have streams : Audio (before ++ after) (List.range 4) t (t.each after (fun s u => s.streamBlock u d.val hz ins)) :=
      Audio.each (.refl t) fun v n hn hv => Audio.streamBlock (List.mem_append_right _ hn) (bound (inAfter n hn)) hv
    exact (streams.each fun v b hb hv => Audio.busBlock (List.mem_range.1 hb) hv).advanceChimes fun g hg => List.mem_range.2 hg
  have stream := early.streams u unheard
  have cfg := early.edits.rd (audConfig_not_written.1 u (Nat.lt_trans hu (by decide)))
  obtain ⟨counted, kept, running⟩ := streamBlock_counts (s := s₂.each before (fun s u => s.streamBlock u d.val hz ins)) (d := d.val) (by rw [stream, runs])
    (by rw [stream, stays]) (by rw [stream, cfg, same]) (by rw [stream, port]) (by rw [stream, streamDomain_kept early port, here]) (by rw [stream, clocked])
    hz ins
  have after := (late ((s₂.each before (fun s u => s.streamBlock u d.val hz ins)).streamBlock u d.val hz ins)).streams u unheard
  refine ⟨_, rfl, ?_⟩
  unfold s₄ s₃
  rw [turns, after, counted, kept, stream]
  exact ⟨rfl, rfl, running⟩

end Sys2Proof.Machine
end

section
/-! SUPPORT, and the statement O49: chimes, streams' configurations, routes and ports. -/
namespace Sys2Proof.Machine
open Sys2Proof

namespace State

/-- A chime that waits on a silent generator starts at a block boundary of its bus's domain (R522). -/
theorem genBlock_starts {s : State} {g d : Nat} {r : ChimeRun} (waits : (s.gen g).next = some r) (silent : (s.gen g).now = none) (up : s.bitternDown = false)
    (here : field (s.rd (Obj.AUD_BUS_CFG (chBus r.desc))) 5 4 = d) :
    ((s.genBlock g d).gen g).now = some r ∧ ((s.genBlock g d).gen g).next = none := by
  unfold genBlock
  simp only [silent, waits, up, here]
  simp [gen_congr (logEvent_foley ..), gen_setGen]

theorem chBus_lt (d : Nat) : chBus d < 16 := by
  unfold chBus
  split <;> decide

theorem bus_kept {us gs : List Nat} {s t : State} (h : Audio us gs s t) (d : Nat) :
    t.rd (Obj.AUD_BUS_CFG (chBus d)) = s.rd (Obj.AUD_BUS_CFG (chBus d)) := h.edits.rd (audConfig_not_written.2.2.2.1 _ (chBus_lt d))

theorem bitternDown_kept {us gs : List Nat} {s t : State} (h : Audio us gs s t) : t.bitternDown = s.bitternDown := by
  unfold bitternDown
  rw [h.edits.rd audConfig_not_written.2.2.2.2]

/-- What a generator plays has advanced by a block. -/
def advanced (s : State) (d g : Nat) : State :=
  match (s.gen g).now with
  | none => s
  | some r =>
    if field (s.rd (Obj.AUD_BUS_CFG (chBus r.desc))) 5 4 = d then s.setGen g { s.gen g with now := some { r with played := r.played + 32 } } else s

theorem advanceChimes_eq (s : State) (d : Nat) : s.advanceChimes d = s.each (List.range 4) (fun s g => s.advanced d g) := rfl

theorem advanced_audio {us gs : List Nat} {s t : State} (h : Audio us gs s t) {d g : Nat} (hg : g ∈ gs) : Audio us gs s (t.advanced d g) := by
  unfold advanced
  split
  · exact h
  · exact .ite (h.setGen hg) h

theorem advanced_plays {s : State} {d g : Nat} {r : ChimeRun} (plays : (s.gen g).now = some r)
    (here : field (s.rd (Obj.AUD_BUS_CFG (chBus r.desc))) 5 4 = d) :
    (s.advanced d g).gen g = { s.gen g with now := some { r with played := r.played + 32 } } := by
  unfold advanced
  simp only [plays, if_pos here]
  rw [gen_setGen, if_pos rfl]

end State

open State

theorem execBlockBoundary_starts {s : State} {d : Fin 11} (rate : Nat) (ins : List AudioIn) (outs : List AudioOut) {g : Fin 4} {r : ChimeRun}
    (free : 6 ∉ s.clocks.held) (powered : s.rd (Obj.DOM_STATE 15) = 1) (waits : (s.gen g.val).next = some r) (silent : (s.gen g.val).now = none)
    (up : s.bitternDown = false) (here : field (s.rd (Obj.AUD_BUS_CFG (chBus r.desc))) 5 4 = d.val) :
    ∃ t, exec (.blockBoundary d rate ins outs) s = .next t ∧ (t.gen g.val).now = some { r with played := r.played + 32 } ∧ (t.gen g.val).next = none := by
  change ∃ t, execBlockBoundary d rate ins outs s = _ ∧ _
  generalize run : execBlockBoundary d rate ins outs s = o
  unfold execBlockBoundary at run
  rw [if_neg (by simp [free, powered])] at run
  extract_lets hz s₁ s₂ s₃ s₄ at run
  subst run
  obtain ⟨before, after, notBefore, notAfter, inBefore, inAfter, turns⟩ := each_at (s := s₁) List.nodup_range (List.mem_range.2 g.isLt)
    (fun s g => s.genBlock g d.val)
  obtain ⟨before', after', notBefore', notAfter', -, -, turns'⟩ := each_at (s := s₄) List.nodup_range (List.mem_range.2 g.isLt)
    (fun s g => s.advanced d.val g)
  have quiet : g.val ∉ before ++ after ++ (before' ++ after') := by simp [notBefore, notAfter, notBefore', notAfter']
  have early : Audio (List.range 60) (before ++ after ++ (before' ++ after')) s (s₁.each before (fun s g => s.genBlock g d.val)) := by
    have ports : Audio (List.range 60) (before ++ after ++ (before' ++ after')) s s₁ := Audio.each (.refl s) fun v p hp hv => by
      have bound : p < 8 := List.mem_range.1 (List.mem_of_mem_filter hp)
      exact .ite ((hv.inject (.inl rfl)).tdmLost bound fun u hu => List.mem_range.2 hu) (hv.inject (.inl rfl))
    exact ports.each fun v n hn hv => Audio.genBlock (by simp [hn]) hv
  obtain ⟨plays, started⟩ := genBlock_starts (s := s₁.each before (fun s g => s.genBlock g d.val)) (by rw [early.gens _ quiet, waits])
    (by rw [early.gens _ quiet, silent]) (by rw [bitternDown_kept early, up]) (by rw [bus_kept early, here])
  have middle : Audio (List.range 60) (before ++ after ++ (before' ++ after')) ((s₁.each before (fun s g => s.genBlock g d.val)).genBlock g.val d.val)
      (s₄.each before' (fun s g => s.advanced d.val g)) := by
    have gens : Audio (List.range 60) (before ++ after ++ (before' ++ after')) ((s₁.each before (fun s g => s.genBlock g d.val)).genBlock g.val d.val) s₂ := by
      unfold s₂
      rw [turns]
      exact Audio.each (.refl _) fun v n hn hv => Audio.genBlock (by simp [hn]) hv
    have streams := gens.each (l := List.range 60) (f := fun s u => s.streamBlock u d.val hz ins) fun v n hn hv =>
      Audio.streamBlock hn (Nat.lt_trans (List.mem_range.1 hn) (by decide)) hv
    have buses := streams.each (l := List.range 16) (f := fun s b => s.busBlock b d.val hz outs) fun v b hb hv => Audio.busBlock (List.mem_range.1 hb) hv
    exact buses.each fun v n hn hv => advanced_audio hv (by simp [hn])
  have gen := middle.gens _ quiet
  have turn : Audio [] [g.val] (s₁.each before (fun s g => s.genBlock g d.val)) ((s₁.each before (fun s g => s.genBlock g d.val)).genBlock g.val d.val) :=
    Audio.genBlock List.mem_cons_self (.refl _)
  have advances := advanced_plays (s := s₄.each before' (fun s g => s.advanced d.val g)) (d := d.val) (by rw [gen, plays])
    (by rw [bus_kept middle, bus_kept turn, bus_kept early, here])
  have late : Audio (List.range 60) (before ++ after ++ (before' ++ after')) ((s₄.each before' (fun s g => s.advanced d.val g)).advanced d.val g.val)
      (s₄.advanceChimes d.val) := by
    rw [advanceChimes_eq, turns']
    exact Audio.each (.refl _) fun v n hn hv => advanced_audio hv (by simp [hn])
  refine ⟨_, rfl, ?_, ?_⟩
  · rw [late.gens _ quiet, advances]
  · rw [late.gens _ quiet, advances, ← started, ← gen]

/-! ## A port's clock (R506) -/

section
variable {s : State} {p : Fin 8}

/-- A stream of the port has lost its clock, and shows it. -/
def clockLostTurn (p : Nat) (s : State) (u : Nat) : State :=
  if (s.stream u).running ∧ cfgSource (s.stream u).cfg = 2 ∧ field (s.stream u).cfg 5 3 = p then
    (s.setStream u { s.stream u with clockLost := true }).wr (Obj.AUD_STREAM_STATE u) 4
  else s

/-- A bus sent to the port has lost its clock, and shows it. -/
def busLostTurn (p : Nat) (s : State) (b : Nat) : State :=
  if (s.bus b).running ∧ bit (s.bus b).dest 0 ∧ field (s.bus b).dest 3 1 = p then
    (s.setBus b { s.bus b with clockLost := true }).wr (Obj.AUD_BUS_STATE b) 2
  else s

theorem stream_clockLostTurn (p : Nat) (s : State) (u n : Nat) : (clockLostTurn p s u).stream n =
    if n = u ∧ (s.stream u).running ∧ cfgSource (s.stream u).cfg = 2 ∧ field (s.stream u).cfg 5 3 = p then { s.stream u with clockLost := true }
    else s.stream n := by
  unfold clockLostTurn
  split
  · next loses => rw [stream_congr (wr_foley ..), stream_setStream, if_congr (and_iff_left loses) rfl rfl]
  · next keeps => rw [if_neg fun h => keeps h.2]

theorem stream_busLostTurn (p : Nat) (s : State) (b n : Nat) : (busLostTurn p s b).stream n = s.stream n := by
  unfold busLostTurn
  split <;> rfl

/-- What the loss of a port's clock shows. -/
def lostShown : List Nat := (List.range 60).map Obj.AUD_STREAM_STATE ++ (List.range 16).map Obj.AUD_BUS_STATE

theorem clockLostTurn_edits {os : List Nat} {s t : State} (h : Edits os s t) {p u : Nat} (hu : Obj.AUD_STREAM_STATE u ∈ os) :
    Edits os s (clockLostTurn p t u) := .ite (Edits.wr h.same hu) h

theorem busLostTurn_edits {os : List Nat} {s t : State} (h : Edits os s t) {p b : Nat} (hb : Obj.AUD_BUS_STATE b ∈ os) : Edits os s (busLostTurn p t b) :=
  .ite (Edits.wr h.same hb) h

theorem lostLoops_edits (s : State) (p : Nat) :
    Edits lostShown s ((s.each (List.range 60) (clockLostTurn p)).each (List.range 16) (busLostTurn p)) := by
  refine .eachIn (.eachIn (.refl s) fun t u hu ht => clockLostTurn_edits ht ?_) fun t b hb ht => busLostTurn_edits ht ?_
  · exact List.mem_append_left _ (List.mem_map_of_mem hu)
  · exact List.mem_append_right _ (List.mem_map_of_mem hb)

/-- A stream that has lost its clock stays so through the turns of others. -/
theorem clockLost_keeps {p u : Nat} {t : State} (h : (t.stream u).clockLost = true ∧ t.rd (Obj.AUD_STREAM_STATE u) = 4) (v : Nat) :
    ((clockLostTurn p t v).stream u).clockLost = true ∧ (clockLostTurn p t v).rd (Obj.AUD_STREAM_STATE u) = 4 := by
  refine ⟨?_, ?_⟩
  · rw [stream_clockLostTurn]
    split
    · rfl
    · exact h.1
  · unfold clockLostTurn
    split
    · rw [rd_wr]
      split
      · rfl
      · exact h.2
    · exact h.2

theorem busLost_keeps {p u : Nat} {t : State} (h : (t.stream u).clockLost = true ∧ t.rd (Obj.AUD_STREAM_STATE u) = 4) (b : Nat) :
    ((busLostTurn p t b).stream u).clockLost = true ∧ (busLostTurn p t b).rd (Obj.AUD_STREAM_STATE u) = 4 := by
  have apart : Obj.AUD_STREAM_STATE u ≠ Obj.AUD_BUS_STATE b := by
    simp only [Obj.AUD_STREAM_STATE, Obj.AUD_BUS_STATE]
    omega
  rw [stream_busLostTurn]
  refine ⟨h.1, ?_⟩
  exact (busLostTurn_edits (os := [Obj.AUD_BUS_STATE b]) (.refl t) List.mem_cons_self).rd (by simpa using apart) |>.trans h.2

/-- Every stream of the port loses its clock. -/
theorem clockLostLoop_loses {s : State} {p u : Nat} (hu : u < 60) (runs : (s.stream u).running = true) (port : cfgSource (s.stream u).cfg = 2)
    (here : field (s.stream u).cfg 5 3 = p) :
    ((s.each (List.range 60) (clockLostTurn p)).stream u).clockLost = true ∧
      (s.each (List.range 60) (clockLostTurn p)).rd (Obj.AUD_STREAM_STATE u) = 4 := by
  obtain ⟨before, after, notBefore, -, -, -, turns⟩ := each_at (s := s) List.nodup_range (List.mem_range.2 hu) (clockLostTurn p)
  have untouched : (s.each before (clockLostTurn p)).stream u = s.stream u :=
    eachIn_keeps (P := fun t => t.stream u = s.stream u) (fun t v hv ht => by
      rw [stream_clockLostTurn, if_neg (fun h : u = v ∧ _ => notBefore (h.1 ▸ hv)), ht]) rfl
  rw [turns]
  refine eachIn_keeps (P := fun t => (t.stream u).clockLost = true ∧ t.rd (Obj.AUD_STREAM_STATE u) = 4) (fun t v _ ht => clockLost_keeps ht v) ⟨?_, ?_⟩
  · rw [stream_clockLostTurn, untouched, if_pos ⟨rfl, runs, port, here⟩]
  · rw [clockLostTurn, untouched, if_pos ⟨runs, port, here⟩, rd_wr_same]

theorem execTdmClockLost_loses (on : bit (s.rd (Obj.TDM_CONFIG p.val)) 0 = true) (slave : s.tdmSlave p.val = true) (clocked : s.rd (Obj.TDM_STATE p.val) ≠ 2) :
    ∃ t, exec (.tdmClockLost p) s = .next t ∧ t.rd (Obj.TDM_STATE p.val) = 2 ∧ (s.log.fifo.length < 256 → t.told Ev.tdmClockLost noOwner [d8 p.val]) ∧
      (∀ u < 60, (s.stream u).running = true → cfgSource (s.stream u).cfg = 2 → field (s.stream u).cfg 5 3 = p.val →
        (t.stream u).clockLost = true ∧ t.rd (Obj.AUD_STREAM_STATE u) = 4) ∧ s.sameMemory t := by
  have run : exec (.tdmClockLost p) s = .next ((((s.wr (Obj.TDM_STATE p.val) 2).logEvent Ev.tdmClockLost noOwner [d8 p.val]).each (List.range 60)
      (clockLostTurn p.val)).each (List.range 16) (busLostTurn p.val)) := by
    change Host.Outcome.next (s.tdmLost p.val false) = _
    rw [tdmLost, if_neg (by simp [on, slave, clocked])]
    rfl
  have began : Edits [Obj.TDM_STATE p.val, Obj.LOG_LOST] s ((s.wr (Obj.TDM_STATE p.val) 2).logEvent Ev.tdmClockLost noOwner [d8 p.val]) :=
    (Edits.refl s).wr.logEvent
  have loops := lostLoops_edits ((s.wr (Obj.TDM_STATE p.val) 2).logEvent Ev.tdmClockLost noOwner [d8 p.val]) p.val
  have apart : Obj.TDM_STATE p.val ≠ Obj.LOG_LOST ∧ Obj.TDM_STATE p.val ∉ lostShown := by
    simp only [lostShown, List.mem_append, List.mem_map, List.mem_range, Obj.TDM_STATE, Obj.AUD_STREAM_STATE, Obj.AUD_BUS_STATE, Obj.LOG_LOST]
    omega
  refine ⟨_, run, ?_, fun room => loops.told (told_logEvent _ _ _ _ room), fun u hu runs port here => ?_,
    ((began.mono (ps := [Obj.TDM_STATE p.val, Obj.LOG_LOST] ++ lostShown) (by simp +contextual)).trans
      (loops.mono fun a ha => List.mem_append_right _ ha)).sameMemory⟩
  · rw [loops.rd apart.2, rd_logEvent _ _ _ _ _ apart.1, rd_wr_same]
  · have stream : ((s.wr (Obj.TDM_STATE p.val) 2).logEvent Ev.tdmClockLost noOwner [d8 p.val]).stream u = s.stream u :=
      (stream_congr (logEvent_foley ..) u).trans (stream_congr (wr_foley ..) u)
    exact eachIn_keeps (P := fun t => (t.stream u).clockLost = true ∧ t.rd (Obj.AUD_STREAM_STATE u) = 4)
      (fun t b _ ht => busLost_keeps ht b)
      (clockLostLoop_loses hu (by rw [stream, runs]) (by rw [stream, port]) (by rw [stream, here]))

/-- A stream of the port has its clock back. -/
def clockBackTurn (p : Nat) (s : State) (u : Nat) : State :=
  if (s.stream u).running ∧ cfgSource (s.stream u).cfg = 2 ∧ field (s.stream u).cfg 5 3 = p then
    s.setStream u { s.stream u with clockLost := false }
  else s

/-- A bus sent to the port has its clock back. -/
def busBackTurn (p : Nat) (s : State) (b : Nat) : State :=
  if (s.bus b).running ∧ bit (s.bus b).dest 0 ∧ field (s.bus b).dest 3 1 = p then s.setBus b { s.bus b with clockLost := false } else s

theorem stream_clockBackTurn (p : Nat) (s : State) (u n : Nat) : (clockBackTurn p s u).stream n =
    if n = u ∧ (s.stream u).running ∧ cfgSource (s.stream u).cfg = 2 ∧ field (s.stream u).cfg 5 3 = p then { s.stream u with clockLost := false }
    else s.stream n := by
  unfold clockBackTurn
  split
  · next back => rw [stream_setStream, if_congr (and_iff_left back) rfl rfl]
  · next keeps => rw [if_neg fun h => keeps h.2]

theorem stream_busBackTurn (p : Nat) (s : State) (b n : Nat) : (busBackTurn p s b).stream n = s.stream n := by
  unfold busBackTurn
  split <;> rfl

/-- Every stream of the port runs on. -/
theorem clockBackLoop_resumes {s : State} {p u : Nat} (hu : u < 60) (runs : (s.stream u).running = true) (port : cfgSource (s.stream u).cfg = 2)
    (here : field (s.stream u).cfg 5 3 = p) : ((s.each (List.range 60) (clockBackTurn p)).stream u).clockLost = false := by
  obtain ⟨before, after, notBefore, -, -, -, turns⟩ := each_at (s := s) List.nodup_range (List.mem_range.2 hu) (clockBackTurn p)
  have untouched : (s.each before (clockBackTurn p)).stream u = s.stream u :=
    eachIn_keeps (P := fun t => t.stream u = s.stream u) (fun t v hv ht => by
      rw [stream_clockBackTurn, if_neg (fun h : u = v ∧ _ => notBefore (h.1 ▸ hv)), ht]) rfl
  rw [turns]
  refine eachIn_keeps (P := fun t => (t.stream u).clockLost = false) (fun t v _ ht => ?_) ?_
  · rw [stream_clockBackTurn]
    split
    · rfl
    · exact ht
  · rw [stream_clockBackTurn, untouched, if_pos ⟨rfl, runs, port, here⟩]

theorem execTdmClockBack_resumes (blocks : Nat) (lost : s.rd (Obj.TDM_STATE p.val) = 2) :
    ∃ t, exec (.tdmClockBack p blocks) s = .next t ∧ t.rd (Obj.TDM_STATE p.val) = 1 ∧
      (s.log.fifo.length < 256 → t.told Ev.tdmClockBack noOwner [d8 p.val, d32 blocks]) ∧
      (∀ u < 60, (s.stream u).running = true → cfgSource (s.stream u).cfg = 2 → field (s.stream u).cfg 5 3 = p.val → (t.stream u).clockLost = false) ∧
      s.objectsBut t [Obj.TDM_STATE p.val, Obj.LOG_LOST] ∧ s.sameMemory t := by
  have run : exec (.tdmClockBack p blocks) s = .next ((((s.wr (Obj.TDM_STATE p.val) 1).logEvent Ev.tdmClockBack noOwner [d8 p.val, d32 blocks]).each
      (List.range 60) (clockBackTurn p.val)).each (List.range 16) (busBackTurn p.val)) := by
    change execTdmClockBack p blocks s = _
    rw [execTdmClockBack, if_neg (not_not.2 lost)]
    rfl
  have began : Edits [Obj.TDM_STATE p.val, Obj.LOG_LOST] s ((s.wr (Obj.TDM_STATE p.val) 1).logEvent Ev.tdmClockBack noOwner [d8 p.val, d32 blocks]) :=
    (Edits.refl s).wr.logEvent
  have loops (t : State) : Edits [] t ((t.each (List.range 60) (clockBackTurn p.val)).each (List.range 16) (busBackTurn p.val)) :=
    .eachIn (.eachIn (.refl t) fun t u hu ht => .ite ht.same ht) fun t b hb ht => .ite ht.same ht
  have after := loops ((s.wr (Obj.TDM_STATE p.val) 1).logEvent Ev.tdmClockBack noOwner [d8 p.val, d32 blocks])
  have apart : Obj.TDM_STATE p.val ≠ Obj.LOG_LOST := by
    simp only [Obj.TDM_STATE, Obj.LOG_LOST]
    omega
  refine ⟨_, run, ?_, fun room => after.told (told_logEvent _ _ _ _ room), fun u hu runs port here => ?_,
    (began.trans (after.mono (by simp))).frame⟩
  · rw [after.rd, rd_logEvent _ _ _ _ _ apart, rd_wr_same]
  · have stream : ((s.wr (Obj.TDM_STATE p.val) 1).logEvent Ev.tdmClockBack noOwner [d8 p.val, d32 blocks]).stream u = s.stream u :=
      (stream_congr (logEvent_foley ..) u).trans (stream_congr (wr_foley ..) u)
    exact eachIn_keeps (P := fun t => (t.stream u).clockLost = false) (fun t b _ ht => by rw [stream_busBackTurn, ht])
      (clockBackLoop_resumes hu (by rw [stream, runs]) (by rw [stream, port]) (by rw [stream, here]))

end

/-! ## Configurations and routes (R505, R507, R511) -/

/-- A change of configuration that leaves bridges enough is taken. -/
theorem withBridges_taken {s t : State} (enough : t.bridgesNeeded ≤ 16) :
    s.withBridges t = (Status.ok, t.wr Obj.AUD_BRIDGES_FREE (16 - t.bridgesNeeded)) := by
  rw [withBridges, if_neg (by omega)]

section
variable {s : State} {rq : Requester} {u : Fin 64} {v : BitVec 32} (accepted : s.accepts rq (Obj.AUD_STREAM_CFG u.val) v.toNat = true)
  (enough : (s.wr (Obj.AUD_STREAM_CFG u.val) (s.merged (Obj.AUD_STREAM_CFG u.val) v.toNat)).bridgesNeeded ≤ 16)

theorem cfg_ne_bridges (u : Nat) : Obj.AUD_STREAM_CFG u ≠ Obj.AUD_BRIDGES_FREE := by
  simp only [Obj.AUD_STREAM_CFG, Obj.AUD_BRIDGES_FREE]
  omega

include accepted enough in
theorem execAudStreamCfgWrite_off (off : cfgSource (s.merged (Obj.AUD_STREAM_CFG u.val) v.toNat) = 0) :
    ∃ t, exec (.audStreamCfgWrite rq u v) s = .next t ∧ t.rd (Obj.AUD_STREAM_CFG u.val) = s.merged (Obj.AUD_STREAM_CFG u.val) v.toNat ∧
      (t.stream u.val).stopping = true ∧ t.answered rq Status.ok ∧ (∀ n, n ≠ u.val → t.stream n = s.stream n) ∧
      s.objectsBut t [Obj.AUD_STREAM_CFG u.val, Obj.AUD_BRIDGES_FREE] ∧ s.sameMemory t := by
  have write : s.writeStreamCfg u.val v.toNat = s.withBridges ((s.wr (Obj.AUD_STREAM_CFG u.val) (s.merged (Obj.AUD_STREAM_CFG u.val) v.toNat)).setStream
      u.val { s.stream u.val with stopping := true }) := by
    simp [writeStreamCfg, off]
    rfl
  have edits : Edits [Obj.AUD_STREAM_CFG u.val, Obj.AUD_BRIDGES_FREE] s ((s.wr (Obj.AUD_STREAM_CFG u.val) (s.merged (Obj.AUD_STREAM_CFG u.val)
      v.toNat)).setStream u.val { s.stream u.val with stopping := true }) := (Edits.refl s).wr.same
  refine ⟨_, ownRequest_answers accepted (write.trans (withBridges_taken enough)) (by decide), ?_, ?_, answered_answer .., fun n other => ?_,
    edits.wr.answer.frame⟩
  · rw [answer_rd, rd_wr_other _ _ _ _ (cfg_ne_bridges u.val)]
    exact rd_wr_same ..
  · rw [stream_congr (answer_foley ..), stream_congr (wr_foley ..), stream_setStream, if_pos rfl]
  · rw [stream_congr (answer_foley ..), stream_congr (wr_foley ..), stream_setStream, if_neg other, stream_congr (wr_foley ..)]

include accepted enough in
theorem execAudStreamCfgWrite_host (host : cfgSource (s.merged (Obj.AUD_STREAM_CFG u.val) v.toNat) = 1)
    (domain : field (s.merged (Obj.AUD_STREAM_CFG u.val) v.toNat) 14 13 ≠ 3) (off : cfgSource (s.rd (Obj.AUD_STREAM_CFG u.val)) = 0) :
    ∃ t, exec (.audStreamCfgWrite rq u v) s = .next t ∧ t.rd (Obj.AUD_STREAM_CFG u.val) = s.merged (Obj.AUD_STREAM_CFG u.val) v.toNat ∧
      t.answered rq Status.ok ∧ t.foley = s.foley ∧ s.objectsBut t [Obj.AUD_STREAM_CFG u.val, Obj.AUD_BRIDGES_FREE] ∧ s.sameMemory t := by
  have write : s.writeStreamCfg u.val v.toNat = s.withBridges (s.wr (Obj.AUD_STREAM_CFG u.val) (s.merged (Obj.AUD_STREAM_CFG u.val) v.toNat)) := by
    simp [writeStreamCfg, host, domain, off]
  have edits : Edits [Obj.AUD_STREAM_CFG u.val, Obj.AUD_BRIDGES_FREE] s (s.wr (Obj.AUD_STREAM_CFG u.val) (s.merged (Obj.AUD_STREAM_CFG u.val)
      v.toNat)) := (Edits.refl s).wr
  refine ⟨_, ownRequest_answers accepted (write.trans (withBridges_taken enough)) (by decide), ?_, answered_answer .., rfl, edits.wr.answer.frame⟩
  rw [answer_rd, rd_wr_other _ _ _ _ (cfg_ne_bridges u.val), rd_wr_same]

include accepted in
theorem execAudStreamCfgWrite_invalid (invalid : cfgSource (s.merged (Obj.AUD_STREAM_CFG u.val) v.toNat) = 4) :
    exec (.audStreamCfgWrite rq u v) s = .next (s.answer rq Status.audConfigInvalid) :=
  ownRequest_answers accepted (t := s) (by simp [writeStreamCfg, invalid]) (by decide)

end

/-- A table that routes nothing is taken with its reserved bits zero (R511). -/
theorem writeRoutes_unused {s : State} {w : Nat} (names : ∀ e ∈ routeEntries w, rtStream e < 60 ∧ rtBus e < 14)
    (unused : ∀ e ∈ routeEntries w, rtValid e = false) : s.writeRoutes w
      = s.withBridges (s.wr Obj.AUD_ROUTE_TABLE (packItems 8 ((routeEntries w).map (fun e => setField (setField e 31 17 0) 63 48 0)))) := by
  have valid : (routeEntries w).filter rtValid = [] := List.filter_eq_nil_iff.2 fun e he => by simp [unused e he]
  have named : (routeEntries w).any (fun e => Nat.ble 60 (rtStream e) || Nat.ble 14 (rtBus e)) = false := by
    simpa using names
  have repeats : ¬(routesRepeat (List.map routeName ([] : List Nat)) || false) = true := by decide
  unfold writeRoutes
  dsimp only
  rw [if_neg (by rw [named]; decide), valid, List.any_nil, if_neg repeats, List.any_nil, if_neg (by decide)]

/-- A table that names a stream or bus that is not a host's is refused with OWNER_LOCKED. -/
theorem writeRoutes_foreign {s : State} {w : Nat} (foreign : ∃ e ∈ routeEntries w, 60 ≤ rtStream e ∨ 14 ≤ rtBus e) :
    s.writeRoutes w = (Status.ownerLocked, s) := by
  have named : (routeEntries w).any (fun e => Nat.ble 60 (rtStream e) || Nat.ble 14 (rtBus e)) = true := by
    simpa using foreign
  unfold writeRoutes
  dsimp only
  rw [if_pos named]

section
variable {s : State} {rq : Requester} {v : Nat} (accepted : s.accepts rq Obj.AUD_ROUTE_TABLE v = true)
include accepted

theorem execAudRouteTableWrite_taken (names : ∀ e ∈ routeEntries (v % 2 ^ 32768), rtStream e < 60 ∧ rtBus e < 14)
    (unused : ∀ e ∈ routeEntries (v % 2 ^ 32768), rtValid e = false)
    (enough : (s.wr Obj.AUD_ROUTE_TABLE (packItems 8 ((routeEntries (v % 2 ^ 32768)).map (fun e => setField (setField e 31 17 0) 63 48 0)))).bridgesNeeded ≤ 16) :
    ∃ t, exec (.audRouteTableWrite rq v) s = .next t ∧
      t.rd Obj.AUD_ROUTE_TABLE = packItems 8 ((routeEntries (v % 2 ^ 32768)).map (fun e => setField (setField e 31 17 0) 63 48 0)) ∧
      t.answered rq Status.ok ∧ t.foley = s.foley ∧ s.objectsBut t [Obj.AUD_ROUTE_TABLE, Obj.AUD_BRIDGES_FREE] ∧ s.sameMemory t := by
  have write := (writeRoutes_unused (s := s) names unused).trans (withBridges_taken enough)
  have edits (w n : Nat) : Edits [Obj.AUD_ROUTE_TABLE, Obj.AUD_BRIDGES_FREE] s ((s.wr Obj.AUD_ROUTE_TABLE w).wr Obj.AUD_BRIDGES_FREE n) :=
    (Edits.refl s).wr.wr
  refine ⟨_, ownRequest_answers accepted write (by decide), ?_, answered_answer .., (answer_foley ..).trans ((wr_foley ..).trans (wr_foley ..)),
    (edits ..).answer.frame⟩
  rw [answer_rd, rd_wr_other _ _ _ _ (by decide), rd_wr_same]

theorem execAudRouteTableWrite_locked (foreign : ∃ e ∈ routeEntries (v % 2 ^ 32768), 60 ≤ rtStream e ∨ 14 ≤ rtBus e) :
    ∃ t, exec (.audRouteTableWrite rq v) s = .next t ∧ t.answered rq Status.ownerLocked ∧ t.apart = s.apart ∧ s.objectsBut t [Obj.LOG_LOST] := by
  have write := writeRoutes_foreign (s := s) foreign
  have run : exec (.audRouteTableWrite rq v) s
      = .next ((s.ownerRefused rq.code (refusedResource Obj.AUD_ROUTE_TABLE) 0).answer rq Status.ownerLocked) := by
    change Host.Outcome.next _ = _
    rw [ownRequest_locked _ _ _ _ _ accepted (by rw [write]), write]
  refine ⟨_, run, answered_answer .., by simp, fun a ha => ?_⟩
  rw [answer_rd, rd_ownerRefused _ _ _ _ _ (by simpa using ha)]

end

/-! ## Chimes (R409, R522) -/

section
variable {s : State} {rq : Requester} {v : Fin 256}

section
variable (accepted : s.accepts rq Obj.CHIME_PLAY v.val = true)
include accepted

theorem execChimePlay_none (zero : v.val = 0) : exec (.chimePlay rq v) s = .next (s.answer rq Status.ok) :=
  ownRequest_answers accepted (t := s) (by simp [playChime, zero]) (by decide)

theorem execChimePlay_invalid (some : v.val ≠ 0) (invalid : chValid (s.chimeEntry v.val) = false) :
    exec (.chimePlay rq v) s = .next (s.answer rq Status.audConfigInvalid) :=
  ownRequest_answers accepted (t := s) (by simp [playChime, some, invalid]) (by decide)

theorem execChimePlay_busy (some : v.val ≠ 0) (valid : chValid (s.chimeEntry v.val) = true)
    (full : s.chooseGen v.val (chPriority (s.chimeEntry v.val)) = none) :
    ∃ t, exec (.chimePlay rq v) s = .next t ∧ t.answered rq Status.chimeBusy ∧
      (s.log.fifo.length < 256 → t.told Ev.chimeRefused noOwner [d8 v.val, dCase Ev.chimeRefused 0]) ∧ t.apart = s.apart ∧
      s.objectsBut t [Obj.LOG_LOST] := by
  have write : s.playChime v.val 0 = (Status.chimeBusy, s.logEvent Ev.chimeRefused noOwner [d8 v.val, dCase Ev.chimeRefused 0]) := by
    simp [playChime, some, valid, full]
  refine ⟨_, ownRequest_answers accepted write (by decide), answered_answer .., fun room => told_logEvent _ _ _ _ room, ?_, ?_⟩
  · simp
  · exact ((Edits.refl s).logEvent (hl := List.mem_cons_self)).answer.obj

theorem execChimePlay_waits (some : v.val ≠ 0) (valid : chValid (s.chimeEntry v.val) = true) {g : Nat}
    (free : s.chooseGen v.val (chPriority (s.chimeEntry v.val)) = .some g) (awake : s.rd Obj.PWR_STATE < 3) :
    ∃ t, exec (.chimePlay rq v) s = .next t ∧ (t.gen g).next = .some ⟨v.val, s.chimeEntry v.val, 0, s.order, 0⟩ ∧ (t.gen g).now = (s.gen g).now ∧
      t.answered rq Status.ok ∧ (∀ n, n ≠ g → t.gen n = s.gen n) ∧ s.objectsBut t [Obj.CHIME_NOW] ∧ s.sameMemory t := by
  have queued : Edits [Obj.CHIME_NOW] s (({ s with order := s.order + 1 } : State).setGen g
      { s.gen g with next := .some ⟨v.val, s.chimeEntry v.val, 0, s.order, 0⟩ }) := setGen_edits (Edits.refl s).same
  have write : s.playChime v.val 0 = (Status.ok, ({ s with order := s.order + 1 } : State).setGen g
      { s.gen g with next := .some ⟨v.val, s.chimeEntry v.val, 0, s.order, 0⟩ }) := by
    have power := queued.rd (a := Obj.PWR_STATE) (by decide)
    rw [playChime]
    simp only [some, valid, free, if_false, Bool.not_true, Bool.false_eq_true]
    have below : ¬3 ≤ (({ s with order := s.order + 1 } : State).setGen g
        { s.gen g with next := .some ⟨v.val, s.chimeEntry v.val, 0, s.order, 0⟩ }).rd Obj.PWR_STATE := by
      rw [power]
      omega
    exact congrArg (Prod.mk Status.ok) (if_neg below)
  have gens (n : Nat) : ((({ s with order := s.order + 1 } : State).setGen g
      { s.gen g with next := .some ⟨v.val, s.chimeEntry v.val, 0, s.order, 0⟩ }).answer rq Status.ok).gen n =
      if n = g then { s.gen g with next := .some ⟨v.val, s.chimeEntry v.val, 0, s.order, 0⟩ } else s.gen n :=
    (gen_congr (answer_foley ..) n).trans (gen_setGen ..)
  refine ⟨_, ownRequest_answers accepted write (by decide), ?_, ?_, answered_answer .., fun n other => ?_, queued.answer.frame⟩
  · rw [gens, if_pos rfl]
  · rw [gens, if_pos rfl]
  · rw [gens, if_neg other]

end

/-- What a stop leaves of a generator whose chimes it concerns (R522). -/
def genStopped (p : Nat → Bool) (x : Generator) : Generator :=
  { x with next := x.next.filter (fun r => !p r.chime), stopping := x.stopping || (x.now.map (fun r => p r.chime)).getD false }

/-- A stop's turn at a generator. -/
def stopTurn (p : Nat → Bool) (s : State) (g : Nat) : State :=
  let x := s.gen g
  let dropped := match x.next with | some r => p r.chime | none => false
  let stops := match x.now with | some r => p r.chime | none => false
  if dropped || stops then s.setGen g { x with next := if dropped then none else x.next, stopping := x.stopping || stops } else s

theorem gen_stopTurn (p : Nat → Bool) (s : State) (g n : Nat) : (stopTurn p s g).gen n = if n = g then genStopped p (s.gen g) else s.gen n := by
  unfold stopTurn
  extract_lets x dropped stops
  have stopped : ({ x with next := if dropped then none else x.next, stopping := x.stopping || stops } : Generator) = genStopped p x := by
    unfold dropped stops genStopped
    have filtered (r : ChimeRun) : (if p r.chime = true then none else some r) = if p r.chime = false then some r else none := by
      cases p r.chime <;> rfl
    cases x.now <;> cases x.next <;> simp [Option.filter, filtered]
  have quiet (h : ¬(dropped || stops) = true) : genStopped p x = x := by
    rw [Bool.not_eq_true, Bool.or_eq_false_iff] at h
    rw [← stopped, h.1, h.2, Bool.or_false]
    rfl
  split
  · rw [gen_setGen, stopped]
  · next h =>
    rw [quiet h]
    split
    · next same => rw [same]
    · rfl

theorem stopChime_gens (s : State) (p : Nat → Bool) {g : Nat} (hg : g < 4) : (s.stopChime p).gen g = genStopped p (s.gen g) := by
  obtain ⟨before, after, notBefore, notAfter, -, -, turns⟩ := each_at (s := s) List.nodup_range (List.mem_range.2 hg) (stopTurn p)
  have untouched (t : State) {l : List Nat} (out : g ∉ l) : (t.each l (stopTurn p)).gen g = t.gen g :=
    eachIn_keeps (P := fun u => u.gen g = t.gen g) (fun u n hn hu => by rw [gen_stopTurn, if_neg (fun e : g = n => out (e ▸ hn)), hu]) rfl
  change (s.each (List.range 4) (stopTurn p)).gen g = _
  rw [turns, untouched _ notAfter, gen_stopTurn, if_pos rfl, untouched _ notBefore]

theorem stopChime_edits (s : State) (p : Nat → Bool) : Edits [Obj.CHIME_NOW] s (s.stopChime p) :=
  .each (.refl s) fun _ _ h => .ite (setGen_edits h) h

theorem execChimeStop_stops (accepted : s.accepts rq Obj.CHIME_STOP v.val = true) :
    ∃ t, exec (.chimeStop rq v) s = .next t ∧ t.answered rq Status.ok ∧
      (∀ g < 4, ∀ r, (s.gen g).now = some r → v.val = 0 ∨ r.chime = v.val → (t.gen g).now = some r ∧ (t.gen g).stopping = true) ∧
      (∀ g < 4, ∀ r, (t.gen g).next = some r → v.val ≠ 0 ∧ r.chime ≠ v.val) ∧ s.objectsBut t [Obj.CHIME_NOW] ∧ s.sameMemory t := by
  have gens {g : Nat} (hg : g < 4) : ((s.stopChime (fun c => decide (v.val = 0) || decide (c = v.val))).answer rq Status.ok).gen g
      = genStopped (fun c => decide (v.val = 0) || decide (c = v.val)) (s.gen g) := (gen_congr (answer_foley ..) g).trans (stopChime_gens s _ hg)
  refine ⟨_, ownRequest_answers accepted (st := Status.ok) rfl (by decide), answered_answer .., fun g hg r plays hit => ?_, fun g hg r waits => ?_,
    (stopChime_edits ..).answer.frame⟩
  · rw [gens hg]
    have stops : (decide (v.val = 0) || decide (r.chime = v.val)) = true := by simpa using hit
    refine ⟨plays, ?_⟩
    simp only [genStopped, plays, Option.map_some, Option.getD_some, stops, Bool.or_true]
  · rw [gens hg] at waits
    have kept := (Option.filter_eq_some_iff.1 waits).2
    simpa using kept

theorem execChimeEnd_ends {g : Fin 4} {r : ChimeRun} (plays : (s.gen g.val).now = some r) :
    ∃ t, exec (.chimeEnd g) s = .next t ∧ (t.gen g.val).now = none ∧ (t.gen g.val).next = (s.gen g.val).next ∧
      (s.log.fifo.length < 256 → t.told Ev.chimeEnd noOwner [d8 r.chime, d8 (60 + g.val), dCase Ev.chimeEnd 0]) ∧
      (∀ n, n ≠ g.val → t.gen n = s.gen n) ∧ s.objectsBut t [Obj.CHIME_NOW, Obj.LOG_LOST] ∧ s.sameMemory t := by
  have run : exec (.chimeEnd g) s = .next (s.chimeEnds g.val r 0) := by
    change execChimeEnd g s = _
    simp only [execChimeEnd, plays]
  have edits : Edits [Obj.CHIME_NOW, Obj.LOG_LOST] s (s.chimeEnds g.val r 0) := (setGen_edits (.refl s)).logEvent
  refine ⟨_, run, ?_, ?_, fun room => told_logEvent _ _ _ _ room, fun n other => ?_, edits.frame⟩
  · rw [chimeEnds, gen_congr (logEvent_foley ..), gen_setGen, if_pos rfl]
  · rw [chimeEnds, gen_congr (logEvent_foley ..), gen_setGen, if_pos rfl]
  · rw [chimeEnds, gen_congr (logEvent_foley ..), gen_setGen, if_neg other]

end

/-- Settles O49: writes of streams, routes and chimes are judged and taken; a port's clock and a block reach each stream and generator in its own turn of
the loop over them. -/
theorem audioStreamsAndChimes : Obligations.AudioStreamsAndChimes := by
  refine ⟨⟨fun s rq u v accepted enough => ⟨fun off => ?_, fun host domain off => ?_, fun invalid => ?_⟩,
    fun s rq v accepted => ⟨fun names unused enough => ?_, fun foreign => ?_⟩, fun s p => ⟨fun on slave clocked => ?_, fun blocks lost => ?_⟩,
    fun s d rate ins outs free powered noInjection u hu runs stays same port here clocked => ?_, fun s d rate ins outs off => ?_⟩,
    fun s rq v accepted => ⟨fun zero => ?_, fun some invalid => ?_, fun some valid full => ?_, fun some valid g free awake => ?_⟩,
    fun s rq v accepted => ?_, fun s g r plays => ?_, fun s d rate ins outs g r free powered waits silent up here => ?_⟩
  · exact execAudStreamCfgWrite_off accepted enough off
  · exact execAudStreamCfgWrite_host accepted enough host domain off
  · exact execAudStreamCfgWrite_invalid accepted invalid
  · exact execAudRouteTableWrite_taken accepted names unused enough
  · exact execAudRouteTableWrite_locked accepted foreign
  · exact execTdmClockLost_loses on slave clocked
  · exact execTdmClockBack_resumes blocks lost
  · exact execBlockBoundary_counts rate ins outs free powered noInjection hu runs stays same port here clocked
  · change execBlockBoundary d rate ins outs s = _
    rw [execBlockBoundary, if_pos (.inr off)]
  · exact execChimePlay_none accepted zero
  · exact execChimePlay_invalid accepted some invalid
  · exact execChimePlay_busy accepted some valid full
  · exact execChimePlay_waits accepted some valid free awake
  · exact execChimeStop_stops accepted
  · exact execChimeEnd_ends plays
  · exact execBlockBoundary_starts rate ins outs free powered waits silent up here

end Sys2Proof.Machine
end

section
/-! SUPPORT. O50 to O52: LDP (R543 to R567). What an answer to a request does (`Replies s t ch x status body`), and that an open session is there after it. -/
namespace Sys2Proof.Machine
open Sys2Proof

namespace State

theorem find?_set {α : Type} (t : Tab α) (k m : Nat) (v : α) :
    (Tab.set t k v).find? (fun e => decide (e.1 = m)) = if m = k then some (k, v) else t.find? (fun e => decide (e.1 = m)) := by
  induction t with
  | nil =>
    by_cases h : m = k
    · simp [Tab.set, h]
    · simp [Tab.set, h, Ne.symm h]
  | cons e t ih =>
    obtain ⟨k', v'⟩ := e
    by_cases h : m = k
    · subst h
      unfold Tab.set
      split
      · simp
      · split
        · simp
        · next other => simp [ih, Ne.symm other]
    · rw [if_neg h] at ih
      unfold Tab.set
      split
      · simp [Ne.symm h]
      · split
        · next same => simp [← same, Ne.symm h]
        · simp [List.find?_cons, ih]

theorem session?_setSession (s : State) (n m : Nat) (x : Session) : (s.setSession n x).session? m = if m = n then some x else s.session? m := by
  change (((Tab.set s.ldp.sessions n x).find? (fun e => decide (e.1 = m))).map Prod.snd) = _
  rw [find?_set]
  split <;> rfl

theorem logRaw_io (s : State) (code source : Nat) (i : Bool) (pos : Spos) (time : Nat) (ds : List Detail) : (s.logRaw code source i pos time ds).io = s.io := by
  unfold logRaw
  dsimp only
  split <;> rfl

theorem tallyCount_io (s : State) (g k o : Nat) : (s.tallyCount g k o).io = s.io := by
  unfold tallyCount
  split
  · dsimp only
    split
    · exact logRaw_io ..
    · rfl
  · rfl

theorem session?_congr {s t : State} (h : t.ldp.sessions = s.ldp.sessions) (n : Nat) : t.session? n = s.session? n := by rw [session?, session?, h]

theorem logEvent_io (s : State) (code source : Nat) (ds : List Detail) : (s.logEvent code source ds).io = s.io := by
  unfold logEvent logAt tallyRecord
  split
  · rw [tallyCount_io]
    exact logRaw_io ..
  · exact logRaw_io ..

/-- A request that is answered no longer waits, and is counted (R545). -/
def taken (s : State) (ch : Nat) (x : LdpTxn) : State :=
  ((s.modLdp (fun l => { l with txns := l.txns.erase (ch, x) })).countTxns ch).tallyCount 33 0 noOwner

theorem taken_ldp (s : State) (ch : Nat) (x : LdpTxn) : (s.taken ch x).ldp = { s.ldp with txns := s.ldp.txns.erase (ch, x) } := by
  rw [taken, tallyCount_ldp, countTxns]
  split <;> rfl

theorem taken_flash (s : State) (ch : Nat) (x : LdpTxn) : (s.taken ch x).flash = s.flash := by
  rw [taken, tallyCount_flash, countTxns]
  split <;> rfl

theorem taken_edits (s : State) (ch : Nat) (x : LdpTxn) : Edits [Obj.SESS_OUTSTANDING ch, Obj.LOG_LOST] s (s.taken ch x) := by
  have erased : Edits [Obj.SESS_OUTSTANDING ch, Obj.LOG_LOST] s (s.modLdp (fun l => { l with txns := l.txns.erase (ch, x) })) := (Edits.refl s).same
  rw [taken, countTxns]
  split
  · exact erased.wr.tallyCount
  · exact erased.tallyCount

theorem session?_taken (s : State) (ch : Nat) (x : LdpTxn) (n : Nat) : (s.taken ch x).session? n = s.session? n :=
  session?_congr (by rw [taken_ldp]) n

/-- A request is answered: the answer is sent on its channel, the request no longer waits, and nothing else of LDP and the store changes but the session's
own counters. -/
structure Replies (s t : State) (ch : Nat) (x : LdpTxn) (status : Nat) (body : List (BitVec 8)) : Prop where
  edits : Edits [Obj.SESS_OUTSTANDING ch, Obj.LOG_LOST] s t
  sent : IoEvent.ldp ch (s.reply ch x status body) ∈ t.io
  ldp : t.ldp = { s.ldp with sessions := t.ldp.sessions, txns := s.ldp.txns.erase (ch, x) }
  open' : ∀ n, (t.session? n).isSome = (s.session? n).isSome
  flash : t.flash = s.flash

theorem session_of_canReply {s : State} {ch : Nat} (can : s.canReply ch = true) (session : isSession ch = true) :
    ∃ y, s.session? ch = some y ∧ y.nextSeq ≤ 0xFFFFFFFF := by
  cases found : s.session? ch with
  | none => simp [canReply, session, found] at can
  | some y =>
    simp [canReply, session, found] at can
    exact ⟨y, rfl, can.2⟩

/-- What is sent on a session that is open. -/
def signed (x : Session) (op tid status : Nat) (body : List (BitVec 8)) : List (BitVec 8) :=
  ldpMessage op tid x.number x.nextSeq status body ++ macOf x.key (ldpMessage op tid x.number x.nextSeq status body)

theorem sendOn_sends {s : State} {n : Nat} {x : Session} (open' : s.session? n = some x) (counter : x.nextSeq ≤ 0xFFFFFFFF) (op tid status : Nat)
    (body : List (BitVec 8)) (keep : Option Nat) :
    ∃ y, s.sendOn n op tid status body keep = (s.setSession n y).emit (.ldp n (signed x op tid status body)) := by
  rw [sendOn, open']
  exact ⟨_, if_neg counter.not_gt⟩

theorem setSession_ldp (s : State) (n : Nat) (y : Session) :
    (s.setSession n y).ldp = { s.ldp with sessions := (s.setSession n y).ldp.sessions } := rfl

/-- What an answer on a dictionary window changes. -/
theorem windowDone_sends (s : State) (o op tid status : Nat) (body : List (BitVec 8)) :
    (s.windowDone o op tid status body).stores = s.stores ∧ (s.windowDone o op tid status body).ldp = s.ldp ∧
    (s.windowDone o op tid status body).flash = s.flash ∧
    IoEvent.ldp (windowChannel o) (ldpMessage op tid 0 0 status body) ∈ (s.windowDone o op tid status body).io := by
  unfold windowDone
  extract_lets m w done sent
  split
  · exact ⟨rfl, rfl, rfl, List.mem_cons_of_mem _ List.mem_cons_self⟩
  · exact ⟨rfl, rfl, rfl, List.mem_cons_self⟩

theorem respond_replies {s : State} {ch : Nat} {x : LdpTxn} (can : s.canReply ch = true) (waits : (ch, x) ∈ s.ldp.txns) (status : Nat)
    (body : List (BitVec 8)) : Replies s (s.respond ch x status body) ch x status body := by
  have answered : s.respond ch x status body = if isSession ch then (s.taken ch x).sendOn ch (x.op + 0x80) x.tid status body (some x.seq)
      else (s.taken ch x).windowDone (ch - 8) (x.op + 0x80) x.tid status body := by
    rw [respond, if_neg (by simpa using waits)]
    rfl
  by_cases session : isSession ch = true
  · obtain ⟨y, open', counter⟩ := session_of_canReply can session
    obtain ⟨z, sends⟩ := sendOn_sends ((session?_taken s ch x ch).trans open') counter (x.op + 0x80) x.tid status body (some x.seq)
    rw [answered, if_pos session, sends]
    have ldp : ((s.taken ch x).setSession ch z).ldp = { s.ldp with
        sessions := ((s.taken ch x).setSession ch z).ldp.sessions, txns := s.ldp.txns.erase (ch, x) } := by
      rw [setSession_ldp, taken_ldp]
    refine ⟨(taken_edits s ch x).same, ?_, ldp, fun n => ?_, taken_flash s ch x⟩
    · rw [reply, if_pos session, open']
      exact List.mem_cons_self
    · change (((s.taken ch x).setSession ch z).session? n).isSome = _
      rw [session?_setSession]
      split
      · next same => rw [same, open']; rfl
      · rw [session?_taken]
  · have number : windowChannel (ch - 8) = ch := by
      have wide : ¬ch < 8 := by simpa [isSession] using session
      unfold windowChannel
      omega
    obtain ⟨stores, ldp, flash, sent⟩ := windowDone_sends (s.taken ch x) (ch - 8) (x.op + 0x80) x.tid status body
    rw [answered, if_neg session]
    rw [number] at sent
    have ldp' := ldp.trans (taken_ldp s ch x)
    refine ⟨(taken_edits s ch x).of_stores stores, ?_, ldp'.trans (by rw [ldp']), fun n => congrArg Option.isSome (session?_congr (by rw [ldp']) n),
      flash.trans (taken_flash s ch x)⟩
    rw [reply, if_neg session]
    exact sent

theorem conclude_replies {s : State} {ch : Nat} {x : LdpTxn} (can : s.canReply ch = true) (waits : (ch, x) ∈ s.ldp.txns) (status : Nat)
    (body : List (BitVec 8)) : Replies s (s.conclude ch x status body) ch x status body := by
  have up : s.gafferDown = false := by simp_all [canReply]
  rw [conclude, up]
  exact respond_replies can waits status body

theorem mem_of_nextTxn {s : State} {ch op : Nat} {x : LdpTxn} (next : s.nextTxn ch op = some x) : (ch, x) ∈ s.ldp.txns := by
  unfold nextTxn at next
  split at next
  · next t ts waiting =>
    have ht : t ∈ (s.txnsOf ch).filter (fun t => t.waits.isNone) := waiting ▸ List.mem_cons_self
    split at next
    · cases next
      have ht := List.mem_of_mem_filter ht
      simpa [txnsOf] using ht
    · cases next
  · cases next

theorem onTxn_next {s : State} {c : LdpChannel} {op : Nat} {x : LdpTxn} (next : s.nextTxn c.number op = some x) (f : State → Nat → LdpTxn → State) :
    s.onTxn c op f = f s c.number x := by rw [onTxn, next]

end State

end Sys2Proof.Machine
end

section
/-! SUPPORT, and the statement O50: requests that read, subscriptions, and the close of a session. -/
namespace Sys2Proof.Machine
open Sys2Proof

namespace State

section
variable {s t : State} {ch : Nat} {x : LdpTxn} {status : Nat} {body : List (BitVec 8)}

theorem Replies.replied (h : Replies s t ch x status body) : s.replied t ch x status body := ⟨h.sent, by rw [h.ldp]⟩

theorem Replies.subs (h : Replies s t ch x status body) : t.ldp.subs = s.ldp.subs := by rw [h.ldp]

theorem reply_congr {s t : State} (h : t.ldp.sessions = s.ldp.sessions) (ch : Nat) (x : LdpTxn) (status : Nat) (body : List (BitVec 8)) :
    t.reply ch x status body = s.reply ch x status body := by rw [reply, reply, session?_congr h]

theorem canReply_congr {s t : State} (boot : t.boot = s.boot) (h : t.ldp.sessions = s.ldp.sessions) (ch : Nat) : t.canReply ch = s.canReply ch := by
  rw [canReply, canReply, gafferDown, gafferDown, boot, session?_congr h]

end

/-! ## A session that is closed (R563) -/

/-- What shows a session's slot. -/
def slotShown (n : Nat) : List Nat := [Obj.SESS_STATE n, Obj.SESS_SOURCE n, Obj.SESS_CRED n, Obj.SESS_OPENED n, Obj.SESS_OUTSTANDING n]

theorem clearSlot_edits {os : List Nat} {s t : State} {n : Nat} (h : Edits os s t) (hos : ∀ a ∈ slotShown n, a ∈ os := by simp [slotShown]) :
    Edits os s (t.clearSlot n) :=
  ((((h.wr (hos _ (by simp [slotShown]))).wr (hos _ (by simp [slotShown]))).wr (hos _ (by simp [slotShown]))).wr (hos _ (by simp [slotShown]))).wr
    (hos _ (by simp [slotShown]))

theorem rd_clearSlot_state (s : State) (n : Nat) : (s.clearSlot n).rd (Obj.SESS_STATE n) = 0 := by
  simp [clearSlot, rd_wr, Obj.SESS_STATE, Obj.SESS_SOURCE, Obj.SESS_CRED, Obj.SESS_OPENED, Obj.SESS_OUTSTANDING]

theorem find?_drop {α : Type} (t : Tab α) (k : Nat) : (Tab.drop t k).find? (fun e => decide (e.1 = k)) = none := by
  simp [Tab.drop]

/-- A slot that is freed holds no session, no request, no part and no subscription. -/
theorem freeSession_frees (s : State) (n : Nat) : (s.freeSession n).session? n = none ∧ (s.freeSession n).rd (Obj.SESS_STATE n) = 0 ∧
    (s.freeSession n).txnsOf n = [] ∧ (∀ y ∈ (s.freeSession n).ldp.subs, y.channel ≠ n) ∧ Edits (slotShown n) s (s.freeSession n) := by
  refine ⟨?_, rd_clearSlot_state _ n, ?_, fun y hy => ?_, ?_⟩
  · change ((Tab.drop s.ldp.sessions n).find? (fun e => decide (e.1 = n))).map Prod.snd = none
    rw [find?_drop]
    rfl
  · change ((s.ldp.txns.filter (fun e => !decide (e.1 = n))).filter (fun e => decide (e.1 = n))).map Prod.snd = []
    simp
  · have kept : y ∈ s.ldp.subs.filter (fun x => !decide (x.channel = n)) := hy
    simpa using (List.mem_filter.1 kept).2
  · exact clearSlot_edits (Edits.refl s).same (fun _ h => h)

/-- A session that is closed: its slot is free, its open transactions are told, and what was sent stays sent. -/
structure Closed (s t : State) (n reason : Nat) : Prop where
  none : t.session? n = none
  state : t.rd (Obj.SESS_STATE n) = 0
  txns : t.txnsOf n = []
  subs : ∀ y ∈ t.ldp.subs, y.channel ≠ n
  io : t.io = s.io
  edits : Edits (Obj.LOG_LOST :: slotShown n) s t
  told : s.rd (Obj.SESS_STATE n) = 2 → s.log.fifo.length < 256 → t.told Ev.sessionClose noOwner [d8 n, dCase Ev.sessionClose reason,
    d32 ((s.txnsOf n).length - ((s.txnsOf n).filter (fun t => t.waits.isSome)).length), d32 ((s.txnsOf n).filter (fun t => t.waits.isSome)).length] = true

theorem closeSession_closes {s : State} {n : Nat} {x : Session} (open' : s.session? n = some x) (reason : Nat) : Closed s (s.closeSession n reason) n reason := by
  unfold closeSession
  rw [open']
  extract_lets started rest flash detached opened freed
  dsimp only
  obtain ⟨none, state, txns, subs, shown⟩ := freeSession_frees detached n
  have same : Edits (slotShown n) s freed := (Edits.refl s).same.trans shown
  have wide : Edits (Obj.LOG_LOST :: slotShown n) s freed := same.mono fun a ha => List.mem_cons_of_mem _ ha
  have lost : Obj.SESS_STATE n ≠ Obj.LOG_LOST := by
    simp only [Obj.SESS_STATE, Obj.LOG_LOST]
    omega
  split
  · have ldp : (freed.logEvent Ev.sessionClose noOwner [d8 n, dCase Ev.sessionClose reason, d32 rest, d32 started]).ldp = freed.ldp := logEvent_ldp ..
    exact ⟨(session?_congr (by rw [ldp]) n).trans none, (rd_logEvent _ _ _ _ _ lost).trans state, by rw [txnsOf, ldp]; exact txns, by rw [ldp]; exact subs,
      logEvent_io .., wide.logEvent, fun _ room => told_logEvent _ _ _ _ room⟩
  · next shut => exact ⟨none, state, txns, subs, rfl, wide, fun two _ => absurd (decide_eq_true two) shut⟩

theorem endWindow_ends (s : State) (o : Nat) : (∀ y ∈ (s.endWindow o).ldp.subs, y.channel ≠ windowChannel o) ∧ (s.endWindow o).io = s.io ∧
    Edits [] s (s.endWindow o) := by
  refine ⟨fun y hy => ?_, rfl, (Edits.refl s).same⟩
  have kept : y ∈ s.ldp.subs.filter (fun x => !decide (x.channel = windowChannel o)) := hy
  simpa using (List.mem_filter.1 kept).2

end State

open State

section
variable {s : State} {c : LdpChannel} (can : s.canReply c.number = true) {x : LdpTxn}
include can

theorem execLdpRead_answers (next : s.nextTxn c.number 0x01 = some x) :
    let r := s.ldpReadNow c.requester c.number (256 * takeLe x.body 0 2 + at8 x.body 2) (takeLe x.body 4 2) (takeLe x.body 6 2)
    ∃ t, exec (.ldpRead c) s = .next t ∧ s.replied t c.number x r.1 r.2 ∧ s.objectsBut t [Obj.SESS_OUTSTANDING c.number, Obj.LOG_LOST] ∧ s.sameMemory t := by
  intro r
  have answered := conclude_replies can (mem_of_nextTxn next) r.1 r.2
  exact ⟨_, congrArg Host.Outcome.next (onTxn_next next _), answered.replied, answered.edits.frame⟩

theorem execLdpReadBlock_answers (next : s.nextTxn c.number 0x03 = some x) :
    let body := (List.range (at8 x.body 3 + 1 - at8 x.body 2)).flatMap (fun i => s.readRecord c.requester (256 * takeLe x.body 0 2 + at8 x.body 2 + i))
    ∃ t, exec (.ldpReadBlock c) s = .next t ∧
      (if s.largest c.number < overhead c.number + body.length then s.replied t c.number x Status.ldpTooLarge [] else s.replied t c.number x Status.ok body) ∧
      s.objectsBut t [Obj.SESS_OUTSTANDING c.number, Obj.LOG_LOST] ∧ s.sameMemory t := by
  intro body
  have run : exec (.ldpReadBlock c) s = .next (if s.largest c.number < overhead c.number + body.length then s.conclude c.number x Status.ldpTooLarge []
      else s.conclude c.number x Status.ok body) := congrArg Host.Outcome.next (onTxn_next next _)
  by_cases large : s.largest c.number < overhead c.number + body.length
  · rw [if_pos large] at run
    have answered := conclude_replies can (mem_of_nextTxn next) Status.ldpTooLarge []
    exact ⟨_, run, (if_pos large).mpr answered.replied, answered.edits.frame⟩
  · rw [if_neg large] at run
    have answered := conclude_replies can (mem_of_nextTxn next) Status.ok body
    exact ⟨_, run, (if_neg large).mpr answered.replied, answered.edits.frame⟩

theorem execLdpPing_answers (next : s.nextTxn c.number 0x13 = some x) :
    ∃ t, exec (.ldpPing c) s = .next t ∧ s.replied t c.number x Status.ok [] ∧ s.objectsBut t [Obj.SESS_OUTSTANDING c.number, Obj.LOG_LOST] ∧
      s.sameMemory t := by
  have answered := conclude_replies can (mem_of_nextTxn next) Status.ok []
  exact ⟨_, congrArg Host.Outcome.next (onTxn_next next _), answered.replied, answered.edits.frame⟩

theorem execLdpSubscribe_subscribes (next : s.nextTxn c.number 0x05 = some x)
    (readable : s.readStatus c.requester (256 * takeLe x.body 0 2 + at8 x.body 2) = Status.ok) (mode : at8 x.body 3 = 1) (slow : 10 ≤ takeLe x.body 4 2)
    (quick : takeLe x.body 4 2 ≤ 60000) (few : (s.ldp.subs.filter (fun y => decide (y.channel = c.number))).length < 32) (room : s.ldp.subs.length < 256) :
    ∃ t y, exec (.ldpSubscribe c) s = .next t ∧ t.ldp.subs = s.ldp.subs ++ [y] ∧ y.channel = c.number ∧
      y.addr = 256 * takeLe x.body 0 2 + at8 x.body 2 ∧ y.mode = 1 ∧ y.interval = takeLe x.body 4 2 ∧
      s.replied t c.number x Status.ok (leBytes 2 y.id) ∧ s.objectsBut t [Obj.SESS_OUTSTANDING c.number, Obj.LOG_LOST] ∧ s.sameMemory t := by
  have subscribes : ∃ y lastSub, y.channel = c.number ∧ y.addr = 256 * takeLe x.body 0 2 + at8 x.body 2 ∧ y.mode = 1 ∧ y.interval = takeLe x.body 4 2 ∧
      exec (.ldpSubscribe c) s = .next ((s.modLdp (fun l => { l with subs := l.subs ++ [y], lastSub := lastSub })).conclude c.number x Status.ok
        (leBytes 2 y.id)) := by
    have run : exec (.ldpSubscribe c) s = .next (s.subscribeNow c.requester c.number x) := congrArg Host.Outcome.next (onTxn_next next _)
    rw [run, subscribeNow]
    simp only [readable, mode, if_neg (show ¬(Status.ok ≠ Status.ok) by decide)]
    rw [if_neg (by omega), if_neg (by omega)]
    refine ⟨⟨s.newSubId, c.number, 256 * takeLe x.body 0 2 + at8 x.body 2, 1, takeLe x.body 4 2, s.dtime,
      s.readObject c.requester (256 * takeLe x.body 0 2 + at8 x.body 2)⟩, s.newSubId, rfl, rfl, rfl, rfl, ?_⟩
    simp only [if_true]
  obtain ⟨y, lastSub, channel, addr, periodic, interval, run⟩ := subscribes
  have waits : (c.number, x) ∈ (s.modLdp (fun l => { l with subs := l.subs ++ [y], lastSub := lastSub })).ldp.txns := mem_of_nextTxn next
  have answered := conclude_replies (s := s.modLdp (fun l => { l with subs := l.subs ++ [y], lastSub := lastSub })) can waits Status.ok (leBytes 2 y.id)
  have edits : Edits [Obj.SESS_OUTSTANDING c.number, Obj.LOG_LOST] s (s.modLdp (fun l => { l with subs := l.subs ++ [y], lastSub := lastSub })) :=
    (Edits.refl s).same
  exact ⟨_, y, run, answered.subs, channel, addr, periodic, interval, answered.replied, (edits.trans answered.edits).frame⟩

theorem execLdpUnsubscribe_answers (next : s.nextTxn c.number 0x06 = some x) :
    ((∃ y ∈ s.ldp.subs, y.channel = c.number ∧ y.id = takeLe x.body 0 2) →
      ∃ t, exec (.ldpUnsubscribe c) s = .next t ∧ s.replied t c.number x Status.ok [] ∧
        (∀ y, y ∈ t.ldp.subs ↔ y ∈ s.ldp.subs ∧ ¬(y.channel = c.number ∧ y.id = takeLe x.body 0 2)) ∧ s.sameMemory t) ∧
    ((∀ y ∈ s.ldp.subs, ¬(y.channel = c.number ∧ y.id = takeLe x.body 0 2)) →
      ∃ t, exec (.ldpUnsubscribe c) s = .next t ∧ s.replied t c.number x Status.ldpRange [] ∧ t.ldp.subs = s.ldp.subs ∧ s.sameMemory t) := by
  have run : exec (.ldpUnsubscribe c) s = .next (if s.ldp.subs.any (fun y => decide (y.channel = c.number) && decide (y.id = takeLe x.body 0 2)) then
      (s.modLdp (fun l => { l with subs := l.subs.filter (fun y => !(decide (y.channel = c.number) && decide (y.id = takeLe x.body 0 2))) })).conclude
        c.number x Status.ok []
      else s.conclude c.number x Status.ldpRange []) := congrArg Host.Outcome.next (onTxn_next next _)
  refine ⟨fun ⟨y, hy, own, id⟩ => ?_, fun none => ?_⟩
  · rw [if_pos (List.any_eq_true.2 ⟨y, hy, by simp [own, id]⟩)] at run
    have answered := conclude_replies (s := s.modLdp (fun l => { l with subs := l.subs.filter (fun y => !(decide (y.channel = c.number) &&
      decide (y.id = takeLe x.body 0 2))) })) can (mem_of_nextTxn next) Status.ok []
    have edits : Edits [Obj.SESS_OUTSTANDING c.number, Obj.LOG_LOST] s (s.modLdp (fun l => { l with subs := l.subs.filter (fun y =>
      !(decide (y.channel = c.number) && decide (y.id = takeLe x.body 0 2))) })) := (Edits.refl s).same
    refine ⟨_, run, answered.replied, fun z => ?_, (edits.trans answered.edits).sameMemory⟩
    rw [answered.subs]
    simp [modLdp, imp_iff_not_or]
  · rw [if_neg (by simpa using none)] at run
    have answered := conclude_replies can (mem_of_nextTxn next) Status.ldpRange []
    exact ⟨_, run, answered.replied, answered.subs, answered.edits.sameMemory⟩

theorem execLdpClose_closes (next : s.nextTxn c.number 0x12 = some x) :
    ∃ t, exec (.ldpClose c) s = .next t ∧ IoEvent.ldp c.number (s.reply c.number x Status.ok []) ∈ t.io ∧ (∀ y ∈ t.ldp.subs, y.channel ≠ c.number) ∧
      (isSession c.number = true → t.session? c.number = none ∧ t.rd (Obj.SESS_STATE c.number) = 0 ∧ t.txnsOf c.number = []) ∧ s.sameMemory t := by
  have answered := conclude_replies can (mem_of_nextTxn next) Status.ok []
  have run : exec (.ldpClose c) s = .next (if isSession c.number then (s.conclude c.number x Status.ok []).closeSession c.number closeAsked
      else (s.conclude c.number x Status.ok []).endWindow (c.number - 8)) := congrArg Host.Outcome.next (onTxn_next next _)
  by_cases session : isSession c.number = true
  · rw [if_pos session] at run
    obtain ⟨y, open', -⟩ := session_of_canReply can session
    obtain ⟨z, still⟩ := Option.isSome_iff_exists.1 ((answered.open' c.number).trans (by rw [open']; rfl))
    have closed := closeSession_closes still closeAsked
    refine ⟨_, run, closed.io ▸ answered.sent, closed.subs, fun _ => ⟨closed.none, closed.state, closed.txns⟩, fun a => ?_⟩
    rw [closed.edits.sameMemory a, answered.edits.sameMemory a]
  · rw [if_neg session] at run
    have number : windowChannel (c.number - 8) = c.number := by
      have wide : ¬c.number < 8 := by simpa [isSession] using session
      unfold windowChannel
      omega
    obtain ⟨subs, io, edits⟩ := endWindow_ends (s.conclude c.number x Status.ok []) (c.number - 8)
    rw [number] at subs
    exact ⟨_, run, io ▸ answered.sent, subs, fun h => absurd h session, (answered.edits.trans (edits.mono (by simp))).sameMemory⟩

theorem execLdpNotify_notifies {n : Fin 8} {y : Subscription} {z : Session} (lost : Nat) (channel : c.number = n.val) (serves : s.ldpServes = true)
    (open' : s.session? n.val = some z) (first : s.ldp.subs.head? = some y) (own : y.channel = n.val) (mode : y.mode = 1)
    (due : y.last + 1000000 * y.interval ≤ s.dtime) :
    let m := ldpMessage 0x40 0 z.number z.nextSeq 0 (notifyBody s y (s.readBytes (.field n) y.addr) lost)
    ∃ t, exec (.ldpNotify y.id lost) s = .next t ∧ t.io.head? = some (.ldp n.val (m ++ macOf z.key m)) ∧ s.objectsBut t [] ∧ s.sameMemory t := by
  intro m
  have found : s.ldp.subs.find? (fun x => decide (x.id = y.id)) = some y := by
    obtain ⟨ys, hys⟩ := List.head?_eq_some_iff.1 first
    rw [hys]
    simp
  have session : isSession n.val = true := Nat.ble_eq_true_of_le n.isLt
  have requester : requesterOf n.val = .field n := dif_pos n.isLt
  obtain ⟨z', found', counter⟩ := session_of_canReply can (by rw [channel, session])
  rw [channel, open'] at found'
  cases found'
  have run : ∃ value, exec (.ldpNotify y.id lost) s = .next ((s.modLdp (fun l => { l with subs := l.subs.map (fun x => if x = y then
      { y with last := s.dtime, value := value } else x) })).sendOn n.val 0x40 0 0 (notifyBody s y (s.readBytes (.field n) y.addr) lost) none) := by
    change ∃ value, execLdpNotify y.id lost s = _
    rw [execLdpNotify, found]
    have elapsed : Nat.ble (y.last + 1000000 * y.interval) s.dtime = true := Nat.ble_eq_true_of_le due
    simp only [serves, notify, requester, mode, elapsed, session, own, if_true, Bool.not_true, Bool.false_eq_true, false_and, or_false, if_false]
    exact ⟨_, rfl⟩
  obtain ⟨value, run⟩ := run
  obtain ⟨w, sends⟩ := sendOn_sends (s := s.modLdp (fun l => { l with subs := l.subs.map (fun x => if x = y then
      { y with last := s.dtime, value := value } else x) })) open' counter 0x40 0 0 (notifyBody s y (s.readBytes (.field n) y.addr) lost) none
  have edits : Edits [] s (((s.modLdp (fun l => { l with subs := l.subs.map (fun x => if x = y then
      { y with last := s.dtime, value := value } else x) })).setSession n.val w).emit (.ldp n.val (signed z 0x40 0 0 (notifyBody s y (s.readBytes
        (.field n) y.addr) lost)))) := (Edits.refl s).same
  refine ⟨_, run.trans (congrArg _ sends), rfl, edits.frame⟩

end

/-- Settles O50: a request that reads is answered by `conclude`, whatever its body says. -/
theorem readingRequestsAreAnswered : Obligations.ReadingRequestsAreAnswered := by
  refine fun s c can => ⟨fun x next => ?_, fun x next => ?_, fun x next => ?_, fun x next readable mode slow quick few room => ?_, fun x next => ?_,
    fun x next => ?_, fun n z y lost channel serves open' first own mode due => ?_⟩
  · exact execLdpRead_answers can next
  · exact execLdpReadBlock_answers can next
  · exact execLdpPing_answers can next
  · exact execLdpSubscribe_subscribes can next readable mode slow quick few room
  · exact execLdpUnsubscribe_answers can next
  · exact execLdpClose_closes can next
  · exact execLdpNotify_notifies can lost channel serves open' first own mode due

end Sys2Proof.Machine
end

section
/-! SUPPORT, and the statement O51: requests that write, COMMIT, and secrets. -/
namespace Sys2Proof.Machine
open Sys2Proof

namespace State

theorem op_of_nextTxn {s : State} {ch op : Nat} {x : LdpTxn} (next : s.nextTxn ch op = some x) : x.op = op := by
  unfold nextTxn at next
  split at next
  · split at next
    · next served =>
      cases next
      exact served.1
    · cases next
  · cases next

theorem mem_set {α : Type} (t : Tab α) (k : Nat) (v : α) : (k, v) ∈ Tab.set t k v := by
  induction t with
  | nil => exact List.mem_cons_self
  | cons e t ih =>
    unfold Tab.set
    split
    · exact List.mem_cons_self
    · split
      · exact List.mem_cons_self
      · exact List.mem_cons_of_mem _ ih

theorem closeSession_keeps (s : State) (n reason : Nat) : Edits (Obj.LOG_LOST :: slotShown n) s (s.closeSession n reason) ∧
    (s.flash.commit = none → (s.closeSession n reason).flash = s.flash) := by
  cases open' : s.session? n with
  | none => 
    have unchanged : s.closeSession n reason = s := by rw [closeSession, open']
    rw [unchanged]
    exact ⟨.refl s, fun _ => rfl⟩
  | some x =>
    refine ⟨(closeSession_closes open' reason).edits, fun idle => ?_⟩
    unfold closeSession
    rw [open']
    dsimp only
    have same : ({ s.flash with commit := s.flash.commit.map (fun c => if c.channel = n then { c with channel := 0xFF } else c) } : Flash) = s.flash := by
      rw [idle]
      exact congrArg (fun c => ({ s.flash with commit := c } : Flash)) idle.symm
    split
    · rw [logEvent_flash]
      exact same
    · exact same

/-- An answer to any request, sent or not, leaves memory, records and an idle store as they were. -/
theorem respond_keeps (s : State) (ch : Nat) (x : LdpTxn) (status : Nat) (body : List (BitVec 8)) :
    Edits (Obj.LOG_LOST :: slotShown ch) s (s.respond ch x status body) ∧ (s.flash.commit = none → (s.respond ch x status body).flash = s.flash) := by
  have mine : Edits (Obj.LOG_LOST :: slotShown ch) s (s.taken ch x) := (taken_edits s ch x).mono (by simp [slotShown])
  unfold respond
  split
  · exact ⟨.refl s, fun _ => rfl⟩
  · change Edits _ s (if isSession ch then (s.taken ch x).sendOn ch (x.op + 0x80) x.tid status body (some x.seq) else
      (s.taken ch x).windowDone (ch - 8) (x.op + 0x80) x.tid status body) ∧ (_ → (if isSession ch then (s.taken ch x).sendOn ch (x.op + 0x80) x.tid status
        body (some x.seq) else (s.taken ch x).windowDone (ch - 8) (x.op + 0x80) x.tid status body).flash = _)
    split
    · unfold sendOn
      split
      · exact ⟨mine, fun _ => taken_flash s ch x⟩
      · split
        · obtain ⟨edits, flash⟩ := closeSession_keeps (s.taken ch x) ch closeSeq
          exact ⟨mine.trans edits, fun idle => (flash (by rw [taken_flash, idle])).trans (taken_flash s ch x)⟩
        · exact ⟨mine.same, fun _ => taken_flash s ch x⟩
    · obtain ⟨stores, -, flash, -⟩ := windowDone_sends (s.taken ch x) (ch - 8) (x.op + 0x80) x.tid status body
      exact ⟨mine.of_stores stores, fun _ => flash.trans (taken_flash s ch x)⟩

theorem answerChannel_keeps (s : State) (ch tid status : Nat) (body : List (BitVec 8)) :
    Edits (Obj.LOG_LOST :: slotShown ch) s (s.answerChannel ch tid status body) ∧
    (s.flash.commit = none → (s.answerChannel ch tid status body).flash = s.flash) := by
  unfold answerChannel
  split
  · exact respond_keeps ..
  · exact ⟨.refl s, fun _ => rfl⟩

theorem commitAgain_idle {s : State} (h : s.flash.again = false) : s.commitAgain = s := by rw [commitAgain, h]; rfl

end State

open State

section
variable {s : State} {c : LdpChannel} {x : LdpTxn}

theorem execLdpWrite_writes (next : s.nextTxn c.number 0x02 = some x) (last : x.more = false) (whole : takeLe x.body 4 2 = 0) {r : ObjRow}
    (row : rowAt (256 * takeLe x.body 0 2 + at8 x.body 2) = some r) (value : r.ty ≠ .octets) :
    let w := s.writeAny c.requester (256 * takeLe x.body 0 2 + at8 x.body 2) (at8 x.body 3) (x.body.drop 8).length (ofBytes (x.body.drop 8))
    ∀ st, w.1 = some st → w.2.canReply c.number = true → (c.number, x) ∈ w.2.ldp.txns →
      ∃ t, exec (.ldpWrite c) s = .next t ∧ w.2.replied t c.number x st [] ∧ w.2.objectsBut t [Obj.SESS_OUTSTANDING c.number, Obj.LOG_LOST] ∧
        w.2.sameMemory t := by
  intro w st written can waits
  have run : exec (.ldpWrite c) s = .next (s.ldpWriteNow c.requester c.number x) := congrArg Host.Outcome.next (onTxn_next next _)
  have wrote : s.ldpWriteNow c.requester c.number x = w.2.conclude c.number x st [] := by
    have body : refusalBody x.op (256 * takeLe x.body 0 2 + at8 x.body 2) st = [] := if_neg (by rw [op_of_nextTxn next]; simp)
    unfold ldpWriteNow
    simp only [row, value, last, whole]
    simp only [false_and, if_false, ne_eq, not_true_eq_false, Bool.false_eq_true, or_self, and_false]
    rw [concludeWrite, written, ← body]
  rw [wrote] at run
  have answered := conclude_replies can waits st []
  exact ⟨_, run, answered.replied, answered.edits.frame⟩

/-- A part of a value that is not the last is staged, and is answered. -/
theorem execLdpWrite_stages (next : s.nextTxn c.number 0x02 = some x) (more : x.more = true) (can : s.canReply c.number = true)
    (start : takeLe x.body 4 2 = 0) (empty : s.staged c.number = none) {r : ObjRow}
    (row : rowAt (256 * takeLe x.body 0 2 + at8 x.body 2) = some r) (bytes : r.ty = .octets)
    (allowed : s.writeStatus c.requester (256 * takeLe x.body 0 2 + at8 x.body 2) (at8 x.body 3) (objLength r (256 * takeLe x.body 0 2 + at8 x.body 2)) 0
      = Status.ok) (short : (x.body.drop 8).length ≤ objLength r (256 * takeLe x.body 0 2 + at8 x.body 2)) :
    ∃ t y, exec (.ldpWrite c) s = .next t ∧ s.replied t c.number x Status.ok [] ∧ (c.number, y) ∈ t.ldp.staging ∧ y.bytes = x.body.drop 8 ∧
      y.lastAt = s.dtime ∧ s.objectsBut t [Obj.SESS_OUTSTANDING c.number, Obj.LOG_LOST] ∧ s.sameMemory t := by
  let y : Staging := ⟨256 * takeLe x.body 0 2 + at8 x.body 2, at8 x.body 3, x.body.drop 8, s.dtime⟩
  let u := s.modLdp (fun l => { l with staging := Tab.set l.staging c.number y })
  have run : exec (.ldpWrite c) s = .next (s.ldpWriteNow c.requester c.number x) := congrArg Host.Outcome.next (onTxn_next next _)
  have stages : s.ldpWriteNow c.requester c.number x = u.conclude c.number x Status.ok [] := by
    unfold ldpWriteNow
    simp only [row, bytes, partOf, empty, start, more]
    simp only [Bool.true_or, and_self, if_true, allowed]
    unfold writePart
    simp only [empty, more, List.length_nil, Nat.zero_add, List.nil_append, ne_eq, not_true_eq_false, Bool.false_eq_true, or_self, if_false, if_true]
    rw [if_neg short.not_gt]
  have waits : (c.number, x) ∈ u.ldp.txns := mem_of_nextTxn next
  have answered := conclude_replies (s := u) can waits Status.ok []
  have edits : Edits [Obj.SESS_OUTSTANDING c.number, Obj.LOG_LOST] s u := (Edits.refl s).same
  refine ⟨_, y, run.trans (congrArg _ stages), answered.replied, ?_, rfl, rfl, (edits.trans answered.edits).frame⟩
  rw [answered.ldp]
  exact mem_set ..

/-- A record that is refused is told where R401 or R556 says so, and does nothing else. -/
theorem refuseRecord_keeps (s : State) (rq : Requester) (addr st : Nat) : s.objectsBut (s.refuseRecord rq addr st) [Obj.LOG_LOST] ∧
    (s.refuseRecord rq addr st).io = s.io ∧ (s.refuseRecord rq addr st).apart = s.apart := by
  unfold refuseRecord
  split
  · exact ⟨fun a ha => rd_ownerRefused _ _ _ _ _ (by simpa using ha), io_ownerRefused .., apart_ownerRefused ..⟩
  · split
    · exact ⟨(Edits.refl s).logInjected.obj, by unfold authFail logInjected logAt tallyRecord; split <;> simp only [tallyCount_io, logRaw_io],
        apart_logInjected ..⟩
    · exact ⟨fun _ _ => rfl, rfl, rfl⟩

theorem execLdpWriteBlock_answers (next : s.nextTxn c.number 0x04 = some x) :
    let w := s.writeRecords c.requester (takeLe x.body 0 2) ((blockRecords (at8 x.body 2) (x.body.drop 4)).getD []) none
    (w.1 = none → w.2.1 = none → w.2.2.canReply c.number = true → (c.number, x) ∈ w.2.2.ldp.txns →
      ∃ t, exec (.ldpWriteBlock c) s = .next t ∧ w.2.2.replied t c.number x Status.ok [] ∧
        w.2.2.objectsBut t [Obj.SESS_OUTSTANDING c.number, Obj.LOG_LOST] ∧ w.2.2.sameMemory t) ∧
    (s.canReply c.number = true → ∀ p, w.1 = some p → p.2 ≠ Status.ok →
      ∃ t, exec (.ldpWriteBlock c) s = .next t ∧ s.replied t c.number x p.2 (leBytes 1 (p.1 % 256)) ∧
        s.objectsBut t [Obj.SESS_OUTSTANDING c.number, Obj.LOG_LOST] ∧ s.sameMemory t) := by
  intro w
  have run : exec (.ldpWriteBlock c) s = .next (s.writeBlockNow c.requester c.number x) := congrArg Host.Outcome.next (onTxn_next next _)
  refine ⟨fun passed done can waits => ?_, fun can p refused notOk => ?_⟩
  · have records : w = (none, none, w.2.2) := Prod.ext passed (Prod.ext done rfl)
    have wrote : s.writeBlockNow c.requester c.number x = w.2.2.conclude c.number x Status.ok [] := by
      simp only [writeBlockNow]
      change (match w with | (some (addr, st), _, _) => _ | (none, some addr, s') => _ | (none, none, s') => _) = _
      rw [records]
    have answered := conclude_replies can waits Status.ok []
    exact ⟨_, run.trans (congrArg _ wrote), answered.replied, answered.edits.frame⟩
  · obtain ⟨addr, st⟩ := p
    obtain ⟨objs, io, apart⟩ := refuseRecord_keeps s c.requester addr st
    have records : w = (some (addr, st), w.2) := Prod.ext refused rfl
    have wrote : s.writeBlockNow c.requester c.number x = (s.refuseRecord c.requester addr st).conclude c.number x st (leBytes 1 (addr % 256)) := by
      have body : refusalBody x.op addr st = leBytes 1 (addr % 256) := if_pos ⟨op_of_nextTxn next, notOk⟩
      simp only [writeBlockNow]
      change (match w with | (some (addr, st), _, _) => _ | (none, some addr, s') => _ | (none, none, s') => _) = _
      rw [records, ← body]
    have ldp : (s.refuseRecord c.requester addr st).ldp = s.ldp := State.ext_ldp apart
    have answered := conclude_replies (s := s.refuseRecord c.requester addr st)
      ((canReply_congr (State.ext_boot apart) (by rw [ldp]) _).trans can) (ldp ▸ mem_of_nextTxn next) st (leBytes 1 (addr % 256))
    obtain ⟨sent, erased⟩ := answered.replied
    rw [reply_congr (s := s) (by rw [ldp])] at sent
    rw [ldp] at erased
    refine ⟨_, run.trans (congrArg _ wrote), ⟨sent, erased⟩, fun a ha => (answered.edits.obj a ha).trans (objs a fun h => ha (List.mem_cons_of_mem _ h)),
      fun a => ?_⟩
    rw [answered.edits.sameMemory a, byte_of_mem _ _ (State.ext_mem apart)]

theorem execRestoreDefaults_answers (next : s.nextTxn c.number 0x08 = some x) (can : s.canReply c.number = true) :
    (s.roleOf c.requester = 1 →
      ∃ t, exec (.restoreDefaults c) s = .next t ∧ s.replied t c.number x Status.accessDenied [] ∧
        s.objectsBut t [Obj.SESS_OUTSTANDING c.number, Obj.LOG_LOST]) ∧
    (s.roleOf c.requester ≠ 1 → objectsIn (takeLe x.body 0 2) (takeLe x.body 2 2) = [] →
      ∃ t, exec (.restoreDefaults c) s = .next t ∧ s.replied t c.number x Status.ok (List.replicate 8 0) ∧
        (s.log.fifo.length < 256 → t.told Ev.restoreDone noOwner [d16 (takeLe x.body 0 2), d16 (takeLe x.body 2 2), d32 0, d32 0]) ∧
        s.objectsBut t [Obj.SESS_OUTSTANDING c.number, Obj.LOG_LOST] ∧ s.sameMemory t) := by
  have run : exec (.restoreDefaults c) s = .next (s.restoreNow c.requester c.number x) := congrArg Host.Outcome.next (onTxn_next next _)
  refine ⟨fun reader => ?_, fun role none => ?_⟩
  · rw [restoreNow, if_pos reader] at run
    have answered := conclude_replies can (mem_of_nextTxn next) Status.accessDenied []
    exact ⟨_, run, answered.replied, answered.edits.obj⟩
  · let u := s.logEvent Ev.restoreDone noOwner [d16 (takeLe x.body 0 2), d16 (takeLe x.body 2 2), d32 0, d32 0]
    have restored : s.restoreNow c.requester c.number x = u.conclude c.number x Status.ok (List.replicate 8 0) := by
      simp only [restoreNow, none, if_neg role, List.foldl_nil, Option.getD_none]
      rfl
    have ldp : u.ldp = s.ldp := logEvent_ldp ..
    have answered := conclude_replies (s := u) ((canReply_congr (logEvent_boot ..) (by rw [ldp]) _).trans can) (ldp ▸ mem_of_nextTxn next) Status.ok
      (List.replicate 8 0)
    obtain ⟨sent, erased⟩ := answered.replied
    rw [reply_congr (s := s) (by rw [ldp])] at sent
    rw [ldp] at erased
    have edits : Edits [Obj.SESS_OUTSTANDING c.number, Obj.LOG_LOST] s u := (Edits.refl s).logEvent
    exact ⟨_, run.trans (congrArg _ restored), ⟨sent, erased⟩, fun room => answered.edits.told (told_logEvent _ _ _ _ room),
      (edits.trans answered.edits).frame⟩

theorem execCommitRequest_snapshots (next : s.nextTxn c.number 0x07 = some x) (front : (s.txnsOf c.number).head? = some x)
    (role : s.roleOf c.requester ≠ 1) :
    (s.flash.commit = none → s.bitState ≠ 5 →
      ∃ t, exec (.commitRequest c) s = .next t ∧ t.flash = { s.flash with commit := some ⟨c.requester.code, c.number, x.tid, s.storedNow⟩ } ∧
        (c.number, { x with waits := some 0 }) ∈ t.ldp.txns ∧ s.objectsBut t [] ∧ s.sameMemory t) ∧
    (s.flash.commit.isSome = true → s.canReply c.number = true →
      ∃ t, exec (.commitRequest c) s = .next t ∧ s.replied t c.number x Status.ldpCommitBusy [] ∧ t.flash = s.flash) := by
  refine ⟨fun idle up => ?_, fun busy can => ?_⟩
  · have run : exec (.commitRequest c) s = .next (({ s with flash := { s.flash with
        commit := some ⟨c.requester.code, c.number, x.tid, s.storedNow⟩ } } : State).await c.number x 0) := by
      refine congrArg Host.Outcome.next ((onTxn_next next _).trans ?_)
      simp only [front, role, idle, up, ne_eq, not_true_eq_false, if_false, Option.isSome_none, Bool.false_eq_true]
    exact ⟨_, run, rfl, List.mem_map.2 ⟨_, mem_of_nextTxn next, if_pos rfl⟩, (Edits.refl s).same.frame⟩
  · have run : exec (.commitRequest c) s = .next (s.conclude c.number x Status.ldpCommitBusy []) := by
      refine congrArg Host.Outcome.next ((onTxn_next next _).trans ?_)
      simp only [front, role, busy, ne_eq, not_true_eq_false, if_false, if_true]
    have answered := conclude_replies can (mem_of_nextTxn next) Status.ldpCommitBusy []
    exact ⟨_, run, answered.replied, answered.flash⟩

theorem execStagingTimeout_drops {y : Staging} (staged : s.staged c.number = some y) (old : y.lastAt + 5000000000 ≤ s.dtime) :
    ∃ t, exec (.stagingTimeout c) s = .next t ∧ t.staged c.number = none ∧ { t with ldp := s.ldp } = s := by
  have run : exec (.stagingTimeout c) s = .next (s.unstage c.number) := by
    change execStagingTimeout c s = _
    rw [execStagingTimeout, staged]
    exact congrArg _ (if_pos old)
  refine ⟨_, run, ?_, rfl⟩
  change ((Tab.drop s.ldp.staging c.number).find? (fun e => decide (e.1 = c.number))).map Prod.snd = none
  rw [find?_drop]
  rfl

end

section
variable {s : State} {c : CommitRun} (running : s.flash.commit = some c) (up : s.bitState = 3) (serves : s.ldpServes = true) (once : s.flash.again = false)
include running up serves once

/-- The image is written whole: it becomes the last one, a generation on, and the asker is told (R550, R551). -/
theorem execCommitDone_succeeds (plain : s.rd Obj.INJ_ENABLE ≠ 1) :
    ∃ t, exec (.commitDone true) s = .next t ∧ t.flash.commit = none ∧ t.flash.generation = (s.flash.generation + 1) % 2 ^ 32 ∧
      t.flash.last = some s.flash.target ∧ (s.flash.target, ⟨t.flash.generation, c.snapshot⟩) ∈ t.flash.copies ∧
      (s.log.fifo.length < 256 → t.told Ev.commitDone noOwner [d32 t.flash.generation, d32 c.snapshot.length, dCase Ev.commitDone (classCode c.requester)]) ∧
      s.sameMemory t := by
  let g := (s.flash.generation + 1) % 2 ^ 32
  let f : Flash := { s.flash with copies := Tab.set s.flash.copies s.flash.target ⟨g, c.snapshot⟩, last := some s.flash.target, generation := g, commit := none }
  let u : State := { s with flash := f }
  let v := u.logEvent Ev.commitDone noOwner [d32 g, d32 c.snapshot.length, dCase Ev.commitDone (classCode c.requester)]
  have run : exec (.commitDone true) s = .next (s.commitSucceeds c) := by
    change execCommitDone true s = _
    rw [execCommitDone, running]
    dsimp only
    rw [inject_off s 23 0 (.inr plain)]
    simp only [up, serves, ne_eq, not_true_eq_false, Bool.not_true, Bool.false_eq_true, or_self, if_false]
  have flash : v.flash = f := logEvent_flash ..
  obtain ⟨edits, kept⟩ := answerChannel_keeps v c.channel c.tid Status.ok (leBytes 4 g)
  have final : (v.answerChannel c.channel c.tid Status.ok (leBytes 4 g)).flash = f := (kept (by rw [flash])).trans flash
  have done : s.commitSucceeds c = v.answerChannel c.channel c.tid Status.ok (leBytes 4 g) := commitAgain_idle ((congrArg Flash.again final).trans once)
  have before : Edits [Obj.LOG_LOST] s v := (Edits.refl s).same.logEvent
  refine ⟨_, run.trans (congrArg _ done), ?_⟩
  rw [final]
  exact ⟨rfl, rfl, rfl, mem_set .., fun room => edits.told (told_logEvent _ _ _ _ room), fun a => (edits.sameMemory a).trans (before.sameMemory a)⟩

/-- The image is not written: the copy it was to become holds none, and the last one stays (R550). -/
theorem execCommitDone_fails :
    ∃ t, exec (.commitDone false) s = .next t ∧ t.flash.commit = none ∧ t.flash.generation = s.flash.generation ∧
      (∀ e ∈ t.flash.copies, e.1 ≠ s.flash.target) ∧ (s.log.fifo.length < 256 → t.told Ev.commitFailed noOwner [d16 Status.ldpStoreFailed]) ∧
      s.sameMemory t := by
  let f : Flash := { s.flash with copies := Tab.drop s.flash.copies s.flash.target, commit := none }
  let u : State := { s with flash := f }
  let v := u.logInjected Ev.commitFailed noOwner false [d16 Status.ldpStoreFailed]
  have run : exec (.commitDone false) s = .next (s.commitFails c Status.ldpStoreFailed false) := by
    change execCommitDone false s = _
    rw [execCommitDone, running]
    simp only [up, serves, ne_eq, not_true_eq_false, Bool.not_true, Bool.not_false, Bool.false_eq_true, or_self, if_false, if_true]
  have flash : v.flash = f := logInjected_flash ..
  obtain ⟨edits, kept⟩ := answerChannel_keeps v c.channel c.tid Status.ldpStoreFailed []
  have final : (v.answerChannel c.channel c.tid Status.ldpStoreFailed []).flash = f := (kept (by rw [flash])).trans flash
  have done : s.commitFails c Status.ldpStoreFailed false = v.answerChannel c.channel c.tid Status.ldpStoreFailed [] :=
    commitAgain_idle ((congrArg Flash.again final).trans once)
  have before : Edits [Obj.LOG_LOST] s v := (Edits.refl s).same.logInjected
  refine ⟨_, run.trans (congrArg _ done), ?_⟩
  rw [final]
  refine ⟨rfl, rfl, fun e he => ?_, fun room => edits.told (told_logInjected _ _ _ _ _ room), fun a => (edits.sameMemory a).trans (before.sameMemory a)⟩
  simpa [Tab.drop] using (List.mem_filter.1 he).2

end

namespace State

/-- A secret unwrapped: Bittern holds it, and the object its stored form (R556). -/
def holdSecret (s : State) (cred stored secret : Nat) : State :=
  (s.wr (Obj.CRED_SECRET cred) stored).modLdp (fun l => { l with secrets := Tab.set l.secrets cred secret })

theorem holdSecret_holds (s : State) (cred stored secret : Nat) : Tab.get 0 (s.holdSecret cred stored secret).ldp.secrets cred = secret ∧
    (s.holdSecret cred stored secret).rd (Obj.CRED_SECRET cred) = stored ∧
    Edits [Obj.CRED_SECRET cred, Obj.LOG_LOST] s (s.holdSecret cred stored secret) := by
  refine ⟨?_, rd_wr_same .., (Edits.refl s).wr.same⟩
  change Tab.get 0 (Tab.set s.ldp.secrets cred secret) cred = _
  rw [Tab.get_set, if_pos rfl]

end State

section
variable {s : State} {rq : Requester} {cred v : Nat} (up : s.bitState = 3) (version : byteAt v 0 = 4)
include up version

theorem unwrapNow_shut (shut : Config.unwrapSecret cred v = none) :
    s.unwrapNow rq cred v = (Status.credUnwrapFailed, s.authFail (s.sourceOf rq) cred Status.credUnwrapFailed false) := by
  rw [unwrapNow, if_neg (by omega), if_pos version, shut]

theorem unwrapNow_opens {x : Nat} (opens : Config.unwrapSecret cred v = some x) :
    s.unwrapNow rq cred v = (Status.ok, s.holdSecret cred (Config.wrapSecret cred x % 2 ^ 320 * 2 ^ 776) (x % 2 ^ 256)) := by
  rw [unwrapNow, if_neg (by omega), if_pos version, opens]
  rfl

end

section
variable {s : State} {rq : Requester} {cred : Fin 8} {blob : Nat} (accepted : s.accepts rq (Obj.CRED_SECRET cred.val) (blob % 2 ^ 1096) = true)
include accepted

theorem execCredSecretWrite_now {st : Nat} {t : State} (up : s.bitState = 3) (unwrapped : s.unwrapNow rq cred.val (blob % 2 ^ 1096) = (st, t))
    (free : st ≠ Status.ownerLocked) : exec (.credSecretWrite rq cred blob) s = .next (t.answer rq st) := by
  have wrote : s.writeSecret rq cred.val (blob % 2 ^ 1096) = (some st, t) := by rw [writeSecret, if_pos (.inl up), unwrapped]
  refine congrArg Host.Outcome.next ((requestLater_accepted (c := st) s rq _ _ _ accepted (by rw [wrote]) free).trans ?_)
  rw [wrote]

theorem execCredSecretWrite_unwraps (up : s.bitState = 3) (version : byteAt (blob % 2 ^ 1096) 0 = 4) :
    let u := Config.unwrapSecret cred.val (blob % 2 ^ 1096)
    ∃ t, exec (.credSecretWrite rq cred blob) s = .next t ∧ t.answered rq (if u.isSome then Status.ok else Status.credUnwrapFailed) ∧
      Tab.get 0 t.ldp.secrets cred.val = u.elim (Tab.get 0 s.ldp.secrets cred.val) (fun x => x % 2 ^ 256) ∧
      t.rd (Obj.CRED_SECRET cred.val) = u.elim (s.rd (Obj.CRED_SECRET cred.val)) (fun x => Config.wrapSecret cred.val x % 2 ^ 320 * 2 ^ 776) ∧
      s.objectsBut t [Obj.CRED_SECRET cred.val, Obj.LOG_LOST] ∧ s.sameMemory t := by
  intro u
  cases hu : u with
  | none =>
    have secret : Obj.CRED_SECRET cred.val ≠ Obj.LOG_LOST := by
      simp only [Obj.CRED_SECRET, Obj.LOG_LOST]
      omega
    have edits : Edits [Obj.CRED_SECRET cred.val, Obj.LOG_LOST] s ((s.authFail (s.sourceOf rq) cred.val Status.credUnwrapFailed false).answer rq
      Status.credUnwrapFailed) := (Edits.refl s).logInjected.answer
    refine ⟨_, execCredSecretWrite_now accepted up (unwrapNow_shut up version hu) (by decide), answered_answer ..,
      congrArg (fun l => Tab.get 0 l.secrets cred.val) (logInjected_ldp ..), (answer_rd ..).trans (rd_logInjected _ _ _ _ _ _ secret), edits.frame⟩
  | some y =>
    rw [Option.elim_some, Option.elim_some]
    obtain ⟨held, stored, edits⟩ := holdSecret_holds s cred.val (Config.wrapSecret cred.val y % 2 ^ 320 * 2 ^ 776) (y % 2 ^ 256)
    exact ⟨_, execCredSecretWrite_now accepted up (unwrapNow_opens up version hu) (by decide), answered_answer .., held, (answer_rd ..).trans stored, edits.answer.frame⟩

theorem execCredSecretWrite_refuses (up : s.bitState = 3) (version : byteAt (blob % 2 ^ 1096) 0 ≠ 4) :
    ∃ t, exec (.credSecretWrite rq cred blob) s = .next t ∧ t.answered rq Status.credUnwrapFailed ∧ t.apart = s.apart ∧ s.objectsBut t [Obj.LOG_LOST] := by
  have unwrapped : s.unwrapNow rq cred.val (blob % 2 ^ 1096) =
      (Status.credUnwrapFailed, s.authFail (s.sourceOf rq) cred.val Status.credUnwrapFailed false) := by
    rw [unwrapNow, if_neg (by omega), if_neg version]
  exact ⟨_, execCredSecretWrite_now accepted up unwrapped (by decide), answered_answer .., apart_logInjected .., (Edits.refl s).logInjected.answer.obj⟩

theorem execCredSecretWrite_waits (up : s.bitState ≠ 3) (alive : s.bitState ≠ 5) :
    ∃ t, exec (.credSecretWrite rq cred blob) s = .next t ∧ t.ldp.blobs = s.ldp.blobs ++ [(rq, cred.val, blob % 2 ^ 1096)] ∧ { t with ldp := s.ldp } = s := by
  obtain ⟨r, row, passes⟩ := (s.accepts_iff rq _ _).1 accepted
  have wrote : s.writeSecret rq cred.val (blob % 2 ^ 1096) = (none, s.modLdp (fun l => { l with blobs := l.blobs ++ [(rq, cred.val, blob % 2 ^ 1096)] })) := by
    rw [writeSecret, if_neg (by omega)]
  have later : s.requestLater rq (Obj.CRED_SECRET cred.val) (blob % 2 ^ 1096) (fun s => s.writeSecret rq cred.val (blob % 2 ^ 1096)) =
      s.modLdp (fun l => { l with blobs := l.blobs ++ [(rq, cred.val, blob % 2 ^ 1096)] }) := by
    rw [requestLater, row]
    dsimp only
    rw [if_pos passes, wrote]
  exact ⟨_, congrArg Host.Outcome.next later, rfl, rfl⟩

end

/-- Settles O51: a request that writes is answered from the state its writes leave, a COMMIT ends by `commitSucceeds` or `commitFails`, and a secret is
unwrapped at once or waits. -/
theorem writingRequestsAreAnswered : Obligations.WritingRequestsAreAnswered := by
  refine ⟨fun s c x => ⟨fun next last whole r row value => ?_, fun next more can start empty r row bytes allowed short => ?_, fun next => ?_,
    fun next can => ?_, fun next front role => ?_, fun y staged old => ?_⟩, fun s c running up serves once => ⟨fun plain => ?_, ?_⟩,
    fun s rq cred blob accepted => ⟨fun up version => ?_, fun up version => ?_, fun up alive => ?_⟩⟩
  · exact execLdpWrite_writes next last whole row value
  · exact execLdpWrite_stages next more can start empty row bytes allowed short
  · exact execLdpWriteBlock_answers next
  · exact execRestoreDefaults_answers next can
  · exact execCommitRequest_snapshots next front role
  · exact execStagingTimeout_drops staged old
  · exact execCommitDone_succeeds running up serves once plain
  · exact execCommitDone_fails running up serves once
  · exact execCredSecretWrite_unwraps accepted up version
  · exact execCredSecretWrite_refuses accepted up version
  · exact execCredSecretWrite_waits accepted up alive

end Sys2Proof.Machine
end

section
/-! SUPPORT, and the statement O52: sessions, the transports that carry LDP, and the dictionary window. -/
namespace Sys2Proof.Machine
open Sys2Proof

open State

section
variable {s : State}

/-! ## OPEN and CONFIRM (R557 to R561) -/

theorem openStatus_taken (s : State) (rest : List OpenAsk) (cred : Nat) :
    (s.modLdp (fun l => { l with opens := rest })).openStatus cred = s.openStatus cred := by
  unfold openStatus
  simp only [modLdp_rd, bitState]
  rfl

section
variable {a : OpenAsk} {rest : List OpenAsk} (nonce : BitVec 128) (asked : s.ldp.opens = a :: rest) (serves : s.ldpServes = true)
include asked serves

theorem execLdpOpen_opens {n : Nat} (may : s.openStatus (at8 a.body 0) = Status.ok) (free : (List.range 8).find? (fun n => (s.session? n).isNone) = some n) :
    ∃ t x, exec (.ldpOpen nonce) s = .next t ∧ t.session? n = some x ∧ x.cred = at8 a.body 0 ∧ x.transport = a.transport ∧ x.nextSeq = 1 ∧
      t.rd (Obj.SESS_STATE n) = 1 ∧ t.rd (Obj.SESS_CRED n) = at8 a.body 0 ∧ t.ldp.opens = rest ∧
      t.io.head? = some (.ldp n (ldpMessage 0x90 a.tid x.number 0 Status.ok (leBytes 16 nonce.toNat))) ∧
      s.objectsBut t [Obj.SESS_STATE n, Obj.SESS_SOURCE n, Obj.SESS_CRED n] ∧ s.sameMemory t := by
  let u := s.modLdp (fun l => { l with opens := rest })
  have run : exec (.ldpOpen nonce) s = .next (u.openSession a n (leBytes 16 nonce.toNat)) := by
    change execLdpOpen nonce s = _
    rw [execLdpOpen, asked]
    have slot : (if u.openStatus (at8 a.body 0) = Status.ok then (List.range 8).find? (fun n => (u.session? n).isNone) else none) = some n :=
      (if_pos ((openStatus_taken ..).trans may)).trans free
    dsimp only
    rw [if_neg (by rw [serves]; exact Bool.false_ne_true), slot]
  let x : Session := ⟨u.newNumber, a.transport, a.unit, a.ip, a.udpPort, at8 a.body 0, a.body.drop 4, leBytes 16 nonce.toNat,
    sessionKey (Tab.get 0 u.ldp.secrets (at8 a.body 0)) (at8 a.body 0) u.newNumber (a.body.drop 4) (leBytes 16 nonce.toNat), u.dtime, 0, [], 1, [], none⟩
  let v := (u.modLdp (fun l => { l with lastNumber := u.newNumber })).setSession n x
  let w := ((v.wr (Obj.SESS_STATE n) 1).wr (Obj.SESS_SOURCE n) (sourceCode a.transport a.unit a.ip a.udpPort)).wr (Obj.SESS_CRED n) (at8 a.body 0)
  have opens : u.openSession a n (leBytes 16 nonce.toNat) =
      w.emit (.ldp n (ldpMessage 0x90 a.tid u.newNumber 0 Status.ok (leBytes 16 nonce.toNat))) := rfl
  have held : w.session? n = some x :=
    (session?_congr (s := v) rfl n).trans ((session?_setSession (u.modLdp (fun l => { l with lastNumber := u.newNumber })) n n x).trans (if_pos rfl))
  have edits : Edits [Obj.SESS_STATE n, Obj.SESS_SOURCE n, Obj.SESS_CRED n] s u := (Edits.refl s).same
  have state : w.rd (Obj.SESS_STATE n) = 1 := by
    rw [rd_wr_other _ _ _ _ (by simp only [Obj.SESS_STATE, Obj.SESS_CRED]; omega),
      rd_wr_other _ _ _ _ (by simp only [Obj.SESS_STATE, Obj.SESS_SOURCE]; omega), rd_wr_same]
  have cred : w.rd (Obj.SESS_CRED n) = at8 a.body 0 := rd_wr_same ..
  rw [opens] at run
  exact ⟨_, x, run, (session?_congr (by rw [emit_ldp]) n).trans held, rfl, rfl, rfl, (emit_rd ..).trans state, (emit_rd ..).trans cred, rfl, rfl,
    edits.same.wr.wr.wr.emit.frame⟩

theorem execLdpOpen_refuses (may : s.openStatus (at8 a.body 0) ≠ Status.ok) :
    ∃ t, exec (.ldpOpen nonce) s = .next t ∧ t.ldp = { s.ldp with opens := rest } ∧
      t.io.head? = some (.ldp (0x100 + a.transport) (ldpMessage 0x90 a.tid 0 0 (s.openStatus (at8 a.body 0)) [])) ∧ s.objectsBut t [] ∧ s.sameMemory t := by
  let u := s.modLdp (fun l => { l with opens := rest })
  have run : exec (.ldpOpen nonce) s = .next (u.emit
      (.ldp (0x100 + a.transport) (ldpMessage 0x90 a.tid 0 0 (s.openStatus (at8 a.body 0)) []))) := by
    change execLdpOpen nonce s = _
    rw [execLdpOpen, asked]
    have slot : (if u.openStatus (at8 a.body 0) = Status.ok then (List.range 8).find? (fun n => (u.session? n).isNone) else none) = none :=
      if_neg (by rwa [openStatus_taken])
    dsimp only
    rw [if_neg (by rw [serves]; exact Bool.false_ne_true), slot, openStatus_taken]
  exact ⟨_, run, rfl, rfl, (Edits.refl s).same.emit.frame⟩

end

theorem session?_emit (s : State) (e : IoEvent) (n : Nat) : (s.emit e).session? n = s.session? n := session?_congr (by rw [emit_ldp]) n

theorem txnsOf_emit (s : State) (e : IoEvent) (n : Nat) : (s.emit e).txnsOf n = s.txnsOf n := by rw [txnsOf, emit_ldp, txnsOf]

/-- What CONFIRM is answered with. -/
def confirmReply (x : Session) (m : LdpTxn) (st : Nat) : List (BitVec 8) :=
  ldpMessage 0x91 m.tid x.number 0 st [] ++ macOf x.key (ldpMessage 0x91 m.tid x.number 0 st [])

/-- A CONFIRM that is right: its requests are taken, and its session is open. -/
def confirmed (s : State) (n : Nat) (x : Session) (m : LdpTxn) : State :=
  let u := (s.modLdp (fun l => { l with txns := l.txns.filter (fun e => !decide (e.1 = n)) })).countTxns n
  let v := u.setSession n { x with since := u.dtime, sent := [(m.seq, 0x11, m.tid, confirmReply x m Status.ok)] }
  (v.wr (Obj.SESS_STATE n) 2).wr (Obj.SESS_OPENED n) v.now.pack

theorem countTxns_edits {os : List Nat} {s t : State} {n : Nat} (h : Edits os s t) (hos : Obj.SESS_OUTSTANDING n ∈ os := by simp) :
    Edits os s (t.countTxns n) := by
  rw [countTxns]
  exact .ite (h.wr hos) h

theorem countTxns_keeps (s : State) (n : Nat) : (s.countTxns n).clock = s.clock ∧ (s.countTxns n).ldp = s.ldp ∧ (s.countTxns n).log = s.log := by
  rw [countTxns]
  split
  · exact ⟨wr_clock .., wr_ldp .., wr_log ..⟩
  · exact ⟨rfl, rfl, rfl⟩

theorem confirmed_opens (s : State) (n : Nat) (x : Session) (m : LdpTxn) : (confirmed s n x m).rd (Obj.SESS_STATE n) = 2 ∧
    (confirmed s n x m).rd (Obj.SESS_OPENED n) = s.now.pack ∧ ((confirmed s n x m).session? n).map Session.since = some s.dtime ∧
    (confirmed s n x m).txnsOf n = [] ∧ (confirmed s n x m).log = s.log ∧
    Edits [Obj.SESS_OUTSTANDING n, Obj.SESS_STATE n, Obj.SESS_OPENED n, Obj.LOG_LOST] s (confirmed s n x m) := by
  unfold confirmed
  extract_lets u v
  obtain ⟨clock, ldp, log⟩ : u.clock = s.clock ∧ u.ldp = (s.modLdp (fun l => { l with txns := l.txns.filter (fun e => !decide (e.1 = n)) })).ldp ∧
    u.log = s.log := countTxns_keeps ..
  have edits : Edits [Obj.SESS_OUTSTANDING n, Obj.SESS_STATE n, Obj.SESS_OPENED n, Obj.LOG_LOST] s u := countTxns_edits (Edits.refl s).same
  clear_value u
  refine ⟨?_, ?_, ?_, ?_, ?_, edits.same.wr.wr⟩
  · rw [rd_wr_other _ _ _ _ (by simp only [Obj.SESS_STATE, Obj.SESS_OPENED]; omega), rd_wr_same]
  · rw [rd_wr_same]
    exact congrArg (fun c => c.pos.pack) clock
  · rw [session?_congr (s := v) (by simp only [wr_ldp]), session?_setSession, if_pos rfl]
    exact congrArg (fun c => some c.dtime) clock
  · rw [txnsOf, wr_ldp, wr_ldp]
    change (u.ldp.txns.filter (fun e => decide (e.1 = n))).map Prod.snd = []
    rw [ldp]
    change ((s.ldp.txns.filter (fun e => !decide (e.1 = n))).filter (fun e => decide (e.1 = n))).map Prod.snd = []
    simp
  · rw [wr_log, wr_log]
    exact log

theorem confirmNow_confirms {n : Nat} {x : Session} {m : LdpTxn} (nonces : m.body = x.nonceC ++ x.nonceD)
    (mac : m.raw.drop (m.raw.length - 16) = macOf x.key (m.raw.take (m.raw.length - 16))) (plain : s.rd Obj.INJ_ENABLE ≠ 1) :
    s.confirmNow n x m = ((confirmed s n x m).logEvent Ev.sessionOpen noOwner [d8 n, d8 x.transport, d8 x.cred]).emit
      (.ldp n (confirmReply x m Status.ok)) := by
  have good : (decide (m.body = x.nonceC ++ x.nonceD) && decide (m.raw.drop (m.raw.length - 16) = macOf x.key (m.raw.take (m.raw.length - 16)))) = true := by
    simp only [nonces, mac, decide_true, Bool.and_self]
  unfold confirmNow
  simp only [good, if_true, inject_off s 21 n (.inr plain), Bool.not_true, Bool.false_eq_true, Option.isSome_none, or_self, if_false]
  rfl

theorem confirmNow_refuses (n : Nat) (x : Session) (m : LdpTxn)
    (bad : ¬(m.body = x.nonceC ++ x.nonceD ∧ m.raw.drop (m.raw.length - 16) = macOf x.key (m.raw.take (m.raw.length - 16)))) :
    s.confirmNow n x m = ((((s.count Obj.LDP_AUTH_FAILS).authFail (s.rd (Obj.SESS_SOURCE n)) x.cred Status.authFailed false).confirmFails
      x.cred).freeSession n).emit (.ldp n (confirmReply x m Status.authFailed)) := by
  have good : (decide (m.body = x.nonceC ++ x.nonceD) && decide (m.raw.drop (m.raw.length - 16) = macOf x.key (m.raw.take (m.raw.length - 16)))) = false := by
    simpa using bad
  unfold confirmNow
  simp only [good, Bool.false_eq_true, if_false, Bool.not_false, true_or, if_true]
  rfl

/-- Three failed CONFIRMs of a credential lock it out: LDP's own account of them, and nothing else. -/
theorem confirmFails_edits (s : State) (cred : Nat) : Edits [] s (s.confirmFails cred) := by
  unfold confirmFails
  dsimp only
  exact .ite (Edits.refl s).same (Edits.refl s).same

section
variable {n : Fin 8} {x : Session} {m : LdpTxn} (open' : s.session? n.val = some x) (next : s.nextTxn n.val 0x11 = some m)
include open' next

theorem execLdpConfirm_runs : exec (.ldpConfirm n) s = .next (s.confirmNow n.val x m) := by
  change execLdpConfirm n s = _
  rw [execLdpConfirm, open', next]

theorem execLdpConfirm_opens (nonces : m.body = x.nonceC ++ x.nonceD)
    (mac : m.raw.drop (m.raw.length - 16) = macOf x.key (m.raw.take (m.raw.length - 16))) (plain : s.rd Obj.INJ_ENABLE ≠ 1) :
    ∃ t, exec (.ldpConfirm n) s = .next t ∧ t.rd (Obj.SESS_STATE n.val) = 2 ∧ t.rd (Obj.SESS_OPENED n.val) = s.now.pack ∧
      (t.session? n.val).map Session.since = some s.dtime ∧ t.txnsOf n.val = [] ∧ t.io.head? = some (.ldp n.val (confirmReply x m Status.ok)) ∧
      (s.log.fifo.length < 256 → t.told Ev.sessionOpen noOwner [d8 n.val, d8 x.transport, d8 x.cred]) ∧ s.sameMemory t := by
  let w := confirmed s n.val x m
  let e := w.logEvent Ev.sessionOpen noOwner [d8 n.val, d8 x.transport, d8 x.cred]
  have run : exec (.ldpConfirm n) s = .next (e.emit (.ldp n.val (confirmReply x m Status.ok))) :=
    (execLdpConfirm_runs open' next).trans (congrArg _ (confirmNow_confirms nonces mac plain))
  obtain ⟨state, opened, since, txns, log, edits⟩ := confirmed_opens s n.val x m
  have ldp : e.ldp = w.ldp := logEvent_ldp ..
  refine ⟨_, run, ?_, ?_, ?_, ?_, rfl, fun room => ?_, edits.logEvent.emit.sameMemory⟩
  · rw [emit_rd, rd_logEvent _ _ _ _ _ (by simp only [Obj.SESS_STATE, Obj.LOG_LOST]; omega), state]
  · rw [emit_rd, rd_logEvent _ _ _ _ _ (by simp only [Obj.SESS_OPENED, Obj.LOG_LOST]; omega), opened]
  · rw [session?_emit, session?_congr (congrArg Ldp.sessions ldp), since]
  · rw [txnsOf_emit, txnsOf, ldp, ← txnsOf, txns]
  · exact (Edits.refl (os := []) e).emit.told (told_logEvent _ _ _ _ (by rwa [log]))

theorem execLdpConfirm_refuses
    (bad : ¬(m.body = x.nonceC ++ x.nonceD ∧ m.raw.drop (m.raw.length - 16) = macOf x.key (m.raw.take (m.raw.length - 16)))) :
    ∃ t, exec (.ldpConfirm n) s = .next t ∧ t.session? n.val = none ∧ t.rd (Obj.SESS_STATE n.val) = 0 ∧
      t.rd Obj.LDP_AUTH_FAILS = wrapAdd 32 (s.rd Obj.LDP_AUTH_FAILS) 1 ∧ t.io.head? = some (.ldp n.val (confirmReply x m Status.authFailed)) ∧
      s.sameMemory t := by
  have run := (execLdpConfirm_runs open' next).trans (congrArg _ (confirmNow_refuses n.val x m bad))
  have counted : Edits [Obj.LDP_AUTH_FAILS, Obj.LOG_LOST] s ((s.count Obj.LDP_AUTH_FAILS).authFail (s.rd (Obj.SESS_SOURCE n.val)) x.cred Status.authFailed
    false) := (Edits.refl s).count.logInjected
  have fails : ((s.count Obj.LDP_AUTH_FAILS).authFail (s.rd (Obj.SESS_SOURCE n.val)) x.cred Status.authFailed false).rd Obj.LDP_AUTH_FAILS =
      wrapAdd 32 (s.rd Obj.LDP_AUTH_FAILS) 1 := by
    rw [authFail, rd_logInjected _ _ _ _ _ _ (by simp only [Obj.LDP_AUTH_FAILS, Obj.LOG_LOST]; omega), rd_count, if_pos rfl]
  generalize (s.count Obj.LDP_AUTH_FAILS).authFail (s.rd (Obj.SESS_SOURCE n.val)) x.cred Status.authFailed false = u at run counted fails
  have same := confirmFails_edits u x.cred
  obtain ⟨none, state, -, -, freed⟩ := freeSession_frees (u.confirmFails x.cred) n.val
  have shown : Obj.LDP_AUTH_FAILS ∉ slotShown n.val := by
    simp only [slotShown, Obj.LDP_AUTH_FAILS, Obj.SESS_STATE, Obj.SESS_SOURCE, Obj.SESS_CRED, Obj.SESS_OPENED, Obj.SESS_OUTSTANDING, List.mem_cons,
      List.not_mem_nil, or_false]
    omega
  refine ⟨_, run, by rw [session?_emit, none], by rw [emit_rd, state], ?_, rfl, fun a => ?_⟩
  · rw [emit_rd, freed.obj _ shown, same.rd, fails]
  · rw [freed.emit.sameMemory a, same.sameMemory a, counted.sameMemory a]

end

/-! ## What ends by itself (R559, R563, R562) -/

theorem execConfirmTimeout_frees {n : Fin 8} {x : Session} (open' : s.session? n.val = some x) (unconfirmed : s.rd (Obj.SESS_STATE n.val) = 1)
    (late : x.since + 5000000000 < s.dtime) :
    ∃ t, exec (.confirmTimeout n) s = .next t ∧ t.session? n.val = none ∧ t.rd (Obj.SESS_STATE n.val) = 0 ∧ t.txnsOf n.val = [] ∧ s.sameMemory t := by
  have run : exec (.confirmTimeout n) s = .next (s.freeSession n.val) := by
    change execConfirmTimeout n s = _
    rw [execConfirmTimeout, open']
    exact congrArg _ (if_pos ⟨unconfirmed, late⟩)
  obtain ⟨none, state, txns, -, edits⟩ := freeSession_frees s n.val
  exact ⟨_, run, none, state, txns, edits.sameMemory⟩

theorem execSessionIdle_closes {n : Fin 8} {x : Session} (open' : s.session? n.val = some x) (confirmed : s.rd (Obj.SESS_STATE n.val) = 2)
    (idle : x.since + 1000000000 * s.rd Obj.LDP_SESSION_IDLE ≤ s.dtime) :
    let started := ((s.txnsOf n.val).filter (fun t => t.waits.isSome)).length
    ∃ t, exec (.sessionIdle n) s = .next t ∧ t.session? n.val = none ∧ t.rd (Obj.SESS_STATE n.val) = 0 ∧ t.txnsOf n.val = [] ∧
      (s.log.fifo.length < 256 → t.told Ev.sessionClose noOwner
        [d8 n.val, dCase Ev.sessionClose closeIdle, d32 ((s.txnsOf n.val).length - started), d32 started]) ∧ s.sameMemory t := by
  intro started
  have run : exec (.sessionIdle n) s = .next (s.closeSession n.val closeIdle) := by
    change execSessionIdle n s = _
    rw [execSessionIdle, open']
    exact congrArg _ (if_pos ⟨confirmed, idle⟩)
  have closed := closeSession_closes open' closeIdle
  exact ⟨_, run, closed.none, closed.state, closed.txns, closed.told confirmed, closed.edits.sameMemory⟩

theorem execAuthLockoutEnd_unlocks {cred : Fin 8} (ended : s.lockedOut cred.val = false) :
    ∃ t, exec (.authLockoutEnd cred) s = .next t ∧ (∀ e ∈ t.ldp.locked, e.1 ≠ cred.val) ∧ { t with ldp := s.ldp } = s := by
  have run : exec (.authLockoutEnd cred) s = .next (s.modLdp (fun l => { l with locked := Tab.drop l.locked cred.val })) :=
    congrArg Host.Outcome.next (if_neg (by rw [ended]; exact Bool.false_ne_true))
  refine ⟨_, run, fun e he => ?_, rfl⟩
  simpa [Tab.drop] using (List.mem_filter.1 he).2

/-! ## What carries LDP (R564, R565) -/

section
variable {mac : Fin 2} (ip : BitVec 32) (port : BitVec 16) {bytes : List (BitVec 8)}

theorem execUdpDatagram_arrives (serves : s.ldpServes = true) (enabled : bit (s.rd Obj.LDP_UDP_ENABLE) mac.val = true) (short : bytes.length ≤ 1472)
    (free : s.bitternRes (0x16 + mac.val) = false) :
    exec (.udpDatagram mac ip port false bytes) s = .next (s.arrive 0 mac.val ip.toNat port.toNat bytes) := by
  refine congrArg Host.Outcome.next (if_neg ?_)
  simp [serves, enabled, free, short]

theorem arrive_asks (form : formOk bytes 0 = true) (op : at8 bytes 1 = 0x10) (number : takeLe bytes 4 2 = 0) (transport unit from' udpPort : Nat) :
    s.arrive transport unit from' udpPort bytes = s.modLdp (fun l => { l with
      opens := l.opens ++ [⟨transport, unit, from', udpPort, takeLe bytes 2 2, bytes.drop 16⟩] }) := by
  unfold arrive
  simp [form, op, number]

theorem arrive_unknown {transport unit from' udpPort : Nat} (form : formOk bytes 16 = true) (noOpen : at8 bytes 1 ≠ 0x10) (noConfirm : at8 bytes 1 ≠ 0x11)
    (number : takeLe bytes 4 2 ≠ 0) (unknown : s.sessionOf (takeLe bytes 4 2) transport unit from' udpPort = none) :
    s.arrive transport unit from' udpPort bytes = s.bareAnswer transport bytes Status.sessionUnknown := by
  unfold arrive
  simp [form, noOpen, noConfirm, number, unknown]

theorem execUdpDatagram_fragment : exec (.udpDatagram mac ip port true bytes) s = .next s :=
  congrArg Host.Outcome.next (if_pos (.inr (.inr (.inl rfl))))

theorem execArpIcmp_answers (echo : Bool) (serves : s.ldpServes = true) (enabled : bit (s.rd Obj.LDP_UDP_ENABLE) mac.val = true)
    (mine : s.rd (Obj.LDP_IPV4_ADDR mac.val) = ip.toNat) : exec (.arpIcmp mac echo ip) s = .next (s.emit (.ethernet mac.val (ofBool echo))) :=
  congrArg Host.Outcome.next (if_pos (by simp [serves, enabled, mine]))

end

theorem execCanFrame_begins {ctl : Fin 4} {id : BitVec 32} {bytes : List (BitVec 8)} (serves : s.ldpServes = true)
    (mine : s.rd Obj.LDP_CAN_CONTROLLER = ctl.val) (free : s.bitternRes ctl.val = false) (asks : s.rd Obj.LDP_CAN_REQ_ID = id.toNat)
    (awake : s.rd Obj.PWR_STATE = 0) (idle : s.ldp.can = none) (first : at8 bytes 0 = 0x40) (full : bytes.length = 64) (long : 63 ≤ takeLe bytes 1 2)
    (most : takeLe bytes 1 2 ≤ 4160) :
    ∃ t, exec (.canFrame ctl id bytes) s = .next t ∧ t.ldp.can = some ⟨takeLe bytes 1 2, bytes.drop 3, 1, s.dtime⟩ ∧ { t with ldp := s.ldp } = s := by
  have stays : (if s.bitternRes ctl.val then s else s.wake 5) = s := by
    rw [free, if_neg Bool.false_ne_true, State.wake, if_pos (.inl awake)]
  have quiet : s.loseSegments ctl.val false = s := by rw [loseSegments, idle]
  have begins : s.canFrame ctl.val bytes = s.modLdp (fun l => { l with can := some ⟨takeLe bytes 1 2, bytes.drop 3, 1, s.dtime⟩ }) := by
    unfold canFrame
    simp [idle, first, full, long, most, quiet]
  have run : exec (.canFrame ctl id bytes) s = .next (s.modLdp (fun l => { l with can := some ⟨takeLe bytes 1 2, bytes.drop 3, 1, s.dtime⟩ })) := by
    change execCanFrame ctl id bytes s = _
    unfold execCanFrame
    rw [stays, ← begins]
    dsimp only
    rw [if_pos ⟨serves, mine, by rw [free]; rfl, asks⟩]
  exact ⟨_, run, rfl, rfl⟩

theorem execCanSegmentLost_tells {r : CanRx} (part : s.ldp.can = some r) (late : r.lastAt + 100000000 < s.dtime) :
    ∃ t, exec .canSegmentLost s = .next t ∧ t.ldp.can = none ∧
      (s.log.fifo.length < 256 → t.told Ev.canSegmentLost noOwner [d8 (s.rd Obj.LDP_CAN_CONTROLLER), d32 r.bytes.length]) ∧
      s.objectsBut t [Obj.LOG_LOST] ∧ s.sameMemory t := by
  have run : exec .canSegmentLost s = .next ((s.modLdp (fun l => { l with can := none })).logInjected Ev.canSegmentLost noOwner false
      [d8 (s.rd Obj.LDP_CAN_CONTROLLER), d32 r.bytes.length]) := by
    change execCanSegmentLost s = _
    rw [execCanSegmentLost, part]
    dsimp only
    rw [if_pos late, loseSegments, part]
  exact ⟨_, run, congrArg Ldp.can (logInjected_ldp ..), fun room => told_logInjected _ _ _ _ _ room, (Edits.refl s).same.logInjected.frame⟩

/-! ## The dictionary window (R566, R567) -/

section
variable {w : Window} (v : BitVec 32) (bytes : List (BitVec 8)) (live : s.windowLive w.code = true) (served : s.barServed = true) (awake : s.rd Obj.PWR_STATE < 3)

/-- The window's owner has written its request. -/
def requested (s : State) (o : Nat) (bytes : List (BitVec 8)) : State :=
  s.modInst o (fun x => { x with window := { x.window with request := writeBuffer x.window.request 0 (bytes.take 8192) } })

theorem inst_requested (s : State) (o : Nat) (bytes : List (BitVec 8)) : (requested s o bytes).inst o =
    { s.inst o with window := { (s.inst o).window with request := writeBuffer (s.inst o).window.request 0 (bytes.take 8192) } } :=
  inst_modInst_same ..

include live served awake

theorem execDictGo_runs : exec (.dictGo w v bytes) s = .next ((requested s w.code bytes).dictStart w.code v.toNat) := by
  change execDictGo w v bytes s = _
  have still : (requested s w.code bytes).windowLive w.code = true := by
    rw [windowLive] at live ⊢
    rw [inst_requested]
    exact live
  have low : Nat.ble 3 ((requested s w.code bytes).rd Obj.PWR_STATE) = false := Bool.eq_false_iff.2 fun h => absurd (Nat.le_of_ble_eq_true h) awake.not_ge
  have goes : (requested s w.code bytes).dictGo w.code v.toNat = (requested s w.code bytes).dictStart w.code v.toNat := by
    rw [dictGo, if_pos ⟨still, served⟩, low]
    rfl
  rw [← goes, execDictGo]
  exact congrArg _ (if_neg (by rw [live, served]; exact Bool.false_ne_true))

theorem execDictGo_refuses (busy : (s.inst w.code).window.busy = true) :
    ∃ t, exec (.dictGo w v bytes) s = .next t ∧ (t.inst w.code).window.goRefused = true ∧ t.ldp = s.ldp ∧ s.objectsBut t [] ∧ s.sameMemory t := by
  have refused : (requested s w.code bytes).dictStart w.code v.toNat =
      (requested s w.code bytes).modInst w.code (fun x => { x with window := { x.window with goRefused := true } }) := by
    unfold dictStart
    exact if_pos (.inl (by rw [inst_requested]; exact busy))
  refine ⟨_, (execDictGo_runs v bytes live served awake).trans (congrArg _ refused), by rw [inst_modInst_same], rfl, (Edits.refl s).same.frame⟩

theorem execDictGo_takes (idle : (s.inst w.code).window.busy = false) (stays : s.resetting w.code = false) :
    let buffer := writeBuffer (s.inst w.code).window.request 0 (bytes.take 8192)
    let n := field v.toNat 12 0
    let m := buffer.take n ++ List.replicate (n - buffer.length) 0
    n ≤ 4160 → formOk m 0 = true → at8 m 1 ≠ 0x10 → at8 m 1 ≠ 0x11 →
      ∃ t, exec (.dictGo w v bytes) s = .next t ∧ (t.inst w.code).window.busy = true ∧ (t.inst w.code).window.irq = bit v.toNat 16 ∧
        t.ldp.txns = s.ldp.txns ++ [(windowChannel w.code, { txnOf m 0 with raw := [] })] ∧ s.objectsBut t [] ∧ s.sameMemory t := by
  intro buffer n m short form noOpen noConfirm
  let t := (requested s w.code bytes).modInst w.code (fun x => { x with window := { x.window with busy := true, irq := bit v.toNat 16 } })
  let u := t.modLdp (fun l => { l with txns := l.txns ++ [(windowChannel w.code, { txnOf m 0 with raw := [] })] })
  have takes : (requested s w.code bytes).dictStart w.code v.toNat = u := by
    have free : ¬(((requested s w.code bytes).inst w.code).window.busy = true ∨ (requested s w.code bytes).resetting w.code = true) := by
      rw [resetting] at stays ⊢
      rw [inst_requested]
      simp only [idle, Bool.false_eq_true, false_or]
      rw [stays]
      exact Bool.false_ne_true
    have channel : isSession (windowChannel w.code) = false := by
      unfold isSession windowChannel
      exact Bool.eq_false_iff.2 fun h => absurd (Nat.le_of_ble_eq_true h) (by omega)
    unfold dictStart
    rw [if_neg free]
    extract_lets m₀ t₀
    have request : m₀ = m := by
      simp only [m₀, inst_requested]
      rfl
    change (if t₀.ldpServes = true ∧ (4160 < n ∨ (!formOk m₀ 0) = true ∨ at8 m₀ 1 = 0x10 ∨ at8 m₀ 1 = 0x11) then _ else
      t₀.enqueueTxn (windowChannel w.code) { txnOf m₀ 0 with raw := [] }) = _
    rw [request]
    have well : ¬(t₀.ldpServes = true ∧ (4160 < n ∨ (!formOk m 0) = true ∨ at8 m 1 = 0x10 ∨ at8 m 1 = 0x11)) := by
      rw [form]
      rintro ⟨-, large | malformed | first | second⟩
      · exact large.not_ge short
      · exact Bool.false_ne_true malformed
      · exact noOpen first
      · exact noConfirm second
    rw [if_neg well, enqueueTxn, countTxns, channel, if_neg Bool.false_ne_true]
    rfl
  have window : (u.inst w.code).window.busy = true ∧ (u.inst w.code).window.irq = bit v.toNat 16 := by
    change (t.inst w.code).window.busy = true ∧ (t.inst w.code).window.irq = bit v.toNat 16
    rw [inst_modInst_same]
    exact ⟨rfl, rfl⟩
  exact ⟨_, (execDictGo_runs v bytes live served awake).trans (congrArg _ takes), window.1, window.2, rfl, (Edits.refl s).same.frame⟩

end

end

/-- Settles O52: a slot is held from OPEN until it is freed or closed, and each transport takes only what is LDP. -/
theorem sessionsOpenCloseAndCarry : Obligations.SessionsOpenCloseAndCarry := by
  refine ⟨fun s nonce a rest asked serves => ⟨fun n may free => ?_, fun may => ?_⟩, fun s n x m open' next => ⟨fun good plain => ?_, fun bad => ?_⟩,
    fun s n x open' => ⟨fun unconfirmed late => ?_, fun confirmed idle => ?_⟩, fun s cred ended => ?_,
    fun s mac ip port bytes serves enabled short free => ⟨fun form op number => ?_, fun form noOpen noConfirm number unknown => ?_, ?_⟩,
    fun s mac echo ip serves enabled mine => ?_,
    fun s ctl id bytes serves mine free asks awake idle first full long most => ?_, fun s r part late => ?_,
    fun s w v bytes live served awake => ⟨fun busy => ?_, fun idle stays _ short form noOpen noConfirm => ?_⟩⟩
  · exact execLdpOpen_opens nonce asked serves may free
  · exact execLdpOpen_refuses nonce asked serves may
  · exact execLdpConfirm_opens open' next good.1 good.2 plain
  · exact execLdpConfirm_refuses open' next bad
  · exact execConfirmTimeout_frees open' unconfirmed late
  · exact execSessionIdle_closes open' confirmed idle
  · exact execAuthLockoutEnd_unlocks ended
  · exact ⟨_, (execUdpDatagram_arrives ip port serves enabled short free).trans (congrArg _ (arrive_asks form op number ..)), rfl, rfl⟩
  · exact ⟨_, (execUdpDatagram_arrives ip port serves enabled short free).trans (congrArg _ (arrive_unknown form noOpen noConfirm number unknown)), rfl, rfl⟩
  · exact execUdpDatagram_fragment ip port
  · exact execArpIcmp_answers ip echo serves enabled mine
  · exact execCanFrame_begins serves mine free asks awake idle first full long most
  · exact execCanSegmentLost_tells part late
  · exact execDictGo_refuses v bytes live served awake busy
  · exact execDictGo_takes v bytes live served awake idle stays short form noOpen noConfirm

end Sys2Proof.Machine
end

section
/-!
SUPPORT. O54 and O58: `Kept m s t` says that start-up, the keys, the clocks' own state, the seat of each instance and RST_READY_TIME are as they were and,
where `m` is true, that each MUX_SEL and MUX_STATUS is. What a forced switch fails keeps them all (R586); an output that starts names its PLL in MUX_SEL.
-/
namespace Sys2Proof.Machine
open Sys2Proof

/-- The address of a MUX_SEL or a MUX_STATUS, among others. -/
def MuxWord (a : Nat) : Prop := 0x71A000 ≤ a ∧ (a % 256 = 1 ∨ a % 256 = 2)

/-- The objects that `Kept` speaks of. -/
def Held (m : Bool) (a : Nat) : Prop := a = Obj.RST_READY_TIME ∨ (m = true ∧ MuxWord a)

/-- Where an instance stands: its state and its port. -/
def Inst.seat (x : Inst) : InstState × Nat := (x.state, x.port)

structure Kept (m : Bool) (s t : State) : Prop where
  clocks : t.clocks = s.clocks
  boot : t.boot = s.boot
  keys : t.keys = s.keys
  seats : ∀ o, (t.inst o).seat = (s.inst o).seat
  words : ∀ a, Held m a → t.rd a = s.rd a

variable {m : Bool} {s₀ s : State}

theorem not_held {a : Nat} (ready : a ≠ Obj.RST_READY_TIME) (mux : m = true → ¬MuxWord a := by nofun) : ¬Held m a := by
  rintro (same | ⟨hm, word⟩)
  · exact ready same
  · exact mux hm word

/-- The objects of a column of the dictionary other than RST_READY_TIME's. -/
theorem not_held_column {a k : Nat} (h : a % 256 ≠ 10 := by decide) : ¬Held false (a + 256 * k) := by
  refine not_held ?_
  simp only [Obj.RST_READY_TIME]
  omega

theorem not_held_lost : ¬Held m Obj.LOG_LOST := not_held (by decide) fun _ => by
  unfold MuxWord
  decide

theorem Kept.refl (s : State) : Kept m s s := ⟨rfl, rfl, rfl, fun _ => rfl, fun _ _ => rfl⟩

theorem Kept.trans {t u : State} (h : Kept m s t) (h' : Kept m t u) : Kept m s u :=
  ⟨h'.clocks.trans h.clocks, h'.boot.trans h.boot, h'.keys.trans h.keys, fun o => (h'.seats o).trans (h.seats o),
    fun a ha => (h'.words a ha).trans (h.words a ha)⟩

/-- A state that differs in other fields alone. -/
theorem Kept.same (h : Kept m s₀ s) {clock dueSlots log io freeDrawn order items nextItem guards outs shadow colourActive lutBanks
    substUnchecked grip jobs mem memConf dram raster ports tally tallyOvf refusals mailboxes flash power dailies haps foley fronts keyBank cus
    ldp pending} :
    Kept m s₀ ⟨s.objs, clock, dueSlots, log, io, freeDrawn, order, items, nextItem, s.insts, guards, outs, shadow, colourActive, lutBanks, substUnchecked,
      grip, jobs, mem, memConf, dram, s.keys, raster, ports, tally, tallyOvf, refusals, mailboxes, s.boot, flash, power, dailies, haps, foley, fronts,
      keyBank, cus, ldp, s.clocks, pending⟩ := ⟨h.clocks, h.boot, h.keys, h.seats, h.words⟩

theorem Kept.setInst (h : Kept m s₀ s) {o : Nat} {x : Inst} (hx : x.seat = (s.inst o).seat) : Kept m s₀ (s.setInst o x) := by
  refine ⟨h.clocks, h.boot, h.keys, fun n => Eq.trans ?_ (h.seats n), h.words⟩
  change (Tab.get {} (Tab.set s.insts o x) n).seat = _
  rw [Tab.get_set]
  split
  · next same => rw [same, hx]
  · rfl

theorem Kept.modInst (h : Kept m s₀ s) {o : Nat} {f : Inst → Inst} (hf : ∀ x, (f x).seat = x.seat := by exact fun _ => rfl) : Kept m s₀ (s.modInst o f) :=
  h.setInst (hf _)

theorem Kept.mapInsts (h : Kept m s₀ s) {f : Inst → Inst} (fresh : f {} = {}) (hf : ∀ x, (f x).seat = x.seat := by exact fun _ => rfl) :
    Kept m s₀ { s with insts := s.insts.map (fun e => (e.1, f e.2)) } :=
  ⟨h.clocks, h.boot, h.keys, fun n => ((congrArg Inst.seat (State.inst_mapInsts s f fresh n)).trans (hf _)).trans (h.seats n), h.words⟩

theorem Kept.ite {c : Prop} {_ : Decidable c} {t u : State} (ht : Kept m s₀ t) (hu : Kept m s₀ u) : Kept m s₀ (if c then t else u) := by
  split <;> assumption

/-- A step that may be left out. -/
theorem Kept.perhaps {c : Prop} {_ : Decidable c} {t u : State} (ht : Kept m s₀ t) (hu : Kept m s₀ t → Kept m s₀ u) : Kept m s₀ (if c then u else t) :=
  .ite (hu ht) ht

theorem Kept.snd {α : Type} {x : α} (h : Kept m s₀ s) : Kept m s₀ (x, s).2 := h

theorem Kept.fst {α : Type} {x : α} (h : Kept m s₀ s) : Kept m s₀ (s, x).1 := h

theorem Kept.snd_ite {α : Type} {c : Prop} {_ : Decidable c} {p q : α × State} (hp : Kept m s₀ p.2) (hq : Kept m s₀ q.2) :
    Kept m s₀ (if c then p else q).2 := by
  split <;> assumption

theorem Kept.fst_ite {α : Type} {c : Prop} {_ : Decidable c} {p q : State × α} (hp : Kept m s₀ p.1) (hq : Kept m s₀ q.1) :
    Kept m s₀ (if c then p else q).1 := by
  split <;> assumption

theorem Kept.each {α : Type} (h : Kept m s₀ s) {l : List α} {f : State → α → State} (hf : ∀ t x, Kept m s₀ t → Kept m s₀ (f t x)) :
    Kept m s₀ (s.each l f) := State.each_keeps (Kept m s₀) l f s hf h

theorem Kept.eachIn {α : Type} (h : Kept m s₀ s) {l : List α} {f : State → α → State} (hf : ∀ t, ∀ x ∈ l, Kept m s₀ t → Kept m s₀ (f t x)) :
    Kept m s₀ (s.each l f) := State.eachIn_keeps hf h

theorem Kept.wr (h : Kept m s₀ s) {a v : Nat} (ha : ¬Held m a := by exact not_held_column) : Kept m s₀ (s.wr a v) :=
  ⟨h.clocks, h.boot, h.keys, h.seats, fun b hb => (State.rd_wr_other _ _ _ _ fun (e : b = a) => ha (e ▸ hb)).trans (h.words b hb)⟩

theorem Kept.wrBit (h : Kept m s₀ s) {a i : Nat} {b : Bool} (ha : ¬Held m a := by exact not_held_column) : Kept m s₀ (s.wrBit a i b) := h.wr ha

theorem Kept.count (h : Kept m s₀ s) {a : Nat} (ha : ¬Held m a := by exact not_held_column) : Kept m s₀ (s.count a) := h.wr ha

theorem Kept.setByte (h : Kept m s₀ s) {a : Nat} {v : BitVec 8} : Kept m s₀ (s.setByte a v) := h.same

/-- The log and the counters lie apart from what is kept. -/
theorem Kept.of_apart {t : State} (h : Kept m s₀ s) (apart : t.apart = s.apart) (rd : ∀ a, a ≠ Obj.LOG_LOST → t.rd a = s.rd a) : Kept m s₀ t :=
  ⟨(State.ext_clocks apart).trans h.clocks, (State.ext_boot apart).trans h.boot, (State.ext_keys apart).trans h.keys,
    fun o => (congrArg (fun l => (Tab.get {} l o).seat) (State.ext_insts apart)).trans (h.seats o),
    fun a ha => (rd a fun e => not_held_lost (e ▸ ha)).trans (h.words a ha)⟩

theorem Kept.logInjected (h : Kept m s₀ s) {code source : Nat} {i : Bool} {ds : List Detail} : Kept m s₀ (s.logInjected code source i ds) :=
  h.of_apart (State.apart_logInjected ..) fun _ ha => State.rd_logInjected _ _ _ _ _ _ ha

theorem Kept.logEvent (h : Kept m s₀ s) {code source : Nat} {ds : List Detail} : Kept m s₀ (s.logEvent code source ds) :=
  h.of_apart (State.apart_logEvent ..) fun _ ha => State.rd_logEvent _ _ _ _ _ ha

theorem Kept.tallyCount (h : Kept m s₀ s) {g kind owner : Nat} : Kept m s₀ (s.tallyCount g kind owner) :=
  h.of_apart (State.apart_tallyCount ..) fun _ ha => State.rd_tallyCount _ _ _ _ _ ha

theorem Kept.inject (h : Kept false s₀ s) {d n : Nat} : Kept false s₀ (s.inject d n).2 := by
  unfold State.inject
  exact Kept.snd_ite ((h.count.count (not_held (by decide))).perhaps fun hu => hu.wr).logInjected.snd h.snd

/-! ## What a forced switch fails, and a late answer -/

theorem Kept.nextOrder (h : Kept m s₀ s) : Kept m s₀ s.nextOrder.2 := h.same.snd

theorem not_held_spk : ¬Held m Obj.SPK_STATUS := not_held (by decide) fun _ => by
  unfold MuxWord
  decide

theorem Kept.setCoasting (h : Kept m s₀ s) {on : Bool} : Kept m s₀ (s.setCoasting on) := (h.wrBit not_held_spk).wrBit not_held_spk

theorem Kept.coastStart (h : Kept m s₀ s) {cause : Nat} : Kept m s₀ (s.coastStart cause) := Kept.ite h.same h.same.setCoasting.logEvent

theorem Kept.coastIfLead (h : Kept m s₀ s) {k cause : Nat} : Kept m s₀ (s.coastIfLead k cause) := Kept.ite h.coastStart h

theorem Kept.ioWrite (h : Kept m s₀ s) {o addr n : Nat} : Kept m s₀ (s.ioWrite o addr n) := Kept.ite h.modInst h

theorem Kept.writeRecord (h : Kept m s₀ s) {it : Item} {status detail : Nat} {pos : Spos} {time : Nat} :
    Kept m s₀ (s.writeRecord it status detail pos time) := by
  unfold State.writeRecord
  dsimp only
  split
  · have taken : Kept m s₀ (s.setInst it.owner { s.inst it.owner with crTail := wrapAdd 32 (s.inst it.owner).crTail 1 }) := h.setInst rfl
    exact Kept.ite (h.setInst rfl) (Kept.perhaps taken.same.ioWrite fun hu => hu.same)
  · exact h.same

theorem not_held_squashed {o : Nat} : ¬Held m (Obj.INST_SQUASHED o) := by
  unfold Held MuxWord
  simp only [Obj.INST_SQUASHED, Obj.RST_READY_TIME]
  omega

theorem Kept.completeAt (h : Kept m s₀ s) {id status detail : Nat} {pos : Spos} {time : Nat} : Kept m s₀ (s.completeAt id status detail pos time) := by
  unfold State.completeAt
  split
  · exact h
  · exact h.same.writeRecord.tallyCount.perhaps fun hu => (hu.count not_held_squashed).tallyCount

theorem Kept.complete (h : Kept m s₀ s) {id status detail : Nat} : Kept m s₀ (s.complete id status detail) := h.completeAt

theorem Kept.finish (h : Kept m s₀ s) {id status : Nat} : Kept m s₀ (s.finish id status) := h.complete

theorem Kept.surfWrite (h : Kept m s₀ s) {n o : Nat} {v : BitVec 8} : Kept m s₀ (s.surfWrite n o v) := h.each fun _ _ ht => ht.setByte

theorem Kept.surfWriteList (h : Kept m s₀ s) {n o : Nat} {bytes : List (BitVec 8)} : Kept m s₀ (s.surfWriteList n o bytes) := by
  induction bytes generalizing s o with
  | nil => exact h
  | cons v vs ih => exact ih h.surfWrite

theorem Kept.storeLine (h : Kept m s₀ s) {n o : Nat} {bytes : List (BitVec 8)} : Kept m s₀ (s.storeLine n o bytes).1 := by
  unfold State.storeLine
  refine Kept.fst_ite (Kept.fst_ite ?_ h) h.surfWriteList.fst
  split
  · exact h.same.surfWriteList.fst
  · exact h

theorem Kept.storeLines (h : Kept m s₀ s) {n fuel o : Nat} {bytes : List (BitVec 8)} : Kept m s₀ (s.storeLines n fuel o bytes).1 := by
  induction fuel generalizing s o bytes with
  | zero => exact h
  | succ fuel ih =>
    cases bytes with
    | nil => exact h
    | cons v vs => exact ih h.storeLine

theorem Kept.store (h : Kept m s₀ s) {n o : Nat} {bytes : List (BitVec 8)} : Kept m s₀ (s.store n o bytes).1 := h.storeLines

theorem Kept.forgetBytes (h : Kept m s₀ s) {n : Nat} {p : Nat → Bool} : Kept m s₀ (s.forgetBytes n p) := h.same

theorem Kept.returnEach (h : Kept m s₀ s) {l : List Nat} : Kept m s₀ (s.returnEach l) := by
  induction l generalizing s with
  | nil => exact h
  | cons k l ih =>
    unfold State.returnEach
    dsimp only
    split
    · split
      · exact ih (Kept.logEvent h.same)
      · exact h
    · exact ih h

theorem Kept.reelReturn (h : Kept m s₀ s) : Kept m s₀ s.reelReturn := h.returnEach

theorem Kept.forgetSurface (h : Kept m s₀ s) {x : Surface} : Kept m s₀ (s.forgetSurface x) := h.same

theorem Kept.freeSurface (h : Kept m s₀ s) {n : Nat} : Kept m s₀ (s.freeSurface n) :=
  Kept.ite h.forgetSurface.same h.forgetSurface.same.logEvent.reelReturn

theorem Kept.releaseIfFree (h : Kept m s₀ s) {n : Nat} : Kept m s₀ (s.releaseIfFree n) := by
  unfold State.releaseIfFree
  dsimp only
  refine Kept.ite h ?_
  split
  · exact h.freeSurface.finish
  · exact h.freeSurface

theorem not_held_engine {e : Nat} (he : m = true → e < 128) : ¬Held m (Obj.ME_STATE e) ∧ ¬Held m (Obj.ME_TARGET e) := by
  cases m
  · exact ⟨not_held_column, not_held_column⟩
  · have low := he rfl
    simp only [Held, MuxWord, Obj.ME_STATE, Obj.ME_TARGET, Obj.RST_READY_TIME]
    omega

theorem Kept.idleEngine (h : Kept m s₀ s) {e : Nat} (he : m = true → e < 128 := by nofun) : Kept m s₀ (s.idleEngine e) :=
  Kept.ite h ((h.wr (not_held_engine he).1).wr (not_held_engine he).2)

theorem Kept.unbindLayers (h : Kept m s₀ s) {e : Nat} : Kept m s₀ (s.unbindLayers e) := h.same

theorem Kept.bindLayers (h : Kept m s₀ s) {k : Nat} {c : Composition} {half e : Nat} : Kept m s₀ (s.bindLayers k c half e) :=
  h.unbindLayers.each fun _ _ ht => ht.nextOrder.same

theorem Kept.startEngine (h : Kept m s₀ s) {k : Nat} {c : Composition} {half e : Nat} (he : m = true → e < 128) : Kept m s₀ (s.startEngine k c half e) :=
  (h.bindLayers.wr (not_held_engine he).1).wr (not_held_engine he).2

theorem Kept.modComp (h : Kept m s₀ s) {k id : Nat} {f : Composition → Composition} : Kept m s₀ (s.modComp k id f) := h.same

theorem Kept.assign (h : Kept m s₀ s) {k id half e : Nat} (he : m = true → e < 128 := by nofun) : Kept m s₀ (s.assign k id half e) := by
  unfold State.assign
  dsimp only
  split
  · exact h.same.modComp.startEngine he
  · exact h.same.modComp

theorem freeEngine_lt {e : Nat} (h : s.freeEngine = some e) : e < 128 := by
  have := List.mem_range.1 (List.mem_of_find?_eq_some h)
  omega

theorem Kept.giveEngines (h : Kept m s₀ s) : Kept m s₀ s.giveEngines := by
  unfold State.giveEngines
  refine h.each fun _ _ ht => ht.each fun _ _ hu => hu.each fun _ _ hw => Kept.ite hw ?_
  split
  · next free => exact (hw.assign fun _ => freeEngine_lt free).perhaps fun hu => hu.logEvent
  · exact hw

theorem Kept.releaseEngines (h : Kept m s₀ s) {k : Nat} : Kept m s₀ (s.releaseEngines k) := by
  refine Kept.giveEngines (Kept.eachIn h.same fun t e he ht => ?_)
  have low : Nat.blt e 0x80 = true := (List.mem_filter.1 he).2
  exact ht.unbindLayers.idleEngine fun _ => Nat.le_of_ble_eq_true low

theorem Kept.closeGuards (h : Kept m s₀ s) {f : Guard → Bool} : Kept m s₀ (s.closeGuards f) := h.same.each fun _ _ ht => Kept.ite ht ht.modInst

theorem Kept.enter (h : Kept m s₀ s) {k : Nat} {x : OutState} : Kept m s₀ (s.enter k x) := h.same.wr (by
  unfold Held MuxWord
  simp only [Obj.OUT_STATE, Obj.RST_READY_TIME]
  omega)

theorem Kept.enterAll (h : Kept m s₀ s) {g : Nat} {x : OutState} : Kept m s₀ (s.enterAll g x) := h.each fun _ _ ht => ht.enter

theorem Kept.endStopped (h : Kept m s₀ s) {g : Nat} : Kept m s₀ (s.endStopped g) := h.each fun _ _ ht => ht.finish

theorem Kept.endRaster (h : Kept m s₀ s) {g : Nat} : Kept m s₀ (s.endRaster g) :=
  (h.endStopped.releaseEngines.closeGuards.mapInsts (f := fun x => { x with awaitFlip := x.awaitFlip.filter _ }) rfl).same

theorem Kept.freePages (h : Kept m s₀ s) {j : Nat} : Kept m s₀ (s.freePages j) := h.same.same

theorem Kept.settleRevokes (h : Kept m s₀ s) : Kept m s₀ s.settleRevokes := h.each fun _ _ ht => Kept.ite ht.same ht.same.finish

theorem Kept.settleDestroys (h : Kept m s₀ s) : Kept m s₀ s.settleDestroys :=
  h.each fun _ _ ht => Kept.ite ht (ht.same.each fun _ _ hu => hu.finish)

theorem Kept.writeReport (h : Kept m s₀ s) {j : Job} : Kept m s₀ (s.writeReport j) := Kept.ite h h.store

theorem Kept.loseTargets (h : Kept m s₀ s) {d : BitVec 512} : Kept m s₀ (s.loseTargets d) :=
  Kept.ite h (h.each fun _ _ ht => (Kept.ite ht.forgetBytes ht).perhaps fun hu => hu.forgetBytes)

theorem Kept.endJob (h : Kept m s₀ s) {j : Job} {status detail : Nat} : Kept m s₀ (s.endJob j status detail) :=
  (Kept.ite h.writeReport h).freePages.same.same.complete.settleRevokes.settleDestroys.each fun _ _ ht => ht.releaseIfFree

theorem Kept.failJob (h : Kept m s₀ s) {j : Job} {status detail : Nat} : Kept m s₀ (s.failJob j status detail) :=
  (Kept.ite h.loseTargets h).tallyCount.endJob.logInjected

theorem not_held_session {n : Nat} (hn : n < 8) {a : Nat} (ha : a ∈ State.slotShown n) : ¬Held m a := by
  unfold Held MuxWord
  simp only [State.slotShown, Obj.SESS_STATE, Obj.SESS_SOURCE, Obj.SESS_CRED, Obj.SESS_OPENED, Obj.SESS_OUTSTANDING, List.mem_cons, List.not_mem_nil,
    or_false] at ha
  simp only [Obj.RST_READY_TIME]
  omega

theorem Kept.countTxns (h : Kept m s₀ s) {ch : Nat} : Kept m s₀ (s.countTxns ch) := by
  unfold State.countTxns
  split
  · next session => exact h.wr (not_held_session (State.lt_of_isSession session) (by simp [State.slotShown]))
  · exact h

theorem Kept.clearSlot (h : Kept m s₀ s) {n : Nat} (hn : n < 8) : Kept m s₀ (s.clearSlot n) := by
  have free : ∀ a ∈ State.slotShown n, ¬Held m a := fun _ ha => not_held_session hn ha
  exact ((((h.wr (free _ (by simp [State.slotShown]))).wr (free _ (by simp [State.slotShown]))).wr (free _ (by simp [State.slotShown]))).wr
    (free _ (by simp [State.slotShown]))).wr (free _ (by simp [State.slotShown]))

theorem Kept.freeSession (h : Kept m s₀ s) {n : Nat} (hn : n < 8) : Kept m s₀ (s.freeSession n) := h.same.clearSlot hn

theorem Kept.closeSession (h : Kept m s₀ s) {n reason : Nat} (hn : n < 8) : Kept m s₀ (s.closeSession n reason) := by
  unfold State.closeSession
  split
  · exact h
  · exact (h.same.freeSession hn).perhaps fun hu => hu.logEvent

theorem Kept.sendOn (h : Kept m s₀ s) {n op tid status : Nat} {body : List (BitVec 8)} {keep : Option Nat} (hn : n < 8) :
    Kept m s₀ (s.sendOn n op tid status body keep) := by
  unfold State.sendOn
  split
  · exact h
  · exact Kept.ite (h.closeSession hn) h.same.same

theorem Kept.windowDone (h : Kept m s₀ s) {o op tid status : Nat} {body : List (BitVec 8)} : Kept m s₀ (s.windowDone o op tid status body) :=
  Kept.perhaps (Kept.same h.modInst) fun hu => hu.same

theorem Kept.respond (h : Kept m s₀ s) {ch : Nat} {t : LdpTxn} {status : Nat} {body : List (BitVec 8)} : Kept m s₀ (s.respond ch t status body) := by
  refine Kept.ite h ?_
  split
  · next session => exact h.same.countTxns.tallyCount.sendOn (State.lt_of_isSession session)
  · exact h.same.countTxns.tallyCount.windowDone

theorem Kept.answerLate (h : Kept m s₀ s) {rq : Requester} {addr code : Nat} : Kept m s₀ (s.answerLate rq addr code) := by
  unfold State.answerLate
  split
  · exact h.respond
  · split
    · exact Kept.ite h.same h
    · exact h.same

theorem Kept.setGen (h : Kept m s₀ s) {g : Nat} {x : Generator} : Kept m s₀ (s.setGen g x) := h.same.wr <| not_held (by decide) fun _ => by
  unfold MuxWord
  decide

theorem Kept.chimeEnds (h : Kept m s₀ s) {g : Nat} {r : ChimeRun} {result : Nat} : Kept m s₀ (s.chimeEnds g r result) := h.setGen.logEvent

theorem Kept.failJobs (h : Kept m s₀ s) {p : Job → Bool} : Kept m s₀ (s.failJobs p).1 := by
  unfold State.failJobs
  refine (h.each fun _ _ ht => ?_).fst
  split
  · exact ht.failJob
  · exact ht

theorem Kept.failAudio (h : Kept m s₀ s) : Kept m s₀ s.failAudio.1 := by
  unfold State.failAudio
  refine (((h.each fun _ _ ht => ?_).each fun _ _ ht => ht.same).each fun _ _ ht => ht.same).fst
  split
  · exact ht.chimeEnds
  · exact ht

theorem Kept.failRaster (h : Kept m s₀ s) {k : Nat} : Kept m s₀ (s.failRaster k).1 :=
  Kept.fst_ite h ((h.each fun _ _ ht => ht.finish).same.endRaster.enterAll.each fun _ _ ht => ht.coastIfLead).fst

/-! ## Outputs that start, and the boot intents -/

theorem Kept.evict (h : Kept false s₀ s) {n : Nat} : Kept false s₀ (s.evict n) := by
  unfold State.evict
  extract_lets x
  split
  · exact h
  · exact Kept.logEvent (Kept.logEvent (h.same))

theorem Kept.evictUntil (h : Kept false s₀ s) {want : Nat} {l : List Nat} : Kept false s₀ (s.evictUntil want l) := by
  induction l generalizing s with
  | nil => exact h
  | cons n l ih => exact Kept.ite h (ih h.evict)

/-- The moves of R72's second step only mark outputs as moving. -/
theorem Kept.movesRun {m m' : Moves} (h : Kept false s₀ m.s) {needs : List Need} {l : List Mover} (run : m.run needs l = some m') : Kept false s₀ m'.s := by
  induction l generalizing m with
  | nil =>
    unfold Moves.run at run
    split at run
    · exact Option.some.inj run ▸ h
    · cases run
  | cons c l ih =>
    unfold Moves.run at run
    dsimp only at run
    split at run
    · exact Option.some.inj run ▸ h
    · split at run
      · cases run
      · split at run
        · cases run
        · refine ih ?_ run
          exact h.same

theorem Kept.backOutput (h : Kept false s₀ s) {needs : List Need} {format priority latency : Nat} {next : Bool} {r : State × List Nat × List Nat}
    (backed : s.backOutput needs format priority latency next = some r) : Kept false s₀ r.1 := by
  unfold State.backOutput at backed
  dsimp only at backed
  split at backed
  · cases backed
  next m run =>
    split at backed
    · cases backed
    · obtain rfl := Option.some.inj backed
      exact (Kept.movesRun (m := ⟨_, [], []⟩) h.evictUntil run).each fun _ _ ht => Kept.ite ht.same ht.same.logEvent

theorem Kept.markDramFed (h : Kept false s₀ s) {k : Nat} {b : Bool} : Kept false s₀ (s.markDramFed k b) := (h.wrBit (not_held (by decide))).wrBit

theorem Kept.switchDram (h : Kept false s₀ s) {k : Nat} : Kept false s₀ (s.switchDram k) := by
  unfold State.switchDram
  dsimp only
  split
  · exact h
  · exact (Kept.ite h.same.markDramFed.logEvent h.same.markDramFed.logEvent.logEvent).same

theorem Kept.leaveDram (h : Kept false s₀ s) {k : Nat} : Kept false s₀ (s.leaveDram k) := by
  unfold State.leaveDram
  dsimp only
  split
  · exact h
  · exact h.same.markDramFed.logEvent

theorem Kept.freeBacking (h : Kept false s₀ s) {k : Nat} : Kept false s₀ (s.freeBacking k) :=
  Kept.ite h.same.markDramFed.same h.same.markDramFed.same.logEvent

theorem Kept.reassignBuffer (h : Kept false s₀ s) {k i : Nat} : Kept false s₀ (s.reassignBuffer k i) := by
  unfold State.reassignBuffer
  dsimp only
  split
  · exact h.same
  · exact h

theorem Kept.setHealth (h : Kept false s₀ s) {n : Nat} {x : Health} : Kept false s₀ (s.setHealth n x) := h.same

theorem Kept.failUnit (h : Kept false s₀ s) {n : Nat} : Kept false s₀ (s.failUnit n) := Kept.ite h h.setHealth

theorem Kept.startMigration (h : Kept false s₀ s) {n : Nat} : Kept false s₀ (s.startMigration n) := by
  unfold State.startMigration
  refine Kept.ite h ?_
  split
  · exact h
  · exact h.same.logEvent

theorem Kept.startMigrations (h : Kept false s₀ s) : Kept false s₀ s.startMigrations := Kept.ite h (h.each fun _ _ ht => ht.startMigration)

theorem Kept.moveTiles (h : Kept false s₀ s) {n : Nat} : Kept false s₀ (s.moveTiles n) := by
  unfold State.moveTiles
  refine h.each fun t x ht => Kept.ite ht ?_
  split
  · exact ht
  · exact ht.same

theorem Kept.copyDone (h : Kept false s₀ s) {n : Nat} : Kept false s₀ (s.copyDone n) := by
  unfold State.copyDone
  extract_lets x
  split
  · exact h
  · refine Kept.ite h (Kept.startMigrations ?_)
    have counted := h.wr (a := Obj.GRIP_MIGRATED_BYTES) (v := wrapAdd 64 (s.rd Obj.GRIP_MIGRATED_BYTES) x.bytes) (not_held (by decide))
    exact Kept.same (Kept.ite counted.moveTiles counted.same)

theorem Kept.cutover (h : Kept false s₀ s) {n : Nat} : Kept false s₀ (s.cutover n) := by
  unfold State.cutover
  dsimp only
  split
  · exact h
  · exact Kept.ite h h.same.logEvent

theorem Kept.cutoverAtLatch (h : Kept false s₀ s) {k : Nat} : Kept false s₀ (s.cutoverAtLatch k) := h.each fun _ _ ht => ht.cutover

theorem Kept.latchCritRects (h : Kept false s₀ s) {k : Nat} : Kept false s₀ (s.latchCritRects k) := Kept.ite h.same h

theorem Kept.latchScanMode (h : Kept false s₀ s) {k : Nat} : Kept false s₀ (s.latchScanMode k) := Kept.ite h (Kept.ite h.wrBit h.wrBit.same.wrBit.logEvent)

/-- Outputs are few: no output's colour status is RST_READY_TIME. -/
theorem not_held_colour {k : Nat} (hk : k < 64) : ¬Held false (Obj.OUT_COLOUR_STATUS k) := by
  refine not_held ?_
  simp only [Obj.OUT_COLOUR_STATUS, Obj.RST_READY_TIME]
  omega

theorem Kept.markColour (h : Kept false s₀ s) {k : Nat} (hk : k < 64) : Kept false s₀ (s.markColour k) :=
  (h.wrBit (not_held_colour hk)).wrBit (not_held_colour hk)

theorem Kept.latchColour (h : Kept false s₀ s) {k n : Nat} (hk : k < 64) : Kept false s₀ (s.latchColour k n) := by
  unfold State.latchColour
  dsimp only
  split
  · exact Kept.ite (Kept.wr h.same.same.same |>.markColour hk).logEvent (h.same.same.markColour hk)
  · exact h.same.same.markColour hk

theorem Kept.releaseSplit (h : Kept false s₀ s) {k : Nat} : Kept false s₀ (s.releaseSplit k) := by
  unfold State.releaseSplit
  dsimp only
  split
  · exact h.same.unbindLayers.idleEngine.logEvent
  · exact h.same

theorem Kept.endSplit (h : Kept false s₀ s) : Kept false s₀ s.endSplit.2 := by
  unfold State.endSplit
  split
  · exact h
  · exact Kept.snd_ite h.same.snd h.releaseSplit.snd

theorem Kept.bindHalf (h : Kept false s₀ s) {k half : Nat} : Kept false s₀ (s.bindHalf k half) := by
  unfold State.bindHalf
  refine Kept.ite h ?_
  split
  · exact Kept.ite (Kept.ite h.unbindLayers.idleEngine h).same (Kept.ite h.unbindLayers.idleEngine h).same.logEvent
  · refine Kept.ite ?_ (h.endSplit.logEvent.perhaps fun hu => hu.same)
    split
    · exact Kept.ite (h.endSplit.perhaps fun hu => hu.unbindLayers.idleEngine).same (h.endSplit.perhaps fun hu =>
        hu.unbindLayers.idleEngine).same.logEvent
    · exact h.endSplit.same

theorem Kept.decideSplit (h : Kept false s₀ s) {k est : Nat} : Kept false s₀ (s.decideSplit k est) := by
  unfold State.decideSplit
  refine Kept.ite h (Kept.ite (Kept.ite h.releaseSplit h) (Kept.ite h ?_))
  split
  · exact h.same.logEvent
  · exact h.logEvent

theorem Kept.rejectPart (h : Kept false s₀ s) {k : Nat} {f : Nat × Nat} {cs : List Commit} : Kept false s₀ (s.rejectPart k f cs) :=
  (h.count (not_held (by decide))).logEvent.each fun _ _ ht => ht.complete

theorem Kept.markSolid (h : Kept false s₀ s) {k : Nat} {ls : List (Nat × BitVec 512 × Nat)} (hk : k < 64) : Kept false s₀ (s.markSolid k ls) := by
  unfold State.markSolid
  split
  · exact Kept.ite (h.wrBit (not_held_colour hk)).logEvent (h.wrBit (not_held_colour hk))
  · exact h.wrBit (not_held_colour hk)

theorem Kept.injectEngine (h : Kept false s₀ s) {k e : Nat} : Kept false s₀ (s.injectEngine k e) := by
  unfold State.injectEngine
  dsimp only
  split
  · exact h.inject
  · exact h.inject.logInjected.perhaps fun hu => hu.failUnit

theorem Kept.startComposition (h : Kept false s₀ s) {k : Nat} {c : Composition} {atLatchPoint : Bool} :
    Kept false s₀ (s.startComposition k c atLatchPoint) :=
  (((Kept.ite h.decideSplit h).same.each fun _ _ ht => ht.bindHalf).same.each fun _ _ ht => Kept.ite ht.injectEngine ht).each fun _ _ ht => Kept.ite
    ht (Kept.ite (ht.bindHalf.perhaps fun hu => hu.assign) ht.assign)

/-- The members of a raster stand beside its governor. -/
theorem members_lt {k x : Nat} (hk : k < 63) (hx : x ∈ s.members k) : x < 64 := by
  unfold State.members at hx
  split at hx
  · rw [List.mem_cons, List.mem_singleton] at hx
    omega
  · rw [List.mem_singleton] at hx
    omega

theorem Kept.latchInto (h : Kept false s₀ s) {k : Nat} {cs : List Commit} {buffer : Nat} {atLatchPoint heldAnyway : Bool} (hk : k < 63) :
    Kept false s₀ (s.latchInto k cs buffer atLatchPoint heldAnyway) := by
  unfold State.latchInto
  extract_lets x prev shadow stale failN failC bad normal critical good keep layers t staleNow frame warned held last latched
  clear_value failN failC
  have hnormal : Kept false s₀ normal := by
    dsimp only [normal]
    split
    · exact h.rejectPart
    · exact h
  have hcritical : Kept false s₀ critical := by
    dsimp only [critical]
    split
    · exact hnormal.rejectPart
    · exact hnormal
  have ht : Kept false s₀ t := hcritical.same
  have hwarned : Kept false s₀ warned := ht.each fun _ _ hu => (hu.count (not_held (by decide))).logEvent
  have hheld : Kept false s₀ held := hwarned.perhaps fun hw => hw.each fun _ _ hu => hu.logEvent
  have hlatched : Kept false s₀ latched := by
    dsimp only [latched]
    split
    · exact hheld.eachIn fun _ _ hx hu => hu.latchColour (members_lt hk hx)
    · exact hheld
  exact .ite ht ((hlatched.each fun _ _ hu => hu.count.logEvent).markSolid (by omega)).nextOrder.startComposition

theorem Kept.latchOpportunity (h : Kept false s₀ s) {k line : Nat} {atLatchPoint : Bool} (hk : k < 63) : Kept false s₀ (s.latchOpportunity k line atLatchPoint) := by
  unfold State.latchOpportunity
  refine Kept.ite h ?_
  split
  · exact Kept.ite h.same h
  · exact Kept.ite h (h.latchInto hk)

theorem Kept.setPs (h : Kept false s₀ s) {p b : Nat} {v : Bool} : Kept false s₀ (s.setPs p b v) := h.wrBit

theorem Kept.train (h : Kept false s₀ s) {p : Nat} {list again : List LinkConfig} : Kept false s₀ (s.train p list again) :=
  Kept.ite h.same.setPs h.same.setPs.same

theorem Kept.startTraining (h : Kept false s₀ s) {p k : Nat} : Kept false s₀ (s.startTraining p k) := h.setPs.setPs.same.train.perhaps fun hu => hu.logEvent

theorem not_held_port {p : Nat} (hp : p < 14) : ¬Held false (Obj.PORT_LINK_NOW p) := by
  refine not_held ?_
  simp only [Obj.PORT_LINK_NOW, Obj.RST_READY_TIME]
  omega

theorem portOf_lt {k p : Nat} (h : s.portOf k = some p) : p < 14 := by
  unfold State.portOf at h
  dsimp only at h
  split at h
  · next low => exact Option.some.inj h ▸ low
  · cases h

theorem Kept.stopLink (h : Kept false s₀ s) {p : Nat} (hp : p < 14) : Kept false s₀ (s.stopLink p) :=
  (h.same.setPs.setPs.setPs.setPs.setPs.setPs.wr (not_held_port hp)).same

theorem Kept.setTotals (h : Kept false s₀ s) {k t : Nat} {i : OutIntent} : Kept false s₀ (s.setTotals k t i) := h.wr.wr

theorem Kept.setTiming (h : Kept false s₀ s) {g : Nat} {i : OutIntent} : Kept false s₀ (s.setTiming g i) := h.each fun _ _ ht => ht.wr.setTotals

theorem Kept.endShown (h : Kept false s₀ s) {g : Nat} : Kept false s₀ (s.endShown g) := by
  unfold State.endShown
  split
  · exact h
  · exact (h.each fun _ _ ht => ht.completeAt).same

theorem Kept.latchIntent (h : Kept false s₀ s) {g : Nat} : Kept false s₀ (s.latchIntent g) := by
  unfold State.latchIntent
  split
  · exact h
  · exact h.same.each fun _ _ ht => ht.setTotals

theorem Kept.latchMode (h : Kept false s₀ s) {g : Nat} : Kept false s₀ (s.latchMode g) := h.same.perhaps fun hu => hu.logEvent

theorem Kept.latchReturn (h : Kept false s₀ s) {g : Nat} : Kept false s₀ (s.latchReturn g) := Kept.ite (h.same.each fun _ _ ht => ht.leaveDram) h

theorem Kept.latchPoint (h : Kept false s₀ s) {g : Nat} (hg : g < 63) : Kept false s₀ (s.latchPoint g) := by
  unfold State.latchPoint
  dsimp only
  refine Kept.latchOpportunity ?_ hg
  split
  · exact ((h.endShown.same.latchIntent.latchMode.each fun _ _ ht => ht.latchCritRects.latchScanMode.switchDram).latchReturn.each fun _ _ ht =>
      ht.cutoverAtLatch).each fun _ _ ht => ht.reassignBuffer
  · exact (h.endShown.same.latchIntent.latchMode.each fun _ _ ht => ht.latchCritRects.latchScanMode.switchDram).latchReturn.each fun _ _ ht =>
      ht.cutoverAtLatch

theorem Kept.startPixel (h : Kept false s₀ s) {g : Nat} : Kept false s₀ (s.startPixel g) := (Kept.ite h h.wr.wr.wr.wr).each fun _ _ ht => ht.wr.wr.wr

theorem Kept.idlePlls (h : Kept false s₀ s) : Kept false s₀ s.idlePlls := h.each fun _ _ ht => Kept.ite ht ht.wr.wr.wr.wr

theorem Kept.stopPixel (h : Kept false s₀ s) {k : Nat} : Kept false s₀ (s.stopPixel k) := h.wr.idlePlls

theorem governor_le (s : State) (k : Nat) : s.governor k ≤ k := by
  unfold State.governor
  split <;> omega

theorem Kept.tryRaster (h : Kept false s₀ s) {k : Nat} (hk : k < 63) : Kept false s₀ (s.tryRaster k) :=
  Kept.ite h ((Kept.same (h.startPixel.each fun _ _ ht => ht.wr.wr)).latchPoint ((governor_le s k).trans_lt hk))

theorem Kept.finishIntents (h : Kept false s₀ s) : Kept false s₀ s.finishIntents := by
  unfold State.finishIntents
  dsimp only
  refine h.eachIn fun _ _ hx ht => ?_
  split
  · exact Kept.ite (ht.same.complete.tryRaster ((List.mem_range.1 hx).trans (by decide))) ht
  · exact ht

theorem Kept.allocate {t : State} (h : Kept false s₀ s) {g : Nat} {i : OutIntent} (allocated : s.allocate g i = some t) : Kept false s₀ t := by
  unfold State.allocate at allocated
  dsimp only at allocated
  split at allocated
  · exact Option.some.inj allocated ▸ h
  · split at allocated
    · cases allocated
    next backed =>
      refine Option.some.inj allocated ▸ Kept.same (Kept.each (h.backOutput backed) (l := _) (f := _) fun t x ht => ?_)
      exact Kept.ite ht.switchDram ht

theorem Kept.startOutput (h : Kept false s₀ s) {k : Nat} : Kept false s₀ (s.startOutput k) := by
  unfold State.startOutput
  dsimp only
  split
  · refine Kept.ite h (Kept.ite h.logEvent ?_)
    split
    · exact h.setTiming
    next allocated =>
      have placed := Kept.allocate h.setTiming allocated
      exact Kept.ite (Kept.logEvent (Kept.each placed.enter.wrBit fun _ _ ht => ht.setPs)) placed.enter.wrBit.startTraining
  · exact h

theorem Kept.startAll (h : Kept false s₀ s) {g : Nat} : Kept false s₀ (s.startAll g) := h.each fun _ _ ht => ht.startOutput

theorem Kept.stopMember (h : Kept false s₀ s) {k named cause : Nat} {next : OutState} : Kept false s₀ (s.stopMember k named cause next) := by
  unfold State.stopMember
  refine Kept.perhaps (Kept.stopPixel (Kept.enter (Kept.freeBacking ?_))) fun hu => hu.logEvent.coastIfLead
  split
  · next port => exact (h.stopLink (portOf_lt port)).setPs
  · exact h

theorem Kept.stopOutput (h : Kept false s₀ s) {k cause : Nat} {next : OutState} : Kept false s₀ (s.stopOutput k cause next) :=
  (h.endRaster.stopMember.each fun _ _ ht => Kept.ite ht.stopMember ht).reelReturn.finishIntents

theorem Kept.settleMoves (h : Kept false s₀ s) {k item : Nat} {moved own : List Nat} : Kept false s₀ (s.settleMoves k item moved own) := by
  unfold State.settleMoves
  extract_lets t wait
  have ht : Kept false s₀ t := h.each fun _ _ hu => .ite hu.switchDram hu
  clear_value t
  split
  · exact ht.finish
  · exact .ite ht.complete ht.same

theorem Kept.takeIntent (h : Kept false s₀ s) {k : Nat} {i : OutIntent} {r : State × List Nat × List Nat} (taken : s.takeIntent k i = some r) :
    Kept false s₀ r.1 := by
  unfold State.takeIntent at taken
  extract_lets x ms idle same needs renew next stopped freed timed at taken
  split at taken
  · split at taken
    · exact Kept.backOutput h.same taken
    · exact Option.some.inj taken ▸ h.same
  · have hstopped : Kept false s₀ stopped := Kept.ite h h.stopOutput
    have hfreed : Kept false s₀ freed := hstopped.each fun t m ht => by
      refine Kept.ite (Kept.enter ?_) ht.freeBacking
      split
      · next port => exact ht.freeBacking.stopLink (portOf_lt port)
      · exact ht.freeBacking
    split at taken
    · cases taken
    next backed =>
      refine Option.some.inj taken ▸ Kept.each (Kept.backOutput (Kept.setTiming hfreed.same) backed) fun t m ht => ?_
      exact Kept.ite ht.enter ht

theorem Kept.judgeIntent (h : Kept false s₀ s) {owner k : Nat} {i : OutIntent} {scanStatus : State → Nat → OutIntent → Nat}
    {r : State × List Nat × List Nat} (judged : (s.judgeIntent owner k i scanStatus).2 = some r) : Kept false s₀ r.1 := by
  unfold State.judgeIntent at judged
  split at judged
  · cases judged
  · dsimp only at judged
    split at judged
    · cases judged
    · split at judged
      · cases judged
      · split at judged
        · cases judged
        next taken => exact Option.some.inj judged ▸ h.takeIntent taken

theorem Kept.cutScans (h : Kept false s₀ s) {k : Nat} {i : OutIntent} : Kept false s₀ (s.cutScans k i) := by
  unfold State.cutScans
  dsimp only
  refine h.each fun _ _ ht => ?_
  split
  · exact ht
  · exact ht.same.perhaps fun hu => hu.logEvent

theorem Kept.submitBoot (h : Kept false s₀ s) {k : Nat} : Kept false s₀ (s.submitBoot k) := by
  unfold State.submitBoot
  extract_lets i
  refine Kept.ite h ?_
  split
  next judged => exact Kept.cutScans (Kept.startAll (Kept.settleMoves (Kept.same (h.judgeIntent (congrArg Prod.snd judged)))))
  · exact h.logEvent

end Sys2Proof.Machine
end

section
/-! The statement O54: multiplexers. -/
namespace Sys2Proof.Machine
open Sys2Proof

open State

section
variable {s : State}

theorem switch?_set (t : Tab MuxSwitch) (x : Nat) (w : MuxSwitch) : ((Tab.set t x w).find? (fun e => decide (e.1 = x))).map Prod.snd = some w := by
  rw [find?_set, if_pos rfl]
  rfl

theorem switch?_drop (t : Tab MuxSwitch) (x : Nat) : ((Tab.drop t x).find? (fun e => decide (e.1 = x))).map Prod.snd = none := by
  rw [find?_drop]
  rfl

theorem switch?_congr {t : State} (h : t.clocks = s.clocks) (x : Nat) : t.switch? x = s.switch? x := by rw [switch?, switch?, h]

theorem held_sel (x : Nat) : Held true (Obj.MUX_SEL x) := by
  refine .inr ⟨rfl, ?_⟩
  simp only [MuxWord, Obj.MUX_SEL]
  omega

theorem held_status (x : Nat) : Held true (Obj.MUX_STATUS x) := by
  refine .inr ⟨rfl, ?_⟩
  simp only [MuxWord, Obj.MUX_STATUS]
  omega

theorem sel_ne_status (x : Nat) : Obj.MUX_SEL x ≠ Obj.MUX_STATUS x := by
  simp only [Obj.MUX_SEL, Obj.MUX_STATUS]
  omega

/-! ## A switch that is asked for (R584) -/

section
variable {rq : Requester} {x : Fin 19} {v : Fin 256} (accepted : s.accepts rq (Obj.MUX_SEL x.val) v.val = true) (idle : s.switch? x.val = none)
  {src : ClockSource} (input : muxInput x.val v.val = some src)
include accepted idle input

theorem execMuxSel_begins (runs : s.sourceRuns src = true) (shut : 7 ≤ x.val → s.gateOpen (muxGate x.val) = false) :
    ∃ t, exec (.muxSel rq x v) s = .next t ∧ t.switch? x.val = some ⟨s.rd (Obj.MUX_SEL x.val), v.val, s.dtime, false, rq⟩ ∧
      t.rd (Obj.MUX_STATUS x.val) = 1 ∧ t.rd (Obj.MUX_SEL x.val) = s.rd (Obj.MUX_SEL x.val) ∧ s.objectsBut t [Obj.MUX_STATUS x.val] ∧ s.sameMemory t := by
  let u := s.modClocks (fun c => { c with switches := Tab.set c.switches x.val ⟨s.rd (Obj.MUX_SEL x.val), v.val, s.dtime, false, rq⟩ })
  let t := u.wr (Obj.MUX_STATUS x.val) 1
  have wrote : s.writeMuxSel rq x.val v.val = (none, t) := by
    unfold writeMuxSel
    rw [idle]
    dsimp only
    rw [input]
    dsimp only
    rw [if_neg (by rw [runs]; exact Bool.false_ne_true), if_neg (fun h => by rw [shut h.1] at h; exact Bool.false_ne_true h.2)]
  obtain ⟨r, row, passes⟩ := (s.accepts_iff rq _ _).1 accepted
  have run : exec (.muxSel rq x v) s = .next t := by
    refine congrArg Host.Outcome.next ?_
    rw [requestLater, row]
    dsimp only
    rw [if_pos passes, wrote]
  have edits : Edits [Obj.MUX_STATUS x.val] s t := Edits.wr (Edits.refl s).same
  refine ⟨t, run, ?_, rd_wr_same .., edits.obj _ (by simpa using sel_ne_status x.val), edits.frame⟩
  rw [switch?, wr_clocks]
  exact switch?_set ..

theorem execMuxSel_refuses (stopped : s.sourceRuns src = false) : exec (.muxSel rq x v) s = .next (s.answer rq Status.sourceStopped) := by
  have wrote : s.writeMuxSel rq x.val v.val = (some Status.sourceStopped, s) := by
    unfold writeMuxSel
    rw [idle]
    dsimp only
    rw [input]
    dsimp only
    rw [if_pos (by rw [stopped]; rfl)]
  refine congrArg Host.Outcome.next ((requestLater_accepted (c := Status.sourceStopped) s rq _ _ _ accepted (by rw [wrote]) (by decide)).trans ?_)
  rw [wrote]

end

/-! ## A switch that ends, or does not (R585) -/

/-- The new clock is connected: the switch is gone, and MUX_SEL names the clock. -/
structure Connected (s t : State) (x : Nat) (w : MuxSwitch) : Prop where
  sel : t.rd (Obj.MUX_SEL x) = w.new
  status : t.rd (Obj.MUX_STATUS x) = 0
  switches : t.switch? x = none

theorem Connected.kept {t u : State} {x : Nat} {w : MuxSwitch} (h : Connected s t x w) (kept : Kept true t u) : Connected s u x w :=
  ⟨(kept.words _ (held_sel x)).trans h.sel, (kept.words _ (held_status x)).trans h.status, (switch?_congr kept.clocks x).trans h.switches⟩

theorem connect_connects (s : State) (x : Nat) (w : MuxSwitch) : Connected s (s.connect x w) x w ∧ (s.connect x w).mem = s.mem := by
  let u := s.modClocks (fun c => { c with switches := Tab.drop c.switches x })
  let t := (u.wr (Obj.MUX_SEL x) w.new).wr (Obj.MUX_STATUS x) 0
  have connected : Connected s t x w := by
    refine ⟨?_, rd_wr_same .., ?_⟩
    · rw [rd_wr_other _ _ _ _ (sel_ne_status x), rd_wr_same]
    · rw [switch?, wr_clocks, wr_clocks]
      exact switch?_drop ..
  refine ⟨connected.kept (Kept.refl t).answerLate, ?_⟩
  have late : (t.answerLate w.who (Obj.MUX_SEL x) Status.ok).mem = t.mem := by
    unfold answerLate
    split
    · exact (respond_keeps ..).1.mem
    · split
      · split <;> rfl
      · rfl
  exact late

theorem showClocks_kept (s : State) : Kept true s s.showClocks ∧ s.showClocks.mem = s.mem := by
  have apart := showClocks_apart s
  refine ⟨⟨State.ext_clocks apart, State.ext_boot apart, State.ext_keys apart,
    fun o => congrArg (fun l => (Tab.get {} l o).seat) (State.ext_insts apart), fun a ha => (showClocks_edits s).obj a fun shown => ?_⟩,
    (showClocks_edits s).mem⟩
  have low : ∀ b ∈ clocksShown, b ≠ Obj.RST_READY_TIME ∧ ¬(0x71A000 ≤ b ∧ (b % 256 = 1 ∨ b % 256 = 2)) := by decide
  exact not_held (low a shown).1 (fun _ => (low a shown).2) ha

theorem execMuxSwitchDone_connects {x : Fin 19} {w : MuxSwitch} (pending : s.switch? x.val = some w) (old : s.inputRuns x.val w.old = true)
    (new : s.inputRuns x.val w.new = true) :
    ∃ t, exec (.muxSwitchDone x) s = .next t ∧ t.rd (Obj.MUX_SEL x.val) = w.new ∧ t.rd (Obj.MUX_STATUS x.val) = 0 ∧ t.switch? x.val = none ∧
      s.sameMemory t := by
  have run : exec (.muxSwitchDone x) s = .next (s.connect x.val w).showClocks := by
    change execMuxSwitchDone x s = _
    rw [execMuxSwitchDone, pending]
    dsimp only
    rw [old, new]
    rfl
  obtain ⟨connected, mem⟩ := connect_connects s x.val w
  obtain ⟨kept, shown⟩ := showClocks_kept (s.connect x.val w)
  obtain ⟨sel, status, switches⟩ := connected.kept kept
  exact ⟨_, run, sel, status, switches, byte_of_mem _ _ (shown.trans mem)⟩

theorem execMuxSwitchDone_waits {x : Fin 19} {w : MuxSwitch} (pending : s.switch? x.val = some w)
    (stopped : s.inputRuns x.val w.old = false ∨ s.inputRuns x.val w.new = false) : exec (.muxSwitchDone x) s = .next s := by
  change execMuxSwitchDone x s = _
  rw [execMuxSwitchDone, pending]
  dsimp only
  rw [if_neg]
  rcases stopped with stopped | stopped <;> simp [stopped]

theorem execSwitchStuck_tells {x : Fin 19} {w : MuxSwitch} (pending : s.switch? x.val = some w) (first : w.stuck = false)
    (late : w.since + 10000 ≤ s.dtime) :
    ∃ t, exec (.switchStuck x) s = .next t ∧ t.switch? x.val = some { w with stuck := true } ∧
      (s.log.fifo.length < 256 → t.told Ev.switchStuck noOwner [d8 x.val, d8 w.old, d8 w.new]) ∧ s.objectsBut t [Obj.LOG_LOST] ∧ s.sameMemory t := by
  let u := s.modClocks (fun c => { c with switches := Tab.set c.switches x.val { w with stuck := true } })
  have run : exec (.switchStuck x) s = .next (u.logEvent Ev.switchStuck noOwner [d8 x.val, d8 w.old, d8 w.new]) := by
    change execSwitchStuck x s = _
    rw [execSwitchStuck, pending]
    dsimp only
    rw [if_neg]
    rw [first]
    simp only [Bool.false_eq_true, false_or, not_lt]
    exact late
  refine ⟨_, run, ?_, fun room => told_logEvent _ _ _ _ room, (Edits.refl s).same.logEvent.frame⟩
  rw [switch?_congr (logEvent_clocks ..)]
  exact switch?_set ..

/-! ## A switch that is forced, and the release of what it holds (R586, R587) -/

/-- The multiplexers whose blocks a forced switch holds in reset are no part of a connection. -/
theorem Connected.hold {t : State} {x : Nat} {w : MuxSwitch} (h : Connected s t x w) (f : List Nat → List Nat) :
    Connected s (t.modClocks (fun c => { c with held := f c.held })) x w := ⟨h.sel, h.status, h.switches⟩

theorem holdBelow_kept (s : State) (x : Nat) :
    Kept true (s.modClocks (fun c => { c with held := x :: c.held.filter (fun y => !decide (y = x)) })) (s.holdBelow x) := by
  unfold holdBelow
  extract_lets u r
  refine Kept.logEvent ?_
  dsimp only [r]
  split
  · exact (Kept.refl u).failJobs
  · split
    · exact (Kept.refl u).failAudio
    · exact (Kept.refl u).failRaster

section
variable {rq : Requester} {x : Fin 19} {v : Fin 256} (straps : BitVec 16) (queued : List (Nat × Nat))
  (accepted : s.accepts rq (Obj.MUX_FORCE x.val) v.val = true) (asked : v.val ≠ 0)
include accepted asked

theorem execForceSel_refuses (idle : s.switch? x.val = none) :
    exec (.forceSel rq x v straps queued) s = .next (s.answer rq Status.forceNotPending) :=
  ownRequest_answers accepted (by rw [writeForce, if_neg asked, idle]) (by decide)

theorem execForceSel_forces {w : MuxSwitch} (pending : s.switch? x.val = some w) (below : x.val = 3 ∨ 6 ≤ x.val) :
    ∃ t, exec (.forceSel rq x v straps queued) s = .next t ∧ t.rd (Obj.MUX_SEL x.val) = w.new ∧ t.rd (Obj.MUX_STATUS x.val) = 0 ∧
      t.switch? x.val = none ∧ x.val ∈ t.clocks.held ∧ t.answered rq Status.ok := by
  have wrote : s.writeForce x.val v.val straps.toNat queued = (Status.ok, ((s.connect x.val w).holdBelow x.val).showClocks) := by
    rw [writeForce, if_neg asked, pending]
    dsimp only
    rw [if_neg (by omega), if_neg (by omega), if_neg (by omega)]
  obtain ⟨first, -⟩ := connect_connects s x.val w
  generalize s.connect x.val w = c at wrote first
  let u := c.modClocks (fun c => { c with held := x.val :: c.held.filter (fun y => !decide (y = x.val)) })
  have held : Connected s u x.val w := first.hold fun l => x.val :: l.filter (fun y => !decide (y = x.val))
  have kept : Kept true u (c.holdBelow x.val).showClocks := (holdBelow_kept c x.val).trans (showClocks_kept _).1
  generalize (c.holdBelow x.val).showClocks = t at wrote kept
  have connected : Connected s (t.answer rq Status.ok) x.val w := (held.kept kept).kept (Kept.refl t).same
  have holds : x.val ∈ t.clocks.held := by
    rw [kept.clocks]
    exact List.mem_cons_self
  exact ⟨_, ownRequest_answers accepted wrote (by decide), connected.sel, connected.status, connected.switches, by rwa [answer_clocks],
    answered_answer ..⟩

end

theorem execForceSelResetRelease_releases {x : Fin 19} (held : x.val ∈ s.clocks.held) :
    ∃ t, exec (.forceSelResetRelease x) s = .next t ∧ x.val ∉ t.clocks.held ∧ (x.val < 7 → { t with clocks := s.clocks } = s) := by
  let u := s.modClocks (fun c => { c with held := c.held.filter (fun y => !decide (y = x.val)) })
  have run : exec (.forceSelResetRelease x) s = .next (if 7 ≤ x.val then u.tryRaster (x.val - 7) else u) := by
    refine if_neg ?_
    simpa using held
  have free : x.val ∉ u.clocks.held := by
    change x.val ∉ s.clocks.held.filter (fun y => !decide (y = x.val))
    simp
  refine ⟨_, run, ?_, fun low => ?_⟩
  · split
    · rw [(Kept.tryRaster (Kept.refl u) (by omega)).clocks]
      exact free
    · exact free
  · rw [if_neg (by omega)]
    rfl

end

/-- Settles O54: a switch is begun, completed, told or forced by the equations above, and `Kept` carries the connection over what a forced one fails. -/
theorem multiplexersSwitch : Obligations.MultiplexersSwitch := by
  refine ⟨fun s rq x v accepted idle => ⟨fun src input runs shut => ?_, fun src input stopped => ?_⟩,
    fun s x w pending => ⟨fun old new => ?_, fun stopped => ?_, fun first late => ?_⟩,
    fun s rq x v straps queued accepted asked => ⟨fun idle => ?_, fun w pending below => ?_⟩, fun s x held => ?_⟩
  · exact execMuxSel_begins accepted idle input runs shut
  · exact execMuxSel_refuses accepted idle input stopped
  · exact execMuxSwitchDone_connects pending old new
  · exact execMuxSwitchDone_waits pending stopped
  · exact execSwitchStuck_tells pending first late
  · exact execForceSel_refuses straps queued accepted asked idle
  · exact execForceSel_forces straps queued accepted asked pending below
  · exact execForceSelResetRelease_releases held

end Sys2Proof.Machine
end

section
/-! SUPPORT, and the statement O58: resets, start-up and Gaffer's restart. -/
namespace Sys2Proof.Machine
open Sys2Proof

open State

section
variable {s : State}

/-! ## Power-on and cold resets (R609 to R612) -/

theorem get_filter (keep : Nat → Bool) (l : List (Nat × Nat)) (a : Nat) (ha : keep a = true) :
    Objs.get (l.filter (fun e => keep e.1)) a = Objs.get l a := by
  induction l with
  | nil => rfl
  | cons e l ih =>
    obtain ⟨b, v⟩ := e
    by_cases same : a = b
    · subst same
      simp [ha, Objs.get]
    · cases kept : keep b <;> simp [kept, Objs.get, same, ih]

/-- A reset keeps what the persistence table keeps. -/
theorem rd_afterReset (s : State) {kind a : Nat} (kept : keptAt kind a = true) : (s.afterReset kind).rd a = s.rd a := get_filter _ _ _ kept

/-- A power-on or cold reset: its cause, its first step, and what is gone and what is kept. -/
def Began (s t : State) (cause straps kind : Nat) : Prop :=
  t.rd Obj.RST_LAST_CAUSE = cause ∧ t.rd Obj.RST_LAST_KIND = kind ∧ t.rd Obj.RST_STRAPS = straps &&& 0x0F37 ∧ t.boot.stage = 1 ∧ t.mem = [] ∧
    t.items = [] ∧ t.jobs = [] ∧ t.grip = {} ∧ t.keys = [] ∧ t.ldp.sessions = [] ∧ t.dtime = 0 ∧ bit t.boot.strictHolds 0 = true ∧ t.pending = s.pending ∧
    (∀ a, keptAt kind a = true → a ≠ Obj.RST_LAST_CAUSE → a ≠ Obj.RST_LAST_KIND → a ≠ Obj.RST_STRAPS → a ≠ Obj.LOG_LOST → t.rd a = s.rd a)

theorem Began.answer {t : State} {cause straps kind : Nat} (h : Began s t cause straps kind) (rq : Requester) (st : Nat) :
    Began s (t.answer rq st) cause straps kind := h

/-- The state at the release of a power-on or cold reset, before its first record. -/
def released (s : State) (kind cause straps : Nat) : State :=
  ((((s.afterReset kind).wr Obj.RST_LAST_KIND kind).wr Obj.RST_LAST_CAUSE cause).wr Obj.RST_STRAPS (straps &&& 0x0F37)).modBoot
    (fun b => { b with measuring := firstSlot (straps &&& 0x0F37) })

theorem released_apart (s : State) (kind cause straps : Nat) : (released s kind cause straps).apart =
    ((s.afterReset kind).modBoot (fun b => { b with measuring := firstSlot (straps &&& 0x0F37) })).apart := rfl

theorem released_rd (s : State) (kind cause straps a : Nat) : (released s kind cause straps).rd a =
    if a = Obj.RST_STRAPS then straps &&& 0x0F37 else if a = Obj.RST_LAST_CAUSE then cause else if a = Obj.RST_LAST_KIND then kind
    else (s.afterReset kind).rd a := by
  rw [released, modBoot_rd, rd_wr, rd_wr, rd_wr]

theorem fullReset_begins (s : State) (kind cause straps : Nat) : Began s (s.fullReset kind cause straps) cause straps kind := by
  have apart : (s.fullReset kind cause straps).apart =
      ((s.afterReset kind).modBoot (fun b => { b with measuring := firstSlot (straps &&& 0x0F37) })).apart :=
    (apart_logEvent ..).trans (released_apart ..)
  have rd : ∀ a, a ≠ Obj.LOG_LOST → (s.fullReset kind cause straps).rd a = (released s kind cause straps).rd a := fun a ha => rd_logEvent _ _ _ _ _ ha
  have boot := State.ext_boot apart
  refine ⟨?_, ?_, ?_, congrArg Boot.stage boot, State.ext_mem apart, State.ext_items apart, State.ext_jobs apart, State.ext_grip apart,
    State.ext_keys apart, congrArg Ldp.sessions (State.ext_ldp apart), congrArg Clock.dtime (State.ext_clock apart), ?_, fullReset_pending .., ?_⟩
  · rw [rd _ (by decide), released_rd, if_neg (by decide), if_pos rfl]
  · rw [rd _ (by decide), released_rd, if_neg (by decide), if_neg (by decide), if_pos rfl]
  · rw [rd _ (by decide), released_rd, if_pos rfl]
  · rw [boot]
    change bit 1 0 = true
    decide
  · intro a kept cause' kind' straps' lost
    rw [rd _ lost, released_rd, if_neg straps', if_neg cause', if_neg kind', rd_afterReset s kept]

/-- The first record of a log. -/
theorem logEvent_mirror {code source : Nat} {ds : List Detail} (empty : s.log.mirror = []) (fresh : s.tally = []) :
    (s.logEvent code source ds).log.mirror.length ≤ 1 := by
  have entered : (s.logRaw code source false s.now s.dtime ds).log.mirror.length ≤ 1 ∧ (s.logRaw code source false s.now s.dtime ds).tally = [] := by
    unfold logRaw Log.enter
    dsimp only
    split
    · next l enters =>
      split at enters
      · cases enters
        simp [empty, fresh]
      · cases enters
    · next l enters =>
      split at enters
      · cases enters
      · cases enters
        simp [State.count, empty, fresh]
  obtain ⟨few, none⟩ := entered
  unfold logEvent logAt tallyRecord
  split
  · unfold tallyCount
    split
    · rw [none]
      exact few
    · exact few
  · exact few

theorem execPowerOnReset_begins (straps : BitVec 16) : ∃ t, exec (.powerOnReset straps) s = .next t ∧ Began s t 1 straps.toNat kindPowerOn ∧
    t.log.mirror.length ≤ 1 :=
  ⟨_, rfl, fullReset_begins s kindPowerOn 1 straps.toNat, logEvent_mirror (s := released s kindPowerOn 1 straps.toNat) rfl rfl⟩

theorem execResetPin_begins (free : s.heldInReset = false) (straps : BitVec 16) :
    ∃ t, exec (.resetPin straps) s = .next t ∧ Began s t 3 straps.toNat kindCold :=
  ⟨_, congrArg Host.Outcome.next (if_neg (by rw [free]; exact Bool.false_ne_true)), fullReset_begins ..⟩

theorem execResetPin_held (held : s.heldInReset = true) (straps : BitVec 16) : exec (.resetPin straps) s = .next s :=
  congrArg Host.Outcome.next (if_pos held)

theorem execColdRequest_begins {rq : Requester} (accepted : s.accepts rq Obj.RST_COLD_REQ 1 = true) (free : s.heldInReset = false) (straps : BitVec 16) :
    ∃ t, exec (.coldRequest rq 1 straps) s = .next t ∧ Began s t 6 straps.toNat kindCold := by
  have asked : s.writeColdReq 1 straps.toNat = (Status.ok, s.fullReset kindCold 6 straps.toNat) := by
    rw [writeColdReq, if_pos rfl, coldReset, if_neg (by rw [free]; exact Bool.false_ne_true)]
  exact ⟨_, ownRequest_answers accepted asked (by decide), (fullReset_begins ..).answer ..⟩

/-! ## Warm resets (R617, R618) -/

/-- The state a warm reset starts from: what the table keeps, and the memory below the watermark. -/
def warmBase (s : State) : State :=
  { s.afterReset kindWarm with
    clock := s.clock, memConf := s.memConf, keys := warmKeys s.keys
    mem := Memory.drop s.mem (fun a => !s.belowWatermark a)
    dram := { poisoned := s.dram.poisoned.filter (fun l => s.belowWatermark (64 * l)) }
    power := { s.power with exitCause := none }
    clocks := { runs := s.clocks.runs } }

/-- The state once the cause is told and the multiplexers are shown. -/
def warmShown (s : State) (cause : Nat) : State :=
  ((((warmBase s).wr Obj.RST_LAST_KIND kindWarm).wr Obj.RST_LAST_CAUSE cause).count Obj.RST_WARM_COUNT).each (List.range 19)
    (fun s x => s.wr (Obj.MUX_STATUS x) 0)

/-- The stage a warm reset starts at (R617). -/
def warmStage (s : State) : Nat := if decide (s.bitState = 5) then 7 else if decide (2 ≤ field (s.rd Obj.RST_STRAPS) 5 4) then 3 else 2

/-- The state at that stage. -/
def warmStaged (s : State) (cause : Nat) : State :=
  (warmShown s cause).modBoot (fun b => { b with
    stage := warmStage s, since := (warmShown s cause).dtime, measuring := firstSlot (s.rd Obj.RST_STRAPS), mgrPort := s.boot.mgrPort })

theorem warmReset_eq (s : State) (cause : Nat) : s.warmReset cause =
    (if decide (s.bitState = 5) then ((warmStaged s cause).wr Obj.BIT_STATE 5).wr Obj.BIT_BOOT_RESULT (s.rd Obj.BIT_BOOT_RESULT)
      else (warmStaged s cause).wr Obj.BIT_STATE 1).warmCoast := rfl

theorem each_apart {α : Type} {l : List α} {f : State → α → State} (h : ∀ t x, (f t x).apart = t.apart) (s : State) : (s.each l f).apart = s.apart :=
  each_keeps (fun t => t.apart = s.apart) l f s (fun t x ht => (h t x).trans ht) rfl

theorem modBoot_edits (os : List Nat) (s : State) (f : Boot → Boot) : Edits os s (s.modBoot f) := (Edits.refl s).same

theorem warmShown_keeps (s : State) (cause : Nat) : (warmShown s cause).apart = (warmBase s).apart ∧ (warmShown s cause).rd Obj.RST_LAST_KIND = kindWarm ∧
    (warmShown s cause).rd Obj.RST_LAST_CAUSE = cause := by
  refine ⟨(each_apart (fun _ _ => apart_wr ..) _).trans ((apart_wr ..).trans ((apart_wr ..).trans (apart_wr ..))), ?_⟩
  have edits : Edits ((List.range 19).map Obj.MUX_STATUS) ((((warmBase s).wr Obj.RST_LAST_KIND kindWarm).wr Obj.RST_LAST_CAUSE cause).count
      Obj.RST_WARM_COUNT) (warmShown s cause) := (Edits.refl _).eachIn fun _ _ hx hu => hu.wr (List.mem_map_of_mem hx)
  constructor
  · rw [edits.obj _ (by decide), rd_count, if_neg (by decide), rd_wr_other _ _ _ _ (by decide), rd_wr_same]
  · rw [edits.obj _ (by decide), rd_count, if_neg (by decide), rd_wr_same]

theorem warmCoast_keeps (s : State) : s.warmCoast.items = s.items ∧ s.warmCoast.jobs = s.jobs ∧ s.warmCoast.grip = s.grip ∧
    s.warmCoast.memConf = s.memConf ∧ s.warmCoast.mem = s.mem ∧ s.warmCoast.boot = s.boot ∧ Edits [Obj.SPK_STATUS, Obj.LOG_LOST] s s.warmCoast := by
  unfold warmCoast
  dsimp only
  generalize ({ s.clock with everLocked := false, coastFrame := true, linePs := 14814815, lastFire := none } : Clock) = c
  have coasts : Edits [Obj.SPK_STATUS, Obj.LOG_LOST] s (({ s with clock := c, dueSlots := [] } : State).setCoasting true) :=
    Edits.wrBit ((Edits.refl s).same.wrBit)
  have apart := apart_logEvent (({ s with clock := c, dueSlots := [] } : State).setCoasting true) Ev.coastStart noOwner [d8 4]
  exact ⟨(State.ext_items apart).trans rfl, (State.ext_jobs apart).trans rfl, (State.ext_grip apart).trans rfl, (State.ext_memConf apart).trans rfl,
    (State.ext_mem apart).trans rfl, (State.ext_boot apart).trans rfl, coasts.logEvent⟩

/-- A warm reset: its cause and stage, and what is gone and what is kept. -/
structure Warmed (s t : State) (cause : Nat) : Prop where
  kind : t.rd Obj.RST_LAST_KIND = kindWarm
  cause' : t.rd Obj.RST_LAST_CAUSE = cause
  stage : t.boot.stage = warmStage s
  items : t.items = []
  jobs : t.jobs = []
  grip : t.grip = {}
  memConf : t.memConf = s.memConf
  mem : t.mem = Memory.drop s.mem (fun a => !s.belowWatermark a)

theorem warmReset_warms (s : State) (cause : Nat) : Warmed s (s.warmReset cause) cause := by
  rw [warmReset_eq]
  obtain ⟨apart, kind, told⟩ := warmShown_keeps s cause
  generalize halted : (if decide (s.bitState = 5) then ((warmStaged s cause).wr Obj.BIT_STATE 5).wr Obj.BIT_BOOT_RESULT (s.rd Obj.BIT_BOOT_RESULT)
    else (warmStaged s cause).wr Obj.BIT_STATE 1) = u
  have same : u.apart = (warmStaged s cause).apart := by
    rw [← halted]
    split
    · exact (apart_wr ..).trans (apart_wr ..)
    · exact apart_wr ..
  have edits : Edits [Obj.BIT_STATE, Obj.BIT_BOOT_RESULT] (warmShown s cause) u := by
    rw [← halted]
    have staged : Edits [Obj.BIT_STATE, Obj.BIT_BOOT_RESULT] (warmShown s cause) (warmStaged s cause) := modBoot_edits ..
    exact .ite (Edits.wr staged.wr) staged.wr
  obtain ⟨items, jobs, grip, memConf, mem, boot, coasts⟩ := warmCoast_keeps u
  refine ⟨?_, ?_, ?_, ?_, ?_, ?_, ?_, ?_⟩
  · rw [coasts.obj _ (by decide), edits.obj _ (by decide), kind]
  · rw [coasts.obj _ (by decide), edits.obj _ (by decide), told]
  · rw [boot, State.ext_boot same, warmStaged, modBoot_boot]
  · rw [items, State.ext_items same, warmStaged, modBoot_items, State.ext_items apart]
    rfl
  · rw [jobs, State.ext_jobs same, warmStaged, modBoot_jobs, State.ext_jobs apart]
    rfl
  · rw [grip, State.ext_grip same, warmStaged, modBoot_grip, State.ext_grip apart]
    rfl
  · rw [memConf, State.ext_memConf same, warmStaged, modBoot_memConf, State.ext_memConf apart]
    rfl
  · rw [mem, State.ext_mem same, warmStaged, modBoot_mem, State.ext_mem apart]
    rfl

theorem byte_warmed {t : State} {cause : Nat} (h : Warmed s t cause) (a : Nat) : t.byte a = if s.belowWatermark a then s.byte a else State.reset.byte a := by
  rw [byte, h.mem, Memory.get_drop]
  cases below : s.belowWatermark a
  · rfl
  · rfl

theorem execWarmRequest_warms {rq : Requester} (accepted : s.accepts rq Obj.RST_WARM_REQ 1 = true) (free : s.heldInReset = false) :
    ∃ t, exec (.warmRequest rq 1) s = .next t ∧ t.rd Obj.RST_LAST_KIND = kindWarm ∧ t.rd Obj.RST_LAST_CAUSE = 7 ∧ t.answered rq Status.ok ∧
      t.boot.stage = (if s.bitState = 5 then 7 else if 2 ≤ field (s.rd Obj.RST_STRAPS) 5 4 then 3 else 2) ∧ t.items = [] ∧ t.jobs = [] ∧ t.grip = {} ∧
      t.pending = s.pending ∧ t.memConf = s.memConf ∧ (∀ a, t.byte a = if s.belowWatermark a then s.byte a else State.reset.byte a) := by
  have asked : s.writeWarmReq 1 = (Status.ok, s.warmReset 7) := by
    rw [writeWarmReq, if_pos ⟨rfl, by rw [free]; exact Bool.false_ne_true⟩]
  have run : exec (.warmRequest rq 1) s = .next ((s.warmReset 7).answer rq Status.ok) := ownRequest_answers accepted asked (by decide)
  have warm := warmReset_warms s 7
  have pending := warmReset_pending s 7
  generalize s.warmReset 7 = t at run warm pending
  have stage : t.boot.stage = (if s.bitState = 5 then 7 else if 2 ≤ field (s.rd Obj.RST_STRAPS) 5 4 then 3 else 2) := by
    rw [warm.stage]
    simp only [warmStage, decide_eq_true_eq]
  exact ⟨_, run, warm.kind, warm.cause', answered_answer .., stage, warm.items, warm.jobs, warm.grip, pending, warm.memConf,
    fun a => byte_warmed warm a⟩

/-! ## The image, and READY (R540, R613 to R615) -/

/-- A cold start reads the memory's configuration and the ports from the image; a warm one keeps them. -/
def imageRead (s : State) : State := if s.rd Obj.RST_LAST_KIND = kindWarm then s else s.readCold

/-- Training of the channels begins. -/
def trainAll (s : State) : State := s.each ((List.range 8).filter (fun m => bit s.memConf.channels m)) (fun s m => s.wr (Obj.MC_STATE m) 1)

theorem trainAll_trains {n : Nat} (hn : n < 8) (channel : bit s.memConf.channels n = true) : (trainAll s).rd (Obj.MC_STATE n) = 1 := by
  have listed : n ∈ (List.range 8).filter (fun m => bit s.memConf.channels m) := List.mem_filter.2 ⟨List.mem_range.2 hn, channel⟩
  refine each_reaches (P := fun t => t.rd (Obj.MC_STATE n) = 1) (f := fun s m => s.wr (Obj.MC_STATE m) 1) (x := n) (fun t => rd_wr_same ..) (fun t y ht => ?_) listed s
  rw [rd_wr]
  split
  · rfl
  · exact ht

theorem execImageLoaded_loads (stage : s.boot.stage = 4) (up : s.bitState = 3) :
    ∃ t, exec .imageLoaded s = .next t ∧ t.boot.stage = 5 ∧ t.pending = s.pending ∧
      (s.flash.newer = none → s.rd Obj.RST_LAST_KIND = kindWarm → ∀ m < 8, bit s.memConf.channels m = true → t.rd (Obj.MC_STATE m) = 1) := by
  have runs : ∃ u, exec .imageLoaded s = .next ((trainAll (imageRead u).modesInForce).modBoot (fun b => { b with stage := 5 })) ∧
      (s.flash.newer = none → u = s) := by
    change ∃ u, execImageLoaded s = _ ∧ _
    unfold execImageLoaded
    rw [if_neg (by simp [stage, up])]
    exact ⟨_, rfl, fun none => by rw [none]⟩
  obtain ⟨u, run, same⟩ := runs
  have kept : KeepsQueue s (execImageLoaded s) := execImageLoaded_keepsQueue s
  rw [show execImageLoaded s = _ from run, keepsQueue_next] at kept
  refine ⟨_, run, rfl, kept, fun none warm m hm channel => ?_⟩
  obtain rfl := same none
  rw [modBoot_rd, imageRead, if_pos warm]
  exact trainAll_trains hm channel

/-- Time and start-up stand as they stood. -/
structure Timed (s t : State) : Prop where
  clock : t.clock = s.clock
  boot : t.boot = s.boot

namespace Timed
variable {s₀ t u : State}

theorem same (h : Timed s₀ s) {objs dueSlots log io freeDrawn order items nextItem insts guards outs shadow colourActive lutBanks substUnchecked grip jobs
    mem memConf dram keys raster ports tally tallyOvf refusals mailboxes flash power dailies haps foley fronts keyBank cus ldp clocks pending} :
    Timed s₀ ⟨objs, s.clock, dueSlots, log, io, freeDrawn, order, items, nextItem, insts, guards, outs, shadow, colourActive, lutBanks, substUnchecked,
      grip, jobs, mem, memConf, dram, keys, raster, ports, tally, tallyOvf, refusals, mailboxes, s.boot, flash, power, dailies, haps, foley, fronts,
      keyBank, cus, ldp, clocks, pending⟩ := ⟨h.clock, h.boot⟩

theorem wr (h : Timed s₀ s) {a v : Nat} : Timed s₀ (s.wr a v) := h.same

theorem logEvent (h : Timed s₀ s) {code source : Nat} {ds : List Detail} : Timed s₀ (s.logEvent code source ds) :=
  ⟨(logEvent_clock ..).trans h.clock, (logEvent_boot ..).trans h.boot⟩

theorem ite {c : Prop} {_ : Decidable c} (ht : Timed s₀ t) (hu : Timed s₀ u) : Timed s₀ (if c then t else u) := by
  split <;> assumption

theorem each {α : Type} (h : Timed s₀ s) {l : List α} {f : State → α → State} (hf : ∀ t x, Timed s₀ t → Timed s₀ (f t x)) : Timed s₀ (s.each l f) :=
  each_keeps (Timed s₀) l f s hf h

theorem setHealth (h : Timed s₀ s) {n : Nat} {x : Health} : Timed s₀ (s.setHealth n x) := h.same

theorem checkLane (h : Timed s₀ s) {m r lane : Nat} {margin : Nat × Nat} : Timed s₀ (s.checkLane m r lane margin) := .ite h h.wr.logEvent

theorem startChannel (h : Timed s₀ s) {m : Nat} {t : ChannelTraining} : Timed s₀ (s.startChannel m t) := by
  unfold State.startChannel
  extract_lets trained lanes
  have ht : Timed s₀ trained := .ite h.wr.wr.logEvent h
  exact .ite (.wr (.ite ht ht.setHealth)) (.wr (ht.each fun _ _ hu => hu.checkLane))

theorem startSpareRank (h : Timed s₀ s) : Timed s₀ s.startSpareRank := by
  unfold State.startSpareRank
  refine .ite h ?_
  split
  · exact h.wr
  · exact h.wr.wr.wr

theorem startMemory (h : Timed s₀ s) {training : List ChannelTraining} : Timed s₀ (s.startMemory training) :=
  (h.each fun _ _ ht => ht.wr).startSpareRank.each fun _ _ ht => .ite ht.startChannel (.wr ht.setHealth)

theorem placeOwn (h : Timed s₀ s) : Timed s₀ s.placeOwn := by
  unfold State.placeOwn
  refine h.each fun _ _ ht => ?_
  split
  · exact ht.same
  · exact ht

theorem idlePlls (h : Timed s₀ s) : Timed s₀ s.idlePlls := h.each fun _ _ ht => .ite ht ht.wr.wr.wr.wr

end Timed

/-- The manager and its key are made. -/
def managed (p : State) : State := (p.loadKey 2 0x40).setInst 0x40 { state := .active, port := p.boot.mgrPort }

/-- Start-up stands at its last stage. -/
def atReady (p : State) : State := (managed p).idlePlls.modBoot (fun b => { b with stage := 6 })

/-- The time that start-up took, in microseconds. -/
def readyTime (p : State) : Nat := ((atReady p).dtime - (atReady p).boot.since) / 1000 % 2 ^ 32

/-- READY is told. -/
def readied (p : State) : State := ((atReady p).wr Obj.RST_READY_TIME (readyTime p)).logEvent Ev.ready noOwner [d32 (readyTime p)]

theorem execReady_runs (training : List ChannelTraining) (stage : s.boot.stage = 5) : exec (.ready training) s =
    .next ((readied (s.startMemory training).placeOwn).each (List.range 12) State.submitBoot) := by
  change execReady training s = _
  rw [execReady, if_neg (by simp [stage])]
  rfl

theorem managed_makes (p : State) : ((managed p).inst 0x40).seat = (.active, p.boot.mgrPort) ∧ (managed p).keySlot 2 = ⟨0x40, 1,
    wrapAdd 16 (p.keySlot 2).generation 1⟩ := by
  have seat : (managed p).inst 0x40 = { state := .active, port := p.boot.mgrPort } := (Tab.get_set ..).trans (if_pos rfl)
  exact ⟨congrArg Inst.seat seat, (Tab.get_set ..).trans (if_pos rfl)⟩

theorem managed_timed (p : State) : Timed p (managed p) := ⟨rfl, rfl⟩

theorem atReady_stands (p : State) : (atReady p).boot.stage = 6 ∧ ((atReady p).inst 0x40).seat = (.active, p.boot.mgrPort) ∧
    (atReady p).keySlot 2 = (managed p).keySlot 2 ∧ readyTime p = (p.dtime - p.boot.since) / 1000 % 2 ^ 32 := by
  obtain ⟨seat, -⟩ := managed_makes p
  have before := managed_timed p
  unfold readyTime atReady
  generalize managed p = k at seat before
  have idle : Kept false k k.idlePlls := (Kept.refl k).idlePlls
  have time : Timed k k.idlePlls := Timed.idlePlls ⟨rfl, rfl⟩
  generalize k.idlePlls = l at idle time
  have now : l.dtime = p.dtime := congrArg Clock.dtime (time.clock.trans before.clock)
  have since : l.boot.since = p.boot.since := congrArg Boot.since (time.boot.trans before.boot)
  refine ⟨rfl, (idle.seats 0x40).trans seat, congrArg (fun l => Tab.get ({} : KeySlot) l 2) idle.keys, ?_⟩
  rw [← now, ← since]
  rfl

theorem execReady_makes (training : List ChannelTraining) (stage : s.boot.stage = 5) :
    ∃ t, exec (.ready training) s = .next t ∧ t.boot.stage = 6 ∧ (t.inst 0x40).state = .active ∧ (t.inst 0x40).port = s.boot.mgrPort ∧
      (t.keySlot 2).owner = 0x40 ∧ (t.keySlot 2).state = 1 ∧ t.rd Obj.RST_READY_TIME = (s.dtime - s.boot.since) / 1000 % 2 ^ 32 := by
  have run := execReady_runs training stage
  have timed : Timed s (s.startMemory training).placeOwn := Timed.placeOwn (Timed.startMemory ⟨rfl, rfl⟩)
  generalize (s.startMemory training).placeOwn = p at run timed
  obtain ⟨six, active, loaded, elapsed⟩ := atReady_stands p
  have apart : (readied p).apart = (atReady p).apart := (apart_logEvent ..).trans (apart_wr ..)
  have told : (readied p).rd Obj.RST_READY_TIME = readyTime p := (rd_logEvent _ _ _ _ _ (by decide)).trans (rd_wr_same ..)
  have kept : Kept false (readied p) ((readied p).each (List.range 12) State.submitBoot) := (Kept.refl _).eachIn fun _ _ hx ht => ht.submitBoot
  generalize (readied p).each (List.range 12) State.submitBoot = t at run kept
  have seat : (t.inst 0x40).seat = (.active, s.boot.mgrPort) := by
    rw [kept.seats, ← timed.boot, ← active]
    exact congrArg (fun l => (Tab.get {} l 0x40).seat) (State.ext_insts apart)
  have key : t.keySlot 2 = ⟨0x40, 1, wrapAdd 16 (p.keySlot 2).generation 1⟩ := by
    rw [← (managed_makes p).2, ← loaded]
    exact congrArg (fun l => Tab.get ({} : KeySlot) l 2) (kept.keys.trans (State.ext_keys apart))
  refine ⟨t, run, ?_, congrArg Prod.fst seat, congrArg Prod.snd seat, by rw [key], by rw [key], ?_⟩
  · rw [kept.boot, State.ext_boot apart, six]
  · rw [kept.words _ (.inl rfl), told, elapsed, dtime, timed.clock, timed.boot, dtime]

/-! ## What start-up waits for (R615, R620) -/

theorem execHostLinkUp_links (hp : Fin 4) : ∃ t, exec (.hostLinkUp hp) s = .next t ∧ hp.val ∈ t.boot.links ∧ (∀ p ∈ s.boot.links, p ∈ t.boot.links) ∧
    { t with boot := s.boot } = s := by
  refine ⟨_, rfl, List.mem_cons_self, fun p hp' => ?_, rfl⟩
  by_cases same : p = hp.val
  · rw [same]
    exact List.mem_cons_self
  · exact List.mem_cons_of_mem _ (List.mem_filter.2 ⟨hp', by simpa using same⟩)

/-- The image that recovery is given, and its measurement begun. -/
def recovered (s : State) (length : Nat) : State := (s.wr Obj.BIT_STATE 1).modBoot (fun b => { b with recoveryLength := length })

theorem recovered_takes (s : State) (length : Nat) : (recovered s length).bitState = 1 ∧ (recovered s length).boot.recoveryLength = length ∧
    s.objectsBut (recovered s length) [Obj.BIT_STATE] ∧ s.sameMemory (recovered s length) :=
  ⟨by rw [bitState, recovered, modBoot_rd, rd_wr_same], rfl, (Edits.wr (Edits.refl s)).same.frame⟩

theorem waits_of_stage (waits : s.boot.stage = 3 ∨ s.boot.stage = 7) : (decide (s.boot.stage = 3) || decide (s.boot.stage = 7)) = true := by
  simpa using waits

theorem execTftpWrite_takes {length : Nat} (waits : s.boot.stage = 3 ∨ s.boot.stage = 7) (net : field (s.rd Obj.RST_STRAPS) 5 4 = 3)
    (short : length ≤ 2 ^ 25) : exec (.tftpWrite length) s = .next (recovered s length) := by
  refine congrArg Host.Outcome.next (if_neg ?_)
  rw [waits_of_stage waits]
  rintro (no | other | long)
  · exact Bool.false_ne_true no
  · exact other net
  · exact long.not_ge short

theorem execTftpWrite_ignored {length : Nat} (other : field (s.rd Obj.RST_STRAPS) 5 4 ≠ 3) : exec (.tftpWrite length) s = .next s :=
  congrArg Host.Outcome.next (if_pos (.inr (.inl other)))

theorem execRecoveryGo_takes {length : BitVec 26} (waits : s.boot.stage = 3 ∨ s.boot.stage = 7) (page : field (s.rd Obj.RST_STRAPS) 5 4 = 2) :
    exec (.recoveryGo 0 length) s = .next (recovered s length.toNat) := by
  have go : s.writeRecoveryGo 0 length.toNat = recovered s (length.toNat % 2 ^ 26) := by
    refine if_neg ?_
    rw [waits_of_stage waits]
    rintro (no | no | other)
    · exact no rfl
    · exact Bool.false_ne_true no
    · exact other page
  rw [Nat.mod_eq_of_lt length.isLt] at go
  exact congrArg Host.Outcome.next go

/-! ## Gaffer restarts (R619, R620) -/

/-- A session that is gone stays gone. -/
theorem closeSession_gone (n reason : Nat) {k : Nat} (gone : s.session? k = none) : (s.closeSession n reason).session? k = none := by
  have dropped : (s.ldp.sessions.filter (fun e => !decide (e.1 = n))).find? (fun e => decide (e.1 = k)) = none := by
    have none' : s.ldp.sessions.find? (fun e => decide (e.1 = k)) = none := by simpa [State.session?] using gone
    rw [List.find?_eq_none] at none' ⊢
    exact fun e he => none' e (List.mem_of_mem_filter he)
  cases open' : s.session? n with
  | none =>
    rw [closeSession, open']
    exact gone
  | some x =>
    have sessions : (s.closeSession n reason).ldp.sessions = s.ldp.sessions.filter (fun e => !decide (e.1 = n)) := by
      unfold closeSession
      rw [open']
      dsimp only
      split
      · rw [logEvent_ldp]
        rfl
      · rfl
    rw [State.session?, sessions, dropped]
    rfl

theorem closeSession_none (s : State) (n reason : Nat) : (s.closeSession n reason).session? n = none := by
  cases open' : s.session? n with
  | none => exact closeSession_gone n reason open'
  | some x => exact (closeSession_closes open' reason).none

theorem closeSessions_closes (s : State) (reason : Nat) : (∀ n < 8, (s.closeSessions reason).session? n = none) ∧ Kept false s (s.closeSessions reason) ∧
    (∀ a, Obj.SESS_OUTSTANDING 7 < a → a ≠ Obj.LOG_LOST → (s.closeSessions reason).rd a = s.rd a) ∧
    (s.closeSessions reason).mem = s.mem ∧ (∀ r ∈ s.log.fifo, r ∈ (s.closeSessions reason).log.fifo) := by
  refine ⟨fun n hn => ?_, (Kept.refl s).eachIn fun _ _ hx ht => ht.closeSession (List.mem_range.1 hx), fun a above lost => ?_, ?_, ?_⟩
  · exact each_reaches (P := fun t => t.session? n = none) (f := fun s n => s.closeSession n reason) (x := n) (fun t => closeSession_none t n reason)
      (fun t y ht => closeSession_gone y reason ht) (List.mem_range.2 hn) s
  · refine eachIn_keeps (P := fun t => t.rd a = s.rd a) (fun t x hx ht => ?_) rfl
    have low := List.mem_range.1 hx
    refine (rd_closeSession ?_ lost t reason).trans ht
    simp only [Obj.SESS_OUTSTANDING] at above ⊢
    omega
  · exact each_keeps (fun t => t.mem = s.mem) _ _ _ (fun t n ht => (closeSession_keeps t n reason).1.mem.trans ht) rfl
  · exact each_keeps (fun t => ∀ r ∈ s.log.fifo, r ∈ t.log.fifo) _ _ _ (fun t n ht r hr => (closeSession_keeps t n reason).1.fifo r (ht r hr))
      fun r hr => hr

/-- Gaffer is restarted for a cause. -/
structure GafferRestarted (s t : State) (cause : Nat) : Prop where
  stage : t.boot.stage = 8
  start : t.boot.gafT0 = some s.dtime
  mark : t.boot.gafMark = s.nextItem
  count : t.rd Obj.RST_GAF_RESTARTS = wrapAdd 32 (s.rd Obj.RST_GAF_RESTARTS) 1
  closed : ∀ n < 8, t.session? n = none
  told : s.log.fifo.length < 256 → t.told Ev.gafferRestartStart noOwner [dCase Ev.gafferRestartStart cause] = true
  memory : s.sameMemory t

theorem gafferRestart_restarts (runs : s.boot.stage = 6) (few : (s.boot.gafRestarts.filter (fun t => Nat.blt s.dtime (t + 60000000000))).length < 3)
    (cause : Nat) : GafferRestarted s (s.gafferRestart cause false) cause := by
  let recent := s.boot.gafRestarts.filter (fun t => Nat.blt s.dtime (t + 60000000000))
  let u := (s.count Obj.RST_GAF_RESTARTS).modBoot (fun b => { b with
    stage := 8, gafT0 := some s.dtime, gafRestarts := recent ++ [s.dtime], gafMark := s.nextItem })
  let v := u.logInjected Ev.gafferRestartStart noOwner false [dCase Ev.gafferRestartStart cause]
  have eq : s.gafferRestart cause false = v.closeSessions closeRestart := (if_neg (by simp [runs])).trans (if_neg few.not_ge)
  have boot : v.boot = u.boot := logInjected_boot ..
  have counted : v.rd Obj.RST_GAF_RESTARTS = wrapAdd 32 (s.rd Obj.RST_GAF_RESTARTS) 1 := by
    rw [rd_logInjected _ _ _ _ _ _ (by decide), modBoot_rd, rd_count, if_pos rfl]
  have told : s.log.fifo.length < 256 → v.told Ev.gafferRestartStart noOwner [dCase Ev.gafferRestartStart cause] = true :=
    fun room => told_logInjected _ _ _ _ _ room
  have mem : v.mem = s.mem := (logInjected_mem ..).trans rfl
  obtain ⟨closed, kept, rd, memory, fifo⟩ := closeSessions_closes v closeRestart
  rw [eq]
  have final := kept.boot.trans boot
  exact ⟨congrArg Boot.stage final, congrArg Boot.gafT0 final, congrArg Boot.gafMark final, (rd _ (by decide) (by decide)).trans counted, closed,
    fun room => told_of _ _ _ _ _ (told room) fifo, byte_of_mem _ _ (memory.trans mem)⟩

theorem gafferRestart_warms (runs : s.boot.stage = 6) (many : 3 ≤ (s.boot.gafRestarts.filter (fun t => Nat.blt s.dtime (t + 60000000000))).length)
    (cause : Nat) : s.gafferRestart cause false = s.warmReset 8 := (if_neg (by simp [runs])).trans (if_pos many)

theorem execRstGafRestartReq_runs {rq : Requester} (accepted : s.accepts rq Obj.RST_GAF_RESTART_REQ 1 = true) :
    exec (.rstGafRestartReq rq 1) s = .next ((s.gafferRestart 2 false).answer rq Status.ok) :=
  ownRequest_answers accepted (by rw [writeGafRestart]; rfl) (by decide)

theorem GafferRestarted.answer {t : State} {cause : Nat} (h : GafferRestarted s t cause) (rq : Requester) (st : Nat) :
    GafferRestarted s (t.answer rq st) cause :=
  ⟨h.stage, h.start, h.mark, (answer_rd ..).trans h.count, h.closed, h.told, h.memory⟩

theorem failFirmware_kept (s : State) : Kept false s s.failFirmware := by
  unfold failFirmware
  extract_lets ids t
  have finished : Kept false s t := (Kept.refl s).each fun _ _ ht => ht.finish
  exact finished.same

theorem abortWindows_kept (s : State) : Kept false s s.abortWindows := (Kept.refl s).each fun _ _ ht => ht.same.respond

theorem execGafferRestartDone_runs (waits : s.boot.stage = 8) (up : s.bitState = 3) (copied : Bool) :
    ∃ t, exec (.gafferRestartDone true copied) s = .next t ∧ t.boot.stage = 6 ∧ t.boot.gafT0 = none ∧ t.boot.guardSkips = [] := by
  have runs : ∃ us skips, exec (.gafferRestartDone true copied) s = .next
      ((((s.modBoot (fun b => { b with stage := 6, gafT0 := none, guardSkips := [] })).logEvent Ev.gafferRestartDone noOwner [d32 us, dFlag copied]).each
        skips (fun s k => s.logEvent Ev.guardSkipped noOwner [d8 k, d32 (s.rd (Obj.OUT_FRAME_COUNT k))])).failFirmware.abortWindows) :=
    ⟨_, _, (if_neg (by simp [waits, up])).trans (if_neg (by decide))⟩
  obtain ⟨us, skips, run⟩ := runs
  let u := s.modBoot (fun b => { b with stage := 6, gafT0 := none, guardSkips := [] })
  have logged : Kept false u ((u.logEvent Ev.gafferRestartDone noOwner [d32 us, dFlag copied]).each skips
      (fun s k => s.logEvent Ev.guardSkipped noOwner [d8 k, d32 (s.rd (Obj.OUT_FRAME_COUNT k))])) := (Kept.refl u).logEvent.each fun _ _ ht => ht.logEvent
  have boot := ((logged.trans (failFirmware_kept _)).trans (abortWindows_kept _)).boot
  exact ⟨_, run, congrArg Boot.stage boot, congrArg Boot.gafT0 boot, congrArg Boot.guardSkips boot⟩

theorem execGafferRestartDone_fails (waits : s.boot.stage = 8) (up : s.bitState = 3) (copied : Bool) :
    exec (.gafferRestartDone false copied) s = .next (s.warmReset 8) := (if_neg (by simp [waits, up])).trans (if_pos rfl)

end

/-- Settles O58: the full reset is `Began`, the warm one `Warmed`, a restart of Gaffer `GafferRestarted`; `Kept` carries start-up over the boot intents. -/
theorem resetsAndStartUp : Obligations.ResetsAndStartUp := by
  refine ⟨⟨fun s straps => ⟨?_, fun free => ?_, fun held => ?_, fun rq accepted free => ?_⟩, fun s rq accepted free => ?_⟩,
    fun s stage up => ?_, fun s training stage => ?_, fun s hp => ?_, fun s length waits net short => ?_, fun s length other => ?_,
    fun s length waits page => ?_, fun s runs few => ⟨?_, ?_, fun rq accepted => ?_⟩, fun s runs many => ?_, fun s waits up copied => ⟨?_, ?_⟩⟩
  · exact execPowerOnReset_begins straps
  · exact execResetPin_begins free straps
  · exact execResetPin_held held straps
  · exact execColdRequest_begins accepted free straps
  · exact execWarmRequest_warms accepted free
  · exact execImageLoaded_loads stage up
  · exact execReady_makes training stage
  · exact execHostLinkUp_links hp
  · exact ⟨_, execTftpWrite_takes waits net short, recovered_takes s length⟩
  · exact execTftpWrite_ignored other
  · exact ⟨_, execRecoveryGo_takes waits page, recovered_takes s length.toNat⟩
  · obtain ⟨stage, start, mark, count, closed, told, memory⟩ := gafferRestart_restarts runs few 1
    exact ⟨_, rfl, stage, start, mark, count, closed, told, memory⟩
  · obtain ⟨stage, start, mark, count, closed, told, memory⟩ := gafferRestart_restarts runs few 4
    exact ⟨_, rfl, stage, start, mark, count, closed, told, memory⟩
  · obtain ⟨stage, start, mark, count, closed, told, memory⟩ := (gafferRestart_restarts runs few 2).answer rq Status.ok
    exact ⟨_, execRstGafRestartReq_runs accepted, ⟨stage, start, mark, count, closed, told, memory⟩, answered_answer ..⟩
  · have warm := warmReset_warms s 8
    exact ⟨_, congrArg Host.Outcome.next (gafferRestart_warms runs many 1), warm.cause', warm.kind⟩
  · exact execGafferRestartDone_runs waits up copied
  · have warm := warmReset_warms s 8
    exact ⟨_, execGafferRestartDone_fails waits up copied, warm.cause', warm.kind⟩

end Sys2Proof.Machine
end
